-- ==== Sys2Proof/Word.lean ====
section
/-! DEFINITION. The word types of the model. Registers and Gweny words are 32 bits (R16, R77), a byte is 8 bits,
and 64-bit values are pairs of registers (R16). -/

namespace Sys2Proof

/-- A register, or a Gweny word: 32 bits (R16). -/
abbrev Word := BitVec 32

/-- A byte of memory. -/
abbrev Byte := BitVec 8

/-- A 16-bit status or return code (R30), or an immediate. -/
abbrev Half := BitVec 16

/-- A 64-bit value, held by two consecutive registers (R16). -/
abbrev Long := BitVec 64

end Sys2Proof
end

