-- ==== Sys2Proof/Syntax.lean ====
section
/-! DEFINITION. The commands the block takes from outside: one constructor per row of the spec's table of operations and
events. -/

namespace Sys2Proof

/-- A received fleet frame's header (R321) with what the receiver measured: the key index it names, the slot it came in (sub-slot for a
contention frame), whether its CRC and MIC verify, its level after combining, and the levels at FLANT0 and FLANT1, in dBm. -/
structure FleetHdr where
  domain : Half
  type   : Fin 4
  key    : Fin 2
  src    : Byte
  sfn    : Word
  slot   : Fin 64
  ident  : Word
  crcOk  : Bool
  micOk  : Bool
  level  : Word
  rx0    : Word := 0
  rx1    : Word := 0
  deriving DecidableEq, Repr

/-- The records of a beacon (R326): domain state, bitmaps of owned and held slots, quotas (module, quota), successors, CACKs (sub-slot,
low IDENT), grants (IDENT, slot, epoch, code), departures (module, IDENT), directory entries (module, role, epoch), and the coordinator's time state, its
CLK_TIME_UNC in µs and the member count. -/
structure BeaconMsg where
  pri     : Fin 16
  chan    : Fin 5
  mcs     : Fin 6
  keyIdx  : Fin 2
  keyIn   : Half
  chanIn  : Half
  chanTo  : Fin 5
  map     : Long
  held    : Long
  quotas  : List (Fin 64 × Half)
  succ    : List (Fin 64)
  cacks   : List (Fin 12 × Half)
  grants  : List (Word × Fin 64 × Half × Half)
  departs : List (Fin 64 × Word)
  dir     : List (Fin 64 × Byte × Half)
  tstate  : Fin 4 := 0
  tunc    : Half := 0
  members : Byte := 0
  deriving DecidableEq, Repr

/-- A record of a member-slot frame (R336) other than segments, which come as SEGMENT_RECEIVE. -/
inductive FleetRec where
  | role (l : List (Byte × Half))
  | leave
  | obs (base : Bool)
  | unload (w : List Word)
  | ack (source : Fin 64) (tag seg : Byte)
  | telem (d : List Byte)
  | unknown (type : Byte)
  deriving DecidableEq, Repr

/-- A segment of a fleet request or response (R343). -/
structure FleetSeg where
  rsp   : Bool
  tag   : Byte
  dest  : Byte
  role  : Byte
  kind  : Byte
  epoch : Half
  idx   : Byte
  cnt   : Byte
  total : Half
  code  : Half
  data  : List Byte
  deriving DecidableEq, Repr

/-- A read of a register: its address and its width of 8, 16 or 32 bits (0 to 2). -/
structure RegRead where
  addr : Word
  size : Fin 3
  deriving DecidableEq, Repr

/-- What a time solution rests on (R40): satellites and constellations used, the verdict of the integrity check, and whether every ephemeris is held. -/
structure TimeBasis where
  sats : Byte
  cons : Byte
  raim : Bool
  eph  : Bool
  deriving DecidableEq, Repr

/-- The current that an input draws, in µA. -/
structure InputDraw where
  n  : Fin 48
  ua : Word
  deriving DecidableEq, Repr

/-- A sample of a piezo envelope, `off` DTB cycles into the tick. -/
structure EnvSample where
  env : Half
  off : Fin 8192
  deriving DecidableEq, Repr

/-- A sensor supply that has been at `mv` mV for `us` µs. -/
structure SupplyMeas where
  n  : Fin 4
  mv : Word
  us : Word
  deriving DecidableEq, Repr

/-- A local minimum of a boost phase's filtered current, in steps from the phase's start, with the rise before it above it and the rise after it, in mA. -/
structure CurrentDip where
  at_    : Option (Fin 65536)
  before : Half
  after  : Half
  deriving DecidableEq, Repr

/-- A load-switch current that reached `peak` (10 mA) and has lasted `dur`. -/
structure LswOver where
  peak : Half
  dur  : Half
  deriving DecidableEq, Repr

/-- What a load-switch test measured: the current in 10 mA, and whether the clamp conducted. -/
structure LswTestMeas where
  cur     : Half
  clamped : Bool
  deriving DecidableEq, Repr

/-- A panel rail (0 VDDIO to 3 ELVSS) that has been at a voltage and a current for 1 ms. -/
structure RailMeas where
  rail : Fin 4
  mv   : Half
  ma   : Half
  deriving DecidableEq, Repr

/-- A host-protocol datagram's header (R399) with what the receiver finds: the source, the session, the host's tag, the counter, and whether
the MIC verifies. -/
structure VhpHdr where
  src  : Word
  sess : Half
  tag  : Half
  ctr  : Long
  mic  : Bool
  deriving DecidableEq, Repr


/-- The commands of the block: one constructor per row of the operation and event table. Each docstring names the row and
its rule; the operands are what the environment supplies (a register value, a pin, measured data, a received message). -/
inductive Instr where
  /-- TICK (R10). -/
  | tick (si : BitVec 8) (lat : List (Fin 62 × Word × List Word)) (gnss : List Word) (meas : List (Word × Word))
  /-- MAJOR_FRAME_BOUNDARY (R126). -/
  | majorFrameBoundary (refs : BitVec 6) (bat : Half)
  /-- CARRIER_PERIOD_START (R12). -/
  | carrierPeriodStart (b : Fin 8) (sub : Fin 500) (full : Fin 16) (mean : List Half)
  /-- TARGET_NOT_REACHED (R413). -/
  | targetNotReached (n : Fin 32)
  /-- REGISTER_WRITE (R18). -/
  | registerWrite (init : Fin 58) (addr : BitVec 40) (size : Fin 3) (v : Word)
  /-- LOW_WORD_READ_LATCH (R16). -/
  | lowWordReadLatch (init : Fin 58) (rd : RegRead)
  /-- RC_FIELD_READ (R7). -/
  | rcFieldRead (init : Fin 58) (addr : Word)
  /-- W1C_CLEAR (R4). -/
  | w1cClear (init : Fin 58) (addr v : Word)
  /-- FABRIC_ENTRY_FREED (R22). -/
  | fabricEntryFreed (arrive : List (Fin 58 × BitVec 40 × Bool)) (freed : Fin 58)
  /-- BULK_AGE_PROMOTION (R24). -/
  | bulkAgePromotion (init : Fin 58)
  /-- RESPONSE_TIMEOUT (R28). -/
  | responseTimeout (init : Fin 58) (addr : BitVec 40)
  /-- PLL_LOSS_OF_LOCK (R35). -/
  | pllLossOfLock
  /-- TIME_SOLUTION (R40). -/
  | timeSolution (gps : Long) (sigma : Word) (basis : TimeBasis)
  /-- DT_STEP (R40). -/
  | dtStep
  /-- HOLDOVER_ENTRY (R42). -/
  | holdoverEntry
  /-- HOLD_LIM_EXCEEDED (R42). -/
  | holdLimExceeded
  /-- DT_SET (R43). -/
  | dtSet (init : Fin 58) (hi : Word)
  /-- STEER_CFG_APPLY (R42). -/
  | steerCfgApply
  /-- STREAM_SAMPLE (R50). -/
  | streamSample (n : Fin 24) (arr sens : Long)
  /-- STREAM_ENABLE (R50). -/
  | streamEnable (n : Fin 24) (period : Half)
  /-- STREAM_REANCHOR (R50). -/
  | streamReanchor (n : Fin 24)
  /-- MODE_REQUEST (R55). -/
  | modeRequest (v : Word)
  /-- MODE_CHECK (R56). -/
  | modeCheck (ack : Bool)
  /-- MODE_COMMIT_AFTER_RAMP (R56). -/
  | modeCommitAfterRamp
  /-- HEARTBEAT_LOSS (R61). -/
  | heartbeatLoss
  /-- SPEED_CONTRIBUTION_LIFT (R461). -/
  | speedContributionLift (k : Fin 8)
  /-- SAF_HB_WRITE (R461). -/
  | safHbWrite (v : Word)
  /-- RESET_REQ_ASSERT (R65). -/
  | resetReqAssert (us : Word) (held : Bool)
  /-- RESET_REQ_STUCK (R65). -/
  | resetReqStuck
  /-- RESET_REQ_REARM (R65). -/
  | resetReqRearm
  /-- POWER_APPLIED (R71). -/
  | powerApplied (bad : List (Byte × Half)) (badParts : List (Byte × Byte))
  /-- BOOT_COMPLETE (R70). -/
  | bootComplete (res cap : Half) (failed : Option (Fin 16))
  /-- RESERVE_TIMEOUT (R72). -/
  | reserveTimeout
  /-- KEEP_CHANNEL_TIMEOUT (R63). -/
  | keepChannelTimeout
  /-- APP_WATCHDOG_EXPIRY (R64). -/
  | appWatchdogExpiry
  /-- WATCHDOG_REFRESH (R64). -/
  | watchdogRefresh
  /-- HOST_FULL_RESET (R62). -/
  | hostFullReset
  /-- APP_RESET (R64). -/
  | appReset
  /-- WAKE_IN_FALL (R66). -/
  | wakeInFall
  /-- STANDBY_DELAY_EXPIRY (R67). -/
  | standbyDelayExpiry
  /-- STATIONARY_STANDBY (R66). -/
  | stationaryStandby
  /-- STANDBY_CANCEL (R67). -/
  | standbyCancel
  /-- WAKE_IN_WAKE (R68). -/
  | wakeInWake (aon : Long)
  /-- CAN_SELECTIVE_WAKE (R381). -/
  | canSelectiveWake (c : Fin 6) (id : Word) (dlc : Fin 16) (data : List Byte) (err : Bool) (aon : Long)
  /-- AON_TIMER_WAKE (R68). -/
  | aonTimerWake (aon : Long)
  /-- POWER_FAIL (R73). -/
  | powerFail (mv res : Half)
  /-- THERMAL_SHUTDOWN (R75). -/
  | thermalShutdown
  /-- THERMAL_RECOVERY_RESET (R75). -/
  | thermalRecoveryReset
  /-- DEBUG_RESET (R62). -/
  | debugReset
  /-- ADD (R99). -/
  | add (u : Fin 10) (rd rs1 rs2 : Fin 32)
  /-- SUB (R99). -/
  | sub (u : Fin 10) (rd rs1 rs2 : Fin 32)
  /-- AND (R99). -/
  | and (u : Fin 10) (rd rs1 rs2 : Fin 32)
  /-- OR (R99). -/
  | or (u : Fin 10) (rd rs1 rs2 : Fin 32)
  /-- XOR (R99). -/
  | xor (u : Fin 10) (rd rs1 rs2 : Fin 32)
  /-- SHL (R99). -/
  | shl (u : Fin 10) (rd rs1 rs2 : Fin 32)
  /-- SHR (R99). -/
  | shr (u : Fin 10) (rd rs1 rs2 : Fin 32)
  /-- SRA (R99). -/
  | sra (u : Fin 10) (rd rs1 rs2 : Fin 32)
  /-- MUL (R99). -/
  | mul (u : Fin 10) (rd rs1 rs2 : Fin 32)
  /-- MIN (R99). -/
  | min (u : Fin 10) (rd rs1 rs2 : Fin 32)
  /-- MAX (R99). -/
  | max (u : Fin 10) (rd rs1 rs2 : Fin 32)
  /-- CMP (R99). -/
  | cmp (u : Fin 10) (rs1 rs2 : Fin 32)
  /-- ADDI (R99). -/
  | addi (u : Fin 10) (rd rs1 : Fin 32) (imm : BitVec 16)
  /-- ANDI (R99). -/
  | andi (u : Fin 10) (rd rs1 : Fin 32) (imm : BitVec 16)
  /-- ORI (R99). -/
  | ori (u : Fin 10) (rd rs1 : Fin 32) (imm : BitVec 16)
  /-- XORI (R99). -/
  | xori (u : Fin 10) (rd rs1 : Fin 32) (imm : BitVec 16)
  /-- SHLI (R99). -/
  | shli (u : Fin 10) (rd rs1 sh : Fin 32)
  /-- SHRI (R99). -/
  | shri (u : Fin 10) (rd rs1 sh : Fin 32)
  /-- SRAI (R99). -/
  | srai (u : Fin 10) (rd rs1 sh : Fin 32)
  /-- LUI (R99). -/
  | lui (u : Fin 10) (rd : Fin 32) (imm : BitVec 16)
  /-- FADD (R100). -/
  | fadd (u : Fin 10) (rd rs1 rs2 : Fin 32)
  /-- FSUB (R100). -/
  | fsub (u : Fin 10) (rd rs1 rs2 : Fin 32)
  /-- FMUL (R100). -/
  | fmul (u : Fin 10) (rd rs1 rs2 : Fin 32)
  /-- FDIV (R100). -/
  | fdiv (u : Fin 10) (rd rs1 rs2 : Fin 32)
  /-- FMIN (R84). -/
  | fmin (u : Fin 10) (rd rs1 rs2 : Fin 32)
  /-- FMAX (R84). -/
  | fmax (u : Fin 10) (rd rs1 rs2 : Fin 32)
  /-- FABS (R100). -/
  | fabs (u : Fin 10) (rd rs1 : Fin 32)
  /-- FNEG (R100). -/
  | fneg (u : Fin 10) (rd rs1 : Fin 32)
  /-- FSQRT (R100). -/
  | fsqrt (u : Fin 10) (rd rs1 : Fin 32)
  /-- FCMP (R100). -/
  | fcmp (u : Fin 10) (rs1 rs2 : Fin 32)
  /-- FCVTSW (R100). -/
  | fcvtsw (u : Fin 10) (rd rs1 : Fin 32)
  /-- FCVTWS (R84). -/
  | fcvtws (u : Fin 10) (rd rs1 : Fin 32)
  /-- FMA (R100). -/
  | fma (u : Fin 10) (rd rs1 rs2 rs3 : Fin 32)
  /-- FCLAMP (R100). -/
  | fclamp (u : Fin 10) (rd rs1 rs2 rs3 : Fin 32)
  /-- LW (R101). -/
  | lw (u : Fin 10) (rd rs1 : Fin 32) (imm : BitVec 16)
  /-- SW (R101). -/
  | sw (u : Fin 10) (rd rs1 : Fin 32) (imm : BitVec 16)
  /-- LV (R101). -/
  | lv (u : Fin 10) (vd : Fin 8) (rs1 : Fin 32) (imm : BitVec 16)
  /-- SV (R101). -/
  | sv (u : Fin 10) (vd : Fin 8) (rs1 : Fin 32) (imm : BitVec 16)
  /-- PMV (R106). -/
  | pmv (u : Fin 10) (rs1 : Fin 32) (imm : BitVec 16)
  /-- PRISM_COMPLETE (R107). -/
  | prismComplete (u : Fin 10)
  /-- BEQ (R101). -/
  | beq (u : Fin 10) (rs1 rs2 : Fin 32) (off : BitVec 16)
  /-- BNE (R101). -/
  | bne (u : Fin 10) (rs1 rs2 : Fin 32) (off : BitVec 16)
  /-- BLT (R101). -/
  | blt (u : Fin 10) (rs1 rs2 : Fin 32) (off : BitVec 16)
  /-- BGE (R101). -/
  | bge (u : Fin 10) (rs1 rs2 : Fin 32) (off : BitVec 16)
  /-- BLTU (R101). -/
  | bltu (u : Fin 10) (rs1 rs2 : Fin 32) (off : BitVec 16)
  /-- BGEU (R101). -/
  | bgeu (u : Fin 10) (rs1 rs2 : Fin 32) (off : BitVec 16)
  /-- BFS (R101). -/
  | bfs (u : Fin 10) (n : Fin 16) (off : BitVec 16)
  /-- BFC (R101). -/
  | bfc (u : Fin 10) (n : Fin 16) (off : BitVec 16)
  /-- J (R101). -/
  | j (u : Fin 10) (off : BitVec 26)
  /-- JAL (R101). -/
  | jal (u : Fin 10) (off : BitVec 26)
  /-- JR (R101). -/
  | jr (u : Fin 10) (rs1 : Fin 32) (imm : BitVec 16)
  /-- IN (R93). -/
  | inPort (u : Fin 10) (rd rs1 : Fin 32) (imm : BitVec 16)
  /-- INQ (R94). -/
  | inq (u : Fin 10) (rd rs1 : Fin 32) (imm : BitVec 16)
  /-- OUT (R95). -/
  | out (u : Fin 10) (rd rs1 : Fin 32) (imm : BitVec 16)
  /-- VIN (R101). -/
  | vin (u : Fin 10) (vd : Fin 8) (rs1 : Fin 32) (imm : BitVec 16)
  /-- VADD (R102). -/
  | vadd (u : Fin 10) (vd va vb : Fin 8)
  /-- VSUB (R102). -/
  | vsub (u : Fin 10) (vd va vb : Fin 8)
  /-- VMUL (R102). -/
  | vmul (u : Fin 10) (vd va vb : Fin 8)
  /-- VFMA (R102). -/
  | vfma (u : Fin 10) (vd va vb : Fin 8)
  /-- VMIN (R102). -/
  | vmin (u : Fin 10) (vd va vb : Fin 8)
  /-- VMAX (R102). -/
  | vmax (u : Fin 10) (vd va vb : Fin 8)
  /-- VCLAMP (R102). -/
  | vclamp (u : Fin 10) (vd va vb : Fin 8)
  /-- VBCAST (R102). -/
  | vbcast (u : Fin 10) (vd : Fin 8) (rs1 : Fin 32)
  /-- VEXT (R102). -/
  | vext (u : Fin 10) (rd : Fin 32) (va : Fin 8) (rs2 : Fin 32)
  /-- VINS (R102). -/
  | vins (u : Fin 10) (vd : Fin 8) (rs1 rs2 : Fin 32)
  /-- VRED (R102). -/
  | vred (u : Fin 10) (rd : Fin 32) (va : Fin 8)
  /-- VDOT (R102). -/
  | vdot (u : Fin 10) (rd : Fin 32) (va vb : Fin 8)
  /-- NOP (R103). -/
  | nop (u : Fin 10)
  /-- ENDS (R79). -/
  | ends (u : Fin 10)
  /-- TRAP (R103). -/
  | trap (u : Fin 10) (n : Fin 32)
  /-- CSRR (R82). -/
  | csrr (u : Fin 10) (rd n : Fin 32)
  /-- CSRW (R82). -/
  | csrw (u : Fin 10) (n rs1 : Fin 32)
  /-- PWAIT (R103). -/
  | pwait (u : Fin 10)
  /-- INTEG (R111). -/
  | integ (u : Fin 10) (rd rs1 rs2 rs3 : Fin 32)
  /-- RELAY (R115). -/
  | relay (u : Fin 10) (rd rs1 rs2 : Fin 32)
  /-- PLAUS (R118). -/
  | plaus (u : Fin 10) (rd rs1 rs2 rs3 : Fin 32)
  /-- BUDGET_TRAP (R121). -/
  | budgetTrap (u : Fin 10)
  /-- DELIVERED_WRITE_FAULT (R92). -/
  | deliveredWriteFault (loop : Fin 128) (addr : BitVec 40) (kind : Fin 4)
  /-- LOOP_LOAD (R131). -/
  | loopLoad (e : Fin 8) (loop : Fin 128) (win : Fin 128)
  /-- LOAD_COPY_COMPLETE (R131). -/
  | loadCopyComplete (loop : Fin 128) (fault : Bool)
  /-- LOOP_START (R133). -/
  | loopStart (e : Fin 8) (loop : Fin 128)
  /-- LOOP_STOP (R140). -/
  | loopStop (e : Fin 8) (loop : Fin 128)
  /-- LOOP_DISABLE (R142). -/
  | loopDisable (e : Fin 8) (loop : Fin 128)
  /-- LOOP_DISABLE_DONE (R142). -/
  | loopDisableDone (loop : Fin 128)
  /-- LOOP_UNLOAD (R144). -/
  | loopUnload (e : Fin 8) (loop : Fin 128)
  /-- ENGINE_REMOVE (R153). -/
  | engineRemove (e : Fin 8) (key : Half)
  /-- REMOVE_COMPLETE (R153). -/
  | removeComplete (e : Fin 8)
  /-- ENGINE_RETURN (R154). -/
  | engineReturn (e : Fin 8) (key : Half)
  /-- MARCH_TEST_END (R154). -/
  | marchTestEnd (e : Fin 8) (pass : Bool)
  /-- MIGRATE_MOVE (R146). -/
  | migrateMove (e dest : Fin 8) (loop : Fin 128)
  /-- MIGRATE_REPLACE (R150). -/
  | migrateReplace (e dest : Fin 8) (loop : Fin 128) (budget : Half)
  /-- REPLACE_FETCH_COMPLETE (R147). -/
  | replaceFetchComplete (loop : Fin 128) (fault : Bool)
  /-- MIGRATION_CUT (R147). -/
  | migrationCut (loop : Fin 128)
  /-- MIGRATION_COPY_COMPLETE (R147). -/
  | migrationCopyComplete (loop : Fin 128)
  /-- ROUTE_READ (R135). -/
  | routeRead
  /-- ROUTE_WRITE (R138). -/
  | routeWrite
  /-- SPARE_DESIGNATE (R152). -/
  | spareDesignate (eng : Fin 16)
  /-- TILE_UE (R155). -/
  | tileUe (e : Fin 8) (addr : Fin 262144)
  /-- ENGINE_HANG (R155). -/
  | engineHang (e : Fin 8)
  /-- ENG_EVAC (R156). -/
  | engEvac (e : Fin 8)
  /-- INPUT_EDGE (R163). -/
  | inputEdge (n : Fin 48) (open_ : Bool) (v : Half) (off : Fin 8192)
  /-- INPUT_FAULT (R164). -/
  | inputFault (u : Fin 60)
  /-- INPUT_OK (R164). -/
  | inputOk (u : Fin 60)
  /-- I25_OVERCURRENT (R161). -/
  | i25Overcurrent (d : InputDraw)
  /-- FREQ_EDGE_TIMEOUT (R161). -/
  | freqEdgeTimeout (n : Fin 48)
  /-- LOS_IMPACT (R167). -/
  | losImpact (n : Fin 8) (env : Half) (off : Fin 8192)
  /-- LOS_REARM (R167). -/
  | losRearm (n : Fin 8) (x : EnvSample)
  /-- REFERENCE_FAULT (R173). -/
  | referenceFault (g : Fin 6)
  /-- SUPPLY_CURRENT_TRIP (R170). -/
  | supplyCurrentTrip (m : SupplyMeas)
  /-- SUPPLY_BATTERY_SHORT (R170). -/
  | supplyBatteryShort (m : SupplyMeas)
  /-- SUPPLY_RESTART (R170). -/
  | supplyRestart (n : Fin 4)
  /-- OPEN_TEST (R174). -/
  | openTest (n : Fin 48)
  /-- SUPPLY_TEST (R174). -/
  | supplyTest (n : Fin 4)
  /-- BRIDGE_TEST (R174). -/
  | bridgeTest (n : Fin 4)
  /-- PIEZO_TEST (R174). -/
  | piezoTest (n : Fin 8)
  /-- IMU_TEST (R174). -/
  | imuTest
  /-- SENSE_TEST_START (R175). -/
  | senseTestStart
  /-- SENSE_TEST_END (R174). -/
  | senseTestEnd (pass : Bool)
  /-- BAND_CHANGE (R189). -/
  | bandChange
  /-- GOVHOLD_SET (R186). -/
  | govholdSet
  /-- REFERENCE_MESSAGE (R188). -/
  | referenceMessage (e : Fin 64)
  /-- MF_ENABLE (R199). -/
  | mfEnable (n : Fin 30)
  /-- MF_ENABLE_START (R199). -/
  | mfEnableStart (n : Fin 30)
  /-- MF_DISABLE (R200). -/
  | mfDisable (n : Fin 30)
  /-- MF_DISABLE_ISSUE (R200). -/
  | mfDisableIssue (n : Fin 30)
  /-- MF_DISABLE_DONE (R200). -/
  | mfDisableDone (n : Fin 30)
  /-- MF01_HOLD_ZERO (R197). -/
  | mf01HoldZero
  /-- YIELD_RECORD_STORE (R224). -/
  | yieldRecordStore (e : Fin 64)
  /-- ANTENNA_FAULT (R227). -/
  | antennaFault (a : Fin 2) (draw ma : Half)
  /-- CH_ALLOC_APPLY (R229). -/
  | chAllocApply
  /-- RTCM_FRAME (R241). -/
  | rtcmFrame (typ : Fin 4096) (crcOk : Bool)
  /-- BASE_MOVED (R242). -/
  | baseMoved (off : Fin 8192)
  /-- BASE_POSITION_WRITE (R242). -/
  | basePositionWrite (x y z : Long)
  /-- NEIGHBOUR_EPOCH (R246). -/
  | neighbourEpoch (k : Fin 8) (rec : List Byte) (epoch : Long) (own : Word) (slotEnd : Long) (vec sol : List Word)
  /-- NEIGHBOUR_CONFIG (R248). -/
  | neighbourConfig (k : Fin 8) (en : Bool) (module : Fin 64)
  /-- GNSS_RESTART (R239). -/
  | gnssRestart (eph : Fin 64) (alm : Bool)
  /-- AID_WRITE (R239). -/
  | aidWrite (isPos : Bool) (unc : Word)
  /-- PPS_EDGE (R250). -/
  | ppsEdge (b : Long)
  /-- PATH_SEGMENT (R255). -/
  | pathSegment (e : Fin 64)
  /-- STEER_ENGAGE (R259). -/
  | steerEngage
  /-- STEER_DISENGAGE_REQ (R259). -/
  | steerDisengageReq
  /-- STEER_CHECK_ACT (R260). -/
  | steerCheckAct
  /-- STEER_TEST (R469). -/
  | steerTest (valve : Fin 4) (cur : BitVec 12)
  /-- STEER_TEST_END (R469). -/
  | steerTestEnd
  /-- CAM_LINK_ENABLE (R269). -/
  | camLinkEnable (n : Fin 6)
  /-- CAM_LINK_DISABLE (R285). -/
  | camLinkDisable (n : Fin 6)
  /-- LINK_TRAINED (R265). -/
  | linkTrained (n : Fin 6)
  /-- LINK_LOST (R265). -/
  | linkLost (n : Fin 6)
  /-- LINK_RETRAIN (R265). -/
  | linkRetrain (n : Fin 6)
  /-- CAMERA_SUPPLY_FAULT (R266). -/
  | cameraSupplyFault (n : Fin 6) (ma : Half)
  /-- CSI_FRAME_START (R267). -/
  | csiFrameStart (n : Fin 6) (vc : Fin 4) (sub : Fin 8000)
  /-- CSI_LINE (R267). -/
  | csiLine (n : Fin 6) (vc : Fin 4) (dt : Byte) (hdr : Fin 3) (crcOk full : Bool) (data : List Byte)
  /-- CSI_FRAME_END (R270). -/
  | csiFrameEnd (n : Fin 6) (vc : Fin 4) (sub : Fin 8000)
  /-- EXPOSURE_COMMIT (R276). -/
  | exposureCommit (n : Fin 6)
  /-- EXPOSURE_ACK (R276). -/
  | exposureAck (n : Fin 6) (sub : Fin 8000)
  /-- EXPOSURE_TIMEOUT (R276). -/
  | exposureTimeout (n : Fin 6) (nack : Bool)
  /-- MP_JOB_START (R283). -/
  | mpJobStart
  /-- MP_JOB_COMPLETE (R283). -/
  | mpJobComplete
  /-- FRAME_SKIPPED (R284). -/
  | frameSkipped
  /-- MP_DISABLE (R285). -/
  | mpDisable (n : Fin 6)
  /-- FUS_HANG (R289). -/
  | fusHang
  /-- WHEEL_SLIP (R298). -/
  | wheelSlip (w : Fin 4)
  /-- WHEEL_RESTORED (R298). -/
  | wheelRestored (w : Fin 4)
  /-- IMU_LOST (R298). -/
  | imuLost
  /-- INFERENCE_JOB_START (R300). -/
  | inferenceJobStart
  /-- INFERENCE_RESULT (R301). -/
  | inferenceResult (j : Fin 8) (count : Half) (data : List Word)
  /-- INFERENCE_DEADLINE_ABORT (R300). -/
  | inferenceDeadlineAbort
  /-- LIDAR_DATAGRAM (R305). -/
  | lidarDatagram (n : Fin 6) (sens : Long) (count : Byte) (last : Bool) (seq : Half) (recs : List Word) (sub : Fin 8000)
  /-- SCAN_TIMEOUT (R305). -/
  | scanTimeout (n : Fin 6)
  /-- PARALLAX_COMMIT (R313). -/
  | parallaxCommit
  /-- SUPERFRAME_START (R318). -/
  | superframeStart (energy : List Word)
  /-- BEACON_RECEIVE (R326). -/
  | beaconReceive (h : FleetHdr) (b : BeaconMsg) (inTime : Bool) (rsf : Fin 16) (rsub : Fin 12)
  /-- MEMBER_SLOT_TRANSMIT (R336). -/
  | memberSlotTransmit (obs : List (List (List Byte)))
  /-- MEMBER_FRAME_RECEIVE (R336). -/
  | memberFrameReceive (h : FleetHdr) (sub : Fin 12) (recs : List FleetRec)
  /-- CONTENTION_TRANSMIT (R334). -/
  | contentionTransmit (busy : Bool) (rsf : Fin 16) (rsub : Fin 12)
  /-- FLEET_LINK_ENABLE (R327). -/
  | fleetLinkEnable
  /-- FLEET_LINK_DISABLE (R336). -/
  | fleetLinkDisable
  /-- JOIN_REQUEST (R328). -/
  | joinRequest (ident : Word) (pref : Byte) (sub : Fin 12)
  /-- DOMAIN_FOUND (R325). -/
  | domainFound
  /-- MEMBER_DEPART (R329). -/
  | memberDepart (m : Fin 64)
  /-- BEACON_LOSS (R330). -/
  | beaconLoss
  /-- SUCCESSOR_TAKEOVER (R331). -/
  | successorTakeover
  /-- CHANNEL_CHANGE (R333). -/
  | channelChange
  /-- KEY_CHANGE (R324). -/
  | keyChange
  /-- ROLE_WRITE (R339). -/
  | roleWrite (i : Fin 4) (role : Byte)
  /-- FLEET_REQUEST (R342). -/
  | fleetRequest (e : Fin 64)
  /-- SEGMENT_RECEIVE (R343). -/
  | segmentReceive (src : Fin 64) (g : FleetSeg)
  /-- SEGMENT_REPEAT (R343). -/
  | segmentRepeat (rsp : Bool) (src : Fin 64) (tag : Byte)
  /-- FLEET_TRANSACTION_TIMEOUT (R344). -/
  | fleetTransactionTimeout
  /-- FLEET_PING (R341). -/
  | fleetPing (src : Fin 64) (tag : Byte)
  /-- ROLE_QUERY (R341). -/
  | roleQuery (src : Fin 64) (tag : Byte)
  /-- FLEET_REG_READ (R346). -/
  | fleetRegRead (src : Fin 64) (tag : Byte)
  /-- FLEET_REG_WRITE (R346). -/
  | fleetRegWrite (src : Fin 64) (tag : Byte)
  /-- FLEET_LOG_READ (R503). -/
  | fleetLogRead (src : Fin 64) (tag : Byte)
  /-- FLEET_MSG (R341). -/
  | fleetMsg (src : Fin 64) (tag : Byte) (code : Half) (rsp : List Byte)
  /-- FLEET_UNLOAD (R348). -/
  | fleetUnload (src : Fin 64) (tag : Byte) (code : Half)
  /-- FLEET_UPD_BLOCK (R524). -/
  | fleetUpdBlock (src : Fin 64) (tag : Byte)
  /-- VHP_FWD_INNER (R350). -/
  | vhpFwdInner (src : Fin 64) (tag : Byte) (part : List Byte)
  /-- UNLOAD_ARM (R348). -/
  | unloadArm (id start : Word) (partner : Fin 64)
  /-- UNLOAD_SYNC_CHECK (R348). -/
  | unloadSyncCheck
  /-- UNLOAD_END_REQUEST (R349). -/
  | unloadEndRequest
  /-- UNLOAD_EXIT_REQUEST (R349). -/
  | unloadExitRequest
  /-- PARTNER_LOSS (R349). -/
  | partnerLoss
  /-- DMA_DOORBELL (R363). -/
  | dmaDoorbell (n : Fin 32) (tail : Half)
  /-- DESCRIPTOR_RETIRE (R364). -/
  | descriptorRetire (n : Fin 32)
  /-- DMA_FAULT (R367). -/
  | dmaFault (n : Fin 32) (chunks : Nat) (write : Bool) (beat : Fin 4) (extra : Fin 16)
  /-- DMA_RESUME (R369). -/
  | dmaResume (n : Fin 32)
  /-- DMA_SKIP (R369). -/
  | dmaSkip (n : Fin 32)
  /-- DMA_DISABLE (R366). -/
  | dmaDisable (n : Fin 32)
  /-- IOMMU_INVALIDATE (R360). -/
  | iommuInvalidate (ctx : Fin 32) (page count : Word)
  /-- INVALIDATE_DONE (R360). -/
  | invalidateDone
  /-- MBX_POST (R372). -/
  | mbxPost (init : Fin 58) (e : Fin 64) (timeout : Half)
  /-- MBX_ACK (R372). -/
  | mbxAck (e : Fin 64) (code : Half)
  /-- MBX_TIMEOUT (R373). -/
  | mbxTimeout (e : Fin 64)
  /-- MBX_CROSSING (R374). -/
  | mbxCrossing (a b : Fin 64)
  /-- MBX_EP_FREE (R375). -/
  | mbxEpFree (e : Fin 64) (key : Half)
  /-- MBX_PAIR_CONFIG (R374). -/
  | mbxPairConfig (e : Fin 64) (v : Word)
  /-- DOORBELL_SET (R372). -/
  | doorbellSet (d : Fin 32) (v : Word)
  /-- CAN_ENABLE (R378). -/
  | canEnable (c : Fin 6)
  /-- CAN_FRAME_RECEIVE (R383). -/
  | canFrameReceive (c : Fin 6) (hdr : Word) (rtr : Bool) (data : List Byte) (stamp : Long)
  /-- CAN_SIGNAL_TIMEOUT (R383). -/
  | canSignalTimeout (i : Fin 512)
  /-- CAN_FRAME_SENT (R386). -/
  | canFrameSent (c : Fin 6) (tdcv : Fin 128)
  /-- CAN_LIFETIME_EXPIRY (R386). -/
  | canLifetimeExpiry (c : Fin 6)
  /-- BUS_OFF (R380). -/
  | busOff (c : Fin 6)
  /-- BUS_ON (R380). -/
  | busOn (c : Fin 6)
  /-- CAN_SIG_READ (R382). -/
  | canSigRead
  /-- CAN_SIG_WRITE (R387). -/
  | canSigWrite
  /-- CAN_STREAM_ENABLE (R384). -/
  | canStreamEnable (k : Fin 12) (frame count : Fin 512)
  /-- CAN_TXQ_DOORBELL (R388). -/
  | canTxqDoorbell (c : Fin 6) (tail : Word)
  /-- ADDRESS_CLAIM (R392). -/
  | addressClaim (c : Fin 6) (addr : Fin 254)
  /-- ADDRESS_LOST (R392). -/
  | addressLost (c : Fin 6)
  /-- ETH_DATAGRAM (R395). -/
  | ethDatagram (src dst : Word) (port id : Half) (ofs : Fin 9001) (more : Bool) (data : List Byte) (sub : Fin 8000)
  /-- REASSEMBLY_TIMEOUT (R395). -/
  | reassemblyTimeout
  /-- GCL_COMMIT (R397). -/
  | gclCommit (p : Fin 4)
  /-- VHP_HELLO (R398). -/
  | vhpHello (src : Word) (tag : Half)
  /-- VHP_OPEN (R398). -/
  | vhpOpen (i : Fin 4) (tag : Half) (key : Byte) (ok : Bool)
  /-- VHP_OPEN_TIMEOUT (R398). -/
  | vhpOpenTimeout (i : Fin 4)
  /-- VHP_CLOSE (R402). -/
  | vhpClose (h : VhpHdr)
  /-- VHP_KEEPALIVE (R400). -/
  | vhpKeepalive (h : VhpHdr)
  /-- VHP_REG_READ (R400). -/
  | vhpRegRead (h : VhpHdr) (addr : Word) (n : Half)
  /-- VHP_REG_WRITE (R400). -/
  | vhpRegWrite (h : VhpHdr) (addr : Word) (ws : List Word)
  /-- VHP_LOG_READ (R503). -/
  | vhpLogRead (h : VhpHdr) (payload : List Byte)
  /-- VHP_MSG (R400). -/
  | vhpMsg (h : VhpHdr) (e : Fin 64) (words : List Word)
  /-- VHP_MODE_REQ (R400). -/
  | vhpModeReq (h : VhpHdr) (mode : BitVec 4)
  /-- VHP_RESET (R400). -/
  | vhpReset (h : VhpHdr) (full : Bool)
  /-- VHP_RTCM_IN (R400). -/
  | vhpRtcmIn (h : VhpHdr)
  /-- VHP_RTCM_OUT (R243). -/
  | vhpRtcmOut (h : VhpHdr) (hz : Byte) (msm7 : Bool)
  /-- VHP_UPD_BLOCK (R524). -/
  | vhpUpdBlock (h : VhpHdr) (msg : List Byte)
  /-- VHP_UPD_STATE (R524). -/
  | vhpUpdState (h : VhpHdr) (part : Fin 32) (w : Half)
  /-- VHP_TASK_EXPORT (R226). -/
  | vhpTaskExport (h : VhpHdr) (part : List Byte)
  /-- VHP_FWD (R350). -/
  | vhpFwd (h : VhpHdr) (dest : Fin 64) (kind : Half) (payload : List Byte)
  /-- VHP_TAB_READ (R400). -/
  | vhpTabRead (h : VhpHdr) (blk : Word) (ofs : Half) (n : Byte)
  /-- VHP_SESSION_IDLE (R402). -/
  | vhpSessionIdle (i : Fin 4)
  /-- VHP_TRANSACTION_TIMEOUT (R401). -/
  | vhpTransactionTimeout (i : Fin 4)
  /-- FACET_NOP (R410). -/
  | facetNop (n : Fin 32) (sub : Fin 500)
  /-- FACET_LDI (R410). -/
  | facetLdi (n : Fin 32) (sub : Fin 500)
  /-- FACET_MOV (R410). -/
  | facetMov (n : Fin 32) (sub : Fin 500)
  /-- FACET_ADD (R410). -/
  | facetAdd (n : Fin 32) (sub : Fin 500)
  /-- FACET_SUB (R410). -/
  | facetSub (n : Fin 32) (sub : Fin 500)
  /-- FACET_CMP (R410). -/
  | facetCmp (n : Fin 32) (sub : Fin 500)
  /-- FACET_TAKE (R410). -/
  | facetTake (n : Fin 32) (sub : Fin 500)
  /-- FACET_BR (R411). -/
  | facetBr (n : Fin 32) (sub : Fin 500)
  /-- FACET_HOLD (R413). -/
  | facetHold (n : Fin 32) (sub : Fin 500)
  /-- FACET_OFF (R404). -/
  | facetOff (n : Fin 32) (sub : Fin 500)
  /-- FACET_BOOST (R415). -/
  | facetBoost (n : Fin 32) (sub : Fin 500)
  /-- FACET_PULL (R410). -/
  | facetPull (n : Fin 32) (sub : Fin 500)
  /-- FACET_WAIT (R410). -/
  | facetWait (n : Fin 32) (sub : Fin 500)
  /-- FACET_SYNC (R410). -/
  | facetSync (n : Fin 32) (sub : Fin 500)
  /-- FACET_KGET (R410). -/
  | facetKget (n : Fin 32) (sub : Fin 500)
  /-- FACET_DITH (R410). -/
  | facetDith (n : Fin 32) (sub : Fin 500)
  /-- BOOST_GRANT (R415). -/
  | boostGrant (b : Fin 8) (sub : Fin 500)
  /-- BOOST_WAIT_TIMEOUT (R415). -/
  | boostWaitTimeout (n : Fin 32) (sub : Fin 500)
  /-- BOOST_PHASE_END (R410). -/
  | boostPhaseEnd (n : Fin 32) (sub : Fin 500) (pk : Bool) (dip : CurrentDip)
  /-- BOOST_READY_CHANGE (R417). -/
  | boostReadyChange (b : Fin 8) (mv : Half)
  /-- VALVE_SHORT (R421). -/
  | valveShort (n : Fin 32)
  /-- VALVE_GROUND_SHORT (R421). -/
  | valveGroundShort (n : Fin 32) (present : Bool)
  /-- VALVE_OVERTEMP (R421). -/
  | valveOvertemp (n : Fin 32) (hot : Bool)
  /-- VALVE_OPEN_COIL (R421). -/
  | valveOpenCoil (n : Fin 32) (present : Bool)
  /-- RAIL_FAULT (R421). -/
  | railFault (b : Fin 8) (overV present : Bool)
  /-- VALVE_CHANNEL_ENABLE (R408). -/
  | valveChannelEnable (init : Fin 58) (n : Fin 32)
  /-- VLV_BANK_SWAP (R426). -/
  | vlvBankSwap (init : Fin 58) (b : Fin 8)
  /-- SWAP_APPLY (R426). -/
  | swapApply (b : Fin 8) (sub : Fin 500)
  /-- VLV_BANK_CLR (R421). -/
  | vlvBankClr (init : Fin 58) (b : Fin 8)
  /-- VALVE_OPEN_TEST (R423). -/
  | valveOpenTest (n : Fin 32)
  /-- COIL_TEST (R423). -/
  | coilTest (n : Fin 32)
  /-- BOOST_TEST (R423). -/
  | boostTest (b : Fin 8)
  /-- VALVE_TEST_START (R424). -/
  | valveTestStart (sub : Fin 500)
  /-- VALVE_TEST_END (R424). -/
  | valveTestEnd (sub : Fin 500) (pass : Bool) (r l : Half)
  /-- LSW_CMD_WRITE (R431). -/
  | lswCmdWrite (n : Fin 24) (v : BitVec 11)
  /-- LSW_HARD_TRIP (R433). -/
  | lswHardTrip (n : Fin 24) (peak : Half)
  /-- LSW_INRUSH_TRIP (R433). -/
  | lswInrushTrip (n : Fin 24) (x : LswOver)
  /-- LSW_LATCH_TRIP (R433). -/
  | lswLatchTrip (n : Fin 24) (x : LswOver)
  /-- INRUSH_WINDOW_END (R435). -/
  | inrushWindowEnd (n : Fin 24)
  /-- LSW_RETRY (R436). -/
  | lswRetry (n : Fin 24)
  /-- LSW_CLR (R436). -/
  | lswClr (n : Fin 24)
  /-- LSW_OVERTEMP (R437). -/
  | lswOvertemp (n : Fin 24)
  /-- LSW_COOLDOWN (R437). -/
  | lswCooldown (n : Fin 24)
  /-- CLAMP (R439). -/
  | clamp (n : Fin 24) (x : LswOver)
  /-- OPEN_LOAD (R443). -/
  | openLoad (n : Fin 24) (cur mv : Half)
  /-- BAT_A_OVER (R429). -/
  | batAOver (sum : Half)
  /-- BAT_A_OV_RELEASE (R440). -/
  | batAOvRelease (mv : Half)
  /-- PULSE_TEST (R444). -/
  | pulseTest (n : Fin 24)
  /-- FREEWHEEL_TEST (R444). -/
  | freewheelTest (n : Fin 24)
  /-- LSW_TEST_START (R445). -/
  | lswTestStart
  /-- LSW_TEST_END (R445). -/
  | lswTestEnd (m : LswTestMeas)
  /-- LOCKSTEP_MISMATCH (R446). -/
  | lockstepMismatch
  /-- TEST_PULSE (R450). -/
  | testPulse (tp : Fin 2) (low : BitVec 8)
  /-- TP_OVERLOAD (R450). -/
  | tpOverload (tp : Fin 2)
  /-- DISCREPANCY_TIMEOUT (R452). -/
  | discrepancyTimeout (i : Fin 4)
  /-- SO_ELEMENT_TEST (R457). -/
  | soElementTest (k : Fin 4) (elem : Fin 2) (pass : Bool)
  /-- SO_OVERCURRENT (R457). -/
  | soOvercurrent (k : Fin 4)
  /-- SENSOR_PAIR_CONTRADICTION (R459). -/
  | sensorPairContradiction (p : Fin 2)
  /-- RESET_PRESS (R465). -/
  | resetPress (ms : Word) (pass : Bool) (out : Fin 4)
  /-- BUTTON_FAULT (R465). -/
  | buttonFault
  /-- SAF_STOP_REQ (R462). -/
  | safStopReq
  /-- PANEL_ENABLE (R475). -/
  | panelEnable
  /-- PANEL_DISABLE (R476). -/
  | panelDisable
  /-- PANEL_FAULT (R483). -/
  | panelFault (m : RailMeas)
  /-- VIDEO_FRAME_START (R480). -/
  | videoFrameStart (fault under : Byte)
  /-- FB_FLIP (R478). -/
  | fbFlip (b : Fin 2)
  /-- AGEING_SAMPLE (R481). -/
  | ageingSample
  /-- AGEING_GAIN_UPDATE (R482). -/
  | ageingGainUpdate
  /-- STRIP_UPDATE_GO (R486). -/
  | stripUpdateGo
  /-- STRIP_UPDATE_START (R486). -/
  | stripUpdateStart
  /-- STRIP_UPDATE_END (R489). -/
  | stripUpdateEnd
  /-- RECORD_CLOSE (R494). -/
  | recordClose
  /-- STORM (R495). -/
  | storm
  /-- EVR_APP_GO (R497). -/
  | evrAppGo (core : Fin 4)
  /-- COUNTER_COMMIT (R498). -/
  | counterCommit
  /-- EVR_NONCE_READ (R501). -/
  | evrNonceRead (init : Fin 58)
  /-- LOG_CLEAR (R501). -/
  | logClear
  /-- LOUPE_LATCH (R502). -/
  | loupeLatch (init : Fin 58) (w : Fin 4)
  /-- LOUPE_NEXT (R502). -/
  | loupeNext (w : Fin 4)
  /-- CHECKPOINT (R506). -/
  | checkpoint
  /-- TAB_BLOCK_WRITE (R507). -/
  | tabBlockWrite (ok : Bool)
  /-- TAB_GAP (R509). -/
  | tabGap (reason : Fin 8)
  /-- TAB_SEGMENT_OPEN (R509). -/
  | tabSegmentOpen
  /-- HOLD_RELEASE (R510). -/
  | holdRelease (h : Fin 4)
  /-- FRAME_WINDOW (R511). -/
  | frameWindow (off : Fin 8192)
  /-- REPLAY_LOADED (R513). -/
  | replayLoaded
  /-- REPLAY_STOP (R517). -/
  | replayStop
  /-- REPLAY_END (R513). -/
  | replayEnd
  /-- UPDATE_BLOCK (R525). -/
  | updateBlock
  /-- UPD_VERIFY_END (R526). -/
  | updVerifyEnd
  /-- UPD_ABANDON_CMD (R526). -/
  | updAbandonCmd
  /-- UPD_CONFIRM (R531). -/
  | updConfirm
  /-- UPD_REJECT (R532). -/
  | updReject
  /-- ACTIVATION_COPY_DONE (R528). -/
  | activationCopyDone
  /-- UPD_ACTIVATE (R528). -/
  | updActivate
  /-- TRIAL_EXPIRY (R532). -/
  | trialExpiry
  /-- CALIBRATION_WRITE (R535). -/
  | calibrationWrite
  /-- UPD_NONCE_READ (R539). -/
  | updNonceRead (init : Fin 58)
  /-- OWNER_FLAGS (R539). -/
  | ownerFlags
  /-- SET_KEY (R539). -/
  | setKey
  /-- REMOVE_KEY (R539). -/
  | removeKey
  /-- NEW_OWNER_KEY (R539). -/
  | newOwnerKey
  /-- DEBUG_UNLOCK (R540). -/
  | debugUnlock
  /-- DEBUG_CLOSE (R540). -/
  | debugClose
  /-- DEBUG_EXPIRY (R540). -/
  | debugExpiry
  /-- GROUND_STUD_LOSS (R557). -/
  | groundStudLoss (g : Fin 2) (v : Byte)
  /-- GROUND_STUD_RETURN (R557). -/
  | groundStudReturn (g : Fin 2) (v : Byte)
  /-- THERMAL_SITE_READ (R564). -/
  | thermalSiteRead (k : Fin 24) (valid : Bool) (t : Half)
  /-- THROTTLE_STAGE_CHANGE (R565). -/
  | throttleStageChange
  /-- OUT_HIGH_CHANGE (R562). -/
  | outHighChange (w : Half)
  /-- ILLEGAL_INSTRUCTION (R120). -/
  | illegalInstruction (u : Fin 10) (w : Word)
  /-- FACET_UNDEFINED_OPCODE (R412). -/
  | facetUndefinedOpcode (n : Fin 32) (sub : Fin 500)
  /-- I25_BURDEN_RESTORE (R161). -/
  | i25BurdenRestore (n : Fin 48)
  /-- INLINE_FRAME_COMPLETE (R282). -/
  | inlineFrameComplete
  /-- CAN_BUS_ERROR (R380). -/
  | canBusError (c : Fin 6) (kind : Fin 7) (tx : Bool)
  /-- ETH_FRAME_INGRESS (R396). -/
  | ethFrameIngress (p : Fin 5) (dst src : Long) (pcp : Option (Fin 8)) (etype : Half) (data : List Byte) (stamp : Long)
  /-- ETH_LINK_CHANGE (R394). -/
  | ethLinkChange (p : Fin 4) (up : Bool) (sqi : Fin 8)
  /-- SUPPLY_LEVEL_CROSSING (R558). -/
  | supplyLevelCrossing (inp : Fin 3) (lvl : Fin 4) (on : Bool) (mv : Half)
  /-- GROUP_UNDERVOLTAGE (R435). -/
  | groupUndervoltage (g : Fin 4) (below : Bool) (mv : Half) (sag : Word)
  deriving DecidableEq, Repr

end Sys2Proof
end

