-- ==== Sys2Proof/Decode.lean ====
section
/-! DEFINITION. The table of operations and events gives its rows no bits: the block has no encoding of its commands, and no word
spells one. The Gweny instructions among them do have words in tile memory (R97): `gwDecode` reads one, as the illegal-instruction trap needs. -/

namespace Sys2Proof

/-- The command a word of the table's bits spells: no row of the table gives bits, so there is none. -/
def decodeTableWord (_nbits _w : Nat) : Option Instr := none

/-! ### Gweny words (R97, R98) -/

/-- Bits [lo + n − 1 : lo] of a word. -/
def wordBits (w : Word) (lo n : Nat) : Nat := w.toNat / 2 ^ lo % 2 ^ n

/-- A register field. -/
def reg5 (w : Word) (lo : Nat) : Fin 32 := Fin.ofNat 32 (wordBits w lo 5)

/-- A field that names a v register: bits [4:3] must be 0. -/
def vreg (w : Word) (lo : Nat) : Option (Fin 8) := if wordBits w lo 5 < 8 then some (Fin.ofNat 8 (wordBits w lo 5)) else none

/-- A field marked 0. -/
def zero5 (w : Word) (lo : Nat) (i : Instr) : Option Instr := if wordBits w lo 5 = 0 then some i else none

/-- Opcode 0x00: integer instructions (R99). -/
def gwInt (u : Fin 10) (w : Word) : Option Instr :=
  let d := reg5 w 21
  let a := reg5 w 16
  let b := reg5 w 11
  match wordBits w 0 11 with
  | 0x000 => some (.add u d a b)
  | 0x001 => some (.sub u d a b)
  | 0x002 => some (.and u d a b)
  | 0x003 => some (.or u d a b)
  | 0x004 => some (.xor u d a b)
  | 0x005 => some (.shl u d a b)
  | 0x006 => some (.shr u d a b)
  | 0x007 => some (.sra u d a b)
  | 0x008 => some (.mul u d a b)
  | 0x009 => some (.min u d a b)
  | 0x00A => some (.max u d a b)
  | 0x00B => zero5 w 21 (.cmp u a b)
  | _ => none

/-- Opcode 0x01: FP scalar instructions (R100); rs2 is 0 where one operand is read. -/
def gwFpWord (u : Fin 10) (w : Word) : Option Instr :=
  let d := reg5 w 21
  let a := reg5 w 16
  let b := reg5 w 11
  match wordBits w 0 11 with
  | 0x000 => some (.fadd u d a b)
  | 0x001 => some (.fsub u d a b)
  | 0x002 => some (.fmul u d a b)
  | 0x003 => some (.fdiv u d a b)
  | 0x004 => some (.fmin u d a b)
  | 0x005 => some (.fmax u d a b)
  | 0x006 => zero5 w 11 (.fabs u d a)
  | 0x007 => zero5 w 11 (.fneg u d a)
  | 0x008 => zero5 w 11 (.fsqrt u d a)
  | 0x009 => zero5 w 21 (.fcmp u a b)
  | 0x00A => zero5 w 11 (.fcvtsw u d a)
  | 0x00B => zero5 w 11 (.fcvtws u d a)
  | _ => none

/-- Opcode 0x03: vector instructions (R102). -/
def gwVecWord (u : Fin 10) (w : Word) : Option Instr :=
  let vvv := fun (f : Fin 8 → Fin 8 → Fin 8 → Instr) => match vreg w 21, vreg w 16, vreg w 11 with
    | some d, some a, some b => some (f d a b)
    | _, _, _ => none
  match wordBits w 0 11 with
  | 0x000 => vvv (.vadd u)
  | 0x001 => vvv (.vsub u)
  | 0x002 => vvv (.vmul u)
  | 0x003 => vvv (.vfma u)
  | 0x004 => vvv (.vmin u)
  | 0x005 => vvv (.vmax u)
  | 0x006 => vvv (.vclamp u)
  | 0x007 => (vreg w 21).bind (fun d => zero5 w 11 (.vbcast u d (reg5 w 16)))
  | 0x008 => (vreg w 16).map (fun a => .vext u (reg5 w 21) a (reg5 w 11))
  | 0x009 => (vreg w 21).map (fun d => .vins u d (reg5 w 16) (reg5 w 11))
  | 0x00A => (vreg w 16).bind (fun a => zero5 w 11 (.vred u (reg5 w 21) a))
  | 0x00B => (vreg w 16).bind (fun a => (vreg w 11).map (fun b => .vdot u (reg5 w 21) a b))
  | _ => none

/-- The CSR numbers of R82. -/
def csrKnown : List Nat := [0x00, 0x01, 0x02, 0x03, 0x04, 0x05, 0x06, 0x08, 0x09, 0x0A]

/-- Opcode 0x05: system instructions (R103). Only NOP's unused fields are marked 0; an unknown CSR, or a write of one that is read-only, is
illegal (R82). -/
def gwSysWord (u : Fin 10) (w : Word) : Option Instr :=
  let n := reg5 w 11
  match wordBits w 0 11 with
  | 0x000 => if wordBits w 11 15 = 0 then some (.nop u) else none
  | 0x001 => some (.ends u)
  | 0x002 => some (.trap u n)
  | 0x003 => if csrKnown.contains n.val then some (.csrr u (reg5 w 21) n) else none
  | 0x004 => if n.val = 0 then some (.csrw u n (reg5 w 16)) else none
  | 0x005 => some (.pwait u)
  | _ => none

/-- Opcodes 0x02 and 0x04, R4 format: FMA, FCLAMP and the control primitives (R100, R109). -/
def gwR4Word (u : Fin 10) (w : Word) : Option Instr :=
  let d := reg5 w 21
  let a := reg5 w 16
  let b := reg5 w 11
  let c := reg5 w 6
  match wordBits w 26 6, wordBits w 0 6 with
  | 0x02, 0x00 => some (.fma u d a b c)
  | 0x02, 0x01 => some (.fclamp u d a b c)
  | 0x04, 0x00 => some (.integ u d a b c)
  | 0x04, 0x01 => zero5 w 6 (.relay u d a b)
  | 0x04, 0x02 => some (.plaus u d a b c)
  | _, _ => none

/-- Opcodes 0x08 to 0x0F: immediates (R99). -/
def gwImmWord (u : Fin 10) (w : Word) : Option Instr :=
  let d := reg5 w 21
  let a := reg5 w 16
  let imm := w.setWidth 16
  let shift := fun (i : Instr) => if wordBits w 5 11 = 0 then some i else none
  match wordBits w 26 6 with
  | 0x08 => some (.addi u d a imm)
  | 0x09 => some (.andi u d a imm)
  | 0x0A => some (.ori u d a imm)
  | 0x0B => some (.xori u d a imm)
  | 0x0C => shift (.shli u d a (reg5 w 0))
  | 0x0D => shift (.shri u d a (reg5 w 0))
  | 0x0E => shift (.srai u d a (reg5 w 0))
  | 0x0F => zero5 w 16 (.lui u d imm)
  | _ => none

/-- Opcodes 0x10 to 0x27: memory, branches, jumps and sample I/O (R101). A branch has rs1 at [25:21] and rs2 at [20:16]; a flag bit is below 16. -/
def gwMemWord (u : Fin 10) (w : Word) : Option Instr :=
  let d := reg5 w 21
  let a := reg5 w 16
  let imm := w.setWidth 16
  let flag := fun (f : Fin 16 → Instr) => if d.val < 16 then zero5 w 16 (f (Fin.ofNat 16 d.val)) else none
  match wordBits w 26 6 with
  | 0x10 => some (.lw u d a imm)
  | 0x11 => some (.sw u d a imm)
  | 0x12 => (vreg w 21).map (fun v => .lv u v a imm)
  | 0x13 => (vreg w 21).map (fun v => .sv u v a imm)
  | 0x14 => zero5 w 21 (.pmv u a imm)
  | 0x18 => some (.beq u d a imm)
  | 0x19 => some (.bne u d a imm)
  | 0x1A => some (.blt u d a imm)
  | 0x1B => some (.bge u d a imm)
  | 0x1C => some (.bltu u d a imm)
  | 0x1D => some (.bgeu u d a imm)
  | 0x1E => flag (fun n => .bfs u n imm)
  | 0x1F => flag (fun n => .bfc u n imm)
  | 0x20 => some (.j u (w.setWidth 26))
  | 0x21 => some (.jal u (w.setWidth 26))
  | 0x22 => zero5 w 21 (.jr u a imm)
  | 0x24 => some (.inPort u d a imm)
  | 0x25 => some (.inq u d a imm)
  | 0x26 => some (.out u d a imm)
  | 0x27 => (vreg w 21).map (fun v => .vin u v a imm)
  | _ => none

/-- The instruction that a word of tile memory is (R97, R98), executed by unit `u`; none for a word that takes the illegal-instruction trap. -/
def gwDecode (u : Fin 10) (w : Word) : Option Instr :=
  let op := wordBits w 26 6
  if op = 0x00 then gwInt u w
  else if op = 0x01 then gwFpWord u w
  else if op = 0x03 then gwVecWord u w
  else if op = 0x05 then gwSysWord u w
  else if op = 0x02 ∨ op = 0x04 then gwR4Word u w
  else if op < 0x10 then gwImmWord u w
  else gwMemWord u w

end Sys2Proof
end

