-- ==== Sys2Proof/Config.lean ====
section
/-! DEFINITION. What the spec leaves open: uninterpreted constants (no body, so no proof can see a value), each with the rule that leaves
it open and the assumption-log entry that names it. -/

namespace Sys2Proof

/-- A fresh free word, by the model's counter (assumption 3). -/
opaque Config.freeWord : Nat → Word

/-- Where the replay event list lies in the module's own part of LPDDR5 (R514, assumption 58). -/
opaque Config.relBase : Nat

/-- Whether a received CAN frame (header word) passes a value of CAN_RXQ_FILT, whose layout the spec does not give (assumption 20). -/
opaque Config.canFilter : Word → Word → Bool

/-- The length in nominal bits, up to the ACK delimiter, of a CAN frame on an idle bus (R390; bit stuffing by ISO 11898-1, assumption 21). -/
opaque Config.canBits : Word → List Byte → Nat

/-- The eight breakpoints of a table of the governor's transport area: breakpoint and value in turn. The spec gives the tables and not their
places in the area (R179, R190, assumption 22). Tables 0–63 are v of a cell, 64 + 4j + q the separation fraction of rotor cell j over rotor speed,
front and rear clearance and vane angle, 128 + 6r + q the sieve fractions of shoe cell r (clean, then tailings) over fan and sieve openings. -/
opaque Config.govTable : List Word → Nat → List Word

/-- A fraction from what its tables give, one for each transport input that governs it, by the number of its first table (R179, assumption 22). -/
opaque Config.govFrac : Nat → List Word → Word

/-- The transport input of a cell whose region the spec names none for (R179, assumption 22). -/
opaque Config.govSpeedIn : Nat → Fin 16

/-- The drop map: two shoe cells, from the front, and the share of the first, of a rotor cell (0–7 straw, 8–15 grain); and the chaff fraction of a
straw cell (R179, assumption 22). -/
opaque Config.govDrop : List Word → Nat → Fin 4 × Fin 4 × Word
opaque Config.govChaff : List Word → Nat → Word

/-- The grain fraction of what leaves the feeder, estimated from M25 and M35 (R179, assumption 22). -/
opaque Config.govGrain : Word → Word → Word

/-- A tailings ceiling of the governor's calibration, whose place in the area the spec does not give (R187, assumption 22). -/
opaque Config.govTailCeil : List Word → Nat → Word

/-- The value a slot group contributes while its members disagree or are absent and the fault is not yet confirmed (R184, assumption 23);
`none`: it takes no part in that sample. -/
opaque Config.slotUnconfirmed : Nat → List Word → Option Word

/-- Kilograms per counted crossing of a loss channel LOS0–LOS3: kernel mass over the plate's interception fraction, of the loss loop's calibration
area, whose layout the spec does not give (R212, assumption 24). -/
opaque Config.lossFactor : List Word → Nat → Word

/-- Rotor (0) or sieve (1) loss in kg/s from what its channels measure and what the governor predicts: the loss loop reads both, and the spec does not say
how it joins them (R212, assumption 24). -/
opaque Config.lossUse : Nat → Word → Word → Word

/-- The displacement of a reference point from ANT0 (component 0 latitude, 1 longitude in 10^-7 deg, 2 height in mm): the lever arm in mm
rotated by heading, pitch and roll, at a latitude; a signed word (R236, assumption 25). -/
opaque Config.leverArm : List Int → List Word → Int → Nat → Word

/-- The same displacement east (0), north (1) and up (2) in mm, a signed word: the lever arm rotated by heading, pitch and roll (R236, R245,
assumption 25). -/
opaque Config.armEnu : List Int → List Word → Nat → Word

/-- A component of a matched baseline moved forward by an interval in ms, from the neighbour's velocity and acceleration and the module's
own velocity (R247, assumption 25). -/
opaque Config.baseForward : List Word → List Word → List Word → Nat → Nat → Word

/-- Demosaic (R279 stage 5), whose filter the spec does not give: under BAYER, from the values after stage 3 by position, the
value of colour 0 R, 1 G, 2 B at (x, y) (assumption 26). -/
opaque Config.demosaic : Nat → (Nat → Nat → Nat) → Nat → Nat → Nat → Nat

/-- A byte of the YUV422 output of two neighbouring pixels (BT.709, full range): from their six tone values, component 0 U, 1 Y0,
2 V, 3 Y1; the rounding is not given (R279 stage 8, assumption 26). -/
opaque Config.bt709 : List Nat → Nat → Byte

/-- A word of the ego filter after a sample, from its words before and the measurements taken (R296, R297; assumption 27). Words 0–7 are
the quantities of group 0; word 8 + 8p + q is quantity q of point p, with the point's velocity along machine x at q = 3. -/
opaque Config.egoStep : List Word → List Word → Nat → Word

/-- The filter's predicted speed at wheel w, m/s (R298; assumption 27). -/
opaque Config.egoWheel : List Word → Nat → Word

/-- Position (0 x, 1 y) of an object record in the local frame, from the record, the sensor's extrinsic and offset, and the ego words
(R306; assumption 27). -/
opaque Config.objMove : List Word → List Word → List Word → Nat → Word

/-- A local position and velocity in the machine frame: 0 x, 1 y, 2 vx, 3 vy (R309, R310; assumption 27). -/
opaque Config.toMachine : List Word → List Word → Nat → Word

/-- A track's variance after prediction: from SXX or SYY, Q_ACC and the seconds passed (R307; assumption 27). -/
opaque Config.trackVar : Word → Nat → Word → Word

/-- One axis of a track after an update (0 position, 1 velocity, 2 variance): from these three and the object's position and variance
(R307; assumption 27). -/
opaque Config.trackUpd : List Word → List Word → Nat → Word

/-- An object against the corridor's arc (0: non-zero when inside, 1: distance along it, 2: closing speed), from its machine-frame
position and velocity, and the arc (R311; assumption 27). -/
opaque Config.corridor : List Word → List Word → Nat → Word

/-- What a PARALLAX sample does to offset k: 0 lowers it, 1 keeps it, 2 raises it by 0.001 deg, from the ego words with the static tracks, and
the offsets (R312; assumption 27). -/
opaque Config.parStep : List Word → List Int → Nat → Fin 3

/-- The end of a path segment: 0 east, 1 north (m), 2 heading (deg); sine and cosine of the spec's arcs are not given a rounding
(R255; assumption 28). -/
opaque Config.segEnd : List Word → Nat → Word

/-- The controlled point on the path (R256, R262), from its pose words and the held segments: 0 segments passed, 1 e_y in m, 2 e_ψ in deg,
3 curvature at the projection, 4 largest |κ| within the next 5 s of travel, 5 metres to the end of the path, 6 non-zero while a
segment is active (assumption 28). -/
opaque Config.pathPoint : List Word → List (List Word) → Nat → Word

/-- Sine of an angle in deg, and arctangent in deg, as FP32 (R256; assumption 28). -/
opaque Config.sinDeg : Word → Word
opaque Config.atanDeg : Word → Word

/-- Luminance of a colour at a stress, from the 16-point curve of the panel calibration record, whose layout the spec does not give
(R482; assumption 29). -/
opaque Config.panelLum : List Byte → Nat → Nat → Nat

/-- COORD_PRI of another module that has COORD_OK set, by its IDENT; `none` where COORD_OK is clear (R331; the spec does not say how a coordinator learns
them, assumption 49). -/
opaque Config.coordOf : Nat → Option Nat

/-- Ed25519 verification of a message under a public key (R523, R535, R539, R501; the arithmetic is that of the standard, which the spec
names and does not give): key, message, signature (assumption 30). -/
opaque Config.ed25519 : List Byte → List Byte → List Byte → Bool

/-- A key the secure element holds as shipped (R538): type in the row order of R538, index; empty for none (assumption 30). -/
opaque Config.shippedKey : Nat → Nat → List Byte

/-- The TYPE mask of a shipped package key, or the privilege of a shipped host key: key type, index (R538; assumption 30). -/
opaque Config.shippedPriv : Nat → Nat → Nat

/-- Whether a wrapped domain key unwraps (R539), and the key it holds (assumption 30). -/
opaque Config.unwrapOk : List Byte → Bool
opaque Config.unwrapKey : List Byte → List Byte

/-- The word a calibration set gives a register whose reset value is "from MRAM": set, the committed records (offset, data) in
order of record number, address of the register (R536; the layout inside a set is not given, assumption 31). -/
opaque Config.calReg : Nat → List (Nat × List Byte) → Nat → Word

/-- The record of set 7 that carries a sensor's extrinsic, from its six words: RECORD, offset in the set, data (R313, R534; assumption 31). -/
opaque Config.extrRec : Nat → List Word → Nat × Nat × List Byte

/-- The values a calibration record holds against the limits of the chapter that owns its set (R535 check 4): set, record,
offset, data (assumption 31). -/
opaque Config.calLimits : Nat → Nat → Nat → List Byte → Bool

/-- A record of set 1 carries the serial number or REGION, which only a FACTORY record may (R535 check 3, R536): record, offset, data (assumption 31). -/
opaque Config.calFactoryOnly : Nat → Nat → List Byte → Bool

/-- The bytes of a calibration set's area, or 0 where the module has no such set (R535 check 1; assumption 31). -/
opaque Config.calArea : Nat → Nat

/-- The byte offset, in a serving loop's window, of the calibration area of a set (R209: the set names it; assumption 31). -/
opaque Config.calOfs : Nat → Nat

/-- Word k of a loop configuration part as the module unpacks it (R522, TYPE 3), from the part's bytes; the file layout is not given
(assumption 32). -/
opaque Config.partWord : List Byte → Nat → Word

/-- Where the images of the fusion sequencer and of the Mirror pair begin a sample, and where their traps are handled, in words of their memory, by
context number (128 + task, 192); the Mirror pair's budget in cycles: the spec gives the addresses to the images and names no budget (assumption 38). -/
opaque Config.imageEntry : Nat → Nat
opaque Config.imageVector : Nat → Nat
opaque Config.mirrorBudget : Nat

/-- The MAC address of the module, which the spec does not place (assumption 33). -/
opaque Config.macAddr : Nat

/-- Full scale of the piezo converters in µV (R166; the spec gives codes only). -/
opaque Config.losFullScale : Nat

/-- One sample through the piezo filters of a setting of HPF (R166; the spec gives the corner frequencies): the filtered sample, the envelope code, and
the filters' memory after it, from the memory before and the amplified sample. -/
opaque Config.losStep : Nat → List Word → Word → List Word

end Sys2Proof
end

