-- ==== Sys2Proof/Machine/SMap.lean ====
section
/-! DEFINITION. Sparse maps: a list of (key, value) pairs in ONE canonical form, keys strictly rising and no entry
equal to what an unlisted key reads as. Registers, memories and instance arrays of the state are such lists. -/

namespace Sys2Proof.Machine

/-- A sparse map from a natural number. The value of an unlisted key is given by each use. -/
abbrev SMap (α : Type) := List (Nat × α)

/-- The value at key `k`; an unlisted key reads as `d`. -/
def smGet {α : Type} (d : α) : SMap α → Nat → α
  | [], _ => d
  | (k', v) :: r, k => if k' = k then v else smGet d r k

/-- Write `v` at key `k`, where an unlisted key reads as `d`: an entry that would equal `d` is removed. -/
def smPut {α : Type} [DecidableEq α] (d : α) : SMap α → Nat → α → SMap α
  | [], k, v => if v = d then [] else [(k, v)]
  | (k', v') :: r, k, v =>
    if k < k' then (if v = d then (k', v') :: r else (k, v) :: (k', v') :: r)
    else if k = k' then (if v = d then r else (k, v) :: r)
    else (k', v') :: smPut d r k v

/-- Every key of the map lies above `b`, the keys rise strictly and no entry equals its default. -/
def smWfAbove {α : Type} [DecidableEq α] (d : Nat → α) : Option Nat → SMap α → Bool
  | _, [] => true
  | b, (k, v) :: r => (match b with | none => true | some x => decide (x < k)) && decide (v ≠ d k) && smWfAbove d (some k) r

/-- The canonical form of a sparse map whose unlisted keys read as `d`. -/
def smWf {α : Type} [DecidableEq α] (d : Nat → α) (m : SMap α) : Bool := smWfAbove d none m

/-- Map every listed value of a sparse map (used to clear or update many instances at once). -/
def smMapVals {α : Type} [DecidableEq α] (d : α) (f : Nat → α → α) : SMap α → SMap α
  | [] => []
  | (k, v) :: r => if f k v = d then smMapVals d f r else (k, f k v) :: smMapVals d f r

/-- Apply `f` to the value at key `k`. -/
def smUpd {α : Type} [DecidableEq α] (d : α) (m : SMap α) (k : Nat) (f : α → α) : SMap α := smPut d m k (f (smGet d m k))

end Sys2Proof.Machine
end

