-- ==== Sys2Proof/Machine/RegMap.lean ====
section
/-! DEFINITION. The register map: one row per register (or register array) that the spec's register maps, group tables
and sentences place (R14, R574), with its access masks (R4) and reset value, and the named addresses (`Ra`) and fields
(`Fd`) of those registers. An offset of a window that no row covers holds no register (R17). A reset value that the
spec takes from MRAM is 0 unless the spec ships a value (assumption 2). -/

namespace Sys2Proof.Machine

/-- A register or register array: address of the first word, two strides and counts, reset value and the masks of its
bits by access type (R4). Bits in no mask are reserved. -/
structure RegRow where
  addr  : Nat
  s1    : Nat
  c1    : Nat
  s2    : Nat
  c2    : Nat
  reset : Nat
  rw    : Nat
  ro    : Nat
  wo    : Nat
  w1c   : Nat
  rc    : Nat
  rwl   : Nat
  deriving DecidableEq, Repr

/-- A field of a register: its register's address, its lowest bit and its width. -/
structure Fld where
  addr  : Nat
  lo    : Nat
  width : Nat
  deriving DecidableEq, Repr

/-- Rows of the SYS window. -/
def rowsSYS0 : List RegRow := [
  ⟨0x40000000, 0x1, 1, 0x1, 1, 0x96400100, 0x0, 0xFFFFFFFF, 0x0, 0x0, 0x0, 0x0⟩,
  ⟨0x40000100, 0x1, 1, 0x1, 1, 0x0, 0x0, 0xFFFFFFFF, 0x0, 0x0, 0x0, 0x0⟩,
  ⟨0x40000104, 0x1, 1, 0x1, 1, 0x0, 0x0, 0x7FF000FF, 0x0, 0x80000000, 0x0, 0x0⟩,
  ⟨0x40000110, 0x1, 1, 0x1, 1, 0x0, 0x0, 0xFFFFFFFF, 0x0, 0x0, 0x0, 0x0⟩,
  ⟨0x40000114, 0x1, 1, 0x1, 1, 0x0, 0x0, 0x0, 0x0, 0x0, 0x1FF, 0x0⟩,
  ⟨0x40000300, 0x1, 1, 0x1, 1, 0x0, 0x0, 0x0, 0xCF, 0x0, 0x0, 0x0⟩,
  ⟨0x40000304, 0x1, 1, 0x1, 1, 0x2, 0x0, 0xFFFF8FFF, 0x0, 0x0, 0x0, 0x0⟩,
  ⟨0x4000C000, 0x4, 5, 0x1, 1, 0x0, 0x0, 0xFFFFFFFF, 0x0, 0x0, 0x0, 0x0⟩,
  ⟨0x4000C014, 0x4, 10, 0x1, 1, 0x0, 0x0, 0xFFFFFFFF, 0x0, 0x0, 0x0, 0x0⟩,
  ⟨0x4000C03C, 0x4, 28, 0x1, 1, 0x0, 0x0, 0xFFFFFFFF, 0x0, 0x0, 0x0, 0x0⟩,
  ⟨0x4000C0AC, 0xC, 16, 0x1, 1, 0x0, 0x0, 0x0, 0x0, 0xFFFFFFFF, 0x0, 0x0⟩,
  ⟨0x4000C0B0, 0xC, 16, 0x1, 1, 0x0, 0xFFFFFFFF, 0x0, 0x0, 0x0, 0x0, 0x0⟩,
  ⟨0x4000C0B4, 0xC, 16, 0x1, 1, 0x0, 0x3, 0x0, 0x0, 0x0, 0x0, 0x0⟩,
  ⟨0x4000C16C, 0x4, 22, 0x1, 1, 0x0, 0x0, 0xFFFFFFFF, 0x0, 0x0, 0x0, 0x0⟩]

/-- Every row of the SYS window. -/
def rowsSYS : List RegRow := rowsSYS0

/-- Rows of the CLK window. -/
def rowsCLK0 : List RegRow := [
  ⟨0x40010000, 0x1, 1, 0x1, 1, 0x0, 0x0, 0xFFFFFFFF, 0x0, 0x0, 0x0, 0x0⟩,
  ⟨0x40010004, 0x1, 1, 0x1, 1, 0x0, 0x0, 0xFFFFFFFF, 0x0, 0x0, 0x0, 0x0⟩,
  ⟨0x40010010, 0x1, 1, 0x1, 1, 0x0, 0x0, 0xFFFF00E7, 0x0, 0x10, 0x0, 0x0⟩,
  ⟨0x40010014, 0x1, 1, 0x1, 1, 0xFFFFFFFF, 0x0, 0xFFFFFFFF, 0x0, 0x0, 0x0, 0x0⟩,
  ⟨0x40010018, 0x1, 1, 0x1, 1, 0x32C8, 0xFFFFFF, 0x0, 0x0, 0x0, 0x0, 0x0⟩,
  ⟨0x40010030, 0x1, 1, 0x1, 1, 0x0, 0x0, 0xFFFFFFFF, 0x0, 0x0, 0x0, 0x0⟩,
  ⟨0x40010040, 0x1, 1, 0x1, 1, 0xFF, 0x3FFF, 0x0, 0x0, 0x0, 0x0, 0x0⟩,
  ⟨0x40010080, 0x4, 8, 0x1, 1, 0x0, 0xFFF, 0x0, 0x0, 0x0, 0x0, 0x0⟩,
  ⟨0x400100C0, 0x8, 6, 0x1, 1, 0x32000000, 0xFFFFFF00, 0x0, 0x0, 0x0, 0x0, 0x0⟩,
  ⟨0x400100C4, 0x8, 6, 0x1, 1, 0x0, 0x1FFF, 0x0, 0x0, 0x0, 0x0, 0x0⟩,
  ⟨0x40010100, 0x8, 24, 0x1, 1, 0x0, 0x8000FFFF, 0x0, 0x40000000, 0x0, 0x0, 0x0⟩,
  ⟨0x40010104, 0x8, 24, 0x1, 1, 0x0, 0x0, 0xC0FFFFFF, 0x0, 0x0, 0x0, 0x0⟩,
  ⟨0x4001001C, 0x1, 1, 0x1, 1, 0x0, 0x0, 0xFFFFFFFF, 0x0, 0x0, 0x0, 0x0⟩,
  ⟨0x40010020, 0x1, 1, 0x1, 1, 0x0, 0x0, 0x0, 0xFFFFFFFF, 0x0, 0x0, 0x0⟩,
  ⟨0x40010024, 0x1, 1, 0x1, 1, 0x0, 0x0, 0x0, 0xFFFFFFFF, 0x0, 0x0, 0x0⟩,
  ⟨0x40010034, 0x1, 1, 0x1, 1, 0x0, 0x0, 0x8000FFFF, 0x0, 0x0, 0x0, 0x0⟩,
  ⟨0x40010038, 0x1, 1, 0x1, 1, 0x0, 0x0, 0x3B3FFF, 0x0, 0x0, 0x0, 0x0⟩]

/-- Every row of the CLK window. -/
def rowsCLK : List RegRow := rowsCLK0

/-- Rows of the PWR window. -/
def rowsPWR0 : List RegRow := [
  ⟨0x40020000, 0x1, 1, 0x1, 1, 0x0, 0x0, 0x0, 0x0, 0x1FFF, 0x0, 0x0⟩,
  ⟨0x40020004, 0x1, 1, 0x1, 1, 0x1, 0x0, 0xFFFFFF0F, 0x0, 0x0, 0x0, 0x0⟩,
  ⟨0x40020010, 0x1, 1, 0x1, 1, 0x1EFD, 0xFFFFFF, 0x0, 0x0, 0x0, 0x0, 0x0⟩,
  ⟨0x40020014, 0x1, 1, 0x1, 1, 0x0, 0xFFFFF, 0x0, 0x0, 0x0, 0x0, 0x0⟩,
  ⟨0x40020020, 0x1, 1, 0x1, 1, 0x0, 0x0, 0x0, 0xFFFF0003, 0x0, 0x0, 0x0⟩,
  ⟨0x40020024, 0x1, 1, 0x1, 1, 0x3E8, 0x3FFF, 0x0, 0x80000000, 0x0, 0x0, 0x0⟩,
  ⟨0x40020100, 0x1, 1, 0x1, 1, 0x0, 0x0, 0xFFC0FFFF, 0x0, 0x0, 0x0, 0x0⟩,
  ⟨0x40020104, 0x1, 1, 0x1, 1, 0x0, 0x0, 0xC000FFFF, 0x0, 0x0, 0x0, 0x0⟩,
  ⟨0x40020180, 0x1, 1, 0x1, 1, 0x0, 0x0, 0xC000FFFF, 0x0, 0x0, 0x0, 0x0⟩,
  ⟨0x4002C000, 0x4, 4, 0x1, 1, 0x0, 0x0, 0xFFFFFFFF, 0x0, 0x0, 0x0, 0x0⟩,
  ⟨0x4002C010, 0x4, 4, 0x1, 1, 0x0, 0x0, 0xFFFFFFFF, 0x0, 0x0, 0x0, 0x0⟩,
  ⟨0x4002C020, 0x4, 34, 0x1, 1, 0x0, 0x0, 0xFFFFFFFF, 0x0, 0x0, 0x0, 0x0⟩,
  ⟨0x4002C0A8, 0x4, 11, 0x1, 1, 0x0, 0x0, 0xFFFFFFFF, 0x0, 0x0, 0x0, 0x0⟩,
  ⟨0x4002C0D4, 0x4, 16, 0x1, 1, 0x0, 0x0, 0xFFFFFFFF, 0x0, 0x0, 0x0, 0x0⟩,
  ⟨0x4002C114, 0x4, 12, 0x1, 1, 0x0, 0x0, 0xFFFFFFFF, 0x0, 0x0, 0x0, 0x0⟩]

/-- Every row of the PWR window. -/
def rowsPWR : List RegRow := rowsPWR0

/-- Rows of the CE window. -/
def rowsCE0 : List RegRow := [
  ⟨0x40100000, 0x10000, 8, 0x1, 1, 0x20400000, 0x0, 0xFFFFFFFF, 0x0, 0x0, 0x0, 0x0⟩,
  ⟨0x40100004, 0x10000, 8, 0x1, 1, 0x0, 0x0, 0x0, 0xFFFF0003, 0x0, 0x0, 0x0⟩,
  ⟨0x40100008, 0x10000, 8, 0x1, 1, 0x0, 0x0, 0x7FFFFF, 0x0, 0xC0000000, 0x0, 0x0⟩,
  ⟨0x40100020, 0x10000, 8, 0x1, 1, 0x0, 0x0, 0x0, 0xF07F7F00, 0x0, 0x0, 0x0⟩,
  ⟨0x40100024, 0x10000, 8, 0x1, 1, 0x0, 0x0, 0xFFFFFFFF, 0x0, 0x0, 0x0, 0x0⟩,
  ⟨0x40100040, 0x10000, 8, 0x1, 1, 0x0, 0x0, 0x0, 0xF77FFFFF, 0x0, 0x0, 0x0⟩,
  ⟨0x40100044, 0x10000, 8, 0x1, 1, 0x0, 0x0, 0xFFFFFF7F, 0x0, 0x0, 0x0, 0x0⟩,
  ⟨0x40100060, 0x10000, 8, 0x1, 1, 0x0, 0x80000FFF, 0x0, 0x0, 0x0, 0x0, 0x0⟩,
  ⟨0x40100074, 0x10000, 8, 0x1, 1, 0x0, 0x0, 0xFFFF0000, 0x3, 0x0, 0x0, 0x0⟩,
  ⟨0x40100100, 0x10000, 8, 0x20, 16, 0x0, 0x0, 0xFF000000, 0x0, 0x0, 0x0, 0xFFF000⟩,
  ⟨0x40100104, 0x10000, 8, 0x20, 16, 0x140000, 0x0, 0x0, 0x0, 0x0, 0x0, 0x7FF07FF⟩,
  ⟨0x40100108, 0x10000, 8, 0x20, 16, 0x100, 0x0, 0x0, 0x0, 0x0, 0x0, 0xFFFF⟩,
  ⟨0x4010010C, 0x10000, 8, 0x20, 16, 0x0, 0x0, 0x0, 0x0, 0x0, 0x0, 0x3FFFC⟩,
  ⟨0x40100110, 0x10000, 8, 0x20, 16, 0x0, 0x0, 0x0, 0x0, 0x0, 0x0, 0x8003FFFC⟩,
  ⟨0x40100114, 0x10000, 8, 0x20, 16, 0x0, 0x0, 0x3F7F, 0x0, 0x0, 0x0, 0x0⟩,
  ⟨0x40100118, 0x10000, 8, 0x20, 16, 0x0, 0x0, 0xF838FF0F, 0x0, 0x7C00000, 0x0, 0x0⟩,
  ⟨0x4010011C, 0x10000, 8, 0x20, 16, 0x0, 0x0, 0x0, 0x0, 0x0, 0x0, 0xFFFF⟩,
  ⟨0x40100F00, 0x10000, 8, 0x1, 1, 0x7, 0xF, 0x0, 0x0, 0x0, 0x0, 0x0⟩,
  ⟨0x40100F04, 0x10000, 8, 0x1, 1, 0xFF008000, 0x0, 0xFFFF80FF, 0x0, 0x4000, 0x0, 0x0⟩,
  ⟨0x40100028, 0x10000, 8, 0x1, 1, 0x0, 0xFFFFFFFF, 0x0, 0x0, 0x0, 0x0, 0x0⟩,
  ⟨0x4010002C, 0x10000, 8, 0x1, 1, 0x0, 0xFFFFFFFF, 0x0, 0x0, 0x0, 0x0, 0x0⟩,
  ⟨0x40100030, 0x10000, 8, 0x1, 1, 0x0, 0xFFFFFFFF, 0x0, 0x0, 0x0, 0x0, 0x0⟩,
  ⟨0x40100048, 0x10000, 8, 0x1, 1, 0x0, 0x0, 0xFFFFFFFF, 0x0, 0x0, 0x0, 0x0⟩,
  ⟨0x4010004C, 0x10000, 8, 0x1, 1, 0x0, 0x0, 0xFFFFFFFF, 0x0, 0x0, 0x0, 0x0⟩,
  ⟨0x40100064, 0x10000, 8, 0x4, 4, 0x0, 0xFFFFFFFF, 0x0, 0x0, 0x0, 0x0, 0x0⟩,
  ⟨0x40100F08, 0x10000, 8, 0x1, 1, 0x1, 0x1, 0x0, 0x0, 0x0, 0x0, 0x0⟩,
  ⟨0x40100F0C, 0x10000, 8, 0x1, 1, 0x0, 0x0, 0xFFFFFFFF, 0x0, 0x0, 0x0, 0x0⟩,
  ⟨0x4010C000, 0x10000, 8, 0x4, 5, 0x0, 0x0, 0xFFFFFFFF, 0x0, 0x0, 0x0, 0x0⟩,
  ⟨0x4010C014, 0x10000, 8, 0xC, 1, 0x0, 0x0, 0x0, 0x0, 0xFFFFFFFF, 0x0, 0x0⟩,
  ⟨0x4010C018, 0x10000, 8, 0xC, 1, 0x0, 0xFFFFFFFF, 0x0, 0x0, 0x0, 0x0, 0x0⟩,
  ⟨0x4010C01C, 0x10000, 8, 0xC, 1, 0x0, 0x3, 0x0, 0x0, 0x0, 0x0, 0x0⟩,
  ⟨0x4010C020, 0x10000, 8, 0x4, 2, 0x0, 0x0, 0xFFFFFFFF, 0x0, 0x0, 0x0, 0x0⟩,
  ⟨0x4010C028, 0x10000, 8, 0x4, 20, 0x0, 0x0, 0xFFFFFFFF, 0x0, 0x0, 0x0, 0x0⟩]

/-- Every row of the CE window. -/
def rowsCE : List RegRow := rowsCE0

/-- Rows of the UIN window. -/
def rowsUIN0 : List RegRow := [
  ⟨0x40300000, 0x20, 48, 0x1, 1, 0xA19, 0xFFFFFFFF, 0x0, 0x0, 0x0, 0x0, 0x0⟩,
  ⟨0x40300010, 0x20, 48, 0x1, 1, 0x0, 0x0, 0xFFFFFFFF, 0x0, 0x0, 0x0, 0x0⟩,
  ⟨0x40300A00, 0x8, 4, 0x1, 1, 0x0, 0x80000003, 0x0, 0x0, 0x0, 0x0, 0x0⟩,
  ⟨0x40300C00, 0x1, 1, 0x1, 1, 0x0, 0x0, 0x0, 0xF0000FC3, 0x0, 0x0, 0x0⟩,
  ⟨0x40300C04, 0x1, 1, 0x1, 1, 0x0, 0x0, 0xFFFFFFF1, 0x0, 0x0, 0x0, 0x0⟩,
  ⟨0x40300004, 0x20, 48, 0x1, 1, 0x3F800000, 0xFFFFFFFF, 0x0, 0x0, 0x0, 0x0, 0x0⟩,
  ⟨0x40300008, 0x20, 48, 0x1, 1, 0x0, 0xFFFFFFFF, 0x0, 0x0, 0x0, 0x0, 0x0⟩,
  ⟨0x4030000C, 0x20, 48, 0x1, 1, 0xFFFF0000, 0xFFFFFFFF, 0x0, 0x0, 0x0, 0x0, 0x0⟩,
  ⟨0x40300014, 0x20, 48, 0x1, 1, 0x0, 0x0, 0xFFFFFFFF, 0x0, 0x0, 0x0, 0x0⟩,
  ⟨0x40300800, 0x20, 4, 0x1, 1, 0xA00, 0xF800FF00, 0x0, 0x0, 0x0, 0x0, 0x0⟩,
  ⟨0x40300804, 0x20, 4, 0x1, 1, 0x3F800000, 0xFFFFFFFF, 0x0, 0x0, 0x0, 0x0, 0x0⟩,
  ⟨0x40300808, 0x20, 4, 0x1, 1, 0x0, 0xFFFFFFFF, 0x0, 0x0, 0x0, 0x0, 0x0⟩,
  ⟨0x4030080C, 0x20, 4, 0x1, 1, 0xFFFF0000, 0xFFFFFFFF, 0x0, 0x0, 0x0, 0x0, 0x0⟩,
  ⟨0x40300810, 0x20, 4, 0x1, 1, 0x0, 0x0, 0xFFFFFFFF, 0x0, 0x0, 0x0, 0x0⟩,
  ⟨0x40300814, 0x20, 4, 0x1, 1, 0x0, 0x0, 0xFFFFFFFF, 0x0, 0x0, 0x0, 0x0⟩,
  ⟨0x40300A04, 0x8, 4, 0x1, 1, 0x0, 0x0, 0xC000FFFF, 0x0, 0x0, 0x0, 0x0⟩,
  ⟨0x4030C000, 0x1, 1, 0x1, 1, 0x0, 0xF, 0x0, 0x0, 0x0, 0x0, 0x0⟩,
  ⟨0x4030C004, 0x1, 1, 0x1, 1, 0x0, 0x0, 0xFFFFFFFF, 0x0, 0x0, 0x0, 0x0⟩,
  ⟨0x4030C008, 0x1, 1, 0x1, 1, 0x0, 0x0, 0xFFFFFFFF, 0x0, 0x0, 0x0, 0x0⟩,
  ⟨0x4030C00C, 0x1, 1, 0x1, 1, 0x0, 0x0, 0xFFFFFFFF, 0x0, 0x0, 0x0, 0x0⟩,
  ⟨0x4030C010, 0x1, 1, 0x1, 1, 0x0, 0x0, 0xFFFFFFFF, 0x0, 0x0, 0x0, 0x0⟩,
  ⟨0x4030C014, 0x1, 1, 0x1, 1, 0x0, 0x0, 0xFFFFFFFF, 0x0, 0x0, 0x0, 0x0⟩]

/-- Every row of the UIN window. -/
def rowsUIN : List RegRow := rowsUIN0

/-- Rows of the LOS window. -/
def rowsLOS0 : List RegRow := [
  ⟨0x40310000, 0x40, 8, 0x1, 1, 0x4000064, 0xFC00FFFF, 0x0, 0x0, 0x0, 0x0, 0x0⟩,
  ⟨0x40310004, 0x40, 8, 0x1, 1, 0x4002000, 0xFFFFFFFF, 0x0, 0x0, 0x0, 0x0, 0x0⟩,
  ⟨0x40310018, 0x40, 8, 0x1, 1, 0x0, 0x0, 0xF0000000, 0x0, 0x0, 0x0, 0x0⟩,
  ⟨0x4031C000, 0x4, 8, 0x1, 1, 0x0, 0x0, 0xFFFFFFFF, 0x0, 0x0, 0x0, 0x0⟩,
  ⟨0x4031C020, 0x4, 8, 0x1, 1, 0x0, 0x0, 0xFFFFFFFF, 0x0, 0x0, 0x0, 0x0⟩,
  ⟨0x4031C040, 0x4, 8, 0x1, 1, 0x0, 0x0, 0xFFFFFFFF, 0x0, 0x0, 0x0, 0x0⟩,
  ⟨0x4031C060, 0x4, 8, 0x1, 1, 0x0, 0x0, 0xFFFFFFFF, 0x0, 0x0, 0x0, 0x0⟩,
  ⟨0x4031C080, 0x4, 8, 0x1, 1, 0xA, 0xFF, 0x0, 0x0, 0x0, 0x0, 0x0⟩,
  ⟨0x4031C0A0, 0x4, 8, 0x1, 1, 0x0, 0x0, 0xFFFFFFFF, 0x0, 0x0, 0x0, 0x0⟩,
  ⟨0x4031C0C0, 0x4, 8, 0x1, 1, 0x0, 0x0, 0xFFFFFFFF, 0x0, 0x0, 0x0, 0x0⟩,
  ⟨0x4031C0E0, 0x4, 8, 0x1, 1, 0x0, 0x0, 0xFFFFFFFF, 0x0, 0x0, 0x0, 0x0⟩,
  ⟨0x4031C100, 0x4, 8, 0x1, 1, 0x0, 0x0, 0xFFFFFFFF, 0x0, 0x0, 0x0, 0x0⟩,
  ⟨0x4031C120, 0x4, 8, 0x1, 1, 0x0, 0x0, 0xFFFFFFFF, 0x0, 0x0, 0x0, 0x0⟩,
  ⟨0x4031C140, 0x4, 8, 0x1, 1, 0x0, 0x0, 0xFFFFFFFF, 0x0, 0x0, 0x0, 0x0⟩]

/-- Every row of the LOS window. -/
def rowsLOS : List RegRow := rowsLOS0

/-- Rows of the MFP window. -/
def rowsMFP0 : List RegRow := [
  ⟨0x40320000, 0x20, 30, 0x1, 1, 0x0, 0xE0000000, 0x0, 0x0, 0x0, 0x0, 0x18FF0000⟩,
  ⟨0x4032001C, 0x20, 30, 0x1, 1, 0xC7F0, 0x0, 0xFFFFFFFF, 0x0, 0x0, 0x0, 0x0⟩,
  ⟨0x40320004, 0x20, 30, 0x1, 1, 0x0, 0xFFFFFFFF, 0x0, 0x0, 0x0, 0x0, 0x0⟩,
  ⟨0x40320008, 0x20, 30, 0x1, 1, 0x0, 0xFFFFFFFF, 0x0, 0x0, 0x0, 0x0, 0x0⟩,
  ⟨0x4032000C, 0x20, 30, 0x1, 1, 0x0, 0xFFFFFFFF, 0x0, 0x0, 0x0, 0x0, 0x0⟩,
  ⟨0x40320010, 0x20, 30, 0x1, 1, 0x0, 0x0, 0x0, 0x0, 0x0, 0x0, 0xFFFFFFFF⟩,
  ⟨0x40320014, 0x20, 30, 0x1, 1, 0x0, 0xFFFFFFFF, 0x0, 0x0, 0x0, 0x0, 0x0⟩,
  ⟨0x40320018, 0x20, 30, 0x1, 1, 0x0, 0xFFFFFFFF, 0x0, 0x0, 0x0, 0x0, 0x0⟩]

/-- Every row of the MFP window. -/
def rowsMFP : List RegRow := rowsMFP0

/-- Rows of the GNS window. -/
def rowsGNS0 : List RegRow := [
  ⟨0x40600000, 0x1, 1, 0x1, 1, 0x8000000A, 0x800000FF, 0x0, 0x40000000, 0x0, 0x0, 0x0⟩,
  ⟨0x40600010, 0x8, 2, 0x1, 1, 0x80000000, 0x8000FFFF, 0x0, 0x0, 0x0, 0x0, 0x0⟩,
  ⟨0x40600014, 0x8, 2, 0x1, 1, 0x0, 0x0, 0xE0FFFFFF, 0x0, 0x0, 0x0, 0x0⟩,
  ⟨0x40600020, 0x1, 1, 0x1, 1, 0x400000, 0xFF0000, 0xFF, 0x0, 0x0, 0x0, 0x0⟩,
  ⟨0x40600040, 0x4, 10, 0x1, 1, 0x80000004, 0x8000001F, 0x0, 0x0, 0x0, 0x0, 0x0⟩,
  ⟨0x40600100, 0x1, 1, 0x1, 1, 0x1E, 0xE0FF00FF, 0x0, 0x0, 0x0, 0x0, 0x0⟩,
  ⟨0x40600104, 0x1, 1, 0x1, 1, 0xFFFF, 0x0, 0xF800FFFF, 0x0, 0x0, 0x0, 0x0⟩,
  ⟨0x40600200, 0x1, 1, 0x1, 1, 0x18012C, 0xF8FF03FF, 0x0, 0x0, 0x0, 0x0, 0x0⟩,
  ⟨0x40600210, 0x8, 8, 0x1, 1, 0x0, 0x8000003F, 0x0, 0x0, 0x0, 0x0, 0x0⟩,
  ⟨0x40600214, 0x8, 8, 0x1, 1, 0x0, 0x0, 0xFFFFF000, 0x0, 0x0, 0xFF, 0x0⟩,
  ⟨0x40600300, 0x1, 1, 0x1, 1, 0x8064, 0xFFFFE1FF, 0x0, 0x0, 0x0, 0x0, 0x0⟩,
  ⟨0x40600304, 0x1, 1, 0x1, 1, 0x0, 0x0, 0xFFFF0001, 0x0, 0x0, 0x0, 0x0⟩,
  ⟨0x40600308, 0x1, 1, 0x1, 1, 0x0, 0x0, 0xFFFFFFFF, 0x0, 0x0, 0x0, 0x0⟩,
  ⟨0x4060030C, 0x1, 1, 0x1, 1, 0x0, 0x0, 0xFFFFFFFF, 0x0, 0x0, 0x0, 0x0⟩,
  ⟨0x40600180, 0x10, 4, 0x1, 1, 0x0, 0xFFFFFFFF, 0x0, 0x0, 0x0, 0x0, 0x0⟩,
  ⟨0x40600184, 0x10, 4, 0x1, 1, 0x0, 0xFFFFFFFF, 0x0, 0x0, 0x0, 0x0, 0x0⟩,
  ⟨0x40600188, 0x10, 4, 0x1, 1, 0x0, 0xFFFFFFFF, 0x0, 0x0, 0x0, 0x0, 0x0⟩,
  ⟨0x406001C0, 0x1, 1, 0x1, 1, 0x7D04650, 0xFFFFFFFF, 0x0, 0x0, 0x0, 0x0, 0x0⟩,
  ⟨0x4060C000, 0x4, 7, 0x1, 1, 0x0, 0x0, 0xFFFFFFFF, 0x0, 0x0, 0x0, 0x0⟩,
  ⟨0x4060C01C, 0x4, 4, 0x1, 1, 0x0, 0x0, 0xFFFFFFFF, 0x0, 0x0, 0x0, 0x0⟩,
  ⟨0x4060C02C, 0x4, 5, 0x1, 1, 0x0, 0x0, 0xFFFFFFFF, 0x0, 0x0, 0x0, 0x0⟩,
  ⟨0x4060C040, 0x4, 192, 0x1, 1, 0x0, 0x0, 0xFFFFFFFF, 0x0, 0x0, 0x0, 0x0⟩,
  ⟨0x4060C340, 0x4, 16, 0x1, 1, 0x0, 0xFFFFFFFF, 0x0, 0x0, 0x0, 0x0, 0x0⟩,
  ⟨0x4060C380, 0x4, 40, 0x1, 1, 0x0, 0x0, 0xFFFFFFFF, 0x0, 0x0, 0x0, 0x0⟩,
  ⟨0x4060C420, 0x4, 6, 0x1, 1, 0x0, 0xFFFFFFFF, 0x0, 0x0, 0x0, 0x0, 0x0⟩,
  ⟨0x4060C438, 0x4, 16, 0x1, 1, 0x0, 0x0, 0xFFFFFFFF, 0x0, 0x0, 0x0, 0x0⟩,
  ⟨0x4060C478, 0x4, 3, 0x1, 1, 0x0, 0x0, 0xFFFFFFFF, 0x0, 0x0, 0x0, 0x0⟩,
  ⟨0x4060C484, 0x1, 1, 0x1, 1, 0x0, 0x0, 0xFFFFFFFF, 0x0, 0x0, 0x0, 0x0⟩,
  ⟨0x4060C488, 0x4, 4, 0x1, 1, 0x0, 0x0, 0xFFFFFFFF, 0x0, 0x0, 0x0, 0x0⟩,
  ⟨0x4060C498, 0x4, 16, 0x1, 1, 0x0, 0x0, 0xFFFFFFFF, 0x0, 0x0, 0x0, 0x0⟩,
  ⟨0x4060C4D8, 0x4, 26, 0x1, 1, 0x0, 0x0, 0xFFFFFFFF, 0x0, 0x0, 0x0, 0x0⟩,
  ⟨0x4060C540, 0x4, 32, 0x1, 1, 0x0, 0x0, 0xFFFFFFFF, 0x0, 0x0, 0x0, 0x0⟩]

/-- Every row of the GNS window. -/
def rowsGNS : List RegRow := rowsGNS0

/-- Rows of the CAM window. -/
def rowsCAM0 : List RegRow := [
  ⟨0x40400000, 0x100, 6, 0x1, 1, 0x60000000, 0xFC000000, 0x0, 0x0, 0x0, 0x0, 0x0⟩,
  ⟨0x40400004, 0x100, 6, 0x1, 1, 0x0, 0x0, 0xFFFFF000, 0x0, 0x0, 0xFFF, 0x0⟩,
  ⟨0x40400010, 0x100, 6, 0x4, 4, 0x27800438, 0xFFFF1FFF, 0x0, 0x0, 0x0, 0x0, 0x0⟩,
  ⟨0x40400028, 0x100, 6, 0x1, 1, 0x0, 0xFFFFFFFF, 0x0, 0x0, 0x0, 0x0, 0x0⟩,
  ⟨0x40400030, 0x100, 6, 0x1, 1, 0x40800, 0xFFFFFF01, 0x0, 0x0, 0x0, 0x0, 0x0⟩,
  ⟨0x40400620, 0x40, 6, 0x1, 1, 0x21000000, 0xFFF0FFFF, 0x0, 0x0, 0x0, 0x0, 0x0⟩,
  ⟨0x40400628, 0x40, 6, 0x1, 1, 0x0, 0x0, 0xFFFF8000, 0x0, 0x0, 0x0, 0x0⟩,
  ⟨0x40400800, 0x10, 3, 0x1, 1, 0x1300000, 0xBFF00000, 0x0, 0x0, 0x0, 0x0, 0x0⟩,
  ⟨0x40400804, 0x10, 3, 0x1, 1, 0x0, 0x0, 0xFFFFFFFF, 0x0, 0x0, 0x0, 0x0⟩,
  ⟨0x40400900, 0x20, 6, 0x1, 1, 0x2710, 0xF7FCFFFF, 0x0, 0x0, 0x0, 0x0, 0x0⟩,
  ⟨0x40400914, 0x20, 6, 0x1, 1, 0x0, 0x0, 0xFF80, 0x0, 0x0, 0xFFFF0000, 0x0⟩,
  ⟨0x40400B00, 0x1, 1, 0x1, 1, 0x0, 0xFC070000, 0x0, 0x0, 0x0, 0xFFFF, 0x0⟩,
  ⟨0x40400020, 0x100, 6, 0x1, 1, 0x0, 0xFFFFFFFF, 0x0, 0x0, 0x0, 0x0, 0x0⟩,
  ⟨0x40400024, 0x100, 6, 0x1, 1, 0x0, 0xFFFFFFFF, 0x0, 0x0, 0x0, 0x0, 0x0⟩,
  ⟨0x4040002C, 0x100, 6, 0x1, 1, 0x0, 0x0, 0xFFFFFFFF, 0x0, 0x0, 0x0, 0x0⟩,
  ⟨0x40400034, 0x100, 6, 0x1, 1, 0x0, 0xFFFFFFFF, 0x0, 0x0, 0x0, 0x0, 0x0⟩,
  ⟨0x40400600, 0x40, 6, 0x4, 8, 0x0, 0xFFFF00FF, 0x0, 0x0, 0x0, 0x0, 0x0⟩,
  ⟨0x40400624, 0x40, 6, 0x1, 1, 0x0, 0x0, 0x0, 0x1, 0x0, 0x0, 0x0⟩,
  ⟨0x4040062C, 0x40, 6, 0x1, 1, 0x0, 0x0, 0xFFFFFFFF, 0x0, 0x0, 0x0, 0x0⟩,
  ⟨0x40400630, 0x40, 6, 0x1, 1, 0x0, 0x0, 0xFFFFFFFF, 0x0, 0x0, 0x0, 0x0⟩,
  ⟨0x40400634, 0x40, 6, 0x1, 1, 0x0, 0x0, 0xFFFFFFFF, 0x0, 0x0, 0x0, 0x0⟩,
  ⟨0x40400808, 0x10, 3, 0x1, 1, 0x0, 0x0, 0xFFFFFFFF, 0x0, 0x0, 0x0, 0x0⟩,
  ⟨0x40400904, 0x20, 6, 0x1, 1, 0x0, 0xFFFFFFFF, 0x0, 0x0, 0x0, 0x0, 0x0⟩,
  ⟨0x40400908, 0x20, 6, 0x1, 1, 0x0, 0xFFFFFFFF, 0x0, 0x0, 0x0, 0x0, 0x0⟩,
  ⟨0x4040090C, 0x20, 6, 0x1, 1, 0x0, 0xFFFFFFFF, 0x0, 0x0, 0x0, 0x0, 0x0⟩,
  ⟨0x40400910, 0x20, 6, 0x1, 1, 0x0, 0xFFFFFFFF, 0x0, 0x0, 0x0, 0x0, 0x0⟩,
  ⟨0x40401000, 0x40, 8, 0x1, 1, 0x0, 0xFFF0FFF, 0x0, 0x0, 0x0, 0x0, 0x0⟩,
  ⟨0x40401004, 0x40, 8, 0x1, 1, 0x0, 0xFFF0FFF, 0x0, 0x0, 0x0, 0x0, 0x0⟩,
  ⟨0x40401008, 0x40, 8, 0x1, 1, 0x10001000, 0xFFFFFFFF, 0x0, 0x0, 0x0, 0x0, 0x0⟩,
  ⟨0x4040100C, 0x40, 8, 0x1, 1, 0x10001000, 0xFFFFFFFF, 0x0, 0x0, 0x0, 0x0, 0x0⟩,
  ⟨0x40401010, 0x40, 8, 0x1, 1, 0x10000000, 0xFFFFFFFF, 0x0, 0x0, 0x0, 0x0, 0x0⟩,
  ⟨0x40401014, 0x40, 8, 0x1, 1, 0x0, 0xFFFFFFFF, 0x0, 0x0, 0x0, 0x0, 0x0⟩,
  ⟨0x40401018, 0x40, 8, 0x1, 1, 0x10000000, 0xFFFFFFFF, 0x0, 0x0, 0x0, 0x0, 0x0⟩,
  ⟨0x4040101C, 0x40, 8, 0x1, 1, 0x0, 0xFFFFFFFF, 0x0, 0x0, 0x0, 0x0, 0x0⟩,
  ⟨0x40401020, 0x40, 8, 0x1, 1, 0x10000000, 0xFFFFFFFF, 0x0, 0x0, 0x0, 0x0, 0x0⟩,
  ⟨0x40401024, 0x40, 8, 0x1, 1, 0x0, 0x3FFFFFFF, 0x0, 0x0, 0x0, 0x0, 0x0⟩,
  ⟨0x40401028, 0x40, 8, 0x1, 1, 0x0, 0xFFFFFFFF, 0x0, 0x0, 0x0, 0x0, 0x0⟩,
  ⟨0x4040102C, 0x40, 8, 0x1, 1, 0x0, 0xFFFFFFFF, 0x0, 0x0, 0x0, 0x0, 0x0⟩,
  ⟨0x40401030, 0x40, 8, 0x1, 1, 0x0, 0xF, 0x0, 0x0, 0x0, 0x0, 0x0⟩,
  ⟨0x40401034, 0x40, 8, 0x4, 3, 0x0, 0xFFFFFFFF, 0x0, 0x0, 0x0, 0x0, 0x0⟩]

/-- Rows of the CAM window. -/
def rowsCAM1 : List RegRow := [
  ⟨0x4040C000, 0x4, 6, 0x1, 1, 0x0, 0x0, 0xFFFFFFFF, 0x0, 0x0, 0x0, 0x0⟩,
  ⟨0x4040C018, 0x4, 6, 0x1, 1, 0x0, 0x0, 0xFFFFFFFF, 0x0, 0x0, 0x0, 0x0⟩,
  ⟨0x4040C030, 0x4, 60, 0x1, 1, 0x0, 0x0, 0xFFFFFFFF, 0x0, 0x0, 0x0, 0x0⟩,
  ⟨0x4040C120, 0x4, 3, 0x1, 1, 0x0, 0x0, 0xFFFFFFFF, 0x0, 0x0, 0x0, 0x0⟩,
  ⟨0x4040C12C, 0x4, 12, 0x1, 1, 0x0, 0x0, 0xFFFFFFFF, 0x0, 0x0, 0x0, 0x0⟩,
  ⟨0x4040C15C, 0x4, 8, 0x1, 1, 0x0, 0x0, 0xFFFFFFFF, 0x0, 0x0, 0x0, 0x0⟩,
  ⟨0x4040C17C, 0x4, 7, 0x1, 1, 0x0, 0x0, 0xFFFFFFFF, 0x0, 0x0, 0x0, 0x0⟩,
  ⟨0x4040C198, 0xC, 10, 0x1, 1, 0x0, 0x0, 0x0, 0x0, 0xFFFFFFFF, 0x0, 0x0⟩,
  ⟨0x4040C19C, 0xC, 10, 0x1, 1, 0x0, 0xFFFFFFFF, 0x0, 0x0, 0x0, 0x0, 0x0⟩,
  ⟨0x4040C1A0, 0xC, 10, 0x1, 1, 0x0, 0x3, 0x0, 0x0, 0x0, 0x0, 0x0⟩,
  ⟨0x4040C210, 0x4, 2, 0x1, 1, 0x0, 0x0, 0xFFFFFFFF, 0x0, 0x0, 0x0, 0x0⟩,
  ⟨0x4040C218, 0x4, 56, 0x1, 1, 0x0, 0x0, 0xFFFFFFFF, 0x0, 0x0, 0x0, 0x0⟩]

/-- Every row of the CAM window. -/
def rowsCAM : List RegRow := rowsCAM0 ++ rowsCAM1

/-- Rows of the FUS window. -/
def rowsFUS0 : List RegRow := [
  ⟨0x40500000, 0x1, 1, 0x1, 1, 0x0, 0x0, 0xFFFFFFFF, 0x0, 0x0, 0x0, 0x0⟩,
  ⟨0x40500010, 0x1, 1, 0x1, 1, 0x1403C01E, 0xFFFFF0FF, 0x0, 0x0, 0x0, 0x0, 0x0⟩,
  ⟨0x40500020, 0x4, 4, 0x1, 1, 0x0, 0x8FC0FFFF, 0x0, 0x0, 0x0, 0x0, 0x0⟩,
  ⟨0x40500040, 0x1, 1, 0x1, 1, 0xC02B9914, 0xFFFFFFFF, 0x0, 0x0, 0x0, 0x0, 0x0⟩,
  ⟨0x40500044, 0x1, 1, 0x1, 1, 0x28500A50, 0xFFFFFFFF, 0x0, 0x0, 0x0, 0x0, 0x0⟩,
  ⟨0x40500100, 0x20, 8, 0x1, 1, 0x4E20, 0xFFFEFFFF, 0x0, 0x0, 0x0, 0x0, 0x0⟩,
  ⟨0x40500004, 0x1, 1, 0x1, 1, 0x0, 0x0, 0xFFFF, 0x0, 0x0, 0x0, 0x0⟩,
  ⟨0x40500018, 0x1, 1, 0x1, 1, 0x0, 0x0, 0x0, 0x0, 0x0, 0xFFFFFFFF, 0x0⟩,
  ⟨0x40500050, 0x1, 1, 0x1, 1, 0x0, 0xFFFFFFFF, 0x0, 0x0, 0x0, 0x0, 0x0⟩,
  ⟨0x40500054, 0x1, 1, 0x1, 1, 0x0, 0xFFFFFFFF, 0x0, 0x0, 0x0, 0x0, 0x0⟩,
  ⟨0x40500058, 0x1, 1, 0x1, 1, 0x0, 0x0, 0xFFFFFFFF, 0x0, 0x0, 0x0, 0x0⟩,
  ⟨0x4050005C, 0x1, 1, 0x1, 1, 0x0, 0x0, 0x0, 0x0, 0x0, 0xFFFFFFFF, 0x0⟩,
  ⟨0x40500060, 0x1, 1, 0x1, 1, 0x14, 0xFF, 0x0, 0x0, 0x0, 0x0, 0x0⟩,
  ⟨0x40500070, 0x1, 1, 0x1, 1, 0xF, 0xFF, 0x0, 0x0, 0x0, 0x0, 0x0⟩,
  ⟨0x40500074, 0x1, 1, 0x1, 1, 0x0, 0x0, 0x0, 0xFFFF0001, 0x0, 0x0, 0x0⟩,
  ⟨0x40500078, 0x1, 1, 0x1, 1, 0x0, 0x0, 0xFFFF0FFF, 0x0, 0x0, 0x0, 0x0⟩,
  ⟨0x40500104, 0x20, 8, 0x1, 1, 0x0, 0xFFFFFFFF, 0x0, 0x0, 0x0, 0x0, 0x0⟩,
  ⟨0x40500108, 0x20, 8, 0x1, 1, 0x0, 0xFFFFFFFF, 0x0, 0x0, 0x0, 0x0, 0x0⟩,
  ⟨0x4050010C, 0x20, 8, 0x1, 1, 0x0, 0xFFFFFFFF, 0x0, 0x0, 0x0, 0x0, 0x0⟩,
  ⟨0x40500110, 0x20, 8, 0x1, 1, 0x0, 0x0, 0xFFFFFFFF, 0x0, 0x0, 0x0, 0x0⟩,
  ⟨0x40500200, 0x4, 12, 0x1, 1, 0x0, 0xFFFF, 0x0, 0x0, 0x0, 0x0, 0x0⟩,
  ⟨0x40500240, 0x8, 6, 0x1, 1, 0x0, 0xC000FFFF, 0x0, 0x0, 0x0, 0x0, 0x0⟩,
  ⟨0x40500244, 0x8, 6, 0x1, 1, 0x0, 0x0, 0xFF, 0x0, 0x0, 0xFFFF0000, 0x0⟩,
  ⟨0x4050C000, 0x4, 4, 0x1, 1, 0x0, 0x0, 0xFFFFFFFF, 0x0, 0x0, 0x0, 0x0⟩,
  ⟨0x4050C010, 0x4, 4, 0x1, 1, 0x0, 0x0, 0xFFFFFFFF, 0x0, 0x0, 0x0, 0x0⟩,
  ⟨0x4050C020, 0x4, 4, 0x1, 1, 0x0, 0x0, 0xFFFFFFFF, 0x0, 0x0, 0x0, 0x0⟩,
  ⟨0x4050C030, 0x4, 2, 0x1, 1, 0x0, 0x0, 0xFFFFFFFF, 0x0, 0x0, 0x0, 0x0⟩,
  ⟨0x4050C038, 0x4, 9, 0x1, 1, 0x0, 0xFFFFFFFF, 0x0, 0x0, 0x0, 0x0, 0x0⟩,
  ⟨0x4050C05C, 0x4, 12, 0x1, 1, 0x0, 0xFFFFFFFF, 0x0, 0x0, 0x0, 0x0, 0x0⟩,
  ⟨0x4050C08C, 0x4, 3, 0x1, 1, 0x0, 0x0, 0xFFFFFFFF, 0x0, 0x0, 0x0, 0x0⟩,
  ⟨0x4050C098, 0x4, 18, 0x1, 1, 0x0, 0x0, 0xFFFFFFFF, 0x0, 0x0, 0x0, 0x0⟩,
  ⟨0x4050C0E0, 0x4, 4, 0x1, 1, 0x0, 0x0, 0xFFFFFFFF, 0x0, 0x0, 0x0, 0x0⟩,
  ⟨0x4050C0F0, 0x4, 4, 0x1, 1, 0x0, 0x0, 0xFFFFFFFF, 0x0, 0x0, 0x0, 0x0⟩,
  ⟨0x4050C100, 0x4, 4, 0x1, 1, 0x0, 0x0, 0xFFFFFFFF, 0x0, 0x0, 0x0, 0x0⟩,
  ⟨0x4050C110, 0x4, 72, 0x1, 1, 0x0, 0x0, 0xFFFFFFFF, 0x0, 0x0, 0x0, 0x0⟩,
  ⟨0x4050C230, 0x4, 9, 0x1, 1, 0x0, 0x0, 0xFFFFFFFF, 0x0, 0x0, 0x0, 0x0⟩,
  ⟨0x4050C254, 0x4, 24, 0x1, 1, 0x0, 0x0, 0xFFFFFFFF, 0x0, 0x0, 0x0, 0x0⟩,
  ⟨0x4050C2B4, 0x4, 5, 0x1, 1, 0x0, 0x0, 0xFFFFFFFF, 0x0, 0x0, 0x0, 0x0⟩]

/-- Every row of the FUS window. -/
def rowsFUS : List RegRow := rowsFUS0

/-- Rows of the FLR window. -/
def rowsFLR0 : List RegRow := [
  ⟨0x40700000, 0x1, 1, 0x1, 1, 0x101E0000, 0xFFFF00FF, 0x0, 0x0, 0x0, 0x0, 0x0⟩,
  ⟨0x40700004, 0x1, 1, 0x1, 1, 0x0, 0x0, 0xFFFFF73F, 0x0, 0x800, 0x0, 0x0⟩,
  ⟨0x40700010, 0x1, 1, 0x1, 1, 0x20, 0xFFFF00FF, 0x0, 0x0, 0x0, 0x0, 0x0⟩,
  ⟨0x40700014, 0x1, 1, 0x1, 1, 0x2E, 0xFF, 0xF0000000, 0x0, 0x0, 0x0, 0x0⟩,
  ⟨0x40700020, 0x4, 4, 0x1, 1, 0x0, 0xFF000000, 0xFFFF, 0x0, 0x0, 0x0, 0x0⟩,
  ⟨0x40700040, 0x1, 1, 0x1, 1, 0x3C, 0xFFFF, 0x0, 0x0, 0x0, 0x0, 0x0⟩,
  ⟨0x40700044, 0x1, 1, 0x1, 1, 0x0, 0x0, 0xFFFFFF80, 0x0, 0x0, 0x0, 0x0⟩,
  ⟨0x40700060, 0x1, 1, 0x1, 1, 0x0, 0xBF000000, 0x0, 0x40000000, 0x0, 0x0, 0x0⟩,
  ⟨0x4070006C, 0x1, 1, 0x1, 1, 0x0, 0x0, 0xFFFFFF00, 0x0, 0x0, 0x0, 0x0⟩,
  ⟨0x40700100, 0x4, 64, 0x1, 1, 0xFF0000, 0x0, 0xC0FFFFFF, 0x0, 0x0, 0x0, 0x0⟩,
  ⟨0x40700008, 0x1, 1, 0x1, 1, 0x0, 0x0, 0xFFFFFFFF, 0x0, 0x0, 0x0, 0x0⟩,
  ⟨0x40700018, 0x1, 1, 0x1, 1, 0x0, 0xC000FFFF, 0x0, 0x0, 0x0, 0x0, 0x0⟩,
  ⟨0x40700048, 0x1, 1, 0x1, 1, 0x0, 0xFDFBFF, 0x0, 0x0, 0x0, 0x0, 0x0⟩,
  ⟨0x40700064, 0x1, 1, 0x1, 1, 0x0, 0xFFFFFFFF, 0x0, 0x0, 0x0, 0x0, 0x0⟩,
  ⟨0x40700068, 0x1, 1, 0x1, 1, 0x0, 0xFFFFFFFF, 0x0, 0x0, 0x0, 0x0, 0x0⟩,
  ⟨0x40700070, 0x4, 4, 0x1, 1, 0x0, 0xFFFFFFFF, 0x0, 0x0, 0x0, 0x0, 0x0⟩,
  ⟨0x4070C000, 0x1, 1, 0x1, 1, 0x0, 0x0, 0xFFFFFFFF, 0x0, 0x0, 0x0, 0x0⟩,
  ⟨0x4070C004, 0x1, 1, 0x1, 1, 0x0, 0x0, 0xFFFFFFFF, 0x0, 0x0, 0x0, 0x0⟩,
  ⟨0x4070C008, 0x4, 5, 0x1, 1, 0x0, 0x0, 0xFFFFFFFF, 0x0, 0x0, 0x0, 0x0⟩,
  ⟨0x4070C01C, 0x4, 64, 0x1, 1, 0x0, 0x0, 0xFFFFFFFF, 0x0, 0x0, 0x0, 0x0⟩,
  ⟨0x4070C11C, 0x4, 4, 0x1, 1, 0x0, 0x0, 0xFFFFFFFF, 0x0, 0x0, 0x0, 0x0⟩,
  ⟨0x4070C12C, 0x4, 16, 0x1, 1, 0x0, 0x0, 0xFFFFFFFF, 0x0, 0x0, 0x0, 0x0⟩,
  ⟨0x4070C16C, 0x4, 16, 0x1, 1, 0x0, 0x0, 0xFFFFFFFF, 0x0, 0x0, 0x0, 0x0⟩,
  ⟨0x4070C1AC, 0xC, 2, 0x1, 1, 0x0, 0x0, 0x0, 0x0, 0xFFFFFFFF, 0x0, 0x0⟩,
  ⟨0x4070C1B0, 0xC, 2, 0x1, 1, 0x0, 0xFFFFFFFF, 0x0, 0x0, 0x0, 0x0, 0x0⟩,
  ⟨0x4070C1B4, 0xC, 2, 0x1, 1, 0x0, 0x3, 0x0, 0x0, 0x0, 0x0, 0x0⟩,
  ⟨0x4070C1C4, 0x4, 2, 0x1, 1, 0x0, 0x0, 0xFFFFFFFF, 0x0, 0x0, 0x0, 0x0⟩]

/-- Every row of the FLR window. -/
def rowsFLR : List RegRow := rowsFLR0

/-- Rows of the DMA window. -/
def rowsDMA0 : List RegRow := [
  ⟨0x40050000, 0x40, 32, 0x1, 1, 0x30000000, 0x80200000, 0x0, 0x0, 0x0, 0x0, 0x77DFC000⟩,
  ⟨0x40050018, 0x40, 32, 0x1, 1, 0x10000000, 0x0, 0xFFFF0000, 0x0, 0x0, 0x0, 0x0⟩,
  ⟨0x4005002C, 0x40, 32, 0x1, 1, 0x0, 0x0, 0xFFFFFFFF, 0x0, 0x0, 0x0, 0x0⟩,
  ⟨0x40051020, 0x1, 1, 0x1, 1, 0x0, 0x0, 0x0, 0x9F000000, 0x0, 0x0, 0x0⟩,
  ⟨0x40050004, 0x40, 32, 0x1, 1, 0x0, 0xFFFFFFFF, 0x0, 0x0, 0x0, 0x0, 0x0⟩,
  ⟨0x40050008, 0x40, 32, 0x1, 1, 0x0, 0xFFFFFFFF, 0x0, 0x0, 0x0, 0x0, 0x0⟩,
  ⟨0x4005000C, 0x40, 32, 0x1, 1, 0x0, 0x0, 0x0, 0x0, 0x0, 0x0, 0xFFFF⟩,
  ⟨0x40050010, 0x40, 32, 0x1, 1, 0x0, 0xFFFF, 0x0, 0x0, 0x0, 0x0, 0x0⟩,
  ⟨0x40050014, 0x40, 32, 0x1, 1, 0x0, 0x0, 0xFFFF, 0x0, 0x0, 0x0, 0x0⟩,
  ⟨0x4005001C, 0x40, 32, 0x1, 1, 0x0, 0x0, 0xFFFFFFFF, 0x0, 0x0, 0x0, 0x0⟩,
  ⟨0x40050020, 0x40, 32, 0x1, 1, 0x0, 0x0, 0x0, 0x3, 0x0, 0x0, 0x0⟩,
  ⟨0x40050024, 0x40, 32, 0x1, 1, 0x0, 0x0, 0xFFFFFFFF, 0x0, 0x0, 0x0, 0x0⟩,
  ⟨0x40050028, 0x40, 32, 0x1, 1, 0x0, 0x0, 0xFFFFFFFF, 0x0, 0x0, 0x0, 0x0⟩,
  ⟨0x40051000, 0x4, 3, 0x1, 1, 0x0, 0x9F9F9F9F, 0x0, 0x0, 0x0, 0x0, 0x0⟩,
  ⟨0x4005100C, 0x1, 1, 0x1, 1, 0x0, 0x9F9F9F00, 0x0, 0x0, 0x0, 0x0, 0x0⟩,
  ⟨0x40051010, 0x4, 4, 0x1, 1, 0x0, 0x0, 0xFFFFFFFF, 0x0, 0x0, 0x0, 0x0⟩,
  ⟨0x40051030, 0x4, 3, 0x1, 1, 0x0, 0x9F9F9F9F, 0x0, 0x0, 0x0, 0x0, 0x0⟩,
  ⟨0x40051024, 0x1, 1, 0x1, 1, 0x0, 0xFFFFFFFF, 0x0, 0x0, 0x0, 0x0, 0x0⟩,
  ⟨0x40051028, 0x1, 1, 0x1, 1, 0x0, 0xFFFFFFFF, 0x0, 0x0, 0x0, 0x0, 0x0⟩,
  ⟨0x4005102C, 0x1, 1, 0x1, 1, 0x0, 0x0, 0x80000000, 0x0, 0x0, 0x0, 0x0⟩,
  ⟨0x40051040, 0x1, 1, 0x1, 1, 0x0, 0xFFFFFFFF, 0x0, 0x0, 0x0, 0x0, 0x0⟩,
  ⟨0x40051044, 0x1, 1, 0x1, 1, 0x0, 0xFFFFFFFF, 0x0, 0x0, 0x0, 0x0, 0x0⟩,
  ⟨0x4005C000, 0x1, 1, 0x1, 1, 0x0, 0x0, 0xFFFFFFFF, 0x0, 0x0, 0x0, 0x0⟩,
  ⟨0x4005C004, 0x1, 1, 0x1, 1, 0x0, 0x0, 0xFFFFFFFF, 0x0, 0x0, 0x0, 0x0⟩,
  ⟨0x4005C008, 0x1, 1, 0x1, 1, 0x0, 0x0, 0xFFFFFFFF, 0x0, 0x0, 0x0, 0x0⟩,
  ⟨0x4005C00C, 0x1, 1, 0x1, 1, 0x0, 0x0, 0xFFFFFFFF, 0x0, 0x0, 0x0, 0x0⟩,
  ⟨0x4005C010, 0x4, 4, 0x1, 1, 0x0, 0x0, 0xFFFFFFFF, 0x0, 0x0, 0x0, 0x0⟩,
  ⟨0x4005C020, 0x4, 4, 0x1, 1, 0x0, 0x0, 0xFFFFFFFF, 0x0, 0x0, 0x0, 0x0⟩,
  ⟨0x4005C030, 0x1, 1, 0x1, 1, 0x0, 0x0, 0xFFFFFFFF, 0x0, 0x0, 0x0, 0x0⟩,
  ⟨0x4005C034, 0x1, 1, 0x1, 1, 0x0, 0x0, 0xFFFFFFFF, 0x0, 0x0, 0x0, 0x0⟩,
  ⟨0x4005C038, 0x1, 1, 0x1, 1, 0x0, 0x0, 0xFFFFFFFF, 0x0, 0x0, 0x0, 0x0⟩]

/-- Every row of the DMA window. -/
def rowsDMA : List RegRow := rowsDMA0

/-- Rows of the MBX window. -/
def rowsMBX0 : List RegRow := [
  ⟨0x40040000, 0x20, 64, 0x1, 1, 0x0, 0x0, 0x0, 0x0, 0x0, 0x0, 0xFFFFFFC0⟩,
  ⟨0x40040004, 0x20, 64, 0x1, 1, 0x0, 0x0, 0x0, 0x0, 0x0, 0x0, 0xBF0000FF⟩,
  ⟨0x40040008, 0x20, 64, 0x1, 1, 0x0, 0x0, 0xF80000FF, 0x0, 0x0, 0x0, 0x0⟩,
  ⟨0x4004000C, 0x20, 64, 0x1, 1, 0x0, 0x0, 0x0, 0xFFFF0001, 0x0, 0x0, 0x0⟩,
  ⟨0x40040010, 0x20, 64, 0x1, 1, 0x0, 0x0, 0xFFFF8000, 0x0, 0x0, 0x0, 0x0⟩,
  ⟨0x40040014, 0x20, 64, 0x1, 1, 0x0, 0x0, 0x0, 0xFFFF, 0x0, 0x0, 0x0⟩,
  ⟨0x40040018, 0x20, 64, 0x1, 1, 0x0, 0x0, 0xFFFF0000, 0x0, 0x0, 0x0, 0x0⟩,
  ⟨0x4004001C, 0x20, 64, 0x1, 1, 0x0, 0x0, 0xFFFF8000, 0x0, 0x0, 0x0, 0x0⟩,
  ⟨0x40041000, 0x10, 32, 0x1, 1, 0x0, 0x3F, 0x0, 0x0, 0x0, 0x0, 0x0⟩,
  ⟨0x40041004, 0x10, 32, 0x1, 1, 0x0, 0x0, 0x0, 0xFFFFFFFF, 0x0, 0x0, 0x0⟩,
  ⟨0x40041008, 0x10, 32, 0x1, 1, 0x0, 0x0, 0x0, 0x0, 0xFFFFFFFF, 0x0, 0x0⟩,
  ⟨0x40041400, 0x1, 1, 0x1, 1, 0xC8, 0xFFFF, 0x0, 0x0, 0x0, 0x0, 0x0⟩,
  ⟨0x40041404, 0x1, 1, 0x1, 1, 0x0, 0x0, 0x0, 0xFFFF003F, 0x0, 0x0, 0x0⟩,
  ⟨0x40041408, 0x1, 1, 0x1, 1, 0x0, 0x0, 0xFFFF, 0x0, 0x0, 0x0, 0x0⟩,
  ⟨0x40048000, 0x40, 64, 0x4, 16, 0x0, 0xFFFFFFFF, 0x0, 0x0, 0x0, 0x0, 0x0⟩,
  ⟨0x4004C000, 0x4, 2, 0x1, 1, 0x0, 0x0, 0xFFFFFFFF, 0x0, 0x0, 0x0, 0x0⟩,
  ⟨0x4004C008, 0x4, 2, 0x1, 1, 0x0, 0x0, 0xFFFFFFFF, 0x0, 0x0, 0x0, 0x0⟩,
  ⟨0x4004C010, 0x4, 22, 0x1, 1, 0x0, 0x0, 0xFFFFFFFF, 0x0, 0x0, 0x0, 0x0⟩,
  ⟨0x4004C068, 0xC, 1, 0x1, 1, 0x0, 0x0, 0x0, 0x0, 0xFFFFFFFF, 0x0, 0x0⟩,
  ⟨0x4004C06C, 0xC, 1, 0x1, 1, 0x0, 0xFFFFFFFF, 0x0, 0x0, 0x0, 0x0, 0x0⟩,
  ⟨0x4004C070, 0xC, 1, 0x1, 1, 0x0, 0x3, 0x0, 0x0, 0x0, 0x0, 0x0⟩]

/-- Every row of the MBX window. -/
def rowsMBX : List RegRow := rowsMBX0

/-- Rows of the CAN window. -/
def rowsCAN0 : List RegRow := [
  ⟨0x40800000, 0x10000, 6, 0x1, 1, 0x4000064, 0x8C00FFFF, 0x0, 0x0, 0x0, 0x0, 0x72000000⟩,
  ⟨0x40800004, 0x10000, 6, 0x1, 1, 0x11F90200, 0x0, 0x0, 0x0, 0x0, 0x0, 0xFFFFFFE0⟩,
  ⟨0x40800008, 0x10000, 6, 0x1, 1, 0xBE84000, 0x0, 0x0, 0x0, 0x0, 0x0, 0xFFFFF800⟩,
  ⟨0x4080000C, 0x10000, 6, 0x1, 1, 0x1000, 0x0, 0x0, 0x0, 0x0, 0x0, 0x80003F80⟩,
  ⟨0x40800010, 0x10000, 6, 0x1, 1, 0xC000, 0x0, 0xFFFFDFC0, 0x0, 0x2000, 0x7, 0x0⟩,
  ⟨0x40800020, 0x10000, 6, 0x1, 1, 0x8000000, 0xF800000F, 0x0, 0x0, 0x0, 0x0, 0x0⟩,
  ⟨0x40800100, 0x10000, 6, 0x1, 1, 0x0, 0xC00001FF, 0x0, 0x0, 0x0, 0x0, 0x0⟩,
  ⟨0x4080011C, 0x10000, 6, 0x1, 1, 0x0, 0x0, 0xFFFF0000, 0x3, 0x0, 0x0, 0x0⟩,
  ⟨0x40800200, 0x10000, 6, 0x8, 12, 0x0, 0x81FF01FF, 0x0, 0x0, 0x0, 0x0, 0x0⟩,
  ⟨0x40800014, 0x10000, 6, 0x1, 1, 0x0, 0x0, 0xFFFFFFFF, 0x0, 0x0, 0x0, 0x0⟩,
  ⟨0x40800024, 0x10000, 6, 0x1, 1, 0x0, 0xFFFFFFFF, 0x0, 0x0, 0x0, 0x0, 0x0⟩,
  ⟨0x40800028, 0x10000, 6, 0x1, 1, 0x0, 0xFFFFFFFF, 0x0, 0x0, 0x0, 0x0, 0x0⟩,
  ⟨0x4080002C, 0x10000, 6, 0x4, 2, 0x0, 0xFFFFFFFF, 0x0, 0x0, 0x0, 0x0, 0x0⟩,
  ⟨0x40800034, 0x10000, 6, 0x4, 2, 0x0, 0xFFFFFFFF, 0x0, 0x0, 0x0, 0x0, 0x0⟩,
  ⟨0x40800104, 0x10000, 6, 0x4, 6, 0x0, 0xFFFFFFFF, 0x0, 0x0, 0x0, 0x0, 0x0⟩,
  ⟨0x40800204, 0x10000, 6, 0x8, 12, 0x0, 0xFFFFFFFF, 0x0, 0x0, 0x0, 0x0, 0x0⟩,
  ⟨0x4080C000, 0x10000, 6, 0x4, 2, 0x0, 0x0, 0xFFFFFFFF, 0x0, 0x0, 0x0, 0x0⟩,
  ⟨0x4080C008, 0x10000, 6, 0x4, 2, 0x0, 0x0, 0xFFFFFFFF, 0x0, 0x0, 0x0, 0x0⟩,
  ⟨0x4080C010, 0x10000, 6, 0x1, 1, 0x0, 0x0, 0xFFFFFFFF, 0x0, 0x0, 0x0, 0x0⟩,
  ⟨0x4080C014, 0x10000, 6, 0x1, 1, 0x0, 0xFFFFFFFF, 0x0, 0x0, 0x0, 0x0, 0x0⟩,
  ⟨0x4080C018, 0x10000, 6, 0x1, 1, 0x0, 0xFFFFFFFF, 0x0, 0x0, 0x0, 0x0, 0x0⟩,
  ⟨0x4080C01C, 0x10000, 6, 0x1, 1, 0x0, 0xFFFFFFFF, 0x0, 0x0, 0x0, 0x0, 0x0⟩,
  ⟨0x4080C020, 0x10000, 6, 0x1, 1, 0x0, 0xFFFFFFFF, 0x0, 0x0, 0x0, 0x0, 0x0⟩,
  ⟨0x4080C024, 0x10000, 6, 0x1, 1, 0x0, 0x0, 0xFFFFFFFF, 0x0, 0x0, 0x0, 0x0⟩,
  ⟨0x4080C028, 0x10000, 6, 0x1, 1, 0x0, 0xFFFFFFFF, 0x0, 0x0, 0x0, 0x0, 0x0⟩,
  ⟨0x4080C02C, 0x10000, 6, 0x1, 1, 0x0, 0xFFFFFFFF, 0x0, 0x0, 0x0, 0x0, 0x0⟩,
  ⟨0x4080C030, 0x10000, 6, 0x1, 1, 0x0, 0xFFFFFFFF, 0x0, 0x0, 0x0, 0x0, 0x0⟩,
  ⟨0x4080C034, 0x10000, 6, 0x1, 1, 0x0, 0x0, 0xFFFFFFFF, 0x0, 0x0, 0x0, 0x0⟩,
  ⟨0x4080C038, 0x10000, 6, 0x1, 1, 0x0, 0xFFFFFFFF, 0x0, 0x0, 0x0, 0x0, 0x0⟩]

/-- Every row of the CAN window. -/
def rowsCAN : List RegRow := rowsCAN0

/-- Rows of the ETH window. -/
def rowsETH0 : List RegRow := [
  ⟨0x40900000, 0x20, 4, 0x1, 1, 0x0, 0xFC000000, 0x0, 0x0, 0x0, 0x0, 0x0⟩,
  ⟨0x40900200, 0x1, 1, 0x1, 1, 0xC0F6F800, 0xC0FFFF00, 0x0, 0x0, 0x0, 0x0, 0x0⟩,
  ⟨0x40900204, 0x1, 1, 0x1, 1, 0xF80000, 0x0, 0xC0FF8007, 0x0, 0x0, 0x0, 0x0⟩,
  ⟨0x40900400, 0x4, 4, 0x1, 1, 0x0, 0x0, 0xF1FFFFFF, 0x0, 0x0, 0x0, 0x0⟩,
  ⟨0x40900004, 0x20, 4, 0x1, 1, 0x0, 0x0, 0xF000FFFF, 0x0, 0x0, 0x0, 0x0⟩,
  ⟨0x40900208, 0x1, 1, 0x1, 1, 0x0, 0x0, 0xFFFFFFFF, 0x0, 0x0, 0x0, 0x0⟩,
  ⟨0x4090020C, 0x1, 1, 0x1, 1, 0x0, 0x0, 0xFFFFFFFF, 0x0, 0x0, 0x0, 0x0⟩,
  ⟨0x409003F0, 0x1, 1, 0x1, 1, 0xA000, 0xFFFF, 0x0, 0x0, 0x0, 0x0, 0x0⟩,
  ⟨0x4090C000, 0x4, 24, 0x1, 1, 0x0, 0x0, 0xFFFFFFFF, 0x0, 0x0, 0x0, 0x0⟩,
  ⟨0x4090C060, 0x4, 20, 0x1, 1, 0x0, 0x0, 0xFFFFFFFF, 0x0, 0x0, 0x0, 0x0⟩,
  ⟨0x4090C0B0, 0x4, 4, 0x1, 1, 0x0, 0x0, 0xFFFFFFFF, 0x0, 0x0, 0x0, 0x0⟩,
  ⟨0x4090C0C0, 0x4, 4, 0x1, 1, 0x0, 0xFFFFFFFF, 0x0, 0x0, 0x0, 0x0, 0x0⟩,
  ⟨0x4090C0D0, 0x4, 4, 0x1, 1, 0x0, 0x0, 0xFFFFFFFF, 0x0, 0x0, 0x0, 0x0⟩,
  ⟨0x4090C0E0, 0x1, 1, 0x1, 1, 0x0, 0xFFFFFFFF, 0x0, 0x0, 0x0, 0x0, 0x0⟩,
  ⟨0x4090C0E4, 0x4, 2, 0x1, 1, 0x0, 0xFFFFFFFF, 0x0, 0x0, 0x0, 0x0, 0x0⟩,
  ⟨0x4090C0EC, 0x4, 9, 0x1, 1, 0x0, 0x0, 0xFFFFFFFF, 0x0, 0x0, 0x0, 0x0⟩,
  ⟨0x4090C110, 0x4, 64, 0x1, 1, 0x0, 0xFFFFFFFF, 0x0, 0x0, 0x0, 0x0, 0x0⟩,
  ⟨0x4090C210, 0x4, 16, 0x1, 1, 0x0, 0x0, 0xFFFFFFFF, 0x0, 0x0, 0x0, 0x0⟩,
  ⟨0x4090C250, 0x4, 4, 0x1, 1, 0x0, 0xFFFFFFFF, 0x0, 0x0, 0x0, 0x0, 0x0⟩,
  ⟨0x4090C260, 0x4, 12, 0x1, 1, 0x0, 0x0, 0xFFFFFFFF, 0x0, 0x0, 0x0, 0x0⟩,
  ⟨0x4090C290, 0x4, 27, 0x1, 1, 0x0, 0x0, 0xFFFFFFFF, 0x0, 0x0, 0x0, 0x0⟩,
  ⟨0x4090C2FC, 0x4, 32, 0x1, 1, 0x0, 0x0, 0xFFFFFFFF, 0x0, 0x0, 0x0, 0x0⟩]

/-- Every row of the ETH window. -/
def rowsETH : List RegRow := rowsETH0

/-- Rows of the VLV window. -/
def rowsVLV0 : List RegRow := [
  ⟨0x40B00000, 0x20, 32, 0x1, 1, 0x40030BB8, 0xC0000000, 0x0, 0x0, 0x0, 0x0, 0x3FFF0FFF⟩,
  ⟨0x40B00004, 0x20, 32, 0x1, 1, 0x0, 0x0, 0xFFFFFFC0, 0x0, 0x0, 0x0, 0x0⟩,
  ⟨0x40B00800, 0x40, 8, 0x1, 1, 0x1403E8, 0xFFFFFFFF, 0x0, 0x0, 0x0, 0x0, 0x0⟩,
  ⟨0x40B00804, 0x40, 8, 0x1, 1, 0x0, 0x0, 0xFFFFFFE0, 0x0, 0x0, 0x0, 0x0⟩,
  ⟨0x40B0080C, 0x40, 8, 0x1, 1, 0x142814FA, 0xFFFFFFFF, 0x0, 0x0, 0x0, 0x0, 0x0⟩,
  ⟨0x40B00C00, 0x1, 1, 0x1, 1, 0x0, 0x0, 0x0, 0xF000001F, 0x0, 0x0, 0x0⟩,
  ⟨0x40B00C04, 0x1, 1, 0x1, 1, 0x0, 0x0, 0xFFFFFFE1, 0x0, 0x0, 0x0, 0x0⟩,
  ⟨0x40B00008, 0x20, 32, 0x1, 1, 0x0, 0x0, 0xFFFFFFFF, 0x0, 0x0, 0x0, 0x0⟩,
  ⟨0x40B0000C, 0x20, 32, 0x1, 1, 0x0, 0x0, 0xFFFFFFFF, 0x0, 0x0, 0x0, 0x0⟩,
  ⟨0x40B00010, 0x20, 32, 0x1, 1, 0x0, 0x0, 0xFFFFFFFF, 0x0, 0x0, 0x0, 0x0⟩,
  ⟨0x40B00014, 0x20, 32, 0x1, 1, 0x0, 0x0, 0xFFFFFFFF, 0x0, 0x0, 0x0, 0x0⟩,
  ⟨0x40B00018, 0x20, 32, 0x1, 1, 0x0, 0x0, 0xFFFFFFFF, 0x0, 0x0, 0x0, 0x0⟩,
  ⟨0x40B0001C, 0x20, 32, 0x1, 1, 0x0, 0x0, 0xFFFFFFFF, 0x0, 0x0, 0x0, 0x0⟩,
  ⟨0x40B00808, 0x40, 8, 0x1, 1, 0x0, 0xFFFF, 0x0, 0x0, 0x0, 0x0, 0x0⟩,
  ⟨0x40B00810, 0x40, 8, 0x1, 1, 0x0, 0x0, 0xFFFF, 0x0, 0x0, 0x0, 0x0⟩,
  ⟨0x40B00814, 0x40, 8, 0x1, 1, 0x0, 0x0, 0xFFFFFFFF, 0x0, 0x0, 0x0, 0x0⟩,
  ⟨0x40B00818, 0x40, 8, 0x1, 1, 0x0, 0x0, 0x0, 0xFFFF0001, 0x0, 0x0, 0x0⟩,
  ⟨0x40B0081C, 0x40, 8, 0x1, 1, 0x0, 0x0, 0x0, 0xFFFF0001, 0x0, 0x0, 0x0⟩,
  ⟨0x40B00820, 0x40, 8, 0x1, 1, 0x0, 0x0, 0xFFFFFFFF, 0x0, 0x0, 0x0, 0x0⟩,
  ⟨0x40B0C000, 0x4, 8, 0x1, 1, 0x0, 0x0, 0xFFFFFFFF, 0x0, 0x0, 0x0, 0x0⟩,
  ⟨0x40B0C020, 0x4, 8, 0x1, 1, 0x0, 0x0, 0xFFFFFFFF, 0x0, 0x0, 0x0, 0x0⟩,
  ⟨0x40B0C040, 0x4, 8, 0x1, 1, 0x0, 0x0, 0xFFFFFFFF, 0x0, 0x0, 0x0, 0x0⟩,
  ⟨0x40B0C060, 0x1, 1, 0x1, 1, 0x0, 0x0, 0xFFFFFFFF, 0x0, 0x0, 0x0, 0x0⟩,
  ⟨0x40B0C064, 0x1, 1, 0x1, 1, 0x0, 0x0, 0xFFFFFFFF, 0x0, 0x0, 0x0, 0x0⟩,
  ⟨0x40B0C068, 0x4, 2, 0x1, 1, 0x0, 0x0, 0xFFFFFFFF, 0x0, 0x0, 0x0, 0x0⟩,
  ⟨0x40B0C070, 0x1, 1, 0x1, 1, 0x0, 0x0, 0xFFFFFFFF, 0x0, 0x0, 0x0, 0x0⟩,
  ⟨0x40B0C074, 0x1, 1, 0x1, 1, 0x0, 0x0, 0xFFFFFFFF, 0x0, 0x0, 0x0, 0x0⟩,
  ⟨0x40B0C078, 0x4, 20, 0x1, 1, 0x0, 0x0, 0xFFFFFFFF, 0x0, 0x0, 0x0, 0x0⟩,
  ⟨0x40B0C0C8, 0xC, 4, 0x1, 1, 0x0, 0x0, 0x0, 0x0, 0xFFFFFFFF, 0x0, 0x0⟩,
  ⟨0x40B0C0CC, 0xC, 4, 0x1, 1, 0x0, 0xFFFFFFFF, 0x0, 0x0, 0x0, 0x0, 0x0⟩,
  ⟨0x40B0C0D0, 0xC, 4, 0x1, 1, 0x0, 0x3, 0x0, 0x0, 0x0, 0x0, 0x0⟩]

/-- Every row of the VLV window. -/
def rowsVLV : List RegRow := rowsVLV0

/-- Rows of the LSW window. -/
def rowsLSW0 : List RegRow := [
  ⟨0x40A00000, 0x20, 24, 0x1, 1, 0x10400000, 0x90000000, 0x0, 0x0, 0x0, 0x0, 0x6FC00000⟩,
  ⟨0x40A00004, 0x20, 24, 0x1, 1, 0x0, 0x7FF, 0x0, 0x0, 0x0, 0x0, 0x0⟩,
  ⟨0x40A00008, 0x20, 24, 0x1, 1, 0x0, 0x0, 0xFFFFFFF8, 0x0, 0x0, 0x0, 0x0⟩,
  ⟨0x40A0000C, 0x20, 24, 0x1, 1, 0xA00, 0xFFFFFF00, 0x0, 0x0, 0x0, 0x0, 0x0⟩,
  ⟨0x40A00010, 0x20, 24, 0x1, 1, 0x19140000, 0xFFFF0000, 0x0, 0x0, 0x0, 0x0, 0x0⟩,
  ⟨0x40A00400, 0x10, 4, 0x1, 1, 0x0, 0xFF, 0x0, 0x0, 0x0, 0x0, 0x0⟩,
  ⟨0x40A00014, 0x20, 24, 0x1, 1, 0x0, 0x0, 0xFFFFFFFF, 0x0, 0x0, 0x0, 0x0⟩,
  ⟨0x40A00018, 0x20, 24, 0x1, 1, 0x0, 0x0, 0xFFFFFFFF, 0x0, 0x0, 0x0, 0x0⟩,
  ⟨0x40A0001C, 0x20, 24, 0x1, 1, 0x0, 0x0, 0x0, 0xFFFF0001, 0x0, 0x0, 0x0⟩,
  ⟨0x40A00404, 0x10, 4, 0x1, 1, 0x0, 0x0, 0xC000FFFF, 0x0, 0x0, 0x0, 0x0⟩,
  ⟨0x40A00408, 0x10, 4, 0x1, 1, 0x0, 0x0, 0xFFFFFFFF, 0x0, 0x0, 0x0, 0x0⟩,
  ⟨0x40A0040C, 0x10, 4, 0x1, 1, 0x0, 0x0, 0xFFFFFFFF, 0x0, 0x0, 0x0, 0x0⟩,
  ⟨0x40A00440, 0x1, 1, 0x1, 1, 0x0, 0x0, 0x8000FFFF, 0x0, 0x0, 0x0, 0x0⟩,
  ⟨0x40A00C00, 0x1, 1, 0x1, 1, 0x0, 0x0, 0x0, 0xF000001F, 0x0, 0x0, 0x0⟩,
  ⟨0x40A00C04, 0x1, 1, 0x1, 1, 0x0, 0x0, 0xFFFFFFE1, 0x0, 0x0, 0x0, 0x0⟩,
  ⟨0x40A0C000, 0x1, 1, 0x1, 1, 0x0, 0x0, 0xFFFFFFFF, 0x0, 0x0, 0x0, 0x0⟩,
  ⟨0x40A0C004, 0x1, 1, 0x1, 1, 0x0, 0x0, 0xFFFFFFFF, 0x0, 0x0, 0x0, 0x0⟩,
  ⟨0x40A0C008, 0x1, 1, 0x1, 1, 0x0, 0x0, 0xFFFFFFFF, 0x0, 0x0, 0x0, 0x0⟩,
  ⟨0x40A0C00C, 0x1, 1, 0x1, 1, 0x0, 0x0, 0xFFFFFFFF, 0x0, 0x0, 0x0, 0x0⟩,
  ⟨0x40A0C010, 0xC, 3, 0x1, 1, 0x0, 0x0, 0x0, 0x0, 0xFFFFFFFF, 0x0, 0x0⟩,
  ⟨0x40A0C014, 0xC, 3, 0x1, 1, 0x0, 0xFFFFFFFF, 0x0, 0x0, 0x0, 0x0, 0x0⟩,
  ⟨0x40A0C018, 0xC, 3, 0x1, 1, 0x0, 0x3, 0x0, 0x0, 0x0, 0x0, 0x0⟩]

/-- Every row of the LSW window. -/
def rowsLSW : List RegRow := rowsLSW0

/-- Rows of the SAF window. -/
def rowsSAF0 : List RegRow := [
  ⟨0x40200000, 0x1, 1, 0x1, 1, 0x0, 0x0, 0xF8FFFFFF, 0x0, 0x0, 0x0, 0x0⟩,
  ⟨0x40200004, 0x1, 1, 0x1, 1, 0x0, 0x0, 0xFFFFFFFF, 0x0, 0x0, 0x0, 0x0⟩,
  ⟨0x40200100, 0x10, 4, 0x1, 1, 0x14, 0x0, 0xFFF3FF3F, 0x0, 0x0, 0x0, 0x0⟩,
  ⟨0x40200300, 0x1, 1, 0x1, 1, 0x0, 0x0, 0x0, 0xFFFFFFFF, 0x0, 0x0, 0x0⟩,
  ⟨0x40200408, 0x1, 1, 0x1, 1, 0x0, 0x0, 0x0, 0xFFFFCFFF, 0x0, 0x0, 0x0⟩,
  ⟨0x40200410, 0x1, 1, 0x1, 1, 0x0, 0x0, 0x0, 0xFFFF0001, 0x0, 0x0, 0x0⟩,
  ⟨0x40200400, 0x1, 1, 0x1, 1, 0x0, 0x0, 0x0, 0xFFFF0003, 0x0, 0x0, 0x0⟩,
  ⟨0x40200404, 0x1, 1, 0x1, 1, 0x0, 0x0, 0xFFFFFFFF, 0x0, 0x0, 0x0, 0x0⟩,
  ⟨0x40200008, 0x1, 1, 0x1, 1, 0x0, 0x0, 0xFFFFFFFF, 0x0, 0x0, 0x0, 0x0⟩,
  ⟨0x4020C000, 0x4, 13, 0x1, 1, 0x0, 0x0, 0xFFFFFFFF, 0x0, 0x0, 0x0, 0x0⟩,
  ⟨0x4020C034, 0x4, 12, 0x1, 1, 0x0, 0x0, 0xFFFFFFFF, 0x0, 0x0, 0x0, 0x0⟩,
  ⟨0x4020C064, 0x4, 16, 0x1, 1, 0x0, 0x0, 0xFFFFFFFF, 0x0, 0x0, 0x0, 0x0⟩,
  ⟨0x4020C0A4, 0x4, 16, 0x1, 1, 0x0, 0x0, 0xFFFFFFFF, 0x0, 0x0, 0x0, 0x0⟩,
  ⟨0x4020C0E4, 0x4, 12, 0x1, 1, 0x0, 0x0, 0xFFFFFFFF, 0x0, 0x0, 0x0, 0x0⟩,
  ⟨0x4020C114, 0x1, 1, 0x1, 1, 0x0, 0x0, 0xFFFFFFFF, 0x0, 0x0, 0x0, 0x0⟩,
  ⟨0x4020C118, 0x1, 1, 0x1, 1, 0x3F000000, 0x0, 0xFFFFFFFF, 0x0, 0x0, 0x0, 0x0⟩,
  ⟨0x4020C11C, 0x1, 1, 0x1, 1, 0x40400000, 0x0, 0xFFFFFFFF, 0x0, 0x0, 0x0, 0x0⟩,
  ⟨0x4020C120, 0x1, 1, 0x1, 1, 0x41700000, 0x0, 0xFFFFFFFF, 0x0, 0x0, 0x0, 0x0⟩,
  ⟨0x4020C124, 0x1, 1, 0x1, 1, 0x7F800000, 0x0, 0xFFFFFFFF, 0x0, 0x0, 0x0, 0x0⟩,
  ⟨0x4020C128, 0x1, 1, 0x1, 1, 0x0, 0x0, 0xFFFFFFFF, 0x0, 0x0, 0x0, 0x0⟩,
  ⟨0x4020C12C, 0x4, 6, 0x1, 1, 0x0, 0x0, 0xFFFFFFFF, 0x0, 0x0, 0x0, 0x0⟩,
  ⟨0x4020C144, 0x4, 24, 0x1, 1, 0x0, 0x0, 0xFFFFFFFF, 0x0, 0x0, 0x0, 0x0⟩,
  ⟨0x4020C1A4, 0x4, 9, 0x1, 1, 0x0, 0x0, 0xFFFFFFFF, 0x0, 0x0, 0x0, 0x0⟩,
  ⟨0x4020C1C8, 0x1, 1, 0x1, 1, 0x0, 0x0, 0xFFFFFFFF, 0x0, 0x0, 0x0, 0x0⟩,
  ⟨0x4020C1CC, 0x4, 7, 0x1, 1, 0x0, 0x0, 0xFFFFFFFF, 0x0, 0x0, 0x0, 0x0⟩,
  ⟨0x4020C1E8, 0x4, 2, 0x1, 1, 0x0, 0x0, 0xFFFFFFFF, 0x0, 0x0, 0x0, 0x0⟩,
  ⟨0x4020C1F0, 0x4, 24, 0x1, 1, 0x0, 0x0, 0xFFFFFFFF, 0x0, 0x0, 0x0, 0x0⟩]

/-- Every row of the SAF window. -/
def rowsSAF : List RegRow := rowsSAF0

/-- Rows of the DSP window. -/
def rowsDSP0 : List RegRow := [
  ⟨0x40C00000, 0x1, 1, 0x1, 1, 0x0, 0xC000003F, 0x0, 0x0, 0x0, 0x0, 0x0⟩,
  ⟨0x40C00004, 0x1, 1, 0x1, 1, 0x0, 0x0, 0xFC000000, 0x0, 0x0, 0xFFFF, 0x0⟩,
  ⟨0x40C00010, 0x1, 1, 0x1, 1, 0xF800001E, 0x0, 0x0, 0x0, 0x0, 0x0, 0xF800FFFF⟩,
  ⟨0x40C00014, 0x1, 1, 0x1, 1, 0x0, 0xFFFFFFFF, 0x0, 0x0, 0x0, 0x0, 0x0⟩,
  ⟨0x40C00018, 0x1, 1, 0x1, 1, 0x0, 0xFFFFFFFF, 0x0, 0x0, 0x0, 0x0, 0x0⟩,
  ⟨0x40C0001C, 0x1, 1, 0x1, 1, 0x0, 0xFFFFFFFF, 0x0, 0x0, 0x0, 0x0, 0x0⟩,
  ⟨0x40C00020, 0x1, 1, 0x1, 1, 0x0, 0xFFFFFFFF, 0x0, 0x0, 0x0, 0x0, 0x0⟩,
  ⟨0x40C00024, 0x1, 1, 0x1, 1, 0x0, 0x0, 0x0, 0x1, 0x0, 0x0, 0x0⟩,
  ⟨0x40C00028, 0x1, 1, 0x1, 1, 0x2EE, 0x7FF, 0x0, 0x0, 0x0, 0x0, 0x0⟩,
  ⟨0x40C0002C, 0x1, 1, 0x1, 1, 0x200, 0x3FF, 0x0, 0x0, 0x0, 0x0, 0x0⟩,
  ⟨0x40C00030, 0x1, 1, 0x1, 1, 0x0, 0xFFFFFFFF, 0x0, 0x0, 0x0, 0x0, 0x0⟩,
  ⟨0x40C00034, 0x1, 1, 0x1, 1, 0x0, 0xFFFFFFFF, 0x0, 0x0, 0x0, 0x0, 0x0⟩,
  ⟨0x40C00100, 0x10, 8, 0x1, 1, 0x0, 0x7FF03FF, 0x0, 0x0, 0x0, 0x0, 0x0⟩,
  ⟨0x40C00104, 0x10, 8, 0x1, 1, 0x0, 0x7FF03FF, 0x0, 0x0, 0x0, 0x0, 0x0⟩,
  ⟨0x40C00108, 0x10, 8, 0x1, 1, 0x0, 0x8000FFFF, 0x0, 0x0, 0x0, 0x0, 0x0⟩,
  ⟨0x40C0010C, 0x10, 8, 0x1, 1, 0x0, 0xFFFFFFFF, 0x0, 0x0, 0x0, 0x0, 0x0⟩,
  ⟨0x40C0C000, 0x4, 8, 0x1, 1, 0x0, 0x0, 0xFFFFFFFF, 0x0, 0x0, 0x0, 0x0⟩,
  ⟨0x40C0C020, 0x4, 4, 0x1, 1, 0x0, 0x0, 0xFFFFFFFF, 0x0, 0x0, 0x0, 0x0⟩,
  ⟨0x40C0C030, 0x4, 10, 0x1, 1, 0x0, 0x0, 0xFFFFFFFF, 0x0, 0x0, 0x0, 0x0⟩,
  ⟨0x40C0C058, 0x4, 40, 0x1, 1, 0x0, 0x0, 0xFFFFFFFF, 0x0, 0x0, 0x0, 0x0⟩,
  ⟨0x40C0C0F8, 0x4, 11, 0x1, 1, 0x0, 0x0, 0xFFFFFFFF, 0x0, 0x0, 0x0, 0x0⟩,
  ⟨0x40C0C124, 0x1, 1, 0x1, 1, 0x0, 0x0, 0x0, 0x0, 0xFFFFFFFF, 0x0, 0x0⟩,
  ⟨0x40C0C128, 0x1, 1, 0x1, 1, 0x0, 0xFFFFFFFF, 0x0, 0x0, 0x0, 0x0, 0x0⟩,
  ⟨0x40C0C12C, 0x1, 1, 0x1, 1, 0x0, 0x3, 0x0, 0x0, 0x0, 0x0, 0x0⟩]

/-- Every row of the DSP window. -/
def rowsDSP : List RegRow := rowsDSP0

/-- Rows of the BST window. -/
def rowsBST0 : List RegRow := [
  ⟨0x40C10000, 0x1, 1, 0x1, 1, 0xFA0000, 0xFFFF0000, 0x0, 0x0, 0x0, 0x0, 0x0⟩,
  ⟨0x40C10034, 0x1, 1, 0x1, 1, 0x0, 0x0, 0xF8070000, 0x0, 0x4000000, 0xFF00, 0x0⟩,
  ⟨0x40C10010, 0x8, 4, 0x1, 1, 0x0, 0xFFFFFFFF, 0x0, 0x0, 0x0, 0x0, 0x0⟩,
  ⟨0x40C10014, 0x8, 4, 0x1, 1, 0x0, 0xFFFF, 0x0, 0x0, 0x0, 0x0, 0x0⟩,
  ⟨0x40C10030, 0x1, 1, 0x1, 1, 0x0, 0x0, 0x0, 0x1, 0x0, 0x0, 0x0⟩,
  ⟨0x40C10038, 0x1, 1, 0x1, 1, 0x0, 0x0, 0xFFFFFFFF, 0x0, 0x0, 0x0, 0x0⟩,
  ⟨0x40C10040, 0x4, 8, 0x1, 1, 0x0, 0xFFFFFFFF, 0x0, 0x0, 0x0, 0x0, 0x0⟩,
  ⟨0x40C10060, 0x1, 1, 0x1, 1, 0x0, 0x0, 0xFFFFFFFF, 0x0, 0x0, 0x0, 0x0⟩,
  ⟨0x40C1C000, 0x4, 32, 0x1, 1, 0x0, 0x0, 0xFFFFFFFF, 0x0, 0x0, 0x0, 0x0⟩,
  ⟨0x40C1C080, 0xC, 2, 0x1, 1, 0x0, 0x0, 0x0, 0x0, 0xFFFFFFFF, 0x0, 0x0⟩,
  ⟨0x40C1C084, 0xC, 2, 0x1, 1, 0x0, 0xFFFFFFFF, 0x0, 0x0, 0x0, 0x0, 0x0⟩,
  ⟨0x40C1C088, 0xC, 2, 0x1, 1, 0x0, 0x3, 0x0, 0x0, 0x0, 0x0, 0x0⟩,
  ⟨0x40C1C098, 0x4, 2, 0x1, 1, 0x0, 0x0, 0xFFFFFFFF, 0x0, 0x0, 0x0, 0x0⟩]

/-- Every row of the BST window. -/
def rowsBST : List RegRow := rowsBST0

/-- Rows of the EVR window. -/
def rowsEVR0 : List RegRow := [
  ⟨0x40060000, 0x1, 1, 0x1, 1, 0x3C0064, 0xFFFFFFFF, 0x0, 0x0, 0x0, 0x0, 0x0⟩,
  ⟨0x40060004, 0x1, 1, 0x1, 1, 0x0, 0x0, 0xFFFF0001, 0x0, 0x0, 0x0, 0x0⟩,
  ⟨0x40060100, 0x30, 4, 0x1, 1, 0x0, 0x0, 0x30000, 0x80000000, 0x0, 0xFFFF, 0x0⟩,
  ⟨0x40060008, 0x1, 1, 0x1, 1, 0x0, 0x0, 0xFFFFFFFF, 0x0, 0x0, 0x0, 0x0⟩,
  ⟨0x4006000C, 0x1, 1, 0x1, 1, 0x0, 0x0, 0xFFFFFFFF, 0x0, 0x0, 0x0, 0x0⟩,
  ⟨0x40060010, 0x1, 1, 0x1, 1, 0x0, 0x0, 0xFFFFFFFF, 0x0, 0x0, 0x0, 0x0⟩,
  ⟨0x40060014, 0x1, 1, 0x1, 1, 0x0, 0x0, 0xFFFFFFFF, 0x0, 0x0, 0x0, 0x0⟩,
  ⟨0x40060018, 0x1, 1, 0x1, 1, 0x0, 0x0, 0xFFFFFFFF, 0x0, 0x0, 0x0, 0x0⟩,
  ⟨0x40060020, 0x1, 1, 0x1, 1, 0x0, 0xFFFF, 0x0, 0x0, 0x0, 0x0, 0x0⟩,
  ⟨0x40060024, 0x1, 1, 0x1, 1, 0x0, 0xFFFFFFFF, 0x0, 0x0, 0x0, 0x0, 0x0⟩,
  ⟨0x40060028, 0x1, 1, 0x1, 1, 0x0, 0xFFFFFFFF, 0x0, 0x0, 0x0, 0x0, 0x0⟩,
  ⟨0x4006002C, 0x1, 1, 0x1, 1, 0x0, 0x0, 0x0, 0x1, 0x0, 0x0, 0x0⟩,
  ⟨0x40060030, 0x1, 1, 0x1, 1, 0x0, 0xFFFFFFFF, 0x0, 0x0, 0x0, 0x0, 0x0⟩,
  ⟨0x40060034, 0x1, 1, 0x1, 1, 0x0, 0xFFFFFFFF, 0x0, 0x0, 0x0, 0x0, 0x0⟩,
  ⟨0x40060038, 0x1, 1, 0x1, 1, 0x0, 0x0, 0xFFFFFFFF, 0x0, 0x0, 0x0, 0x0⟩,
  ⟨0x4006003C, 0x1, 1, 0x1, 1, 0x0, 0x0, 0x0, 0xFFFF0001, 0x0, 0x0, 0x0⟩,
  ⟨0x40060040, 0x1, 1, 0x1, 1, 0x0, 0x0, 0xFFFFFFFF, 0x0, 0x0, 0x0, 0x0⟩,
  ⟨0x40060044, 0x1, 1, 0x1, 1, 0x0, 0x0, 0xFFFFFFFF, 0x0, 0x0, 0x0, 0x0⟩,
  ⟨0x40060048, 0x1, 1, 0x1, 1, 0x0, 0x0, 0xFFFFFFFF, 0x0, 0x0, 0x0, 0x0⟩,
  ⟨0x4006004C, 0x1, 1, 0x1, 1, 0x0, 0x0, 0xFFFFFFFF, 0x0, 0x0, 0x0, 0x0⟩,
  ⟨0x40060050, 0x1, 1, 0x1, 1, 0x0, 0x0, 0xFFFFFFFF, 0x0, 0x0, 0x0, 0x0⟩,
  ⟨0x40060104, 0x30, 4, 0x1, 1, 0x0, 0xFFFFFFFF, 0x0, 0x0, 0x0, 0x0, 0x0⟩,
  ⟨0x40060108, 0x30, 4, 0x4, 8, 0x0, 0x0, 0xFFFFFFFF, 0x0, 0x0, 0x0, 0x0⟩]

/-- Every row of the EVR window. -/
def rowsEVR : List RegRow := rowsEVR0

/-- Rows of the TAB window. -/
def rowsTAB0 : List RegRow := [
  ⟨0x40070000, 0x1, 1, 0x1, 1, 0x80001770, 0xC000FFFF, 0x0, 0x0, 0x0, 0x0, 0x0⟩,
  ⟨0x40070004, 0x1, 1, 0x1, 1, 0x0, 0x0, 0xDC0000FF, 0x0, 0x20000000, 0x0, 0x0⟩,
  ⟨0x40070040, 0x8, 8, 0x1, 1, 0x0, 0xC000FFFF, 0x0, 0x0, 0x0, 0x0, 0x0⟩,
  ⟨0x40070100, 0x1, 1, 0x1, 1, 0x0, 0x40000000, 0x30000, 0x80000000, 0x0, 0x0, 0x0⟩,
  ⟨0x40070120, 0x1, 1, 0x1, 1, 0x0, 0x0, 0xF0FFFFFF, 0x0, 0x0, 0x0, 0x0⟩,
  ⟨0x40070008, 0x1, 1, 0x1, 1, 0x0, 0x0, 0xFFFFFFFF, 0x0, 0x0, 0x0, 0x0⟩,
  ⟨0x4007000C, 0x1, 1, 0x1, 1, 0x0, 0x0, 0xFFFFFFFF, 0x0, 0x0, 0x0, 0x0⟩,
  ⟨0x40070044, 0x8, 8, 0x1, 1, 0x0, 0xFFFFFFFF, 0x0, 0x0, 0x0, 0x0, 0x0⟩,
  ⟨0x40070080, 0x1, 1, 0x1, 1, 0x0, 0x3FFFFFFF, 0x0, 0x0, 0x0, 0x0, 0x0⟩,
  ⟨0x40070090, 0x8, 4, 0x1, 1, 0x0, 0x0, 0xFFFFFFFF, 0x0, 0x0, 0x0, 0x0⟩,
  ⟨0x40070094, 0x8, 4, 0x1, 1, 0x0, 0x0, 0xFFFFFFFF, 0x0, 0x0, 0x0, 0x0⟩,
  ⟨0x40070104, 0x1, 1, 0x1, 1, 0x0, 0xFFFFFFFF, 0x0, 0x0, 0x0, 0x0, 0x0⟩,
  ⟨0x40070108, 0x1, 1, 0x1, 1, 0x0, 0xFFFFFFFF, 0x0, 0x0, 0x0, 0x0, 0x0⟩,
  ⟨0x4007010C, 0x1, 1, 0x1, 1, 0x0, 0xFFFFFFFF, 0x0, 0x0, 0x0, 0x0, 0x0⟩,
  ⟨0x40070110, 0x1, 1, 0x1, 1, 0x0, 0xFFFFFFFF, 0x0, 0x0, 0x0, 0x0, 0x0⟩,
  ⟨0x40070114, 0x1, 1, 0x1, 1, 0x0, 0x0, 0xFFFFFFFF, 0x0, 0x0, 0x0, 0x0⟩,
  ⟨0x40070118, 0x1, 1, 0x1, 1, 0x0, 0x0, 0xFFFFFFFF, 0x0, 0x0, 0x0, 0x0⟩,
  ⟨0x40070124, 0x1, 1, 0x1, 1, 0x0, 0x0, 0xFFFFFFFF, 0x0, 0x0, 0x0, 0x0⟩,
  ⟨0x40070128, 0x1, 1, 0x1, 1, 0x0, 0x0, 0xFFFFFFFF, 0x0, 0x0, 0x0, 0x0⟩,
  ⟨0x4007012C, 0x1, 1, 0x1, 1, 0x0, 0x0, 0xFFFFFFFF, 0x0, 0x0, 0x0, 0x0⟩,
  ⟨0x40070130, 0x1, 1, 0x1, 1, 0x0, 0x0, 0xFFFFFFFF, 0x0, 0x0, 0x0, 0x0⟩,
  ⟨0x40070134, 0x1, 1, 0x1, 1, 0x0, 0x0, 0xFFFFFFFF, 0x0, 0x0, 0x0, 0x0⟩,
  ⟨0x40070138, 0x1, 1, 0x1, 1, 0x0, 0x0, 0xFFFFFFFF, 0x0, 0x0, 0x0, 0x0⟩,
  ⟨0x4007C000, 0x1, 1, 0x1, 1, 0x0, 0x0, 0xFFFFFFFF, 0x0, 0x0, 0x0, 0x0⟩,
  ⟨0x4007C004, 0x1, 1, 0x1, 1, 0x0, 0x0, 0xFFFFFFFF, 0x0, 0x0, 0x0, 0x0⟩,
  ⟨0x4007C008, 0x1, 1, 0x1, 1, 0x0, 0x0, 0xFFFFFFFF, 0x0, 0x0, 0x0, 0x0⟩,
  ⟨0x4007C00C, 0x1, 1, 0x1, 1, 0x0, 0x0, 0xFFFFFFFF, 0x0, 0x0, 0x0, 0x0⟩,
  ⟨0x4007C010, 0x1, 1, 0x1, 1, 0x0, 0x0, 0xFFFFFFFF, 0x0, 0x0, 0x0, 0x0⟩,
  ⟨0x4007C014, 0x1, 1, 0x1, 1, 0x0, 0x0, 0xFFFFFFFF, 0x0, 0x0, 0x0, 0x0⟩,
  ⟨0x4007C018, 0x1, 1, 0x1, 1, 0x0, 0x0, 0xFFFFFFFF, 0x0, 0x0, 0x0, 0x0⟩,
  ⟨0x4007C01C, 0x1, 1, 0x1, 1, 0x0, 0x0, 0xFFFFFFFF, 0x0, 0x0, 0x0, 0x0⟩,
  ⟨0x4007C020, 0x1, 1, 0x1, 1, 0x0, 0x0, 0xFFFFFFFF, 0x0, 0x0, 0x0, 0x0⟩,
  ⟨0x4007C024, 0x1, 1, 0x1, 1, 0x0, 0x0, 0xFFFFFFFF, 0x0, 0x0, 0x0, 0x0⟩,
  ⟨0x4007C028, 0x1, 1, 0x1, 1, 0x0, 0x0, 0xFFFFFFFF, 0x0, 0x0, 0x0, 0x0⟩,
  ⟨0x4007C02C, 0x1, 1, 0x1, 1, 0x0, 0x0, 0xFFFFFFFF, 0x0, 0x0, 0x0, 0x0⟩,
  ⟨0x4007C030, 0x4, 8, 0x1, 1, 0x0, 0x0, 0xFFFFFFFF, 0x0, 0x0, 0x0, 0x0⟩,
  ⟨0x4007C050, 0x1, 1, 0x1, 1, 0x0, 0x0, 0xFFFFFFFF, 0x0, 0x0, 0x0, 0x0⟩,
  ⟨0x4007C054, 0xC, 2, 0x1, 1, 0x0, 0x0, 0x0, 0x0, 0xFFFFFFFF, 0x0, 0x0⟩,
  ⟨0x4007C058, 0xC, 2, 0x1, 1, 0x0, 0xFFFFFFFF, 0x0, 0x0, 0x0, 0x0, 0x0⟩,
  ⟨0x4007C05C, 0xC, 2, 0x1, 1, 0x0, 0x3, 0x0, 0x0, 0x0, 0x0, 0x0⟩]

/-- Every row of the TAB window. -/
def rowsTAB : List RegRow := rowsTAB0

/-- Rows of the UPD window. -/
def rowsUPD0 : List RegRow := [
  ⟨0x40080000, 0x1, 1, 0x1, 1, 0x0, 0x0, 0xFFFF0001, 0x0, 0x0, 0x0, 0x0⟩,
  ⟨0x40080008, 0x1, 1, 0x1, 1, 0x0, 0x0, 0x8000007F, 0x0, 0x0, 0x0, 0x0⟩,
  ⟨0x40080020, 0x1, 1, 0x1, 1, 0x0, 0x0, 0x0, 0xFFFF0003, 0x0, 0x0, 0x0⟩,
  ⟨0x40080024, 0x1, 1, 0x1, 1, 0x0, 0x0, 0x1F, 0x0, 0x0, 0x0, 0x0⟩,
  ⟨0x4008004C, 0x1, 1, 0x1, 1, 0x0, 0x0, 0xFFFFE0FF, 0x0, 0x0, 0x0, 0x0⟩,
  ⟨0x40080080, 0x1, 1, 0x1, 1, 0x0, 0x0, 0xC000FFFF, 0x0, 0x0, 0x0, 0x0⟩,
  ⟨0x40080004, 0x1, 1, 0x1, 1, 0x0, 0x0, 0xFFFF0000, 0x0, 0x0, 0x0, 0x0⟩,
  ⟨0x40080010, 0x1, 1, 0x1, 1, 0x0, 0x0, 0xFFFFFFFF, 0x0, 0x0, 0x0, 0x0⟩,
  ⟨0x40080014, 0x1, 1, 0x1, 1, 0x0, 0x0, 0xFFFFFFFF, 0x0, 0x0, 0x0, 0x0⟩,
  ⟨0x40080018, 0x1, 1, 0x1, 1, 0x0, 0x0, 0xFFFFFFFF, 0x0, 0x0, 0x0, 0x0⟩,
  ⟨0x4008001C, 0x1, 1, 0x1, 1, 0x0, 0x0, 0xFFFFFFFF, 0x0, 0x0, 0x0, 0x0⟩,
  ⟨0x40080028, 0x1, 1, 0x1, 1, 0x0, 0x0, 0xFFFFFFFF, 0x0, 0x0, 0x0, 0x0⟩,
  ⟨0x40080030, 0x1, 1, 0x1, 1, 0x0, 0xFFFFFFFF, 0x0, 0x0, 0x0, 0x0, 0x0⟩,
  ⟨0x40080034, 0x1, 1, 0x1, 1, 0x0, 0xFFFFFFFF, 0x0, 0x0, 0x0, 0x0, 0x0⟩,
  ⟨0x40080038, 0x1, 1, 0x1, 1, 0x0, 0x0, 0x0, 0x1, 0x0, 0x0, 0x0⟩,
  ⟨0x4008003C, 0x1, 1, 0x1, 1, 0x0, 0x0, 0xFFFFFFFF, 0x0, 0x0, 0x0, 0x0⟩,
  ⟨0x40080040, 0x1, 1, 0x1, 1, 0x0, 0xFFFFFFFF, 0x0, 0x0, 0x0, 0x0, 0x0⟩,
  ⟨0x40080044, 0x1, 1, 0x1, 1, 0x0, 0xFFFFFFFF, 0x0, 0x0, 0x0, 0x0, 0x0⟩,
  ⟨0x40080048, 0x1, 1, 0x1, 1, 0x0, 0x0, 0x0, 0xFFFF0001, 0x0, 0x0, 0x0⟩,
  ⟨0x40080050, 0x1, 1, 0x1, 1, 0x0, 0x0, 0xFFFFFFFF, 0x0, 0x0, 0x0, 0x0⟩,
  ⟨0x40080060, 0x1, 1, 0x1, 1, 0x0, 0x0, 0xFFFFFFFF, 0x0, 0x0, 0x0, 0x0⟩,
  ⟨0x40080064, 0x1, 1, 0x1, 1, 0x0, 0x0, 0xFFFFFFFF, 0x0, 0x0, 0x0, 0x0⟩,
  ⟨0x40080068, 0x1, 1, 0x1, 1, 0x0, 0xFFFFFFFF, 0x0, 0x0, 0x0, 0x0, 0x0⟩,
  ⟨0x4008006C, 0x1, 1, 0x1, 1, 0x0, 0xFFFFFFFF, 0x0, 0x0, 0x0, 0x0, 0x0⟩,
  ⟨0x40080070, 0x1, 1, 0x1, 1, 0x0, 0x0, 0x0, 0xFFFF0001, 0x0, 0x0, 0x0⟩,
  ⟨0x40080074, 0x1, 1, 0x1, 1, 0x0, 0x0, 0xFFFF0000, 0x0, 0x0, 0x0, 0x0⟩,
  ⟨0x40080084, 0x1, 1, 0x1, 1, 0x0, 0x0, 0x0, 0xFFFF0001, 0x0, 0x0, 0x0⟩,
  ⟨0x40080088, 0x1, 1, 0x1, 1, 0x0, 0x0, 0xFFFFFFFF, 0x0, 0x0, 0x0, 0x0⟩,
  ⟨0x4008C000, 0x4, 6, 0x1, 1, 0x0, 0x0, 0xFFFFFFFF, 0x0, 0x0, 0x0, 0x0⟩,
  ⟨0x4008C018, 0x4, 7, 0x1, 1, 0x0, 0x0, 0xFFFFFFFF, 0x0, 0x0, 0x0, 0x0⟩,
  ⟨0x4008C034, 0x4, 24, 0x1, 1, 0x0, 0x0, 0xFFFFFFFF, 0x0, 0x0, 0x0, 0x0⟩,
  ⟨0x4008C094, 0x4, 5, 0x1, 1, 0x0, 0x0, 0xFFFFFFFF, 0x0, 0x0, 0x0, 0x0⟩,
  ⟨0x4008C0A8, 0x4, 4, 0x1, 1, 0x0, 0x0, 0xFFFFFFFF, 0x0, 0x0, 0x0, 0x0⟩,
  ⟨0x4008C0B8, 0x4, 2, 0x1, 1, 0x0, 0x0, 0xFFFFFFFF, 0x0, 0x0, 0x0, 0x0⟩,
  ⟨0x4008C0C0, 0x4, 14, 0x1, 1, 0x0, 0x0, 0xFFFFFFFF, 0x0, 0x0, 0x0, 0x0⟩]

/-- Every row of the UPD window. -/
def rowsUPD : List RegRow := rowsUPD0

/-- Rows of the THM window. -/
def rowsTHM0 : List RegRow := [
  ⟨0x40030000, 0x4, 24, 0x1, 1, 0x0, 0x0, 0x8000FFFF, 0x0, 0x0, 0x0, 0x0⟩,
  ⟨0x40030100, 0x1, 1, 0x1, 1, 0x0, 0x0, 0xF81FFFFF, 0x0, 0x0, 0x0, 0x0⟩,
  ⟨0x40030104, 0x1, 1, 0x1, 1, 0x0, 0x0, 0xFFFFFFFF, 0x0, 0x0, 0x0, 0x0⟩,
  ⟨0x4003C000, 0x4, 24, 0x1, 1, 0x0, 0x0, 0xFFFFFFFF, 0x0, 0x0, 0x0, 0x0⟩,
  ⟨0x4003C060, 0x1, 1, 0x1, 1, 0x0, 0x0, 0xFFFFFFFF, 0x0, 0x0, 0x0, 0x0⟩,
  ⟨0x4003C064, 0x1, 1, 0x1, 1, 0x0, 0x0, 0xFFFFFFFF, 0x0, 0x0, 0x0, 0x0⟩,
  ⟨0x4003C068, 0x4, 6, 0x1, 1, 0x0, 0x0, 0xFFFFFFFF, 0x0, 0x0, 0x0, 0x0⟩,
  ⟨0x4003C080, 0x4, 8, 0x1, 1, 0x0, 0x0, 0xFFFFFFFF, 0x0, 0x0, 0x0, 0x0⟩,
  ⟨0x4003C0A0, 0x4, 4, 0x1, 1, 0x0, 0xFFFFFFFF, 0x0, 0x0, 0x0, 0x0, 0x0⟩]

/-- Every row of the THM window. -/
def rowsTHM : List RegRow := rowsTHM0

/-- The rows of the window that holds an address, by its upper half word (R14). -/
def rowsAt (a : Nat) : List RegRow :=
  match a / 0x10000 with
  | 0x4000 => rowsSYS
  | 0x4001 => rowsCLK
  | 0x4002 => rowsPWR
  | 0x4010 => rowsCE
  | 0x4011 => rowsCE
  | 0x4012 => rowsCE
  | 0x4013 => rowsCE
  | 0x4014 => rowsCE
  | 0x4015 => rowsCE
  | 0x4016 => rowsCE
  | 0x4017 => rowsCE
  | 0x4030 => rowsUIN
  | 0x4031 => rowsLOS
  | 0x4032 => rowsMFP
  | 0x4060 => rowsGNS
  | 0x4040 => rowsCAM
  | 0x4050 => rowsFUS
  | 0x4070 => rowsFLR
  | 0x4005 => rowsDMA
  | 0x4004 => rowsMBX
  | 0x4080 => rowsCAN
  | 0x4081 => rowsCAN
  | 0x4082 => rowsCAN
  | 0x4083 => rowsCAN
  | 0x4084 => rowsCAN
  | 0x4085 => rowsCAN
  | 0x4090 => rowsETH
  | 0x40B0 => rowsVLV
  | 0x40A0 => rowsLSW
  | 0x4020 => rowsSAF
  | 0x40C0 => rowsDSP
  | 0x40C1 => rowsBST
  | 0x4006 => rowsEVR
  | 0x4007 => rowsTAB
  | 0x4008 => rowsUPD
  | 0x4003 => rowsTHM
  | _ => []

/-- Does row `r` hold the word at address `a`? -/
def RegRow.covers (r : RegRow) (a : Nat) : Bool :=
  decide (r.addr ≤ a) && (
    let d := a - r.addr
    let i := d / r.s1
    let e := d % r.s1
    if r.c1 ≤ 1 then (decide (d % r.s2 = 0) && decide (d / r.s2 < r.c2))
    else (decide (i < r.c1) && decide (e % r.s2 = 0) && decide (e / r.s2 < r.c2)))

/-- The row that holds address `a`, if a register lies there (R574). -/
def regRow (a : Nat) : Option RegRow := (rowsAt a).find? (fun r => r.covers a)

/-- Part of `resetByIndex`. -/
def resetByIndex0 : List (Nat × Nat) := [
  (0x40170000, 0x30400000),
  (0x40320000, 0x10000000),
  (0x40320004, 0x0),
  (0x40320008, 0x41F00000),
  (0x4032000C, 0x40000000),
  (0x40320010, 0x0),
  (0x40320014, 0x0),
  (0x40320018, 0x0),
  (0x4032001C, 0xCFF0),
  (0x40320020, 0x18000000),
  (0x40320024, 0xBDCCCCCD),
  (0x40320028, 0x3FC00000),
  (0x4032002C, 0x0),
  (0x40320030, 0x3F99999A),
  (0x40320034, 0x3F99999A),
  (0x40320038, 0x3F99999A),
  (0x4032003C, 0xCFF0),
  (0x40320040, 0x8000000),
  (0x40320044, 0xC1000000),
  (0x40320048, 0x41000000),
  (0x4032004C, 0x0),
  (0x40320050, 0x0),
  (0x40320054, 0x0),
  (0x40320058, 0x0),
  (0x4032005C, 0xC7F0),
  (0x40320060, 0x8000000),
  (0x40320064, 0x0),
  (0x40320068, 0x41000000),
  (0x4032006C, 0x3F800000),
  (0x40320070, 0x0),
  (0x40320074, 0x0),
  (0x40320078, 0x0),
  (0x4032007C, 0xC7F0),
  (0x40320080, 0x8000000),
  (0x40320084, 0x0),
  (0x40320088, 0x3F99999A),
  (0x4032008C, 0x3E99999A),
  (0x40320090, 0x3F19999A),
  (0x40320094, 0x3F19999A),
  (0x40320098, 0x3F19999A)]

/-- Part of `resetByIndex`. -/
def resetByIndex1 : List (Nat × Nat) := [
  (0x4032009C, 0xC7F0),
  (0x403200A0, 0x8000000),
  (0x403200A4, 0x0),
  (0x403200A8, 0x43C80000),
  (0x403200AC, 0x42C80000),
  (0x403200B0, 0x43480000),
  (0x403200B4, 0x43480000),
  (0x403200B8, 0x43480000),
  (0x403200BC, 0xC7F0),
  (0x403200C0, 0x8000000),
  (0x403200C4, 0x0),
  (0x403200C8, 0x44160000),
  (0x403200CC, 0x42C80000),
  (0x403200D0, 0x0),
  (0x403200D4, 0x0),
  (0x403200D8, 0x0),
  (0x403200DC, 0xC7F0),
  (0x403200E0, 0x8000000),
  (0x403200E4, 0x0),
  (0x403200E8, 0x44A28000),
  (0x403200EC, 0x42480000),
  (0x403200F0, 0x0),
  (0x403200F4, 0x0),
  (0x403200F8, 0x0),
  (0x403200FC, 0xC7F0),
  (0x40320100, 0x8000000),
  (0x40320104, 0x40000000),
  (0x40320108, 0x42480000),
  (0x4032010C, 0x40A00000),
  (0x40320110, 0x42200000),
  (0x40320114, 0x42200000),
  (0x40320118, 0x42200000),
  (0x4032011C, 0xC7F0),
  (0x40320120, 0x8000000),
  (0x40320124, 0x40000000),
  (0x40320128, 0x42480000),
  (0x4032012C, 0x40A00000),
  (0x40320130, 0x42200000),
  (0x40320134, 0x42200000),
  (0x40320138, 0x42200000)]

/-- Part of `resetByIndex`. -/
def resetByIndex2 : List (Nat × Nat) := [
  (0x4032013C, 0xC7F0),
  (0x40320140, 0x8000000),
  (0x40320144, 0x41200000),
  (0x40320148, 0x42340000),
  (0x4032014C, 0x40A00000),
  (0x40320150, 0x41F00000),
  (0x40320154, 0x41F00000),
  (0x40320158, 0x41F00000),
  (0x4032015C, 0xC7F0),
  (0x40320160, 0x8000000),
  (0x40320164, 0x0),
  (0x40320168, 0x44AF0000),
  (0x4032016C, 0x42700000),
  (0x40320170, 0x0),
  (0x40320174, 0x0),
  (0x40320178, 0x0),
  (0x4032017C, 0xC7F0),
  (0x40320180, 0x8000000),
  (0x40320184, 0x0),
  (0x40320188, 0x41F00000),
  (0x4032018C, 0x40000000),
  (0x40320190, 0x41600000),
  (0x40320194, 0x41600000),
  (0x40320198, 0x41600000),
  (0x4032019C, 0xC7F0),
  (0x403201A0, 0x8000000),
  (0x403201A4, 0x0),
  (0x403201A8, 0x41C80000),
  (0x403201AC, 0x40000000),
  (0x403201B0, 0x41000000),
  (0x403201B4, 0x41000000),
  (0x403201B8, 0x41000000),
  (0x403201BC, 0xC7F0),
  (0x403201C0, 0x8000000),
  (0x403201C4, 0x0),
  (0x403201C8, 0x42C80000),
  (0x403201CC, 0x41A00000),
  (0x403201D0, 0x0),
  (0x403201D4, 0x0),
  (0x403201D8, 0x0)]

/-- Part of `resetByIndex`. -/
def resetByIndex3 : List (Nat × Nat) := [
  (0x403201DC, 0xC7F0),
  (0x403201E0, 0x8000000),
  (0x403201E4, 0x0),
  (0x403201E8, 0x42C80000),
  (0x403201EC, 0x41A00000),
  (0x403201F0, 0x0),
  (0x403201F4, 0x0),
  (0x403201F8, 0x0),
  (0x403201FC, 0xC7F0),
  (0x40320200, 0x8000000),
  (0x40320204, 0x0),
  (0x40320208, 0x43FA0000),
  (0x4032020C, 0x42C80000),
  (0x40320210, 0x0),
  (0x40320214, 0x0),
  (0x40320218, 0x0),
  (0x4032021C, 0xC7F0),
  (0x40320220, 0x8000000),
  (0x40320224, 0x0),
  (0x40320228, 0x45610000),
  (0x4032022C, 0x43960000),
  (0x40320230, 0x0),
  (0x40320234, 0x0),
  (0x40320238, 0x0),
  (0x4032023C, 0xC7F0),
  (0x40320240, 0x8000000),
  (0x40320244, 0x0),
  (0x40320248, 0x42C80000),
  (0x4032024C, 0x41A00000),
  (0x40320250, 0x0),
  (0x40320254, 0x0),
  (0x40320258, 0x0),
  (0x4032025C, 0xC7F0),
  (0x40320260, 0x8000000),
  (0x40320264, 0x0),
  (0x40320268, 0x41600000),
  (0x4032026C, 0x40000000),
  (0x40320270, 0x0),
  (0x40320274, 0x0),
  (0x40320278, 0x0)]

/-- Part of `resetByIndex`. -/
def resetByIndex4 : List (Nat × Nat) := [
  (0x4032027C, 0xC7F0),
  (0x40320280, 0x8000000),
  (0x40320284, 0xC2C80000),
  (0x40320288, 0x42C80000),
  (0x4032028C, 0x41A00000),
  (0x40320290, 0x0),
  (0x40320294, 0x0),
  (0x40320298, 0x0),
  (0x4032029C, 0xC7F0),
  (0x403202A0, 0x8000000),
  (0x403202A4, 0x0),
  (0x403202A8, 0x44A28000),
  (0x403202AC, 0x43480000),
  (0x403202B0, 0x0),
  (0x403202B4, 0x0),
  (0x403202B8, 0x0),
  (0x403202BC, 0xC7F0),
  (0x403202C0, 0x8000000),
  (0x403202C4, 0x0),
  (0x403202C8, 0x40800000),
  (0x403202CC, 0x3F800000),
  (0x403202D0, 0x0),
  (0x403202D4, 0x0),
  (0x403202D8, 0x0),
  (0x403202DC, 0xC7F0),
  (0x403202E0, 0x8000000),
  (0x403202E4, 0x0),
  (0x403202E8, 0x40800000),
  (0x403202EC, 0x3F800000),
  (0x403202F0, 0x0),
  (0x403202F4, 0x0),
  (0x403202F8, 0x0),
  (0x403202FC, 0xC7F0),
  (0x40320300, 0x10000000),
  (0x40320304, 0x0),
  (0x40320308, 0x43340000),
  (0x4032030C, 0x0),
  (0x40320310, 0x0),
  (0x40320314, 0x0),
  (0x40320318, 0x0)]

/-- Part of `resetByIndex`. -/
def resetByIndex5 : List (Nat × Nat) := [
  (0x4032031C, 0xCFF0),
  (0x40320320, 0x0),
  (0x40320324, 0x0),
  (0x40320328, 0x42D20000),
  (0x4032032C, 0x41700000),
  (0x40320330, 0x0),
  (0x40320334, 0x0),
  (0x40320338, 0x0),
  (0x4032033C, 0xC7F0),
  (0x40320340, 0x0),
  (0x40320344, 0x0),
  (0x40320348, 0x44480000),
  (0x4032034C, 0x43480000),
  (0x40320350, 0x0),
  (0x40320354, 0x0),
  (0x40320358, 0x0),
  (0x4032035C, 0xC7F0),
  (0x40320360, 0x0),
  (0x40320364, 0x0),
  (0x40320368, 0x42C80000),
  (0x4032036C, 0x41C80000),
  (0x40320370, 0x0),
  (0x40320374, 0x0),
  (0x40320378, 0x0),
  (0x4032037C, 0xC7F0),
  (0x40320380, 0x0),
  (0x40320384, 0x0),
  (0x40320388, 0x42C80000),
  (0x4032038C, 0x41A00000),
  (0x40320390, 0x0),
  (0x40320394, 0x0),
  (0x40320398, 0x0),
  (0x4032039C, 0xC7F0),
  (0x403203A0, 0x0),
  (0x403203A4, 0x0),
  (0x403203A8, 0x42DC0000),
  (0x403203AC, 0x41A00000),
  (0x403203B0, 0x0),
  (0x403203B4, 0x0),
  (0x403203B8, 0x0)]

/-- Part of `resetByIndex`. -/
def resetByIndex6 : List (Nat × Nat) := [
  (0x403203BC, 0xC7F0),
  (0x4050C038, 0x3F800000),
  (0x4050C048, 0x3F800000),
  (0x4050C058, 0x3F800000),
  (0x40C10040, 0x50),
  (0x40C10044, 0x3C),
  (0x40C10048, 0x28),
  (0x40C1004C, 0x1E),
  (0x40C10050, 0x14),
  (0x40C10054, 0xF),
  (0x40C10058, 0xC),
  (0x40C1005C, 0xA)]

/-- Reset values that differ between the instances of one register array: the shipped calibration values of the thirty
machine functions (R192) and the spare designation of CE7 (R152). -/
def resetByIndex : List (Nat × Nat) := resetByIndex0 ++ resetByIndex1 ++ resetByIndex2 ++ resetByIndex3 ++ resetByIndex4 ++ resetByIndex5 ++ resetByIndex6

/-- The reset value of the register at address `a`; a place that holds no register reads 0 (R17). -/
def resetVal (a : Nat) : Word :=
  match if [0x4017, 0x4032, 0x4050, 0x40C1].contains (a / 0x10000) then resetByIndex.find? (fun p => p.1 == a) else none with
  | some p => BitVec.ofNat 32 p.2
  | none =>
    match regRow a with
    | some r => BitVec.ofNat 32 r.reset
    | none => 0

namespace Ra

abbrev SYS_ID : Nat := 0x40000000
abbrev SYS_FAB_ERR_ADDR : Nat := 0x40000100
abbrev SYS_FAB_ERR_INFO : Nat := 0x40000104
abbrev SYS_FAB_CNT : Nat := 0x40000110
abbrev SYS_FAB_PEAK : Nat := 0x40000114
abbrev CLK_DT_LO : Nat := 0x40010000
abbrev CLK_DT_HI : Nat := 0x40010004
abbrev CLK_TIME_STAT : Nat := 0x40010010
abbrev CLK_TIME_UNC : Nat := 0x40010014
abbrev CLK_STEER_CFG : Nat := 0x40010018
abbrev CLK_TICK_STAT : Nat := 0x40010030
abbrev CLK_PLOCK_EN : Nat := 0x40010040
abbrev CLK_VB_PHASE (n : Nat) : Nat := 0x40010080 + 0x4 * n
abbrev CLK_CAM_TRIG (n : Nat) : Nat := 0x400100C0 + 0x8 * n
abbrev CLK_CAM_FINE (n : Nat) : Nat := 0x400100C4 + 0x8 * n
abbrev CLK_STRM_CFG (n : Nat) : Nat := 0x40010100 + 0x8 * n
abbrev CLK_STRM_STAT (n : Nat) : Nat := 0x40010104 + 0x8 * n
abbrev CLK_FREQ_EST : Nat := 0x4001001C
abbrev CLK_DT_SET_LO : Nat := 0x40010020
abbrev CLK_DT_SET_HI : Nat := 0x40010024
abbrev CLK_PLL_STAT : Nat := 0x40010034
abbrev CLK_DOM_STAT : Nat := 0x40010038
abbrev SYS_MODE_REQ : Nat := 0x40000300
abbrev SYS_MODE_STAT : Nat := 0x40000304
abbrev PWR_RST_CAUSE : Nat := 0x40020000
abbrev PWR_STAT : Nat := 0x40020004
abbrev PWR_WAKE_CFG : Nat := 0x40020010
abbrev PWR_WAKE_TIMER : Nat := 0x40020014
abbrev PWR_RST_CTRL : Nat := 0x40020020
abbrev PWR_APP_WDOG : Nat := 0x40020024
abbrev CE_ENG_STAT (e : Nat) : Nat := 0x40100000 + 0x10000 * e
abbrev CE_ENG_CMD (e : Nat) : Nat := 0x40100004 + 0x10000 * e
abbrev CE_ENG_FAULT (e : Nat) : Nat := 0x40100008 + 0x10000 * e
abbrev CE_LOOP_CMD (e : Nat) : Nat := 0x40100020 + 0x10000 * e
abbrev CE_CMD_RESULT (e : Nat) : Nat := 0x40100024 + 0x10000 * e
abbrev CE_MIG_CMD (e : Nat) : Nat := 0x40100040 + 0x10000 * e
abbrev CE_MIG_STAT (e : Nat) : Nat := 0x40100044 + 0x10000 * e
abbrev CE_RT_IDX (e : Nat) : Nat := 0x40100060 + 0x10000 * e
abbrev CE_RT_CMD (e : Nat) : Nat := 0x40100074 + 0x10000 * e
abbrev CE_SLOT_CFG (e s : Nat) : Nat := 0x40100100 + 0x10000 * e + 0x20 * s
abbrev CE_SLOT_SCHED (e s : Nat) : Nat := 0x40100104 + 0x10000 * e + 0x20 * s
abbrev CE_SLOT_BUDGET (e s : Nat) : Nat := 0x40100108 + 0x10000 * e + 0x20 * s
abbrev CE_SLOT_ENTRY (e s : Nat) : Nat := 0x4010010C + 0x10000 * e + 0x20 * s
abbrev CE_SLOT_TRAPV (e s : Nat) : Nat := 0x40100110 + 0x10000 * e + 0x20 * s
abbrev CE_SLOT_WIN (e s : Nat) : Nat := 0x40100114 + 0x10000 * e + 0x20 * s
abbrev CE_SLOT_STATUS (e s : Nat) : Nat := 0x40100118 + 0x10000 * e + 0x20 * s
abbrev CE_SLOT_STATE_RGN (e s : Nat) : Nat := 0x4010011C + 0x10000 * e + 0x20 * s
abbrev CE_SET_SPARE (e : Nat) : Nat := 0x40100F00 + 0x10000 * e
abbrev CE_SET_STAT (e : Nat) : Nat := 0x40100F04 + 0x10000 * e
abbrev UIN_CH_CFG (n : Nat) : Nat := 0x40300000 + 0x20 * n
abbrev UIN_CH_STAT (n : Nat) : Nat := 0x40300010 + 0x20 * n
abbrev UIN_SUP_CFG (n : Nat) : Nat := 0x40300A00 + 0x8 * n
abbrev UIN_TEST_CMD : Nat := 0x40300C00
abbrev UIN_TEST_RES : Nat := 0x40300C04
abbrev LOS_CH_CFG (n : Nat) : Nat := 0x40310000 + 0x40 * n
abbrev LOS_CH_THR (n : Nat) : Nat := 0x40310004 + 0x40 * n
abbrev LOS_CH_STAT (n : Nat) : Nat := 0x40310018 + 0x40 * n
abbrev MFP_MF_CTL (n : Nat) : Nat := 0x40320000 + 0x20 * n
abbrev MFP_MF_STAT (n : Nat) : Nat := 0x4032001C + 0x20 * n
abbrev GNS_CTL : Nat := 0x40600000
abbrev GNS_ANT_CFG (a : Nat) : Nat := 0x40600010 + 0x8 * a
abbrev GNS_ANT_STAT (a : Nat) : Nat := 0x40600014 + 0x8 * a
abbrev GNS_CH_ALLOC : Nat := 0x40600020
abbrev GNS_SIG_CFG (s : Nat) : Nat := 0x40600040 + 0x4 * s
abbrev GNS_RTK_CFG : Nat := 0x40600100
abbrev GNS_RTK_STAT : Nat := 0x40600104
abbrev GNS_MB_CFG : Nat := 0x40600200
abbrev GNS_MB_NB_CFG (k : Nat) : Nat := 0x40600210 + 0x8 * k
abbrev GNS_MB_NB_STAT (k : Nat) : Nat := 0x40600214 + 0x8 * k
abbrev GNS_PPS_CFG : Nat := 0x40600300
abbrev GNS_PPS_STAT : Nat := 0x40600304
abbrev CAM_LNK_CFG (n : Nat) : Nat := 0x40400000 + 0x100 * n
abbrev CAM_LNK_STAT (n : Nat) : Nat := 0x40400004 + 0x100 * n
abbrev CAM_LNK_VC_CFG (n v : Nat) : Nat := 0x40400010 + 0x100 * n + 0x4 * v
abbrev CAM_LNK_RING_CFG (n : Nat) : Nat := 0x40400028 + 0x100 * n
abbrev CAM_LNK_EMB (n : Nat) : Nat := 0x40400030 + 0x100 * n
abbrev CAM_EXP_CTL (n : Nat) : Nat := 0x40400620 + 0x40 * n
abbrev CAM_EXP_STAT (n : Nat) : Nat := 0x40400628 + 0x40 * n
abbrev CAM_PAIR_CFG (p : Nat) : Nat := 0x40400800 + 0x10 * p
abbrev CAM_PAIR_STAT (p : Nat) : Nat := 0x40400804 + 0x10 * p
abbrev CAM_MP_CFG (n : Nat) : Nat := 0x40400900 + 0x20 * n
abbrev CAM_MP_STAT (n : Nat) : Nat := 0x40400914 + 0x20 * n
abbrev CAM_ISP_INLINE : Nat := 0x40400B00
abbrev FUS_STAT : Nat := 0x40500000
abbrev FUS_EGO_CFG : Nat := 0x40500010
abbrev FUS_WHL_CFG (w : Nat) : Nat := 0x40500020 + 0x4 * w
abbrev FUS_TRK_CFG : Nat := 0x40500040
abbrev FUS_CORR_CFG : Nat := 0x40500044
abbrev FUS_INF_JOB_CFG (j : Nat) : Nat := 0x40500100 + 0x20 * j
abbrev FLR_CFG : Nat := 0x40700000
abbrev FLR_STAT : Nat := 0x40700004
abbrev FLR_DOM_CFG : Nat := 0x40700010
abbrev FLR_RADIO_CFG : Nat := 0x40700014
abbrev FLR_ROLE (i : Nat) : Nat := 0x40700020 + 0x4 * i
abbrev FLR_TXN_CFG : Nat := 0x40700040
abbrev FLR_TXN_STAT : Nat := 0x40700044
abbrev FLR_UNL_CFG : Nat := 0x40700060
abbrev FLR_UNL_STAT : Nat := 0x4070006C
abbrev FLR_MBR_STAT (m : Nat) : Nat := 0x40700100 + 0x4 * m
abbrev DMA_CH_CFG (n : Nat) : Nat := 0x40050000 + 0x40 * n
abbrev DMA_CH_STAT (n : Nat) : Nat := 0x40050018 + 0x40 * n
abbrev DMA_CH_FAULT_INFO (n : Nat) : Nat := 0x4005002C + 0x40 * n
abbrev IOMMU_INV_CMD : Nat := 0x40051020
abbrev MBX_EP_CFG (e : Nat) : Nat := 0x40040000 + 0x20 * e
abbrev MBX_EP_CFG2 (e : Nat) : Nat := 0x40040004 + 0x20 * e
abbrev MBX_EP_STAT (e : Nat) : Nat := 0x40040008 + 0x20 * e
abbrev MBX_EP_POST (e : Nat) : Nat := 0x4004000C + 0x20 * e
abbrev MBX_EP_SEND_STAT (e : Nat) : Nat := 0x40040010 + 0x20 * e
abbrev CAN_CTL (c : Nat) : Nat := 0x40800000 + 0x10000 * c
abbrev CAN_NBT (c : Nat) : Nat := 0x40800004 + 0x10000 * c
abbrev CAN_DBT (c : Nat) : Nat := 0x40800008 + 0x10000 * c
abbrev CAN_TDC (c : Nat) : Nat := 0x4080000C + 0x10000 * c
abbrev CAN_STAT (c : Nat) : Nat := 0x40800010 + 0x10000 * c
abbrev CAN_WUF_CFG (c : Nat) : Nat := 0x40800020 + 0x10000 * c
abbrev CAN_SIG_IDX (c : Nat) : Nat := 0x40800100 + 0x10000 * c
abbrev CAN_SIG_CMD (c : Nat) : Nat := 0x4080011C + 0x10000 * c
abbrev CAN_STRM_CFG (c k : Nat) : Nat := 0x40800200 + 0x10000 * c + 0x8 * k
abbrev ETH_PORT_CFG (p : Nat) : Nat := 0x40900000 + 0x20 * p
abbrev ETH_PTP_CFG : Nat := 0x40900200
abbrev ETH_PTP_STAT : Nat := 0x40900204
abbrev VHP_SESS_STAT (s : Nat) : Nat := 0x40900400 + 0x4 * s
abbrev VLV_CH_CFG (n : Nat) : Nat := 0x40B00000 + 0x20 * n
abbrev VLV_CH_STAT (n : Nat) : Nat := 0x40B00004 + 0x20 * n
abbrev VLV_BANK_CFG (b : Nat) : Nat := 0x40B00800 + 0x40 * b
abbrev VLV_BANK_STAT (b : Nat) : Nat := 0x40B00804 + 0x40 * b
abbrev VLV_BANK_KINK (b : Nat) : Nat := 0x40B0080C + 0x40 * b
abbrev VLV_TEST_CMD : Nat := 0x40B00C00
abbrev VLV_TEST_RES : Nat := 0x40B00C04
abbrev LSW_CH_CFG (n : Nat) : Nat := 0x40A00000 + 0x20 * n
abbrev LSW_CH_CMD (n : Nat) : Nat := 0x40A00004 + 0x20 * n
abbrev LSW_CH_STAT (n : Nat) : Nat := 0x40A00008 + 0x20 * n
abbrev LSW_CH_THR (n : Nat) : Nat := 0x40A0000C + 0x20 * n
abbrev LSW_CH_TIME (n : Nat) : Nat := 0x40A00010 + 0x20 * n
abbrev LSW_GRP_CFG (g : Nat) : Nat := 0x40A00400 + 0x10 * g
abbrev SAF_STAT : Nat := 0x40200000
abbrev SAF_LOCK : Nat := 0x40200004
abbrev SAF_IN_CFG (i : Nat) : Nat := 0x40200100 + 0x10 * i
abbrev SAF_HB : Nat := 0x40200300
abbrev SAF_STEER_TEST : Nat := 0x40200408
abbrev SAF_STOP_REQ : Nat := 0x40200410
abbrev DSP_PNL_CTL : Nat := 0x40C00000
abbrev DSP_PNL_STAT : Nat := 0x40C00004
abbrev DSP_FB_CFG : Nat := 0x40C00010
abbrev BST_CFG : Nat := 0x40C10000
abbrev BST_STAT : Nat := 0x40C10034
abbrev EVR_CFG : Nat := 0x40060000
abbrev EVR_STAT : Nat := 0x40060004
abbrev EVR_LOUPE_CTL (w : Nat) : Nat := 0x40060100 + 0x30 * w
abbrev TAB_CFG : Nat := 0x40070000
abbrev TAB_STAT : Nat := 0x40070004
abbrev TAB_TRIG (k : Nat) : Nat := 0x40070040 + 0x8 * k
abbrev TAB_RPL_CTL : Nat := 0x40070100
abbrev TAB_DIV_INFO : Nat := 0x40070120
abbrev UPD_STAT : Nat := 0x40080000
abbrev UPD_APERTURE : Nat := 0x40080008
abbrev UPD_CMD : Nat := 0x40080020
abbrev UPD_HEALTH : Nat := 0x40080024
abbrev UPD_CAL_STAT : Nat := 0x4008004C
abbrev UPD_DBG_STAT : Nat := 0x40080080
abbrev PWR_SUP_STAT : Nat := 0x40020100
abbrev PWR_GND_STAT : Nat := 0x40020104
abbrev PWR_RSV_STAT : Nat := 0x40020180
abbrev THM_SITE (s : Nat) : Nat := 0x40030000 + 0x4 * s
abbrev THM_STAT : Nat := 0x40030100
abbrev THM_PWR : Nat := 0x40030104
abbrev EVR_NEXT : Nat := 0x40060008
abbrev EVR_OLDEST : Nat := 0x4006000C
abbrev EVR_OVERWR : Nat := 0x40060010
abbrev EVR_NONCE_LO : Nat := 0x40060014
abbrev EVR_NONCE_HI : Nat := 0x40060018
abbrev EVR_APP_CODE : Nat := 0x40060020
abbrev EVR_APP_D0 : Nat := 0x40060024
abbrev EVR_APP_D1 : Nat := 0x40060028
abbrev EVR_APP_GO : Nat := 0x4006002C
abbrev EVR_CLR_LO : Nat := 0x40060030
abbrev EVR_CLR_HI : Nat := 0x40060034
abbrev EVR_CLR_STAT : Nat := 0x40060038
abbrev EVR_CLR_CMD : Nat := 0x4006003C
abbrev EVR_OPTIME : Nat := 0x40060040
abbrev EVR_FIELD_S : Nat := 0x40060044
abbrev EVR_PCYC : Nat := 0x40060048
abbrev EVR_WAKES : Nat := 0x4006004C
abbrev EVR_RESETS : Nat := 0x40060050
abbrev EVR_LOUPE_CUR (w : Nat) : Nat := 0x40060104 + 0x30 * w
abbrev EVR_LOUPE_DATA (w k : Nat) : Nat := 0x40060108 + 0x30 * w + 0x4 * k
abbrev TAB_SEG : Nat := 0x40070008
abbrev TAB_RATE : Nat := 0x4007000C
abbrev TAB_TRIG_TIME (k : Nat) : Nat := 0x40070044 + 0x8 * k
abbrev TAB_FW_CFG : Nat := 0x40070080
abbrev TAB_HOLD_FIRST (h : Nat) : Nat := 0x40070090 + 0x8 * h
abbrev TAB_HOLD_LAST (h : Nat) : Nat := 0x40070094 + 0x8 * h
abbrev TAB_RPL_SEL : Nat := 0x40070104
abbrev TAB_RPL_CKPT : Nat := 0x40070108
abbrev TAB_RPL_END_LO : Nat := 0x4007010C
abbrev TAB_RPL_END_HI : Nat := 0x40070110
abbrev TAB_RPL_TICK_LO : Nat := 0x40070114
abbrev TAB_RPL_TICK_HI : Nat := 0x40070118
abbrev TAB_DIV_TICK_LO : Nat := 0x40070124
abbrev TAB_DIV_TICK_HI : Nat := 0x40070128
abbrev TAB_DIV_STEP : Nat := 0x4007012C
abbrev TAB_DIV_REC : Nat := 0x40070130
abbrev TAB_DIV_REP : Nat := 0x40070134
abbrev TAB_DIV_CNT : Nat := 0x40070138
abbrev DMA_CH_RING_LO (n : Nat) : Nat := 0x40050004 + 0x40 * n
abbrev DMA_CH_RING_HI (n : Nat) : Nat := 0x40050008 + 0x40 * n
abbrev DMA_CH_RING_CFG (n : Nat) : Nat := 0x4005000C + 0x40 * n
abbrev DMA_CH_TAIL (n : Nat) : Nat := 0x40050010 + 0x40 * n
abbrev DMA_CH_HEAD (n : Nat) : Nat := 0x40050014 + 0x40 * n
abbrev DMA_CH_CNT (n : Nat) : Nat := 0x4005001C + 0x40 * n
abbrev DMA_CH_CMD (n : Nat) : Nat := 0x40050020 + 0x40 * n
abbrev DMA_CH_FAULT_LO (n : Nat) : Nat := 0x40050024 + 0x40 * n
abbrev DMA_CH_FAULT_HI (n : Nat) : Nat := 0x40050028 + 0x40 * n
abbrev IOMMU_INI_MAP (k : Nat) : Nat := 0x40051000 + 0x4 * k
abbrev IOMMU_INV_LO : Nat := 0x40051024
abbrev IOMMU_INV_HI : Nat := 0x40051028
abbrev IOMMU_INV_STAT : Nat := 0x4005102C
abbrev IOMMU_CTXT_LO : Nat := 0x40051040
abbrev IOMMU_CTXT_HI : Nat := 0x40051044
abbrev MBX_EP_ACK (e : Nat) : Nat := 0x40040014 + 0x20 * e
abbrev MBX_EP_ACK_RES (e : Nat) : Nat := 0x40040018 + 0x20 * e
abbrev MBX_EP_LATE (e : Nat) : Nat := 0x4004001C + 0x20 * e
abbrev MBX_DB_TARGET (d : Nat) : Nat := 0x40041000 + 0x10 * d
abbrev MBX_DB_SET (d : Nat) : Nat := 0x40041004 + 0x10 * d
abbrev MBX_DB_PEND (d : Nat) : Nat := 0x40041008 + 0x10 * d
abbrev MBX_CFG : Nat := 0x40041400
abbrev MBX_EP_FREE : Nat := 0x40041404
abbrev MBX_STAT_CODE : Nat := 0x40041408
abbrev MBX_PAYLOAD (e k : Nat) : Nat := 0x40048000 + 0x40 * e + 0x4 * k
abbrev CE_LOAD_ADDR_LO (e : Nat) : Nat := 0x40100028 + 0x10000 * e
abbrev CE_LOAD_ADDR_HI (e : Nat) : Nat := 0x4010002C + 0x10000 * e
abbrev CE_LOAD_LEN (e : Nat) : Nat := 0x40100030 + 0x10000 * e
abbrev CE_MIG_CUT_LO (e : Nat) : Nat := 0x40100048 + 0x10000 * e
abbrev CE_MIG_CUT_HI (e : Nat) : Nat := 0x4010004C + 0x10000 * e
abbrev CE_RT_DATA (e k : Nat) : Nat := 0x40100064 + 0x10000 * e + 0x4 * k
abbrev CE_SET_EVAC (e : Nat) : Nat := 0x40100F08 + 0x10000 * e
abbrev CE_SET_SFC (e : Nat) : Nat := 0x40100F0C + 0x10000 * e
abbrev VLV_CH_MEAS (n : Nat) : Nat := 0x40B00008 + 0x20 * n
abbrev VLV_CH_KINK (n : Nat) : Nat := 0x40B0000C + 0x20 * n
abbrev VLV_CH_COIL (n : Nat) : Nat := 0x40B00010 + 0x20 * n
abbrev VLV_CH_TEMP (n : Nat) : Nat := 0x40B00014 + 0x20 * n
abbrev VLV_CH_CNT (n : Nat) : Nat := 0x40B00018 + 0x20 * n
abbrev VLV_CH_R20 (n : Nat) : Nat := 0x40B0001C + 0x20 * n
abbrev VLV_BANK_ILIM (b : Nat) : Nat := 0x40B00808 + 0x40 * b
abbrev VLV_BANK_RAIL (b : Nat) : Nat := 0x40B00810 + 0x40 * b
abbrev VLV_BANK_DUTY (b : Nat) : Nat := 0x40B00814 + 0x40 * b
abbrev VLV_BANK_SWAP (b : Nat) : Nat := 0x40B00818 + 0x40 * b
abbrev VLV_BANK_CLR (b : Nat) : Nat := 0x40B0081C + 0x40 * b
abbrev VLV_BANK_SEQ (b : Nat) : Nat := 0x40B00820 + 0x40 * b
abbrev LSW_CH_MEAS (n : Nat) : Nat := 0x40A00014 + 0x20 * n
abbrev LSW_CH_CNT (n : Nat) : Nat := 0x40A00018 + 0x20 * n
abbrev LSW_CH_CLR (n : Nat) : Nat := 0x40A0001C + 0x20 * n
abbrev LSW_GRP_STAT (g : Nat) : Nat := 0x40A00404 + 0x10 * g
abbrev LSW_GRP_CUR (g : Nat) : Nat := 0x40A00408 + 0x10 * g
abbrev LSW_GRP_SAG (g : Nat) : Nat := 0x40A0040C + 0x10 * g
abbrev LSW_SUM : Nat := 0x40A00440
abbrev LSW_TEST_CMD : Nat := 0x40A00C00
abbrev LSW_TEST_RES : Nat := 0x40A00C04
abbrev UIN_CH_GAIN (n : Nat) : Nat := 0x40300004 + 0x20 * n
abbrev UIN_CH_OFFSET (n : Nat) : Nat := 0x40300008 + 0x20 * n
abbrev UIN_CH_LIM (n : Nat) : Nat := 0x4030000C + 0x20 * n
abbrev UIN_CH_VAL (n : Nat) : Nat := 0x40300014 + 0x20 * n
abbrev BRG_CH_CFG (n : Nat) : Nat := 0x40300800 + 0x20 * n
abbrev BRG_CH_GAIN (n : Nat) : Nat := 0x40300804 + 0x20 * n
abbrev BRG_CH_OFFSET (n : Nat) : Nat := 0x40300808 + 0x20 * n
abbrev BRG_CH_LIM (n : Nat) : Nat := 0x4030080C + 0x20 * n
abbrev BRG_CH_STAT (n : Nat) : Nat := 0x40300810 + 0x20 * n
abbrev BRG_CH_VAL (n : Nat) : Nat := 0x40300814 + 0x20 * n
abbrev UIN_SUP_STAT (n : Nat) : Nat := 0x40300A04 + 0x8 * n
abbrev MFP_MF_LIM_LO (n : Nat) : Nat := 0x40320004 + 0x20 * n
abbrev MFP_MF_LIM_HI (n : Nat) : Nat := 0x40320008 + 0x20 * n
abbrev MFP_MF_RAMP (n : Nat) : Nat := 0x4032000C + 0x20 * n
abbrev MFP_MF_SAFE (n : Nat) : Nat := 0x40320010 + 0x20 * n
abbrev MFP_MF_OPER (n : Nat) : Nat := 0x40320014 + 0x20 * n
abbrev MFP_MF_HOST (n : Nat) : Nat := 0x40320018 + 0x20 * n
abbrev GNS_PPS_B_LO : Nat := 0x40600308
abbrev GNS_PPS_B_HI : Nat := 0x4060030C
abbrev GNS_REFPT_X (i : Nat) : Nat := 0x40600180 + 0x10 * i
abbrev GNS_REFPT_Y (i : Nat) : Nat := 0x40600184 + 0x10 * i
abbrev GNS_REFPT_Z (i : Nat) : Nat := 0x40600188 + 0x10 * i
abbrev GNS_ATT_CFG : Nat := 0x406001C0
abbrev SAF_STEER_REQ : Nat := 0x40200400
abbrev SAF_STEER_STAT : Nat := 0x40200404
abbrev CAM_LNK_RING_LO (n : Nat) : Nat := 0x40400020 + 0x100 * n
abbrev CAM_LNK_RING_HI (n : Nat) : Nat := 0x40400024 + 0x100 * n
abbrev CAM_LNK_RING_WR (n : Nat) : Nat := 0x4040002C + 0x100 * n
abbrev CAM_LNK_TSC (n : Nat) : Nat := 0x40400034 + 0x100 * n
abbrev CAM_EXP_W (n k : Nat) : Nat := 0x40400600 + 0x40 * n + 0x4 * k
abbrev CAM_EXP_COMMIT (n : Nat) : Nat := 0x40400624 + 0x40 * n
abbrev CAM_EXP_EPOCH (n : Nat) : Nat := 0x4040062C + 0x40 * n
abbrev CAM_EXP_ACK_DT_LO (n : Nat) : Nat := 0x40400630 + 0x40 * n
abbrev CAM_EXP_ACK_DT_HI (n : Nat) : Nat := 0x40400634 + 0x40 * n
abbrev CAM_PAIR_LAST (p : Nat) : Nat := 0x40400808 + 0x10 * p
abbrev CAM_MP_OUT_LO (n : Nat) : Nat := 0x40400904 + 0x20 * n
abbrev CAM_MP_OUT_HI (n : Nat) : Nat := 0x40400908 + 0x20 * n
abbrev CAM_MP_STATS_LO (n : Nat) : Nat := 0x4040090C + 0x20 * n
abbrev CAM_MP_STATS_HI (n : Nat) : Nat := 0x40400910 + 0x20 * n
abbrev CAM_SET_BLK01 (k : Nat) : Nat := 0x40401000 + 0x40 * k
abbrev CAM_SET_BLK23 (k : Nat) : Nat := 0x40401004 + 0x40 * k
abbrev CAM_SET_WB01 (k : Nat) : Nat := 0x40401008 + 0x40 * k
abbrev CAM_SET_WB23 (k : Nat) : Nat := 0x4040100C + 0x40 * k
abbrev CAM_SET_M0 (k : Nat) : Nat := 0x40401010 + 0x40 * k
abbrev CAM_SET_M1 (k : Nat) : Nat := 0x40401014 + 0x40 * k
abbrev CAM_SET_M2 (k : Nat) : Nat := 0x40401018 + 0x40 * k
abbrev CAM_SET_M3 (k : Nat) : Nat := 0x4040101C + 0x40 * k
abbrev CAM_SET_M4 (k : Nat) : Nat := 0x40401020 + 0x40 * k
abbrev CAM_SET_OFS (k : Nat) : Nat := 0x40401024 + 0x40 * k
abbrev CAM_SET_TONE_LO (k : Nat) : Nat := 0x40401028 + 0x40 * k
abbrev CAM_SET_TONE_HI (k : Nat) : Nat := 0x4040102C + 0x40 * k
abbrev CAM_SET_FMT (k : Nat) : Nat := 0x40401030 + 0x40 * k
abbrev CAM_SET_AUX (k j : Nat) : Nat := 0x40401034 + 0x40 * k + 0x4 * j
abbrev FUS_STAT_CODE : Nat := 0x40500004
abbrev FUS_EGO_OLD : Nat := 0x40500018
abbrev FUS_TRK_RING_LO : Nat := 0x40500050
abbrev FUS_TRK_RING_HI : Nat := 0x40500054
abbrev FUS_TRK_WR : Nat := 0x40500058
abbrev FUS_TRK_DROP : Nat := 0x4050005C
abbrev FUS_CROP_CFG : Nat := 0x40500060
abbrev FUS_PAR_CFG : Nat := 0x40500070
abbrev FUS_PAR_CMD : Nat := 0x40500074
abbrev FUS_PAR_STAT : Nat := 0x40500078
abbrev FUS_INF_JOB_RING_LO (j : Nat) : Nat := 0x40500104 + 0x20 * j
abbrev FUS_INF_JOB_RING_HI (j : Nat) : Nat := 0x40500108 + 0x20 * j
abbrev FUS_INF_JOB_RING_CFG (j : Nat) : Nat := 0x4050010C + 0x20 * j
abbrev FUS_INF_JOB_STAT (j : Nat) : Nat := 0x40500110 + 0x20 * j
abbrev FUS_LAT (u : Nat) : Nat := 0x40500200 + 0x4 * u
abbrev FUS_SRC_CFG (s : Nat) : Nat := 0x40500240 + 0x8 * s
abbrev FUS_SRC_STAT (s : Nat) : Nat := 0x40500244 + 0x8 * s
abbrev FLR_SFN : Nat := 0x40700008
abbrev FLR_ANT_CFG : Nat := 0x40700018
abbrev FLR_REG_WIN : Nat := 0x40700048
abbrev FLR_UNL_ID : Nat := 0x40700064
abbrev FLR_UNL_START : Nat := 0x40700068
abbrev FLR_UNL_DATA (k : Nat) : Nat := 0x40700070 + 0x4 * k
abbrev CAN_ERR (c : Nat) : Nat := 0x40800014 + 0x10000 * c
abbrev CAN_WUF_ID (c : Nat) : Nat := 0x40800024 + 0x10000 * c
abbrev CAN_WUF_MASK (c : Nat) : Nat := 0x40800028 + 0x10000 * c
abbrev CAN_WUF_DATA (c k : Nat) : Nat := 0x4080002C + 0x10000 * c + 0x4 * k
abbrev CAN_WUF_DMASK (c k : Nat) : Nat := 0x40800034 + 0x10000 * c + 0x4 * k
abbrev CAN_SIG_DATA (c k : Nat) : Nat := 0x40800104 + 0x10000 * c + 0x4 * k
abbrev CAN_STRM_TSC (c k : Nat) : Nat := 0x40800204 + 0x10000 * c + 0x8 * k
abbrev ETH_PORT_STAT (p : Nat) : Nat := 0x40900004 + 0x20 * p
abbrev ETH_PTP_OFS_LO : Nat := 0x40900208
abbrev ETH_PTP_OFS_HI : Nat := 0x4090020C
abbrev VHP_CFG : Nat := 0x409003F0
abbrev SAF_LOCK_MASK : Nat := 0x40200008
abbrev DSP_FB_A_LO : Nat := 0x40C00014
abbrev DSP_FB_A_HI : Nat := 0x40C00018
abbrev DSP_FB_B_LO : Nat := 0x40C0001C
abbrev DSP_FB_B_HI : Nat := 0x40C00020
abbrev DSP_FB_FLIP : Nat := 0x40C00024
abbrev DSP_TIM : Nat := 0x40C00028
abbrev DSP_PNL_BRT : Nat := 0x40C0002C
abbrev DSP_AGE_LO : Nat := 0x40C00030
abbrev DSP_AGE_HI : Nat := 0x40C00034
abbrev DSP_BLINK_P0 (k : Nat) : Nat := 0x40C00100 + 0x10 * k
abbrev DSP_BLINK_P1 (k : Nat) : Nat := 0x40C00104 + 0x10 * k
abbrev DSP_BLINK_T (k : Nat) : Nat := 0x40C00108 + 0x10 * k
abbrev DSP_BLINK_C (k : Nat) : Nat := 0x40C0010C + 0x10 * k
abbrev BST_IMG_LO (c : Nat) : Nat := 0x40C10010 + 0x8 * c
abbrev BST_IMG_HI (c : Nat) : Nat := 0x40C10014 + 0x8 * c
abbrev BST_UPD : Nat := 0x40C10030
abbrev BST_TEMP : Nat := 0x40C10038
abbrev BST_BAND (b : Nat) : Nat := 0x40C10040 + 0x4 * b
abbrev BST_CNT : Nat := 0x40C10060
abbrev UPD_CODE : Nat := 0x40080004
abbrev UPD_PKG_LO : Nat := 0x40080010
abbrev UPD_PKG_HI : Nat := 0x40080014
abbrev UPD_TOTAL : Nat := 0x40080018
abbrev UPD_RX : Nat := 0x4008001C
abbrev UPD_TRIAL_S : Nat := 0x40080028
abbrev UPD_BLK_LO : Nat := 0x40080030
abbrev UPD_BLK_HI : Nat := 0x40080034
abbrev UPD_BLK_CMD : Nat := 0x40080038
abbrev UPD_BLK_BMP : Nat := 0x4008003C
abbrev UPD_CAL_LO : Nat := 0x40080040
abbrev UPD_CAL_HI : Nat := 0x40080044
abbrev UPD_CAL_CMD : Nat := 0x40080048
abbrev UPD_CAL_WCNT : Nat := 0x40080050
abbrev UPD_NONCE_LO : Nat := 0x40080060
abbrev UPD_NONCE_HI : Nat := 0x40080064
abbrev UPD_TOK_LO : Nat := 0x40080068
abbrev UPD_TOK_HI : Nat := 0x4008006C
abbrev UPD_TOK_CMD : Nat := 0x40080070
abbrev UPD_TOK_STAT : Nat := 0x40080074
abbrev UPD_DBG_CLOSE : Nat := 0x40080084
abbrev UPD_FENCE : Nat := 0x40080088
abbrev TAB_RING_WR : Nat := 0x4007C000
abbrev TAB_PEAK_RATE : Nat := 0x4007C004
abbrev TAB_BLOCKS : Nat := 0x4007C008
abbrev TAB_UFS_ERR : Nat := 0x4007C00C
abbrev TAB_WIN_STAT : Nat := 0x4007C010
abbrev TAB_WIN_MISSING : Nat := 0x4007C014
abbrev TAB_TRIG_IGNORED : Nat := 0x4007C018
abbrev TAB_REL_LO : Nat := 0x4007C01C
abbrev TAB_REL_HI : Nat := 0x4007C020
abbrev TAB_REL_CNT : Nat := 0x4007C024
abbrev TAB_READ_AHEAD : Nat := 0x4007C028
abbrev TAB_LOAD_TIME : Nat := 0x4007C02C
abbrev TAB_REC_TYPE (k : Nat) : Nat := 0x4007C030 + 0x4 * k
abbrev TAB_DIG_SWITCH : Nat := 0x4007C050
abbrev TAB_INT_PEND (k : Nat) : Nat := 0x4007C054 + 0xC * k
abbrev TAB_INT_EN (k : Nat) : Nat := 0x4007C058 + 0xC * k
abbrev TAB_INT_RT (k : Nat) : Nat := 0x4007C05C + 0xC * k
abbrev SYS_ID_OPT (k : Nat) : Nat := 0x4000C000 + 0x4 * k
abbrev SYS_FAB_AUX (k : Nat) : Nat := 0x4000C014 + 0x4 * k
abbrev SYS_APP_CTL (k : Nat) : Nat := 0x4000C03C + 0x4 * k
abbrev SYS_INT_PEND (k : Nat) : Nat := 0x4000C0AC + 0xC * k
abbrev SYS_INT_EN (k : Nat) : Nat := 0x4000C0B0 + 0xC * k
abbrev SYS_INT_RT (k : Nat) : Nat := 0x4000C0B4 + 0xC * k
abbrev SYS_SCRATCH (k : Nat) : Nat := 0x4000C16C + 0x4 * k
abbrev DMA_IOFAULT_LO : Nat := 0x4005C000
abbrev DMA_IOFAULT_HI : Nat := 0x4005C004
abbrev DMA_IOFAULT_INFO : Nat := 0x4005C008
abbrev DMA_IOFAULT_OVR : Nat := 0x4005C00C
abbrev DMA_WALK_CNT (k : Nat) : Nat := 0x4005C010 + 0x4 * k
abbrev DMA_WALKFLT_CNT (k : Nat) : Nat := 0x4005C020 + 0x4 * k
abbrev DMA_CACHE_HITS : Nat := 0x4005C030
abbrev DMA_MEM_CE_CNT : Nat := 0x4005C034
abbrev DMA_MEM_UE_CNT : Nat := 0x4005C038
abbrev MBX_FULL_MAP (k : Nat) : Nat := 0x4004C000 + 0x4 * k
abbrev MBX_XING_MAP (k : Nat) : Nat := 0x4004C008 + 0x4 * k
abbrev MBX_CODE_CNT (k : Nat) : Nat := 0x4004C010 + 0x4 * k
abbrev MBX_INT_PEND (k : Nat) : Nat := 0x4004C068 + 0xC * k
abbrev MBX_INT_EN (k : Nat) : Nat := 0x4004C06C + 0xC * k
abbrev MBX_INT_RT (k : Nat) : Nat := 0x4004C070 + 0xC * k
abbrev CE_ENG_AUX (e k : Nat) : Nat := 0x4010C000 + 0x10000 * e + 0x4 * k
abbrev CE_INT_PEND (e k : Nat) : Nat := 0x4010C014 + 0x10000 * e + 0xC * k
abbrev CE_INT_EN (e k : Nat) : Nat := 0x4010C018 + 0x10000 * e + 0xC * k
abbrev CE_INT_RT (e k : Nat) : Nat := 0x4010C01C + 0x10000 * e + 0xC * k
abbrev CE_INT_AUX (e k : Nat) : Nat := 0x4010C020 + 0x10000 * e + 0x4 * k
abbrev CE_PERF (e k : Nat) : Nat := 0x4010C028 + 0x10000 * e + 0x4 * k
abbrev VLV_BANK_GRANTS (k : Nat) : Nat := 0x40B0C000 + 0x4 * k
abbrev VLV_BANK_REJS (k : Nat) : Nat := 0x40B0C020 + 0x4 * k
abbrev VLV_BANK_FAULTS (k : Nat) : Nat := 0x40B0C040 + 0x4 * k
abbrev VLV_TEST_R : Nat := 0x40B0C060
abbrev VLV_TEST_L : Nat := 0x40B0C064
abbrev VLV_FAULT_MAP (k : Nat) : Nat := 0x40B0C068 + 0x4 * k
abbrev VLV_BATB_MON : Nat := 0x40B0C070
abbrev VLV_GND_MON : Nat := 0x40B0C074
abbrev VLV_MON_AUX (k : Nat) : Nat := 0x40B0C078 + 0x4 * k
abbrev VLV_INT_PEND (k : Nat) : Nat := 0x40B0C0C8 + 0xC * k
abbrev VLV_INT_EN (k : Nat) : Nat := 0x40B0C0CC + 0xC * k
abbrev VLV_INT_RT (k : Nat) : Nat := 0x40B0C0D0 + 0xC * k
abbrev LSW_FAULT_MAP : Nat := 0x40A0C000
abbrev LSW_LATCH_MAP : Nat := 0x40A0C004
abbrev LSW_OWN_MAP : Nat := 0x40A0C008
abbrev LSW_AUX : Nat := 0x40A0C00C
abbrev LSW_INT_PEND (k : Nat) : Nat := 0x40A0C010 + 0xC * k
abbrev LSW_INT_EN (k : Nat) : Nat := 0x40A0C014 + 0xC * k
abbrev LSW_INT_RT (k : Nat) : Nat := 0x40A0C018 + 0xC * k
abbrev UIN_IMU_CFG : Nat := 0x4030C000
abbrev UIN_IMU_STAT : Nat := 0x4030C004
abbrev UIN_IMU_TEMP : Nat := 0x4030C008
abbrev UIN_IMU_TEST_RES : Nat := 0x4030C00C
abbrev UIN_FAULT_MAP : Nat := 0x4030C010
abbrev UIN_BUSY_MAP : Nat := 0x4030C014
abbrev LOS_COUNT (k : Nat) : Nat := 0x4031C000 + 0x4 * k
abbrev LOS_SUPPR (k : Nat) : Nat := 0x4031C020 + 0x4 * k
abbrev LOS_ENERGY (k : Nat) : Nat := 0x4031C040 + 0x4 * k
abbrev LOS_PEAK (k : Nat) : Nat := 0x4031C060 + 0x4 * k
abbrev LOS_CONF (k : Nat) : Nat := 0x4031C080 + 0x4 * k
abbrev LOS_BIN0 (k : Nat) : Nat := 0x4031C0A0 + 0x4 * k
abbrev LOS_BIN1 (k : Nat) : Nat := 0x4031C0C0 + 0x4 * k
abbrev LOS_BIN2 (k : Nat) : Nat := 0x4031C0E0 + 0x4 * k
abbrev LOS_BIN3 (k : Nat) : Nat := 0x4031C100 + 0x4 * k
abbrev LOS_CAPTURE (k : Nat) : Nat := 0x4031C120 + 0x4 * k
abbrev LOS_COMMON (k : Nat) : Nat := 0x4031C140 + 0x4 * k
abbrev GNS_CTL_AUX (k : Nat) : Nat := 0x4060C000 + 0x4 * k
abbrev GNS_ANT_QUIET (k : Nat) : Nat := 0x4060C01C + 0x4 * k
abbrev GNS_SIG_CNT (k : Nat) : Nat := 0x4060C02C + 0x4 * k
abbrev GNS_CHAN (k : Nat) : Nat := 0x4060C040 + 0x4 * k
abbrev GNS_AID (k : Nat) : Nat := 0x4060C340 + 0x4 * k
abbrev GNS_SOL (k : Nat) : Nat := 0x4060C380 + 0x4 * k
abbrev GNS_BASE (k : Nat) : Nat := 0x4060C420 + 0x4 * k
abbrev GNS_RTK_AMB (k : Nat) : Nat := 0x4060C438 + 0x4 * k
abbrev GNS_ATT_STAT (k : Nat) : Nat := 0x4060C478 + 0x4 * k
abbrev GNS_OWN_SLOT : Nat := 0x4060C484
abbrev GNS_PPS_EDGES (k : Nat) : Nat := 0x4060C488 + 0x4 * k
abbrev GNS_RTCM (k : Nat) : Nat := 0x4060C498 + 0x4 * k
abbrev GNS_IMON (k : Nat) : Nat := 0x4060C4D8 + 0x4 * k
abbrev GNS_STATS (k : Nat) : Nat := 0x4060C540 + 0x4 * k
abbrev CAM_LNK_ERR0 (k : Nat) : Nat := 0x4040C000 + 0x4 * k
abbrev CAM_LNK_ERR1 (k : Nat) : Nat := 0x4040C018 + 0x4 * k
abbrev CAM_DIAG (k : Nat) : Nat := 0x4040C030 + 0x4 * k
abbrev CAM_PAIR_UNM (k : Nat) : Nat := 0x4040C120 + 0x4 * k
abbrev CAM_MP_AUX (k : Nat) : Nat := 0x4040C12C + 0x4 * k
abbrev CAM_MP_COMMON (k : Nat) : Nat := 0x4040C15C + 0x4 * k
abbrev CAM_INLINE_AUX (k : Nat) : Nat := 0x4040C17C + 0x4 * k
abbrev CAM_INT_PEND (k : Nat) : Nat := 0x4040C198 + 0xC * k
abbrev CAM_INT_EN (k : Nat) : Nat := 0x4040C19C + 0xC * k
abbrev CAM_INT_RT (k : Nat) : Nat := 0x4040C1A0 + 0xC * k
abbrev CAM_INT_AUX (k : Nat) : Nat := 0x4040C210 + 0x4 * k
abbrev CAM_SUPPLY (k : Nat) : Nat := 0x4040C218 + 0x4 * k
abbrev FUS_TASK_CYC (k : Nat) : Nat := 0x4050C000 + 0x4 * k
abbrev FUS_TASK_TRAPS (k : Nat) : Nat := 0x4050C010 + 0x4 * k
abbrev FUS_TASK_STOP (k : Nat) : Nat := 0x4050C020 + 0x4 * k
abbrev FUS_TASK_AUX (k : Nat) : Nat := 0x4050C030 + 0x4 * k
abbrev FUS_IMU_ROT (k : Nat) : Nat := 0x4050C038 + 0x4 * k
abbrev FUS_PT (k : Nat) : Nat := 0x4050C05C + 0x4 * k
abbrev FUS_PT_AUX (k : Nat) : Nat := 0x4050C08C + 0x4 * k
abbrev FUS_EGO_AUX (k : Nat) : Nat := 0x4050C098 + 0x4 * k
abbrev FUS_WHL_EXCL (k : Nat) : Nat := 0x4050C0E0 + 0x4 * k
abbrev FUS_WHL_PULSES (k : Nat) : Nat := 0x4050C0F0 + 0x4 * k
abbrev FUS_WHL_SLIPS (k : Nat) : Nat := 0x4050C100 + 0x4 * k
abbrev FUS_EXTR (k : Nat) : Nat := 0x4050C110 + 0x4 * k
abbrev FUS_TRK_AUX (k : Nat) : Nat := 0x4050C230 + 0x4 * k
abbrev FUS_PAR_OFFS (k : Nat) : Nat := 0x4050C254 + 0x4 * k
abbrev FUS_PAR_COND (k : Nat) : Nat := 0x4050C2B4 + 0x4 * k
abbrev FLR_KEY_STATE : Nat := 0x4070C000
abbrev FLR_SUCC : Nat := 0x4070C004
abbrev FLR_TXN_CNT (k : Nat) : Nat := 0x4070C008 + 0x4 * k
abbrev FLR_QUALITY (k : Nat) : Nat := 0x4070C01C + 0x4 * k
abbrev FLR_DIR (k : Nat) : Nat := 0x4070C11C + 0x4 * k
abbrev FLR_CNT (k : Nat) : Nat := 0x4070C12C + 0x4 * k
abbrev FLR_RADIO (k : Nat) : Nat := 0x4070C16C + 0x4 * k
abbrev FLR_INT_PEND (k : Nat) : Nat := 0x4070C1AC + 0xC * k
abbrev FLR_INT_EN (k : Nat) : Nat := 0x4070C1B0 + 0xC * k
abbrev FLR_INT_RT (k : Nat) : Nat := 0x4070C1B4 + 0xC * k
abbrev FLR_INT_AUX (k : Nat) : Nat := 0x4070C1C4 + 0x4 * k
abbrev CAN_CTL_AUX (c k : Nat) : Nat := 0x4080C000 + 0x10000 * c + 0x4 * k
abbrev CAN_CNT (c k : Nat) : Nat := 0x4080C008 + 0x10000 * c + 0x4 * k
abbrev CAN_WAKE_AUX (c : Nat) : Nat := 0x4080C010 + 0x10000 * c
abbrev CAN_TXQ_LO (c : Nat) : Nat := 0x4080C014 + 0x10000 * c
abbrev CAN_TXQ_HI (c : Nat) : Nat := 0x4080C018 + 0x10000 * c
abbrev CAN_TXQ_CFG (c : Nat) : Nat := 0x4080C01C + 0x10000 * c
abbrev CAN_TXQ_TAIL (c : Nat) : Nat := 0x4080C020 + 0x10000 * c
abbrev CAN_TXQ_HEAD (c : Nat) : Nat := 0x4080C024 + 0x10000 * c
abbrev CAN_RXQ_LO (c : Nat) : Nat := 0x4080C028 + 0x10000 * c
abbrev CAN_RXQ_HI (c : Nat) : Nat := 0x4080C02C + 0x10000 * c
abbrev CAN_RXQ_CFG (c : Nat) : Nat := 0x4080C030 + 0x10000 * c
abbrev CAN_RXQ_WR (c : Nat) : Nat := 0x4080C034 + 0x10000 * c
abbrev CAN_RXQ_FILT (c : Nat) : Nat := 0x4080C038 + 0x10000 * c
abbrev ETH_PORT_AUX (k : Nat) : Nat := 0x4090C000 + 0x4 * k
abbrev ETH_PTP_AUX (k : Nat) : Nat := 0x4090C060 + 0x4 * k
abbrev ETH_GCL_CYCLE (k : Nat) : Nat := 0x4090C0B0 + 0x4 * k
abbrev ETH_GCL_COMMIT (k : Nat) : Nat := 0x4090C0C0 + 0x4 * k
abbrev ETH_GCL_STAT (k : Nat) : Nat := 0x4090C0D0 + 0x4 * k
abbrev ETH_GCL_IDX : Nat := 0x4090C0E0
abbrev ETH_GCL_DATA (k : Nat) : Nat := 0x4090C0E4 + 0x4 * k
abbrev ETH_GCL_AUX (k : Nat) : Nat := 0x4090C0EC + 0x4 * k
abbrev ETH_SWITCH (k : Nat) : Nat := 0x4090C110 + 0x4 * k
abbrev ETH_IP (k : Nat) : Nat := 0x4090C210 + 0x4 * k
abbrev ETH_MCAST (k : Nat) : Nat := 0x4090C250 + 0x4 * k
abbrev ETH_SCAN_AUX (k : Nat) : Nat := 0x4090C260 + 0x4 * k
abbrev ETH_VHP_AUX (k : Nat) : Nat := 0x4090C290 + 0x4 * k
abbrev ETH_CNT (k : Nat) : Nat := 0x4090C2FC + 0x4 * k
abbrev SAF_STATUS_AUX (k : Nat) : Nat := 0x4020C000 + 0x4 * k
abbrev SAF_IN_AUX (k : Nat) : Nat := 0x4020C034 + 0x4 * k
abbrev SAF_SI (k : Nat) : Nat := 0x4020C064 + 0x4 * k
abbrev SAF_SO (k : Nat) : Nat := 0x4020C0A4 + 0x4 * k
abbrev SAF_PAIR (k : Nat) : Nat := 0x4020C0E4 + 0x4 * k
abbrev SAF_SPD_CFG : Nat := 0x4020C114
abbrev SAF_A_STOP : Nat := 0x4020C118
abbrev SAF_D_STOP : Nat := 0x4020C11C
abbrev SAF_D_PERSON : Nat := 0x4020C120
abbrev SAF_SPD_LIM : Nat := 0x4020C124
abbrev SAF_SPD_SRC : Nat := 0x4020C128
abbrev SAF_SPD_AUX (k : Nat) : Nat := 0x4020C12C + 0x4 * k
abbrev SAF_HIST (k : Nat) : Nat := 0x4020C144 + 0x4 * k
abbrev SAF_STEER_AUX (k : Nat) : Nat := 0x4020C1A4 + 0x4 * k
abbrev SAF_CFG_ID : Nat := 0x4020C1C8
abbrev SAF_CFG_AUX (k : Nat) : Nat := 0x4020C1CC + 0x4 * k
abbrev SAF_REQ_AUX (k : Nat) : Nat := 0x4020C1E8 + 0x4 * k
abbrev SAF_DIAG (k : Nat) : Nat := 0x4020C1F0 + 0x4 * k
abbrev DSP_RAIL (k : Nat) : Nat := 0x40C0C000 + 0x4 * k
abbrev DSP_FETCH (k : Nat) : Nat := 0x40C0C020 + 0x4 * k
abbrev DSP_AGE_AUX (k : Nat) : Nat := 0x40C0C030 + 0x4 * k
abbrev DSP_INIT (k : Nat) : Nat := 0x40C0C058 + 0x4 * k
abbrev DSP_DIAG (k : Nat) : Nat := 0x40C0C0F8 + 0x4 * k
abbrev BST_LEDGER (k : Nat) : Nat := 0x40C1C000 + 0x4 * k
abbrev BST_INT_AUX (k : Nat) : Nat := 0x40C1C080 + 0x4 * k
abbrev UPD_PART_AUX (k : Nat) : Nat := 0x4008C000 + 0x4 * k
abbrev UPD_ACT_AUX (k : Nat) : Nat := 0x4008C018 + 0x4 * k
abbrev UPD_SETS (k : Nat) : Nat := 0x4008C034 + 0x4 * k
abbrev UPD_CAL_AUX (k : Nat) : Nat := 0x4008C094 + 0x4 * k
abbrev UPD_KEY_AUX (k : Nat) : Nat := 0x4008C0A8 + 0x4 * k
abbrev UPD_DBG_AUX (k : Nat) : Nat := 0x4008C0B8 + 0x4 * k
abbrev UPD_CNT (k : Nat) : Nat := 0x4008C0C0 + 0x4 * k
abbrev PWR_RST_CNT (k : Nat) : Nat := 0x4002C000 + 0x4 * k
abbrev PWR_WAKE_HIST (k : Nat) : Nat := 0x4002C010 + 0x4 * k
abbrev PWR_SUP_MON (k : Nat) : Nat := 0x4002C020 + 0x4 * k
abbrev PWR_RSV_AUX (k : Nat) : Nat := 0x4002C0A8 + 0x4 * k
abbrev PWR_PF_TIME (k : Nat) : Nat := 0x4002C0D4 + 0x4 * k
abbrev PWR_GATE (k : Nat) : Nat := 0x4002C114 + 0x4 * k
abbrev THM_PEAK (k : Nat) : Nat := 0x4003C000 + 0x4 * k
abbrev THM_LVL : Nat := 0x4003C060
abbrev THM_INVALID : Nat := 0x4003C064
abbrev THM_HIST (k : Nat) : Nat := 0x4003C068 + 0x4 * k
abbrev THM_CAL (k : Nat) : Nat := 0x4003C080 + 0x4 * k
abbrev THM_INT (k : Nat) : Nat := 0x4003C0A0 + 0x4 * k

end Ra

namespace Fd

def SYS_ID_PART : Fld := ⟨Ra.SYS_ID, 16, 16⟩
def SYS_ID_MAJOR : Fld := ⟨Ra.SYS_ID, 8, 8⟩
def SYS_ID_MINOR : Fld := ⟨Ra.SYS_ID, 0, 8⟩
def SYS_FAB_ERR_ADDR_ADDR : Fld := ⟨Ra.SYS_FAB_ERR_ADDR, 0, 32⟩
def SYS_FAB_ERR_INFO_VALID : Fld := ⟨Ra.SYS_FAB_ERR_INFO, 31, 1⟩
def SYS_FAB_ERR_INFO_OVERRUN : Fld := ⟨Ra.SYS_FAB_ERR_INFO, 30, 1⟩
def SYS_FAB_ERR_INFO_INITIATOR : Fld := ⟨Ra.SYS_FAB_ERR_INFO, 24, 6⟩
def SYS_FAB_ERR_INFO_CLASS : Fld := ⟨Ra.SYS_FAB_ERR_INFO, 22, 2⟩
def SYS_FAB_ERR_INFO_KIND : Fld := ⟨Ra.SYS_FAB_ERR_INFO, 20, 2⟩
def SYS_FAB_ERR_INFO_ADDR_HI : Fld := ⟨Ra.SYS_FAB_ERR_INFO, 0, 8⟩
def SYS_FAB_CNT_SAFETY : Fld := ⟨Ra.SYS_FAB_CNT, 24, 8⟩
def SYS_FAB_CNT_CONTROL : Fld := ⟨Ra.SYS_FAB_CNT, 16, 8⟩
def SYS_FAB_CNT_STREAM : Fld := ⟨Ra.SYS_FAB_CNT, 8, 8⟩
def SYS_FAB_CNT_BULK : Fld := ⟨Ra.SYS_FAB_CNT, 0, 8⟩
def SYS_FAB_PEAK_PEAK : Fld := ⟨Ra.SYS_FAB_PEAK, 0, 9⟩
def CLK_DT_LO_DT_LO : Fld := ⟨Ra.CLK_DT_LO, 0, 32⟩
def CLK_DT_HI_DT_HI : Fld := ⟨Ra.CLK_DT_HI, 0, 32⟩
def CLK_TIME_STAT_STEPS : Fld := ⟨Ra.CLK_TIME_STAT, 16, 16⟩
def CLK_TIME_STAT_TICK_ALIGN : Fld := ⟨Ra.CLK_TIME_STAT, 7, 1⟩
def CLK_TIME_STAT_HOLD_LIM : Fld := ⟨Ra.CLK_TIME_STAT, 6, 1⟩
def CLK_TIME_STAT_SLEWING : Fld := ⟨Ra.CLK_TIME_STAT, 5, 1⟩
def CLK_TIME_STAT_STEP : Fld := ⟨Ra.CLK_TIME_STAT, 4, 1⟩
def CLK_TIME_STAT_STATE : Fld := ⟨Ra.CLK_TIME_STAT, 0, 3⟩
def CLK_TIME_UNC_UNC : Fld := ⟨Ra.CLK_TIME_UNC, 0, 32⟩
def CLK_STEER_CFG_HOLD_LIM : Fld := ⟨Ra.CLK_STEER_CFG, 8, 16⟩
def CLK_STEER_CFG_SLEW_RATE : Fld := ⟨Ra.CLK_STEER_CFG, 0, 8⟩
def CLK_TICK_STAT_FRAME : Fld := ⟨Ra.CLK_TICK_STAT, 8, 24⟩
def CLK_TICK_STAT_TICK : Fld := ⟨Ra.CLK_TICK_STAT, 0, 8⟩
def CLK_PLOCK_EN_CAM : Fld := ⟨Ra.CLK_PLOCK_EN, 8, 6⟩
def CLK_PLOCK_EN_VB : Fld := ⟨Ra.CLK_PLOCK_EN, 0, 8⟩
def CLK_VB_PHASE_OFS (n : Nat) : Fld := ⟨(Ra.CLK_VB_PHASE n), 0, 12⟩
def CLK_CAM_TRIG_PERIOD (n : Nat) : Fld := ⟨(Ra.CLK_CAM_TRIG n), 20, 12⟩
def CLK_CAM_TRIG_TICK_OFS (n : Nat) : Fld := ⟨(Ra.CLK_CAM_TRIG n), 8, 12⟩
def CLK_CAM_FINE_DELAY (n : Nat) : Fld := ⟨(Ra.CLK_CAM_FINE n), 0, 13⟩
def CLK_STRM_CFG_EN (n : Nat) : Fld := ⟨(Ra.CLK_STRM_CFG n), 31, 1⟩
def CLK_STRM_CFG_REANCHOR (n : Nat) : Fld := ⟨(Ra.CLK_STRM_CFG n), 30, 1⟩
def CLK_STRM_CFG_PERIOD (n : Nat) : Fld := ⟨(Ra.CLK_STRM_CFG n), 0, 16⟩
def CLK_STRM_STAT_SLIPPED (n : Nat) : Fld := ⟨(Ra.CLK_STRM_STAT n), 31, 1⟩
def CLK_STRM_STAT_ANCHORED (n : Nat) : Fld := ⟨(Ra.CLK_STRM_STAT n), 30, 1⟩
def CLK_STRM_STAT_DEV (n : Nat) : Fld := ⟨(Ra.CLK_STRM_STAT n), 0, 24⟩
def CLK_FREQ_EST_EST : Fld := ⟨Ra.CLK_FREQ_EST, 0, 32⟩
def CLK_DT_SET_LO_DT_SET_LO : Fld := ⟨Ra.CLK_DT_SET_LO, 0, 32⟩
def CLK_DT_SET_HI_DT_SET_HI : Fld := ⟨Ra.CLK_DT_SET_HI, 0, 32⟩
def CLK_PLL_STAT_LOCKED : Fld := ⟨Ra.CLK_PLL_STAT, 31, 1⟩
def CLK_PLL_STAT_LOSSES : Fld := ⟨Ra.CLK_PLL_STAT, 0, 16⟩
def CLK_DOM_STAT_INF_SKIP : Fld := ⟨Ra.CLK_DOM_STAT, 20, 2⟩
def CLK_DOM_STAT_MP_HALF : Fld := ⟨Ra.CLK_DOM_STAT, 19, 1⟩
def CLK_DOM_STAT_APP_DIV : Fld := ⟨Ra.CLK_DOM_STAT, 16, 2⟩
def CLK_DOM_STAT_RUN : Fld := ⟨Ra.CLK_DOM_STAT, 0, 14⟩
def SYS_MODE_REQ_ORIGIN : Fld := ⟨Ra.SYS_MODE_REQ, 6, 2⟩
def SYS_MODE_REQ_MODE : Fld := ⟨Ra.SYS_MODE_REQ, 0, 4⟩
def SYS_MODE_STAT_RESULT : Fld := ⟨Ra.SYS_MODE_STAT, 16, 16⟩
def SYS_MODE_STAT_PENDING : Fld := ⟨Ra.SYS_MODE_STAT, 15, 1⟩
def SYS_MODE_STAT_TARGET : Fld := ⟨Ra.SYS_MODE_STAT, 8, 4⟩
def SYS_MODE_STAT_PREV : Fld := ⟨Ra.SYS_MODE_STAT, 4, 4⟩
def SYS_MODE_STAT_MODE : Fld := ⟨Ra.SYS_MODE_STAT, 0, 4⟩
def PWR_RST_CAUSE_APP_REQ : Fld := ⟨Ra.PWR_RST_CAUSE, 12, 1⟩
def PWR_RST_CAUSE_APP_WDOG : Fld := ⟨Ra.PWR_RST_CAUSE, 11, 1⟩
def PWR_RST_CAUSE_SUPPLY_DIP : Fld := ⟨Ra.PWR_RST_CAUSE, 10, 1⟩
def PWR_RST_CAUSE_THERMAL : Fld := ⟨Ra.PWR_RST_CAUSE, 9, 1⟩
def PWR_RST_CAUSE_LOCKSTEP : Fld := ⟨Ra.PWR_RST_CAUSE, 8, 1⟩
def PWR_RST_CAUSE_DEBUG : Fld := ⟨Ra.PWR_RST_CAUSE, 7, 1⟩
def PWR_RST_CAUSE_UPDATE : Fld := ⟨Ra.PWR_RST_CAUSE, 6, 1⟩
def PWR_RST_CAUSE_HOST_REQ : Fld := ⟨Ra.PWR_RST_CAUSE, 5, 1⟩
def PWR_RST_CAUSE_PLL : Fld := ⟨Ra.PWR_RST_CAUSE, 4, 1⟩
def PWR_RST_CAUSE_STUCK : Fld := ⟨Ra.PWR_RST_CAUSE, 3, 1⟩
def PWR_RST_CAUSE_EXT : Fld := ⟨Ra.PWR_RST_CAUSE, 2, 1⟩
def PWR_RST_CAUSE_WAKE : Fld := ⟨Ra.PWR_RST_CAUSE, 1, 1⟩
def PWR_RST_CAUSE_POR : Fld := ⟨Ra.PWR_RST_CAUSE, 0, 1⟩
def PWR_STAT_RESERVE_J : Fld := ⟨Ra.PWR_STAT, 16, 16⟩
def PWR_STAT_WAKE_SRC : Fld := ⟨Ra.PWR_STAT, 13, 3⟩
def PWR_STAT_RESERVE_FAIL : Fld := ⟨Ra.PWR_STAT, 12, 1⟩
def PWR_STAT_RESERVE_OK : Fld := ⟨Ra.PWR_STAT, 11, 1⟩
def PWR_STAT_RST_STUCK : Fld := ⟨Ra.PWR_STAT, 10, 1⟩
def PWR_STAT_PF : Fld := ⟨Ra.PWR_STAT, 9, 1⟩
def PWR_STAT_BOOT_FAIL : Fld := ⟨Ra.PWR_STAT, 8, 1⟩
def PWR_STAT_STEP : Fld := ⟨Ra.PWR_STAT, 0, 4⟩
def PWR_WAKE_CFG_DELAY : Fld := ⟨Ra.PWR_WAKE_CFG, 8, 16⟩
def PWR_WAKE_CFG_CAN : Fld := ⟨Ra.PWR_WAKE_CFG, 2, 6⟩
def PWR_WAKE_CFG_TIMER : Fld := ⟨Ra.PWR_WAKE_CFG, 1, 1⟩
def PWR_WAKE_CFG_WAKE_IN : Fld := ⟨Ra.PWR_WAKE_CFG, 0, 1⟩
def PWR_WAKE_TIMER_SECONDS : Fld := ⟨Ra.PWR_WAKE_TIMER, 0, 20⟩
def PWR_RST_CTRL_KEY : Fld := ⟨Ra.PWR_RST_CTRL, 16, 16⟩
def PWR_RST_CTRL_FULL : Fld := ⟨Ra.PWR_RST_CTRL, 1, 1⟩
def PWR_RST_CTRL_APP : Fld := ⟨Ra.PWR_RST_CTRL, 0, 1⟩
def PWR_APP_WDOG_REFRESH : Fld := ⟨Ra.PWR_APP_WDOG, 31, 1⟩
def PWR_APP_WDOG_TIMEOUT : Fld := ⟨Ra.PWR_APP_WDOG, 0, 14⟩
def CE_ENG_STAT_STATE (e : Nat) : Fld := ⟨(Ra.CE_ENG_STAT e), 29, 3⟩
def CE_ENG_STAT_SPARE (e : Nat) : Fld := ⟨(Ra.CE_ENG_STAT e), 28, 1⟩
def CE_ENG_STAT_LOOPS (e : Nat) : Fld := ⟨(Ra.CE_ENG_STAT e), 23, 5⟩
def CE_ENG_STAT_FREE (e : Nat) : Fld := ⟨(Ra.CE_ENG_STAT e), 16, 7⟩
def CE_ENG_STAT_LOAD (e : Nat) : Fld := ⟨(Ra.CE_ENG_STAT e), 0, 16⟩
def CE_ENG_CMD_KEY (e : Nat) : Fld := ⟨(Ra.CE_ENG_CMD e), 16, 16⟩
def CE_ENG_CMD_CMD (e : Nat) : Fld := ⟨(Ra.CE_ENG_CMD e), 0, 2⟩
def CE_ENG_FAULT_HANG (e : Nat) : Fld := ⟨(Ra.CE_ENG_FAULT e), 31, 1⟩
def CE_ENG_FAULT_UE (e : Nat) : Fld := ⟨(Ra.CE_ENG_FAULT e), 30, 1⟩
def CE_ENG_FAULT_UE_LOOP (e : Nat) : Fld := ⟨(Ra.CE_ENG_FAULT e), 16, 7⟩
def CE_ENG_FAULT_CE_CNT (e : Nat) : Fld := ⟨(Ra.CE_ENG_FAULT e), 0, 16⟩
def CE_LOOP_CMD_CMD (e : Nat) : Fld := ⟨(Ra.CE_LOOP_CMD e), 28, 4⟩
def CE_LOOP_CMD_LOOP (e : Nat) : Fld := ⟨(Ra.CE_LOOP_CMD e), 16, 7⟩
def CE_LOOP_CMD_WIN (e : Nat) : Fld := ⟨(Ra.CE_LOOP_CMD e), 8, 7⟩
def CE_CMD_RESULT_CODE (e : Nat) : Fld := ⟨(Ra.CE_CMD_RESULT e), 16, 16⟩
def CE_CMD_RESULT_PENDING (e : Nat) : Fld := ⟨(Ra.CE_CMD_RESULT e), 15, 1⟩
def CE_CMD_RESULT_LOOP (e : Nat) : Fld := ⟨(Ra.CE_CMD_RESULT e), 8, 7⟩
def CE_CMD_RESULT_KIND (e : Nat) : Fld := ⟨(Ra.CE_CMD_RESULT e), 4, 4⟩
def CE_CMD_RESULT_SLOT (e : Nat) : Fld := ⟨(Ra.CE_CMD_RESULT e), 0, 4⟩
def CE_MIG_CMD_CMD (e : Nat) : Fld := ⟨(Ra.CE_MIG_CMD e), 28, 4⟩
def CE_MIG_CMD_DEST (e : Nat) : Fld := ⟨(Ra.CE_MIG_CMD e), 24, 3⟩
def CE_MIG_CMD_LOOP (e : Nat) : Fld := ⟨(Ra.CE_MIG_CMD e), 16, 7⟩
def CE_MIG_CMD_BUDGET (e : Nat) : Fld := ⟨(Ra.CE_MIG_CMD e), 0, 16⟩
def CE_MIG_STAT_CODE (e : Nat) : Fld := ⟨(Ra.CE_MIG_STAT e), 16, 16⟩
def CE_MIG_STAT_PENDING (e : Nat) : Fld := ⟨(Ra.CE_MIG_STAT e), 15, 1⟩
def CE_MIG_STAT_LOOP (e : Nat) : Fld := ⟨(Ra.CE_MIG_STAT e), 8, 7⟩
def CE_MIG_STAT_DEST (e : Nat) : Fld := ⟨(Ra.CE_MIG_STAT e), 4, 3⟩
def CE_MIG_STAT_PHASE (e : Nat) : Fld := ⟨(Ra.CE_MIG_STAT e), 0, 4⟩
def CE_RT_IDX_KIND (e : Nat) : Fld := ⟨(Ra.CE_RT_IDX e), 31, 1⟩
def CE_RT_IDX_INDEX (e : Nat) : Fld := ⟨(Ra.CE_RT_IDX e), 0, 12⟩
def CE_RT_CMD_RESULT (e : Nat) : Fld := ⟨(Ra.CE_RT_CMD e), 16, 16⟩
def CE_RT_CMD_READ (e : Nat) : Fld := ⟨(Ra.CE_RT_CMD e), 1, 1⟩
def CE_RT_CMD_WRITE (e : Nat) : Fld := ⟨(Ra.CE_RT_CMD e), 0, 1⟩
def CE_SLOT_CFG_VALID (e s : Nat) : Fld := ⟨(Ra.CE_SLOT_CFG e s), 31, 1⟩
def CE_SLOT_CFG_LOOP (e s : Nat) : Fld := ⟨(Ra.CE_SLOT_CFG e s), 24, 7⟩
def CE_SLOT_CFG_PRIV (e s : Nat) : Fld := ⟨(Ra.CE_SLOT_CFG e s), 22, 2⟩
def CE_SLOT_CFG_MF (e s : Nat) : Fld := ⟨(Ra.CE_SLOT_CFG e s), 17, 5⟩
def CE_SLOT_CFG_AUTOSTART (e s : Nat) : Fld := ⟨(Ra.CE_SLOT_CFG e s), 16, 1⟩
def CE_SLOT_CFG_TRAP_LIM (e s : Nat) : Fld := ⟨(Ra.CE_SLOT_CFG e s), 12, 4⟩
def CE_SLOT_SCHED_PERIOD (e s : Nat) : Fld := ⟨(Ra.CE_SLOT_SCHED e s), 16, 11⟩
def CE_SLOT_SCHED_PHASE (e s : Nat) : Fld := ⟨(Ra.CE_SLOT_SCHED e s), 0, 11⟩
def CE_SLOT_BUDGET_BUDGET (e s : Nat) : Fld := ⟨(Ra.CE_SLOT_BUDGET e s), 0, 16⟩
def CE_SLOT_ENTRY_ENTRY (e s : Nat) : Fld := ⟨(Ra.CE_SLOT_ENTRY e s), 2, 16⟩
def CE_SLOT_TRAPV_EN (e s : Nat) : Fld := ⟨(Ra.CE_SLOT_TRAPV e s), 31, 1⟩
def CE_SLOT_TRAPV_VECTOR (e s : Nat) : Fld := ⟨(Ra.CE_SLOT_TRAPV e s), 2, 16⟩
def CE_SLOT_WIN_BASE (e s : Nat) : Fld := ⟨(Ra.CE_SLOT_WIN e s), 8, 6⟩
def CE_SLOT_WIN_SIZE (e s : Nat) : Fld := ⟨(Ra.CE_SLOT_WIN e s), 0, 7⟩
def CE_SLOT_STATUS_STATE (e s : Nat) : Fld := ⟨(Ra.CE_SLOT_STATUS e s), 28, 4⟩
def CE_SLOT_STATUS_DISABLE_DONE (e s : Nat) : Fld := ⟨(Ra.CE_SLOT_STATUS e s), 27, 1⟩
def CE_SLOT_STATUS_PLAUS (e s : Nat) : Fld := ⟨(Ra.CE_SLOT_STATUS e s), 26, 1⟩
def CE_SLOT_STATUS_NV (e s : Nat) : Fld := ⟨(Ra.CE_SLOT_STATUS e s), 25, 1⟩
def CE_SLOT_STATUS_DZ (e s : Nat) : Fld := ⟨(Ra.CE_SLOT_STATUS e s), 24, 1⟩
def CE_SLOT_STATUS_OF (e s : Nat) : Fld := ⟨(Ra.CE_SLOT_STATUS e s), 23, 1⟩
def CE_SLOT_STATUS_UF (e s : Nat) : Fld := ⟨(Ra.CE_SLOT_STATUS e s), 22, 1⟩
def CE_SLOT_STATUS_STOP_WHY (e s : Nat) : Fld := ⟨(Ra.CE_SLOT_STATUS e s), 19, 3⟩
def CE_SLOT_STATUS_TRAPS (e s : Nat) : Fld := ⟨(Ra.CE_SLOT_STATUS e s), 8, 8⟩
def CE_SLOT_STATUS_LAST_CAUSE (e s : Nat) : Fld := ⟨(Ra.CE_SLOT_STATUS e s), 0, 4⟩
def CE_SLOT_STATE_RGN_OFS (e s : Nat) : Fld := ⟨(Ra.CE_SLOT_STATE_RGN e s), 8, 8⟩
def CE_SLOT_STATE_RGN_LEN (e s : Nat) : Fld := ⟨(Ra.CE_SLOT_STATE_RGN e s), 0, 8⟩
def CE_SET_SPARE_ENG (e : Nat) : Fld := ⟨(Ra.CE_SET_SPARE e), 0, 4⟩
def CE_SET_STAT_ONLINE (e : Nat) : Fld := ⟨(Ra.CE_SET_STAT e), 24, 8⟩
def CE_SET_STAT_FAULTED (e : Nat) : Fld := ⟨(Ra.CE_SET_STAT e), 16, 8⟩
def CE_SET_STAT_SPARE_OK (e : Nat) : Fld := ⟨(Ra.CE_SET_STAT e), 15, 1⟩
def CE_SET_STAT_SPARE_ERR (e : Nat) : Fld := ⟨(Ra.CE_SET_STAT e), 14, 1⟩
def CE_SET_STAT_LOOPS (e : Nat) : Fld := ⟨(Ra.CE_SET_STAT e), 0, 8⟩
def UIN_CH_CFG_EN (n : Nat) : Fld := ⟨(Ra.UIN_CH_CFG n), 31, 1⟩
def UIN_CH_CFG_MODE (n : Nat) : Fld := ⟨(Ra.UIN_CH_CFG n), 27, 4⟩
def UIN_CH_CFG_FILT (n : Nat) : Fld := ⟨(Ra.UIN_CH_CFG n), 24, 3⟩
def UIN_CH_CFG_SUP (n : Nat) : Fld := ⟨(Ra.UIN_CH_CFG n), 22, 2⟩
def UIN_CH_CFG_SUPTIE (n : Nat) : Fld := ⟨(Ra.UIN_CH_CFG n), 21, 1⟩
def UIN_CH_CFG_PULL (n : Nat) : Fld := ⟨(Ra.UIN_CH_CFG n), 19, 2⟩
def UIN_CH_CFG_EDGE (n : Nat) : Fld := ⟨(Ra.UIN_CH_CFG n), 17, 2⟩
def UIN_CH_CFG_INV (n : Nat) : Fld := ⟨(Ra.UIN_CH_CFG n), 16, 1⟩
def UIN_CH_CFG_CONF (n : Nat) : Fld := ⟨(Ra.UIN_CH_CFG n), 8, 8⟩
def UIN_CH_CFG_DIGTHR (n : Nat) : Fld := ⟨(Ra.UIN_CH_CFG n), 0, 8⟩
def UIN_CH_STAT_VALID (n : Nat) : Fld := ⟨(Ra.UIN_CH_STAT n), 31, 1⟩
def UIN_CH_STAT_SAFE (n : Nat) : Fld := ⟨(Ra.UIN_CH_STAT n), 30, 1⟩
def UIN_CH_STAT_TESTING (n : Nat) : Fld := ⟨(Ra.UIN_CH_STAT n), 29, 1⟩
def UIN_CH_STAT_TEST_PEND (n : Nat) : Fld := ⟨(Ra.UIN_CH_STAT n), 28, 1⟩
def UIN_CH_STAT_FAULT (n : Nat) : Fld := ⟨(Ra.UIN_CH_STAT n), 24, 4⟩
def UIN_CH_STAT_FCNT (n : Nat) : Fld := ⟨(Ra.UIN_CH_STAT n), 16, 8⟩
def UIN_CH_STAT_RAW (n : Nat) : Fld := ⟨(Ra.UIN_CH_STAT n), 0, 16⟩
def UIN_SUP_CFG_EN (n : Nat) : Fld := ⟨(Ra.UIN_SUP_CFG n), 31, 1⟩
def UIN_SUP_CFG_VSEL (n : Nat) : Fld := ⟨(Ra.UIN_SUP_CFG n), 0, 2⟩
def UIN_TEST_CMD_TEST : Fld := ⟨Ra.UIN_TEST_CMD, 28, 4⟩
def UIN_TEST_CMD_UNIT : Fld := ⟨Ra.UIN_TEST_CMD, 6, 6⟩
def UIN_TEST_CMD_SUPN : Fld := ⟨Ra.UIN_TEST_CMD, 0, 2⟩
def UIN_TEST_RES_CODE : Fld := ⟨Ra.UIN_TEST_RES, 16, 16⟩
def UIN_TEST_RES_PENDING : Fld := ⟨Ra.UIN_TEST_RES, 15, 1⟩
def UIN_TEST_RES_RUNNING : Fld := ⟨Ra.UIN_TEST_RES, 14, 1⟩
def UIN_TEST_RES_UNIT : Fld := ⟨Ra.UIN_TEST_RES, 8, 6⟩
def UIN_TEST_RES_TEST : Fld := ⟨Ra.UIN_TEST_RES, 4, 4⟩
def UIN_TEST_RES_PASS : Fld := ⟨Ra.UIN_TEST_RES, 0, 1⟩
def LOS_CH_CFG_EN (n : Nat) : Fld := ⟨(Ra.LOS_CH_CFG n), 31, 1⟩
def LOS_CH_CFG_GAIN (n : Nat) : Fld := ⟨(Ra.LOS_CH_CFG n), 28, 3⟩
def LOS_CH_CFG_HPF (n : Nat) : Fld := ⟨(Ra.LOS_CH_CFG n), 26, 2⟩
def LOS_CH_CFG_DEAD (n : Nat) : Fld := ⟨(Ra.LOS_CH_CFG n), 0, 16⟩
def LOS_CH_THR_HYS (n : Nat) : Fld := ⟨(Ra.LOS_CH_THR n), 16, 16⟩
def LOS_CH_THR_THR (n : Nat) : Fld := ⟨(Ra.LOS_CH_THR n), 0, 16⟩
def LOS_CH_STAT_VALID (n : Nat) : Fld := ⟨(Ra.LOS_CH_STAT n), 31, 1⟩
def LOS_CH_STAT_TESTING (n : Nat) : Fld := ⟨(Ra.LOS_CH_STAT n), 30, 1⟩
def LOS_CH_STAT_FAULT (n : Nat) : Fld := ⟨(Ra.LOS_CH_STAT n), 28, 2⟩
def MFP_MF_CTL_EN (n : Nat) : Fld := ⟨(Ra.MFP_MF_CTL n), 31, 1⟩
def MFP_MF_CTL_SRC (n : Nat) : Fld := ⟨(Ra.MFP_MF_CTL n), 29, 2⟩
def MFP_MF_CTL_AWM (n : Nat) : Fld := ⟨(Ra.MFP_MF_CTL n), 28, 1⟩
def MFP_MF_CTL_LIVE (n : Nat) : Fld := ⟨(Ra.MFP_MF_CTL n), 27, 1⟩
def MFP_MF_CTL_CALSET (n : Nat) : Fld := ⟨(Ra.MFP_MF_CTL n), 16, 8⟩
def MFP_MF_STAT_POS (n : Nat) : Fld := ⟨(Ra.MFP_MF_STAT n), 20, 12⟩
def MFP_MF_STAT_STATE (n : Nat) : Fld := ⟨(Ra.MFP_MF_STAT n), 17, 3⟩
def MFP_MF_STAT_EFF_SRC (n : Nat) : Fld := ⟨(Ra.MFP_MF_STAT n), 15, 2⟩
def MFP_MF_STAT_DISABLE_DONE (n : Nat) : Fld := ⟨(Ra.MFP_MF_STAT n), 14, 1⟩
def MFP_MF_STAT_DEGRADED (n : Nat) : Fld := ⟨(Ra.MFP_MF_STAT n), 13, 1⟩
def MFP_MF_STAT_AWM_EFF (n : Nat) : Fld := ⟨(Ra.MFP_MF_STAT n), 12, 1⟩
def MFP_MF_STAT_PFN (n : Nat) : Fld := ⟨(Ra.MFP_MF_STAT n), 11, 1⟩
def MFP_MF_STAT_PLOOP (n : Nat) : Fld := ⟨(Ra.MFP_MF_STAT n), 4, 7⟩
def MFP_MF_STAT_DEG_WHY (n : Nat) : Fld := ⟨(Ra.MFP_MF_STAT n), 0, 4⟩
def GNS_CTL_EN : Fld := ⟨Ra.GNS_CTL, 31, 1⟩
def GNS_CTL_RESTART : Fld := ⟨Ra.GNS_CTL, 30, 1⟩
def GNS_CTL_MASK : Fld := ⟨Ra.GNS_CTL, 0, 8⟩
def GNS_ANT_CFG_BIAS (a : Nat) : Fld := ⟨(Ra.GNS_ANT_CFG a), 31, 1⟩
def GNS_ANT_CFG_DELAY (a : Nat) : Fld := ⟨(Ra.GNS_ANT_CFG a), 0, 16⟩
def GNS_ANT_STAT_FAULT (a : Nat) : Fld := ⟨(Ra.GNS_ANT_STAT a), 30, 2⟩
def GNS_ANT_STAT_JAM (a : Nat) : Fld := ⟨(Ra.GNS_ANT_STAT a), 29, 1⟩
def GNS_ANT_STAT_AGC (a : Nat) : Fld := ⟨(Ra.GNS_ANT_STAT a), 16, 8⟩
def GNS_ANT_STAT_CUR (a : Nat) : Fld := ⟨(Ra.GNS_ANT_STAT a), 0, 16⟩
def GNS_CH_ALLOC_ANT1 : Fld := ⟨Ra.GNS_CH_ALLOC, 16, 8⟩
def GNS_CH_ALLOC_USED : Fld := ⟨Ra.GNS_CH_ALLOC, 0, 8⟩
def GNS_SIG_CFG_EN (s : Nat) : Fld := ⟨(Ra.GNS_SIG_CFG s), 31, 1⟩
def GNS_SIG_CFG_SPACING (s : Nat) : Fld := ⟨(Ra.GNS_SIG_CFG s), 0, 5⟩
def GNS_RTK_CFG_MODE : Fld := ⟨Ra.GNS_RTK_CFG, 30, 2⟩
def GNS_RTK_CFG_ABS_SRC : Fld := ⟨Ra.GNS_RTK_CFG, 29, 1⟩
def GNS_RTK_CFG_ABS_MOD : Fld := ⟨Ra.GNS_RTK_CFG, 16, 8⟩
def GNS_RTK_CFG_MAXAGE : Fld := ⟨Ra.GNS_RTK_CFG, 0, 8⟩
def GNS_RTK_STAT_FIX : Fld := ⟨Ra.GNS_RTK_STAT, 28, 4⟩
def GNS_RTK_STAT_BASE_MOVED : Fld := ⟨Ra.GNS_RTK_STAT, 27, 1⟩
def GNS_RTK_STAT_AGE : Fld := ⟨Ra.GNS_RTK_STAT, 0, 16⟩
def GNS_MB_CFG_MSM7 : Fld := ⟨Ra.GNS_MB_CFG, 31, 1⟩
def GNS_MB_CFG_ADV_REFPT : Fld := ⟨Ra.GNS_MB_CFG, 29, 2⟩
def GNS_MB_CFG_OWN_REFPT : Fld := ⟨Ra.GNS_MB_CFG, 27, 2⟩
def GNS_MB_CFG_MAXSAT : Fld := ⟨Ra.GNS_MB_CFG, 16, 8⟩
def GNS_MB_CFG_EXTRAP_MAX : Fld := ⟨Ra.GNS_MB_CFG, 0, 10⟩
def GNS_MB_NB_CFG_EN (k : Nat) : Fld := ⟨(Ra.GNS_MB_NB_CFG k), 31, 1⟩
def GNS_MB_NB_CFG_MODULE (k : Nat) : Fld := ⟨(Ra.GNS_MB_NB_CFG k), 0, 6⟩
def GNS_MB_NB_STAT_CODE (k : Nat) : Fld := ⟨(Ra.GNS_MB_NB_STAT k), 16, 16⟩
def GNS_MB_NB_STAT_FIX (k : Nat) : Fld := ⟨(Ra.GNS_MB_NB_STAT k), 12, 4⟩
def GNS_MB_NB_STAT_REJ (k : Nat) : Fld := ⟨(Ra.GNS_MB_NB_STAT k), 0, 8⟩
def GNS_PPS_CFG_DELAY : Fld := ⟨Ra.GNS_PPS_CFG, 16, 16⟩
def GNS_PPS_CFG_MODE : Fld := ⟨Ra.GNS_PPS_CFG, 14, 2⟩
def GNS_PPS_CFG_POL : Fld := ⟨Ra.GNS_PPS_CFG, 13, 1⟩
def GNS_PPS_CFG_WIDTH : Fld := ⟨Ra.GNS_PPS_CFG, 0, 9⟩
def GNS_PPS_STAT_CODE : Fld := ⟨Ra.GNS_PPS_STAT, 16, 16⟩
def GNS_PPS_STAT_ACTIVE : Fld := ⟨Ra.GNS_PPS_STAT, 0, 1⟩
def CAM_LNK_CFG_EN (n : Nat) : Fld := ⟨(Ra.CAM_LNK_CFG n), 31, 1⟩
def CAM_LNK_CFG_POC (n : Nat) : Fld := ⟨(Ra.CAM_LNK_CFG n), 30, 1⟩
def CAM_LNK_CFG_GEAR (n : Nat) : Fld := ⟨(Ra.CAM_LNK_CFG n), 28, 2⟩
def CAM_LNK_CFG_TVC (n : Nat) : Fld := ⟨(Ra.CAM_LNK_CFG n), 26, 2⟩
def CAM_LNK_STAT_CODE (n : Nat) : Fld := ⟨(Ra.CAM_LNK_STAT n), 16, 16⟩
def CAM_LNK_STAT_UP (n : Nat) : Fld := ⟨(Ra.CAM_LNK_STAT n), 15, 1⟩
def CAM_LNK_STAT_TRAINING (n : Nat) : Fld := ⟨(Ra.CAM_LNK_STAT n), 14, 1⟩
def CAM_LNK_STAT_POC (n : Nat) : Fld := ⟨(Ra.CAM_LNK_STAT n), 12, 2⟩
def CAM_LNK_STAT_DROP (n : Nat) : Fld := ⟨(Ra.CAM_LNK_STAT n), 0, 12⟩
def CAM_LNK_VC_CFG_EN (n v : Nat) : Fld := ⟨(Ra.CAM_LNK_VC_CFG n v), 31, 1⟩
def CAM_LNK_VC_CFG_TYPE (n v : Nat) : Fld := ⟨(Ra.CAM_LNK_VC_CFG n v), 29, 2⟩
def CAM_LNK_VC_CFG_WIDTH (n v : Nat) : Fld := ⟨(Ra.CAM_LNK_VC_CFG n v), 16, 13⟩
def CAM_LNK_VC_CFG_HEIGHT (n v : Nat) : Fld := ⟨(Ra.CAM_LNK_VC_CFG n v), 0, 13⟩
def CAM_LNK_RING_CFG_SLOTS (n : Nat) : Fld := ⟨(Ra.CAM_LNK_RING_CFG n), 16, 16⟩
def CAM_LNK_RING_CFG_SLOT_SIZE (n : Nat) : Fld := ⟨(Ra.CAM_LNK_RING_CFG n), 0, 16⟩
def CAM_LNK_EMB_TS_OFS (n : Nat) : Fld := ⟨(Ra.CAM_LNK_EMB n), 24, 8⟩
def CAM_LNK_EMB_FC_OFS (n : Nat) : Fld := ⟨(Ra.CAM_LNK_EMB n), 16, 8⟩
def CAM_LNK_EMB_EP_OFS (n : Nat) : Fld := ⟨(Ra.CAM_LNK_EMB n), 8, 8⟩
def CAM_LNK_EMB_BE (n : Nat) : Fld := ⟨(Ra.CAM_LNK_EMB n), 0, 1⟩
def CAM_EXP_CTL_DEV (n : Nat) : Fld := ⟨(Ra.CAM_EXP_CTL n), 25, 7⟩
def CAM_EXP_CTL_AW16 (n : Nat) : Fld := ⟨(Ra.CAM_EXP_CTL n), 24, 1⟩
def CAM_EXP_CTL_COUNT (n : Nat) : Fld := ⟨(Ra.CAM_EXP_CTL n), 20, 4⟩
def CAM_EXP_CTL_EPOCH_REG (n : Nat) : Fld := ⟨(Ra.CAM_EXP_CTL n), 0, 16⟩
def CAM_EXP_STAT_CODE (n : Nat) : Fld := ⟨(Ra.CAM_EXP_STAT n), 16, 16⟩
def CAM_EXP_STAT_PENDING (n : Nat) : Fld := ⟨(Ra.CAM_EXP_STAT n), 15, 1⟩
def CAM_PAIR_CFG_EN (p : Nat) : Fld := ⟨(Ra.CAM_PAIR_CFG p), 31, 1⟩
def CAM_PAIR_CFG_LEFT (p : Nat) : Fld := ⟨(Ra.CAM_PAIR_CFG p), 27, 3⟩
def CAM_PAIR_CFG_RIGHT (p : Nat) : Fld := ⟨(Ra.CAM_PAIR_CFG p), 24, 3⟩
def CAM_PAIR_CFG_MISS_LIM (p : Nat) : Fld := ⟨(Ra.CAM_PAIR_CFG p), 20, 4⟩
def CAM_PAIR_STAT_CODE (p : Nat) : Fld := ⟨(Ra.CAM_PAIR_STAT p), 16, 16⟩
def CAM_PAIR_STAT_STATE (p : Nat) : Fld := ⟨(Ra.CAM_PAIR_STAT p), 14, 2⟩
def CAM_PAIR_STAT_WHY (p : Nat) : Fld := ⟨(Ra.CAM_PAIR_STAT p), 10, 4⟩
def CAM_PAIR_STAT_UNLOCKS (p : Nat) : Fld := ⟨(Ra.CAM_PAIR_STAT p), 0, 10⟩
def CAM_MP_CFG_EN (n : Nat) : Fld := ⟨(Ra.CAM_MP_CFG n), 31, 1⟩
def CAM_MP_CFG_PRI (n : Nat) : Fld := ⟨(Ra.CAM_MP_CFG n), 28, 3⟩
def CAM_MP_CFG_SET (n : Nat) : Fld := ⟨(Ra.CAM_MP_CFG n), 24, 3⟩
def CAM_MP_CFG_DECIM (n : Nat) : Fld := ⟨(Ra.CAM_MP_CFG n), 20, 4⟩
def CAM_MP_CFG_VC (n : Nat) : Fld := ⟨(Ra.CAM_MP_CFG n), 18, 2⟩
def CAM_MP_CFG_DEADLINE (n : Nat) : Fld := ⟨(Ra.CAM_MP_CFG n), 0, 16⟩
def CAM_MP_STAT_SKIPPED (n : Nat) : Fld := ⟨(Ra.CAM_MP_STAT n), 16, 16⟩
def CAM_MP_STAT_QUEUED (n : Nat) : Fld := ⟨(Ra.CAM_MP_STAT n), 8, 8⟩
def CAM_MP_STAT_RUNNING (n : Nat) : Fld := ⟨(Ra.CAM_MP_STAT n), 7, 1⟩
def CAM_ISP_INLINE_EN : Fld := ⟨Ra.CAM_ISP_INLINE, 31, 1⟩
def CAM_ISP_INLINE_CAM : Fld := ⟨Ra.CAM_ISP_INLINE, 28, 3⟩
def CAM_ISP_INLINE_VC : Fld := ⟨Ra.CAM_ISP_INLINE, 26, 2⟩
def CAM_ISP_INLINE_SET : Fld := ⟨Ra.CAM_ISP_INLINE, 16, 3⟩
def CAM_ISP_INLINE_OVF : Fld := ⟨Ra.CAM_ISP_INLINE, 0, 16⟩
def FUS_STAT_RUN : Fld := ⟨Ra.FUS_STAT, 28, 4⟩
def FUS_STAT_FAILED : Fld := ⟨Ra.FUS_STAT, 27, 1⟩
def FUS_STAT_ALIGNED : Fld := ⟨Ra.FUS_STAT, 26, 1⟩
def FUS_STAT_TRK_OK : Fld := ⟨Ra.FUS_STAT, 25, 1⟩
def FUS_STAT_PT_MISMATCH : Fld := ⟨Ra.FUS_STAT, 24, 1⟩
def FUS_STAT_IMU_LOST : Fld := ⟨Ra.FUS_STAT, 23, 1⟩
def FUS_STAT_TRACKS : Fld := ⟨Ra.FUS_STAT, 16, 7⟩
def FUS_STAT_FIX : Fld := ⟨Ra.FUS_STAT, 12, 4⟩
def FUS_STAT_DR_S : Fld := ⟨Ra.FUS_STAT, 0, 12⟩
def FUS_EGO_CFG_UNC_MAX : Fld := ⟨Ra.FUS_EGO_CFG, 24, 8⟩
def FUS_EGO_CFG_DR_MAX : Fld := ⟨Ra.FUS_EGO_CFG, 12, 12⟩
def FUS_EGO_CFG_SLIP_LIM : Fld := ⟨Ra.FUS_EGO_CFG, 0, 8⟩
def FUS_WHL_CFG_EN (w : Nat) : Fld := ⟨(Ra.FUS_WHL_CFG w), 31, 1⟩
def FUS_WHL_CFG_UNIT (w : Nat) : Fld := ⟨(Ra.FUS_WHL_CFG w), 22, 6⟩
def FUS_WHL_CFG_SCALE (w : Nat) : Fld := ⟨(Ra.FUS_WHL_CFG w), 0, 16⟩
def FUS_TRK_CFG_EN : Fld := ⟨Ra.FUS_TRK_CFG, 31, 1⟩
def FUS_TRK_CFG_CONF_MIN : Fld := ⟨Ra.FUS_TRK_CFG, 23, 8⟩
def FUS_TRK_CFG_COAST_MAX : Fld := ⟨Ra.FUS_TRK_CFG, 18, 5⟩
def FUS_TRK_CFG_GATE : Fld := ⟨Ra.FUS_TRK_CFG, 8, 10⟩
def FUS_TRK_CFG_Q_ACC : Fld := ⟨Ra.FUS_TRK_CFG, 0, 8⟩
def FUS_CORR_CFG_CORR_HW : Fld := ⟨Ra.FUS_CORR_CFG, 24, 8⟩
def FUS_CORR_CFG_CORR_T : Fld := ⟨Ra.FUS_CORR_CFG, 16, 8⟩
def FUS_CORR_CFG_CORR_MIN : Fld := ⟨Ra.FUS_CORR_CFG, 8, 8⟩
def FUS_CORR_CFG_CORR_X0 : Fld := ⟨Ra.FUS_CORR_CFG, 0, 8⟩
def FUS_INF_JOB_CFG_EN (j : Nat) : Fld := ⟨(Ra.FUS_INF_JOB_CFG j), 31, 1⟩
def FUS_INF_JOB_CFG_KIND (j : Nat) : Fld := ⟨(Ra.FUS_INF_JOB_CFG j), 28, 3⟩
def FUS_INF_JOB_CFG_SRC (j : Nat) : Fld := ⟨(Ra.FUS_INF_JOB_CFG j), 25, 3⟩
def FUS_INF_JOB_CFG_PAIR (j : Nat) : Fld := ⟨(Ra.FUS_INF_JOB_CFG j), 24, 1⟩
def FUS_INF_JOB_CFG_NET (j : Nat) : Fld := ⟨(Ra.FUS_INF_JOB_CFG j), 20, 4⟩
def FUS_INF_JOB_CFG_PRI (j : Nat) : Fld := ⟨(Ra.FUS_INF_JOB_CFG j), 17, 3⟩
def FUS_INF_JOB_CFG_DEADLINE (j : Nat) : Fld := ⟨(Ra.FUS_INF_JOB_CFG j), 0, 16⟩
def FLR_CFG_EN : Fld := ⟨Ra.FLR_CFG, 31, 1⟩
def FLR_CFG_FOUND : Fld := ⟨Ra.FLR_CFG, 30, 1⟩
def FLR_CFG_COORD_OK : Fld := ⟨Ra.FLR_CFG, 29, 1⟩
def FLR_CFG_CONT_EN : Fld := ⟨Ra.FLR_CFG, 28, 1⟩
def FLR_CFG_COORD_PRI : Fld := ⟨Ra.FLR_CFG, 24, 4⟩
def FLR_CFG_LOSS_SF : Fld := ⟨Ra.FLR_CFG, 16, 8⟩
def FLR_CFG_PREF : Fld := ⟨Ra.FLR_CFG, 0, 8⟩
def FLR_STAT_CODE : Fld := ⟨Ra.FLR_STAT, 16, 16⟩
def FLR_STAT_STATE : Fld := ⟨Ra.FLR_STAT, 13, 3⟩
def FLR_STAT_TIMING : Fld := ⟨Ra.FLR_STAT, 12, 1⟩
def FLR_STAT_EVT_STRANGER : Fld := ⟨Ra.FLR_STAT, 11, 1⟩
def FLR_STAT_CHAN : Fld := ⟨Ra.FLR_STAT, 8, 3⟩
def FLR_STAT_MODNUM : Fld := ⟨Ra.FLR_STAT, 0, 6⟩
def FLR_DOM_CFG_DOMAIN : Fld := ⟨Ra.FLR_DOM_CFG, 16, 16⟩
def FLR_DOM_CFG_MCS : Fld := ⟨Ra.FLR_DOM_CFG, 4, 4⟩
def FLR_DOM_CFG_AUTOCH : Fld := ⟨Ra.FLR_DOM_CFG, 3, 1⟩
def FLR_DOM_CFG_CHAN : Fld := ⟨Ra.FLR_DOM_CFG, 0, 3⟩
def FLR_RADIO_CFG_REGION : Fld := ⟨Ra.FLR_RADIO_CFG, 28, 4⟩
def FLR_RADIO_CFG_TXPWR : Fld := ⟨Ra.FLR_RADIO_CFG, 0, 8⟩
def FLR_ROLE_ROLE (i : Nat) : Fld := ⟨(Ra.FLR_ROLE i), 24, 8⟩
def FLR_ROLE_EPOCH (i : Nat) : Fld := ⟨(Ra.FLR_ROLE i), 0, 16⟩
def FLR_TXN_CFG_HOLD : Fld := ⟨Ra.FLR_TXN_CFG, 0, 16⟩
def FLR_TXN_STAT_QUOTA : Fld := ⟨Ra.FLR_TXN_STAT, 23, 9⟩
def FLR_TXN_STAT_INFLIGHT : Fld := ⟨Ra.FLR_TXN_STAT, 14, 9⟩
def FLR_TXN_STAT_QUEUED : Fld := ⟨Ra.FLR_TXN_STAT, 7, 7⟩
def FLR_UNL_CFG_ARM : Fld := ⟨Ra.FLR_UNL_CFG, 31, 1⟩
def FLR_UNL_CFG_END : Fld := ⟨Ra.FLR_UNL_CFG, 30, 1⟩
def FLR_UNL_CFG_PARTNER : Fld := ⟨Ra.FLR_UNL_CFG, 24, 6⟩
def FLR_UNL_STAT_CODE : Fld := ⟨Ra.FLR_UNL_STAT, 16, 16⟩
def FLR_UNL_STAT_PHASE : Fld := ⟨Ra.FLR_UNL_STAT, 13, 3⟩
def FLR_UNL_STAT_PARTNER_OK : Fld := ⟨Ra.FLR_UNL_STAT, 12, 1⟩
def FLR_UNL_STAT_SILENT : Fld := ⟨Ra.FLR_UNL_STAT, 8, 4⟩
def FLR_MBR_STAT_PRESENT (m : Nat) : Fld := ⟨(Ra.FLR_MBR_STAT m), 31, 1⟩
def FLR_MBR_STAT_HELD (m : Nat) : Fld := ⟨(Ra.FLR_MBR_STAT m), 30, 1⟩
def FLR_MBR_STAT_LAST (m : Nat) : Fld := ⟨(Ra.FLR_MBR_STAT m), 16, 8⟩
def FLR_MBR_STAT_MEPOCH (m : Nat) : Fld := ⟨(Ra.FLR_MBR_STAT m), 0, 16⟩
def DMA_CH_CFG_EN (n : Nat) : Fld := ⟨(Ra.DMA_CH_CFG n), 31, 1⟩
def DMA_CH_CFG_MODE (n : Nat) : Fld := ⟨(Ra.DMA_CH_CFG n), 30, 1⟩
def DMA_CH_CFG_CLASS (n : Nat) : Fld := ⟨(Ra.DMA_CH_CFG n), 28, 2⟩
def DMA_CH_CFG_CTX (n : Nat) : Fld := ⟨(Ra.DMA_CH_CFG n), 22, 5⟩
def DMA_CH_CFG_IRQ_EN (n : Nat) : Fld := ⟨(Ra.DMA_CH_CFG n), 21, 1⟩
def DMA_CH_CFG_OWNER (n : Nat) : Fld := ⟨(Ra.DMA_CH_CFG n), 14, 7⟩
def DMA_CH_STAT_STATE (n : Nat) : Fld := ⟨(Ra.DMA_CH_STAT n), 29, 3⟩
def DMA_CH_STAT_DISABLE_DONE (n : Nat) : Fld := ⟨(Ra.DMA_CH_STAT n), 28, 1⟩
def DMA_CH_STAT_OUT (n : Nat) : Fld := ⟨(Ra.DMA_CH_STAT n), 23, 5⟩
def DMA_CH_STAT_QUEUED (n : Nat) : Fld := ⟨(Ra.DMA_CH_STAT n), 16, 7⟩
def DMA_CH_FAULT_INFO_KIND (n : Nat) : Fld := ⟨(Ra.DMA_CH_FAULT_INFO n), 30, 2⟩
def DMA_CH_FAULT_INFO_WRITE (n : Nat) : Fld := ⟨(Ra.DMA_CH_FAULT_INFO n), 29, 1⟩
def DMA_CH_FAULT_INFO_RESTART (n : Nat) : Fld := ⟨(Ra.DMA_CH_FAULT_INFO n), 28, 1⟩
def DMA_CH_FAULT_INFO_EXTRA (n : Nat) : Fld := ⟨(Ra.DMA_CH_FAULT_INFO n), 24, 4⟩
def DMA_CH_FAULT_INFO_DONE (n : Nat) : Fld := ⟨(Ra.DMA_CH_FAULT_INFO n), 0, 24⟩
def IOMMU_INV_CMD_GO : Fld := ⟨Ra.IOMMU_INV_CMD, 31, 1⟩
def IOMMU_INV_CMD_CTX : Fld := ⟨Ra.IOMMU_INV_CMD, 24, 5⟩
def MBX_EP_CFG_RXL (e : Nat) : Fld := ⟨(Ra.MBX_EP_CFG e), 31, 1⟩
def MBX_EP_CFG_RX (e : Nat) : Fld := ⟨(Ra.MBX_EP_CFG e), 24, 7⟩
def MBX_EP_CFG_TXL (e : Nat) : Fld := ⟨(Ra.MBX_EP_CFG e), 23, 1⟩
def MBX_EP_CFG_TX (e : Nat) : Fld := ⟨(Ra.MBX_EP_CFG e), 16, 7⟩
def MBX_EP_CFG_RX_DB (e : Nat) : Fld := ⟨(Ra.MBX_EP_CFG e), 11, 5⟩
def MBX_EP_CFG_TX_DB (e : Nat) : Fld := ⟨(Ra.MBX_EP_CFG e), 6, 5⟩
def MBX_EP_CFG2_PAIR_EN (e : Nat) : Fld := ⟨(Ra.MBX_EP_CFG2 e), 31, 1⟩
def MBX_EP_CFG2_PARTNER (e : Nat) : Fld := ⟨(Ra.MBX_EP_CFG2 e), 24, 6⟩
def MBX_EP_CFG2_RX_ENTRY (e : Nat) : Fld := ⟨(Ra.MBX_EP_CFG2 e), 4, 4⟩
def MBX_EP_CFG2_TX_ENTRY (e : Nat) : Fld := ⟨(Ra.MBX_EP_CFG2 e), 0, 4⟩
def MBX_EP_STAT_STATE (e : Nat) : Fld := ⟨(Ra.MBX_EP_STAT e), 30, 2⟩
def MBX_EP_STAT_TOUT (e : Nat) : Fld := ⟨(Ra.MBX_EP_STAT e), 29, 1⟩
def MBX_EP_STAT_XING (e : Nat) : Fld := ⟨(Ra.MBX_EP_STAT e), 28, 1⟩
def MBX_EP_STAT_GONE (e : Nat) : Fld := ⟨(Ra.MBX_EP_STAT e), 27, 1⟩
def MBX_EP_STAT_SEQ (e : Nat) : Fld := ⟨(Ra.MBX_EP_STAT e), 0, 8⟩
def MBX_EP_POST_TIMEOUT (e : Nat) : Fld := ⟨(Ra.MBX_EP_POST e), 16, 16⟩
def MBX_EP_POST_GO (e : Nat) : Fld := ⟨(Ra.MBX_EP_POST e), 0, 1⟩
def MBX_EP_SEND_STAT_CODE (e : Nat) : Fld := ⟨(Ra.MBX_EP_SEND_STAT e), 16, 16⟩
def MBX_EP_SEND_STAT_PENDING (e : Nat) : Fld := ⟨(Ra.MBX_EP_SEND_STAT e), 15, 1⟩
def CAN_CTL_EN (c : Nat) : Fld := ⟨(Ra.CAN_CTL c), 31, 1⟩
def CAN_CTL_FD (c : Nat) : Fld := ⟨(Ra.CAN_CTL c), 30, 1⟩
def CAN_CTL_LISTEN (c : Nat) : Fld := ⟨(Ra.CAN_CTL c), 29, 1⟩
def CAN_CTL_RESTRICTED (c : Nat) : Fld := ⟨(Ra.CAN_CTL c), 28, 1⟩
def CAN_CTL_TERM (c : Nat) : Fld := ⟨(Ra.CAN_CTL c), 27, 1⟩
def CAN_CTL_AUTO_REC (c : Nat) : Fld := ⟨(Ra.CAN_CTL c), 26, 1⟩
def CAN_CTL_ISO (c : Nat) : Fld := ⟨(Ra.CAN_CTL c), 25, 1⟩
def CAN_CTL_REC_DLY (c : Nat) : Fld := ⟨(Ra.CAN_CTL c), 0, 16⟩
def CAN_NBT_BRP (c : Nat) : Fld := ⟨(Ra.CAN_NBT c), 27, 5⟩
def CAN_NBT_SEG1 (c : Nat) : Fld := ⟨(Ra.CAN_NBT c), 19, 8⟩
def CAN_NBT_SEG2 (c : Nat) : Fld := ⟨(Ra.CAN_NBT c), 12, 7⟩
def CAN_NBT_SJW (c : Nat) : Fld := ⟨(Ra.CAN_NBT c), 5, 7⟩
def CAN_DBT_BRP (c : Nat) : Fld := ⟨(Ra.CAN_DBT c), 27, 5⟩
def CAN_DBT_SEG1 (c : Nat) : Fld := ⟨(Ra.CAN_DBT c), 21, 6⟩
def CAN_DBT_SEG2 (c : Nat) : Fld := ⟨(Ra.CAN_DBT c), 16, 5⟩
def CAN_DBT_SJW (c : Nat) : Fld := ⟨(Ra.CAN_DBT c), 11, 5⟩
def CAN_TDC_EN (c : Nat) : Fld := ⟨(Ra.CAN_TDC c), 31, 1⟩
def CAN_TDC_SSPOFF (c : Nat) : Fld := ⟨(Ra.CAN_TDC c), 7, 7⟩
def CAN_STAT_CODE (c : Nat) : Fld := ⟨(Ra.CAN_STAT c), 16, 16⟩
def CAN_STAT_STATE (c : Nat) : Fld := ⟨(Ra.CAN_STAT c), 14, 2⟩
def CAN_STAT_WAKE_ERR (c : Nat) : Fld := ⟨(Ra.CAN_STAT c), 13, 1⟩
def CAN_STAT_TDCV (c : Nat) : Fld := ⟨(Ra.CAN_STAT c), 6, 7⟩
def CAN_STAT_LASTERR (c : Nat) : Fld := ⟨(Ra.CAN_STAT c), 0, 3⟩
def CAN_WUF_CFG_IDE (c : Nat) : Fld := ⟨(Ra.CAN_WUF_CFG c), 31, 1⟩
def CAN_WUF_CFG_DLC_CHK (c : Nat) : Fld := ⟨(Ra.CAN_WUF_CFG c), 30, 1⟩
def CAN_WUF_CFG_DATA_CHK (c : Nat) : Fld := ⟨(Ra.CAN_WUF_CFG c), 29, 1⟩
def CAN_WUF_CFG_RATE (c : Nat) : Fld := ⟨(Ra.CAN_WUF_CFG c), 27, 2⟩
def CAN_WUF_CFG_DLC (c : Nat) : Fld := ⟨(Ra.CAN_WUF_CFG c), 0, 4⟩
def CAN_SIG_IDX_KIND (c : Nat) : Fld := ⟨(Ra.CAN_SIG_IDX c), 30, 2⟩
def CAN_SIG_IDX_INDEX (c : Nat) : Fld := ⟨(Ra.CAN_SIG_IDX c), 0, 9⟩
def CAN_SIG_CMD_RESULT (c : Nat) : Fld := ⟨(Ra.CAN_SIG_CMD c), 16, 16⟩
def CAN_SIG_CMD_READ (c : Nat) : Fld := ⟨(Ra.CAN_SIG_CMD c), 1, 1⟩
def CAN_SIG_CMD_WRITE (c : Nat) : Fld := ⟨(Ra.CAN_SIG_CMD c), 0, 1⟩
def CAN_STRM_CFG_EN (c k : Nat) : Fld := ⟨(Ra.CAN_STRM_CFG c k), 31, 1⟩
def CAN_STRM_CFG_FRAME (c k : Nat) : Fld := ⟨(Ra.CAN_STRM_CFG c k), 16, 9⟩
def CAN_STRM_CFG_COUNT (c k : Nat) : Fld := ⟨(Ra.CAN_STRM_CFG c k), 0, 9⟩
def ETH_PORT_CFG_EN (p : Nat) : Fld := ⟨(Ra.ETH_PORT_CFG p), 31, 1⟩
def ETH_PORT_CFG_MASTER (p : Nat) : Fld := ⟨(Ra.ETH_PORT_CFG p), 30, 1⟩
def ETH_PORT_CFG_QBV_EN (p : Nat) : Fld := ⟨(Ra.ETH_PORT_CFG p), 29, 1⟩
def ETH_PORT_CFG_PCP (p : Nat) : Fld := ⟨(Ra.ETH_PORT_CFG p), 26, 3⟩
def ETH_PTP_CFG_EN : Fld := ⟨Ra.ETH_PTP_CFG, 31, 1⟩
def ETH_PTP_CFG_GM_CAP : Fld := ⟨Ra.ETH_PTP_CFG, 30, 1⟩
def ETH_PTP_CFG_PRIO1 : Fld := ⟨Ra.ETH_PTP_CFG, 16, 8⟩
def ETH_PTP_CFG_PRIO2 : Fld := ⟨Ra.ETH_PTP_CFG, 8, 8⟩
def ETH_PTP_STAT_ROLE : Fld := ⟨Ra.ETH_PTP_STAT, 30, 2⟩
def ETH_PTP_STAT_GM_CLASS : Fld := ⟨Ra.ETH_PTP_STAT, 16, 8⟩
def ETH_PTP_STAT_GM_GPS : Fld := ⟨Ra.ETH_PTP_STAT, 15, 1⟩
def ETH_PTP_STAT_SLAVE_PORT : Fld := ⟨Ra.ETH_PTP_STAT, 0, 3⟩
def VHP_SESS_STAT_STATE (s : Nat) : Fld := ⟨(Ra.VHP_SESS_STAT s), 30, 2⟩
def VHP_SESS_STAT_PRIV (s : Nat) : Fld := ⟨(Ra.VHP_SESS_STAT s), 28, 2⟩
def VHP_SESS_STAT_OUTST (s : Nat) : Fld := ⟨(Ra.VHP_SESS_STAT s), 16, 9⟩
def VHP_SESS_STAT_IDLE (s : Nat) : Fld := ⟨(Ra.VHP_SESS_STAT s), 0, 16⟩
def VLV_CH_CFG_EN (n : Nat) : Fld := ⟨(Ra.VLV_CH_CFG n), 31, 1⟩
def VLV_CH_CFG_OPEN_DET (n : Nat) : Fld := ⟨(Ra.VLV_CH_CFG n), 30, 1⟩
def VLV_CH_CFG_ENTRY (n : Nat) : Fld := ⟨(Ra.VLV_CH_CFG n), 22, 8⟩
def VLV_CH_CFG_IGAIN (n : Nat) : Fld := ⟨(Ra.VLV_CH_CFG n), 19, 3⟩
def VLV_CH_CFG_NOKINK_LIM (n : Nat) : Fld := ⟨(Ra.VLV_CH_CFG n), 16, 3⟩
def VLV_CH_CFG_IMAX (n : Nat) : Fld := ⟨(Ra.VLV_CH_CFG n), 0, 12⟩
def VLV_CH_STAT_CODE (n : Nat) : Fld := ⟨(Ra.VLV_CH_STAT n), 16, 16⟩
def VLV_CH_STAT_FAULT (n : Nat) : Fld := ⟨(Ra.VLV_CH_STAT n), 12, 4⟩
def VLV_CH_STAT_PHASE (n : Nat) : Fld := ⟨(Ra.VLV_CH_STAT n), 9, 3⟩
def VLV_CH_STAT_ILIM (n : Nat) : Fld := ⟨(Ra.VLV_CH_STAT n), 8, 1⟩
def VLV_CH_STAT_BUSY (n : Nat) : Fld := ⟨(Ra.VLV_CH_STAT n), 7, 1⟩
def VLV_CH_STAT_RUN (n : Nat) : Fld := ⟨(Ra.VLV_CH_STAT n), 6, 1⟩
def VLV_BANK_CFG_EN (b : Nat) : Fld := ⟨(Ra.VLV_BANK_CFG b), 31, 1⟩
def VLV_BANK_CFG_FALLBACK (b : Nat) : Fld := ⟨(Ra.VLV_BANK_CFG b), 30, 1⟩
def VLV_BANK_CFG_BOOST_V (b : Nat) : Fld := ⟨(Ra.VLV_BANK_CFG b), 24, 6⟩
def VLV_BANK_CFG_DUTY (b : Nat) : Fld := ⟨(Ra.VLV_BANK_CFG b), 16, 8⟩
def VLV_BANK_CFG_WAIT (b : Nat) : Fld := ⟨(Ra.VLV_BANK_CFG b), 0, 16⟩
def VLV_BANK_STAT_CODE (b : Nat) : Fld := ⟨(Ra.VLV_BANK_STAT b), 16, 16⟩
def VLV_BANK_STAT_READY (b : Nat) : Fld := ⟨(Ra.VLV_BANK_STAT b), 15, 1⟩
def VLV_BANK_STAT_BOOSTING (b : Nat) : Fld := ⟨(Ra.VLV_BANK_STAT b), 14, 1⟩
def VLV_BANK_STAT_BCH (b : Nat) : Fld := ⟨(Ra.VLV_BANK_STAT b), 12, 2⟩
def VLV_BANK_STAT_WAITING (b : Nat) : Fld := ⟨(Ra.VLV_BANK_STAT b), 8, 4⟩
def VLV_BANK_STAT_FAULT (b : Nat) : Fld := ⟨(Ra.VLV_BANK_STAT b), 5, 3⟩
def VLV_BANK_KINK_KHOLD (b : Nat) : Fld := ⟨(Ra.VLV_BANK_KINK b), 24, 8⟩
def VLV_BANK_KINK_KDEPTH (b : Nat) : Fld := ⟨(Ra.VLV_BANK_KINK b), 16, 8⟩
def VLV_BANK_KINK_KWIN_LO (b : Nat) : Fld := ⟨(Ra.VLV_BANK_KINK b), 8, 8⟩
def VLV_BANK_KINK_KWIN_HI (b : Nat) : Fld := ⟨(Ra.VLV_BANK_KINK b), 0, 8⟩
def VLV_TEST_CMD_TEST : Fld := ⟨Ra.VLV_TEST_CMD, 28, 4⟩
def VLV_TEST_CMD_UNIT : Fld := ⟨Ra.VLV_TEST_CMD, 0, 5⟩
def VLV_TEST_RES_CODE : Fld := ⟨Ra.VLV_TEST_RES, 16, 16⟩
def VLV_TEST_RES_PENDING : Fld := ⟨Ra.VLV_TEST_RES, 15, 1⟩
def VLV_TEST_RES_RUNNING : Fld := ⟨Ra.VLV_TEST_RES, 14, 1⟩
def VLV_TEST_RES_UNIT : Fld := ⟨Ra.VLV_TEST_RES, 9, 5⟩
def VLV_TEST_RES_TEST : Fld := ⟨Ra.VLV_TEST_RES, 5, 4⟩
def VLV_TEST_RES_PASS : Fld := ⟨Ra.VLV_TEST_RES, 0, 1⟩
def LSW_CH_CFG_EN (n : Nat) : Fld := ⟨(Ra.LSW_CH_CFG n), 31, 1⟩
def LSW_CH_CFG_KEEP (n : Nat) : Fld := ⟨(Ra.LSW_CH_CFG n), 30, 1⟩
def LSW_CH_CFG_LOAD (n : Nat) : Fld := ⟨(Ra.LSW_CH_CFG n), 29, 1⟩
def LSW_CH_CFG_OL_OFF (n : Nat) : Fld := ⟨(Ra.LSW_CH_CFG n), 28, 1⟩
def LSW_CH_CFG_RETRY (n : Nat) : Fld := ⟨(Ra.LSW_CH_CFG n), 25, 3⟩
def LSW_CH_CFG_PWM_F (n : Nat) : Fld := ⟨(Ra.LSW_CH_CFG n), 22, 3⟩
def LSW_CH_CMD_VALUE (n : Nat) : Fld := ⟨(Ra.LSW_CH_CMD n), 0, 11⟩
def LSW_CH_STAT_CODE (n : Nat) : Fld := ⟨(Ra.LSW_CH_STAT n), 16, 16⟩
def LSW_CH_STAT_FAULT (n : Nat) : Fld := ⟨(Ra.LSW_CH_STAT n), 12, 4⟩
def LSW_CH_STAT_STATE (n : Nat) : Fld := ⟨(Ra.LSW_CH_STAT n), 10, 2⟩
def LSW_CH_STAT_INRUSH (n : Nat) : Fld := ⟨(Ra.LSW_CH_STAT n), 9, 1⟩
def LSW_CH_STAT_HOLD (n : Nat) : Fld := ⟨(Ra.LSW_CH_STAT n), 8, 1⟩
def LSW_CH_STAT_BUSY (n : Nat) : Fld := ⟨(Ra.LSW_CH_STAT n), 7, 1⟩
def LSW_CH_STAT_LOOP (n : Nat) : Fld := ⟨(Ra.LSW_CH_STAT n), 6, 1⟩
def LSW_CH_STAT_RETRY_LEFT (n : Nat) : Fld := ⟨(Ra.LSW_CH_STAT n), 3, 3⟩
def LSW_CH_THR_INRUSH (n : Nat) : Fld := ⟨(Ra.LSW_CH_THR n), 24, 8⟩
def LSW_CH_THR_LATCH (n : Nat) : Fld := ⟨(Ra.LSW_CH_THR n), 16, 8⟩
def LSW_CH_THR_OL_ON (n : Nat) : Fld := ⟨(Ra.LSW_CH_THR n), 8, 8⟩
def LSW_CH_TIME_LATCH_T (n : Nat) : Fld := ⟨(Ra.LSW_CH_TIME n), 22, 10⟩
def LSW_CH_TIME_INRUSH_T (n : Nat) : Fld := ⟨(Ra.LSW_CH_TIME n), 16, 6⟩
def LSW_GRP_CFG_UV (g : Nat) : Fld := ⟨(Ra.LSW_GRP_CFG g), 0, 8⟩
def SAF_STAT_STATE : Fld := ⟨Ra.SAF_STAT, 30, 2⟩
def SAF_STAT_LOCKSTEP_OK : Fld := ⟨Ra.SAF_STAT, 29, 1⟩
def SAF_STAT_WA_OK : Fld := ⟨Ra.SAF_STAT, 28, 1⟩
def SAF_STAT_SP_OK : Fld := ⟨Ra.SAF_STAT, 27, 1⟩
def SAF_STAT_TRIP : Fld := ⟨Ra.SAF_STAT, 20, 4⟩
def SAF_STAT_ENABLE : Fld := ⟨Ra.SAF_STAT, 16, 4⟩
def SAF_STAT_SO : Fld := ⟨Ra.SAF_STAT, 12, 4⟩
def SAF_STAT_SO_FAULT : Fld := ⟨Ra.SAF_STAT, 8, 4⟩
def SAF_STAT_TP : Fld := ⟨Ra.SAF_STAT, 0, 8⟩
def SAF_LOCK_RST_CODE : Fld := ⟨Ra.SAF_LOCK, 16, 16⟩
def SAF_LOCK_CAUSE : Fld := ⟨Ra.SAF_LOCK, 8, 8⟩
def SAF_LOCK_DETAIL : Fld := ⟨Ra.SAF_LOCK, 4, 4⟩
def SAF_LOCK_READY : Fld := ⟨Ra.SAF_LOCK, 3, 1⟩
def SAF_LOCK_BTN_FAULT : Fld := ⟨Ra.SAF_LOCK, 2, 1⟩
def SAF_LOCK_STATIONARY : Fld := ⟨Ra.SAF_LOCK, 1, 1⟩
def SAF_LOCK_LATCHED : Fld := ⟨Ra.SAF_LOCK, 0, 1⟩
def SAF_IN_CFG_FUNC (i : Nat) : Fld := ⟨(Ra.SAF_IN_CFG i), 28, 4⟩
def SAF_IN_CFG_TYPE (i : Nat) : Fld := ⟨(Ra.SAF_IN_CFG i), 26, 2⟩
def SAF_IN_CFG_RESTART (i : Nat) : Fld := ⟨(Ra.SAF_IN_CFG i), 25, 1⟩
def SAF_IN_CFG_SPD (i : Nat) : Fld := ⟨(Ra.SAF_IN_CFG i), 24, 1⟩
def SAF_IN_CFG_SOMASK (i : Nat) : Fld := ⟨(Ra.SAF_IN_CFG i), 20, 4⟩
def SAF_IN_CFG_DISC (i : Nat) : Fld := ⟨(Ra.SAF_IN_CFG i), 8, 10⟩
def SAF_IN_CFG_FILT (i : Nat) : Fld := ⟨(Ra.SAF_IN_CFG i), 0, 6⟩
def SAF_HB_COUNT : Fld := ⟨Ra.SAF_HB, 0, 32⟩
def SAF_STEER_TEST_KEY : Fld := ⟨Ra.SAF_STEER_TEST, 16, 16⟩
def SAF_STEER_TEST_VALVE : Fld := ⟨Ra.SAF_STEER_TEST, 14, 2⟩
def SAF_STEER_TEST_CURRENT : Fld := ⟨Ra.SAF_STEER_TEST, 0, 12⟩
def SAF_STOP_REQ_KEY : Fld := ⟨Ra.SAF_STOP_REQ, 16, 16⟩
def SAF_STOP_REQ_GO : Fld := ⟨Ra.SAF_STOP_REQ, 0, 1⟩
def DSP_PNL_CTL_EN : Fld := ⟨Ra.DSP_PNL_CTL, 31, 1⟩
def DSP_PNL_CTL_AGE_EN : Fld := ⟨Ra.DSP_PNL_CTL, 30, 1⟩
def DSP_PNL_CTL_ELVSS : Fld := ⟨Ra.DSP_PNL_CTL, 0, 6⟩
def DSP_PNL_STAT_STATE : Fld := ⟨Ra.DSP_PNL_STAT, 30, 2⟩
def DSP_PNL_STAT_FAULT : Fld := ⟨Ra.DSP_PNL_STAT, 27, 3⟩
def DSP_PNL_STAT_BUF : Fld := ⟨Ra.DSP_PNL_STAT, 26, 1⟩
def DSP_PNL_STAT_UNDERRUN : Fld := ⟨Ra.DSP_PNL_STAT, 8, 8⟩
def DSP_PNL_STAT_FB_FAULT : Fld := ⟨Ra.DSP_PNL_STAT, 0, 8⟩
def DSP_FB_CFG_CH : Fld := ⟨Ra.DSP_FB_CFG, 27, 5⟩
def DSP_FB_CFG_PITCH : Fld := ⟨Ra.DSP_FB_CFG, 0, 16⟩
def BST_CFG_MIN_INT : Fld := ⟨Ra.BST_CFG, 16, 16⟩
def BST_STAT_BUSY : Fld := ⟨Ra.BST_STAT, 31, 1⟩
def BST_STAT_PENDING : Fld := ⟨Ra.BST_STAT, 30, 1⟩
def BST_STAT_REPAIR : Fld := ⟨Ra.BST_STAT, 29, 1⟩
def BST_STAT_LEDGER_HIGH : Fld := ⟨Ra.BST_STAT, 28, 1⟩
def BST_STAT_WORN : Fld := ⟨Ra.BST_STAT, 27, 1⟩
def BST_STAT_LOST : Fld := ⟨Ra.BST_STAT, 26, 1⟩
def BST_STAT_BAND : Fld := ⟨Ra.BST_STAT, 16, 3⟩
def BST_STAT_DISCARD : Fld := ⟨Ra.BST_STAT, 8, 8⟩
def EVR_CFG_REP_WIN : Fld := ⟨Ra.EVR_CFG, 16, 16⟩
def EVR_CFG_STORM_LIM : Fld := ⟨Ra.EVR_CFG, 0, 16⟩
def EVR_STAT_CODE : Fld := ⟨Ra.EVR_STAT, 16, 16⟩
def EVR_STAT_WRAPPED : Fld := ⟨Ra.EVR_STAT, 0, 1⟩
def EVR_LOUPE_CTL_NEXT (w : Nat) : Fld := ⟨(Ra.EVR_LOUPE_CTL w), 31, 1⟩
def EVR_LOUPE_CTL_STATE (w : Nat) : Fld := ⟨(Ra.EVR_LOUPE_CTL w), 16, 2⟩
def EVR_LOUPE_CTL_SKIPPED (w : Nat) : Fld := ⟨(Ra.EVR_LOUPE_CTL w), 0, 16⟩
def TAB_CFG_EN : Fld := ⟨Ra.TAB_CFG, 31, 1⟩
def TAB_CFG_OUT : Fld := ⟨Ra.TAB_CFG, 30, 1⟩
def TAB_CFG_CKPT_INT : Fld := ⟨Ra.TAB_CFG, 0, 16⟩
def TAB_STAT_RECORDING : Fld := ⟨Ra.TAB_STAT, 31, 1⟩
def TAB_STAT_DIGEST_NOW : Fld := ⟨Ra.TAB_STAT, 30, 1⟩
def TAB_STAT_HOLD_MISS : Fld := ⟨Ra.TAB_STAT, 29, 1⟩
def TAB_STAT_GAP : Fld := ⟨Ra.TAB_STAT, 26, 3⟩
def TAB_STAT_FILL : Fld := ⟨Ra.TAB_STAT, 0, 8⟩
def TAB_TRIG_HOLD (k : Nat) : Fld := ⟨(Ra.TAB_TRIG k), 31, 1⟩
def TAB_TRIG_FW (k : Nat) : Fld := ⟨(Ra.TAB_TRIG k), 30, 1⟩
def TAB_TRIG_CODE (k : Nat) : Fld := ⟨(Ra.TAB_TRIG k), 0, 16⟩
def TAB_RPL_CTL_STOP : Fld := ⟨Ra.TAB_RPL_CTL, 31, 1⟩
def TAB_RPL_CTL_STOP_ON_DIV : Fld := ⟨Ra.TAB_RPL_CTL, 30, 1⟩
def TAB_RPL_CTL_STATE : Fld := ⟨Ra.TAB_RPL_CTL, 16, 2⟩
def TAB_DIV_INFO_VALID : Fld := ⟨Ra.TAB_DIV_INFO, 31, 1⟩
def TAB_DIV_INFO_KIND : Fld := ⟨Ra.TAB_DIV_INFO, 28, 3⟩
def TAB_DIV_INFO_UNIT : Fld := ⟨Ra.TAB_DIV_INFO, 0, 24⟩
def UPD_STAT_STATE : Fld := ⟨Ra.UPD_STAT, 28, 4⟩
def UPD_STAT_TRIAL : Fld := ⟨Ra.UPD_STAT, 27, 1⟩
def UPD_STAT_SAF_PENDING : Fld := ⟨Ra.UPD_STAT, 26, 1⟩
def UPD_STAT_LOCK : Fld := ⟨Ra.UPD_STAT, 25, 1⟩
def UPD_STAT_DRIVERLESS : Fld := ⟨Ra.UPD_STAT, 24, 1⟩
def UPD_STAT_ATTEMPTS : Fld := ⟨Ra.UPD_STAT, 22, 2⟩
def UPD_STAT_NPARTS : Fld := ⟨Ra.UPD_STAT, 16, 6⟩
def UPD_STAT_SET : Fld := ⟨Ra.UPD_STAT, 0, 1⟩
def UPD_APERTURE_MET : Fld := ⟨Ra.UPD_APERTURE, 31, 1⟩
def UPD_APERTURE_BLOCKED : Fld := ⟨Ra.UPD_APERTURE, 0, 7⟩
def UPD_CMD_KEY : Fld := ⟨Ra.UPD_CMD, 16, 16⟩
def UPD_CMD_CMD : Fld := ⟨Ra.UPD_CMD, 0, 2⟩
def UPD_HEALTH_PARTS_OK : Fld := ⟨Ra.UPD_HEALTH, 4, 1⟩
def UPD_HEALTH_ENG_OK : Fld := ⟨Ra.UPD_HEALTH, 3, 1⟩
def UPD_HEALTH_LOOPS_OK : Fld := ⟨Ra.UPD_HEALTH, 2, 1⟩
def UPD_HEALTH_SAF_OK : Fld := ⟨Ra.UPD_HEALTH, 1, 1⟩
def UPD_HEALTH_BOOTED : Fld := ⟨Ra.UPD_HEALTH, 0, 1⟩
def UPD_CAL_STAT_CODE : Fld := ⟨Ra.UPD_CAL_STAT, 16, 16⟩
def UPD_CAL_STAT_SRC : Fld := ⟨Ra.UPD_CAL_STAT, 14, 2⟩
def UPD_CAL_STAT_PENDING : Fld := ⟨Ra.UPD_CAL_STAT, 13, 1⟩
def UPD_CAL_STAT_SET : Fld := ⟨Ra.UPD_CAL_STAT, 0, 8⟩
def UPD_DBG_STAT_OPEN : Fld := ⟨Ra.UPD_DBG_STAT, 31, 1⟩
def UPD_DBG_STAT_SCOPE : Fld := ⟨Ra.UPD_DBG_STAT, 30, 1⟩
def UPD_DBG_STAT_MINUTES : Fld := ⟨Ra.UPD_DBG_STAT, 0, 16⟩
def PWR_SUP_STAT_SYSV24 : Fld := ⟨Ra.PWR_SUP_STAT, 31, 1⟩
def PWR_SUP_STAT_OV : Fld := ⟨Ra.PWR_SUP_STAT, 28, 3⟩
def PWR_SUP_STAT_LOW : Fld := ⟨Ra.PWR_SUP_STAT, 25, 3⟩
def PWR_SUP_STAT_REV : Fld := ⟨Ra.PWR_SUP_STAT, 22, 3⟩
def PWR_SUP_STAT_LOGIC_MV : Fld := ⟨Ra.PWR_SUP_STAT, 0, 16⟩
def PWR_GND_STAT_GND1_LOST : Fld := ⟨Ra.PWR_GND_STAT, 31, 1⟩
def PWR_GND_STAT_GND2_LOST : Fld := ⟨Ra.PWR_GND_STAT, 30, 1⟩
def PWR_GND_STAT_GND1_V : Fld := ⟨Ra.PWR_GND_STAT, 8, 8⟩
def PWR_GND_STAT_GND2_V : Fld := ⟨Ra.PWR_GND_STAT, 0, 8⟩
def PWR_RSV_STAT_LOW : Fld := ⟨Ra.PWR_RSV_STAT, 31, 1⟩
def PWR_RSV_STAT_CHARGING : Fld := ⟨Ra.PWR_RSV_STAT, 30, 1⟩
def PWR_RSV_STAT_CAP_UF : Fld := ⟨Ra.PWR_RSV_STAT, 0, 16⟩
def THM_SITE_VALID (s : Nat) : Fld := ⟨(Ra.THM_SITE s), 31, 1⟩
def THM_SITE_TEMP (s : Nat) : Fld := ⟨(Ra.THM_SITE s), 0, 16⟩
def THM_STAT_WARN : Fld := ⟨Ra.THM_STAT, 31, 1⟩
def THM_STAT_THROTTLE : Fld := ⟨Ra.THM_STAT, 30, 1⟩
def THM_STAT_STAGE : Fld := ⟨Ra.THM_STAT, 28, 2⟩
def THM_STAT_OUT_HIGH : Fld := ⟨Ra.THM_STAT, 27, 1⟩
def THM_STAT_HOT_SITE : Fld := ⟨Ra.THM_STAT, 16, 5⟩
def THM_STAT_HOT_TEMP : Fld := ⟨Ra.THM_STAT, 0, 16⟩
def THM_PWR_COMPUTE : Fld := ⟨Ra.THM_PWR, 16, 16⟩
def THM_PWR_OUT : Fld := ⟨Ra.THM_PWR, 0, 16⟩
def EVR_NEXT_SEQ : Fld := ⟨Ra.EVR_NEXT, 0, 32⟩
def EVR_OLDEST_SEQ : Fld := ⟨Ra.EVR_OLDEST, 0, 32⟩
def EVR_OVERWR_COUNT : Fld := ⟨Ra.EVR_OVERWR, 0, 32⟩
def EVR_NONCE_LO_V : Fld := ⟨Ra.EVR_NONCE_LO, 0, 32⟩
def EVR_NONCE_HI_V : Fld := ⟨Ra.EVR_NONCE_HI, 0, 32⟩
def EVR_APP_CODE_CODE : Fld := ⟨Ra.EVR_APP_CODE, 0, 16⟩
def EVR_APP_D0_V : Fld := ⟨Ra.EVR_APP_D0, 0, 32⟩
def EVR_APP_D1_V : Fld := ⟨Ra.EVR_APP_D1, 0, 32⟩
def EVR_APP_GO_GO : Fld := ⟨Ra.EVR_APP_GO, 0, 1⟩
def EVR_CLR_LO_V : Fld := ⟨Ra.EVR_CLR_LO, 0, 32⟩
def EVR_CLR_HI_V : Fld := ⟨Ra.EVR_CLR_HI, 0, 32⟩
def EVR_CLR_STAT_CODE : Fld := ⟨Ra.EVR_CLR_STAT, 16, 16⟩
def EVR_CLR_STAT_ACCEPTED : Fld := ⟨Ra.EVR_CLR_STAT, 0, 16⟩
def EVR_CLR_CMD_KEY : Fld := ⟨Ra.EVR_CLR_CMD, 16, 16⟩
def EVR_CLR_CMD_GO : Fld := ⟨Ra.EVR_CLR_CMD, 0, 1⟩
def EVR_OPTIME_V : Fld := ⟨Ra.EVR_OPTIME, 0, 32⟩
def EVR_FIELD_S_V : Fld := ⟨Ra.EVR_FIELD_S, 0, 32⟩
def EVR_PCYC_V : Fld := ⟨Ra.EVR_PCYC, 0, 32⟩
def EVR_WAKES_V : Fld := ⟨Ra.EVR_WAKES, 0, 32⟩
def EVR_RESETS_V : Fld := ⟨Ra.EVR_RESETS, 0, 32⟩
def EVR_LOUPE_CUR_V (w : Nat) : Fld := ⟨(Ra.EVR_LOUPE_CUR w), 0, 32⟩
def EVR_LOUPE_DATA_V (w k : Nat) : Fld := ⟨(Ra.EVR_LOUPE_DATA w k), 0, 32⟩
def TAB_SEG_V : Fld := ⟨Ra.TAB_SEG, 0, 32⟩
def TAB_RATE_V : Fld := ⟨Ra.TAB_RATE, 0, 32⟩
def TAB_TRIG_TIME_PRE_S (k : Nat) : Fld := ⟨(Ra.TAB_TRIG_TIME k), 16, 16⟩
def TAB_TRIG_TIME_POST_S (k : Nat) : Fld := ⟨(Ra.TAB_TRIG_TIME k), 0, 16⟩
def TAB_FW_CFG_CAM : Fld := ⟨Ra.TAB_FW_CFG, 24, 6⟩
def TAB_FW_CFG_PRE_MS : Fld := ⟨Ra.TAB_FW_CFG, 12, 12⟩
def TAB_FW_CFG_POST_MS : Fld := ⟨Ra.TAB_FW_CFG, 0, 12⟩
def TAB_HOLD_FIRST_V (h : Nat) : Fld := ⟨(Ra.TAB_HOLD_FIRST h), 0, 32⟩
def TAB_HOLD_LAST_V (h : Nat) : Fld := ⟨(Ra.TAB_HOLD_LAST h), 0, 32⟩
def TAB_RPL_SEL_V : Fld := ⟨Ra.TAB_RPL_SEL, 0, 32⟩
def TAB_RPL_CKPT_V : Fld := ⟨Ra.TAB_RPL_CKPT, 0, 32⟩
def TAB_RPL_END_LO_V : Fld := ⟨Ra.TAB_RPL_END_LO, 0, 32⟩
def TAB_RPL_END_HI_V : Fld := ⟨Ra.TAB_RPL_END_HI, 0, 32⟩
def TAB_RPL_TICK_LO_V : Fld := ⟨Ra.TAB_RPL_TICK_LO, 0, 32⟩
def TAB_RPL_TICK_HI_V : Fld := ⟨Ra.TAB_RPL_TICK_HI, 0, 32⟩
def TAB_DIV_TICK_LO_V : Fld := ⟨Ra.TAB_DIV_TICK_LO, 0, 32⟩
def TAB_DIV_TICK_HI_V : Fld := ⟨Ra.TAB_DIV_TICK_HI, 0, 32⟩
def TAB_DIV_STEP_V : Fld := ⟨Ra.TAB_DIV_STEP, 0, 32⟩
def TAB_DIV_REC_V : Fld := ⟨Ra.TAB_DIV_REC, 0, 32⟩
def TAB_DIV_REP_V : Fld := ⟨Ra.TAB_DIV_REP, 0, 32⟩
def TAB_DIV_CNT_V : Fld := ⟨Ra.TAB_DIV_CNT, 0, 32⟩
def DMA_CH_RING_LO_V (n : Nat) : Fld := ⟨(Ra.DMA_CH_RING_LO n), 0, 32⟩
def DMA_CH_RING_HI_V (n : Nat) : Fld := ⟨(Ra.DMA_CH_RING_HI n), 0, 32⟩
def DMA_CH_RING_CFG_SIZE (n : Nat) : Fld := ⟨(Ra.DMA_CH_RING_CFG n), 0, 16⟩
def DMA_CH_TAIL_IDX (n : Nat) : Fld := ⟨(Ra.DMA_CH_TAIL n), 0, 16⟩
def DMA_CH_HEAD_IDX (n : Nat) : Fld := ⟨(Ra.DMA_CH_HEAD n), 0, 16⟩
def DMA_CH_CNT_V (n : Nat) : Fld := ⟨(Ra.DMA_CH_CNT n), 0, 32⟩
def DMA_CH_CMD_CMD (n : Nat) : Fld := ⟨(Ra.DMA_CH_CMD n), 0, 2⟩
def DMA_CH_FAULT_LO_V (n : Nat) : Fld := ⟨(Ra.DMA_CH_FAULT_LO n), 0, 32⟩
def DMA_CH_FAULT_HI_V (n : Nat) : Fld := ⟨(Ra.DMA_CH_FAULT_HI n), 0, 32⟩
def IOMMU_INI_MAP_CTX0 (k : Nat) : Fld := ⟨(Ra.IOMMU_INI_MAP k), 0, 5⟩
def IOMMU_INI_MAP_EN0 (k : Nat) : Fld := ⟨(Ra.IOMMU_INI_MAP k), 7, 1⟩
def IOMMU_INI_MAP_CTX1 (k : Nat) : Fld := ⟨(Ra.IOMMU_INI_MAP k), 8, 5⟩
def IOMMU_INI_MAP_EN1 (k : Nat) : Fld := ⟨(Ra.IOMMU_INI_MAP k), 15, 1⟩
def IOMMU_INI_MAP_CTX2 (k : Nat) : Fld := ⟨(Ra.IOMMU_INI_MAP k), 16, 5⟩
def IOMMU_INI_MAP_EN2 (k : Nat) : Fld := ⟨(Ra.IOMMU_INI_MAP k), 23, 1⟩
def IOMMU_INI_MAP_CTX3 (k : Nat) : Fld := ⟨(Ra.IOMMU_INI_MAP k), 24, 5⟩
def IOMMU_INI_MAP_EN3 (k : Nat) : Fld := ⟨(Ra.IOMMU_INI_MAP k), 31, 1⟩
def IOMMU_INV_LO_V : Fld := ⟨Ra.IOMMU_INV_LO, 0, 32⟩
def IOMMU_INV_HI_V : Fld := ⟨Ra.IOMMU_INV_HI, 0, 32⟩
def IOMMU_INV_STAT_BUSY : Fld := ⟨Ra.IOMMU_INV_STAT, 31, 1⟩
def IOMMU_CTXT_LO_V : Fld := ⟨Ra.IOMMU_CTXT_LO, 0, 32⟩
def IOMMU_CTXT_HI_V : Fld := ⟨Ra.IOMMU_CTXT_HI, 0, 32⟩
def MBX_EP_ACK_CODE (e : Nat) : Fld := ⟨(Ra.MBX_EP_ACK e), 0, 16⟩
def MBX_EP_ACK_RES_CODE (e : Nat) : Fld := ⟨(Ra.MBX_EP_ACK_RES e), 16, 16⟩
def MBX_EP_LATE_CODE (e : Nat) : Fld := ⟨(Ra.MBX_EP_LATE e), 16, 16⟩
def MBX_EP_LATE_LATE (e : Nat) : Fld := ⟨(Ra.MBX_EP_LATE e), 15, 1⟩
def MBX_DB_TARGET_ID (d : Nat) : Fld := ⟨(Ra.MBX_DB_TARGET d), 0, 6⟩
def MBX_DB_SET_V (d : Nat) : Fld := ⟨(Ra.MBX_DB_SET d), 0, 32⟩
def MBX_DB_PEND_V (d : Nat) : Fld := ⟨(Ra.MBX_DB_PEND d), 0, 32⟩
def MBX_CFG_CROSS : Fld := ⟨Ra.MBX_CFG, 0, 16⟩
def MBX_EP_FREE_KEY : Fld := ⟨Ra.MBX_EP_FREE, 16, 16⟩
def MBX_EP_FREE_EP : Fld := ⟨Ra.MBX_EP_FREE, 0, 6⟩
def MBX_STAT_CODE_CODE : Fld := ⟨Ra.MBX_STAT_CODE, 0, 16⟩
def MBX_PAYLOAD_V (e k : Nat) : Fld := ⟨(Ra.MBX_PAYLOAD e k), 0, 32⟩
def CE_LOAD_ADDR_LO_V (e : Nat) : Fld := ⟨(Ra.CE_LOAD_ADDR_LO e), 0, 32⟩
def CE_LOAD_ADDR_HI_V (e : Nat) : Fld := ⟨(Ra.CE_LOAD_ADDR_HI e), 0, 32⟩
def CE_LOAD_LEN_V (e : Nat) : Fld := ⟨(Ra.CE_LOAD_LEN e), 0, 32⟩
def CE_MIG_CUT_LO_V (e : Nat) : Fld := ⟨(Ra.CE_MIG_CUT_LO e), 0, 32⟩
def CE_MIG_CUT_HI_V (e : Nat) : Fld := ⟨(Ra.CE_MIG_CUT_HI e), 0, 32⟩
def CE_RT_DATA_V (e k : Nat) : Fld := ⟨(Ra.CE_RT_DATA e k), 0, 32⟩
def CE_SET_EVAC_AUTO (e : Nat) : Fld := ⟨(Ra.CE_SET_EVAC e), 0, 1⟩
def CE_SET_SFC_V (e : Nat) : Fld := ⟨(Ra.CE_SET_SFC e), 0, 32⟩
def VLV_CH_MEAS_TARGET (n : Nat) : Fld := ⟨(Ra.VLV_CH_MEAS n), 16, 16⟩
def VLV_CH_MEAS_MEAN (n : Nat) : Fld := ⟨(Ra.VLV_CH_MEAS n), 0, 16⟩
def VLV_CH_KINK_COUNT (n : Nat) : Fld := ⟨(Ra.VLV_CH_KINK n), 16, 16⟩
def VLV_CH_KINK_TIME (n : Nat) : Fld := ⟨(Ra.VLV_CH_KINK n), 0, 16⟩
def VLV_CH_COIL_R (n : Nat) : Fld := ⟨(Ra.VLV_CH_COIL n), 16, 16⟩
def VLV_CH_COIL_L (n : Nat) : Fld := ⟨(Ra.VLV_CH_COIL n), 0, 16⟩
def VLV_CH_TEMP_V (n : Nat) : Fld := ⟨(Ra.VLV_CH_TEMP n), 0, 32⟩
def VLV_CH_CNT_BOOSTS (n : Nat) : Fld := ⟨(Ra.VLV_CH_CNT n), 16, 16⟩
def VLV_CH_CNT_REJ (n : Nat) : Fld := ⟨(Ra.VLV_CH_CNT n), 0, 16⟩
def VLV_CH_R20_V (n : Nat) : Fld := ⟨(Ra.VLV_CH_R20 n), 0, 32⟩
def VLV_BANK_ILIM_V (b : Nat) : Fld := ⟨(Ra.VLV_BANK_ILIM b), 0, 16⟩
def VLV_BANK_RAIL_MV (b : Nat) : Fld := ⟨(Ra.VLV_BANK_RAIL b), 0, 16⟩
def VLV_BANK_DUTY_US (b : Nat) : Fld := ⟨(Ra.VLV_BANK_DUTY b), 0, 32⟩
def VLV_BANK_SWAP_KEY (b : Nat) : Fld := ⟨(Ra.VLV_BANK_SWAP b), 16, 16⟩
def VLV_BANK_SWAP_GO (b : Nat) : Fld := ⟨(Ra.VLV_BANK_SWAP b), 0, 1⟩
def VLV_BANK_CLR_KEY (b : Nat) : Fld := ⟨(Ra.VLV_BANK_CLR b), 16, 16⟩
def VLV_BANK_CLR_GO (b : Nat) : Fld := ⟨(Ra.VLV_BANK_CLR b), 0, 1⟩
def VLV_BANK_SEQ_PC0 (b : Nat) : Fld := ⟨(Ra.VLV_BANK_SEQ b), 0, 8⟩
def VLV_BANK_SEQ_PC1 (b : Nat) : Fld := ⟨(Ra.VLV_BANK_SEQ b), 8, 8⟩
def VLV_BANK_SEQ_PC2 (b : Nat) : Fld := ⟨(Ra.VLV_BANK_SEQ b), 16, 8⟩
def VLV_BANK_SEQ_PC3 (b : Nat) : Fld := ⟨(Ra.VLV_BANK_SEQ b), 24, 8⟩
def LSW_CH_MEAS_CUR (n : Nat) : Fld := ⟨(Ra.LSW_CH_MEAS n), 16, 16⟩
def LSW_CH_MEAS_VOUT (n : Nat) : Fld := ⟨(Ra.LSW_CH_MEAS n), 0, 16⟩
def LSW_CH_CNT_LATCHES (n : Nat) : Fld := ⟨(Ra.LSW_CH_CNT n), 16, 16⟩
def LSW_CH_CNT_CLAMPS (n : Nat) : Fld := ⟨(Ra.LSW_CH_CNT n), 0, 16⟩
def LSW_CH_CLR_KEY (n : Nat) : Fld := ⟨(Ra.LSW_CH_CLR n), 16, 16⟩
def LSW_CH_CLR_GO (n : Nat) : Fld := ⟨(Ra.LSW_CH_CLR n), 0, 1⟩
def LSW_GRP_STAT_OV (g : Nat) : Fld := ⟨(Ra.LSW_GRP_STAT g), 31, 1⟩
def LSW_GRP_STAT_UV (g : Nat) : Fld := ⟨(Ra.LSW_GRP_STAT g), 30, 1⟩
def LSW_GRP_STAT_MV (g : Nat) : Fld := ⟨(Ra.LSW_GRP_STAT g), 0, 16⟩
def LSW_GRP_CUR_V (g : Nat) : Fld := ⟨(Ra.LSW_GRP_CUR g), 0, 32⟩
def LSW_GRP_SAG_US (g : Nat) : Fld := ⟨(Ra.LSW_GRP_SAG g), 0, 32⟩
def LSW_SUM_OVER : Fld := ⟨Ra.LSW_SUM, 31, 1⟩
def LSW_SUM_CUR : Fld := ⟨Ra.LSW_SUM, 0, 16⟩
def LSW_TEST_CMD_TEST : Fld := ⟨Ra.LSW_TEST_CMD, 28, 4⟩
def LSW_TEST_CMD_CH : Fld := ⟨Ra.LSW_TEST_CMD, 0, 5⟩
def LSW_TEST_RES_CODE : Fld := ⟨Ra.LSW_TEST_RES, 16, 16⟩
def LSW_TEST_RES_PENDING : Fld := ⟨Ra.LSW_TEST_RES, 15, 1⟩
def LSW_TEST_RES_RUNNING : Fld := ⟨Ra.LSW_TEST_RES, 14, 1⟩
def LSW_TEST_RES_UNIT : Fld := ⟨Ra.LSW_TEST_RES, 9, 5⟩
def LSW_TEST_RES_TEST : Fld := ⟨Ra.LSW_TEST_RES, 5, 4⟩
def LSW_TEST_RES_PASS : Fld := ⟨Ra.LSW_TEST_RES, 0, 1⟩
def UIN_CH_GAIN_V (n : Nat) : Fld := ⟨(Ra.UIN_CH_GAIN n), 0, 32⟩
def UIN_CH_OFFSET_V (n : Nat) : Fld := ⟨(Ra.UIN_CH_OFFSET n), 0, 32⟩
def UIN_CH_LIM_HI (n : Nat) : Fld := ⟨(Ra.UIN_CH_LIM n), 16, 16⟩
def UIN_CH_LIM_LO (n : Nat) : Fld := ⟨(Ra.UIN_CH_LIM n), 0, 16⟩
def UIN_CH_VAL_V (n : Nat) : Fld := ⟨(Ra.UIN_CH_VAL n), 0, 32⟩
def BRG_CH_CFG_EN (n : Nat) : Fld := ⟨(Ra.BRG_CH_CFG n), 31, 1⟩
def BRG_CH_CFG_RATE (n : Nat) : Fld := ⟨(Ra.BRG_CH_CFG n), 29, 2⟩
def BRG_CH_CFG_SPAN (n : Nat) : Fld := ⟨(Ra.BRG_CH_CFG n), 27, 2⟩
def BRG_CH_CFG_CONF (n : Nat) : Fld := ⟨(Ra.BRG_CH_CFG n), 8, 8⟩
def BRG_CH_GAIN_V (n : Nat) : Fld := ⟨(Ra.BRG_CH_GAIN n), 0, 32⟩
def BRG_CH_OFFSET_V (n : Nat) : Fld := ⟨(Ra.BRG_CH_OFFSET n), 0, 32⟩
def BRG_CH_LIM_HI (n : Nat) : Fld := ⟨(Ra.BRG_CH_LIM n), 16, 16⟩
def BRG_CH_LIM_LO (n : Nat) : Fld := ⟨(Ra.BRG_CH_LIM n), 0, 16⟩
def BRG_CH_STAT_VALID (n : Nat) : Fld := ⟨(Ra.BRG_CH_STAT n), 31, 1⟩
def BRG_CH_STAT_SAFE (n : Nat) : Fld := ⟨(Ra.BRG_CH_STAT n), 30, 1⟩
def BRG_CH_STAT_TESTING (n : Nat) : Fld := ⟨(Ra.BRG_CH_STAT n), 29, 1⟩
def BRG_CH_STAT_TEST_PEND (n : Nat) : Fld := ⟨(Ra.BRG_CH_STAT n), 28, 1⟩
def BRG_CH_STAT_FAULT (n : Nat) : Fld := ⟨(Ra.BRG_CH_STAT n), 24, 4⟩
def BRG_CH_STAT_FCNT (n : Nat) : Fld := ⟨(Ra.BRG_CH_STAT n), 16, 8⟩
def BRG_CH_STAT_RAW (n : Nat) : Fld := ⟨(Ra.BRG_CH_STAT n), 0, 16⟩
def BRG_CH_VAL_V (n : Nat) : Fld := ⟨(Ra.BRG_CH_VAL n), 0, 32⟩
def UIN_SUP_STAT_FAULT (n : Nat) : Fld := ⟨(Ra.UIN_SUP_STAT n), 30, 2⟩
def UIN_SUP_STAT_MA (n : Nat) : Fld := ⟨(Ra.UIN_SUP_STAT n), 0, 16⟩
def MFP_MF_LIM_LO_V (n : Nat) : Fld := ⟨(Ra.MFP_MF_LIM_LO n), 0, 32⟩
def MFP_MF_LIM_HI_V (n : Nat) : Fld := ⟨(Ra.MFP_MF_LIM_HI n), 0, 32⟩
def MFP_MF_RAMP_V (n : Nat) : Fld := ⟨(Ra.MFP_MF_RAMP n), 0, 32⟩
def MFP_MF_SAFE_V (n : Nat) : Fld := ⟨(Ra.MFP_MF_SAFE n), 0, 32⟩
def MFP_MF_OPER_V (n : Nat) : Fld := ⟨(Ra.MFP_MF_OPER n), 0, 32⟩
def MFP_MF_HOST_V (n : Nat) : Fld := ⟨(Ra.MFP_MF_HOST n), 0, 32⟩
def GNS_PPS_B_LO_V : Fld := ⟨Ra.GNS_PPS_B_LO, 0, 32⟩
def GNS_PPS_B_HI_V : Fld := ⟨Ra.GNS_PPS_B_HI, 0, 32⟩
def GNS_REFPT_X_V (i : Nat) : Fld := ⟨(Ra.GNS_REFPT_X i), 0, 32⟩
def GNS_REFPT_Y_V (i : Nat) : Fld := ⟨(Ra.GNS_REFPT_Y i), 0, 32⟩
def GNS_REFPT_Z_V (i : Nat) : Fld := ⟨(Ra.GNS_REFPT_Z i), 0, 32⟩
def GNS_ATT_CFG_DIST : Fld := ⟨Ra.GNS_ATT_CFG, 16, 16⟩
def GNS_ATT_CFG_AZ : Fld := ⟨Ra.GNS_ATT_CFG, 0, 16⟩
def SAF_STEER_REQ_KEY : Fld := ⟨Ra.SAF_STEER_REQ, 16, 16⟩
def SAF_STEER_REQ_CMD : Fld := ⟨Ra.SAF_STEER_REQ, 0, 2⟩
def SAF_STEER_STAT_RESULT : Fld := ⟨Ra.SAF_STEER_STAT, 16, 16⟩
def SAF_STEER_STAT_ENGAGED : Fld := ⟨Ra.SAF_STEER_STAT, 15, 1⟩
def SAF_STEER_STAT_READY : Fld := ⟨Ra.SAF_STEER_STAT, 14, 1⟩
def SAF_STEER_STAT_REASON : Fld := ⟨Ra.SAF_STEER_STAT, 8, 6⟩
def SAF_STEER_STAT_SEGS : Fld := ⟨Ra.SAF_STEER_STAT, 0, 8⟩
def CAM_LNK_RING_LO_V (n : Nat) : Fld := ⟨(Ra.CAM_LNK_RING_LO n), 0, 32⟩
def CAM_LNK_RING_HI_V (n : Nat) : Fld := ⟨(Ra.CAM_LNK_RING_HI n), 0, 32⟩
def CAM_LNK_RING_WR_V (n : Nat) : Fld := ⟨(Ra.CAM_LNK_RING_WR n), 0, 32⟩
def CAM_LNK_TSC_V (n : Nat) : Fld := ⟨(Ra.CAM_LNK_TSC n), 0, 32⟩
def CAM_EXP_W_ADDR (n k : Nat) : Fld := ⟨(Ra.CAM_EXP_W n k), 16, 16⟩
def CAM_EXP_W_VAL (n k : Nat) : Fld := ⟨(Ra.CAM_EXP_W n k), 0, 8⟩
def CAM_EXP_COMMIT_GO (n : Nat) : Fld := ⟨(Ra.CAM_EXP_COMMIT n), 0, 1⟩
def CAM_EXP_EPOCH_ACKED (n : Nat) : Fld := ⟨(Ra.CAM_EXP_EPOCH n), 16, 16⟩
def CAM_EXP_EPOCH_LAST (n : Nat) : Fld := ⟨(Ra.CAM_EXP_EPOCH n), 0, 16⟩
def CAM_EXP_ACK_DT_LO_V (n : Nat) : Fld := ⟨(Ra.CAM_EXP_ACK_DT_LO n), 0, 32⟩
def CAM_EXP_ACK_DT_HI_V (n : Nat) : Fld := ⟨(Ra.CAM_EXP_ACK_DT_HI n), 0, 32⟩
def CAM_PAIR_LAST_V (p : Nat) : Fld := ⟨(Ra.CAM_PAIR_LAST p), 0, 32⟩
def CAM_MP_OUT_LO_V (n : Nat) : Fld := ⟨(Ra.CAM_MP_OUT_LO n), 0, 32⟩
def CAM_MP_OUT_HI_V (n : Nat) : Fld := ⟨(Ra.CAM_MP_OUT_HI n), 0, 32⟩
def CAM_MP_STATS_LO_V (n : Nat) : Fld := ⟨(Ra.CAM_MP_STATS_LO n), 0, 32⟩
def CAM_MP_STATS_HI_V (n : Nat) : Fld := ⟨(Ra.CAM_MP_STATS_HI n), 0, 32⟩
def CAM_SET_BLK01_P0 (k : Nat) : Fld := ⟨(Ra.CAM_SET_BLK01 k), 16, 12⟩
def CAM_SET_BLK01_P1 (k : Nat) : Fld := ⟨(Ra.CAM_SET_BLK01 k), 0, 12⟩
def CAM_SET_BLK23_P2 (k : Nat) : Fld := ⟨(Ra.CAM_SET_BLK23 k), 16, 12⟩
def CAM_SET_BLK23_P3 (k : Nat) : Fld := ⟨(Ra.CAM_SET_BLK23 k), 0, 12⟩
def CAM_SET_WB01_P0 (k : Nat) : Fld := ⟨(Ra.CAM_SET_WB01 k), 16, 16⟩
def CAM_SET_WB01_P1 (k : Nat) : Fld := ⟨(Ra.CAM_SET_WB01 k), 0, 16⟩
def CAM_SET_WB23_P2 (k : Nat) : Fld := ⟨(Ra.CAM_SET_WB23 k), 16, 16⟩
def CAM_SET_WB23_P3 (k : Nat) : Fld := ⟨(Ra.CAM_SET_WB23 k), 0, 16⟩
def CAM_SET_M0_A (k : Nat) : Fld := ⟨(Ra.CAM_SET_M0 k), 16, 16⟩
def CAM_SET_M0_B (k : Nat) : Fld := ⟨(Ra.CAM_SET_M0 k), 0, 16⟩
def CAM_SET_M1_A (k : Nat) : Fld := ⟨(Ra.CAM_SET_M1 k), 16, 16⟩
def CAM_SET_M1_B (k : Nat) : Fld := ⟨(Ra.CAM_SET_M1 k), 0, 16⟩
def CAM_SET_M2_A (k : Nat) : Fld := ⟨(Ra.CAM_SET_M2 k), 16, 16⟩
def CAM_SET_M2_B (k : Nat) : Fld := ⟨(Ra.CAM_SET_M2 k), 0, 16⟩
def CAM_SET_M3_A (k : Nat) : Fld := ⟨(Ra.CAM_SET_M3 k), 16, 16⟩
def CAM_SET_M3_B (k : Nat) : Fld := ⟨(Ra.CAM_SET_M3 k), 0, 16⟩
def CAM_SET_M4_A (k : Nat) : Fld := ⟨(Ra.CAM_SET_M4 k), 16, 16⟩
def CAM_SET_M4_B (k : Nat) : Fld := ⟨(Ra.CAM_SET_M4 k), 0, 16⟩
def CAM_SET_OFS_R (k : Nat) : Fld := ⟨(Ra.CAM_SET_OFS k), 20, 10⟩
def CAM_SET_OFS_G (k : Nat) : Fld := ⟨(Ra.CAM_SET_OFS k), 10, 10⟩
def CAM_SET_OFS_B (k : Nat) : Fld := ⟨(Ra.CAM_SET_OFS k), 0, 10⟩
def CAM_SET_TONE_LO_V (k : Nat) : Fld := ⟨(Ra.CAM_SET_TONE_LO k), 0, 32⟩
def CAM_SET_TONE_HI_V (k : Nat) : Fld := ⟨(Ra.CAM_SET_TONE_HI k), 0, 32⟩
def CAM_SET_FMT_BAYER (k : Nat) : Fld := ⟨(Ra.CAM_SET_FMT k), 2, 2⟩
def CAM_SET_FMT_OUT (k : Nat) : Fld := ⟨(Ra.CAM_SET_FMT k), 0, 2⟩
def CAM_SET_AUX_V (k j : Nat) : Fld := ⟨(Ra.CAM_SET_AUX k j), 0, 32⟩
def FUS_STAT_CODE_CODE : Fld := ⟨Ra.FUS_STAT_CODE, 0, 16⟩
def FUS_EGO_OLD_V : Fld := ⟨Ra.FUS_EGO_OLD, 0, 32⟩
def FUS_TRK_RING_LO_V : Fld := ⟨Ra.FUS_TRK_RING_LO, 0, 32⟩
def FUS_TRK_RING_HI_V : Fld := ⟨Ra.FUS_TRK_RING_HI, 0, 32⟩
def FUS_TRK_WR_V : Fld := ⟨Ra.FUS_TRK_WR, 0, 32⟩
def FUS_TRK_DROP_V : Fld := ⟨Ra.FUS_TRK_DROP, 0, 32⟩
def FUS_CROP_CFG_DENS_GAP : Fld := ⟨Ra.FUS_CROP_CFG, 0, 8⟩
def FUS_PAR_CFG_PAR_LIM : Fld := ⟨Ra.FUS_PAR_CFG, 0, 8⟩
def FUS_PAR_CMD_KEY : Fld := ⟨Ra.FUS_PAR_CMD, 16, 16⟩
def FUS_PAR_CMD_COMMIT : Fld := ⟨Ra.FUS_PAR_CMD, 0, 1⟩
def FUS_PAR_STAT_CODE : Fld := ⟨Ra.FUS_PAR_STAT, 16, 16⟩
def FUS_PAR_STAT_LIMIT : Fld := ⟨Ra.FUS_PAR_STAT, 0, 12⟩
def FUS_INF_JOB_RING_LO_V (j : Nat) : Fld := ⟨(Ra.FUS_INF_JOB_RING_LO j), 0, 32⟩
def FUS_INF_JOB_RING_HI_V (j : Nat) : Fld := ⟨(Ra.FUS_INF_JOB_RING_HI j), 0, 32⟩
def FUS_INF_JOB_RING_CFG_SIZE (j : Nat) : Fld := ⟨(Ra.FUS_INF_JOB_RING_CFG j), 16, 16⟩
def FUS_INF_JOB_RING_CFG_SLOTS (j : Nat) : Fld := ⟨(Ra.FUS_INF_JOB_RING_CFG j), 0, 16⟩
def FUS_INF_JOB_STAT_RESULTS (j : Nat) : Fld := ⟨(Ra.FUS_INF_JOB_STAT j), 16, 16⟩
def FUS_INF_JOB_STAT_ABORTS (j : Nat) : Fld := ⟨(Ra.FUS_INF_JOB_STAT j), 0, 16⟩
def FUS_LAT_US (u : Nat) : Fld := ⟨(Ra.FUS_LAT u), 0, 16⟩
def FUS_SRC_CFG_EN (s : Nat) : Fld := ⟨(Ra.FUS_SRC_CFG s), 31, 1⟩
def FUS_SRC_CFG_FWD (s : Nat) : Fld := ⟨(Ra.FUS_SRC_CFG s), 30, 1⟩
def FUS_SRC_CFG_PORT (s : Nat) : Fld := ⟨(Ra.FUS_SRC_CFG s), 0, 16⟩
def FUS_SRC_STAT_DISCARDED (s : Nat) : Fld := ⟨(Ra.FUS_SRC_STAT s), 16, 16⟩
def FUS_SRC_STAT_OBJECTS (s : Nat) : Fld := ⟨(Ra.FUS_SRC_STAT s), 0, 8⟩
def FLR_SFN_V : Fld := ⟨Ra.FLR_SFN, 0, 32⟩
def FLR_ANT_CFG_FIX : Fld := ⟨Ra.FLR_ANT_CFG, 31, 1⟩
def FLR_ANT_CFG_PORT : Fld := ⟨Ra.FLR_ANT_CFG, 30, 1⟩
def FLR_ANT_CFG_GAIN : Fld := ⟨Ra.FLR_ANT_CFG, 8, 8⟩
def FLR_ANT_CFG_LOSS : Fld := ⟨Ra.FLR_ANT_CFG, 0, 8⟩
def FLR_REG_WIN_HI : Fld := ⟨Ra.FLR_REG_WIN, 18, 6⟩
def FLR_REG_WIN_MID : Fld := ⟨Ra.FLR_REG_WIN, 11, 6⟩
def FLR_REG_WIN_LO : Fld := ⟨Ra.FLR_REG_WIN, 0, 10⟩
def FLR_UNL_ID_V : Fld := ⟨Ra.FLR_UNL_ID, 0, 32⟩
def FLR_UNL_START_V : Fld := ⟨Ra.FLR_UNL_START, 0, 32⟩
def FLR_UNL_DATA_V (k : Nat) : Fld := ⟨(Ra.FLR_UNL_DATA k), 0, 32⟩
def CAN_ERR_TEC (c : Nat) : Fld := ⟨(Ra.CAN_ERR c), 24, 8⟩
def CAN_ERR_REC (c : Nat) : Fld := ⟨(Ra.CAN_ERR c), 16, 8⟩
def CAN_ERR_BUSOFF (c : Nat) : Fld := ⟨(Ra.CAN_ERR c), 0, 16⟩
def CAN_WUF_ID_V (c : Nat) : Fld := ⟨(Ra.CAN_WUF_ID c), 0, 32⟩
def CAN_WUF_MASK_V (c : Nat) : Fld := ⟨(Ra.CAN_WUF_MASK c), 0, 32⟩
def CAN_WUF_DATA_V (c k : Nat) : Fld := ⟨(Ra.CAN_WUF_DATA c k), 0, 32⟩
def CAN_WUF_DMASK_V (c k : Nat) : Fld := ⟨(Ra.CAN_WUF_DMASK c k), 0, 32⟩
def CAN_SIG_DATA_V (c k : Nat) : Fld := ⟨(Ra.CAN_SIG_DATA c k), 0, 32⟩
def CAN_STRM_TSC_V (c k : Nat) : Fld := ⟨(Ra.CAN_STRM_TSC c k), 0, 32⟩
def ETH_PORT_STAT_LINK (p : Nat) : Fld := ⟨(Ra.ETH_PORT_STAT p), 31, 1⟩
def ETH_PORT_STAT_SQI (p : Nat) : Fld := ⟨(Ra.ETH_PORT_STAT p), 28, 3⟩
def ETH_PORT_STAT_DROPS (p : Nat) : Fld := ⟨(Ra.ETH_PORT_STAT p), 0, 16⟩
def ETH_PTP_OFS_LO_V : Fld := ⟨Ra.ETH_PTP_OFS_LO, 0, 32⟩
def ETH_PTP_OFS_HI_V : Fld := ⟨Ra.ETH_PTP_OFS_HI, 0, 32⟩
def VHP_CFG_PORT : Fld := ⟨Ra.VHP_CFG, 0, 16⟩
def SAF_LOCK_MASK_V : Fld := ⟨Ra.SAF_LOCK_MASK, 0, 32⟩
def DSP_FB_A_LO_V : Fld := ⟨Ra.DSP_FB_A_LO, 0, 32⟩
def DSP_FB_A_HI_V : Fld := ⟨Ra.DSP_FB_A_HI, 0, 32⟩
def DSP_FB_B_LO_V : Fld := ⟨Ra.DSP_FB_B_LO, 0, 32⟩
def DSP_FB_B_HI_V : Fld := ⟨Ra.DSP_FB_B_HI, 0, 32⟩
def DSP_FB_FLIP_BUF : Fld := ⟨Ra.DSP_FB_FLIP, 0, 1⟩
def DSP_TIM_VTOTAL : Fld := ⟨Ra.DSP_TIM, 0, 11⟩
def DSP_PNL_BRT_LEVEL : Fld := ⟨Ra.DSP_PNL_BRT, 0, 10⟩
def DSP_AGE_LO_V : Fld := ⟨Ra.DSP_AGE_LO, 0, 32⟩
def DSP_AGE_HI_V : Fld := ⟨Ra.DSP_AGE_HI, 0, 32⟩
def DSP_BLINK_P0_X0 (k : Nat) : Fld := ⟨(Ra.DSP_BLINK_P0 k), 16, 11⟩
def DSP_BLINK_P0_Y0 (k : Nat) : Fld := ⟨(Ra.DSP_BLINK_P0 k), 0, 10⟩
def DSP_BLINK_P1_X1 (k : Nat) : Fld := ⟨(Ra.DSP_BLINK_P1 k), 16, 11⟩
def DSP_BLINK_P1_Y1 (k : Nat) : Fld := ⟨(Ra.DSP_BLINK_P1 k), 0, 10⟩
def DSP_BLINK_T_EN (k : Nat) : Fld := ⟨(Ra.DSP_BLINK_T k), 31, 1⟩
def DSP_BLINK_T_PER (k : Nat) : Fld := ⟨(Ra.DSP_BLINK_T k), 8, 8⟩
def DSP_BLINK_T_ON (k : Nat) : Fld := ⟨(Ra.DSP_BLINK_T k), 0, 8⟩
def DSP_BLINK_C_V (k : Nat) : Fld := ⟨(Ra.DSP_BLINK_C k), 0, 32⟩
def BST_IMG_LO_V (c : Nat) : Fld := ⟨(Ra.BST_IMG_LO c), 0, 32⟩
def BST_IMG_HI_V (c : Nat) : Fld := ⟨(Ra.BST_IMG_HI c), 0, 16⟩
def BST_UPD_GO : Fld := ⟨Ra.BST_UPD, 0, 1⟩
def BST_TEMP_V : Fld := ⟨Ra.BST_TEMP, 0, 32⟩
def BST_BAND_T (b : Nat) : Fld := ⟨(Ra.BST_BAND b), 0, 32⟩
def BST_CNT_V : Fld := ⟨Ra.BST_CNT, 0, 32⟩
def UPD_CODE_CODE : Fld := ⟨Ra.UPD_CODE, 16, 16⟩
def UPD_PKG_LO_V : Fld := ⟨Ra.UPD_PKG_LO, 0, 32⟩
def UPD_PKG_HI_V : Fld := ⟨Ra.UPD_PKG_HI, 0, 32⟩
def UPD_TOTAL_V : Fld := ⟨Ra.UPD_TOTAL, 0, 32⟩
def UPD_RX_V : Fld := ⟨Ra.UPD_RX, 0, 32⟩
def UPD_TRIAL_S_V : Fld := ⟨Ra.UPD_TRIAL_S, 0, 32⟩
def UPD_BLK_LO_V : Fld := ⟨Ra.UPD_BLK_LO, 0, 32⟩
def UPD_BLK_HI_V : Fld := ⟨Ra.UPD_BLK_HI, 0, 32⟩
def UPD_BLK_CMD_GO : Fld := ⟨Ra.UPD_BLK_CMD, 0, 1⟩
def UPD_BLK_BMP_V : Fld := ⟨Ra.UPD_BLK_BMP, 0, 32⟩
def UPD_CAL_LO_V : Fld := ⟨Ra.UPD_CAL_LO, 0, 32⟩
def UPD_CAL_HI_V : Fld := ⟨Ra.UPD_CAL_HI, 0, 32⟩
def UPD_CAL_CMD_KEY : Fld := ⟨Ra.UPD_CAL_CMD, 16, 16⟩
def UPD_CAL_CMD_GO : Fld := ⟨Ra.UPD_CAL_CMD, 0, 1⟩
def UPD_CAL_WCNT_V : Fld := ⟨Ra.UPD_CAL_WCNT, 0, 32⟩
def UPD_NONCE_LO_V : Fld := ⟨Ra.UPD_NONCE_LO, 0, 32⟩
def UPD_NONCE_HI_V : Fld := ⟨Ra.UPD_NONCE_HI, 0, 32⟩
def UPD_TOK_LO_V : Fld := ⟨Ra.UPD_TOK_LO, 0, 32⟩
def UPD_TOK_HI_V : Fld := ⟨Ra.UPD_TOK_HI, 0, 32⟩
def UPD_TOK_CMD_KEY : Fld := ⟨Ra.UPD_TOK_CMD, 16, 16⟩
def UPD_TOK_CMD_GO : Fld := ⟨Ra.UPD_TOK_CMD, 0, 1⟩
def UPD_TOK_STAT_CODE : Fld := ⟨Ra.UPD_TOK_STAT, 16, 16⟩
def UPD_DBG_CLOSE_KEY : Fld := ⟨Ra.UPD_DBG_CLOSE, 16, 16⟩
def UPD_DBG_CLOSE_GO : Fld := ⟨Ra.UPD_DBG_CLOSE, 0, 1⟩
def UPD_FENCE_V : Fld := ⟨Ra.UPD_FENCE, 0, 32⟩
def TAB_RING_WR_V : Fld := ⟨Ra.TAB_RING_WR, 0, 32⟩
def TAB_PEAK_RATE_V : Fld := ⟨Ra.TAB_PEAK_RATE, 0, 32⟩
def TAB_BLOCKS_V : Fld := ⟨Ra.TAB_BLOCKS, 0, 32⟩
def TAB_UFS_ERR_V : Fld := ⟨Ra.TAB_UFS_ERR, 0, 32⟩
def TAB_WIN_STAT_V : Fld := ⟨Ra.TAB_WIN_STAT, 0, 32⟩
def TAB_WIN_MISSING_V : Fld := ⟨Ra.TAB_WIN_MISSING, 0, 32⟩
def TAB_TRIG_IGNORED_V : Fld := ⟨Ra.TAB_TRIG_IGNORED, 0, 32⟩
def TAB_REL_LO_V : Fld := ⟨Ra.TAB_REL_LO, 0, 32⟩
def TAB_REL_HI_V : Fld := ⟨Ra.TAB_REL_HI, 0, 32⟩
def TAB_REL_CNT_V : Fld := ⟨Ra.TAB_REL_CNT, 0, 32⟩
def TAB_READ_AHEAD_V : Fld := ⟨Ra.TAB_READ_AHEAD, 0, 32⟩
def TAB_LOAD_TIME_V : Fld := ⟨Ra.TAB_LOAD_TIME, 0, 32⟩
def TAB_REC_TYPE_V (k : Nat) : Fld := ⟨(Ra.TAB_REC_TYPE k), 0, 32⟩
def TAB_DIG_SWITCH_V : Fld := ⟨Ra.TAB_DIG_SWITCH, 0, 32⟩
def TAB_INT_PEND_V (k : Nat) : Fld := ⟨(Ra.TAB_INT_PEND k), 0, 32⟩
def TAB_INT_EN_V (k : Nat) : Fld := ⟨(Ra.TAB_INT_EN k), 0, 32⟩
def TAB_INT_RT_V (k : Nat) : Fld := ⟨(Ra.TAB_INT_RT k), 0, 2⟩
def SYS_ID_OPT_V (k : Nat) : Fld := ⟨(Ra.SYS_ID_OPT k), 0, 32⟩
def SYS_FAB_AUX_V (k : Nat) : Fld := ⟨(Ra.SYS_FAB_AUX k), 0, 32⟩
def SYS_APP_CTL_V (k : Nat) : Fld := ⟨(Ra.SYS_APP_CTL k), 0, 32⟩
def SYS_INT_PEND_V (k : Nat) : Fld := ⟨(Ra.SYS_INT_PEND k), 0, 32⟩
def SYS_INT_EN_V (k : Nat) : Fld := ⟨(Ra.SYS_INT_EN k), 0, 32⟩
def SYS_INT_RT_V (k : Nat) : Fld := ⟨(Ra.SYS_INT_RT k), 0, 2⟩
def SYS_SCRATCH_V (k : Nat) : Fld := ⟨(Ra.SYS_SCRATCH k), 0, 32⟩
def DMA_IOFAULT_LO_V : Fld := ⟨Ra.DMA_IOFAULT_LO, 0, 32⟩
def DMA_IOFAULT_HI_V : Fld := ⟨Ra.DMA_IOFAULT_HI, 0, 32⟩
def DMA_IOFAULT_INFO_V : Fld := ⟨Ra.DMA_IOFAULT_INFO, 0, 32⟩
def DMA_IOFAULT_OVR_V : Fld := ⟨Ra.DMA_IOFAULT_OVR, 0, 32⟩
def DMA_WALK_CNT_V (k : Nat) : Fld := ⟨(Ra.DMA_WALK_CNT k), 0, 32⟩
def DMA_WALKFLT_CNT_V (k : Nat) : Fld := ⟨(Ra.DMA_WALKFLT_CNT k), 0, 32⟩
def DMA_CACHE_HITS_V : Fld := ⟨Ra.DMA_CACHE_HITS, 0, 32⟩
def DMA_MEM_CE_CNT_V : Fld := ⟨Ra.DMA_MEM_CE_CNT, 0, 32⟩
def DMA_MEM_UE_CNT_V : Fld := ⟨Ra.DMA_MEM_UE_CNT, 0, 32⟩
def MBX_FULL_MAP_V (k : Nat) : Fld := ⟨(Ra.MBX_FULL_MAP k), 0, 32⟩
def MBX_XING_MAP_V (k : Nat) : Fld := ⟨(Ra.MBX_XING_MAP k), 0, 32⟩
def MBX_CODE_CNT_V (k : Nat) : Fld := ⟨(Ra.MBX_CODE_CNT k), 0, 32⟩
def MBX_INT_PEND_V (k : Nat) : Fld := ⟨(Ra.MBX_INT_PEND k), 0, 32⟩
def MBX_INT_EN_V (k : Nat) : Fld := ⟨(Ra.MBX_INT_EN k), 0, 32⟩
def MBX_INT_RT_V (k : Nat) : Fld := ⟨(Ra.MBX_INT_RT k), 0, 2⟩
def CE_ENG_AUX_V (e k : Nat) : Fld := ⟨(Ra.CE_ENG_AUX e k), 0, 32⟩
def CE_INT_PEND_V (e k : Nat) : Fld := ⟨(Ra.CE_INT_PEND e k), 0, 32⟩
def CE_INT_EN_V (e k : Nat) : Fld := ⟨(Ra.CE_INT_EN e k), 0, 32⟩
def CE_INT_RT_V (e k : Nat) : Fld := ⟨(Ra.CE_INT_RT e k), 0, 2⟩
def CE_INT_AUX_V (e k : Nat) : Fld := ⟨(Ra.CE_INT_AUX e k), 0, 32⟩
def CE_PERF_V (e k : Nat) : Fld := ⟨(Ra.CE_PERF e k), 0, 32⟩
def VLV_BANK_GRANTS_V (k : Nat) : Fld := ⟨(Ra.VLV_BANK_GRANTS k), 0, 32⟩
def VLV_BANK_REJS_V (k : Nat) : Fld := ⟨(Ra.VLV_BANK_REJS k), 0, 32⟩
def VLV_BANK_FAULTS_V (k : Nat) : Fld := ⟨(Ra.VLV_BANK_FAULTS k), 0, 32⟩
def VLV_TEST_R_V : Fld := ⟨Ra.VLV_TEST_R, 0, 32⟩
def VLV_TEST_L_V : Fld := ⟨Ra.VLV_TEST_L, 0, 32⟩
def VLV_FAULT_MAP_V (k : Nat) : Fld := ⟨(Ra.VLV_FAULT_MAP k), 0, 32⟩
def VLV_BATB_MON_V : Fld := ⟨Ra.VLV_BATB_MON, 0, 32⟩
def VLV_GND_MON_V : Fld := ⟨Ra.VLV_GND_MON, 0, 32⟩
def VLV_MON_AUX_V (k : Nat) : Fld := ⟨(Ra.VLV_MON_AUX k), 0, 32⟩
def VLV_INT_PEND_V (k : Nat) : Fld := ⟨(Ra.VLV_INT_PEND k), 0, 32⟩
def VLV_INT_EN_V (k : Nat) : Fld := ⟨(Ra.VLV_INT_EN k), 0, 32⟩
def VLV_INT_RT_V (k : Nat) : Fld := ⟨(Ra.VLV_INT_RT k), 0, 2⟩
def LSW_FAULT_MAP_V : Fld := ⟨Ra.LSW_FAULT_MAP, 0, 32⟩
def LSW_LATCH_MAP_V : Fld := ⟨Ra.LSW_LATCH_MAP, 0, 32⟩
def LSW_OWN_MAP_V : Fld := ⟨Ra.LSW_OWN_MAP, 0, 32⟩
def LSW_AUX_V : Fld := ⟨Ra.LSW_AUX, 0, 32⟩
def LSW_INT_PEND_V (k : Nat) : Fld := ⟨(Ra.LSW_INT_PEND k), 0, 32⟩
def LSW_INT_EN_V (k : Nat) : Fld := ⟨(Ra.LSW_INT_EN k), 0, 32⟩
def LSW_INT_RT_V (k : Nat) : Fld := ⟨(Ra.LSW_INT_RT k), 0, 2⟩
def UIN_IMU_CFG_V : Fld := ⟨Ra.UIN_IMU_CFG, 0, 32⟩
def UIN_IMU_STAT_V : Fld := ⟨Ra.UIN_IMU_STAT, 0, 32⟩
def UIN_IMU_TEMP_V : Fld := ⟨Ra.UIN_IMU_TEMP, 0, 32⟩
def UIN_IMU_TEST_RES_V : Fld := ⟨Ra.UIN_IMU_TEST_RES, 0, 32⟩
def UIN_FAULT_MAP_V : Fld := ⟨Ra.UIN_FAULT_MAP, 0, 32⟩
def UIN_BUSY_MAP_V : Fld := ⟨Ra.UIN_BUSY_MAP, 0, 32⟩
def LOS_COUNT_V (k : Nat) : Fld := ⟨(Ra.LOS_COUNT k), 0, 32⟩
def LOS_SUPPR_V (k : Nat) : Fld := ⟨(Ra.LOS_SUPPR k), 0, 32⟩
def LOS_ENERGY_V (k : Nat) : Fld := ⟨(Ra.LOS_ENERGY k), 0, 32⟩
def LOS_PEAK_V (k : Nat) : Fld := ⟨(Ra.LOS_PEAK k), 0, 32⟩
def LOS_CONF_V (k : Nat) : Fld := ⟨(Ra.LOS_CONF k), 0, 32⟩
def LOS_BIN0_V (k : Nat) : Fld := ⟨(Ra.LOS_BIN0 k), 0, 32⟩
def LOS_BIN1_V (k : Nat) : Fld := ⟨(Ra.LOS_BIN1 k), 0, 32⟩
def LOS_BIN2_V (k : Nat) : Fld := ⟨(Ra.LOS_BIN2 k), 0, 32⟩
def LOS_BIN3_V (k : Nat) : Fld := ⟨(Ra.LOS_BIN3 k), 0, 32⟩
def LOS_CAPTURE_V (k : Nat) : Fld := ⟨(Ra.LOS_CAPTURE k), 0, 32⟩
def LOS_COMMON_V (k : Nat) : Fld := ⟨(Ra.LOS_COMMON k), 0, 32⟩
def GNS_CTL_AUX_V (k : Nat) : Fld := ⟨(Ra.GNS_CTL_AUX k), 0, 32⟩
def GNS_ANT_QUIET_V (k : Nat) : Fld := ⟨(Ra.GNS_ANT_QUIET k), 0, 32⟩
def GNS_SIG_CNT_V (k : Nat) : Fld := ⟨(Ra.GNS_SIG_CNT k), 0, 32⟩
def GNS_CHAN_V (k : Nat) : Fld := ⟨(Ra.GNS_CHAN k), 0, 32⟩
def GNS_AID_V (k : Nat) : Fld := ⟨(Ra.GNS_AID k), 0, 32⟩
def GNS_SOL_V (k : Nat) : Fld := ⟨(Ra.GNS_SOL k), 0, 32⟩
def GNS_BASE_V (k : Nat) : Fld := ⟨(Ra.GNS_BASE k), 0, 32⟩
def GNS_RTK_AMB_V (k : Nat) : Fld := ⟨(Ra.GNS_RTK_AMB k), 0, 32⟩
def GNS_ATT_STAT_V (k : Nat) : Fld := ⟨(Ra.GNS_ATT_STAT k), 0, 32⟩
def GNS_OWN_SLOT_V : Fld := ⟨Ra.GNS_OWN_SLOT, 0, 32⟩
def GNS_PPS_EDGES_V (k : Nat) : Fld := ⟨(Ra.GNS_PPS_EDGES k), 0, 32⟩
def GNS_RTCM_V (k : Nat) : Fld := ⟨(Ra.GNS_RTCM k), 0, 32⟩
def GNS_IMON_V (k : Nat) : Fld := ⟨(Ra.GNS_IMON k), 0, 32⟩
def GNS_STATS_V (k : Nat) : Fld := ⟨(Ra.GNS_STATS k), 0, 32⟩
def CAM_LNK_ERR0_V (k : Nat) : Fld := ⟨(Ra.CAM_LNK_ERR0 k), 0, 32⟩
def CAM_LNK_ERR1_V (k : Nat) : Fld := ⟨(Ra.CAM_LNK_ERR1 k), 0, 32⟩
def CAM_DIAG_V (k : Nat) : Fld := ⟨(Ra.CAM_DIAG k), 0, 32⟩
def CAM_PAIR_UNM_V (k : Nat) : Fld := ⟨(Ra.CAM_PAIR_UNM k), 0, 32⟩
def CAM_MP_AUX_V (k : Nat) : Fld := ⟨(Ra.CAM_MP_AUX k), 0, 32⟩
def CAM_MP_COMMON_V (k : Nat) : Fld := ⟨(Ra.CAM_MP_COMMON k), 0, 32⟩
def CAM_INLINE_AUX_V (k : Nat) : Fld := ⟨(Ra.CAM_INLINE_AUX k), 0, 32⟩
def CAM_INT_PEND_V (k : Nat) : Fld := ⟨(Ra.CAM_INT_PEND k), 0, 32⟩
def CAM_INT_EN_V (k : Nat) : Fld := ⟨(Ra.CAM_INT_EN k), 0, 32⟩
def CAM_INT_RT_V (k : Nat) : Fld := ⟨(Ra.CAM_INT_RT k), 0, 2⟩
def CAM_INT_AUX_V (k : Nat) : Fld := ⟨(Ra.CAM_INT_AUX k), 0, 32⟩
def CAM_SUPPLY_V (k : Nat) : Fld := ⟨(Ra.CAM_SUPPLY k), 0, 32⟩
def FUS_TASK_CYC_V (k : Nat) : Fld := ⟨(Ra.FUS_TASK_CYC k), 0, 32⟩
def FUS_TASK_TRAPS_V (k : Nat) : Fld := ⟨(Ra.FUS_TASK_TRAPS k), 0, 32⟩
def FUS_TASK_STOP_V (k : Nat) : Fld := ⟨(Ra.FUS_TASK_STOP k), 0, 32⟩
def FUS_TASK_AUX_V (k : Nat) : Fld := ⟨(Ra.FUS_TASK_AUX k), 0, 32⟩
def FUS_IMU_ROT_V (k : Nat) : Fld := ⟨(Ra.FUS_IMU_ROT k), 0, 32⟩
def FUS_PT_V (k : Nat) : Fld := ⟨(Ra.FUS_PT k), 0, 32⟩
def FUS_PT_AUX_V (k : Nat) : Fld := ⟨(Ra.FUS_PT_AUX k), 0, 32⟩
def FUS_EGO_AUX_V (k : Nat) : Fld := ⟨(Ra.FUS_EGO_AUX k), 0, 32⟩
def FUS_WHL_EXCL_V (k : Nat) : Fld := ⟨(Ra.FUS_WHL_EXCL k), 0, 32⟩
def FUS_WHL_PULSES_V (k : Nat) : Fld := ⟨(Ra.FUS_WHL_PULSES k), 0, 32⟩
def FUS_WHL_SLIPS_V (k : Nat) : Fld := ⟨(Ra.FUS_WHL_SLIPS k), 0, 32⟩
def FUS_EXTR_V (k : Nat) : Fld := ⟨(Ra.FUS_EXTR k), 0, 32⟩
def FUS_TRK_AUX_V (k : Nat) : Fld := ⟨(Ra.FUS_TRK_AUX k), 0, 32⟩
def FUS_PAR_OFFS_V (k : Nat) : Fld := ⟨(Ra.FUS_PAR_OFFS k), 0, 32⟩
def FUS_PAR_COND_V (k : Nat) : Fld := ⟨(Ra.FUS_PAR_COND k), 0, 32⟩
def FLR_KEY_STATE_V : Fld := ⟨Ra.FLR_KEY_STATE, 0, 32⟩
def FLR_SUCC_V : Fld := ⟨Ra.FLR_SUCC, 0, 32⟩
def FLR_TXN_CNT_V (k : Nat) : Fld := ⟨(Ra.FLR_TXN_CNT k), 0, 32⟩
def FLR_QUALITY_V (k : Nat) : Fld := ⟨(Ra.FLR_QUALITY k), 0, 32⟩
def FLR_DIR_V (k : Nat) : Fld := ⟨(Ra.FLR_DIR k), 0, 32⟩
def FLR_CNT_V (k : Nat) : Fld := ⟨(Ra.FLR_CNT k), 0, 32⟩
def FLR_RADIO_V (k : Nat) : Fld := ⟨(Ra.FLR_RADIO k), 0, 32⟩
def FLR_INT_PEND_V (k : Nat) : Fld := ⟨(Ra.FLR_INT_PEND k), 0, 32⟩
def FLR_INT_EN_V (k : Nat) : Fld := ⟨(Ra.FLR_INT_EN k), 0, 32⟩
def FLR_INT_RT_V (k : Nat) : Fld := ⟨(Ra.FLR_INT_RT k), 0, 2⟩
def FLR_INT_AUX_V (k : Nat) : Fld := ⟨(Ra.FLR_INT_AUX k), 0, 32⟩
def CAN_CTL_AUX_V (c k : Nat) : Fld := ⟨(Ra.CAN_CTL_AUX c k), 0, 32⟩
def CAN_CNT_V (c k : Nat) : Fld := ⟨(Ra.CAN_CNT c k), 0, 32⟩
def CAN_WAKE_AUX_V (c : Nat) : Fld := ⟨(Ra.CAN_WAKE_AUX c), 0, 32⟩
def CAN_TXQ_LO_V (c : Nat) : Fld := ⟨(Ra.CAN_TXQ_LO c), 0, 32⟩
def CAN_TXQ_HI_V (c : Nat) : Fld := ⟨(Ra.CAN_TXQ_HI c), 0, 32⟩
def CAN_TXQ_CFG_V (c : Nat) : Fld := ⟨(Ra.CAN_TXQ_CFG c), 0, 32⟩
def CAN_TXQ_TAIL_V (c : Nat) : Fld := ⟨(Ra.CAN_TXQ_TAIL c), 0, 32⟩
def CAN_TXQ_HEAD_V (c : Nat) : Fld := ⟨(Ra.CAN_TXQ_HEAD c), 0, 32⟩
def CAN_RXQ_LO_V (c : Nat) : Fld := ⟨(Ra.CAN_RXQ_LO c), 0, 32⟩
def CAN_RXQ_HI_V (c : Nat) : Fld := ⟨(Ra.CAN_RXQ_HI c), 0, 32⟩
def CAN_RXQ_CFG_V (c : Nat) : Fld := ⟨(Ra.CAN_RXQ_CFG c), 0, 32⟩
def CAN_RXQ_WR_V (c : Nat) : Fld := ⟨(Ra.CAN_RXQ_WR c), 0, 32⟩
def CAN_RXQ_FILT_V (c : Nat) : Fld := ⟨(Ra.CAN_RXQ_FILT c), 0, 32⟩
def ETH_PORT_AUX_V (k : Nat) : Fld := ⟨(Ra.ETH_PORT_AUX k), 0, 32⟩
def ETH_PTP_AUX_V (k : Nat) : Fld := ⟨(Ra.ETH_PTP_AUX k), 0, 32⟩
def ETH_GCL_CYCLE_V (k : Nat) : Fld := ⟨(Ra.ETH_GCL_CYCLE k), 0, 32⟩
def ETH_GCL_COMMIT_V (k : Nat) : Fld := ⟨(Ra.ETH_GCL_COMMIT k), 0, 32⟩
def ETH_GCL_STAT_V (k : Nat) : Fld := ⟨(Ra.ETH_GCL_STAT k), 0, 32⟩
def ETH_GCL_IDX_V : Fld := ⟨Ra.ETH_GCL_IDX, 0, 32⟩
def ETH_GCL_DATA_V (k : Nat) : Fld := ⟨(Ra.ETH_GCL_DATA k), 0, 32⟩
def ETH_GCL_AUX_V (k : Nat) : Fld := ⟨(Ra.ETH_GCL_AUX k), 0, 32⟩
def ETH_SWITCH_V (k : Nat) : Fld := ⟨(Ra.ETH_SWITCH k), 0, 32⟩
def ETH_IP_V (k : Nat) : Fld := ⟨(Ra.ETH_IP k), 0, 32⟩
def ETH_MCAST_V (k : Nat) : Fld := ⟨(Ra.ETH_MCAST k), 0, 32⟩
def ETH_SCAN_AUX_V (k : Nat) : Fld := ⟨(Ra.ETH_SCAN_AUX k), 0, 32⟩
def ETH_VHP_AUX_V (k : Nat) : Fld := ⟨(Ra.ETH_VHP_AUX k), 0, 32⟩
def ETH_CNT_V (k : Nat) : Fld := ⟨(Ra.ETH_CNT k), 0, 32⟩
def SAF_STATUS_AUX_V (k : Nat) : Fld := ⟨(Ra.SAF_STATUS_AUX k), 0, 32⟩
def SAF_IN_AUX_V (k : Nat) : Fld := ⟨(Ra.SAF_IN_AUX k), 0, 32⟩
def SAF_SI_V (k : Nat) : Fld := ⟨(Ra.SAF_SI k), 0, 32⟩
def SAF_SO_V (k : Nat) : Fld := ⟨(Ra.SAF_SO k), 0, 32⟩
def SAF_PAIR_V (k : Nat) : Fld := ⟨(Ra.SAF_PAIR k), 0, 32⟩
def SAF_SPD_CFG_V : Fld := ⟨Ra.SAF_SPD_CFG, 0, 32⟩
def SAF_A_STOP_V : Fld := ⟨Ra.SAF_A_STOP, 0, 32⟩
def SAF_D_STOP_V : Fld := ⟨Ra.SAF_D_STOP, 0, 32⟩
def SAF_D_PERSON_V : Fld := ⟨Ra.SAF_D_PERSON, 0, 32⟩
def SAF_SPD_LIM_V : Fld := ⟨Ra.SAF_SPD_LIM, 0, 32⟩
def SAF_SPD_SRC_V : Fld := ⟨Ra.SAF_SPD_SRC, 0, 32⟩
def SAF_SPD_AUX_V (k : Nat) : Fld := ⟨(Ra.SAF_SPD_AUX k), 0, 32⟩
def SAF_HIST_V (k : Nat) : Fld := ⟨(Ra.SAF_HIST k), 0, 32⟩
def SAF_STEER_AUX_V (k : Nat) : Fld := ⟨(Ra.SAF_STEER_AUX k), 0, 32⟩
def SAF_CFG_ID_V : Fld := ⟨Ra.SAF_CFG_ID, 0, 32⟩
def SAF_CFG_AUX_V (k : Nat) : Fld := ⟨(Ra.SAF_CFG_AUX k), 0, 32⟩
def SAF_REQ_AUX_V (k : Nat) : Fld := ⟨(Ra.SAF_REQ_AUX k), 0, 32⟩
def SAF_DIAG_V (k : Nat) : Fld := ⟨(Ra.SAF_DIAG k), 0, 32⟩
def DSP_RAIL_V (k : Nat) : Fld := ⟨(Ra.DSP_RAIL k), 0, 32⟩
def DSP_FETCH_V (k : Nat) : Fld := ⟨(Ra.DSP_FETCH k), 0, 32⟩
def DSP_AGE_AUX_V (k : Nat) : Fld := ⟨(Ra.DSP_AGE_AUX k), 0, 32⟩
def DSP_INIT_V (k : Nat) : Fld := ⟨(Ra.DSP_INIT k), 0, 32⟩
def DSP_DIAG_V (k : Nat) : Fld := ⟨(Ra.DSP_DIAG k), 0, 32⟩
def BST_LEDGER_V (k : Nat) : Fld := ⟨(Ra.BST_LEDGER k), 0, 32⟩
def BST_INT_AUX_V (k : Nat) : Fld := ⟨(Ra.BST_INT_AUX k), 0, 32⟩
def UPD_PART_AUX_V (k : Nat) : Fld := ⟨(Ra.UPD_PART_AUX k), 0, 32⟩
def UPD_ACT_AUX_V (k : Nat) : Fld := ⟨(Ra.UPD_ACT_AUX k), 0, 32⟩
def UPD_SETS_V (k : Nat) : Fld := ⟨(Ra.UPD_SETS k), 0, 32⟩
def UPD_CAL_AUX_V (k : Nat) : Fld := ⟨(Ra.UPD_CAL_AUX k), 0, 32⟩
def UPD_KEY_AUX_V (k : Nat) : Fld := ⟨(Ra.UPD_KEY_AUX k), 0, 32⟩
def UPD_DBG_AUX_V (k : Nat) : Fld := ⟨(Ra.UPD_DBG_AUX k), 0, 32⟩
def UPD_CNT_V (k : Nat) : Fld := ⟨(Ra.UPD_CNT k), 0, 32⟩
def PWR_RST_CNT_V (k : Nat) : Fld := ⟨(Ra.PWR_RST_CNT k), 0, 32⟩
def PWR_WAKE_HIST_V (k : Nat) : Fld := ⟨(Ra.PWR_WAKE_HIST k), 0, 32⟩
def PWR_SUP_MON_V (k : Nat) : Fld := ⟨(Ra.PWR_SUP_MON k), 0, 32⟩
def PWR_RSV_AUX_V (k : Nat) : Fld := ⟨(Ra.PWR_RSV_AUX k), 0, 32⟩
def PWR_PF_TIME_V (k : Nat) : Fld := ⟨(Ra.PWR_PF_TIME k), 0, 32⟩
def PWR_GATE_V (k : Nat) : Fld := ⟨(Ra.PWR_GATE k), 0, 32⟩
def THM_PEAK_V (k : Nat) : Fld := ⟨(Ra.THM_PEAK k), 0, 32⟩
def THM_LVL_V : Fld := ⟨Ra.THM_LVL, 0, 32⟩
def THM_INVALID_V : Fld := ⟨Ra.THM_INVALID, 0, 32⟩
def THM_HIST_V (k : Nat) : Fld := ⟨(Ra.THM_HIST k), 0, 32⟩
def THM_CAL_V (k : Nat) : Fld := ⟨(Ra.THM_CAL k), 0, 32⟩
def THM_INT_V (k : Nat) : Fld := ⟨(Ra.THM_INT k), 0, 32⟩

end Fd

end Sys2Proof.Machine
end

