-- ==== Sys2Proof/Machine/State.lean ====
section
/-! DEFINITION. The state of the module as plain data: every register, buffer, queue, timer, sequence and mode the spec
gives it, the queue of waiting commands, the closed lists of fault and refusal reasons, and the state after reset.
Registers live in ONE sparse map keyed by their 32-bit address (R14, R16); what the registers do not show is held in
one structure per chapter of the spec. -/

namespace Sys2Proof.Machine

/-- Registers by address; an unlisted register reads as its reset value (`resetVal`). -/
abbrev RegFile := SMap Word


/-- An intrusive test pending or running (R175, R424, R445): test number, unit, whether it has started and when (the DTB
cycle, for a test of R175 the tick), and whether a test of R175 has been accepted as DEFERRED. -/
structure TestRun where
  test     : Nat
  unit     : Nat
  running  : Bool := false
  at_      : Nat := 0
  deferred : Bool := false
  deriving DecidableEq, Repr

/-- A fabric transaction outstanding or stalled (R20–R24): its initiator (R26), class (0 SAFETY … 3 BULK), address,
direction and the DTB cycle at which it was issued. `promoted` is set by R24; `wr` is the size and the value of a write that
stalls at its initiator's port. -/
structure FabTxn where
  init     : Nat
  cls      : Nat
  addr     : Nat := 0
  write    : Bool := false
  at_      : Nat := 0
  promoted : Bool := false
  wr       : Option (Nat × Word) := none
  deriving DecidableEq, Repr

/-- The fabric beyond its registers: outstanding transactions in issue order, stalled requests in arrival order, stalled writes
that have been granted and are to be performed, the
last initiator served per class (round robin, R23), the latched high words of 64-bit pairs (R16) keyed by
initiator × 2^32 + address, the synchronous aborts taken by each application core (R28), and the
model's record of the word each initiator read last. -/
structure FabState where
  outst   : List FabTxn := []
  stalled : List FabTxn := []
  ready   : List FabTxn := []
  lastRR  : SMap Nat := []
  hiLatch : SMap (Option Word) := []
  aborts  : SMap Nat := []
  rdata   : SMap Word := []
  deriving DecidableEq, Repr

/-- One stream unit's anchoring (R50): samples counted, smallest D so far, anchor A, consecutive samples inside half a
period. Its flags are in CLK_STRM[n]_STAT. -/
structure Strm where
  cnt  : Nat := 0
  minD : Int := 0
  a    : Int := 0
  okRun : Nat := 0
  deriving DecidableEq, Repr

/-- Device time and its steering (R36–R51). `dtFp` is DT in units of 2^-32 ns; `cyc` counts DTB cycles since power was
applied and never steps; `k` and `f` are in units of 2^-40; `stepSeq` counts steps, so that each source can tell its
first publication after one (R43); `seek`: between leaving FREE or HOLDOVER and reaching LOCKED, where one step may be made (R41);
`frameAt` is the tick whose frame boundary is still to be run. -/
structure ClkState where
  dtFp     : Nat := 0
  cyc      : Nat := 0
  k        : Int := 0
  f        : Int := 0
  fHist    : List Int := []
  fSaved   : Option Int := none
  solCyc   : Nat := 0
  sigma    : Nat := 0
  stepPend : Option Int := none
  stepAt   : Nat := 0
  stepUsed : Bool := false
  seek     : Bool := false
  slewDir  : Int := 0
  holdCyc  : Nat := 0
  u0       : Nat := 0
  rsig     : Nat := 0
  tick     : Nat := 0
  phase    : Int := 0
  stepSeq  : Nat := 0
  steerRun : Option Word := none
  steerAt  : Option Nat := none
  runCfg   : SMap (Option Word) := []
  strm     : SMap Strm := []
  frameAt  : Option Nat := none
  sfc      : Nat := 0
  deriving DecidableEq, Repr

/-- A published value as a port shows it (R93, R94): the word, VALID, the code, the tick of its latch or
publication (`none`: never since the last full module reset) and the DT of that boundary in ns (R9). -/
structure PubV where
  val   : Word := 0
  valid : Bool := false
  code  : Nat := 0
  tick  : Option Nat := none
  dt    : Nat := 0
  deriving DecidableEq, Repr

/-- A running Prism operation (R104–R107): the cycle (of the sample's cyc) at which it completes, the local byte ranges
it uses, the v registers it uses, where y goes (`none`: v register `yv`), A with its row pitch and size, x and b as read during the setup
cycles, the sign of the b term (`none`: there is none), the elements formed so far and their flags. -/
structure Prism where
  doneAt : Nat
  ranges : List (Nat × Nat)
  vregs  : List Nat
  yAddr  : Option Nat
  yv     : Nat
  a      : Nat
  stride : Nat
  cols   : Nat
  rows   : Nat
  x      : List Word
  b      : Option (Bool × List Word)
  y      : List Word := []
  flags  : Word := 0
  deriving DecidableEq, Repr

/-- A running Gweny sample (R78–R82): the loop (128 + n for fusion task n, 192 for the Mirror pair), its engine slot,
privilege, window (byte address of its first byte in `State.mem`, size in bytes), schedule and the CSRs, the registers
(g by number, v by 64 × register + lane), the pending outputs (R95) and delivered writes in program order (R91), and
the mailbox window and the input ports as they stood at the boundary (R91, R93; a port that is not routed holds none). -/
structure GwCtx where
  loop    : Nat
  slot    : Nat := 0
  priv    : Bool := false
  base    : Nat := 0
  size    : Nat := 0
  period  : Nat := 20
  tick    : Nat := 0
  mode    : Nat := 0
  pc      : Nat := 0
  g       : SMap Word := []
  v       : SMap Word := []
  flags   : Word := 0
  budget  : Nat := 0
  cyc     : Nat := 0
  epc     : Word := 0
  cause   : Word := 0
  faddr   : Word := 0
  handler : Bool := false
  outs    : SMap (Option Word) := []
  writes  : List (Nat × Word) := []
  mbx     : RegFile := []
  ports   : SMap (Option PubV) := []
  prism   : Option Prism := none
  deriving DecidableEq, Repr

/-- The Gweny units CE0–CE7 (0–7), fusion sequencer (8) and Mirror pair (9): the sample each runs, the samples still due
on this tick in dispatch order with their boundary values (R127), and the delivered-write faults waiting per loop (R92). -/
structure GwState where
  ctx : SMap (Option GwCtx) := []
  due : SMap (List GwCtx) := []
  dwf : SMap (Option Nat) := []
  deriving DecidableEq, Repr

/-- A sample's outputs held until their publishing tick (R10, R91): the loop, the tick, the values, whether they carry
VALID (R134), and the mailbox-window and DMA-window writes in program order. -/
structure Held where
  loop   : Nat
  pub    : Nat
  outs   : List (Nat × Word)
  valid  : Bool
  writes : List (Nat × Word)
  deriving DecidableEq, Repr

/-- A pending loop command (R130): its code, window size and the CE window it was written through. -/
structure LoopCmd where
  cmd : Nat
  win : Nat
  via : Nat
  deriving DecidableEq, Repr

/-- A LOAD copy in progress (R131): where it goes, the tick of its acceptance, and whether its translation faulted. -/
structure LoadCopy where
  loop  : Nat
  eng   : Nat
  slot  : Nat
  via   : Nat
  win   : Nat
  base  : Nat
  at_   : Nat := 0
  fault : Bool := false
  deriving DecidableEq, Repr

/-- A migration pending or running (R146–R150). `phase` is that of CE_MIG_STAT; phase 0 waits for its frame boundary.
`via` is the CE window it was requested through (for a REMOVE or an evacuation: the removed engine, with `remove`); `from_` the
first tick its last source sample may start on, `tc` that sample's tick, `bad` a fault of the image fetch, `cut` the cut made. -/
structure Mig where
  loop    : Nat
  dest    : Nat
  replace : Bool
  budget  : Nat
  via     : Nat
  phase   : Nat := 0
  src     : Nat := 0
  srcSlot : Nat := 0
  dstSlot : Nat := 0
  dstBase : Nat := 0
  fetched : Bool := true
  from_   : Nat := 0
  bad     : Bool := false
  tc      : Option Nat := none
  cut     : Bool := false
  remove  : Bool := false
  deriving DecidableEq, Repr

/-- How an output port moves on its own (R140–R142): held, moving to SAFE at once, or ramping. -/
inductive PortAct where
  | none
  | safe
  | ramp
  deriving DecidableEq, Repr

/-- A loop image of the stored loop configuration and its placement (R157, R522): number, engine, slot, window base and
size in 4 KiB units, the image words, the slot registers and the routes. -/
structure StoredLoop where
  loop : Nat
  eng  : Nat
  slot : Nat
  base : Nat
  size : Nat
  img  : List Word
  regs : List Word
  deriving DecidableEq, Repr

/-- Engines, loops, migrations and routes beyond the CE registers (R123–R157): pending loop and engine commands, copies, migrations, held
publications, lost samples, loops resuming after a lost sample, route memory as lists of words with the entries waiting for the next frame
boundary, the motion of ports (loop × 256 + port), when stop actions and disabling are due, trap runs, engines being removed or evacuated,
and the stored loop configuration with the engines' stored states; `stNew`: it is that of a part in its trial, and `stOld` what it
replaced. -/
structure CeState where
  cmds    : SMap (Option LoopCmd) := []
  engCmds : SMap Nat := []
  copies  : List LoadCopy := []
  migs    : List Mig := []
  held    : List Held := []
  lost    : List (Nat × Nat) := []
  resume  : SMap (Option Nat) := []
  rtIn    : SMap (List Word) := []
  rtOut   : SMap (List Word) := []
  rtInP   : SMap (Option (List Word)) := []
  rtOutP  : SMap (Option (List Word)) := []
  acts    : SMap PortAct := []
  stopAt  : SMap (Option Nat) := []
  disAt   : SMap (Option Nat) := []
  trapRun : SMap Nat := []
  removing : SMap Bool := []
  evac    : SMap Bool := []
  stored  : List StoredLoop := []
  stRtIn  : SMap (List Word) := []
  stRtOut : SMap (List Word) := []
  stOld   : List StoredLoop := []
  stOldIn : SMap (List Word) := []
  stOldOut : SMap (List Word) := []
  stNew   : Bool := false
  stEng   : List Nat := [1, 1, 1, 1, 1, 1, 1, 1]
  deriving DecidableEq, Repr

/-- A change of a digital input at its threshold (R163): the channel, the new level, and its DTB cycle and DT. -/
structure PinEdge where
  ch   : Nat
  high : Bool
  cyc  : Nat
  dt   : Nat
  deriving DecidableEq, Repr

/-- One crop-sensing unit beyond its registers (R158–R175): ticks its condition has held or been absent, and the condition; the raw
codes of its last acquisitions, newest first. A digital input: its comparator, the level that its edges gave, the
latched DIG state and the cycle of the last change, the last reference edge in DT and cycles, the last period in
6.25 ns units, and the count. A loss channel: the detector of R167, its counts, the filters' memory, the envelope
samples on their way, and the sums of the interval. `burden` is when an opened I25 burden closes. -/
structure UinSt where
  bad      : Nat := 0
  good     : Nat := 0
  cand     : Nat := 0
  acq      : List Int := []
  pin      : Bool := false
  level    : Bool := false
  dig      : Bool := false
  digCyc   : Nat := 0
  edgeDt   : Option Nat := none
  edgeCyc  : Nat := 0
  per      : Nat := 0
  edges    : Int := 0
  disarmed : Bool := false
  fell     : Bool := false
  hitCyc   : Nat := 0
  imp      : Nat := 0
  sup      : Nat := 0
  cumImp   : Nat := 0
  cumSup   : Nat := 0
  filt     : List Word := []
  line     : List Nat := []
  sq       : Nat := 0
  smp      : Nat := 0
  clip     : Nat := 0
  peak     : Nat := 0
  burden   : Option Nat := none
  deriving DecidableEq, Repr

/-- Crop sensing beyond its registers (R158–R175): the units, edges not yet latched in their order, the last acquisitions of the IMU and
of the supply monitor (newest first), the ticks each supply has been in limit and above its voltage, the frames a
reference group deviates (R173), the intrusive test pending or running, and the CFG writes that wait for its end. -/
structure UinState where
  unit  : SMap UinSt := []
  edges : List PinEdge := []
  imu   : List (List Int) := []
  mon   : List (List Int) := []
  lim   : SMap Nat := []
  high  : SMap Nat := []
  refs  : SMap Nat := []
  test  : Option TestRun := none
  held  : SMap (Option Word) := []
  deriving DecidableEq, Repr

/-- One measurement slot's validation (R183–R186), kept at the lowest member of a pair or triplet: consecutive samples
of disagreement, of absence and of recovery, whether the slot is degraded, for how many samples and why, and whether a pair runs on
one member. The value held stands in the governor's window (R190). -/
structure SlotSt where
  apart  : Nat := 0
  gone   : Nat := 0
  good   : Nat := 0
  deg    : Bool := false
  degN   : Nat := 0
  single : Bool := false
  reason : Nat := 0
  deriving DecidableEq, Repr

/-- The governor beyond its window (R176–R191, R210): last usable transport inputs, slots, correction band with the candidate band and its
count (R189), GOVHOLD, the CALSEQ last seen, and the endpoints whose reference messages have reached it, in their order. `calOld` is the
calibration area before a copy that no sample has seen yet. A, x, the references, the transfer offsets and the held slot values stand in the work
area of the window (R190). -/
structure GovState where
  tin     : SMap Word := []
  slots   : SMap SlotSt := []
  band    : Nat := 0
  cand    : Nat := 0
  candN   : Nat := 0
  hold    : Bool := false
  calSeq  : Word := 0
  refs    : List Nat := []
  calOld  : List Word := []
  deriving DecidableEq, Repr

/-- One machine function of the arbiter (R194–R201): ARB, the tick from which a governor hold lasts (R197 rule 4), and how
far enabling or disabling has gone (START issued, DISABLE issued). -/
structure MfSt where
  arb      : Option Word := none
  holdTick : Option Nat := none
  started  : Bool := false
  disIssued : Bool := false
  deriving DecidableEq, Repr

/-- The arbiter's functions, the calibration areas waiting for the next frame boundary (R209: loop, window offset, words), register
writes waiting for the next tick (R194), and whether the MF01 target is 0 under R197 rule 4. -/
structure MfpState where
  fn   : SMap MfSt := []
  cal  : List (Nat × Nat × List Word) := []
  wr   : List (Nat × Word) := []
  govAbs : Bool := false
  deriving DecidableEq, Repr

/-- One step of the yield loop (R219–R222) not yet final: its first and last sample, the travel reached, the
section weight sums with their count, the wet mass per section by the M_REF at which it was credited (R223), the moisture-weighted mass with the mass
it stands for, the flags, and the values taken at the centre sample. Numbers are FP32 words. -/
structure YldStep where
  first   : Nat := 0
  last    : Option Nat := none
  travel  : Int := 0
  w       : List Word := []
  wN      : Nat := 0
  wet     : List (Word × List Word) := []
  moistW  : Word := 0
  moistM  : Word := 0
  lossW   : Word := 0
  lossN   : Nat := 0
  flags   : Nat := 0
  centre  : Option (List Word) := none
  deriving DecidableEq, Repr

/-- Mass that no step could take (R220): the sample it was measured in, the sample whose moisture reading weights it, the mass, and that reading with
whether it was a valid one, once it has come. -/
structure YldCarry where
  at_   : Nat
  due   : Nat
  mass  : Word
  moist : Option (Word × Bool) := none
  deriving DecidableEq, Repr

/-- A share waiting for its moisture (R215): the sample whose reading weights it, the first sample of its step, and the mass. -/
structure YldShare where
  due   : Nat
  first : Nat
  mass  : Word
  deriving DecidableEq, Repr

/-- The yield loop 38, its record ring, and the map the application complex stores (R211–R226): the sample count n, filtered flow and
τ, plate and moisture validation, steps not final, carry, records unacknowledged and the one in flight,
shares waiting for their moisture, stored records with their CRC-32C; `gap` marks the
next record as the first of a start; `losPrev` holds the loss loop's last counts. -/
structure YldState where
  n        : Nat := 0
  q        : Word := 0
  qbar     : Word := 0
  tau      : Word := 0
  platBad  : Nat := 0
  platGood : Nat := 0
  platDeg  : Bool := false
  moist    : Word := 0
  lastFwd  : Option Word := none
  steps    : List YldStep := []
  carry    : List YldCarry := []
  seq      : Nat := 0
  ring     : List (Nat × List Word) := []
  dropped  : Nat := 0
  shares   : List YldShare := []
  stored   : List (Nat × List Word × Word) := []
  unattr   : Word := 0
  omitted  : Nat := 0
  sent     : Option (Nat × List Word) := none
  gap      : Bool := true
  out2     : Word := 0
  losPrev  : SMap Word := []
  deriving DecidableEq, Repr

/-- A position and attitude solution as the baseband forms it at an epoch (R231–R237): its epoch tick, ANT0 latitude and
longitude in 10^-7 deg, height in mm, fix type, horizontal uncertainty in cm, satellites, velocity (FP32 east, north,
up), heading, pitch and heading uncertainty (FP32), attitude word, validity of position, attitude and pitch, and ECEF position in cm. -/
structure GnssFix where
  epoch : Nat := 0
  lat   : Int := 0
  lon   : Int := 0
  hgt   : Int := 0
  fix   : Nat := 0
  unc   : Nat := 0
  sats  : Nat := 0
  ve    : Word := 0
  vn    : Word := 0
  vu    : Word := 0
  head  : Word := 0
  pitch : Word := 0
  hunc  : Word := 0
  att   : Word := 0
  valid : Bool := false
  attOk : Bool := false
  pitchOk : Bool := false
  x     : Int := 0
  y     : Int := 0
  z     : Int := 0
  deriving DecidableEq, Repr

/-- A matched baseline to a neighbour (R246): its epoch tick and TOW, east, north, up and relative velocities (FP32), fix
type, uncertainty and common satellites, the tick at which it is latched, the neighbour's transmitted velocity and acceleration, and whether
its own end is known. -/
structure Baseline where
  tow    : Nat := 0
  epoch  : Nat := 0
  e      : Word := 0
  n      : Word := 0
  u      : Word := 0
  ve     : Word := 0
  vn     : Word := 0
  fix    : Nat := 0
  unc    : Nat := 0
  sats   : Nat := 0
  latch  : Nat := 0
  mv     : List Word := []
  ok     : Bool := true
  deriving DecidableEq, Repr

/-- One neighbour (R246–R248): the newest matched baseline, one waiting for its latch tick, whether ambiguities are held
and whether it has left the domain, and the TOWs of its newest epochs. -/
structure NbSt where
  best    : Option Baseline := none
  wait    : Option Baseline := none
  amb     : Bool := false
  left    : Bool := false
  tows    : List Nat := []
  deriving DecidableEq, Repr

/-- The GNSS baseband beyond its registers (R227–R253). `mramPos` is the position saved at power-fail step 4 with the DTB cycle of its saving, `mramEph`
the ephemerides saved with it (R73, R238); `aidPend` aids written while acquiring; `startCyc` and `ttff` (ms) the last start and its time to first fix;
`obs` the epochs that can still be sent, newest first, with epoch (DT, ns) and base-state record; `steps` the last DT step seen by each neighbour's
matched ports; `ppsFrom` the DT from which emission instants are still to be met, `ppsEnd` the end of the last pulse; `timeE` the last E in ns. -/
structure GnsState where
  ant1Run  : Nat := 64
  started  : Bool := false
  startCls : Nat := 2
  acquiring : Bool := false
  aidTime  : Option (Nat × Nat) := none
  aidPos   : Option (Nat × Nat) := none
  aidsHeld : List Nat := []
  aidPend  : List (Bool × Nat) := []
  startCyc : Nat := 0
  ttff     : Option Nat := none
  obs      : List (Nat × List Byte) := []
  steps    : SMap Nat := []
  ppsFrom  : Nat := 0
  ppsEnd   : Nat := 0
  timeE    : Int := 0
  mramPos  : Option ((Int × Int × Int) × Nat) := none
  mramEph  : List Nat := []
  fix      : GnssFix := {}
  corrCyc  : Option Nat := none
  baseOk   : Bool := false
  movSince : Option Nat := none
  rtcmUsed : SMap Nat := []
  rtcmDrop : SMap Nat := []
  rtcmOut  : Option (Nat × Nat × Nat) := none
  nb       : SMap NbSt := []
  stepSeen : Nat := 0
  allocAt  : Option Nat := none
  ppsStep  : Nat := 0
  deriving DecidableEq, Repr

/-- A path segment (R255) as its sixteen message words. -/
abbrev Seg := List Word

/-- Steering (R254–R264): the held path segments and the last SEQ accepted, whether the law is engaged, the request waiting for the next
inner sample, the prior dref and the integrator, the confirmation and release counters of the twelve checks and the checks that hold
speed limit 0 (0: a condition of R259 missing since a driverless mode was entered), the disengagement to be shown (tick, reason), a test
pulse (valve, current, DTB cycle of its start), the calibration set (22 words) and one waiting for the next frame boundary. -/
structure SteerState where
  segs     : List Seg := []
  lastSeq  : Option Nat := none
  engaged  : Bool := false
  req      : Option Nat := none
  dref     : Word := 0
  acc      : Word := 0
  conf     : SMap Nat := []
  rel      : SMap Nat := []
  held     : SMap Bool := []
  disAt    : Option (Nat × Nat) := none
  test     : Option (Nat × Nat × Nat) := none
  cal      : List Word := []
  calNext  : Option (List Word) := none
  deriving DecidableEq, Repr

/-- A frame being received on one virtual channel (R267–R271): arrival stamp, sensor time, frame counter, epoch, type,
pixels of the first line, lines received, pixel bytes written, flags (descriptor word 0x24), the trigger tick, the slot it goes into, whether its
embedded line has been read, and the ISP set taken where it is the in-line source. -/
structure CamFrame where
  arrDt : Nat := 0
  arrCyc : Nat := 0
  sensT : Nat := 0
  fcnt  : Nat := 0
  epoch : Nat := 0
  type  : Nat := 0
  width : Nat := 0
  lines : Nat := 0
  bytes : Nat := 0
  flags : Nat := 0
  trig  : Nat := 0xFFFFFFFF
  slot  : Nat := 0
  emb   : Bool := false
  set   : Option (List Word) := none
  deriving DecidableEq, Repr

/-- One camera link, its exposure unit and its memory-path counters (R265–R277, R283): frames in progress by virtual
channel, the next ring slot, the cycle at which the link was lost or last retrained, the last triggers (tick, cycle, newest
first), the pending commit (epoch, cycle), the last epoch taken, the words of that commit, the decimation counter, the step
count at the last descriptor, and the camera's counter without its wraps while the link is up (R49). A word sent has the register in [31:16], the device
in [14:8] and the value in [7:0]. -/
structure CamSt where
  cur     : SMap (Option CamFrame) := []
  next    : Nat := 0
  lostCyc : Nat := 0
  trigs   : List (Nat × Nat) := []
  commit  : Option (Nat × Nat) := none
  epochN  : Nat := 0
  sent    : List Word := []
  decim   : Nat := 0
  stepSeen : Nat := 0
  count   : Option Nat := none
  deriving DecidableEq, Repr

/-- One stereo pair (R273–R275): consecutive unmatched triggers and the trigger whose first frame waits for its partner
(trigger tick, camera, slot, undamaged); `settle`: both units anchor anew after a relock, and the slip check rests (R275). -/
structure PairSt where
  miss  : Nat := 0
  settle : Bool := false
  wait  : Option (Nat × Nat × Nat × Bool) := none
  deriving DecidableEq, Repr

/-- A memory-path job (R283): camera, virtual channel, slot, frame counter, epoch, arrival stamp, the DTB cycle at which it
became ready, its deadline in µs, priority, pixels per line and lines. -/
structure MpJob where
  cam   : Nat
  vc    : Nat
  slot  : Nat
  fcnt  : Nat
  epoch : Nat
  arrDt : Nat
  ready : Nat
  dead  : Nat
  pri   : Nat
  width : Nat
  lines : Nat
  type  : Nat
  deriving DecidableEq, Repr

/-- Cameras (R265–R287): links, pairs, the memory-path queue and the running job with the set it reads and its end, the in-line
source in force, and the in-line frame whose output is not yet complete, with its set and whether it is damaged. -/
structure CamState where
  cam    : SMap CamSt := []
  pair   : SMap PairSt := []
  queue  : List MpJob := []
  run    : Option (MpJob × List Word × Nat) := none
  inl    : Option (Nat × Nat) := none
  inlDone : Option (MpJob × List Word × Bool) := none
  deriving DecidableEq, Repr
/-- A wheel of the ego filter (R298): the DTB cycles since which it is off or within the slip limit, and exclusion. -/
structure WhlSt where
  offCyc : Option Nat := none
  okCyc  : Option Nat := none
  excl   : Bool := false
  deriving DecidableEq, Repr

/-- An inference job ready or running, or a result (R300, R301): job, arrival stamp, frame counter, epoch, the DTB cycle at
which it became ready, its measurement time and flags. -/
structure InfJob where
  job   : Nat
  arrDt : Nat
  fcnt  : Nat
  epoch : Nat
  ready : Nat
  tM    : Nat := 0
  flags : Nat := 0
  deriving DecidableEq, Repr

/-- A result or lidar scan handed over, or waiting for its tick (R301, R305): KIND (0 for a scan), source, status,
measurement time, flags, payload words, the tick from which tasks see it, and the travel of point 1 at T_M. -/
structure InfRes where
  kind   : Nat
  src    : Nat
  status : Nat
  tM     : Nat
  flags  : Nat
  data   : List Word
  tick   : Nat
  travel : Int := 0
  deriving DecidableEq, Repr

/-- A lidar scan in assembly (R305). -/
structure ScanSt where
  sens  : Nat := 0
  first : Nat := 0
  next  : Nat := 0
  recs  : List Word := []
  arrDt : Nat := 0
  deriving DecidableEq, Repr

/-- The life-cycle state of a track (R309). -/
inductive TrkState where
  | tentative
  | confirmed
  | coasting
  deriving DecidableEq, Repr

/-- One object track (R307–R310). Position, velocity and variances are FP32 words in the local frame. -/
structure Track where
  id     : Nat
  st     : TrkState
  x      : Word
  y      : Word
  vx     : Word := 0
  vy     : Word := 0
  sxx    : Word := 0
  syy    : Word := 0
  len    : Word := 0
  wid    : Word := 0
  hits   : Nat := 0
  misses : Nat := 0
  age    : Nat := 0
  cls    : Nat := 0
  clsN   : List Nat := []
  src    : Nat := 0
  upd    : Nat := 0
  dt     : Nat := 0
  measAge : Nat := 0
  flags  : Nat := 0
  deriving DecidableEq, Repr

/-- One sample of EGO's history (R297): its DT, the travel of point 1 in mm, the filter's words and the IMU values taken. -/
structure EgoAt where
  dt  : Nat
  trv : Int
  ego : List Word
  imu : List Word
  deriving DecidableEq, Repr

/-- The fusion sequencer's tasks and the inference array (R288–R313): whether it runs, the words of the ego filter, the forward
travel of each point in nm, the samples of the last 2 s, the DTB cycles since which IMU VALID is clear, speed allows a
velocity-derived heading, and a position correction was last applied, and the DT of the newest measurement; wheels; crop bins by
section × 640 + index with their bin number, the bin each section last published, the travel of its last data and measurement
times; inference jobs and results; lidar scans, with the sensor time of one that is being discarded; tracks, the next ID, lists written and the list waiting for its tick; Parallax
offsets in 0.001 deg, since when each is at its limit, a pending commit; the step count at each task's last publication, and
configuration writes waiting for the frame boundary. -/
structure FusState where
  running  : Bool := false
  ego      : List Word := []
  travel   : SMap Int := []
  hist     : List EgoAt := []
  imuBad   : Option Nat := none
  headCyc  : Option Nat := none
  posCyc   : Option Nat := none
  egoMeas  : Nat := 0
  egoTick  : Nat := 0
  whl      : SMap WhlSt := []
  bins     : SMap (Option (Int × Word)) := []
  binPub   : SMap (Option Int) := []
  gapFrom  : SMap (Option Int) := []
  densTM   : Option (Nat × Bool) := none
  qualTM   : Option (Nat × Bool) := none
  readyJ   : List InfJob := []
  runJ     : List InfJob := []
  pairOut  : SMap (Option (Nat × Nat × InfJob)) := []
  waitR    : List InfRes := []
  handed   : List InfRes := []
  scan     : SMap (Option ScanSt) := []
  scanOff  : SMap (Option Nat) := []
  fwdCyc   : Option Nat := none
  tracks   : List Track := []
  nextId   : Nat := 1
  lists    : Nat := 0
  trkWr    : Option (Nat × Nat) := none
  trkTM    : Option (Nat × Bool) := none
  parOff   : SMap Int := []
  parLim   : SMap (Option Nat) := []
  parPend  : Bool := false
  stepSeen : SMap Nat := []
  cfgPend  : List (Nat × Word) := []
  deriving DecidableEq, Repr
/-- One slot of the domain as this module knows it (R326–R329, R345): owner's IDENT, whether held and until which
superframe, consecutive silent superframes, roles with epochs, and in-flight quota. -/
structure Mbr where
  ident  : Nat := 0
  heldTo : Option Nat := none
  silent : Nat := 0
  roles  : List (Nat × Nat) := []
  quota  : Nat := 0
  deriving DecidableEq, Repr

/-- A fleet transaction at its requester (R341–R345): tag, kind, destination module, role and epoch, the DTB cycle at
which it times out, segments acknowledged, the superframe of the last progress, request payload, response segments by index, who asked (`vhp`:
session and counter of a forwarding host), context word and response buffer. -/
structure FTxn where
  tag    : Nat
  kind   : Nat
  dest   : Nat
  role   : Nat
  epoch  : Nat
  dead   : Nat
  acked  : Nat := 0
  lastSf : Nat := 0
  req    : List Byte := []
  rsp    : SMap (List Byte) := []
  nseg   : Nat := 0
  vhp    : Option (Nat × Nat) := none
  ctx    : Word := 0
  rspIova : Nat := 0
  rspSize : Nat := 0
  endp   : Nat := 0
  deriving DecidableEq, Repr

/-- A request received or a response kept (R343): source module, tag, its segments, kind, role, whether it has been answered, with the
code, the response, its acknowledged segments, the superframe of the last progress and the DTB cycle until which it is kept. -/
structure FKept where
  src  : Nat
  tag  : Nat
  segs : SMap (List Byte) := []
  nseg : Nat := 0
  kind : Nat := 0
  role : Nat := 0
  done : Bool := false
  code : Nat := 0
  epoch : Nat := 0
  rsp  : List Byte := []
  acked : Nat := 0
  lastSf : Nat := 0
  till : Nat := 0
  deriving DecidableEq, Repr

/-- A record waiting for the member slot (R336): type and data bytes. -/
abbrev FRec := Nat × List Byte

/-- A contention frame being attempted (R334): attempt number, superframe and sub-slot chosen, whether it is a join
request, its records, and whether this attempt has been sent. -/
structure FCont where
  att  : Nat
  sf   : Nat
  sub  : Nat
  join : Bool
  recs : List (Nat × List Byte) := []
  sent : Bool := false
  deriving DecidableEq, Repr

/-- A frame sent: type, superframe number, sub-slot and records, a beacon's content, the antenna port and the conducted power in 0.1 dBm. -/
structure FTx where
  type : Nat
  sfn  : Nat
  sub  : Nat := 0
  recs : List FRec := []
  bcn  : Option BeaconMsg := none
  port : Nat := 0
  power : Int := 0
  deriving DecidableEq, Repr

/-- The end of a transaction forwarded for a host: session, counter, code, response. -/
structure FwdEnd where
  sess : Nat
  cnt  : Nat
  code : Nat
  rsp  : List Byte := []
  deriving DecidableEq, Repr

/-- The fleet link beyond its registers (R318–R351): slots, departures with the beacons still to carry them (module, IDENT, beacons),
grants and CACKs of the next beacon, successors, the coordinator, its role's epoch, keys and their change, channel change, domain
MCS, beacons missed and whether one was heard in this superframe, beacons in time, the superframe until which joining waits, the
DTB cycles of the last scan step and of the last beacon or enable, a slot granted and not yet used, LEAVE to be sent, the contention
frame, records waiting, transactions in flight and queued, requests kept, tags resting (tag, cycle), results of forwarded VHP
transactions (session, counter, code, response), the partner's last UNLOAD record with its superframe, END in force, stranger
minute, damaged slots per superframe, whether the partner loss is reported, the quota of the next superframe, and the last frame
sent (type, SFN, sub-slot, records). -/
structure FlrState where
  mbr      : SMap Mbr := []
  departed : List (Nat × Nat × Nat) := []
  grants   : List (Nat × Nat × Nat × Nat) := []
  cack     : List (Nat × Nat) := []
  succ     : List Nat := []
  coord    : Nat := 0
  coordEp  : Nat := 0
  keyIdx   : Nat := 0
  keyAt    : Option Nat := none
  keyOld   : Option Nat := none
  chanAt   : Option (Nat × Nat) := none
  mcs      : Nat := 2
  missed   : Nat := 0
  got      : Bool := false
  inTime   : Nat := 0
  waitSf   : Option Nat := none
  scanCyc  : Nat := 0
  listenCyc : Nat := 0
  granted  : Option Nat := none
  leaving  : Bool := false
  cont     : Option FCont := none
  recs     : List FRec := []
  inflight : List FTxn := []
  queue    : List FTxn := []
  kept     : List FKept := []
  tags     : List (Nat × Nat) := []
  fwdDone  : List FwdEnd := []
  part     : List Word := []
  partSf   : Option Nat := none
  unlEnd   : Option Nat := none
  strCyc   : Option Nat := none
  badNow   : Nat := 0
  badSlots : List Nat := []
  lossRep  : Bool := false
  quotaNext : Option Nat := none
  lastTx   : Option FTx := none
  rx       : Option (Int × Int) := none
  sentNow  : List (Nat × Nat) := []
  air      : List (Nat × Nat) := []
  sfCyc    : Option Nat := none
  dirPage  : Nat := 0
  dirNew   : List (Nat × Nat) := []
  unlRec   : List FRec := []
  deriving DecidableEq, Repr
/-- A descriptor as a channel holds it (R363, R365): addresses, length, control word, the bytes already moved, and for
LOOP mode the tile address, the write-back address and the direction (`toIova`); `pre`: pre-empted at a 256-byte boundary by a higher
class (R23). -/
structure DmaDesc where
  src    : Nat := 0
  dst    : Nat := 0
  len    : Nat := 0
  ctl    : Nat := 0
  done   : Nat := 0
  loop   : Bool := false
  tile   : Nat := 0
  stat   : Nat := 0
  toIova : Bool := false
  fix    : Bool := false
  pre    : Bool := false
  deriving DecidableEq, Repr

/-- One DMA channel beyond its registers (R362–R369): the descriptor running or faulted, the LOOP-mode queue, and
whether a disable waits for the running descriptor. -/
structure DmaCh where
  run      : Option DmaDesc := none
  queue    : List DmaDesc := []
  stopping : Bool := false
  paused   : Bool := false
  deriving DecidableEq, Repr

/-- The running IOMMU invalidation (R360), the DMA channels, and the sender timers of the mailboxes: the DTB cycle of
the last POST and of the timeout, by endpoint (R373, R374), and the DMA submit windows (R365; loop × 64 + word). -/
structure DmaState where
  ch      : SMap DmaCh := []
  inv     : Option Nat := none
  postCyc : SMap (Option Nat) := []
  tmoCyc  : SMap (Option Nat) := []
  gone    : SMap Bool := []
  win     : SMap Word := []
  deriving DecidableEq, Repr

/-- A transmit queue frame (R386, R388): the object that built it (`none`: the application queue, with its ring entry),
header word, data bytes, the DTB cycle of its end of life (`none`: none) and whether it is in arbitration. -/
structure CanFrame where
  obj   : Option Nat := none
  entry : Nat := 0
  hdr   : Nat := 0
  len   : Nat := 0
  data  : List Byte := []
  dead  : Option Nat := none
  arb   : Bool := false
  deriving DecidableEq, Repr

/-- A receive signal entry at work (R383): the frame value waiting for its latch (raw value, NA failed, stamp), the raw
value latched, VALID, and the DTB cycle of the last matching frame (`none`: never since enable). -/
structure CanSig where
  wait  : Option (Word × Bool) := none
  raw   : Word := 0
  valid : Bool := false
  cyc   : Option Nat := none
  deriving DecidableEq, Repr

/-- One CAN controller beyond its registers (R377–R392): frames waiting, the DTB cycle at which bus-off recovery began,
the claimed address (254 while none, R392), the address-claim condition, and counts of instants skipped, frames too short, remote frames,
frames sent and received. -/
structure CanSt where
  queue  : List CanFrame := []
  offCyc : Option Nat := none
  addr   : Nat := 254
  claimed : Bool := false
  skips  : Nat := 0
  short  : Nat := 0
  remote : Nat := 0
  nSent  : Nat := 0
  nRcvd  : Nat := 0
  deriving DecidableEq, Repr

/-- The CAN subsystem (R377–R393): controllers, the signal tables (kind × 512 + index, each six words), writes waiting for
the next frame boundary, receive entries at work, transmit objects' owners (R387: loop, engine), values of transmit
signals published by their ports, recent frames of the virtual bus in REPLAY with the DT of their end, and the unwrapped
sensor counters of the CAN stream units (R49). -/
structure CanState where
  ctl    : SMap CanSt := []
  tab    : SMap (List Word) := []
  tabP   : SMap (Option (List Word)) := []
  sig    : SMap CanSig := []
  txv    : SMap (Option Word) := []
  virt   : List (Nat × CanFrame) := []
  cnt    : SMap Nat := []
  deriving DecidableEq, Repr

/-- A datagram in reassembly (R395): its identity, the DTB cycle of its first fragment, fragments and total length. -/
structure Reasm where
  key   : Nat
  at_   : Nat
  frags : List (Nat × List Byte) := []
  total : Option Nat := none
  deriving DecidableEq, Repr

/-- A gate control list entry (R397): eight gate bits and an interval in µs. -/
abbrev Gate := Nat × Nat

/-- The Ethernet switch (R394–R397): gate lists (shadow, active, waiting for the boundary), learned addresses (MAC, port),
datagrams in reassembly, datagrams delivered to the application complex (port, data; the last 64, newest first), the frames the last
ingress sent out (egress, destination, bytes), and the best grandmaster announced (port, rank, GPS, 0). -/
structure EthState where
  gclSh  : SMap (List Gate) := []
  gcl    : SMap (List Gate) := []
  gclP   : SMap (Option (List Gate)) := []
  fdb    : SMap (Option Nat) := []
  reasm  : List Reasm := []
  appRx  : List (Nat × List Byte) := []
  fwd    : List (Nat × Nat × List Byte) := []
  ptp    : Option (Nat × Nat × Nat × Nat) := none
  deriving DecidableEq, Repr

/-- A VHP transaction outstanding (R401): tag, kind, the DTB cycle of its arrival, and the endpoint of a message. -/
structure VhpTxn where
  tag  : Nat
  kind : Nat
  at_  : Nat
  arg  : Nat := 0
  deriving DecidableEq, Repr

/-- A VHP response sent (R399, R401): session, tag, kind, code, payload words and the DTB cycle it was sent at. -/
structure VhpRsp where
  sess : Nat
  tag  : Nat
  kind : Nat
  code : Nat
  data : List Nat := []
  at_  : Nat := 0
  deriving DecidableEq, Repr

/-- One VHP session (R398–R402): the host key ID, the highest counter and those seen within 256 below it, transactions
outstanding, responses kept, the cycle of the last valid datagram and the cycle at which it was opened as STATE 1. -/
structure VhpSess where
  key   : Nat := 0
  high  : Option Nat := none
  seen  : List Nat := []
  outst : List VhpTxn := []
  kept  : List VhpRsp := []
  last  : Nat := 0
  began : Nat := 0
  rtcm  : Bool := false
  deriving DecidableEq, Repr

/-- The host protocol: sessions 0–3, the last 256 responses sent (newest first), datagrams rejected, and the cycle of the last
answer to a datagram without a session, by source. -/
structure VhpState where
  sess : SMap VhpSess := []
  sent : List VhpRsp := []
  rej  : Nat := 0
  closeCyc : SMap Nat := []
  deriving DecidableEq, Repr
/-- What a Facet context is doing (R407, R410): not running, ready for its next instruction, waiting for the boost
arbiter, in a boost or pull phase, waiting for the next carrier period (SYNC), or waiting until an absolute step. -/
inductive FacetWait where
  | idle
  | ready
  | arb
  | phase
  | sync
  | untilStep (step : Nat)
  deriving DecidableEq, Repr

/-- One Facet context (R407): registers r1–r7 (r0 reads 0), program counter, flags, the previous TAKE and the absolute
step of its next instruction. -/
structure FacetCtx where
  wait : FacetWait := .idle
  pc   : Nat := 0
  r    : SMap Nat := []
  z    : Bool := false
  c    : Bool := false
  new  : Bool := false
  pk   : Bool := false
  kink : Bool := false
  tmo  : Bool := false
  rej  : Bool := false
  wd   : Bool := false
  last : Nat := 0
  step : Nat := 0
  deriving DecidableEq, Repr

/-- A boost or pull request or phase (R410, R415): peak in mA, limit in steps, KINK option, the step at which it was
requested and at which its phase began. -/
structure BoostReq where
  peak   : Nat
  limit  : Nat
  kinkOn : Bool
  pull   : Bool
  reqAt  : Nat
  start  : Nat := 0
  deriving DecidableEq, Repr

/-- One valve channel beyond its registers: the taken setpoint, hold target, dither, decay, misses of
the kink (R420), consecutive carrier periods with the target unreachable or reached (R413), the time the channel has
been idle (R424), whether it is in its hold phase, whether it keeps hold and dither over a SWAP until its program's first HOLD or OFF (R426), and its
request or phase. -/
structure VlvCh where
  s       : Nat := 0
  target  : Nat := 0
  dithA   : Nat := 0
  dithN   : Nat := 0
  fast    : Bool := true
  misses  : Nat := 0
  unreach : Nat := 0
  reached : Nat := 0
  idleCyc : Option Nat := none
  held    : Bool := false
  keep    : Bool := false
  req     : Option BoostReq := none
  deriving DecidableEq, Repr

/-- One bank: waiting requests in order of request (step, channel in bank), the channel or test that boosts, the boost
history in steps for the duty window (R416), a pending SWAP, whether a fault's cause stands, converter running, and the DTB cycle at
which its carrier's last period started (R46). -/
structure VlvBank where
  waiting : List (Nat × Nat) := []
  boost   : Option Nat := none
  hist    : List (Nat × Nat) := []
  swap    : Bool := false
  cause   : Bool := false
  conv    : Bool := false
  carAt   : Option Nat := none
  deriving DecidableEq, Repr

/-- The valve drive (R403–R427): contexts and channels 0–31, banks 0–7, active and shadow code stores keyed
bank × 256 + word, the test, and the outputs of the present tick by bank that a digest will cover (R508). -/
structure VlvState where
  ctx    : SMap FacetCtx := []
  ch     : SMap VlvCh := []
  bank   : SMap VlvBank := []
  active : SMap Word := []
  shadow : SMap Word := []
  test   : Option TestRun := none
  digest : SMap (List Nat) := []
  deriving DecidableEq, Repr

/-- One load-switch channel beyond its registers (R430–R442): the owner's present command (0 off, 1–999 duty in 0.1 %,
1 000 on), a CMD write waiting for the next tick, the duty applied, whether the output stage is on, the DTB cycle at which
the inrush window opened and the time it has been paused by UV, the cycle of the latch-off, ticks the command has been 0,
the cycle since which the channel is off, the last clamp event, and the end of a keep hold. -/
structure LswCh where
  cmd      : Nat := 0
  cmdPend  : Option Nat := none
  duty     : Nat := 0
  on       : Bool := false
  hold     : Bool := false
  winAt    : Option Nat := none
  winPause : Nat := 0
  latchAt  : Option Nat := none
  hot      : Bool := false
  zeroTicks : Nat := 0
  offAt    : Nat := 0
  clampAt  : Option Nat := none
  keepEnd  : Option Nat := none
  cause    : Bool := false
  deriving DecidableEq, Repr

/-- The load switches (R428–R445): channels 0–23, the cycle since which each group is below UV, reversed polarity, the cycle since which the summed
current is above 100 A, a test command that waits for its tick (test and channel), and the accepted test. -/
structure LswState where
  ch    : SMap LswCh := []
  uvAt  : SMap (Option Nat) := []
  rev   : Bool := false
  overAt : Option Nat := none
  req   : Option (Nat × Nat) := none
  test  : Option TestRun := none
  deriving DecidableEq, Repr

/-- One safety input (R448–R450): the run of equal latches and their level, the filtered state (`true`: high), misses of
its source's pulse in a row, and an input test fault. -/
structure SiSt where
  lvl   : Bool := false
  run   : Nat := 0
  filt  : Bool := false
  miss  : Nat := 0
  fault : Bool := false
  deriving DecidableEq, Repr

/-- One input pair (R451–R454): tripped, the tick since which its channels differ, a discrepancy fault and whether both channels have
been tripped together since, and whether its safety outputs wait for a reset press (RESTART = 0). -/
structure PairIn where
  trip   : Bool := false
  diff   : Option Nat := none
  disc   : Bool := false
  cycled : Bool := false
  wait   : Bool := false
  deriving DecidableEq, Repr

/-- Two-hand control (R453): the ticks at which the left and the right button were pressed, released together since
the last enable, and the enable. -/
structure TwoHand where
  left  : Option Nat := none
  right : Option Nat := none
  freed : Bool := false
  en    : Bool := false
  deriving DecidableEq, Repr

/-- One safety output (R456, R457): on, element tests failed in a row, and an output fault. -/
structure SoSt where
  on    : Bool := false
  fail  : Nat := 0
  fault : Bool := false
  deriving DecidableEq, Repr

/-- One safety-relevant sensor pair (R459): safety samples of disagreement and of agreement, whether it contradicts, its
last agreeing value and whether that is valid. -/
structure SafPair where
  bad  : Nat := 0
  good : Nat := 0
  con  : Bool := false
  val  : Word := 0
  ok   : Bool := false
  deriving DecidableEq, Repr

/-- The safety configuration (R468): the four SAF_IN[i]_CFG words, test timing in µs and ms (R457), the agreement limits (FP32)
and confirmations in ms of the wheel-angle and speed pairs, the crop-sensing units it takes (R458: wheel-angle pair, speed pair, hand-wheel
torque, seat switch), SAF_SPD_CFG.ASSIST, and A_STOP, D_STOP, D_PERSON (FP32). -/
structure SafCfg where
  id      : Word := 0
  ins     : List Word := [20, 20, 20, 20]
  tpw     : Nat := 300
  tpp     : Nat := 1000
  waLim   : Word := 0x3FC00000
  waConf  : Nat := 100
  spConf  : Nat := 300
  chans   : List Nat := [32, 40, 33, 41, 51, 45]
  assist  : Bool := false
  aStop   : Word := 0x3F000000
  dStop   : Word := 0x40400000
  dPerson : Word := 0x41700000
  valid   : Bool := true
  deriving DecidableEq, Repr

/-- A lock-out decided (R463): cause, detail and the tick of the safety loop at which the outputs go off. -/
structure LockOut where
  cause  : Nat
  detail : Nat
  off    : Nat
  deriving DecidableEq, Repr

/-- The safety island beyond its registers (R446–R470). `t` counts the ticks the safety loop has seen and times everything here. Inputs,
pairs, outputs (`soWant`: decided by the last sample, applied at the next) and sensor pairs, two-hand control, the zero
speed-limit contributions by table row of R461 (present, or the tick at which the cause ended), the planner heartbeat (present value,
value at the last boundary, unchanged boundaries), lock-outs whose off tick is still to come, the MRAM latch and its secure-element copy
with the cause (R464), an accepted press (tick of its test's start, whether the test
passes, the output that fails), a completed reset waiting for its frame boundary, a software stop waiting for the next sample, the button ignored and its release, since when the safe
speed is at most 0.5 km/h, the configuration in force and one waiting for step 6 of R465, the tick of the first lock-out, the lock-out
log, and whether a replayed image (R470) has decided a lock-out. -/
structure SafState where
  t      : Nat := 0
  si     : SMap SiSt := []
  ip     : SMap PairIn := []
  two    : TwoHand := {}
  so     : SMap SoSt := []
  soWant : Nat := 0
  pair   : SMap SafPair := []
  zero   : SMap (Option (Option Nat)) := []
  hb     : Word := 0
  hbSeen : Word := 0
  hbMiss : Nat := 0
  offs   : List LockOut := []
  mram   : Option (Nat × Nat) := none
  seCopy : Option Nat := none
  rst    : Option (Option Nat × Bool × Nat) := none
  rstGo  : Bool := false
  stopGo : Bool := false
  btnRel : Option Nat := none
  btnIgn : Bool := false
  stat   : Option Nat := none
  cfg    : SafCfg := {}
  cfgP   : Option SafCfg := none
  lockTick : Option Nat := none
  hist   : List (Nat × Nat × Nat) := []
  imgLock : Bool := false
  deriving DecidableEq, Repr
/-- The panel's power sequence (R475, R476): off, starting or stopping with the DTB cycle it began at, on, or off after a
fault until EN is cleared and set again. -/
inductive PanelSeq where
  | off
  | starting (cyc : Nat)
  | on
  | stopping (cyc : Nat) (fast : Bool)
  | faulted (cyc : Nat)
  deriving DecidableEq, Repr

/-- The cab panel (R472–R483): its sequence, the buffer waiting for a frame start, the brightness, the blink words (four per rectangle)
and the rectangles in their off phase as taken at the last frame start, gains by zone and colour (zone × 3 + colour, in 1/4 096;
unlisted 4 096), gains waiting for a frame start, frames started in the present sequence, the DTB cycles of the last ageing sample
and gain computation; the brightness that a ramp goes to or comes from, the cycle at which the panel came on, whether the emitter rails are on, and the
cycle of the last frame start. -/
structure DspState where
  seq    : PanelSeq := .off
  flip   : Option Nat := none
  level  : Nat := 512
  blink  : List Word := []
  offs   : List Nat := []
  gain   : SMap Nat := []
  gainP  : Option (SMap Nat) := none
  frames : Nat := 0
  ageAt  : Nat := 0
  gainAt : Nat := 0
  full   : Nat := 512
  onAt   : Nat := 0
  lit    : Bool := false
  frameAt : Option Nat := none
  deriving DecidableEq, Repr

/-- A running strip update (R484–R487): image words, T in 0.1 ms, start cycle, whether BALANCE runs twice, and whether it is a blank image
with BALANCE at both polarities (R491). -/
structure StripRun where
  img   : List Word
  t     : Nat
  at_   : Nat
  twice : Bool := false
  blank : Bool := false
  deriving DecidableEq, Repr

/-- A repair of the strip (R490): T in 0.1 ms, start cycle, rounds, the image that follows, and whether that is the blank of R491. -/
structure StripRep where
  t      : Nat := 0
  at_    : Nat
  rounds : Nat := 0
  img    : List Word
  blank  : Bool := false
  deriving DecidableEq, Repr

/-- A committed ledger copy (R489): 192 ledgers, the image of the update started last, BST_CNT, and its place in the order of copies. -/
structure StripCopy where
  led : SMap Int := []
  img : List Word := []
  cnt : Nat := 0
  num : Nat := 0
  deriving DecidableEq, Repr

/-- The status strip (R484–R491): ledgers (common × 48 + segment, units of 100 µs), the image shown by common (`none`: not known), the
pending image, the running update, the cycle of the last start, the temperature band, copies A and B with which is written next, a repair, the rounds of
the last one, the image of the update started last, and whether an interruption waits for its commit. -/
structure BstState where
  led   : SMap Int := []
  shown : SMap (Option (List Word)) := []
  pend  : Option (List Word) := none
  run   : Option StripRun := none
  last  : Option Nat := none
  band  : Nat := 4
  a     : Option StripCopy := none
  b     : Option StripCopy := none
  nextB : Bool := false
  rep   : Option StripRep := none
  rounds : Nat := 0
  img   : List Word := []
  cut   : Bool := false
  deriving DecidableEq, Repr
/-- One record of the event log (R492). -/
structure EvRec where
  dt     : Nat := 0
  seq    : Nat := 0
  code   : Nat := 0
  src    : Nat := 0
  tstate : Nat := 0
  valid  : Bool := false
  optime : Nat := 0
  pcyc   : Nat := 0
  rept   : Nat := 0
  d0     : Nat := 0
  d1     : Nat := 0
  deriving DecidableEq, Repr

/-- An open record (R494): the sequence number of its record and the OPTIME of its last repeat. -/
structure EvOpen where
  seq  : Nat
  last : Nat
  deriving DecidableEq, Repr

/-- One histogram of R499 and R500: its configuration entry and its contents. Values are FP32 words. -/
structure Histo where
  en      : Bool := false
  src     : Nat := 0
  lo      : Word := 0
  width   : Word := 0
  period  : Nat := 1
  bins    : SMap Nat := []
  invalid : Nat := 0
  sat     : Bool := false
  any     : Bool := false
  minV    : Word := 0
  maxV    : Word := 0
  minDt   : Nat := 0
  maxDt   : Nat := 0
  deriving DecidableEq, Repr

/-- The event recorder beyond its registers (R492–R502): log slots, open records, storm counts, histograms, the
committed copies of the counters with the OPTIME of their commit, and the clear nonce with the DTB cycle it was drawn at. -/
structure EvrState where
  log        : SMap EvRec := []
  openRecs   : List EvOpen := []
  stormSec   : Nat := 0
  stormCnt   : SMap Nat := []
  stormHeld  : SMap Nat := []
  histos     : SMap Histo := []
  histosC    : SMap Histo := []
  committed  : List Nat := [0, 0, 0, 0, 0]
  commitAt   : Nat := 0
  nonce      : Option Nat := none
  nonceCyc   : Nat := 0
  deriving DecidableEq, Repr

/-- A record of the Tabroth stream (R504): its type, tick, unit and data words, and its segment. -/
structure TabRec where
  type : Nat
  tick : Nat
  unit : Nat
  data : List Nat
  seg  : Nat := 0
  deriving DecidableEq, Repr

/-- A hold of the Tabroth ring (R510), by tick range and by block numbers. -/
structure TabHold where
  fromTick : Nat
  toTick   : Nat
  fromBlk  : Nat
  toBlk    : Nat
  deriving DecidableEq, Repr

/-- A running frame window (R511): its number, cameras and span of arrival stamps; whether the rings have been searched for the frames before the trigger; the
frames still to copy (camera, slot, arrival stamp), those overwritten before they were copied, and the bytes that may be copied by now. -/
structure TabWin where
  num     : Nat
  cams    : Nat
  fromDt  : Nat
  toDt    : Nat
  scanned : Bool := false
  todo    : List (Nat × Nat × Nat) := []
  missing : Nat := 0
  credit  : Nat := 0
  deriving DecidableEq, Repr

/-- A frame kept in the ring of LUN 3 (R511): its window and camera, and the bytes of its descriptor, pixels and statistics record. -/
structure WinFrame where
  win  : Nat
  cam  : Nat
  data : List Byte
  deriving DecidableEq, Repr

/-- A block of the ring on UFS (R507): its segment, its header, and the records that begin in it. -/
structure TabBlk where
  seg  : Nat := 0
  hdr  : List Byte := []
  recs : List TabRec := []
  deriving DecidableEq, Repr

/-- The Tabroth recorder beyond its registers (R504–R511): records not yet written to the ring and their bytes, with the bytes of the last one that belong to
the next block; the ring by block number, whether a segment is open and the reason for which one will open, the frames counted since the last
checkpoint, checkpoints of the ring (tick, block), blocks written, the segment of the last block and its index, the cycles of the blocks of the last
second, holds, the running frame window and the number of the next, and the frames kept, newest first. -/
structure TabState where
  buf        : List TabRec := []
  bufBytes   : Nat := 0
  carry      : List Byte := []
  ring       : SMap TabBlk := []
  segOpen    : Bool := false
  wantOpen   : Option Nat := none
  ckptFrames : Nat := 0
  ckpts      : List (Nat × Nat) := []
  blocks     : Nat := 0
  blkSeg     : Nat := 0
  blkIdx     : Nat := 0
  blkAt      : List Nat := []
  holds      : SMap TabHold := []
  window     : Option TabWin := none
  winNum     : Nat := 0
  frames     : List WinFrame := []
  deriving DecidableEq, Repr

/-- A part entry of a manifest (R521): type, index, version, length in bytes, blocks, SHA-256. -/
structure PartEntry where
  type    : Nat
  index   : Nat
  version : Nat
  length  : Nat
  nblocks : Nat
  sha     : List Byte
  deriving DecidableEq, Repr

/-- An accepted manifest (R521, R523), with the bytes of its block. -/
structure Manifest where
  pkg    : Nat
  svn    : Nat
  fence  : Bool
  signer : Nat
  parts  : List PartEntry
  raw    : List Byte := []
  deriving DecidableEq, Repr

/-- One installed part of a bank set (R529): type, index, bank, version, SHA-256. -/
structure SetPart where
  type    : Nat
  index   : Nat
  bank    : Nat
  version : Nat
  sha     : List Byte
  deriving DecidableEq, Repr

/-- A bank-set record (R529): PKG_ID, installed parts, SAF_NEXT and the fallback set; committed or not. -/
structure SetRec where
  pkg     : Nat := 0
  parts   : List SetPart := []
  safNext : List SetPart := []
  fall    : Nat := 0
  ok      : Bool := false
  deriving DecidableEq, Repr

/-- A calibration record in MRAM (R534). -/
structure CalRec where
  set  : Nat
  rec_ : Nat
  ofs  : Nat
  data : List Byte
  src  : Nat
  wcnt : Nat
  dt   : Nat
  key  : Nat
  deriving DecidableEq, Repr

/-- A key slot of the secure element (R538): type, index, the public (or unwrapped) key and its privilege or TYPE mask. -/
structure KeySlot where
  type  : Nat
  index : Nat
  key   : List Byte
  priv  : Nat := 0
  deriving DecidableEq, Repr

/-- Updates, calibration and security (R518–R541): the staged manifest, staged blocks (part × 2^22 + block; present: its
bitmap bit is set), both bank sets, part images per bank ((type × 256 + index) × 2 + bank) and the signed manifest blocks kept with them, the activation step, whether the trial is that
of a safety image (R533), calibration records, keys, the token nonce with its DTB cycle, serial number, the debug port's closing cycle,
whether LOGIC_BAT is high enough (R527) and whether a part failed its check in this boot. -/
structure UpdState where
  man      : Option Manifest := none
  staged   : SMap (List Byte) := []
  sets     : List SetRec := [{ ok := true }, {}]
  banks    : SMap (List Byte) := []
  mans     : SMap (List Byte) := []
  actStep  : Nat := 0
  safTrial : Bool := false
  cal      : List CalRec := []
  keys     : List KeySlot := []
  nonce    : Option (Nat × Nat) := none
  serial   : Nat := 0
  dbgEnd   : Option Nat := none
  battOk   : Bool := false
  batt     : List Nat := []
  opAt     : Option Nat := none
  cnt      : SMap Nat := []
  partBad  : Bool := false
  deriving DecidableEq, Repr
/-- One thermal site (R563–R566): consecutive invalid reads and which levels it is at or above, with hysteresis (bit 0 warning,
1 throttle, 2 shutdown), and whether it has been read since power-up (THM_PEAK). -/
structure SiteSt where
  inval : Nat := 0
  lvl   : Nat := 0
  seen  : Bool := false
  deriving DecidableEq, Repr

/-- The power-fail sequence (R73): the DTB cycle at which it began, whether it is the STANDBY path, whether WAKE_IN has risen on it (R68), and the
last step done. -/
structure PfSeq where
  at_   : Nat
  stby  : Bool := false
  back  : Bool := false
  step  : Nat := 1
  deriving DecidableEq, Repr

/-- Modes, resets, supplies and temperature beyond their registers (R53–R75, R553–R566): the DTB cycle since which the machine stands
(R58), a DEFERRED request, a request whose functions ramp, the mode UNLOAD_SYNC returns to, the boot in progress (DTB cycle of step 8)
with its target, the cycle since which RESET_REQ_N holds the module in reset, the cycle at which WAKE_IN fell, the module's own
STANDBY request in progress (R67), the application complex in reset and the cycle at which its watchdog was last restarted, the
power-fail sequence, engines stopped, thermal sites with the cycles of the last stage change and since which every site is cool, a thermal
shutdown in effect, BAT_A below 6 V, the safety island's own way out of UNLOAD_SYNC ramping (R57, R60), whether the pending request and
the end of the unload are the module's own (R67), and whether boot step 7 still waits for its frame boundary (R71). -/
structure PmState where
  statCyc  : Option Nat := none
  deferred : Bool := false
  ramping  : Bool := false
  orig     : Nat := 6
  bootCyc  : Option Nat := none
  bootTgt  : Nat := 4
  rstLow   : Option Nat := none
  wakeLow  : Option Nat := none
  stbyReq  : Bool := false
  appReset : Bool := false
  wdogCyc  : Nat := 0
  pf       : Option PfSeq := none
  stopped  : Bool := false
  sites    : SMap SiteSt := []
  stageCyc : Nat := 0
  coolCyc  : Option Nat := none
  hot      : Bool := false
  batALow  : Bool := false
  batBLow  : Bool := false
  wakes    : List Nat := []
  outAt    : Option Nat := none
  exit     : Bool := false
  ownReq   : Bool := false
  ownEnd   : Bool := false
  loopsDue : Bool := false
  deriving DecidableEq, Repr
/-- A value staged for publication at a later tick (R10, R93): the tick, the key in `pub` and the value. -/
structure Staged where
  tick : Nat
  key  : Nat
  v    : PubV
  deriving DecidableEq, Repr

/-- What the replay boundary holds (R8, R506): tick index, DTB cycle, SFC, mode, the boundary's registers, tile memory, published and
staged values, and the state of the control engines, the governor, the arbiter, yield, steering, the safety loop, the fusion
sequencer, the valve drive and the CAN tables. -/
structure Bnd where
  tick  : Nat
  cyc   : Nat
  sfc   : Nat
  mode  : Nat
  regs  : RegFile
  tile  : SMap Byte
  pub   : SMap PubV
  stage : List Staged
  gw    : GwState
  ce    : CeState
  gov   : GovState
  mfp   : MfpState
  yld   : YldState
  steer : SteerState
  saf   : SafState
  fus   : FusState
  vlv   : VlvState
  can   : CanState
  deriving DecidableEq, Repr

/-- A checkpoint of the recording (R506, R512): segment, number, tick index, PART and MAJOR of the recorder, the loops it
holds with their engines, the boundary. -/
structure Ckpt where
  seg   : Nat
  num   : Nat
  part  : Nat
  major : Nat
  bnd   : Bnd
  deriving DecidableEq, Repr

/-- REPLAY (R512–R517): the checkpoints kept, the live boundary saved at F0, the records still to be delivered, the replay event list (a
ring of 4 096, oldest first), the end reason pending, whether the checkpoint is loaded, the live tick index, the tick index it starts at,
the recorded SFC, the outputs of the present tick, the recorded mode, the recorded OUT level (R508), and the safety loop of the
replayed image (R470). -/
structure RplState where
  ckpts  : List Ckpt := []
  live   : Option Bnd := none
  recs   : List TabRec := []
  events : List EvRec := []
  endBy  : Option Nat := none
  loaded : Bool := false
  liveTick : Nat := 0
  startAt : Nat := 0
  sfc    : Nat := 0
  outs   : List TabRec := []
  bndMode : Nat := 3
  digest : Bool := false
  saf    : SafState := {}
  facet  : List TabRec := []
  deriving DecidableEq, Repr
/-- The state of the module. `regs` holds every register (R14), `mem` LPDDR5 and tile memory by 40-bit address (R352; an
unlisted byte reads 0), `pub` the published value of every source and port (R93), `stage` what is published at a later tick.
`freeCtr` is the MODEL's own counter for fresh free values, and `pending` the queue of commands waiting. -/
structure State where
  regs    : RegFile := []
  mem     : SMap Byte := []
  pub     : SMap PubV := []
  stage   : List Staged := []
  fab     : FabState := {}
  clk     : ClkState := {}
  gw      : GwState := {}
  ce      : CeState := {}
  uin     : UinState := {}
  gov     : GovState := {}
  mfp     : MfpState := {}
  yld     : YldState := {}
  gns     : GnsState := {}
  steer   : SteerState := {}
  cam     : CamState := {}
  fus     : FusState := {}
  flr     : FlrState := {}
  dma     : DmaState := {}
  can     : CanState := {}
  eth     : EthState := {}
  vhp     : VhpState := {}
  vlv     : VlvState := {}
  lsw     : LswState := {}
  saf     : SafState := {}
  dsp     : DspState := {}
  bst     : BstState := {}
  evr     : EvrState := {}
  tab     : TabState := {}
  rpl     : RplState := {}
  upd     : UpdState := {}
  pm      : PmState := {}
  freeCtr : Nat := 0
  pending : List Instr := []
  deriving DecidableEq, Repr

/-- The module right after reset: every register at its reset value (`regs` lists none), nothing in memory, nothing
published, BOOT at boot step 1, and no command waiting. -/
def State.reset : State := {}

/-- Reasons for which a run stops with a fault. The spec names none for this block (an access to an address that does not
exist is answered by the fabric, R28), so no command raises one; the one constructor is kept for a state whose memory is
not in its canonical form, which no step produces. Safe. -/
inductive Fault where
  /-- Raised by no command of this model. Safe: a machine that stops proves nothing. -/
  | brokenMemory
  deriving DecidableEq, Repr

/-- Reasons for which a command is not executed. -/
inductive Refusal where
  /-- The command has no meaning in the model yet (raised only by an arm of `exec`). Safe: the model stops. -/
  | notModelled (mnemonic : String)
  deriving DecidableEq, Repr

end Sys2Proof.Machine
end

