-- ==== Sys2Proof/Machine/Ops.lean ====
section
/-! DEFINITION. The named operations every command is written over: registers and their fields, published values, memory,
time, return codes (R30), modes (R53) and the staging of values for a later tick (R10). -/

namespace Sys2Proof.Machine

/-- What a command answers. -/
abbrev Out := Host.Outcome State Fault Refusal

/-! ### Bits -/

/-- Bits [lo + width − 1 : lo] of `w`. -/
def bits (w lo width : Nat) : Nat := w / 2 ^ lo % 2 ^ width

/-- `w` with bits [lo + width − 1 : lo] replaced by the low bits of `v`. -/
def setBits (w lo width v : Nat) : Nat :=
  w / 2 ^ (lo + width) * 2 ^ (lo + width) + v % 2 ^ width * 2 ^ lo + w % 2 ^ lo

/-- Bit `i` of `w`. -/
def bit (w i : Nat) : Bool := w / 2 ^ i % 2 == 1

/-- The two's complement reading of the low `n` bits of `w`. -/
def sint (n w : Nat) : Int :=
  let x := w % 2 ^ n
  if x < 2 ^ (n - 1) then (x : Int) else (x : Int) - (2 ^ n : Nat)

/-- The low `n` bits of an integer, in two's complement. -/
def unsint (n : Nat) (x : Int) : Nat := (x % ((2 ^ n : Nat) : Int)).toNat

/-- A word from an integer, in two's complement. -/
def wordOfInt (x : Int) : Word := BitVec.ofNat 32 (unsint 32 x)

/-- 1 for true, 0 for false. -/
def b2n (b : Bool) : Nat := if b then 1 else 0

/-- `x` saturated to `n` bits, unsigned. -/
def satU (n x : Nat) : Nat := min x (2 ^ n - 1)

/-- `x` limited to `lo` to `hi`; values outside act as the nearest limit. -/
def clampN (lo hi x : Nat) : Nat := max lo (min hi x)

/-- The number of set bits among the low `n` bits of `w`. -/
def popcount : Nat → Nat → Nat
  | 0, _ => 0
  | n + 1, w => (if bit w n then 1 else 0) + popcount n w

/-- The numbers below `n` whose bit is set in `w`, in ascending order. -/
def bitList (n w : Nat) : List Nat := (List.range n).filter (bit w)

/-! ### Writing one part of the state -/

/-- Replace `fab`. -/
def State.setFab (s : State) (x : FabState) : State := { s with fab := x }

/-- Replace `clk`. -/
def State.setClk (s : State) (x : ClkState) : State := { s with clk := x }

/-- Replace `gw`. -/
def State.setGw (s : State) (x : GwState) : State := { s with gw := x }

/-- Replace `ce`. -/
def State.setCe (s : State) (x : CeState) : State := { s with ce := x }

/-- Replace `uin`. -/
def State.setUin (s : State) (x : UinState) : State := { s with uin := x }

/-- Replace `gov`. -/
def State.setGov (s : State) (x : GovState) : State := { s with gov := x }

/-- Replace `mfp`. -/
def State.setMfp (s : State) (x : MfpState) : State := { s with mfp := x }

/-- Replace `yld`. -/
def State.setYld (s : State) (x : YldState) : State := { s with yld := x }

/-- Replace `gns`. -/
def State.setGns (s : State) (x : GnsState) : State := { s with gns := x }

/-- Replace `steer`. -/
def State.setSteer (s : State) (x : SteerState) : State := { s with steer := x }

/-- Replace `cam`. -/
def State.setCam (s : State) (x : CamState) : State := { s with cam := x }

/-- Replace `fus`. -/
def State.setFus (s : State) (x : FusState) : State := { s with fus := x }

/-- Replace `flr`. -/
def State.setFlr (s : State) (x : FlrState) : State := { s with flr := x }

/-- Replace `dma`. -/
def State.setDma (s : State) (x : DmaState) : State := { s with dma := x }

/-- Replace `can`. -/
def State.setCan (s : State) (x : CanState) : State := { s with can := x }

/-- Replace `eth`. -/
def State.setEth (s : State) (x : EthState) : State := { s with eth := x }

/-- Replace `vhp`. -/
def State.setVhp (s : State) (x : VhpState) : State := { s with vhp := x }

/-- Replace `vlv`. -/
def State.setVlv (s : State) (x : VlvState) : State := { s with vlv := x }

/-- Replace `lsw`. -/
def State.setLsw (s : State) (x : LswState) : State := { s with lsw := x }

/-- Replace `saf`. -/
def State.setSaf (s : State) (x : SafState) : State := { s with saf := x }

/-- Replace `dsp`. -/
def State.setDsp (s : State) (x : DspState) : State := { s with dsp := x }

/-- Replace `bst`. -/
def State.setBst (s : State) (x : BstState) : State := { s with bst := x }

/-- Replace `evr`. -/
def State.setEvr (s : State) (x : EvrState) : State := { s with evr := x }

/-- Replace `tab`. -/
def State.setTab (s : State) (x : TabState) : State := { s with tab := x }

/-- Replace `rpl`. -/
def State.setRpl (s : State) (x : RplState) : State := { s with rpl := x }

/-- Replace `upd`. -/
def State.setUpd (s : State) (x : UpdState) : State := { s with upd := x }

/-- Replace `pm`. -/
def State.setPm (s : State) (x : PmState) : State := { s with pm := x }

/-! ### Registers (R4, R14, R16) -/

/-- The register at address `a`. -/
def State.reg (s : State) (a : Nat) : Word := smGet (resetVal a) s.regs a

/-- Store a word into the register at address `a`. -/
def State.setReg (s : State) (a : Nat) (w : Word) : State := { s with regs := smPut (resetVal a) s.regs a w }

/-- A field of a register, as a number. -/
def State.fld (s : State) (f : Fld) : Nat := bits (s.reg f.addr).toNat f.lo f.width

/-- Store a number into a field of a register; the register's other bits keep their value. -/
def State.setFld (s : State) (f : Fld) (v : Nat) : State :=
  s.setReg f.addr (BitVec.ofNat 32 (setBits (s.reg f.addr).toNat f.lo f.width v))

/-- A one-bit field, as a Boolean. -/
def State.flag (s : State) (f : Fld) : Bool := s.fld f == 1

/-- Set a one-bit field from a Boolean. -/
def State.setFlag (s : State) (f : Fld) (b : Bool) : State := s.setFld f (b2n b)

/-- Count in a saturating field (R574). -/
def State.count (s : State) (f : Fld) (n : Nat := 1) : State := s.setFld f (satU f.width (s.fld f + n))

/-- Set bit `k` of the interrupt-pending register at `a` (R574; which bit is whose is the model's own numbering, log 4). -/
def State.raise (s : State) (a k : Nat) : State := s.setReg a (s.reg a ||| BitVec.ofNat 32 (2 ^ k))

/-- The 64-bit value held by the registers at `lo` and `hi` (R16). -/
def State.reg64 (s : State) (lo hi : Nat) : Nat := (s.reg lo).toNat + (s.reg hi).toNat * 2 ^ 32

/-- Store a 64-bit value into the registers at `lo` and `hi`. -/
def State.setReg64 (s : State) (lo hi v : Nat) : State :=
  (s.setReg lo (BitVec.ofNat 32 v)).setReg hi (BitVec.ofNat 32 (v / 2 ^ 32))

/-! ### Return codes (R30) -/

namespace Code
abbrev ok : Nat := 0x0000
abbrev deferred : Nat := 0x0001
abbrev refused : Nat := 0x0010
abbrev cancelled : Nat := 0x0011
abbrev aborted : Nat := 0x0012
abbrev badArgument : Nat := 0x0013
abbrev fault : Nat := 0x0014
abbrev timeout : Nat := 0x0020
abbrev crossed : Nat := 0x0021
abbrev senderGone : Nat := 0x0022
abbrev roleChanged : Nat := 0x0030
abbrev departed : Nat := 0x0031
abbrev overlapReject : Nat := 0x0040
abbrev frameSkipped : Nat := 0x0041
abbrev slipped : Nat := 0x0050
abbrev holdover : Nat := 0x0051
abbrev step : Nat := 0x0052
end Code

/-! ### Modes (R53) -/

namespace Mode
abbrev off : Nat := 0x0
abbrev standby : Nat := 0x1
abbrev boot : Nat := 0x2
abbrev service : Nat := 0x3
abbrev road : Nat := 0x4
abbrev fieldManual : Nat := 0x5
abbrev fieldAssist : Nat := 0x6
abbrev fieldAuto : Nat := 0x7
abbrev unloadSync : Nat := 0x8
abbrev replay : Nat := 0x9
abbrev activate : Nat := 0xA
abbrev safeStop : Nat := 0xB
end Mode

/-- The current mode (SYS_MODE_STAT.MODE). -/
def State.mode (s : State) : Nat := s.fld Fd.SYS_MODE_STAT_MODE

/-- The mode that decisions inside the replay boundary follow: in REPLAY the recorded mode (R514). -/
def State.bndMode (s : State) : Nat := match s.rpl.live with
  | some _ => s.rpl.bndMode
  | none => s.mode

/-- The mode that a command of the boundary meets: the recorded one while a recording is delivered. -/
def State.cmdMode (s : State) : Nat := if s.rpl.loaded then s.rpl.bndMode else s.mode

/-- A driverless mode: FIELD_AUTO or UNLOAD_SYNC. -/
def driverless (m : Nat) : Bool := m == Mode.fieldAuto || m == Mode.unloadSync

/-- A FIELD mode, 0x5 to 0x8 (R58, R498). -/
def isField (m : Nat) : Bool := 0x5 ≤ m && m ≤ 0x8

/-! ### Time (R36–R45) -/

/-- DTB cycles per millisecond and per microsecond. -/
abbrev cycMs : Nat := 160000
abbrev cycUs : Nat := 160
abbrev cycS : Nat := 160000000

/-- Device time in ns. -/
def State.dtNs (s : State) : Nat := s.clk.dtFp / 2 ^ 32

/-- Device time in ns `sub` DTB cycles after the present tick boundary. -/
def State.dtSub (s : State) (sub : Nat) : Nat :=
  (s.clk.dtFp + ((sub : Int) * 6250 * 2 ^ 32 * (2 ^ 40 + s.clk.k) / (1000 * 2 ^ 40)).toNat) / 2 ^ 32

/-- DT inside the replay boundary: in REPLAY that of the replayed tick (R514). -/
def State.bndDt (s : State) : Nat := if s.rpl.live.isSome then s.clk.tick * 50000 else s.dtNs

/-- The live tick index: in REPLAY the boundary's own index is kept apart from it (R514). -/
def State.liveTick (s : State) : Nat := if s.rpl.live.isSome then s.rpl.liveTick else s.clk.tick

/-- The DTB cycle count. -/
def State.cyc (s : State) : Nat := s.clk.cyc

/-- At least `n` DTB cycles have passed since cycle `t`. -/
def State.since (s : State) (t n : Nat) : Bool := t + n ≤ s.clk.cyc

/-- The time state (CLK_TIME_STAT.STATE). -/
def State.timeState (s : State) : Nat := s.fld Fd.CLK_TIME_STAT_STATE

/-! ### Published values (R93, R94) -/

/-- The key of quantity `idx` of route class `cls` in `State.pub`. -/
def pubKey (cls idx : Nat) : Nat := cls * 2 ^ 28 + idx

/-- The published value at a key. -/
def State.pubAt (s : State) (k : Nat) : PubV := smGet {} s.pub k

/-- Publish a value now. -/
def State.setPub (s : State) (k : Nat) (v : PubV) : State := { s with pub := smPut {} s.pub k v }

/-- Publish `val` with its qualifiers now, stamped with the present tick and its DT (R9, R93). -/
def State.publish (s : State) (k : Nat) (val : Word) (valid : Bool := true) (code : Nat := Code.ok) : State :=
  s.setPub k { val := val, valid := valid, code := code, tick := some s.clk.tick, dt := s.bndDt }

/-- Stage `val` for publication at a later tick (R10). -/
def State.stageAt (s : State) (tick k : Nat) (val : Word) (valid : Bool := true) (code : Nat := Code.ok) : State :=
  { s with stage := s.stage ++ [{ tick := tick, key := k, v := { val := val, valid := valid, code := code, tick := some tick } }] }

/-- Publish what is staged for the present tick or earlier, oldest first. -/
def State.publishStaged (s : State) : State :=
  let due := s.stage.filter (fun x => x.tick ≤ s.clk.tick)
  due.foldl (fun a x => a.setPub x.key { x.v with dt := s.bndDt }) { s with stage := s.stage.filter (fun x => s.clk.tick < x.tick) }

/-- Clear VALID of a published value, keeping the value. -/
def State.unvalid (s : State) (k : Nat) : State := s.setPub k { s.pubAt k with valid := false }

/-- AGE in ticks, saturating at 4 095; 4 095 while never published (R94). -/
def State.ageOf (s : State) (v : PubV) : Nat := match v.tick with
  | none => 4095
  | some t => min 4095 (s.clk.tick - t)

/-! ### Memory (R15, R352): bytes by 40-bit address, little-endian -/

/-- The byte at an address; a byte nothing has written reads 0. -/
def State.byteAt (s : State) (a : Nat) : Byte := smGet 0 s.mem a

/-- Store a byte. -/
def State.setByte (s : State) (a : Nat) (b : Byte) : State := { s with mem := smPut 0 s.mem a b }

/-- `n` bytes from address `a` upward. -/
def State.bytesAt (s : State) (a : Nat) : Nat → List Byte
  | 0 => []
  | n + 1 => s.byteAt a :: s.bytesAt (a + 1) n

/-- Store bytes from address `a` upward. -/
def State.setBytes (s : State) (a : Nat) : List Byte → State
  | [] => s
  | b :: r => (s.setByte a b).setBytes (a + 1) r

/-- A little-endian number from bytes. -/
def leNat : List Byte → Nat
  | [] => 0
  | b :: r => b.toNat + 256 * leNat r

/-- The `n` bytes of a number, little-endian. -/
def leBytes : Nat → Nat → List Byte
  | 0, _ => []
  | n + 1, v => BitVec.ofNat 8 v :: leBytes n (v / 256)

/-- The 32-bit word at an address. -/
def State.wordAt (s : State) (a : Nat) : Word := BitVec.ofNat 32 (leNat (s.bytesAt a 4))

/-- Store a 32-bit word. -/
def State.setWord (s : State) (a : Nat) (w : Word) : State := s.setBytes a (leBytes 4 w.toNat)

/-- Store consecutive words. -/
def State.setWords (s : State) (a : Nat) : List Word → State
  | [] => s
  | w :: r => (s.setWord a w).setWords (a + 4) r

/-- `n` consecutive words from address `a`. -/
def State.wordsAt (s : State) (a : Nat) : Nat → List Word
  | 0 => []
  | n + 1 => s.wordAt a :: s.wordsAt (a + 4) n

/-! ### Free values and small list helpers -/

/-- A fresh free value (an uninterpreted word) and the state with the counter advanced. -/
def State.fresh (s : State) : Word × State := (Config.freeWord s.freeCtr, { s with freeCtr := s.freeCtr + 1 })

/-- `l` padded with `d` or cut to exactly `n` elements. -/
def padTo {α : Type} (d : α) : Nat → List α → List α
  | 0, _ => []
  | n + 1, [] => d :: padTo d n []
  | n + 1, x :: r => x :: padTo d n r

/-- Replace element `i` of a list (unchanged where it has none). -/
def setAt {α : Type} (l : List α) (i : Nat) (v : α) : List α := l.set i v

/-- Fold a state over the numbers below `n`, in ascending order. -/
def State.forN (s : State) (n : Nat) (f : State → Nat → State) : State := (List.range n).foldl f s

end Sys2Proof.Machine
end

