-- ==== Sys2Proof/Machine/Crc.lean ====
section
/-! DEFINITION. The two digests the spec names by their standards: CRC-32C and SHA-256 (FIPS 180-4). -/

namespace Sys2Proof.Machine

/-- Shift one bit of the reflected CRC-32C register (polynomial 0x1EDC6F41, reflected 0x82F63B78). -/
def crcShift : Nat → Word → Word
  | 0, c => c
  | n + 1, c => crcShift n (if c.toNat % 2 = 1 then (c >>> 1) ^^^ 0x82F63B78#32 else c >>> 1)

/-- CRC-32C of bytes. -/
def crc32c (l : List Byte) : Word := ~~~(l.foldl (fun c b => crcShift 8 (c ^^^ b.zeroExtend 32)) 0xFFFFFFFF#32)

/-- The bytes of words, each little-endian. -/
def wordsBytes (l : List Word) : List Byte := l.flatMap (fun w => leBytes 4 w.toNat)

/-- Words from bytes, little-endian; a last part is padded with zeros. -/
def bytesWords : Nat → List Byte → List Word
  | 0, _ => []
  | n + 1, l => BitVec.ofNat 32 (leNat (l.take 4)) :: bytesWords n (l.drop 4)

/-- The first primes, by trial division: `n` candidates from `c` upward, those that no prime found so far (newest first) divides. -/
def primesFrom : Nat → Nat → List Nat → List Nat
  | 0, _, ps => ps.reverse
  | n + 1, c, ps => primesFrom n (c + 1) (if ps.any (fun p => c % p == 0) then ps else c :: ps)

/-- The 64 primes up to 311. -/
def shaPrimes : List Nat := primesFrom 310 2 []

/-- The largest r < 2^n above `acc` with r^k ≤ x, bit by bit from the top. -/
def rootBits (k x : Nat) : Nat → Nat → Nat
  | 0, acc => acc
  | n + 1, acc => rootBits k x n (if (acc + 2 ^ n) ^ k ≤ x then acc + 2 ^ n else acc)

/-- The first 32 bits of the fractional part of the `k`-th root of `p`, as FIPS 180-4 forms its constants. -/
def rootFrac (k p : Nat) : Nat := rootBits k (p * 2 ^ (32 * k)) 37 0 % 2 ^ 32

/-- The round constants of SHA-256: from the cube roots of the first 64 primes. -/
def shaK : List Nat := shaPrimes.map (rootFrac 3)

/-- The initial hash value of SHA-256: from the square roots of the first eight primes. -/
def shaH0 : List Word := (shaPrimes.take 8).map (fun p => BitVec.ofNat 32 (rootFrac 2 p))

/-- Rotate right. -/
def rotr (w : Word) (n : Nat) : Word := w.rotateRight n

/-- Extend the message schedule by `n` words; the schedule is kept newest first. -/
def shaSched : Nat → List Word → List Word
  | 0, w => w
  | n + 1, w =>
    let g := fun (k : Nat) => w.getD (k - 1) 0
    let s0 := rotr (g 15) 7 ^^^ rotr (g 15) 18 ^^^ (g 15 >>> 3)
    let s1 := rotr (g 2) 17 ^^^ rotr (g 2) 19 ^^^ (g 2 >>> 10)
    shaSched n ((g 16 + s0 + g 7 + s1) :: w)

/-- One round of SHA-256 on a … h. -/
def shaRound (v : List Word) (x : Nat × Word) : List Word :=
  match v with
  | [a, b, c, d, e, f, g, h] =>
    let s1 := rotr e 6 ^^^ rotr e 11 ^^^ rotr e 25
    let ch := (e &&& f) ^^^ (~~~e &&& g)
    let t1 := h + s1 + ch + BitVec.ofNat 32 x.1 + x.2
    let s0 := rotr a 2 ^^^ rotr a 13 ^^^ rotr a 22
    let mj := (a &&& b) ^^^ (a &&& c) ^^^ (b &&& c)
    [t1 + s0 + mj, a, b, c, d + t1, e, f, g]
  | _ => v

/-- One block of 64 bytes. -/
def shaBlock (h : List Word) (b : List Byte) : List Word :=
  let w0 := (List.range 16).map (fun k => BitVec.ofNat 32 (leNat ((b.drop (4 * k)).take 4).reverse))
  let w := (shaSched 48 w0.reverse).reverse
  let v := (shaK.zip w).foldl shaRound h
  (h.zip v).map (fun p => p.1 + p.2)

/-- Hash `n` blocks. -/
def shaBlocks : Nat → List Word → List Byte → List Word
  | 0, h, _ => h
  | n + 1, h, l => shaBlocks n (shaBlock h (l.take 64)) (l.drop 64)

/-- SHA-256 of bytes. -/
def sha256 (l : List Byte) : List Byte :=
  let pad := (55 + 64 - l.length % 64) % 64
  let m := l ++ [0x80] ++ List.replicate pad 0 ++ (leBytes 8 (8 * l.length)).reverse
  (shaBlocks (m.length / 64) shaH0 m).flatMap (fun w => (leBytes 4 w.toNat).reverse)

end Sys2Proof.Machine
end

