-- ==== Sys2Proof/Machine/Evlog.lean ====
section
/-! DEFINITION. The event log (R492–R497) and the capture of records by the Tabroth recorder (R504–R511): the two operations
every other family calls. -/

namespace Sys2Proof.Machine

/-! ### Tabroth records -/

/-! Record types of R504. -/
namespace TabT
abbrev ckpt : Nat := 0x01
abbrev latch : Nat := 0x02
abbrev cmd : Nat := 0x03
abbrev buf : Nat := 0x04
abbrev facet : Nat := 0x05
abbrev fault : Nat := 0x06
abbrev out : Nat := 0x07
abbrev mark : Nat := 0x08
end TabT

/-- The size of the recorder's buffer (R507). -/
abbrev tabBufSize : Nat := 64 * 2 ^ 20

/-! What a MARK record stands for (the numbering is the model's own): a step of DT, a time state, a change of the OUT level, a trigger, a hold, the end of a
segment, a trigger that made no hold. -/
namespace TabM
abbrev step : Nat := 1
abbrev timeState : Nat := 2
abbrev outLevel : Nat := 3
abbrev trigger : Nat := 4
abbrev hold : Nat := 5
abbrev segEnd : Nat := 6
abbrev holdMiss : Nat := 7
end TabM

/-- The publications of samples and the outputs of the valve drive are digests (R508): by TAB_CFG.OUT or by the fill; in REPLAY as recorded. -/
def digestNow (s : State) : Bool :=
  if s.rpl.live.isSome then s.rpl.digest else s.flag Fd.TAB_CFG_OUT || s.flag Fd.TAB_STAT_DIGEST_NOW

/-- The unit of a digest record (R515, KIND 7; the numbering of units is the model's own). -/
def digestUnit (unit : Nat) : Nat := 2 ^ 48 + unit

/-- Bytes of a record: the header, the unit and the data words. -/
def TabRec.bytes (r : TabRec) : Nat := 16 + 4 * r.data.length

/-- Capture a record while a segment is open (R504). The buffer fill shows in TAB_STAT.FILL. In REPLAY nothing is recorded; an output is kept for its
comparison (R515). -/
def tabRecAt (s : State) (tick type unit : Nat) (data : List Nat) : State :=
  let r : TabRec := { type := type, tick := tick, unit := unit, data := data, seg := s.fld Fd.TAB_SEG_V }
  if s.rpl.live.isSome then
    if type = TabT.out ∧ s.rpl.loaded = true then s.setRpl { s.rpl with outs := s.rpl.outs ++ [r] } else s
  else if s.tab.segOpen then
    let n := s.tab.bufBytes + r.bytes
    let s := s.count (Fd.TAB_REC_TYPE_V (type - 1))
    (s.setTab { s.tab with buf := s.tab.buf ++ [r], bufBytes := n }).setFld Fd.TAB_STAT_FILL (min 100 (n * 100 / tabBufSize))
  else s

/-- Capture a record of the present tick. -/
def tabRec (s : State) (type unit : Nat) (data : List Nat) : State := tabRecAt s s.clk.tick type unit data

/-- Capture a write or a message that becomes visible inside the boundary at the next tick boundary, or at the frame boundary still to come. -/
def tabCmd (s : State) (unit : Nat) (data : List Nat) : State :=
  tabRecAt s (if s.clk.frameAt = some s.clk.tick then s.clk.tick else s.clk.tick + 1) TabT.cmd unit data

/-- One output record with a CRC-32C over the words of a sample's publications, or of a bank's outputs of a tick (R508). -/
def tabDigest (s : State) (unit : Nat) (ws : List Nat) : State :=
  tabRec s TabT.out (digestUnit unit) [(crc32c (ws.flatMap (leBytes 4))).toNat]

/-- The block in which what is captured now will begin. -/
def tabBlockNow (s : State) : Nat := s.tab.blocks + s.tab.bufBytes / 65504

/-- The blocks kept by holds (R510). -/
def heldBlocks (h : SMap TabHold) : Nat := h.foldl (fun a x => a + (x.2.toBlk + 1 - x.2.fromBlk)) 0

/-- The first hold slot 0–3 that is free. -/
def freeHold (h : SMap TabHold) : Option Nat := (List.range 4).find? (fun k => !h.any (fun x => x.1 == k))

/-- The last checkpoint at or before tick `t`, as its tick and block; the oldest present otherwise. -/
def ckptBefore (l : List (Nat × Nat)) (t : Nat) : Nat × Nat :=
  l.foldl (fun a x => if x.1 ≤ t then x else a) (l.headD (0, 0))

/-- The hold an unlisted slot stands for. -/
def noHold : TabHold := { fromTick := 0, toTick := 0, fromBlk := 0, toBlk := 0 }

/-- The blocks that holds may keep: 32 GB (R510). -/
abbrev holdBlocks : Nat := 32 * 10 ^ 9 / 65536

/-- Make a hold around a trigger (R510), or set HOLD_MISS and write a MARK when none is free or 32 GB would be exceeded. -/
def tabHold (s : State) (k : Nat) : State :=
  let pre := min 3600 (s.fld (Fd.TAB_TRIG_TIME_PRE_S k))
  let post := min 3600 (s.fld (Fd.TAB_TRIG_TIME_POST_S k))
  let c := ckptBefore s.tab.ckpts (s.liveTick - pre * 20000)
  let now := tabBlockNow s
  let miss := tabRec (s.setFlag Fd.TAB_STAT_HOLD_MISS true) TabT.mark TabM.holdMiss [k]
  match freeHold s.tab.holds with
  | some h =>
    if heldBlocks s.tab.holds + (now + 1 - c.2) ≤ holdBlocks then
      let x : TabHold := { fromTick := c.1, toTick := s.liveTick + post * 20000, fromBlk := c.2, toBlk := now }
      let s := ((s.setTab { s.tab with holds := smPut noHold s.tab.holds h x }).setFld (Fd.TAB_HOLD_FIRST_V h) c.2).setFld (Fd.TAB_HOLD_LAST_V h) now
      tabRec (s.raise (Ra.TAB_INT_PEND 0) 1) TabT.mark TabM.hold [h, c.2, now]
    else miss
  | none => miss

/-- Start a frame window around a trigger (R511); a trigger during a running window is counted and ignored. -/
def tabWindow (s : State) : State := match s.tab.window with
  | some _ => (s.count Fd.TAB_TRIG_IGNORED_V).setFld Fd.TAB_WIN_STAT_V 1
  | none =>
    let pre := s.fld Fd.TAB_FW_CFG_PRE_MS * 10000000
    let post := s.fld Fd.TAB_FW_CFG_POST_MS * 10000000
    let w : TabWin := { num := s.tab.winNum, cams := s.fld Fd.TAB_FW_CFG_CAM, fromDt := s.dtNs - pre, toDt := s.dtNs + post }
    (s.setTab { s.tab with winNum := s.tab.winNum + 1, window := some w }).setFld Fd.TAB_WIN_STAT_V 1

/-- A frame of camera `n` has ended in a ring slot: a running window whose span takes its arrival stamp will copy it (R511). -/
def winTakes (s : State) (n slot arrDt : Nat) : State := match s.tab.window with
  | some w =>
    if w.scanned && bit w.cams n && decide (w.fromDt ≤ arrDt ∧ arrDt ≤ w.toDt) then
      s.setTab { s.tab with window := some { w with todo := w.todo ++ [(n, slot, arrDt)] } }
    else s
  | none => s

/-- A ring slot of camera `n` is written over: a frame in it that has not been copied is missing (R511). -/
def winLoses (s : State) (n slot : Nat) : State := match s.tab.window with
  | some w =>
    let gone := fun (x : Nat × Nat × Nat) => x.1 == n && x.2.1 == slot
    if w.todo.any gone then
      s.setTab { s.tab with window := some { w with todo := w.todo.filter (fun x => !gone x), missing := w.missing + (w.todo.filter gone).length } }
    else s
  | none => s

/-- A new event record of `code` triggers holds and frame windows (R510, TAB_TRIGGER). -/
def tabTrigger (s : State) (code : Nat) : State :=
  s.forN 8 (fun s k =>
    if s.fld (Fd.TAB_TRIG_CODE k) = code ∧ code ≠ 0 then
      let s := tabRec (s.raise (Ra.TAB_INT_PEND 0) 0) TabT.mark TabM.trigger [k, code]
      let s := if s.flag (Fd.TAB_TRIG_HOLD k) then tabHold s k else s
      if s.flag (Fd.TAB_TRIG_FW k) then tabWindow s else s
    else s)

/-! ### The event log -/

/-! Event codes of R496 and R542. -/
namespace Ev
abbrev trap : Nat := 0x0201
abbrev loopStop : Nat := 0x0202
abbrev plausTrip : Nat := 0x0203
abbrev engEvac : Nat := 0x0204
abbrev measDegraded : Nat := 0x0205
abbrev measRestored : Nat := 0x0206
abbrev fnDegraded : Nat := 0x0207
abbrev fnRestored : Nat := 0x0208
abbrev fnReq : Nat := 0x0209
abbrev measSingle : Nat := 0x020A
abbrev measPaired : Nat := 0x020B
abbrev tileUe : Nat := 0x020C
abbrev lockout : Nat := 0x0301
abbrev resetDone : Nat := 0x0302
abbrev resetPress : Nat := 0x0303
abbrev steerDisengage : Nat := 0x0304
abbrev modeChange : Nat := 0x0305
abbrev inputFault : Nat := 0x0601
abbrev inputOk : Nat := 0x0602
abbrev pairUnlock : Nat := 0x0701
abbrev wheelSlip : Nat := 0x0801
abbrev wheelRestored : Nat := 0x0802
abbrev parLimit : Nat := 0x0803
abbrev fusTaskStop : Nat := 0x0804
abbrev fusHang : Nat := 0x0805
abbrev antFault : Nat := 0x0901
abbrev stranger : Nat := 0x0A01
abbrev busOff : Nat := 0x0C01
abbrev busOn : Nat := 0x0C02
abbrev lswLatch : Nat := 0x0E01
abbrev clamp : Nat := 0x0E02
abbrev batAOver : Nat := 0x0E03
abbrev valveIlim : Nat := 0x0F01
abbrev valveReject : Nat := 0x0F02
abbrev valveNokink : Nat := 0x0F03
abbrev valveFault : Nat := 0x0F04
abbrev panelFault : Nat := 0x1001
abbrev stripWorn : Nat := 0x1002
abbrev stripLedgerLost : Nat := 0x1003
abbrev thermal : Nat := 0x1101
abbrev powerFail : Nat := 0x1201
abbrev reset : Nat := 0x1202
abbrev resetStuck : Nat := 0x1203
abbrev reserveFail : Nat := 0x1204
abbrev streamSlip : Nat := 0x1205
abbrev timeSetRefused : Nat := 0x1206
abbrev logClear : Nat := 0x1301
abbrev clearDenied : Nat := 0x1302
abbrev storm : Nat := 0x1303
abbrev tabGap : Nat := 0x1304
abbrev replayStart : Nat := 0x1305
abbrev replayEnd : Nat := 0x1306
abbrev frameWindow : Nat := 0x1307
abbrev updManifest : Nat := 0x1401
abbrev updVerified : Nat := 0x1402
abbrev updPartBad : Nat := 0x1403
abbrev updActivate : Nat := 0x1404
abbrev updAbandon : Nat := 0x1405
abbrev updConfirmed : Nat := 0x1406
abbrev updFallback : Nat := 0x1407
abbrev updSafActivate : Nat := 0x1408
abbrev calWrite : Nat := 0x1410
abbrev calRefused : Nat := 0x1411
abbrev calMissing : Nat := 0x1412
abbrev tokenOk : Nat := 0x1420
abbrev tokenDenied : Nat := 0x1421
abbrev debugOpen : Nat := 0x1422
abbrev debugClose : Nat := 0x1423
end Ev

/-! Initiator identifiers used as SRC (R26, R492). -/
namespace Src
abbrev ce0 : Nat := 0x04
abbrev mirror : Nat := 0x0C
abbrev fusion : Nat := 0x0D
abbrev link : Nat := 0x0E
abbrev tabroth : Nat := 0x36
abbrev unit : Nat := 0x3E
end Src

/-- Slots of the event log (R493). -/
abbrev logSlots : Nat := 131072

/-- Codes whose records are never open (R494). -/
def neverOpen (code : Nat) : Bool :=
  [Ev.lockout, Ev.resetDone, Ev.powerFail, Ev.reset, Ev.logClear, Ev.clearDenied, Ev.tabGap, Ev.replayStart,
    Ev.replayEnd].contains code

/-- The record with sequence number `seq`. -/
def State.logAt (s : State) (seq : Nat) : EvRec := smGet {} s.evr.log (seq % logSlots)

/-- The open record an event merges into (R494). -/
def openFor (s : State) (code src d0 d1 : Nat) : Option EvOpen :=
  s.evr.openRecs.find? (fun o =>
    let r := s.logAt o.seq
    decide (s.fld Fd.EVR_OPTIME_V < o.last + s.fld Fd.EVR_CFG_REP_WIN) && r.code == code && r.src == src && r.d0 == d0 && r.d1 == d1)

/-- Merge an event into the open record `o`: REPEAT counts, saturating, and the record's window starts again. -/
def mergeEvent (s : State) (o : EvOpen) : State :=
  let r := s.logAt o.seq
  s.setEvr { s.evr with
      log := smPut {} s.evr.log (o.seq % logSlots) { r with rept := satU 16 (r.rept + 1) },
      openRecs := s.evr.openRecs.map (fun x => if x.seq = o.seq then { x with last := s.fld Fd.EVR_OPTIME_V } else x) }

/-- The record an event writes now. -/
def newRecord (s : State) (code src d0 d1 : Nat) : EvRec :=
  { dt := s.dtNs, seq := s.fld Fd.EVR_NEXT_SEQ, code := code, src := src, tstate := s.timeState % 4, valid := true,
    optime := s.fld Fd.EVR_OPTIME_V, pcyc := s.fld Fd.EVR_PCYC_V % 2 ^ 16, rept := 0, d0 := d0 % 2 ^ 32, d1 := d1 % 2 ^ 32 }

/-- Write a new record (R493): its slot, EVR_NEXT, and on a wrapped log WRAPPED, EVR_OLDEST and EVR_OVERWR; open it unless its
code is never open or REP_WIN is 0, closing the oldest of 16 open records (R494). -/
def writeRecord (s : State) (code src d0 d1 : Nat) : State :=
  let r := newRecord s code src d0 d1
  let wrapped := (s.logAt r.seq).valid
  let log := smPut {} s.evr.log (r.seq % logSlots) r
  let opens := if neverOpen code || s.fld Fd.EVR_CFG_REP_WIN == 0 then s.evr.openRecs
    else (if 16 ≤ s.evr.openRecs.length then s.evr.openRecs.drop 1 else s.evr.openRecs) ++ [{ seq := r.seq, last := r.optime }]
  let s := (s.setEvr { s.evr with log := log, openRecs := opens }).setFld Fd.EVR_NEXT_SEQ (r.seq + 1)
  let s := if wrapped then
      ((s.setFlag Fd.EVR_STAT_WRAPPED true).count Fd.EVR_OVERWR_COUNT).setFld Fd.EVR_OLDEST_SEQ (r.seq + 1 - logSlots)
    else s
  tabTrigger s code

/-- The second of OPTIME that storm counts belong to has ended: one STORM record for each code withheld in it, then the counts start anew
(R495). -/
def stormRoll (s : State) : State :=
  if s.evr.stormSec = s.fld Fd.EVR_OPTIME_V then s
  else
    let held := s.evr.stormHeld
    let s := s.setEvr { s.evr with stormSec := s.fld Fd.EVR_OPTIME_V, stormCnt := [], stormHeld := [] }
    held.foldl (fun s x => writeRecord s Ev.storm Src.unit x.1 x.2) s

/-- An event raised inside the replay boundary (R8, R514): by a control engine, the Mirror pair, the fusion sequencer, or the
valve drive. -/
def insideBoundary (code src : Nat) : Bool :=
  (Src.ce0 ≤ src && src ≤ Src.fusion) || (0x0F00 ≤ code && code < 0x1000)

/-- A record as its eight words (R492). -/
def evWords (r : EvRec) : List Word := [r.dt, r.dt / 2 ^ 32, r.seq, r.code + r.src * 2 ^ 16 + r.tstate * 2 ^ 24 + b2n r.valid * 2 ^ 31,
  r.optime, r.pcyc + r.rept * 2 ^ 16, r.d0, r.d1].map (BitVec.ofNat 32)

/-- Where the replay event list lies: in the part of LPDDR5 that the module keeps for itself. -/
def relAt : Nat := 0x0800000000 + Config.relBase % 8192 * 131072

/-- Put an event on the replay event list, a ring of 4 096 records, with DT set to replay tick × 50 000 (R514). -/
def replayEvent (s : State) (code src d0 d1 : Nat) : State :=
  let r := { newRecord s code src d0 d1 with dt := s.clk.tick * 50000 }
  let l := s.rpl.events
  let l := if 4096 ≤ l.length then l.drop 1 else l
  let s := s.setWords (relAt + 32 * (s.fld Fd.TAB_REL_CNT_V % 4096)) (evWords r)
  (s.setRpl { s.rpl with events := l ++ [r] }).count Fd.TAB_REL_CNT_V

/-- Write an event to MRAM: it is merged into an open record, withheld under R495, or written. -/
def logLive (s : State) (code src d0 d1 : Nat) : State :=
  match openFor s code src d0 d1 with
  | some o => mergeEvent s o
  | none =>
    let s := stormRoll s
    let n := smGet 0 s.evr.stormCnt code
    if max 1 (s.fld Fd.EVR_CFG_STORM_LIM) ≤ n then
      s.setEvr { s.evr with stormHeld := smUpd 0 s.evr.stormHeld code (· + 1) }
    else
      writeRecord (s.setEvr { s.evr with stormCnt := smPut 0 s.evr.stormCnt code (n + 1) }) code src d0 d1

/-- An event (EVENT_RECORD): in REPLAY one of the boundary goes to the replay event list. What the live safety loop raises there is written (R470,
`logLive`). -/
def logEvent (s : State) (code src d0 d1 : Nat) : State :=
  if s.rpl.live.isSome && insideBoundary code src then replayEvent s code src d0 d1 else logLive s code src d0 d1

/-- End the Tabroth segment with a reason (R509): a MARK, TAB_GAP, and the state of TAB_STAT. -/
def tabEnd (s : State) (reason : Nat) : State :=
  if s.tab.segOpen then
    let s := tabRec s TabT.mark TabM.segEnd [reason]
    let s := s.setTab { s.tab with segOpen := false, wantOpen := some reason }
    let s := (s.setFlag Fd.TAB_STAT_RECORDING false).setFld Fd.TAB_STAT_GAP reason
    logEvent s Ev.tabGap Src.tabroth (s.fld Fd.TAB_SEG_V) reason
  else s

/-! ### Values that enter the replay boundary (R8, R9) -/

/-- A source outside the replay boundary gives a value: it is staged for the next tick boundary; while the boundary replays, live
values do not enter it (R514). The recorder stores it at the start of a sample that takes it (R505). -/
def latchNext (s : State) (key : Nat) (val : Word) (valid : Bool := true) (code : Nat := Code.ok) : State :=
  if s.rpl.live.isSome then s else s.stageAt (s.clk.tick + 1) key val valid code

/-- The same, latched at the present tick boundary (for commands that act at the boundary itself). In REPLAY the value is kept in the
live state saved at F0, where the live safety loop sees it (R470). -/
def latchNow (s : State) (key : Nat) (val : Word) (valid : Bool := true) (code : Nat := Code.ok) : State := match s.rpl.live with
  | some b =>
    let v : PubV := { val := val, valid := valid, code := code, tick := some s.rpl.liveTick, dt := s.dtNs }
    s.setRpl { s.rpl with live := some { b with pub := smPut {} b.pub key v } }
  | none => s.publish key val valid code

/-- Record the values under some keys that a starting sample takes (R505). -/
def recKeys (s : State) (keys : List Nat) : State := keys.foldl (fun s k =>
  let v := s.pubAt k
  tabRec s TabT.latch k [v.val.toNat, b2n v.valid, v.code, v.tick.getD 0]) s

/-- A published value as the live units see it. -/
def State.livePub (s : State) (k : Nat) : PubV := match s.rpl.live with
  | some b => smGet {} b.pub k
  | none => s.pubAt k

end Sys2Proof.Machine
end

