-- ==== Sys2Proof/Machine/Slots.lean ====
section
/-! DEFINITION. Loops, slots, tile windows and routes as the registers and the state hold them (R123–R145): the look-ups and the
shared operations over them, and the lock-out operation of the safety island (R462–R464). -/

namespace Sys2Proof.Machine

/-! ### Lock-out (R462–R464) -/

/-- Decide a lock-out with a cause and a detail (LOCKOUT). The outputs go off at t + 20, the MRAM latch and its secure-element
copy are written and LOCKOUT is recorded; a further cause is recorded and added to SAF_LOCK.MASK. When causes coincide in one
tick the first in the order of R462 shows. -/
def lockOut (s : State) (cause detail : Nat) : State :=
  let first := s.saf.mram.isNone || (s.saf.lockTick == some s.saf.t && decide (cause < s.fld Fd.SAF_LOCK_CAUSE))
  let s := s.setReg Ra.SAF_LOCK_MASK (s.reg Ra.SAF_LOCK_MASK ||| BitVec.ofNat 32 (2 ^ cause))
  let lo : LockOut := { cause := cause, detail := detail, off := s.saf.t + 20 }
  let s := s.setSaf { s.saf with offs := s.saf.offs ++ [lo], hist := (cause, detail, s.dtNs) :: s.saf.hist.take 7 }
  let s := if first then
      let s := s.setSaf { s.saf with mram := some (cause, detail), seCopy := some (s.saf.seCopy.getD cause), lockTick := some s.saf.t }
      let s := (s.setFld Fd.SAF_LOCK_CAUSE cause).setFld Fd.SAF_LOCK_DETAIL detail
      ((s.setFlag Fd.SAF_LOCK_LATCHED true).setFlag Fd.SAF_LOCK_READY false).setFld Fd.SAF_STAT_STATE 2
    else s
  logLive s Ev.lockout Src.mirror cause detail

/-- A lock-out is set. -/
def State.locked (s : State) : Bool := s.saf.mram.isSome || s.saf.seCopy.isSome

/-! ### Slots and windows (R123–R132) -/

namespace SlotSt
abbrev empty : Nat := 0
abbrev loaded : Nat := 1
abbrev starting : Nat := 2
abbrev running : Nat := 3
abbrev disabling : Nat := 4
abbrev disabled : Nat := 5
abbrev stopped : Nat := 6
abbrev migrating : Nat := 7
end SlotSt

/-- Every (engine, slot), in ascending order. -/
def allSlots : List (Nat × Nat) := (List.range 8).flatMap (fun e => (List.range 16).map (fun i => (e, i)))

/-- CE_SLOT[i]_STATUS.STATE on engine `e`. -/
def State.slotState (s : State) (e i : Nat) : Nat := s.fld (Fd.CE_SLOT_STATUS_STATE e i)

/-- The slot holds a loop. -/
def State.slotValid (s : State) (e i : Nat) : Bool := s.flag (Fd.CE_SLOT_CFG_VALID e i)

/-- The loop a slot holds. -/
def State.slotLoop (s : State) (e i : Nat) : Nat := s.fld (Fd.CE_SLOT_CFG_LOOP e i)

/-- The slots that hold a loop, listed from the registers that differ from their reset values. -/
def State.heldSlots (s : State) : List (Nat × Nat) := allSlots.filter (fun x => s.slotValid x.1 x.2)

/-- Where a loop runs: its slot that is not the source side of a cut, or that source side. -/
def State.slotOf (s : State) (loop : Nat) : Option (Nat × Nat) :=
  let l := s.heldSlots.filter (fun x => s.slotLoop x.1 x.2 == loop)
  match l.find? (fun x => s.slotState x.1 x.2 != SlotSt.migrating) with
  | some x => some x
  | none => l.head?

/-- The state of a loop; EMPTY when it is not loaded. -/
def State.loopState (s : State) (loop : Nat) : Nat := match s.slotOf loop with
  | some (e, i) => s.slotState e i
  | none => SlotSt.empty

/-- The source slot of a loop being cut, while MIGRATING. -/
def State.migSource (s : State) (loop : Nat) : Option (Nat × Nat) :=
  s.heldSlots.find? (fun x => s.slotLoop x.1 x.2 == loop && s.slotState x.1 x.2 == SlotSt.migrating)

/-- CE_ENG_STAT.STATE values. -/
abbrev engOffline : Nat := 0
abbrev engOnline : Nat := 1
abbrev engDegraded : Nat := 2
abbrev engFailed : Nat := 3
abbrev engTesting : Nat := 4

/-- The state of an engine. -/
def State.engState (s : State) (e : Nat) : Nat := s.fld (Fd.CE_ENG_STAT_STATE e)

/-- The designated spare; 0xF for none. -/
def State.spare (s : State) : Nat := s.fld (Fd.CE_SET_SPARE_ENG 0)

/-- The slots of an engine that hold a loop. -/
def State.engSlots (s : State) (e : Nat) : List Nat := (List.range 16).filter (fun i => s.slotValid e i)

/-- The tile address of an engine's memory (R15). -/
def tileBase (e : Nat) : Nat := 0x50000000 + e * 0x40000

/-- Slots of an engine reserved by copies (R131) and migrations (R147). -/
def State.reservedSlots (s : State) (e : Nat) : List Nat :=
  (s.ce.copies.filter (fun c => c.eng == e)).map (·.slot) ++
    (s.ce.migs.filter (fun m => m.dest == e && decide (m.phase = 1 ∨ m.phase = 2))).map (·.dstSlot)

/-- Tile ranges of an engine in use or reserved: base and size in 4 KiB units. -/
def State.tileUsed (s : State) (e : Nat) : List (Nat × Nat) :=
  (s.engSlots e).map (fun i => (s.fld (Fd.CE_SLOT_WIN_BASE e i), s.fld (Fd.CE_SLOT_WIN_SIZE e i))) ++
  (s.ce.copies.filter (fun c => c.eng == e)).map (fun c => (c.base, c.win)) ++
  (s.ce.migs.filter (fun m => m.dest == e && decide (m.phase = 1 ∨ m.phase = 2))).map
    (fun m => (m.dstBase, match s.slotOf m.loop with
      | some (e', i) => s.fld (Fd.CE_SLOT_WIN_SIZE e' i)
      | none => 0))

/-- Units [b, b + n) are free. -/
def tileFree (used : List (Nat × Nat)) (b n : Nat) : Bool :=
  decide (b + n ≤ 64) && used.all (fun u => decide (b + n ≤ u.1) || decide (u.1 + u.2 ≤ b))

/-- The lowest base of `n` free units. -/
def tileFit (used : List (Nat × Nat)) (n : Nat) : Option Nat := (List.range 65).find? (fun b => tileFree used b n)

/-- The largest contiguous free tile memory, in 4 KiB units. -/
def tileLargest (used : List (Nat × Nat)) : Nat :=
  (List.range 65).foldl (fun a n => if (tileFit used n).isSome then n else a) 0

/-- The lowest free slot of an engine. -/
def State.freeSlot (s : State) (e : Nat) : Option Nat :=
  (List.range 16).find? (fun i => !s.slotValid e i && !(s.reservedSlots e).contains i)

/-! ### Schedules and admission (R125–R128, R145) -/

/-- PERIOD and PHASE meet R125. -/
def schedOk (p ph : Nat) : Bool :=
  ([1, 2, 4, 5, 8, 10, 20, 25, 40, 50, 100, 200].contains p || (p % 200 == 0 && decide (400 ≤ p ∧ p ≤ 2000)))
    && decide (ph < p)

/-- The loop with this schedule counts as due at `tn` for the admission check. -/
def dueAt (p ph tn : Nat) : Bool :=
  if p ≤ 200 then (tn + 200 * p - ph) % p == 0 else tn == ph % 200

/-- The cycles a slot's loop counts for: BUDGET + 8, plus 256 with a trap vector. -/
def State.slotCost (s : State) (e i : Nat) : Nat :=
  s.fld (Fd.CE_SLOT_BUDGET_BUDGET e i) + 8 + (if s.flag (Fd.CE_SLOT_TRAPV_EN e i) then 256 else 0)

/-- A schedule with its cost: (P, PHASE, cycles). -/
abbrev Sched := Nat × Nat × Nat

/-- The budget a migrated loop will have: a REPLACE may give it a new one (R150). -/
def migBudget (s : State) (m : Mig) (e i : Nat) : Nat :=
  if m.replace && m.budget != 0 then m.budget else s.fld (Fd.CE_SLOT_BUDGET_BUDGET e i)

/-- The cycles a migrated loop will count for on its destination. -/
def migCost (s : State) (m : Mig) (e i : Nat) : Nat :=
  migBudget s m e i + 8 + (if s.flag (Fd.CE_SLOT_TRAPV_EN e i) then 256 else 0)

/-- The schedules an engine has admitted: its loops that are STARTING or RUNNING and the migrations it has accepted, each at the
budget it will have there. -/
def State.engScheds (s : State) (e : Nat) : List Sched :=
  let one := fun (x : Nat × Nat) (cost : Nat) => (s.fld (Fd.CE_SLOT_SCHED_PERIOD x.1 x.2), s.fld (Fd.CE_SLOT_SCHED_PHASE x.1 x.2), cost)
  ((s.engSlots e).filter (fun i => s.slotState e i == SlotSt.starting || s.slotState e i == SlotSt.running)).map
    (fun i => one (e, i) (s.slotCost e i)) ++
  (s.ce.migs.filter (fun m => m.dest == e && decide (m.phase = 1 ∨ m.phase = 2))).filterMap
    (fun m => (s.slotOf m.loop).map (fun x => one x (migCost s m x.1 x.2)))

/-- The largest sum over TN of the cycles due. -/
def peakLoad (l : List Sched) : Nat :=
  (List.range 200).foldl (fun a tn => max a (l.foldl (fun b x => if dueAt x.1 x.2.1 tn then b + x.2.2 else b) 0)) 0

/-- Engine `e` admits one more loop with this schedule (R128). -/
def State.admits (s : State) (e : Nat) (x : Sched) : Bool := decide (peakLoad (x :: s.engScheds e) ≤ 38400)

/-- Functions whose loops may hold PRIV = 1 (R202), by MF number. -/
def privilegedFns : List Nat := [1, 2, 25]

/-- The privilege of the loop in slot (e, i) is admitted on engine `dest` (R145): PRIV 1 only for a privileged function that no
other loop holds it for; at most 4 loops with PRIV 2 per engine, counted with the migrations accepted to it. -/
def State.privAdmitted (s : State) (e i dest : Nat) : Bool :=
  let p := s.fld (Fd.CE_SLOT_CFG_PRIV e i)
  let mf := s.fld (Fd.CE_SLOT_CFG_MF e i)
  let loop := s.slotLoop e i
  if p = 1 then
    privilegedFns.contains mf &&
      s.heldSlots.all (fun x => s.slotLoop x.1 x.2 == loop || s.fld (Fd.CE_SLOT_CFG_PRIV x.1 x.2) != 1
        || s.fld (Fd.CE_SLOT_CFG_MF x.1 x.2) != mf)
  else if p = 2 then
    let here := (s.engSlots dest).filter (fun j => s.fld (Fd.CE_SLOT_CFG_PRIV dest j) == 2 && s.slotLoop dest j != loop
      && [SlotSt.starting, SlotSt.running, SlotSt.disabling].contains (s.slotState dest j))
    let due := s.ce.migs.filter (fun m => m.dest == dest && decide (m.phase = 1 ∨ m.phase = 2) && m.loop != loop &&
      (match s.slotOf m.loop with
        | some (e', i') => s.fld (Fd.CE_SLOT_CFG_PRIV e' i') == 2
        | none => false))
    decide (here.length + due.length < 4)
  else true

/-- The loops that exist: held by a slot. -/
def State.loadedLoops (s : State) : List Nat := (s.heldSlots.map (fun x => s.slotLoop x.1 x.2)).eraseDups

/-- Bring CE_ENG_STAT.LOOPS, FREE, LOAD of an engine up to date. -/
def refreshEng (s : State) (e : Nat) : State :=
  let s := s.setFld (Fd.CE_ENG_STAT_LOOPS e) (s.engSlots e).length
  let s := s.setFld (Fd.CE_ENG_STAT_FREE e) (tileLargest (s.tileUsed e))
  s.setFld (Fd.CE_ENG_STAT_LOAD e) (peakLoad (s.engScheds e))

/-- Bring the engine-set status and the SPARE bits up to date (R152). A spare that loops of a REMOVE have reserved slots on is not empty. -/
def refreshSet (s : State) : State :=
  let sp := s.spare
  let on := (List.range 8).foldl (fun a e => if s.engState e == engOnline || s.engState e == engDegraded then a + 2 ^ e else a) 0
  let fl := (List.range 8).foldl (fun a e => if s.engState e == engFailed || s.engState e == engDegraded then a + 2 ^ e else a) 0
  let s := (s.setFld (Fd.CE_SET_STAT_ONLINE 0) on).setFld (Fd.CE_SET_STAT_FAULTED 0) fl
  let ok := decide (sp < 8) && s.engState sp == engOnline && (s.engSlots sp).isEmpty && (s.reservedSlots sp).isEmpty
  let s := (s.setFlag (Fd.CE_SET_STAT_SPARE_OK 0) ok).setFld (Fd.CE_SET_STAT_LOOPS 0) (satU 8 s.loadedLoops.length)
  s.forN 8 (fun s e => s.setFlag (Fd.CE_ENG_STAT_SPARE e) (e == sp))

/-- Bring every engine's status and the set status up to date. -/
def refreshEngines (s : State) : State := refreshSet (s.forN 8 refreshEng)

/-! ### Routes (R135–R139) -/

/-- EN, LOOP and PORT of a route entry. -/
def rtEn (e : List Word) : Bool := bit (e.headD 0).toNat 31
def rtLoop (e : List Word) : Nat := bits (e.headD 0).toNat 24 7
def rtInPort (e : List Word) : Nat := bits (e.headD 0).toNat 14 10
def rtOutPort (e : List Word) : Nat := bits (e.headD 0).toNat 16 8
def rtFloat (e : List Word) : Bool := bit (e.headD 0).toNat 15
def rtStopAct (e : List Word) : Nat := bits (e.headD 0).toNat 13 2
def rtClass (e : List Word) : Nat := bits (e.getD 1 0).toNat 28 4
def rtIndex (e : List Word) : Nat := bits (e.getD 1 0).toNat 0 28
def rtSafe (e : List Word) : Word := e.getD 2 0
def rtRamp (e : List Word) : Word := e.getD 3 0

/-- The words of an entry without the reserved bits, which are not stored; an input entry has two words (R135). -/
def rtKept (out : Bool) (e : List Word) : List Word :=
  if out then [e.getD 0 0 &&& 0xFFFFE000#32, e.getD 1 0, e.getD 2 0, e.getD 3 0] else [e.getD 0 0 &&& 0xFFFFC000#32, e.getD 1 0]

/-- An all-zero entry is stored as an unlisted one. -/
def rtNorm (e : List Word) : List Word := if e.all (· == 0) then [] else e

/-- The enabled input route of a loop's port. -/
def State.inRoute (s : State) (loop port : Nat) : Option (List Word) :=
  (s.ce.rtIn.find? (fun x => rtEn x.2 && rtLoop x.2 == loop && rtInPort x.2 == port)).map (·.2)

/-- The enabled output route of a loop's port. -/
def State.outRoute (s : State) (loop port : Nat) : Option (List Word) :=
  (s.ce.rtOut.find? (fun x => rtEn x.2 && rtLoop x.2 == loop && rtOutPort x.2 == port)).map (·.2)

/-- The enabled output routes of a loop. -/
def State.outRoutes (s : State) (loop : Nat) : List (List Word) :=
  (s.ce.rtOut.filter (fun x => rtEn x.2 && rtLoop x.2 == loop)).map (·.2)

/-- The enabled output route that names a channel or signal of class `cls`: its owner (R137). -/
def State.ownerRoute (s : State) (cls idx : Nat) : Option (List Word) :=
  (s.ce.rtOut.find? (fun x => rtEn x.2 && rtClass x.2 == cls && rtIndex x.2 == idx)).map (·.2)

/-- The loops and routes that own outputs outside the replay boundary: the live ones. -/
def State.liveRoutes (s : State) : State := match s.rpl.live with
  | some b => { s with regs := b.regs, ce := b.ce }
  | none => s

/-- The key of a loop's output port in `State.pub` (source class 0x2). -/
def portKey (loop port : Nat) : Nat := pubKey 2 (loop * 256 + port)

/-- Quantity `q` of machine function `n` (R193): class 0x6 values carry AGE 0, VALID and CODE OK. -/
def State.mfpPub (s : State) (n q : Nat) : PubV :=
  let w := fun (k : Nat) => BitVec.ofNat 32 k
  { val := match q with
      | 0 => (smGet {} s.mfp.fn n).arb.getD (s.reg (Ra.MFP_MF_SAFE n))
      | 1 => s.reg (Ra.MFP_MF_LIM_LO n)
      | 2 => s.reg (Ra.MFP_MF_LIM_HI n)
      | 3 => w (s.fld (Fd.MFP_MF_STAT_STATE n))
      | 4 => w (s.fld (Fd.MFP_MF_STAT_AWM_EFF n))
      | 5 => w (s.fld (Fd.MFP_MF_STAT_DEGRADED n))
      | _ => w (s.fld (Fd.MFP_MF_STAT_EFF_SRC n)),
    valid := true, tick := some s.clk.tick }

/-- The value of a source (R136). -/
def State.srcPub (s : State) (cls idx : Nat) : PubV :=
  if cls = 6 then s.mfpPub (idx / 8) (idx % 8) else s.pubAt (pubKey cls idx)

/-- The value a loop's input port holds (R93): the routed source's published value; 0 with a zero qualifier where no route
exists. -/
def State.portIn (s : State) (loop port : Nat) : Option PubV :=
  (s.inRoute loop port).map (fun e => s.srcPub (rtClass e) (rtIndex e))

/-! ### Stopping a loop (R140) -/

/-- Stop the loop of a slot: STOPPED with its cause, LOOP_STOP recorded, a ramp of DISABLE ended, its stop actions due from tick `act`. -/
def stopSlot (s : State) (e i why act : Nat) : State :=
  let loop := s.slotLoop e i
  let s := (s.setFld (Fd.CE_SLOT_STATUS_STATE e i) SlotSt.stopped).setFld (Fd.CE_SLOT_STATUS_STOP_WHY e i) why
  let s := s.setCe { s.ce with
    stopAt := smPut none s.ce.stopAt loop (some act), disAt := smPut none s.ce.disAt loop none,
    acts := (s.outRoutes loop).foldl (fun m r => smPut .none m (loop * 256 + rtOutPort r) .none) s.ce.acts }
  logEvent s Ev.loopStop (Src.ce0 + e) loop why

/-- Stop a loop wherever it runs. -/
def stopLoop (s : State) (loop why act : Nat) : State := match s.slotOf loop with
  | some (e, i) => stopSlot s e i why act
  | none => s

end Sys2Proof.Machine
end

