-- ==== Sys2Proof/Machine/RegAccess.lean ====
section
/-! DEFINITION. Register access (R4–R7, R14–R19, R26–R29): windows and windowed blocks, access masks, lock conditions of RWL
fields, latched high words, fabric error capture, and the reads that change state. -/

namespace Sys2Proof.Machine

/-! ### Initiators (R26) -/

/-- The class of an initiator: 0 SAFETY, 1 CONTROL, 2 STREAM, 3 BULK; a DMA channel's is its CFG.CLASS. -/
def initClass (s : State) (i : Nat) : Nat :=
  if i = 0x0C then 0
  else if i < 4 then 3
  else if i < 0x0F then 1
  else if i = 0x0F then 2
  else if i < 0x30 then s.fld (Fd.DMA_CH_CFG_CLASS (i - 0x10))
  else if i = 0x37 ∨ i = 0x39 then 3
  else 2

/-- The class of an initiator's transaction as it was issued (R29): that of its oldest one outstanding, else the initiator's class now. -/
def txnClass (s : State) (i : Nat) : Nat := match s.fab.outst.find? (fun t => t.init == i) with
  | some t => t.cls % 4
  | none => initClass s i

/-! ### Fabric errors (R29) -/

/-- Capture a fabric error: the first since VALID was cleared is held; a further one sets OVERRUN. -/
def fabErr (s : State) (init addr kind : Nat) : State :=
  if s.flag Fd.SYS_FAB_ERR_INFO_VALID then s.setFlag Fd.SYS_FAB_ERR_INFO_OVERRUN true
  else
    let w := 2 ^ 31 + init % 64 * 2 ^ 24 + txnClass s init % 4 * 2 ^ 22 + kind % 4 * 2 ^ 20 + addr / 2 ^ 32 % 256
    (s.setReg Ra.SYS_FAB_ERR_ADDR (BitVec.ofNat 32 addr)).setReg Ra.SYS_FAB_ERR_INFO (BitVec.ofNat 32 w)

/-- An application core takes a synchronous abort on an error response (R28, R361). -/
def coreAbort (s : State) (init : Nat) : State :=
  if init < 4 then s.setFab { s.fab with aborts := smPut 0 s.fab.aborts init (smGet 0 s.fab.aborts init + 1) } else s

/-! ### Windows and addresses (R14–R17) -/

/-- The upper half words of the register windows (R14). The Facet code stores lie in 0x40B8 at 0x1000 each. -/
def regWindows : List Nat :=
  [0x4000, 0x4001, 0x4002, 0x4003, 0x4004, 0x4005, 0x4006, 0x4007, 0x4008, 0x4010, 0x4011, 0x4012, 0x4013, 0x4014, 0x4015,
   0x4016, 0x4017, 0x4020, 0x4030, 0x4031, 0x4032, 0x4040, 0x4050, 0x4060, 0x4070, 0x4080, 0x4081, 0x4082, 0x4083, 0x4084,
   0x4085, 0x4090, 0x40A0, 0x40B0, 0x40C0, 0x40C1]

/-- The address lies in a Facet code store (R14): bank `(a − 0x40B8_0000) / 0x1000`. -/
def inCodeStore (a : Nat) : Bool := decide (0x40B80000 ≤ a ∧ a < 0x40B88000)

/-- The address lies in a register window. -/
def inWindow (a : Nat) : Bool := regWindows.contains (a / 0x10000) || inCodeStore a

/-- Module-wide registers that show in every window of a windowed block are kept at window 0 (R574, R138): CE_RT_IDX to
CE_RT_CMD and CE_SET_*, CAN_SIG_* and CAN_STRM_*. -/
def canonAddr (a : Nat) : Nat :=
  let o := a % 0x10000
  if 0x40100000 ≤ a ∧ a < 0x40180000 then
    if (0x60 ≤ o ∧ o < 0x78) ∨ (0xF00 ≤ o ∧ o < 0xF10) then 0x40100000 + o else a
  else if 0x40800000 ≤ a ∧ a < 0x40860000 then
    if (0x100 ≤ o ∧ o < 0x120) ∨ (0x200 ≤ o ∧ o < 0x300) then 0x40800000 + o else a
  else a

/-- The low words of 64-bit values (R16): address of the first, stride and count. -/
def pairLows : List (Nat × Nat × Nat) :=
  [(Ra.CLK_DT_LO, 8, 1), (Ra.CLK_DT_SET_LO, 8, 1), (Ra.EVR_NONCE_LO, 8, 1), (Ra.EVR_CLR_LO, 8, 1), (Ra.TAB_RPL_END_LO, 8, 1),
   (Ra.TAB_RPL_TICK_LO, 8, 1), (Ra.TAB_DIV_TICK_LO, 8, 1), (Ra.DMA_CH_RING_LO 0, 0x40, 32), (Ra.DMA_CH_FAULT_LO 0, 0x40, 32),
   (Ra.IOMMU_INV_LO, 8, 1), (Ra.IOMMU_CTXT_LO, 8, 1), (Ra.CE_LOAD_ADDR_LO 0, 0x10000, 8), (Ra.CE_MIG_CUT_LO 0, 0x10000, 8),
   (Ra.GNS_PPS_B_LO, 8, 1), (Ra.GNS_BASE 0, 8, 3), (Ra.CAM_LNK_RING_LO 0, 0x100, 6), (Ra.CAM_EXP_ACK_DT_LO 0, 0x40, 6),
   (Ra.CAM_MP_OUT_LO 0, 0x20, 6), (Ra.CAM_MP_STATS_LO 0, 0x20, 6), (Ra.FUS_TRK_RING_LO, 8, 1), (Ra.FUS_INF_JOB_RING_LO 0, 0x20, 8),
   (Ra.ETH_PTP_OFS_LO, 8, 1), (Ra.DSP_FB_A_LO, 8, 1), (Ra.DSP_FB_B_LO, 8, 1), (Ra.DSP_AGE_LO, 8, 1), (Ra.BST_IMG_LO 0, 8, 4),
   (Ra.UPD_PKG_LO, 8, 1), (Ra.UPD_BLK_LO, 8, 1), (Ra.UPD_CAL_LO, 8, 1), (Ra.UPD_NONCE_LO, 8, 1), (Ra.UPD_TOK_LO, 8, 1)]

/-- The register at `a` is the low word of a 64-bit value. -/
def isPairLow (a : Nat) : Bool :=
  pairLows.any (fun p => decide (p.1 ≤ a) && decide ((a - p.1) % p.2.1 = 0) && decide ((a - p.1) / p.2.1 < p.2.2))

/-! ### Locks of RWL fields (R4) -/

/-- A STARTING or RUNNING loop owns load-switch channel `n` (R137). -/
def lswOwned (s : State) (n : Nat) : Bool := match s.liveRoutes.ownerRoute 2 n with
  | some e => s.liveRoutes.loopState (rtLoop e) == SlotSt.starting || s.liveRoutes.loopState (rtLoop e) == SlotSt.running
  | none => false

/-- The lock of the block that holds the register is open, as its chapter says; blocks whose chapter gives no condition have
no RWL field. -/
def rwlOpen (s : State) (a : Nat) : Bool :=
  let o := a % 0x10000
  if 0x40100000 ≤ a ∧ a < 0x40180000 then
    let e := (a - 0x40100000) / 0x10000
    let i := (a - Ra.CE_SLOT_CFG e 0) / 0x20
    if Ra.CE_SLOT_CFG e 0 ≤ a ∧ i < 16 then
      [SlotSt.loaded, SlotSt.disabled, SlotSt.stopped].contains (s.slotState e i)
    else true
  else if a / 0x10000 = 0x4032 then s.fld (Fd.MFP_MF_STAT_STATE (o / 0x20)) == 0
  else if a / 0x10000 = 0x4005 then !s.flag (Fd.DMA_CH_CFG_EN (o / 0x40))
  else if a / 0x10000 = 0x4004 then s.fld (Fd.MBX_EP_STAT_STATE (o / 0x20)) == 0
  else if 0x40800000 ≤ a ∧ a < 0x40860000 then !s.flag (Fd.CAN_CTL_EN ((a - 0x40800000) / 0x10000))
  else if a / 0x10000 = 0x40B0 then !s.flag (Fd.VLV_CH_CFG_EN (o / 0x20))
  else if a / 0x10000 = 0x40A0 then !(smGet {} s.lsw.ch (o / 0x20)).on && !lswOwned s (o / 0x20)
  else if a / 0x10000 = 0x40C0 then !s.flag Fd.DSP_PNL_CTL_EN
  else true

/-! ### Writing a register's fields by their access types (R4–R6) -/

/-- The word a register holds after a 32-bit write of `v`: RW and WO fields set, RWL fields set while the lock is open, W1C bits
cleared where `v` has 1, every other bit kept. -/
def maskedWrite (r : RegRow) (isOpen : Bool) (old v : Word) : Word :=
  let m := BitVec.ofNat 32 (r.rw ||| r.wo ||| (if isOpen then r.rwl else 0))
  let c := BitVec.ofNat 32 r.w1c
  ((old &&& ~~~m) ||| (v &&& m)) &&& ~~~(v &&& c)

/-- Write a register by its access types; an offset without a register ignores the write (R17). Clearing
SYS_FAB_ERR_INFO.VALID clears OVERRUN too. -/
def plainWrite (s : State) (a : Nat) (v : Word) : State := match regRow a with
  | some r =>
    let s := s.setReg a (maskedWrite r (rwlOpen s a) (s.reg a) v)
    if a = Ra.SYS_FAB_ERR_INFO ∧ bit v.toNat 31 then s.setFlag Fd.SYS_FAB_ERR_INFO_OVERRUN false else s
  | none => s

/-! ### Reading a register -/

/-- What a read shows: WO fields read 0 (R4); DT shows device time (R36). -/
def regView (s : State) (a : Nat) : Word :=
  if a = Ra.CLK_DT_LO then BitVec.ofNat 32 s.dtNs
  else if a = Ra.CLK_DT_HI then BitVec.ofNat 32 (s.dtNs / 2 ^ 32)
  else match regRow a with
    | some r => s.reg a &&& ~~~(BitVec.ofNat 32 r.wo)
    | none => 0

/-- A CLK register that takes effect at the major frame boundary (R48): its value in force. -/
def State.runReg (s : State) (a : Nat) : Word := (smGet none s.clk.runCfg a).getD (s.reg a)

/-- The latch key of a high word for an initiator. -/
def latchKey (init a : Nat) : Nat := init * 2 ^ 32 + a

/-- A register read by an initiator where registers show `view`: the value and the state after. A low word latches the high word; a latched high
word is returned once (R16); RC fields are cleared (R7). -/
def readReg (view : Nat → Word) (s : State) (init a : Nat) : Word × State :=
  let a := canonAddr a
  let v := match smGet none s.fab.hiLatch (latchKey init a) with
    | some w => w
    | none => view a
  let s := s.setFab { s.fab with hiLatch := smPut none s.fab.hiLatch (latchKey init a) none }
  let s := if isPairLow a then
      s.setFab { s.fab with hiLatch := smPut none s.fab.hiLatch (latchKey init (a + 4)) (some (view (a + 4))) }
    else s
  let s := match regRow a with
    | some r => if r.rc = 0 then s else s.setReg a (s.reg a &&& ~~~(BitVec.ofNat 32 r.rc))
    | none => s
  (v, s)

/-- The initiator has read a word. -/
def noteRead (init : Nat) (x : Word × State) : State := x.2.setFab { x.2.fab with rdata := smPut 0 x.2.fab.rdata init x.1 }

/-- A read whose value goes to the initiator. -/
def readInto (s : State) (init a : Nat) : State := noteRead init (readReg (regView s) s init a)

/-- W1C_CLEAR (R4): bits written 1 are cleared where the register holds W1C bits. In the SAF window only the Mirror pair's
write counts, and another's is recorded (R19). -/
def execW1cClear (init : Fin 58) (addr v : Word) (s : State) : Out :=
  let a := canonAddr addr.toNat
  match regRow a with
  | some r =>
    if r.w1c = 0 then .next s
    else if a / 0x10000 = 0x4020 ∧ init.val ≠ 0x0C then .next (fabErr s init a 1)
    else .next (plainWrite s a (v &&& BitVec.ofNat 32 r.w1c))
  | none => .next s

end Sys2Proof.Machine
end

