-- ==== Sys2Proof/Machine/Fabric.lean ====
section
/-! DEFINITION. The fabric's transaction table (R20–R24): reserved and shared entries, stalls, grants in strict class order with
round robin inside a class, and the promotion of an old BULK request. -/

namespace Sys2Proof.Machine

/-- Entries reserved for a class (R21). -/
def fabReserved (c : Nat) : Nat := match c with
  | 0 => 16
  | 1 => 64
  | 2 => 32
  | _ => 0

/-- The shared pool (R21). -/
abbrev fabPool : Nat := 144

/-- Transactions of a class outstanding. -/
def fabCount (l : List FabTxn) (c : Nat) : Nat := (l.filter (fun t => t.cls == c)).length

/-- Pool entries in use: what each class holds beyond its reserve. -/
def poolUsed (l : List FabTxn) : Nat :=
  (List.range 4).foldl (fun a c => a + (fabCount l c - fabReserved c)) 0

/-- A class has an entry: a reserved one or one of the pool (R21, R22). -/
def classFree (l : List FabTxn) (c : Nat) : Bool :=
  decide (fabCount l c < fabReserved c) || decide (poolUsed l < fabPool)

/-- Transactions of one initiator outstanding. -/
def initCount (l : List FabTxn) (i : Nat) : Nat := (l.filter (fun t => t.init == i)).length

/-- The most transactions an initiator holds: a DMA channel 16, an application core 32 (R22); no limit is given for others. -/
def initLimit (i : Nat) : Nat := if i < 4 then 32 else if 0x10 ≤ i ∧ i < 0x30 then 16 else 256

/-- A request can become outstanding now. -/
def fabRoom (s : State) (t : FabTxn) : Bool :=
  classFree s.fab.outst t.cls && decide (initCount s.fab.outst t.init < initLimit t.init)

/-- A further transaction of class `c` is accepted: with it `n` of the class and `total` in all are outstanding. SYS_FAB_AUX[c] counts the
transactions of each class, SYS_FAB_AUX[4 + c] holds its peak. -/
def fabNote (s : State) (c n total : Nat) : State :=
  let s := s.count (Fd.SYS_FAB_AUX_V c)
  let s := s.setFld (Fd.SYS_FAB_AUX_V (4 + c)) (max (s.fld (Fd.SYS_FAB_AUX_V (4 + c))) n)
  s.setFld Fd.SYS_FAB_PEAK_PEAK (max (s.fld Fd.SYS_FAB_PEAK_PEAK) total)

/-- Bring SYS_FAB_CNT up to date. -/
def fabShow (s : State) : State :=
  let l := s.fab.outst
  let s := (s.setFld Fd.SYS_FAB_CNT_SAFETY (fabCount l 0)).setFld Fd.SYS_FAB_CNT_CONTROL (fabCount l 1)
  (s.setFld Fd.SYS_FAB_CNT_STREAM (fabCount l 2)).setFld Fd.SYS_FAB_CNT_BULK (fabCount l 3)

/-- Make a request outstanding. -/
def fabIssue (s : State) (t : FabTxn) : State :=
  let s := fabShow (s.setFab { s.fab with outst := s.fab.outst ++ [t], lastRR := smPut 0 s.fab.lastRR t.cls (t.init + 1) })
  fabNote s t.cls (fabCount s.fab.outst t.cls) s.fab.outst.length

/-- A request of an initiator now. -/
def fabTxn (s : State) (init addr : Nat) (write : Bool) : FabTxn :=
  { init := init, cls := initClass s init, addr := addr, write := write, at_ := s.clk.cyc }

/-- A request can be accepted now: there is an entry for it, and the initiator has no earlier request stalled (R22). -/
def fabOpen (s : State) (t : FabTxn) : Bool := fabRoom s t && !(s.fab.stalled.any (fun x => x.init == t.init))

/-- A request stalls at its initiator's port. -/
def fabStall (s : State) (t : FabTxn) : State := s.setFab { s.fab with stalled := s.fab.stalled ++ [t] }

/-- A request arrives: it is accepted, or stalls at its initiator's port (R22). -/
def fabRequest (s : State) (init addr : Nat) (write : Bool) : State :=
  let t := fabTxn s init addr write
  if fabOpen s t then fabIssue s t else fabStall s t

/-- An access whose response comes in the same command (R20): while it lasts it is one more transaction outstanding. -/
def fabPass (s : State) (t : FabTxn) : State := fabNote s t.cls (fabCount s.fab.outst t.cls + 1) (s.fab.outst.length + 1)

/-- The stalled requests of a class that could proceed, and the one round robin serves next: the lowest initiator above the one
served last, else the lowest. -/
def rrPick (s : State) (c : Nat) : Option FabTxn :=
  let l := s.fab.stalled.filter (fun t => t.cls == c && fabRoom s t)
  let above := l.filter (fun t => decide (smGet 0 s.fab.lastRR c ≤ t.init))
  let low := fun (l : List FabTxn) => l.foldl (fun (a : Option FabTxn) t => match a with
    | none => some t
    | some b => if t.init < b.init then some t else some b) none
  match low above with
  | some t => some t
  | none => low l

/-- The next grant (R23, R24): strict class order; a promoted BULK request takes a grant that would have gone to STREAM. -/
def nextGrant (s : State) : Option FabTxn :=
  match rrPick s 0, rrPick s 1, rrPick s 2 with
  | some t, _, _ => some t
  | none, some t, _ => some t
  | none, none, some t =>
    match s.fab.stalled.find? (fun x => x.promoted && fabRoom s x) with
    | some b => some b
    | none => some t
  | none, none, none => rrPick s 3

/-- Grant one stalled request, if one can proceed; a write is then performed and answered (`fabWrites`). -/
def fabGrant (s : State) : State := match nextGrant s with
  | some t =>
    let s := s.setFab { s.fab with stalled := s.fab.stalled.erase t }
    if t.wr.isSome then (fabPass s t).setFab { s.fab with ready := s.fab.ready ++ [t], lastRR := smPut 0 s.fab.lastRR t.cls (t.init + 1) }
    else fabIssue s { t with promoted := false }
  | none => s

/-- Remove the first element that satisfies `p`. -/
def dropFirst {α : Type} (p : α → Bool) : List α → List α
  | [] => []
  | x :: r => if p x then r else x :: dropFirst p r

/-- The oldest transaction of an initiator receives its response; its entry frees and the next stalled request proceeds. -/
def fabFree (s : State) (init : Nat) : State :=
  if s.fab.outst.any (fun t => t.init == init) then
    fabGrant (fabShow (s.setFab { s.fab with outst := dropFirst (fun t => t.init == init) s.fab.outst }))
  else s

/-- Requests arrive, in order (initiator, address, write). -/
def fabArrive (s : State) (l : List (Fin 58 × BitVec 40 × Bool)) : State := l.foldl (fun s x => fabRequest s x.1 x.2.1.toNat x.2.2) s

/-- BULK_AGE_PROMOTION (R24): stalled BULK requests of an initiator that have waited longer than 50 µs. -/
def execBulkAgePromotion (init : Fin 58) (s : State) : Out :=
  .next (s.setFab { s.fab with stalled := s.fab.stalled.map (fun (t : FabTxn) =>
    if t.init = init ∧ t.cls = 3 ∧ t.at_ + 8000 < s.clk.cyc then { t with promoted := true } else t) })

end Sys2Proof.Machine
end

