-- ==== Sys2Proof/Machine/Dma.lean ====
section
/-! DEFINITION. The IOMMU (R357–R361) and the DMA channels (R362–R370). A running descriptor's data moves when its retirement or
its fault is commanded, chunk by chunk through the translation as it then stands (R364). -/

namespace Sys2Proof.Machine

/-! ### Translation (R357–R359) -/

/-- Fault kinds of DMA_CH[n]_FAULT_INFO. -/
abbrev ftTrans : Nat := 0
abbrev ftPerm : Nat := 1
abbrev ftError : Nat := 2
abbrev ftRange : Nat := 3

/-- A translation: a physical address, or a fault kind. -/
inductive Xlat where
  | ok (pa : Nat)
  | fault (kind : Nat)
  deriving DecidableEq, Repr

/-- The 8-byte table entry at a physical address. -/
def iommuEntry (s : State) (pa : Nat) : Nat := leNat (s.bytesAt pa 8)

/-- ADDR of a table entry. -/
def ptAddr (e : Nat) : Nat := bits e 12 28 * 4096

/-- An entry is valid: V set, reserved bits 0, and PS as its table allows (R359). -/
def ptOk (e : Nat) (l2 : Bool) : Bool :=
  bit e 0 && bits e 40 24 == 0 && bits e 4 8 == 0 && (l2 || !bit e 3)

/-- The page a walk ends in gives access (R359): R or W as needed, inside LPDDR5 and outside the Mirror pair window. -/
def pageCheck (e pa : Nat) (write : Bool) : Xlat :=
  if (if write then bit e 2 else bit e 1) && decide (0x0800000000 ≤ pa ∧ pa < 0x0FF0000000) then .ok pa else .fault ftPerm

/-- Translate an IOVA in a context (R357–R359). -/
def translate (s : State) (ctx iova : Nat) (write : Bool) : Xlat :=
  if 2 ^ 36 ≤ iova then .fault ftRange
  else
    let c := iommuEntry s (s.reg64 Ra.IOMMU_CTXT_LO Ra.IOMMU_CTXT_HI / 256 * 256 + 8 * ctx)
    if !(bit c 0) || c % 2 ^ 14 != 1 || c / 2 ^ 40 != 0 then .fault ftTrans
    else
      let e1 := iommuEntry s (bits c 14 26 * 2 ^ 14 + 8 * bits iova 25 11)
      if !ptOk e1 false then .fault ftTrans
      else
        let e2 := iommuEntry s (ptAddr e1 + 8 * bits iova 16 9)
        if !ptOk e2 true then .fault ftTrans
        else if bit e2 3 then
          if bits e2 12 4 ≠ 0 then .fault ftTrans else pageCheck e2 (ptAddr e2 + iova % 65536) write
        else
          let e3 := iommuEntry s (ptAddr e2 + 8 * bits iova 12 4)
          if !ptOk e3 false then .fault ftTrans else pageCheck e3 (ptAddr e3 + iova % 4096) write

/-- The context of an initiator other than a DMA channel (IOMMU_INI_MAP); none while its EN is clear, and always none for 0x0C. -/
def initCtx (s : State) (i : Nat) : Option Nat :=
  let b := bits (s.reg (Ra.IOMMU_INI_MAP (i / 4))).toNat (8 * (i % 4)) 8
  if i = 0x0C ∨ (0x10 ≤ i ∧ i < 0x30) then none else if bit b 7 then some (b % 32) else none

/-- Translate an access of an initiator: the Mirror pair reaches memory untranslated, a DMA channel uses CFG.CTX. -/
def initXlat (s : State) (i a : Nat) (write : Bool) : Xlat :=
  if i = 0x0C then .ok a
  else if 0x10 ≤ i ∧ i < 0x30 then translate s (s.fld (Fd.DMA_CH_CFG_CTX (i - 0x10))) a write
  else match initCtx s i with
    | some c => translate s c a write
    | none => .fault ftTrans

/-- Capture an IOMMU fault on the rule of R29 (R361): [31] held, [30] overrun, [29:24] initiator, [21:20] kind, [19] write. -/
def iommuFault (s : State) (init iova kind : Nat) (write : Bool) : State :=
  let s := coreAbort (s.count (Fd.DMA_WALKFLT_CNT_V (txnClass s init))) init
  if bit (s.reg Ra.DMA_IOFAULT_INFO).toNat 31 then
    (s.setReg Ra.DMA_IOFAULT_INFO (s.reg Ra.DMA_IOFAULT_INFO ||| 0x40000000#32)).count Fd.DMA_IOFAULT_OVR_V
  else
    (s.setReg64 Ra.DMA_IOFAULT_LO Ra.DMA_IOFAULT_HI iova).setReg Ra.DMA_IOFAULT_INFO
      (BitVec.ofNat 32 (2 ^ 31 + init * 2 ^ 24 + kind * 2 ^ 20 + b2n write * 2 ^ 19))

/-- The addresses at which the pages of `n` bytes from `a` begin. -/
def pageStarts (a n : Nat) : List Nat :=
  if n = 0 then [] else a :: (List.range ((a + n - 1) / 4096 - a / 4096)).map (fun k => (a / 4096 + k + 1) * 4096)

/-- One translation is walked: counted by class. -/
def walkCount (s : State) (init : Nat) : State := s.count (Fd.DMA_WALK_CNT_V (txnClass s init))

/-- The translations of an initiator's transfer of `n` bytes from `a`, one for each page: walks are counted, and each fault is captured
(R361). The Mirror pair's accesses are not translated. -/
def noteXfer (s : State) (init a n : Nat) (write : Bool) : State :=
  if init = 0x0C then s
  else (pageStarts a n).foldl (fun s p => match initXlat s init p write with
    | .ok _ => walkCount s init
    | .fault k => iommuFault (walkCount s init) init p k write) s

/-- Bytes of a transfer through an initiator's context, page by page; `none` on a fault. -/
def readIova (s : State) (init : Nat) : Nat → Nat → Option (List Byte)
  | _, 0 => some []
  | a, n + 1 => match initXlat s init a false with
    | .ok p => (readIova s init (a + 1) n).map (s.byteAt p :: ·)
    | .fault _ => none

/-- Store bytes through an initiator's context; a byte whose translation faults is dropped. -/
def storeIova (s : State) (init : Nat) : Nat → List Byte → State
  | _, [] => s
  | a, b :: r => match initXlat s init a true with
    | .ok p => storeIova (s.setByte p b) init (a + 1) r
    | .fault _ => storeIova s init (a + 1) r

/-- Write bytes through an initiator's context: its translations are counted and their faults captured, and what faults is dropped (R361). -/
def writeIova (s : State) (init a : Nat) (l : List Byte) : State := storeIova (noteXfer s init a l.length true) init a l

/-- Read bytes through an initiator's context, with the translations counted and a fault captured. -/
def fetchIova (s : State) (init a n : Nat) : Option (List Byte) × State :=
  let s := noteXfer s init a n false
  (readIova s init a n, s)

/-- IOMMU_INVALIDATE (R360): a write of IOMMU_INV_CMD with GO; ignored while BUSY. -/
def iommuInv (s : State) (ctx : Nat) : State :=
  if s.flag Fd.IOMMU_INV_STAT_BUSY then s
  else (s.setDma { s.dma with inv := some ctx }).setFlag Fd.IOMMU_INV_STAT_BUSY true

/-- IOMMU_INVALIDATE (R360): start an invalidation of a context's range. -/
def execIommuInvalidate (ctx : Fin 32) (page count : Word) (s : State) : Out :=
  .next (iommuInv ((s.setReg Ra.IOMMU_INV_LO page).setReg Ra.IOMMU_INV_HI count) ctx)

/-- INVALIDATE_DONE (R360): every transaction translated through a removed entry has completed. -/
def execInvalidateDone (s : State) : Out := match s.dma.inv with
  | some _ => .next ((s.setDma { s.dma with inv := none }).setFlag Fd.IOMMU_INV_STAT_BUSY false)
  | none => .next s

/-! ### Channels -/

/-- Channel states (DMA_CH[n]_STAT.STATE). -/
abbrev dmaIdle : Nat := 0
abbrev dmaRun : Nat := 1
abbrev dmaPaused : Nat := 2
abbrev dmaFault : Nat := 3
abbrev dmaStopping : Nat := 4

/-- The channel beyond its registers. -/
def State.dch (s : State) (n : Nat) : DmaCh := smGet {} s.dma.ch n

/-- Replace a channel, with STAT.QUEUED. -/
def State.setDch (s : State) (n : Nat) (c : DmaCh) : State :=
  (s.setDma { s.dma with ch := smPut {} s.dma.ch n c }).setFld (Fd.DMA_CH_STAT_QUEUED n) c.queue.length

/-- CFG.CTX translation of a channel. -/
def chXlat (s : State) (n iova : Nat) (write : Bool) : Xlat := translate s (s.fld (Fd.DMA_CH_CFG_CTX n)) iova write

/-- The IOVA of a ring entry. -/
def ringEntry (s : State) (n i : Nat) : Nat := s.reg64 (Ra.DMA_CH_RING_LO n) (Ra.DMA_CH_RING_HI n) / 32 * 32 + 32 * i

/-- Ring size, at least 1 so that the index arithmetic is total. -/
def ringSize (s : State) (n : Nat) : Nat := max 1 (s.fld (Fd.DMA_CH_RING_CFG_SIZE n))

/-- The first byte of a loop's tile window in memory, with its size in bytes. -/
def loopWindow (s : State) (loop : Nat) : Option (Nat × Nat) := (s.slotOf loop).map (fun x =>
  (tileBase x.1 + 4096 * s.fld (Fd.CE_SLOT_WIN_BASE x.1 x.2), 4096 * s.fld (Fd.CE_SLOT_WIN_SIZE x.1 x.2)))

/-- The tile address, in memory, of a local address of the loop a channel is bound to. -/
def chTile (s : State) (n a : Nat) : Nat :=
  match loopWindow s (s.fld (Fd.DMA_CH_CFG_OWNER n)) with
  | some w => w.1 + a
  | none => a

/-- A completion count is delivered through class 0x5 (R139, R365). -/
def dmaCount (s : State) (n : Nat) : State :=
  let w := s.reg (Ra.DMA_CH_CNT n) + 1
  latchNext (s.setReg (Ra.DMA_CH_CNT n) w) (pubKey 5 n) w

/-- A write-back of STATUS and DONE through the channel's context (R363). -/
def ringWriteBack (s : State) (n entry code done : Nat) : State :=
  writeIova s (0x10 + n) (entry + 0x18) (leBytes 4 (code * 2 ^ 16) ++ leBytes 4 done)

/-- Retire a LOOP-mode descriptor: the write-back at STAT_ADDR, then CNT (R364, R365). -/
def retireLoop (s : State) (n : Nat) (d : DmaDesc) (code done : Nat) : State :=
  let s := if d.stat = 0 then s else s.setBytes (chTile s n d.stat) (leBytes 4 (code * 2 ^ 16) ++ leBytes 4 done)
  dmaCount s n

/-- Retire the ring entry at HEAD: the write-back, HEAD, then CNT. -/
def retireRing (s : State) (n code done : Nat) : State :=
  let h := s.fld (Fd.DMA_CH_HEAD_IDX n)
  let s := ringWriteBack s n (ringEntry s n h) code done
  dmaCount (s.setFld (Fd.DMA_CH_HEAD_IDX n) ((h + 1) % ringSize s n)) n

/-- Read a ring entry; `none` where its own translation faults. -/
def ringDesc (s : State) (n i : Nat) : Option DmaDesc :=
  (readIova s (0x10 + n) (ringEntry s n i) 24).map (fun b =>
    { src := leNat (b.take 8), dst := leNat ((b.drop 8).take 8), len := leNat ((b.drop 16).take 4), ctl := leNat (b.drop 20) })

/-- LEN is a multiple of 4 from 4 to 16 777 212. -/
def dmaLenOk (n : Nat) : Bool := decide (n % 4 = 0 ∧ 4 ≤ n ∧ n ≤ 16777212)

/-- A channel enters FAULT (R367): its fabric entry frees and the fault registers are recorded. -/
def dmaEnterFault (s : State) (n iova kind : Nat) (write restart : Bool) (extra done : Nat) : State :=
  let s := s.setReg64 (Ra.DMA_CH_FAULT_LO n) (Ra.DMA_CH_FAULT_HI n) iova
  let s := s.setReg (Ra.DMA_CH_FAULT_INFO n) (BitVec.ofNat 32
    (kind * 2 ^ 30 + b2n write * 2 ^ 29 + b2n restart * 2 ^ 28 + extra % 16 * 2 ^ 24 + done))
  let s := if kind = ftError then s else iommuFault s (0x10 + n) iova kind write
  let s := (s.setFld (Fd.DMA_CH_STAT_STATE n) dmaFault).setFld (Fd.DMA_CH_STAT_OUT n) 0
  fabFree s (0x10 + n)

/-- The channel's request has been accepted: it does not stall at its port (R22). -/
def dmaGranted (s : State) (n : Nat) : Bool := !(s.fab.stalled.any (fun t => t.init == 0x10 + n))

/-- A request of a higher class waits, and pre-empts the channel's transfer at its next 256-byte boundary (R23). -/
def dmaPreempted (s : State) (n : Nat) : Bool := s.fab.stalled.any (fun t => decide (t.cls < txnClass s (0x10 + n)))

/-- A descriptor starts: it runs, and holds a fabric entry. -/
def dmaBegin (s : State) (n : Nat) (d : DmaDesc) : State :=
  let s := s.setDch n { s.dch n with run := some { d with pre := false } }
  let s := (s.setFld (Fd.DMA_CH_STAT_STATE n) (if (s.dch n).paused then dmaPaused else dmaRun)).setFld (Fd.DMA_CH_STAT_OUT n) 1
  fabRequest s (0x10 + n) d.src false

/-- Take up work on an idle channel (R363, R365): the next ring entry up to TAIL − 1, an invalid one retiring with BAD_ARGUMENT, or
the LOOP queue's first. -/
def dmaNext (s : State) (n : Nat) : Nat → State
  | 0 => s
  | fuel + 1 =>
    if (s.dch n).run.isSome ∨ s.fld (Fd.DMA_CH_STAT_STATE n) = dmaFault then s
    else if s.fld (Fd.DMA_CH_CFG_MODE n) = 1 then
      match (s.dch n).queue with
      | [] => s.setFld (Fd.DMA_CH_STAT_STATE n) dmaIdle
      | d :: r => dmaBegin (s.setDch n { s.dch n with queue := r }) n d
    else if !s.flag (Fd.DMA_CH_CFG_EN n) || s.fld (Fd.DMA_CH_HEAD_IDX n) == s.fld (Fd.DMA_CH_TAIL_IDX n) then
      s.setFld (Fd.DMA_CH_STAT_STATE n) dmaIdle
    else match ringDesc s n (s.fld (Fd.DMA_CH_HEAD_IDX n)) with
      | none =>
        let a := ringEntry s n (s.fld (Fd.DMA_CH_HEAD_IDX n))
        let kind := match chXlat s n a false with
          | .fault k => k
          | .ok _ => ftTrans
        dmaEnterFault (s.setDch n { s.dch n with run := some {} }) n a kind false true 0 0
      | some d =>
        if dmaLenOk d.len ∧ d.ctl % 2 ^ 29 = 0 then dmaBegin s n d
        else dmaNext (retireRing s n Code.badArgument 0) n fuel

/-- Retire every ring entry up to TAIL as CANCELLED (R366). -/
def dmaCancelRing (s : State) (n : Nat) : Nat → State
  | 0 => s
  | fuel + 1 =>
    if s.fld (Fd.DMA_CH_HEAD_IDX n) = s.fld (Fd.DMA_CH_TAIL_IDX n) then s
    else dmaCancelRing (retireRing s n Code.cancelled 0) n fuel

/-- Retire every queued LOOP-mode descriptor as CANCELLED (R142 step 3). -/
def dmaCancelQueue (s : State) (n : Nat) : State :=
  let q := (s.dch n).queue
  q.foldl (fun s d => retireLoop s n d Code.cancelled 0) (s.setDch n { s.dch n with queue := [] })

/-- The disable of a channel is complete: DISABLE_DONE sets and the state becomes IDLE (R366). -/
def dmaDisabled (s : State) (n : Nat) : State :=
  let s := if s.fld (Fd.DMA_CH_CFG_MODE n) = 1 then dmaCancelQueue s n
    else if s.fld (Fd.DMA_CH_HEAD_IDX n) < ringSize s n then dmaCancelRing s n 4096 else s
  let s := s.setDch n { s.dch n with run := none, stopping := false }
  (s.setFld (Fd.DMA_CH_STAT_STATE n) dmaIdle).setFlag (Fd.DMA_CH_STAT_DISABLE_DONE n) true

/-- The running descriptor retires with a code and DONE; work goes on, or a waiting disable completes. -/
def dmaRetire (s : State) (n code done : Nat) : State := match (s.dch n).run with
  | some d =>
    let s := (s.setDch n { s.dch n with run := none }).setFld (Fd.DMA_CH_STAT_OUT n) 0
    let s := s.setFld (Fd.DMA_CH_STAT_STATE n) dmaIdle
    let s := if d.loop then retireLoop s n d code done else retireRing s n code done
    if (s.dch n).stopping then dmaDisabled s n else dmaNext s n 4096
  | none => s

/-! ### Moving data (R364, R367) -/

/-- The side of a transfer: an IOVA of the channel's context, or tile memory. -/
def dmaSrc (s : State) (n : Nat) (d : DmaDesc) (o : Nat) (write : Bool) : Xlat :=
  if d.loop && d.toIova then .ok (chTile s n (d.tile + o))
  else chXlat s n (if d.fix || (!d.loop && bit d.ctl 30) then d.src else d.src + o) write

/-- The destination side at offset `o`. -/
def dmaDst (s : State) (n : Nat) (d : DmaDesc) (o : Nat) : Xlat :=
  if d.loop && !d.toIova then .ok (chTile s n (d.tile + o))
  else chXlat s n (if d.fix || (!d.loop && bit d.ctl 29) then d.dst else d.dst + o) true

/-- The source and destination addresses as the descriptor gives them at offset `o`. -/
def dmaSrcAddr (d : DmaDesc) (o : Nat) : Nat :=
  if d.loop && d.toIova then d.tile + o else if d.fix || (!d.loop && bit d.ctl 30) then d.src else d.src + o
def dmaDstAddr (d : DmaDesc) (o : Nat) : Nat :=
  if d.loop && !d.toIova then d.tile + o else if d.fix || (!d.loop && bit d.ctl 29) then d.dst else d.dst + o

/-- A side keeps one address: bytes of a beat repeat from it. -/
def dmaSrcFix (d : DmaDesc) : Bool := if d.loop then d.fix && !d.toIova else bit d.ctl 30
def dmaDstFix (d : DmaDesc) : Bool := if d.loop then d.fix && d.toIova else bit d.ctl 29

/-- The length of the chunk at offset `o`: to the next 256-byte boundary of the destination and the next 4 KiB boundary of the
source (R364). -/
def chunkLen (d : DmaDesc) (o : Nat) : Nat :=
  min (d.len - o) (min (256 - dmaDstAddr d o % 256) (4096 - dmaSrcAddr d o % 4096))

/-- Copy `k` bytes of a chunk from physical `sp` to `dp`, in ascending order; a fixed side repeats within each 64-byte beat. -/
def copyBytes (sp dp : Nat) (sf df : Bool) : Nat → Nat → State → State
  | 0, _, s => s
  | k + 1, i, s =>
    let b := s.byteAt (sp + if sf then i % 64 else i)
    copyBytes sp dp sf df k (i + 1) (s.setByte (dp + if df then i % 64 else i) b)

/-- What moving a transfer ends in: all of it moved, or a fault of a kind on a side at offset `o`. -/
inductive DmaMove where
  | done (s : State)
  | fault (s : State) (o kind : Nat) (write : Bool)

/-- A chunk translates both addresses, a loop's descriptor only its IOVA (R364). -/
def chunkWalks (s : State) (n : Nat) (d : DmaDesc) : State :=
  let s := walkCount s (0x10 + n)
  if d.loop then s else walkCount s (0x10 + n)

/-- Move a descriptor's chunks from offset `o` on, at most `fuel` of them; it ends early at offset `stop`. -/
def dmaMove (n : Nat) (d : DmaDesc) (stop : Nat) : Nat → Nat → State → DmaMove
  | 0, _, s => .done s
  | fuel + 1, o, s =>
    if min d.len stop ≤ o then .done s
    else match dmaSrc s n d o false, dmaDst s n d o with
      | .fault k, _ => .fault s o k false
      | .ok _, .fault k => .fault s o k true
      | .ok sp, .ok dp =>
        let k := chunkLen d o
        dmaMove n d stop fuel (o + k) (copyBytes sp dp (dmaSrcFix d) (dmaDstFix d) k 0 (chunkWalks s n d))

/-- The state a move ends in, and the fault it met, if any. -/
def DmaMove.state : DmaMove → State
  | .done s => s
  | .fault s _ _ _ => s

/-- A faulted channel in LOOP mode does SKIP by itself at once (R369). A faulted channel that is being disabled retires with FAULT
(R366). -/
def dmaAfterFault (s : State) (n done : Nat) : State := match (s.dch n).run with
  | some d =>
    let c := s.dch n
    let s := s.setDch n { c with run := some { d with done := done } }
    if d.loop ∨ c.stopping then dmaRetire s n Code.fault done else s
  | none => s

/-- A fault of the running descriptor at offset `o` (R367): RESTART is clear when SRC_FIX is set and the chunk's source had
been read. -/
def dmaFaultAt (s : State) (n : Nat) (d : DmaDesc) (o kind : Nat) (write : Bool) (extra : Nat) : State :=
  let a := if write then dmaDstAddr d o else dmaSrcAddr d o
  dmaAfterFault (dmaEnterFault s n a kind write (!(write && dmaSrcFix d)) extra o) n o

/-- A class 0x5 route hands over the channel's buffers (R139). -/
def dmaRouted (s : State) (n : Nat) : Bool := s.ce.rtIn.any (fun x => rtEn x.2 && rtClass x.2 == 5 && rtIndex x.2 == n)

/-- The buffer that a loop's descriptor has filled is captured at its hand-over, the tick boundary at which the count is latched (R139). -/
def dmaHandOver (s : State) (n : Nat) (d : DmaDesc) : State :=
  if d.loop && !d.toIova && dmaRouted s n then
    tabRecAt s (s.clk.tick + 1) TabT.buf n (d.tile :: (s.wordsAt (chTile s n d.tile) (d.len / 4)).map (·.toNat))
  else s

/-- The running descriptor's transactions proceed and complete: its data moves and it retires with OK, a translation stops it, or a request of
a higher class pre-empts it at its next 256-byte boundary, where it resumes once none waits (R23). Nothing moves while its request stalls
(R22). Data of a loop's descriptor does not enter or leave the boundary in REPLAY (R514). -/
def dmaComplete (s : State) (n : Nat) : State := match (s.dch n).run with
  | some d =>
    if s.fld (Fd.DMA_CH_STAT_STATE n) = dmaFault ∨ (s.dch n).paused ∨ dmaGranted s n = false then s
    else if s.rpl.live.isSome ∧ d.loop = true then dmaRetire (fabFree s (0x10 + n)) n Code.ok d.len
    else if dmaPreempted s n ∧ d.pre then s
    else
      let stop := if dmaPreempted s n then d.done + chunkLen d d.done else d.len
      match dmaMove n d stop (d.len / 4 + 1) d.done s with
      | .done s =>
        if stop < d.len then s.setDch n { s.dch n with run := some { d with done := stop, pre := true } }
        else dmaRetire (dmaHandOver (fabFree s (0x10 + n)) n d) n Code.ok d.len
      | .fault s o k w => dmaFaultAt s n d o k w 0
  | none => s

/-- DESCRIPTOR_RETIRE (R364): the running descriptor of a channel completes. -/
def execDescriptorRetire (n : Fin 32) (s : State) : Out := .next (dmaComplete s n)

/-- The physical address that a chunk at offset `o` reads from or writes to; 0 where its translation faults. -/
def dmaPhys (s : State) (n : Nat) (d : DmaDesc) (o : Nat) (write : Bool) : Nat := match (if write then dmaDst s n d o else dmaSrc s n d o false) with
  | .ok p => p
  | .fault _ => 0

/-- An error response to a beat at offset `o` (R28, R29): it is captured with `kind`, and the channel stops with FAULT. A read error of LPDDR5 is an
uncorrectable one, which is counted (R352). -/
def dmaError (s : State) (n : Nat) (d : DmaDesc) (o : Nat) (write : Bool) (beat extra kind : Nat) : State :=
  let p := dmaPhys s n d o write + 64 * beat
  let s := if !write && kind == 1 && decide (0x0800000000 ≤ p) then s.count Fd.DMA_MEM_UE_CNT_V else s
  dmaFaultAt (fabErr s (0x10 + n) p kind) n d o ftError write extra

/-- DMA_FAULT (R367, R352): an error response to a beat of the running descriptor, after `chunks` further chunks: of a read, or of a
write at beat `beat` of the chunk with `extra` beats issued after it. An error of memory is an access error, KIND 1. -/
def execDmaFault (n : Fin 32) (chunks : Nat) (write : Bool) (beat : Fin 4) (extra : Fin 16) (s : State) : Out :=
  match (s.dch n).run with
  | some d =>
    if s.fld (Fd.DMA_CH_STAT_STATE n) = dmaFault ∨ dmaGranted s n = false ∨ (dmaPreempted s n && d.pre) = true then .next s
    else
      let o := (List.range chunks).foldl (fun o _ => o + chunkLen d o) d.done
      match dmaMove n d o (chunks + 1) d.done s with
      | .fault s o k w => .next (dmaFaultAt s n d o k w 0)
      | .done s =>
        let s := if write then
            match dmaSrc s n d o false, dmaDst s n d o with
            | .ok sp, .ok dp =>
              let k := chunkLen d o
              let b := 64 * beat.val
              let s1 := copyBytes sp dp (dmaSrcFix d) (dmaDstFix d) (min k b) 0 s
              copyBytes (sp + b + 64) (dp + b + 64) (dmaSrcFix d) (dmaDstFix d) (min (k - (b + 64)) (64 * extra.val)) 0 s1
            | _, _ => s
          else s
        .next (dmaError s n d o write (if write then beat.val else 0) (if write then extra.val else 0) 1)
  | none => .next s

/-! ### Commands of a channel -/

/-- The DMA channel of the panel. -/
def panelCh (s : State) : Nat := s.fld Fd.DSP_FB_CFG_CH

/-- The channel is owned by the display controller: writes to its registers from any other initiator are ignored (R478). -/
def panelOwns (s : State) (n : Nat) : Bool := s.flag Fd.DSP_PNL_CTL_EN && panelCh s == n

/-- A DMA channel the panel's fetch owns ignores writes (R478). -/
def unlessPanel (s : State) (n : Nat) (f : State → State) : State := if panelOwns s n then s else f s

/-- A write of TAIL: the channel's doorbell (R363). -/
def dmaTail (s : State) (n : Nat) (tail : Nat) : State := dmaNext (s.setFld (Fd.DMA_CH_TAIL_IDX n) tail) n 4096

/-- RESUME (R369): the descriptor restarts at DONE; a ring entry that could not be read is read again. -/
def dmaResume (s : State) (n : Nat) : State :=
  if s.fld (Fd.DMA_CH_STAT_STATE n) = dmaFault then
    match (s.dch n).run with
    | some d =>
      if d.len = 0 then dmaNext ((s.setDch n { s.dch n with run := none }).setFld (Fd.DMA_CH_STAT_STATE n) dmaIdle) n 4096 else dmaBegin s n d
    | none => s
  else s

/-- SKIP (R369): the descriptor retires with FAULT and its DONE, and the channel goes on. -/
def dmaSkip (s : State) (n : Nat) : State :=
  if s.fld (Fd.DMA_CH_STAT_STATE n) = dmaFault then
    match (s.dch n).run with
    | some d => dmaRetire s n Code.fault d.done
    | none => s
  else s

/-- DMA_RESUME (R369): a write of RESUME to DMA_CH[n]_CMD; ignored outside FAULT. -/
def execDmaResume (n : Fin 32) (s : State) : Out := .next (unlessPanel s n (fun s => dmaResume s n))

/-- DMA_SKIP (R369): a write of SKIP to DMA_CH[n]_CMD; ignored outside FAULT. -/
def execDmaSkip (n : Fin 32) (s : State) : Out := .next (unlessPanel s n (fun s => dmaSkip s n))

/-- EN of a channel is cleared (R366). -/
def dmaDisable (s : State) (n : Nat) : State :=
  if s.flag (Fd.DMA_CH_CFG_EN n) then
    let s := s.setFlag (Fd.DMA_CH_CFG_EN n) false
    match (s.dch n).run with
    | some d =>
      let s := s.setDch n { s.dch n with stopping := true }
      if s.fld (Fd.DMA_CH_STAT_STATE n) = dmaFault then dmaRetire s n Code.fault d.done
      else s.setFld (Fd.DMA_CH_STAT_STATE n) dmaStopping
    | none => dmaDisabled s n
  else s

/-- DMA_DISABLE (R366): CFG.EN of a channel is cleared. -/
def execDmaDisable (n : Fin 32) (s : State) : Out := .next (unlessPanel s n (fun s => dmaDisable s n))

/-- A write of DMA_CH[n]_CFG by an initiator: only the Mirror pair can program SAFETY (R27); EN starts or disables the channel. -/
def dmaCfgWrite (s : State) (init n : Nat) (v : Word) : State :=
  let keep := bits v.toNat 28 2 == 0 && init != 0x0C
  let v : Nat := if keep then setBits v.toNat 28 2 (s.fld (Fd.DMA_CH_CFG_CLASS n)) else v.toNat
  let was := s.flag (Fd.DMA_CH_CFG_EN n)
  let en := bit v 31
  let s := plainWrite s (Ra.DMA_CH_CFG n) (BitVec.ofNat 32 (setBits v 31 1 (b2n was)))
  if en && !was then dmaNext ((s.setFlag (Fd.DMA_CH_CFG_EN n) true).setFlag (Fd.DMA_CH_STAT_DISABLE_DONE n) false) n 4096
  else if was && !en then dmaDisable s n
  else s

/-! ### LOOP mode (R365) -/

/-- Word `k` (0–7) of entry `i` of a loop's submit window. -/
def submitWord (s : State) (loop i k : Nat) : Nat := (smGet 0 s.dma.win (64 * loop + 8 * i + k)).toNat

/-- The descriptor an entry of the submit window stands for. -/
def submitDesc (s : State) (loop i : Nat) : DmaDesc :=
  let iova := submitWord s loop i 2 + submitWord s loop i 3 * 2 ^ 32
  let ctl := submitWord s loop i 6
  { src := iova, dst := iova, len := submitWord s loop i 4, ctl := ctl, loop := true, tile := submitWord s loop i 0,
    stat := submitWord s loop i 5, toIova := bit ctl 30, fix := bit ctl 29 }

/-- A submission's fields are in range: lengths, alignments, reserved bits, the tile range and the write-back inside the
window. -/
def submitOk (s : State) (loop i : Nat) (d : DmaDesc) : Bool := match loopWindow s loop with
  | some w =>
    dmaLenOk d.len && d.tile % 4 == 0 && d.stat % 8 == 0 && bits d.ctl 5 24 == 0 && submitWord s loop i 1 == 0 &&
      submitWord s loop i 7 == 0 && decide (d.tile + d.len ≤ w.2) && decide (d.stat + 8 ≤ w.2)
  | none => false

/-- GO of a submit-window entry (R365): the descriptor is queued, or retires at once with BAD_ARGUMENT or REFUSED, or with CANCELLED where it
comes with the last sample of a loop being disabled or stopped (R140, R142 step 3). In REPLAY
submissions are compared, not executed (R370). -/
def dmaSubmit (s : State) (loop i : Nat) : State :=
  if s.rpl.live.isSome then s
  else
    let d := submitDesc s loop i
    let n := d.ctl % 32
    let bound := s.flag (Fd.DMA_CH_CFG_EN n) && s.fld (Fd.DMA_CH_CFG_MODE n) == 1 && s.fld (Fd.DMA_CH_CFG_OWNER n) == loop
    if !(bound && submitOk s loop i d) then
      let s := match loopWindow s loop with
        | some w => if d.stat ≠ 0 ∧ d.stat % 8 = 0 ∧ d.stat + 8 ≤ w.2 then
            s.setBytes (w.1 + d.stat) (leBytes 4 (Code.badArgument * 2 ^ 16) ++ leBytes 4 0) else s
        | none => s
      dmaCount s n
    else if 16 ≤ (s.dch n).queue.length then retireLoop s n d Code.refused 0
    else if s.loopState loop = SlotSt.disabling ∨ s.loopState loop = SlotSt.stopped then retireLoop s n d Code.cancelled 0
    else dmaNext (s.setDch n { s.dch n with queue := (s.dch n).queue ++ [d] }) n 2

/-- A delivered write into the submit window: the word is stored, and a CTL word with GO submits its entry (R91, R365). -/
def submitWrite (s : State) (loop ofs : Nat) (w : Word) : State :=
  let s := s.setDma { s.dma with win := smPut 0 s.dma.win (64 * loop + ofs / 4) w }
  if ofs % 32 = 0x18 ∧ bit w.toNat 31 then dmaSubmit s loop (ofs / 32) else s

/-- The LOOP-mode channels bound to a loop. -/
def loopChannels (s : State) (loop : Nat) : List Nat := (List.range 32).filter (fun n =>
  s.flag (Fd.DMA_CH_CFG_EN n) && s.fld (Fd.DMA_CH_CFG_MODE n) == 1 && s.fld (Fd.DMA_CH_CFG_OWNER n) == loop)

/-- Retire as CANCELLED every descriptor of a loop that has not started (R142 step 3). -/
def dmaCancelLoop (s : State) (loop : Nat) : State := (loopChannels s loop).foldl dmaCancelQueue s

/-- No descriptor of the loop is running. -/
def dmaQuiet (s : State) (loop : Nat) : Bool := (loopChannels s loop).all (fun n => (s.dch n).run.isNone)

/-- Pause or resume the transfers of a migrating loop's window (R147). -/
def dmaPause (s : State) (loop : Nat) (b : Bool) : State :=
  (loopChannels s loop).foldl (fun s n =>
    let s := s.setDch n { s.dch n with paused := b }
    if (s.dch n).run.isSome ∧ s.fld (Fd.DMA_CH_STAT_STATE n) ≠ dmaFault then
      s.setFld (Fd.DMA_CH_STAT_STATE n) (if b then dmaPaused else dmaRun) else s) s

end Sys2Proof.Machine
end

