-- ==== Sys2Proof/Machine/Time.lean ====
section
/-! DEFINITION. Device time, its steering and the stream units (R36–R52, R575). -/

namespace Sys2Proof.Machine

/-! ### Units and limits -/

/-- ±5 ppm in units of 2^-40 (R38, R575). -/
abbrev ppm5 : Int := 5497558

/-- Limit a steering term to ±5 ppm. -/
def clampK (x : Int) : Int := max (-ppm5) (min ppm5 x)

/-- 1 µs and 1 ms in units of 2^-32 ns. -/
abbrev fpUs : Int := 1000 * 2 ^ 32
abbrev fpMs : Int := 1000000 * 2 ^ 32

/-- Time states (R39). -/
abbrev tFree : Nat := 0
abbrev tLocked : Nat := 1
abbrev tHoldover : Nat := 2
abbrev tConverging : Nat := 3

/-- The slew and holdover limits in force: CLK_STEER_CFG as last applied at a second boundary. -/
def steerCfg (s : State) : Nat := (s.clk.steerRun.getD (resetVal Ra.CLK_STEER_CFG)).toNat

/-- SLEW_RATE in units of 2^-40: 0 acts as 1, above 200 as 200, in 0.01 ppm. -/
def slewRate (s : State) : Int := ((clampN 1 200 (bits (steerCfg s) 0 8) * 2 ^ 40 / 10 ^ 8 : Nat) : Int)

/-- HOLD_LIM in ns: 0 acts as 1 µs. -/
def holdLimNs (s : State) : Nat := max 1 (bits (steerCfg s) 8 16) * 1000

/-- U(t) of R42 in ns: U0 + rσ·t + 2·10^-11 s^-1·t². -/
def holdUnc (s : State) : Nat :=
  let c := s.clk.cyc - s.clk.holdCyc
  s.clk.u0 + s.clk.rsig * c * 25 / (4 * 2 ^ 40) + c * c * 78125 / 10 ^ 23

/-- rσ of R575 in units of 2^-40: the largest difference between two of the last 600 values of f, at least 1 ppb. -/
def freqSigma (l : List Int) : Nat := match l with
  | [] => 1100
  | x :: r => max 1100 ((r.foldl max x) - (r.foldl min x)).toNat

/-- Store an integer number of units of 2^-40 in CLK_FREQ_EST and in f. -/
def setFreq (s : State) (f : Int) : State :=
  (s.setClk { s.clk with f := f }).setReg Ra.CLK_FREQ_EST (wordOfInt f)

/-- Report the time uncertainty U, saturating. -/
def setUnc (s : State) (u : Nat) : State := s.setReg Ra.CLK_TIME_UNC (BitVec.ofNat 32 (satU 32 u))

/-- The next instant at which DT reaches a multiple of 10^9 ns. -/
def nextSecond (s : State) : Nat := (s.dtNs / 10 ^ 9 + 1) * 10 ^ 9

/-! ### Steps of DT (R40, R43, R45, R51) -/

/-- Every tick index inside the replay boundary that is kept for a later or an earlier tick moves with the index when it jumps, since ticks are
neither skipped nor doubled (R45). -/
def shiftBnd (s : State) (n : Nat) : State :=
  let mv := fun (x : Option Nat) => x.map (· + n)
  let s := { s with
    stage := s.stage.map (fun (x : Staged) => { x with tick := x.tick + n }),
    pub := smMapVals {} (fun _ (v : PubV) => ({ v with tick := mv v.tick } : PubV)) s.pub }
  let s := s.setCe { s.ce with
    held := s.ce.held.map (fun (h : Held) => { h with pub := h.pub + n }),
    lost := s.ce.lost.map (fun x => (x.1, x.2 + n)),
    resume := smMapVals none (fun _ x => mv x) s.ce.resume,
    copies := s.ce.copies.map (fun (c : LoadCopy) => { c with at_ := c.at_ + n }),
    migs := s.ce.migs.map (fun (m : Mig) => { m with from_ := m.from_ + n, tc := mv m.tc }),
    stopAt := smMapVals none (fun _ x => mv x) s.ce.stopAt,
    disAt := smMapVals none (fun _ x => mv x) s.ce.disAt }
  let s := s.setGw { s.gw with
    ctx := smMapVals none (fun _ x => x.map (fun (c : GwCtx) => { c with tick := c.tick + n })) s.gw.ctx,
    due := smMapVals [] (fun _ l => l.map (fun (c : GwCtx) => { c with tick := c.tick + n })) s.gw.due }
  let s := s.setMfp { s.mfp with fn := smMapVals {} (fun _ (x : MfSt) => ({ x with holdTick := mv x.holdTick } : MfSt)) s.mfp.fn }
  let s := s.setSteer { s.steer with disAt := s.steer.disAt.map (fun x => (x.1 + n, x.2)) }
  s.setFus { s.fus with
    handed := s.fus.handed.map (fun (r : InfRes) => { r with tick := r.tick + n }),
    egoTick := s.fus.egoTick + n,
    trkWr := s.fus.trkWr.map (fun x => (x.1 + n, x.2)) }

/-- A baseline's epoch and latch ticks move with the index. -/
def Baseline.shift (b : Baseline) (n : Nat) : Baseline := { b with epoch := b.epoch + n, latch := b.latch + n }

/-- The tick indices kept outside the replay boundary: GNSS epochs and latches, holds of the recording that still run, a running sensing test, and
the frame boundary still to be run. -/
def shiftLive (s : State) (n : Nat) : State :=
  let t := s.liveTick
  let s := s.setGns { s.gns with
    fix := { s.gns.fix with epoch := s.gns.fix.epoch + n },
    nb := smMapVals {} (fun _ (x : NbSt) => ({ x with best := x.best.map (·.shift n), wait := x.wait.map (·.shift n) } : NbSt)) s.gns.nb }
  let s := s.setTab { s.tab with holds := s.tab.holds.map (fun x => (x.1, if t < x.2.toTick then { x.2 with toTick := x.2.toTick + n } else x.2)) }
  let s := s.setFus { s.fus with waitR := s.fus.waitR.map (fun (r : InfRes) => { r with tick := r.tick + n }) }
  s.setUin { s.uin with test := s.uin.test.map (fun (x : TestRun) => { x with at_ := x.at_ + n }) }

/-- The tick index jumps by `n`, and every tick that is kept moves with it. In REPLAY the boundary's own index and ticks stand (R514). -/
def shiftTicks (s : State) (n : Nat) : State :=
  let s := shiftLive s n
  if s.rpl.live.isSome then s else shiftBnd (s.setClk { s.clk with frameAt := s.clk.frameAt.map (· + n) }) n

/-- Step every anchor by S; a step during anchoring restarts anchoring (R51). -/
def stepAnchors (s : State) (ns : Nat) : State :=
  s.setClk { s.clk with strm := smMapVals {} (fun _ x => if x.cnt < 8 then ({} : Strm) else { x with a := x.a + ns }) s.clk.strm }

/-- CLK_TICK_STAT shows a tick index. -/
def showTick (s : State) (t : Nat) : State := s.setReg Ra.CLK_TICK_STAT (BitVec.ofNat 32 (t / 200 % 2 ^ 24 * 256 + t % 200))

/-- Advance the tick index by `n`: in REPLAY the live index, which is kept apart (R514). -/
def addTick (s : State) (n : Nat) : State :=
  if s.rpl.live.isSome then
    let s := s.setRpl { s.rpl with liveTick := s.rpl.liveTick + n }
    showTick s s.rpl.liveTick
  else
    let s := s.setClk { s.clk with tick := s.clk.tick + n }
    showTick s s.clk.tick

/-- DT steps forward by `fp` × 2^-32 ns, S = new DT − old DT in ns: the tick index jumps by 200·N, the phase that is left is removed one cycle
a tick, anchors shift, STEP sets and STEPS counts (R43, R45, R51). -/
def timeStep (s : State) (fp : Nat) : State :=
  let ns : Nat := (s.clk.dtFp + fp) / 2 ^ 32 - s.dtNs
  let n : Nat := (ns + 5000000) / 10000000
  let ph : Int := ((ns : Int) - (n * 10000000 : Nat)) * 4 / 25
  let s := shiftTicks s (200 * n)
  let s := s.setClk { s.clk with dtFp := s.clk.dtFp + fp, phase := s.clk.phase + ph, stepSeq := s.clk.stepSeq + 1 }
  let s := addTick s (200 * n)
  let s := stepAnchors s ns
  let s := s.setFlag Fd.CLK_TIME_STAT_TICK_ALIGN (s.clk.phase != 0)
  let s := s.setGns { s.gns with ppsFrom := s.dtNs }
  let s := tabRec s TabT.mark TabM.step [ns]
  (s.setFlag Fd.CLK_TIME_STAT_STEP true).count Fd.CLK_TIME_STAT_STEPS

/-- DT_STEP (R40, R45): DT has reached the second boundary of a pending step, and the step of E is made. -/
def execDtStep (s : State) : Out := match s.clk.stepPend with
  | some e =>
    if s.clk.stepAt ≤ s.dtNs then
      .next (timeStep (s.setClk { s.clk with stepPend := none, stepUsed := s.clk.seek }) e.toNat)
    else .next s
  | none => .next s

/-- Set DT from CLK_DT_SET_LO and a written CLK_DT_SET_HI (R43). -/
def dtSet (s : State) (init : Nat) (hi : Word) : State :=
  let s := s.setReg Ra.CLK_DT_SET_HI hi
  let new := (s.reg Ra.CLK_DT_SET_LO).toNat + hi.toNat * 2 ^ 32
  if s.timeState = tFree ∧ s.dtNs < new then timeStep s ((new - s.dtNs) * 2 ^ 32)
  else logEvent s Ev.timeSetRefused init s.timeState 0

/-- DT_SET (R43): an initiator writes CLK_DT_SET_HI. -/
def execDtSet (init : Fin 58) (hi : Word) (s : State) : Out := .next (dtSet s init hi)

/-- A time aid of the given uncertainty in µs (R238): the baseband takes the one with the smallest uncertainty. -/
def noteTimeAid (s : State) (us : Nat) : State := match s.gns.aidTime with
  | some (u, _) => if us < u then s.setGns { s.gns with aidTime := some (us, s.clk.cyc) } else s
  | none => s.setGns { s.gns with aidTime := some (us, s.clk.cyc) }

/-! ### Time solutions and the steering loop (R39–R42, R575) -/

/-- Set the time state with SLEWING; a change of state writes a MARK (R504). -/
def setTimeState (s : State) (st : Nat) (dir : Int) : State :=
  let s := if s.timeState = st then s else tabRec s TabT.mark TabM.timeState [st]
  ((s.setClk { s.clk with slewDir := dir }).setFld Fd.CLK_TIME_STAT_STATE st).setFlag Fd.CLK_TIME_STAT_SLEWING (dir != 0)

/-- The integral and phase terms of the steering loop for an error in 2^-32 ns (R575). -/
def steerLoop (s : State) (e : Int) : State :=
  let f := clampK (s.clk.f + e * 256 / 10 ^ 14)
  let s := setFreq s f
  s.setClk { s.clk with k := clampK (f + e * 256 / (20 * 10 ^ 9)) }

/-- The steering term while a slew runs: f frozen, k = f ± SLEW_RATE within ±5 ppm (R575). -/
def slewTerm (s : State) (dir : Int) : State := s.setClk { s.clk with k := clampK (s.clk.f + dir * slewRate s) }

/-- Keep the last 600 values of f. -/
def noteFreq (s : State) : State := s.setClk { s.clk with fHist := (s.clk.f :: s.clk.fHist).take 600 }

/-- LOCKED is reached: the interval in which one step may be made ends (R41). -/
def timeLocked (s : State) : State :=
  let s := s.setClk { s.clk with stepUsed := false, seek := false }
  (setTimeState s tLocked 0).setFlag Fd.CLK_TIME_STAT_HOLD_LIM false

/-- The correction of R40 for an error E in 2^-32 ns. A pending step waits for its second boundary with the E that decided it; DESIGN CHOICE (log
34): the spec gives no k for that wait, and the model takes k := f. -/
def correct (s : State) (e : Int) : State :=
  if s.clk.stepPend.isSome then setTimeState s tConverging 0
  else if -fpUs ≤ e ∧ e ≤ fpUs then steerLoop (timeLocked s) e
  else if e < -fpUs then slewTerm (setTimeState s tConverging (-1)) (-1)
  else if e < fpMs ∨ s.clk.stepUsed then slewTerm (setTimeState s tConverging 1) 1
  else
    let s := setTimeState s tConverging 0
    s.setClk { s.clk with stepPend := some e, stepAt := nextSecond s, k := s.clk.f }

/-- A valid time solution with error `e` (2^-32 ns) and estimated uncertainty `sigma` ns (R40, R41, R575). -/
def timeSolution (s : State) (e : Int) (sigma : Nat) : State :=
  let st := s.timeState
  let s := s.setClk { s.clk with solCyc := s.clk.cyc, sigma := sigma }
  let s := if st = tFree then setFreq s (s.clk.fSaved.getD 0) else s
  let s := if st = tFree ∨ st = tHoldover then
      (s.setClk { s.clk with stepUsed := false, seek := true }).setFlag Fd.CLK_TIME_STAT_HOLD_LIM false else s
  let s := noteFreq (correct s e)
  setUnc s (if s.timeState = tLocked then sigma + 10 else e.natAbs / 2 ^ 32 + sigma)

/-- The solution is lost: a pending step is cancelled (R41). -/
def timeLost (s : State) : State := s.setClk { s.clk with stepPend := none }

/-- HOLDOVER_ENTRY (R39, R42): 2 s without a valid solution while LOCKED or CONVERGING; any slew and any pending step end and k
is the frozen frequency estimate. -/
def execHoldoverEntry (s : State) : Out :=
  if (s.timeState = tLocked ∨ s.timeState = tConverging) ∧ s.since s.clk.solCyc (2 * cycS) then
    let s := s.setClk { s.clk with
      stepPend := none, k := s.clk.f, holdCyc := s.clk.cyc, u0 := (s.reg Ra.CLK_TIME_UNC).toNat, rsig := freqSigma s.clk.fHist }
    .next (setTimeState s tHoldover 0)
  else .next s

/-- HOLD_LIM_EXCEEDED (R42): U exceeds CLK_STEER_CFG.HOLD_LIM in HOLDOVER. -/
def execHoldLimExceeded (s : State) : Out :=
  if s.timeState = tHoldover ∧ holdLimNs s < holdUnc s then .next (s.setFlag Fd.CLK_TIME_STAT_HOLD_LIM true) else .next s

/-- A write of CLK_STEER_CFG waits for the next DT second boundary. -/
def steerWrite (s : State) (v : Word) : State :=
  (plainWrite s Ra.CLK_STEER_CFG v).setClk { (plainWrite s Ra.CLK_STEER_CFG v).clk with steerAt := some (nextSecond s) }

/-- STEER_CFG_APPLY (R42): DT has reached the second boundary after a CLK_STEER_CFG write, and its values take effect, also for a slew that
runs. -/
def execSteerCfgApply (s : State) : Out := match s.clk.steerAt with
  | some t =>
    if t ≤ s.dtNs then
      let s := s.setClk { s.clk with steerAt := none, steerRun := some (s.reg Ra.CLK_STEER_CFG) }
      .next (if s.clk.slewDir = 0 then s else slewTerm s s.clk.slewDir)
    else .next s
  | none => .next s

/-! ### One tick of time (R44, R45) -/

/-- The phase after a tick: one DTB cycle nearer to none. -/
def nextPhase (p : Int) : Int := if 0 < p then p - 1 else if p < 0 then p + 1 else 0

/-- DTB cycles of the next tick: up to the first cycle at or after its boundary in DT, which lies at the index × 50 000 ns and the phase still left
(R44); steering and slewing change the DT rate and with it the length (R45). -/
def tickLen (s : State) : Nat :=
  let goal : Int := (((s.liveTick + 1) * 50000 * 2 ^ 32 : Nat) : Int) + nextPhase s.clk.phase * 26843545600
  let per : Int := 26843545600 * (2 ^ 40 + s.clk.k)
  (max 1 (min 8002 (((goal - s.clk.dtFp) * 2 ^ 40 + per - 1) / per))).toNat

/-- Advance the DTB count, DT and the tick index by one tick; U grows in HOLDOVER. -/
def advanceTick (s : State) : State :=
  let n := tickLen s
  let inc := ((n : Int) * 6250 * 2 ^ 32 * (2 ^ 40 + s.clk.k) / (1000 * 2 ^ 40)).toNat
  let ph := nextPhase s.clk.phase
  let s := s.setClk { s.clk with cyc := s.clk.cyc + n, dtFp := s.clk.dtFp + inc, phase := ph }
  let s := addTick s 1
  let s := s.setFlag Fd.CLK_TIME_STAT_TICK_ALIGN (ph != 0)
  if s.timeState = tHoldover then
    let s := setUnc s (holdUnc s)
    if holdUnc s ≤ holdLimNs s then s.setFlag Fd.CLK_TIME_STAT_HOLD_LIM false else s
  else s

/-! ### Stream units (R49–R52) -/

/-- Start anchoring a stream anew; SLIPPED clears, and its change is recorded. -/
def reanchor (s : State) (n : Nat) : State :=
  let was := s.flag (Fd.CLK_STRM_STAT_SLIPPED n)
  let s := s.setClk { s.clk with strm := smPut {} s.clk.strm n {} }
  let s := (s.setFlag (Fd.CLK_STRM_STAT_SLIPPED n) false).setFlag (Fd.CLK_STRM_STAT_ANCHORED n) false
  if was then logEvent s Ev.streamSlip Src.unit n 0 else s

/-- DEV in µs, signed, saturating at ±8 388 607, as 24 bits. -/
def devField (d : Int) : Nat := unsint 24 (max (-8388607) (min 8388607 (d / 1000)))

/-- Set SLIPPED and record its change. -/
def setSlipped (s : State) (n : Nat) (b : Bool) : State :=
  if s.flag (Fd.CLK_STRM_STAT_SLIPPED n) = b then s
  else logEvent (s.setFlag (Fd.CLK_STRM_STAT_SLIPPED n) b) Ev.streamSlip Src.unit n (b2n b)

/-- A sample of an anchored stream with deviation `d` ns (R50). -/
def slipCheck (s : State) (n : Nat) (d : Int) : State :=
  let p : Int := ((s.fld (Fd.CLK_STRM_CFG_PERIOD n) * 10000 : Nat) : Int)
  let x := smGet {} s.clk.strm n
  let s := s.setFld (Fd.CLK_STRM_STAT_DEV n) (devField d)
  let near := decide (2 * (d.natAbs : Int) ≤ p)
  let s := s.setClk { s.clk with strm := smPut {} s.clk.strm n { x with okRun := if near then x.okRun + 1 else 0 } }
  if p = 0 then s
  else if p < d.natAbs then setSlipped s n true
  else if near ∧ 8 ≤ x.okRun + 1 then setSlipped s n false
  else s

/-- A sample of stream `n` with an arrival stamp and a sensor time in ns (R50): the first eight anchor it. -/
def streamSample (s : State) (n arr sens : Nat) : State :=
  if s.flag (Fd.CLK_STRM_CFG_EN n) then
    let d : Int := (arr : Int) - sens
    let x := smGet {} s.clk.strm n
    if x.cnt < 8 then
      let m := if x.cnt = 0 then d else min x.minD d
      let s := s.setClk { s.clk with strm := smPut {} s.clk.strm n { cnt := x.cnt + 1, minD := m, a := m, okRun := 0 } }
      if x.cnt = 7 then s.setFlag (Fd.CLK_STRM_STAT_ANCHORED n) true else s
    else slipCheck s n (d - x.a)
  else s

/-- STREAM_SAMPLE (R50): a sample of an enabled stream. -/
def execStreamSample (n : Fin 24) (arr sens : Long) (s : State) : Out := .next (streamSample s n arr.toNat sens.toNat)

/-- A write of CLK_STRM[n]_CFG: setting EN, or REANCHOR, starts anchoring (R50). -/
def strmCfgWrite (s : State) (n : Nat) (v : Word) : State :=
  let was := s.flag (Fd.CLK_STRM_CFG_EN n)
  let s := plainWrite s (Ra.CLK_STRM_CFG n) v
  let s := s.setFld (Fd.CLK_STRM_CFG_REANCHOR n) 0
  if (bit v.toNat 31 && !was) || bit v.toNat 30 then reanchor s n else s

/-- STREAM_ENABLE (R50): CLK_STRM[n]_CFG is written with EN set and a nominal period. -/
def execStreamEnable (n : Fin 24) (period : Half) (s : State) : Out :=
  .next (strmCfgWrite s n (BitVec.ofNat 32 (2 ^ 31 + period.toNat)))

/-- STREAM_REANCHOR (R50): REANCHOR of CLK_STRM[n]_CFG is written, with EN and PERIOD as they stand. -/
def execStreamReanchor (n : Fin 24) (s : State) : Out :=
  .next (strmCfgWrite s n (s.reg (Ra.CLK_STRM_CFG n) ||| 0x40000000#32))

end Sys2Proof.Machine
end

