-- ==== Sys2Proof/Machine/Cam.lean ====
section
/-! DEFINITION. Camera links, stereo pairs, exposure commits and the image pipeline (R265–R287). -/

namespace Sys2Proof.Machine

/-- The link unit of camera `n`. -/
def State.camSt (s : State) (n : Nat) : CamSt := smGet {} s.cam.cam n

/-- Replace the link unit of camera `n`. -/
def State.setCamSt (s : State) (n : Nat) (c : CamSt) : State := s.setCam { s.cam with cam := smPut {} s.cam.cam n c }

/-- The fabric initiator of a camera's frame writer (R26). -/
def camInit (n : Nat) : Nat := 0x30 + n

/-! ### Triggers (R47, R272) -/

/-- The camera is trigger-locked. -/
def camLocked (s : State) (n : Nat) : Bool := bit (s.runReg Ra.CLK_PLOCK_EN).toNat (8 + n)

/-- PERIOD in force, 1 to 4 095. -/
def camPeriod (s : State) (n : Nat) : Nat := max 1 (bits (s.runReg (Ra.CLK_CAM_TRIG n)).toNat 20 12)

/-- TICK_OFS in force, modulo PERIOD. -/
def camTickOfs (s : State) (n : Nat) : Nat := bits (s.runReg (Ra.CLK_CAM_TRIG n)).toNat 8 12 % camPeriod s n

/-- DELAY in force. -/
def camDelay (s : State) (n : Nat) : Nat := min 7999 (bits (s.runReg (Ra.CLK_CAM_FINE n)).toNat 0 13)

/-- The triggers that belong to the present tick (R47): the last three of each camera are kept. -/
def camTriggers (s : State) : State := s.forN 6 (fun s n =>
  if camLocked s n ∧ s.liveTick % camPeriod s n = camTickOfs s n then
    let c := s.camSt n
    s.setCamSt n { c with trigs := ((s.liveTick, s.clk.cyc + camDelay s n) :: c.trigs).take 3 }
  else s)

/-- The trigger a frame arriving at cycle `at_` belongs to (R272); 0xFFFF_FFFF while the camera free-runs. -/
def camTrigOf (s : State) (n at_ : Nat) : Nat :=
  if camLocked s n then
    match (s.camSt n).trigs.find? (fun x => decide (x.2 ≤ at_)) with
    | some x => x.1 % 2 ^ 32
    | none => 0xFFFFFFFF
  else 0xFFFFFFFF

/-! ### Stereo pairs (R273–R275) -/

/-- The state of pair `p` beyond its registers. -/
def State.pairSt (s : State) (p : Nat) : PairSt := smGet {} s.cam.pair p

/-- Replace it. -/
def State.setPairSt (s : State) (p : Nat) (x : PairSt) : State := s.setCam { s.cam with pair := smPut {} s.cam.pair p x }

/-- The two cameras of a pair. -/
def pairCams (s : State) (p : Nat) : Nat × Nat := (s.fld (Fd.CAM_PAIR_CFG_LEFT p), s.fld (Fd.CAM_PAIR_CFG_RIGHT p))

/-- The pair's cameras are two, trigger-locked, with equal schedules (R273). -/
def pairOk (s : State) (p : Nat) : Bool :=
  let (l, r) := pairCams s p
  decide (l < 6 ∧ r < 6 ∧ l ≠ r) && camLocked s l && camLocked s r && s.runReg (Ra.CLK_CAM_TRIG l) == s.runReg (Ra.CLK_CAM_TRIG r) &&
    s.runReg (Ra.CLK_CAM_FINE l) == s.runReg (Ra.CLK_CAM_FINE r)

/-- Unlock a LOCKED pair with a reason (R274). -/
def pairUnlock (s : State) (p why : Nat) : State :=
  if s.fld (Fd.CAM_PAIR_STAT_STATE p) = 2 then
    let s := ((s.setFld (Fd.CAM_PAIR_STAT_STATE p) 1).setFld (Fd.CAM_PAIR_STAT_WHY p) why).count (Fd.CAM_PAIR_STAT_UNLOCKS p)
    let s := s.setPairSt p { s.pairSt p with miss := 0 }
    logEvent (s.raise (Ra.CAM_INT_PEND 3) p) Ev.pairUnlock Src.unit p why
  else s

/-- Evaluate an enabled pair's schedules, links and streams (R273, R274 reasons 1, 3 and 4). -/
def pairCheck (s : State) (p : Nat) : State :=
  if s.flag (Fd.CAM_PAIR_CFG_EN p) then
    let (l, r) := pairCams s p
    if pairOk s p then
      let s := s.setFld (Fd.CAM_PAIR_STAT_CODE p) Code.ok
      let s := if s.flag (Fd.CLK_STRM_STAT_ANCHORED l) && s.flag (Fd.CLK_STRM_STAT_ANCHORED r) then s.setPairSt p { s.pairSt p with settle := false } else s
      if (s.pairSt p).settle then (if s.flag (Fd.CAM_LNK_STAT_UP l) && s.flag (Fd.CAM_LNK_STAT_UP r) then s else pairUnlock s p 3)
      else if s.flag (Fd.CLK_STRM_STAT_SLIPPED l) || s.flag (Fd.CLK_STRM_STAT_SLIPPED r) then pairUnlock s p 1
      else if s.flag (Fd.CAM_LNK_STAT_UP l) && s.flag (Fd.CAM_LNK_STAT_UP r) then s
      else pairUnlock s p 3
    else (pairUnlock s p 4).setFld (Fd.CAM_PAIR_STAT_CODE p) Code.badArgument
  else s

/-- Evaluate all pairs. -/
def pairsCheck (s : State) : State := s.forN 3 pairCheck

/-- A write of CAM_PAIR[p]_CFG: the pair starts UNLOCKED, or is off. -/
def pairCfgWrite (s : State) (p : Nat) (v : Word) : State :=
  let s := plainWrite s (Ra.CAM_PAIR_CFG p) v
  let s := s.setFld (Fd.CAM_PAIR_STAT_STATE p) (if s.flag (Fd.CAM_PAIR_CFG_EN p) then 1 else 0)
  pairCheck (s.setPairSt p {}) p

/-- An unmatched trigger of a pair (R273, R274 reason 2). -/
def pairMiss (s : State) (p : Nat) : State :=
  let s := s.count (Fd.CAM_PAIR_UNM_V p)
  let m := (s.pairSt p).miss + 1
  let s := s.setPairSt p { s.pairSt p with miss := m }
  if max 1 (s.fld (Fd.CAM_PAIR_CFG_MISS_LIM p)) ≤ m then pairUnlock s p 2 else s

/-! ### Rings and descriptors (R269–R271) -/

/-- Bytes of a ring slot. -/
def camSlotSize (s : State) (n : Nat) : Nat := s.fld (Fd.CAM_LNK_RING_CFG_SLOT_SIZE n) * 4096

/-- Slots of a ring. -/
def camSlots (s : State) (n : Nat) : Nat := max 1 (min 1024 (s.fld (Fd.CAM_LNK_RING_CFG_SLOTS n)))

/-- The IOVA of a ring slot. -/
def camSlotAddr (s : State) (n i : Nat) : Nat :=
  s.reg64 (Ra.CAM_LNK_RING_LO n) (Ra.CAM_LNK_RING_HI n) / 4096 * 4096 + i * camSlotSize s n

/-- WIDTH and HEIGHT of a virtual channel, limited to their ranges. -/
def vcWidth (s : State) (n v : Nat) : Nat := clampN 16 4096 (s.fld (Fd.CAM_LNK_VC_CFG_WIDTH n v))
def vcHeight (s : State) (n v : Nat) : Nat := clampN 1 3072 (s.fld (Fd.CAM_LNK_VC_CFG_HEIGHT n v))

/-- The CSI-2 data type a channel's TYPE takes; none discards. -/
def vcType (s : State) (n v : Nat) : Option Nat := match s.fld (Fd.CAM_LNK_VC_CFG_TYPE n v) with
  | 0 => some 0x2B
  | 1 => some 0x2C
  | 2 => some 0x1E
  | _ => none

/-- Bytes of a line of `w` pixels of a data type, as CSI-2 packs it. -/
def lineBytes (type w : Nat) : Nat := if type = 0x2B then (w * 5 + 3) / 4 else if type = 0x2C then (w * 3 + 1) / 2 else 2 * w

/-- Pixels of a line of `n` bytes. -/
def linePixels (type n : Nat) : Nat := if type = 0x2B then n * 4 / 5 else if type = 0x2C then n * 2 / 3 else n / 2

/-- Frame flags (word 0x24 of the descriptor). -/
abbrev ffSlipped : Nat := 0
abbrev ffTrunc : Nat := 1
abbrev ffOvf : Nat := 2
abbrev ffCrc : Nat := 3
abbrev ffSize : Nat := 4
abbrev ffNoEmb : Nat := 5
abbrev ffHold : Nat := 6
abbrev ffStep : Nat := 7
abbrev ffPaired : Nat := 8

/-- Set a flag. -/
def setFF (fl b : Nat) : Nat := setBits fl b 1 1

/-- A frame with TRUNC, OVF or SIZE is damaged (R271). -/
def ffDamaged (fl : Nat) : Bool := bit fl ffTrunc || bit fl ffOvf || bit fl ffSize

/-- The SRC byte of a descriptor. -/
def camSrc (n v : Nat) : Nat := n + 16 * v

/-- The 64 bytes of a frame descriptor (R270). -/
def frameDesc (s : State) (n v endDt : Nat) (f : CamFrame) : List Byte :=
  leBytes 8 f.arrDt ++ leBytes 8 f.sensT ++ leBytes 8 endDt ++ leBytes 4 f.fcnt ++ leBytes 2 f.epoch ++
  leBytes 1 (camSrc n v) ++ leBytes 1 f.type ++ leBytes 2 f.width ++ leBytes 2 f.lines ++ leBytes 4 f.flags ++
  leBytes 4 f.trig ++ leBytes 4 f.slot ++ leBytes 8 (camSlotAddr s n f.slot + 64) ++ leBytes 4 f.bytes ++ leBytes 4 0

/-- Set PAIRED in the descriptor of a slot. -/
def markPaired (s : State) (n slot : Nat) : State :=
  let a := camSlotAddr s n slot + 0x24
  let s := noteXfer s (camInit n) a 4 false
  match readIova s (camInit n) a 4 with
  | some l => writeIova s (camInit n) a (leBytes 4 (setFF (leNat l) ffPaired))
  | none => s

/-- The second frame of a trigger has arrived undamaged too: PAIRED in both, and a relock if UNLOCKED with CODE OK (R275). -/
def pairMatch (s : State) (p trig c1 s1 c2 s2 : Nat) : State :=
  let st := s.fld (Fd.CAM_PAIR_STAT_STATE p)
  if st = 0 ∨ s.fld (Fd.CAM_PAIR_STAT_CODE p) ≠ Code.ok then s
  else
    let s := if st = 1 then (reanchor (reanchor s c1) c2).setFld (Fd.CAM_PAIR_STAT_STATE p) 2 else s
    let s := (s.setPairSt p { s.pairSt p with miss := 0, settle := st == 1 || (s.pairSt p).settle }).setFld (Fd.CAM_PAIR_LAST_V p) trig
    markPaired (markPaired s c1 s1) c2 s2

/-- A frame of camera `n` with trigger `trig` has ended, undamaged or not (R273). -/
def pairFrame (s : State) (n trig slot : Nat) (ok : Bool) : State := s.forN 3 (fun s p =>
  let (l, r) := pairCams s p
  if s.flag (Fd.CAM_PAIR_CFG_EN p) && (n == l || n == r) && pairOk s p && trig != 0xFFFFFFFF then
    match (s.pairSt p).wait with
    | some (t, c, sl, ok') =>
      if t = trig ∧ c ≠ n then
        let s := s.setPairSt p { s.pairSt p with wait := none }
        if ok && ok' then pairMatch s p trig c sl n slot
        else if ok || ok' then pairMiss s p
        else s
      else
        let s := if ok' then pairMiss s p else s
        s.setPairSt p { s.pairSt p with wait := some (trig, n, slot, ok) }
    | none => s.setPairSt p { s.pairSt p with wait := some (trig, n, slot, ok) }
  else s)

/-! ### The pixel pipeline (R279) -/

/-- The sixteen words of ISP set `k`. -/
def ispSet (s : State) (k : Nat) : List Word := (List.range 16).map (fun j => s.reg (Ra.CAM_SET_BLK01 k + 4 * j))

/-- The raw value at (x, y): RAW10 and RAW12 aligned to 16 bits (stage 1), YUV422 the luma byte. `b` gives the frame's bytes. -/
def rawPix (b : Nat → Nat) (type w x y : Nat) : Nat :=
  let o := y * lineBytes type w
  if type = 0x2B then
    let g := o + x / 4 * 5
    (b (g + x % 4) * 4 + b (g + 4) / 4 ^ (x % 4) % 4) * 64
  else if type = 0x2C then
    let g := o + x / 2 * 3
    (b (g + x % 2) * 16 + b (g + 2) / 16 ^ (x % 2) % 16) * 16
  else b (o + 2 * x + 1)

/-- The position of (x, y) in the 2 × 2 cell. -/
def cellPos (x y : Nat) : Nat := y % 2 * 2 + x % 2

/-- The black level of a cell position, in input codes. -/
def ispBlk (set : List Word) (c : Nat) : Nat :=
  bits (set.getD (c / 2) 0).toNat (if c % 2 = 0 then 16 else 0) 12

/-- The white-balance gain of a cell position, in 1/4 096. -/
def ispWb (set : List Word) (c : Nat) : Nat := bits (set.getD (2 + c / 2) 0).toNat (if c % 2 = 0 then 16 else 0) 16

/-- The value after stage 3. -/
def wbPix (set : List Word) (b : Nat → Nat) (type w x y : Nat) : Nat :=
  let v := rawPix b type w x y
  if type = 0x1E then v
  else
    let c := cellPos x y
    let sh := if type = 0x2B then 64 else 16
    min 0xFFFF ((v - ispBlk set c * sh) * ispWb set c / 4096)

/-- BAYER of a set. -/
def ispBayer (set : List Word) : Nat := bits (set.getD 12 0).toNat 2 2

/-- The colour at a cell position under BAYER: 0 R, 1 G, 2 B. -/
def bayerColour (bayer c : Nat) : Nat :=
  ([0, 1, 1, 2, 1, 0, 2, 1, 1, 2, 0, 1, 2, 1, 1, 0] : List Nat).getD (4 * bayer + c) 1

/-- The zone words of the statistics (R281): 16 × 12 zones of sum R, sum G, sum B and the count of pixels at 0xFFFF. -/
def statZones (set : List Word) (b : Nat → Nat) (type w h : Nat) : List Nat :=
  let zw := w / 16
  let zh := h / 12
  (List.range 192).flatMap (fun z =>
    let px := (List.range (zw * zh)).map (fun i => (z % 16 * zw + i % (max 1 zw), z / 16 * zh + i / (max 1 zw)))
    let sum := fun (k : Nat) => px.foldl (fun a p =>
      if type = 0x1E ∨ bayerColour (ispBayer set) (cellPos p.1 p.2) = k then a + wbPix set b type w p.1 p.2 else a) 0
    let sat := px.foldl (fun a p => if wbPix set b type w p.1 p.2 = 0xFFFF then a + 1 else a) 0
    [sum 0, sum 1, sum 2, sat])

/-- The histogram bin of the 2 × 2 cell at (2i, 2j). -/
def histBin (set : List Word) (b : Nat → Nat) (type w i j : Nat) : Nat :=
  let v := fun (dx dy : Nat) => wbPix set b type w (2 * i + dx) (2 * j + dy)
  let m := (v 0 0 + v 1 0 + v 0 1 + v 1 1) / 4
  if type = 0x1E then m else m / 256

/-- The 256 bins. -/
def statHist (set : List Word) (b : Nat → Nat) (type w h : Nat) : List Nat :=
  let bins := (List.range (w / 2 * (h / 2))).map (fun k => histBin set b type w (k % (w / 2)) (k / (w / 2)))
  (List.range 256).map (fun v => (bins.filter (· == v)).length)

/-- A tone curve of 257 points (stage 7): linear between points 256 codes apart. -/
def toneAt (t : Nat → Nat) (v : Nat) : Nat :=
  let a := t (v / 256)
  let c := t (v / 256 + 1)
  unsint 16 ((a : Int) + ((c : Int) - (a : Int)) * ((v % 256 : Nat) : Int) / 256)

/-- Colour matrix coefficient (row r, column c), signed. -/
def ispM (set : List Word) (r c : Nat) : Int :=
  let k := 3 * r + c
  sint 16 (bits (set.getD (4 + k / 2) 0).toNat (if k % 2 = 0 then 16 else 0) 16)

/-- Stage 6 for one output colour. -/
def ispMatrix (set : List Word) (rgb : List Nat) (r : Nat) : Nat :=
  let x := (List.range 3).foldl (fun (a : Int) c => a + ispM set r c * ((rgb.getD c 0 : Nat) : Int)) 0
  let ofs := sint 10 (bits (set.getD 9 0).toNat (20 - 10 * r) 10) * 64
  (max 0 (min 65535 (x / 4096 + ofs))).toNat

/-- The three tone values of a pixel after stage 7. -/
def ispPixel (set : List Word) (tone : Nat → Nat → Nat) (b : Nat → Nat) (type w x y : Nat) : List Nat :=
  let rgb := (List.range 3).map (fun c => Config.demosaic (ispBayer set) (wbPix set b type w) x y c)
  (List.range 3).map (fun r => toneAt (tone r) (ispMatrix set rgb r))

/-- The bytes of the processed image (stage 8). -/
def ispImage (set : List Word) (tone : Nat → Nat → Nat) (b : Nat → Nat) (type w h : Nat) : List Byte :=
  let fmt := bits (set.getD 12 0).toNat 0 2
  let px := w * h
  if fmt = 2 then (List.range px).flatMap (fun i => leBytes 2 (rawPix b type w (i % w) (i / w)))
  else if type = 0x1E then
    (List.range (2 * px)).map (fun i => BitVec.ofNat 8
      (if i % 2 = 1 then toneAt (tone 1) (b i * 256) / 256 else b i))
  else if fmt = 1 then
    (List.range (3 * px)).map (fun i => BitVec.ofNat 8
      ((ispPixel set tone b type w (i % px % w) (i % px / w)).getD (i / px) 0 / 256))
  else (List.range (2 * px)).map (fun i =>
    let x := i / 4 * 2 % w
    let y := i / 4 * 2 / w
    Config.bt709 (ispPixel set tone b type w x y ++ ispPixel set tone b type w (x + 1) y) (i % 4))

/-! ### Statistics records and jobs (R281–R286) -/

/-- The IOVA of a statistics slot. -/
def statAddr (s : State) (n slot : Nat) : Nat := s.reg64 (Ra.CAM_MP_STATS_LO n) (Ra.CAM_MP_STATS_HI n) + slot * 8192

/-- Write a statistics record: the zones and bins first, the header last (R281). -/
def writeStats (s : State) (j : MpJob) (reason : Nat) (body : List Nat) : State :=
  let a := statAddr s j.cam j.slot
  let i := camInit j.cam
  let s := writeIova s i (a + 0x40) ((padTo 0 1024 body).flatMap (leBytes 4))
  (writeIova s i a (leBytes 4 j.fcnt ++ leBytes 2 j.epoch ++ leBytes 1 reason ++ leBytes 1 (camSrc j.cam j.vc) ++
    leBytes 8 j.arrDt ++ leBytes 24 0 ++ leBytes 24 0)).raise (Ra.CAM_INT_PEND 1) j.cam

/-- Process a frame with a set: the processed image into the output ring, then the statistics record (R279, R281). -/
def ispProcess (s : State) (j : MpJob) (set : List Word) : State :=
  let i := camInit j.cam
  let a := camSlotAddr s j.cam j.slot + 64
  let ta := (set.getD 10 0).toNat + (set.getD 11 0).toNat * 2 ^ 32
  let s := noteXfer s i a (lineBytes j.type j.width * j.lines) false
  let s := if ta = 0 then s else noteXfer s i ta (3 * 257 * 2) false
  let src := (readIova s i a (lineBytes j.type j.width * j.lines)).getD []
  let b := fun (k : Nat) => (src.getD k 0).toNat
  let tab := (readIova s i ta (3 * 257 * 2)).getD []
  let tone := fun (c k : Nat) => if ta = 0 then min 65535 (k * 256) else leNat ((tab.drop (2 * (257 * c + k))).take 2)
  let img := ispImage set tone b j.type j.width j.lines
  let stats := statZones set b j.type j.width j.lines ++ statHist set b j.type j.width j.lines
  let s := writeIova s i (s.reg64 (Ra.CAM_MP_OUT_LO j.cam) (Ra.CAM_MP_OUT_HI j.cam) + j.slot * camSlotSize s j.cam) img
  writeStats s j 0 stats

/-- Bring QUEUED and RUNNING up to date. -/
def mpShow (s : State) : State := s.forN 6 (fun s n =>
  (s.setFld (Fd.CAM_MP_STAT_QUEUED n) (s.cam.queue.filter (fun j => j.cam == n)).length).setFlag (Fd.CAM_MP_STAT_RUNNING n)
    (match s.cam.run with
      | some (j, _) => j.cam == n
      | none => false))

/-- Drop a queued job as FRAME_SKIPPED (R284). -/
def mpSkip (s : State) (j : MpJob) : State :=
  let s := s.setCam { s.cam with queue := s.cam.queue.erase j }
  mpShow (((writeStats s j 1 []).count (Fd.CAM_MP_STAT_SKIPPED j.cam)).raise (Ra.CAM_INT_PEND 2) j.cam)

/-- `a` is chosen before `b` (R283). -/
def jobBefore (a b : MpJob) : Bool :=
  if a.pri ≠ b.pri then decide (b.pri < a.pri)
  else if a.arrDt ≠ b.arrDt then decide (a.arrDt < b.arrDt)
  else decide (a.cam < b.cam)

/-- The job that starts next. -/
def bestJob (l : List MpJob) : Option MpJob := l.foldl (fun a j => match a with
  | some x => if jobBefore j x then some j else a
  | none => some j) none

/-- The job a full queue drops: the lowest priority with the latest ARR_DT. -/
def worstJob (l : List MpJob) : Option MpJob := l.foldl (fun a j => match a with
  | some x => if decide (j.pri < x.pri) || (decide (j.pri = x.pri) && decide (x.arrDt ≤ j.arrDt)) then some j else a
  | none => some j) none

/-- Put a ready job into the queue of 32 (R284). -/
def mpQueue (s : State) (j : MpJob) : State :=
  let s := s.setCam { s.cam with queue := s.cam.queue ++ [j] }
  match (if 32 < s.cam.queue.length then worstJob s.cam.queue else none) with
  | some w => mpSkip s w
  | none => mpShow s

/-- The job a frame stands for. -/
def frameJob (s : State) (n v : Nat) (f : CamFrame) : MpJob :=
  { cam := n, vc := v, slot := f.slot, fcnt := f.fcnt, epoch := f.epoch, arrDt := f.arrDt, ready := s.clk.cyc,
    dead := max 1 (s.fld (Fd.CAM_MP_CFG_DEADLINE n)), pri := s.fld (Fd.CAM_MP_CFG_PRI n), width := f.width, lines := f.lines,
    type := f.type }

/-- A frame without an in-line owner reaches the memory path (R283). -/
def mpFrame (s : State) (n v : Nat) (f : CamFrame) : State :=
  if s.flag (Fd.CAM_MP_CFG_EN n) && s.fld (Fd.CAM_MP_CFG_VC n) == v then
    let j := frameJob s n v f
    if ffDamaged f.flags then writeStats s j 2 []
    else
      let d := (s.camSt n).decim
      let take := d % (s.fld (Fd.CAM_MP_CFG_DECIM n) + 1) = 0
      let s := s.setCamSt n { s.camSt n with decim := if s.fld (Fd.CAM_MP_CFG_DECIM n) ≤ d then 0 else d + 1 }
      if take then mpQueue s j else s
  else s

/-- An in-line frame has ended (R282): its output is complete at INLINE_FRAME_COMPLETE; a damaged one has REASON 2. -/
def inlineFrame (s : State) (n v : Nat) (f : CamFrame) (set : List Word) : State :=
  let s := if bit f.flags ffOvf then s.count Fd.CAM_ISP_INLINE_OVF else s
  s.setCam { s.cam with inlDone := some (frameJob s n v f, set, ffDamaged f.flags) }

/-- The frame in progress on a virtual channel ends with extra flags: descriptor, RING_WR, pair and path (R270). The frames of
TVC are the pair's (DEDUCED, log 47). -/
def endFrame (s : State) (n v sub : Nat) (extra : Nat) (f : CamFrame) : State :=
  let fl := f.flags ||| extra
  let fl := if f.lines = vcHeight s n v then fl else setFF fl ffSize
  let fl := if f.emb then fl else setFF fl ffNoEmb
  let fl := if s.flag (Fd.CLK_STRM_STAT_SLIPPED n) then setFF fl ffSlipped else fl
  let f := { f with flags := fl }
  let s := writeIova s (camInit n) (camSlotAddr s n f.slot) (frameDesc s n v (s.dtSub sub) f)
  let s := winTakes ((s.setFld (Fd.CAM_LNK_RING_WR_V n) f.slot).raise (Ra.CAM_INT_PEND 0) n) n f.slot f.arrDt
  let s := s.setCamSt n { s.camSt n with cur := smPut none (s.camSt n).cur v none }
  let s := if v = s.fld (Fd.CAM_LNK_CFG_TVC n) then s.setFld (Fd.CAM_EXP_EPOCH_LAST n) f.epoch else s
  let s := if v = s.fld (Fd.CAM_LNK_CFG_TVC n) then pairFrame s n f.trig f.slot (!ffDamaged fl) else s
  match f.set with
  | some w => inlineFrame s n v f w
  | none => mpFrame s n v f

/-! ### Links (R265–R269) -/

/-- Count a discarded packet. -/
def camDrop (s : State) (n : Nat) : State := s.count (Fd.CAM_LNK_STAT_DROP n)

/-- The virtual channel is accepted. -/
def vcOn (s : State) (n v : Nat) : Bool := s.flag (Fd.CAM_LNK_VC_CFG_EN n v) && (vcType s n v).isSome

/-- Bytes of a ring, of the rings of all enabled links, and of the largest frame of a link. -/
def ringBytes (s : State) (n : Nat) : Nat := s.fld (Fd.CAM_LNK_RING_CFG_SLOTS n) * camSlotSize s n
def enabledRings (s : State) : Nat :=
  (List.range 6).foldl (fun a n => if s.flag (Fd.CAM_LNK_CFG_EN n) then a + ringBytes s n else a) 0
def largestFrame (s : State) (n : Nat) : Nat :=
  (List.range 4).foldl (fun a v => if vcOn s n v then max a (lineBytes ((vcType s n v).getD 0) (vcWidth s n v) * vcHeight s n v) else a) 0

/-- Enable a link: the ring is checked and training starts (R265, R269). -/
def camEnable (s : State) (n : Nat) : State :=
  if s.flag (Fd.CAM_LNK_CFG_EN n) then s
  else if s.fld (Fd.CAM_LNK_RING_CFG_SLOTS n) < 4 ∨ camSlotSize s n < 64 + largestFrame s n
      ∨ 6 * 2 ^ 30 < enabledRings s + ringBytes s n then
    s.setFld (Fd.CAM_LNK_STAT_CODE n) Code.badArgument
  else
    let s := (s.setFlag (Fd.CAM_LNK_CFG_EN n) true).setFld (Fd.CAM_LNK_STAT_CODE n) Code.ok
    (s.setFlag (Fd.CAM_LNK_STAT_TRAINING n) true).setCamSt n { s.camSt n with lostCyc := s.clk.cyc }

/-- CAM_LINK_ENABLE (R269): EN of CAM_LNK[n]_CFG is written 1. -/
def execCamLinkEnable (n : Fin 6) (s : State) : Out := .next (camEnable s n)

/-- Cancel the queued jobs of a camera (R285). -/
def mpCancel (s : State) (n : Nat) : State :=
  let l := s.cam.queue.filter (fun j => j.cam == n)
  let s := s.setCam { s.cam with queue := s.cam.queue.filter (fun j => j.cam != n) }
  mpShow (l.foldl (fun a j => writeStats a j 3 []) s)

/-- Clear EN of a link: a frame in progress ends with TRUNC and the camera's jobs are cancelled (R285). -/
def camDisable (s : State) (n : Nat) : State :=
  if s.flag (Fd.CAM_LNK_CFG_EN n) then
    let s := s.setFlag (Fd.CAM_LNK_CFG_EN n) false
    let s := s.forN 4 (fun s v => match smGet none (s.camSt n).cur v with
      | some f => endFrame s n v 0 (2 ^ ffTrunc) f
      | none => s)
    let s := (s.setFlag (Fd.CAM_LNK_STAT_UP n) false).setFlag (Fd.CAM_LNK_STAT_TRAINING n) false
    pairsCheck (mpCancel s n)
  else s

/-- CAM_LINK_DISABLE (R285): EN of CAM_LNK[n]_CFG is written 0. -/
def execCamLinkDisable (n : Fin 6) (s : State) : Out := .next (camDisable s n)

/-- A write of CAM_LNK[n]_CFG. -/
def camCfgWrite (s : State) (n : Nat) (v : Word) : State :=
  let en := s.flag (Fd.CAM_LNK_CFG_EN n)
  let s := (plainWrite s (Ra.CAM_LNK_CFG n) v).setFlag (Fd.CAM_LNK_CFG_EN n) en
  if bit v.toNat 31 then camEnable s n else camDisable s n

/-- LINK_TRAINED (R265): an enabled link completes training. -/
def execLinkTrained (n : Fin 6) (s : State) : Out :=
  if s.flag (Fd.CAM_LNK_CFG_EN n) && s.flag (Fd.CAM_LNK_STAT_TRAINING n) then
    .next (pairsCheck (((s.setFlag (Fd.CAM_LNK_STAT_TRAINING n) false).setFlag (Fd.CAM_LNK_STAT_UP n) true).raise (Ra.CAM_INT_PEND 5) n))
  else .next s

/-- A trained link is lost: UP clears; retraining follows every 100 ms. -/
def linkLost (s : State) (n : Nat) : State :=
  if s.flag (Fd.CAM_LNK_STAT_UP n) then
    let s := (s.setFlag (Fd.CAM_LNK_STAT_UP n) false).raise (Ra.CAM_INT_PEND 5) n
    pairsCheck (s.setCamSt n { s.camSt n with lostCyc := s.clk.cyc, count := none })
  else s

/-- LINK_LOST (R265): a camera link is lost. -/
def execLinkLost (n : Fin 6) (s : State) : Out := .next (linkLost s n)

/-- 100 ms after the loss, the enabling or the last attempt, the module retrains an enabled link that is not up (R265). -/
def linkRetrain (s : State) (n : Nat) : State :=
  if s.flag (Fd.CAM_LNK_CFG_EN n) && !s.flag (Fd.CAM_LNK_STAT_UP n) && s.since (s.camSt n).lostCyc (100 * cycMs) then
    (s.setFlag (Fd.CAM_LNK_STAT_TRAINING n) true).setCamSt n { s.camSt n with lostCyc := s.clk.cyc }
  else s

/-- LINK_RETRAIN (R265). -/
def execLinkRetrain (n : Fin 6) (s : State) : Out := .next (linkRetrain s n)

/-- The supply of coaxial line `n` is on (R266): selected, and not switched off by the power-fail sequence. -/
def camPower (s : State) (n : Nat) : Bool := s.flag (Fd.CAM_LNK_CFG_POC n) && (match s.pm.pf with
  | some p => decide (p.step < 2)
  | none => true)

/-- CAMERA_SUPPLY_FAULT (R266): the supply of a coaxial line reads `ma`: open below 10 mA, short above 480 mA; a retry that reads
between clears the indication. CAM_SUPPLY has its current, and counts of readings open and short (the layout is the model's own, log 4). -/
def execCameraSupplyFault (n : Fin 6) (ma : Half) (s : State) : Out :=
  let s := s.setFld (Fd.CAM_SUPPLY_V (9 * n)) ma.toNat
  let f := if camPower s n = false then 0 else if ma.toNat < 10 then 1 else if 480 < ma.toNat then 2 else 0
  let s := if f = 0 then s else s.count (Fd.CAM_SUPPLY_V (9 * n + 1 + f))
  .next (s.setFld (Fd.CAM_LNK_STAT_POC n) f)

/-! ### CSI-2 packets (R267, R268) -/

/-- Slots the running job holds (R284). -/
def camHeld (s : State) (n i : Nat) : Bool := match s.cam.run with
  | some (j, _) => j.cam == n && j.slot == i
  | none => false

/-- The in-line source as configured. -/
def inlineCfg (s : State) : Option (Nat × Nat) :=
  let c := s.fld Fd.CAM_ISP_INLINE_CAM
  if s.flag Fd.CAM_ISP_INLINE_EN && decide (c < 6) then some (c, s.fld Fd.CAM_ISP_INLINE_VC) else none

/-- The frame of the in-line source in force is still being received. -/
def inlineBusy (s : State) : Bool := match s.cam.inl with
  | some (n, v) => (smGet none (s.camSt n).cur v).isSome
  | none => false

/-- At a frame start a change of the in-line source takes effect once the current frame has ended (R282). -/
def inlineSwitch (s : State) (n v : Nat) : State :=
  if inlineBusy s then s
  else match inlineCfg s with
    | some x => if x = (n, v) then s.setCam { s.cam with inl := some x } else s
    | none => s.setCam { s.cam with inl := none }

/-- Begin a frame: its slot (passing over a held one), a queued job whose slot is about to be overwritten is dropped, and the
qualifiers at frame start (R270, R284). -/
def beginFrame (s : State) (n v sub : Nat) : State :=
  let c := s.camSt n
  let i0 := c.next % camSlots s n
  let i := if camHeld s n i0 then (i0 + 1) % camSlots s n else i0
  let s := winLoses ((s.cam.queue.filter (fun j => j.cam == n && j.slot == i)).foldl mpSkip s) n i
  let s := inlineSwitch s n v
  let c := s.camSt n
  let fl := if s.timeState = tHoldover then 2 ^ ffHold else 0
  let fl := if c.stepSeen ≠ s.clk.stepSeq then setFF fl ffStep else fl
  let f : CamFrame :=
    { arrDt := s.dtSub sub, arrCyc := s.clk.cyc + sub, flags := fl, slot := i, type := (vcType s n v).getD 0, width := vcWidth s n v,
      trig := camTrigOf s n (s.clk.cyc + sub),
      set := if s.cam.inl = some (n, v) then some (ispSet s (s.fld Fd.CAM_ISP_INLINE_SET)) else none }
  s.setCamSt n { c with cur := smPut none c.cur v (some f), next := (i + 1) % camSlots s n, stepSeen := s.clk.stepSeq }

/-- CSI_FRAME_START (R267): a frame-start packet on virtual channel `vc`, `sub` DTB cycles into the tick; the frame before it on that
channel ends with TRUNC. A packet of a channel that is not enabled is discarded and counted. -/
def execCsiFrameStart (n : Fin 6) (vc : Fin 4) (sub : Fin 8000) (s : State) : Out :=
  if s.flag (Fd.CAM_LNK_STAT_UP n) then
    if vcOn s n vc then
      let s := match smGet none (s.camSt n).cur vc with
        | some f => endFrame s n vc sub (2 ^ ffTrunc) f
        | none => s
      .next (beginFrame s n vc sub)
    else .next (camDrop s n)
  else .next s

/-- A number of `k` bytes at offset `o` of embedded data. -/
def embNum (s : State) (n : Nat) (d : List Byte) (o k : Nat) : Nat :=
  let l := padTo 0 k ((d.drop o).take k)
  leNat (if s.flag (Fd.CAM_LNK_EMB_BE n) then l.reverse else l)

/-- A 32-bit counter without its wraps: the count before it moves on by the difference modulo 2^32 (R49). -/
def unwrap32 (last : Option Nat) (c : Nat) : Nat := match last with
  | some p => p + (c + 2 ^ 32 - p % 2 ^ 32) % 2 ^ 32
  | none => c

/-- The first embedded line of a frame: sensor time, frame counter and epoch; the frames of TVC add a sample to stream n (R268). -/
def embLine (s : State) (n v : Nat) (f : CamFrame) (d : List Byte) : State :=
  let count := unwrap32 (s.camSt n).count (embNum s n d (s.fld (Fd.CAM_LNK_EMB_TS_OFS n)) 4)
  let s := s.setCamSt n { s.camSt n with count := some count }
  let t := count * s.fld (Fd.CAM_LNK_TSC_V n) / 1000
  let f := { f with emb := true, sensT := t, fcnt := embNum s n d (s.fld (Fd.CAM_LNK_EMB_FC_OFS n)) 4,
                    epoch := embNum s n d (s.fld (Fd.CAM_LNK_EMB_EP_OFS n)) 2 }
  let s := s.setCamSt n { s.camSt n with cur := smPut none (s.camSt n).cur v (some f) }
  if v = s.fld (Fd.CAM_LNK_CFG_TVC n) ∧ s.fld (Fd.CAM_LNK_TSC_V n) ≠ 0 then pairsCheck (streamSample s n f.arrDt t) else s

/-- An image line: written behind the lines before it, or dropped with OVF when the line buffer is full. -/
def imageLine (s : State) (n v : Nat) (f : CamFrame) (crcOk full : Bool) (d : List Byte) : State :=
  let w := linePixels f.type d.length
  let fl := if crcOk then f.flags else setFF f.flags ffCrc
  let fl := if w = vcWidth s n v then fl else setFF fl ffSize
  let f := { f with width := if f.lines = 0 then w else f.width, lines := f.lines + 1, flags := if full then setFF fl ffOvf else fl }
  let room := 64 + f.bytes + d.length ≤ camSlotSize s n
  let s := if full = false ∧ room then writeIova s (camInit n) (camSlotAddr s n f.slot + 64 + f.bytes) d else s
  let f := if full = false ∧ room then { f with bytes := f.bytes + d.length } else f
  s.setCamSt n { s.camSt n with cur := smPut none (s.camSt n).cur v (some f) }

/-- CSI_LINE (R267): a packet of data type `dt` on a virtual channel. `hdr` is 0 for a good header, 1 for a corrected one and 2 for an
uncorrectable one; `crcOk` the payload checksum; `full` that the line buffer is full, or the line faster than the in-line path takes. -/
def execCsiLine (n : Fin 6) (vc : Fin 4) (dt : Byte) (hdr : Fin 3) (crcOk full : Bool) (data : List Byte) (s : State) : Out :=
  if s.flag (Fd.CAM_LNK_STAT_UP n) then
    let cur := smGet none (s.camSt n).cur vc
    let s := if hdr.val = 0 then s else s.count (Fd.CAM_LNK_ERR0_V n)
    let s := if crcOk then s else s.count (Fd.CAM_LNK_ERR1_V n)
    if hdr.val = 2 then
      match cur with
      | some f => .next (camDrop (s.setCamSt n { s.camSt n with cur := smPut none (s.camSt n).cur vc (some { f with flags := setFF f.flags ffTrunc }) }) n)
      | none => .next (camDrop s n)
    else if !vcOn s n vc then .next (camDrop s n)
    else if dt.toNat = 2 ∨ dt.toNat = 3 then .next s
    else match cur with
      | some f =>
        if dt.toNat = 0x12 then (if f.emb then .next s else .next (embLine s n vc f data))
        else if dt.toNat = f.type then .next (imageLine s n vc f crcOk full data)
        else .next (camDrop s n)
      | none => .next (camDrop s n)
  else .next s

/-- CSI_FRAME_END (R270): the frame in progress on a virtual channel ends. -/
def execCsiFrameEnd (n : Fin 6) (vc : Fin 4) (sub : Fin 8000) (s : State) : Out :=
  if s.flag (Fd.CAM_LNK_STAT_UP n) = false then .next s
  else if vcOn s n vc then match smGet none (s.camSt n).cur vc with
    | some f => .next (endFrame s n vc sub 0 f)
    | none => .next s
  else .next (camDrop s n)

/-! ### Exposure commits (R276, R277) -/

/-- A write of COMMIT.GO: the writes of the shadow words, then the epoch's high and low byte, go to the device in one sequence. -/
def expCommit (s : State) (n : Nat) : State :=
  if s.flag (Fd.CAM_EXP_STAT_PENDING n) || !s.flag (Fd.CAM_LNK_STAT_UP n) then s.setFld (Fd.CAM_EXP_STAT_CODE n) Code.refused
  else
    let c := s.camSt n
    let e := if c.epochN = 65535 then 1 else c.epochN + 1
    let i2c := fun (a v : Nat) => BitVec.ofNat 32 ((if s.flag (Fd.CAM_EXP_CTL_AW16 n) then a % 65536 else a % 256) * 2 ^ 16 +
      s.fld (Fd.CAM_EXP_CTL_DEV n) * 2 ^ 8 + v % 256)
    let r := s.fld (Fd.CAM_EXP_CTL_EPOCH_REG n)
    let w := (List.range (min 8 (s.fld (Fd.CAM_EXP_CTL_COUNT n)))).map (fun k =>
      i2c (bits (s.reg (Ra.CAM_EXP_W n k)).toNat 16 16) (s.reg (Ra.CAM_EXP_W n k)).toNat) ++ [i2c r (e / 256), i2c (r + 1) e]
    (s.setCamSt n { c with epochN := e, commit := some (e, s.clk.cyc), sent := w }).setFlag (Fd.CAM_EXP_STAT_PENDING n) true

/-- EXPOSURE_COMMIT (R276): CAM_EXP[n]_COMMIT is written with GO. -/
def execExposureCommit (n : Fin 6) (s : State) : Out := .next (expCommit s n)

/-- EXPOSURE_ACK (R276): the last byte of the sequence is acknowledged, `sub` cycles into the tick. -/
def execExposureAck (n : Fin 6) (sub : Fin 8000) (s : State) : Out := match (s.camSt n).commit with
  | some (e, _) =>
    let s := s.setReg64 (Ra.CAM_EXP_ACK_DT_LO n) (Ra.CAM_EXP_ACK_DT_HI n) (s.dtSub sub)
    let s := (s.setFld (Fd.CAM_EXP_EPOCH_ACKED n) e).setFld (Fd.CAM_EXP_STAT_CODE n) Code.ok
    .next (((s.setFlag (Fd.CAM_EXP_STAT_PENDING n) false).setCamSt n { s.camSt n with commit := none }).raise (Ra.CAM_INT_PEND 4) n)
  | none => .next s

/-- A commit has not completed: a byte is not acknowledged, or 2 ms have passed (R276). -/
def expTimeout (s : State) (n : Nat) (nack : Bool) : State := match (s.camSt n).commit with
  | some (_, t) =>
    if nack || s.since t (2 * cycMs) then
      ((s.setFld (Fd.CAM_EXP_STAT_CODE n) Code.timeout).setFlag (Fd.CAM_EXP_STAT_PENDING n) false).setCamSt n { s.camSt n with commit := none }
    else s
  | none => s

/-- EXPOSURE_TIMEOUT (R276). -/
def execExposureTimeout (n : Fin 6) (nack : Bool) (s : State) : Out := .next (expTimeout s n nack)

/-! ### Jobs -/

/-- DTB cycles of a job: 20 µs and its pixels at 1 200 Mpixel/s, or 600 while throttled (R283, R286). -/
def jobCycles (s : State) (j : MpJob) : Nat :=
  20 * cycUs + (j.width * j.lines * cycUs + (if s.flag Fd.CLK_DOM_STAT_MP_HALF then 599 else 1199)) /
    (if s.flag Fd.CLK_DOM_STAT_MP_HALF then 600 else 1200)

/-- The idle memory path starts the best ready job and takes its set (R280, R283). -/
def mpStart (s : State) : State := match s.cam.run, bestJob s.cam.queue with
  | none, some j =>
    let set := ispSet s (s.fld (Fd.CAM_MP_CFG_SET j.cam))
    mpShow (s.setCam { s.cam with queue := s.cam.queue.erase j, run := some (j, set, s.clk.cyc + jobCycles s j) })
  | _, _ => s

/-- MP_JOB_START (R283). -/
def execMpJobStart (s : State) : Out := .next (mpStart s)

/-- The measurement time of a frame of camera or lidar stream `u` (R306). -/
def measTime (s : State) (u sens arr : Nat) : Nat :=
  let lat := s.fld (Fd.FUS_LAT_US u) * 1000
  if s.flag (Fd.CLK_STRM_STAT_ANCHORED u) && !s.flag (Fd.CLK_STRM_STAT_SLIPPED u) then
    ((sens : Int) + (smGet {} s.clk.strm u).a - lat).toNat
  else arr - lat

/-- The inference job a processed frame makes ready (R300): measurement time and flags from its descriptor. -/
def frameInf (s : State) (j : MpJob) (k : Nat) : InfJob :=
  let d := (readIova s (camInit j.cam) (camSlotAddr s j.cam j.slot) 64).getD []
  let fl := leNat ((d.drop 0x24).take 4)
  { job := k, arrDt := j.arrDt, fcnt := j.fcnt, epoch := j.epoch, ready := s.clk.cyc,
    tM := measTime s j.cam (leNat ((d.drop 8).take 8)) j.arrDt, flags := bits fl ffSlipped 1 + 2 * bits fl ffHold 1 }

/-- TRIG and PAIRED of a processed frame's descriptor. -/
def frameTrig (s : State) (j : MpJob) : Nat × Bool :=
  let d := (readIova s (camInit j.cam) (camSlotAddr s j.cam j.slot) 64).getD []
  (leNat ((d.drop 0x28).take 4), bit (leNat ((d.drop 0x24).take 4)) ffPaired)

/-- A processed output of a camera has been written: inference jobs of that source become ready, a pair's when both PAIRED frames of
one trigger are there (R300). -/
def infReady (s : State) (j : MpJob) : State := (noteXfer s (camInit j.cam) (camSlotAddr s j.cam j.slot) 64 false).forN 8 (fun s k =>
  if !s.flag (Fd.FUS_INF_JOB_CFG_EN k) then s
  else
    let src := s.fld (Fd.FUS_INF_JOB_CFG_SRC k)
    let x := frameInf s j k
    if s.flag (Fd.FUS_INF_JOB_CFG_PAIR k) then
      let (l, r) := pairCams s src
      let (trig, paired) := frameTrig s j
      if decide (src < 3) && paired && (j.cam == l || j.cam == r) then
        match smGet none s.fus.pairOut k with
        | some (t, c, y) =>
          if t = trig ∧ c ≠ j.cam then
            let left := if j.cam = l then x else { y with ready := s.clk.cyc }
            s.setFus { s.fus with pairOut := smPut none s.fus.pairOut k none, readyJ := s.fus.readyJ ++ [left] }
          else s.setFus { s.fus with pairOut := smPut none s.fus.pairOut k (some (trig, j.cam, x)) }
        | none => s.setFus { s.fus with pairOut := smPut none s.fus.pairOut k (some (trig, j.cam, x)) }
      else s
    else if src = j.cam then s.setFus { s.fus with readyJ := s.fus.readyJ ++ [x] } else s)

/-- The running job's time has passed: its processed frame and statistics are written (R283). -/
def mpComplete (s : State) : State := match s.cam.run with
  | some (j, set, e) =>
    if e ≤ s.clk.cyc then
      let s := ispProcess s j set
      infReady (mpShow (s.setCam { s.cam with run := none })) j
    else s
  | none => s

/-- MP_JOB_COMPLETE (R283). -/
def execMpJobComplete (s : State) : Out := .next (mpComplete s)

/-- Queued jobs past their ready time + DEADLINE are dropped (R284). -/
def mpExpire (s : State) : State := (s.cam.queue.filter (fun j => s.since j.ready (j.dead * cycUs))).foldl mpSkip s

/-- FRAME_SKIPPED (R284). -/
def execFrameSkipped (s : State) : Out := .next (mpExpire s)

/-- A write of CAM_MP[n]_CFG: clearing EN cancels the camera's queued jobs (R285). -/
def mpCfgWrite (s : State) (n : Nat) (v : Word) : State :=
  let s := plainWrite s (Ra.CAM_MP_CFG n) v
  if bit v.toNat 31 then s else mpCancel s n

/-- MP_DISABLE (R285): EN of CAM_MP[n]_CFG is written 0. -/
def execMpDisable (n : Fin 6) (s : State) : Out := .next (mpCancel (s.setFlag (Fd.CAM_MP_CFG_EN n) false) n)

/-- The processed frame and the statistics record of an in-line frame that has ended are complete (R282). -/
def inlineComplete (s : State) : State := match s.cam.inlDone with
  | some (j, set, bad) =>
    let s := s.setCam { s.cam with inlDone := none }
    if bad then writeStats s j 2 [] else infReady (ispProcess s j set) j
  | none => s

/-- INLINE_FRAME_COMPLETE (R282). -/
def execInlineFrameComplete (s : State) : Out := .next (inlineComplete s)

/-- The cameras at a tick boundary: an in-line frame is complete within 50 µs; the memory path finishes a job, drops late ones and starts the next; links
retrain; commits time out. -/
def camTick (s : State) : State :=
  (mpStart (mpExpire (mpComplete (inlineComplete s)))).forN 6 (fun s n => expTimeout (linkRetrain s n) n false)

end Sys2Proof.Machine
end

