-- ==== Sys2Proof/Machine/Fp.lean ====
section
/-! DEFINITION. FP32 arithmetic of Gweny and of the native loops (R83, R84, R86): binary32, round to nearest even, subnormal operands and
results taken as zero, one canonical NaN, and the sticky flags each operation raises. -/

namespace Sys2Proof.Machine

/-- An FP32 result and the sticky flags it raises, at their places in the flags CSR: NV 2^7, DZ 2^8, OF 2^9, UF 2^10. -/
structure FRes where
  val : Word
  fl  : Nat := 0
  deriving DecidableEq, Repr

abbrev flNV : Nat := 0x80
abbrev flDZ : Nat := 0x100
abbrev flOF : Nat := 0x200
abbrev flUF : Nat := 0x400

/-- The canonical quiet NaN (R83). -/
abbrev fNaN : Word := 0x7FC00000#32
/-- Plus infinity. -/
abbrev fInf : Word := 0x7F800000#32
/-- 1.0. -/
abbrev fOne : Word := 0x3F800000#32

/-- What an FP32 word stands for: NaN, a signed infinity, or ± m × 2^e with m = 0 for zero and for subnormals (R83). -/
inductive FVal where
  | nan
  | inf (neg : Bool)
  | fin (neg : Bool) (m : Nat) (e : Int)
  deriving DecidableEq, Repr

/-- Read an FP32 word. -/
def fval (w : Word) : FVal :=
  let n := w.toNat
  let neg := n / 2 ^ 31 == 1
  let ex : Nat := n / 2 ^ 23 % 256
  let fr := n % 2 ^ 23
  if ex = 255 then (if fr = 0 then .inf neg else .nan)
  else if ex = 0 then .fin neg 0 0
  else .fin neg (fr + 2 ^ 23) ((ex : Int) - 150)

/-- A zero of the given sign. -/
def fZero (neg : Bool) : Word := if neg then 0x80000000#32 else 0#32

/-- An infinity of the given sign. -/
def fInfS (neg : Bool) : Word := if neg then 0xFF800000#32 else fInf

/-- Round ± (m + δ) × 2^e to FP32, m > 0, where δ lies strictly between 0 and 1 when `sticky` and is 0 otherwise (m then has
at least 26 bits). Tininess is judged after rounding (R83). -/
def fround (neg : Bool) (m : Nat) (e : Int) (sticky : Bool := false) : FRes :=
  let l := Nat.log2 m + 1
  let up := 26 - l
  let m1 := m * 2 ^ up
  let cut := l + up - 24
  let q := m1 / 2 ^ cut
  let r := m1 % 2 ^ cut
  let half := 2 ^ (cut - 1)
  let inc := decide (half < r) || (r == half && (sticky || q % 2 == 1))
  let q1 := if inc then q + 1 else q
  let carry := q1 == 2 ^ 24
  let q2 := if carry then 2 ^ 23 else q1
  let ex : Int := e - (up : Int) + (cut : Int) + 23 + (if carry then 1 else 0)
  let sg := if neg then 2 ^ 31 else 0
  if 127 < ex then ⟨fInfS neg, flOF⟩
  else if ex < -126 then ⟨fZero neg, flUF⟩
  else ⟨BitVec.ofNat 32 (sg + (ex + 127).toNat * 2 ^ 23 + (q2 - 2 ^ 23)), 0⟩

/-- Round an exact signed value x × 2^e; an exact zero takes the sign `zneg`. -/
def froundI (x : Int) (e : Int) (zneg : Bool := false) : FRes :=
  if x = 0 then ⟨fZero zneg, 0⟩ else fround (decide (x < 0)) x.natAbs e

/-- ± m as an integer. -/
def sgn (neg : Bool) (m : Nat) : Int := if neg then -(m : Int) else (m : Int)

/-- The exact sum of ± m1 × 2^e1 and ± m2 × 2^e2, rounded; a zero sum is +0 unless both operands are negative. -/
def faddExact (n1 : Bool) (m1 : Nat) (e1 : Int) (n2 : Bool) (m2 : Nat) (e2 : Int) : FRes :=
  let e := min e1 e2
  let x := sgn n1 m1 * (2 ^ (e1 - e).toNat : Nat) + sgn n2 m2 * (2 ^ (e2 - e).toNat : Nat)
  froundI x e (n1 && n2)

/-- Addition of two read values. -/
def faddV : FVal → FVal → FRes
  | .nan, _ => ⟨fNaN, flNV⟩
  | _, .nan => ⟨fNaN, flNV⟩
  | .inf a, .inf b => if a = b then ⟨fInfS a, 0⟩ else ⟨fNaN, flNV⟩
  | .inf a, .fin _ _ _ => ⟨fInfS a, 0⟩
  | .fin _ _ _, .inf b => ⟨fInfS b, 0⟩
  | .fin n1 m1 e1, .fin n2 m2 e2 => faddExact n1 m1 e1 n2 m2 e2

/-- Negate a read value. -/
def fnegV : FVal → FVal
  | .nan => .nan
  | .inf a => .inf (!a)
  | .fin n m e => .fin (!n) m e

/-- FP32 addition. -/
def fadd (a b : Word) : FRes := faddV (fval a) (fval b)

/-- FP32 subtraction. -/
def fsub (a b : Word) : FRes := faddV (fval a) (fnegV (fval b))

/-- The exact product of two read values (before rounding), or NaN for 0 × ∞. -/
def fmulV : FVal → FVal → FVal
  | .nan, _ => .nan
  | _, .nan => .nan
  | .inf a, .inf b => .inf (a != b)
  | .inf a, .fin n m _ => if m = 0 then .nan else .inf (a != n)
  | .fin n m _, .inf b => if m = 0 then .nan else .inf (n != b)
  | .fin n1 m1 e1, .fin n2 m2 e2 => .fin (n1 != n2) (m1 * m2) (e1 + e2)

/-- Round a read or exact value. -/
def froundV : FVal → FRes
  | .nan => ⟨fNaN, flNV⟩
  | .inf n => ⟨fInfS n, 0⟩
  | .fin n m e => if m = 0 then ⟨fZero n, 0⟩ else fround n m e

/-- FP32 multiplication. -/
def fmul (a b : Word) : FRes := froundV (fmulV (fval a) (fval b))

/-- Fused multiply-add a × b + c, rounded once. -/
def fma (a b c : Word) : FRes := faddV (fmulV (fval a) (fval b)) (fval c)

/-- ± n / d rounded once, for n and d positive. -/
def fdivN (neg : Bool) (n d : Nat) (e : Int) : FRes :=
  let k := 27 + Nat.log2 d + 1 - Nat.log2 n
  let x := n * 2 ^ k
  fround neg (x / d) (e - (k : Int)) (x % d != 0)

/-- FP32 division. -/
def fdiv (a b : Word) : FRes := match fval a, fval b with
  | .nan, _ => ⟨fNaN, flNV⟩
  | _, .nan => ⟨fNaN, flNV⟩
  | .inf _, .inf _ => ⟨fNaN, flNV⟩
  | .inf n, .fin n2 _ _ => ⟨fInfS (n != n2), 0⟩
  | .fin n _ _, .inf n2 => ⟨fZero (n != n2), 0⟩
  | .fin n1 m1 e1, .fin n2 m2 e2 =>
    if m2 = 0 then (if m1 = 0 then ⟨fNaN, flNV⟩ else ⟨fInfS (n1 != n2), flDZ⟩)
    else if m1 = 0 then ⟨fZero (n1 != n2), 0⟩
    else fdivN (n1 != n2) m1 m2 (e1 - e2)

/-- The integer square root of a number below 4^n, by bits from the top. -/
def isqrt : Nat → Nat → Nat → Nat
  | 0, _, r => r
  | n + 1, x, r => if (r + 2 ^ n) * (r + 2 ^ n) ≤ x then isqrt n x (r + 2 ^ n) else isqrt n x r

/-- FP32 square root (R100). -/
def fsqrt (a : Word) : FRes := match fval a with
  | .nan => ⟨fNaN, flNV⟩
  | .inf n => if n then ⟨fNaN, flNV⟩ else ⟨fInf, 0⟩
  | .fin n m e =>
    if m = 0 then ⟨fZero n, 0⟩
    else if n then ⟨fNaN, flNV⟩
    else
      let k : Nat := if e % 2 = 0 then 30 else 31
      let x := m * 2 ^ k
      let r := isqrt 28 x 0
      fround false r ((e - (k : Int)) / 2) (r * r != x)

/-- A word is a NaN. -/
def fIsNaN (w : Word) : Bool := fval w == .nan

/-- The place of a word that is not a NaN in the order of FP32 values; both zeros (and subnormals) stand at 0. -/
def fkey (w : Word) : Int :=
  let n := w.toNat
  let mag : Nat := if n / 2 ^ 23 % 256 = 0 then 0 else n % 2 ^ 31
  if n / 2 ^ 31 = 1 then -(mag : Int) else (mag : Int)

/-- a < b as FP32 values; false where either is a NaN. -/
def flt (a b : Word) : Bool := !fIsNaN a && !fIsNaN b && decide (fkey a < fkey b)

/-- a ≤ b as FP32 values; false where either is a NaN. -/
def fle (a b : Word) : Bool := !fIsNaN a && !fIsNaN b && decide (fkey a ≤ fkey b)

/-- a = b as FP32 values; false where either is a NaN. -/
def feq (a b : Word) : Bool := !fIsNaN a && !fIsNaN b && decide (fkey a = fkey b)

/-- A subnormal operand read as zero of its sign; a NaN as the canonical one. -/
def fflush (w : Word) : Word := match fval w with
  | .nan => fNaN
  | .inf _ => w
  | .fin n m _ => if m = 0 then fZero n else w

/-- The sign bit. -/
def fneg? (w : Word) : Bool := w.toNat / 2 ^ 31 == 1

/-- FMIN (R84). -/
def fmin (a b : Word) : FRes :=
  if fIsNaN a then ⟨fflush b, flNV⟩
  else if fIsNaN b then ⟨fflush a, flNV⟩
  else if decide (fkey a < fkey b) || (decide (fkey a = fkey b) && fneg? a) then ⟨fflush a, 0⟩ else ⟨fflush b, 0⟩

/-- FMAX (R84). -/
def fmax (a b : Word) : FRes :=
  if fIsNaN a then ⟨fflush b, flNV⟩
  else if fIsNaN b then ⟨fflush a, flNV⟩
  else if decide (fkey b < fkey a) || (decide (fkey a = fkey b) && !fneg? a) then ⟨fflush a, 0⟩ else ⟨fflush b, 0⟩

/-- FABS: clears the sign bit, NaN included. -/
def fabs (a : Word) : Word := a &&& 0x7FFFFFFF#32

/-- FNEG: inverts the sign bit, NaN included. -/
def fneg (a : Word) : Word := a ^^^ 0x80000000#32

/-- FCLAMP (R100). -/
def fclamp (a lo hi : Word) : FRes :=
  if fIsNaN a || flt hi lo then ⟨fflush lo, flNV⟩
  else
    let x := fmax a lo
    let y := fmin x.val hi
    ⟨y.val, x.fl ||| y.fl⟩

/-- INT32 to FP32, rounded. -/
def fOfInt (x : Int) : Word := (froundI x 0).val

/-- FCVTSW. -/
def fcvtsw (a : Word) : Word := fOfInt a.toInt

/-- FCVTWS (R84). -/
def fcvtws (a : Word) : FRes := match fval a with
  | .nan => ⟨0, flNV⟩
  | .inf n => if n then ⟨0x80000000#32, flNV⟩ else ⟨0x7FFFFFFF#32, flNV⟩
  | .fin n m e =>
    let t := if 0 ≤ e then m * 2 ^ (min e.toNat 64) else m / 2 ^ (min (-e).toNat 64)
    if n then (if 2 ^ 31 < t then ⟨0x80000000#32, flNV⟩ else ⟨wordOfInt (-(t : Int)), 0⟩)
    else if 2 ^ 31 ≤ t then ⟨0x7FFFFFFF#32, flNV⟩ else ⟨BitVec.ofNat 32 t, 0⟩

/-- One level of the lane tree: the sums of neighbouring pairs with their flags (R86). -/
def laneLevel : List Word → Nat → List Word × Nat
  | a :: b :: r, fl =>
    let x := fadd a b
    let (l, fl') := laneLevel r (fl ||| x.fl)
    (x.val :: l, fl')
  | l, fl => (l, fl)

/-- The lane tree of 64 values: six levels (R86). -/
def laneTree (l : List Word) (fl : Nat := 0) : FRes :=
  let (l, fl) := laneLevel l fl
  let (l, fl) := laneLevel l fl
  let (l, fl) := laneLevel l fl
  let (l, fl) := laneLevel l fl
  let (l, fl) := laneLevel l fl
  let (l, fl) := laneLevel l fl
  ⟨l.headD 0, fl⟩

/-! ### Values for the native loops -/

/-- n / d as FP32, rounded once (d > 0). -/
def fOfRat (n : Int) (d : Nat) : Word :=
  if n = 0 then 0 else (fdivN (decide (n < 0)) n.natAbs d 0).val

/-- ⌊w × num / den⌋ of an FP32 value as an integer (0 for NaN and infinities). -/
def fFloorScaled (w : Word) (num den : Nat) : Int := match fval w with
  | .fin n m e =>
    let x := sgn n m * (num : Int)
    if 0 ≤ e then x * (2 ^ (min e.toNat 256) : Nat) / (den : Int) else x / ((den * 2 ^ (min (-e).toNat 256) : Nat) : Int)
  | _ => 0

/-- w rounded to the nearest integer, ties to even (0 for NaN and infinities). -/
def fRound (w : Word) (num den : Nat) : Int :=
  let x2 := fFloorScaled w (2 * num) den
  let f := x2 / 2
  if x2 % 2 = 0 then f
  else if decide (fFloorScaled w (2 * num * 2 ^ 60) den = x2 * (2 ^ 60 : Nat)) && f % 2 = 0 then f else f + 1

/-- The sum, difference, product and quotient without their flags. -/
def fAdd (a b : Word) : Word := (fadd a b).val
def fSub (a b : Word) : Word := (fsub a b).val
def fMul (a b : Word) : Word := (fmul a b).val
def fFma (a b c : Word) : Word := (fma a b c).val
def fDiv (a b : Word) : Word := (fdiv a b).val
def fMin (a b : Word) : Word := (fmin a b).val
def fMax (a b : Word) : Word := (fmax a b).val
def fClamp (a lo hi : Word) : Word := (fclamp a lo hi).val

end Sys2Proof.Machine
end

