-- ==== Sys2Proof/Machine/Gating.lean ====
section
/-! DEFINITION. Which outputs a mode allows (R53), and the power-fail sequence's hold over them (R73, R74). -/

namespace Sys2Proof.Machine

/-- Outputs are not held off by a power-fail sequence in progress. -/
def State.noPf (s : State) : Bool := s.pm.pf.isNone

/-- The boot step reached (PWR_STAT.STEP). -/
def State.bootStep (s : State) : Nat := s.fld Fd.PWR_STAT_STEP

/-- The mode that outputs follow: from the off tick of a decided lock-out on, that of SAFE_STOP (R463 step 1). -/
def State.outMode (s : State) : Nat :=
  if s.saf.offs.any (fun x => decide (x.off ≤ s.saf.t)) then Mode.safeStop else s.mode

/-- Safety outputs are under the safety island (R53). -/
def soAllowed (m : Nat) : Bool := (0x3 ≤ m && m ≤ 0x8) || m == Mode.activate

/-- Guidance may act on the steering valves (R53): engaged from FIELD_MANUAL on. -/
def steerAllowed (m : Nat) : Bool := isField m

/-- Valve channels follow their owners (R53); in ROAD the owners of MF02–MF29 publish their safe values. -/
def valveOwnerMode (m : Nat) : Bool := 0x3 ≤ m && m ≤ 0x8

/-- Load switches follow their owners (R53): all channels, or the keep channels only. -/
def lswOwnerMode (m : Nat) : Bool := (0x3 ≤ m && m ≤ 0x8) || m == Mode.activate

/-- Only keep channels may be on (R53). -/
def lswKeepMode (m : Nat) : Bool := m == Mode.boot || m == Mode.safeStop

/-- CAN transmit is on (R53): from boot step 8 in BOOT; on the internal virtual bus in REPLAY. -/
def canTxOn (s : State) : Bool :=
  s.noPf && ((0x3 ≤ s.mode && s.mode ≤ 0xB) || (s.mode == Mode.boot && 8 ≤ s.bootStep))

/-- Radio transmit is on (R53). -/
def radioOn (s : State) : Bool :=
  s.noPf && ((0x3 ≤ s.mode && s.mode ≤ 0x8) || s.mode == Mode.activate || s.mode == Mode.safeStop)

end Sys2Proof.Machine
end

