-- ==== Sys2Proof/Machine/Mbx.lean ====
section
/-! DEFINITION. Mailbox endpoints, doorbells, crossings, resets of their parties and a loop's mailbox window (R371–R376). -/

namespace Sys2Proof.Machine

/-- Endpoint states. -/
abbrev epFree : Nat := 0
abbrev epEmpty : Nat := 1
abbrev epFull : Nat := 2

/-- The codes of R30, in the order of its table. -/
def codeTable : List Nat :=
  [Code.ok, Code.deferred, Code.refused, Code.cancelled, Code.aborted, Code.badArgument, Code.fault, Code.timeout, Code.crossed,
   Code.senderGone, Code.roleChanged, Code.departed, Code.overlapReject, Code.frameSkipped, Code.slipped, Code.holdover, Code.step]

/-- Set an endpoint's state, with the FULL bit map. -/
def epSet (s : State) (e st : Nat) : State :=
  let s := s.setFld (Fd.MBX_EP_STAT_STATE e) st
  let a := Ra.MBX_FULL_MAP (e / 32)
  s.setReg a (BitVec.ofNat 32 (setBits (s.reg a).toNat (e % 32) 1 (b2n (st == epFull))))

/-- Set XING of an endpoint, with its bit map. -/
def epXing (s : State) (e : Nat) (b : Bool) : State :=
  let s := s.setFlag (Fd.MBX_EP_STAT_XING e) b
  let a := Ra.MBX_XING_MAP (e / 32)
  s.setReg a (BitVec.ofNat 32 (setBits (s.reg a).toNat (e % 32) 1 (b2n b)))

/-- An endpoint of the mailboxes that a loop sends to or receives from. -/
def loopEndpoint (s : State) (e : Nat) : Bool := s.flag (Fd.MBX_EP_CFG_TXL e) || s.flag (Fd.MBX_EP_CFG_RXL e)

/-- Set the pending bit of a doorbell for endpoint `e` (R372); messages of replayed loops are not delivered (R514). -/
def ring (s : State) (d e : Nat) : State :=
  if s.rpl.live.isSome && loopEndpoint s e then s
  else s.setReg (Ra.MBX_DB_PEND d) (s.reg (Ra.MBX_DB_PEND d) ||| BitVec.ofNat 32 (2 ^ (e % 32)))

/-- A party of an endpoint (a loop, or an initiator; 0x3F any application core) is this writer. -/
def isParty (isLoop : Bool) (id : Nat) (wLoop : Bool) (w : Nat) : Bool :=
  (isLoop == wLoop) && (id == w || (!wLoop && id == 0x3F && decide (w < 4)))

/-- The writer is the endpoint's sender. -/
def isSender (s : State) (e : Nat) (wLoop : Bool) (w : Nat) : Bool :=
  isParty (s.flag (Fd.MBX_EP_CFG_TXL e)) (s.fld (Fd.MBX_EP_CFG_TX e)) wLoop w

/-- The receiver is in reset or unloaded (R375). -/
def rxAway (s : State) (e : Nat) : Bool :=
  if s.flag (Fd.MBX_EP_CFG_RXL e) then s.loopState (s.fld (Fd.MBX_EP_CFG_RX e)) == SlotSt.empty
  else s.pm.appReset && (decide (s.fld (Fd.MBX_EP_CFG_RX e) < 4) || s.fld (Fd.MBX_EP_CFG_RX e) == 0x3F)

/-- A pending send ends with a code. -/
def endSend (s : State) (e code : Nat) : State :=
  let s := (s.setFld (Fd.MBX_EP_SEND_STAT_CODE e) code).setFlag (Fd.MBX_EP_SEND_STAT_PENDING e) false
  let s := s.setDma { s.dma with tmoCyc := smPut none s.dma.tmoCyc e none }
  s.count (Fd.MBX_CODE_CNT_V (codeTable.idxOf code))

/-- Write payload word `k` (R371, R372): ignored while FULL; a stranger's write is recorded with KIND 1. -/
def mbxPayload (s : State) (wLoop : Bool) (w e k : Nat) (v : Word) : State :=
  if !isSender s e wLoop w then (if wLoop then s else fabErr s w (Ra.MBX_PAYLOAD e k) 1)
  else if s.fld (Fd.MBX_EP_STAT_STATE e) = epFull then s
  else s.setReg (Ra.MBX_PAYLOAD e k) v

/-- A message that enters the replay boundary is captured with its payload (R504). -/
def mbxCapture (s : State) (wLoop : Bool) (e : Nat) : State :=
  if !wLoop && s.flag (Fd.MBX_EP_CFG_RXL e) then
    tabCmd s (Ra.MBX_PAYLOAD e 0) ((List.range 16).map (fun k => (s.reg (Ra.MBX_PAYLOAD e k)).toNat))
  else s

/-- POST (R372, R373, R375); in REPLAY one from outside to a replayed loop is REFUSED (R514). -/
def mbxPost (s : State) (wLoop : Bool) (w e timeout : Nat) : State :=
  if !isSender s e wLoop w then (if wLoop then s else fabErr s w (Ra.MBX_EP_POST e) 1)
  else if s.rpl.live.isSome ∧ wLoop = false ∧ s.flag (Fd.MBX_EP_CFG_RXL e) = true then s.setFld (Fd.MBX_EP_SEND_STAT_CODE e) Code.refused
  else if s.fld (Fd.MBX_EP_STAT_STATE e) = epFull then s.setFld (Fd.MBX_EP_SEND_STAT_CODE e) Code.refused
  else if rxAway s e then endSend s e Code.aborted
  else
    let s := epXing (epSet (mbxCapture s wLoop e) e epFull) e false
    let s := s.setFld (Fd.MBX_EP_STAT_SEQ e) (s.fld (Fd.MBX_EP_STAT_SEQ e) + 1)
    let s := (s.setFlag (Fd.MBX_EP_STAT_TOUT e) false).setFlag (Fd.MBX_EP_STAT_GONE e) false
    let s := (s.setFlag (Fd.MBX_EP_LATE_LATE e) false).setFlag (Fd.MBX_EP_SEND_STAT_PENDING e) true
    let s := s.setDma { s.dma with
      postCyc := smPut none s.dma.postCyc e (some s.clk.cyc),
      tmoCyc := smPut none s.dma.tmoCyc e (if timeout = 0 then none else some (s.clk.cyc + timeout * cycMs)) }
    ring s (s.fld (Fd.MBX_EP_CFG_RX_DB e)) e

/-- MBX_POST (R372): an initiator writes POST with GO. -/
def execMbxPost (init : Fin 58) (e : Fin 64) (timeout : Half) (s : State) : Out := .next (mbxPost s false init e timeout.toNat)

/-- ACK with a code (R372, R373, R375). -/
def mbxAck (s : State) (e code : Nat) : State :=
  if s.fld (Fd.MBX_EP_STAT_STATE e) ≠ epFull then s.setFld (Fd.MBX_EP_ACK_RES_CODE e) Code.refused
  else if !codeTable.contains code then s.setFld (Fd.MBX_EP_ACK_RES_CODE e) Code.badArgument
  else if s.flag (Fd.MBX_EP_STAT_GONE e) then (epSet s e epEmpty).setFld (Fd.MBX_EP_ACK_RES_CODE e) Code.senderGone
  else
    let s := if s.flag (Fd.MBX_EP_STAT_TOUT e) then
        (s.setFld (Fd.MBX_EP_LATE_CODE e) code).setFlag (Fd.MBX_EP_LATE_LATE e) true
      else endSend s e code
    ring ((epSet s e epEmpty).setFld (Fd.MBX_EP_ACK_RES_CODE e) Code.ok) (s.fld (Fd.MBX_EP_CFG_TX_DB e)) e

/-- A write of ACK from outside the boundary: one of a loop's message is captured, and in REPLAY ignored (R504, R514). -/
def mbxAckWrite (s : State) (e code : Nat) : State :=
  if loopEndpoint s e then
    if s.rpl.live.isSome then s else mbxAck (tabCmd s (Ra.MBX_EP_ACK e) [code]) e code
  else mbxAck s e code

/-- MBX_ACK (R372): the receiver writes ACK with a code. -/
def execMbxAck (e : Fin 64) (code : Half) (s : State) : Out := .next (mbxAckWrite s e code.toNat)

/-! ### Crossings (R374) -/

/-- CROSS in cycles: 0 acts as 1 ms, above 10 000 as 10 000. -/
def crossCyc (s : State) : Nat := clampN 1 10000 (s.fld Fd.MBX_CFG_CROSS) * cycMs

/-- Two endpoints form a pair: each names the other with PAIR_EN. -/
def isPair (s : State) (a b : Nat) : Bool :=
  a != b && s.flag (Fd.MBX_EP_CFG2_PAIR_EN a) && s.flag (Fd.MBX_EP_CFG2_PAIR_EN b) &&
    s.fld (Fd.MBX_EP_CFG2_PARTNER a) == b && s.fld (Fd.MBX_EP_CFG2_PARTNER b) == a

/-- Both have been FULL for longer than CROSS, timed from the later POST. -/
def crossDue (s : State) (a b : Nat) : Bool :=
  isPair s a b && s.fld (Fd.MBX_EP_STAT_STATE a) == epFull && s.fld (Fd.MBX_EP_STAT_STATE b) == epFull &&
    match smGet none s.dma.postCyc a, smGet none s.dma.postCyc b with
    | some x, some y => decide (max x y + crossCyc s < s.clk.cyc)
    | _, _ => false

/-- Resolve a crossing (R374): the higher-numbered message is withdrawn with CROSSED, XING sets in both, four doorbells ring. -/
def crossing (s : State) (a b : Nat) : State :=
  let h := max a b
  let s := endSend (epSet s h epEmpty) h Code.crossed
  let s := epXing (epXing s a true) b true
  let bell := fun (s : State) (e : Nat) => ring (ring s (s.fld (Fd.MBX_EP_CFG_RX_DB e)) e) (s.fld (Fd.MBX_EP_CFG_TX_DB e)) e
  bell (bell s a) b

/-- MBX_CROSSING (R374): both mailboxes of a pair stayed full longer than the crossing time. A tick does the same on its own. -/
def execMbxCrossing (a b : Fin 64) (s : State) : Out := if crossDue s a b then .next (crossing s a b) else .next s

/-- The pending message of an endpoint times out (R373). -/
def mbxTimeout (s : State) (e : Nat) : State := match smGet none s.dma.tmoCyc e with
  | some t =>
    if t ≤ s.clk.cyc ∧ s.flag (Fd.MBX_EP_SEND_STAT_PENDING e) then
      (endSend s e Code.timeout).setFlag (Fd.MBX_EP_STAT_TOUT e) true
    else s
  | none => s

/-- MBX_TIMEOUT (R373): no acknowledge within TIMEOUT; a crossing in the same cycle is applied first (R374). A tick does the same on its own. -/
def execMbxTimeout (e : Fin 64) (s : State) : Out :=
  let p := s.fld (Fd.MBX_EP_CFG2_PARTNER e)
  if crossDue s e p then .next (mbxTimeout (crossing s e p) e) else .next (mbxTimeout s e)

/-- Crossings and timeouts that are due, in that order (R373, R374). -/
def mbxTick (s : State) : State :=
  let s := s.forN 64 (fun s e => if e < s.fld (Fd.MBX_EP_CFG2_PARTNER e) ∧ crossDue s e (s.fld (Fd.MBX_EP_CFG2_PARTNER e)) = true then
    crossing s e (s.fld (Fd.MBX_EP_CFG2_PARTNER e)) else s)
  s.forN 64 mbxTimeout

/-! ### Configuration and resets -/

/-- A pending message of an endpoint ends with ABORTED. -/
def mbxAbort (s : State) (e : Nat) : State :=
  if s.flag (Fd.MBX_EP_SEND_STAT_PENDING e) then endSend s e Code.aborted else s

/-- Free an endpoint (R375). -/
def mbxFree (s : State) (e : Nat) : State :=
  let s := epSet (mbxAbort s e) e epFree
  (s.setFlag (Fd.MBX_EP_STAT_TOUT e) false).setFlag (Fd.MBX_EP_STAT_GONE e) false

/-- MBX_EP_FREE (R375): a write of MBX_EP_FREE, ignored without the key 0x3C5A. -/
def execMbxEpFree (e : Fin 64) (key : Half) (s : State) : Out :=
  if key.toNat = 0x3C5A then .next (mbxFree s e) else .next s

/-- A write of CFG2 (R374): naming itself is ignored as a whole with BAD_ARGUMENT. -/
def mbxCfg2 (s : State) (e : Nat) (v : Word) : State :=
  if bits v.toNat 24 6 = e then s.setFld Fd.MBX_STAT_CODE_CODE Code.badArgument else plainWrite s (Ra.MBX_EP_CFG2 e) v

/-- MBX_PAIR_CONFIG (R374): a write of MBX_EP[e]_CFG2. -/
def execMbxPairConfig (e : Fin 64) (v : Word) (s : State) : Out := .next (mbxCfg2 s e v)

/-- A write of MBX_DB[d]_TARGET: only 0x00–0x03, 0x0C, 0x0D and 0x0E are accepted. -/
def dbTarget (s : State) (d : Nat) (v : Word) : State :=
  if [0, 1, 2, 3, 0x0C, 0x0D, 0x0E].contains (bits v.toNat 0 6) then s.setFld (Fd.MBX_DB_TARGET_ID d) v.toNat else s

/-- A receiver's reset at an endpoint in use (R375): EMPTY, payload zeroed, TOUT and GONE cleared, ABORTED for a pending
message, reset values for the receiver. -/
def rxReset (s : State) (e : Nat) : State :=
  let s := if s.fld (Fd.MBX_EP_STAT_STATE e) = epFree then s else epSet (mbxAbort s e) e epEmpty
  let s := s.forN 16 (fun s k => s.setReg (Ra.MBX_PAYLOAD e k) 0)
  let s := (s.setFlag (Fd.MBX_EP_STAT_TOUT e) false).setFlag (Fd.MBX_EP_STAT_GONE e) false
  s.setFld (Fd.MBX_EP_ACK_RES_CODE e) 0

/-- A sender's reset after sending (R375): the message stays readable with GONE; SEND_STAT returns to its reset value. -/
def txReset (s : State) (e : Nat) : State :=
  let s := if s.fld (Fd.MBX_EP_STAT_STATE e) = epFull then s.setFlag (Fd.MBX_EP_STAT_GONE e) true else s
  let s := s.setDma { s.dma with tmoCyc := smPut none s.dma.tmoCyc e none }
  s.setReg (Ra.MBX_EP_SEND_STAT e) 0

/-- Reset the endpoints of parties that satisfy `p` (as loop or initiator): the receiver row wins when both are reset. -/
def mbxResetParties (s : State) (p : Bool → Nat → Bool) : State := s.forN 64 (fun s e =>
  if p (s.flag (Fd.MBX_EP_CFG_RXL e)) (s.fld (Fd.MBX_EP_CFG_RX e)) then rxReset s e
  else if p (s.flag (Fd.MBX_EP_CFG_TXL e)) (s.fld (Fd.MBX_EP_CFG_TX e)) then txReset s e
  else s)

/-- An UNLOAD resets the endpoints of the loop (R144, R375). An endpoint whose configuration names no loop stays as it is. -/
def mbxUnload (s : State) (loop : Nat) : State := mbxResetParties s (fun l i => l && i == loop)

/-- An application reset resets every endpoint whose receiver or sender is an application core or 0x3F (R375). -/
def mbxAppReset (s : State) : State := mbxResetParties s (fun l i => !l && (decide (i < 4) || i == 0x3F))

/-! ### A loop's mailbox window (R376) -/

/-- The endpoint whose receiver is the loop, with RX_ENTRY `k`. -/
def rxEndpoint (s : State) (loop k : Nat) : Option Nat := (List.range 64).find? (fun e =>
  s.flag (Fd.MBX_EP_CFG_RXL e) && s.fld (Fd.MBX_EP_CFG_RX e) == loop && s.fld (Fd.MBX_EP_CFG2_RX_ENTRY e) == k)

/-- The endpoint whose sender is the loop, with TX_ENTRY `k`. -/
def txEndpoint (s : State) (loop k : Nat) : Option Nat := (List.range 64).find? (fun e =>
  s.flag (Fd.MBX_EP_CFG_TXL e) && s.fld (Fd.MBX_EP_CFG_TX e) == loop && s.fld (Fd.MBX_EP_CFG2_TX_ENTRY e) == k)

/-- The receive half of entry `k` as the loop reads it. -/
def mbxRead (s : State) (loop k : Nat) (m : RegFile) : RegFile :=
  let b := 0x100 * k
  let m := match rxEndpoint s loop k with
    | some e =>
      let m := (List.range 16).foldl (fun m i => smPut 0 m (b + 4 * i) (s.reg (Ra.MBX_PAYLOAD e i))) m
      smPut 0 (smPut 0 m (b + 0x40) (s.reg (Ra.MBX_EP_STAT e))) (b + 0x44) (s.reg (Ra.MBX_EP_ACK_RES e))
    | none => m
  match txEndpoint s loop k with
  | some e => smPut 0 (smPut 0 m (b + 0x48) (s.reg (Ra.MBX_EP_LATE e))) (b + 0xC0) (s.reg (Ra.MBX_EP_SEND_STAT e))
  | none => m

/-- The mailbox window of a loop as it stands at a sample boundary. -/
def mbxWindow (s : State) (loop : Nat) : RegFile := (List.range 16).foldl (fun m k => mbxRead s loop k m) []

/-- Deliver a loop's write into its mailbox window (R91, R376). -/
def mbxDeliver (s : State) (loop ofs : Nat) (w : Word) : State :=
  let k := ofs / 0x100
  let o := ofs % 0x100
  if o = 0x44 then
    match rxEndpoint s loop k with
    | some e => mbxAck s e (w.toNat % 65536)
    | none => s
  else match txEndpoint s loop k with
    | some e =>
      if 0x80 ≤ o ∧ o < 0xC0 then mbxPayload s true loop e ((o - 0x80) / 4) w
      else if o = 0xC0 ∧ bit w.toNat 0 then mbxPost s true loop e (bits w.toNat 16 16)
      else s
    | none => s

/-- Deliver a loop's held writes in program order (R91): the mailbox window at 0x4_0000, the DMA submit window at 0x4_1000. -/
def deliverWrites (s : State) (loop : Nat) (l : List (Nat × Word)) : State :=
  l.foldl (fun s x => if x.1 < 0x41000 then mbxDeliver s loop (x.1 - 0x40000) x.2 else submitWrite s loop (x.1 - 0x41000) x.2) s

end Sys2Proof.Machine
end

