-- ==== Sys2Proof/Machine/Can.lean ====
section
/-! DEFINITION. CAN FD (R377–R393): controllers, the signal and object tables, frames sent and received, the application
queues, and the ISO 11783 address. -/

namespace Sys2Proof.Machine

/-! ### Controllers -/

/-- A controller beyond its registers. -/
def State.canC (s : State) (c : Nat) : CanSt := smGet {} s.can.ctl c

/-- Replace a controller. -/
def State.setCanC (s : State) (c : Nat) (x : CanSt) : State := s.setCan { s.can with ctl := smPut {} s.can.ctl c x }

/-- Controller states of CAN_STAT. -/
abbrev canActive : Nat := 0
abbrev canPassive : Nat := 1
abbrev canBusOff : Nat := 2
abbrev canOff : Nat := 3

/-- A bit's length in 12.5 ns cycles: BRP (0 acts as 1) × (1 + SEG1 + SEG2) (R378). -/
def bitCycles (brp seg1 seg2 : Nat) : Nat := max 1 brp * (1 + seg1 + seg2)

/-- The nominal and the data bit of a controller, in cycles. -/
def nomBit (s : State) (c : Nat) : Nat :=
  bitCycles (s.fld (Fd.CAN_NBT_BRP c)) (s.fld (Fd.CAN_NBT_SEG1 c)) (s.fld (Fd.CAN_NBT_SEG2 c))
def datBit (s : State) (c : Nat) : Nat :=
  bitCycles (s.fld (Fd.CAN_DBT_BRP c)) (s.fld (Fd.CAN_DBT_SEG1 c)) (s.fld (Fd.CAN_DBT_SEG2 c))

/-- The checks of R378 when EN is set, and those of R391 for a controller with ISO set. -/
def canTimingOk (s : State) (c : Nat) : Bool :=
  let n := nomBit s c
  let d := datBit s c
  let fd := s.flag (Fd.CAN_CTL_FD c)
  let iso := s.flag (Fd.CAN_CTL_ISO c)
  decide (80 ≤ n) && decide (s.fld (Fd.CAN_NBT_SJW c) ≤ s.fld (Fd.CAN_NBT_SEG2 c)) &&
  (!fd || (decide (10 ≤ d) && decide (d ≤ n) && decide (s.fld (Fd.CAN_DBT_SJW c) ≤ s.fld (Fd.CAN_DBT_SEG2 c)) &&
    (decide (80 ≤ d) || s.flag (Fd.CAN_TDC_EN c)))) &&
  (!iso || (!fd && n == 320 && decide (((List.range 6).filter (fun k => s.flag (Fd.CAN_CTL_ISO k))).length ≤ 2)))

/-- Write an object's RESULT. -/
def objResult (s : State) (o code : Nat) : State :=
  let k := 1024 + o
  let e := padTo 0 6 (smGet [] s.can.tab k)
  s.setCan { s.can with tab := smPut [] s.can.tab k (setAt e 4 (BitVec.ofNat 32 (setBits (e.getD 4 0).toNat 16 16 code))) }

/-- A frame retires with a code: an object's RESULT, or the status of its queue entry with the DT of now (R386, R388). -/
def canRetire (s : State) (f : CanFrame) (code : Nat) : State := match f.obj with
  | some o => objResult s o code
  | none => writeIova (writeIova s 0x0E (f.entry + 0x50) (leBytes 4 (code * 2 ^ 16))) 0x0E (f.entry + 0x58) (leBytes 8 s.dtNs)

/-- Retire the queued frames that satisfy `p`, with a code. -/
def canRetireAll (s : State) (c : Nat) (p : CanFrame → Bool) (code : Nat) : State :=
  let x := s.canC c
  (x.queue.filter p).foldl (fun s f => canRetire s f code)
    (s.setCanC c { x with queue := x.queue.filter (fun f => !p f) })

/-- EN of a controller is set (R378, R391). -/
def canEnable (s : State) (c : Nat) : State :=
  if canTimingOk s c then
    let s := (s.setFlag (Fd.CAN_CTL_EN c) true).setFld (Fd.CAN_STAT_CODE c) Code.ok
    let s := (s.setFld (Fd.CAN_STAT_STATE c) canActive).setFld (Fd.CAN_ERR_TEC c) 0
    (s.setFld (Fd.CAN_ERR_REC c) 0).setCanC c { s.canC c with offCyc := none }
  else (s.setFlag (Fd.CAN_CTL_EN c) false).setFld (Fd.CAN_STAT_CODE c) Code.badArgument

/-- EN of a controller is cleared: queued frames retire as CANCELLED (R388). -/
def canDisable (s : State) (c : Nat) : State :=
  let s := canRetireAll s c (fun _ => true) Code.cancelled
  (s.setFlag (Fd.CAN_CTL_EN c) false).setFld (Fd.CAN_STAT_STATE c) canOff

/-- CAN_ENABLE (R378): EN of a controller is written 1 while it is clear. -/
def execCanEnable (c : Fin 6) (s : State) : Out := if s.flag (Fd.CAN_CTL_EN c) then .next s else .next (canEnable s c)

/-- A write of CAN_CTL: RWL fields while EN is clear, then EN. -/
def canCtlWrite (s : State) (c : Nat) (v : Word) : State :=
  let was := s.flag (Fd.CAN_CTL_EN c)
  let s := plainWrite s (Ra.CAN_CTL c) (BitVec.ofNat 32 (setBits v.toNat 31 1 (b2n was)))
  if bit v.toNat 31 && !was then canEnable s c else if was && !bit v.toNat 31 then canDisable s c else s

/-! ### Errors, bus-off (R380) -/

/-- Error active or passive by the counters (ISO 11898-1, R380). -/
def canErrState (s : State) (c : Nat) : State :=
  if s.fld (Fd.CAN_STAT_STATE c) < canBusOff then
    s.setFld (Fd.CAN_STAT_STATE c) (if 128 ≤ s.fld (Fd.CAN_ERR_TEC c) ∨ 128 ≤ s.fld (Fd.CAN_ERR_REC c) then canPassive else canActive)
  else s

/-- The controller takes part on its bus. -/
def canRunning (s : State) (c : Nat) : Bool := s.flag (Fd.CAN_CTL_EN c) && s.fld (Fd.CAN_STAT_STATE c) < canBusOff

/-- A controller goes bus-off (R380): queued frames retire as REFUSED. -/
def canGoOff (s : State) (c : Nat) : State :=
  let s := canRetireAll s c (fun _ => true) Code.refused
  let s := ((s.setFld (Fd.CAN_ERR_TEC c) 255).setFld (Fd.CAN_STAT_STATE c) canBusOff).count (Fd.CAN_ERR_BUSOFF c)
  logEvent (s.setCanC c { s.canC c with offCyc := some s.clk.cyc }) Ev.busOff Src.link c 255

/-- A transmit error adds 8 to TEC; above 255 the controller goes bus-off (ISO 11898-1, R380). -/
def canTxError (s : State) (c : Nat) : State :=
  if 248 ≤ s.fld (Fd.CAN_ERR_TEC c) then canGoOff s c else canErrState (s.count (Fd.CAN_ERR_TEC c) 8) c

/-- BUS_OFF (R380): the transmit error that runs the count out. -/
def execBusOff (c : Fin 6) (s : State) : Out :=
  if canRunning s c ∧ 248 ≤ s.fld (Fd.CAN_ERR_TEC c) then .next (canGoOff s c) else .next s

/-- A good frame lowers the receive error count by 1; above 127 it returns to 127 (ISO 11898-1, R380). -/
def canRxGood (s : State) (c : Nat) : State := canErrState (s.setFld (Fd.CAN_ERR_REC c) (min 127 (s.fld (Fd.CAN_ERR_REC c) - 1))) c

/-- BUS_ON (R380): with AUTO_REC, after REC_DLY ms and 128 occurrences of 11 recessive bits. -/
def execBusOn (c : Fin 6) (s : State) : Out := match (s.canC c).offCyc with
  | some t =>
    if s.fld (Fd.CAN_STAT_STATE c) = canBusOff ∧ s.flag (Fd.CAN_CTL_AUTO_REC c) ∧ s.since t (s.fld (Fd.CAN_CTL_REC_DLY c) * cycMs) then
      let s := (s.setFld (Fd.CAN_STAT_STATE c) canActive).setFld (Fd.CAN_ERR_TEC c) 0
      let s := (s.setFld (Fd.CAN_ERR_REC c) 0).setCanC c { s.canC c with offCyc := none }
      .next (logEvent s Ev.busOn Src.link c 0)
    else .next s
  | none => .next s

/-! ### Table entries (R382, R385) -/

/-- Keys of the three tables in `CanState.tab`. -/
def canKey (kind i : Nat) : Nat := (if kind = 3 then 0 else kind) * 512 + i

/-- The entry in force, and the entry as last written. -/
def State.canEnt (s : State) (kind i : Nat) : List Word := padTo 0 6 (smGet [] s.can.tab (canKey kind i))
def State.canWritten (s : State) (kind i : Nat) : List Word :=
  padTo 0 6 ((smGet none s.can.tabP (canKey kind i)).getD (smGet [] s.can.tab (canKey kind i)))

/-- Word `k` of an entry as a number, and a field of it. -/
def ew (e : List Word) (k : Nat) : Nat := (e.getD k 0).toNat
def ef (e : List Word) (k lo w : Nat) : Nat := bits (ew e k) lo w

/-- The bit after bit `b` of a signal: upward, or for BE downward within a byte and then bit 7 of the next byte (R382). -/
def nextBit (be : Bool) (b : Nat) : Nat := if be then (if b % 8 = 0 then b + 15 else b - 1) else b + 1

/-- The bit numbers of a signal, least significant first. -/
def sigBits (be : Bool) (start len : Nat) : List Nat :=
  let l := ((List.range len).foldl (fun (a : List Nat × Nat) _ => (a.1 ++ [a.2], nextBit be a.2)) ([], start)).1
  if be then l.reverse else l

/-- Bit `b` of frame data. -/
def dataBit (d : List Byte) (b : Nat) : Bool := bit (d.getD (b / 8) 0).toNat (b % 8)

/-- Extract a signal; `none` for a frame too short to hold it (R383). -/
def sigExtract (e : List Word) (d : List Byte) : Option Nat :=
  let l := sigBits (bit (ew e 0) 24) (ef e 0 15 9) (ef e 0 9 6)
  if l.all (fun b => decide (b < 8 * d.length)) then
    some (l.foldr (fun b a => b2n (dataBit d b) + 2 * a) 0)
  else none

/-- The raw value is an error indicator or not available (SAE J1939-71): the two highest codes of a signal shorter than 8 bits, a top
byte of FE or FF of a longer one. -/
def naRaw (len raw : Nat) : Bool := if len < 8 then decide (2 ≤ len ∧ 2 ^ len - 2 ≤ raw) else decide (0xFE ≤ raw / 2 ^ (len - 8))

/-- Raw value as INT32: sign-extended when SIGNED is set. -/
def rawWord (e : List Word) (raw : Nat) : Word :=
  if bit (ew e 0) 25 then wordOfInt (sint (ef e 0 9 6) raw) else BitVec.ofNat 32 raw

/-- VAL := raw × SCALE + OFFSET (R382, R83). -/
def sigVal (e : List Word) (raw : Nat) : Word :=
  let x : Int := if bit (ew e 0) 25 then sint (ef e 0 9 6) raw else (raw : Int)
  (fma (fOfInt x) (e.getD 4 0) (e.getD 5 0)).val

/-- A frame header (IDE, identifier) matches a receive entry of controller `c`. -/
def sigMatches (e : List Word) (c hdr : Nat) : Bool :=
  bit (ew e 0) 31 && ef e 0 28 3 == c && bit (ew e 0) 27 == bit hdr 31 &&
    ((hdr % 2 ^ 29) ^^^ ef e 1 0 29) &&& ef e 2 0 29 == 0

/-! ### Receiving (R383, R384, R388, R393) -/

/-- A matching frame reaches receive entry `i`. -/
def sigFrame (s : State) (c i : Nat) (d : List Byte) : State :=
  let e := s.canEnt 0 i
  match sigExtract e d with
  | none => s.setCanC c { s.canC c with short := (s.canC c).short + 1 }
  | some raw =>
    let x := smGet {} s.can.sig i
    let na := bit (ew e 0) 26 && naRaw (ef e 0 9 6) raw
    s.setCan { s.can with sig := smPut {} s.can.sig i { x with wait := some (BitVec.ofNat 32 raw, na) } }

/-- The CAN stream units that stamp frames of entry `i`. -/
def strmUnits (s : State) (i : Nat) : List Nat := (List.range 12).filter (fun k =>
  s.flag (Fd.CAN_STRM_CFG_EN 0 k) && s.fld (Fd.CAN_STRM_CFG_FRAME 0 k) == i)

/-- Stamp a sensor frame (R49, R384): the counter of the same frame, unwrapped, times TSC. -/
def strmFrame (s : State) (k stamp : Nat) (d : List Byte) : State :=
  let e := s.canEnt 0 (s.fld (Fd.CAN_STRM_CFG_COUNT 0 k))
  match sigExtract e d with
  | none => s
  | some raw =>
    let m := 2 ^ ef e 0 9 6
    let acc := smGet 0 s.can.cnt k
    let acc := acc + (raw + m - acc % m) % m
    let s := s.setCan { s.can with cnt := smPut 0 s.can.cnt k acc }
    streamSample s (12 + k) stamp (fFloorScaled (s.reg (Ra.CAN_STRM_TSC 0 k)) acc 1).toNat

/-- Write a received frame into the application receive ring (R388); RXQ_CFG [15:0] is its number of entries. -/
def rxqWrite (s : State) (c hdr stamp : Nat) (d : List Byte) : State :=
  let n := bits (s.reg (Ra.CAN_RXQ_CFG c)).toNat 0 16
  if n = 0 ∨ !Config.canFilter (s.reg (Ra.CAN_RXQ_FILT c)) (BitVec.ofNat 32 hdr) then s
  else
    let w := s.fld (Fd.CAN_RXQ_WR_V c)
    let a := s.reg64 (Ra.CAN_RXQ_LO c) (Ra.CAN_RXQ_HI c) + 96 * w
    let s := writeIova s 0x0E a (leBytes 4 hdr ++ leBytes 4 d.length ++ leBytes 8 0 ++ padTo 0 64 d ++ leBytes 8 0 ++ leBytes 8 stamp)
    s.setFld (Fd.CAN_RXQ_WR_V c) ((w + 1) % n)

/-- The parameter group number of a 29-bit identifier: the PDU format and, for PDU2, the group extension. -/
def pgnOf (id : Nat) : Nat := if bits id 16 8 < 240 then bits id 16 10 * 256 else bits id 8 18

/-- CAN_FRAME_RECEIVE (R377, R383, R384, R388, R393): a frame on controller `c`: header word as in R388, whether it is a remote
frame, its data and the DT stamp of its ACK delimiter. -/
def execCanFrameReceive (c : Fin 6) (hdr : Word) (rtr : Bool) (data : List Byte) (stamp : Long) (s : State) : Out :=
  if !canRunning s c then .next s
  else if rtr then .next ((canRxGood s c).setCanC c { s.canC c with remote := (s.canC c).remote + 1 })
  else
    let h := hdr.toNat
    let s := (canRxGood s c).setCanC c { s.canC c with nRcvd := (s.canC c).nRcvd + 1 }
    let s := (List.range 512).foldl (fun s i =>
      if sigMatches (s.canEnt 0 i) c h then
        let s := if s.rpl.live.isSome then s else sigFrame s c i data
        (strmUnits s i).foldl (fun s k => strmFrame s k stamp.toNat data) s
      else s) s
    let s := if s.flag (Fd.CAN_CTL_ISO c) && bit h 31 && pgnOf (h % 2 ^ 29) == 65254 then noteTimeAid s 2000000 else s
    .next (rxqWrite s c h stamp.toNat data)

/-- CODE of a receive entry's qualifier: SLIPPED while a stream unit stamps its frame and is SLIPPED. -/
def sigCode (s : State) (i : Nat) : Nat :=
  if (strmUnits s i).any (fun k => s.flag (Fd.CLK_STRM_STAT_SLIPPED (12 + k))) then Code.slipped else Code.ok

/-- Publish both quantities of a receive entry (R382). -/
def sigPublish (s : State) (i : Nat) (raw : Nat) (valid : Bool) : State :=
  let e := s.canEnt 0 i
  let s := s.publish (pubKey 8 (2 * i)) (sigVal e raw) valid (sigCode s i)
  s.publish (pubKey 8 (2 * i + 1)) (rawWord e raw) valid (sigCode s i)

/-- At a tick boundary, every waiting frame value is latched (R383). -/
def canLatch (s : State) : State :=
  (s.can.sig.filter (fun x => x.2.wait.isSome)).foldl (fun s x => match x.2.wait with
    | some (raw, na) =>
      let y : CanSig := { wait := none, raw := raw, valid := !na, cyc := some s.clk.cyc }
      sigPublish (s.setCan { s.can with sig := smPut {} s.can.sig x.1 y }) x.1 raw.toNat (!na)
    | none => s) s

/-- TIMEOUT ms have passed without a matching frame of entry `i`: VALID clears (R383). -/
def canSigExpire (s : State) (i : Nat) : State :=
  let x := smGet {} s.can.sig i
  let t := ef (s.canEnt 0 i) 3 0 16
  match x.cyc with
  | some c =>
    if t ≠ 0 ∧ x.valid ∧ s.since c (t * cycMs) ∧ s.rpl.live.isNone then
      let s := s.setCan { s.can with sig := smPut {} s.can.sig i { x with valid := false } }
      (s.unvalid (pubKey 8 (2 * i))).unvalid (pubKey 8 (2 * i + 1))
    else s
  | none => s

/-- CAN_SIGNAL_TIMEOUT (R383). A tick does the same on its own. -/
def execCanSignalTimeout (i : Fin 512) (s : State) : Out := .next (canSigExpire s i)

/-! ### Transmitting (R385–R390) -/

/-- The loop whose route names transmit signal `i`, with its entry. -/
def sigRoute (s : State) (i : Nat) : Option (List Word) := s.ownerRoute 3 i

/-- The enabled transmit signals of an object that are routed. -/
def objSignals (s : State) (o : Nat) : List Nat := (List.range 256).filter (fun i =>
  bit (ew (s.canEnt 1 i) 0) 31 && ef (s.canEnt 1 i) 0 24 7 == o && (sigRoute s i).isSome)

/-- The loop that owns an object (R387). -/
def objOwner (s : State) (o : Nat) : Option Nat := ((objSignals s o).head?.bind (sigRoute s)).map rtLoop

/-- Data length of a DLC. -/
def dlcLen (dlc : Nat) (fd : Bool) : Nat :=
  if dlc ≤ 8 then dlc else if !fd then 8 else [12, 16, 20, 24, 32, 48, 64].getD (dlc - 9) 64

/-- The largest and smallest raw value of a signal. -/
def rawLimits (len : Nat) (signed : Bool) : Int × Int :=
  if signed then (-(2 ^ (len - 1) : Nat), (2 ^ (len - 1) : Nat) - 1) else (0, (2 ^ len : Nat) - 1)

/-- The raw value of a transmit signal (R385): (v − OFFSET) / SCALE rounded to nearest even and saturated; a NaN sends all ones;
an INT32 port with SCALE 1.0 and OFFSET 0.0 is packed exactly. -/
def txRaw (e : List Word) (isFloat : Bool) (v : Word) : Nat :=
  let len := ef e 0 9 6
  let lim := rawLimits len (bit (ew e 0) 7)
  let sat := fun (x : Int) => unsint len (max lim.1 (min lim.2 x))
  if !isFloat && e.getD 1 0 == fOne && e.getD 2 0 == 0 then sat v.toInt
  else
    let x := fDiv (fSub (if isFloat then v else fcvtsw v) (e.getD 2 0)) (e.getD 1 0)
    if fIsNaN x then 2 ^ len - 1
    else if x = fInf then sat lim.2
    else if x = fInfS true then sat lim.1
    else sat (fRound x 1 1)

/-- Put the bits of a raw value into frame data. -/
def putSignal (e : List Word) (raw : Nat) (d : List Byte) : List Byte :=
  let l := sigBits (bit (ew e 0) 8) (ef e 0 15 9) (ef e 0 9 6)
  (l.zipIdx).foldl (fun d x =>
    let i := x.1 / 8
    d.set i (BitVec.ofNat 8 (setBits (d.getD i 0).toNat (x.1 % 8) 1 (b2n (bit raw x.2))))) d

/-- The frame an object builds from the port values published now. -/
def objFrame (s : State) (o : Nat) : CanFrame :=
  let e := s.canEnt 2 o
  let c := ef e 0 28 3
  let fd := bit (ew e 0) 26
  let n := dlcLen (ef e 0 21 4) fd
  let id := if bit (ew e 0) 20 then setBits (ef e 1 0 29) 0 8 (s.canC c).addr else ef e 1 0 29
  let hdr := b2n (bit (ew e 0) 27) * 2 ^ 31 + b2n fd * 2 ^ 30 + b2n (bit (ew e 0) 25) * 2 ^ 29 + id
  let d := (objSignals s o).foldl (fun d i => match sigRoute s i with
    | some r => putSignal (s.canEnt 1 i) (txRaw (s.canEnt 1 i) (rtFloat r) (s.pubAt (portKey (rtLoop r) (rtOutPort r))).val) d
    | none => d) (List.replicate n (BitVec.ofNat 8 (ef e 0 0 8)))
  let life := ef e 3 0 16
  { obj := some o, hdr := hdr, len := n, data := d.take n, dead := if life = 0 then none else some (s.clk.cyc + life * 8000) }

/-- The loop's objects build no instant: past the retirement tick of a disable (R387). -/
def objQuiet (s : State) (loop : Nat) : Bool :=
  let st := s.loopState loop
  st == SlotSt.disabled || (st == SlotSt.disabling && match smGet none s.ce.disAt loop with
    | some t => decide (t ≤ s.clk.tick)
    | none => false)

/-- A frame ends on the virtual bus of REPLAY (R390): at once, with the stamp at which it would have ended on an idle bus, and OK. -/
def virtSend (s : State) (c : Nat) (f : CanFrame) : State :=
  let t := s.dtNs + Config.canBits (BitVec.ofNat 32 f.hdr) f.data * nomBit s c * 25 / 2
  canRetire (s.setCan { s.can with virt := (t, f) :: s.can.virt.take 63 }) f Code.ok

/-- Count an instant that passes without a frame. -/
def canSkip (s : State) (c : Nat) : State := s.setCanC c { s.canC c with skips := (s.canC c).skips + 1 }

/-- Queue an object's new frame: one still waiting is replaced, and OVERRUN counts it (R386). -/
def objQueue (s : State) (c o : Nat) (f : CanFrame) : State :=
  let x := s.canC c
  let waits := fun (g : CanFrame) => g.obj == some o && !g.arb
  let s := if x.queue.any waits then
      let e := padTo 0 6 (smGet [] s.can.tab (1024 + o))
      let w := BitVec.ofNat 32 (setBits (ew e 4) 0 16 (satU 16 (ef e 4 0 16 + 1)))
      s.setCan { s.can with tab := smPut [] s.can.tab (1024 + o) (setAt e 4 w) }
    else s
  s.setCanC c { s.canC c with queue := x.queue.filter (fun g => !waits g) ++ [f] }

/-- One object at its instant (R386, R390, R392). -/
def objInstant (s : State) (o : Nat) : State :=
  let e := s.canEnt 2 o
  let c := ef e 0 28 3
  match objOwner s o with
  | none => s
  | some loop =>
    if objQuiet s loop then s
    else if s.rpl.live.isSome ∧ s.flag (Fd.CAN_CTL_EN c) = true ∧ (bit (ew e 0) 20 = false ∨ (s.canC c).claimed = true) then
      let f := objFrame s o
      virtSend (tabRec s TabT.out (pubKey 3 (0x10000 + o)) (f.hdr :: f.data.map (·.toNat))) c f
    else if !canTxOn s || !canRunning s c || (bit (ew e 0) 20 && !(s.canC c).claimed) then canSkip s c
    else
      let f := objFrame s o
      objQueue (tabRec s TabT.out (pubKey 3 (0x10000 + o)) (f.hdr :: f.data.map (·.toNat))) c o f

/-- A schedule is due at the present tick (R126). -/
def dueNow (s : State) (p ph : Nat) : Bool :=
  let tn := s.clk.tick % 200
  let sfc := if s.rpl.live.isSome then s.rpl.sfc else s.clk.sfc
  if p = 0 then false
  else if p ≤ 200 then (tn + 200 * p - ph) % p == 0
  else tn == ph % 200 && (sfc + (p / 200) * 8 - ph / 200) % (p / 200) == 0

/-- The frame that wins arbitration (R389): the lowest identifier, an object's before the application queue's. -/
def canWinner (l : List CanFrame) : Option CanFrame :=
  l.foldl (fun (a : Option CanFrame) f => match a with
    | none => some f
    | some g =>
      let kf := f.hdr % 2 ^ 29
      let kg := g.hdr % 2 ^ 29
      if kf < kg ∨ (kf = kg ∧ f.obj.isSome ∧ g.obj.isNone) then some f else some g) none

/-- Objects due at a tick build their frames, and the winner of each controller enters arbitration (R386). -/
def canTick (s : State) : State :=
  let s := (s.can.tab.filter (fun x => decide (1024 ≤ x.1 ∧ x.1 < 1536) && bit (ew x.2 0) 31)).foldl (fun s x =>
    if dueNow s (ef x.2 2 16 11) (ef x.2 2 0 11) then objInstant s (x.1 - 1024) else s) s
  s.forN 6 (fun s c =>
    let x := s.canC c
    if x.queue.any (fun f => f.arb) || !canRunning s c || !canTxOn s then s
    else match canWinner x.queue with
      | some w => s.setCanC c { x with queue := x.queue.map (fun f => if f = w then { f with arb := true } else f) }
      | none => s)

/-- A controller may send data frames (R380, R53); at PF a frame in arbitration still finishes (R73). -/
def canSends (s : State) (c : Nat) : Bool :=
  canRunning s c && (canTxOn s || (!s.noPf && (s.canC c).queue.any (fun f => f.arb))) && s.rpl.live.isNone && !s.flag (Fd.CAN_CTL_LISTEN c) && !s.flag (Fd.CAN_CTL_RESTRICTED c)

/-- CAN_FRAME_SENT (R386, R389): the frame that wins arbitration is sent and retires as OK; with TDC the measured loop delay of an FD
frame shows in TDCV (R379). -/
def execCanFrameSent (c : Fin 6) (tdcv : Fin 128) (s : State) : Out :=
  if canSends s c then
    match canWinner (s.canC c).queue with
    | some f =>
      let s := s.setCanC c { s.canC c with queue := (s.canC c).queue.erase f, nSent := (s.canC c).nSent + 1 }
      let s := if s.flag (Fd.CAN_TDC_EN c) && bit f.hdr 30 then s.setFld (Fd.CAN_STAT_TDCV c) tdcv else s
      let s := s.setFld (Fd.CAN_ERR_TEC c) (s.fld (Fd.CAN_ERR_TEC c) - 1)
      .next (canRetire (canErrState s c) f Code.ok)
    | none => .next s
  else .next s

/-- Frames not sent within their lifetime retire as TIMEOUT (R386, R388). -/
def canExpire (s : State) (c : Nat) : State := canRetireAll s c (fun f => match f.dead with
  | some t => decide (t ≤ s.clk.cyc) && !f.arb
  | none => false) Code.timeout

/-- CAN_LIFETIME_EXPIRY (R386, R388). A tick does the same on its own. -/
def execCanLifetimeExpiry (c : Fin 6) (s : State) : Out := .next (canExpire s c)

/-- Signals and frames whose time has run out at a tick boundary. -/
def canExpiries (s : State) : State := ((s.can.sig.map (·.1)).foldl canSigExpire s).forN 6 canExpire

/-- A frame in arbitration of an object past its loop's retirement tick that meets an error is not tried again and retires as CANCELLED (R387). -/
def canNoRetry (s : State) (c : Nat) : State := canRetireAll s c (fun f => f.arb && match f.obj with
  | some o => (objOwner s o).any (objQuiet s)
  | none => false) Code.cancelled

/-- CAN_BUS_ERROR (R380): a bus error of a kind (1 stuff … 6 CRC), as transmitter or receiver; ISO 11898-1 adds 8 to TEC or 1 to REC. -/
def execCanBusError (c : Fin 6) (kind : Fin 7) (tx : Bool) (s : State) : Out :=
  if canRunning s c then
    let s := s.setFld (Fd.CAN_STAT_LASTERR c) kind
    .next (if tx then canTxError (canNoRetry s c) c else canErrState (s.count (Fd.CAN_ERR_REC c) 1) c)
  else .next s

/-- A valid data length (R388). -/
def canLenOk (n : Nat) (fd : Bool) : Bool := decide (n ≤ 8) || (fd && [12, 16, 20, 24, 32, 48, 64].contains n)

/-- One application entry taken by the link processor (R388, R390). -/
def txqEntry (s : State) (c a : Nat) : State := match fetchIova s 0x0E a 96 with
  | (none, s) => s
  | (some b, s) =>
    let hdr := leNat (b.take 4)
    let n := leNat ((b.drop 4).take 4)
    let life := leNat ((b.drop 8).take 4)
    let dead := if life = 0 then none else some (s.clk.cyc + life * cycMs)
    let f : CanFrame := { entry := a, hdr := hdr, len := n, data := (b.drop 16).take n, dead := dead }
    if !canLenOk n (bit hdr 30) || leNat ((b.drop 12).take 4) != 0 then canRetire s f Code.badArgument
    else if s.rpl.live.isSome then virtSend s c f
    else if !s.flag (Fd.CAN_CTL_EN c) then canRetire s f Code.cancelled
    else if !canTxOn s || !canRunning s c then canRetire s f Code.refused
    else s.setCanC c { s.canC c with queue := (s.canC c).queue ++ [f] }

/-- Take the entries from HEAD to TAIL − 1; TXQ_CFG [15:0] is the number of entries. -/
def txqServe (s : State) (c : Nat) : Nat → State
  | 0 => s
  | fuel + 1 =>
    let n := max 1 (bits (s.reg (Ra.CAN_TXQ_CFG c)).toNat 0 16)
    let h := s.fld (Fd.CAN_TXQ_HEAD_V c)
    if h = s.fld (Fd.CAN_TXQ_TAIL_V c) then s
    else
      let s := txqEntry s c (s.reg64 (Ra.CAN_TXQ_LO c) (Ra.CAN_TXQ_HI c) + 96 * h)
      txqServe (s.setFld (Fd.CAN_TXQ_HEAD_V c) ((h + 1) % n)) c fuel

/-- A write of CAN_TXQ_TAIL. -/
def txqTail (s : State) (c : Nat) (v : Word) : State :=
  let n := max 1 (bits (s.reg (Ra.CAN_TXQ_CFG c)).toNat 0 16)
  txqServe (s.setReg (Ra.CAN_TXQ_TAIL c) (BitVec.ofNat 32 (v.toNat % n))) c n

/-- CAN_TXQ_DOORBELL (R388): CAN_TXQ_TAIL is written, and the link processor serves the queued frames. -/
def execCanTxqDoorbell (c : Fin 6) (tail : Word) (s : State) : Out := .next (txqTail s c tail)

/-- At the retirement tick of a disable, frames of the loop's objects not in arbitration retire as CANCELLED (R142, R387). -/
def canCancelLoop (s : State) (loop : Nat) : State := s.forN 6 (fun s c =>
  canRetireAll s c (fun f => !f.arb && match f.obj with
    | some o => objOwner s o == some loop
    | none => false) Code.cancelled)

/-- No frame of the loop's objects is left in arbitration. -/
def canQuiet (s : State) (loop : Nat) : Bool := (List.range 6).all (fun c => (s.canC c).queue.all (fun f => match f.obj with
  | some o => objOwner s o != some loop
  | none => true))

/-! ### Table access (R382, R385, R387) -/

/-- The selected table and entry. -/
def canSelKind (s : State) : Nat := if s.fld (Fd.CAN_SIG_IDX_KIND 0) = 3 then 0 else s.fld (Fd.CAN_SIG_IDX_KIND 0)
def canSelIdx (s : State) : Nat := s.fld (Fd.CAN_SIG_IDX_INDEX 0)

/-- The index is within its table. -/
def canIdxOk (kind i : Nat) : Bool := decide (i < (if kind = 0 then 512 else if kind = 1 then 256 else 128))

/-- CAN_SIG_CMD.READ (R382): the selected entry, as last written, into DATA0–5. -/
def canSigRead (s : State) : State :=
  if canIdxOk (canSelKind s) (canSelIdx s) then
    let e := s.canWritten (canSelKind s) (canSelIdx s)
    (s.forN 6 (fun s k => s.setReg (Ra.CAN_SIG_DATA 0 k) (e.getD k 0))).setFld (Fd.CAN_SIG_CMD_RESULT 0) Code.ok
  else s.setFld (Fd.CAN_SIG_CMD_RESULT 0) Code.badArgument

/-- CAN_SIG_READ (R382): READ of CAN_SIG_CMD. -/
def execCanSigRead (s : State) : Out := .next (canSigRead s)

/-- The fields of an entry are in range and its reserved bits 0 (R382, R385). -/
def canFieldsOk (kind : Nat) (e : List Word) : Bool :=
  let len := ef e 0 9 6
  if kind = 0 then
    decide (ef e 0 28 3 < 6 ∧ 1 ≤ len ∧ len ≤ 32) && ef e 0 0 9 == 0 && ef e 1 29 3 == 0 && ef e 2 29 3 == 0 && ef e 3 16 16 == 0
  else if kind = 1 then
    decide (1 ≤ len ∧ len ≤ 32) && ef e 0 0 7 == 0 && !feq (e.getD 1 0) 0
  else decide (ef e 0 28 3 < 6) && schedOk (ef e 2 16 11) (ef e 2 0 11) && ef e 0 8 12 == 0 && ef e 1 29 3 == 0

/-- The loop that an entry belongs to, if any (R387). -/
def canEntOwner (s : State) (kind i : Nat) : Option Nat :=
  if kind = 1 then (sigRoute s i).map rtLoop else if kind = 2 then objOwner s i else none

/-- A loop's entries are locked while it is loaded and not LOADED, DISABLED or STOPPED (R132, R387). -/
def loopLocked (s : State) (loop : Nat) : Bool :=
  !([SlotSt.empty, SlotSt.loaded, SlotSt.disabled, SlotSt.stopped].contains (s.loopState loop))

/-- A written transmit signal would give its object a second owner (R387). -/
def canSecondOwner (s : State) (i : Nat) (e : List Word) : Bool :=
  bit (ew e 0) 31 && match (sigRoute s i).map rtLoop, objOwner s (ef e 0 24 7) with
    | some l, some m => l != m
    | _, _ => false

/-- The code a WRITE of the selected entry gives. -/
def canWriteCode (s : State) (kind i : Nat) (e : List Word) : Nat :=
  if !canIdxOk kind i || !canFieldsOk kind e then Code.badArgument
  else if (canEntOwner s kind i).any (loopLocked s) then Code.refused
  else if kind = 1 ∧ canSecondOwner s i e then Code.refused
  else if kind = 2 ∧ bit (ew e 0) 26 ∧ !s.flag (Fd.CAN_CTL_FD (ef e 0 28 3)) then Code.refused
  else Code.ok

/-- CAN_SIG_CMD.WRITE (R382, R385, R387): an accepted entry takes effect at the next major frame boundary; RESULT and OVERRUN of
an object are read only. -/
def canSigWrite (s : State) : State :=
  let kind := canSelKind s
  let i := canSelIdx s
  let e := (List.range 6).map (fun k => s.reg (Ra.CAN_SIG_DATA 0 k))
  let code := canWriteCode s kind i e
  let s := s.setFld (Fd.CAN_SIG_CMD_RESULT 0) code
  if code = Code.ok then
    let e := if kind = 2 then setAt e 4 ((s.canEnt 2 i).getD 4 0) else e
    s.setCan { s.can with tabP := smPut none s.can.tabP (canKey kind i) (some e) }
  else s

/-- CAN_SIG_WRITE (R387): WRITE of CAN_SIG_CMD. -/
def execCanSigWrite (s : State) : Out := .next (canSigWrite s)

/-- An entry comes into force; a receive entry newly enabled is not VALID before its first frame (R383). -/
def canEntApply (s : State) (key : Nat) (e : List Word) : State :=
  let was := bit (ew (smGet [] s.can.tab key) 0) 31
  let s := s.setCan { s.can with tab := smPut [] s.can.tab key e }
  if key < 512 ∧ was = false ∧ bit (ew e 0) 31 = true then
    ((s.setCan { s.can with sig := smPut {} s.can.sig key {} }).unvalid (pubKey 8 (2 * key))).unvalid (pubKey 8 (2 * key + 1))
  else s

/-- At a major frame boundary, written entries take effect. -/
def canTabApply (s : State) : State :=
  let p := s.can.tabP
  let s := p.foldl (fun s x => match x.2 with
    | some e => canEntApply s x.1 e
    | none => s) s
  s.setCan { s.can with tabP := [] }

/-- A write of CAN_STRM[k]_CFG (R384): EN needs both entries to match one identifier. -/
def canStrmCfg (s : State) (k : Nat) (v : Word) : State :=
  let f := s.canEnt 0 (bits v.toNat 16 9)
  let c := s.canEnt 0 (bits v.toNat 0 9)
  let same := bit (ew f 0) 31 && bit (ew c 0) 31 && ef f 0 27 4 == ef c 0 27 4 && ef f 1 0 29 == ef c 1 0 29 && ef f 2 0 29 == ef c 2 0 29
  if bit v.toNat 31 then
    if same then (plainWrite s (Ra.CAN_STRM_CFG 0 k) v).setFld (Fd.CAN_SIG_CMD_RESULT 0) Code.ok
    else (plainWrite s (Ra.CAN_STRM_CFG 0 k) (BitVec.ofNat 32 (setBits v.toNat 31 1 0))).setFld (Fd.CAN_SIG_CMD_RESULT 0) Code.badArgument
  else plainWrite s (Ra.CAN_STRM_CFG 0 k) v

/-- CAN_STREAM_ENABLE (R384): EN of CAN_STRM[k]_CFG is written with its two entries. -/
def execCanStreamEnable (k : Fin 12) (frame count : Fin 512) (s : State) : Out :=
  .next (canStrmCfg s k (BitVec.ofNat 32 (2 ^ 31 + frame.val * 2 ^ 16 + count.val)))

/-! ### ISO 11783 addresses (R392) -/

/-- ADDRESS_CLAIM (R392): address claim completes on a controller with ISO set, outside REPLAY. -/
def execAddressClaim (c : Fin 6) (addr : Fin 254) (s : State) : Out :=
  if canRunning s c && s.flag (Fd.CAN_CTL_ISO c) && canTxOn s && s.rpl.live.isNone then
    .next (s.setCanC c { s.canC c with addr := addr, claimed := true })
  else .next s

/-- ADDRESS_LOST (R392): the claimed address is taken over by another node; the controller sends cannot-claim from address 254. -/
def execAddressLost (c : Fin 6) (s : State) : Out :=
  if s.rpl.live.isNone then .next (s.setCanC c { s.canC c with addr := 254, claimed := false }) else .next s

end Sys2Proof.Machine
end

