-- ==== Sys2Proof/Machine/Crop.lean ====
section
/-! DEFINITION. Crop sensing (R158–R175): what each source latches, the limit checks, the counters of digital inputs and loss channels,
the sensor supplies, and the intrusive tests. Measured data come with the command that brings them. -/

namespace Sys2Proof.Machine

/-! ### Units (R158) -/

/-- A unit beyond its registers. -/
def State.snU (s : State) (u : Nat) : UinSt := smGet {} s.uin.unit u

/-- Replace a unit. -/
def State.setSnU (s : State) (u : Nat) (x : UinSt) : State := s.setUin { s.uin with unit := smPut {} s.uin.unit u x }

/-- The status register of a unit: UIN 0–47, BRG 48–51, LOS 52–59. -/
def snStat (u : Nat) : Nat := if u < 48 then Ra.UIN_CH_STAT u else if u < 52 then Ra.BRG_CH_STAT (u - 48) else Ra.LOS_CH_STAT (u - 52)

/-- VALID, TESTING, TEST_PEND and FAULT of a unit's status register. -/
def snValid (u : Nat) : Fld := ⟨snStat u, 31, 1⟩
def snTesting (u : Nat) : Fld := ⟨snStat u, if u < 52 then 29 else 30, 1⟩
def snPend (u : Nat) : Fld := ⟨snStat u, 28, 1⟩
def snFault (u : Nat) : Fld := if u < 52 then ⟨snStat u, 24, 4⟩ else ⟨snStat u, 28, 2⟩
def snFcnt (u : Nat) : Fld := ⟨snStat u, 16, 8⟩

/-- The unit is enabled; the IMU and the supply monitor have no enable. -/
def snEn (s : State) (u : Nat) : Bool :=
  if u < 48 then s.flag (Fd.UIN_CH_CFG_EN u) else if u < 52 then s.flag (Fd.BRG_CH_CFG_EN (u - 48))
  else if u < 60 then s.flag (Fd.LOS_CH_CFG_EN (u - 52)) else true

/-- Confirmation ticks; 0 acts as 1. -/
def snConf (s : State) (u : Nat) : Nat := max 1 (
  if u < 48 then s.fld (Fd.UIN_CH_CFG_CONF u) else if u < 52 then s.fld (Fd.BRG_CH_CFG_CONF (u - 48))
  else s.fld (Fd.LOS_CONF_V (u - 52)))

/-- MODE of a UIN channel; 11 to 15 act as OFF. -/
def uinMode (s : State) (n : Nat) : Nat := if s.fld (Fd.UIN_CH_CFG_MODE n) ≤ 10 then s.fld (Fd.UIN_CH_CFG_MODE n) else 0

/-- An odd channel whose even partner is in QUAD: its MODE is ignored. -/
def quadSlave (s : State) (n : Nat) : Bool := n % 2 == 1 && uinMode s (n - 1) == 9 && s.flag (Fd.UIN_CH_CFG_EN (n - 1))

/-- Quantities of a unit. -/
def snQuants (u : Nat) : Nat := if u < 48 then 3 else if u < 52 then 2 else if u < 60 then 6 else if u = 60 then 7 else 8

/-- The key of a unit's quantity (route class 0x1). -/
def snKey (u q : Nat) : Nat := pubKey 1 (u * 64 + q)

/-- A unit under an intrusive test, or tied to a supply under test (R174). -/
def snHeld (s : State) (u : Nat) : Bool := match s.uin.test with
  | some t => t.running && (t.unit == u && t.test != 2 ||
      t.test == 2 && (decide (u < 48) && s.flag (Fd.UIN_CH_CFG_SUPTIE u) && s.fld (Fd.UIN_CH_CFG_SUP u) == t.unit))
  | none => false

/-- The supply test of SUPn runs (R174). -/
def supTested (s : State) (n : Nat) : Bool := match s.uin.test with
  | some t => t.running && t.test == 2 && t.unit == n
  | none => false

/-- SUPn's output is on: enabled, without a latched fault, and not in the 2 ms for which its test switches it off (R170, R174). -/
def supOn (s : State) (n : Nat) : Bool :=
  s.flag (Fd.UIN_SUP_CFG_EN n) && s.fld (Fd.UIN_SUP_STAT_FAULT n) == 0 && (match s.uin.test with
    | some t => !(t.running && t.test == 2 && t.unit == n && decide (s.liveTick < t.at_ + 40))
    | none => true)

/-- The set voltage of SUPn in µV (R170). -/
def supSet (s : State) (n : Nat) : Nat := match s.fld (Fd.UIN_SUP_CFG_VSEL n) with
  | 1 => 8500000
  | 2 => 10000000
  | _ => 5000000

/-! ### Who takes a source (R171) -/

/-- The safety island takes the channels of its configuration in force (R458, R468). -/
def safTakes (s : State) (u : Nat) : Bool := s.saf.cfg.chans.contains u

/-- The fusion sequencer takes the IMU and the wheels' channels. -/
def fusTakes (s : State) (u : Nat) : Bool :=
  s.fus.running && (u == 60 || (List.range 4).any (fun w => s.flag (Fd.FUS_WHL_CFG_EN w) && s.fld (Fd.FUS_WHL_CFG_UNIT w) == u))

/-- An input route of a RUNNING or STARTING loop takes the unit. -/
def loopTakes (s : State) (u : Nat) : Bool :=
  s.ce.rtIn.any (fun x => rtEn x.2 && rtClass x.2 == 1 && rtIndex x.2 / 64 == u &&
    (s.loopState (rtLoop x.2) == SlotSt.running || s.loopState (rtLoop x.2) == SlotSt.starting))

/-- The unit is busy. -/
def snBusy (s : State) (u : Nat) : Bool := loopTakes s u || fusTakes s u || safTakes s u

/-! ### Faults (R164, R173) -/

/-- Change the qualifier of a source's port; in REPLAY the live one, since no live value reaches the replayed units (R172). -/
def livePort (s : State) (k : Nat) (valid : Bool) : State := match s.rpl.live with
  | some b => s.setRpl { s.rpl with live := some { b with pub := smPut {} b.pub k { smGet {} b.pub k with valid := valid } } }
  | none => s.setPub k { s.pubAt k with valid := valid }

/-- VALID of a unit goes, in its status and on its ports. -/
def snUnvalid (s : State) (u : Nat) : State :=
  let s := if u < 60 then s.setFlag (snValid u) false else s
  s.forN (snQuants u) (fun s q => livePort s (snKey u q) false)

/-- A fault is confirmed: FAULT, FCNT, VALID clear from this latch on, and INPUT_FAULT is recorded. -/
def snFaultSet (s : State) (u c : Nat) : State :=
  let s := snUnvalid (s.setFld (snFault u) c) u
  let s := if u < 52 then s.count (snFcnt u) else s
  logEvent s Ev.inputFault Src.unit u c

/-- A fault is cleared: FAULT, VALID, and INPUT_OK is recorded. -/
def snFaultClear (s : State) (u : Nat) : State :=
  let s := (s.setFld (snFault u) 0).setFlag (snValid u) true
  let s := s.forN (snQuants u) (fun s q => livePort s (snKey u q) true)
  logEvent s Ev.inputOk Src.unit u 0

/-- Confirmation and clearance of what the unit has counted (R164). -/
def snConfirm (s : State) (u : Nat) : State :=
  let x := s.snU u
  if snConf s u ≤ x.bad ∧ s.fld (snFault u) ≠ x.cand then snFaultSet s u x.cand
  else if snConf s u ≤ x.good ∧ s.fld (snFault u) ≠ 0 then snFaultClear s u
  else s

/-- The fault condition at a latch (R164, R170, R173, R161): a supply fault, the reference, an open burden, the limits in raw code, or
what the input's own check reports. -/
def snCond (s : State) (u raw cause : Nat) : Nat :=
  let lim := fun (lo hi r : Nat) => if r < lo then 1 else if hi < r then 2 else cause
  if u < 48 then
    if s.flag (Fd.UIN_CH_CFG_SUPTIE u) && s.fld (Fd.UIN_SUP_STAT_FAULT (s.fld (Fd.UIN_CH_CFG_SUP u))) != 0 then 5
    else if 3 ≤ smGet 0 s.uin.refs (u / 8) then 6
    else if (s.snU u).burden.isSome then 4
    else if uinMode s u ≤ 6 then lim (s.fld (Fd.UIN_CH_LIM_LO u)) (s.fld (Fd.UIN_CH_LIM_HI u)) raw
    else cause
  else if u < 52 then lim (s.fld (Fd.BRG_CH_LIM_LO (u - 48))) (s.fld (Fd.BRG_CH_LIM_HI (u - 48))) (raw / 256 % 65536)
  else cause

/-- A latch with its condition, `n` ticks after the last: it counts toward confirmation or clearance, which act at once (R164). -/
def snCount (s : State) (u c n : Nat) : State :=
  let x := s.snU u
  let x := if c = 0 then { x with bad := 0, good := if x.good = 0 then 1 else x.good + n }
    else { x with bad := (if x.cand = c ∧ 0 < x.bad then x.bad + n else 1), good := 0, cand := c }
  snConfirm (s.setSnU u x) u

/-- VALID of a latch: the unit is enabled, shows no fault, and no condition is confirmed at this latch (R164). -/
def snOk (s : State) (u : Nat) : Bool := snEn s u && s.fld (snFault u) == 0 && decide ((s.snU u).bad < snConf s u)

/-- What the input's own check may report: open, shorted or beyond range. -/
def ownCheck (c : Nat) : Nat := if [3, 4, 7].contains c then c else 0

/-! ### Acquisitions (R162, R165, R169) -/

/-- The sum and the number of the last `n` acquisitions that ended at or before the boundary before the present one. -/
def acqSum (l : List Int) (n : Nat) : Int × Nat :=
  let w := (l.drop 1).take n
  (w.foldl (· + ·) 0, w.length)

/-- A mean to the nearest code; 0 without an acquisition. -/
def acqCode (x : Int × Nat) : Int := if x.2 = 0 then 0 else (2 * x.1 + x.2) / (2 * x.2)

/-- Note an acquisition. The longest mean takes 64. -/
def snAcquire (s : State) (u : Nat) (code : Int) : State := s.setSnU u { s.snU u with acq := code :: (s.snU u).acq.take 64 }

/-- The acquisitions a UIN channel averages. -/
def uinN (s : State) (n : Nat) : Nat := 2 ^ min 6 (s.fld (Fd.UIN_CH_CFG_FILT n))

/-- VAL := GAIN × x + OFFSET, rounded once (R160). -/
def snVal (s : State) (u : Nat) (x : Word) : Word :=
  if u < 48 then fFma (s.reg (Ra.UIN_CH_GAIN u)) x (s.reg (Ra.UIN_CH_OFFSET u))
  else fFma (s.reg (Ra.BRG_CH_GAIN (u - 48))) x (s.reg (Ra.BRG_CH_OFFSET (u - 48)))

/-! ### Universal inputs (R161–R164) -/

/-- The latched state of a DIG channel (R163): it takes the level that has been there for N ticks. -/
def digLatch (s : State) (n : Nat) : State :=
  let x := s.snU n
  if x.dig ≠ x.level ∧ x.digCyc + uinN s n * 8000 + cycUs ≤ s.clk.cyc then s.setSnU n { x with dig := x.level } else s

/-- No edge has come for 10 s (R161). -/
def freqOut (s : State) (x : UinSt) : Bool := decide (x.per ≠ 0) && s.since x.edgeCyc (10 * cycS)

/-- x and the raw code of a mean code over a range of `lo` to `lo + span`, with `den` parts to the unit. -/
def rangeX (m : Int × Nat) (lo span den : Nat) : Word × Word :=
  (if m.2 = 0 then 0 else fOfRat (m.1 * span + (lo * 65535 * m.2 : Nat)) (m.2 * 65535 * den), wordOfInt (acqCode m))

/-- x of RATIO: the input over 1.1 × the set voltage, divided by the supply voltage measured over the same interval (R161, R170). -/
def ratioX (s : State) (n : Nat) (m : Int × Nat) : Word × Word :=
  let k := s.fld (Fd.UIN_CH_CFG_SUP n)
  let v := acqSum (s.uin.mon.map (fun l => l.getD k 0)) (uinN s n)
  let full := 11 * supSet s k / 10
  let x := if 0 < v.1 then fOfRat (m.1 * full * v.2) (m.2 * 65535 * v.1.toNat) else fDiv (fOfInt m.1) 0
  (if m.2 = 0 then 0 else x, wordOfInt (acqCode m))

/-- The base quantity and the raw code of a UIN channel (R161), in an analog mode from its last N acquisitions, in a digital one from its
counters. A frequency is saturated at 20 kHz (R164). -/
def uinBase (s : State) (n : Nat) : Word × Word :=
  let u := s.snU n
  let m := acqSum u.acq (uinN s n)
  match uinMode s n with
  | 1 => rangeX m 0 55 10
  | 2 => rangeX m 0 11 1
  | 3 => rangeX m 0 36 1
  | 4 => ratioX s n m
  | 5 => rangeX m 0 25 1
  | 6 => rangeX m 10 99990 1
  | 7 | 10 =>
    if freqOut s u then (0, 0x7FFFFFFF#32)
    else if u.per = 0 ∨ u.per = 0x7FFFFFFF then (0, BitVec.ofNat 32 u.per)
    else (fOfRat 160000000 (if uinMode s n = 7 then max 8000 u.per else u.per), BitVec.ofNat 32 u.per)
  | 8 => (fOfInt (b2n (xor u.dig (s.flag (Fd.UIN_CH_CFG_INV n)))), BitVec.ofNat 32 (b2n (xor u.dig (s.flag (Fd.UIN_CH_CFG_INV n)))))
  | 9 => (fOfInt u.edges, wordOfInt u.edges)
  | _ => (0, 0)

/-- A UIN channel in MODE 0, or one whose MODE is ignored: VALID is clear, its raw code and values are 0 (R161). -/
def snOff (s : State) (u : Nat) : State :=
  let s := ((s.setFlag (snValid u) false).setFld (Fd.UIN_CH_STAT_RAW u) 0).setReg (Ra.UIN_CH_VAL u) 0
  s.forN (snQuants u) (fun s q => latchNow s (snKey u q) 0 false)

/-- A burden that has been open for 100 ms closes (R161). -/
def burdenClose (s : State) (n : Nat) : State := match (s.snU n).burden with
  | some t => if t ≤ s.clk.cyc then s.setSnU n { s.snU n with burden := none } else s
  | none => s

/-- A UIN channel latches; `cause` is what its own check reports. -/
def uinLatch (s : State) (n cause : Nat) : State :=
  if uinMode s n = 0 ∨ quadSlave s n then snOff s n
  else
    let s := burdenClose s n
    let s := if uinMode s n = 8 then digLatch s n else s
    let b := uinBase s n
    let s := snCount s n (snCond s n b.2.toNat (ownCheck cause)) 1
    let ok := snOk s n
    let v := snVal s n b.1
    let cnt := if [7, 9, 10].contains (uinMode s n) then wordOfInt (s.snU n).edges else 0
    let s := ((s.setFlag (snValid n) ok).setFld (Fd.UIN_CH_STAT_RAW n) b.2.toNat).setReg (Ra.UIN_CH_VAL n) v
    latchNow (latchNow (latchNow s (snKey n 0) v ok) (snKey n 1) b.2 ok) (snKey n 2) cnt ok

/-! ### Bridges (R165) -/

/-- P_b of a bridge. -/
def brgPeriod (s : State) (n : Nat) : Nat := match s.fld (Fd.BRG_CH_CFG_RATE n) with
  | 0 => 40
  | 2 => 5
  | _ => 20

/-- The span in mV/V. -/
def brgSpan (s : State) (n : Nat) : Nat := match s.fld (Fd.BRG_CH_CFG_SPAN n) with
  | 0 => 2
  | 1 => 8
  | _ => 32

/-- A bridge latches where TN mod P_b = 0: the mean of the P_b acquisitions before the last tick. -/
def brgLatch (s : State) (n cause : Nat) : State :=
  let u := 48 + n
  let p := brgPeriod s n
  if s.liveTick % p ≠ 0 then s
  else
    let m := acqSum (s.snU u).acq p
    let raw := wordOfInt (acqCode m)
    let s := snCount s u (snCond s u raw.toNat (ownCheck cause)) p
    let ok := snOk s u
    let v := snVal s u (if m.2 = 0 then 0 else fOfRat (m.1 * brgSpan s n) (m.2 * 2 ^ 23))
    let s := ((s.setFlag (snValid u) ok).setFld (Fd.BRG_CH_STAT_RAW n) raw.toNat).setReg (Ra.BRG_CH_VAL n) v
    latchNow (latchNow s (snKey u 0) v ok) (snKey u 1) raw ok

/-! ### Loss channels (R166–R168) -/

/-- Dead time in DTB cycles: 20 to 2 000 µs. -/
def losDead (s : State) (n : Nat) : Nat := clampN 20 2000 (s.fld (Fd.LOS_CH_CFG_DEAD n)) * cycUs

/-- THR, and the level THR − HYS below which the counter re-arms. -/
def losThr (s : State) (n : Nat) : Nat := s.fld (Fd.LOS_CH_THR_THR n)
def losLow (s : State) (n : Nat) : Nat := losThr s n - s.fld (Fd.LOS_CH_THR_HYS n)

/-- The detector takes an envelope sample at a DTB cycle (R167): above THR an impact while armed, or a suppressed crossing after a fall within
DEAD; below THR − HYS a fall, which arms it once DEAD has passed. -/
def losDetect (s : State) (n at_ e : Nat) (x : UinSt) : UinSt :=
  let past := decide (x.hitCyc + losDead s n ≤ at_)
  if losThr s n < e then
    if !x.disarmed || (x.fell && past) then
      { x with disarmed := true, fell := false, hitCyc := at_, imp := x.imp + 1, cumImp := (x.cumImp + 1) % 2 ^ 32 }
    else if x.fell then { x with fell := false, sup := x.sup + 1, cumSup := (x.cumSup + 1) % 2 ^ 32 }
    else x
  else if e < losLow s n then { x with disarmed := x.disarmed && !past, fell := x.disarmed && !past }
  else x

/-- An envelope sample of a channel that runs: the detector takes it, and it counts for the peak. -/
def losEnv (s : State) (n at_ e : Nat) : State :=
  let u := 52 + n
  if !snEn s u || snHeld s u then s
  else
    let x := losDetect s n at_ e (s.snU u)
    s.setSnU u { x with peak := max x.peak e }

/-- The amplified input in converter codes, ±32 767 at full scale: gain in 6 dB steps of a factor 2 (R166). -/
def losGain (s : State) (n : Nat) : Nat := 2 ^ s.fld (Fd.LOS_CH_CFG_GAIN n)
def losCode (s : State) (n : Nat) (x : Int) : Int :=
  let c := x * losGain s n * 32767 / Config.losFullScale
  if c < -32767 then -32767 else if 32767 < c then 32767 else c

/-- A channel takes the input sample of a DTB cycle, in µV (R166): gain, high-pass and low-pass filter, envelope; the envelope sample
of 24 µs before, 6 samples, reaches the detector. -/
def losSample (s : State) (n at_ : Nat) (x : Int) : State :=
  let u := 52 + n
  let c := losCode s n x
  let r := Config.losStep (s.fld (Fd.LOS_CH_CFG_HPF n)) (s.snU u).filt (wordOfInt c)
  let y := s.snU u
  let line := y.line ++ [(r.getD 1 0).toNat % 65536]
  let y := { y with filt := r.drop 2, line := if 6 < line.length then line.drop 1 else line
                    sq := y.sq + ((r.getD 0 0).toInt * (r.getD 0 0).toInt).toNat, smp := y.smp + 1
                    clip := y.clip + b2n (decide (c.natAbs = 32767)) }
  let s := s.setSnU u y
  match line with
  | e :: _ => if 6 < line.length then losEnv s n at_ e else s
  | [] => s

/-- The samples of the tick interval that ends, one every 640 DTB cycles. -/
def losSamples (s : State) (n : Nat) (ws : List Word) : State :=
  let c0 := s.clk.cyc - 8000
  let first := (c0 + 639) / 640 * 640
  ((ws.take 13).zip (List.range 13)).foldl (fun s x => losSample s n (first + 640 * x.2) x.1.toInt) s

/-- Energy in V² referred to the input, and the peak envelope in V, of the interval (R168). -/
def losEnergy (s : State) (n : Nat) (x : UinSt) : Word :=
  if x.smp = 0 then 0
  else fOfRat (x.sq * Config.losFullScale ^ 2 : Nat) (x.smp * 32767 ^ 2 * losGain s n ^ 2 * 10 ^ 12)
def losPeak (x : UinSt) : Word := fOfRat (x.peak * Config.losFullScale : Nat) (65535 * 10 ^ 6)

/-- A loss channel latches its counts, energy and peak (R168). `short`: its input reads shorted. -/
def losLatch (s : State) (n : Nat) (short : Bool) : State :=
  let u := 52 + n
  let x := s.snU u
  let s := snCount s u (if short then 1 else if x.smp < 100 * x.clip then 2 else 0) 1
  let ok := snOk s u
  let x := s.snU u
  let w := fun (k : Nat) => BitVec.ofNat 32 k
  let en := losEnergy s n x
  let pk := losPeak x
  let s := latchNow (latchNow (latchNow s (snKey u 0) (w x.cumImp) ok) (snKey u 1) (w x.imp) ok) (snKey u 2) (w x.sup) ok
  let s := latchNow (latchNow (latchNow s (snKey u 3) en ok) (snKey u 4) pk ok) (snKey u 5) (w x.cumSup) ok
  let s := s.setSnU u { x with imp := 0, sup := 0, sq := 0, smp := 0, clip := 0, peak := 0 }
  let s := ((s.setReg (Ra.LOS_COUNT n) (w x.cumImp)).setReg (Ra.LOS_SUPPR n) (w x.cumSup)).setReg (Ra.LOS_ENERGY n) en
  (s.setReg (Ra.LOS_PEAK n) pk).setFlag (snValid u) ok

/-! ### IMU and supplies (R169, R170) -/

/-- The ranges of the IMU in µm/s² and µrad/s: ±4, ±8 or ±16 g, ±250, ±500 or ±1 000 °/s. -/
def imuRange (s : State) (q : Nat) : Int :=
  let c := (s.reg Ra.UIN_IMU_CFG).toNat
  if q < 3 then (39226600 * 2 ^ min 2 (bits c 2 2) : Nat) else (4363323 * 2 ^ min 2 (bits c 0 2) : Nat)

/-- The IMU's acquisition of a tick, within its ranges: µm/s², µrad/s and, for the temperature, m°C. -/
def imuTake (s : State) (ws : List Word) : List Int := (List.range 7).map (fun q =>
  let x := (ws.getD q 0).toInt
  if q = 6 then x else max (-imuRange s q) (min (imuRange s q) x))

/-- Quantity `q` of the IMU: the mean over [t − 11, t − 1). -/
def imuMean (s : State) (q : Nat) : Word :=
  let m := acqSum (s.uin.imu.map (fun l => l.getD q 0)) 10
  if m.2 = 0 then 0 else fOfRat m.1 (m.2 * (if q = 6 then 1000 else 10 ^ 6))

/-- The IMU acquires at every tick, and latches where TN mod 10 = 0 (R169). -/
def imuLatch (s : State) (ws : List Word) : State :=
  let s := s.setUin { s.uin with imu := imuTake s ws :: s.uin.imu.take 10 }
  if s.liveTick % 10 ≠ 0 ∨ snHeld s 60 then s
  else (s.forN 7 (fun s q => latchNow s (snKey 60 q) (imuMean s q) true)).setReg Ra.UIN_IMU_TEMP (imuMean s 6)

/-- A supply switches off and latches a fault; every channel tied to it shows FAULT 5 (R170). -/
def supTrip (s : State) (n kind : Nat) : State :=
  if supOn s n then
    let s := s.setFld (Fd.UIN_SUP_STAT_FAULT n) kind
    s.forN 48 (fun s u => if s.flag (Fd.UIN_CH_CFG_SUPTIE u) && s.fld (Fd.UIN_CH_CFG_SUP u) == n then snFaultSet s u 5 else s)
  else s

/-- A supply that has been in its limit of 360 mA for 10 ms, or more than 1.0 V above its set voltage for 1 ms, trips (R170). -/
def supWatch (s : State) (ws : List Int) (n : Nat) : State :=
  let lim := if supOn s n ∧ 360000 ≤ ws.getD (4 + n) 0 then smGet 0 s.uin.lim n + 1 else 0
  let high := if supOn s n ∧ ((supSet s n + 1000000 : Nat) : Int) < ws.getD n 0 then smGet 0 s.uin.high n + 1 else 0
  let s := s.setUin { s.uin with lim := smPut 0 s.uin.lim n lim, high := smPut 0 s.uin.high n high }
  if 200 ≤ lim then supTrip s n 1 else if 20 ≤ high then supTrip s n 2 else s

/-- The supply monitor latches voltages (acquired in µV) and currents (in µA); a supply under test holds its own two ports (R174). -/
def supLatch (s : State) (ws : List Word) : State :=
  let v := (List.range 8).map (fun q => (ws.getD q 0).toInt)
  let s := s.setUin { s.uin with mon := v :: s.uin.mon.take 64 }
  let s := s.forN 8 (fun s q =>
    if supTested s (q % 4) then s else latchNow s (snKey 61 q) (fOfRat (v.getD q 0) (if q < 4 then 10 ^ 6 else 1000)) true)
  let s := s.forN 4 (fun s n => s.setFld (Fd.UIN_SUP_STAT_MA n) (clampN 0 65535 (v.getD (4 + n) 0 / 1000).toNat))
  s.forN 4 (fun s n => supWatch s v n)

/-! ### The latches of a tick -/

/-- What a unit acquired in the tick interval that ends: its raw code and its data. A unit the list leaves out acquired what it acquired
last. -/
def acqOf (s : State) (lat : List (Fin 62 × Word × List Word)) (u : Nat) : Word × List Word :=
  match lat.find? (fun x => x.1.val == u) with
  | some x => x.2
  | none =>
    let last := fun (l : List (List Int)) => (l.headD []).map wordOfInt
    (wordOfInt ((s.snU u).acq.headD 0), if u = 60 then last s.uin.imu else if u = 61 then last s.uin.mon else [])

/-- One source at a tick boundary. A unit that is not enabled does not latch, one under test holds (R174). -/
def snLatch (s : State) (u : Nat) (x : Word × List Word) : State :=
  if u = 60 then imuLatch s x.2
  else if u = 61 then supLatch s x.2
  else if !snEn s u then s
  else
    let cause := (x.2.headD 0).toNat
    let s := if u < 48 then snAcquire s u (x.1.toNat % 65536 : Nat)
      else if u < 52 then snAcquire s u ((x.1.setWidth 24).toInt)
      else losSamples s (u - 52) x.2
    if snHeld s u then s
    else if u < 48 then uinLatch s u cause
    else if u < 52 then brgLatch s (u - 48) cause
    else losLatch s (u - 52) (bit x.1.toNat 0)

/-! ### Digital inputs (R161, R163) -/

/-- An edge of a QUAD pair: ×4 decoding, A before B counting up. -/
def quadEdge (s : State) (e : PinEdge) : State :=
  let a := e.ch / 2 * 2
  let up := if e.ch = a then e.high != (s.snU (a + 1)).level else e.high == (s.snU a).level
  s.setSnU a { s.snU a with edges := (s.snU a).edges + (if up then 1 else -1) }

/-- An edge of a FREQ or WSS channel: EDGE selects what counts; periods run between edges of one direction. -/
def freqEdge (s : State) (e : PinEdge) : State :=
  let x := s.snU e.ch
  let sel := s.fld (Fd.UIN_CH_CFG_EDGE e.ch)
  let ref := if sel = 1 then !e.high else e.high
  let x := if sel = 2 ∨ ref then { x with edges := x.edges + 1 } else x
  if ref then s.setSnU e.ch { x with
    per := (match x.edgeDt with
      | some t => clampN 1 0x7FFFFFFF ((e.dt - t) * 4 / 25)
      | none => 0)
    edgeDt := some e.dt
    edgeCyc := e.cyc }
  else s.setSnU e.ch x

/-- An edge takes effect on its channel. -/
def edgeAct (s : State) (e : PinEdge) : State :=
  let a := e.ch / 2 * 2
  let s := if uinMode s a = 9 ∧ snEn s a then quadEdge s e
    else if snEn s e.ch && (uinMode s e.ch == 7 || uinMode s e.ch == 10) then freqEdge s e
    else s
  s.setSnU e.ch { s.snU e.ch with level := e.high, digCyc := e.cyc }

/-- The edges up to 1 µs before the present boundary take effect, in their order (R163). -/
def edgesTake (s : State) : State :=
  let due := fun (e : PinEdge) => decide (e.cyc + cycUs ≤ s.clk.cyc)
  (s.uin.edges.filter due).foldl edgeAct (s.setUin { s.uin with edges := s.uin.edges.filter (fun e => !due e) })

/-- The latches of a tick boundary, in ascending unit number; the supply monitor first, since RATIO takes its values. -/
def snTick (s : State) (lat : List (Fin 62 × Word × List Word)) : State :=
  let s := edgesTake s
  (61 :: List.range 61).foldl (fun s u => snLatch s u (acqOf s lat u)) s

/-- The comparator of a digital input at a voltage in mV, with the channel's threshold and 0.5 V of hysteresis; a WSS channel compares the
sensor's current, in µA, with the middle of 7 and 14 mA. -/
def pinLevel (s : State) (n : Nat) (was : Bool) (v : Nat) : Bool :=
  if uinMode s n = 10 ∧ quadSlave s n = false then decide (10500 ≤ v)
  else
    let t := 200 * s.fld (Fd.UIN_CH_CFG_DIGTHR n)
    if was then decide (t ≤ v + 500) else decide (t ≤ v)

/-- The voltage an open input takes from the channel's pull resistor: up to 5 V, or down; it floats where there is none (R161, PULL). -/
def pulled (s : State) (n : Nat) : Option Nat := match s.fld (Fd.UIN_CH_CFG_PULL n) with
  | 1 => some 5000
  | 2 => some 0
  | _ => none

/-- INPUT_EDGE (R163): the signal of input `n`, past the 1 µs filter, changes to `v` mV (WSS: µA), or is left open (`open_`), `off` DTB cycles into
the tick. A change of the comparator's level is an edge, stamped in DT. -/
def execInputEdge (n : Fin 48) (open_ : Bool) (v : Half) (off : Fin 8192) (s : State) : Out :=
  match (if open_ then pulled s n else some v.toNat) with
  | some mv =>
    let x := s.snU n
    let high := pinLevel s n x.pin mv
    if high = x.pin then .next s
    else
      let s := s.setSnU n { x with pin := high }
      .next (s.setUin { s.uin with edges := s.uin.edges ++ [{ ch := n, high := high, cyc := s.clk.cyc + off, dt := s.dtSub off }] })
  | none => .next s

/-- FREQ_EDGE_TIMEOUT (R161): 10 s without an edge make FREQ and WSS report 0 Hz. -/
def execFreqEdgeTimeout (n : Fin 48) (s : State) : Out :=
  let x := s.snU n
  if snEn s n && (uinMode s n == 7 || uinMode s n == 10) && freqOut s x then
    .next (s.setSnU n { x with per := 0x7FFFFFFF, edgeDt := none })
  else .next s

/-! ### Fault events (R161, R164, R170, R173) -/

/-- INPUT_FAULT (R164): the condition has held for CONF consecutive ticks. -/
def execInputFault (u : Fin 60) (s : State) : Out :=
  let x := s.snU u
  if snConf s u ≤ x.bad ∧ s.fld (snFault u) ≠ x.cand then .next (snFaultSet s u x.cand) else .next s

/-- INPUT_OK (R164): the condition has been absent for CONF consecutive ticks; VALID sets and the clearance is recorded. -/
def execInputOk (u : Fin 60) (s : State) : Out :=
  if snConf s u ≤ (s.snU u).good ∧ s.fld (snFault u) ≠ 0 then .next (snFaultClear s u) else .next s

/-- I25_OVERCURRENT (R161): an I25 input draws above 30 mA the burden opens for 100 ms and FAULT is 4. -/
def execI25Overcurrent (d : InputDraw) (s : State) : Out :=
  let n := d.n
  if snEn s n && uinMode s n == 5 && (s.snU n).burden.isNone && decide (30000 < d.ua.toNat) then
    let s := s.setSnU n { s.snU n with burden := some (s.clk.cyc + 100 * cycMs), cand := 4, bad := 0, good := 0 }
    .next (snFaultSet s n 4)
  else .next s

/-- I25_BURDEN_RESTORE (R161): 100 ms later the burden is connected again. -/
def execI25BurdenRestore (n : Fin 48) (s : State) : Out := .next (burdenClose s n)

/-- A group that has deviated in 3 consecutive frames sets FAULT 6 on every channel of it (R173). -/
def refFault (s : State) (g : Nat) : State :=
  if 3 ≤ smGet 0 s.uin.refs g then
    s.forN 8 (fun s i => if s.fld (snFault (8 * g + i)) = 6 then s else snFaultSet s (8 * g + i) 6)
  else s

/-- The references converted in the frame that ends: bit g is set where group g deviates by more than 0.5 % (R173). -/
def refFrame (s : State) (refs : Nat) : State := s.forN 6 (fun s g =>
  refFault (s.setUin { s.uin with refs := smPut 0 s.uin.refs g (if bit refs g then smGet 0 s.uin.refs g + 1 else 0) }) g)

/-- REFERENCE_FAULT (R173): a group has deviated in 3 consecutive frames. -/
def execReferenceFault (g : Fin 6) (s : State) : Out := .next (refFault s g)

/-- SUPPLY_CURRENT_TRIP (R170): SUPn has been in its current limit for `us` µs; it trips at 10 ms. -/
def execSupplyCurrentTrip (m : SupplyMeas) (s : State) : Out := if 10000 ≤ m.us.toNat then .next (supTrip s m.n 1) else .next s

/-- SUPPLY_BATTERY_SHORT (R170): SUPn has been at `mv` mV for `us` µs; more than 1.0 V above its set voltage for 1 ms, it trips. -/
def execSupplyBatteryShort (m : SupplyMeas) (s : State) : Out :=
  if supSet s m.n + 1000000 < 1000 * m.mv.toNat ∧ 1000 ≤ m.us.toNat then .next (supTrip s m.n 2) else .next s

/-- LOS_IMPACT (R167): an envelope sample above THR reaches the detector of a loss channel by itself, `off` DTB cycles into the tick. -/
def execLosImpact (n : Fin 8) (env : Half) (off : Fin 8192) (s : State) : Out :=
  if losThr s n < env.toNat then .next (losEnv s n (s.clk.cyc + off) env.toNat) else .next s

/-- LOS_REARM (R167): an envelope sample below THR − HYS reaches the detector by itself. -/
def execLosRearm (n : Fin 8) (x : EnvSample) (s : State) : Out :=
  if x.env.toNat < losLow s n then .next (losEnv s n (s.clk.cyc + x.off) x.env.toNat) else .next s

/-! ### Intrusive tests (R174, R175) -/

/-- The sources a test disturbs: its unit, or every channel tied to the supply under test. -/
def testUnits (s : State) (test unit : Nat) : List Nat :=
  if test = 2 then (List.range 48).filter (fun u => s.flag (Fd.UIN_CH_CFG_SUPTIE u) && s.fld (Fd.UIN_CH_CFG_SUP u) == unit) else [unit]

/-- The ports a test holds: those of its sources, with the supply's own two. -/
def testKeys (s : State) (test unit : Nat) : List Nat :=
  (testUnits s test unit).flatMap (fun u => (List.range (snQuants u)).map (snKey u)) ++
    (if test = 2 then [snKey 61 unit, snKey 61 (4 + unit)] else [])

/-- Show TEST_PEND on the units that show it. -/
def testPend (s : State) (t : TestRun) (b : Bool) : State :=
  (testUnits s t.test t.unit).foldl (fun s u => if u < 52 then s.setFlag (snPend u) b else s) s

/-- A pending test ends without having run, with a code. -/
def testDrop (s : State) (t : TestRun) (code : Nat) : State :=
  let s := testPend (s.setUin { s.uin with test := none }) t false
  (s.setFld Fd.UIN_TEST_RES_CODE code).setFlag Fd.UIN_TEST_RES_PENDING false

/-- A source is disabled: a pending test of it is CANCELLED (R175). `sup`: the source is the supply of that number. -/
def testCancel (s : State) (sup : Bool) (unit : Nat) : State := match s.uin.test with
  | some t => if !t.running && t.unit == unit && (t.test == 2) == sup then testDrop s t Code.cancelled else s
  | none => s

/-- The test applies to the unit (R174). For the supply test the unit is the supply's number. -/
def testFits (s : State) (test unit : Nat) : Bool := match test with
  | 1 => decide (unit < 48) && [1, 2, 3, 4, 6].contains (uinMode s unit)
  | 2 => decide (unit < 4)
  | 3 => decide (48 ≤ unit ∧ unit < 52)
  | 4 => decide (52 ≤ unit ∧ unit < 60)
  | 5 => unit == 60
  | _ => false

/-- A disturbed source is busy: for the safety island, or for a loop or the fusion sequencer. -/
def testBusySaf (s : State) (test unit : Nat) : Bool := (testUnits s test unit).any (safTakes s)
def testBusy (s : State) (test unit : Nat) : Bool :=
  (testUnits s test unit).any (snBusy s) || (test == 2 && loopTakes s 61)

/-- R175's table: the code of a test command in the present mode. -/
def testCode (mode : Nat) (busySaf busy : Bool) : Nat :=
  if mode = Mode.service ∨ mode = Mode.activate ∨ mode = Mode.safeStop then Code.ok
  else if mode = Mode.replay then Code.refused
  else if busySaf then Code.refused
  else if !busy then Code.ok
  else if mode = Mode.road then Code.ok
  else if mode = Mode.fieldManual ∨ mode = Mode.fieldAssist then Code.deferred
  else Code.refused

/-- A write of UIN_TEST_CMD: a test that applies becomes pending, and its code is given at the next frame boundary (R174, R175). -/
def snTestCmd (s : State) (test unit : Nat) : State :=
  if !testFits s test unit then s.setFld Fd.UIN_TEST_RES_CODE Code.badArgument
  else if s.uin.test.isSome then s.setFld Fd.UIN_TEST_RES_CODE Code.refused
  else
    let t : TestRun := { test := test, unit := unit }
    let s := (s.setFld Fd.UIN_TEST_RES_CODE Code.ok).setFlag Fd.UIN_TEST_RES_PENDING true
    let s := ((s.setFld Fd.UIN_TEST_RES_UNIT (if test = 2 then 61 else unit)).setFld Fd.UIN_TEST_RES_TEST test).setFlag Fd.UIN_TEST_RES_PASS false
    testPend (s.setUin { s.uin with test := some t }) t true

/-- OPEN_TEST (R174): TEST 1 of a UIN channel is written to UIN_TEST_CMD. -/
def execOpenTest (n : Fin 48) (s : State) : Out := .next (snTestCmd s 1 n)

/-- SUPPLY_TEST (R174): TEST 2 of a sensor supply is written. -/
def execSupplyTest (n : Fin 4) (s : State) : Out := .next (snTestCmd s 2 n)

/-- BRIDGE_TEST (R174): TEST 3 of a bridge is written. -/
def execBridgeTest (n : Fin 4) (s : State) : Out := .next (snTestCmd s 3 (48 + n))

/-- PIEZO_TEST (R174): TEST 4 of a loss channel is written. -/
def execPiezoTest (n : Fin 8) (s : State) : Out := .next (snTestCmd s 4 (52 + n))

/-- IMU_TEST (R174): TEST 5 of the IMU is written. -/
def execImuTest (s : State) : Out := .next (snTestCmd s 5 60)

/-- A test's duration in ticks (R174). -/
def testTicks (s : State) (test unit : Nat) : Nat := match test with
  | 1 => 4
  | 2 => 440
  | 3 => 2 * brgPeriod s (unit - 48) + 1
  | 4 => 320
  | _ => 1000

/-- Show TESTING on the units that show it. -/
def testShow (s : State) (t : TestRun) (b : Bool) : State :=
  (testUnits s t.test t.unit).foldl (fun s u => if u < 60 then s.setFlag (snTesting u) b else s) s

/-- A test starts: the ports of its sources hold with VALID clear, and AGE grows. -/
def testStart (s : State) (t : TestRun) : State :=
  let s := s.setUin { s.uin with test := some { t with running := true, at_ := s.liveTick } }
  let s := (testKeys s t.test t.unit).foldl (fun s k => livePort s k false) s
  let s := (testUnits s t.test t.unit).foldl (fun s u => if u < 60 then s.setFlag (snValid u) false else s) (testPend s t false)
  let s := (s.setFld Fd.UIN_TEST_RES_CODE Code.ok).setFlag Fd.UIN_TEST_RES_PENDING false
  testShow (s.setFlag Fd.UIN_TEST_RES_RUNNING true) t true

/-- A pending test at a frame boundary (R175): it starts, is DEFERRED or REFUSED; a deferred one starts at its idle point. -/
def testFrame (s : State) : State := match s.uin.test with
  | some t =>
    if t.running then s
    else if t.deferred then
      if s.mode = Mode.service ∨ s.mode = Mode.road ∨ testBusy s t.test t.unit = false then testStart s t else s
    else
      let code := testCode s.mode (testBusySaf s t.test t.unit) (testBusy s t.test t.unit)
      if code = Code.ok then testStart s t
      else if code = Code.deferred then (s.setUin { s.uin with test := some { t with deferred := true } }).setFld Fd.UIN_TEST_RES_CODE code
      else testDrop s t code
  | none => s

/-- SENSE_TEST_START (R174, R175): at a frame boundary a pending test starts; a deferred one waits for its idle point. -/
def execSenseTestStart (s : State) : Out := if s.liveTick % 200 = 0 then .next (testFrame s) else .next s

/-! ### Register writes (R160, R171, R174, R175) -/

/-- A write of UIN_SUP[n]_CFG: EN going from 0 to 1 restarts a latched supply; clearing EN cancels a pending test. -/
def supWrite (s : State) (n : Nat) (v : Word) : State :=
  let was := s.flag (Fd.UIN_SUP_CFG_EN n)
  let s := plainWrite s (Ra.UIN_SUP_CFG n) v
  if bit v.toNat 31 then (if was then s else s.setFld (Fd.UIN_SUP_STAT_FAULT n) 0) else testCancel s true n

/-- A write of a channel's CFG: clearing EN clears VALID and cancels a pending test; a change of EN or MODE starts the unit's counters anew, but
for the comparator of its input and a loss channel's cumulative counts. -/
def chCfgWrite (s : State) (u a : Nat) (v : Word) : State :=
  let old := s.reg a
  let s := plainWrite s a v
  let mask : Word := if u < 48 then 0xF8000000#32 else 0x80000000#32
  let x := s.snU u
  let s := if (old ^^^ v) &&& mask = 0 then s
    else s.setSnU u { pin := x.pin, level := x.level, cumImp := x.cumImp, cumSup := x.cumSup }
  if bit v.toNat 31 then s else snUnvalid (testCancel s false u) u

/-- Write a configuration register of unit `u`; the supplies are unit 61. -/
def unitCfgWrite (s : State) (u a : Nat) (v : Word) : State :=
  if u < 60 then chCfgWrite s u a v else if u = 60 then plainWrite s a v else supWrite s ((a - Ra.UIN_SUP_CFG 0) / 8) v

/-- The unit whose configuration register an address is. -/
def cfgUnit (a : Nat) : Nat :=
  if Ra.LOS_CH_CFG 0 ≤ a ∧ a < Ra.LOS_CH_CFG 8 then 52 + (a - Ra.LOS_CH_CFG 0) / 0x40
  else if a = Ra.UIN_IMU_CFG then 60
  else if Ra.UIN_SUP_CFG 0 ≤ a then 61
  else if Ra.BRG_CH_CFG 0 ≤ a then 48 + (a - Ra.BRG_CH_CFG 0) / 0x20
  else (a - Ra.UIN_CH_CFG 0) / 0x20

/-- The source with a configuration register is under test. -/
def cfgHeld (s : State) (a : Nat) : Bool :=
  if cfgUnit a = 61 then supTested s ((a - Ra.UIN_SUP_CFG 0) / 8) else snHeld s (cfgUnit a)

/-- A write of a CFG register of a source: during a test of the source it waits for the end. -/
def senseCfgWrite (s : State) (a : Nat) (v : Word) : State :=
  if cfgHeld s a then s.setUin { s.uin with held := smPut none s.uin.held a (some v) } else unitCfgWrite s (cfgUnit a) a v

/-- A write of a register of a UIN or BRG channel: one that the safety island takes answers to the Mirror pair only (R171). -/
def snRegWrite (s : State) (init u a : Nat) (v : Word) (isCfg : Bool) : State :=
  if safTakes s u && init != 0x0C then s else if isCfg then senseCfgWrite s a v else plainWrite s a v

/-- SUPPLY_RESTART (R170): EN of UIN_SUP[n]_CFG is cleared and set again. -/
def execSupplyRestart (n : Fin 4) (s : State) : Out :=
  let v := s.reg (Ra.UIN_SUP_CFG n)
  let s := senseCfgWrite s (Ra.UIN_SUP_CFG n) (v &&& 0x7FFFFFFF#32)
  .next (senseCfgWrite s (Ra.UIN_SUP_CFG n) (v ||| 0x80000000#32))

/-! ### The end of a test -/

/-- CFG writes to the tested source take effect when the test ends. -/
def testRelease (s : State) : State :=
  s.uin.held.foldl (fun s x => unitCfgWrite s (cfgUnit x.1) x.1 (x.2.getD 0)) (s.setUin { s.uin with held := [] })

/-- SENSE_TEST_END (R174): the running test's time is over; its result is written and the ports resume with the next latch. -/
def execSenseTestEnd (pass : Bool) (s : State) : Out := match s.uin.test with
  | some t =>
    if t.running && decide (t.at_ + testTicks s t.test t.unit ≤ s.liveTick) then
      let s := testShow s t false
      let s := s.setUin { s.uin with test := none }
      let s := (s.setFlag Fd.UIN_TEST_RES_RUNNING false).setFlag Fd.UIN_TEST_RES_PASS pass
      let s := if t.test = 5 then s.setReg Ra.UIN_IMU_TEST_RES (BitVec.ofNat 32 (b2n pass)) else s
      .next (testRelease s)
    else .next s
  | none => .next s

end Sys2Proof.Machine
end

