-- ==== Sys2Proof/Machine/Display.lean ====
section
/-! DEFINITION. The cab panel (R472–R483) and the status strip (R484–R491). -/

namespace Sys2Proof.Machine

/-! ### The panel's sequences (R475, R476, R483) -/

/-- Set the sequence with PNL_STAT.STATE. -/
def setPanel (s : State) (q : PanelSeq) : State :=
  let st := match q with
    | .off => 0
    | .starting _ => 1
    | .on => 2
    | .stopping _ _ => 3
    | .faulted _ => 3
  let lit := match q with
    | .on => true
    | .stopping _ false => s.dsp.lit
    | _ => false
  (s.setDsp { s.dsp with seq := q, frames := 0, lit := lit, full := s.dsp.level }).setFld Fd.DSP_PNL_STAT_STATE st

/-- The panel may start: boot step 8 reached, not in OFF or STANDBY, no power-fail sequence. -/
def panelMay (s : State) : Bool := decide (2 ≤ s.mode) && decide (8 ≤ s.fld Fd.PWR_STAT_STEP) && s.pm.pf.isNone

/-- Start when EN is set, the panel is off and it may (R475). -/
def panelStart (s : State) : State :=
  if s.flag Fd.DSP_PNL_CTL_EN && panelMay s && s.dsp.seq == .off then
    let s := (setPanel s (.starting s.cyc)).setFld Fd.DSP_PNL_STAT_FAULT 0
    s.setDsp { s.dsp with level := 0, frameAt := none }
  else s

/-- A normal off. -/
def panelStop (s : State) : State := match s.dsp.seq with
  | .starting _ => setPanel s (.stopping s.cyc false)
  | .on => setPanel s (.stopping s.cyc false)
  | .faulted _ => setPanel s .off
  | _ => s

/-- A fast off at PF or a full module reset. -/
def panelFast (s : State) : State := match s.dsp.seq with
  | .off => s
  | .faulted _ => s
  | _ => setPanel s (.stopping s.cyc true)

/-- A write of DSP_PNL_CTL: a rising EN starts the panel, a falling EN stops it. -/
def pnlCtlWrite (s : State) (v : Word) : State :=
  let was := s.flag Fd.DSP_PNL_CTL_EN
  let s := plainWrite s Ra.DSP_PNL_CTL v
  let now := s.flag Fd.DSP_PNL_CTL_EN
  if now && !was then panelStart s
  else if was && !now then panelStop s
  else s

/-- PANEL_ENABLE (R475): EN of DSP_PNL_CTL is set. -/
def execPanelEnable (s : State) : Out := .next (pnlCtlWrite s (s.reg Ra.DSP_PNL_CTL ||| 0x80000000#32))

/-- PANEL_DISABLE (R476): EN of DSP_PNL_CTL is cleared. -/
def execPanelDisable (s : State) : Out := .next (pnlCtlWrite s (s.reg Ra.DSP_PNL_CTL &&& 0x7FFFFFFF#32))

/-- A rail is on (R474–R476): 0 VDDIO, 1 VCI 1 ms after it, 2 ELVDD after two black frames, 3 ELVSS 1 ms after that. A normal off takes ELVSS off after
the ramp and ELVDD 20 ms later; a fast off takes both off at once. -/
def panelRail (s : State) (r : Nat) : Bool := match s.dsp.seq with
  | .off => false
  | .starting c => match r with
    | 0 => true
    | 1 => s.since c cycMs
    | 2 => s.dsp.lit
    | _ => s.dsp.lit && s.dsp.frameAt.any (fun t => s.since t cycMs)
  | .on => true
  | .stopping c false => match r with
    | 2 => s.dsp.lit && !s.since c (120 * cycMs)
    | 3 => s.dsp.lit && !s.since c (100 * cycMs)
    | _ => true
  | .stopping c true => decide (r < 2) && !s.since c (10 * cycMs)
  | .faulted c => decide (r < 2) && !s.since c (10 * cycMs)

/-- The setting of a rail in mV, ELVSS by its magnitude (R474), and its current limit in mA. -/
def railSet (s : State) (r : Nat) : Nat := [1800, 3300, 4600, 2000 + 50 * min 40 (s.fld Fd.DSP_PNL_CTL_ELVSS)].getD r 0
def railLimit (r : Nat) : Nat := [150, 400, 2500, 2500].getD r 0

/-- The rail is outside ±10 % of its setting, or above its current limit. -/
def railBad (s : State) (r mv ma : Nat) : Bool :=
  decide (mv * 10 < railSet s r * 9) || decide (railSet s r * 11 < mv * 10) || decide (railLimit r < ma)

/-- A panel fault: a fast off, with the rail shown and recorded. -/
def panelTrip (s : State) (r : Nat) : State :=
  logEvent (((setPanel s (.faulted s.cyc)).setFld Fd.DSP_PNL_STAT_FAULT (r + 1)).raise (Ra.DSP_DIAG 11) 0) Ev.panelFault Src.unit (r + 1) 0

/-- PANEL_FAULT (R483): a rail that is on has been for 1 ms out of ±10 % or above its limit: a fast off; the panel
stays off until EN is cleared and set again. -/
def execPanelFault (m : RailMeas) (s : State) : Out :=
  let live := match s.dsp.seq with
    | .starting _ => true
    | .on => true
    | .stopping _ false => true
    | _ => false
  if live && panelRail s m.rail && railBad s m.rail m.mv.toNat m.ma.toNat then .next (panelTrip s m.rail) else .next s

/-- At a tick boundary: a fast off is over after 10 ms, and a panel that is off with EN set starts. -/
def panelTick (s : State) : State := match s.dsp.seq with
  | .stopping c true => if s.since c (10 * cycMs) then panelStart (setPanel s .off) else s
  | .faulted c => if s.since c (10 * cycMs) then s.setFld Fd.DSP_PNL_STAT_STATE 0 else s
  | .off => panelStart s
  | _ => s

/-! ### Frames (R478–R480) -/

/-- The blink rectangles of a frame in their off phase (R480). -/
def blinkOff (s : State) (w : List Word) : List Nat := (List.range 8).filter (fun k =>
  let t := (w.getD (4 * k + 2) 0).toNat
  let per := bits t 8 8
  bit t 31 && decide (bits t 0 8 ≤ s.clk.sfc % max 1 per))

/-- The brightness at a frame start: a new LEVEL at once; up from 0 over the first 200 ms, down to 0 over 100 ms of a normal off (R475, R476, R479). -/
def frameLevel (s : State) : Nat := match s.dsp.seq with
  | .on => s.fld Fd.DSP_PNL_BRT_LEVEL * min (200 * cycMs) (s.cyc - s.dsp.onAt) / (200 * cycMs)
  | .stopping c _ => s.dsp.full * (100 * cycMs - min (100 * cycMs) (s.cyc - c)) / (100 * cycMs)
  | _ => 0

/-- What applies at a frame start: flip, brightness, blink words, gains. -/
def frameTakes (s : State) : State :=
  let w := (List.range 32).map (fun i => s.reg (Ra.DSP_BLINK_P0 0 + 0x10 * (i / 4) + 4 * (i % 4)))
  let s := match s.dsp.flip with
    | some b => (s.setFld Fd.DSP_PNL_STAT_BUF b).count (Fd.DSP_DIAG_V 10)
    | none => s
  (s.setDsp { s.dsp with
    flip := none, level := frameLevel s, blink := w, offs := blinkOff s w, gain := s.dsp.gainP.getD s.dsp.gain
    gainP := none }).count (Fd.DSP_DIAG_V 9)

/-- The IOVA of the buffer shown, and its pitch in bytes. -/
def panelBuf (s : State) : Nat := if s.flag Fd.DSP_PNL_STAT_BUF then s.reg64 Ra.DSP_FB_B_LO Ra.DSP_FB_B_HI else s.reg64 Ra.DSP_FB_A_LO Ra.DSP_FB_A_HI
def panelPitch (s : State) : Nat := 256 * max 30 (s.fld Fd.DSP_FB_CFG_PITCH)

/-- The frame is fetched through the panel's channel (R478): whether a translation of the buffer's pages faults, and the state after. -/
def frameFetch (s : State) : Bool × State :=
  let n := 719 * panelPitch s + 7680
  let bad := (pageStarts (panelBuf s) n).any (fun p => match initXlat s (0x10 + panelCh s) p false with
    | .ok _ => false
    | .fault _ => true)
  (bad, noteXfer s (0x10 + panelCh s) (panelBuf s) n false)

/-- A shown frame: what applies at its start, its fetch, and the faults and late lines of the last one (the controller issues SKIP in the blank). -/
def frameShown (s : State) (fault under : Nat) : State :=
  let f := frameFetch (frameTakes s)
  let fault := fault + b2n f.1
  let s := ((f.2.count Fd.DSP_PNL_STAT_FB_FAULT fault).count Fd.DSP_PNL_STAT_UNDERRUN under).count (Fd.DSP_FETCH_V 0) 720
  let s := (s.count (Fd.DSP_FETCH_V 1) fault).count (Fd.DSP_FETCH_V 2) under
  if fault = 0 then s else dmaSkip s (panelCh s)

/-- A write of DSP_FB_FLIP. -/
def fbFlip (s : State) (v : Word) : State := s.setDsp { s.dsp with flip := some (v.toNat % 2) }

/-- FB_FLIP (R478): the buffer is selected from the next frame start on. -/
def execFbFlip (b : Fin 2) (s : State) : Out := .next (fbFlip s (BitVec.ofNat 32 b))

/-! ### Pixels and ageing (R479, R481, R482) -/

/-- The lowest rectangle in its off phase that covers (x, y): its OFF_COLOUR. -/
def blinkColour (s : State) (x y : Nat) : Option Word :=
  (s.dsp.offs.find? (fun k =>
    let p := (s.dsp.blink.getD (4 * k) 0).toNat
    let q := (s.dsp.blink.getD (4 * k + 1) 0).toNat
    decide (bits p 16 11 ≤ x ∧ x ≤ bits q 16 11 ∧ bits p 0 10 ≤ y ∧ y ≤ bits q 0 10))).map (fun k => s.dsp.blink.getD (4 * k + 3) 0)

/-- The gain of a zone (120 × 45) and colour, in 1/4 096; 4 096 with AGE_EN clear. -/
def zoneGain (s : State) (zx zy c : Nat) : Nat :=
  if s.flag Fd.DSP_PNL_CTL_AGE_EN then smGet 4096 s.dsp.gain ((min 44 zy * 120 + min 119 zx) * 3 + c) else 4096

/-- The gain at a pixel: bilinear between zone centres, in 1/4 096 × 1/1 024. -/
def pixelGain (s : State) (x y c : Nat) : Nat :=
  let ax := 2 * x + 1 - min 16 (2 * x + 1)
  let ay := 2 * y + 1 - min 16 (2 * y + 1)
  let wx := ax % 32
  let wy := ay % 32
  let g := fun (i j : Nat) => zoneGain s (ax / 32 + i) (ay / 32 + j) c
  (32 - wx) * (32 - wy) * g 0 0 + wx * (32 - wy) * g 1 0 + (32 - wx) * wy * g 0 1 + wx * wy * g 1 1

/-- The drive level 0–255 of a pixel's colour (0 R, 1 G, 2 B) before brightness: fetch (a pixel that cannot be fetched is black), blink, ageing
gain. -/
def pixelDrive (s : State) (x y c : Nat) : Nat :=
  let w := match blinkColour s x y with
    | some w => w.toNat
    | none => ((readIova s (0x10 + panelCh s) (panelBuf s + y * panelPitch s + 4 * x) 4).map leNat).getD 0
  bits w (8 * (2 - c)) 8 * pixelGain s x y c / (4096 * 1024)

/-- The emitter current of a pixel's colour, in 1/(255 × 1 023) of full current (R479). -/
def pixelCurrent (s : State) (x y c : Nat) : Nat := pixelDrive s x y c * s.dsp.level

/-- The sum of a colour's drive levels over a zone of 16 × 16 pixels. -/
def zoneSum (s : State) (zx zy c : Nat) : Nat :=
  (List.range 256).foldl (fun a i => a + pixelDrive s (16 * zx + i % 16) (16 * zy + i / 16) c) 0

/-- What one sample adds to a counter: round(mean × LEVEL / 1 023). -/
def ageAdd (s : State) (zx zy c : Nat) : Nat := (2 * zoneSum s zx zy c * s.dsp.level + 256 * 1023) / (2 * 256 * 1023)

/-- The IOVA of the counter of a zone and colour: zones row by row, colours R, G, B. -/
def ageAddr (s : State) (i : Nat) : Nat := s.reg64 Ra.DSP_AGE_LO Ra.DSP_AGE_HI + 8 * i

/-- A stress counter. -/
def ageCount (s : State) (i : Nat) : Nat := ((readIova s (0x10 + panelCh s) (ageAddr s i) 8).map leNat).getD 0

/-- With AGE_EN set, once a second the shown frame's zone drive levels are added to the counters (R481). -/
def ageSample (s : State) : State :=
  if s.flag Fd.DSP_PNL_CTL_AGE_EN && s.dsp.seq == .on && s.since s.dsp.ageAt cycS then
    let i := 0x10 + panelCh s
    let adds := (List.range 16200).map (fun i => ageAdd s (i / 3 % 120) (i / 360) (i % 3))
    let s' := (adds.zip (List.range 16200)).foldl (fun s x => storeIova s i (ageAddr s x.2) (leBytes 8 (satU 64 (ageCount s x.2 + x.1))))
      (noteXfer (noteXfer s i (ageAddr s 0) 129600 false) i (ageAddr s 0) 129600 true)
    s'.setDsp { s'.dsp with ageAt := s.cyc }
  else s

/-- AGEING_SAMPLE (R481). A frame start does the same on its own. -/
def execAgeingSample (s : State) : Out := .next (ageSample s)

/-- The panel calibration records (R536), as bytes. -/
def panelCal (s : State) : List Byte := (s.upd.cal.filter (fun r => r.set == 12)).flatMap (fun r => r.data)

/-- Largest counter of a colour. -/
def ageMax (s : State) (c : Nat) : Nat := (List.range 5400).foldl (fun a z => max a (ageCount s (3 * z + c))) 0

/-- Every 60 s, g = L(s_max) / L(s_zone), at most 1, for the next frame start (R482). -/
def ageGains (s : State) : State :=
  if s.flag Fd.DSP_PNL_CTL_AGE_EN && s.dsp.seq == .on && s.since s.dsp.gainAt (60 * cycS) then
    let l := Config.panelLum (panelCal s)
    let g := (List.range 16200).foldl (fun m i =>
      let c := i % 3
      smPut 4096 m i (min 4096 (l c (ageMax s c) * 4096 / max 1 (l c (ageCount s i))))) []
    s.setDsp { s.dsp with gainP := some g, gainAt := s.cyc }
  else s

/-- AGEING_GAIN_UPDATE (R482). A frame start does the same on its own. -/
def execAgeingGainUpdate (s : State) : Out := .next (ageGains s)

/-! ### A frame start (R473, R475, R476, R478) -/

/-- DTB cycles of a frame: 2 200 × VTOTAL pixels at 148.5 MHz (R473). -/
def framePeriod (s : State) : Nat := 2200 * (if s.fld Fd.DSP_TIM_VTOTAL = 1125 then 1125 else 750) * 320 / 297

/-- A frame starts: in the power-on sequence after the init table, two of them black, then one with the emitter rails, then the panel is on; in the normal off
sequence two black ones after the rails are off. -/
def frameStart (s : State) (fault under : Nat) : State :=
  let s := (s.setDsp { s.dsp with frameAt := some s.cyc }).count (Fd.DSP_DIAG_V 8)
  let next := fun (s : State) => s.setDsp { s.dsp with frames := s.dsp.frames + 1 }
  match s.dsp.seq with
  | .starting _ =>
    if s.dsp.frames < 2 then next s
    else if s.dsp.frames = 2 then next (s.setDsp { s.dsp with lit := true })
    else
      let s := setPanel s .on
      frameShown (s.setDsp { s.dsp with onAt := s.cyc }) fault under
  | .on => next (ageGains (ageSample (frameShown s fault under)))
  | .stopping c false =>
    if !s.since c (140 * cycMs) then frameShown s fault under
    else if s.dsp.frames < 2 then next s
    else panelStart (setPanel s .off)
  | _ => s

/-- Video runs: after the init table, and until the end of a normal off. -/
def videoOn (s : State) : Bool := match s.dsp.seq with
  | .starting c => s.since c (16 * cycMs)
  | .on => true
  | .stopping _ fast => !fast
  | _ => false

/-- VIDEO_FRAME_START (R473, R478–R480): a frame starts, one frame time after the last (within a tick); `fault` fetches of the last frame have faulted on the
fabric and `under` lines were late. -/
def execVideoFrameStart (fault under : Byte) (s : State) : Out :=
  if videoOn s && s.dsp.frameAt.all (fun t => decide (t + framePeriod s ≤ s.cyc + 8000)) then .next (frameStart s fault.toNat under.toNat) else .next s

/-! ### The strip (R484–R491) -/

/-- T of a band in 0.1 ms (R485). -/
def stripT (s : State) (b : Nat) : Nat := clampN 5 80 (s.fld (Fd.BST_BAND_T b))

/-- Lower boundaries of bands 1 to 7, in 0.1 °C. -/
def stripBounds : List Int := [-200, -100, 0, 100, 250, 400, 600]

/-- The band of a temperature, with 2 °C of hysteresis on the way down. -/
def stripBand (old : Nat) (t : Int) : Nat :=
  let up := (stripBounds.filter (fun b => b ≤ t)).length
  let down := (stripBounds.filter (fun b => b - 20 ≤ t)).length
  if old < up then up else if down < old then down else old

/-- The band at the start of an update, from BST_TEMP. -/
def stripBandNow (s : State) : Nat := stripBand s.bst.band (s.reg Ra.BST_TEMP).toInt

/-- A segment's ledger. -/
def ledgerOf (l : SMap Int) (c g : Nat) : Int := smGet 0 l (c * 48 + g)

/-- Limit to a signed 16-bit number. -/
def led16 (x : Int) : Int := max (-32768) (min 32767 x)

/-- Drive opposite the ledger for min(|ledger|, T). -/
def ledBalance (t : Nat) (x : Int) : Int :=
  let d : Int := min (x.natAbs : Int) (t : Int)
  if 0 ≤ x then x - d else x + d

/-- An image's bit for common `c`, segment `g`. -/
def imgBit (img : List Word) (c g : Nat) : Bool := bit (img.getD (2 * c + g / 32) 0).toNat (g % 32)

/-- One phase on common `c`: 0 ERASE, 1 WRITE, 2 BALANCE (and further ones), for T at polarity `p`. -/
def stripPhase (r : StripRun) (p : Int) (l : SMap Int) (c ph : Nat) : SMap Int :=
  (List.range 48).foldl (fun l g =>
    let x := ledgerOf l c g
    let y := match ph with
      | 0 => x + p * r.t
      | 1 => if imgBit r.img c g then x + p * r.t else x
      | _ => if r.blank then (if ph = 2 then x + r.t else x - r.t) else ledBalance r.t x
    smPut 0 l (c * 48 + g) (led16 y)) l

/-- The phases of an update in order: common and phase. BALANCE runs twice where asked. -/
def stripPhases (r : StripRun) : List (Nat × Nat) :=
  (List.range 4).flatMap (fun c => (List.range (if r.twice || r.blank then 4 else 3)).map (fun ph => (c, ph)))

/-- P of a common: +1 when (update count + common) is even. -/
def stripPol (cnt c : Nat) : Int := if (cnt + c) % 2 = 0 then 1 else -1

/-- The ledgers after the first `n` phases of the running update. -/
def stripDrive (s : State) (r : StripRun) (n : Nat) : SMap Int :=
  ((stripPhases r).take n).foldl (fun l x => stripPhase r (stripPol (s.reg Ra.BST_CNT).toNat x.1) l x.1 x.2) s.bst.led

/-- Write the next of the two copies, with its commit flag last (R489). -/
def stripCommit (s : State) (img : List Word) : State :=
  let num := max ((s.bst.a.map (fun x => x.num)).getD 0) ((s.bst.b.map (fun x => x.num)).getD 0) + 1
  let c : StripCopy := { led := s.bst.led, img := img, cnt := (s.reg Ra.BST_CNT).toNat, num := num }
  s.setBst (if s.bst.nextB then { s.bst with b := some c, nextB := false } else { s.bst with a := some c, nextB := true })

/-- LEDGER_HIGH: a ledger exceeds ±2 000 units. -/
def ledgerHigh (l : SMap Int) : Bool := l.any (fun x => decide (2000 < x.2.natAbs))

/-- The shadow image. -/
def stripShadow (s : State) : List Word := (List.range 4).flatMap (fun c => [s.reg (Ra.BST_IMG_LO c), s.reg (Ra.BST_IMG_HI c) &&& 0xFFFF#32])

/-- A write of BST_UPD with GO (R486): not in OFF or STANDBY. -/
def stripGo (s : State) : State :=
  if s.mode < 2 then s
  else
    let s := if s.bst.pend.isSome then s.count Fd.BST_STAT_DISCARD else s
    (s.setBst { s.bst with pend := some (stripShadow s) }).setFlag Fd.BST_STAT_PENDING true

/-- STRIP_UPDATE_GO (R486). -/
def execStripUpdateGo (s : State) : Out := .next (stripGo s)

/-- Start an update of an image: count it, take T of the band, write a copy (R485, R488, R489). -/
def stripBegin (s : State) (img : List Word) (blank : Bool) : State :=
  let s := s.count ⟨Ra.BST_CNT, 0, 32⟩
  let b := stripBandNow s
  let r : StripRun := { img := img, t := stripT s b, at_ := s.cyc, twice := s.flag Fd.BST_STAT_LEDGER_HIGH, blank := blank }
  let s := s.setBst { s.bst with run := some r, last := some s.cyc, band := b, img := img }
  let s := (s.setFlag Fd.BST_STAT_BUSY true).setFld Fd.BST_STAT_BAND b
  let s := if 100000000 ≤ (s.reg Ra.BST_CNT).toNat ∧ s.flag Fd.BST_STAT_WORN = false then
      logEvent (s.setFlag Fd.BST_STAT_WORN true) Ev.stripWorn Src.unit (s.reg Ra.BST_CNT).toNat 0 else s
  stripCommit s img

/-- MIN_INT in cycles. -/
def stripMinInt (s : State) : Nat := clampN 100 60000 (s.fld Fd.BST_CFG_MIN_INT) * cycMs

/-- Cycles of `n` phases of length `t` (0.1 ms). -/
def phaseCyc (t n : Nat) : Nat := n * t * (cycMs / 10)

/-- `n` phases of a repair: each drives one common, in turn, opposite its ledgers (R490). -/
def repairDrive (t n : Nat) (l : SMap Int) : SMap Int := (List.range n).foldl (fun l i =>
  (List.range 48).foldl (fun l g => smPut 0 l (i % 4 * 48 + g) (ledBalance t (ledgerOf l (i % 4) g))) l) l

/-- The strip's work may start: not in OFF or STANDBY, and not from PF on. -/
def stripMay (s : State) : Bool := decide (2 ≤ s.mode) && s.pm.pf.isNone

/-- A repair that is over gives way to its image; a pending image starts after the running update and MIN_INT after the last start (R486, R490). -/
def stripStart (s : State) : State :=
  if s.bst.run.isSome || !stripMay s then s
  else match s.bst.rep with
    | some r =>
      if s.since r.at_ (phaseCyc r.t (4 * r.rounds)) then
        let led := repairDrive r.t (4 * r.rounds) s.bst.led
        let s := (s.setBst { s.bst with rep := none, led := led }).setFlag Fd.BST_STAT_LEDGER_HIGH (ledgerHigh led)
        let s := if s.flag Fd.BST_STAT_REPAIR then s.raise (Ra.BST_INT_AUX 3) 0 else s
        (stripBegin s r.img r.blank).setFlag Fd.BST_STAT_REPAIR false
      else s
    | none => match s.bst.pend with
      | some img =>
        let due := match s.bst.last with
          | some t => s.since t (stripMinInt s)
          | none => true
        if due then (stripBegin (s.setBst { s.bst with pend := none }) img false).setFlag Fd.BST_STAT_PENDING false else s
      | none => s

/-- STRIP_UPDATE_START (R486, R490). A tick boundary does the same on its own. -/
def execStripUpdateStart (s : State) : Out := .next (stripStart s)

/-- Every phase of the running update has run: the ledgers hold them, and a copy is written (R487, R489). -/
def stripEnd (s : State) : State := match s.bst.run with
  | some r =>
    let n := (stripPhases r).length
    if s.since r.at_ (phaseCyc r.t n) then
      let led := stripDrive s r n
      let shown := (List.range 4).foldl (fun m c => smPut none m c (some [r.img.getD (2 * c) 0, r.img.getD (2 * c + 1) 0])) s.bst.shown
      let s := s.setBst { s.bst with led := led, run := none, shown := shown }
      let s := (s.setFlag Fd.BST_STAT_BUSY false).setFlag Fd.BST_STAT_LEDGER_HIGH (ledgerHigh led)
      stripCommit (s.raise (Ra.BST_INT_AUX 0) 0) r.img
    else s
  | none => s

/-- STRIP_UPDATE_END (R487, R489). A tick boundary does the same on its own. -/
def execStripUpdateEnd (s : State) : Out := .next (stripEnd s)

/-- The strip at a tick boundary. -/
def stripTick (s : State) : State := stripStart (stripEnd s)

/-- At PF and at a full module reset the running phase of an update or a repair completes and later ones are cancelled (R489). -/
def stripInterrupt (s : State) : State :=
  let done := fun (t at_ : Nat) => (s.cyc - at_) / phaseCyc t 1 + 1
  match s.bst.run, s.bst.rep with
  | some r, _ =>
    let n := done r.t r.at_
    let did := (stripPhases r).take n
    let shown := (List.range 4).foldl (fun m c =>
      if did.contains (c, 1) then smPut none m c (some [r.img.getD (2 * c) 0, r.img.getD (2 * c + 1) 0])
      else if did.contains (c, 0) then smPut none m c (some [0, 0]) else m) s.bst.shown
    let s := s.setBst { s.bst with led := stripDrive s r n, run := none, shown := shown, cut := true }
    ((s.setFlag Fd.BST_STAT_BUSY false).count (Fd.BST_INT_AUX_V 6))
  | none, some r =>
    let s := s.setBst { s.bst with led := repairDrive r.t (min (4 * r.rounds) (done (max 1 r.t) r.at_)) s.bst.led, rep := none, cut := !r.blank }
    ((s.setFlag Fd.BST_STAT_BUSY false).setFlag Fd.BST_STAT_REPAIR false).count (Fd.BST_INT_AUX_V 6)
  | none, none => s

/-- The ledgers of an interruption are committed (R489). -/
def stripSave (s : State) : State := if s.bst.cut then stripCommit (s.setBst { s.bst with cut := false }) s.bst.img else s

/-- The newer committed copy. -/
def stripNewer (s : State) : Option StripCopy := match s.bst.a, s.bst.b with
  | some x, some y => some (if x.num < y.num then y else x)
  | some x, none => some x
  | none, y => y

/-- Repair rounds needed, at most `n`, until every ledger is within ±1. -/
def stripRounds (t : Nat) : Nat → SMap Int → Nat
  | 0, _ => 0
  | n + 1, l => if l.all (fun x => decide (x.2.natAbs ≤ 1)) then 0 else stripRounds t n (repairDrive t 4 l) + 1

/-- The strip at boot, after step 4 (R490, R491): repair from the newer copy, then its image; without a copy the ledgers are zeroed, the loss is
recorded and a blank image follows. -/
def stripBoot (s : State) : State := match stripNewer s with
  | some c =>
    let t := stripT s (stripBandNow s)
    let n := stripRounds t 16 c.led
    let s := (s.setReg Ra.BST_CNT (BitVec.ofNat 32 c.cnt)).setFlag Fd.BST_STAT_WORN (decide (100000000 ≤ c.cnt))
    let r : StripRep := { t := t, at_ := s.cyc, rounds := n, img := c.img }
    let s := s.setBst { s.bst with led := c.led, pend := none, run := none, rep := some r, rounds := n, img := c.img, cut := false }
    (s.setFlag Fd.BST_STAT_BUSY true).setFlag Fd.BST_STAT_REPAIR true
  | none =>
    let blank : List Word := [0, 0, 0, 0, 0, 0, 0, 0]
    let r : StripRep := { at_ := s.cyc, img := blank, blank := true }
    let s := s.setBst { s.bst with led := [], pend := none, run := none, rep := some r, rounds := 0, img := blank, cut := false }
    (logEvent (s.setFlag Fd.BST_STAT_LOST true) Ev.stripLedgerLost Src.unit 0 0).setFlag Fd.BST_STAT_BUSY true

end Sys2Proof.Machine
end

