-- ==== Sys2Proof/Machine/Gnss.lean ====
section
/-! DEFINITION. Satellite positioning (R227–R253): antennas, channels, time solutions, epoch results and their latches, corrections and base operation, aids,
moving-base neighbours, and the time pulse. -/

namespace Sys2Proof.Machine

/-! ### Antennas and channels (R227, R229) -/

/-- The state of an antenna supply of which `ma` mA are drawn (R227): below 3 mA open, above 120 mA short; a supply switched off has neither. -/
def antState (s : State) (a ma : Nat) : Nat :=
  if s.flag (Fd.GNS_ANT_CFG_BIAS a) = false then 0 else if ma < 3 then 1 else if 120 < ma then 2 else 0

/-- ANTENNA_FAULT (R227): antenna `a` draws `draw` mA of its supply, which delivers `ma` mA (it limits the current of a
short); a change into a fault is recorded. -/
def execAntennaFault (a : Fin 2) (draw ma : Half) (s : State) : Out :=
  let a := a.val
  let s := s.setFld (Fd.GNS_ANT_STAT_CUR a) ma.toNat
  let f := antState s a draw.toNat
  let old := s.fld (Fd.GNS_ANT_STAT_FAULT a)
  let s := s.setFld (Fd.GNS_ANT_STAT_FAULT a) f
  .next (if f ≠ 0 ∧ f ≠ old then logEvent s Ev.antFault Src.unit a f else s)

/-- Channel `k` tracks for ANT1: the allocation in force gives ANT1 the highest channels (R229). -/
def chanAnt1 (s : State) (k : Nat) : Bool := decide (192 ≤ k + s.gns.ant1Run)

/-- The correlator spacing of signal `sig` in 0.05 chip, for a code loop locked `lock` × 0.1 s at `cn0` dB-Hz (R230). -/
def corrSpacing (s : State) (sig lock cn0 : Nat) : Nat :=
  if lock < 20 then 20 else if cn0 < 35 then 10 else clampN 1 20 (s.fld (Fd.GNS_SIG_CFG_SPACING sig))

/-- What a channel's register shows of what it tracks (the layout is the model's own, log 4): [31:26] satellite, 0 none, [25:22] SIG, [21] ANT1, [20:16]
spacing, [14:9] C/N0, [8:0] lock time in 0.1 s. The measured word has the satellite's elevation in degrees in [21:15]; below MASK (at most 45), on a
signal that is off or not listed, or with the baseband off nothing is tracked (R228, R229). -/
def chanWord (s : State) (k w : Nat) : Nat :=
  let sig := bits w 22 4
  if !s.gns.started || !s.flag Fd.GNS_CTL_EN || bits w 26 6 == 0 || decide (9 < sig) || !s.flag (Fd.GNS_SIG_CFG_EN sig) ||
      decide (bits w 15 7 < min 45 (s.fld Fd.GNS_CTL_MASK)) then 0
  else bits w 22 10 * 2 ^ 22 + b2n (chanAnt1 s k) * 2 ^ 21 + corrSpacing s sig (bits w 0 9) (bits w 9 6) * 2 ^ 16 + bits w 0 15

/-- Channel `k` reports; USED counts the channels that track. -/
def chanShow (s : State) (k w : Nat) : State :=
  let new := chanWord s k w
  let old := (s.reg (Ra.GNS_CHAN k)).toNat
  let s := s.setReg (Ra.GNS_CHAN k) (BitVec.ofNat 32 new)
  s.setFld Fd.GNS_CH_ALLOC_USED (min 192 (s.fld Fd.GNS_CH_ALLOC_USED + b2n (new != 0) - b2n (old != 0)))

/-- A write of GNS_CH_ALLOC waits for the next 1 s boundary of DT (R229). -/
def allocWrite (s : State) (v : Word) : State :=
  let s := plainWrite s Ra.GNS_CH_ALLOC v
  s.setGns { s.gns with allocAt := some (nextSecond s) }

/-- The channels between two allocations of ANT1 drop their satellites (R229). -/
def chanRelease (s : State) (old new : Nat) : State :=
  ((List.range 96).filter (fun i => decide (min old new ≤ i ∧ i < max old new))).foldl (fun s i => chanShow s (191 - i) 0) s

/-- CH_ALLOC_APPLY (R229): DT has reached the second boundary after a write of ANT1. -/
def execChAllocApply (s : State) : Out := match s.gns.allocAt with
  | some t =>
    if t ≤ s.dtNs then
      let old := s.gns.ant1Run
      let new := min 96 (s.fld Fd.GNS_CH_ALLOC_ANT1)
      .next (chanRelease (s.setGns { s.gns with allocAt := none, ant1Run := new }) old new)
    else .next s
  | none => .next s

/-! ### Corrections (R240, R241) -/

/-- Correction age in 0.1 s, saturating at `top`. -/
def corrAge (s : State) (top : Nat) : Nat := match s.gns.corrCyc with
  | some t => min top ((s.clk.cyc - t) / (cycS / 10))
  | none => top

/-- Corrections are younger than MAXAGE, 1 to 255 s. -/
def corrFresh (s : State) : Bool := match s.gns.corrCyc with
  | some t => decide (s.clk.cyc - t ≤ max 1 (s.fld Fd.GNS_RTK_CFG_MAXAGE) * cycS)
  | none => false

/-- MODE; 3 acts as 0. -/
def rtkMode (s : State) : Nat := if s.fld Fd.GNS_RTK_CFG_MODE = 3 then 0 else s.fld Fd.GNS_RTK_CFG_MODE

/-- RTCM message types the input uses (R241): base data, MSM4 and MSM7, ephemerides. -/
def rtcmBase : List Nat := [1005, 1006, 1033, 1230]
def rtcmMsm : List Nat := [1074, 1077, 1084, 1087, 1094, 1097, 1124, 1127]
def rtcmEph : List Nat := [1019, 1020, 1042, 1046]

/-- RTCM_FRAME (R241): a frame of a message type, with the result of its CRC-24Q. -/
def execRtcmFrame (typ : Fin 4096) (crcOk : Bool) (s : State) : Out :=
  let t := typ.val
  if crcOk && (rtcmBase ++ rtcmMsm ++ rtcmEph).contains t then
    let g := { s.gns with rtcmUsed := smUpd 0 s.gns.rtcmUsed t (· + 1) }
    if rtcmMsm.contains t ∧ rtkMode s = 1 ∧ s.fld Fd.GNS_RTK_CFG_ABS_SRC = 0 then
      .next (s.setGns { g with corrCyc := some s.clk.cyc })
    else if rtcmEph.contains t then .next (s.setGns { g with aidsHeld := t :: g.aidsHeld.filter (· != t) })
    else .next (s.setGns g)
  else .next (s.setGns { s.gns with rtcmDrop := smUpd 0 s.gns.rtcmDrop t (· + 1) })

/-- The observations of the fleet base named in ABS_MOD are corrections too (R240). -/
def fleetCorr (s : State) (module : Nat) (baseFlag : Bool) : State :=
  if rtkMode s = 1 ∧ s.fld Fd.GNS_RTK_CFG_ABS_SRC = 1 ∧ s.fld Fd.GNS_RTK_CFG_ABS_MOD = module ∧ baseFlag = true then
    s.setGns { s.gns with corrCyc := some s.clk.cyc }
  else s

/-! ### Epochs (R231–R237) -/

/-- The baseband runs: started after boot step 8, and enabled. -/
def gnsRuns (s : State) : Bool := s.gns.started && s.flag Fd.GNS_CTL_EN

/-- An integrity check that passed, ephemerides for every satellite used, and at least 4 + C satellites of C constellations (R232). -/
def solutionOk (sats cons : Nat) (raim eph : Bool) : Bool := raim && eph && decide (4 + cons ≤ sats)

/-- TIME_SOLUTION (R40, R41, R232): at an epoch whose tick index is a multiple of 2 000, ANT0 gives GPS time in ns as its signals carried it to the
connector, with the estimated uncertainty in ns and what the solution rests on. DELAY of ANT0 is removed: the signals reach the connector that much later (DEDUCED, log 45). -/
def execTimeSolution (gps : Long) (sigma : Word) (basis : TimeBasis) (s : State) : Out :=
  if !gnsRuns s || s.liveTick % 2000 != 0 then .next s
  else if solutionOk basis.sats.toNat basis.cons.toNat basis.raim basis.eph && decide (sigma.toNat ≤ 100) then
    let e : Int := ((gps.toNat + s.fld (Fd.GNS_ANT_CFG_DELAY 0)) * 2 ^ 32 : Nat) - (s.clk.dtFp : Int)
    .next (timeSolution (s.setGns { s.gns with timeE := e / 2 ^ 32 }) e sigma.toNat)
  else .next (timeLost s)

/-- Ground speed of ANT0, m/s. -/
def antSpeed (ve vn : Word) : Word := (fsqrt (fAdd (fMul ve ve) (fMul vn vn))).val

/-- An angle in deg brought into 0 to 360 by one turn. -/
def wrap360 (x : Word) : Word := if flt x 0 then fAdd x 0x43B40000 else if fle 0x43B40000 x then fSub x 0x43B40000 else x

/-- The direction of the velocity, deg clockwise from north. -/
def velHeading (ve vn : Word) : Word :=
  if feq vn 0 then (if flt ve 0 then 0x43870000 else 0x42B40000)
  else if flt vn 0 then fAdd 0x43340000 (Config.atanDeg (fDiv ve vn))
  else wrap360 (Config.atanDeg (fDiv ve vn))

/-- The machine's heading from that of the antenna vector: less the azimuth of ANT1 in the machine frame (R237; the direction of the azimuth is
DEDUCED, log 45). -/
def vecHeading (s : State) (h : Word) : Word := wrap360 (fSub h (fOfRat (s.fld Fd.GNS_ATT_CFG_AZ) 100))

/-- The fix type reached under the RTK mode and the correction age (R240, R241). -/
def fixType (s : State) (solved : Nat) : Nat := max 1 (if rtkMode s = 1 ∧ corrFresh s = true then min 4 solved else min 1 solved)

/-- The attitude type (R237): no vector without ANT1; a fixed solution of the wrong length is reported as float; velocity-derived from
1.0 m/s. -/
def attType (s : State) (solved distMm : Nat) (speed : Word) : Nat :=
  let vec := s.gns.ant1Run != 0 && s.fld (Fd.GNS_ANT_STAT_FAULT 1) == 0
  if vec then
    if solved = 4 ∧ 30 < (distMm : Int) - s.fld Fd.GNS_ATT_CFG_DIST then 3
    else if solved = 4 ∧ 30 < (s.fld Fd.GNS_ATT_CFG_DIST : Int) - distMm then 3
    else if solved = 3 ∨ solved = 4 then solved
    else 0
  else if fle 0x3F800000 speed then 1 else 0

/-- A base operates: MODE is BASE and the position written stands (R242). -/
def baseUp (s : State) : Bool := rtkMode s == 2 && s.gns.baseOk

/-- A coordinate of the written base position in cm, from 0.1 mm, rounded to nearest. -/
def baseCm (s : State) (k : Nat) : Int := (sint 64 (s.reg64 (Ra.GNS_BASE (2 * k)) (Ra.GNS_BASE (2 * k + 1))) + 50) / 100

/-- The lever arm of a reference point in mm. -/
def leverMm (s : State) (i : Nat) : List Int :=
  [(s.reg (Ra.GNS_REFPT_X i)).toInt, (s.reg (Ra.GNS_REFPT_Y i)).toInt, (s.reg (Ra.GNS_REFPT_Z i)).toInt]

/-- The roll that fusion publishes. -/
def fusRoll (s : State) : Word := (s.pubAt (pubKey 3 5)).val

/-- The lever arm of reference point `i` east, north, up in mm under the attitude of the newest epoch. -/
def armEnu (s : State) (i k : Nat) : Int :=
  if leverMm s i = [0, 0, 0] then 0 else (Config.armEnu (leverMm s i) [s.gns.fix.head, s.gns.fix.pitch, fusRoll s] k).toInt

/-- MAXSAT, 8 to 32. -/
def maxSat (s : State) : Nat := clampN 8 32 (s.fld Fd.GNS_MB_CFG_MAXSAT)

/-- The base-state record of the newest epoch (R245), with the baseband's raw words `w` of that epoch. -/
def baseRecord (s : State) (w : List Word) : List Byte :=
  let n := fun (k : Nat) => (w.getD k 0).toNat
  let f := s.gns.fix
  let i := s.fld Fd.GNS_MB_CFG_ADV_REFPT
  let flags := f.fix + s.timeState * 16 + b2n f.attOk * 64 + b2n (baseUp s) * 128
  let pos := fun (k : Nat) (x : Int) => leBytes 4 (unsint 32 (if baseUp s then baseCm s k else x))
  let adv := fun (k : Nat) => leBytes 2 (if f.attOk then unsint 16 (armEnu s i k) else 0)
  leBytes 4 (n 17) ++ leBytes 2 (n 18) ++ leBytes 1 flags ++ leBytes 1 (min (maxSat s) (n 29)) ++ leBytes 4 (n 19) ++
    pos 0 f.x ++ pos 1 f.y ++ pos 2 f.z ++ (List.range 6).flatMap (fun k => leBytes 2 (n (23 + k))) ++
    leBytes 2 (unsint 16 (fRound f.head 100 1)) ++ leBytes 2 (unsint 16 (fRound f.pitch 100 1)) ++ adv 0 ++ adv 1 ++ adv 2 ++ leBytes 2 0

/-- The own solution lies more than 0.5 m from the written position. -/
def baseOff (s : State) : Bool :=
  let d := fun (k : Nat) (x : Int) => (x - baseCm s k) * (x - baseCm s k)
  s.gns.fix.valid && decide (2500 < d 0 s.gns.fix.x + d 1 s.gns.fix.y + d 2 s.gns.fix.z)

/-- A base has moved (R242): the ground speed has exceeded 0.5 km/h for 2 s, or the own solution differs from the written position by more than
0.5 m. `off`: DTB cycles into the tick. -/
def baseCheck (s : State) (off : Nat) : State :=
  let moving := match s.gns.movSince with
    | some t => decide (t + 2 * cycS ≤ s.clk.cyc + off)
    | none => false
  if baseUp s && (moving || baseOff s) then (s.setGns { s.gns with baseOk := false }).setFlag Fd.GNS_RTK_STAT_BASE_MOVED true else s

/-- An aid is taken where its uncertainty is smaller: time in µs, position in m (R238). -/
def aidTake (s : State) (isPos : Bool) (unc : Nat) : State :=
  if isPos then
    match s.gns.aidPos with
    | some (u, _) => if unc < u then s.setGns { s.gns with aidPos := some (unc, s.clk.cyc) } else s
    | none => s.setGns { s.gns with aidPos := some (unc, s.clk.cyc) }
  else noteTimeAid s unc

/-- The results of an epoch: ANT0 position, velocity and attitude under the rules for their validity. -/
def gnsFix (s : State) (w : List Word) : GnssFix :=
  let v := fun (k : Nat) => w.getD k 0
  let n := fun (k : Nat) => (v k).toNat
  let at_ := attType s (n 12) (n 13) (antSpeed (v 6) (v 7))
  let ok := !w.isEmpty && solutionOk (n 5) (bits (n 16) 8 8) (bit (n 16) 0) (bit (n 16) 1)
  let att := !w.isEmpty && at_ != 0
  { epoch := s.liveTick, lat := (v 0).toInt, lon := (v 1).toInt, hgt := (v 2).toInt,
    fix := if ok then fixType s (n 3) else 0, unc := min 4095 (n 4), sats := min 255 (n 5),
    ve := v 6, vn := v 7, vu := v 8,
    head := if at_ = 1 then velHeading (v 6) (v 7) else vecHeading s (v 9), pitch := v 10, hunc := v 11,
    att := BitVec.ofNat 32 ((if att then at_ else 0) * 2 ^ 28 + min 4095 (n 13 / 10) * 2 ^ 16 + min 255 (n 14) * 2 ^ 8),
    valid := ok, attOk := att, pitchOk := att && at_ != 1,
    x := (v 20).toInt, y := (v 21).toInt, z := (v 22).toInt }

/-- Ground speed above 0.5 km/h, in m/s. -/
def moving (f : GnssFix) : Bool := f.valid && flt 0x3E0E38E4 (antSpeed f.ve f.vn)

/-- An epoch's solution as the baseband forms it, none where the list is empty. Words: 0 latitude, 1 longitude, 2 height, 3 fix type solved, 4 uncertainty
in cm, 5 satellites, 6–8 velocity east, north, up, 9 heading and 10 pitch of the antenna vector, 11 heading uncertainty, 12 attitude type solved, 13
measured distance in mm, 14 common satellites, 16 flags ([0] integrity check passes, [1] every ephemeris held, [15:8] constellations), 17 TOW in ms, 18 GPS
week, 19 CLK in ns, 20–22 ECEF position in cm, 23–25 ECEF velocity, 26–28 acceleration, 29 satellites observed. The last two observations of each kind stay
for the member slot (R244). -/
def gnsEpoch (s : State) (w : List Word) : State :=
  if !gnsRuns s then s
  else
    let s := s.gns.aidPend.foldl (fun s x => aidTake s x.1 x.2) (s.setGns { s.gns with aidPend := [] })
    let f := gnsFix s w
    let first := s.gns.acquiring && f.valid
    let s := s.setGns { s.gns with
      fix := f, acquiring := s.gns.acquiring && !f.valid,
      ttff := if first then some ((s.clk.cyc - s.gns.startCyc) / cycMs) else s.gns.ttff,
      movSince := if moving f then some (s.gns.movSince.getD s.clk.cyc) else none }
    let s := (s.setFld Fd.GNS_RTK_STAT_FIX f.fix).setFld Fd.GNS_RTK_STAT_AGE (corrAge s 65535)
    let s := baseCheck (s.count (Fd.GNS_STATS_V f.fix)) 0
    if w.isEmpty then s else s.setGns { s.gns with obs := ((s.dtNs, baseRecord s w) :: s.gns.obs).take 4 }

/-- The key of a quantity of route class 0x7. -/
def gnsKey (group q : Nat) : Nat := pubKey 7 (group * 256 + q)

/-- CODE of a class 0x7 latch whose port last saw the DT step `seen` (R235). -/
def gnsCode (s : State) (seen : Nat) : Nat :=
  if seen ≠ s.clk.stepSeq then Code.step else if s.timeState = tHoldover then Code.holdover else Code.ok

/-- Reference point `i` is latched (R234, R236). -/
def refPointLatch (s : State) (code i : Nat) : State :=
  let f := s.gns.fix
  let zero := decide (leverMm s i = [0, 0, 0])
  let arm := fun (k : Nat) => if zero then (0 : Int) else (Config.leverArm (leverMm s i) [f.head, f.pitch, fusRoll s] f.lat k).toInt
  let ok := f.valid && (zero || f.attOk)
  let fixw := f.fix * 2 ^ 28 + f.unc * 2 ^ 16 + f.sats * 2 ^ 8 + corrAge s 255
  let l := [wordOfInt (f.lat + arm 0), wordOfInt (f.lon + arm 1), wordOfInt (f.hgt + arm 2), BitVec.ofNat 32 fixw, f.ve, f.vn, f.vu,
    BitVec.ofNat 32 f.epoch]
  s.forN 8 (fun s q => latchNow s (gnsKey i q) (l.getD q 0) ok code)

/-- EXTRAP_MAX in ticks, 50 to 1 000 ms. -/
def extrapMax (s : State) : Nat := clampN 50 1000 (s.fld Fd.GNS_MB_CFG_EXTRAP_MAX) * 20

/-- The current baseline to neighbour `k` is latched at e + 100 (R247). -/
def currentLatch (s : State) (code k : Nat) : State :=
  let nb := smGet {} s.gns.nb k
  match nb.best with
  | none => s
  | some b =>
    let f := s.gns.fix
    let iv := f.epoch - b.epoch
    let ok := s.flag (Fd.GNS_MB_NB_CFG_EN k) && !nb.left && b.ok && decide (iv ≤ extrapMax s)
    let w := fun (i : Nat) => Config.baseForward [b.e, b.n, b.u] b.mv [f.ve, f.vn, f.vu] (iv / 20) i
    let st := b.fix * 2 ^ 28 + min 4095 b.unc * 2 ^ 16 + min 255 b.sats * 2 ^ 8 + min 255 (iv / 40)
    let s := s.forN 3 (fun s q => latchNow s (gnsKey (8 + k) q) (w q) ok code)
    latchNow s (gnsKey (8 + k) 3) (BitVec.ofNat 32 st) ok code

/-- The results of epoch e are latched at tick e + 100 (R231). -/
def gnsLatch (s : State) : State :=
  let f := s.gns.fix
  if !gnsRuns s || decide (s.liveTick ≠ f.epoch + 100) then s
  else
    let code := gnsCode s s.gns.stepSeen
    let s := s.forN 4 (fun s i => refPointLatch s code i)
    let s := latchNow (latchNow s (gnsKey 4 0) f.head f.attOk code) (gnsKey 4 1) f.pitch f.pitchOk code
    let s := latchNow (latchNow s (gnsKey 4 2) f.hunc f.attOk code) (gnsKey 4 3) f.att f.attOk code
    let s := latchNow s (gnsKey 5 0) (BitVec.ofNat 32 s.timeState) true code
    let s := latchNow (latchNow s (gnsKey 5 1) (s.reg Ra.CLK_TIME_UNC) true code) (gnsKey 5 2) (BitVec.ofNat 32 f.sats) f.valid code
    let s := s.forN 8 (fun s k => currentLatch s code k)
    s.setGns { s.gns with stepSeen := s.clk.stepSeq }

/-! ### Aids (R238, R239) -/

/-- An aid written by an application core: while the baseband acquires, it is taken at the next epoch (R239). -/
def aidWrite (s : State) (isPos : Bool) (unc : Nat) : State :=
  if s.gns.acquiring && gnsRuns s then s.setGns { s.gns with aidPend := s.gns.aidPend ++ [(isPos, unc)] } else aidTake s isPos unc

/-- The uncertainty of the saved position: 10 km, and 100 m for each hour since its saving (R238), as far as the DTB count tells. -/
def savedUnc (s : State) : Option Nat := s.gns.mramPos.map (fun x => 10000 + (s.clk.cyc - x.2) / (3600 * cycS) * 100)

/-- The smallest uncertainty, in m, of the positions held. -/
def posUnc (s : State) : Option Nat := match s.gns.aidPos, savedUnc s with
  | some a, some b => some (min a.1 b)
  | some a, none => some a.1
  | none, b => b

/-- AID_WRITE (R239): GNS_AID_TIME or GNS_AID_POS is written with its uncertainty (µs or m). -/
def execAidWrite (isPos : Bool) (unc : Word) (s : State) : Out := .next (aidWrite s isPos unc.toNat)

/-- The start class by the aids held: 0 hot, 1 warm, 2 cold; `eph` visible satellites have ephemerides, `alm` an almanac is held. -/
def startClass (s : State) (eph : Nat) (alm : Bool) : Nat :=
  let t := if s.timeState = tLocked ∨ s.timeState = tHoldover then some ((s.reg Ra.CLK_TIME_UNC).toNat / 1000) else s.gns.aidTime.map (·.1)
  let within := fun (a b : Nat) => (match t with
    | some u => decide (u ≤ a)
    | none => false) && (match posUnc s with
    | some u => decide (u ≤ b)
    | none => false)
  if within 2000000 10000 && decide (6 ≤ eph) then 0 else if within 600000000 100000 && alm then 1 else 2

/-- Acquisition starts anew with the aids held. -/
def gnsRestart (s : State) (eph : Nat) (alm : Bool) : State :=
  s.setGns { s.gns with acquiring := true, startCls := startClass s eph alm, fix := {}, startCyc := s.clk.cyc, ttff := none }

/-- A start that no command describes: what ephemerides and almanac are held is a free value (log 45). -/
def gnsStart (s : State) : State :=
  let x := s.fresh
  gnsRestart x.2 (x.1.toNat % 64) (bit x.1.toNat 6)

/-- GNSS_RESTART (R239): GNS_CTL.RESTART is written. -/
def execGnssRestart (eph : Fin 64) (alm : Bool) (s : State) : Out := .next (gnsRestart s eph alm)

/-! ### Base operation (R242) -/

/-- BASE_MOVED (R242), `off` DTB cycles into the tick. An epoch checks the same on its own. -/
def execBaseMoved (off : Fin 8192) (s : State) : Out := .next (baseCheck s off)

/-- A write of a word of GNS_BASE; the last word completes the position. -/
def baseWrite (s : State) (k : Nat) (v : Word) : State :=
  let s := plainWrite s (Ra.GNS_BASE k) v
  if k = 5 then (s.setGns { s.gns with baseOk := true }).setFlag Fd.GNS_RTK_STAT_BASE_MOVED false else s

/-- BASE_POSITION_WRITE (R242): GNS_BASE_X, Y and Z (ECEF, 0.1 mm) are written. -/
def execBasePositionWrite (x y z : Long) (s : State) : Out :=
  let w := fun (v : Long) (h : Nat) => BitVec.ofNat 32 (v.toNat / 2 ^ (32 * h))
  let s := baseWrite (baseWrite s 0 (w x 0)) 1 (w x 1)
  let s := baseWrite (baseWrite s 2 (w y 0)) 3 (w y 1)
  .next (baseWrite (baseWrite s 4 (w z 0)) 5 (w z 1))

/-! ### Moving base (R246–R249) -/

/-- A write of GNS_MB_NB[k]_CFG (R248): the module's own number, or one another neighbour holds, gives BAD_ARGUMENT and leaves EN clear. -/
def nbWrite (s : State) (k : Nat) (v : Word) : State :=
  let m := bits v.toNat 0 6
  let bad := bit v.toNat 31 && ((s.fld Fd.FLR_STAT_STATE != 0 && s.fld Fd.FLR_STAT_MODNUM == m) ||
    (List.range 8).any (fun j => j != k && s.flag (Fd.GNS_MB_NB_CFG_EN j) && s.fld (Fd.GNS_MB_NB_CFG_MODULE j) == m))
  let s := plainWrite s (Ra.GNS_MB_NB_CFG k) (if bad then v &&& 0x7FFFFFFF#32 else v)
  let s := s.setGns { s.gns with nb := smPut {} s.gns.nb k {} }
  s.setFld (Fd.GNS_MB_NB_STAT_CODE k) (if bad then Code.badArgument else Code.ok)

/-- NEIGHBOUR_CONFIG (R248): GNS_MB_NB[k]_CFG is rewritten. -/
def execNeighbourConfig (k : Fin 8) (en : Bool) (module : Fin 64) (s : State) : Out :=
  .next (nbWrite s k (BitVec.ofNat 32 (b2n en * 2 ^ 31 + module)))

/-- The latch tick of a matched baseline: the first boundary at least 5 ms after the end of its slot. -/
def matchTick (slotEnd : Nat) : Nat := (slotEnd + 5000000 + 49999) / 50000

/-- A signed 16-bit field of a base-state record. -/
def recS16 (r : List Byte) (o : Nat) : Int := sint 16 (leNat ((r.drop o).take 2))

/-- The matched baseline of a neighbour's record and the vector solved from ANT0 to its ANT0: from OWN_REFPT to its advertised point (R246). Without an
attitude the own end is known only at a zero lever arm (R236; DEDUCED, log 45). -/
def matched (s : State) (r : List Byte) (epoch slotEnd : Nat) (sol : List Word) : Baseline :=
  let w := fun (i : Nat) => sol.getD i 0
  let own := s.fld Fd.GNS_MB_CFG_OWN_REFPT
  let comp := fun (i : Nat) => fSub (fAdd (w i) (fOfRat (recS16 r (0x28 + 2 * i)) 1000)) (fOfRat (armEnu s own i) 1000)
  { tow := leNat (r.take 4), epoch := epoch, e := comp 0, n := comp 1, u := comp 2, ve := w 3, vn := w 4, fix := (w 5).toNat % 16, unc := (w 6).toNat,
    sats := (w 7).toNat, latch := matchTick slotEnd, mv := (List.range 6).map (fun i => fOfRat (recS16 r (0x18 + 2 * i)) 1000),
    ok := s.gns.fix.attOk || decide (leverMm s own = [0, 0, 0]) }

/-- NEIGHBOUR_EPOCH (R246): neighbour `k`'s epoch is received: its base-state record, its epoch tick, the own clock offset in ns, the end of the slot in
DT, and what the double differences give: `vec` the vector from ANT0 to its ANT0 east, north, up and the relative velocity east and north, `sol` the fix
type, the uncertainty in cm, the common satellites. A valid record is a position aid of 2 km (R238). -/
def execNeighbourEpoch (k : Fin 8) (rec : List Byte) (epoch : Long) (own : Word) (slotEnd : Long) (vec sol : List Word) (s : State) : Out :=
  let k := k.val
  let nb := smGet {} s.gns.nb k
  let tow := leNat (rec.take 4)
  if !s.flag (Fd.GNS_MB_NB_CFG_EN k) || nb.tows.contains tow then .next s
  else
    let s := aidTake s true 2000
    if 1000000 < (sint 32 (leNat ((rec.drop 8).take 4))).natAbs ∨ 1000000 < own.toInt.natAbs then .next (s.count (Fd.GNS_MB_NB_STAT_REJ k))
    else
      let b := matched s rec epoch.toNat slotEnd.toNat (vec ++ sol)
      let w := match nb.wait with
        | some x => if b.epoch < x.epoch then x else b
        | none => b
      let s := if nb.left then s.setFld (Fd.GNS_MB_NB_STAT_CODE k) Code.ok else s
      .next (s.setGns { s.gns with
        nb := smPut {} s.gns.nb k { nb with wait := some w, amb := b.fix == 4, left := false, tows := (tow :: nb.tows).take 8 } })

/-- A matched baseline whose latch tick has come (R246). -/
def matchedLatch (s : State) (k : Nat) : State :=
  let nb := smGet {} s.gns.nb k
  match nb.wait with
  | none => s
  | some b =>
    if s.liveTick < b.latch then s
    else
      let s := s.setGns { s.gns with nb := smPut {} s.gns.nb k { nb with wait := none, best := some b } }
      let s := s.setFld (Fd.GNS_MB_NB_STAT_FIX k) b.fix
      let st := b.fix * 2 ^ 28 + min 4095 b.unc * 2 ^ 16 + min 255 b.sats * 2 ^ 8
      let l := [b.e, b.n, b.u, BitVec.ofNat 32 st, b.ve, b.vn, BitVec.ofNat 32 b.epoch]
      let code := gnsCode s (smGet 0 s.gns.steps k)
      let s := s.forN 7 (fun s i => latchNow s (gnsKey (8 + k) (4 + i)) (l.getD i 0) b.ok code)
      s.setGns { s.gns with steps := smPut 0 s.gns.steps k s.clk.stepSeq }

/-- A module has left the domain (R248): both baselines are latched with VALID clear and CODE shows DEPARTED. -/
def nbDeparted (s : State) (module : Nat) : State := s.forN 8 (fun s k =>
  if s.flag (Fd.GNS_MB_NB_CFG_EN k) && s.fld (Fd.GNS_MB_NB_CFG_MODULE k) == module then
    let s := s.setGns { s.gns with nb := smPut {} s.gns.nb k { smGet {} s.gns.nb k with left := true, wait := none } }
    let s := s.forN 11 (fun s q => latchNext s (gnsKey (8 + k) q) (s.pubAt (gnsKey (8 + k) q)).val false)
    s.setFld (Fd.GNS_MB_NB_STAT_CODE k) Code.departed
  else s)

/-! ### Time pulse (R250–R252) -/

/-- The mode lets edges leave (R251). -/
def ppsAllowed (s : State) : Bool := match s.fld Fd.GNS_PPS_CFG_MODE with
  | 0 => false
  | 1 => s.timeState == tLocked
  | 2 => s.timeState == tLocked || (s.timeState == tHoldover && !s.flag Fd.CLK_TIME_STAT_HOLD_LIM)
  | _ => true

/-- The emission instant of the boundary `b`: B − DELAY. -/
def ppsInstant (s : State) (b : Nat) : Int := (b : Int) - sint 16 (s.fld Fd.GNS_PPS_CFG_DELAY)

/-- The emission instant of boundary `b` is met: the edge leaves where the mode allows it, and a pulse of WIDTH ms starts (R250–R252). -/
def ppsEmit (s : State) (b : Nat) : State :=
  let s := s.setGns { s.gns with ppsFrom := (ppsInstant s b + 1).toNat }
  if ppsAllowed s then
    let code := if s.gns.ppsStep ≠ s.clk.stepSeq then Code.step else if s.timeState = tHoldover then Code.holdover else Code.ok
    let s := s.setReg64 Ra.GNS_PPS_B_LO Ra.GNS_PPS_B_HI b
    let s := (s.setFld Fd.GNS_PPS_STAT_CODE code).setFlag Fd.GNS_PPS_STAT_ACTIVE true
    let s := s.count (Fd.GNS_PPS_EDGES_V 0)
    s.setGns { s.gns with ppsStep := s.clk.stepSeq, ppsEnd := s.clk.cyc + clampN 1 500 (s.fld Fd.GNS_PPS_CFG_WIDTH) * cycMs }
  else s.count (Fd.GNS_PPS_EDGES_V 1)

/-- The level of PPS_OUT: high in a pulse with POL 0, low in it with POL 1. -/
def ppsPin (s : State) : Bool := decide (s.clk.cyc < s.gns.ppsEnd) != s.flag Fd.GNS_PPS_CFG_POL

/-- The tick boundary: an instant that DT has reached since the last one is met; one that a step passed over is not (R252). ACTIVE clears where the mode
allows no edge. -/
def ppsTick (s : State) : State :=
  let b := ((s.dtNs : Int) + sint 16 (s.fld Fd.GNS_PPS_CFG_DELAY)).toNat / 10 ^ 9 * 10 ^ 9
  let s := if (s.gns.ppsFrom : Int) ≤ ppsInstant s b ∧ ppsInstant s b ≤ s.dtNs then ppsEmit s b else s
  let s := if ppsAllowed s then s else s.setFlag Fd.GNS_PPS_STAT_ACTIVE false
  s.setGns { s.gns with ppsFrom := max s.gns.ppsFrom (s.dtNs + 1) }

/-- PPS_EDGE (R250–R252): DT reaches B − DELAY for the second boundary `b` within the present tick interval. -/
def execPpsEdge (b : Long) (s : State) : Out :=
  let at_ := ppsInstant s b.toNat
  if b.toNat % 10 ^ 9 = 0 ∧ (s.gns.ppsFrom : Int) ≤ at_ ∧ at_ < s.dtNs + 50010 then .next (ppsEmit s b.toNat) else .next s

/-- The baseband at a tick boundary: matched baselines and the time pulse. -/
def gnsTick (s : State) : State := ppsTick (s.forN 8 matchedLatch)

end Sys2Proof.Machine
end

