-- ==== Sys2Proof/Machine/Gwen.lean ====
section
/-! DEFINITION. Gweny: what every instruction shares (R76–R98, R120–R122): the running sample, fetch, the Prism unit's completion,
cycle accounting, traps and the end of a sample. A Gweny command is the instruction that unit `u` executes next in its
running sample; without a running sample it has no effect. -/

namespace Sys2Proof.Machine

/-! ### Units and contexts -/

/-- The Mirror pair's unit number; CE0–CE7 are 0–7, the fusion sequencer 8. -/
abbrev mirrorUnit : Nat := 9
/-- Context loop numbers of the fusion tasks (128 + task) and of the Mirror pair. -/
abbrev fusLoop : Nat := 128
abbrev mirrorLoop : Nat := 192

/-- The initiator identifier of a unit (R26). -/
def unitSrc (u : Nat) : Nat := if u < 8 then Src.ce0 + u else if u = mirrorUnit then Src.mirror else Src.fusion

/-- The running sample of a unit. -/
def State.ctx (s : State) (u : Nat) : Option GwCtx := smGet none s.gw.ctx u

/-- Replace the running sample of a unit. -/
def State.setCtx (s : State) (u : Nat) (c : Option GwCtx) : State := s.setGw { s.gw with ctx := smPut none s.gw.ctx u c }

/-- Scalar register: g0 reads 0 (R80). -/
def GwCtx.gr (c : GwCtx) (r : Nat) : Word := if r = 0 then 0 else smGet 0 c.g r

/-- Write a scalar register: a write to g0 is discarded (R80). -/
def GwCtx.setG (c : GwCtx) (r : Nat) (w : Word) : GwCtx := if r = 0 then c else { c with g := smPut 0 c.g r w }

/-- Lane `i` of vector register `r`. -/
def GwCtx.lane (c : GwCtx) (r i : Nat) : Word := smGet 0 c.v (64 * r + i)

/-- The 64 lanes of a vector register. -/
def GwCtx.vr (c : GwCtx) (r : Nat) : List Word := (List.range 64).map (c.lane r)

/-- Write one lane. -/
def GwCtx.setLane (c : GwCtx) (r i : Nat) (w : Word) : GwCtx := { c with v := smPut 0 c.v (64 * r + i) w }

/-- Write the lanes of a vector register from lane `i` upward. -/
def GwCtx.setLanes (c : GwCtx) (r : Nat) : Nat → List Word → GwCtx
  | _, [] => c
  | i, w :: l => (c.setLane r i w).setLanes r (i + 1) l

/-- Write all 64 lanes. -/
def GwCtx.setV (c : GwCtx) (r : Nat) (l : List Word) : GwCtx := c.setLanes r 0 (padTo 0 64 l)

/-- OR sticky flags into the flags CSR. -/
def GwCtx.orFlags (c : GwCtx) (fl : Nat) : GwCtx := { c with flags := c.flags ||| BitVec.ofNat 32 fl }

/-- Replace the bits of `mask` in the flags CSR. -/
def GwCtx.setFlags (c : GwCtx) (mask v : Nat) : GwCtx :=
  { c with flags := (c.flags &&& ~~~(BitVec.ofNat 32 mask)) ||| (BitVec.ofNat 32 v &&& BitVec.ofNat 32 mask) }

/-- Flag bit `i`. -/
def GwCtx.flagBit (c : GwCtx) (i : Nat) : Bool := bit c.flags.toNat i

/-! ### Tile memory (R87–R89) -/

/-- A local address lies in the loop's window for `n` bytes. -/
def GwCtx.inTile (c : GwCtx) (a n : Nat) : Bool := decide (a + n ≤ c.size)

/-- The words at a tile address. -/
def tileWords (s : State) (c : GwCtx) (a n : Nat) : List Word := s.wordsAt (c.base + a) n

/-- The word at a tile address. -/
def tileWord (s : State) (c : GwCtx) (a : Nat) : Word := s.wordAt (c.base + a)

/-! ### The Prism unit at work (R105–R107) -/

/-- The rounded products of a chunk of 64 columns, a missing column contributing +0 (R105). -/
def chunkProducts : Nat → List Word → List Word → Nat → List Word × Nat
  | 0, _, _, fl => ([], fl)
  | n + 1, a :: as, x :: xs, fl =>
    let p := fmul a x
    let (l, fl) := chunkProducts n as xs (fl ||| p.fl)
    (p.val :: l, fl)
  | n + 1, _, _, fl => (List.replicate (n + 1) 0, fl)

/-- The row sum: chunk 0, then each further chunk added in order (R105). `fuel` bounds the number of chunks. -/
def rowSum : Nat → List Word → List Word → Option Word → Nat → Word × Nat
  | 0, _, _, acc, fl => (acc.getD 0, fl)
  | n + 1, a, x, acc, fl =>
    let (p, fl) := chunkProducts 64 a x fl
    let t := laneTree p fl
    match acc with
    | none => rowSum n (a.drop 64) (x.drop 64) (some t.val) t.fl
    | some w =>
      let z := fadd w t.val
      rowSum n (a.drop 64) (x.drop 64) (some z.val) (t.fl ||| z.fl)

/-- Cycles the unit spends on one row. -/
def Prism.chunks (p : Prism) : Nat := (p.cols + 63) / 64

/-- Element `r` of y, with row `r` of A as tile memory holds it now (R105). -/
def prismRow (s : State) (c : GwCtx) (p : Prism) (r : Nat) : FRes :=
  let (w, fl) := rowSum p.chunks (tileWords s c (p.a + r * p.stride) p.cols) p.x none 0
  match p.b with
  | none => ⟨w, fl⟩
  | some (minus, b) =>
    let z := if minus then fsub (b.getD r 0) w else fadd (b.getD r 0) w
    ⟨z.val, fl ||| z.fl⟩

/-- The unit reads A row by row (R106): the rows below `n` that are not yet formed are read now. -/
def prismRead (s : State) (c : GwCtx) (n : Nat) (p : Prism) : Prism :=
  (List.range (min n p.rows - p.y.length)).foldl (fun (p : Prism) _ =>
    let r := prismRow s c p p.y.length
    { p with y := p.y ++ [r.val], flags := p.flags ||| BitVec.ofNat 32 (r.fl &&& 0x680) }) p

/-- The rows read by cycle `t`: the setup takes 12 cycles, and a row one for each chunk (R106). -/
def Prism.rowsBy (p : Prism) (t : Nat) : Nat := p.rows - (p.doneAt - t + p.chunks - 1) / max 1 p.chunks

/-- The Prism unit completes: it writes all of y and ORs its flags. -/
def prismDone (s : State) (c : GwCtx) (p : Prism) : State × GwCtx :=
  let p := prismRead s c p.rows p
  let c := { c with prism := none }.orFlags p.flags.toNat
  match p.yAddr with
  | some a => (s.setWords (c.base + a) p.y, c)
  | none => (s, c.setV p.yv p.y)

/-- The unit at the present cycle: it completes where its cycle has come, else it has read the rows whose cycles have passed. -/
def prismAuto (s : State) (c : GwCtx) : State × GwCtx := match c.prism with
  | some p => if p.doneAt ≤ c.cyc then prismDone s c p else (s, { c with prism := some (prismRead s c (p.rowsBy c.cyc) p) })
  | none => (s, c)

/-- Wait for a running Prism operation: the wait counts against the budget (R107). -/
def prismWait (s : State) (c : GwCtx) : State × GwCtx := match c.prism with
  | some p =>
    let w := p.doneAt - c.cyc
    prismDone s { c with cyc := c.cyc + w, budget := c.budget - w } p
  | none => (s, c)

/-- The local bytes [a, a + n) touch a range the running descriptor uses. -/
def prismTouches (c : GwCtx) (a n : Nat) : Bool := match c.prism with
  | some p => p.ranges.any (fun r => decide (a < r.1 + r.2) && decide (r.1 < a + n))
  | none => false

/-- A vector register is used by the running descriptor. -/
def prismUsesV (c : GwCtx) (r : Nat) : Bool := match c.prism with
  | some p => p.vregs.contains r
  | none => false

/-! ### Traps and the end of a sample (R79, R96, R120–R122) -/

/-- The sample of unit `u` is over: the next due sample starts. -/
def nextSample (s : State) (u : Nat) : State := match smGet [] s.gw.due u with
  | [] => s.setCtx u none
  | c :: r => (s.setGw { s.gw with due := smPut [] s.gw.due u r }).setCtx u (some c)

/-- Count consecutive samples of a loop that ended in a trap (R129). -/
def countTrapRun (s : State) (loop : Nat) (trapped : Bool) : State :=
  s.setCe { s.ce with trapRun := smPut 0 s.ce.trapRun loop (if trapped then smGet 0 s.ce.trapRun loop + 1 else 0) }

/-- The published quantities of a fusion task: 0 EGO, 1 CROP, 2 TRACK (R291). -/
def fusKeys (task : Nat) : List Nat :=
  let g := fun (k : Nat) => (List.range 10).map (fun q => pubKey 3 (k * 64 + q))
  if task = 0 then g 0 ++ g 1 ++ g 2 ++ g 3 ++ g 4 ++ [pubKey 3 512]
  else if task = 1 then g 5 ++ g 6 ++ [pubKey 3 513, pubKey 3 514]
  else if task = 2 then g 7 ++ [pubKey 3 515]
  else []

/-- Stage a task's previous values with VALID clear for a tick (R289). -/
def fusInvalid (s : State) (task tick : Nat) : State :=
  (fusKeys task).foldl (fun s k =>
    let v := s.pubAt k
    if v.tick.isSome then { s with stage := s.stage ++ [{ tick := tick, key := k, v := { v with valid := false } }] } else s) s

/-- A fusion task stops at its trap limit: it stays stopped until the next full module reset (R289, FUS_TASK_STOP). -/
def fusTaskStop (s : State) (task cause : Nat) : State :=
  let s := s.setFld (Fd.FUS_TASK_STOP_V task) 1
  let s := s.setFld Fd.FUS_STAT_RUN (setBits (s.fld Fd.FUS_STAT_RUN) (3 - task) 1 0)
  logEvent s Ev.fusTaskStop Src.fusion task cause

/-- What a trap without a vector, or a second one in the handler, does, by unit: a loop or a fusion task stops as a double fault (R121), a loop with
its stop actions from the sample's publishing tick (R140) and its queued DMA cancelled as under DISABLE; a trap in the Mirror pair is a lock-out
(R447). -/
def doubleFault (s : State) (u : Nat) (c : GwCtx) : State :=
  if u = mirrorUnit then lockOut s 13 (c.cause.toNat % 16)
  else if fusLoop ≤ c.loop then fusTaskStop (countTrapRun s c.loop true) (c.loop - fusLoop) c.cause.toNat
  else dmaCancelLoop (stopLoop (countTrapRun s c.loop true) c.loop 2 (c.tick + c.period)) c.loop

/-- Count a trap in the slot's status and write the TRAP event (R121 step 2). -/
def trapRecord (s : State) (u : Nat) (c : GwCtx) : State :=
  let s := if u < 8 then
      match s.slotOf c.loop with
      | some (e, i) => (s.count (Fd.CE_SLOT_STATUS_TRAPS e i)).setFld (Fd.CE_SLOT_STATUS_LAST_CAUSE e i) c.cause.toNat
      | none => s
    else if fusLoop ≤ c.loop ∧ c.loop < mirrorLoop then s.count (Fd.FUS_TASK_TRAPS_V (c.loop - fusLoop)) else s
  logEvent s Ev.trap (unitSrc u) (c.loop * 2 ^ 16 + c.cause.toNat % 256) c.epc.toNat

/-- The trap vector of a context's slot, as a local address; every fusion task has one in its image (R288), and every trap of the Mirror pair is a
lock-out (R447). -/
def trapVector (s : State) (u : Nat) (c : GwCtx) : Option Nat :=
  if u = 8 then some (4 * Config.imageVector c.loop)
  else if u < 8 then
    match s.slotOf c.loop with
    | some (e, i) => if s.flag (Fd.CE_SLOT_TRAPV_EN e i) then some (4 * s.fld (Fd.CE_SLOT_TRAPV_VECTOR e i)) else none
    | none => none
  else none

/-- A sample enters its trap handler: pc at the vector and a budget of 256 cycles, in the next cycle (R121 step 3). -/
def GwCtx.toHandler (c : GwCtx) (v : Nat) : GwCtx := { c with pc := v, budget := 256, cyc := c.cyc + 1, handler := true }

/-- The trap's effect on a sample (R121 step 2): the running Prism operation is cancelled, epc, cause and faddr are set, the pending writes are
discarded. -/
def GwCtx.trapped (c : GwCtx) (cause : Nat) (faddr : Word) : GwCtx :=
  { c with prism := none, epc := BitVec.ofNat 32 c.pc, cause := BitVec.ofNat 32 cause, faddr := faddr, outs := [], writes := [] }

/-- A fusion task's sample has trapped: its pending values give way to the previous ones with VALID clear (R289). -/
def taskTrapped (s : State) (u : Nat) (c : GwCtx) : State := if u = 8 then fusInvalid s (c.loop - fusLoop) (c.tick + c.period) else s

/-- Take a trap (R121, TRAP_TAKEN): it is counted and recorded, and the handler starts; without a vector, or in the handler, the sample ends as
a double fault. -/
def takeTrap (s : State) (u : Nat) (c : GwCtx) (cause : Nat) (faddr : Word) : State :=
  let c := c.trapped cause faddr
  let s := taskTrapped (trapRecord s u c) u c
  match trapVector s u c with
  | some v => if c.handler then nextSample (doubleFault s u c) u else s.setCtx u (some (c.toHandler v))
  | none => nextSample (doubleFault s u c) u

/-- The budget reaches 0 before ENDS (R121): the cycles that were left have passed, a Prism operation that ended before the last of them has
completed, and cause 0x06 is taken. -/
def budgetTrap (s : State) (u : Nat) (c : GwCtx) : State :=
  let t := c.cyc + c.budget
  let x := match c.prism with
    | some p => if p.doneAt < t then prismDone s c p else (s, c)
    | none => (s, c)
  takeTrap x.1 u { x.2 with cyc := t, budget := 0 } 0x06 0

/-- OR the sticky flags of a sample into its slot's status (R82). -/
def stickyToStatus (s : State) (loop : Nat) (fl : Nat) : State := match s.slotOf loop with
  | some (e, i) =>
    let on := fun (s : State) (k : Nat) (f : Fld) => if bit fl k then s.setFlag f true else s
    on (on (on (on s 7 (Fd.CE_SLOT_STATUS_NV e i)) 8 (Fd.CE_SLOT_STATUS_DZ e i)) 9 (Fd.CE_SLOT_STATUS_OF e i)) 10 (Fd.CE_SLOT_STATUS_UF e i)
  | none => s

/-- The sample's outputs and writes, held until t + P (R10, R91). A handler's outputs carry VALID clear (R134). -/
def heldOf (c : GwCtx) : Held :=
  { loop := c.loop, pub := c.tick + c.period, outs := c.outs.filterMap (fun x => x.2.map (fun w => (x.1, w))),
    valid := !c.handler, writes := c.writes }

/-- A loop whose last samples all trapped stops at its trap limit (R129), with its queued DMA cancelled as under DISABLE (R140). -/
def trapLimit (s : State) (c : GwCtx) : State := match s.slotOf c.loop with
  | some (e, i) =>
    let lim := s.fld (Fd.CE_SLOT_CFG_TRAP_LIM e i)
    if lim ≠ 0 ∧ lim ≤ smGet 0 s.ce.trapRun c.loop then dmaCancelLoop (stopSlot s e i 3 (c.tick + c.period + 1)) c.loop else s
  | none => s

/-- A fusion task stops when five samples in a row have trapped (R288, R289). -/
def taskLimit (s : State) (c : GwCtx) : State :=
  if 5 ≤ smGet 0 s.ce.trapRun c.loop then fusTaskStop s (c.loop - fusLoop) c.cause.toNat else s

/-- The sample of unit `u` reaches ENDS (R79): its sticky flags go to the slot status, its outputs are held for t + P, a
trapped sample counts toward the trap limit (R129), and the next due sample starts. DESIGN CHOICE (log 38): the fusion sequencer and the Mirror
pair have no route table; what they write with OUT is held under the context's number and goes to no destination. -/
def endSample (s : State) (u : Nat) (c : GwCtx) : State :=
  let s := if u < 8 then stickyToStatus s c.loop c.flags.toNat else s
  let s := s.setCe { s.ce with held := s.ce.held ++ [heldOf c] }
  let s := countTrapRun s c.loop c.handler
  nextSample (if u < 8 then trapLimit s c else if u = 8 ∧ c.handler = true then taskLimit s c else s) u

/-! ### Executing one instruction -/

/-- What an instruction does: completes in `cost` cycles, or traps. -/
inductive GwEff where
  | go (s : State) (c : GwCtx) (cost : Nat)
  | trap (cause : Nat) (faddr : Word)

/-- The instruction set of a unit (R76): the Mirror pair lacks the vector group, LV, SV, VIN, PMV, PWAIT and RELAY. -/
def gwAllowed (u : Nat) (vector : Bool) : Bool := !(u == mirrorUnit && vector)

/-- Execute one instruction on unit `u`: complete a Prism operation whose cycle has come; check the fetch; wait for the Prism
unit where the instruction waits; run the body, which leaves pc at the next instruction. An instruction whose cycles use up the
budget does not complete and takes cause 0x06 (R121). `vec` marks an instruction outside the Mirror pair's set. -/
def gwRun (s : State) (u : Nat) (vec : Bool) (waits : GwCtx → Bool) (body : State → GwCtx → GwEff) : State :=
  match s.ctx u with
  | none => s
  | some c =>
    let (s, c) := prismAuto s c
    if c.pc % 4 ≠ 0 then takeTrap s u c 0x02 (BitVec.ofNat 32 c.pc)
    else if !c.inTile c.pc 4 then takeTrap s u c 0x03 (BitVec.ofNat 32 c.pc)
    else if !gwAllowed u vec then takeTrap s u c 0x01 (BitVec.ofNat 32 c.pc)
    else
      let wait := match c.prism with
        | some p => if waits c then p.doneAt - c.cyc else 0
        | none => 0
      if wait ≠ 0 ∧ c.budget ≤ wait then budgetTrap s u c
      else
        let (s, c) := if waits c then prismWait s c else (s, c)
        match body s c with
        | .trap cause f => takeTrap s u c cause f
        | .go s' c' cost =>
          if c.budget ≤ cost then budgetTrap s u c
          else s'.setCtx u (some { c' with budget := c.budget - cost, cyc := c.cyc + cost })

/-- The instruction after the present one. -/
def GwCtx.step4 (c : GwCtx) : GwCtx := { c with pc := c.pc + 4 }

/-- An instruction that never waits and cannot trap: a new context in `cost` cycles. -/
def gwSimple (s : State) (u : Nat) (vec : Bool) (cost : Nat) (f : GwCtx → GwCtx) : State :=
  gwRun s u vec (fun _ => false) (fun s c => .go s (f c).step4 cost)

/-- g[rs1] + sext(imm): an effective address (R101). -/
def GwCtx.ea (c : GwCtx) (rs1 : Nat) (imm : BitVec 16) : Nat := (c.gr rs1 + imm.signExtend 32).toNat

/-- A port number: g[rs1] + zext(imm). -/
def GwCtx.port (c : GwCtx) (rs1 : Nat) (imm : BitVec 16) : Nat := (c.gr rs1 + imm.zeroExtend 32).toNat

/-- The target of a branch or jump: pc + 4 + off × 4. -/
def GwCtx.target (c : GwCtx) (off : Int) : Nat := (wordOfInt ((c.pc : Int) + 4 + off * 4)).toNat

/-! ### Operand forms and flag computations of the arithmetic groups (R85, R97) -/

/-- Shifts by an amount below 32. -/
def shl32 (a : Word) (n : Nat) : Word := a <<< n
def shr32 (a : Word) (n : Nat) : Word := a >>> n
def sra32 (a : Word) (n : Nat) : Word := a.sshiftRight n

/-- Signed minimum and maximum. -/
def minS (a b : Word) : Word := if a.toInt ≤ b.toInt then a else b
def maxS (a b : Word) : Word := if a.toInt ≤ b.toInt then b else a

/-- CMP: Z equal, N result negative, C unsigned ≥, V signed overflow of a − b. -/
def cmpFlags (a b : Word) : Nat :=
  b2n (a == b) + 2 * b2n (a - b).msb + 4 * b2n (decide (b.toNat ≤ a.toNat)) +
    8 * b2n (decide ((a - b).toInt ≠ a.toInt - b.toInt))

/-- FCMP: Z equal, N less, UN unordered; C and V 0. -/
def fcmpFlags (a b : Word) : Nat := b2n (feq a b) + 2 * b2n (flt a b) + 16 * b2n (fIsNaN a || fIsNaN b)

/-- NV for a NaN operand. -/
def nanFl (a b : Word) : Nat := if fIsNaN a || fIsNaN b then flNV else 0

/-- R format over two scalar registers. -/
def gwAlu (s : State) (u rd rs1 rs2 cost : Nat) (f : Word → Word → Word) : State :=
  gwSimple s u false cost (fun c => c.setG rd (f (c.gr rs1) (c.gr rs2)))

/-- I format over one scalar register, one cycle. -/
def gwImm (s : State) (u rd rs1 : Nat) (f : Word → Word) : State :=
  gwSimple s u false 1 (fun c => c.setG rd (f (c.gr rs1)))

/-- FP operations of one, two and three operands: result and sticky flags. -/
def gwFp1 (s : State) (u rd rs1 cost : Nat) (f : Word → FRes) : State :=
  gwSimple s u false cost (fun c => (c.setG rd (f (c.gr rs1)).val).orFlags (f (c.gr rs1)).fl)
def gwFp (s : State) (u rd rs1 rs2 cost : Nat) (f : Word → Word → FRes) : State :=
  gwSimple s u false cost (fun c => (c.setG rd (f (c.gr rs1) (c.gr rs2)).val).orFlags (f (c.gr rs1) (c.gr rs2)).fl)
def gwFp3 (s : State) (u rd rs1 rs2 rs3 cost : Nat) (f : Word → Word → Word → FRes) : State :=
  gwSimple s u false cost (fun c =>
    (c.setG rd (f (c.gr rs1) (c.gr rs2) (c.gr rs3)).val).orFlags (f (c.gr rs1) (c.gr rs2) (c.gr rs3)).fl)

/-- The results and the joined flags of an operation over three lists of lanes. -/
def lanes3 (f : Word → Word → Word → FRes) : List Word → List Word → List Word → List Word × Nat
  | d :: ds, a :: as, b :: bs =>
    let x := f d a b
    let (l, fl) := lanes3 f ds as bs
    (x.val :: l, x.fl ||| fl)
  | _, _, _ => ([], 0)

/-- A lane-wise vector operation: vd := f(vd, va, vb), waiting while the Prism unit uses one of them (R107). -/
def gwVec (s : State) (u vd va vb cost : Nat) (f : Word → Word → Word → FRes) : State :=
  gwRun s u true (fun c => prismUsesV c vd || prismUsesV c va || prismUsesV c vb) (fun s c =>
    let x := lanes3 f (c.vr vd) (c.vr va) (c.vr vb)
    .go s ((c.setV vd x.1).orFlags x.2).step4 cost)

/-- The lane tree of the rounded products (VDOT, R86). -/
def vdot (a b : List Word) : FRes :=
  let x := lanes3 (fun _ a b => fmul a b) a a b
  laneTree x.1 x.2

end Sys2Proof.Machine
end

