-- ==== Sys2Proof/Machine/Loops.lean ====
section
/-! DEFINITION. Loops (R123–R145): commands and their acceptance at a major frame boundary, loading, starting, stopping, disabling
and unloading, the motion of output ports, and the dispatch of samples. -/

namespace Sys2Proof.Machine

/-! ### Results (R130) -/

/-- Write CE_CMD_RESULT of a window: kind 0 for a loop command, 1 for an engine command. -/
def cmdResult (s : State) (via code : Nat) (pending : Bool) (loop kind slot : Nat) : State :=
  s.setReg (Ra.CE_CMD_RESULT via)
    (BitVec.ofNat 32 (code * 2 ^ 16 + b2n pending * 2 ^ 15 + loop % 128 * 2 ^ 8 + kind * 2 ^ 4 + slot))

/-- The boundary replays: commands of application cores are refused (R130, R514). -/
def State.replaying (s : State) : Bool := s.rpl.live.isSome

/-- A loop command or a migration of the loop is pending (R130). -/
def loopBusy (s : State) (loop : Nat) : Bool :=
  (smGet none s.ce.cmds loop).isSome || s.ce.copies.any (fun c => c.loop == loop) || s.ce.migs.any (fun m => m.loop == loop)

/-- A command that is turned away at its write shows its code; the result of a pending command of the window is otherwise unaffected. -/
def cmdRefuse (s : State) (via code loop kind : Nat) : State :=
  if s.flag (Fd.CE_CMD_RESULT_PENDING via) then s.setFld (Fd.CE_CMD_RESULT_CODE via) code else cmdResult s via code false loop kind 0

/-- The record of a command or a route write that is turned away at its write: the word and its code (R130). -/
def recRefused (s : State) (a w code : Nat) : State := tabCmd s a [w, code]

/-- The word that a write of CE_LOOP_CMD carries. -/
def loopCmdWord (cmd loop win : Nat) : Nat := cmd * 2 ^ 28 + loop * 2 ^ 16 + win * 2 ^ 8

/-- A write of CE_LOOP_CMD through window `via` (R130). -/
def loopCmdWrite (s : State) (via cmd loop win : Nat) : State :=
  let w := loopCmdWord cmd loop win
  if cmd = 0 ∨ 5 < cmd then cmdRefuse (recRefused s (Ra.CE_LOOP_CMD via) w Code.badArgument) via Code.badArgument loop 0
  else if s.replaying || loopBusy s loop then cmdRefuse (recRefused s (Ra.CE_LOOP_CMD via) w Code.refused) via Code.refused loop 0
  else
    let s := s.setCe { s.ce with cmds := smPut none s.ce.cmds loop (some { cmd := cmd, win := win, via := via }) }
    cmdResult s via Code.ok true loop 0 0

/-- LOOP_LOAD (R131): LOAD is written to CE_LOOP_CMD through engine `e`'s window. -/
def execLoopLoad (e : Fin 8) (loop win : Fin 128) (s : State) : Out := .next (loopCmdWrite s e 1 loop win)

/-- LOOP_START (R133): START is written to CE_LOOP_CMD. -/
def execLoopStart (e : Fin 8) (loop : Fin 128) (s : State) : Out := .next (loopCmdWrite s e 2 loop 0)

/-- LOOP_STOP (R140): STOP is written to CE_LOOP_CMD. -/
def execLoopStop (e : Fin 8) (loop : Fin 128) (s : State) : Out := .next (loopCmdWrite s e 3 loop 0)

/-- LOOP_DISABLE (R142): DISABLE is written to CE_LOOP_CMD. -/
def execLoopDisable (e : Fin 8) (loop : Fin 128) (s : State) : Out := .next (loopCmdWrite s e 4 loop 0)

/-- LOOP_UNLOAD (R144): UNLOAD is written to CE_LOOP_CMD. -/
def execLoopUnload (e : Fin 8) (loop : Fin 128) (s : State) : Out := .next (loopCmdWrite s e 5 loop 0)

/-! ### Tile memory -/

/-- Every byte from `a` to `a + n − 1` reads 0. -/
def clearBytes (s : State) (a n : Nat) : State :=
  { s with mem := s.mem.filter (fun x => decide (x.1 < a) || decide (a + n ≤ x.1)) }

/-- The first byte, in memory, of a window of engine `e` at `base` × 4 KiB. -/
def winAddr (e base : Nat) : Nat := tileBase e + 4096 * base

/-- Place an image of `len` bytes from an IOVA, as engine `e` reaches it, into a window and zero the rest; `none` on a translation
fault. -/
def fetchImage (s : State) (e base size len iova : Nat) : Option State :=
  (readIova s (Src.ce0 + e) iova len).map (fun b => (clearBytes s (winAddr e base) (4096 * size)).setBytes (winAddr e base) b)

/-! ### Slot registers -/

/-- Every register of a slot returns to its reset value. -/
def slotReset (s : State) (e i : Nat) : State :=
  s.forN 8 (fun s k => s.setReg (Ra.CE_SLOT_CFG e i + 4 * k) (resetVal (Ra.CE_SLOT_CFG e i + 4 * k)))

/-- Copy a slot's registers. -/
def slotCopy (s : State) (e i e' i' : Nat) : State :=
  s.forN 8 (fun s k => s.setReg (Ra.CE_SLOT_CFG e' i' + 4 * k) (s.reg (Ra.CE_SLOT_CFG e i + 4 * k)))

/-- A slot takes a loop at a window: registers at reset, VALID, LOOP, WIN, state LOADED. -/
def slotTake (s : State) (e i loop base size : Nat) : State :=
  let s := slotReset s e i
  let s := (s.setFlag (Fd.CE_SLOT_CFG_VALID e i) true).setFld (Fd.CE_SLOT_CFG_LOOP e i) loop
  let s := (s.setFld (Fd.CE_SLOT_WIN_BASE e i) base).setFld (Fd.CE_SLOT_WIN_SIZE e i) size
  s.setFld (Fd.CE_SLOT_STATUS_STATE e i) SlotSt.loaded

/-- A slot becomes EMPTY, and its window is zeroed. -/
def slotEmpty (s : State) (e i : Nat) : State :=
  let s := clearBytes s (winAddr e (s.fld (Fd.CE_SLOT_WIN_BASE e i))) (4096 * s.fld (Fd.CE_SLOT_WIN_SIZE e i))
  slotReset s e i

/-! ### Output ports (R134, R140, R141) -/

/-- Publish a value of a loop's port, with an OUT record where it differs from the port's last (R508, R515). -/
def portPublish (s : State) (loop port : Nat) (w : Word) (valid : Bool) : State :=
  let k := portKey loop port
  let old := s.pubAt k
  if old.val = w ∧ old.valid = valid then s.publish k w valid
  else tabRec (s.publish k w valid) TabT.out k [w.toNat, b2n valid]

/-- One tick of a ramp toward SAFE (R141). -/
def rampStep (isFloat : Bool) (v safe ramp : Word) : Word :=
  if isFloat then
    if fIsNaN v || ramp == fInf || feq ramp 0 then safe
    else if flt v safe then (let n := fAdd v ramp; if fle safe n then safe else n)
    else if flt safe v then (let n := fSub v ramp; if fle n safe then safe else n)
    else safe
  else if ramp = 0 ∨ (v.toInt - safe.toInt).natAbs ≤ ramp.toNat then safe
  else if v.toInt < safe.toInt then wordOfInt (v.toInt + ramp.toNat)
  else wordOfInt (v.toInt - ramp.toNat)

/-- Set how a port moves. -/
def setAct (s : State) (loop port : Nat) (a : PortAct) : State :=
  s.setCe { s.ce with acts := smPut .none s.ce.acts (loop * 256 + port) a }

/-- One port moves one tick. -/
def portMove (s : State) (loop : Nat) (e : List Word) : State :=
  let p := rtOutPort e
  match smGet .none s.ce.acts (loop * 256 + p) with
  | .none => s
  | .safe => setAct (portPublish s loop p (rtSafe e) false) loop p .none
  | .ramp =>
    let w := rampStep (rtFloat e) (s.pubAt (portKey loop p)).val (rtSafe e) (rtRamp e)
    let s := portPublish s loop p w false
    if w = rtSafe e then setAct s loop p .none else s

/-- Every moving port moves one tick. -/
def portMotion (s : State) : State :=
  (s.ce.rtOut.filter (fun x => rtEn x.2 && smGet .none s.ce.acts (rtLoop x.2 * 256 + rtOutPort x.2) != .none)).foldl
    (fun s x => portMove s (rtLoop x.2) x.2) s

/-- A stopped loop's ports act under STOP_ACT (R140): hold published again with VALID clear, SAFE, or a ramp. -/
def stopActPort (s : State) (loop : Nat) (e : List Word) : State :=
  let p := rtOutPort e
  if rtStopAct e = 0 then portPublish s loop p (s.pubAt (portKey loop p)).val false
  else if rtStopAct e = 1 then portPublish s loop p (rtSafe e) false
  else portMove (setAct s loop p .ramp) loop e

/-- Stop actions that are due act (R140). -/
def stopActions (s : State) : State :=
  (s.ce.stopAt.filter (fun x => match x.2 with
    | some t => decide (t ≤ s.clk.tick)
    | none => false)).foldl (fun s x =>
      (s.outRoutes x.1).foldl (fun s e => stopActPort s x.1 e)
        (s.setCe { s.ce with stopAt := smPut none s.ce.stopAt x.1 none })) s

/-- No port of the loop moves, and each is at SAFE. -/
def portsSafe (s : State) (loop : Nat) : Bool :=
  (s.outRoutes loop).all (fun e => (s.pubAt (portKey loop (rtOutPort e))).val == rtSafe e &&
    smGet .none s.ce.acts (loop * 256 + rtOutPort e) == .none)

/-! ### Publishing (R10, R91, R140) -/

/-- The unit of a loop's delivered write in OUT records (R515 KIND 3 and 4; the numbering is the model's own). -/
def writeUnit (loop ofs : Nat) : Nat := 2 ^ 44 + loop * 2 ^ 20 + ofs

/-- Publish a sample's held outputs and deliver its writes. In DIGEST one record covers the sample's publications in port order (R508). -/
def publishOne (s : State) (h : Held) : State :=
  let s := if digestNow s then
      tabDigest (h.outs.foldl (fun s o => s.publish (portKey h.loop o.1) o.2 h.valid) s) (portKey h.loop 0)
        (h.outs.flatMap (fun o => [o.1, o.2.toNat, b2n h.valid]))
    else h.outs.foldl (fun s o => portPublish s h.loop o.1 o.2 h.valid) s
  deliverWrites (h.writes.foldl (fun s x => tabRec s TabT.out (writeUnit h.loop x.1) [x.2.toNat]) s) h.loop h.writes

/-- At a tick, publish what is held for it, in the order the samples ended. -/
def publishHeld (s : State) : State :=
  let due := s.ce.held.filter (fun h => decide (h.pub ≤ s.clk.tick))
  due.foldl publishOne (s.setCe { s.ce with held := s.ce.held.filter (fun h => decide (s.clk.tick < h.pub)) })

/-- At the publishing tick of a lost sample its ports keep their values with VALID clear (R156). -/
def publishLost (s : State) : State :=
  let due := s.ce.lost.filter (fun x => decide (x.2 ≤ s.clk.tick))
  due.foldl (fun s x => (s.outRoutes x.1).foldl (fun s e => portPublish s x.1 (rtOutPort e) (s.pubAt (portKey x.1 (rtOutPort e))).val false) s)
    (s.setCe { s.ce with lost := s.ce.lost.filter (fun x => decide (s.clk.tick < x.2)) })

/-- The retirement tick of a disable (R142 step 3): descriptors not started and frames not in arbitration retire as CANCELLED, and
every port ramps from the next tick. -/
def disableRetire (s : State) (loop : Nat) : State :=
  let s := canCancelLoop (dmaCancelLoop s loop) loop
  (s.outRoutes loop).foldl (fun s e => setAct s loop (rtOutPort e) .ramp) s

/-- Disables whose retirement tick is now. -/
def disableTick (s : State) : State :=
  (s.ce.disAt.filter (fun x => x.2 == some s.clk.tick)).foldl (fun s x => disableRetire s x.1) s

/-! ### Acceptance of loop commands at a frame boundary (R131–R145) -/

/-- The loop's window at its slot, and where its running sample is: drop it without outputs. -/
def dropSamples (s : State) (loop : Nat) : State :=
  let s := s.setGw { s.gw with due := smMapVals [] (fun _ l => l.filter (fun c => c.loop != loop)) s.gw.due }
  s.forN 8 (fun s u => match s.ctx u with
    | some c => if c.loop = loop then nextSample s u else s
    | none => s)

/-- LOAD at its frame boundary: the checks of R131, then the copy. -/
def acceptLoad (s : State) (c : LoopCmd) (loop : Nat) : State :=
  let e := c.via
  let len := (s.reg (Ra.CE_LOAD_LEN e)).toNat
  let fail := fun (code : Nat) => cmdResult s e code false loop 0 0
  if c.win = 0 ∨ 64 < c.win then fail Code.badArgument
  else if len % 4 ≠ 0 then fail Code.badArgument
  else if (s.slotOf loop).isSome then fail Code.refused
  else if s.engState e ≠ engOnline ∨ s.spare = e then fail Code.refused
  else match s.freeSlot e, tileFit (s.tileUsed e) c.win with
    | some i, some b =>
      if 4096 * c.win < len then fail Code.badArgument
      else
        let x : LoadCopy := { loop := loop, eng := e, slot := i, via := e, win := c.win, base := b, at_ := s.clk.tick }
        let a := s.reg64 (Ra.CE_LOAD_ADDR_LO e) (Ra.CE_LOAD_ADDR_HI e)
        let s := noteXfer s (Src.ce0 + e) a len false
        match fetchImage s e b c.win len a with
        | some s => s.setCe { s.ce with copies := s.ce.copies ++ [x] }
        | none => s.setCe { s.ce with copies := s.ce.copies ++ [{ x with fault := true }] }
    | _, _ => fail Code.refused

/-- A loaded image begins with a work area of its own: what a native loop keeps beyond its window starts anew. -/
def nativeFresh (s : State) (loop : Nat) : State :=
  if loop = 0 then s.setGov {}
  else if loop = 38 then s.setYld { stored := s.yld.stored, losPrev := s.yld.losPrev }
  else if loop = 39 then s.setYld { s.yld with losPrev := [] }
  else s

/-- A copy's result at a frame boundary after it (R131, R134): LOADED with every output port at SAFE and VALID clear, or FAULT. -/
def loadDone (s : State) (x : LoadCopy) (fault : Bool) : State :=
  let s := s.setCe { s.ce with copies := s.ce.copies.erase x }
  if fault || x.fault then cmdResult s x.via Code.fault false x.loop 0 0
  else
    let s := nativeFresh (slotTake s x.eng x.slot x.loop x.base x.win) x.loop
    let s := (s.outRoutes x.loop).foldl (fun s e => portPublish s x.loop (rtOutPort e) (rtSafe e) false) s
    refreshEngines (cmdResult s x.via Code.ok false x.loop 0 x.slot)

/-- The present tick is a major frame boundary. -/
def State.atFrame (s : State) : Bool := s.clk.tick % 200 == 0

/-- The present tick is a major frame boundary whose actions and dispatch are still to come. -/
def State.framePend (s : State) : Bool := s.clk.frameAt == some s.clk.tick

/-- LOAD_COPY_COMPLETE (R131): a frame boundary after the copy of a LOAD has ended, well or with a fabric fault. -/
def execLoadCopyComplete (loop : Fin 128) (fault : Bool) (s : State) : Out :=
  match s.ce.copies.find? (fun c => c.loop == loop.val) with
  | some x => if s.atFrame && decide (x.at_ < s.clk.tick) then .next (loadDone s x fault) else .next s
  | none => .next s

/-- The code of START's checks (R133). -/
def startCode (s : State) (loop : Nat) : Nat := match s.slotOf loop with
  | none => Code.refused
  | some (e, i) =>
    let p := s.fld (Fd.CE_SLOT_SCHED_PERIOD e i)
    let ph := s.fld (Fd.CE_SLOT_SCHED_PHASE e i)
    let b := s.fld (Fd.CE_SLOT_BUDGET_BUDGET e i)
    if !([SlotSt.loaded, SlotSt.disabled, SlotSt.stopped].contains (s.slotState e i)) then Code.refused
    else if !schedOk p ph || !decide (16 ≤ b ∧ b ≤ 38392) || s.fld (Fd.CE_SLOT_CFG_PRIV e i) == 3 then Code.badArgument
    else if (s.outRoutes loop).isEmpty then Code.badArgument
    else if s.engState e ≠ engOnline ∧ s.engState e ≠ engDegraded then Code.refused
    else if !s.admits e (p, ph, s.slotCost e i) || !s.privAdmitted e i e then Code.refused
    else Code.ok

/-- A loop goes STARTING (R133); the yield loop numbers its records anew (R221, R224). -/
def startLoop (s : State) (loop : Nat) : State := match s.slotOf loop with
  | none => s
  | some (e, i) =>
    let s := (s.setFld (Fd.CE_SLOT_STATUS_STATE e i) SlotSt.starting).setFlag (Fd.CE_SLOT_STATUS_DISABLE_DONE e i) false
    let s := s.setFld (Fd.CE_SLOT_STATUS_STOP_WHY e i) 0
    let s := s.setCe { s.ce with
      stopAt := smPut none s.ce.stopAt loop none, disAt := smPut none s.ce.disAt loop none,
      trapRun := smPut 0 s.ce.trapRun loop 0, resume := smPut none s.ce.resume loop none }
    let s := (s.outRoutes loop).foldl (fun s r => setAct s loop (rtOutPort r) .none) s
    let s := if loop = 38 then s.setYld { s.yld with seq := 0, gap := true, sent := none } else s
    refreshEngines s

/-- STOP of a loop at a frame boundary (R140): held publications after it are discarded, stop actions act from the next tick. -/
def stopNow (s : State) (loop : Nat) : State :=
  let s := dropSamples s loop
  let s := s.setCe { s.ce with held := s.ce.held.filter (fun h => h.loop != loop || decide (h.pub ≤ s.clk.tick)),
                               disAt := smPut none s.ce.disAt loop none }
  let s := (s.outRoutes loop).foldl (fun s r => setAct s loop (rtOutPort r) .none) s
  refreshEngines (dmaCancelLoop (stopLoop s loop 1 (s.clk.tick + 1)) loop)

/-- DISABLE of a loop at a frame boundary (R142 step 2): its last sample still publishes. -/
def disableLoop (s : State) (loop : Nat) : State := match s.slotOf loop with
  | none => s
  | some (e, i) =>
    let last := s.ce.held.foldl (fun a h => if h.loop = loop then max a h.pub else a) s.clk.tick
    let s := s.setFld (Fd.CE_SLOT_STATUS_STATE e i) SlotSt.disabling
    let s := s.setCe { s.ce with disAt := smPut none s.ce.disAt loop (some last) }
    refreshEngines (if last ≤ s.clk.tick then disableRetire s loop else s)

/-- UNLOAD of a loop (R144): messages end with ABORTED, route entries are cleared, the slot empties. -/
def unloadLoop (s : State) (loop : Nat) : State := match s.slotOf loop with
  | none => s
  | some (e, i) =>
    let s := slotEmpty s e i
    let s := mbxUnload s loop
    let keep := fun (l : SMap (List Word)) => l.filter (fun x => rtLoop x.2 != loop)
    let keepP := fun (l : SMap (Option (List Word))) => l.filter (fun x => match x.2 with
      | some e => rtLoop e != loop
      | none => false)
    let s := s.setCe { s.ce with rtIn := keep s.ce.rtIn, rtOut := keep s.ce.rtOut, rtInP := keepP s.ce.rtInP, rtOutP := keepP s.ce.rtOutP,
                                 stopAt := smPut none s.ce.stopAt loop none, disAt := smPut none s.ce.disAt loop none
                                 acts := s.ce.acts.filter (fun x => x.1 / 256 != loop), lost := s.ce.lost.filter (fun x => x.1 != loop) }
    refreshEngines s

/-- The state of the loop is one of a list. -/
def loopIn (s : State) (loop : Nat) (l : List Nat) : Bool := l.contains (s.loopState loop)

/-- A loop command takes effect at a frame boundary; its result is written (a LOAD stays pending until its copy is complete). It is
recorded as an application-core input (R130). A START of a loop that serves a machine function is REFUSED (R199). -/
def acceptLoopCmd (s : State) (loop : Nat) (c : LoopCmd) : State :=
  let s := s.setCe { s.ce with cmds := smPut none s.ce.cmds loop none }
  let s := tabRec s TabT.cmd (Ra.CE_LOOP_CMD c.via) [loopCmdWord c.cmd loop c.win]
  let done := fun (s : State) (code : Nat) => cmdResult s c.via code false loop 0 0
  match c.cmd with
  | 1 => acceptLoad s c loop
  | 2 =>
    let code := match s.slotOf loop with
      | some (e, i) => if s.fld (Fd.CE_SLOT_CFG_MF e i) ≠ 0 then Code.refused else startCode s loop
      | none => Code.refused
    done (if code = Code.ok then startLoop s loop else s) code
  | 3 =>
    if loopIn s loop [SlotSt.running, SlotSt.starting, SlotSt.disabling] then done (stopNow s loop) Code.ok else done s Code.refused
  | 4 => if loopIn s loop [SlotSt.running, SlotSt.starting] then done (disableLoop s loop) Code.ok else done s Code.refused
  | _ =>
    if loopIn s loop [SlotSt.loaded, SlotSt.disabled, SlotSt.stopped] then done (unloadLoop s loop) Code.ok else done s Code.refused

/-- Every pending loop command takes effect, in ascending loop number. -/
def acceptLoopCmds (s : State) : State := s.ce.cmds.foldl (fun s x => match x.2 with
  | some c => acceptLoopCmd s x.1 c
  | none => s) s

/-- LOOP_DISABLE_DONE (R142 step 5): every port is at SAFE and all work has retired. -/
def execLoopDisableDone (loop : Fin 128) (s : State) : Out := match s.slotOf loop with
  | some (e, i) =>
    let retired : Bool := match smGet none s.ce.disAt loop.val with
      | some t => decide (t ≤ s.clk.tick)
      | none => false
    if s.slotState e i == SlotSt.disabling && retired && portsSafe s loop && dmaQuiet s loop && canQuiet s loop then
      let s := (s.setFld (Fd.CE_SLOT_STATUS_STATE e i) SlotSt.disabled).setFlag (Fd.CE_SLOT_STATUS_DISABLE_DONE e i) true
      .next (refreshEngines s)
    else .next s
  | none => .next s

/-! ### Dispatch (R126, R127, R93, R92) -/

/-- The loops that run natively: 0 is the governor wherever it is loaded; 38 yield and 39 loss are what the stored configuration holds (R176, R211). -/
def nativeLoop (s : State) (loop : Nat) : Bool :=
  loop == 0 || ((loop == 38 || loop == 39) && s.ce.stored.any (fun x => x.loop == loop))

/-- The input ports of a loop as they stand (R93): one entry for each route that is enabled. -/
def portsOf (s : State) (loop : Nat) : SMap (Option PubV) :=
  (s.ce.rtIn.filter (fun x => rtEn x.2 && rtLoop x.2 == loop)).foldl (fun m x => smPut none m (rtInPort x.2) (s.portIn loop (rtInPort x.2))) []

/-- The running sample of a loop at its boundary (R78). DESIGN CHOICE (log 38): epc, cause and faddr read 0 until a trap sets them. -/
def mkCtx (s : State) (e i : Nat) : GwCtx :=
  let loop := s.slotLoop e i
  { loop := loop, slot := i, priv := decide (s.fld (Fd.CE_SLOT_CFG_PRIV e i) ≠ 0),
    base := winAddr e (s.fld (Fd.CE_SLOT_WIN_BASE e i)), size := 4096 * s.fld (Fd.CE_SLOT_WIN_SIZE e i),
    period := s.fld (Fd.CE_SLOT_SCHED_PERIOD e i), tick := s.clk.tick, mode := s.bndMode,
    pc := 4 * s.fld (Fd.CE_SLOT_ENTRY_ENTRY e i), budget := s.fld (Fd.CE_SLOT_BUDGET_BUDGET e i) - 4, cyc := 4,
    mbx := mbxWindow s loop, ports := portsOf s loop }

/-- Record the latches a starting sample takes (R505): routed crop-sensing, class 0x5, 0x7 and 0x8 quantities. -/
def recordLatches (s : State) (loop : Nat) : State :=
  recKeys s ((s.ce.rtIn.filter (fun x => rtEn x.2 && rtLoop x.2 == loop && [1, 5, 7, 8].contains (rtClass x.2))).map (fun x =>
    pubKey (rtClass x.2) (rtIndex x.2)))

/-- A sample is due on unit `u`: it joins the unit's dispatch order; a delivered-write fault is taken first (R92). -/
def queueSample (s : State) (u : Nat) (c : GwCtx) : State :=
  let s := match smGet none s.gw.dwf c.loop with
    | none => s.setGw { s.gw with due := smPut [] s.gw.due u (smGet [] s.gw.due u ++ [c]) }
    | some f =>
      let s := s.setGw { s.gw with dwf := smPut none s.gw.dwf c.loop none }
      let c := c.trapped 9 (BitVec.ofNat 32 f)
      let s := trapRecord s u c
      match trapVector s u c with
      | some v => s.setGw { s.gw with due := smPut [] s.gw.due u (smGet [] s.gw.due u ++ [c.toHandler v]) }
      | none => doubleFault s u c
  if (s.ctx u).isNone then nextSample s u else s

/-- One slot at a tick: a due STARTING or RUNNING loop starts a sample, or loses it while it waits to resume after an
evacuation (R156). -/
def dispatchSlot (s : State) (e i : Nat) : State :=
  let st := s.slotState e i
  let loop := s.slotLoop e i
  let p := s.fld (Fd.CE_SLOT_SCHED_PERIOD e i)
  if s.slotValid e i && (st == SlotSt.starting || st == SlotSt.running) && dueNow s p (s.fld (Fd.CE_SLOT_SCHED_PHASE e i)) then
    match smGet none s.ce.resume loop with
    | some t =>
      if s.clk.tick < t then s.setCe { s.ce with lost := s.ce.lost ++ [(loop, s.clk.tick + p)] }
      else
        let s := s.setCe { s.ce with resume := smPut none s.ce.resume loop none }
        let s := recordLatches (s.setFld (Fd.CE_SLOT_STATUS_STATE e i) SlotSt.running) loop
        if nativeLoop s loop then s else queueSample s e (mkCtx s e i)
    | none =>
      let s := s.setFld (Fd.CE_SLOT_STATUS_STATE e i) SlotSt.running
      let s := s.setCe { s.ce with migs := s.ce.migs.map (fun (m : Mig) =>
        if m.loop = loop ∧ m.phase = 1 ∧ m.fetched ∧ m.tc.isNone ∧ m.from_ ≤ s.clk.tick then { m with tc := some s.clk.tick } else m) }
      if nativeLoop s loop then recordLatches s loop else queueSample (recordLatches s loop) e (mkCtx s e i)
  else s

/-- The engines run samples: not before boot step 7, not once a power-fail sequence has stopped them (R71, R73). -/
def enginesRun (s : State) : Bool := !s.pm.stopped && (s.mode != Mode.boot || decide (7 ≤ s.bootStep)) && decide (Mode.boot ≤ s.mode)

/-- At a tick boundary every engine dispatches the loops due on it, in ascending slot number (R127). -/
def dispatchTick (s : State) : State :=
  if enginesRun s then
    allSlots.foldl (fun s x =>
      if s.engState x.1 = engOnline ∨ s.engState x.1 = engDegraded then dispatchSlot s x.1 x.2 else s) s
  else s

/-- DELIVERED_WRITE_FAULT (R92): a fabric error on a delivered write of a loop, at a fabric address; the loop's next sample takes
cause 0x09. -/
def execDeliveredWriteFault (loop : Fin 128) (addr : BitVec 40) (kind : Fin 4) (s : State) : Out := match s.slotOf loop with
  | some (e, _) =>
    let s := fabErr s (Src.ce0 + e) addr.toNat kind
    .next (s.setGw { s.gw with dwf := smPut none s.gw.dwf loop (some (addr.toNat % 2 ^ 32)) })
  | none => .next s

end Sys2Proof.Machine
end

