-- ==== Sys2Proof/Machine/Fusion.lean ====
section
/-! DEFINITION. The fusion sequencer's tasks EGO, CROP, TRACK and PARALLAX, the inference array and the lidar sources (R288–R313). What the
spec leaves to the filters' designs (the ego filter, geometry, gains) is a free value of Config; rules, rings, life cycles and
qualifiers are as stated. -/

namespace Sys2Proof.Machine

/-- The key of a class 0x3 quantity (R291). -/
def fusKey (group q : Nat) : Nat := pubKey 3 (group * 64 + q)

/-- A task runs: the sequencer has not failed and the task is not stopped; TRACK needs its EN. -/
def taskOn (s : State) (k : Nat) : Bool :=
  s.fus.running && !s.flag Fd.FUS_STAT_FAILED && s.fld (Fd.FUS_TASK_STOP_V k) == 0 && (k != 2 || s.flag Fd.FUS_TRK_CFG_EN)

/-- Bring RUN up to date. -/
def showRun (s : State) : State :=
  s.setFld Fd.FUS_STAT_RUN ((List.range 4).foldl (fun a k => if taskOn s k then setBits a (3 - k) 1 1 else a) 0)

/-- CODE of a publication, but for SLIPPED (R292), by what is published: 0 EGO, 1 density, 2 TRACK, 3 and 4 the results of KIND 3 and 4. -/
def taskCode (s : State) (k : Nat) : Nat :=
  if s.timeState = tHoldover then Code.holdover
  else if smGet 0 s.fus.stepSeen k ≠ s.clk.stepSeq then Code.step else Code.ok

/-- CODE with a newest source that may be SLIPPED. -/
def fusCode (s : State) (k : Nat) (slipped : Bool) : Nat := if slipped then Code.slipped else taskCode s k

/-- It has been published: STEP shows once. -/
def noteTask (s : State) (k : Nat) : State := s.setFus { s.fus with stepSeen := smPut 0 s.fus.stepSeen k s.clk.stepSeq }

/-- Stage a new value for t + P. -/
def fusPub (s : State) (p key : Nat) (v : Word) (valid : Bool) (code : Nat) : State := s.stageAt (s.clk.tick + p) key v valid code

/-- Stage a value published before: its age keeps growing (R292). -/
def fusRepub (s : State) (p key : Nat) (v : Word) (valid : Bool) (code : Nat) : State :=
  { s with stage := s.stage ++ [{ tick := s.clk.tick + p, key := key, v := { val := v, valid := valid, code := code, tick := (s.pubAt key).tick } }] }

/-- The value a key will hold once everything staged is published. -/
def fusLast (s : State) (key : Nat) : PubV := match (s.stage.filter (fun x => x.key == key)).getLast? with
  | some x => x.v
  | none => s.pubAt key

/-- Microseconds from a measurement time to the sample boundary, saturating. -/
def dataAge (s : State) (tM : Nat) : Word := BitVec.ofNat 32 (satU 32 ((s.bndDt - tM) / 1000))

/-! ### EGO (R296–R299) -/

/-- Word `i` of the filter. -/
def egoW (s : State) (i : Nat) : Word := s.fus.ego.getD i 0

/-- Wheel `w` is enabled. -/
def wheelOn (s : State) (w : Nat) : Bool := s.flag (Fd.FUS_WHL_CFG_EN w)

/-- The measured speed of wheel `w`: its unit's pulse rate times SCALE, in m/s. -/
def wheelSpeed (s : State) (w : Nat) : Word :=
  fMul (s.pubAt (snKey (s.fld (Fd.FUS_WHL_CFG_UNIT w)) 0)).val (fOfRat (s.fld (Fd.FUS_WHL_CFG_SCALE w)) 1000000)

/-- The wheel's state. -/
def State.whlSt (s : State) (w : Nat) : WhlSt := smGet {} s.fus.whl w

/-- Whether a wheel's speed lies outside SLIP_LIM of the prediction, followed from sample to sample (R298). -/
def wheelTrack (s : State) (w : Nat) : State :=
  if s.flag (Fd.FUS_WHL_CFG_EN w) then
    let d := fabs (fSub (wheelSpeed s w) (Config.egoWheel s.fus.ego w))
    let off := !fle d (fOfRat (s.fld Fd.FUS_EGO_CFG_SLIP_LIM) 100)
    let x := s.whlSt w
    let x := { x with offCyc := if off then some (x.offCyc.getD s.clk.cyc) else none, okCyc := if off then none else some (x.okCyc.getD s.clk.cyc) }
    s.setFus { s.fus with whl := smPut {} s.fus.whl w x }
  else s

/-- WHEEL_SLIP (R298): a wheel has differed by more than SLIP_LIM for 200 ms: it is excluded. -/
def wheelSlip (s : State) (w : Nat) : State := match (s.whlSt w).offCyc with
  | some t =>
    if s.since t (200 * cycMs) && !(s.whlSt w).excl && wheelOn s w && taskOn s 0 then
      let s := s.setFus { s.fus with whl := smPut {} s.fus.whl w { s.whlSt w with excl := true } }
      logEvent ((s.setFld (Fd.FUS_WHL_EXCL_V w) 1).count (Fd.FUS_WHL_SLIPS_V w)) Ev.wheelSlip Src.fusion w 0
    else s
  | none => s

/-- WHEEL_RESTORED (R298): an excluded wheel has stayed within the limit for 1 s. -/
def wheelBack (s : State) (w : Nat) : State := match (s.whlSt w).okCyc with
  | some t =>
    if s.since t cycS && (s.whlSt w).excl && taskOn s 0 then
      let s := s.setFus { s.fus with whl := smPut {} s.fus.whl w { s.whlSt w with excl := false } }
      logEvent (s.setFld (Fd.FUS_WHL_EXCL_V w) 0) Ev.wheelRestored Src.fusion w 0
    else s
  | none => s

/-- The IMU's VALID at the boundary (R298): IMU_LOST sets when it is clear and clears when it is set again. -/
def imuCheck (s : State) : State :=
  if (s.pubAt (snKey 60 0)).valid then (s.setFlag Fd.FUS_STAT_IMU_LOST false).setFus { s.fus with imuBad := none }
  else if s.fus.imuBad.isSome then s
  else (s.setFlag Fd.FUS_STAT_IMU_LOST true).setFus { s.fus with imuBad := some s.clk.cyc }

/-- WHEEL_SLIP (R298). A sample of EGO does the same on its own. -/
def execWheelSlip (w : Fin 4) (s : State) : Out := .next (wheelSlip s w)

/-- WHEEL_RESTORED (R298). A sample of EGO does the same on its own. -/
def execWheelRestored (w : Fin 4) (s : State) : Out := .next (wheelBack s w)

/-- IMU_LOST (R298): the IMU's VALID is clear. A sample of EGO does the same on its own. -/
def execImuLost (s : State) : Out := .next (if (s.pubAt (snKey 60 0)).valid then s else imuCheck s)

/-- A GNSS result latched since the last sample (R296). -/
def gnsNew (s : State) : Bool := match (s.pubAt (gnsKey 0 0)).tick with
  | some t => decide (s.fus.egoTick < t)
  | none => false

/-- The IMU values of an EGO sample; nothing while their VALID is clear (R298). -/
def egoImu (s : State) : List Word :=
  if (s.pubAt (snKey 60 0)).valid then 1 :: (List.range 6).map (fun q => (s.pubAt (snKey 60 q)).val) else List.replicate 7 0

/-- The epoch of the GNSS result in ticks before the present one (quantity 7 of group 0). -/
def gnsAge (s : State) : Nat := (s.clk.tick + 2 ^ 32 - (s.pubAt (gnsKey 0 7)).val.toNat) % 2 ^ 32

/-- The sample of the history at which a measurement of a DT is applied: the newest not after it, or the oldest held (R297). -/
def egoAt (s : State) (dt : Nat) : Option EgoAt := (s.fus.hist.find? (fun x => decide (x.dt ≤ dt))).or s.fus.hist.getLast?

/-- The variance a GNSS result older than the 2 000 ms history gains: (|v| × excess age)², with v at the oldest held time (R297). -/
def egoExcess (s : State) : Word :=
  let v := fabs (((s.fus.hist.getLast?.map (fun x => x.ego.getD 0 0))).getD 0)
  let d := fMul v (fOfRat (gnsAge s - 40000 : Nat) 20000)
  fMul d d

/-- The result of GNSS with the state it corrects and the IMU values since, through which the filter propagates again (R297). -/
def egoGns (s : State) : List Word :=
  let p := fun (k : Nat) => [(s.pubAt k).val, BitVec.ofNat 32 (b2n (s.pubAt k).valid)]
  let dt := s.bndDt - gnsAge s * 50000
  (List.range 8).flatMap (fun q => p (gnsKey 0 q)) ++ (List.range 4).flatMap (fun q => p (gnsKey 4 q)) ++ [egoExcess s] ++
    ((egoAt s dt).map (·.ego)).getD [] ++ ((s.fus.hist.takeWhile (fun x => decide (dt < x.dt))).flatMap (·.imu))

/-- The measurements of an EGO sample: IMU, every wheel enabled and not excluded, rotation, points, and a new GNSS result. -/
def egoInputs (s : State) : List Word :=
  let whl := (List.range 4).flatMap (fun w => if wheelOn s w && !(s.whlSt w).excl then [1, wheelSpeed s w] else [0, 0])
  egoImu s ++ whl ++ (List.range 9).map (fun k => s.reg (Ra.FUS_IMU_ROT k)) ++ (List.range 12).map (fun k => s.reg (Ra.FUS_PT k)) ++
    (if gnsNew s then egoGns s else [])

/-- The filter's words after a sample; while the IMU's VALID is clear, heading is that of GNSS attitude, and pitch and roll are held (R298). -/
def egoNext (s : State) : List Word :=
  let l := (List.range 64).map (Config.egoStep s.fus.ego (egoInputs s))
  if (s.pubAt (snKey 60 0)).valid then l
  else
    let a := s.pubAt (gnsKey 4 0)
    ((l.set 3 (if a.valid then a.val else egoW s 3)).set 4 (egoW s 4)).set 5 (egoW s 5)

/-- Heading is fixed by a GNSS attitude of type 3 or 4, or by 5 s of velocity-derived heading at 1.0 m/s or more (R299). -/
def egoAlign (s : State) : State :=
  let at_ := s.pubAt (gnsKey 4 3)
  let ty := bits at_.val.toNat 28 4
  let fast := fle 0x3F800000#32 (fabs (egoW s 0)) && (s.pubAt (gnsKey 0 4)).valid
  let s := s.setFus { s.fus with headCyc := if fast then some (s.fus.headCyc.getD s.clk.cyc) else none }
  let long := match s.fus.headCyc with
    | some t => s.since t (5 * cycS)
    | none => false
  if (gnsNew s && at_.valid && (ty == 3 || ty == 4)) || long then s.setFlag Fd.FUS_STAT_ALIGNED true else s

/-- The results of GNSS: a valid position counts as a correction; one older than the 2 000 ms history is counted (R297). -/
def egoGnss (s : State) : State :=
  if gnsNew s then
    let v := s.pubAt (gnsKey 0 0)
    let age := gnsAge s
    let s := if 40000 < age then s.count Fd.FUS_EGO_OLD_V else s
    if v.valid then s.setFus { s.fus with posCyc := some s.clk.cyc, egoMeas := s.bndDt - age * 50000 } else s
  else s

/-- Forward travel of a point in mm. -/
def travelMm (s : State) (p : Nat) : Int := (smGet 0 s.fus.travel p + 500000) / 1000000

/-- Advance the forward travel of the four points by one sample (R295), and keep the samples of 2 s (R297). -/
def egoTravel (s : State) : State :=
  let s := s.forN 4 (fun s p =>
    s.setFus { s.fus with travel := smPut 0 s.fus.travel p (smGet 0 s.fus.travel p + fFloorScaled (egoW s (8 + 8 * p + 3)) 1000000 1) })
  let x : EgoAt := { dt := s.bndDt, trv := travelMm s 1, ego := s.fus.ego, imu := egoImu s }
  s.setFus { s.fus with hist := (x :: s.fus.hist).take 2000 }

/-- Travel of point 1 at a measurement time, from the history; the oldest held where it lies before it. -/
def travelAt (s : State) (tM : Nat) : Int := ((egoAt s tM).map (·.trv)).getD (travelMm s 1)

/-- The IMU has been lost for 2 s. -/
def imuGone (s : State) : Bool := match s.fus.imuBad with
  | some t => s.since t (2 * cycS)
  | none => false

/-- The fix word of a point (R299): the GNSS fix within 200 ms of a correction, else type 5 with the filter's uncertainty. -/
def pointFix (s : State) (p : Nat) : Word :=
  let w := (s.pubAt (gnsKey 0 3)).val
  let live := match s.fus.posCyc with
    | some t => !s.since t (200 * cycMs)
    | none => false
  if live then w
  else BitVec.ofNat 32 (5 * 2 ^ 28 + clampN 0 4095 (fRound (egoW s (8 + 8 * p + 7)) 100 1).toNat * 2 ^ 16 + w.toNat % 2 ^ 16)

/-- A point's values are valid (R299). -/
def pointOk (s : State) (p : Nat) : Bool :=
  let dr := match s.fus.posCyc with
    | some t => !s.since t (200 * cycMs + s.fld Fd.FUS_EGO_CFG_DR_MAX * cycS)
    | none => false
  s.flag Fd.FUS_STAT_ALIGNED && !imuGone s && dr &&
    fle (egoW s (8 + 8 * p + 7)) (fOfRat (max 1 (s.fld Fd.FUS_EGO_CFG_UNC_MAX)) 10)

/-- Publish a point's group. -/
def pointPub (s : State) (code p : Nat) : State :=
  let ok := pointOk s p
  s.forN 8 (fun s q => fusPub s 20 (fusKey (1 + p) q)
    (if q = 3 then pointFix s p else if q = 6 then wordOfInt (travelMm s p) else egoW s (8 + 8 * p + q)) ok code)

/-- Bring the EGO part of FUS_STAT up to date: dead reckoning counts from the end of type other than 5. DESIGN CHOICE (log 48): before the first
correction DR_S shows its greatest value. -/
def egoShow (s : State) : State :=
  let s := s.setFld Fd.FUS_STAT_FIX (bits (pointFix s 0).toNat 28 4)
  s.setFld Fd.FUS_STAT_DR_S (match s.fus.posCyc with
    | some t => min 4095 ((s.clk.cyc - t - 200 * cycMs) / cycS)
    | none => 4095)

/-- One EGO sample (R296). Its sources are the IMU, the wheels and GNSS, none of which is a sensor stream: CODE is never SLIPPED. -/
def egoSample (s : State) : State :=
  let s := imuCheck s
  let s := egoAlign (egoGnss (s.setFus { s.fus with ego := egoNext s }))
  let s := egoTravel (s.forN 4 (fun s w => wheelBack (wheelSlip (wheelTrack s w) w) w))
  let code := fusCode s 0 false
  let ok := !imuGone s
  let s := s.forN 8 (fun s q => fusPub s 20 (fusKey 0 q) (if q = 1 then fMul (egoW s 0) (fOfRat 36 10) else egoW s q)
    (ok && (q != 3 || s.flag Fd.FUS_STAT_ALIGNED)) code)
  let s := s.forN 4 (fun s p => pointPub s code p)
  let s := fusPub s 20 (fusKey 8 0) (dataAge s s.fus.egoMeas) ok code
  noteTask (egoShow (s.setFus { s.fus with egoTick := s.clk.tick })) 0

/-! ### CROP (R302, R303) -/

/-- The ring key of a section's bin. -/
def binKey (k : Nat) (b : Int) : Nat := k * 640 + (b % 640).toNat

/-- A KIND 2 result with STATUS 0 writes its bins (R302): NEAR, then eight sections of COUNT bins. -/
def cropBins (s : State) (r : InfRes) : State :=
  let n := min 64 ((r.data.length - 1) / 8)
  let near := fFloorScaled (r.data.headD 0) 1000 1
  let s := s.forN 8 (fun s k => s.forN n (fun s i =>
    let b := (r.travel + near + 100 * (i : Int)) / 100
    s.setFus { s.fus with bins := smPut none s.fus.bins (binKey k b) (some (b, r.data.getD (1 + k * n + i) 0)) }))
  s.setFus { s.fus with densTM := some (r.tM, bit r.flags 0) }

/-- One section at a CROP sample: its value, whether it is new and whether it is valid. No bin applies in reverse travel. -/
def cropSection (s : State) (k : Nat) : State × Word × Bool × Bool :=
  let tr := travelMm s 1
  let b := tr / 100
  let last := fusLast s (fusKey 5 (2 + k))
  let hit := match smGet none s.fus.bins (binKey k b) with
    | some (i, w) => if i = b then some w else none
    | none => none
  let seen := smGet none s.fus.binPub k
  let fwd := !flt (egoW s 0) 0 && (match seen with
    | some i => decide (i ≤ b)
    | none => true)
  match (if fwd then hit else none) with
  | some w =>
    let s' := s.setFus { s.fus with binPub := smPut none s.fus.binPub k (some b), gapFrom := smPut none s.fus.gapFrom k (some tr) }
    (s', w, decide (seen ≠ some b), true)
  | none =>
    let ok := match smGet none s.fus.gapFrom k with
      | some g => decide (tr - g ≤ s.fld Fd.FUS_CROP_CFG_DENS_GAP * 100)
      | none => false
    (s, last.val, false, ok && last.valid)

/-- Publish a density, as new or again. -/
def densPub (s : State) (key : Nat) (w : Word) (fresh ok : Bool) (code : Nat) : State :=
  if fresh then fusPub s 20 key w ok code else fusRepub s 20 key w ok code

/-- The mean of four FP32 values. -/
def mean4 (a b c d : Word) : Word := fDiv (fAdd (fAdd a b) (fAdd c d)) (fOfInt 4)

/-- The crop density group (R302): sections, then halves. -/
def cropDensity (s : State) (code : Nat) : State :=
  let x := (List.range 8).foldl (fun (a : State × List (Word × Bool × Bool)) k =>
    let y := cropSection a.1 k
    (y.1, a.2 ++ [y.2])) (s, [])
  let v := fun (k : Nat) => x.2.getD k (0, false, false)
  let s := x.1.forN 8 (fun s k => densPub s (fusKey 5 (2 + k)) (v k).1 (v k).2.1 (v k).2.2 code)
  s.forN 2 (fun s h =>
    let g := (List.range 4).map (fun i => v (4 * h + i))
    densPub s (fusKey 5 h) (mean4 (v (4 * h)).1 (v (4 * h + 1)).1 (v (4 * h + 2)).1 (v (4 * h + 3)).1)
      (g.any (·.2.1)) (g.all (·.2.2)) code)

/-- A KIND 3 or 4 result with STATUS 0 is published as new values (R303). -/
def cropQuality (s : State) (r : InfRes) : State :=
  let q := if r.kind = 3 then 0 else 2
  let code := fusCode s r.kind (bit r.flags 0)
  let s := noteTask s r.kind
  let s := fusPub (fusPub s 20 (fusKey 6 q) (r.data.headD 0) true code) 20 (fusKey 6 (q + 1)) (r.data.getD 1 0) true code
  s.setFus { s.fus with qualTM := some (r.tM, bit r.flags 0) }

/-- One CROP sample. -/
def cropSample (s : State) : State :=
  let mine := s.fus.handed.filter (fun r => r.kind == 2 || r.kind == 3 || r.kind == 4)
  let s := s.setFus { s.fus with handed := s.fus.handed.filter (fun r => !(r.kind == 2 || r.kind == 3 || r.kind == 4)) }
  let s := mine.foldl (fun s r => if r.status ≠ 0 then s else if r.kind = 2 then cropBins s r else cropQuality s r) s
  let slip := match s.fus.densTM with
    | some (_, b) => b
    | none => false
  let s := cropDensity s (fusCode s 1 slip)
  let age := fun (s : State) (q : Nat) (x : Option (Nat × Bool)) => match x with
    | some (t, b) => fusPub s 20 (fusKey 8 q) (dataAge s t) true (fusCode s 1 b)
    | none => s
  noteTask (age (age s 1 s.fus.densTM) 2 s.fus.qualTM) 1

/-! ### TRACK (R304–R311) -/

/-- An object at a TRACK sample: source (job j is j, lidar s is 8 + s), index among the sample's objects, local position, velocity, variance, its other
fields, its measurement time and flags. -/
structure ObjIn where
  src  : Nat
  idx  : Nat
  x    : Word
  y    : Word
  vx   : Word
  vy   : Word
  var  : Word
  len  : Nat
  wid  : Nat
  cls  : Nat
  conf : Nat
  tM   : Nat
  fl   : Nat
  deriving DecidableEq, Repr

/-- The sensor number of a source in the extrinsics: cameras 0–5, lidar 6–11. -/
def objSensor (s : State) (r : InfRes) : Nat :=
  if r.kind = 0 then 6 + r.src
  else if s.flag (Fd.FUS_INF_JOB_CFG_PAIR r.src) then (pairCams s (s.fld (Fd.FUS_INF_JOB_CFG_SRC r.src))).1
  else s.fld (Fd.FUS_INF_JOB_CFG_SRC r.src)

/-- The extrinsic of a sensor with its Parallax offset. -/
def sensorPose (s : State) (u : Nat) : List Word :=
  (List.range 6).map (fun k => s.reg (Ra.FUS_EXTR (6 * u + k))) ++ (List.range 3).map (fun k => wordOfInt (smGet 0 s.fus.parOff (3 * u + k)))

/-- The objects of a result or scan: 32-byte records of eight words (R304), moved by the extrinsic and the ego pose at T_M (R306). -/
def objsOf (s : State) (r : InfRes) : List ObjIn :=
  let u := objSensor s r
  let ego := ((egoAt s r.tM).map (·.ego)).getD s.fus.ego
  (List.range (min 128 (r.data.length / 8))).map (fun i =>
    let w := (r.data.drop (8 * i)).take 8
    let n := fun (k : Nat) => (w.getD k 0).toNat
    let sg := max 5 (bits (n 7) 0 16)
    let sd := fOfRat sg 100
    let c := bits (n 6) 16 8
    let nan := fun (v : Word) => if fIsNaN v then 0#32 else v
    { src := if r.kind = 0 then 8 + r.src else r.src, idx := i, x := Config.objMove w (sensorPose s u) ego 0,
      y := Config.objMove w (sensorPose s u) ego 1, vx := nan (w.getD 3 0), vy := nan (w.getD 4 0), var := fMul sd sd,
      len := bits (n 5) 0 16, wid := bits (n 5) 16 16, cls := if c ≤ 4 then c else 0, conf := bits (n 6) 24 8, tM := r.tM,
      fl := r.flags % 4 + (if bit (s.fld Fd.FUS_PAR_STAT_LIMIT) u then 8 else 0)
        + (if r.tM + 2000000000 < s.bndDt then 16 else 0) })

/-- Seconds from a track's state time to `dt`. -/
def trackDt (t : Track) (dt : Nat) : Word := fOfRat ((dt : Int) - t.dt) 1000000000

/-- Predict a track to the sample's DT (R307). -/
def trackPredict (s : State) (t : Track) : Track :=
  let d := trackDt t s.bndDt
  let q := s.fld Fd.FUS_TRK_CFG_Q_ACC
  { t with x := fAdd t.x (fMul t.vx d), y := fAdd t.y (fMul t.vy d), sxx := Config.trackVar t.sxx q d, syy := Config.trackVar t.syy q d,
           dt := s.bndDt, age := t.age + 1 }

/-- The variance of an object for a track: an older object's grows by (|v| × difference)² (R307). -/
def objVar (t : Track) (o : ObjIn) : Word :=
  if o.tM < t.dt then
    let d := fOfRat ((t.dt : Int) - o.tM) 1000000000
    let v2 := fAdd (fMul t.vx t.vx) (fMul t.vy t.vy)
    fAdd o.var (fMul v2 (fMul d d))
  else o.var

/-- The squared Mahalanobis distance of an object from a track. -/
def mahal (t : Track) (o : ObjIn) : Word :=
  let dx := fSub o.x t.x
  let dy := fSub o.y t.y
  let v := objVar t o
  fAdd (fDiv (fMul dx dx) (fAdd t.sxx v)) (fDiv (fMul dy dy) (fAdd t.syy v))

/-- A candidate pair: distance, track ID, source, record index. -/
abbrev Cand := Word × Nat × Nat × Nat

/-- The order of R308. -/
def candBefore (a b : Cand) : Bool :=
  if fkey a.1 ≠ fkey b.1 then decide (fkey a.1 < fkey b.1)
  else if a.2.1 ≠ b.2.1 then decide (a.2.1 < b.2.1)
  else if a.2.2.1 ≠ b.2.2.1 then decide (a.2.2.1 < b.2.2.1)
  else decide (a.2.2.2 < b.2.2.2)

/-- Insert into a list kept in order. -/
def insertCand (x : Cand) : List Cand → List Cand
  | [] => [x]
  | y :: r => if candBefore x y then x :: y :: r else y :: insertCand x r

/-- The accepted pairs (R308): ascending d², an object once, a track once per source. -/
def associate (s : State) (ts : List Track) (os : List ObjIn) : List Cand :=
  let gate := fOfRat (s.fld Fd.FUS_TRK_CFG_GATE) 100
  let all := (ts.flatMap (fun t => os.filterMap (fun o => let d := mahal t o; if fle d gate then some (d, t.id, o.src, o.idx) else none))).foldl
    (fun l c => insertCand c l) []
  all.foldl (fun acc c =>
    if acc.any (fun a => (a.2.2.1 == c.2.2.1 && a.2.2.2 == c.2.2.2) || (a.2.1 == c.2.1 && a.2.2.1 == c.2.2.1)) then acc else acc ++ [c]) []

/-- The most frequent class of a count list. -/
def topClass (l : List Nat) : Nat := (List.range 5).foldl (fun a k => if l.getD a 0 < l.getD k 0 then k else a) 0

/-- The bit of a source in a record's mask: the jobs share [0], lidar s has [1 + s] (R310). -/
def srcBit (o : ObjIn) : Nat := if o.src < 8 then 1 else 2 ^ (o.src - 7)

/-- Update a track with an object. -/
def trackUpdate (s : State) (t : Track) (o : ObjIn) : Track :=
  let z := fun (v : Word) => [v, objVar t o]
  let f := fun (p v c zz : Word) (k : Nat) => Config.trackUpd [p, v, c] (z zz) k
  let cls := padTo 0 5 t.clsN
  let cls := cls.set o.cls (cls.getD o.cls 0 + 1)
  { t with x := f t.x t.vx t.sxx o.x 0, vx := f t.x t.vx t.sxx o.x 1, sxx := f t.x t.vx t.sxx o.x 2,
           y := f t.y t.vy t.syy o.y 0, vy := f t.y t.vy t.syy o.y 1, syy := f t.y t.vy t.syy o.y 2,
           len := fOfRat o.len 100, wid := fOfRat o.wid 100, cls := topClass cls, clsN := cls,
           src := t.src ||| srcBit o, upd := s.bndDt, measAge := min t.measAge (satU 32 ((s.bndDt - o.tM) / 1000)), flags := t.flags ||| o.fl }

/-- Update the associated tracks in source order (R307 step 3), with hits and misses. -/
def trackStep (s : State) (acc : List Cand) (os : List ObjIn) (t : Track) : Track :=
  let mine := (List.range 14).filterMap (fun src => acc.find? (fun c => c.2.1 == t.id && c.2.2.1 == src))
  let t' := mine.foldl (fun t c => match os.find? (fun o => o.src == c.2.2.1 && o.idx == c.2.2.2) with
    | some o => trackUpdate s t o
    | none => t) (if mine.isEmpty then t else { t with src := 0, flags := 0, measAge := 2 ^ 32 - 1 })
  if mine.isEmpty then { t' with misses := t.misses + 1 } else { t' with hits := satU 8 (t.hits + 1), misses := 0 }

/-- Machine-frame position and velocity of a track. -/
def trackMachine (s : State) (t : Track) (k : Nat) : Word := Config.toMachine [t.x, t.y, t.vx, t.vy] s.fus.ego k

/-- A coasting track is given up (R309): COAST_MAX misses in a row, √(SXX + SYY) above 3 m, or outside the area. -/
def coastEnd (s : State) (t : Track) : Bool :=
  let x := trackMachine s t 0
  let y := trackMachine s t 1
  decide (max 1 (s.fld Fd.FUS_TRK_CFG_COAST_MAX) ≤ t.misses) || flt (fOfInt 9) (fAdd t.sxx t.syy) || flt x (fOfInt (-20)) || flt (fOfInt 100) x ||
    flt (fOfInt 50) (fabs y)

/-- The life cycle of a track after its update (R309); `none` deletes it. -/
def trackLife (s : State) (t : Track) : Option Track := match t.st with
  | .tentative => if 3 ≤ t.hits then some { t with st := .confirmed } else if 5 ≤ t.age then none else some t
  | _ => if t.misses = 0 then some { t with st := .confirmed } else if coastEnd s t then none else some { t with st := .coasting }

/-- The next ID not in use, from 1 to 65 535. -/
def freeId (ts : List Track) : Nat → Nat → Nat
  | 0, k => k
  | n + 1, k => if ts.any (fun t => t.id == k) then freeId ts n (if k = 65535 then 1 else k + 1) else k

/-- A new TENTATIVE track from an object. -/
def newTrack (s : State) (id : Nat) (o : ObjIn) : Track :=
  { id := id, st := .tentative, x := o.x, y := o.y, vx := o.vx, vy := o.vy, sxx := o.var, syy := o.var, len := fOfRat o.len 100,
    wid := fOfRat o.wid 100, hits := 1, age := 1, cls := o.cls, clsN := (padTo 0 5 []).set o.cls 1, src := srcBit o, upd := s.bndDt, dt := s.bndDt,
    measAge := satU 32 ((s.bndDt - o.tM) / 1000), flags := o.fl }

/-- The TENTATIVE track a full list gives up: fewest hits, then farthest away (R309). -/
def replaceable (s : State) : Option Track :=
  let far := fun (t : Track) => fAdd (fMul (trackMachine s t 0) (trackMachine s t 0)) (fMul (trackMachine s t 1) (trackMachine s t 1))
  (s.fus.tracks.filter (fun t => t.st == .tentative)).foldl (fun a t => match a with
    | some x => if t.hits < x.hits ∨ (t.hits = x.hits ∧ flt (far x) (far t) = true) then some t else a
    | none => some t) none

/-- Start a track from an unused object (R309). -/
def trackStart (s : State) (o : ObjIn) : State :=
  if o.conf < s.fld Fd.FUS_TRK_CFG_CONF_MIN then s
  else
    let id := freeId s.fus.tracks 65 s.fus.nextId
    let nid := if id = 65535 then 1 else id + 1
    if s.fus.tracks.length < 64 then (s.count (Fd.FUS_TRK_AUX_V 0)).setFus { s.fus with tracks := s.fus.tracks ++ [newTrack s id o], nextId := nid }
    else match replaceable s with
      | some v => ((s.count (Fd.FUS_TRK_AUX_V 0)).count (Fd.FUS_TRK_AUX_V 5)).setFus { s.fus with
          tracks := s.fus.tracks.filter (fun t => t.id != v.id) ++ [newTrack s id o]
          nextId := nid }
      | none => s.count Fd.FUS_TRK_DROP_V

/-- The corridor's arc: curvature, half width, length, start and direction (R311). -/
def corrArc (s : State) : List Word :=
  let sp := egoW s 0
  let curv := fDiv (egoW s 2) (fMax (fabs sp) (fOfRat 1 2))
  let len := fMax (fOfInt (s.fld Fd.FUS_CORR_CFG_CORR_MIN)) (fMul (fabs sp) (fOfRat (s.fld Fd.FUS_CORR_CFG_CORR_T) 10))
  let rev := flt sp (fOfRat (-2) 10)
  [curv, fOfRat (s.fld Fd.FUS_CORR_CFG_CORR_HW) 10, len, if rev then 0 else fOfRat (s.fld Fd.FUS_CORR_CFG_CORR_X0) 10, if rev then fOfInt (-1) else fOne]

/-- A track inside the corridor: distance and closing speed. -/
def inCorridor (s : State) (t : Track) : Option (Word × Word) :=
  let m := (List.range 4).map (trackMachine s t)
  if t.st = .tentative ∨ Config.corridor m (corrArc s) 0 = 0 then none else some (Config.corridor m (corrArc s) 1, Config.corridor m (corrArc s) 2)

/-- Time to collision. -/
def timeToColl (d v : Word) : Word := if flt 0 v then fDiv d v else fInf

/-- TRK_OK (R311). -/
def trkOk (s : State) : Bool :=
  let stereo := (List.range 8).any (fun j => s.flag (Fd.FUS_INF_JOB_CFG_EN j) && s.flag (Fd.FUS_INF_JOB_CFG_PAIR j) && s.fld (Fd.FUS_INF_JOB_CFG_KIND j) == 1
    && s.fld (Fd.CAM_PAIR_STAT_STATE (s.fld (Fd.FUS_INF_JOB_CFG_SRC j))) == 2)
  let lidar := match s.fus.fwdCyc with
    | some t => !s.since t (200 * cycMs)
    | none => false
  taskOn s 2 && (stereo || lidar)

/-- The nearest track along the corridor, with distance and closing speed. -/
def nearest (l : List (Track × Word × Word)) : Option (Track × Word × Word) := l.foldl (fun a x => match a with
  | some y => if flt x.2.1 y.2.1 then some x else a
  | none => some x) none

/-- Publish group 7 (R311). -/
def corridorPub (s : State) : State :=
  let l := s.fus.tracks.filterMap (fun t => (inCorridor s t).map (fun x => (t, x.1, x.2)))
  let n := nearest l
  let ok := trkOk s
  let code := fusCode s 2 (match s.fus.trkTM with
    | some (_, b) => b
    | none => false)
  let v : List Word := match n with
    | some (t, d, c) => [d, c, timeToColl d c, BitVec.ofNat 32 t.id, BitVec.ofNat 32 l.length, BitVec.ofNat 32 t.cls, BitVec.ofNat 32 (b2n ok)]
    | none => [fInf, 0, fInf, 0, 0, 0, BitVec.ofNat 32 (b2n ok)]
  let s := s.forN 7 (fun s q => fusPub s 400 (fusKey 7 q) (v.getD q 0) ok code)
  let s := match s.fus.trkTM with
    | some (t, _) => fusPub s 400 (fusKey 8 3) (dataAge s t) true code
    | none => s
  s.setFlag Fd.FUS_STAT_TRK_OK ok

/-- The 64 bytes of a track record (R310). -/
def trackRecord (s : State) (t : Track) : List Byte :=
  let c := inCorridor s t
  let st := match t.st with
    | .tentative => 1
    | .confirmed => 2
    | .coasting => 3
  let fl := t.flags % 4 + (if c.isSome then 4 else 0) + (if bit t.flags 3 then 8 else 0) + (if bit t.flags 4 then 16 else 0)
  let ttc := match c with
    | some (d, v) => timeToColl d v
    | none => fInf
  leBytes 2 t.id ++ leBytes 1 st ++ leBytes 1 t.cls ++ leBytes 1 t.hits ++ leBytes 1 (satU 8 t.misses) ++ leBytes 2 t.src ++
  ((List.range 4).flatMap (fun k => leBytes 4 (trackMachine s t k).toNat)) ++ leBytes 4 t.sxx.toNat ++ leBytes 4 t.syy.toNat ++
  leBytes 4 t.len.toNat ++ leBytes 4 t.wid.toNat ++ leBytes 8 t.upd ++ leBytes 4 t.measAge ++ leBytes 4 fl ++ leBytes 4 ttc.toNat ++ leBytes 4 0

/-- Write the track list; it is named at t + 400 (R307, R310). -/
def writeTracks (s : State) : State :=
  let n := s.fus.lists % 8
  let a := s.reg64 Ra.FUS_TRK_RING_LO Ra.FUS_TRK_RING_HI + n * 8192
  let head := leBytes 8 s.bndDt ++ leBytes 1 s.fus.tracks.length ++ padTo 0 55 []
  let s := writeIova s 0x0D a (head ++ s.fus.tracks.flatMap (trackRecord s))
  s.setFus { s.fus with lists := s.fus.lists + 1, trkWr := some (s.clk.tick + 400, n) }

/-- The life-cycle counters (layout: log 4): tracks started, confirmed, coasting, recovered, deleted, replaced. -/
def lifeCount (s : State) (a b : List Track) : State :=
  let s := a.foldl (fun (s : State) t => match t.st, (b.find? (fun x => x.id == t.id)).map (·.st) with
    | _, none => s.count (Fd.FUS_TRK_AUX_V 4)
    | .tentative, some .confirmed => s.count (Fd.FUS_TRK_AUX_V 1)
    | .confirmed, some .coasting => s.count (Fd.FUS_TRK_AUX_V 2)
    | .coasting, some .confirmed => s.count (Fd.FUS_TRK_AUX_V 3)
    | _, _ => s) s
  s

/-- One TRACK sample (R307). -/
def trackSample (s : State) : State :=
  let mine := s.fus.handed.filter (fun r => (r.kind == 1 && r.status == 0) || r.kind == 0)
  let s := s.setFus { s.fus with handed := s.fus.handed.filter (fun r => !(r.kind == 1 || r.kind == 0)) }
  let tm := mine.foldl (fun (a : Option (Nat × Bool)) r => match a with
    | some (t, b) => if t < r.tM then some (r.tM, bit r.flags 0) else some (t, b)
    | none => some (r.tM, bit r.flags 0)) s.fus.trkTM
  let s := s.setFus { s.fus with trkTM := tm }
  let ts := s.fus.tracks.map (trackPredict s)
  let os := ((mine.flatMap (objsOf s)).zipIdx).map (fun (x : ObjIn × Nat) => { x.1 with idx := x.2 })
  let acc := associate s ts os
  let next := (ts.map (trackStep s acc os)).filterMap (trackLife s)
  let s := (lifeCount s ts next).setFus { s.fus with tracks := next }
  let free := os.filter (fun o => !acc.any (fun c => c.2.2.1 == o.src && c.2.2.2 == o.idx))
  let s := free.foldl trackStart s
  let s := s.setFld Fd.FUS_STAT_TRACKS s.fus.tracks.length
  noteTask (writeTracks (corridorPub s)) 2

/-! ### PARALLAX (R312, R313) -/

/-- The three run conditions of R312. -/
def parSpeed (s : State) : Bool := fle fOne (fabs (egoW s 0))
def parYaw (s : State) : Bool := fle (fabs (egoW s 2)) (fOfRat 5 100)
def parRuns (s : State) : Bool := parSpeed s && parYaw s && s.flag Fd.FUS_STAT_ALIGNED

/-- The run-condition counters (layout: log 4): samples run, and samples kept from it by speed, by yaw rate, by ALIGNED; limits reached. -/
def parCount (s : State) : State :=
  if parRuns s then s.count (Fd.FUS_PAR_COND_V 0)
  else
    let s := if parSpeed s then s else s.count (Fd.FUS_PAR_COND_V 1)
    let s := if parYaw s then s else s.count (Fd.FUS_PAR_COND_V 2)
    if s.flag Fd.FUS_STAT_ALIGNED then s else s.count (Fd.FUS_PAR_COND_V 3)

/-- The offset limit in 0.001 deg. -/
def parLimit (s : State) : Int := (clampN 1 50 (s.fld Fd.FUS_PAR_CFG_PAR_LIM) * 100 : Nat)

/-- Show an offset in its register (two words a sensor: roll and pitch, then yaw). -/
def parShow (s : State) (u : Nat) : State :=
  let o := fun (k : Nat) => unsint 16 (smGet 0 s.fus.parOff (3 * u + k))
  (s.setReg (Ra.FUS_PAR_OFFS (2 * u)) (BitVec.ofNat 32 (o 0 * 65536 + o 1))).setReg (Ra.FUS_PAR_OFFS (2 * u + 1)) (BitVec.ofNat 32 (o 2))

/-- One offset at a sample: at most 0.001 deg, within ±PAR_LIM; the time at the limit is kept (R312). -/
def parOffset (l : List Word) (os : List Int) (s : State) (k : Nat) : State :=
  let d : Int := (Config.parStep l os k).val - 1
  let m := parLimit s
  let v := max (-m) (min m (smGet 0 s.fus.parOff k + d))
  let since := if v = m ∨ v = -m then some ((smGet none s.fus.parLim k).getD s.clk.cyc) else none
  s.setFus { s.fus with parOff := smPut 0 s.fus.parOff k v, parLim := smPut none s.fus.parLim k since }

/-- An offset held at its limit for 10 s sets its sensor's LIMIT and records PAR_LIMIT (R312). -/
def parHeld (s : State) (k : Nat) : State :=
  let long := match smGet none s.fus.parLim k with
    | some t => s.since t (10 * cycS)
    | none => false
  let u := k / 3
  if long && !bit (s.fld Fd.FUS_PAR_STAT_LIMIT) u then
    logEvent ((s.setFld Fd.FUS_PAR_STAT_LIMIT (setBits (s.fld Fd.FUS_PAR_STAT_LIMIT) u 1 1)).count (Fd.FUS_PAR_COND_V 4)) Ev.parLimit Src.fusion u 0
  else s

/-- What PARALLAX observes beside the ego words: the static CONFIRMED tracks, whose ground velocity must be zero (R312). -/
def parTracks (s : State) : List Word :=
  (s.fus.tracks.filter (fun t => t.st == .confirmed && t.cls == 4)).flatMap (fun t => [t.x, t.y, t.vx, t.vy, BitVec.ofNat 32 t.src])

/-- Clear LIMIT of the sensors none of whose offsets is at its limit any more. -/
def parClear (s : State) : State := s.forN 12 (fun s u =>
  if (List.range 3).all (fun k => (smGet none s.fus.parLim (3 * u + k)).isNone) then
    s.setFld Fd.FUS_PAR_STAT_LIMIT (setBits (s.fld Fd.FUS_PAR_STAT_LIMIT) u 1 0) else s)

/-- One PARALLAX sample. -/
def parSample (s : State) : State :=
  let s := parCount s
  let os := (List.range 36).map (fun k => smGet 0 s.fus.parOff k)
  let s := if parRuns s then (parClear (s.forN 36 (parOffset (s.fus.ego ++ parTracks s) os))).forN 12 parShow else s
  s.forN 36 parHeld

/-- FUS_PAR_CMD.COMMIT (R313): accepted in SERVICE, ROAD and FIELD_MANUAL for the next frame boundary. -/
def parCommit (s : State) : State :=
  let m := s.cmdMode
  if m = Mode.service ∨ m = Mode.road ∨ m = Mode.fieldManual then
    (s.setFld Fd.FUS_PAR_STAT_CODE Code.ok).setFus { s.fus with parPend := true }
  else s.setFld Fd.FUS_PAR_STAT_CODE Code.refused

/-- PARALLAX_COMMIT (R313): FUS_PAR_CMD is written with its KEY and COMMIT. -/
def execParallaxCommit (s : State) : Out := .next (parCommit s)

/-- The commit at the frame boundary: stored extrinsic + offset, and the offsets at 0. -/
def parApply (s : State) : State :=
  if s.fus.parPend then
    let s := s.forN 12 (fun s u => s.forN 3 (fun s k =>
      let a := Ra.FUS_EXTR (6 * u + 3 + k)
      s.setReg a (s.reg a + wordOfInt (smGet 0 s.fus.parOff (3 * u + k)))))
    let s := s.setFus { s.fus with parPend := false, parOff := [], parLim := [] }
    (s.setFld Fd.FUS_PAR_STAT_LIMIT 0).forN 12 parShow
  else s

/-! ### Hand-over and the tick (R301) -/

/-- A result or scan reaches the sequencer, with the travel of point 1 at its T_M; one from a forward lidar is noted (R311). -/
def fusTake (s : State) (r : InfRes) : State :=
  let s := if r.kind == 0 && s.flag (Fd.FUS_SRC_CFG_FWD r.src) then s.setFus { s.fus with fwdCyc := some s.clk.cyc } else s
  s.setFus { s.fus with handed := s.fus.handed ++ [{ r with travel := travelAt s r.tM }] }

/-- Results and scans whose tick has come are handed over; the recorder captures them. While the boundary replays, live results do not
reach the sequencer (R301). -/
def fusHandOver (s : State) : State :=
  let due := s.fus.waitR.filter (fun r => decide (r.tick ≤ s.liveTick))
  let s := s.setFus { s.fus with waitR := s.fus.waitR.filter (fun r => decide (s.liveTick < r.tick)) }
  if s.rpl.live.isSome then s
  else due.foldl (fun (s : State) (r : InfRes) =>
    fusTake (tabRec s TabT.buf (0x0D00 + r.kind * 16 + r.src) (r.status :: r.flags :: r.tM % 2 ^ 32 :: r.tM / 2 ^ 32 :: r.data.map (·.toNat))) r) s

/-- The context of a task's sample in the sequencer's own memory, which the model keeps above the 40-bit addresses; the entry takes 4 cycles of
its budget (R78). DESIGN CHOICE (log 38): a task, which has no slot, runs privileged. -/
def taskCtx (s : State) (k p budget : Nat) : GwCtx :=
  { loop := fusLoop + k, priv := true, base := 2 ^ 40, size := 0x40000, period := p, tick := s.clk.tick, mode := s.bndMode,
    pc := 4 * Config.imageEntry (fusLoop + k), budget := budget - 4, cyc := 4 }

/-- The tasks due at this tick, in the order of their table (R288): task, period, budget. -/
def tasksDue (s : State) : List (Nat × Nat × Nat) :=
  ([(0, 20, 0, 12000), (1, 20, 10, 4000), (2, 400, 0, 24000), (3, 2000, 1105, 30000)] : List (Nat × Nat × Nat × Nat)).filterMap
    (fun x => if taskOn s x.1 && dueNow s x.2.1 x.2.2.1 then some (x.1, x.2.1, x.2.2.2) else none)

/-- Run one task's sample. -/
def runTask (s : State) (k : Nat) : State := match k with
  | 0 => egoSample s
  | 1 => cropSample s
  | 2 => trackSample s
  | _ => parSample s

/-- The crop-sensing and class 0x7 values the EGO task takes (R505). -/
def fusRecKeys (s : State) : List Nat :=
  (List.range 7).map (snKey 60) ++ ((List.range 4).filter (fun w => s.flag (Fd.FUS_WHL_CFG_EN w))).map (fun w => snKey (s.fld (Fd.FUS_WHL_CFG_UNIT w)) 0) ++
    (List.range 8).map (gnsKey 0) ++ (List.range 4).map (gnsKey 4)

/-- The fusion sequencer at a tick boundary. -/
def fusTick (s : State) : State :=
  let s := fusHandOver s
  let s := match s.fus.trkWr with
    | some (t, n) => if t ≤ s.clk.tick then (s.setFld Fd.FUS_TRK_WR_V n).setFus { s.fus with trkWr := none } else s
    | none => s
  let due := tasksDue s
  let ctxs := due.map (fun x => taskCtx s x.1 x.2.1 x.2.2)
  let s := match ctxs with
    | [] => s
    | c :: r => (s.setGw { s.gw with due := smPut [] s.gw.due 8 r }).setCtx 8 (some c)
  let s := if due.any (fun x => x.1 == 0) then recKeys s (fusRecKeys s) else s
  due.foldl (fun s x => runTask s x.1) s

/-- A hang halts the sequencer; from the next tick on every class 0x3 port carries VALID clear (R289). The recorder captures it. -/
def fusHalt (s : State) : State :=
  let s := tabRec (s.setFlag Fd.FUS_STAT_FAILED true) TabT.fault 8 [7]
  let s := (s.setFus { s.fus with running := false }).setCtx 8 none
  let s := s.setGw { s.gw with due := smPut [] s.gw.due 8 [] }
  let s := { s with stage := s.stage.filter (fun x => !(x.key / 2 ^ 28 == 3)) }
  let s := s.forN 3 (fun s k => fusInvalid s k (s.clk.tick + 1))
  logEvent (showRun s) Ev.fusHang Src.fusion 0 0

/-- FUS_HANG (R289). -/
def execFusHang (s : State) : Out := if s.fus.running && !s.flag Fd.FUS_STAT_FAILED then .next (fusHalt s) else .next s

/-! ### Inference (R300, R301) -/

/-- Job `a` starts before `b`: highest PRI, earliest ARR_DT, lowest number. -/
def infBefore (s : State) (a b : InfJob) : Bool :=
  let pa := s.fld (Fd.FUS_INF_JOB_CFG_PRI a.job)
  let pb := s.fld (Fd.FUS_INF_JOB_CFG_PRI b.job)
  if pa ≠ pb then decide (pb < pa) else if a.arrDt ≠ b.arrDt then decide (a.arrDt < b.arrDt) else decide (a.job < b.job)

/-- The ready job that starts next. -/
def infBest (s : State) : Option InfJob := s.fus.readyJ.foldl (fun a j => match a with
  | some x => if infBefore s j x then some j else a
  | none => some j) none

/-- The array runs fewer than 4 jobs, compute has not stopped (R75), and the best ready job starts (R300). -/
def infStart (s : State) : State := match infBest s with
  | some j =>
    if s.fus.runJ.length < 4 ∧ s.pm.hot = false then s.setFus { s.fus with readyJ := s.fus.readyJ.erase j, runJ := s.fus.runJ ++ [j] } else s
  | none => s

/-- INFERENCE_JOB_START (R300). What is ready starts at the latest at the next tick. -/
def execInferenceJobStart (s : State) : Out := .next (infStart s)

/-- The payload of a result of a kind (R301): COUNT object records, NEAR with 8 sections of COUNT bins, or two fractions; with the COUNT its header
carries. -/
def infPayload (kind count : Nat) (data : List Word) : Nat × List Word :=
  let n := if kind = 1 then min 128 count else if kind = 2 then min 64 count else 0
  let len := if kind = 1 then 8 * n else if kind = 2 then 1 + 8 * n else 2
  (n, padTo 0 len (data.take len))

/-- Write a result into its job's ring, the header last, and hand it over at the next tick boundary (R301). -/
def infResult (s : State) (j : InfJob) (status count : Nat) (data : List Word) : State :=
  let k := j.job
  let slots := max 1 (s.fld (Fd.FUS_INF_JOB_RING_CFG_SLOTS k))
  let slot := (s.fld (Fd.FUS_INF_JOB_STAT_RESULTS k) + s.fld (Fd.FUS_INF_JOB_STAT_ABORTS k)) % slots
  let a := s.reg64 (Ra.FUS_INF_JOB_RING_LO k) (Ra.FUS_INF_JOB_RING_HI k) + slot * (s.fld (Fd.FUS_INF_JOB_RING_CFG_SIZE k) * 4096)
  let kind := s.fld (Fd.FUS_INF_JOB_CFG_KIND k)
  let s := writeIova s 0x0F (a + 32) (data.flatMap (fun w => leBytes 4 w.toNat))
  let s := writeIova s 0x0F a (leBytes 8 j.arrDt ++ leBytes 8 j.tM ++ leBytes 4 j.fcnt ++ leBytes 2 j.epoch ++ leBytes 1 kind ++ leBytes 1 status ++
    leBytes 2 count ++ leBytes 1 (j.flags % 4) ++ leBytes 5 0)
  let s := s.count (if status = 0 then Fd.FUS_INF_JOB_STAT_RESULTS k else Fd.FUS_INF_JOB_STAT_ABORTS k)
  s.setFus { s.fus with waitR := s.fus.waitR ++ [{ kind := kind, src := k, status := status, tM := j.tM, flags := j.flags, data := data, tick := s.liveTick + 1 }] }

/-- INFERENCE_RESULT (R301): the running job `j` completes with its payload. -/
def execInferenceResult (j : Fin 8) (count : Half) (data : List Word) (s : State) : Out := match s.fus.runJ.find? (fun x => x.job == j.val) with
  | some x =>
    let p := infPayload (s.fld (Fd.FUS_INF_JOB_CFG_KIND x.job)) count.toNat data
    .next (infResult (s.setFus { s.fus with runJ := s.fus.runJ.erase x }) x 0 p.1 p.2)
  | none => .next s

/-- A job is past its deadline. -/
def infLate (s : State) (j : InfJob) : Bool := s.since j.ready (max 1 (s.fld (Fd.FUS_INF_JOB_CFG_DEADLINE j.job)) * cycUs)

/-- Jobs that have not completed by their ready time + DEADLINE are aborted, their results STATUS 2 (R300). -/
def infAborts (s : State) : State := ((s.fus.runJ ++ s.fus.readyJ).filter (infLate s)).foldl (fun s x =>
  infResult (s.setFus { s.fus with runJ := s.fus.runJ.erase x, readyJ := s.fus.readyJ.erase x }) x 2 0 []) s

/-- INFERENCE_DEADLINE_ABORT (R300). A tick does the same on its own. -/
def execInferenceDeadlineAbort (s : State) : Out := .next (infAborts s)

/-! ### Lidar scans (R305) -/

/-- Discard the scan in assembly: the datagrams of its sensor time that still come belong to it. -/
def scanDrop (s : State) (n : Nat) : State :=
  let t := (smGet none s.fus.scan n).map (·.sens)
  (s.setFus { s.fus with scan := smPut none s.fus.scan n none, scanOff := smPut none s.fus.scanOff n t }).count (Fd.FUS_SRC_STAT_DISCARDED n)

/-- A datagram of an enabled source: `sub` is its arrival in DTB cycles within the tick. -/
def lidarDatagram (s : State) (n sens count seq : Nat) (last : Bool) (recs : List Word) (sub : Nat) : State :=
  if !s.flag (Fd.FUS_SRC_CFG_EN n) || smGet none s.fus.scanOff n == some sens then s
  else
    let cur := smGet none s.fus.scan n
    let same := match cur with
      | some x => x.sens == sens
      | none => false
    let s := if cur.isSome && !same then scanDrop s n else s
    let s := if same then s else streamSample (s.setFus { s.fus with scanOff := smPut none s.fus.scanOff n none }) (6 + n) (s.dtSub sub) sens
    let x := match smGet none s.fus.scan n with
      | some x => x
      | none => { sens := sens, first := s.clk.cyc, next := seq, arrDt := s.dtSub sub }
    let s := s.setFus { s.fus with scan := smPut none s.fus.scan n (some x) }
    if seq ≠ x.next then scanDrop s n
    else
      let x := { x with next := (seq + 1) % 65536, recs := x.recs ++ padTo 0 (8 * min 44 count) recs }
      if last then
        let r : InfRes := {
          kind := 0, src := n, status := 0, tM := measTime s (6 + n) x.sens x.arrDt,
          flags := b2n (s.flag (Fd.CLK_STRM_STAT_SLIPPED (6 + n))) + 2 * b2n (s.timeState == tHoldover), data := x.recs, tick := s.liveTick + 1 }
        let s := s.setFld (Fd.FUS_SRC_STAT_OBJECTS n) (satU 8 (x.recs.length / 8))
        s.setFus { s.fus with scan := smPut none s.fus.scan n none, waitR := s.fus.waitR ++ [r] }
      else s.setFus { s.fus with scan := smPut none s.fus.scan n (some x) }

/-- LIDAR_DATAGRAM (R305): a datagram of external lidar source `n`. -/
def execLidarDatagram (n : Fin 6) (sens : Long) (count : Byte) (last : Bool) (seq : Half) (recs : List Word) (sub : Fin 8000) (s : State) : Out :=
  .next (lidarDatagram s n sens.toNat count.toNat seq.toNat last recs sub)

/-- A scan whose first datagram came 50 ms ago without LAST is discarded (R305). -/
def scanExpire (s : State) (n : Nat) : State := match smGet none s.fus.scan n with
  | some x => if s.since x.first (50 * cycMs) then scanDrop s n else s
  | none => s

/-- SCAN_TIMEOUT (R305). A tick does the same on its own. -/
def execScanTimeout (n : Fin 6) (s : State) : Out := .next (scanExpire s n)

/-- The inference array and the lidar sources at a tick boundary (R300, R305): late jobs are aborted, ready ones start, scans expire. -/
def infTick (s : State) : State := (((infAborts s).forN 4 (fun s _ => infStart s))).forN 6 scanExpire

/-! ### Configuration (R290, R293, R294) -/

/-- A write of a FUS register waits for the next frame boundary; in REPLAY an application core's is ignored. -/
def fusWrite (s : State) (init addr : Nat) (v : Word) : State :=
  if s.rpl.live.isSome ∧ init < 4 then s
  else if addr = Ra.FUS_PAR_CMD then
    if bits v.toNat 16 16 = 0x9A21 ∧ bit v.toNat 0 = true then parCommit (tabCmd s addr [v.toNat]) else s
  else (tabCmd s addr [v.toNat]).setFus { s.fus with cfgPend := s.fus.cfgPend ++ [(addr, v)] }

/-- The rotation's rows are orthonormal within 10^-3 per element (R293). -/
def rotOk (m : List Word) : Bool :=
  let g := fun (i j : Nat) => m.getD (3 * i + j) 0
  let dot := fun (i j : Nat) => fAdd (fAdd (fMul (g i 0) (g j 0)) (fMul (g i 1) (g j 1))) (fMul (g i 2) (g j 2))
  (List.range 3).all (fun i => (List.range 3).all (fun j => fle (fabs (fSub (dot i j) (if i = j then fOne else 0))) (fOfRat 1 1000)))

/-- A configuration write is rejected with BAD_ARGUMENT: a wheel unit 48 to 63, an inference KIND outside 1 to 4. -/
def fusBad (a : Nat) (v : Word) : Bool :=
  let o := a - Ra.FUS_WHL_CFG 0
  (decide (Ra.FUS_WHL_CFG 0 ≤ a ∧ o < 16) && decide (48 ≤ bits v.toNat 22 6)) ||
  ((List.range 8).any (fun j => a == Ra.FUS_INF_JOB_CFG j) && bit v.toNat 31 && !decide (1 ≤ bits v.toNat 28 3 ∧ bits v.toNat 28 3 ≤ 4))

/-- The rotation matrix a batch of writes would leave. -/
def rotAfter (s : State) (l : List (Nat × Word)) : List Word :=
  (List.range 9).map (fun k => l.foldl (fun a x => if x.1 = Ra.FUS_IMU_ROT k then x.2 else a) (s.reg (Ra.FUS_IMU_ROT k)))

/-- While TRACK does not run, TRK_OK is clear, and group 7 carries VALID clear with it (R311). -/
def trackOff (s : State) : State :=
  if s.flag Fd.FUS_STAT_TRK_OK && !taskOn s 2 then fusInvalid (s.setFlag Fd.FUS_STAT_TRK_OK false) 2 s.clk.tick else s

/-- The waiting configuration writes take effect at a frame boundary (R290). -/
def fusCfgApply (s : State) : State :=
  let l := s.fus.cfgPend
  let s := s.setFus { s.fus with cfgPend := [] }
  let isRot := fun (a : Nat) => (List.range 9).any (fun k => a == Ra.FUS_IMU_ROT k)
  let rot := l.any (fun x => isRot x.1) && !rotOk (rotAfter s l)
  let s := if rot then s.setFld Fd.FUS_STAT_CODE_CODE Code.badArgument else s
  let s := l.foldl (fun s x =>
    if rot && isRot x.1 then s
    else if fusBad x.1 x.2 then s.setFld Fd.FUS_STAT_CODE_CODE Code.badArgument
    else plainWrite s x.1 x.2) s
  let far := fun (k : Nat) (r : Nat) => decide (10 < ((s.reg (Ra.FUS_PT (3 + k))).toInt - (s.reg r).toInt).natAbs)
  let s := s.setFlag Fd.FUS_STAT_PT_MISMATCH (far 0 (Ra.GNS_REFPT_X 1) || far 1 (Ra.GNS_REFPT_Y 1) || far 2 (Ra.GNS_REFPT_Z 1))
  trackOff (showRun (parApply s))

/-- The sequencer starts its tasks (boot step 7). -/
def fusStart (s : State) : State := showRun (s.setFus { s.fus with running := true })

end Sys2Proof.Machine
end

