-- ==== Sys2Proof/Machine/Eth.lean ====
section
/-! DEFINITION. The Ethernet switch: ports, forwarding, ARP and ICMP echo, gPTP, gate lists, and UDP datagrams (R394–R397). Ports 0–3 are
ETH0–ETH3, port 4 the application complex. -/

namespace Sys2Proof.Machine

/-- The port passes frames. -/
def ethUp (s : State) (p : Nat) : Bool := decide (4 ≤ p) || (s.flag (Fd.ETH_PORT_CFG_EN p) && s.flag (Fd.ETH_PORT_STAT_LINK p))

/-- A frame of an external port is dropped. -/
def ethDrop (s : State) (p : Nat) : State := if p < 4 then s.count (Fd.ETH_PORT_STAT_DROPS p) else s

/-- The module's IPv4 address, held in the first IP register. -/
def ownIp (s : State) : Nat := (s.reg (Ra.ETH_IP 0)).toNat

/-- A big-endian number of `n` bytes at an offset, and its bytes. -/
def beNum (b : List Byte) (o n : Nat) : Nat := leNat ((b.drop o).take n).reverse
def beBytes (n v : Nat) : List Byte := (leBytes n v).reverse

/-- ETH_LINK_CHANGE (R394): port `p` has gained or lost its link; its signal quality index. A grandmaster behind a lost link is lost. -/
def execEthLinkChange (p : Fin 4) (up : Bool) (sqi : Fin 8) (s : State) : Out :=
  let gone := !up && s.eth.ptp.any (fun x => x.1 == p.val)
  .next (((if gone then s.setEth { s.eth with ptp := none } else s).setFlag (Fd.ETH_PORT_STAT_LINK p) up).setFld (Fd.ETH_PORT_STAT_SQI p) sqi)

/-! ### Gate lists (R397) -/

/-- The entries of a list up to the first without an interval. -/
def gclOf (l : List Gate) : List Gate := l.takeWhile (fun g => g.2 != 0)

/-- CYCLE in µs. -/
def gclCycle (l : List Gate) : Nat := l.foldl (fun a g => a + g.2) 0

/-- A write of the second list data word stores the entry selected by ETH_GCL_IDX: port in [15:8], entry in [7:0]; gates in the first word,
interval in the second. -/
def gclDataWrite (s : State) (v : Word) : State :=
  let ix := (s.reg Ra.ETH_GCL_IDX).toNat
  let p := bits ix 8 8
  let i := bits ix 0 8
  let s := s.setReg (Ra.ETH_GCL_DATA 1) v
  if p < 4 ∧ i < 32 then
    let l := padTo (0, 0) 32 (smGet [] s.eth.gclSh p)
    s.setEth { s.eth with gclSh := smPut [] s.eth.gclSh p (setAt l i ((s.reg (Ra.ETH_GCL_DATA 0)).toNat % 256, v.toNat)) }
  else s

/-- COMMIT of a port: BAD_ARGUMENT unless CYCLE divides 10 000 µs; else the shadow waits for the frame boundary. -/
def gclCommit (s : State) (p : Nat) : State :=
  let l := gclOf (smGet [] s.eth.gclSh p)
  let ok := gclCycle l != 0 && 10000 % gclCycle l == 0
  let s := s.setReg (Ra.ETH_GCL_STAT p) (BitVec.ofNat 32 ((if ok then Code.ok else Code.badArgument) * 2 ^ 16))
  if ok then s.setEth { s.eth with gclP := smPut none s.eth.gclP p (some l) } else s

/-- GCL_COMMIT (R397): COMMIT of port `p` is written. -/
def execGclCommit (p : Fin 4) (s : State) : Out := .next (gclCommit s p)

/-- At a major frame boundary committed lists come into force. -/
def gclApply (s : State) : State := s.forN 4 (fun s p => match smGet none s.eth.gclP p with
  | some l =>
    let s := s.setEth { s.eth with gcl := smPut [] s.eth.gcl p l, gclP := smPut none s.eth.gclP p none }
    s.setReg (Ra.ETH_GCL_CYCLE p) (BitVec.ofNat 32 (gclCycle l))
  | none => s)

/-- The longest time in ns for which a class's gate is open in a list that repeats. -/
def gateRun (l : List Gate) (cls : Nat) : Nat :=
  ((l ++ l).foldl (fun (a : Nat × Nat) g => if bit g.1 cls then (a.1 + 1000 * g.2, max a.2 (a.1 + 1000 * g.2)) else (0, a.2)) (0, 0)).2

/-- A frame of `len` bytes of a class can start at a port: its gate is open long enough to finish it at 1 Gb/s (R397). -/
def gateFits (s : State) (p cls len : Nat) : Bool :=
  decide (4 ≤ p) || !s.flag (Fd.ETH_PORT_CFG_QBV_EN p) || decide (8 * len ≤ gateRun (smGet [] s.eth.gcl p) cls)

/-! ### gPTP (R396) -/

/-- clockClass announced in the present time state. -/
def ownClass (s : State) : Nat := match s.timeState with
  | 1 => 6
  | 2 => 7
  | _ => 248

/-- The rank of a clock in best master selection; the lower wins. -/
def ptpRank (p1 cls p2 : Nat) : Nat := p1 * 65536 + cls * 256 + p2

/-- The module's own rank. -/
def ownRank (s : State) : Nat := ptpRank (s.fld Fd.ETH_PTP_CFG_PRIO1) (ownClass s) (s.fld Fd.ETH_PTP_CFG_PRIO2)

/-- Show role and grandmaster. -/
def ptpShow (s : State) : State :=
  let show_ := fun (s : State) (role cls : Nat) (gps : Bool) (port : Nat) =>
    ((s.setFld Fd.ETH_PTP_STAT_ROLE role).setFld Fd.ETH_PTP_STAT_GM_CLASS cls).setFld Fd.ETH_PTP_STAT_SLAVE_PORT port |>.setFlag Fd.ETH_PTP_STAT_GM_GPS gps
  let gm := s.flag Fd.ETH_PTP_CFG_GM_CAP
  if !s.flag Fd.ETH_PTP_CFG_EN then show_ s 0 248 false 0
  else match s.eth.ptp with
    | some (port, rank, gps, _) =>
      if gm && decide (ownRank s ≤ rank) then show_ s 1 (ownClass s) (ownClass s != 248) 0
      else show_ s 2 (rank / 256 % 256) (gps == 1) port
    | none => if gm then show_ s 1 (ownClass s) (ownClass s != 248) 0 else show_ s 3 248 false 0

/-- Seconds from the PTP epoch to the GPS epoch. -/
abbrev ptpGps : Int := 315964819

/-- A gPTP message at port `p`: an Announce takes part in best master selection; a Follow_Up from the grandmaster gives the received time at the
ingress stamp of its Sync. -/
def ptpMessage (s : State) (p : Nat) (d : List Byte) (stamp : Nat) : State :=
  if !s.flag Fd.ETH_PTP_CFG_EN then s
  else match beNum d 0 1 % 16 with
    | 0xB =>
      let r := ptpRank (beNum d 47 1) (beNum d 48 1) (beNum d 52 1)
      let x := (p, r, b2n (beNum d 63 1 == 0x20), 0)
      let take := match s.eth.ptp with
        | some (q, r', _, _) => decide (r < r') || q == p
        | none => true
      ptpShow (if take then s.setEth { s.eth with ptp := some x } else s)
    | 8 =>
      if s.fld Fd.ETH_PTP_STAT_ROLE = 2 ∧ s.fld Fd.ETH_PTP_STAT_SLAVE_PORT = p then
        let t : Int := (beNum d 34 6 : Int) * 1000000000 + (beNum d 40 4 : Int) + sint 64 (beNum d 8 8) / 65536
        let ofs := t - ((stamp : Int) + ptpGps * 1000000000)
        let s := s.setReg64 Ra.ETH_PTP_OFS_LO Ra.ETH_PTP_OFS_HI (unsint 64 ofs)
        if s.flag Fd.ETH_PTP_STAT_GM_GPS then noteTimeAid s 1000 else s
      else s
    | _ => s

/-! ### Frames (R394–R396) -/

/-- Note the port of a source address; the table holds 1 024. -/
def ethLearn (s : State) (mac p : Nat) : State :=
  if s.eth.fdb.any (fun x => x.1 == mac) || decide (s.eth.fdb.length < 1024) then
    s.setEth { s.eth with fdb := smPut none s.eth.fdb mac (some p) }
  else s

/-- A group address. -/
def macGroup (mac : Nat) : Bool := bit mac 40

/-- The ports a frame leaves by. -/
def ethPorts (s : State) (p dst : Nat) : List Nat :=
  let all := (List.range 5).filter (fun q => q != p && ethUp s q)
  if macGroup dst then all
  else if dst = Config.macAddr then []
  else match smGet none s.eth.fdb dst with
    | some q => if q = p ∨ ethUp s q = false then [] else [q]
    | none => all

/-- An ARP request for the module's address is answered. -/
def arpReply (s : State) (p : Nat) (d : List Byte) : List (Nat × Nat × List Byte) :=
  if beNum d 6 2 = 1 ∧ beNum d 24 4 = ownIp s then
    [(p, beNum d 8 6, [0, 1, 8, 0, 6, 4, 0, 2] ++ beBytes 6 Config.macAddr ++ beBytes 4 (ownIp s) ++ (d.drop 8).take 10)]
  else []

/-- An ICMP echo request to the module's address is answered: addresses exchanged, type 0, checksum adjusted. -/
def echoReply (s : State) (p src : Nat) (d : List Byte) : List (Nat × Nat × List Byte) :=
  let h := beNum d 0 1 % 16 * 4
  if beNum d 9 1 = 1 ∧ beNum d 16 4 = ownIp s ∧ beNum d h 1 = 8 then
    let c := beNum d (h + 2) 2 + 0x800
    let c := c % 65536 + c / 65536
    [(p, src, d.take 12 ++ (d.drop 16).take 4 ++ (d.drop 12).take 4 ++ (d.drop 20).take (h - 20) ++ [0] ++ (d.drop (h + 1)).take 1 ++
      beBytes 2 c ++ d.drop (h + 4))]
  else []

/-- ETH_FRAME_INGRESS (R394–R396): a frame from `src` to `dst` arrives at port `p` (4: from the application complex) with its tag's PCP, its
EtherType and data. `stamp` is its ingress stamp (for a Follow_Up that of its Sync). -/
def execEthFrameIngress (p : Fin 5) (dst src : Long) (pcp : Option (Fin 8)) (etype : Half) (data : List Byte) (stamp : Long) (s : State) : Out :=
  let s := s.setEth { s.eth with fwd := [] }
  if !ethUp s p.val then .next s
  else if 9000 < data.length + 14 then .next (ethDrop s p.val)
  else
    let s := ethLearn s src.toNat p.val
    if etype.toNat = 0x88F7 then .next (ptpMessage s p.val data stamp.toNat)
    else
      let cls := match pcp with
        | some c => c.val
        | none => if p.val < 4 then s.fld (Fd.ETH_PORT_CFG_PCP p.val) else 0
      let out := ethPorts s p.val dst.toNat
      let sent := out.filter (fun q => gateFits s q cls (data.length + 14))
      let s := (out.filter (fun q => !gateFits s q cls (data.length + 14))).foldl ethDrop s
      let own := if etype.toNat = 0x0806 then arpReply s p.val data else if etype.toNat = 0x0800 then echoReply s p.val src.toNat data else []
      let s := if own.isEmpty then s else s.count (Fd.ETH_IP_V (if etype.toNat = 0x0806 then 13 else 14))
      .next (s.setEth { s.eth with fwd := sent.map (fun q => (q, dst.toNat, data)) ++ own })

/-! ### UDP (R395) -/

/-- The address is the module's or one of its multicast groups. -/
def ipMine (s : State) (a : Nat) : Bool := a == ownIp s || (List.range 4).any (fun g => (s.reg (Ra.ETH_MCAST g)).toNat == a && a != 0)

/-- Words of bytes. -/
def leWords (b : List Byte) : List Word := (List.range (b.length / 4)).map (fun i => BitVec.ofNat 32 (leNat ((b.drop (4 * i)).take 4)))

/-- A whole datagram is delivered: to fusion where its port names an enabled source, else to the application complex; VHP datagrams are the
VHP commands. -/
def udpDeliver (s : State) (port sub : Nat) (d : List Byte) : State :=
  match (List.range 6).find? (fun n => s.flag (Fd.FUS_SRC_CFG_EN n) && s.fld (Fd.FUS_SRC_CFG_PORT n) == port) with
  | some n =>
    let f := beNum d 9 1
    lidarDatagram s n (leNat (d.take 8)) (beNum d 8 1) (leNat ((d.drop 10).take 2)) (bit f 0) (leWords (d.drop 16)) sub
  | none =>
    if port = s.fld Fd.VHP_CFG_PORT ∨ s.pm.appReset = true then s
    else s.setEth { s.eth with appRx := ((port, d) :: s.eth.appRx).take 64 }

/-- The bytes of a datagram whose fragments are all there. -/
def reasmDone (r : Reasm) : Option (List Byte) := match r.total with
  | some n =>
    let l := r.frags.foldl (fun (m : SMap (List Byte)) f => smPut [] m f.1 f.2) []
    let b := l.foldl (fun (a : Option (List Byte)) x => match a with
      | some b => if x.1 = b.length then some (b ++ x.2) else none
      | none => none) (some [])
    match b with
    | some b => if b.length = n then some b else none
    | none => none
  | none => none

/-- A fragment is put with its datagram, in one of 16 buffers. -/
def udpFragment (s : State) (key ofs : Nat) (more : Bool) (d : List Byte) (port sub : Nat) : State :=
  let cur := s.eth.reasm.find? (fun r => r.key == key)
  let others := s.eth.reasm.filter (fun r => r.key != key)
  if cur.isNone && decide (16 ≤ others.length) then s
  else
    let r : Reasm := cur.getD { key := key, at_ := s.cyc }
    let r := { r with frags := r.frags ++ [(ofs, d)], total := if more then r.total else some (ofs + d.length) }
    if 9000 < ofs + d.length then s.setEth { s.eth with reasm := others }
    else match reasmDone r with
      | some b => udpDeliver (s.setEth { s.eth with reasm := others }) port sub b
      | none => s.setEth { s.eth with reasm := others ++ [r] }

/-- ETH_DATAGRAM (R395): a UDP datagram, or with `more` or `ofs` a fragment of one (data at offset `ofs` of the datagram's), for port `port`. -/
def execEthDatagram (src dst : Word) (port id : Half) (ofs : Fin 9001) (more : Bool) (data : List Byte) (sub : Fin 8000) (s : State) : Out :=
  if !ipMine s dst.toNat || decide (s.bootStep < 8) then .next s
  else if ofs.val = 0 ∧ more = false then .next (udpDeliver s port.toNat sub.val data)
  else .next (udpFragment s (src.toNat * 2 ^ 32 + id.toNat * 2 ^ 16 + port.toNat) ofs.val more data port.toNat sub.val)

/-- Datagrams incomplete after 100 ms are dropped, and counted (R395). -/
def reasmExpire (s : State) : State :=
  let late := fun (r : Reasm) => s.since r.at_ (100 * cycMs)
  let n := (s.eth.reasm.filter late).length
  (s.setEth { s.eth with reasm := s.eth.reasm.filter (fun r => !late r) }).count (Fd.ETH_IP_V 15) n

/-- REASSEMBLY_TIMEOUT (R395). A tick does the same on its own. -/
def execReassemblyTimeout (s : State) : Out := .next (reasmExpire s)

end Sys2Proof.Machine
end

