-- ==== Sys2Proof/Machine/Valve.lean ====
section
/-! DEFINITION. Valve drive: channels, banks, the boost arbiter, protection, tests and gating (R403–R408, R413–R427). -/

namespace Sys2Proof.Machine

/-! ### Parts -/

/-- Channel `n` beyond its registers. -/
def State.vch (s : State) (n : Nat) : VlvCh := smGet {} s.vlv.ch n

/-- Replace it. -/
def State.setVch (s : State) (n : Nat) (x : VlvCh) : State := s.setVlv { s.vlv with ch := smPut {} s.vlv.ch n x }

/-- The Facet context of channel `n`. -/
def State.fctx (s : State) (n : Nat) : FacetCtx := smGet {} s.vlv.ctx n

/-- Replace it. -/
def State.setFctx (s : State) (n : Nat) (x : FacetCtx) : State := s.setVlv { s.vlv with ctx := smPut {} s.vlv.ctx n x }

/-- Bank `b` beyond its registers. -/
def State.vbank (s : State) (b : Nat) : VlvBank := smGet {} s.vlv.bank b

/-- Replace it. -/
def State.setVbank (s : State) (b : Nat) (x : VlvBank) : State := s.setVlv { s.vlv with bank := smPut {} s.vlv.bank b x }

/-- The 100 ns step `sub` steps after the present tick boundary, counted since power was applied. -/
def stepAt (s : State) (sub : Nat) : Nat := s.clk.cyc / 16 + sub

/-- The unit of channel `n` in OUT records of the valve drive (R515 KIND 6; the numbering is the model's own). -/
def facetUnit (n : Nat) : Nat := 2 ^ 43 + n

/-- A record of the boundary's valve drive (R427): kind and values with the step within the tick. Inputs are 1 READY, 3 the end of a phase,
5 a fault, 6 a test's result; outputs are 2 a phase granted, 4 a rejection, 7 a hold, 8 off, 9 dither and decay. -/
def facetRec (s : State) (n kind at_ : Nat) (l : List Nat) : State :=
  let d := kind :: (at_ - s.clk.cyc / 16) :: l
  if [1, 3, 5, 6].contains kind then tabRec s TabT.facet n d
  else if digestNow s then s.setVlv { s.vlv with digest := smUpd [] s.vlv.digest (n / 4) (fun l => l ++ n :: d) }
  else tabRec s TabT.out (facetUnit n) d

/-- At the end of a tick each bank's outputs become one digest record, where they are digests (R508). -/
def facetDigest (s : State) : State :=
  let l := s.vlv.digest
  if l.isEmpty then s else l.foldl (fun s x => tabDigest s ((0x80 + x.1) * 256) x.2) (s.setVlv { s.vlv with digest := [] })

/-! ### Setpoints and owners (R405, R406, R424) -/

/-- The key of the Mirror pair's setpoint for VLV00 or VLV01. -/
def steerKey (n : Nat) : Nat := pubKey 9 n

/-- The published setpoint of a channel in mA, limited to 0 to 8 000; 0 without an enabled route. -/
def vlvSet (s : State) (n : Nat) : Nat :=
  let v := if n < 2 then some (s.pubAt (steerKey n)).val
    else (s.ownerRoute 1 n).map (fun e => (s.pubAt (portKey (rtLoop e) (rtOutPort e))).val)
  match v with
  | some w => (max 0 (min 8000 w.toInt)).toNat
  | none => 0

/-- A RUNNING or STARTING loop's route names the channel. -/
def vlvLoopOwned (s : State) (n : Nat) : Bool := match s.ownerRoute 1 n with
  | some e => s.loopState (rtLoop e) == SlotSt.starting || s.loopState (rtLoop e) == SlotSt.running
  | none => false

/-- The channel is busy (R424). -/
def vlvBusy (s : State) (n : Nat) : Bool := decide (n < 2) || vlvLoopOwned s n

/-! ### Phases and the duty window (R404, R415, R416) -/

/-- A channel test of the channel runs: its context is held (R424). -/
def vlvTesting (s : State) (n : Nat) : Bool := match s.vlv.test with
  | some t => t.running && t.test != 3 && t.unit % 32 == n
  | none => false

/-- PHASE as shown. -/
def phaseOf (s : State) (n : Nat) : Nat :=
  let x := s.vch n
  if vlvTesting s n then 6
  else match x.req with
    | some r => if r.start = 0 then 4 else if r.pull then 3 else 2
    | none => if x.held then 1 else 0

/-- The channel is shown as gated. -/
def isGated (s : State) (n : Nat) : Bool := s.fld (Fd.VLV_CH_STAT_PHASE n) == 5

/-- Bring PHASE, RUN, MEAS.TARGET of a channel and the arbiter's part of its bank's status up to date. -/
def vlvShow (s : State) (n : Nat) : State :=
  let b := n / 4
  let s := if isGated s n then s else s.setFld (Fd.VLV_CH_STAT_PHASE n) (phaseOf s n)
  let s := s.setFlag (Fd.VLV_CH_STAT_RUN n) ((s.fctx n).wait != .idle)
  let s := s.setFlag (Fd.VLV_BANK_STAT_BOOSTING b) (s.vbank b).boost.isSome
  let s := match (s.vbank b).boost with
    | some c => s.setFld (Fd.VLV_BANK_STAT_BCH b) c
    | none => s
  s.setFld (Fd.VLV_BANK_STAT_WAITING b) ((s.vbank b).waiting.foldl (fun a x => setBits a x.2 1 1) 0)

/-- DUTY of a bank in steps of the 100 ms window. -/
def dutyLimit (s : State) (b : Nat) : Nat := clampN 1 50 (s.fld (Fd.VLV_BANK_CFG_DUTY b)) * 10000

/-- Boost-phase steps within the last 100 ms, those of a boost test included (R416). -/
def dutyUsed (s : State) (b now : Nat) : Nat :=
  let x := s.vbank b
  let run := match x.boost with
    | some c => if c < 4 then (match (s.vch (4 * b + c)).req with
        | some r => [(r.start, now)]
        | none => []) else (s.vlv.test.map (fun t => (t.at_, now))).toList
    | none => []
  (x.hist ++ run).foldl (fun a h => a + (min now h.2 - max h.1 (now - 1000000))) 0

/-- The rail is ready. -/
def bankReady (s : State) (b : Nat) : Bool := s.flag (Fd.VLV_BANK_STAT_READY b)

/-- Why a request cannot be granted now: 3 not ready, 2 duty, 1 overlap; 0 when it can (R415–R417). -/
def grantBar (s : State) (b now : Nat) : Nat :=
  if !bankReady s b then 3
  else if dutyLimit s b ≤ dutyUsed s b now then 2
  else if (s.vbank b).boost.isSome then 1
  else 0

/-- Start a channel's phase at step `now`. -/
def phaseStart (s : State) (n now : Nat) (r : BoostReq) : State :=
  let b := n / 4
  let s := s.setVch n { s.vch n with req := some { r with start := now } }
  let s := s.setFctx n { s.fctx n with wait := .phase }
  let s := if r.pull then s
    else
      let x := s.vbank b
      let s := s.setVbank b { x with boost := some (n % 4), waiting := x.waiting.filter (fun w => w.2 != n % 4) }
      ((s.count (Fd.VLV_CH_CNT_BOOSTS n)).count (Fd.VLV_BANK_GRANTS_V b)).setFld (Fd.VLV_CH_STAT_CODE n) Code.ok
  facetRec (vlvShow s n) n 2 now [b2n r.pull, r.peak, r.limit]

/-- End a channel's phase or request without more: the boost time enters the window, the bank is free. -/
def phaseDrop (s : State) (n now : Nat) : State :=
  let b := n / 4
  match (s.vch n).req with
  | none => s
  | some r =>
    let s := s.setVch n { s.vch n with req := none }
    let x := s.vbank b
    let x := { x with waiting := x.waiting.filter (fun w => w.2 != n % 4) }
    let x := if x.boost = some (n % 4) then { x with boost := none, hist := ((r.start, now) :: x.hist).filter (fun h => decide (now < h.2 + 1000000)) } else x
    s.setVbank b x

/-- Switch a channel off with fast decay (R404); its context stays as it is. -/
def chanOff (s : State) (n now : Nat) : State :=
  let s := phaseDrop s n now
  let s := s.setVch n { s.vch n with held := false, target := 0, fast := true, keep := false }
  vlvShow (s.setFld (Fd.VLV_CH_MEAS_TARGET n) 0) n

/-- Stop a channel's context. -/
def ctxStop (s : State) (n : Nat) : State := vlvShow (s.setFctx n { s.fctx n with wait := .idle }) n

/-- The channel's context may run: enabled, not gated, not under test, no fault that stops it, no bank short (R408, R421, R424). -/
def chanRuns (s : State) (n : Nat) : Bool :=
  s.flag (Fd.VLV_CH_CFG_EN n) && !isGated s n && !vlvTesting s n && !([2, 4, 7].contains (s.fld (Fd.VLV_CH_STAT_FAULT n))) && s.fld (Fd.VLV_BANK_STAT_FAULT (n / 4)) != 2

/-- Start a channel's context at ENTRY with every register and flag at 0 and no dither, but for one kept over a SWAP (R408, R426). -/
def ctxStart (s : State) (n sub : Nat) : State :=
  if chanRuns s n then
    let s := if (s.vch n).keep then s else s.setVch n { s.vch n with dithA := 0, dithN := 0 }
    vlvShow (s.setFctx n { wait := .ready, pc := s.fld (Fd.VLV_CH_CFG_ENTRY n), step := stepAt s sub }) n
  else s

/-- A pending request retires as CANCELLED, and everything the channel does ends (R418). -/
def chanCancel (s : State) (n sub : Nat) : State :=
  let waits := match (s.vch n).req with
    | some r => r.start == 0
    | none => false
  let s := if waits then s.setFld (Fd.VLV_CH_STAT_CODE n) Code.cancelled else s
  ctxStop (chanOff s n (stepAt s sub)) n

/-! ### Enabling (R406, R408) -/

/-- EN of a channel is set: faults that an enable clears go, and the context starts. -/
def chanEnable (s : State) (n : Nat) : State :=
  let s := s.setFlag (Fd.VLV_CH_CFG_EN n) true
  let s := if [2, 3, 7].contains (s.fld (Fd.VLV_CH_STAT_FAULT n)) ∧ s.fld (Fd.VLV_BANK_STAT_FAULT (n / 4)) ≠ 2 then s.setFld (Fd.VLV_CH_STAT_FAULT n) 0 else s
  ctxStart s n 0

/-- EN of a channel is cleared (R418). -/
def chanDisable (s : State) (n : Nat) : State := chanCancel (s.setFlag (Fd.VLV_CH_CFG_EN n) false) n 0

/-- A write of VLV_CH[n]_CFG; for VB0 only the Mirror pair's counts (R406). -/
def vlvCfgWrite (s : State) (init n : Nat) (v : Word) : State :=
  if n < 4 ∧ init ≠ 0x0C then fabErr s init (Ra.VLV_CH_CFG n) 1
  else
    let was := s.flag (Fd.VLV_CH_CFG_EN n)
    let s := (plainWrite s (Ra.VLV_CH_CFG n) v).setFlag (Fd.VLV_CH_CFG_EN n) was
    if bit v.toNat 31 then (if was then s else chanEnable s n) else if was then chanDisable s n else s

/-- VALVE_CHANNEL_ENABLE (R408): an initiator sets EN of a channel. -/
def execValveChannelEnable (init : Fin 58) (n : Fin 32) (s : State) : Out :=
  .next (vlvCfgWrite s init n (s.reg (Ra.VLV_CH_CFG n) ||| 0x80000000#32))

/-! ### Gating (R425) -/

/-- R53 forbids driving the channel: by the mode the boundary follows, and while a power-fail sequence runs. -/
def vlvGated (s : State) (n : Nat) : Bool :=
  let m := if s.rpl.live.isSome then s.bndMode else s.outMode
  !s.noPf || (if n < 2 then !(steerAllowed m || m == Mode.service) else !valveOwnerMode m)

/-- Follow the mode: a channel that becomes gated ends what it does; one that becomes ungated starts its context. -/
def vlvGate (s : State) (n : Nat) : State :=
  if vlvGated s n = isGated s n then s
  else if isGated s n then ctxStart (vlvShow (s.setFld (Fd.VLV_CH_STAT_PHASE n) 0) n) n 0
  else (chanCancel s n 0).setFld (Fd.VLV_CH_STAT_PHASE n) 5

/-- BAT_B is reversed. -/
def batBRev (s : State) : Bool := bit (s.fld Fd.PWR_SUP_STAT_REV) 0

/-- A bank's converter may run (R425, R553). -/
def convOn (s : State) (b : Nat) : Bool :=
  let m := s.outMode
  s.flag (Fd.VLV_BANK_CFG_EN b) && s.noPf && !s.pm.batBLow && !batBRev s && ((m == Mode.boot && decide (6 ≤ s.bootStep)) || (decide (0x3 ≤ m) && decide (m ≤ 0x8))) &&
    !([3, 4].contains (s.fld (Fd.VLV_BANK_STAT_FAULT b)))

/-- The gates and converters of the whole drive. -/
def vlvGates (s : State) : State :=
  let s := s.forN 32 vlvGate
  s.forN 8 (fun s b => if (s.vbank b).conv = convOn s b then s else s.setVbank b { s.vbank b with conv := convOn s b })

/-! ### The arbiter (R415–R418) -/

/-- Record a rejection: REJ, OVERLAP_REJECT, VALVE_REJECT with its reason; the channel stays as it was. -/
def reject (s : State) (n now why : Nat) : State :=
  let s := phaseDrop s n now
  let s := s.setFctx n { s.fctx n with wait := .ready, rej := true, step := now + 1 }
  let s := (s.setFld (Fd.VLV_CH_STAT_CODE n) Code.overlapReject).setFld (Fd.VLV_BANK_STAT_CODE (n / 4)) Code.overlapReject
  let s := (s.count (Fd.VLV_CH_CNT_REJ n)).count (Fd.VLV_BANK_REJS_V (3 * (n / 4) + (why - 1)))
  logEvent (facetRec (vlvShow s n) n 4 now [why]) Ev.valveReject Src.unit n why

/-- WAIT of a bank in steps. -/
def waitSteps (s : State) (b : Nat) : Nat := min 10000 (s.fld (Fd.VLV_BANK_CFG_WAIT b)) * 10

/-- Earlier request, then lower channel. -/
def insertWait (x : Nat × Nat) : List (Nat × Nat) → List (Nat × Nat)
  | [] => [x]
  | y :: r => if x.1 < y.1 ∨ (x.1 = y.1 ∧ x.2 < y.2) then x :: y :: r else y :: insertWait x r

/-- A BOOST request at step `now`: granted at once, run as PULL under FALLBACK, rejected at once with WAIT = 0, or waiting. -/
def boostRequest (s : State) (n now : Nat) (r : BoostReq) : State :=
  let b := n / 4
  let bar := grantBar s b now
  if bar = 0 then phaseStart s n now r
  else if bar = 3 ∧ s.flag (Fd.VLV_BANK_CFG_FALLBACK b) = true then phaseStart s n now { r with pull := true }
  else if waitSteps s b = 0 then reject s n now bar
  else
    let s := s.setVch n { s.vch n with req := some r }
    let s := s.setFctx n { s.fctx n with wait := .arb }
    vlvShow (s.setVbank b { s.vbank b with waiting := insertWait (now, n % 4) (s.vbank b).waiting }) n

/-- The earliest waiting request of a bank is granted, if it can be (R415). -/
def grantNext (s : State) (b now : Nat) : State := match (s.vbank b).waiting with
  | (_, c) :: _ => match (s.vch (4 * b + c)).req with
    | some r => if grantBar s b now = 0 then phaseStart s (4 * b + c) now r else s
    | none => s
  | [] => s

/-- BOOST_GRANT (R415): no phase runs and the earliest waiting request is granted. The end of a phase and a tick do the same on their own. -/
def execBoostGrant (b : Fin 8) (sub : Fin 500) (s : State) : Out := .next (grantNext s b (stepAt s sub))

/-- A request that has waited WAIT µs by step `now` without a grant ends in the step in which they were over (R415). -/
def waitExpire (s : State) (n now : Nat) : State := match (s.vch n).req with
  | some r =>
    let t := r.reqAt + waitSteps s (n / 4)
    if r.start = 0 ∧ t ≤ now then reject s n t (max 1 (grantBar s (n / 4) t)) else s
  | none => s

/-- BOOST_WAIT_TIMEOUT (R415). A tick does the same on its own. -/
def execBoostWaitTimeout (n : Fin 32) (sub : Fin 500) (s : State) : Out := .next (waitExpire s n (stepAt s sub))

/-- KWIN in steps: lower and upper bound of a kink. -/
def kinkWindow (s : State) (b : Nat) : Nat × Nat :=
  let lo := s.fld (Fd.VLV_BANK_KINK_KWIN_LO b)
  let hi := s.fld (Fd.VLV_BANK_KINK_KWIN_HI b)
  (lo * 100, (if hi ≤ lo then lo + 1 else hi) * 100)

/-- A channel fault with its record (R421). -/
def vlvFault (s : State) (n code : Nat) : State :=
  if s.fld (Fd.VLV_CH_STAT_FAULT n) = code then s
  else
    let s := facetRec (s.setFld (Fd.VLV_CH_STAT_FAULT n) code) n 5 0 [code]
    logEvent (s.raise (Ra.VLV_INT_PEND 0) n) Ev.valveFault Src.unit n code

/-- A channel's fault clears; the recorder notes it. -/
def vlvClear (s : State) (n : Nat) : State := facetRec (s.setFld (Fd.VLV_CH_STAT_FAULT n) 0) n 5 0 [0]

/-- A phase that asked for a kink ended with or without one (R420). -/
def kinkResult (s : State) (n : Nat) (k : Option Nat) : State := match k with
  | some t =>
    let s := (s.count (Fd.VLV_CH_KINK_COUNT n)).setFld (Fd.VLV_CH_KINK_TIME n) t
    let s := s.setVch n { s.vch n with misses := 0 }
    if s.fld (Fd.VLV_CH_STAT_FAULT n) = 5 then s.setFld (Fd.VLV_CH_STAT_FAULT n) 0 else s
  | none =>
    let m := (s.vch n).misses + 1
    let s := (s.setVch n { s.vch n with misses := m }).setFld (Fd.VLV_CH_KINK_TIME n) 0
    if m = max 1 (s.fld (Fd.VLV_CH_CFG_NOKINK_LIM n)) then logEvent (vlvFault s n 5) Ev.valveNokink Src.unit n 0 else s

/-- End a phase at step `now`: PK, KINK and TO, the next instruction on the step after, and the earliest waiting request then (R410, R415). -/
def phaseEnd (s : State) (n now : Nat) (r : BoostReq) (pk : Bool) (k : Option Nat) : State :=
  let s := phaseDrop s n now
  let s := s.setFctx n { s.fctx n with wait := .ready, step := now + 1, pk := pk, kink := k.isSome, tmo := k.isNone }
  let s := if r.kinkOn then kinkResult s n k else s.setFld (Fd.VLV_CH_KINK_TIME n) 0
  let s := facetRec (vlvShow s n) n 3 now [b2n pk, k.getD 0]
  if r.pull then s else grantNext s (n / 4) (now + 1)

/-- A dip in the current at step `t` of a phase is its kink (R419): it lies in the window, after a rise of KDEPTH and before another. -/
def isKink (s : State) (b : Nat) (r : BoostReq) (t before after : Nat) : Bool :=
  let w := kinkWindow s b
  let d := s.fld (Fd.VLV_BANK_KINK_KDEPTH b)
  r.kinkOn && decide (w.1 ≤ t ∧ t ≤ w.2) && decide (d ≤ before ∧ d ≤ after)

/-- Hardware events of the valve drive come from the recording in REPLAY, where nothing flows: a live one has no effect (R425, R427). -/
def vlvLive (s : State) (f : State → State) : State := if s.rpl.live.isSome then s else f s

/-- BOOST_PHASE_END (R410, R419): a phase ends KHOLD µs after its kink, or at its limit. `pk`: the current reached the peak; `dip`: the
local minimum of the filtered current, where there was one. -/
def execBoostPhaseEnd (n : Fin 32) (sub : Fin 500) (pk : Bool) (dip : CurrentDip) (s : State) : Out :=
  let now := stepAt s sub
  match (s.vch n).req with
  | some r =>
    let b := n.val / 4
    let k : Option Nat := (dip.at_.map (·.val)).filter (fun t => isKink s b r t dip.before.toNat dip.after.toNat)
    let due : Bool := match k with
      | some t => decide (r.start + t + s.fld (Fd.VLV_BANK_KINK_KHOLD b) * 10 ≤ now)
      | none => decide (r.start + r.limit ≤ now)
    if r.start ≠ 0 ∧ due = true then .next (vlvLive s (fun s => phaseEnd s n now r pk k)) else .next s
  | none => .next s

/-- READY of a bank becomes `ok`. -/
def readySet (s : State) (b : Nat) (ok : Bool) : State :=
  if ok = bankReady s b then s else facetRec (s.setFlag (Fd.VLV_BANK_STAT_READY b) ok) (32 + b) 1 0 [b2n ok]

/-- BOOST_READY_CHANGE (R417): the rail is at `mv`: READY sets at 90 % of BOOST_V and clears below 80 %. -/
def execBoostReadyChange (b : Fin 8) (mv : Half) (s : State) : Out :=
  let v := clampN 24 60 (s.fld (Fd.VLV_BANK_CFG_BOOST_V b)) * 1000
  let ok := if v * 9 ≤ mv.toNat * 10 then true else if mv.toNat * 10 < v * 8 then false else bankReady s b
  let ok := ok && !([3, 4].contains (s.fld (Fd.VLV_BANK_STAT_FAULT b))) && !batBRev s
  .next (vlvLive s (fun s => readySet (s.setFld (Fd.VLV_BANK_RAIL_MV b) mv.toNat) b ok))

/-! ### The carrier (R405, R413, R414, R418, R426) -/

/-- ILIM of a bank in mA, halved while a ground stud is lost (R414, R425). -/
def bankIlim (s : State) (b : Nat) : Nat :=
  let v := clampN 1000 10000 (s.fld (Fd.VLV_BANK_ILIM_V b))
  if s.flag Fd.PWR_GND_STAT_GND1_LOST || s.flag Fd.PWR_GND_STAT_GND2_LOST then v / 2 else v

/-- Take a channel's setpoint: S = 0 ends a waiting request with WD; the idle time counts. -/
def takeSet (s : State) (n now : Nat) : State :=
  let v := vlvSet s n
  let x := s.vch n
  let off := v == 0 && x.req.isNone && !x.held
  let s := s.setVch n { x with s := v, idleCyc := if off then some (x.idleCyc.getD s.clk.cyc) else none }
  let waits := match x.req with
    | some r => r.start == 0
    | none => false
  let s := if v = 0 ∧ waits = true then
      let s := phaseDrop s n now
      vlvShow (s.setFctx n { s.fctx n with wait := .ready, wd := true, step := now + 1 }) n
    else s
  let s := match (s.fctx n).wait with
    | .sync => s.setFctx n { s.fctx n with wait := .ready, step := now }
    | _ => s
  s.setFlag (Fd.VLV_CH_STAT_BUSY n) (vlvBusy s n)

/-- A channel's share of ILIM: the lower of its hold target and the remainder; a boost or pull does not count; ILIM and its record follow (R414). -/
def shareIlim (s : State) (n room : Nat) : State × Nat :=
  let x := s.vch n
  if x.held && !(x.req.any (fun r => r.start != 0)) then
    let got := min x.target room
    let lim := decide (got < x.target)
    let s := s.setFld (Fd.VLV_CH_MEAS_TARGET n) got
    let s := if lim = s.flag (Fd.VLV_CH_STAT_ILIM n) then s
      else logEvent (s.setFlag (Fd.VLV_CH_STAT_ILIM n) lim) Ev.valveIlim Src.unit n (b2n lim)
    (s, room - got)
  else (s.setFlag (Fd.VLV_CH_STAT_ILIM n) false, room)

/-- Consecutive periods with the target out of reach or reached (R413, R421). -/
def countReach (s : State) (n : Nat) (out : Bool) : State :=
  let x := s.vch n
  if !x.held then s.setVch n { x with unreach := 0 }
  else
    let x := if out then { x with unreach := x.unreach + 1, reached := 0 } else { x with reached := x.reached + 1, unreach := 0 }
    let s := s.setVch n x
    if 20 ≤ x.unreach then vlvFault s n 6 else if 20 ≤ x.reached ∧ s.fld (Fd.VLV_CH_STAT_FAULT n) = 6 then vlvClear s n else s

/-- DTB cycles of a carrier period (R46). -/
abbrev carPeriod : Nat := 4000

/-- OFS in force for bank `b`, 0 to 3 999. -/
def carOfs (s : State) (b : Nat) : Nat := min 3999 (bits (s.runReg (Ra.CLK_VB_PHASE b)).toNat 0 12)

/-- Bank `b` is locked: its carrier is in phase with the tick. -/
def carLocked (s : State) (b : Nat) : Bool := bit (s.runReg Ra.CLK_PLOCK_EN).toNat b

/-- A period that is in progress is complete at cycle `t` (R48); a tick may be two cycles shorter. -/
def carComplete (s : State) (b t : Nat) : Bool := match (s.vbank b).carAt with
  | some l => decide (l + carPeriod ≤ t + 2)
  | none => true

/-- The DTB cycle at which bank `b` starts a carrier period in step `sub` of the tick, if it does (R46): a locked bank OFS cycles after the boundary and
after the mid-tick point; a free-running one 4 000 cycles after its last start. -/
def carrierStart (s : State) (b sub : Nat) : Option Nat :=
  let o := carOfs s b
  let c := s.clk.cyc + 16 * sub
  if carLocked s b then
    let t := if sub = o / 16 then some (s.clk.cyc + o) else if sub = (o + carPeriod) / 16 then some (s.clk.cyc + o + carPeriod) else none
    t.filter (carComplete s b)
  else match (s.vbank b).carAt with
    | some l =>
      let t := l + carPeriod * ((c + 15 - l) / carPeriod)
      if l + carPeriod ≤ t ∧ c ≤ t then some t else none
    | none => some c

/-- Whether bank `b` has started a carrier period in step `sub` of the tick. -/
def carrierIn (s : State) (b sub : Nat) : Bool := (s.vbank b).carAt.any (fun t => t / 16 == stepAt s sub)

/-! ### Code stores (R426) -/

/-- Shadow words become active, and every running context restarts with its hold and dither kept. -/
def swapApply (s : State) (b sub : Nat) : State :=
  let s := s.setVlv { s.vlv with
    active := (List.range 256).foldl (fun m k => smPut 0 m (b * 256 + k) (smGet 0 s.vlv.shadow (b * 256 + k))) s.vlv.active }
  let s := s.setVbank b { s.vbank b with swap := false }
  s.forN 4 (fun s i =>
    let n := 4 * b + i
    if (s.fctx n).wait = .idle then s else ctxStart (s.setVch n { s.vch n with keep := (s.vch n).held }) n sub)

/-- A SWAP that waits is applied at a carrier period start at which no channel of the bank is in a boost, pull or waiting phase. -/
def bankSwapDue (s : State) (b sub : Nat) : State :=
  if (s.vbank b).swap && (List.range 4).all (fun i => (s.vch (4 * b + i)).req.isNone) then swapApply s b sub else s

/-- A write of VLV_BANK[b]_SWAP. -/
def bankSwap (s : State) (init b : Nat) (v : Word) : State :=
  if b = 0 ∧ init ≠ 0x0C then fabErr s init (Ra.VLV_BANK_SWAP b) 1
  else if bits v.toNat 16 16 = 0xFA5E ∧ bit v.toNat 0 = true then s.setVbank b { s.vbank b with swap := true }
  else s

/-- VLV_BANK_SWAP (R426): an initiator writes SWAP with its key and GO. -/
def execVlvBankSwap (init : Fin 58) (b : Fin 8) (s : State) : Out := .next (bankSwap s init b 0xFA5E0001#32)

/-- SWAP_APPLY (R426): at a carrier period start of the bank in this step. A carrier period start does the same on its own. -/
def execSwapApply (b : Fin 8) (sub : Fin 500) (s : State) : Out := if carrierIn s b sub then .next (bankSwapDue s b sub) else .next s

/-- A write into a code store: the shadow half takes it (R406, R426). -/
def codeWrite (s : State) (init a : Nat) (v : Word) : State :=
  let b := (a - 0x40B80000) / 0x1000
  let o := a % 0x1000
  if b = 0 ∧ init ≠ 0x0C then fabErr s init a 1
  else if 0x400 ≤ o ∧ o < 0x800 then s.setVlv { s.vlv with shadow := smPut 0 s.vlv.shadow (b * 256 + (o - 0x400) / 4) v }
  else s

/-- A read of a code store. -/
def codeRead (s : State) (a : Nat) : Word :=
  let b := (a - 0x40B80000) / 0x1000
  let o := a % 0x1000
  if o < 0x400 then smGet 0 s.vlv.active (b * 256 + o / 4)
  else if o < 0x800 then smGet 0 s.vlv.shadow (b * 256 + (o - 0x400) / 4)
  else 0

/-! ### Protection (R421) -/

/-- A fault of channel `n` that stops it: off with fast decay, its context stopped (R421). -/
def chanFault (s : State) (n code : Nat) : State := ctxStop (chanOff (vlvFault s n code) n (stepAt s 0)) n

/-- VALVE_SHORT (R421): the current of a channel that is on exceeds 10 A. -/
def execValveShort (n : Fin 32) (s : State) : Out := .next (vlvLive s (fun s => chanFault s n 2))

/-- A bank fault with its record. -/
def bankFault (s : State) (b code : Nat) : State :=
  let s := s.setFld (Fd.VLV_BANK_STAT_FAULT b) code
  let s := s.setVbank b { s.vbank b with cause := true }
  logEvent (((facetRec s (32 + b) 5 0 [code]).raise (Ra.VLV_INT_PEND 1) b).count (Fd.VLV_BANK_FAULTS_V b)) Ev.valveFault Src.unit (0x80 + b) code

/-- The high side of a bank is off: all four channels are off, and their contexts stop. -/
def bankOff (s : State) (b : Nat) : State := s.forN 4 (fun s i => ctxStop (chanOff s (4 * b + i) (stepAt s 0)) (4 * b + i))

/-- The cause of a bank's fault is gone; the recorder notes it. -/
def causeGone (s : State) (b : Nat) : State := facetRec (s.setVbank b { s.vbank b with cause := false }) (32 + b) 5 0 [0]

/-- VALVE_GROUND_SHORT (R421): current flows with the low side off (`present`), or no longer. -/
def execValveGroundShort (n : Fin 32) (present : Bool) (s : State) : Out :=
  let b := n.val / 4
  .next (vlvLive s (fun s => if present then bankOff (bankFault (vlvFault s n 3) b 2) b else causeGone s b))

/-- The low-side switch has cooled: the context restarts. -/
def chanCool (s : State) (n : Nat) : State := if s.fld (Fd.VLV_CH_STAT_FAULT n) = 4 then ctxStart (vlvClear s n) n 0 else s

/-- VALVE_OVERTEMP (R421): the low-side switch is above 175 °C (`hot`), or has cooled below 150 °C. -/
def execValveOvertemp (n : Fin 32) (hot : Bool) (s : State) : Out :=
  .next (vlvLive s (fun s => if hot then chanFault s n 4 else chanCool s n))

/-- An open coil is detected, by the off-state pull-up with OPEN_DET or in a hold phase; or the condition has been absent for 100 ms. -/
def coilOpen (s : State) (n : Nat) (present : Bool) : State :=
  if present then (if s.flag (Fd.VLV_CH_CFG_OPEN_DET n) || (s.vch n).held then vlvFault s n 1 else s)
  else if s.fld (Fd.VLV_CH_STAT_FAULT n) = 1 then vlvClear s n
  else s

/-- VALVE_OPEN_COIL (R421). -/
def execValveOpenCoil (n : Fin 32) (present : Bool) (s : State) : Out := .next (vlvLive s (fun s => coilOpen s n present))

/-- The rail exceeds 64 V (code 4) or the converter fails (code 3): the converter is off and READY clear. -/
def railFault (s : State) (b code : Nat) : State :=
  let s := readySet (bankFault s b code) b false
  s.setVbank b { s.vbank b with conv := false }

/-- RAIL_FAULT (R421): the rail exceeds 64 V (`overV`) or the converter fails; with `present` false the cause is gone. -/
def execRailFault (b : Fin 8) (overV present : Bool) (s : State) : Out :=
  .next (vlvLive s (fun s => if present then railFault s b (if overV then 4 else 3) else causeGone s b))

/-- A write of VLV_BANK[b]_CLR: clears the bank fault once its cause is gone. -/
def bankClr (s : State) (init b : Nat) (v : Word) : State :=
  if b = 0 ∧ init ≠ 0x0C then fabErr s init (Ra.VLV_BANK_CLR b) 1
  else if bits v.toNat 16 16 = 0xFA5E ∧ (s.vbank b).cause = false then s.setFld (Fd.VLV_BANK_STAT_FAULT b) 0
  else s

/-- VLV_BANK_CLR (R421): an initiator writes CLR with its key. -/
def execVlvBankClr (init : Fin 58) (b : Fin 8) (s : State) : Out := .next (bankClr s init b 0xFA5E0001#32)

/-! ### Tests (R423, R424) -/

/-- The channels a test disturbs. -/
def vlvTestChans (test unit : Nat) : List Nat := if test = 3 then (List.range 4).map (fun i => 4 * (unit % 8) + i) else [unit]

/-- R424's table. -/
def vlvTestCode (mode : Nat) (mirror busy : Bool) : Nat :=
  if !(decide (0x3 ≤ mode) && decide (mode ≤ 0x8)) then Code.refused
  else if mirror then Code.refused
  else if !busy ∨ mode = Mode.service ∨ mode = Mode.road then Code.ok
  else if mode = Mode.fieldManual ∨ mode = Mode.fieldAssist then Code.deferred
  else Code.refused

/-- VLV_TEST_CMD is written in a mode. -/
def vlvTestCmd (s : State) (mode test unit : Nat) : State :=
  if test < 1 ∨ 3 < test then s.setFld Fd.VLV_TEST_RES_CODE Code.badArgument
  else if s.vlv.test.isSome then s.setFld Fd.VLV_TEST_RES_CODE Code.refused
  else
    let unit := if test = 3 then unit % 8 else unit
    let mirror := if test = 3 then unit == 0 else decide (unit < 2)
    let c := vlvTestCode mode mirror ((vlvTestChans test unit).any (vlvBusy s))
    let s := s.setFld Fd.VLV_TEST_RES_CODE c
    if c = Code.refused then s
    else
      let s := ((s.setFlag Fd.VLV_TEST_RES_PENDING true).setFld Fd.VLV_TEST_RES_UNIT unit).setFld Fd.VLV_TEST_RES_TEST test
      (s.setFlag Fd.VLV_TEST_RES_PASS false).setVlv { s.vlv with test := some { test := test, unit := unit, deferred := c == Code.deferred } }

/-- VALVE_OPEN_TEST (R423): TEST 1 of a channel is written to VLV_TEST_CMD. -/
def execValveOpenTest (n : Fin 32) (s : State) : Out := .next (vlvTestCmd s s.mode 1 n)

/-- COIL_TEST (R423): TEST 2 of a channel is written. -/
def execCoilTest (n : Fin 32) (s : State) : Out := .next (vlvTestCmd s s.mode 2 n)

/-- BOOST_TEST (R423): TEST 3 of a bank is written. -/
def execBoostTest (b : Fin 8) (s : State) : Out := .next (vlvTestCmd s s.mode 3 b)

/-- The idle point of a channel (R424). -/
def vlvIdle (s : State) (n : Nat) : Bool :=
  !vlvBusy s n || s.bndMode == Mode.service || s.bndMode == Mode.road || match (s.vch n).idleCyc with
    | some t => s.since t (10 * cycMs)
    | none => false

/-- The bank of a test; UNIT is a bank (three bits) for TEST 3, else a channel (five bits, R423). -/
def vlvTestBank (t : TestRun) : Nat := if t.test = 3 then t.unit % 8 else t.unit % 32 / 4

/-- At a carrier period start of its bank an accepted test starts, a deferred one at its idle point; a bank test as a boost phase under arbitration, after
the requests that wait (R423, R424). -/
def vlvTestStart (s : State) (b sub : Nat) : State := match s.vlv.test with
  | some t =>
    let now := stepAt s sub
    let idle := !t.deferred || (vlvTestChans t.test t.unit).all (vlvIdle s)
    let free := t.test != 3 || (grantBar s b now == 0 && (s.vbank b).waiting.isEmpty)
    if vlvTestBank t = b ∧ t.running = false ∧ idle = true ∧ free = true then
      let s := if t.test = 3 then s.setVbank b { s.vbank b with boost := some 4 } else ctxStop (chanOff s (t.unit % 32) now) (t.unit % 32)
      let s := s.setVlv { s.vlv with test := some { t with running := true, at_ := now } }
      let s := ((s.setFlag Fd.VLV_TEST_RES_PENDING false).setFlag Fd.VLV_TEST_RES_RUNNING true).setFld Fd.VLV_TEST_RES_CODE Code.ok
      vlvShow s (if t.test = 3 then 4 * b else t.unit % 32)
    else s
  | none => s

/-- VALVE_TEST_START (R424): in a step in which the test's bank has started a carrier period. A carrier period start does the same on its own. -/
def execValveTestStart (sub : Fin 500) (s : State) : Out := match s.vlv.test with
  | some t => if carrierIn s (vlvTestBank t) sub then .next (vlvTestStart s (vlvTestBank t) sub) else .next s
  | none => .next s

/-- Steps a test takes (R423). -/
def vlvTestSteps (test : Nat) : Nat := if test = 1 then 20000 else if test = 2 then 10000 else 200000

/-- The running test ends in step `sub` with its result, R (10 mΩ) and L (0.1 mH), and the context restarts. -/
def vlvTestEnd (s : State) (sub : Nat) (t : TestRun) (pass : Bool) (r l : Half) : State :=
  let now := stepAt s sub
  let s := s.setVlv { s.vlv with test := none }
  let s := (s.setFlag Fd.VLV_TEST_RES_RUNNING false).setFlag Fd.VLV_TEST_RES_PASS pass
  let s := facetRec s t.unit 6 now [t.test, b2n pass, r.toNat, l.toNat]
  if t.test = 3 then
    let b := vlvTestBank t
    let x := s.vbank b
    let s := s.setVbank b { x with boost := none, hist := ((t.at_, now) :: x.hist).filter (fun h => decide (now < h.2 + 1000000)) }
    grantNext (vlvShow s (4 * b)) b (now + 1)
  else
    let n := t.unit % 32
    let s := if t.test = 2 then
        (((s.setReg Ra.VLV_TEST_R (r.zeroExtend 32)).setReg Ra.VLV_TEST_L (l.zeroExtend 32)).setFld (Fd.VLV_CH_COIL_R n) r.toNat).setFld
          (Fd.VLV_CH_COIL_L n) l.toNat
      else s
    ctxStart (vlvShow s n) n sub

/-- VALVE_TEST_END (R424): the running test's time is over. -/
def execValveTestEnd (sub : Fin 500) (pass : Bool) (r l : Half) (s : State) : Out := match s.vlv.test with
  | some t =>
    if t.running && decide (t.at_ + vlvTestSteps t.test ≤ stepAt s sub) then .next (vlvLive s (fun s => vlvTestEnd s sub t pass r l)) else .next s
  | none => .next s

/-! ### Recorded hardware events (R427) -/

/-- A recorded fault of a channel, or its end. What the sequencer itself finds (5, 7) comes about again on its own. -/
def faultInput (s : State) (n code : Nat) : State := match code with
  | 0 => if s.fld (Fd.VLV_CH_STAT_FAULT n) = 4 then chanCool s n else vlvClear s n
  | 2 | 4 => chanFault s n code
  | 1 | 3 | 6 => vlvFault s n code
  | _ => s

/-- A recorded fault of a bank, or the end of its cause. -/
def bankInput (s : State) (b code : Nat) : State := match code with
  | 0 => causeGone s b
  | 2 => bankOff (bankFault s b 2) b
  | _ => railFault s b code

/-- A recorded input takes effect in its step: READY, the end of a phase, a fault, a test's result. -/
def facetInput (s : State) (r : TabRec) : State := match r.data with
  | 1 :: _ :: ok :: _ => readySet s (r.unit - 32) (ok == 1)
  | 3 :: o :: pk :: k :: _ => match (s.vch r.unit).req with
    | some q => if q.start = 0 then s else phaseEnd s r.unit (stepAt s o) q (pk == 1) (if k = 0 then none else some k)
    | none => s
  | 5 :: _ :: c :: _ => if 32 ≤ r.unit then bankInput s (r.unit - 32) c else faultInput s r.unit c
  | 6 :: o :: _ :: pass :: x :: l :: _ => match s.vlv.test with
    | some t => if t.running then vlvTestEnd s o t (pass == 1) (BitVec.ofNat 16 x) (BitVec.ofNat 16 l) else s
    | none => s
  | _ => s

/-- In REPLAY the recorded inputs of the tick up to step `now` take effect. -/
def facetDue (s : State) (now : Nat) : State :=
  let due := fun (r : TabRec) => decide (stepAt s (r.data.getD 1 0) ≤ now)
  let l := s.rpl.facet.filter due
  if l.isEmpty then s else l.foldl facetInput (s.setRpl { s.rpl with facet := s.rpl.facet.filter (fun r => !due r) })

/-! ### A carrier period (R405, R413, R414, R423, R426) -/

/-- Bank `b` starts a carrier period in step `sub`: setpoints are taken, a SWAP and a test that wait start, targets share ILIM, means and counts follow.
In REPLAY the regulator's part is not of the boundary. -/
def carrierPeriod (s : State) (b sub full : Nat) (mean : List Half) : State :=
  let now := stepAt s sub
  let s := facetDue s now
  let s := s.forN 4 (fun s i => takeSet s (4 * b + i) now)
  let s := vlvTestStart (bankSwapDue s b sub) b sub
  let s := ((List.range 4).foldl (fun (a : State × Nat) i => shareIlim a.1 (4 * b + i) a.2) (s, bankIlim s b)).1
  let s := vlvLive s (fun s => s.forN 4 (fun s i =>
    (countReach s (4 * b + i) (bit full i)).setFld (Fd.VLV_CH_MEAS_MEAN (4 * b + i)) (mean.getD i 0).toNat))
  s.setFld (Fd.VLV_BANK_DUTY_US b) (dutyUsed s b now / 10)

/-- CARRIER_PERIOD_START (R12, R46): bank `b` starts a period in step `sub` of the tick; `full` marks its channels whose target was out of
reach at full duty in the last period, `mean` gives their mean currents in mA. No effect where its carrier starts none there. -/
def execCarrierPeriodStart (b : Fin 8) (sub : Fin 500) (full : Fin 16) (mean : List Half) (s : State) : Out :=
  match carrierStart s b sub with
  | none => .next s
  | some t => .next (carrierPeriod (s.setVbank b { s.vbank b with carAt := some t }) b sub full mean)

/-- TARGET_NOT_REACHED (R413): a hold target has been out of reach for 20 consecutive periods. A carrier period start does the same on its own. -/
def execTargetNotReached (n : Fin 32) (s : State) : Out := if 20 ≤ (s.vch n).unreach then .next (vlvLive s (fun s => vlvFault s n 6)) else .next s

/-! ### The drive at a tick (R415, R424, R425) -/

/-- A test that waits is CANCELLED where the mode no longer allows it. -/
def vlvTestDrop (s : State) : State := match s.vlv.test with
  | some t =>
    if t.running || (decide (0x3 ≤ s.bndMode) && decide (s.bndMode ≤ 0x8)) then s
    else ((s.setVlv { s.vlv with test := none }).setFlag Fd.VLV_TEST_RES_PENDING false).setFld Fd.VLV_TEST_RES_CODE Code.cancelled
  | none => s

/-- Requests that have waited too long end, and what can be granted is. -/
def vlvTick (s : State) : State :=
  let now := stepAt s 0
  let s := (facetDue s now).forN 32 (fun s n => if (s.vch n).req.isSome then waitExpire s n (now - 1) else s)
  vlvTestDrop (s.forN 8 (fun s b => grantNext s b now))

end Sys2Proof.Machine
end

