-- ==== Sys2Proof/Machine/Facet.lean ====
section
/-! DEFINITION. The Facet instruction set (R407–R412): each command is one instruction that a context executes in its step; the
instruction's word is the one its code store holds at the program counter. -/

namespace Sys2Proof.Machine

/-! Opcodes (R410). -/
namespace FOp
abbrev nop : Nat := 0x00
abbrev ldi : Nat := 0x01
abbrev mov : Nat := 0x02
abbrev add : Nat := 0x03
abbrev sub : Nat := 0x04
abbrev cmp : Nat := 0x05
abbrev take : Nat := 0x06
abbrev br : Nat := 0x07
abbrev hold : Nat := 0x08
abbrev off : Nat := 0x09
abbrev boost : Nat := 0x0A
abbrev pull : Nat := 0x0B
abbrev wait : Nat := 0x0C
abbrev sync : Nat := 0x0D
abbrev kget : Nat := 0x0E
abbrev dith : Nat := 0x0F
end FOp

/-- A fetched word's fields (R409). -/
structure FInstr where
  op  : Nat
  a   : Nat
  b   : Nat
  imm : Nat
  deriving DecidableEq, Repr

/-- The fields of a word. -/
def facetFields (w : Word) : FInstr := { op := bits w.toNat 27 5, a := bits w.toNat 24 3, b := bits w.toNat 16 8, imm := bits w.toNat 0 16 }

/-- Unused fields are 0, the condition is 0 to 10 and IMM lies in its range (R409–R412). -/
def facetLegal (i : FInstr) : Bool := match i.op with
  | 0x00 | 0x0D => i.a == 0 && i.b == 0 && i.imm == 0
  | 0x01 => i.b == 0
  | 0x02 | 0x03 | 0x04 | 0x05 => decide (i.b < 8) && i.imm == 0
  | 0x06 | 0x08 | 0x0E => i.b == 0 && i.imm == 0
  | 0x07 => i.a == 0 && decide (i.b ≤ 10) && decide (i.imm < 256)
  | 0x09 => i.a == 0 && decide (i.b ≤ 1) && i.imm == 0
  | 0x0A | 0x0B => decide (i.b ≤ 1) && decide (1 ≤ i.imm)
  | 0x0C => i.a == 0 && i.b == 0 && decide (1 ≤ i.imm)
  | 0x0F => i.b == 0 && decide (2 ≤ i.imm ∧ i.imm ≤ 64)
  | _ => false

/-- Register `k`; r0 reads 0. -/
def FacetCtx.get (c : FacetCtx) (k : Nat) : Nat := if k = 0 then 0 else smGet 0 c.r k

/-- Write register `k`, 16 bits; writes to r0 are discarded. -/
def FacetCtx.set (c : FacetCtx) (k v : Nat) : FacetCtx := if k = 0 then c else { c with r := smPut 0 c.r k (v % 65536) }

/-- A branch condition (R411). -/
def facetCond (c : FacetCtx) : Nat → Bool
  | 0 => true
  | 1 => c.z
  | 2 => !c.z
  | 3 => c.c
  | 4 => !c.c
  | 5 => c.new
  | 6 => c.pk
  | 7 => c.kink
  | 8 => c.tmo
  | 9 => c.rej
  | 10 => c.wd
  | _ => false

/-- The context executes an instruction in this step. -/
def facetReady (s : State) (n now : Nat) : Bool :=
  let c := s.fctx n
  chanRuns s n && decide (c.step ≤ now) && match c.wait with
    | .ready => true
    | .untilStep t => decide (t ≤ now)
    | _ => false

/-- The word at a context's program counter. -/
def facetWord (s : State) (n : Nat) : Word := smGet 0 s.vlv.active (n / 4 * 256 + (s.fctx n).pc)

/-- The instruction a context executes next, if legal. -/
def facetFetch (s : State) (n : Nat) : Option FInstr :=
  let i := facetFields (facetWord s n)
  if (s.fctx n).pc ≤ 255 ∧ facetLegal i = true then some i else none

/-- Move the context past an instruction. -/
def facetNext (s : State) (n now : Nat) (c : FacetCtx) : State :=
  let s := s.setFctx n { c with wait := .ready, pc := c.pc + 1, step := now + 1 }
  s.setFld ⟨Ra.VLV_BANK_SEQ (n / 4), 8 * (n % 4), 8⟩ (c.pc + 1)

/-- Execute one instruction of opcode `op` in step `now`: `f` gives the effect from the fields. -/
def facetRun (s : State) (n sub op : Nat) (f : State → FInstr → Nat → State) : State :=
  let now := stepAt s sub
  let s := facetDue s now
  match (if facetReady s n now then facetFetch s n else none) with
  | some i => if i.op = op then f s i now else s
  | none => s

/-- An instruction over the registers and flags only. -/
def facetReg (s : State) (n sub op : Nat) (f : FInstr → FacetCtx → FacetCtx) : State :=
  facetRun s n sub op (fun s i now => facetNext s n now (f i (s.fctx n)))

/-- FACET_NOP (R410). -/
def execFacetNop (n : Fin 32) (sub : Fin 500) (s : State) : Out := .next (facetReg s n sub FOp.nop (fun _ c => c))

/-- FACET_LDI (R410): rA := IMM. -/
def execFacetLdi (n : Fin 32) (sub : Fin 500) (s : State) : Out := .next (facetReg s n sub FOp.ldi (fun i c => c.set i.a i.imm))

/-- FACET_MOV (R410): rA := rB. -/
def execFacetMov (n : Fin 32) (sub : Fin 500) (s : State) : Out := .next (facetReg s n sub FOp.mov (fun i c => c.set i.a (c.get i.b)))

/-- FACET_ADD (R410): saturating. -/
def execFacetAdd (n : Fin 32) (sub : Fin 500) (s : State) : Out :=
  .next (facetReg s n sub FOp.add (fun i c => c.set i.a (min (c.get i.a + c.get i.b) 65535)))

/-- FACET_SUB (R410): saturating at 0. -/
def execFacetSub (n : Fin 32) (sub : Fin 500) (s : State) : Out :=
  .next (facetReg s n sub FOp.sub (fun i c => c.set i.a (c.get i.a - c.get i.b)))

/-- FACET_CMP (R410). -/
def execFacetCmp (n : Fin 32) (sub : Fin 500) (s : State) : Out :=
  .next (facetReg s n sub FOp.cmp (fun i c => { c with z := c.get i.a == c.get i.b, c := decide (c.get i.b ≤ c.get i.a) }))

/-- FACET_TAKE (R410): rA := S; NEW when S differs from the previous TAKE's. -/
def execFacetTake (n : Fin 32) (sub : Fin 500) (s : State) : Out :=
  let v := (s.vch n).s
  .next (facetReg s n sub FOp.take (fun i c => { c.set i.a v with new := v != c.last, last := v }))

/-- FACET_BR (R411). -/
def execFacetBr (n : Fin 32) (sub : Fin 500) (s : State) : Out :=
  .next (facetRun s n sub FOp.br (fun s i now =>
    let c := s.fctx n
    if facetCond c i.b then
      (s.setFctx n { c with wait := .ready, pc := i.imm, step := now + 1 }).setFld ⟨Ra.VLV_BANK_SEQ (n.val / 4), 8 * (n.val % 4), 8⟩ i.imm
    else facetNext s n now c))

/-- IMAX of a channel. -/
def chanImax (s : State) (n : Nat) : Nat := min 3000 (s.fld (Fd.VLV_CH_CFG_IMAX n))

/-- The first HOLD or OFF of a program after a SWAP ends what was kept over it (R426). -/
def keepEnd (s : State) (n : Nat) : State := if (s.vch n).keep then s.setVch n { s.vch n with keep := false, dithA := 0, dithN := 0 } else s

/-- FACET_HOLD (R410, R413): regulate to min(rA, IMAX). -/
def execFacetHold (n : Fin 32) (sub : Fin 500) (s : State) : Out :=
  .next (facetRun s n sub FOp.hold (fun s i now =>
    let t := min ((s.fctx n).get i.a) (chanImax s n)
    let s := keepEnd s n
    let s := (s.setVch n { s.vch n with held := true, target := t }).setFld (Fd.VLV_CH_MEAS_TARGET n) t
    vlvShow (facetRec (facetNext s n now (s.fctx n)) n 7 now [t]) n))

/-- FACET_OFF (R404): switch the channel off with slow or fast decay. -/
def execFacetOff (n : Fin 32) (sub : Fin 500) (s : State) : Out :=
  .next (facetRun s n sub FOp.off (fun s i now =>
    let s := chanOff (keepEnd s n) n now
    let s := s.setVch n { s.vch n with fast := i.b == 1 }
    vlvShow (facetRec (facetNext s n now (s.fctx n)) n 8 now [i.b]) n))

/-- The context after a BOOST or PULL was issued: flags cleared, its next instruction after it. -/
def phaseCtx (c : FacetCtx) : FacetCtx := { c with pk := false, kink := false, tmo := false, rej := false, wd := false, pc := c.pc + 1 }

/-- FACET_BOOST (R410, R415): request a boost phase through the arbiter. -/
def execFacetBoost (n : Fin 32) (sub : Fin 500) (s : State) : Out :=
  .next (facetRun s n sub FOp.boost (fun s i now =>
    let r : BoostReq := { peak := min 8000 ((s.fctx n).get i.a), limit := i.imm, kinkOn := i.b == 1, pull := false, reqAt := now }
    boostRequest (s.setFctx n (phaseCtx (s.fctx n))) n now r))

/-- FACET_PULL (R410): a phase from BAT_B without arbitration. -/
def execFacetPull (n : Fin 32) (sub : Fin 500) (s : State) : Out :=
  .next (facetRun s n sub FOp.pull (fun s i now =>
    let r : BoostReq := { peak := min 8000 ((s.fctx n).get i.a), limit := i.imm, kinkOn := i.b == 1, pull := true, reqAt := now }
    phaseStart (s.setFctx n (phaseCtx (s.fctx n))) n now r))

/-- FACET_WAIT (R410): the next instruction runs IMM steps later. -/
def execFacetWait (n : Fin 32) (sub : Fin 500) (s : State) : Out :=
  .next (facetRun s n sub FOp.wait (fun s i now =>
    (facetNext s n now (s.fctx n)).setFctx n { s.fctx n with wait := .untilStep (now + i.imm), pc := (s.fctx n).pc + 1, step := now + i.imm }))

/-- FACET_SYNC (R410): wait for the bank's next carrier period start. -/
def execFacetSync (n : Fin 32) (sub : Fin 500) (s : State) : Out :=
  .next (facetRun s n sub FOp.sync (fun s _ now =>
    (facetNext s n now (s.fctx n)).setFctx n { s.fctx n with wait := .sync, pc := (s.fctx n).pc + 1, step := now + 1 }))

/-- FACET_KGET (R410): the kink time of the last phase. -/
def execFacetKget (n : Fin 32) (sub : Fin 500) (s : State) : Out :=
  let k := s.fld (Fd.VLV_CH_KINK_TIME n)
  .next (facetReg s n sub FOp.kget (fun i c => c.set i.a k))

/-- FACET_DITH (R410): triangular dither of ±rA mA over IMM carrier periods; rA = 0 turns it off. -/
def execFacetDith (n : Fin 32) (sub : Fin 500) (s : State) : Out :=
  .next (facetRun s n sub FOp.dith (fun s i now =>
    let a := (s.fctx n).get i.a
    let s := s.setVch n { s.vch n with dithA := a, dithN := i.imm }
    facetRec (facetNext s n now (s.fctx n)) n 9 now [a, i.imm]))

/-- FACET_UNDEFINED_OPCODE (R412): the word at the program counter is no legal instruction, or the counter has passed word 255: the context
stops with FAULT 7 and its channel switches off with fast decay. -/
def execFacetUndefinedOpcode (n : Fin 32) (sub : Fin 500) (s : State) : Out :=
  let now := stepAt s sub
  let s := facetDue s now
  if facetReady s n now && (facetFetch s n).isNone then .next (ctxStop (chanOff (vlvFault s n 7) n now) n) else .next s

end Sys2Proof.Machine
end

