-- ==== Sys2Proof/Machine/Keys.lean ====
section
/-! DEFINITION. The secure element's key slots (R538). -/

namespace Sys2Proof.Machine

/-! Key types in the row order of R538 (the device key 0 and the yield key 1 are never written). -/
namespace Key
abbrev package : Nat := 2
abbrev factory : Nat := 3
abbrev owner : Nat := 4
abbrev host : Nat := 5
abbrev clear : Nat := 6
abbrev debug : Nat := 7
abbrev domain : Nat := 8
end Key

/-- The slots of a key type (R538). -/
def keySlots (type : Nat) : Nat := ([1, 1, 8, 2, 1, 16, 4, 2, 2] : List Nat).getD type 0

/-- The slot written since delivery. -/
def State.keySlot (s : State) (type idx : Nat) : Option KeySlot := s.upd.keys.find? (fun k => k.type == type && k.index == idx)

/-- The key in a slot, empty for none: the last one set or removed, else the one shipped. -/
def State.keyOf (s : State) (type idx : Nat) : List Byte := match s.keySlot type idx with
  | some k => k.key
  | none => if idx < keySlots type then Config.shippedKey type idx else []

/-- The TYPE mask or the privilege of a slot. -/
def State.keyPriv (s : State) (type idx : Nat) : Nat := match s.keySlot type idx with
  | some k => k.priv
  | none => Config.shippedPriv type idx

/-- The slot holds a key. -/
def State.hasKey (s : State) (type idx : Nat) : Bool := !(s.keyOf type idx).isEmpty

/-- Write a slot; an empty key removes it. -/
def State.setKey (s : State) (type idx : Nat) (key : List Byte) (priv : Nat) : State :=
  s.setUpd { s.upd with
    keys := { type := type, index := idx, key := key, priv := priv } :: s.upd.keys.filter (fun k => !(k.type == type && k.index == idx)) }

/-- A signature of the key in a slot over a message. -/
def State.signedBy (s : State) (type idx : Nat) (msg sig : List Byte) : Bool :=
  s.hasKey type idx && Config.ed25519 (s.keyOf type idx) msg sig

/-- The little-endian number of `n` bytes at offset `o`. -/
def num (b : List Byte) (o n : Nat) : Nat := leNat ((b.drop o).take n)

/-- Every byte is 0. -/
def allZero (b : List Byte) : Bool := b.all (· == 0)

end Sys2Proof.Machine
end

