-- ==== Sys2Proof/Machine/Fleet.lean ====
section
/-! DEFINITION. The Oluser fleet link (R314–R346): superframes, beacons, joining, departures, succession, contention, roles and the
requester's and receiver's sides of transactions. Serving a request is in `Serve`. -/

namespace Sys2Proof.Machine

/-! ### Counters and look-ups -/

/-- FLR counters, in the order the register group names them; transactions by the code that ended them: OK, TIMEOUT, DEPARTED, REFUSED, any other. -/
abbrev fcDamaged : Nat := 0
abbrev fcStranger : Nat := 1
abbrev fcReplay : Nat := 2
abbrev fcAttempts : Nat := 3
abbrev fcCollisions : Nat := 4
abbrev fcCack : Nat := 5
abbrev fcMissed : Nat := 6
abbrev fcDuty : Nat := 7
abbrev fcObsCut : Nat := 8
abbrev fcUnknown : Nat := 9

/-- Count in an FLR counter. -/
def flrCount (s : State) (k : Nat) : State := s.count (Fd.FLR_CNT_V k)

/-- FLR_STAT.STATE values. -/
abbrev flOff : Nat := 0
abbrev flScan : Nat := 1
abbrev flListen : Nat := 2
abbrev flJoining : Nat := 3
abbrev flMember : Nat := 4
abbrev flCoord : Nat := 5

/-- The link's state. -/
def State.linkSt (s : State) : Nat := s.fld Fd.FLR_STAT_STATE

/-- Set it. -/
def State.setLink (s : State) (v : Nat) : State := s.setFld Fd.FLR_STAT_STATE v

/-- The superframe number. -/
def State.sfn (s : State) : Nat := s.fld Fd.FLR_SFN_V

/-- The module's own number. -/
def State.modNum (s : State) : Nat := s.fld Fd.FLR_STAT_MODNUM

/-- IDENT: the low 32 bits of the serial number. -/
def State.ident (s : State) : Nat := s.upd.serial % 2 ^ 32

/-- LOSS_SF; lower values act as 10. -/
def lossSf (s : State) : Nat := max 10 (s.fld Fd.FLR_CFG_LOSS_SF)

/-- Slot `m` as known here. -/
def State.mbr (s : State) (m : Nat) : Mbr := smGet {} s.flr.mbr m

/-- Replace it. -/
def State.setMbr (s : State) (m : Nat) (x : Mbr) : State := s.setFlr { s.flr with mbr := smPut {} s.flr.mbr m x }

/-- Slot `m` is owned. -/
def State.present (s : State) (m : Nat) : Bool := s.flag (Fd.FLR_MBR_STAT_PRESENT m)

/-- Member or coordinator. -/
def isMember (s : State) : Bool := s.linkSt == flMember || s.linkSt == flCoord

/-- The channels a region allows (R316). -/
def regionChans (r : Nat) : List Nat := match r with
  | 1 | 2 => [0, 1, 2, 3, 4]
  | 3 => [0, 1, 2, 3]
  | 4 => [1, 2, 3]
  | _ => []

/-- The channels of the module's region. -/
def chans (s : State) : List Nat := regionChans (s.fld Fd.FLR_RADIO_CFG_REGION)

/-- The link may transmit: the mode and power allow it (R53, R73), the region allows the channel in use, and a beacon-timed
member has not lost its beacon (R316, R320). -/
def flrTx (s : State) : Bool := radioOn s && (chans s).contains (s.fld Fd.FLR_STAT_CHAN) && !(s.linkSt == flMember && decide (lossSf s ≤ s.flr.missed))

/-- The application complex serves nothing: it is in reset (R64). -/
def appAway (s : State) : Bool := s.pm.appReset

/-! ### Sending a frame (R316–R318, R322) -/

/-- EIRP limit of a region in 0.1 dBm (R316). -/
def regionEirp (r : Nat) : Int := match r with
  | 1 => 360
  | 2 => 300
  | 3 => 230
  | _ => 140

/-- The conducted transmit power in 0.1 dBm: TXPWR, the region's EIRP less antenna gain plus cable loss, 23 dBm (R316). -/
def txPower (s : State) : Int :=
  min (5 * min 46 (s.fld Fd.FLR_RADIO_CFG_TXPWR) : Nat)
    (min (regionEirp (s.fld Fd.FLR_RADIO_CFG_REGION) - s.fld Fd.FLR_ANT_CFG_GAIN + s.fld Fd.FLR_ANT_CFG_LOSS) 230)

/-- The antenna port a frame leaves by (R317): the fixed one, or that with the higher level of the last beacon; FLANT0 where neither is higher
(DESIGN CHOICE, log 49). -/
def txPort (s : State) : Nat :=
  if s.flag Fd.FLR_ANT_CFG_FIX then s.fld Fd.FLR_ANT_CFG_PORT
  else match s.flr.rx with
    | some (a, b) => if a < b then 1 else 0
    | none => 0

/-- Data bits per symbol at an MCS (R315). -/
def mcsBits (mcs : Nat) : Nat := ([24, 48, 96, 144, 192, 288] : List Nat).getD mcs 96

/-- The airtime in µs of a PSDU of `n` bytes: preamble and symbols (R314). -/
def airTime (mcs n : Nat) : Nat := 48 + 8 * ((8 * n + mcsBits mcs - 1) / mcsBits mcs)

/-- Airtime used within the last second, in µs. -/
def airUsed (s : State) : Nat := (s.flr.air.filter (fun x => decide (s.clk.cyc < x.1 + cycS))).foldl (fun a x => a + x.2) 0

/-- A frame of `us` µs keeps the duty limit of regions 3 and 4: 10 % over any 1 s (R316). -/
def dutyOk (s : State) (us : Nat) : Bool := s.fld Fd.FLR_RADIO_CFG_REGION < 3 || decide (airUsed s + us ≤ 100000)

/-- At most one frame of a TYPE and SUB leaves in a superframe (R322). -/
def unsent (s : State) (type sub : Nat) : Bool := !s.flr.sentNow.contains (type, sub)

/-- A frame leaves: port and power are chosen, its airtime is counted. -/
def sendFrame (s : State) (tx : FTx) (us : Nat) : State :=
  let s := (s.setReg (Ra.FLR_RADIO 5) (wordOfInt (txPower s))).setReg (Ra.FLR_RADIO 8) (BitVec.ofNat 32 (txPort s))
  s.setFlr { s.flr with
    lastTx := some { tx with port := txPort s, power := txPower s },
    sentNow := (tx.type, tx.sub) :: s.flr.sentNow,
    air := (s.clk.cyc, us) :: s.flr.air.filter (fun x => decide (s.clk.cyc < x.1 + cycS)) }

/-- The time since S in ns by this module's timing (R320): its own DT, or the last beacon's arrival carried forward. -/
def sfPhase (s : State) : Nat :=
  if s.flag Fd.FLR_STAT_TIMING then (s.clk.cyc - s.flr.listenCyc) % (cycS / 10) * 25 / 4 else s.dtNs % 100000000

/-- The present tick lies in the slot that starts `start` ns after S and lasts `len`. -/
def inSlot (s : State) (start len : Nat) : Bool := decide (start ≤ sfPhase s ∧ sfPhase s < start + len)

/-- Member slot `j` and contention sub-slot `c` (R318). -/
def inMemberSlot (s : State) (j : Nat) : Bool := inSlot s (2000000 + 1250000 * j) 1250000
def inSubSlot (s : State) (c : Nat) : Bool := inSlot s (82000000 + 1500000 * c) 1500000

/-! ### Roles (R338–R340) -/

/-- The roles the module holds, with their epochs. -/
def ownRoles (s : State) : List (Nat × Nat) :=
  let l := (List.range 4).map (fun i => (s.fld (Fd.FLR_ROLE_ROLE i), s.fld (Fd.FLR_ROLE_EPOCH i)))
  (l.filter (fun x => x.1 != 0)) ++ (if s.linkSt = flCoord then [(1, s.flr.coordEp)] else []) ++
    (if isMember s then [(0xFF, s.fld (Fd.FLR_MBR_STAT_MEPOCH s.modNum))] else [])

/-- The epoch of a held role. -/
def roleEpoch (s : State) (r : Nat) : Option Nat := ((ownRoles s).find? (fun x => x.1 == r)).map (·.2)

/-- Codes an application may write. -/
def roleCodeOk (r : Nat) : Bool := r == 0 || decide (2 ≤ r ∧ r ≤ 8) || decide (0x20 ≤ r ∧ r ≤ 0x7F)

/-- The next epoch: 1 to 65 535, then 1. -/
def nextEpoch (e : Nat) : Nat := if 65535 ≤ e then 1 else e + 1

/-- A write of FLR_ROLE[i] (R338, R339). -/
def roleWrite (s : State) (i r : Nat) : State :=
  if !roleCodeOk r then s.setFld Fd.FLR_STAT_CODE Code.badArgument
  else
    let s := s.setFld Fd.FLR_STAT_CODE Code.ok
    if s.fld (Fd.FLR_ROLE_ROLE i) = r then s
    else (s.setFld (Fd.FLR_ROLE_ROLE i) r).setFld (Fd.FLR_ROLE_EPOCH i) (nextEpoch (s.fld (Fd.FLR_ROLE_EPOCH i)))

/-- ROLE_WRITE (R339): an application writes a role code into entry `i`. -/
def execRoleWrite (i : Fin 4) (role : Byte) (s : State) : Out := .next (roleWrite s i role.toNat)

/-- At a full module reset the epoch of each held role advances by 1 (R339). -/
def rolesReset (s : State) : State := s.forN 4 (fun s i =>
  if s.fld (Fd.FLR_ROLE_ROLE i) = 0 then s else s.setFld (Fd.FLR_ROLE_EPOCH i) (nextEpoch (s.fld (Fd.FLR_ROLE_EPOCH i))))

/-! ### Transactions at the requester (R341–R345) -/

/-- Data bytes of a segment. -/
abbrev segSize : Nat := 256

/-- Segments of a payload; an empty one takes one. -/
def segCount (n : Nat) : Nat := max 1 ((n + segSize - 1) / segSize)

/-- A segment's header and data (R343). -/
def segBytes (tag dest role kind epoch i n total code : Nat) (p : List Byte) : List Byte :=
  leBytes 1 tag ++ leBytes 1 dest ++ leBytes 1 role ++ leBytes 1 kind ++ leBytes 2 epoch ++ leBytes 1 i ++ leBytes 1 n ++
    leBytes 2 total ++ leBytes 2 code ++ (p.drop (segSize * i)).take segSize

/-- The request segments of a transaction from its first unacknowledged one. -/
def reqRecs (t : FTxn) : List FRec :=
  let n := segCount t.req.length
  ((List.range n).drop t.acked).map (fun i => (7, segBytes t.tag t.dest t.role t.kind t.epoch i n t.req.length 0 t.req))

/-- The response segments of a kept request. -/
def rspRecs (k : FKept) : List FRec :=
  let n := segCount k.rsp.length
  ((List.range n).drop k.acked).map (fun i => (6, segBytes k.tag k.src 0xFF k.kind k.epoch i n k.rsp.length k.code k.rsp))

/-- Put records behind those waiting. -/
def addRecs (s : State) (l : List FRec) : State := s.setFlr { s.flr with recs := s.flr.recs ++ l }

/-- A waiting record belongs to a transaction's request. -/
def isReqRec (t : FTxn) (r : FRec) : Bool :=
  r.1 == 7 && r.2.headD 0 == BitVec.ofNat 8 t.tag && r.2.getD 1 0 == BitVec.ofNat 8 t.dest

/-- A waiting record belongs to a kept request's response. -/
def isRspRec (k : FKept) (r : FRec) : Bool :=
  r.1 == 6 && r.2.headD 0 == BitVec.ofNat 8 k.tag && r.2.getD 1 0 == BitVec.ofNat 8 k.src

/-- Bring INFLIGHT and QUEUED up to date. -/
def txnShow (s : State) : State :=
  (s.setFld Fd.FLR_TXN_STAT_INFLIGHT s.flr.inflight.length).setFld Fd.FLR_TXN_STAT_QUEUED s.flr.queue.length

/-- Fill the quota from the local queue (R345). -/
def txnPromote (s : State) : State :=
  let room := s.fld Fd.FLR_TXN_STAT_QUOTA - s.flr.inflight.length
  let l := (s.flr.queue.take room).map (fun (t : FTxn) => { t with lastSf := s.sfn })
  let s := s.setFlr { s.flr with queue := s.flr.queue.drop room, inflight := s.flr.inflight ++ l }
  txnShow (addRecs s (l.flatMap reqRecs))

/-- Deliver a response into the requester's buffer: a 4-byte length and the payload; FAULT when translation fails (R342, R344). -/
def txnDeliver (s : State) (t : FTxn) (code : Nat) (rsp : List Byte) : State × Nat :=
  if t.vhp.isSome ∨ t.rspSize < 4 then (s, code)
  else match readIova s 0x0E t.rspIova (min t.rspSize (4 + rsp.length)) with
    | some _ => (writeIova s 0x0E t.rspIova ((leBytes 4 rsp.length ++ rsp).take t.rspSize), code)
    | none => (noteXfer s 0x0E t.rspIova (min t.rspSize (4 + rsp.length)) true, if code = Code.ok then Code.fault else code)

/-- A transaction ends with a code (R342, R344): its tag rests for 10 s, its records are withdrawn, the acknowledge or the host learns
the code. -/
def txnEnd (s : State) (t : FTxn) (code : Nat) (rsp : List Byte) : State :=
  let (s, code) := txnDeliver s t code rsp
  let s := s.setFlr { s.flr with
    inflight := s.flr.inflight.filter (fun x => x.tag != t.tag),
    queue := s.flr.queue.filter (fun x => x.tag != t.tag),
    recs := s.flr.recs.filter (fun r => !isReqRec t r),
    tags := (t.tag, s.clk.cyc + 10 * cycS) :: s.flr.tags }
  let s := s.count (Fd.FLR_TXN_CNT_V (([Code.ok, Code.timeout, Code.departed, Code.refused] : List Nat).idxOf code))
  let s := match t.vhp with
    | some (a, b) => s.setFlr { s.flr with fwdDone := s.flr.fwdDone ++ [{ sess := a, cnt := b, code := code, rsp := rsp }] }
    | none => mbxAck s (t.endp % 64) code
  txnPromote s

/-- The lowest tag neither in use nor resting (R343). -/
def freeTag (s : State) : Option Nat :=
  let used := (s.flr.inflight ++ s.flr.queue).map (·.tag) ++ (s.flr.tags.filter (fun x => decide (s.clk.cyc < x.2))).map (·.1)
  (List.range 256).find? (fun k => !used.contains k)

/-- Kinds of R341. -/
def fleetKinds : List Nat := [0x01, 0x02, 0x10, 0x11, 0x12, 0x20, 0x30, 0x40, 0x50]

/-- Kinds that accept epoch 0 (R340). -/
def epoch0Kinds : List Nat := [0x01, 0x02, 0x10, 0x12]

/-- Kinds the application complex serves (R341). -/
def appKinds : List Nat := [0x12, 0x20, 0x30, 0x40, 0x50]

/-- Why a request ends at once, if it does: REFUSED in REPLAY or with a full queue, BAD_ARGUMENT for a kind or length outside R341,
DEPARTED for a module number that is not a member. -/
def txnBad (s : State) (kind dest len : Nat) : Option Nat :=
  if s.mode = Mode.replay then some Code.refused
  else if !fleetKinds.contains kind || decide (4160 < len) || decide (63 < dest) then some Code.badArgument
  else if isMember s && !s.present dest then some Code.departed
  else if s.fld Fd.FLR_TXN_STAT_QUOTA ≤ s.flr.inflight.length ∧ 64 ≤ s.flr.queue.length then some Code.refused
  else none

/-- Issue a transaction: in flight within the quota, else in the local queue (R345). -/
def txnIssue (s : State) (t : FTxn) : State :=
  txnPromote (s.setFlr { s.flr with queue := s.flr.queue ++ [t] })

/-- The request message at endpoint `e` (R342). -/
def fleetRequest (s : State) (e : Nat) : State :=
  let w := fun (k : Nat) => (s.reg (Ra.MBX_PAYLOAD e k)).toNat
  let kind := bits (w 1) 0 8
  let dest := bits (w 1) 8 8
  let tmo := bits (w 2) 16 16
  match txnBad s kind dest (w 3) with
  | some c => mbxAck s e c
  | none =>
    let a := w 4 + w 5 * 2 ^ 32
    let s := noteXfer s 0x0E a (w 3) false
    match readIova s 0x0E a (w 3), freeTag s with
    | some req, some tag =>
      txnIssue s { tag := tag, kind := kind, dest := dest, role := bits (w 1) 16 8, epoch := bits (w 2) 0 16,
                   dead := s.clk.cyc + (if tmo = 0 then 1000 else clampN 100 60000 tmo) * cycMs, req := req, ctx := BitVec.ofNat 32 (w 0),
                   rspIova := w 6 + w 7 * 2 ^ 32, rspSize := w 8, endp := e }
    | none, _ => mbxAck s e Code.fault
    | _, none => mbxAck s e Code.refused

/-- The link processor is the receiver of endpoint `e`. -/
def fleetEndpoint (s : State) (e : Nat) : Bool := !s.flag (Fd.MBX_EP_CFG_RXL e) && s.fld (Fd.MBX_EP_CFG_RX e) == 0x0E

/-- FLEET_REQUEST (R342): the link processor takes the request message that stands at its endpoint `e`. -/
def execFleetRequest (e : Fin 64) (s : State) : Out :=
  if fleetEndpoint s e && s.fld (Fd.MBX_EP_STAT_STATE e) == epFull && !((s.flr.inflight ++ s.flr.queue).any (fun t => t.vhp.isNone && t.endp == e.val)) then
    .next (fleetRequest s e)
  else .next s

/-- Transactions past their TIMEOUT, in flight or queued, end (R344). -/
def txnTimeouts (s : State) : State :=
  ((s.flr.inflight ++ s.flr.queue).filter (fun t => decide (t.dead ≤ s.clk.cyc))).foldl (fun s t => txnEnd s t Code.timeout []) s

/-- FLEET_TRANSACTION_TIMEOUT (R344): a transaction in flight or queued is past its TIMEOUT. -/
def execFleetTransactionTimeout (s : State) : Out := .next (txnTimeouts s)

/-- Two superframes have passed without progress. -/
def noProgress (s : State) (last : Nat) : Bool := decide (2 ≤ (s.sfn + 2 ^ 32 - last) % 2 ^ 32)

/-- The response of a kept request is repeated from its first unacknowledged segment. -/
def repeatRsp (s : State) (k : FKept) : State :=
  if k.done && decide (k.acked < segCount k.rsp.length) && noProgress s k.lastSf then
    let s := s.setFlr { s.flr with
      recs := s.flr.recs.filter (fun r => !isRspRec k r),
      kept := s.flr.kept.map (fun (x : FKept) => if x.src = k.src ∧ x.tag = k.tag then { x with lastSf := s.sfn } else x) }
    addRecs s (rspRecs k)
  else s

/-- A request is repeated from its first unacknowledged segment. -/
def repeatReq (s : State) (t : FTxn) : State :=
  if decide (t.acked < segCount t.req.length) && noProgress s t.lastSf then
    let s := s.setFlr { s.flr with
      recs := s.flr.recs.filter (fun r => !isReqRec t r),
      inflight := s.flr.inflight.map (fun (x : FTxn) => if x.tag = t.tag then { x with lastSf := s.sfn } else x) }
    addRecs s (reqRecs t)
  else s

/-- Every segment without progress is repeated (R343). -/
def repeatAll (s : State) : State := s.flr.kept.foldl repeatRsp (s.flr.inflight.foldl repeatReq s)

/-- SEGMENT_REPEAT (R343): the sender of a request's (or, with `rsp`, a response's) segments repeats from the first unacknowledged one. -/
def execSegmentRepeat (rsp : Bool) (src : Fin 64) (tag : Byte) (s : State) : Out :=
  if rsp then
    match s.flr.kept.find? (fun k => k.src == src.val && k.tag == tag.toNat) with
    | some k => .next (repeatRsp s k)
    | none => .next s
  else
    match s.flr.inflight.find? (fun t => t.tag == tag.toNat) with
    | some t => .next (repeatReq s t)
    | none => .next s

/-! ### Segments at the receiver (R340, R343) -/

/-- The number of contiguous segments held. -/
def contiguous (m : SMap (List Byte)) (n : Nat) : Nat := ((List.range n).takeWhile (fun i => m.any (fun x => x.1 == i))).length

/-- The payload of segments held. -/
def segJoin (m : SMap (List Byte)) : List Byte := m.flatMap (·.2)

/-- Queue the acknowledgement of a source's tag in place of an earlier one. -/
def ackRec (s : State) (src tag held : Nat) : State :=
  if held = 0 then s
  else
    let r := s.flr.recs.filter (fun x => !(x.1 == 5 && x.2.take 2 == leBytes 1 src ++ leBytes 1 tag))
    s.setFlr { s.flr with recs := r ++ [(5, leBytes 1 src ++ leBytes 1 tag ++ leBytes 1 (held - 1))] }

/-- Keep a request; of each source the last 64 completed are kept (R343). -/
def keepReq (s : State) (k : FKept) : State :=
  let l := s.flr.kept.filter (fun x => !(x.src == k.src && x.tag == k.tag))
  let mine := l.filter (fun x => x.src == k.src && x.done)
  let l := if 64 ≤ mine.length then match mine with
      | x :: _ => l.erase x
      | [] => l
    else l
  s.setFlr { s.flr with kept := l ++ [k] }

/-- Answer a request: the response is kept for 10 s and its segments wait for the slot. -/
def fleetReply (s : State) (k : FKept) (code : Nat) (rsp : List Byte) : State :=
  let e := match roleEpoch s k.role with
    | some e => e
    | none => 0
  let k := { k with done := true, code := code, rsp := rsp, epoch := e, till := s.clk.cyc + 10 * cycS, lastSf := s.sfn, acked := 0 }
  addRecs (keepReq s k) (rspRecs k)

/-- What the receiver answers at a request's first segment, if not its service (R340, R344). -/
def reqBad (s : State) (g : FleetSeg) : Option Nat := match roleEpoch s g.role.toNat with
  | none => some Code.roleChanged
  | some e =>
    if g.epoch.toNat ≠ 0 ∧ g.epoch.toNat ≠ e then some Code.roleChanged
    else if !fleetKinds.contains g.kind.toNat || (g.epoch.toNat == 0 && !epoch0Kinds.contains g.kind.toNat) then some Code.badArgument
    else if appAway s && appKinds.contains g.kind.toNat then some Code.aborted
    else none

/-- A request segment. -/
def reqSegment (s : State) (src : Nat) (g : FleetSeg) : State :=
  match s.flr.kept.find? (fun k => k.src == src && k.tag == g.tag.toNat) with
  | some k =>
    if k.done then addRecs (s.setFlr { s.flr with recs := s.flr.recs.filter (fun r => !isRspRec k r) }) (rspRecs { k with acked := 0 })
    else
      let k := { k with segs := smPut [] k.segs g.idx.toNat g.data, nseg := g.cnt.toNat }
      ackRec (keepReq s k) src g.tag.toNat (contiguous k.segs k.nseg)
  | none =>
    let k : FKept := { src := src, tag := g.tag.toNat, segs := [(g.idx.toNat, g.data)], nseg := g.cnt.toNat, kind := g.kind.toNat, role := g.role.toNat }
    match reqBad s g with
    | some c => fleetReply s k c []
    | none => ackRec (keepReq s k) src g.tag.toNat (contiguous k.segs k.nseg)

/-- A response segment: a code outside R30 makes it malformed; a departed module's is discarded. -/
def rspSegment (s : State) (src : Nat) (g : FleetSeg) : State :=
  if !codeTable.contains g.code.toNat || !s.present src then s
  else match s.flr.inflight.find? (fun t => t.tag == g.tag.toNat && t.dest == src) with
    | some t =>
      let t := { t with rsp := smPut [] t.rsp g.idx.toNat g.data, nseg := g.cnt.toNat }
      let s := s.setFlr { s.flr with inflight := s.flr.inflight.map (fun x => if x.tag = t.tag then t else x) }
      let held := contiguous (if g.data.isEmpty then [(g.idx.toNat, [])] else t.rsp) t.nseg
      let s := ackRec s src g.tag.toNat held
      if t.nseg ≤ held then txnEnd s t g.code.toNat (segJoin t.rsp) else s
    | none => s

/-- A segment from module `src`. -/
def segReceive (s : State) (src : Nat) (g : FleetSeg) : State :=
  if !isMember s || g.dest.toNat != s.modNum then s
  else if g.rsp then rspSegment s src g else reqSegment s src g

/-- SEGMENT_RECEIVE (R343): a segment of a frame that passed R323 arrives from module `src`. -/
def execSegmentReceive (src : Fin 64) (g : FleetSeg) (s : State) : Out := .next (segReceive s src g)

/-- An ACK record of module `src` (R343). -/
def segAck (s : State) (src tag seg : Nat) : State :=
  let s := s.setFlr { s.flr with
    inflight := s.flr.inflight.map (fun (t : FTxn) =>
      if t.tag = tag ∧ t.dest = src ∧ t.acked < seg + 1 then { t with acked := seg + 1, lastSf := s.sfn } else t),
    kept := s.flr.kept.map (fun (k : FKept) =>
      if k.tag = tag ∧ k.src = src ∧ k.done = true ∧ k.acked < seg + 1 then { k with acked := seg + 1, lastSf := s.sfn } else k) }
  let seen := fun (r : FRec) => (r.1 == 6 || r.1 == 7) && r.2.headD 0 == BitVec.ofNat 8 tag && r.2.getD 1 0 == BitVec.ofNat 8 src &&
    decide ((r.2.getD 6 0).toNat ≤ seg)
  s.setFlr { s.flr with recs := s.flr.recs.filter (fun r => !seen r) }

/-! ### Members (R328, R329, R345) -/

/-- The owned slots. -/
def owners (s : State) : List Nat := (List.range 64).filter s.present

/-- A module has left: its transactions end with DEPARTED and its baselines follow R248 (R329). -/
def memberGone (s : State) (m : Nat) : State :=
  let s := (s.setFlag (Fd.FLR_MBR_STAT_PRESENT m) false)
  let s := ((s.flr.inflight ++ s.flr.queue).filter (fun t => t.dest == m)).foldl (fun s t => txnEnd s t Code.departed []) s
  nbDeparted s m

/-- Recompute the quotas of the domain (R345); they apply from the superframe after the beacon. -/
def setQuotas (s : State) : State :=
  let n := max 1 (owners s).length
  let s := s.forN 64 (fun s m => if s.present m then s.setMbr m { s.mbr m with quota := 256 / n } else s)
  s.setFlr { s.flr with quotaNext := some (256 / n + 256 % n) }

/-- The coordinator lists a departure in its next 10 beacons and holds the slot (R329). -/
def depart (s : State) (m : Nat) : State :=
  if s.present m then
    let x := s.mbr m
    let s := s.setMbr m { x with heldTo := some (s.clk.cyc + s.fld Fd.FLR_TXN_CFG_HOLD * cycS), silent := 0 }
    let s := s.setFlag (Fd.FLR_MBR_STAT_HELD m) true
    let s := s.setFlr { s.flr with departed := s.flr.departed ++ [(m, x.ident, 10)] }
    setQuotas (memberGone s m)
  else s

/-- Member `m` has been silent for LOSS_SF superframes at the coordinator (R329). -/
def departSilent (s : State) (m : Nat) : State :=
  if s.linkSt = flCoord ∧ s.present m = true ∧ m ≠ s.modNum ∧ lossSf s ≤ (s.mbr m).silent then depart s m else s

/-- MEMBER_DEPART (R329). -/
def execMemberDepart (m : Fin 64) (s : State) : Out := .next (departSilent s m)

/-- The slot a join request gets (R328). -/
def chooseSlot (s : State) (ident pref : Nat) : Option Nat :=
  let held := fun (m : Nat) => s.flag (Fd.FLR_MBR_STAT_HELD m)
  match (List.range 64).find? (fun m => held m && (s.mbr m).ident == ident) with
  | some m => some m
  | none =>
    if pref < 64 ∧ s.present pref = false ∧ held pref = false then some pref
    else (List.range 64).find? (fun m => !s.present m && !held m)

/-- Grant slot `m`. -/
def grantSlot (s : State) (m ident : Nat) : State :=
  let e := (s.fld (Fd.FLR_MBR_STAT_MEPOCH m) + 1) % 65536
  let s := (s.setFlag (Fd.FLR_MBR_STAT_PRESENT m) true).setFlag (Fd.FLR_MBR_STAT_HELD m) false
  let s := (s.setFld (Fd.FLR_MBR_STAT_MEPOCH m) e).setFld (Fd.FLR_MBR_STAT_LAST m) 255
  setQuotas ((s.setMbr m { ident := ident }).setFlr { (s.setMbr m { ident := ident }).flr with dirNew := (m, s.sfn) :: s.flr.dirNew })

/-- JOIN_REQUEST (R328): the coordinator decodes a join request in sub-slot `sub` and answers it in its next beacon. -/
def execJoinRequest (ident : Word) (pref : Byte) (sub : Fin 12) (s : State) : Out :=
  if s.linkSt = flCoord then
    let i := ident.toNat
    let s := s.setFlr { s.flr with cack := s.flr.cack ++ [(sub.val, i % 65536)] }
    let s := match (owners s).find? (fun m => (s.mbr m).ident == i) with
      | some m => depart s m
      | none => s
    match chooseSlot s i pref.toNat with
    | some m =>
      let s := grantSlot s m i
      .next (s.setFlr { s.flr with grants := s.flr.grants ++ [(i, m, s.fld (Fd.FLR_MBR_STAT_MEPOCH m), Code.ok)] })
    | none => .next (s.setFlr { s.flr with grants := s.flr.grants ++ [(i, 0, 0, Code.refused)] })
  else .next s

/-! ### Enabling and timing (R320, R325, R327) -/

/-- A domain key is provisioned (the secure element's key type 8, R538). -/
def hasDomainKey (s : State) : Bool := s.hasKey Key.domain 0 || s.hasKey Key.domain 1

/-- Start to listen, or to scan when CHAN is 5 to 7 (R327 step 1). -/
def startListen (s : State) : State :=
  let c := s.fld Fd.FLR_DOM_CFG_CHAN
  let s := s.setFlr { s.flr with missed := 0, got := false, inTime := 0, listenCyc := s.clk.cyc, scanCyc := s.clk.cyc, cont := none, granted := none }
  if 5 ≤ c then (s.setLink flScan).setFld Fd.FLR_STAT_CHAN ((chans s).headD 0)
  else (s.setLink flListen).setFld Fd.FLR_STAT_CHAN c

/-- The checks of R327 step 1 and R316. -/
def joinOk (s : State) : Bool :=
  let d := s.fld Fd.FLR_DOM_CFG_DOMAIN
  let c := s.fld Fd.FLR_DOM_CFG_CHAN
  d != 0 && d != 0xFFFF && hasDomainKey s && !(chans s).isEmpty && (decide (5 ≤ c) || (chans s).contains c)

/-- The link runs: after boot step 8, and in no sleeping mode (R351). -/
def linkRuns (s : State) : Bool := decide (Mode.service ≤ s.mode) && s.noPf

/-- EN set (R327). -/
def fleetEnable (s : State) : State :=
  let s := s.setFlag Fd.FLR_CFG_EN true
  if s.linkSt ≠ flOff then s
  else if !joinOk s then s.setFld Fd.FLR_STAT_CODE Code.badArgument
  else if linkRuns s then startListen (s.setFld Fd.FLR_STAT_CODE Code.ok)
  else s.setFld Fd.FLR_STAT_CODE Code.ok

/-- FLEET_LINK_ENABLE (R327): EN of FLR_CFG is written 1. -/
def execFleetLinkEnable (s : State) : Out := .next (fleetEnable s)

/-- The link goes off: its own transactions run to their timeouts. -/
def linkOff (s : State) : State := (s.setLink flOff).setFlr { s.flr with cont := none, granted := none, leaving := false, recs := [] }

/-- EN cleared (R336): a member sends LEAVE once in its next slot, then the link is off. -/
def fleetDisable (s : State) : State :=
  let s := s.setFlag Fd.FLR_CFG_EN false
  if isMember s then addRecs (s.setFlr { s.flr with leaving := true }) [(2, [])] else linkOff s

/-- FLEET_LINK_DISABLE (R336): EN of FLR_CFG is written 0. -/
def execFleetLinkDisable (s : State) : Out := .next (if s.flag Fd.FLR_CFG_EN then fleetDisable s else s)

/-- A write of FLR_CFG. -/
def flrCfgWrite (s : State) (v : Word) : State :=
  let was := s.flag Fd.FLR_CFG_EN
  let s := (plainWrite s Ra.FLR_CFG v).setFlag Fd.FLR_CFG_EN was
  if bit v.toNat 31 then fleetEnable s else if was then fleetDisable s else s

/-- A write of FLR_DOM_CFG: a channel outside the region's set returns BAD_ARGUMENT and the channel in use stays (R316). -/
def flrDomWrite (s : State) (v : Word) : State :=
  let c := bits v.toNat 0 3
  if c < 5 ∧ (chans s).contains c = false then s.setFld Fd.FLR_STAT_CODE Code.badArgument
  else (plainWrite s Ra.FLR_DOM_CFG v).setFld Fd.FLR_STAT_CODE Code.ok

/-- A coordinator begins: slot `m` is its own, with its COORDINATOR role (R325, R331). -/
def beCoordinator (s : State) (m : Nat) : State :=
  let s := if s.present m && (s.mbr m).ident == s.ident then s else grantSlot s m s.ident
  let s := (s.setLink flCoord).setFld Fd.FLR_STAT_MODNUM m
  let mcs := s.fld Fd.FLR_DOM_CFG_MCS
  let s := s.setFlr { s.flr with coord := m, coordEp := nextEpoch s.flr.coordEp, missed := 0, mcs := if mcs < 6 then mcs else 2, granted := none, cont := none }
  (setQuotas s).setFlag Fd.FLR_STAT_TIMING false

/-- A listening module with FOUND has heard no beacon of its domain for 30 superframes (R325). -/
def foundDomain (s : State) : State :=
  if s.linkSt = flListen ∧ s.flag Fd.FLR_CFG_FOUND = true ∧ flrTx s = true ∧ s.since s.flr.listenCyc (3 * cycS) = true then
    let p := s.fld Fd.FLR_CFG_PREF
    beCoordinator s (if p < 64 then p else 0)
  else s

/-- DOMAIN_FOUND (R325). -/
def execDomainFound (s : State) : Out := .next (foundDomain s)

/-- Beacons have been missing for 3 + 2k superframes, and this module is successor k (R331). -/
def takeOver (s : State) : State :=
  let k := s.flr.succ.idxOf s.modNum
  if s.linkSt = flMember ∧ k < s.flr.succ.length ∧ 3 + 2 * k ≤ s.flr.missed ∧ flrTx s = true then
    let old := s.flr.coord % 64
    let s := beCoordinator s s.modNum
    if old = s.modNum then s else depart s old
  else s

/-- SUCCESSOR_TAKEOVER (R331). -/
def execSuccessorTakeover (s : State) : Out := .next (takeOver s)

/-- A member, or a joining module, has heard no beacon for LOSS_SF superframes (R330). -/
def beaconLost (s : State) : State :=
  if (s.linkSt = flMember ∨ s.linkSt = flJoining) ∧ lossSf s ≤ s.flr.missed then startListen s else s

/-- BEACON_LOSS (R330). -/
def execBeaconLoss (s : State) : Out := .next (beaconLost s)

/-- One step of a scan: 1 s on each allowed channel (R327). -/
def flrScan (s : State) : State :=
  if s.linkSt = flScan ∧ s.since s.flr.scanCyc cycS = true then
    let l := chans s
    let i := l.idxOf (s.fld Fd.FLR_STAT_CHAN)
    (s.setFld Fd.FLR_STAT_CHAN (l.getD ((i + 1) % (max 1 l.length)) 0)).setFlr { s.flr with scanCyc := s.clk.cyc }
  else s

/-- The link at a tick boundary: scanning, timeouts. -/
def flrTick (s : State) : State := txnTimeouts (flrScan s)

/-! ### Superframes (R318, R320, R326) -/

/-- Mark held slots whose HOLD has run out. -/
def holdExpire (s : State) : State := s.forN 64 (fun s m => match (s.mbr m).heldTo with
  | some t => if t ≤ s.clk.cyc then (s.setMbr m { s.mbr m with heldTo := none }).setFlag (Fd.FLR_MBR_STAT_HELD m) false else s
  | none => s)

/-- Another superframe without a frame of each member. -/
def agingMembers (s : State) : State := s.forN 64 (fun s m =>
  if s.present m && m != s.modNum then
    (s.count (Fd.FLR_MBR_STAT_LAST m)).setMbr m { s.mbr m with silent := (s.mbr m).silent + 1 } else s)

/-- AUTOCH (R333): at least 20 % of the 77 slots of the last 50 superframes held stranger or damaged frames; the change to the allowed
channel of lowest energy is announced 8 superframes ahead. -/
def autoChannel (s : State) (energy : List Word) : State :=
  let bad := s.flr.badSlots.foldl (· + ·) 0
  if s.flag Fd.FLR_DOM_CFG_AUTOCH && s.flr.chanAt.isNone && s.flr.badSlots.length == 50 && decide (50 * 77 ≤ 5 * bad) then
    let best := (chans s).foldl (fun (a : Option Nat) c => match a with
      | some x => if (energy.getD c 0).toInt < (energy.getD x 0).toInt then some c else some x
      | none => some c) none
    match best with
    | some c => s.setFlr { s.flr with chanAt := some ((s.sfn + 8) % 2 ^ 32, c) }
    | none => s
  else s

/-- A 100 ms superframe boundary by this module's timing that has not been taken yet (R320). -/
def atBoundary (s : State) : Bool := inSlot s 0 50000 && (match s.flr.sfCyc with
  | some c => s.since c (cycS / 20)
  | none => true)

/-- An index of 64. -/
def fin64 (m : Nat) : Fin 64 := ⟨m % 64, Nat.mod_lt _ (by decide)⟩

/-- The roles of module `m` as the directory lists them, with MODULE. -/
def rolesOf (s : State) (m : Nat) : List (Nat × Nat) :=
  if m = s.modNum then ownRoles s
  else ((s.mbr m).roles.filter (fun r => r.1 != 0xFF)) ++ [(0xFF, s.fld (Fd.FLR_MBR_STAT_MEPOCH m))]

/-- The directory of a beacon: one page of 16 modules, and every entry changed in the last 4 superframes (R326). -/
def beaconDir (s : State) : List (Fin 64 × Byte × Half) :=
  let fresh := (s.flr.dirNew.filter (fun x => decide ((s.sfn + 2 ^ 32 - x.2) % 2 ^ 32 < 4))).map (·.1)
  let page := (List.range 16).map (fun k => 16 * s.flr.dirPage + k)
  let l := page ++ fresh.filter (fun m => !page.contains m)
  (l.filter s.present).flatMap (fun m => (rolesOf s m).map (fun r => (fin64 m, BitVec.ofNat 8 r.1, BitVec.ofNat 16 r.2)))

/-- The successors a coordinator lists (R331): members with COORD_OK by COORD_PRI, then by module number, at most 4. How it learns the two of another
module the spec does not say. -/
def listSucc (s : State) : List (Fin 64) :=
  let l := (owners s).filter (fun m => m != s.modNum)
  (((List.range 16).reverse.flatMap (fun p => l.filter (fun m => Config.coordOf (s.mbr m).ident == some p))).take 4).map fin64

/-- The superframes to an announced switch; 0: none. -/
def countdown (s : State) (t : Nat) : Half := BitVec.ofNat 16 ((t + 2 ^ 32 - s.sfn) % 2 ^ 32)

/-- A bitmap of the 64 slots. -/
def slotMap (p : Nat → Bool) : Long := BitVec.ofNat 64 ((List.range 64).foldl (fun w k => w + b2n (p k) * 2 ^ k) 0)

/-- The coordinator's beacon (R326), with COORD_PRI (R332). -/
def beaconOf (s : State) : BeaconMsg :=
  let chan := s.fld Fd.FLR_STAT_CHAN
  let f5 := fun (c : Nat) => (⟨c % 5, Nat.mod_lt _ (by decide)⟩ : Fin 5)
  { pri := ⟨s.fld Fd.FLR_CFG_COORD_PRI % 16, Nat.mod_lt _ (by decide)⟩, chan := f5 chan, mcs := ⟨s.flr.mcs % 6, Nat.mod_lt _ (by decide)⟩,
    keyIdx := ⟨s.flr.keyIdx % 2, Nat.mod_lt _ (by decide)⟩,
    keyIn := match s.flr.keyAt with
      | some t => countdown s t
      | none => 0,
    chanIn := match s.flr.chanAt with
      | some (t, _) => countdown s t
      | none => 0,
    chanTo := match s.flr.chanAt with
      | some (_, c) => f5 c
      | none => f5 chan,
    map := slotMap s.present, held := slotMap (fun m => s.flag (Fd.FLR_MBR_STAT_HELD m)),
    quotas := (owners s).map (fun m => (fin64 m, BitVec.ofNat 16 (if m = s.modNum then s.flr.quotaNext.getD (s.fld Fd.FLR_TXN_STAT_QUOTA) else (s.mbr m).quota))),
    succ := listSucc s,
    cacks := s.flr.cack.map (fun x => (⟨x.1 % 12, Nat.mod_lt _ (by decide)⟩, BitVec.ofNat 16 x.2)),
    grants := s.flr.grants.map (fun x => (BitVec.ofNat 32 x.1, fin64 x.2.1, BitVec.ofNat 16 x.2.2.1, BitVec.ofNat 16 x.2.2.2)),
    departs := s.flr.departed.map (fun x => (fin64 x.1, BitVec.ofNat 32 x.2.1)), dir := beaconDir s,
    tstate := ⟨s.timeState % 4, Nat.mod_lt _ (by decide)⟩, tunc := BitVec.ofNat 16 (satU 16 ((s.reg Ra.CLK_TIME_UNC).toNat / 1000)),
    members := BitVec.ofNat 8 (owners s).length }

/-- The coordinator's part of a superframe start: its beacon carries and then drops what it listed. A beacon is taken with a full burst of airtime. -/
def coordStart (s : State) (energy : List Word) : State :=
  let s := s.forN 64 departSilent
  let s := holdExpire (autoChannel s energy)
  if flrTx s && unsent s 0 0 then
    let s := sendFrame (s.setFlr { s.flr with succ := (listSucc s).map (·.val) }) { type := 0, sfn := s.sfn, bcn := some (beaconOf s) } (airTime 1 1440)
    s.setFlr { s.flr with
      departed := (s.flr.departed.map (fun x => (x.1, x.2.1, x.2.2 - 1))).filter (fun x => x.2.2 != 0),
      grants := [], cack := [], dirPage := (s.flr.dirPage + 1) % 4 }
  else s

/-- A granted slot is used from the superframe after the GRANT (R327 step 5). -/
def joinStart (s : State) : State := match s.flr.granted with
  | some m => ((s.setLink flMember).setFld Fd.FLR_STAT_MODNUM m).setFlr { s.flr with granted := none, cont := none }
  | none => s

/-- The DT timing holds (R320): LOCKED, or HOLDOVER with CLK_TIME_UNC at most 10 µs; the own SFN is the beacon's; the last 3 beacons arrived within
20 µs of their place. -/
def dtTimed (s : State) : Bool :=
  (s.timeState == tLocked || (s.timeState == tHoldover && decide ((s.reg Ra.CLK_TIME_UNC).toNat ≤ 10000))) &&
    s.dtNs / 100000000 % 2 ^ 32 == s.sfn && decide (3 ≤ s.flr.inTime)

/-- The announced key change is due: the old key is accepted for 10 superframes more (R324). -/
def keySwitch (s : State) : State := match s.flr.keyAt with
  | some t =>
    if (s.sfn + 2 ^ 32 - t) % 2 ^ 32 < 2 ^ 31 then
      s.setFlr { s.flr with keyAt := none, keyIdx := 1 - s.flr.keyIdx, keyOld := some ((t + 10) % 2 ^ 32) }
    else s
  | none => s

/-- The announced channel change is due (R333). -/
def chanSwitch (s : State) : State := match s.flr.chanAt with
  | some (t, c) =>
    if (s.sfn + 2 ^ 32 - t) % 2 ^ 32 < 2 ^ 31 ∧ isMember s = true then
      (s.setFld Fd.FLR_STAT_CHAN c).setFlr { s.flr with chanAt := none, badSlots := [] }
    else s
  | none => s

/-- A new domain key stands at the index that is not in use: the coordinator announces the change 50 superframes ahead (R324). -/
def keyAnnounce (s : State) (idx : Nat) : State :=
  if s.linkSt = flCoord ∧ idx ≠ s.flr.keyIdx ∧ s.flr.keyAt.isNone = true then s.setFlr { s.flr with keyAt := some ((s.sfn + 50) % 2 ^ 32) } else s

/-- The UNLOAD record's 32 bytes (R347); none while idle. -/
def unloadRec (s : State) : List FRec :=
  let ph := s.fld Fd.FLR_UNL_STAT_PHASE
  if ph = 0 then []
  else [(4, leBytes 4 (s.reg Ra.FLR_UNL_ID).toNat ++ leBytes 4 (s.reg Ra.FLR_UNL_START).toNat ++ leBytes 1 (s.fld Fd.FLR_UNL_CFG_PARTNER) ++
    leBytes 1 ph ++ leBytes 2 0 ++ leBytes 4 (s.flr.unlEnd.getD 0) ++ ((List.range 4).flatMap (fun k => leBytes 4 (s.reg (Ra.FLR_UNL_DATA k)).toNat)))]

/-- The contention attempt that was sent has no CACK (R335): after the sixth it ends, otherwise it picks a new superframe offset `rsf` and sub-slot
`rsub` at random. -/
def contFail (s : State) (rsf rsub : Nat) : State := match s.flr.cont with
  | none => s
  | some c =>
    if !c.sent then s
    else if 6 ≤ c.att then
      if c.join then (startListen s).setFlr { (startListen s).flr with waitSf := some ((s.sfn + 10) % 2 ^ 32) }
      else s.setFlr { s.flr with cont := none, recs := c.recs ++ s.flr.recs }
    else
      let w := min (2 ^ c.att) 16
      s.setFlr { s.flr with cont := some { c with att := c.att + 1, sent := false, sf := (s.sfn + rsf % w) % 2 ^ 32, sub := rsub } }

/-- A superframe has passed without a beacon: it is counted, and an attempt sent in it has failed; its new random choice is a free value. -/
def beaconMissed (s : State) : State :=
  let s := flrCount (s.setFlr { s.flr with missed := s.flr.missed + 1, inTime := 0 }) fcMissed
  if s.flr.cont.any (·.sent) then
    let x := s.fresh
    contFail x.2 (x.1.toNat % 16) (x.1.toNat / 16 % 12)
  else s

/-- What a superframe starts with, once its number is set: counts of the last one, quotas, repeats, expiries. -/
def sfBegin (s : State) (energy : List Word) : State :=
  let s := if s.linkSt != flCoord && !s.flr.got then beaconMissed s else s
  let s := s.setFlr { s.flr with
    got := false, badSlots := (s.flr.badNow :: s.flr.badSlots).take 50, badNow := 0, sentNow := [], sfCyc := some s.clk.cyc,
    unlRec := unloadRec s }
  let s := s.forN 5 (fun s c => s.setReg (Ra.FLR_RADIO c) (energy.getD c 0))
  let s := match s.flr.quotaNext with
    | some q => txnPromote ((s.setFld Fd.FLR_TXN_STAT_QUOTA q).setFlr { s.flr with quotaNext := none })
    | none => s
  let s := repeatAll (agingMembers (joinStart (chanSwitch (keySwitch s))))
  s.setFlr { s.flr with kept := s.flr.kept.filter (fun k => !k.done || decide (s.clk.cyc < k.till)),
                        tags := s.flr.tags.filter (fun x => decide (s.clk.cyc < x.2)),
                        dirNew := s.flr.dirNew.filter (fun x => decide ((s.sfn + 2 ^ 32 - x.2) % 2 ^ 32 < 4)) }

/-- SUPERFRAME_START (R318): superframe S starts; `energy` is the level measured per channel, in dBm. -/
def execSuperframeStart (energy : List Word) (s : State) : Out :=
  if linkRuns s && decide (flListen ≤ s.linkSt) && atBoundary s then
    let n := if s.linkSt = flCoord ∨ s.flag Fd.FLR_STAT_TIMING = false then s.dtNs / 100000000 % 2 ^ 32 else (s.sfn + 1) % 2 ^ 32
    let s := sfBegin (s.setFld Fd.FLR_SFN_V n) energy
    let s := foundDomain (beaconLost (takeOver s))
    .next (if s.linkSt = flCoord then coordStart s energy
      else if s.linkSt = flMember then s.setFlag Fd.FLR_STAT_TIMING (!dtTimed s) else s)
  else .next s

/-! ### Received frames (R323) -/

/-- What a frame fails first: 0 damaged, 1 stranger, 2 replay; `none` when it passes. -/
def frameBad (s : State) (h : FleetHdr) : Option Nat :=
  let d := (h.sfn.toNat + 1 + 2 ^ 32 - s.sfn) % 2 ^ 32
  let known := s.linkSt == flScan || s.linkSt == flListen
  let keyOk := h.key.val == s.flr.keyIdx || (match s.flr.keyOld with
    | some t => decide ((t + 2 ^ 32 - s.sfn) % 2 ^ 32 ≤ 10)
    | none => false)
  if !h.crcOk then some fcDamaged
  else if h.domain.toNat ≠ s.fld Fd.FLR_DOM_CFG_DOMAIN then some fcStranger
  else if known = false ∧ 2 < d then some fcReplay
  else if !(h.micOk && (keyOk || known)) then some fcStranger
  else if h.type.val = 1 ∧ !(h.src.toNat == h.slot.val && s.present h.slot) then some fcStranger
  else none

/-- Count a discarded frame; a stranger is recorded at most once a minute (R323). -/
def frameDrop (s : State) (h : FleetHdr) (k : Nat) : State :=
  let s := flrCount s k
  let s := if k = fcReplay then s else s.setFlr { s.flr with badNow := s.flr.badNow + 1 }
  let quiet := match s.flr.strCyc with
    | some t => !s.since t (60 * cycS)
    | none => false
  if k = fcStranger ∧ quiet = false then
    let s := (s.setFlr { s.flr with strCyc := some s.clk.cyc }).setFlag Fd.FLR_STAT_EVT_STRANGER true
    logEvent s Ev.stranger Src.link (s.fld Fd.FLR_STAT_CHAN * 256 + h.slot.val) h.level.toNat
  else s

/-- The contention attempt that was sent has succeeded or failed by the CACKs of a beacon (R335). -/
def contResult (s : State) (cacks : List (Nat × Nat)) (rsf rsub : Nat) : State := match s.flr.cont with
  | none => s
  | some c =>
    if c.sent && cacks.contains (c.sub, s.ident % 65536) then
      flrCount (s.setFlr { s.flr with cont := if c.join then some { c with sent := false, sf := (s.sfn + 2 ^ 31) % 2 ^ 32 } else none }) fcCack
    else contFail s rsf rsub

/-- Start attempting a contention frame (R334): attempt 1 has a window of one superframe. -/
def contStart (s : State) (join : Bool) (recs : List FRec) (rsub : Nat) : State :=
  s.setFlr { s.flr with cont := some { att := 1, sf := s.sfn, sub := rsub, join := join, recs := recs } }

/-- The departures, map, directory, quotas and successors of a beacon. -/
def beaconDomain (s : State) (b : BeaconMsg) : State :=
  let s := b.departs.foldl (fun s x => if s.present x.1 && !(isMember s && x.1.val == s.modNum && x.2.toNat == s.ident) then memberGone s x.1 else s) s
  let s := s.forN 64 (fun s m =>
    (s.setFlag (Fd.FLR_MBR_STAT_PRESENT m) (bit b.map.toNat m)).setFlag (Fd.FLR_MBR_STAT_HELD m) (bit b.held.toNat m))
  let s := b.dir.foldl (fun (s : State) x =>
    let s := if x.2.1.toNat = 0xFF then s.setFld (Fd.FLR_MBR_STAT_MEPOCH x.1) x.2.2.toNat else s
    let m := s.mbr x.1
    s.setMbr x.1 { m with roles := (m.roles.filter (fun r => r.1 != x.2.1.toNat)) ++ [(x.2.1.toNat, x.2.2.toNat)] }) s
  let s := b.quotas.foldl (fun (s : State) x => s.setMbr x.1 { s.mbr x.1 with quota := x.2.toNat }) s
  let s := s.setFlr { s.flr with succ := b.succ.map (·.val), mcs := b.mcs.val }
  if isMember s then s.setFlr { s.flr with quotaNext := some (s.mbr s.modNum).quota } else s

/-- A GRANT for this module, or its own departure (R327, R328). -/
def beaconGrants (s : State) (b : BeaconMsg) : State :=
  let s := match b.grants.find? (fun x => x.1.toNat == s.ident) with
    | some (_, m, e, c) =>
      if s.linkSt ≠ flJoining then s
      else if c.toNat = Code.ok then (s.setFld (Fd.FLR_MBR_STAT_MEPOCH m) e.toNat).setFlr { s.flr with granted := some m.val, cont := none }
      else (startListen s).setFlr { (startListen s).flr with waitSf := some ((s.sfn + 100) % 2 ^ 32) }
    | none => s
  if s.linkSt = flMember ∧ (b.departs.any (fun x => x.1.val == s.modNum && x.2.toNat == s.ident) ∨ s.present s.modNum = false) then startListen s else s

/-- Key and channel switches announced (R324, R333). -/
def beaconSwitches (s : State) (b : BeaconMsg) : State :=
  let s := if b.keyIn.toNat ≠ 0 then s.setFlr { s.flr with keyAt := some ((s.sfn + b.keyIn.toNat) % 2 ^ 32) } else s
  let s := if s.linkSt = flJoining then s.setFlr { s.flr with keyIdx := b.keyIdx.val } else s
  if b.chanIn.toNat ≠ 0 then s.setFlr { s.flr with chanAt := some ((s.sfn + b.chanIn.toNat) % 2 ^ 32, b.chanTo.val) } else s

/-- The timing after a beacon that arrived within 20 µs of its place or not (R320). -/
def beaconTiming (s : State) (inTime : Bool) : State :=
  let s := s.setFlr { s.flr with inTime := if inTime then s.flr.inTime + 1 else 0 }
  s.setFlag Fd.FLR_STAT_TIMING (!dtTimed s)

/-- Joining waits until a superframe (R327 step 6, R328). -/
def mayJoin (s : State) : Bool := match s.flr.waitSf with
  | some t => decide (2 ^ 31 ≤ (t + 2 ^ 32 - 1 - s.sfn) % 2 ^ 32)
  | none => true

/-- A member, joiner or listener takes a beacon. -/
def beaconTake (s : State) (h : FleetHdr) (b : BeaconMsg) (inTime : Bool) (rsf rsub : Nat) : State :=
  let s := s.setFld Fd.FLR_SFN_V h.sfn.toNat
  let lev := some (h.rx0.toInt, h.rx1.toInt)
  let s := s.setFlr { s.flr with missed := 0, got := true, coord := h.src.toNat % 64, listenCyc := s.clk.cyc, rx := lev }
  let s := if b.tstate.val = tLocked then aidTake s false 100 else s
  let s := beaconTiming s inTime
  let first := (s.linkSt == flScan || s.linkSt == flListen) && mayJoin s
  let s := if first then ((s.setLink flJoining).setFld Fd.FLR_STAT_CHAN b.chan).setFlr { s.flr with waitSf := none } else s
  let s := contResult s (b.cacks.map (fun x => (x.1.val, x.2.toNat))) rsf rsub
  let s := beaconGrants (beaconSwitches (beaconDomain s b) b) b
  if s.linkSt = flJoining ∧ s.flr.cont.isNone = true ∧ s.flr.granted.isNone = true then contStart s true [] rsub else s

/-- A coordinator hears another coordinator of its domain: it yields to a higher COORD_PRI, or an equal one with a lower IDENT. Its
slot is another's where the surviving domain does not own it or lists it with another membership epoch: the directory carries no IDENT (R332, log 49). -/
def beaconYield (s : State) (h : FleetHdr) (b : BeaconMsg) : State :=
  let own := s.fld Fd.FLR_CFG_COORD_PRI
  if own < b.pri.val ∨ (own = b.pri.val ∧ h.ident.toNat < s.ident) then
    let s := s.setFld Fd.FLR_SFN_V h.sfn.toNat
    let s := s.setFlr { s.flr with missed := 0, got := true, coord := h.src.toNat % 64, departed := [], grants := [], cack := [] }
    let mine := bit b.map.toNat s.modNum &&
      b.dir.all (fun x => x.1.val != s.modNum || x.2.1.toNat != 0xFF || x.2.2.toNat == s.fld (Fd.FLR_MBR_STAT_MEPOCH s.modNum))
    let s := beaconDomain (s.setLink flMember) b
    if mine then s else startListen s
  else s

/-- BEACON_RECEIVE (R326): a beacon arrives; `inTime` within 20 µs of S + 16 µs, `rsf` and `rsub` the next random choice of R334. -/
def execBeaconReceive (h : FleetHdr) (b : BeaconMsg) (inTime : Bool) (rsf : Fin 16) (rsub : Fin 12) (s : State) : Out :=
  if linkRuns s && decide (flScan ≤ s.linkSt) && h.type.val == 0 then
    match frameBad s h with
    | some k => .next (frameDrop s h k)
    | none => .next (if s.linkSt = flCoord then beaconYield s h b else beaconTake s h b inTime rsf rsub)
  else .next s

/-- KEY_CHANGE (R324): the announced superframe has come. -/
def execKeyChange (s : State) : Out := .next (keySwitch s)

/-- CHANNEL_CHANGE (R333): the announced superframe has come. -/
def execChannelChange (s : State) : Out := .next (chanSwitch s)

/-! ### The member slot (R336, R337) -/

/-- Payload capacity of a member slot at an MCS. -/
def slotCapacity (mcs : Nat) : Nat := ([438, 876, 1752, 2628, 3504, 5256] : List Nat).getD mcs 1752 - 28

/-- Bytes a record takes. -/
def recSize (r : FRec) : Nat := 3 + r.2.length

/-- Fill a payload in the order given: a record that does not fit waits. -/
def fillSlot : Nat → List FRec → List FRec × List FRec
  | _, [] => ([], [])
  | room, r :: l =>
    if recSize r ≤ room then
      let (a, b) := fillSlot (room - recSize r) l
      (r :: a, b)
    else
      let (a, b) := fillSlot room l
      (a, r :: b)

/-- The ROLE record. -/
def roleRec (s : State) : FRec := (1, (ownRoles s).flatMap (fun x => leBytes 1 x.1 ++ leBytes 1 0 ++ leBytes 2 x.2))

/-- The epochs a slot that starts now carries: the two most recent with e + 4 ms no later than its start, the older first (R244). -/
def obsEpochs (s : State) : List (List Byte) :=
  (((s.gns.obs.filter (fun x => decide (x.1 + 4000000 ≤ s.dtNs))).take 2).map (·.2)).reverse

/-- An observation block with at most `n` satellites of each epoch, in order of falling elevation: per epoch its base-state record, NSAT as sent, and the
MSM bytes (R244, R245). -/
def obsBlock (recs : List (List Byte)) (sats : List (List (List Byte))) (n : Nat) : List Byte :=
  (recs.zip (sats ++ List.replicate recs.length [])).flatMap (fun x =>
    let keep := x.2.take n
    x.1.take 7 ++ [BitVec.ofNat 8 keep.length] ++ x.1.drop 8 ++ keep.flatten)

/-- The OBS record: as many satellites, up to MAXSAT, as fit into 70 % of the capacity; whether satellites were dropped for it (R337). -/
def obsRec (s : State) (cap : Nat) (sats : List (List (List Byte))) : List FRec × Bool :=
  let recs := obsEpochs s
  let fits := fun (n : Nat) => decide (10 * (3 + (obsBlock recs sats n).length) ≤ 7 * cap)
  let top := maxSat s
  let n := ((List.range (top + 1)).reverse.find? fits).getD 0
  if recs.isEmpty then ([], false) else ([(3, obsBlock recs sats n)], decide (n < top) && sats.any (fun l => decide (n < l.length)))

/-- Bytes of a frame that carries these records: header, records, MIC and CRC. -/
def frameBytes (l : List FRec) : Nat := 28 + l.foldl (fun a r => a + recSize r) 0

/-- MEMBER_SLOT_TRANSMIT (R336): the module's own slot, once a superframe: its records in order; `obs` the MSM bytes of each epoch it carries, by satellite
in order of falling elevation. -/
def execMemberSlotTransmit (obs : List (List (List Byte))) (s : State) : Out :=
  if isMember s && flrTx s && inMemberSlot s s.modNum && unsent s 1 0 then
    let cap := slotCapacity s.flr.mcs
    let s := txnPromote s
    let (ob, cut) := obsRec s cap obs
    let s := if cut then flrCount s fcObsCut else s
    let by_ := fun (k : Nat) => s.flr.recs.filter (fun r => r.1 == k)
    let all := [roleRec s] ++ by_ 2 ++ ob ++ s.flr.unlRec ++ by_ 5 ++ by_ 6 ++ by_ 7 ++ by_ 8
    let (sent, rest) := fillSlot cap all
    let us := airTime s.flr.mcs (frameBytes sent)
    if !dutyOk s us then .next (flrCount s fcDuty)
    else
      let s := s.setFlr { s.flr with recs := rest.filter (fun r => !([1, 3, 4].contains r.1)) }
      let s := sendFrame s { type := 1, sfn := s.sfn, recs := sent } us
      .next (if s.flr.leaving && sent.any (fun r => r.1 == 2) then linkOff s else s)
  else .next s

/-- A frame of member `m` passed the checks: it is no longer silent. -/
def heard (s : State) (m : Nat) : State := (s.setFld (Fd.FLR_MBR_STAT_LAST m) 0).setMbr m { s.mbr m with silent := 0 }

/-- Hand on one record of module `m` (R336). -/
def recTake (s : State) (m : Nat) (r : FleetRec) : State := match r with
  | .role l =>
    let r := l.map (fun x => (x.1.toNat, x.2.toNat))
    let s := if (s.mbr m).roles = r then s else s.setFlr { s.flr with dirNew := (m, s.sfn) :: s.flr.dirNew }
    s.setMbr m { s.mbr m with roles := r }
  | .leave => if s.linkSt = flCoord then depart s m else s
  | .obs base => fleetCorr s m base
  | .unload w => if m = s.fld Fd.FLR_UNL_CFG_PARTNER then s.setFlr { s.flr with part := w, partSf := some s.sfn } else s
  | .ack source tag seg => if source.val = s.modNum then segAck s m tag.toNat seg.toNat else s
  | .telem _ => s
  | .unknown _ => flrCount s fcUnknown

/-- MEMBER_FRAME_RECEIVE (R336): a member-slot or contention frame of a member is received; `sub` is its sub-slot. The coordinator lists a
contention frame in its next CACK. -/
def execMemberFrameReceive (h : FleetHdr) (sub : Fin 12) (recs : List FleetRec) (s : State) : Out :=
  if linkRuns s && isMember s && (h.type.val == 1 || h.type.val == 2) then
    match frameBad s h with
    | some k => .next (frameDrop s h k)
    | none =>
      let m := h.src.toNat % 64
      let s := s.setReg (Ra.FLR_QUALITY m) h.level
      let s := if h.type.val = 1 then (heard s m).setMbr m { (heard s m).mbr m with ident := h.ident.toNat } else heard s m
      let s := if h.type.val = 2 ∧ s.linkSt = flCoord then s.setFlr { s.flr with cack := s.flr.cack ++ [(sub.val, h.ident.toNat % 65536)] } else s
      .next (recs.foldl (fun s r => recTake s m r) s)
  else .next s

/-- REQ and RSP records that did not fit may use contention (R334). -/
def overflow (s : State) : List FRec := s.flr.recs.filter (fun r => r.1 == 6 || r.1 == 7)

/-- CONTENTION_TRANSMIT (R334): in its chosen superframe and sub-slot the module senses the channel; above −72 dBm (`busy`) the frame is
deferred to the new random choice `rsf`, `rsub`, else it is sent. A member with CONT_EN takes its overflow records. -/
def execContentionTransmit (busy : Bool) (rsf : Fin 16) (rsub : Fin 12) (s : State) : Out :=
  if !flrTx s || decide (s.linkSt < flJoining) then .next s
  else match s.flr.cont with
    | none =>
      if isMember s && s.flag Fd.FLR_CFG_CONT_EN && !(overflow s).isEmpty then
        let (a, b) := fillSlot (1062 - 28) (overflow s)
        let s := s.setFlr { s.flr with recs := s.flr.recs.filter (fun r => !(r.1 == 6 || r.1 == 7)) ++ b }
        .next (contStart s false a rsub)
      else .next s
    | some c =>
      let us := airTime 1 (frameBytes c.recs)
      if c.sent = true ∨ c.sf ≠ s.sfn ∨ inSubSlot s c.sub = false ∨ s.flr.sentNow.any (fun x => decide (2 ≤ x.1)) = true then .next s
      else if !dutyOk s us then .next (flrCount s fcDuty)
      else if busy then .next (s.setFlr { s.flr with cont := some { c with sf := (s.sfn + rsf.val % (min (2 ^ (c.att - 1)) 16)) % 2 ^ 32, sub := rsub } })
      else
        let s := flrCount s fcAttempts
        .next (sendFrame (s.setFlr { s.flr with cont := some { c with sent := true } }) { type := if c.join then 3 else 2, sfn := s.sfn, sub := c.sub, recs := c.recs } us)

end Sys2Proof.Machine
end

