-- ==== Sys2Proof/Machine/GwenMem.lean ====
section
/-! DEFINITION. Gweny memory, branch, jump and sample I/O instructions (R87–R95, R101). -/

namespace Sys2Proof.Machine

/-! ### Memory -/

/-- Where a local address lies (R87). -/
inductive LocalAt where
  | tile
  | mailbox
  | submit
  | none
  deriving DecidableEq, Repr

/-- Classify a word access. -/
def localAt (c : GwCtx) (a : Nat) : LocalAt :=
  if c.inTile a 4 then .tile
  else if 0x40000 ≤ a ∧ a < 0x41000 then .mailbox
  else if 0x41000 ≤ a ∧ a < 0x41100 then .submit
  else .none

/-- LW (R101): a tile word, a mailbox-window word as it stood at the boundary (R91), or 0 from the DMA submit window. -/
def execLw (u : Fin 10) (rd rs1 : Fin 32) (imm : BitVec 16) (s : State) : Out :=
  .next (gwRun s u false (fun c => prismTouches c (c.ea rs1 imm) 4) (fun s c =>
    let a := c.ea rs1 imm
    if a % 4 ≠ 0 then .trap 0x02 (BitVec.ofNat 32 a)
    else match localAt c a with
      | .tile => .go s (c.setG rd (tileWord s c a)).step4 2
      | .mailbox => .go s (c.setG rd (smGet 0 c.mbx (a - 0x40000))).step4 2
      | .submit => .go s (c.setG rd 0).step4 2
      | .none => .trap 0x03 (BitVec.ofNat 32 a)))

/-- SW (R101): a tile word at once; mailbox-window and submit-window writes are held with the sample's outputs (R91). -/
def execSw (u : Fin 10) (rd rs1 : Fin 32) (imm : BitVec 16) (s : State) : Out :=
  .next (gwRun s u false (fun c => prismTouches c (c.ea rs1 imm) 4) (fun s c =>
    let a := c.ea rs1 imm
    if a % 4 ≠ 0 then .trap 0x02 (BitVec.ofNat 32 a)
    else match localAt c a with
      | .tile => .go (s.setWord (c.base + a) (c.gr rd)) c.step4 1
      | .none => .trap 0x03 (BitVec.ofNat 32 a)
      | _ => .go s { c with writes := c.writes ++ [(a, c.gr rd)] }.step4 1))

/-- LV (R101): 256 bytes of the tile window into a vector register; 64-byte alignment (R89). -/
def execLv (u : Fin 10) (vd : Fin 8) (rs1 : Fin 32) (imm : BitVec 16) (s : State) : Out :=
  .next (gwRun s u true (fun c => prismTouches c (c.ea rs1 imm) 256 || prismUsesV c vd) (fun s c =>
    let a := c.ea rs1 imm
    if a % 64 ≠ 0 then .trap 0x02 (BitVec.ofNat 32 a)
    else if !c.inTile a 256 then .trap 0x03 (BitVec.ofNat 32 a)
    else .go s (c.setV vd (tileWords s c a 64)).step4 2))

/-- SV (R101): a vector register as 256 bytes of the tile window, lane 0 lowest (R81). -/
def execSv (u : Fin 10) (vd : Fin 8) (rs1 : Fin 32) (imm : BitVec 16) (s : State) : Out :=
  .next (gwRun s u true (fun c => prismTouches c (c.ea rs1 imm) 256 || prismUsesV c vd) (fun s c =>
    let a := c.ea rs1 imm
    if a % 64 ≠ 0 then .trap 0x02 (BitVec.ofNat 32 a)
    else if !c.inTile a 256 then .trap 0x03 (BitVec.ofNat 32 a)
    else .go (s.setWords (c.base + a) (c.vr vd)) c.step4 2))

/-! ### The Prism unit (R104–R108) -/

/-- A Prism descriptor as read from its 32 bytes (R104). -/
structure PmvDesc where
  a      : Nat
  cols   : Nat
  rows   : Nat
  x      : Nat
  y      : Nat
  b      : Nat
  stride : Nat
  yv     : Nat
  xv     : Nat
  yreg   : Bool
  xreg   : Bool
  sub    : Bool
  acc    : Bool
  rsvd   : Bool
  deriving DecidableEq, Repr

/-- Read a descriptor from its eight words. -/
def pmvDesc (l : List Word) : PmvDesc :=
  let w := fun i => (l.getD i 0).toNat
  let c := w 5
  { a := w 0, cols := bits (w 1) 16 16, rows := bits (w 1) 0 16, x := w 2, y := w 3, b := w 4, stride := bits c 16 16,
    yv := bits c 7 3, xv := bits c 4 3, yreg := bit c 3, xreg := bit c 2, sub := bit c 1, acc := bit c 0,
    rsvd := decide (bits c 10 6 ≠ 0) || decide (w 6 ≠ 0) || decide (w 7 ≠ 0) }

/-- A descriptor that takes cause 0x05 (R108). -/
def pmvBad (d : PmvDesc) : Bool :=
  decide (d.rows = 0 ∨ 1024 < d.rows ∨ d.cols = 0 ∨ 1024 < d.cols) || decide (d.stride % 4 ≠ 0 ∨ d.stride < 4 * d.cols)
    || (d.acc && d.sub) || (d.xreg && decide (64 < d.cols)) || (d.yreg && decide (64 < d.rows)) || d.rsvd

/-- The address among A, X, Y and B, as used, that is not 4-byte aligned, if any. -/
def pmvMisaligned (d : PmvDesc) : Option Nat :=
  let used := [(true, d.a), (!d.xreg, d.x), (!d.yreg, d.y), (d.acc || d.sub, d.b)]
  (used.find? (fun x => x.1 && decide (x.2 % 4 ≠ 0))).map (·.2)

/-- The first byte of [a, a + n) outside a window of `size` bytes. -/
def outOf (size a n : Nat) : Option Nat := if a + n ≤ size then none else some (max a size)

/-- The first byte of A, X, B or Y outside the window (R108). -/
def pmvOutside (size : Nat) (d : PmvDesc) : Option Nat :=
  let fa := (List.range d.rows).findSome? (fun r => outOf size (d.a + r * d.stride) (4 * d.cols))
  let fx := if d.xreg then none else outOf size d.x (4 * d.cols)
  let fb := if d.acc || d.sub then outOf size d.b (4 * d.rows) else none
  let fy := if d.yreg then none else outOf size d.y (4 * d.rows)
  fa.orElse (fun _ => fx.orElse (fun _ => fb.orElse (fun _ => fy)))

/-- Start the Prism unit with a checked descriptor: x and b are read in the setup cycles, and it completes ROWS × ⌈COLS / 64⌉ + 12 cycles after
issue (R106). -/
def pmvStart (s : State) (c : GwCtx) (d : PmvDesc) : Prism :=
  { doneAt := c.cyc + d.rows * ((d.cols + 63) / 64) + 12,
    ranges := [(d.a, (d.rows - 1) * d.stride + 4 * d.cols)] ++ (if d.xreg then [] else [(d.x, 4 * d.cols)]) ++
      (if d.yreg then [] else [(d.y, 4 * d.rows)]) ++ (if d.acc || d.sub then [(d.b, 4 * d.rows)] else []),
    vregs := (if d.xreg then [d.xv] else []) ++ (if d.yreg then [d.yv] else []),
    yAddr := if d.yreg then none else some d.y, yv := d.yv, a := d.a, stride := d.stride, cols := d.cols, rows := d.rows,
    x := if d.xreg then (c.vr d.xv).take d.cols else tileWords s c d.x d.cols,
    b := if d.acc || d.sub then some (d.sub, tileWords s c d.b d.rows) else none }

/-- PMV (R101, R106, R108): waits for a running operation, checks the descriptor at ea in the order of R108 and starts the unit. DESIGN
CHOICE (log 38): a descriptor that itself lies outside the tile window takes 0x03 before the checks of its content; R108 gives it no place. -/
def execPmv (u : Fin 10) (rs1 : Fin 32) (imm : BitVec 16) (s : State) : Out :=
  .next (gwRun s u true (fun _ => true) (fun s c =>
    let a := c.ea rs1 imm
    if a % 32 ≠ 0 then .trap 0x02 (BitVec.ofNat 32 a)
    else if !c.inTile a 32 then .trap 0x03 (BitVec.ofNat 32 a)
    else
      let d := pmvDesc (tileWords s c a 8)
      if pmvBad d then .trap 0x05 (BitVec.ofNat 32 a)
      else match pmvMisaligned d with
        | some x => .trap 0x02 (BitVec.ofNat 32 x)
        | none => match pmvOutside c.size d with
          | some x => .trap 0x03 (BitVec.ofNat 32 x)
          | none => .go s { c with prism := some (pmvStart s c d) }.step4 1))

/-- PRISM_COMPLETE (R107): the running operation of unit `u`, its cycle come, writes y and ORs its flags. -/
def execPrismComplete (u : Fin 10) (s : State) : Out :=
  .next (match s.ctx u with
    | some c => let (s', c') := prismAuto s c; s'.setCtx u (some c')
    | none => s)

/-! ### Branches and jumps -/

/-- A branch: 3 cycles when taken, 1 otherwise. -/
def gwBranch (s : State) (u : Nat) (off : BitVec 16) (waits : GwCtx → Bool) (cond : GwCtx → Bool) : State :=
  gwRun s u false waits (fun s c =>
    if cond c then .go s { c with pc := c.target off.toInt } 3 else .go s c.step4 1)

/-- BEQ (R101). -/
def execBeq (u : Fin 10) (rs1 rs2 : Fin 32) (off : BitVec 16) (s : State) : Out :=
  .next (gwBranch s u off (fun _ => false) (fun c => c.gr rs1 == c.gr rs2))

/-- BNE (R101). -/
def execBne (u : Fin 10) (rs1 rs2 : Fin 32) (off : BitVec 16) (s : State) : Out :=
  .next (gwBranch s u off (fun _ => false) (fun c => c.gr rs1 != c.gr rs2))

/-- BLT (R101): signed. -/
def execBlt (u : Fin 10) (rs1 rs2 : Fin 32) (off : BitVec 16) (s : State) : Out :=
  .next (gwBranch s u off (fun _ => false) (fun c => decide ((c.gr rs1).toInt < (c.gr rs2).toInt)))

/-- BGE (R101): signed. -/
def execBge (u : Fin 10) (rs1 rs2 : Fin 32) (off : BitVec 16) (s : State) : Out :=
  .next (gwBranch s u off (fun _ => false) (fun c => decide ((c.gr rs2).toInt ≤ (c.gr rs1).toInt)))

/-- BLTU (R101): unsigned. -/
def execBltu (u : Fin 10) (rs1 rs2 : Fin 32) (off : BitVec 16) (s : State) : Out :=
  .next (gwBranch s u off (fun _ => false) (fun c => decide ((c.gr rs1).toNat < (c.gr rs2).toNat)))

/-- BGEU (R101): unsigned. -/
def execBgeu (u : Fin 10) (rs1 rs2 : Fin 32) (off : BitVec 16) (s : State) : Out :=
  .next (gwBranch s u off (fun _ => false) (fun c => decide ((c.gr rs2).toNat ≤ (c.gr rs1).toNat)))

/-- BFS (R101): branch if flag bit `n` is set; waits for the Prism unit (R107). -/
def execBfs (u : Fin 10) (n : Fin 16) (off : BitVec 16) (s : State) : Out :=
  .next (gwBranch s u off (fun _ => true) (fun c => c.flagBit n))

/-- BFC (R101): branch if flag bit `n` is clear; waits for the Prism unit (R107). -/
def execBfc (u : Fin 10) (n : Fin 16) (off : BitVec 16) (s : State) : Out :=
  .next (gwBranch s u off (fun _ => true) (fun c => !c.flagBit n))

/-- J (R101). -/
def execJ (u : Fin 10) (off : BitVec 26) (s : State) : Out :=
  .next (gwRun s u false (fun _ => false) (fun s c => .go s { c with pc := c.target off.toInt } 3))

/-- JAL (R80, R101): g31 := pc + 4, then as J. -/
def execJal (u : Fin 10) (off : BitVec 26) (s : State) : Out :=
  .next (gwRun s u false (fun _ => false) (fun s c =>
    .go s { c.setG 31 (BitVec.ofNat 32 (c.pc + 4)) with pc := c.target off.toInt } 3))

/-- JR (R101): pc := ea. -/
def execJr (u : Fin 10) (rs1 : Fin 32) (imm : BitVec 16) (s : State) : Out :=
  .next (gwRun s u false (fun _ => false) (fun s c => .go s { c with pc := c.ea rs1 imm } 3))

/-! ### Sample I/O (R93–R95) -/

/-- The qualifier word of a routed port's value at the sample boundary (R94). -/
def qualWord (tick : Nat) (v : PubV) : Word :=
  let age := match v.tick with
    | some t => min 4095 (tick - t)
    | none => 4095
  BitVec.ofNat 32 (age * 2 ^ 20 + b2n v.valid * 2 ^ 16 + v.code % 2 ^ 16)

/-- The value an input port held at the sample's boundary (R93). -/
def GwCtx.portAt (c : GwCtx) (p : Nat) : Option PubV := smGet none c.ports p

/-- IN (R93, R101). -/
def execInPort (u : Fin 10) (rd rs1 : Fin 32) (imm : BitVec 16) (s : State) : Out :=
  .next (gwRun s u false (fun _ => false) (fun s c =>
    let p := c.port rs1 imm
    if 1023 < p then .trap 0x04 (BitVec.ofNat 32 p)
    else .go s (c.setG rd (((c.portAt p).map (·.val)).getD 0)).step4 2))

/-- INQ (R94, R101). -/
def execInq (u : Fin 10) (rd rs1 : Fin 32) (imm : BitVec 16) (s : State) : Out :=
  .next (gwRun s u false (fun _ => false) (fun s c =>
    let p := c.port rs1 imm
    if 1023 < p then .trap 0x04 (BitVec.ofNat 32 p)
    else .go s (c.setG rd (((c.portAt p).map (qualWord c.tick)).getD 0)).step4 2))

/-- OUT (R95, R101): held for t + P; a port above 255, or not routed to this loop, takes cause 0x04. DESIGN CHOICE (log 38): the fusion sequencer
and the Mirror pair have no routes, and every port up to 255 is accepted. -/
def execOut (u : Fin 10) (rd rs1 : Fin 32) (imm : BitVec 16) (s : State) : Out :=
  .next (gwRun s u false (fun _ => false) (fun s c =>
    let p := c.port rs1 imm
    if 255 < p ∨ (u.val < 8 ∧ (s.outRoute c.loop p).isNone) then .trap 0x04 (BitVec.ofNat 32 p)
    else .go s { c with outs := smPut none c.outs p (some (c.gr rd)) }.step4 1))

/-- VIN (R93, R101): lane i := port + i; the highest lane's port is checked. -/
def execVin (u : Fin 10) (vd : Fin 8) (rs1 : Fin 32) (imm : BitVec 16) (s : State) : Out :=
  .next (gwRun s u true (fun c => prismUsesV c vd) (fun s c =>
    let p := c.port rs1 imm
    if 1023 < p + 63 then .trap 0x04 (BitVec.ofNat 32 (p + 63))
    else .go s (c.setV vd ((List.range 64).map (fun i => ((c.portAt (p + i)).map (·.val)).getD 0))).step4 16))

end Sys2Proof.Machine
end

