-- ==== Sys2Proof/Machine/Migrate.lean ====
section
/-! DEFINITION. Live migration, removal and return of engines, the spare, and engine faults with their evacuation (R146–R157). -/

namespace Sys2Proof.Machine

/-! ### Stored placement (R157) -/

/-- Commit the placement of every stored loop and the state of every engine; an engine under test is stored OFFLINE. A loop whose migration has
not reached its step 6 stays at the place it left (R149). -/
def commitPlacement (s : State) : State :=
  s.setCe { s.ce with
    stored := s.ce.stored.map (fun (x : StoredLoop) =>
      if s.ce.migs.any (fun m => m.loop == x.loop && decide (1 ≤ m.phase)) then x
      else match s.slotOf x.loop with
      | some (e, i) => { x with eng := e, slot := i, base := s.fld (Fd.CE_SLOT_WIN_BASE e i) }
      | none => x),
    stEng := (List.range 8).map (fun e => if s.engState e = engTesting then engOffline else s.engState e) }

/-! ### Requests (R130, R146) -/

/-- Write CE_MIG_STAT of a window. -/
def migStat (s : State) (via code : Nat) (pending : Bool) (loop dest phase : Nat) : State :=
  s.setReg (Ra.CE_MIG_STAT via) (BitVec.ofNat 32 (code * 2 ^ 16 + b2n pending * 2 ^ 15 + loop * 2 ^ 8 + dest * 2 ^ 4 + phase))

/-- Show a migration's phase; those of a REMOVE or an evacuation have no window. -/
def migShow (s : State) (m : Mig) (phase : Nat) : State :=
  if m.remove then s else migStat s m.via 0 true m.loop m.dest phase

/-- A migration command that is turned away at its write shows its code; a pending one is otherwise unaffected. -/
def migRefuse (s : State) (via code loop dest : Nat) : State :=
  if s.flag (Fd.CE_MIG_STAT_PENDING via) then s.setFld (Fd.CE_MIG_STAT_CODE via) code else migStat s via code false loop dest 0

/-- The word that a write of CE_MIG_CMD carries. -/
def migCmdWord (cmd dest loop budget : Nat) : Nat := cmd * 2 ^ 28 + dest * 2 ^ 24 + loop * 2 ^ 16 + budget

/-- A write of CE_MIG_CMD through window `via`. -/
def migCmdWrite (s : State) (via cmd dest loop budget : Nat) : State :=
  let w := migCmdWord cmd dest loop budget
  if cmd ≠ 1 ∧ cmd ≠ 2 then migRefuse (recRefused s (Ra.CE_MIG_CMD via) w Code.badArgument) via Code.badArgument loop dest
  else if s.replaying || loopBusy s loop then migRefuse (recRefused s (Ra.CE_MIG_CMD via) w Code.refused) via Code.refused loop dest
  else
    let m : Mig := { loop := loop, dest := dest, replace := decide (cmd = 2), budget := budget, via := via }
    migStat (s.setCe { s.ce with migs := s.ce.migs ++ [m] }) via 0 true loop dest 0

/-- MIGRATE_MOVE (R146): MOVE is written to CE_MIG_CMD. -/
def execMigrateMove (e dest : Fin 8) (loop : Fin 128) (s : State) : Out := .next (migCmdWrite s e 1 dest loop 0)

/-- MIGRATE_REPLACE (R146, R150): REPLACE is written to CE_MIG_CMD. -/
def execMigrateReplace (e dest : Fin 8) (loop : Fin 128) (budget : Half) (s : State) : Out :=
  .next (migCmdWrite s e 2 dest loop budget.toNat)

/-- Replace a migration by another value of it. -/
def setMig (s : State) (m m' : Mig) : State :=
  s.setCe { s.ce with migs := s.ce.migs.map (fun x => if x = m then m' else x) }

/-- End a migration with a code; its reservation is freed. -/
def migEnd (s : State) (m : Mig) (code phase : Nat) : State :=
  let s := s.setCe { s.ce with migs := s.ce.migs.erase m }
  refreshEngines (if m.remove then s else migStat s m.via code false m.loop m.dest phase)

/-- The cycles a copy takes (R146): 64 + W / 64 for MOVE, 64 + R / 64 for REPLACE. -/
def copyCycles (s : State) (e i : Nat) (replace : Bool) : Nat :=
  64 + 64 * (if replace then s.fld (Fd.CE_SLOT_STATE_RGN_LEN e i) else s.fld (Fd.CE_SLOT_WIN_SIZE e i))

/-- The code of the checks of R146, in the table's order, for a loop in slot (e, i). -/
def migCode (s : State) (m : Mig) : Nat := match s.slotOf m.loop with
  | none => Code.refused
  | some (e, i) =>
    let p := s.fld (Fd.CE_SLOT_SCHED_PERIOD e i)
    let w := s.fld (Fd.CE_SLOT_WIN_SIZE e i)
    let len := (s.reg (Ra.CE_LOAD_LEN m.via)).toNat
    let b := migBudget s m e i
    if s.slotState e i ≠ SlotSt.running then Code.refused
    else if s.engState m.dest ≠ engOnline ∨ s.spare = m.dest then Code.refused
    else if !m.replace && m.dest == e then Code.badArgument
    else if (s.freeSlot m.dest).isNone || (tileFit (s.tileUsed m.dest) w).isNone then Code.refused
    else if !s.admits m.dest (p, s.fld (Fd.CE_SLOT_SCHED_PHASE e i), migCost s m e i) || !s.privAdmitted e i m.dest then Code.refused
    else if p = 1 ∧ 40000 < b + copyCycles s e i m.replace then Code.refused
    else if m.replace && (decide (4096 * w < len) || len % 4 != 0) then Code.badArgument
    else if m.replace && (m.budget != 0 && !decide (16 ≤ m.budget ∧ m.budget ≤ 38392)) then Code.badArgument
    else if m.replace && decide (w < s.fld (Fd.CE_SLOT_STATE_RGN_OFS e i) + s.fld (Fd.CE_SLOT_STATE_RGN_LEN e i)) then Code.badArgument
    else Code.ok

/-- The base a window of `w` units takes on the destination: its own when that range is free. -/
def migBase (s : State) (dest base w : Nat) : Nat :=
  if tileFree (s.tileUsed dest) base w then base else (tileFit (s.tileUsed dest) w).getD 0

/-- A migration is accepted at frame boundary F (step 1 of R147), or ends with its code. -/
def acceptMig (s : State) (m : Mig) : State :=
  let code := migCode s m
  if code ≠ Code.ok then migEnd s m code 0
  else match s.slotOf m.loop with
  | none => s
  | some (e, i) =>
    let w := s.fld (Fd.CE_SLOT_WIN_SIZE e i)
    let b := migBase s m.dest (s.fld (Fd.CE_SLOT_WIN_BASE e i)) w
    let m' : Mig := { m with phase := 1, src := e, srcSlot := i, dstSlot := (s.freeSlot m.dest).getD 0, dstBase := b,
                             fetched := !m.replace, from_ := s.clk.tick }
    if m.replace then
      let len := (s.reg (Ra.CE_LOAD_LEN m.via)).toNat
      let a := s.reg64 (Ra.CE_LOAD_ADDR_LO m.via) (Ra.CE_LOAD_ADDR_HI m.via)
      let s := noteXfer s (Src.ce0 + m.dest) a len false
      match fetchImage s m.dest b w len a with
      | some s => migShow (setMig s m m') m' 1
      | none => migShow (setMig s m { m' with bad := true }) m' 1
    else refreshEngines (migShow (setMig s m m') m' 1)

/-- Every migration waiting for its frame boundary is accepted or refused, oldest first; it is recorded as an input (R130). -/
def acceptMigs (s : State) : State :=
  (s.ce.migs.filter (fun m => m.phase == 0)).foldl (fun s m =>
    acceptMig (tabRec s TabT.cmd (Ra.CE_MIG_CMD m.via)
      [migCmdWord (if m.replace then 2 else 1) m.dest m.loop m.budget]) m) s

/-- The migration of a loop in a phase. -/
def migIn (s : State) (loop phase : Nat) : Option Mig := s.ce.migs.find? (fun m => m.loop == loop && m.phase == phase)

/-- REPLACE_FETCH_COMPLETE (R147 step 1): the new image has been fetched, or the fetch has faulted. -/
def execReplaceFetchComplete (loop : Fin 128) (fault : Bool) (s : State) : Out := match migIn s loop 1 with
  | some m =>
    if m.fetched then .next s
    else if fault || m.bad then .next (migEnd s m Code.fault 0)
    else .next (setMig s m { m with fetched := true, from_ := (s.clk.tick / 200 + 1) * 200 })
  | none => .next s

/-! ### The cut and the copy (R147 steps 3–6, R149) -/

/-- Copy `n` bytes of memory. -/
def copyMem (s : State) (src dst n : Nat) : State := s.setBytes dst (s.bytesAt src n)

/-- No sample of the loop runs or waits for dispatch. -/
def sampleEnded (s : State) (loop : Nat) : Bool :=
  s.gw.ctx.all (fun x => match x.2 with
    | some c => c.loop != loop
    | none => true) && s.gw.due.all (fun x => x.2.all (fun c => c.loop != loop))

/-- Copy a loop that does not run to a slot of the spare, state kept, at its own base; its old slot empties. -/
def copyLoop (s : State) (e i dest : Nat) : State :=
  let j := (s.freeSlot dest).getD 0
  let b := s.fld (Fd.CE_SLOT_WIN_BASE e i)
  let s := copyMem s (winAddr e b) (winAddr dest b) (4096 * s.fld (Fd.CE_SLOT_WIN_SIZE e i))
  slotEmpty (slotCopy s e i dest j) e i

/-- MIGRATION_CUT (R147 step 3, R149): the last source sample has ended; the source goes MIGRATING and the copier starts. A loop
that has stopped ends its migration, or is copied as STOPPED within a REMOVE. -/
def execMigrationCut (loop : Fin 128) (s : State) : Out := match migIn s loop 1 with
  | some m =>
    if s.slotState m.src m.srcSlot = SlotSt.stopped then
      if m.remove then .next (refreshEngines (copyLoop (migEnd s m 0 0) m.src m.srcSlot m.dest))
      else .next (migEnd s m Code.refused 0)
    else if m.tc.isSome && sampleEnded s loop then
      let s := s.setFld (Fd.CE_SLOT_STATUS_STATE m.src m.srcSlot) SlotSt.migrating
      let s := dmaPause s loop true
      .next (migShow (setMig s m { m with phase := 2 }) m 2)
    else .next s
  | none => .next s

/-- The tick of the first destination sample. -/
def migCutTick (s : State) (m : Mig) : Nat := m.tc.getD 0 + s.fld (Fd.CE_SLOT_SCHED_PERIOD m.dest m.dstSlot)

/-- Step 5 of R147: the source slot becomes EMPTY and its window is zeroed. -/
def migCut (s : State) (m : Mig) : State :=
  let t := migCutTick s m
  let s := slotEmpty s m.src m.srcSlot
  let s := if m.remove then s else s.setReg64 (Ra.CE_MIG_CUT_LO m.via) (Ra.CE_MIG_CUT_HI m.via) t
  refreshEngines (setMig s m { m with cut := true })

/-- The copies whose first destination sample is due make their cut. -/
def migTick (s : State) : State :=
  (s.ce.migs.filter (fun m => m.phase == 3 && !m.cut && decide (migCutTick s m ≤ s.clk.tick))).foldl migCut s

/-- What the copier carries (R146, R150): the window, or the state region into the fetched image. -/
def migCopy (s : State) (m : Mig) : State :=
  let a := winAddr m.src (s.fld (Fd.CE_SLOT_WIN_BASE m.src m.srcSlot))
  let b := winAddr m.dest m.dstBase
  if m.replace then
    let o := 4096 * s.fld (Fd.CE_SLOT_STATE_RGN_OFS m.src m.srcSlot)
    copyMem s (a + o) (b + o) (4096 * s.fld (Fd.CE_SLOT_STATE_RGN_LEN m.src m.srcSlot))
  else copyMem s a b (4096 * s.fld (Fd.CE_SLOT_WIN_SIZE m.src m.srcSlot))

/-- MIGRATION_COPY_COMPLETE (R147 step 4): the copy is complete, paused DMA resumes and the destination slot is RUNNING; a sample
already due on it is dispatched at once. -/
def execMigrationCopyComplete (loop : Fin 128) (s : State) : Out := match migIn s loop 2 with
  | some m =>
    let bud := migBudget s m m.src m.srcSlot
    let s := slotCopy (migCopy s m) m.src m.srcSlot m.dest m.dstSlot
    let s := (s.setFld (Fd.CE_SLOT_WIN_BASE m.dest m.dstSlot) m.dstBase).setFld (Fd.CE_SLOT_BUDGET_BUDGET m.dest m.dstSlot) bud
    let s := s.setFld (Fd.CE_SLOT_STATUS_STATE m.dest m.dstSlot) SlotSt.running
    let m' : Mig := { m with phase := 3 }
    let s := dmaPause (migShow (setMig s m m') m' 3) loop false
    if migCutTick s m' ≤ s.clk.tick then .next (dispatchSlot (migCut s m') m.dest m.dstSlot) else .next (refreshEngines s)
  | none => .next s

/-- Step 6 of R147 at a frame boundary: the placement is committed, PHASE = 4 and CODE = OK. -/
def migsDone (s : State) : State :=
  (s.ce.migs.filter (fun m => m.cut)).foldl (fun s m => commitPlacement (migEnd s m Code.ok 4)) s

/-- A fault of either engine before the cut (R149): the loop counts on its source, and the migration ends. -/
def migAbort (s : State) (m : Mig) : State :=
  let s := if 2 ≤ m.phase then dmaPause (s.setFld (Fd.CE_SLOT_STATUS_STATE m.src m.srcSlot) SlotSt.running) m.loop false else s
  let s := if m.phase = 3 then slotEmpty s m.dest m.dstSlot else s
  migEnd s m Code.refused 0

/-- The migration of a loop that is running and not yet cut. -/
def migOpen (s : State) (loop : Nat) : Option Mig := s.ce.migs.find? (fun m => m.loop == loop && decide (1 ≤ m.phase) && !m.cut)

/-- A REMOVE ends before the engine is empty, because that engine or the spare has failed: it is REFUSED. -/
def removeEnd (s : State) (e : Nat) : State :=
  let cmd := smGet 0 s.ce.engCmds e
  let s := s.setCe { s.ce with removing := smPut false s.ce.removing e false, engCmds := if cmd = 5 then smPut 0 s.ce.engCmds e 0 else s.ce.engCmds }
  if cmd = 5 then cmdResult s e Code.refused false 0 1 0 else s

/-- End the migrations that a failed engine takes part in, except those already cut, and with them a REMOVE from it or onto it. -/
def migsAbort (s : State) (e : Nat) : State :=
  let s := (s.ce.migs.filter (fun m => decide (1 ≤ m.phase) && !m.cut && (m.src == e || m.dest == e))).foldl migAbort s
  s.forN 8 (fun s k => if smGet false s.ce.removing k && (k == e || s.spare == e) then removeEnd s k else s)

/-! ### Engine commands (R152–R154) -/

/-- The word that a write of CE_ENG_CMD carries, with its key. -/
def engCmdWord (cmd : Nat) : Nat := 0x6E1D * 2 ^ 16 + cmd

/-- A write of CE_ENG_CMD of engine `e` (R130, R153, R154). -/
def engCmdWrite (s : State) (e key cmd : Nat) : State :=
  let a := Ra.CE_ENG_CMD e
  if key ≠ 0x6E1D then s
  else if cmd ≠ 1 ∧ cmd ≠ 2 then cmdRefuse (recRefused s a (engCmdWord cmd) Code.badArgument) e Code.badArgument 0 1
  else if s.replaying || smGet 0 s.ce.engCmds e != 0 then cmdRefuse (recRefused s a (engCmdWord cmd) Code.refused) e Code.refused 0 1
  else cmdResult (s.setCe { s.ce with engCmds := smPut 0 s.ce.engCmds e cmd }) e Code.ok true 0 1 0

/-- ENGINE_REMOVE (R153): REMOVE is written to CE_ENG_CMD with its key. -/
def execEngineRemove (e : Fin 8) (key : Half) (s : State) : Out := .next (engCmdWrite s e key.toNat 1)

/-- ENGINE_RETURN (R154): RETURN is written to CE_ENG_CMD with its key. -/
def execEngineReturn (e : Fin 8) (key : Half) (s : State) : Out := .next (engCmdWrite s e key.toNat 2)

/-- REMOVE is refused (R153), a second one also while the first still runs: no new spare is designated yet. -/
def removeRefused (s : State) (e : Nat) : Bool :=
  let n := (s.engSlots e).length
  let sz := (s.engSlots e).foldl (fun a i => a + s.fld (Fd.CE_SLOT_WIN_SIZE e i)) 0
  !s.flag (Fd.CE_SET_STAT_SPARE_OK 0) || s.ce.removing.any (·.2) || s.spare == e || (s.engState e != engOnline && s.engState e != engDegraded) ||
  (s.engSlots e).any (fun i => s.ce.migs.any (fun m => m.loop == s.slotLoop e i)) ||
  (s.engSlots e).any (fun i => s.fld (Fd.CE_SLOT_SCHED_PERIOD e i) == 1 &&
    decide (40000 < s.fld (Fd.CE_SLOT_BUDGET_BUDGET e i) + 64 * n + 64 * sz))

/-- One loop of an engine that empties: a loop that runs migrates, any other is copied now. With `auto` a loop stopped by an
uncorrectable error stays. -/
def removeSlot (s : State) (e i : Nat) (auto : Bool) : State :=
  let st := s.slotState e i
  if st = SlotSt.running ∨ st = SlotSt.starting then
    let m : Mig := { loop := s.slotLoop e i, dest := s.spare, replace := false, budget := 0, via := e, phase := 1, src := e, srcSlot := i,
                     dstSlot := (s.freeSlot s.spare).getD 0, dstBase := s.fld (Fd.CE_SLOT_WIN_BASE e i), from_ := s.clk.tick, remove := true }
    s.setCe { s.ce with migs := s.ce.migs ++ [m] }
  else if auto && s.fld (Fd.CE_SLOT_STATUS_STOP_WHY e i) == 4 then s
  else copyLoop s e i s.spare

/-- REMOVE takes effect (R153). -/
def startRemove (s : State) (e : Nat) (auto : Bool) : State :=
  let s := (s.engSlots e).foldl (fun s i => removeSlot s e i auto) s
  refreshEngines (s.setCe { s.ce with removing := smPut false s.ce.removing e true })

/-- RETURN takes effect (R154): TESTING, or REFUSED. -/
def acceptReturn (s : State) (e : Nat) : State :=
  if s.engState e = engOffline ∧ (s.engSlots e).isEmpty then
    refreshEngines ((s.setFld (Fd.CE_ENG_STAT_STATE e) engTesting).setCe { s.ce with engCmds := smPut 0 s.ce.engCmds e 6 })
  else cmdResult (s.setCe { s.ce with engCmds := smPut 0 s.ce.engCmds e 0 }) e Code.refused false 0 1 0

/-- An engine command at a frame boundary: 1 REMOVE and 2 RETURN take effect, 3 (a complete REMOVE) shows its result. -/
def acceptEngCmd (s : State) (e : Nat) : State := match smGet 0 s.ce.engCmds e with
  | 1 =>
    let s := tabRec s TabT.cmd (Ra.CE_ENG_CMD e) [engCmdWord 1]
    if removeRefused s e then cmdResult (s.setCe { s.ce with engCmds := smPut 0 s.ce.engCmds e 0 }) e Code.refused false 0 1 0
    else startRemove (s.setCe { s.ce with engCmds := smPut 0 s.ce.engCmds e 5 }) e false
  | 2 => acceptReturn (tabRec s TabT.cmd (Ra.CE_ENG_CMD e) [engCmdWord 2]) e
  | 3 => cmdResult (commitPlacement (s.setCe { s.ce with engCmds := smPut 0 s.ce.engCmds e 0 })) e Code.ok false 0 1 0
  | _ => s

/-- Every engine command at a frame boundary. -/
def acceptEngCmds (s : State) : State := s.forN 8 acceptEngCmd

/-- Every loop that leaves the engine has been copied. -/
def removeCopied (s : State) (e : Nat) : Bool :=
  (s.engSlots e).all (fun i => s.slotState e i == SlotSt.migrating && (migIn s (s.slotLoop e i) 3).isSome
    || (s.slotState e i == SlotSt.stopped && s.fld (Fd.CE_SLOT_STATUS_STOP_WHY e i) == 4))

/-- REMOVE_COMPLETE (R153): after the last copy the engine is OFFLINE, the spare is an ordinary engine and SPARE.ENG is 0xF. A REMOVE that was
written commits the placement and shows its result at the next frame boundary; one that the module issued commits it now (R157). -/
def execRemoveComplete (e : Fin 8) (s : State) : Out :=
  if smGet false s.ce.removing e && removeCopied s e then
    let s := s.setFld (Fd.CE_ENG_STAT_STATE e) engOffline
    let s := s.setFld (Fd.CE_SET_SPARE_ENG 0) 0xF
    let s := s.setCe { s.ce with removing := smPut false s.ce.removing e false }
    if smGet 0 s.ce.engCmds e = 5 then .next (refreshEngines (s.setCe { s.ce with engCmds := smPut 0 s.ce.engCmds e 3 }))
    else .next (commitPlacement (refreshEngines s))
  else .next s

/-- MARCH_TEST_END (R154): the march test of a TESTING engine ends; on a pass it is ONLINE, and the spare when none is designated. -/
def execMarchTestEnd (e : Fin 8) (pass : Bool) (s : State) : Out :=
  if s.engState e = engTesting then
    let s := s.setFld (Fd.CE_ENG_STAT_STATE e) (if pass then engOnline else engOffline)
    let s := if pass && s.spare == 0xF then s.setFld (Fd.CE_SET_SPARE_ENG 0) e else s
    let s := s.setCe { s.ce with engCmds := smPut 0 s.ce.engCmds e 0 }
    .next (commitPlacement (refreshEngines (cmdResult s e (if pass then Code.ok else Code.refused) false 0 1 0)))
  else .next s

/-- A write of CE_SET_SPARE.ENG (R152): 0xF designates none; an engine that holds loops or is not ONLINE, and one of 8 to 14 that no module has,
is ignored and sets SPARE_ERR. -/
def spareWrite (s : State) (v : Nat) : State :=
  if v = 0xF then refreshSet (s.setFld (Fd.CE_SET_SPARE_ENG 0) v)
  else if v < 8 ∧ s.engState v = engOnline ∧ (s.engSlots v).isEmpty then refreshSet (s.setFld (Fd.CE_SET_SPARE_ENG 0) v)
  else s.setFlag (Fd.CE_SET_STAT_SPARE_ERR 0) true

/-- SPARE_DESIGNATE (R152): CE_SET_SPARE is written. -/
def execSpareDesignate (eng : Fin 16) (s : State) : Out := .next (spareWrite s eng)

/-! ### Engine faults (R155, R156) -/

/-- Evacuation follows a fault: AUTO and SPARE_OK are set, and the engine is not the spare itself. -/
def evacOk (s : State) (e : Nat) : Bool :=
  s.flag (Fd.CE_SET_EVAC_AUTO 0) && s.flag (Fd.CE_SET_STAT_SPARE_OK 0) && s.spare != e

/-- The samples of an engine that have started or are due and have not ended: each loop with its publishing tick. -/
def unended (s : State) (e : Nat) : List (Nat × Nat) :=
  ((s.ctx e).toList ++ smGet [] s.gw.due e).map (fun (c : GwCtx) => (c.loop, c.tick + c.period))

/-- The tick from which the ports of a loop act under STOP_ACT when its engine or its tile memory fails (R140): the publishing tick of its
interrupted sample, one of `l`; where there is none, the next tick, but none before the last publication the loop still holds. -/
def interruptedPub (s : State) (l : List (Nat × Nat)) (loop : Nat) : Nat := match l.find? (fun x => x.1 == loop) with
  | some x => x.2
  | none => (s.ce.held.filter (fun h => h.loop == loop)).foldl (fun m h => max m h.pub) (s.clk.tick + 1)

/-- Discard what the loops of `l` would publish at the ticks given. -/
def dropPubs (s : State) (l : List (Nat × Nat)) : State :=
  s.setCe { s.ce with held := s.ce.held.filter (fun h => !l.contains (h.loop, h.pub)) }

/-- Loops with their publishing ticks in a FAULT record, as offsets from the record's tick (the layout is the model's own). -/
def pubsRec (t : Nat) (l : List (Nat × Nat)) : List Nat := l.map (fun x => x.1 * 2 ^ 16 + (x.2 - t))
def pubsOf (t : Nat) (l : List Nat) : List (Nat × Nat) := l.map (fun x => (x / 2 ^ 16, t + x % 2 ^ 16))

/-- The slot of an engine whose window covers a tile byte address. -/
def slotAt (s : State) (e addr : Nat) : Option Nat := (s.engSlots e).find? (fun i =>
  decide (s.fld (Fd.CE_SLOT_WIN_BASE e i) ≤ addr / 4096 ∧ addr / 4096 < s.fld (Fd.CE_SLOT_WIN_BASE e i) + s.fld (Fd.CE_SLOT_WIN_SIZE e i)))

/-- An engine with an uncorrectable error is DEGRADED, and is evacuated where that is enabled (R156). -/
def ueEngine (s : State) (e loop : Nat) : State :=
  let s := (s.setFlag (Fd.CE_ENG_FAULT_UE e) true).setFld (Fd.CE_ENG_FAULT_UE_LOOP e) loop
  let s := refreshEngines (if s.engState e = engOnline then s.setFld (Fd.CE_ENG_STAT_STATE e) engDegraded else s)
  if evacOk s e then s.setCe { s.ce with evac := smPut false s.ce.evac e true } else s

/-- An uncorrectable error inside the window of slot (e, i) (R155): the loop stops at once, with the interrupted samples of `l` discarded; its
migration ends, counted on the source (R149). An error in the copy that a migration has not cut to yet ends the migration, and the loop
goes on where it was. -/
def ueAt (s : State) (e i addr : Nat) (l : List (Nat × Nat)) : State :=
  let loop := s.slotLoop e i
  let s := tabRec s TabT.fault e (4 :: addr :: pubsRec s.clk.tick l)
  let s := logEvent s Ev.tileUe (Src.ce0 + e) (e * 2 ^ 24 + loop * 2 ^ 16) addr
  let act := interruptedPub s l loop
  let stop := fun (s : State) => dmaCancelLoop (stopSlot (dropPubs (dropSamples s loop) l) e i 4 act) loop
  let s := match migOpen s loop with
    | some m => if m.src = e ∧ m.srcSlot = i then stop (migAbort s m) else migAbort s m
    | none => stop s
  ueEngine s e loop

/-- TILE_UE (R155): an uncorrectable error at a tile byte address inside a loop's window stops that loop; the engine is DEGRADED. -/
def execTileUe (e : Fin 8) (addr : Fin 262144) (s : State) : Out := match slotAt s e addr with
  | some i => .next (ueAt s e i addr ((unended s e).filter (fun x => x.1 == s.slotLoop e i)))
  | none => .next s

/-- The module issues REMOVE for an engine with an uncorrectable error, and records it (R156). -/
def evacRemove (s : State) (e : Nat) : State :=
  let s := tabRec (s.setCe { s.ce with evac := smPut false s.ce.evac e false }) TabT.fault e [6]
  if removeRefused s e then s else startRemove (logEvent s Ev.engEvac (Src.ce0 + e) e s.spare) e true

/-- ENG_EVAC (R156): at the next frame boundary the module issues REMOVE for a DEGRADED engine. In REPLAY the recording says when. -/
def execEngEvac (e : Fin 8) (s : State) : Out :=
  if smGet false s.ce.evac e && s.framePend && s.rpl.live.isNone then .next (evacRemove s e) else .next s

/-- Every loop of a FAILED engine restarts on the spare, at its first boundary at or after the second tick after the hang; its samples of the
hung tick that had not ended are lost. -/
def evacuate (s : State) (e : Nat) (l : List (Nat × Nat)) : State :=
  let sp := s.spare
  let s := s.setCe { s.ce with lost := s.ce.lost ++ l }
  let s := (s.engSlots e).foldl (fun s i =>
    let run := s.slotState e i == SlotSt.running || s.slotState e i == SlotSt.starting
    let loop := s.slotLoop e i
    let s := copyLoop s e i sp
    if run then s.setCe { s.ce with resume := smPut none s.ce.resume loop (some (s.clk.tick + 2)) } else s) s
  commitPlacement (logEvent (s.setFld (Fd.CE_SET_SPARE_ENG 0) 0xF) Ev.engEvac (Src.ce0 + e) e sp)

/-- Every loop of a FAILED engine stops under its STOP_ACT, with STOP_WHY 5. -/
def stopEngine (s : State) (e : Nat) (l : List (Nat × Nat)) : State :=
  (s.engSlots e).foldl (fun s i =>
    if [SlotSt.running, SlotSt.starting, SlotSt.disabling].contains (s.slotState e i) then
      let loop := s.slotLoop e i
      dmaCancelLoop (stopSlot s e i 5 (interruptedPub s l loop)) loop
    else s) s

/-- An engine hangs with the samples of `l` unended (R155, R156): it is FAILED; their pending writes are discarded; its loops are evacuated or
stopped. -/
def hangAt (s : State) (e : Nat) (l : List (Nat × Nat)) : State :=
  let s := tabRec (s.setFlag (Fd.CE_ENG_FAULT_HANG e) true) TabT.fault e (5 :: pubsRec s.clk.tick l)
  let s := (migsAbort s e).setFld (Fd.CE_ENG_STAT_STATE e) engFailed
  let s := dropPubs (s.setGw { s.gw with ctx := smPut none s.gw.ctx e none, due := smPut [] s.gw.due e [] }) l
  let s := refreshEngines s
  refreshEngines (if evacOk s e then evacuate s e l else stopEngine s e l)

/-- ENGINE_HANG (R155, R156): at the end of a tick a sample of the engine has not ended; it is FAILED, and evacuated or stopped. -/
def execEngineHang (e : Fin 8) (s : State) : Out :=
  if (s.ctx e).isSome then .next (hangAt s e (unended s e)) else .next s

/-! ### Routes (R135–R138) -/

/-- The INDEX of an input source exists (R136 with the chapters it names). -/
def srcIndexOk (cls idx : Nat) : Bool :=
  let q := idx % 64
  let g := idx / 64
  match cls with
  | 1 => decide (g < 62) && decide (q < (if g < 48 then 3 else if g < 52 then 2 else if g < 60 then 6 else if g = 60 then 7 else 8))
  | 2 => decide (idx < 2 ^ 15)
  | 3 => decide (g < 9) && decide (q < [8, 8, 8, 8, 8, 10, 4, 7, 4].getD g 0)
  | 4 => decide (idx < 6)
  | 5 => decide (idx < 32)
  | 6 => decide (idx / 8 < 30) && decide (idx % 8 < 7)
  | 7 =>
    let g := idx / 256
    decide (idx % 256 < (if g < 4 then 8 else if g = 4 then 4 else if g = 5 then 3 else if 8 ≤ g ∧ g < 16 then 11 else 0))
  | 8 => decide (idx < 1024)
  | _ => false

/-- The channel or signal an output entry names exists (R137). -/
def dstIndexOk (cls idx : Nat) : Bool := match cls with
  | 0 => true
  | 1 => decide (2 ≤ idx ∧ idx ≤ 31)
  | 2 => decide (idx < 24)
  | 3 => decide (idx < 256)
  | _ => false

/-- A route entry as last written: kind 0 input, 1 output. -/
def rtWritten (s : State) (out : Bool) (i : Nat) : List Word :=
  if out then (smGet none s.ce.rtOutP i).getD (smGet [] s.ce.rtOut i) else (smGet none s.ce.rtInP i).getD (smGet [] s.ce.rtIn i)

/-- Another entry, as last written, satisfies `p`. -/
def rtOther (s : State) (out : Bool) (i : Nat) (p : List Word → Bool) : Bool :=
  let keys := if out then s.ce.rtOut.map (·.1) ++ s.ce.rtOutP.map (·.1) else s.ce.rtIn.map (·.1) ++ s.ce.rtInP.map (·.1)
  keys.any (fun k => k != i && p (rtWritten s out k))

/-- A RAMP that R137 forbids: negative, or an FP32 NaN. -/
def rampBad (e : List Word) : Bool :=
  if rtFloat e then fIsNaN (rtRamp e) || flt (rtRamp e) 0 else decide ((rtRamp e).toInt < 0)

/-- The loop that an entry belongs to is locked, whether the entry is enabled or not (R132). An entry never written names loop 0. -/
def rtLockedBy (s : State) (e : List Word) : Bool := loopLocked s (rtLoop e)

/-- A route of a transmit signal by this loop would give the signal's object a second owner (R387). -/
def rtSecondOwner (s : State) (e : List Word) : Bool :=
  let g := s.canWritten 1 (rtIndex e)
  bit (ew g 0) 31 && match objOwner s (ef g 0 24 7) with
    | some m => m != rtLoop e
    | none => false

/-- The fields of an entry are in range, enabled or not (R136, R137). -/
def rtFieldsOk (out : Bool) (e : List Word) : Bool :=
  if out then dstIndexOk (rtClass e) (rtIndex e) && rtStopAct e != 3 && !rampBad e else srcIndexOk (rtClass e) (rtIndex e)

/-- Another enabled entry has the loop and port of this one. -/
def rtTwice (s : State) (out : Bool) (i : Nat) (e : List Word) : Bool :=
  rtOther s out i (fun x => rtEn x && rtLoop x == rtLoop e &&
    (if out then rtOutPort x == rtOutPort e else rtInPort x == rtInPort e))

/-- Another enabled output entry names the channel or the signal of this one. -/
def rtNamed (s : State) (i : Nat) (e : List Word) : Bool :=
  rtClass e != 0 && rtOther s true i (fun x => rtEn x && rtClass x == rtClass e && rtIndex x == rtIndex e)

/-- The code of a WRITE of entry `i` (R132, R136, R137). -/
def rtCode (s : State) (out : Bool) (i : Nat) (e : List Word) : Nat :=
  if s.replaying then Code.refused
  else if out && decide (1023 < i) then Code.badArgument
  else if rtLockedBy s e || rtLockedBy s (rtWritten s out i) then Code.refused
  else if !rtFieldsOk out e then Code.badArgument
  else if !rtEn e then Code.ok
  else if rtTwice s out i e then Code.badArgument
  else if out && (rtNamed s i e || (rtClass e == 3 && rtSecondOwner s e)) then Code.refused
  else Code.ok

/-- The selected entry (CE_RT_IDX). -/
def rtSelOut (s : State) : Bool := s.flag (Fd.CE_RT_IDX_KIND 0)
def rtSelIdx (s : State) : Nat := s.fld (Fd.CE_RT_IDX_INDEX 0)

/-- The entry in CE_RT_DATA0–3. -/
def rtData (s : State) (out : Bool) : List Word := rtKept out ((List.range 4).map (fun k => s.reg (Ra.CE_RT_DATA 0 k)))

/-- CE_RT_CMD.READ: the entry as last written. -/
def rtRead (s : State) : State :=
  if rtSelOut s && decide (1023 < rtSelIdx s) then s.setFld (Fd.CE_RT_CMD_RESULT 0) Code.badArgument
  else
    let e := padTo 0 4 (rtWritten s (rtSelOut s) (rtSelIdx s))
    (s.forN 4 (fun s k => s.setReg (Ra.CE_RT_DATA 0 k) (e.getD k 0))).setFld (Fd.CE_RT_CMD_RESULT 0) Code.ok

/-- CE_RT_CMD.WRITE: checked at once and recorded; an accepted write takes effect at the next frame boundary. -/
def rtWrite (s : State) : State :=
  let out := rtSelOut s
  let i := rtSelIdx s
  let e := rtData s out
  let code := rtCode s out i e
  let s := tabCmd (s.setFld (Fd.CE_RT_CMD_RESULT 0) code) (Ra.CE_RT_CMD 0) (if code = Code.ok then [1] else [1, code])
  if code ≠ Code.ok then s
  else if out then s.setCe { s.ce with rtOutP := smPut none s.ce.rtOutP i (some (rtNorm e)) }
  else s.setCe { s.ce with rtInP := smPut none s.ce.rtInP i (some (rtNorm e)) }

/-- Route writes take effect at a frame boundary (R138). -/
def rtApply (s : State) : State :=
  let one := fun (m : SMap (List Word)) (x : Nat × Option (List Word)) => smPut [] m x.1 (x.2.getD [])
  s.setCe { s.ce with rtIn := s.ce.rtInP.foldl one s.ce.rtIn, rtOut := s.ce.rtOutP.foldl one s.ce.rtOut, rtInP := [], rtOutP := [] }

/-- A write of CE_RT_CMD: the WRITE is made before a READ of the same access. -/
def rtCmdWrite (s : State) (v : Nat) : State :=
  let s := if bit v 0 then rtWrite s else s
  if bit v 1 then rtRead s else s

/-- ROUTE_READ (R135): CE_RT_CMD.READ is written. -/
def execRouteRead (s : State) : Out := .next (rtCmdWrite s 2)

/-- ROUTE_WRITE (R138): CE_RT_CMD.WRITE is written. -/
def execRouteWrite (s : State) : Out := .next (rtCmdWrite s 1)

end Sys2Proof.Machine
end

