-- ==== Sys2Proof/Machine/Mfp.lean ====
section
/-! DEFINITION. The arbiter of the thirty machine functions (R192–R205): targets, ramps, enabling and disabling, degraded functions, and
calibration copies into loop windows (R209). -/

namespace Sys2Proof.Machine

/-! ### Functions and their loops -/

/-- A function beyond its registers. -/
def State.mf (s : State) (n : Nat) : MfSt := smGet {} s.mfp.fn n

/-- Replace a function. -/
def State.setMf (s : State) (n : Nat) (x : MfSt) : State := s.setMfp { s.mfp with fn := smPut {} s.mfp.fn n x }

/-- MFP_MF[n]_STAT.STATE values. -/
abbrev mfDisabled : Nat := 0
abbrev mfEnabling : Nat := 1
abbrev mfEnabled : Nat := 2
abbrev mfDisabling : Nat := 3

/-- STATE of a function. -/
def State.mfState (s : State) (n : Nat) : Nat := s.fld (Fd.MFP_MF_STAT_STATE n)

/-- The slots of the loops that serve function `n` (CE_SLOT[s]_CFG.MF = n + 1). -/
def mfSlots (s : State) (n : Nat) : List (Nat × Nat) := s.heldSlots.filter (fun x => s.fld (Fd.CE_SLOT_CFG_MF x.1 x.2) == n + 1)

/-- The loops that serve function `n`. -/
def mfLoops (s : State) (n : Nat) : List Nat := ((mfSlots s n).map (fun x => s.slotLoop x.1 x.2)).eraseDups

/-- ARB; SAFE before it has moved. -/
def mfArb (s : State) (n : Nat) : Word := (s.mf n).arb.getD (s.reg (Ra.MFP_MF_SAFE n))

/-- Record FN_REQ with a function number and a code (R196, R198, R199). -/
def fnReq (s : State) (n code : Nat) : State := logEvent s Ev.fnReq Src.unit (n + 1) code

/-! ### Enabling and disabling (R199–R201) -/

/-- The mode allows the function to be enabled (R54). -/
def mfModeOk (m n : Nat) : Bool := !(m == Mode.road && decide (1 ≤ n ∧ n ≤ 28))

/-- EN = 1 is applied (R199 step 1). -/
def mfEnable (s : State) (n : Nat) : State :=
  if s.mfState n = mfDisabling then fnReq s n Code.refused
  else if s.mfState n ≠ mfDisabled then s
  else if !mfModeOk s.bndMode n || (mfLoops s n).isEmpty then fnReq (s.setFlag (Fd.MFP_MF_CTL_EN n) false) n Code.refused
  else
    let s := (s.setFlag (Fd.MFP_MF_CTL_EN n) true).setFld (Fd.MFP_MF_STAT_STATE n) mfEnabling
    (s.setFlag (Fd.MFP_MF_STAT_DISABLE_DONE n) false).setMf n { s.mf n with started := false, disIssued := false }

/-- MF_ENABLE (R199): EN = 1 of function `n` is applied at a tick boundary. -/
def execMfEnable (n : Fin 30) (s : State) : Out := .next (mfEnable s n)

/-- The code of the START that step 2 issues to a serving loop: R133's checks and a route for port 255. -/
def mfStartCode (s : State) (loop : Nat) : Nat :=
  if (s.outRoute loop 255).isNone then Code.badArgument else startCode s loop

/-- Issue START to every serving loop in order: the loops started, and the code of the first failure. -/
def mfStart (s : State) : List Nat → List Nat → Nat → State × List Nat × Nat
  | [], done, code => (s, done, code)
  | l :: r, done, code =>
    if loopIn s l [SlotSt.loaded, SlotSt.disabled, SlotSt.stopped] then
      let c := mfStartCode s l
      if c = Code.ok then mfStart (startLoop s l) r (l :: done) code else mfStart s r done (if code = Code.ok then c else code)
    else mfStart s r done code

/-- Step 2 of R199 at a frame boundary. -/
def mfStartAll (s : State) (n : Nat) : State :=
  let x := mfStart s (mfLoops s n) [] Code.ok
  if x.2.2 = Code.ok then x.1.setMf n { x.1.mf n with started := true }
  else
    let s := x.2.1.foldl disableLoop x.1
    let s := (s.setFlag (Fd.MFP_MF_CTL_EN n) false).setFld (Fd.MFP_MF_STAT_STATE n) mfDisabled
    fnReq (s.setFlag (Fd.MFP_MF_STAT_DISABLE_DONE n) true) n x.2.2

/-- MF_ENABLE_START (R199 step 2): at the first frame boundary after EN = 1, START is issued to the serving loops. -/
def execMfEnableStart (n : Fin 30) (s : State) : Out :=
  if s.mfState n = mfEnabling ∧ (s.mf n).started = false ∧ s.atFrame = true then .next (mfStartAll s n) else .next s

/-- EN = 0 is applied, by a write or by the module (R200 step 1). -/
def mfDisable (s : State) (n : Nat) : State :=
  if s.mfState n = mfEnabling ∨ s.mfState n = mfEnabled then
    let s := (s.setFlag (Fd.MFP_MF_CTL_EN n) false).setFld (Fd.MFP_MF_STAT_STATE n) mfDisabling
    (s.setFlag (Fd.MFP_MF_STAT_DISABLE_DONE n) false).setMf n { s.mf n with disIssued := false }
  else s.setFlag (Fd.MFP_MF_CTL_EN n) false

/-- MF_DISABLE (R200): EN = 0 of function `n` is applied; its target becomes SAFE. -/
def execMfDisable (n : Fin 30) (s : State) : Out := .next (mfDisable s n)

/-- DISABLE of one serving loop; a pending loop command of yours ends with REFUSED (R200 step 3). -/
def mfDisableLoop (s : State) (loop : Nat) : State :=
  let s := match smGet none s.ce.cmds loop with
    | some c => cmdResult (s.setCe { s.ce with cmds := smPut none s.ce.cmds loop none }) c.via Code.refused false loop 0 0
    | none => s
  if loopIn s loop [SlotSt.running, SlotSt.starting] then disableLoop s loop else s

/-- MF_DISABLE_ISSUE (R200 step 3): at a frame boundary after ARB has reached SAFE, DISABLE is issued to the serving loops; a loop in
migration waits for its end. -/
def execMfDisableIssue (n : Fin 30) (s : State) : Out :=
  let n := n.val
  if s.mfState n = mfDisabling ∧ s.atFrame = true ∧ mfArb s n = s.reg (Ra.MFP_MF_SAFE n) then
    let mig := fun (l : Nat) => s.ce.migs.any (fun m => m.loop == l)
    let s' := ((mfLoops s n).filter (fun l => !mig l)).foldl mfDisableLoop s
    .next (s'.setMf n { s'.mf n with disIssued := !(mfLoops s n).any mig })
  else .next s

/-- MF_DISABLE_DONE (R200 step 4): every serving loop is DISABLED or STOPPED. -/
def execMfDisableDone (n : Fin 30) (s : State) : Out :=
  let n := n.val
  if s.mfState n = mfDisabling ∧ (s.mf n).disIssued = true ∧
      ((mfSlots s n).all (fun x => [SlotSt.loaded, SlotSt.disabled, SlotSt.stopped].contains (s.slotState x.1 x.2))) = true then
    .next ((s.setFld (Fd.MFP_MF_STAT_STATE n) mfDisabled).setFlag (Fd.MFP_MF_STAT_DISABLE_DONE n) true)
  else .next s

/-- The module clears EN of the functions of a list (R201). -/
def mfClear (s : State) (l : List Nat) : State := l.foldl mfDisable s

/-- Entry to SAFE_STOP (R201): every EN is cleared and every ARB is at SAFE in the same tick. -/
def mfSafeStop (s : State) : State :=
  s.forN 30 (fun s n => (mfDisable s n).setMf n { (mfDisable s n).mf n with arb := none, holdTick := none })

/-- Every function in a list shows DISABLE_DONE. -/
def mfAllDone (s : State) (l : List Nat) : Bool := l.all (fun n => s.flag (Fd.MFP_MF_STAT_DISABLE_DONE n))

/-! ### The arbiter at a tick (R194–R198, R203, R205) -/

/-- The effective source (R195): 0 governor, 1 operator, 2 host. -/
def effSrc (mode src : Nat) : Nat := match src with
  | 0 => if 0x6 ≤ mode ∧ mode ≤ 0x8 then 0 else 1
  | 2 => 2
  | _ => 1

/-- The governor is absent (R197 rule 4). -/
def govAbsent (s : State) : Bool := s.loopState 0 != SlotSt.running || !(s.pubAt (portKey 0 255)).valid

/-- The governor has set GOVHOLD. -/
def govHolds (s : State) : Bool := bit (s.pubAt (portKey 0 255)).val.toNat 30

/-- The speed limit the safety island publishes; +inf before its first publication. -/
def speedLimit (s : State) : Word :=
  let v := s.pubAt (pubKey 4 0)
  if v.tick.isNone then fInf else v.val

/-- A serving loop's last status word. -/
def statusWord (s : State) (loop : Nat) : Nat := (s.pubAt (portKey loop 255)).val.toNat

/-- A loop's REASON; values outside 1 to 4 act as 3. -/
def loopReason (w : Nat) : Nat := if 1 ≤ bits w 16 8 ∧ bits w 16 8 ≤ 4 then bits w 16 8 else 3

/-- DEGRADED and DEG_WHY of a function (R205). -/
def mfDegraded (s : State) (n : Nat) (src : Nat) : Bool × Nat :=
  let l := mfSlots s n
  let bad := l.filter (fun x => bit (statusWord s (s.slotLoop x.1 x.2)) 31)
  let stop := l.any (fun x => s.slotState x.1 x.2 == SlotSt.stopped)
  let why := match bad with
    | x :: _ => loopReason (statusWord s (s.slotLoop x.1 x.2))
    | [] => if src = 0 ∧ govHolds s then 5 else if src = 0 ∧ govAbsent s then 6 else if stop then 7 else 0
  (!bad.isEmpty || stop, why)

/-- 50 µs in seconds (FP32). -/
abbrev fTickS : Word := 0x3851B717

/-- ARB moves toward its target by at most RAMP × 50 µs; RAMP 0, or negative, reaches it in one tick (R198). -/
def arbMove (arb target ramp : Word) : Word :=
  if fle ramp 0 || fIsNaN ramp then target
  else
    let d := fMul ramp fTickS
    if flt arb target then fMin (fAdd arb d) target else if flt target arb then fMax (fSub arb d) target else target

/-- The effective source's value. -/
def mfSrcVal (s : State) (n src : Nat) : Word := match src with
  | 0 => (s.pubAt (portKey 0 n)).val
  | 2 => s.reg (Ra.MFP_MF_HOST n)
  | _ => s.reg (Ra.MFP_MF_OPER n)

/-- Rule 4 of R197 applies: the governor is the source and absent or holding, or the source's value is NaN. -/
def mfHeld (s : State) (n src : Nat) (deg : Bool) : Bool :=
  !deg && ((src == 0 && (govAbsent s || govHolds s)) || fIsNaN (mfSrcVal s n src))

/-- The target of an enabled or enabling function under rules 3 to 5 of R197, before the clamp. -/
def mfTarget (s : State) (n src : Nat) (deg : Bool) : Word :=
  if deg then mfArb s n
  else if mfHeld s n src deg then (if n = 0 ∧ s.mfp.govAbs ∧ driverless s.bndMode then 0 else mfArb s n)
  else mfSrcVal s n src

/-- The clamp of R197: [LIM_LO, HI_eff]. -/
def mfClamp (s : State) (n : Nat) (x : Word) : Word :=
  let hi := s.reg (Ra.MFP_MF_LIM_HI n)
  let hi := if n = 0 then fMin hi (speedLimit s) else hi
  fMin (fMax x (s.reg (Ra.MFP_MF_LIM_LO n))) hi

/-- ARB formed at a tick boundary. -/
def mfNext (s : State) (n src : Nat) (deg : Bool) : Word :=
  let safe := s.reg (Ra.MFP_MF_SAFE n)
  let ramp := s.reg (Ra.MFP_MF_RAMP n)
  let st := s.mfState n
  if st = mfDisabled then safe
  else if st = mfDisabling ∨ (st = mfEnabling ∧ (s.mf n).started = false) then arbMove (mfArb s n) safe ramp
  else arbMove (mfArb s n) (mfClamp s n (mfTarget s n src deg)) ramp

/-- POS: ARB in its range, 0 to 4 095. -/
def mfPos (s : State) (n : Nat) (arb : Word) : Nat :=
  let lo := s.reg (Ra.MFP_MF_LIM_LO n)
  let span := fSub (s.reg (Ra.MFP_MF_LIM_HI n)) lo
  if fle span 0 then 0 else clampN 0 4095 (fFloorScaled (fDiv (fSub arb lo) span) 4095 1).toNat

/-- AWM_EFF: AWM is 1 and every serving loop holds PRIV 1 or 2 (R203). -/
def mfAwm (s : State) (n : Nat) : Bool :=
  let l := mfSlots s n
  s.flag (Fd.MFP_MF_CTL_AWM n) && !l.isEmpty && l.all (fun x => decide (1 ≤ s.fld (Fd.CE_SLOT_CFG_PRIV x.1 x.2) ∧ s.fld (Fd.CE_SLOT_CFG_PRIV x.1 x.2) ≤ 2))

/-- The loop that holds PRIV = 1 for the function; 0x7F none. -/
def mfPloop (s : State) (n : Nat) : Nat :=
  (((mfSlots s n).find? (fun x => s.fld (Fd.CE_SLOT_CFG_PRIV x.1 x.2) == 1)).map (fun x => s.slotLoop x.1 x.2)).getD 0x7F

/-- When the hold of MF01 under rule 4 of R197 began; `none` while it does not hold. -/
def holdSince (s : State) (n src : Nat) (deg : Bool) : Option Nat :=
  if n = 0 ∧ mfHeld s n src deg then some ((s.mf 0).holdTick.getD s.clk.tick) else none

/-- The hold has lasted 100 ms in FIELD_AUTO or UNLOAD_SYNC. -/
def holdLong (s : State) (hold : Option Nat) : Bool := match hold with
  | some t => driverless s.bndMode && decide (t + 2000 ≤ s.clk.tick)
  | none => false

/-- The arbiter for one function at a tick boundary. -/
def arbOne (s : State) (n : Nat) : State :=
  let src := effSrc s.bndMode (s.fld (Fd.MFP_MF_CTL_SRC n))
  let dg := mfDegraded s n src
  let s := if dg.1 = s.flag (Fd.MFP_MF_STAT_DEGRADED n) then s
    else logEvent s (if dg.1 then Ev.fnDegraded else Ev.fnRestored) Src.unit (n + 1) (if dg.1 then dg.2 else 0)
  let hold := holdSince s n src dg.1
  let s := if n = 0 then s.setMfp { s.mfp with govAbs := hold.isSome && (s.mfp.govAbs || holdLong s hold) } else s
  let arb := mfNext s n src dg.1
  let s := s.setMf n { s.mf n with arb := if arb = s.reg (Ra.MFP_MF_SAFE n) then none else some arb, holdTick := hold }
  let s := if src = 1 then s else s.setReg (Ra.MFP_MF_OPER n) arb
  let s := if s.mfState n = mfEnabling ∧ (s.mf n).started = true ∧ ((mfSlots s n).all (fun x => s.slotState x.1 x.2 == SlotSt.running)) = true
    then s.setFld (Fd.MFP_MF_STAT_STATE n) mfEnabled else s
  let s := (s.setFld (Fd.MFP_MF_STAT_POS n) (mfPos s n arb)).setFld (Fd.MFP_MF_STAT_EFF_SRC n) src
  let s := (s.setFlag (Fd.MFP_MF_STAT_DEGRADED n) dg.1).setFld (Fd.MFP_MF_STAT_DEG_WHY n) dg.2
  (s.setFlag (Fd.MFP_MF_STAT_AWM_EFF n) (mfAwm s n)).setFld (Fd.MFP_MF_STAT_PLOOP n) (mfPloop s n)

/-- MF01_HOLD_ZERO (R197 rule 4): a governor hold has lasted 100 ms in FIELD_AUTO or UNLOAD_SYNC; the MF01 target becomes 0. -/
def execMf01HoldZero (s : State) : Out :=
  if holdLong s (s.mf 0).holdTick then .next (s.setMfp { s.mfp with govAbs := true }) else .next s

/-! ### Register writes (R194, R196, R198) -/

/-- A write of MFP_MF[n]_CTL is applied at a tick boundary. A CALSET of 1 to 31 is ignored and recorded as REFUSED (R536). -/
def mfCtl (s : State) (n : Nat) (v : Word) : State :=
  if n = 0 ∧ driverless s.bndMode ∧ bits v.toNat 29 2 ≠ 0 then fnReq s 0 Code.refused
  else
    let en := s.fld (Fd.MFP_MF_CTL_EN n)
    let set := s.fld (Fd.MFP_MF_CTL_CALSET n)
    let s := (plainWrite s (Ra.MFP_MF_CTL n) v).setFld (Fd.MFP_MF_CTL_EN n) en
    let s := if 1 ≤ s.fld (Fd.MFP_MF_CTL_CALSET n) ∧ s.fld (Fd.MFP_MF_CTL_CALSET n) < 32
      then fnReq (s.setFld (Fd.MFP_MF_CTL_CALSET n) set) n Code.refused else s
    if bit v.toNat 31 then mfEnable s n else mfDisable s n

/-- A write of LIM_LO or LIM_HI: a pair with LIM_LO above LIM_HI is not taken. -/
def mfLim (s : State) (n a : Nat) (v : Word) : State :=
  let s' := plainWrite s a v
  if flt (s'.reg (Ra.MFP_MF_LIM_HI n)) (s'.reg (Ra.MFP_MF_LIM_LO n)) then fnReq s n Code.badArgument else s'

/-- One MFP write is applied at a tick boundary, and recorded as an application-core command. -/
def mfpApply (s : State) (a : Nat) (v : Word) : State :=
  let n := (a - Ra.MFP_MF_CTL 0) / 0x20
  let s := tabRec s TabT.cmd a [v.toNat]
  if 30 ≤ n then plainWrite s a v
  else match a % 0x20 with
    | 0x00 => mfCtl s n v
    | 0x04 => mfLim s n a v
    | 0x08 => mfLim s n a v
    | 0x14 => if effSrc s.bndMode (s.fld (Fd.MFP_MF_CTL_SRC n)) = 1 then plainWrite s a v else s
    | _ => plainWrite s a v

/-- An MFP write waits for the first tick boundary after it arrives; in REPLAY it is ignored (R194). -/
def mfpWrite (s : State) (a : Nat) (v : Word) : State :=
  if s.replaying then s else s.setMfp { s.mfp with wr := s.mfp.wr ++ [(a, v)] }

/-- The arbiter at a tick boundary: the writes that have arrived, then every function. -/
def arbTick (s : State) : State :=
  let s := s.mfp.wr.foldl (fun s x => mfpApply s x.1 x.2) (s.setMfp { s.mfp with wr := [] })
  s.forN 30 arbOne

/-! ### Calibration copies (R209) -/

/-- The bytes of a set's area: 76 KiB for the governor, at least the 128 of R223 for yield, 88 for steering (R263), 1 KiB of histograms (R499), others as
the set says. -/
def calLen (set : Nat) : Nat :=
  if set = 3 then 77824 else if set = 4 then max 128 (Config.calArea set) else if set = 5 then 88 else if set = 13 then 1024 else Config.calArea set

/-- The fields of a function's set take effect (R192, R208): AWM and LIVE, limits, RAMP and SAFE. A pair with LIM_LO above LIM_HI is not taken. -/
def mfFields (s : State) (n : Nat) (ws : List Word) : State :=
  let c := s.reg (Ra.MFP_MF_CTL n)
  let s := s.setReg (Ra.MFP_MF_CTL n) ((c &&& ~~~0x18000000#32) ||| (ws.getD 0 0 &&& 0x18000000#32))
  let s := if flt (ws.getD 2 0) (ws.getD 1 0) then fnReq s n Code.badArgument
    else (s.setReg (Ra.MFP_MF_LIM_LO n) (ws.getD 1 0)).setReg (Ra.MFP_MF_LIM_HI n) (ws.getD 2 0)
  (s.setReg (Ra.MFP_MF_RAMP n) (ws.getD 3 0)).setReg (Ra.MFP_MF_SAFE n) (ws.getD 4 0)

/-- Where the fields of a function stand among the calibration areas that wait: beyond the loops. -/
abbrev mfArea : Nat := 128

/-- One calibration area into its loop's window, as far as the window reaches; CALSEQ, its first word, counts on. The governor keeps the area it
replaces. The fields of a function go to its registers. -/
def calCopy (s : State) (loop ofs : Nat) (ws : List Word) : State :=
  if mfArea ≤ loop then mfFields s (loop - mfArea) ws
  else match loopWindow s loop with
    | some (a, n) =>
      let seq := s.wordAt (a + ofs)
      let s := if loop = 0 ∧ s.gov.calOld = [] then s.setGov { s.gov with calOld := s.wordsAt (a + ofs) ws.length } else s
      s.setWords (a + ofs) (((seq + 1) :: ws.drop 1).take ((n - ofs) / 4))
    | none => s

/-- The unit of a calibration copy in a CMD record (R504; the numbering is the model's own). -/
def calUnit (loop ofs : Nat) : Nat := 2 ^ 40 + loop * 2 ^ 24 + ofs

/-- Every calibration area that waits, at a frame boundary before dispatch, with its record (R504). -/
def calCopies (s : State) : State :=
  s.mfp.cal.foldl (fun s x => calCopy (tabRec s TabT.cmd (calUnit x.1 x.2.1) (x.2.2.map (·.toNat))) x.1 x.2.1 x.2.2)
    (s.setMfp { s.mfp with cal := [] })

end Sys2Proof.Machine
end

