-- ==== Sys2Proof/Machine/Governor.lean ====
section
/-! DEFINITION. The crop-flow governor, loop 0 (R176–R191, R204, R210): measurement slots, the transit observer, the law, transfer offsets
and the status word. -/

namespace Sys2Proof.Machine

/-! ### The calibration area (R182, R190) -/

/-- The governor's calibration area as words from window offset 0x2000. -/
abbrev govArea : Nat := 0x2000

/-- A row of a matrix of `cols` columns at window offset `o`; `rd` reads the word at a window offset. -/
def govRow (rd : Nat → Word) (o cols r : Nat) : List Word := (List.range cols).map (fun c => rd (o + 4 * (r * cols + c)))

/-- Offsets of xr, f0, g and h, in the order of R190. -/
abbrev govXr : Nat := 0x3000
abbrev govF0 : Nat := 0x3100
abbrev govG : Nat := 0x3178
abbrev govH : Nat := 0x3538

/-- The cell lengths follow h. -/
abbrev govLen : Nat := 0x3718

/-- The end of the calibration area, and the work area in the order of R190: A by rows, x, the sixteen words of the references, the transfer
offsets, the held slot values. DESIGN CHOICE (log 43): the spec gives the order and not the offsets. -/
abbrev govWork : Nat := 0x15000
abbrev govWx : Nat := 0x19000
abbrev govWrho : Nat := 0x19100
abbrev govWoffs : Nat := 0x19140
abbrev govWheld : Nat := 0x191C0

/-- `n` words of the window from an offset. -/
def govWords (rd : Nat → Word) (o n : Nat) : List Word := (List.range n).map (fun k => rd (o + 4 * k))

/-- A row sum in the order of the Prism unit (R105). -/
def dotRow (a x : List Word) : Word := (rowSum ((x.length + 63) / 64) a x none 0).1

/-! ### Measurement slots (R182–R186) -/

/-- What a slot reads in a sample: usable, value in slot units, AGE. -/
def slotRead (s : State) (rd : Nat → Word) (j : Nat) : Bool × Word × Nat :=
  let w := fun (k : Nat) => rd (0x2040 + 16 * j + 4 * k)
  let p := (s.portIn 0 j).getD {}
  let age := s.ageOf p
  (bit (w 0).toNat 31 && p.valid && (w 3 == 0 || decide (age ≤ (w 3).toNat)), fMul p.val (w 2), age)

/-- A slot is enabled. -/
def slotEn (rd : Nat → Word) (j : Nat) : Bool := bit (rd (0x2040 + 16 * j)).toNat 31

/-- The members of the group that slot `j` heads: itself, PARTNER and THIRD (R184). -/
def slotMembers (rd : Nat → Word) (j : Nat) : List Nat :=
  let w := (rd (0x2040 + 16 * j)).toNat
  let p := bits w 22 6
  let t := bits w 16 6
  if j < p ∧ p < 48 then (if j < t ∧ t < 48 ∧ t ≠ p then [j, p, t] else [j, p]) else [j]

/-- What the members of a group give in one sample: an agreed value, the value of the one usable member, two that disagree, or too few usable
with the reason for it. -/
inductive GroupVal where
  | good (v : Word)
  | one (j : Nat) (v : Word)
  | apart
  | gone (reason : Nat)
  deriving DecidableEq, Repr

/-- The mean of two values. -/
def fMean (a b : Word) : Word := fMul (fAdd a b) 0x3F000000

/-- The median of three values. -/
def fMedian (a b c : Word) : Word := fMax (fMin a b) (fMin (fMax a b) c)

/-- A pair under R184. -/
def pairVal (a b lim : Word) : GroupVal := if fle (fabs (fSub a b)) lim then .good (fMean a b) else .apart

/-- A group's outcome (R184, R185). -/
def groupVal (lim : Word) (l : List (Nat × Bool × Word)) : GroupVal :=
  let u := l.filter (fun x => x.2.1)
  match l.length, u with
  | 1, [(_, _, v)] => .good v
  | 2, [(_, _, a), (_, _, b)] => pairVal a b lim
  | 2, [(j, _, v)] => .one j v
  | 3, [(_, _, a), (_, _, b), (_, _, c)] => .good (fMedian a b c)
  | 3, [(_, _, a), (_, _, b)] => pairVal a b lim
  | 3, _ => .gone 2
  | _, _ => .gone 3

/-- A group becomes degraded. -/
def SlotSt.degrade (x : SlotSt) (reason : Nat) : SlotSt := { x with deg := true, degN := 1, good := 0, apart := 0, gone := 0, reason := reason }

/-- The state of a group after a sample, the value it contributes (`none`: no part) and its events: 1 degraded, 2 restored, 3 single, 4 paired.
Disagreement and absence are counted apart, each over consecutive samples (R184, R185). -/
def groupStep (x : SlotSt) (j conf : Nat) (vals : List Word) (g : GroupVal) : SlotSt × Option Word × List Nat :=
  let both := match g with
    | .good _ => true
    | .apart => true
    | _ => false
  let paired := if x.single && both then [4] else []
  let x := if both then { x with single := false } else x
  if x.deg then
    let x := { x with degN := x.degN + 1 }
    match g with
    | .good v =>
      if conf ≤ x.good + 1 then ({ x with deg := false, degN := 0, good := 0, reason := 0 }, some v, paired ++ [2])
      else ({ x with good := x.good + 1 }, none, paired)
    | _ => ({ x with good := 0 }, none, paired)
  else match g with
    | .good v => ({ x with apart := 0, gone := 0 }, some v, paired)
    | .one _ v => ({ x with apart := 0, gone := 0, single := true }, some v, if x.single then [] else [3])
    | .apart =>
      if conf ≤ x.apart + 1 then (x.degrade 1, none, paired ++ [1])
      else ({ x with apart := x.apart + 1, gone := 0 }, Config.slotUnconfirmed j vals, paired)
    | .gone r =>
      if conf ≤ x.gone + 1 then (x.degrade r, none, [1])
      else ({ x with gone := x.gone + 1, apart := 0 }, Config.slotUnconfirmed j vals, [])

/-- The governor's events come from the engine that holds loop 0. -/
def govSrc (s : State) : Nat := Src.ce0 + ((s.slotOf 0).map (·.1)).getD 0

/-- Record a group's event. -/
def groupEvent (s : State) (ms : List Nat) (g : GroupVal) (reason ev : Nat) : State := match ev with
  | 1 => ms.foldl (fun s j => logEvent s Ev.measDegraded (govSrc s) j reason) s
  | 2 => ms.foldl (fun s j => logEvent s Ev.measRestored (govSrc s) j 0) s
  | 3 => (match g with
    | .one j _ => logEvent s Ev.measSingle (govSrc s) j 0
    | _ => s)
  | 4 => logEvent s Ev.measPaired (govSrc s) (ms.headD 0) 0
  | _ => s

/-- Slot values by slot (zeff) and the slots that correct (use). -/
abbrev SlotVals := SMap Word × List Nat

/-- One group of slots in a sample, by its lowest member. A group none of whose members is in use takes no part. With ONCE set and a usable value
that is not new, it corrects nothing and does not become degraded (R183). A group that contributes no value of its own holds its last one. -/
def groupSample (rd : Nat → Word) (acc : State × SlotVals × List Nat) (j : Nat) : State × SlotVals × List Nat :=
  let (s, z, taken) := acc
  let ms := slotMembers rd j
  if taken.contains j || !ms.any (slotEn rd) then acc
  else
    let l := ms.map (fun m => (m, (slotRead s rd m).1, (slotRead s rd m).2.1))
    let w := (rd (0x2040 + 16 * j)).toNat
    let x := smGet {} s.gov.slots j
    let held := rd (govWheld + 4 * j)
    if bit w 29 && ms.any (fun m => (slotRead s rd m).1 && decide (20 ≤ (slotRead s rd m).2.2)) then
      let x := if x.deg then { x with degN := x.degN + 1 } else x
      (s.setGov { s.gov with slots := smPut {} s.gov.slots j x }, (smPut 0 z.1 j held, z.2), taken ++ ms)
    else
      let g := groupVal (rd (0x2044 + 16 * j)) l
      let (x', v, evs) := groupStep x j (max 1 (bits w 8 8)) (l.map (·.2.2)) g
      let s := evs.foldl (fun s ev => groupEvent s ms g x'.reason ev) (s.setGov { s.gov with slots := smPut {} s.gov.slots j x' })
      (s, (smPut 0 z.1 j (v.getD held), if v.isSome && !bit w 28 then z.2 ++ [j] else z.2), taken ++ ms)

/-- Validation of the measurement slots in a sample. -/
def govValidate (s : State) (rd : Nat → Word) : State × SlotVals :=
  let r := (List.range 48).foldl (groupSample rd) (s, ([], []), [])
  (r.1, r.2.1)

/-- The degraded groups, by their lowest slot. -/
def degGroups (s : State) : List (Nat × SlotSt) := s.gov.slots.filter (fun x => x.2.deg)

/-- NDEG: the number of degraded slots. -/
def govNdeg (s : State) (rd : Nat → Word) : Nat := (degGroups s).foldl (fun a x => a + (slotMembers rd x.1).length) 0

/-- A CRIT slot has been degraded for more than 2 000 consecutive samples (R186). -/
def critLong (s : State) (rd : Nat → Word) : Bool := (degGroups s).any (fun x =>
  decide (2000 < x.2.degN) && (slotMembers rd x.1).any (fun m => bit (rd (0x2040 + 16 * m)).toNat 30))

/-! ### Transport inputs (R181) -/

/-- The transport inputs in a sample: the last usable value replaces one that is not usable. -/
def govTransport (s : State) : State × Bool :=
  (List.range 16).foldl (fun (a : State × Bool) k =>
    let p := (a.1.portIn 0 (48 + k)).getD {}
    if p.valid && decide (a.1.ageOf p ≤ 80) then (a.1.setGov { a.1.gov with tin := smPut 0 a.1.gov.tin k p.val }, a.2)
    else (a.1, true)) (s, false)

/-! ### The sample (R187) -/

/-- 1 ms in seconds (FP32). -/
abbrev fMsS : Word := 0x3A83126F

/-- The inflow of a header cell: density × T00 × T01 / 8 × Δt (R179). -/
def govInflow (t : List Word) (z : SMap Word) (i : Nat) : Word :=
  if i < 8 then fMul (fMul (fMul (smGet 0 z (if i < 4 then 4 else 5)) (t.getD 0 0)) (fMul (t.getD 1 0) 0x3E000000)) fMsS else 0

/-- A table of breakpoints and values, linear between breakpoints and flat beyond its ends. -/
def tableLin (px py : Nat → Word) (x : Word) : Word :=
  if fle x (px 0) then py 0
  else match (List.range 7).find? (fun k => fle x (px (k + 1))) with
    | some k => fAdd (py k) (fMul (fSub (py (k + 1)) (py k)) (fDiv (fSub x (px k)) (fSub (px (k + 1)) (px k))))
    | none => py 7

/-- What the transit matrix is built from in one sample: transport inputs, slot values, the words of the transport area and the cell lengths. -/
structure Transit where
  t    : List Word
  z    : SMap Word
  area : List Word
  len  : List Word

/-- A table of the transport area at a transport input. -/
def Transit.look (m : Transit) (n : Nat) (x : Word) : Word :=
  let e := Config.govTable m.area n
  tableLin (fun k => e.getD (2 * k) 0) (fun k => e.getD (2 * k + 1) 0) x

/-- A fraction from its tables over the transport inputs that govern it, within 0 and 1. -/
def Transit.frac (m : Transit) (n : Nat) (ins : List Nat) : Word :=
  fClamp (Config.govFrac n ((ins.zip (List.range ins.length)).map (fun p => m.look (n + p.2) (m.t.getD p.1 0)))) 0 fOne

/-- The transport input that gives a cell its speed: draper, feeder, rotor, fan for shoe chaff, elevator for the grain path, tailings return. -/
def speedInput (i : Nat) : Nat :=
  if i < 8 then 2 else if i < 16 then 4 else if i < 32 then 5 else if i < 40 then (Config.govSpeedIn i).val else if i < 48 then 9
  else if i < 60 then 13 else if i < 63 then (Config.govSpeedIn i).val else 14

/-- The outflow fraction of a cell: clamp(Δt · v / ℓ, 0, 1); a header cell is T01 / 8 long (R179). -/
def Transit.out (m : Transit) (i : Nat) : Word :=
  let v := m.look i (m.t.getD (speedInput i) 0)
  let len := if i < 8 then fMul (m.t.getD 1 0) 0x3E000000 else m.len.getD i 0
  fClamp (fDiv (fMul fMsS v) len) 0 fOne

/-- What remains of 1. -/
def restOf (a : Word) : Word := fMax (fSub fOne a) 0

/-- Where the outflow of a cell goes: the cells on its path with the share of each, at most three; 64 is outside the model (R179). -/
def Transit.sends (m : Transit) (i : Nat) : List (Nat × Word) :=
  let next := fun (last : Nat) => if i = last then 64 else i + 1
  if i < 3 then [(i + 1, fOne)]
  else if i = 3 ∨ i = 4 then [(8, fOne)]
  else if i < 8 then [(i - 1, fOne)]
  else if i < 15 then [(i + 1, fOne)]
  else if i = 15 then
    let g := fClamp (Config.govGrain (smGet 0 m.z 25) (smGet 0 m.z 35)) 0 fOne
    [(16, restOf g), (24, g)]
  else if i < 24 then
    let c := fClamp (Config.govChaff m.area (i - 16)) 0 fOne
    let d := Config.govDrop m.area (i - 16)
    [(40 + d.1.val, fMul c d.2.2), (40 + d.2.1.val, fMul c (restOf d.2.2)), (next 23, restOf c)]
  else if i < 32 then
    let f := m.frac (64 + 4 * (i - 24)) [5, 6, 7, 8]
    let d := Config.govDrop m.area (8 + (i - 24))
    [(32 + d.1.val, fMul f d.2.2), (32 + d.2.1.val, fMul f (restOf d.2.2)), (next 31, restOf f)]
  else if i < 40 then
    let clean := m.frac (128 + 6 * (i - 32)) [9, 10, 11]
    let tail := m.frac (131 + 6 * (i - 32)) [9, 10, 11]
    [(48, clean), (60, tail), (next 39, restOf (fAdd clean tail))]
  else if i < 48 then [(next 47, fOne)]
  else if i < 60 then [(if i = 59 then 64 else i + 1, fOne)]
  else [(if i = 63 then 32 else i + 1, fOne)]

/-- The part of a cell's mass that goes to a target in one sample. -/
def Transit.share (m : Transit) (i tgt : Nat) : Word :=
  ((m.sends i).filter (fun x => x.1 == tgt)).foldl (fun a x => fAdd a (fMul (m.out i) x.2)) 0

/-- The transit matrix A, by rows: 1 − o on the diagonal, and each outflow sent on. -/
def Transit.matrix (m : Transit) : List (List Word) :=
  let cols := (List.range 64).map (fun c => (List.range 64).map (fun r => if r = c then fSub fOne (m.out c) else m.share c r))
  (List.range 64).map (fun r => cols.map (fun col => col.getD r 0))

/-- The slots whose C row is scaled by the outflow fraction of what they observe (R180). -/
def flowSlot (j : Nat) : Bool := (decide (10 ≤ j) && decide (j ≤ 17)) || j == 25 || j == 36

/-- The predicted cells x := A·x + w. -/
def govPredict (a : List (List Word)) (w : Nat → Word) (x : List Word) : List Word :=
  (List.range 64).map (fun i => fAdd (w i) (dotRow (a.getD i []) x))

/-- The innovation of a slot: use ⊙ (zeff − c·x), a flow slot's row scaled by the outflow fractions (R180). -/
def govInnov (rd : Nat → Word) (out : List Word) (x : List Word) (z : SlotVals) (j : Nat) : Word :=
  if z.2.contains j then
    let c := govRow rd 0x6000 64 j
    let c := if flowSlot j then (c.zip out).map (fun p => fMul p.1 p.2) else c
    fSub (smGet 0 z.1 j) (dotRow c x)
  else 0

/-- The corrected cells x := fmax(x + l[band]·nu, 0). -/
def govCorrect (rd : Nat → Word) (band : Nat) (nu x : List Word) : List Word :=
  (List.range 64).map (fun i => fMax (fAdd (x.getD i 0) (dotRow (govRow rd (0x9000 + band * 0x3000) 48 i) nu)) 0)

/-- qerr: the amount by which M30–M33 exceed their ceilings. -/
def govQerr (rho : List Word) (area : List Word) (z : SMap Word) : List Word :=
  (List.range 4).map (fun k =>
    let c := if k = 0 then rho.getD 3 0 else if k = 1 then rho.getD 4 0 else Config.govTailCeil area (k - 2)
    let v := smGet 0 z (30 + k)
    if flt c v then fSub v c else 0)

/-- The law d := f0 + g·rho + h·qerr + k·e for function `n`. -/
def govLaw (rd : Nat → Word) (rho qerr x : List Word) (n : Nat) : Word :=
  let e := (List.range 64).map (fun i => fSub (fMul (rho.headD 0) (rd (govXr + 4 * i))) (x.getD i 0))
  let d := fAdd (rd (govF0 + 4 * n)) (dotRow (govRow rd govG 8 n) rho)
  fAdd (fAdd d (dotRow (govRow rd govH 4 n) qerr)) (dotRow (govRow rd 0x4000 64 n) e)

/-- A transfer offset moves toward 0 by at most RAMP × 1 ms; with RAMP 0 it is 0 at once (R210). -/
def offsMove (o ramp : Word) : Word :=
  if fle ramp 0 then 0
  else
    let d := fMul ramp fMsS
    if fle (fabs o) d then 0 else if flt o 0 then fAdd o d else fSub o d

/-- A record of the governor's set is missing (R537). -/
def govCalMissing (s : State) : Bool := !s.upd.cal.any (fun r => r.set == 3)

/-- The band a sum of FDR0–FDR7 falls in, by the three thresholds of the calibration (R189). -/
def govBand (rd : Nat → Word) (x : List Word) : Nat :=
  let sum := ((x.drop 8).take 8).foldl fAdd 0
  (List.range 3).foldl (fun a k => if fle (rd (0x2004 + 4 * k)) sum then a + 1 else a) 0

/-- Count the samples in a new band. -/
def govBandCount (s : State) (b : Nat) : State :=
  if b = s.gov.band then s.setGov { s.gov with cand := b, candN := 0 }
  else if b = s.gov.cand then s.setGov { s.gov with candN := s.gov.candN + 1 }
  else s.setGov { s.gov with cand := b, candN := 1 }

/-- The band changes after 100 consecutive samples in the new band (R189). -/
def govBandStep (s : State) : State :=
  if 100 ≤ s.gov.candN then s.setGov { s.gov with band := s.gov.cand, candN := 0 } else s

/-- The status word of loop 0 (R204). -/
def govStatus (s : State) (rd : Nat → Word) (hold tbad : Bool) : Word :=
  let l := degGroups s
  let n := govNdeg s rd
  let slot := (l.head?.map (·.1)).getD 63
  let reason := match l.head? with
    | some x => x.2.reason
    | none => if tbad then 3 else 0
  BitVec.ofNat 32 (b2n (n != 0) * 2 ^ 31 + b2n hold * 2 ^ 30 + slot * 2 ^ 24 + reason * 2 ^ 16 + min 255 n * 2 ^ 8 + s.gov.band)

/-- The governor's view of its window in a sample: in the first sample that sees a changed CALSEQ the calibration area still reads as before (R210). -/
def govView (s : State) (base : Nat) : Nat → Word :=
  let now := fun (o : Nat) => s.wordAt (base + o)
  if now govArea ≠ s.gov.calSeq ∧ s.gov.calOld ≠ [] then
    fun o => if govArea ≤ o ∧ o < govWork then s.gov.calOld.getD ((o - govArea) / 4) 0 else now o
  else now

/-- The demands of a sample and the transfer offsets after it (R210). With `seen`, the new words of a changed calibration, the output is that of
the previous values and o := d_old − d_new. -/
def govDemands (s : State) (rd : Nat → Word) (seen : Option (Nat → Word)) (rho : List Word) (z : SMap Word) (x : List Word) : List Word × List Word :=
  let law := fun (rd : Nat → Word) => (List.range 30).map (govLaw rd rho (govQerr rho (govWords rd 0x2400 0x300) z) x)
  let d : List Word := List.zipWith fAdd (law rd) (govWords rd govWoffs 30)
  let o : List Word := match seen with
    | some now => List.zipWith fSub d (law now)
    | none => govWords rd govWoffs 30
  (d, List.zipWith (fun w n => offsMove w (s.reg (Ra.MFP_MF_RAMP n))) o (List.range 30))

/-- The predicted flows of ports 96–99, kg/s: what leaves the model from ROT15 and SHO07, the tailings return and the tank auger (R177, R179). -/
def govFlows (m : Transit) (x : List Word) : List Word :=
  [(31, 64), (39, 64), (63, 32), (59, 64)].map (fun p => fMul (fMul (m.share p.1 p.2) (x.getD p.1 0)) 0x447A0000)

/-- The outputs of a native sample, held until t + P; a port without an enabled route is not published. -/
def holdNative (s : State) (loop : Nat) (outs : List (Nat × Word)) (writes : List (Nat × Word)) : State := match s.slotOf loop with
  | none => s
  | some (e, i) =>
    let h : Held := { loop := loop, pub := s.clk.tick + s.fld (Fd.CE_SLOT_SCHED_PERIOD e i),
                      outs := outs.filter (fun o => (s.outRoute loop o.1).isSome), valid := true, writes := writes }
    s.setCe { s.ce with held := s.ce.held ++ [h] }

/-- A reference message is acceptable (R188): no word NaN or negative, reserved words 0. -/
def refOk (w : List Word) : Bool :=
  (w.take 8).all (fun x => !fIsNaN x && !flt x 0) && ((w.drop 8).take 7).all (· == 0)

/-- The acknowledge that a loop writes for its endpoint: an address of its message window, and the code. -/
def ackWrite (s : State) (e code : Nat) : Nat × Word := (0x40000 + 0x100 * s.fld (Fd.MBX_EP_CFG2_RX_ENTRY e) + 0x44, BitVec.ofNat 32 code)

/-- A full endpoint that the governor receives on. -/
def refFull (s : State) (e : Nat) : Bool :=
  s.flag (Fd.MBX_EP_CFG_RXL e) && s.fld (Fd.MBX_EP_CFG_RX e) == 0 && s.fld (Fd.MBX_EP_STAT_STATE e) == epFull

/-- The words of an endpoint's message. -/
def refWords (s : State) (e : Nat) : List Word := (List.range 16).map (fun k => s.reg (Ra.MBX_PAYLOAD e k))

/-- The messages visible at a sample boundary are taken or refused (R188), those that were told of first, in their order: the references after
them, and the acknowledges delivered with the sample's outputs. -/
def govRefs (s : State) (ref : List Word) : List Word × List (Nat × Word) :=
  let es := (s.gov.refs ++ (List.range 64).filter (fun e => !s.gov.refs.contains e)).filter (refFull s)
  es.foldl (fun a e =>
    if refOk (refWords s e) then (refWords s e, a.2 ++ [ackWrite s e Code.ok]) else (a.1, a.2 ++ [ackWrite s e Code.badArgument])) (ref, [])

/-- One sample of the governor at the present tick (R187): its outputs are held until t + P. Its work area, x last, is written before it ends. -/
def govSample (s : State) : State := match loopWindow s 0 with
  | none => s
  | some (base, _) =>
    let now := fun (o : Nat) => s.wordAt (base + o)
    let rd := govView s base
    let seq := now govArea
    let seen := if seq ≠ s.gov.calSeq ∧ s.gov.calOld ≠ [] then some now else none
    let refs := govRefs s (govWords now govWrho 16)
    let s := govBandStep (s.setGov { s.gov with refs := [] })
    let (s, z) := govValidate s rd
    let (s, tbad) := govTransport s
    let m : Transit := { t := (List.range 16).map (fun k => smGet 0 s.gov.tin k), z := z.1, area := govWords rd 0x2400 0x300, len := govWords rd govLen 64 }
    let a := m.matrix
    let x := govPredict a (govInflow m.t z.1) (govWords now govWx 64)
    let nu := (List.range 48).map (govInnov rd ((List.range 64).map m.out) x z)
    let x := govCorrect rd s.gov.band nu x
    let rho := refs.1.take 8
    let (d, o) := govDemands s rd seen rho z.1 x
    let s := govBandCount s (govBand rd x)
    let s := s.setGov { s.gov with calSeq := seq, calOld := [], hold := critLong s rd }
    let st := govStatus s rd (s.gov.hold || d.any fIsNaN || govCalMissing s) tbad
    let num := fun (k : Nat) (l : List Word) => (List.range l.length).map (fun i => (k + i, l.getD i 0))
    let s := s.setWords (base + govWork) a.flatten
    let s := s.setWords (base + govWrho) refs.1
    let s := s.setWords (base + govWoffs) o
    let s := s.setWords (base + govWheld) ((List.range 48).map (fun j => smGet 0 z.1 j))
    let s := s.setWords (base + govWx) x
    holdNative s 0 (num 0 d ++ num 32 x ++ num 96 (govFlows m x) ++ [(255, st)]) refs.2

/-- BAND_CHANGE (R189): 100 consecutive samples in the new band. -/
def execBandChange (s : State) : Out := .next (govBandStep s)

/-- GOVHOLD_SET (R186): a CRIT slot has been degraded for more than 2 000 consecutive samples. -/
def execGovholdSet (s : State) : Out := match loopWindow s 0 with
  | some (base, _) =>
    if critLong s (fun o => s.wordAt (base + o)) then .next (s.setGov { s.gov with hold := true }) else .next s
  | none => .next s

/-- REFERENCE_MESSAGE (R188): a message in an endpoint of loop 0 reaches the governor; it becomes visible at the next sample boundary, where the
governor takes or refuses the references and acknowledges. -/
def execReferenceMessage (e : Fin 64) (s : State) : Out :=
  if refFull s e && !s.gov.refs.contains e.val then .next (s.setGov { s.gov with refs := s.gov.refs ++ [e.val] }) else .next s

end Sys2Proof.Machine
end

