-- ==== Sys2Proof/Machine/GwenAlu.lean ====
section
/-! DEFINITION. Gweny integer and immediate instructions (R99). -/

namespace Sys2Proof.Machine

/-- ADD (R99): g[rd] := g[rs1] + g[rs2]. -/
def execAdd (u : Fin 10) (rd rs1 rs2 : Fin 32) (s : State) : Out :=
  .next (gwAlu s u rd rs1 rs2 1 (· + ·))

/-- SUB (R99): g[rd] := g[rs1] − g[rs2]. -/
def execSub (u : Fin 10) (rd rs1 rs2 : Fin 32) (s : State) : Out :=
  .next (gwAlu s u rd rs1 rs2 1 (· - ·))

/-- AND (R99). -/
def execAnd (u : Fin 10) (rd rs1 rs2 : Fin 32) (s : State) : Out :=
  .next (gwAlu s u rd rs1 rs2 1 (· &&& ·))

/-- OR (R99). -/
def execOr (u : Fin 10) (rd rs1 rs2 : Fin 32) (s : State) : Out :=
  .next (gwAlu s u rd rs1 rs2 1 (· ||| ·))

/-- XOR (R99). -/
def execXor (u : Fin 10) (rd rs1 rs2 : Fin 32) (s : State) : Out :=
  .next (gwAlu s u rd rs1 rs2 1 (· ^^^ ·))

/-- SHL (R85, R99): the amount is the low 5 bits of g[rs2]. -/
def execShl (u : Fin 10) (rd rs1 rs2 : Fin 32) (s : State) : Out :=
  .next (gwAlu s u rd rs1 rs2 1 (fun a b => shl32 a (b.toNat % 32)))

/-- SHR (R85, R99): fills with 0. -/
def execShr (u : Fin 10) (rd rs1 rs2 : Fin 32) (s : State) : Out :=
  .next (gwAlu s u rd rs1 rs2 1 (fun a b => shr32 a (b.toNat % 32)))

/-- SRA (R85, R99): copies the sign. -/
def execSra (u : Fin 10) (rd rs1 rs2 : Fin 32) (s : State) : Out :=
  .next (gwAlu s u rd rs1 rs2 1 (fun a b => sra32 a (b.toNat % 32)))

/-- MUL (R99): the low 32 bits of the product. -/
def execMul (u : Fin 10) (rd rs1 rs2 : Fin 32) (s : State) : Out :=
  .next (gwAlu s u rd rs1 rs2 2 (· * ·))

/-- MIN (R99): signed. -/
def execMin (u : Fin 10) (rd rs1 rs2 : Fin 32) (s : State) : Out :=
  .next (gwAlu s u rd rs1 rs2 1 minS)

/-- MAX (R99): signed. -/
def execMax (u : Fin 10) (rd rs1 rs2 : Fin 32) (s : State) : Out :=
  .next (gwAlu s u rd rs1 rs2 1 maxS)

/-- CMP (R85, R99): Z, N, C and V of g[rs1] − g[rs2]; UN is unchanged. -/
def execCmp (u : Fin 10) (rs1 rs2 : Fin 32) (s : State) : Out :=
  .next (gwSimple s u false 1 (fun c => c.setFlags 0x0F (cmpFlags (c.gr rs1) (c.gr rs2))))

/-- ADDI (R99): sign-extended immediate. -/
def execAddi (u : Fin 10) (rd rs1 : Fin 32) (imm : BitVec 16) (s : State) : Out :=
  .next (gwImm s u rd rs1 (fun a => a + imm.signExtend 32))

/-- ANDI (R99): zero-extended immediate. -/
def execAndi (u : Fin 10) (rd rs1 : Fin 32) (imm : BitVec 16) (s : State) : Out :=
  .next (gwImm s u rd rs1 (fun a => a &&& imm.zeroExtend 32))

/-- ORI (R99): zero-extended immediate. -/
def execOri (u : Fin 10) (rd rs1 : Fin 32) (imm : BitVec 16) (s : State) : Out :=
  .next (gwImm s u rd rs1 (fun a => a ||| imm.zeroExtend 32))

/-- XORI (R99): zero-extended immediate. -/
def execXori (u : Fin 10) (rd rs1 : Fin 32) (imm : BitVec 16) (s : State) : Out :=
  .next (gwImm s u rd rs1 (fun a => a ^^^ imm.zeroExtend 32))

/-- SHLI (R99): shift left by imm[4:0]. -/
def execShli (u : Fin 10) (rd rs1 sh : Fin 32) (s : State) : Out :=
  .next (gwImm s u rd rs1 (fun a => shl32 a sh))

/-- SHRI (R99): logical shift right by imm[4:0]. -/
def execShri (u : Fin 10) (rd rs1 sh : Fin 32) (s : State) : Out :=
  .next (gwImm s u rd rs1 (fun a => shr32 a sh))

/-- SRAI (R99): arithmetic shift right by imm[4:0]. -/
def execSrai (u : Fin 10) (rd rs1 sh : Fin 32) (s : State) : Out :=
  .next (gwImm s u rd rs1 (fun a => sra32 a sh))

/-- LUI (R99): g[rd] := imm << 16. -/
def execLui (u : Fin 10) (rd : Fin 32) (imm : BitVec 16) (s : State) : Out :=
  .next (gwSimple s u false 1 (fun c => c.setG rd (imm ++ 0#16)))

end Sys2Proof.Machine
end

