-- ==== Sys2Proof/Machine/GwenFp.lean ====
section
/-! DEFINITION. Gweny FP scalar instructions (R83, R84, R100). -/

namespace Sys2Proof.Machine

/-- FADD (R100). -/
def execFadd (u : Fin 10) (rd rs1 rs2 : Fin 32) (s : State) : Out :=
  .next (gwFp s u rd rs1 rs2 2 fadd)

/-- FSUB (R100). -/
def execFsub (u : Fin 10) (rd rs1 rs2 : Fin 32) (s : State) : Out :=
  .next (gwFp s u rd rs1 rs2 2 fsub)

/-- FMUL (R100). -/
def execFmul (u : Fin 10) (rd rs1 rs2 : Fin 32) (s : State) : Out :=
  .next (gwFp s u rd rs1 rs2 2 fmul)

/-- FDIV (R100). -/
def execFdiv (u : Fin 10) (rd rs1 rs2 : Fin 32) (s : State) : Out :=
  .next (gwFp s u rd rs1 rs2 16 fdiv)

/-- FMIN (R84, R100). -/
def execFmin (u : Fin 10) (rd rs1 rs2 : Fin 32) (s : State) : Out :=
  .next (gwFp s u rd rs1 rs2 1 fmin)

/-- FMAX (R84, R100). -/
def execFmax (u : Fin 10) (rd rs1 rs2 : Fin 32) (s : State) : Out :=
  .next (gwFp s u rd rs1 rs2 1 fmax)

/-- FABS (R100): clears the sign bit, NaN included. -/
def execFabs (u : Fin 10) (rd rs1 : Fin 32) (s : State) : Out :=
  .next (gwFp1 s u rd rs1 1 (fun a => ⟨fabs a, 0⟩))

/-- FNEG (R100): inverts the sign bit, NaN included. -/
def execFneg (u : Fin 10) (rd rs1 : Fin 32) (s : State) : Out :=
  .next (gwFp1 s u rd rs1 1 (fun a => ⟨fneg a, 0⟩))

/-- FSQRT (R100). -/
def execFsqrt (u : Fin 10) (rd rs1 : Fin 32) (s : State) : Out :=
  .next (gwFp1 s u rd rs1 16 fsqrt)

/-- FCMP (R85, R100): writes Z, N, UN, with C and V 0; NV on a NaN. -/
def execFcmp (u : Fin 10) (rs1 rs2 : Fin 32) (s : State) : Out :=
  .next (gwSimple s u false 1 (fun c => (c.setFlags 0x1F (fcmpFlags (c.gr rs1) (c.gr rs2))).orFlags (nanFl (c.gr rs1) (c.gr rs2))))

/-- FCVTSW (R100): INT32 to FP32, rounded. -/
def execFcvtsw (u : Fin 10) (rd rs1 : Fin 32) (s : State) : Out :=
  .next (gwFp1 s u rd rs1 2 (fun a => ⟨fcvtsw a, 0⟩))

/-- FCVTWS (R84, R100): toward zero, saturating. -/
def execFcvtws (u : Fin 10) (rd rs1 : Fin 32) (s : State) : Out :=
  .next (gwFp1 s u rd rs1 2 fcvtws)

/-- FMA (R100): rounded once. -/
def execFma (u : Fin 10) (rd rs1 rs2 rs3 : Fin 32) (s : State) : Out :=
  .next (gwFp3 s u rd rs1 rs2 rs3 3 fma)

/-- FCLAMP (R100). -/
def execFclamp (u : Fin 10) (rd rs1 rs2 rs3 : Fin 32) (s : State) : Out :=
  .next (gwFp3 s u rd rs1 rs2 rs3 1 fclamp)

end Sys2Proof.Machine
end

