-- ==== Sys2Proof/Machine/GwenPrim.lean ====
section
/-! DEFINITION. Gweny control primitives INTEG, RELAY and PLAUS (R109–R119). -/

namespace Sys2Proof.Machine

/-- The checks every primitive makes on its block: alignment (cause 0x02) and the tile window (cause 0x03). -/
def blockAt (c : GwCtx) (rs1 n : Nat) (k : Nat → GwEff) : GwEff :=
  let a := (c.gr rs1).toNat
  if a % n ≠ 0 then .trap 0x02 (BitVec.ofNat 32 a)
  else if !c.inTile a n then .trap 0x03 (BitVec.ofNat 32 a)
  else k a

/-! ### INTEG -/

/-- An INTEG result: the new accumulator, the output, whether it was limited, AWD, and the sticky flags. -/
structure IntegRes where
  acc : Word
  out : Word
  sat : Bool
  awd : Bool
  fl  : Nat
  deriving DecidableEq, Repr

/-- The INTEG law of R111 over its block (ACC, KIDT, ILO, IHI, ULO, UHI, MODE), the error and p. -/
def integ (acc kidt ilo ihi ulo uhi : Word) (mode priv : Bool) (e p : Word) : IntegRes :=
  let inc := fmul kidt e
  let clampNew :=
    let s := fadd acc inc.val
    let n := fclamp s.val ilo ihi
    (n.val, s.fl ||| n.fl)
  let (new, fl1) :=
    if mode && priv then
      let t1 := fadd p acc
      let t := fadd t1.val inc.val
      if (flt uhi t.val && flt 0 e) || (flt t.val ulo && flt e 0) then (acc, t1.fl ||| t.fl)
      else (clampNew.1, t1.fl ||| t.fl ||| clampNew.2)
    else clampNew
  let new := if fIsNaN e then acc else new
  let fl2 := if fIsNaN e then flNV else 0
  let raw := fadd p new
  let u := fclamp raw.val ulo uhi
  { acc := new, out := u.val, sat := !feq u.val raw.val, awd := mode && !priv, fl := inc.fl ||| fl1 ||| fl2 ||| raw.fl ||| u.fl }

/-- The limits of an INTEG block are invalid (R112). -/
def integBad (ilo ihi ulo uhi : Word) : Bool :=
  fIsNaN ilo || fIsNaN ihi || fIsNaN ulo || fIsNaN uhi || flt ihi ilo || flt uhi ulo

/-- INTEG (R110–R113). DESIGN CHOICE (log 38): like a load or a store, INTEG, RELAY and PLAUS wait for a running PMV whose ranges their block
touches; R107 names loads and stores only. -/
def execInteg (u : Fin 10) (rd rs1 rs2 rs3 : Fin 32) (s : State) : Out :=
  .next (gwRun s u false (fun c => prismTouches c (c.gr rs1).toNat 32) (fun s c =>
    blockAt c rs1 32 (fun a =>
      let w := fun k => tileWord s c (a + k)
      if integBad (w 0x08) (w 0x0C) (w 0x10) (w 0x14) then .trap 0x05 (BitVec.ofNat 32 a)
      else
        let r := integ (w 0x00) (w 0x04) (w 0x08) (w 0x0C) (w 0x10) (w 0x14) (bit (w 0x18).toNat 0) c.priv (c.gr rs2) (c.gr rs3)
        let s := s.setWord (c.base + a) r.acc
        let s := if r.sat then s.setWord (c.base + a + 0x1C) (BitVec.ofNat 32 (satU 32 ((w 0x1C).toNat + 1))) else s
        let c := (c.setG rd r.out).orFlags (r.fl + (if r.awd then 0x4000 else 0))
        .go s (c.setFlags 0x800 (if r.sat then 0x800 else 0)).step4 12)))

/-! ### RELAY -/

/-- The fields of a RELAY block that change (R114). -/
structure RelaySt where
  run    : Bool
  done   : Bool
  noosc  : Bool
  abort  : Bool
  ups    : Nat
  sign   : Bool
  nsamp  : Nat
  lastsw : Nat
  emax   : Word
  emin   : Word
  sump   : Nat
  tu     : Word
  ku     : Word
  fl     : Nat := 0
  rly    : Bool := false
  deriving DecidableEq, Repr

/-- STATE as a word. -/
def relayWord (r : RelaySt) : Word :=
  BitVec.ofNat 32 (b2n r.run * 2 ^ 31 + b2n r.done * 2 ^ 30 + b2n r.noosc * 2 ^ 29 + b2n r.abort * 2 ^ 28 + r.ups % 256 * 2 ^ 16 + b2n r.sign)

/-- The end of a measurement after the last upswitch: TU, KU and DONE, or NOOSC (R115). -/
def relayFinish (d : Word) (ncyc : Nat) (r : RelaySt) : RelaySt :=
  let tu := fdiv (fOfInt r.sump) (fOfInt ncyc)
  let x := fsub r.emax r.emin
  let a := fmul x.val 0x3F000000#32
  let r := { r with tu := tu.val, run := false, rly := true, fl := r.fl ||| tu.fl ||| x.fl ||| a.fl }
  if flt 0 a.val then
    let n := fmul 0x40800000#32 d
    let m := fmul 0x40490FDB#32 a.val
    let k := fdiv n.val m.val
    { r with ku := k.val, done := true, fl := r.fl ||| n.fl ||| m.fl ||| k.fl }
  else { r with noosc := true }

/-- An upswitch (R115). -/
def relayUp (d e : Word) (ncyc : Nat) (r : RelaySt) : RelaySt :=
  let r := if 1 ≤ r.ups then { r with sump := (r.sump + (r.nsamp + 2 ^ 32 - r.lastsw)) % 2 ^ 32 } else { r with emax := e, emin := e }
  let r := { r with ups := r.ups + 1, lastsw := r.nsamp }
  if r.ups = ncyc + 1 then relayFinish d ncyc r else r

/-- One running step of the relay (R115). -/
def relayStep (d h : Word) (ncyc maxs : Nat) (e : Word) (r : RelaySt) : RelaySt :=
  let r := { r with nsamp := (r.nsamp + 1) % 2 ^ 32 }
  let down := r.sign && flt e (fneg h)
  let up := !r.sign && flt h e
  let r := if down then { r with sign := false } else if up then { r with sign := true } else r
  let r := if 1 ≤ r.ups then
      let x := fmax r.emax e
      let n := fmin r.emin e
      { r with emax := x.val, emin := n.val, fl := r.fl ||| x.fl ||| n.fl }
    else r
  let r := if up then relayUp d e ncyc r else r
  if r.run && decide (maxs ≤ r.nsamp) then { r with run := false, noosc := true, rly := true } else r

/-- Store a RELAY block's changed fields. -/
def relayStore (s : State) (a : Nat) (r : RelaySt) : State :=
  let s := (s.setWord (a + 0x14) (relayWord r)).setWord (a + 0x18) (BitVec.ofNat 32 r.nsamp)
  let s := (s.setWord (a + 0x1C) (BitVec.ofNat 32 r.lastsw)).setWord (a + 0x20) r.emax
  let s := (s.setWord (a + 0x24) r.emin).setWord (a + 0x28) (BitVec.ofNat 32 r.sump)
  (s.setWord (a + 0x2C) r.tu).setWord (a + 0x30) r.ku

/-- Read a RELAY block's changing fields. -/
def relayLoad (w : Nat → Word) : RelaySt :=
  let st := (w 0x14).toNat
  { run := bit st 31, done := bit st 30, noosc := bit st 29, abort := bit st 28, ups := bits st 16 8, sign := bit st 0,
    nsamp := (w 0x18).toNat, lastsw := (w 0x1C).toNat, emax := w 0x20, emin := w 0x24, sump := (w 0x28).toNat, tu := w 0x2C, ku := w 0x30 }

/-- RELAY (R114–R116): outside SERVICE and FIELD_MANUAL a running tune aborts. -/
def execRelay (u : Fin 10) (rd rs1 rs2 : Fin 32) (s : State) : Out :=
  .next (gwRun s u true (fun c => prismTouches c (c.gr rs1).toNat 64) (fun s c =>
    blockAt c rs1 64 (fun a =>
      let w := fun k => tileWord s c (a + k)
      let r := relayLoad w
      let u0 := w 0x08
      if !r.run || !(c.mode == Mode.service || c.mode == Mode.fieldManual) then
        if r.run then
          .go (s.setWord (c.base + a + 0x14) (relayWord { r with run := false, abort := true }))
            ((c.setG rd u0).orFlags 0x2000).step4 14
        else .go s (c.setG rd u0).step4 14
      else
        let r := relayStep (w 0x00) (w 0x04) (clampN 2 16 (w 0x0C).toNat) (w 0x10).toNat (c.gr rs2) r
        let o := if r.run then (if r.sign then fadd u0 (w 0x00) else fsub u0 (w 0x00)) else ⟨u0, 0⟩
        .go (relayStore s (c.base + a) r)
          ((c.setG rd o.val).orFlags (r.fl ||| o.fl ||| (if r.rly then 0x2000 else 0))).step4 14)))

/-! ### PLAUS -/

/-- Report a PLAUS trip (R119): the slot's PLAUS bit and a PLAUS_TRIP event. -/
def plausTrip (s : State) (u : Nat) (loop a : Nat) : State :=
  let s := match s.slotOf loop with
    | some (e, i) => s.setFlag (Fd.CE_SLOT_STATUS_PLAUS e i) true
    | none => s
  logEvent s Ev.plausTrip (unitSrc u) loop a

/-- PLAUS (R117–R119). -/
def execPlaus (u : Fin 10) (rd rs1 rs2 rs3 : Fin 32) (s : State) : Out :=
  .next (gwRun s u false (fun c => prismTouches c (c.gr rs1).toNat 32) (fun s c =>
    blockAt c rs1 32 (fun a =>
      let w := fun k => tileWord s c (a + k)
      let x := fsub (c.gr rs2) (c.gr rs3)
      let dev := fabs x.val
      let conf := max 1 (w 0x04).toNat
      let cnt := if fIsNaN dev || flt (w 0x00) dev then min ((w 0x08).toNat + 1) conf else 0
      let fault := bit (w 0x0C).toNat 0
      let trip := decide (cnt = conf) && !fault
      let s := s.setWord (c.base + a + 0x08) (BitVec.ofNat 32 cnt)
      let s := if trip then plausTrip (s.setWord (c.base + a + 0x0C) 1) u c.loop a else s
      let s := if flt (w 0x10) dev then s.setWord (c.base + a + 0x10) dev else s
      .go s (((c.setG rd dev).orFlags x.fl).setFlags 0x1000 (if fault || trip then 0x1000 else 0)).step4 8)))

end Sys2Proof.Machine
end

