-- ==== Sys2Proof/Machine/GwenSys.lean ====
section
/-! DEFINITION. Gweny system instructions (R82, R103), the budget trap and the illegal instruction (R97, R98, R120). -/

namespace Sys2Proof.Machine

/-- NOP (R103). -/
def execNop (u : Fin 10) (s : State) : Out := .next (gwSimple s u false 1 id)

/-- The end of the sample after the Prism wait; ENDS may use exactly the remaining budget. -/
def gwEnds (s : State) (u : Nat) : State := match s.ctx u with
  | none => s
  | some c =>
    let (s, c) := prismAuto s c
    if c.pc % 4 ≠ 0 then takeTrap s u c 0x02 (BitVec.ofNat 32 c.pc)
    else if !c.inTile c.pc 4 then takeTrap s u c 0x03 (BitVec.ofNat 32 c.pc)
    else
      let wait := match c.prism with
        | some p => p.doneAt - c.cyc
        | none => 0
      if c.budget < wait + 1 then budgetTrap s u c
      else
        let (s, c) := prismWait s c
        endSample s u { c with cyc := c.cyc + 1, budget := c.budget - 1 }

/-- ENDS (R79, R103): waits for a running PMV and ends the sample. -/
def execEnds (u : Fin 10) (s : State) : Out := .next (gwEnds s u)

/-- TRAP (R103): cause 0x07, faddr := n. -/
def execTrap (u : Fin 10) (n : Fin 32) (s : State) : Out :=
  .next (gwRun s u false (fun _ => false) (fun _ _ => .trap 0x07 (BitVec.ofNat 32 n)))

/-- The content of a CSR (R82); none for a number that is not listed. DESIGN CHOICE (log 38): slot reads the context's number mod 128 on the
fusion sequencer and the Mirror pair, which have no loop numbers. -/
def csrRead (c : GwCtx) (n : Nat) : Option Word :=
  if n = 0x00 then some c.flags
  else if n = 0x01 then some (BitVec.ofNat 32 c.tick)
  else if n = 0x02 then some (BitVec.ofNat 32 c.budget)
  else if n = 0x03 then some (BitVec.ofNat 32 (c.loop % 128))
  else if n = 0x04 then some (BitVec.ofNat 32 c.period)
  else if n = 0x05 then some (BitVec.ofNat 32 (c.mode % 16))
  else if n = 0x06 then some (BitVec.ofNat 32 c.cyc)
  else if n = 0x08 then some c.epc
  else if n = 0x09 then some c.cause
  else if n = 0x0A then some c.faddr
  else none

/-- CSRR (R82, R103): an unknown CSR takes the illegal-instruction trap; CSR 0x00 waits for the Prism unit (R107). -/
def execCsrr (u : Fin 10) (rd n : Fin 32) (s : State) : Out :=
  .next (gwRun s u false (fun _ => n == 0) (fun s c =>
    match csrRead c n with
    | some w => .go s (c.setG rd w).step4 1
    | none => .trap 0x01 (BitVec.ofNat 32 c.pc)))

/-- The flag bits that exist (R82). -/
abbrev flagMask : Nat := 0x7F9F

/-- CSRW (R82, R103): only the flags can be written; reserved bits stay 0. -/
def execCsrw (u : Fin 10) (n rs1 : Fin 32) (s : State) : Out :=
  .next (gwRun s u false (fun _ => n == 0) (fun s c =>
    if n = 0 then .go s { c with flags := c.gr rs1 &&& BitVec.ofNat 32 flagMask }.step4 1
    else .trap 0x01 (BitVec.ofNat 32 c.pc)))

/-- PWAIT (R103): waits until the Prism unit is idle. -/
def execPwait (u : Fin 10) (s : State) : Out :=
  .next (gwRun s u true (fun _ => true) (fun s c => .go s c.step4 1))

/-- BUDGET_TRAP (R121, R129): the remaining budget runs out before ENDS and trap cause 0x06 is taken. -/
def execBudgetTrap (u : Fin 10) (s : State) : Out :=
  .next (match s.ctx u with
    | some c => budgetTrap (prismAuto s c).1 u (prismAuto s c).2
    | none => s)

/-! ### Legal words (R97–R103, R109) -/

/-- The word is a Gweny instruction: defined opcode and func, zero fields zero, a known CSR. -/
def gwLegal (w : Word) : Bool := (gwDecode 0 w).isSome

/-- The word is outside the Mirror pair's set (R76). -/
def gwMirrorLacks (w : Nat) : Bool :=
  let op := bits w 26 6
  op == 0x03 || op == 0x12 || op == 0x13 || op == 0x27 || op == 0x14 || (op == 0x05 && bits w 0 11 == 0x005)
    || (op == 0x04 && bits w 0 6 == 0x01)

/-- ILLEGAL_INSTRUCTION (R97, R98, R120): the next word of unit `u` is `w`, which is no instruction of its set: trap cause 0x01 with
the instruction's address. A word that is an instruction is not this event. -/
def execIllegalInstruction (u : Fin 10) (w : Word) (s : State) : Out :=
  .next (if gwLegal w && !(u.val == mirrorUnit && gwMirrorLacks w.toNat) then s
    else gwRun s u false (fun _ => false) (fun _ c => .trap 0x01 (BitVec.ofNat 32 c.pc)))

end Sys2Proof.Machine
end

