-- ==== Sys2Proof/Machine/GwenVec.lean ====
section
/-! DEFINITION. Gweny vector instructions (R102). -/

namespace Sys2Proof.Machine

/-- VADD (R102): lane by lane. -/
def execVadd (u : Fin 10) (vd va vb : Fin 8) (s : State) : Out :=
  .next (gwVec s u vd va vb 1 (fun _ a b => fadd a b))

/-- VSUB (R102): lane by lane. -/
def execVsub (u : Fin 10) (vd va vb : Fin 8) (s : State) : Out :=
  .next (gwVec s u vd va vb 1 (fun _ a b => fsub a b))

/-- VMUL (R102): lane by lane. -/
def execVmul (u : Fin 10) (vd va vb : Fin 8) (s : State) : Out :=
  .next (gwVec s u vd va vb 1 (fun _ a b => fmul a b))

/-- VMIN (R102): lane by lane. -/
def execVmin (u : Fin 10) (vd va vb : Fin 8) (s : State) : Out :=
  .next (gwVec s u vd va vb 1 (fun _ a b => fmin a b))

/-- VMAX (R102): lane by lane. -/
def execVmax (u : Fin 10) (vd va vb : Fin 8) (s : State) : Out :=
  .next (gwVec s u vd va vb 1 (fun _ a b => fmax a b))

/-- VFMA (R102): vd := rnd(vd + va × vb), rounded once. -/
def execVfma (u : Fin 10) (vd va vb : Fin 8) (s : State) : Out :=
  .next (gwVec s u vd va vb 2 (fun d a b => fma a b d))

/-- VCLAMP (R102): vd := clamp(vd, va, vb). -/
def execVclamp (u : Fin 10) (vd va vb : Fin 8) (s : State) : Out :=
  .next (gwVec s u vd va vb 1 fclamp)

/-- VBCAST (R102): every lane := g[rs1]. -/
def execVbcast (u : Fin 10) (vd : Fin 8) (rs1 : Fin 32) (s : State) : Out :=
  .next (gwRun s u true (fun c => prismUsesV c vd) (fun s c => .go s (c.setV vd (List.replicate 64 (c.gr rs1))).step4 1))

/-- VEXT (R102): g[rd] := va[g[rs2] and 63]. -/
def execVext (u : Fin 10) (rd : Fin 32) (va : Fin 8) (rs2 : Fin 32) (s : State) : Out :=
  .next (gwRun s u true (fun c => prismUsesV c va) (fun s c => .go s (c.setG rd (c.lane va ((c.gr rs2).toNat % 64))).step4 1))

/-- VINS (R102): vd[g[rs2] and 63] := g[rs1]. -/
def execVins (u : Fin 10) (vd : Fin 8) (rs1 rs2 : Fin 32) (s : State) : Out :=
  .next (gwRun s u true (fun c => prismUsesV c vd) (fun s c => .go s (c.setLane vd ((c.gr rs2).toNat % 64) (c.gr rs1)).step4 1))

/-- VRED (R86, R102): the lane tree of va. -/
def execVred (u : Fin 10) (rd : Fin 32) (va : Fin 8) (s : State) : Out :=
  .next (gwRun s u true (fun c => prismUsesV c va) (fun s c => let x := laneTree (c.vr va); .go s ((c.setG rd x.val).orFlags x.fl).step4 7))

/-- VDOT (R86, R102): the lane tree of the rounded products. -/
def execVdot (u : Fin 10) (rd : Fin 32) (va vb : Fin 8) (s : State) : Out :=
  .next (gwRun s u true (fun c => prismUsesV c va || prismUsesV c vb) (fun s c => let x := vdot (c.vr va) (c.vr vb); .go s ((c.setG rd x.val).orFlags x.fl).step4 8))

end Sys2Proof.Machine
end

