-- ==== Sys2Proof/Machine/Lsw.lean ====
section
/-! DEFINITION. The 24 protected load switches (R428–R445): commands of owners and their application at tick boundaries, thresholds,
inrush windows, latches and retries, clamp and open-load checks, supply corners, the keep hold and the intrusive tests. -/

namespace Sys2Proof.Machine

/-- A channel beyond its registers. -/
def State.lch (s : State) (n : Nat) : LswCh := smGet {} s.lsw.ch n

/-- Replace a channel. -/
def State.setLch (s : State) (n : Nat) (x : LswCh) : State := s.setLsw { s.lsw with ch := smPut {} s.lsw.ch n x }

/-- The group of a channel (R428). -/
def lswGroup (n : Nat) : Nat := if n < 4 then 0 else if n < 8 then 1 else if n < 16 then 2 else 3

/-- HARD, INRUSH and LATCH in 10 mA (R428); settable thresholds act within the channel's range. -/
def lswHard (n : Nat) : Nat := if n < 8 then 6000 else 2000
def lswInrush (s : State) (n : Nat) : Nat := clampN 100 (if n < 8 then 4500 else 1500) (25 * s.fld (Fd.LSW_CH_THR_INRUSH n))
def lswLatch (s : State) (n : Nat) : Nat := clampN 10 (if n < 8 then 1650 else 550) (10 * s.fld (Fd.LSW_CH_THR_LATCH n))

/-- INRUSH_T in ms, at most 50. -/
def lswWindowMs (s : State) (n : Nat) : Nat := min 50 (s.fld (Fd.LSW_CH_TIME_INRUSH_T n))

/-- The UV level of a group in mV (R435): 5.0 V to 20.0 V. -/
def lswUv (s : State) (g : Nat) : Nat := 100 * clampN 50 200 (s.fld (Fd.LSW_GRP_CFG_UV g))

/-- The PWM period in ticks (R431). -/
def lswPeriod (s : State) (n : Nat) : Nat := match s.fld (Fd.LSW_CH_CFG_PWM_F n) with
  | 0 => 200
  | 2 => 80
  | 3 => 50
  | 4 => 40
  | _ => 100

/-! ### What may be driven -/

/-- The channel is gated: R53, the power-fail sequence or REPLAY forbid driving it (R432); a keep hold is not gated in BOOT. -/
def lswGated (s : State) (n : Nat) : Bool :=
  !(s.noPf && (lswOwnerMode s.outMode || (lswKeepMode s.outMode && ((s.lch n).hold || s.flag (Fd.LSW_CH_CFG_KEEP n)))))

/-- The running test is on channel `n`. -/
def lswTesting (s : State) (n : Nat) : Bool := match s.lsw.test with
  | some t => t.running && t.unit == n
  | none => false

/-- The enabled output route that names channel `n` (R430). -/
def lswRoute (s : State) (n : Nat) : Option (List Word) := s.liveRoutes.ownerRoute 2 n

/-- Busy (R445). -/
def lswBusy (s : State) (n : Nat) : Bool := lswOwned s n || ((lswRoute s n).isNone && s.fld (Fd.LSW_CH_CMD_VALUE n) != 0)

/-- The channel is to be on: a command, no gate, no latch, not hot, no reversed supply (R432–R440). -/
def lswWant (s : State) (n : Nat) : Bool :=
  let x := s.lch n
  x.cmd != 0 && (s.flag (Fd.LSW_CH_CFG_EN n) || x.hold) && !lswGated s n && x.latchAt.isNone && !x.hot && !s.lsw.rev

/-- Set or clear bit `n` of a map register. -/
def mapBit (s : State) (a n : Nat) (b : Bool) : State :=
  s.setReg a (BitVec.ofNat 32 (setBits (s.reg a).toNat n 1 (b2n b)))

/-- Bring LSW_CH[n]_STAT and the maps up to date. -/
def lswShow (s : State) (n : Nat) : State :=
  let x := s.lch n
  let st := if lswGated s n then 3 else if x.latchAt.isSome then 2 else if x.on then 1 else 0
  let s := (s.setFld (Fd.LSW_CH_STAT_STATE n) st).setFlag (Fd.LSW_CH_STAT_INRUSH n) x.winAt.isSome
  let s := (s.setFlag (Fd.LSW_CH_STAT_HOLD n) x.hold).setFlag (Fd.LSW_CH_STAT_BUSY n) (lswBusy s n)
  let s := s.setFlag (Fd.LSW_CH_STAT_LOOP n) (lswRoute s n).isSome
  let s := mapBit s Ra.LSW_FAULT_MAP n (s.fld (Fd.LSW_CH_STAT_FAULT n) != 0)
  let s := mapBit s Ra.LSW_LATCH_MAP n x.latchAt.isSome
  mapBit s Ra.LSW_OWN_MAP n (lswRoute s n).isSome

/-- The output stage goes off now, with fast decay (R433, R438). -/
def lswOff (s : State) (n : Nat) : State :=
  let x := s.lch n
  if x.on then s.setLch n { x with on := false, offAt := s.cyc, winAt := none } else s.setLch n { x with winAt := none }

/-- The output stage goes on, with a new inrush window (R434). -/
def lswOn (s : State) (n : Nat) : State :=
  s.setLch n { s.lch n with on := true, winAt := if lswWindowMs s n = 0 then none else some s.cyc, winPause := 0 }

/-- Bring the output stage to what the command, gate and latches ask: an off channel goes on at once or, for a PWM duty, at a period
start, unless OV of its group holds on commands (R440). -/
def lswSettle (s : State) (n : Nat) : State :=
  if lswTesting s n then (if lswGated s n then lswOff s n else s)
  else if lswWant s n then
    let x := s.lch n
    let start := s.liveTick % lswPeriod s n == 0
    let now := x.cmd == 1000 || start
    let s := if now then s.setLch n { x with duty := x.cmd } else s
    if x.on then s
    else if now && !s.flag (Fd.LSW_GRP_STAT_OV (lswGroup n)) then lswOn s n
    else s
  else lswOff s n

/-! ### Commands (R430, R431) -/

/-- The value of a command word: 0 off, 1–999 duty, 1000 on. -/
def lswValue (w : Word) : Nat := if w.toInt ≤ 0 then 0 else min 1000 w.toNat

/-- The owning loop has published a sample's value at this tick (R442): not the SAFE publication at LOAD. -/
def lswHandover (s : State) (e : List Word) : Bool :=
  s.rpl.live.isNone && (s.pubAt (portKey (rtLoop e) (rtOutPort e))).tick == some s.clk.tick &&
    [SlotSt.starting, SlotSt.running, SlotSt.disabling].contains (s.loopState (rtLoop e))

/-- The owner's command at a tick boundary: a loop's published value, or what LSW_CH[n]_CMD holds. A keep hold keeps the command until
handover: for the application complex, its first write. -/
def lswTake (s : State) (n : Nat) : State :=
  let x := s.lch n
  match lswRoute s n with
  | some e =>
    if x.hold && !lswHandover s e then s
    else s.setLch n { x with cmd := lswValue (s.livePub (portKey (rtLoop e) (rtOutPort e))).val, hold := false, cmdPend := none }
  | none =>
    if x.hold && x.cmdPend.isNone then s
    else s.setLch n { x with cmd := min 1000 (s.fld (Fd.LSW_CH_CMD_VALUE n)), hold := false, cmdPend := none }

/-- The latch is cleared, and every fault whose cause is gone (R436). -/
def lswUnlatch (s : State) (n : Nat) : State :=
  let x := s.lch n
  let s := s.setLch n { x with latchAt := none }
  if x.hot then s.setFld (Fd.LSW_CH_STAT_FAULT n) 6 else if x.cause then s else s.setFld (Fd.LSW_CH_STAT_FAULT n) 0

/-- A command that has been 0 for a tick restores the retries; a non-zero one after it clears the latch (R436). A command that goes to 0 clears
FAULT 5 (R439). -/
def lswZero (s : State) (n : Nat) : State :=
  let x := s.lch n
  let s := if x.zeroTicks = 0 then s else s.setFld (Fd.LSW_CH_STAT_RETRY_LEFT n) (s.fld (Fd.LSW_CH_CFG_RETRY n))
  if x.cmd = 0 then
    let s := s.setLch n { x with zeroTicks := x.zeroTicks + 1 }
    if x.zeroTicks = 0 ∧ s.fld (Fd.LSW_CH_STAT_FAULT n) = 5 then s.setFld (Fd.LSW_CH_STAT_FAULT n) (if x.hot then 6 else 0) else s
  else if x.zeroTicks = 0 then s
  else
    let s := s.setLch n { x with zeroTicks := 0 }
    if x.latchAt.isSome then lswUnlatch s n else s

/-- Every channel follows a change of gate at once. -/
def lswGates (s : State) : State := s.forN 24 (fun s n => lswShow (if lswWant s n || (lswTesting s n && !lswGated s n) then s else lswOff s n) n)

/-- A write of LSW_CH[n]_CMD by the application complex. -/
def lswCmdWrite (s : State) (n : Nat) (v : Word) : State :=
  if (lswRoute s n).isSome then s.setFld (Fd.LSW_CH_STAT_CODE n) Code.refused
  else
    let s := (s.setFld (Fd.LSW_CH_CMD_VALUE n) (bits v.toNat 0 11)).setFld (Fd.LSW_CH_STAT_CODE n) Code.ok
    let s := tabCmd s (Ra.LSW_CH_CMD n) [bits v.toNat 0 11]
    s.setLch n { s.lch n with cmdPend := some (min 1000 (bits v.toNat 0 11)) }

/-- LSW_CMD_WRITE (R431): LSW_CH[n]_CMD is written. -/
def execLswCmdWrite (n : Fin 24) (v : BitVec 11) (s : State) : Out := .next (lswCmdWrite s n (v.zeroExtend 32))

/-! ### Thresholds and latches (R433–R437) -/

/-- Latch a channel off with a fault (R433, R436): the hold ends, the latch-off is counted and recorded with the peak in 10 mA. -/
def lswTrip (s : State) (n fault peak : Nat) : State :=
  let s := lswOff s n
  let s := s.setLch n { s.lch n with latchAt := some s.cyc, hold := false, cause := false }
  let s := ((s.setFld (Fd.LSW_CH_STAT_FAULT n) fault).count (Fd.LSW_CH_CNT_LATCHES n)).raise (Ra.LSW_INT_PEND 0) n
  let v := s.fld (Fd.LSW_GRP_STAT_MV (lswGroup n)) / 10
  lswShow (logEvent s Ev.lswLatch Src.unit (n * 256 + fault) (peak * 2 ^ 16 + v)) n

/-- LSW_HARD_TRIP (R433): the current (10 mA) exceeds HARD. -/
def execLswHardTrip (n : Fin 24) (peak : Half) (s : State) : Out :=
  if (s.lch n).on ∧ lswHard n < peak.toNat then .next (lswTrip s n 4 peak.toNat) else .next s

/-- LSW_INRUSH_TRIP (R433): while the window is open the current has been above INRUSH for `dur` µs, 100 at least. -/
def execLswInrushTrip (n : Fin 24) (x : LswOver) (s : State) : Out :=
  if (s.lch n).on ∧ (s.lch n).winAt.isSome = true ∧ lswInrush s n < x.peak.toNat ∧ 100 ≤ x.dur.toNat then .next (lswTrip s n 3 x.peak.toNat) else .next s

/-- LATCH_T in ms: 1 to 1000. -/
def lswLatchMs (s : State) (n : Nat) : Nat := clampN 1 1000 (s.fld (Fd.LSW_CH_TIME_LATCH_T n))

/-- LSW_LATCH_TRIP (R433): while the window is closed the current has been above LATCH for `dur` ms, LATCH_T at least. -/
def execLswLatchTrip (n : Fin 24) (x : LswOver) (s : State) : Out :=
  if (s.lch n).on ∧ (s.lch n).winAt = none ∧ lswLatch s n < x.peak.toNat ∧ lswLatchMs s n ≤ x.dur.toNat then .next (lswTrip s n 3 x.peak.toNat) else .next s

/-- Cycles a window has been paused, the present UV interval included (R435). -/
def lswPause (s : State) (n t : Nat) : Nat :=
  let x := s.lch n
  x.winPause + match smGet none s.lsw.uvAt (lswGroup n) with
    | some u => s.cyc - max u t
    | none => 0

/-- The window of channel `n` closes once INRUSH_T has passed without the time below UV, or 50 ms in all (R434, R435). A test keeps its own. -/
def lswWindow (s : State) (n : Nat) : State := match (s.lch n).winAt with
  | some t =>
    if !lswTesting s n && (s.since t (lswWindowMs s n * cycMs + lswPause s n t) || s.since t (50 * cycMs)) then
      lswShow (s.setLch n { s.lch n with winAt := none }) n
    else s
  | none => s

/-- INRUSH_WINDOW_END (R434, R435). A tick boundary does the same on its own. -/
def execInrushWindowEnd (n : Fin 24) (s : State) : Out := .next (lswWindow s n)

/-- GROUP_UNDERVOLTAGE (R435): the group's voltage (mV) falls below UV, or recovers after an interval of `sag` µs. -/
def execGroupUndervoltage (g : Fin 4) (below : Bool) (mv : Half) (sag : Word) (s : State) : Out :=
  if below then
    if mv.toNat < lswUv s g ∧ (smGet none s.lsw.uvAt g).isNone = true then
      let s := ((s.setFlag (Fd.LSW_GRP_STAT_UV g) true).setFld (Fd.LSW_GRP_STAT_MV g) mv.toNat).raise (Ra.LSW_INT_PEND 1) g
      .next (s.setLsw { s.lsw with uvAt := smPut none s.lsw.uvAt g (some s.cyc) })
    else .next s
  else if lswUv s g ≤ mv.toNat ∧ (smGet none s.lsw.uvAt g).isSome = true then
    let s := (s.setFlag (Fd.LSW_GRP_STAT_UV g) false).setFld (Fd.LSW_GRP_STAT_MV g) mv.toNat
    let s := s.setFld (Fd.LSW_GRP_SAG_US g) sag.toNat
    let s := s.setLsw { s.lsw with uvAt := smPut none s.lsw.uvAt g none }
    .next (s.forN 24 (fun s n =>
      let x := s.lch n
      match x.winAt with
      | some t => if lswGroup n = g.val then s.setLch n { x with winPause := x.winPause + min (sag.toNat * cycUs) (s.cyc - t) } else s
      | none => s))
  else .next s

/-- 1 s after a latch-off of FAULT 3 or 4 with retries left, the channel goes on again with a new window (R436). -/
def lswAgain (s : State) (n : Nat) : State := match (s.lch n).latchAt with
  | some t =>
    let k := s.fld (Fd.LSW_CH_STAT_RETRY_LEFT n)
    if s.since t cycS && decide (0 < k) && s.fld (Fd.LSW_CH_STAT_FAULT n) != 5 && (s.lch n).cmd != 0 then
      lswShow (lswSettle (lswUnlatch (s.setFld (Fd.LSW_CH_STAT_RETRY_LEFT n) (k - 1)) n) n) n
    else s
  | none => s

/-- LSW_RETRY (R436). A tick boundary does the same on its own. -/
def execLswRetry (n : Fin 24) (s : State) : Out := .next (lswAgain s n)

/-- A write of LSW_CH[n]_CLR: clears the latch and every fault whose cause is gone. -/
def lswClr (s : State) (n : Nat) (v : Word) : State :=
  if bits v.toNat 16 16 = 0x1C5E ∧ bit v.toNat 0 = true then
    lswShow (lswSettle (lswUnlatch s n) n) n
  else s

/-- LSW_CLR (R436): LSW_CH[n]_CLR is written with its key and GO. -/
def execLswClr (n : Fin 24) (s : State) : Out := .next (lswClr s n 0x1C5E0001#32)

/-- LSW_OVERTEMP (R437): the switch exceeds 175 °C. A latched channel is off already and keeps its fault. -/
def execLswOvertemp (n : Fin 24) (s : State) : Out :=
  let s := lswOff s n
  let x := s.lch n
  let s := (s.setLch n { x with hot := true, cause := false }).raise (Ra.LSW_INT_PEND 0) n
  .next (lswShow (if x.latchAt.isSome then s else s.setFld (Fd.LSW_CH_STAT_FAULT n) 6) n)

/-- LSW_COOLDOWN (R437): the switch is below 150 °C; a non-zero command turns it on again with a new window. -/
def execLswCooldown (n : Fin 24) (s : State) : Out :=
  if (s.lch n).hot then
    let s := s.setLch n { s.lch n with hot := false }
    let s := if s.fld (Fd.LSW_CH_STAT_FAULT n) = 6 then s.setFld (Fd.LSW_CH_STAT_FAULT n) 0 else s
    .next (lswShow (lswSettle s n) n)
  else .next s

/-! ### Clamp and open load (R438, R439, R443) -/

/-- Channel `n` has had an off-edge at which its clamp can have conducted for `us`: of its PWM, or its switching off. -/
def lswOffEdge (s : State) (n us : Nat) : Bool :=
  let x := s.lch n
  if x.on then decide (x.duty < 1000) else decide (s.cyc ≤ x.offAt + (us + 50) * cycUs)

/-- CLAMP (R439): the clamp conducted for `dur` µs at an off-edge of the channel, whose current had reached `peak` (10 mA). -/
def execClamp (n : Fin 24) (x : LswOver) (s : State) : Out :=
  let us := x.dur
  let peak := x.peak
  if lswOffEdge s n us.toNat = false then .next s
  else if s.flag (Fd.LSW_CH_CFG_LOAD n) then
    if 20 < us.toNat then .next (lswTrip (s.count (Fd.LSW_CH_CNT_CLAMPS n)) n 5 peak.toNat) else .next s
  else if 200 < us.toNat then
    let again := match (s.lch n).clampAt with
      | some t => decide (s.cyc ≤ t + 100 * cycMs)
      | none => false
    let s := logEvent (s.count (Fd.LSW_CH_CNT_CLAMPS n)) Ev.clamp Src.unit n 0
    let s := s.setLch n { s.lch n with clampAt := some s.cyc }
    .next (if again then lswTrip s n 5 peak.toNat else s)
  else .next s

/-- What the checks of R443 find on a channel with current `cur` (10 mA) and output voltage `mv`: 1 open while on, 7 short to battery, 2 open, 0
nothing. -/
def lswCheck (s : State) (n cur mv : Nat) : Nat :=
  if (s.lch n).on then (if cur < s.fld (Fd.LSW_CH_THR_OL_ON n) then 1 else 0)
  else if !s.flag (Fd.LSW_CH_CFG_OL_OFF n) then 0
  else if 6000 < mv then 7
  else if 2000 ≤ mv then 2
  else 0

/-- OPEN_LOAD (R443): for 100 ms the channel's current has stayed at `cur` (10 mA) and its output at `mv`: the check's fault shows, or clears with its
condition. Nothing is switched, and another fault is not replaced. -/
def execOpenLoad (n : Fin 24) (cur mv : Half) (s : State) : Out :=
  let c := lswCheck s n cur.toNat mv.toNat
  let f := s.fld (Fd.LSW_CH_STAT_FAULT n)
  if [0, 1, 2, 7].contains f && f != c then
    let s := (s.setFld (Fd.LSW_CH_STAT_FAULT n) c).setLch n { s.lch n with cause := c != 0 }
    .next (lswShow (if c = 0 then s else s.raise (Ra.LSW_INT_PEND 0) n) n)
  else .next s

/-! ### Supply (R429, R440) -/

/-- The summed channel current is `sum` (10 mA): above 100 A for 1 s it sets OVER and is recorded; OVER clears with it. Nothing is switched (R429). -/
def batAWatch (s : State) (sum : Nat) : State :=
  let s := s.setFld Fd.LSW_SUM_CUR (satU 16 sum)
  if sum ≤ 10000 then (s.setFlag Fd.LSW_SUM_OVER false).setLsw { s.lsw with overAt := none }
  else match s.lsw.overAt with
    | none => s.setLsw { s.lsw with overAt := some s.cyc }
    | some t =>
      if s.since t cycS && !s.flag Fd.LSW_SUM_OVER then
        logEvent ((s.setFlag Fd.LSW_SUM_OVER true).raise (Ra.LSW_INT_PEND 2) 0) Ev.batAOver Src.unit (satU 16 sum) 0
      else s

/-- BAT_A_OVER (R429): the summed channel current is `sum` (10 mA). A tick boundary does the same with the channels' measured currents. -/
def execBatAOver (sum : Half) (s : State) : Out := .next (batAWatch s sum.toNat)

/-- The currents of groups and of all channels follow those of the channels. -/
def lswSums (s : State) : State :=
  let cur := fun (p : Nat → Bool) => ((List.range 24).filter p).foldl (fun a n => a + s.fld (Fd.LSW_CH_MEAS_CUR n)) 0
  batAWatch (s.forN 4 (fun s g => s.setReg (Ra.LSW_GRP_CUR g) (BitVec.ofNat 32 (cur (fun n => lswGroup n == g))))) (cur (fun _ => true))

/-- BAT_A above 40 V: OV of every group (R440). -/
def lswOv (s : State) : State := s.forN 4 (fun s g => (s.setFlag (Fd.LSW_GRP_STAT_OV g) true).raise (Ra.LSW_INT_PEND 1) (8 + g))

/-- BAT_A below 38 V again: held on commands apply. -/
def lswOvRelease (s : State) : State :=
  let s := s.forN 4 (fun s g => s.setFlag (Fd.LSW_GRP_STAT_OV g) false)
  s.forN 24 (fun s n => lswShow (lswSettle s n) n)

/-- BAT_A_OV_RELEASE (R440): BAT_A (mV) falls below 38 V while OV is set. -/
def execBatAOvRelease (mv : Half) (s : State) : Out :=
  if mv.toNat < 38000 ∧ s.flag (Fd.LSW_GRP_STAT_OV 0) = true then .next (lswOvRelease s) else .next s

/-- BAT_A is reversed, or has its polarity back: commands apply, each with a new window (R440). -/
def lswReverse (s : State) (rev : Bool) : State :=
  let s := s.setLsw { s.lsw with rev := rev }
  s.forN 24 (fun s n => lswShow (lswSettle s n) n)

/-! ### Keep channels (R441, R442, R63) -/

/-- A full module reset reaches the load switches, before their registers reset: a keep channel that is not latched bridges it where `bridge`,
holding its command for 500 ms; every other channel is off with no command. -/
def lswReset (s : State) (bridge : Bool) : State := s.forN 24 (fun s n =>
  let x := s.lch n
  if bridge && s.flag (Fd.LSW_CH_CFG_KEEP n) && x.latchAt.isNone then
    s.setLch n { x with hold := true, keepEnd := some (s.cyc + 500 * cycMs), cmdPend := none }
  else
    let s := lswOff s n
    s.setLch n { (s.lch n) with cmd := 0, cmdPend := none, duty := 0, hold := false, latchAt := none, hot := false, zeroTicks := 0, clampAt := none,
                                keepEnd := none, cause := false })

/-- 500 ms from the reset's assertion a keep channel that has not been handed over switches off (R63, R442). -/
def keepExpire (s : State) : State := s.forN 24 (fun s n =>
  let x := s.lch n
  match x.keepEnd with
  | some t =>
    if t ≤ s.cyc then
      let s := s.setLch n { x with keepEnd := none, hold := false, cmd := if x.hold then 0 else x.cmd }
      if x.hold then lswShow (lswOff s n) n else s
    else s
  | none => s)

/-- KEEP_CHANNEL_TIMEOUT (R63, R442). A tick boundary does the same on its own. -/
def execKeepChannelTimeout (s : State) : Out := .next (keepExpire s)

/-! ### Tests (R444, R445) -/

/-- R445's table. -/
def lswTestCode (mode : Nat) (busy : Bool) : Nat :=
  if !(decide (0x3 ≤ mode) && decide (mode ≤ 0x8)) then Code.refused
  else if !busy ∨ mode = Mode.service ∨ mode = Mode.road then Code.ok
  else if mode = Mode.fieldManual ∨ mode = Mode.fieldAssist then Code.deferred
  else Code.refused

/-- A write of LSW_TEST_CMD: an argument outside R444 and a second test are turned away at once; the rest waits for the next tick boundary. -/
def lswTestCmd (s : State) (test n : Nat) : State :=
  if test < 1 ∨ 2 < test ∨ 24 ≤ n ∨ (test = 2 ∧ s.flag (Fd.LSW_CH_CFG_LOAD n) = false) then s.setFld Fd.LSW_TEST_RES_CODE Code.badArgument
  else if s.lsw.test.isSome ∨ s.lsw.req.isSome then s.setFld Fd.LSW_TEST_RES_CODE Code.refused
  else
    let s := ((s.setFlag Fd.LSW_TEST_RES_PENDING true).setFld Fd.LSW_TEST_RES_UNIT n).setFld Fd.LSW_TEST_RES_TEST test
    (s.setFlag Fd.LSW_TEST_RES_PASS false).setLsw { s.lsw with req := some (test, n) }

/-- PULSE_TEST (R444): TEST 1 of a channel is written to LSW_TEST_CMD. -/
def execPulseTest (n : Fin 24) (s : State) : Out := .next (lswTestCmd s 1 n)

/-- FREEWHEEL_TEST (R444): TEST 2 of a channel is written. -/
def execFreewheelTest (n : Fin 24) (s : State) : Out := .next (lswTestCmd s 2 n)

/-- The idle point of a channel (R445). -/
def lswIdle (s : State) (n : Nat) : Bool :=
  let x := s.lch n
  (x.cmd == 0 && !x.on && s.since x.offAt (100 * cycMs) && decide (2000 < x.zeroTicks)) || !lswBusy s n || s.mode == Mode.service || s.mode == Mode.road

/-- The test command that waits is accepted, deferred or refused by R445's table. -/
def lswAccept (s : State) : State := match s.lsw.req with
  | some (test, n) =>
    let c := lswTestCode s.mode (lswBusy s n)
    let s := (s.setLsw { s.lsw with req := none }).setFld Fd.LSW_TEST_RES_CODE c
    if c = Code.refused then s.setFlag Fd.LSW_TEST_RES_PENDING false
    else s.setLsw { s.lsw with test := some { test := test, unit := n, deferred := c == Code.deferred } }
  | none => s

/-- An accepted test starts, a deferred one at its idle point; the channel goes on, under INRUSH and HARD (R444, R445). -/
def lswTestStart (s : State) : State := match s.lsw.test with
  | some t =>
    if !t.running && (!t.deferred || lswIdle s t.unit) then
      let s := s.setLsw { s.lsw with test := some { t with running := true, at_ := s.cyc } }
      let s := ((s.setFlag Fd.LSW_TEST_RES_PENDING false).setFlag Fd.LSW_TEST_RES_RUNNING true).setFld Fd.LSW_TEST_RES_CODE Code.ok
      let s := lswOff s t.unit
      let x := s.lch t.unit
      lswShow (if x.hot then s else s.setLch t.unit { x with on := true, winAt := some s.cyc, winPause := 0 }) t.unit
    else s
  | none => s

/-- LSW_TEST_START (R445). A tick boundary does the same on its own. -/
def execLswTestStart (s : State) : Out := .next (lswTestStart s)

/-- The channel of a running test goes off again 300 µs or 2 ms after its start (R444). -/
def lswTestOff (s : State) : State := match s.lsw.test with
  | some t => if t.running && s.since t.at_ ((if t.test = 1 then 300 else 2000) * cycUs) then lswShow (lswOff s t.unit) t.unit else s
  | none => s

/-- LSW_TEST_END (R444, R445): the running test's 1 ms or 5 ms are over. PULSE passes when the current exceeded OL_ON; FREEWHEEL when
the clamp did not conduct. The owner's command applies again from the next tick. -/
def execLswTestEnd (m : LswTestMeas) (s : State) : Out := match s.lsw.test with
  | some t =>
    if t.running && s.since t.at_ ((if t.test = 1 then 1 else 5) * cycMs) then
      let pass := if t.test = 1 then decide (s.fld (Fd.LSW_CH_THR_OL_ON t.unit) < m.cur.toNat) else !m.clamped
      let s := lswOff (s.setLsw { s.lsw with test := none }) t.unit
      let s := ((s.setFlag Fd.LSW_TEST_RES_RUNNING false).setFlag Fd.LSW_TEST_RES_PASS pass).raise (Ra.LSW_INT_PEND 2) 1
      .next (lswShow s t.unit)
    else .next s
  | none => .next s

/-- A test that has not started is CANCELLED. -/
def lswTestCancel (s : State) : State :=
  ((s.setLsw { s.lsw with req := none, test := none }).setFlag Fd.LSW_TEST_RES_PENDING false).setFld Fd.LSW_TEST_RES_CODE Code.cancelled

/-- A test that waits ends where the mode no longer allows it. -/
def lswTestDrop (s : State) : State := match s.lsw.test with
  | some t => if !t.running && !(decide (0x3 ≤ s.mode) && decide (s.mode ≤ 0x8)) then lswTestCancel s else s
  | none => s

/-- The load switches at a tick boundary. -/
def lswTick (s : State) : State :=
  let s := keepExpire (lswSums s)
  let s := s.forN 24 (fun s n => lswShow (lswSettle (lswAgain (lswWindow (lswZero (lswTake s n) n) n) n) n) n)
  lswTestStart (lswTestDrop (lswAccept (lswTestOff s)))

/-- A write of LSW_CH[n]_CFG: clearing EN cancels a test of the channel that has not started, and holds the channel off. -/
def lswCfgWrite (s : State) (n : Nat) (v : Word) : State :=
  let s := plainWrite s (Ra.LSW_CH_CFG n) v
  let mine := s.lsw.req.any (fun r => r.2 == n) || s.lsw.test.any (fun t => t.unit == n && !t.running)
  let s := if mine && !s.flag (Fd.LSW_CH_CFG_EN n) then lswTestCancel s else s
  lswShow (if lswWant s n || lswTesting s n then s else lswOff s n) n

end Sys2Proof.Machine
end

