-- ==== Sys2Proof/Machine/Steer.lean ====
section
/-! DEFINITION. Steering on the Mirror pair (R254–R264, R469): path segments, the outer and inner laws, engagement, the twelve checks, the
contribution to the speed limit and the steering test. -/

namespace Sys2Proof.Machine

/-! ### Calibration (R263) -/

/-- The shipped set, word by word from offset 0x00. -/
def steerShipped : List Word :=
  [0, 1, 0x40733333, 0x3F19999A, 0x3F666666, 0x3F000000, 0x3E800000, 0x42200000, 0x41F00000, 0x42700000, 0x3D4CCCCD, 0x44E10000, 0x43AF0000,
   0x40A00000, 0x3FC00000, 0x3DCCCCCD, 0x3F000000, 0x41A00000, 0x40400000, 300, 0x40800000, 0x3DCCCCCD]

/-- A word of the set in force, by offset / 4. -/
def stCal (s : State) (k : Nat) : Word := (if s.steer.cal.isEmpty then steerShipped else s.steer.cal).getD k 0

abbrev cGeom : Nat := 1
abbrev cL : Nat := 2
abbrev cWn : Nat := 3
abbrev cZeta : Nat := 4
abbrev cVmin : Nat := 5
abbrev cKmax : Nat := 6
abbrev cDmax : Nat := 7
abbrev cDrate : Nat := 8
abbrev cKp : Nat := 9
abbrev cKidt : Nat := 10
abbrev cImax : Nat := 11
abbrev cIdead : Nat := 12
abbrev cUdb : Nat := 13
abbrev cAlat : Nat := 14
abbrev cPoseUnc : Nat := 15
abbrev cXte : Nat := 16
abbrev cVmax : Nat := 17
abbrev cTrack : Nat := 18
abbrev cTconf : Nat := 19
abbrev cOvr : Nat := 20
abbrev cTpre : Nat := 21

/-! ### Path segments (R255) -/

/-- TYPE and FLAGS of a segment message. -/
def segType (m : Seg) : Nat := bits (m.getD 1 0).toNat 0 16
def segFlags (m : Seg) : Nat := bits (m.getD 1 0).toNat 16 16
def segOrig (m : Seg) : List Word := (m.drop 8).take 3

/-- Not NaN and of magnitude at most `x`. -/
def fWithin (w x : Word) : Bool := fle (fabs w) x

/-- Every field of a segment is in its range and the reserved words are 0. -/
def segOk (m : Seg) : Bool :=
  (segType m == 0 || segType m == 1) && decide (segFlags m ≤ 1) && (m.drop 11).all (· == 0) &&
    fWithin (m.getD 2 0) 0x45FA0000 && fWithin (m.getD 3 0) 0x45FA0000 && !fIsNaN (m.getD 4 0) && flt 0 (m.getD 5 0) && !fIsNaN (m.getD 6 0) &&
    (segType m == 1 || feq (m.getD 6 0) 0) && !fIsNaN (m.getD 7 0) && decide ((m.getD 8 0).toInt.natAbs ≤ 900000000) &&
    decide ((m.getD 9 0).toInt.natAbs ≤ 1800000000)

/-- The start of `m` is within 0.05 m and 1 deg of the end of `p`. -/
def segJoins (p m : Seg) : Bool :=
  let de := fSub (m.getD 2 0) (Config.segEnd p 0)
  let dn := fSub (m.getD 3 0) (Config.segEnd p 1)
  fle (fAdd (fMul de de) (fMul dn dn)) 0x3B23D70A && fWithin (fSub (m.getD 4 0) (Config.segEnd p 2)) fOne

/-- Accept or refuse a path segment message: the state after and the acknowledge code. -/
def pathMsg (s : State) (m : Seg) : State × Nat :=
  let show' := fun (s : State) => s.setFld Fd.SAF_STEER_STAT_SEGS s.steer.segs.length
  let seq := (m.headD 0).toNat
  if segType m = 0xFFFF ∧ (m.drop 11).all (· == 0) = true then
    (show' (s.setSteer { s.steer with segs := [], lastSeq := some seq }), Code.ok)
  else
    let next := match s.steer.lastSeq with
      | some q => seq == (q + 1) % 2 ^ 32
      | none => true
    let held := match s.steer.segs.getLast? with
      | some p => segOrig p == segOrig m && segJoins p m
      | none => true
    if !segOk m || !next || !held then (s, Code.badArgument)
    else if 64 ≤ s.steer.segs.length then (s, Code.refused)
    else (show' (s.setSteer { s.steer with segs := s.steer.segs ++ [m], lastSeq := some seq }), Code.ok)

/-- PATH_SEGMENT (R255): a message posted to an endpoint whose receiver is the Mirror pair is taken and acknowledged; live messages do not
enter a replay (R514). -/
def execPathSegment (e : Fin 64) (s : State) : Out :=
  if s.fld (Fd.MBX_EP_STAT_STATE e) = epFull ∧ s.flag (Fd.MBX_EP_CFG_RXL e) = false ∧ s.fld (Fd.MBX_EP_CFG_RX e) = 0x0C then
    let m := (List.range 16).map (fun k => s.reg (Ra.MBX_PAYLOAD e k))
    if s.rpl.live.isSome then .next (mbxAck s e Code.refused)
    else
      let x := pathMsg s m
      .next (mbxAck (tabCmd x.1 (Ra.MBX_PAYLOAD e 0) (m.map (·.toNat))) e x.2)
  else .next s

/-! ### The outer law (R256, R258) -/

/-! Keys under which the two loops publish to each other: dref, e_y, e_ψ, an active segment, largest |κ|, VMAX, metres to the end, LAST. -/
def stDref : Nat := pubKey 9 2
def stEy : Nat := pubKey 9 3
def stEpsi : Nat := pubKey 9 4
def stActive : Nat := pubKey 9 5
def stKappa : Nat := pubKey 9 6
def stVmax : Nat := pubKey 9 7
def stToEnd : Nat := pubKey 9 8
def stLast : Nat := pubKey 9 9

/-- The pose of the controlled point (fusion point 0) with speed, yaw rate, heading and T_PRE. -/
def stPose (s : State) : List Word :=
  ((List.range 6).map (fun q => (s.pubAt (fusKey 1 q)).val)) ++
    [(s.pubAt (fusKey 0 0)).val, (s.pubAt (fusKey 0 2)).val, (s.pubAt (fusKey 0 3)).val, stCal s cTpre]

/-- The pose is valid and at most 40 ticks old. -/
def poseOk (s : State) : Bool :=
  let v := s.pubAt (fusKey 1 0)
  v.valid && decide (s.ageOf v ≤ 40)

/-- The commanded curvature. -/
def stCurvature (s : State) (k ey epsi : Word) : Word :=
  let v := fMax (fabs (s.pubAt (fusKey 0 0)).val) (stCal s cVmin)
  let wn := stCal s cWn
  let a := fMul (fDiv (fMul wn wn) (fMul v v)) ey
  let b := fMul (fDiv (fMul (fMul 0x40000000 (stCal s cZeta)) wn) v) (Config.sinDeg epsi)
  fClamp (fSub (fSub k a) b) (fneg (stCal s cKmax)) (stCal s cKmax)

/-- dref of a curvature by GEOM, limited to ±DELTA_MAX. -/
def stAngle (s : State) (kc : Word) : Word :=
  let lk := fMul (stCal s cL) kc
  let d := match (stCal s cGeom).toNat with
    | 0 => Config.atanDeg lk
    | 1 => fneg (Config.atanDeg lk)
    | _ => fMul 0x40000000 (Config.atanDeg (fDiv lk 0x40000000))
  fClamp d (fneg (stCal s cDmax)) (stCal s cDmax)

/-- Move the prior dref toward `d` by at most DELTA_RATE × 5 ms. -/
def stMove (s : State) (d : Word) : Word :=
  let r := fMul (stCal s cDrate) 0x3BA3D70A
  fClamp d (fSub s.steer.dref r) (fAdd s.steer.dref r)

/-- An outer sample at its boundary: results are published at t + 100; segments the point has passed are freed. dref is held without a
usable pose, while check 2 holds speed limit 0 until the machine stands (R260), without an active segment and in reverse travel. -/
def steerOuter (s : State) : State :=
  let p := stPose s
  let pt := Config.pathPoint p s.steer.segs
  let s := if poseOk s then s.setSteer { s.steer with segs := s.steer.segs.drop (pt 0).toNat } else s
  let s := s.setFld Fd.SAF_STEER_STAT_SEGS s.steer.segs.length
  let active := !s.steer.segs.isEmpty && pt 6 != 0
  let fwd := !flt (s.pubAt (fusKey 0 0)).val 0
  let lost := smGet false s.steer.held 2 && !s.flag Fd.SAF_LOCK_STATIONARY
  let dref := if active && poseOk s && fwd && !lost then stMove s (stAngle s (stCurvature s (pt 3) (pt 1) (pt 2))) else s.steer.dref
  let s := s.setSteer { s.steer with dref := dref }
  let t := s.clk.tick + 100
  let seg := s.steer.segs.headD []
  let w := fun (b : Bool) => BitVec.ofNat 32 (b2n b)
  let s := ((s.stageAt t stDref dref).stageAt t stEy (pt 1)).stageAt t stEpsi (pt 2)
  let s := ((s.stageAt t stActive (w active)).stageAt t stKappa (pt 4)).stageAt t stVmax (seg.getD 7 0)
  (s.stageAt t stToEnd (pt 5)).stageAt t stLast (w (s.steer.segs.any (fun m => bit (segFlags m) 0)))

/-! ### Engagement (R259) -/

/-- What the safety loop hands to steering in one sample: θ, whether each sensor pair contradicts, torque and seat switch. -/
structure SteerIn where
  theta  : Word
  conWa  : Bool
  conSp  : Bool
  torque : Word
  seat   : Bool

/-- VB0 reports a fault on VLV00 or VLV01. -/
def vb0Fault (s : State) : Bool :=
  s.fld (Fd.VLV_BANK_STAT_FAULT 0) != 0 || s.fld (Fd.VLV_CH_STAT_FAULT 0) != 0 || s.fld (Fd.VLV_CH_STAT_FAULT 1) != 0

/-- Ground speed, km/h. -/
def stSpeed (s : State) : Word := (s.pubAt (fusKey 0 1)).val

/-- An override is active: the hand-wheel torque exceeds OVR_LIM. -/
def stOverride (s : State) (x : SteerIn) : Bool := flt (stCal s cOvr) (fabs x.torque)

/-- Every condition of R259 but the mode. -/
def steerReady (s : State) (x : SteerIn) : Bool :=
  let v := stSpeed s
  (s.pubAt stActive).val != 0 && poseOk s && fle (s.pubAt (fusKey 1 7)).val (stCal s cPoseUnc) && !x.conWa && !x.conSp &&
    fle 0x3F000000 v && fle v (stCal s cVmax) && fWithin (s.pubAt stEy).val fOne && fWithin (s.pubAt stEpsi).val 0x41F00000 &&
    x.seat && !stOverride s x && !vb0Fault s

/-- FIELD_MANUAL or FIELD_ASSIST. -/
def manualField (m : Nat) : Bool := m == Mode.fieldManual || m == Mode.fieldAssist

/-- Disengagement decided in the sample at t (R261): the integrator is held at 0; ENGAGED, REASON and the event follow at t + 20. -/
def steerOff (s : State) (reason : Nat) : State :=
  let s := s.setSteer { s.steer with engaged := false, acc := 0, conf := [], rel := [], held := [], disAt := some (s.clk.tick + 20, reason) }
  (s.stageAt (s.clk.tick + 20) (steerKey 0) 0).stageAt (s.clk.tick + 20) (steerKey 1) 0

/-- Engage. -/
def steerOn (s : State) : State :=
  (s.setSteer { s.steer with engaged := true, acc := 0, conf := [], rel := [], held := [], disAt := none }).setFlag Fd.SAF_STEER_STAT_ENGAGED true |>.count (Fd.SAF_STEER_AUX_V 1)

/-- The mode commits into FIELD_AUTO or UNLOAD_SYNC: the law is engaged, and its contribution is 0 until every condition holds. -/
def steerModeEnter (s : State) : State :=
  let s := if s.steer.engaged then s else steerOn s
  s.setSteer { s.steer with held := smPut false s.steer.held 0 (!s.flag Fd.SAF_STEER_STAT_READY) }

/-- The request waiting is taken at the inner sample's boundary. -/
def steerRequest (s : State) (x : SteerIn) : State :=
  let res := fun (s : State) (c : Nat) => s.setFld Fd.SAF_STEER_STAT_RESULT c
  match s.steer.req with
  | some c =>
    let s := s.setSteer { s.steer with req := none }
    if c = 1 then
      if s.steer.engaged then res s Code.ok
      else if manualField s.bndMode && steerReady s x then res (steerOn s) Code.ok
      else res s Code.refused
    else if driverless s.bndMode then res s Code.refused
    else if s.steer.engaged then res (steerOff s 13) Code.ok
    else res s Code.ok
  | none => s

/-- A write of SAF_STEER_REQ (R259): ignored without its key; CMD 0 and 3 return BAD_ARGUMENT. -/
def steerReq (s : State) (v : Word) : State :=
  let c := bits v.toNat 0 2
  if bits v.toNat 16 16 ≠ 0x57E3 then s
  else if c = 0 ∨ c = 3 then s.setFld Fd.SAF_STEER_STAT_RESULT Code.badArgument
  else if s.rpl.live.isSome then s.setFld Fd.SAF_STEER_STAT_RESULT Code.refused
  else tabCmd (s.setSteer { s.steer with req := some c }) Ra.SAF_STEER_REQ [v.toNat]

/-- STEER_ENGAGE (R259): SAF_STEER_REQ is written with CMD 1. -/
def execSteerEngage (s : State) : Out := .next (steerReq s 0x57E30001#32)

/-- STEER_DISENGAGE_REQ (R259): SAF_STEER_REQ is written with CMD 2. -/
def execSteerDisengageReq (s : State) : Out := .next (steerReq s 0x57E30002#32)

/-! ### Checks (R260) -/

/-- The condition of check `k`. -/
def steerCheck (s : State) (x : SteerIn) (k : Nat) : Bool :=
  let v := stSpeed s
  let drv := driverless s.bndMode
  match k with
  | 1 => x.conWa || x.conSp
  | 2 => !poseOk s
  | 3 => poseOk s && flt (stCal s cPoseUnc) (s.pubAt (fusKey 1 7)).val
  | 4 => !fle (fabs (fSub (s.pubAt stDref).val x.theta)) (stCal s cTrack)
  | 5 => flt (stCal s cXte) (fabs (s.pubAt stEy).val)
  | 6 => stOverride s x
  | 7 => !drv && flt (stCal s cVmax) v
  | 8 => flt v 0xBF000000
  | 9 => !drv && !x.seat
  | 10 => (s.pubAt stActive).val == 0
  | 11 => vb0Fault s
  | _ => !isField s.bndMode

/-- The confirmation time of check `k` in inner samples of 1 ms; check 1 is confirmed by its pair. -/
def steerConf (s : State) (k : Nat) : Nat := match k with
  | 2 => 100
  | 3 => 2000
  | 4 => (stCal s cTconf).toNat
  | 5 => 1000
  | 6 => 100
  | 7 => 1000
  | 8 => 500
  | 9 => 5000
  | _ => 0

/-- Count one check: samples in which it has held, and, while it holds speed limit 0, samples in which it has been absent. -/
def steerCount (s : State) (x : SteerIn) (k : Nat) : State :=
  if steerCheck s x k then
    s.setSteer { s.steer with conf := smUpd 0 s.steer.conf k (· + 1), rel := smPut 0 s.steer.rel k 0 }
  else
    let n := smGet 0 s.steer.rel k + 1
    let held := if steerConf s k ≤ n then smPut false s.steer.held k false else s.steer.held
    s.setSteer { s.steer with conf := smPut 0 s.steer.conf k 0, rel := smPut 0 s.steer.rel k n, held := held }

/-- Check `k` holds continuously for its confirmation time. -/
def steerDue (s : State) (k : Nat) : Bool :=
  let n := smGet 0 s.steer.conf k
  decide (0 < n ∧ steerConf s k ≤ n)

/-- The lowest check that acts. -/
def steerFirst (s : State) : Option Nat := ((List.range 12).map (· + 1)).find? (steerDue s)

/-- The checks act: disengage, or in the driverless modes hold speed limit 0 (check 1 is a lock-out there, R207). -/
def steerAct (s : State) : State :=
  if s.steer.engaged then
    match steerFirst s with
    | some k =>
      if !driverless s.bndMode || k == 12 then steerOff s k
      else ((List.range 12).map (· + 1)).foldl (fun s j =>
        if steerDue s j && j != 1 then s.setSteer { s.steer with held := smPut false s.steer.held j true } else s) s
    | none => s
  else s

/-- STEER_CHECK_ACT (R260): a check has held for its confirmation time. -/
def execSteerCheckAct (s : State) : Out := .next (steerAct s)

/-! ### The inner law (R257) -/

/-- A current for a valve, mA. -/
def stCurrent (w : Word) : Word := (fcvtws w).val

/-- The law's output u, with the integrator. -/
def steerU (s : State) (x : SteerIn) : Word × State :=
  let e := fSub (s.pubAt stDref).val x.theta
  let lim := fSub (stCal s cImax) (stCal s cIdead)
  let r := integ s.steer.acc (stCal s cKidt) (fneg lim) lim (fneg lim) lim true true e (fMul (stCal s cKp) e)
  (r.out, s.setSteer { s.steer with acc := r.acc })

/-- Currents of VLV00 and VLV01 for u: never both. -/
def steerSplit (s : State) (u : Word) : Word × Word :=
  if flt (stCal s cUdb) u then (stCurrent (fAdd (stCal s cIdead) u), 0)
  else if flt u (fneg (stCal s cUdb)) then (0, stCurrent (fSub (stCal s cIdead) u))
  else (0, 0)

/-- A test pulse ends after 2 s (R264, R469). -/
def testExpire (s : State) : State := match s.steer.test with
  | some (_, _, t) => if s.since t (2 * cycS) then s.setSteer { s.steer with test := none } else s
  | none => s

/-- An inner sample at its boundary: the request, the checks, and the currents published at t + 20; a running test drives its valve. -/
def steerInner (s : State) (x : SteerIn) : State :=
  let s := testExpire s
  let s := s.setFlag Fd.SAF_STEER_STAT_READY (steerReady s x)
  let s := if smGet false s.steer.held 0 && steerReady s x then s.setSteer { s.steer with held := smPut false s.steer.held 0 false } else s
  let s := steerRequest s x
  let t := s.clk.tick + 20
  if s.steer.engaged then
    let s := steerAct (((List.range 12).map (· + 1)).foldl (fun s k => steerCount s x k) s)
    if s.steer.engaged then
      let r := steerU s x
      let c := steerSplit r.2 r.1
      (r.2.stageAt t (steerKey 0) c.1).stageAt t (steerKey 1) c.2
    else s
  else
    let s := s.setSteer { s.steer with acc := 0 }
    let cur := fun (n : Nat) => match s.steer.test with
      | some (v, i, _) => if v = n then BitVec.ofNat 32 i else (0 : Word)
      | none => 0
    (s.stageAt t (steerKey 0) (cur 0)).stageAt t (steerKey 1) (cur 1)

/-- The speed in 0.01 km/h and e_y in mm, as STEER_DISENGAGE records them. -/
def disWord (s : State) : Nat := unsint 16 (fRound (s.pubAt stEy).val 1000 1) * 2 ^ 16 + unsint 16 (fRound (stSpeed s) 100 1)

/-- Step 3 of R261: a disengagement decided 20 ticks ago shows. -/
def steerShowOff (s : State) : State := match s.steer.disAt with
  | some (t, r) =>
    if t ≤ s.clk.tick then
      let s := s.setSteer { s.steer with disAt := none }
      let s := (s.setFlag Fd.SAF_STEER_STAT_ENGAGED false).setFld Fd.SAF_STEER_STAT_REASON r |>.count (Fd.SAF_STEER_AUX_V 2)
      logEvent s Ev.steerDisengage Src.mirror r (disWord s)
    else s
  | none => s

/-! ### The speed limit (R262) -/

/-- 3.6 × √(2 × a × d). -/
def fStop (a d : Word) : Word := fMul 0x40666666 (fsqrt (fMul (fMul 0x40000000 a) d)).val

/-- The steering contribution; +inf while steering is not engaged. -/
def steerLimit (s : State) : Word :=
  if !s.steer.engaged then fInf
  else if s.steer.held.any (·.2) then 0
  else if (s.pubAt stActive).val = 0 then fInf
  else
    let k := fabs (s.pubAt stKappa).val
    let a := if feq k 0 then fInf else fMul 0x40666666 (fsqrt (fDiv (stCal s cAlat) k)).val
    let b := (s.pubAt stVmax).val
    let c := if (s.pubAt stLast).val = 0 then fInf
      else fStop (fDiv (s.reg (Ra.MFP_MF_RAMP 0)) 0x40666666) (fMax 0 (s.pubAt stToEnd).val)
    fMin (fMin a b) c

/-! ### The steering test (R469) -/

/-- A write of SAF_STEER_TEST. `still`: the safe speed is stationary. -/
def steerTest (s : State) (v : Word) : State :=
  let valve := bits v.toNat 14 2
  let cur := bits v.toNat 0 12
  let res := fun (s : State) (c : Nat) => s.setFld Fd.SAF_STEER_STAT_RESULT c
  if bits v.toNat 16 16 ≠ 0x7E57 then s
  else if valve = 3 then res s Code.badArgument
  else if valve = 0 then res (s.setSteer { s.steer with test := none }) Code.ok
  else if s.mode = Mode.service ∧ s.flag Fd.SAF_LOCK_STATIONARY = true ∧ s.steer.engaged = false ∧ s.locked = false ∧
      fle (fOfInt cur) (stCal s cImax) = true then
    res (s.setSteer { s.steer with test := some (valve - 1, cur, s.cyc) }) Code.ok
  else res s Code.refused

/-- STEER_TEST (R469): SAF_STEER_TEST is written with its key, a valve and a current. -/
def execSteerTest (valve : Fin 4) (cur : BitVec 12) (s : State) : Out :=
  .next (steerTest s (BitVec.ofNat 32 (0x7E57 * 2 ^ 16 + valve * 2 ^ 14 + cur.toNat)))

/-- STEER_TEST_END (R469): 2 s of a test pulse have passed. -/
def execSteerTestEnd (s : State) : Out := .next (testExpire s)

end Sys2Proof.Machine
end

