-- ==== Sys2Proof/Machine/Island.lean ====
section
/-! DEFINITION. The safety island (R446–R470): safety inputs and functions, outputs and their tests, the sensor pairs, the speed limit,
lock-out and the deliberate reset, and the safety loop's sample, live and as the replayed image. -/

namespace Sys2Proof.Machine

/-! ### Configuration (R448–R454, R468) -/

/-- SAF_IN[i]_CFG of a configuration and its fields; values outside their limits act as the nearest limit. -/
def SafCfg.inWord (c : SafCfg) (i : Nat) : Nat := (c.ins.getD i 0).toNat
def SafCfg.type (c : SafCfg) (i : Nat) : Nat := if bits (c.inWord i) 26 2 = 3 then 0 else bits (c.inWord i) 26 2
def SafCfg.restart (c : SafCfg) (i : Nat) : Bool := bit (c.inWord i) 25
def SafCfg.spd (c : SafCfg) (i : Nat) : Bool := bit (c.inWord i) 24
def SafCfg.mask (c : SafCfg) (i : Nat) : Nat := bits (c.inWord i) 20 4
def SafCfg.disc (c : SafCfg) (i : Nat) : Nat := 20 * clampN 10 1000 (bits (c.inWord i) 8 10)
def SafCfg.filt (c : SafCfg) (i : Nat) : Nat := clampN 20 63 (bits (c.inWord i) 0 6)

/-- The function in force: that of IP3 is ignored while IP2 holds two-hand control (R451). -/
def SafCfg.func (c : SafCfg) (i : Nat) : Nat :=
  if i = 3 ∧ bits (c.inWord 2) 28 4 = 3 then 0 else bits (c.inWord i) 28 4

/-- The pair takes part in a function. -/
def SafCfg.used (c : SafCfg) (i : Nat) : Bool := c.func i != 0 || (i == 3 && c.func 2 == 3)

/-- The configuration is valid (R451). -/
def SafCfg.ok (c : SafCfg) : Bool :=
  c.valid && (List.range 4).all (fun i =>
    let f := c.func i
    decide (f ≤ 4) && (f != 3 || i == 2) && (f != 4 || c.type i == 2))

/-- Show the configuration in force in its registers. -/
def safShowCfg (s : State) : State :=
  let c := s.saf.cfg
  let s := s.forN 4 (fun s i => s.setReg (Ra.SAF_IN_CFG i) (c.ins.getD i 0))
  let s := ((s.setReg Ra.SAF_A_STOP c.aStop).setReg Ra.SAF_D_STOP c.dStop).setReg Ra.SAF_D_PERSON c.dPerson
  (s.setReg Ra.SAF_SPD_CFG (BitVec.ofNat 32 (b2n c.assist))).setReg Ra.SAF_CFG_ID c.id

/-! ### Parts -/

def State.safIn (s : State) (k : Nat) : SiSt := smGet {} s.saf.si k
def State.safPair (s : State) (i : Nat) : PairIn := smGet {} s.saf.ip i
def State.setSafPair (s : State) (i : Nat) (x : PairIn) : State := s.setSaf { s.saf with ip := smPut {} s.saf.ip i x }
def State.safOut (s : State) (k : Nat) : SoSt := smGet {} s.saf.so k
def State.setSafOut (s : State) (k : Nat) (x : SoSt) : State := s.setSaf { s.saf with so := smPut {} s.saf.so k x }
def State.sensPair (s : State) (p : Nat) : SafPair := smGet {} s.saf.pair p
def State.setSensPair (s : State) (p : Nat) (x : SafPair) : State := s.setSaf { s.saf with pair := smPut {} s.saf.pair p x }

/-- The safety loop runs: its self-test is over. -/
def safRuns (s : State) : Bool := s.fld Fd.SAF_STAT_STATE != 0

/-- A lock-out of this loop: the live one's latch, or the image's own decision (R470). -/
def safLocked (s : State) (live : Bool) : Bool := if live then s.locked else s.saf.imgLock

/-- Decide a lock-out; the replayed image writes neither latch nor records. -/
def safLock (s : State) (live : Bool) (cause detail : Nat) : State :=
  if live then lockOut s cause detail else s.setSaf { s.saf with imgLock := true }

/-- The mode the loop follows. -/
def safMode (s : State) (live : Bool) : Nat := if live then s.outMode else s.bndMode

/-! ### Inputs (R448–R450) -/

/-- One input's latch at a tick boundary: the filtered state follows after FILT equal latches; it starts at the first level latched. -/
def siLatch (s : State) (k : Nat) (lvl : Bool) : State :=
  let x := s.safIn k
  let n := if lvl = x.lvl then x.run + 1 else 1
  let f := if x.run = 0 ∨ s.saf.cfg.filt (k / 2) ≤ n then lvl else x.filt
  s.setSaf { s.saf with si := smPut {} s.saf.si k { x with lvl := lvl, run := min n 64, filt := f } }

/-- The key under which filtered inputs (bits 7:0) and overloaded test-pulse sources (bits 9:8) enter the replay boundary. -/
def safInKey : Nat := pubKey 4 0x100

/-- The filtered inputs and overloaded sources as one word. -/
def safInWord (s : State) : Nat :=
  (List.range 8).foldl (fun a k => a + b2n (s.safIn k).filt * 2 ^ k) 0 + s.fld Fd.SAF_STAT_TP % 4 * 256

/-- The keys of a test-pulse readback (bits 7:0 the inputs, bit 8 the source) and of a press of SAFE_RST_BTN (bits 27:0 its ms, [31] the element test passes,
[29:28] the output that fails it) in LATCH records (R504; the numbering is the model's own). -/
def safTpKey : Nat := pubKey 4 0x101
def safBtnKey : Nat := pubKey 4 0x102

/-- A readback or a press that the Mirror pair takes is an input of the replay boundary (R8, R504); the live loop's own inputs during a replay are not. -/
def safLatchRec (s : State) (key v : Nat) : State := if s.rpl.live.isSome then s else tabRec s TabT.latch key [v, 1, 0, s.clk.tick]

/-- The safety inputs at a tick boundary. -/
def safLatch (s : State) (si : Nat) : State := s.forN 8 (fun s k => siLatch s k (bit si k))

/-- Channel `k` (0 A, 1 B) of pair `i` is in its tripped state; a contact input whose source is overloaded reads as tripped. -/
def chanTripped (c : SafCfg) (w i k : Nat) : Bool :=
  let hi := bit w (2 * i + k)
  if c.type i ≠ 2 ∧ bit w (8 + k) = true then true
  else if c.type i = 1 ∧ k = 1 then hi else !hi

/-- TEST_PULSE (R450): source `tp` pulses; bit k of `low`: input k reads low within 200 µs. A contact input of the source must read low while its
contact is closed, and an input of the other source must not. Every fault is a lock-out with the pair as DETAIL. -/
def testPulse (s : State) (live : Bool) (tp low : Nat) : State := s.forN 8 (fun s k =>
  let i := k / 2
  let x := s.safIn k
  let put := fun (s : State) (x : SiSt) => s.setSaf { s.saf with si := smPut {} s.saf.si k x }
  if !s.saf.cfg.used i || s.saf.cfg.type i == 2 || !x.filt then s
  else if k % 2 = tp then
    if bit low k then put s { x with miss := 0, fault := false }
    else if 3 ≤ x.miss + 1 ∧ x.fault = false then safLock (put s { x with miss := x.miss + 1, fault := true }) live 3 i
    else put s { x with miss := x.miss + 1 }
  else if bit low k && !x.fault then safLock (put s { x with fault := true }) live 3 i
  else s)

/-- TEST_PULSE (R450). -/
def execTestPulse (tp : Fin 2) (low : BitVec 8) (s : State) : Out :=
  if bit (s.fld Fd.SAF_STAT_TP) tp || !safRuns s then .next s else .next (testPulse (safLatchRec s safTpKey (tp * 256 + low.toNat)) true tp low.toNat)

/-- TP_OVERLOAD (R450): the source draws more than 250 mA for 10 ms; it switches off, and its inputs read as tripped. -/
def execTpOverload (tp : Fin 2) (s : State) : Out :=
  .next (s.setFld Fd.SAF_STAT_TP (setBits (s.fld Fd.SAF_STAT_TP) tp 1 1))

/-! ### Functions (R451–R454) -/

/-- The discrepancy timer of pair `i` has run out (R452). -/
def discDue (s : State) (i : Nat) : Bool := match (s.safPair i).diff with
  | some t => s.saf.cfg.used i && !(s.safPair i).disc && decide (t + s.saf.cfg.disc i ≤ s.saf.t)
  | none => false

/-- The pair has a discrepancy fault: a lock-out (R452). -/
def discFault (s : State) (live : Bool) (i : Nat) : State :=
  if discDue s i then safLock (s.setSafPair i { s.safPair i with disc := true, cycled := false, trip := true }) live 2 i else s

/-- DISCREPANCY_TIMEOUT (R452): the two channels of a pair still differ after DISC ms. -/
def execDiscrepancyTimeout (i : Fin 4) (s : State) : Out := .next (discFault s true i)

/-- A pair after a sample with channels `a` and `b` tripped or not (R452): it trips on the first, and is clear again when both are clear;
after a discrepancy fault only once both have been tripped together. -/
def pairNext (x : PairIn) (t : Nat) (a b : Bool) : PairIn :=
  let d := if a != b then some (x.diff.getD t) else none
  if a && b then { x with trip := true, cycled := x.disc, diff := d }
  else if a || b then { x with trip := true, diff := d }
  else if x.disc && !x.cycled then { x with trip := true, diff := d }
  else { x with trip := false, disc := false, cycled := false, diff := d }

/-- A sample's evaluation of pair `i`: an emergency stop that trips is a lock-out, another function waits for a reset press unless RESTART is
automatic (R451, R454). -/
def safPairStep (s : State) (live : Bool) (w i : Nat) : State :=
  let c := s.saf.cfg
  if !c.used i then s
  else
    let x := s.safPair i
    let y := pairNext x s.saf.t (chanTripped c w i 0) (chanTripped c w i 1)
    let f := c.func i
    let y := if y.trip && (f == 2 || f == 4) && !c.restart i then { y with wait := true } else y
    let s := s.setSafPair i y
    let s := if live && y.trip && !x.trip then s.count (Fd.SAF_IN_AUX_V i) else s
    if f = 1 ∧ y.trip = true ∧ x.trip = false then safLock s live 1 i else s

/-- 500 ms in ticks. -/
abbrev handTicks : Nat := 10000

/-- Two-hand control (R453): pressed means both channels of a button tripped, released both clear. -/
def twoHand (s : State) (w : Nat) : State :=
  let c := s.saf.cfg
  if c.func 2 ≠ 3 then s
  else
    let t := s.saf.t
    let down := fun (i : Nat) => chanTripped c w i 0 && chanTripped c w i 1
    let up := fun (i : Nat) => !chanTripped c w i 0 && !chanTripped c w i 1
    let x := s.saf.two
    let l := if down 2 then some (x.left.getD t) else none
    let r := if down 3 then some (x.right.getD t) else none
    let freed := x.freed || (up 2 && up 3)
    let y : TwoHand := match l, r with
      | some a, some b =>
        if x.en then { left := l, right := r, freed := false, en := true }
        else if freed && decide (max a b - min a b ≤ handTicks) then { left := l, right := r, freed := false, en := true }
        else { left := l, right := r, freed := false, en := false }
      | some a, none => { left := l, right := r, freed := freed && decide (t ≤ a + handTicks), en := false }
      | none, some b => { left := l, right := r, freed := freed && decide (t ≤ b + handTicks), en := false }
      | none, none => { left := l, right := r, freed := freed, en := false }
    s.setSaf { s.saf with two := y }

/-! ### Outputs (R456, R457) -/

/-- The functions allow output `k`. -/
def safFnAllows (s : State) (k : Nat) : Bool := (List.range 4).all (fun i =>
  let c := s.saf.cfg
  let x := s.safPair i
  match c.func i with
  | 1 => !x.trip
  | 2 => !bit (c.mask i) k || (!x.trip && !x.wait)
  | 3 => !bit (c.mask i) k || s.saf.two.en
  | 4 => !bit (c.mask i) k || (!x.trip && !x.wait)
  | _ => true)

/-- Output `k` is to be on (R456). -/
def safWantsOut (s : State) (live : Bool) (k : Nat) : Bool :=
  safRuns s && soAllowed (safMode s live) && s.noPf && !safLocked s live && !(s.safOut k).fault && s.saf.cfg.ok && safFnAllows s k

/-- Show the outputs. -/
def safShowOuts (s : State) : State :=
  let m := fun (p : SoSt → Bool) => (List.range 4).foldl (fun a k => a + b2n (p (s.safOut k)) * 2 ^ k) 0
  (s.setFld Fd.SAF_STAT_SO (m (fun x => x.on))).setFld Fd.SAF_STAT_SO_FAULT (m (fun x => x.fault))

/-- Switch every output off now. -/
def safOutsOff (s : State) : State :=
  safShowOuts ((s.forN 4 (fun s k => s.setSafOut k { s.safOut k with on := false })).setSaf
    { (s.forN 4 (fun s k => s.setSafOut k { s.safOut k with on := false })).saf with soWant := 0 })

/-- Outputs decided by the last sample are driven, as far as the mode allows now. -/
def safDrive (s : State) (live : Bool) : State := s.forN 4 (fun s k =>
  let ok := soAllowed (safMode s live) && s.noPf && !(live && decide (safMode s live = Mode.safeStop))
  s.setSafOut k { s.safOut k with on := bit s.saf.soWant k && ok && !(s.safOut k).fault })

/-- An output fault: a lock-out with the output as DETAIL. -/
def outFault (s : State) (k : Nat) : State :=
  lockOut (safShowOuts (s.setSafOut k { s.safOut k with on := false, fault := true })) 4 k

/-- BAT_A feeds the outputs: not reversed, not below 6 V (R558). -/
def soPowered (s : State) : Bool := !s.lsw.rev && !s.pm.batALow

/-- SO_ELEMENT_TEST (R457): an element of an on output has pulsed off and its pin has been checked, twice in a row failing; or the pin of an
off output has read above 5 V for 20 ms. Not counted while BAT_A does not feed the outputs. -/
def execSoElementTest (k : Fin 4) (elem : Fin 2) (pass : Bool) (s : State) : Out :=
  let x := s.safOut k
  if !soPowered s || x.fault then .next s
  else if x.on then
    if pass then .next (s.setSafOut k { x with fail := 0 })
    else if 2 ≤ x.fail + 1 then .next (outFault s k)
    else .next (s.setSafOut k { x with fail := x.fail + 1 })
  else if pass ∨ elem = 1 then .next s
  else .next (outFault s k)

/-- SO_OVERCURRENT (R457): an on output above 2.6 A for 100 µs. -/
def execSoOvercurrent (k : Fin 4) (s : State) : Out :=
  if (s.safOut k).on then .next (outFault s k) else .next s

/-! ### Sensor pairs (R458, R459) -/

/-- The crop-sensing units of the configuration in force: members of a pair, hand-wheel torque, seat switch. -/
def sensUnits (s : State) (p : Nat) : Nat × Nat := (s.saf.cfg.chans.getD (2 * p) 32, s.saf.cfg.chans.getD (2 * p + 1) 40)
def torqueKey (s : State) : Nat := snKey (s.saf.cfg.chans.getD 4 51) 0
def seatKey (s : State) : Nat := snKey (s.saf.cfg.chans.getD 5 45) 0

/-- Confirmation in safety samples of 1 ms. -/
def sensConf (s : State) (p : Nat) : Nat := if p = 0 then s.saf.cfg.waConf else s.saf.cfg.spConf

/-- The pair's limit for two values. -/
def sensLimit (s : State) (p : Nat) (a b : Word) : Word :=
  if p = 0 then s.saf.cfg.waLim else fMax fOne (fMul 0x3DCCCCCD (fMax (fabs a) (fabs b)))

/-- The pair's value: the mean, or the larger magnitude. -/
def sensValue (p : Nat) (a b : Word) : Word :=
  if p = 0 then fMul 0x3F000000 (fAdd a b) else if flt (fabs a) (fabs b) then b else a

/-- One sample of a pair. -/
def sensStep (s : State) (p : Nat) (pub : Nat → PubV) : State :=
  let a := pub (snKey (sensUnits s p).1 0)
  let b := pub (snKey (sensUnits s p).2 0)
  let x := s.sensPair p
  let agree := a.valid && b.valid && fle (fabs (fSub a.val b.val)) (sensLimit s p a.val b.val)
  let x := if agree then { x with bad := 0, good := x.good + 1 } else { x with bad := x.bad + 1, good := 0 }
  let con := x.con && !(agree && decide (sensConf s p ≤ x.good))
  let v := if con then x.val else if a.valid && b.valid then sensValue p a.val b.val else x.val
  let v := if con || agree || (a.valid && b.valid) then v else x.val
  s.setSensPair p { x with con := con, val := v, ok := !con && (x.ok || agree) }

/-- The pair contradicts once the condition has held for its confirmation time; a contradiction in a driverless mode, also one that the mode was
entered with, is a lock-out (R207). -/
def sensContra (s : State) (live : Bool) (p : Nat) : State :=
  let x := s.sensPair p
  if x.con || (decide (0 < x.bad) && decide (sensConf s p ≤ x.bad)) then
    let s := if x.con then s else s.setSensPair p { x with con := true, ok := false }
    if driverless (safMode s live) && !(x.con && safLocked s live) then safLock s live 5 p else s
  else s

/-- SENSOR_PAIR_CONTRADICTION (R459): pair 0 wheel angle, 1 speed. -/
def execSensorPairContradiction (p : Fin 2) (s : State) : Out := .next (sensContra s true p)

/-- Safe speed at most 0.5 km/h, with the pair agreeing, since when. -/
def safStill (s : State) : State :=
  let x := s.sensPair 1
  let slow := !x.con && x.ok && fle (fabs x.val) 0x3F000000
  s.setSaf { s.saf with stat := if slow then some (s.saf.stat.getD s.saf.t) else none }

/-- Stationary: for 2 s. -/
def safStationary (s : State) : Bool := match s.saf.stat with
  | some t => decide (t + 40000 ≤ s.saf.t)
  | none => false

/-! ### The speed limit (R460, R461) -/

/-- Follow the cause of a zero contribution: present, or ended at this tick; it lifts 1 s later by SPEED_CONTRIBUTION_LIFT. -/
def zeroCause (s : State) (k : Nat) (cause : Bool) : State :=
  let z := if cause then some none else match smGet none s.saf.zero k with
    | some none => some (some s.saf.t)
    | x => x
  s.setSaf { s.saf with zero := smPut none s.saf.zero k z }

/-- A contribution whose cause ended 1 s ago lifts. -/
def zeroLift (s : State) (k : Nat) : State := match smGet none s.saf.zero k with
  | some (some t) => if t + 20000 ≤ s.saf.t then s.setSaf { s.saf with zero := smPut none s.saf.zero k none } else s
  | _ => s

/-- SPEED_CONTRIBUTION_LIFT (R461): contribution `k`, by the row of R461's table. -/
def execSpeedContributionLift (k : Fin 8) (s : State) : Out := .next (zeroLift s k)

/-- A heartbeat's write. -/
def hbWrite (s : State) (v : Word) : State := tabCmd (s.setSaf { s.saf with hb := v }) Ra.SAF_HB [v.toNat]

/-- SAF_HB_WRITE (R461). -/
def execSafHbWrite (v : Word) (s : State) : Out := .next (hbWrite s v)

/-- At a frame boundary SAF_HB is compared with its value at the last one; a change ends the cause. -/
def hbFrame (s : State) : State :=
  if s.saf.hb = s.saf.hbSeen then s.setSaf { s.saf with hbMiss := s.saf.hbMiss + 1 }
  else
    let s := s.setSaf { s.saf with hbSeen := s.saf.hb, hbMiss := 0 }
    match smGet none s.saf.zero 2 with
    | some none => zeroCause s 2 false
    | _ => s

/-- Five unchanged boundaries make the contribution 0. -/
def hbLoss (s : State) (live : Bool) : State :=
  if 5 ≤ s.saf.hbMiss ∧ driverless (safMode s live) = true then zeroCause s 2 true else s

/-- HEARTBEAT_LOSS (R61). -/
def execHeartbeatLoss (s : State) : Out := .next (hbLoss s true)

/-- The corridor contributions apply (R461). -/
def corridorOn (s : State) (m : Nat) : Bool := driverless m || (m == Mode.fieldAssist && s.saf.cfg.assist)

/-- The limit in force with the row of its contributor, 0 when nothing limits. -/
def speedLimitOf (s : State) (m : Nat) (pub : Nat → PubV) : Word × Nat :=
  let z := fun (k : Nat) => (smGet none s.saf.zero k).isSome
  let d := (pub (fusKey 7 0)).val
  let c := s.saf.cfg
  let l : List (Nat × Word) := [(1, steerLimit s)] ++ (if driverless m && z 2 then [(2, 0)] else []) ++
    (if corridorOn s m then [(3, fStop c.aStop (fMax 0 (fSub d c.dStop)))] ++ (if z 4 then [(4, 0)] else []) ++ (if z 5 then [(5, 0)] else []) else []) ++
    (if z 6 then [(6, 0)] else [])
  l.foldl (fun a x => if flt x.2 a.1 then (x.2, x.1) else a) (fInf, 0)

/-- Follow the causes a sample sees: corridor unusable, person in corridor, a tripped function with SPD. -/
def speedCauses (s : State) (m : Nat) (pub : Nat → PubV) : State :=
  let v := pub (fusKey 7 0)
  let bad := !v.valid || decide (1000 < s.ageOf v)
  let s := zeroCause s 4 (corridorOn s m && bad)
  let s := zeroCause s 5 (corridorOn s m && (pub (fusKey 7 5)).val == 1 && flt v.val s.saf.cfg.dPerson)
  zeroCause s 6 ((List.range 4).any (fun i => (s.saf.cfg.func i == 2 || s.saf.cfg.func i == 4) && s.saf.cfg.spd i && (s.safPair i).trip))

/-- The tripped functions, one bit per pair. -/
def tripWord (s : State) : Nat := (List.range 4).foldl (fun a i => a + b2n (s.saf.cfg.used i && (s.safPair i).trip) * 2 ^ i) 0

/-! ### Lock-out and the deliberate reset (R462–R466) -/

/-- SAF_STOP_REQ is written: with its key and GO, the next safety sample decides a lock-out with cause 10 (R463, R470). -/
def stopReq (s : State) (v : Word) : State :=
  if bits v.toNat 16 16 = 0x5AFE ∧ bit v.toNat 0 = true then
    let s := tabCmd s Ra.SAF_STOP_REQ [v.toNat]
    s.setSaf { s.saf with stopGo := true }
  else s

/-- The safety sample finds a software stop. -/
def stopTake (s : State) : State := if s.saf.stopGo then lockOut (s.setSaf { s.saf with stopGo := false }) 10 0 else s

/-- SAF_STOP_REQ (R462). -/
def execSafStopReq (s : State) : Out := .next (stopReq s 0x5AFE0001#32)

/-- Every site reads valid and below 105 °C. -/
def sitesCool (s : State) : Bool := (List.range 24).all (fun k =>
  s.flag (Fd.THM_SITE_VALID k) && decide (sint 16 (s.fld (Fd.THM_SITE_TEMP k)) < 1050))

/-- Step 1 of R465: every cause has gone, and the machine stands. -/
def safReady (s : State) : Bool :=
  let c := s.saf.cfg
  let mask := (s.reg Ra.SAF_LOCK_MASK).toNat
  s.mode == Mode.safeStop && s.locked && c.ok && safStationary s &&
    (List.range 4).all (fun i => !(c.used i && ((s.safPair i).disc || (c.func i == 1 && (s.safPair i).trip)))) &&
    (List.range 8).all (fun k => !(c.used (k / 2) && (s.safIn k).fault)) &&
    !(bit mask 5 && ((s.sensPair 0).con || (s.sensPair 1).con)) && (!bit mask 9 || sitesCool s)

/-- An accepted press releases functions with RESTART = 0 whose pair is clear (R454, R466). -/
def releaseWaits (s : State) : State := s.forN 4 (fun s i =>
  if (s.safPair i).trip then s else s.setSafPair i { s.safPair i with wait := false })

/-- The button is ignored until it has been released for 1 s. -/
def buttonFault (s : State) : State := (s.setFlag Fd.SAF_LOCK_BTN_FAULT true).setSaf { s.saf with btnIgn := true, btnRel := none }

/-- Steps 2 and 3 of R465 for a press of `ms`: outside 0.5 to 3 s it is ignored, longer than 10 s it is a fault; without READY in a lock-out it is refused; otherwise the
element test follows at the next sample. -/
def resetPress (s : State) (ms : Nat) (pass : Bool) (out : Nat) : State :=
  let s := if 10000 < ms then buttonFault s else s
  let s := if s.saf.btnIgn then s.setSaf { s.saf with btnRel := some s.saf.t } else s
  if s.saf.btnIgn || decide (ms < 500) || decide (3000 < ms) then s
  else
    let code := if s.locked && !s.flag Fd.SAF_LOCK_READY then Code.refused else Code.ok
    let s := logLive s Ev.resetPress Src.mirror code ms
    if code = Code.refused then s.setFld Fd.SAF_LOCK_RST_CODE code
    else if s.locked then s.setSaf { s.saf with rst := some (none, pass, out) }
    else releaseWaits (s.setFld Fd.SAF_LOCK_RST_CODE code)

/-- RESET_PRESS (R465): SAFE_RST_BTN is released after `ms`; `pass` is the result of the element test that follows, `out` the output that
fails it. -/
def execResetPress (ms : Word) (pass : Bool) (out : Fin 4) (s : State) : Out :=
  .next (resetPress (safLatchRec s safBtnKey (min ms.toNat (2 ^ 28 - 1) + out * 2 ^ 28 + b2n pass * 2 ^ 31)) ms.toNat pass out)

/-- A recorded press in the replayed image (R470): it releases the waits, and after its element test a lock-out of the image. -/
def imagePress (s : State) (v : Nat) : State :=
  let ms := v % 2 ^ 28
  if s.saf.btnIgn || decide (ms < 500) || decide (3000 < ms) then s
  else if s.saf.imgLock then s.setSaf { s.saf with rst := some (none, bit v 31, bits v 28 2) }
  else releaseWaits s

/-- BUTTON_FAULT (R465, R569): the button has been held longer than 10 s, or misses the pulses of TP0 while pressed; it is ignored until it has
been released for 1 s. -/
def execButtonFault (s : State) : Out :=
  .next (buttonFault s)

/-- The button counts again once it has been released for 1 s. -/
def buttonBack (s : State) : State := match s.saf.btnIgn, s.saf.btnRel with
  | true, some t =>
    if t + 20000 ≤ s.saf.t then (s.setFlag Fd.SAF_LOCK_BTN_FAULT false).setSaf { s.saf with btnIgn := false, btnRel := none } else s
  | _, _ => s

/-- Clear the lock-out (R465 step 5): the MRAM latch, then the secure element copy; RESET_DONE; ROAD follows at the next frame boundary. -/
def lockClear (s : State) : State :=
  let cause := s.fld Fd.SAF_LOCK_CAUSE
  let s := releaseWaits (s.forN 4 (fun s k => s.setSafOut k { s.safOut k with fault := false, fail := 0 }))
  let s := s.setSaf { s.saf with mram := none, seCopy := none, rst := none, rstGo := true, offs := [], lockTick := none }
  let s := (s.setReg Ra.SAF_LOCK 0).setReg Ra.SAF_LOCK_MASK 0
  let s := (s.setFld Fd.SAF_LOCK_RST_CODE Code.ok).setFld Fd.SAF_STAT_STATE 1
  logLive s Ev.resetDone Src.mirror cause 0

/-- Step 4 of R465: both elements of every output are tested for 2 ms from the next sample on; a failure is a new lock-out with cause 4. -/
def resetTest (s : State) (live : Bool) : State := match s.saf.rst with
  | some (none, p, o) => s.setSaf { s.saf with rst := some (some s.saf.t, p, o) }
  | some (some t, p, o) =>
    if t + 40 ≤ s.saf.t then
      if !p then safLock (s.setSaf { s.saf with rst := none }) live 4 o
      else if live then lockClear s
      else
        let s := releaseWaits (s.forN 4 (fun s k => s.setSafOut k { s.safOut k with fault := false, fail := 0 }))
        s.setSaf { s.saf with imgLock := false, rst := none }
    else s
  | none => s

/-! ### The safety loop's sample -/

/-- The context in which the Mirror pair's instructions of this sample run (R447), privileged (R113); the entry takes 4 cycles of its budget
(R78). -/
def mirrorCtx (s : State) : GwCtx :=
  { loop := mirrorLoop, priv := true, base := 2 ^ 40 + 2 ^ 20, size := 0x40000, period := 20, tick := s.clk.tick, mode := s.bndMode,
    pc := 4 * Config.imageEntry mirrorLoop, budget := Config.mirrorBudget - 4, cyc := 4 }

/-- Publish class 0x4 for t + 20 (R460). -/
def safPublish (s : State) (lim : Word) (pub : Nat → PubV) : State :=
  let t := s.clk.tick + 20
  let wa := s.sensPair 0
  let sp := s.sensPair 1
  let s := (s.stageAt t (pubKey 4 0) lim).stageAt t (pubKey 4 1) (s.reg Ra.SAF_STAT)
  let s := (s.stageAt t (pubKey 4 2) wa.val (!wa.con && wa.ok)).stageAt t (pubKey 4 3) sp.val (!sp.con && sp.ok)
  let tq := pub (torqueKey s)
  (s.stageAt t (pubKey 4 4) tq.val tq.valid).stageAt t (pubKey 4 5) (BitVec.ofNat 32 (tripWord s))

/-- What steering takes from this sample. -/
def steerInOf (s : State) (pub : Nat → PubV) : SteerIn :=
  { theta := (s.sensPair 0).val, conWa := (s.sensPair 0).con, conSp := (s.sensPair 1).con,
    torque := (pub (torqueKey s)).val, seat := (pub (seatKey s)).val != 0 }

/-- One sample of the safety loop on filtered inputs `w` and published values `pub`. `live`: the live loop, otherwise the replayed image;
`drives`: its results reach the control engines (the live loop outside REPLAY, the image inside it). -/
def safSample (s : State) (live drives : Bool) (w : Nat) (pub : Nat → PubV) : State :=
  let t := if live then s.liveTick else s.clk.tick
  let s := safDrive s live
  let s := s.forN 4 (fun s i => safPairStep s live w i)
  let s := s.forN 4 (fun s i => discFault s live i)
  let s := twoHand s w
  let s := sensContra (sensContra (sensStep (sensStep s 0 pub) 1 pub) live 0) live 1
  let s := safStill (if live then stopTake s else s)
  let m := safMode s live
  let s := hbLoss (if t % 200 = 0 then hbFrame s else s) live
  let s := resetTest ([2, 4, 5, 6].foldl zeroLift s) live
  let s := if drives then steerInner (if t % 100 = 0 then steerOuter s else s) (steerInOf s pub) else s
  let s := speedCauses s m pub
  let lim := speedLimitOf s m pub
  let want := (List.range 4).foldl (fun a k => a + b2n (safWantsOut s live k) * 2 ^ k) 0
  let s := if drives then s.forN 4 (fun s k =>
      if bit want k = bit s.saf.soWant k then s else tabRec s TabT.out (pubKey 4 (0x100 + k)) [b2n (bit want k)]) else s
  let s := s.setSaf { s.saf with soWant := want }
  let s := if live then
      let s := buttonBack s
      let s := ((s.setFlag Fd.SAF_STAT_WA_OK (!(s.sensPair 0).con)).setFlag Fd.SAF_STAT_SP_OK (!(s.sensPair 1).con)).setFld Fd.SAF_STAT_TRIP (tripWord s)
      let s := safShowOuts (s.setFld Fd.SAF_STAT_ENABLE (b2n s.saf.two.en))
      let s := (s.setFlag Fd.SAF_LOCK_READY (safReady s)).setFlag Fd.SAF_LOCK_STATIONARY (safStationary s)
      (s.setReg Ra.SAF_SPD_LIM lim.1).setReg Ra.SAF_SPD_SRC (BitVec.ofNat 32 lim.2)
    else s
  if drives then safPublish s lim.1 pub else s

/-- The class 0x1 keys a safety sample takes, with the safety inputs (R504, R505). -/
def safKeys (s : State) : List Nat := s.saf.cfg.chans.map (fun u => snKey u 0) ++ [safInKey]

/-- The live safety loop at a tick boundary: the inputs are latched; every 20 ticks a sample runs, and in the Mirror pair's core its context
starts. -/
def safTick (s : State) (si : Nat) : State :=
  let s := s.setSaf { s.saf with t := s.saf.t + 1 }
  let s := safLatch s si
  let s := if s.rpl.live.isSome then s else s.publish safInKey (BitVec.ofNat 32 (safInWord s))
  let s := steerShowOff s
  if safRuns s && s.liveTick % 20 == 0 then
    let drives := s.rpl.live.isNone
    let s := if drives then recKeys (s.setCtx mirrorUnit (some (mirrorCtx s))) (safKeys s) else s
    let pub := s.livePub
    safSample s true drives (safInWord s) pub
  else s

/-- The replayed image's safety loop at a replayed tick (R470): its own state, recorded inputs; nothing of it reaches the live loop's
registers or outputs. -/
def safImage (s : State) : State :=
  let liveSaf := s.saf
  let i := s.setSaf { s.rpl.saf with t := s.rpl.saf.t + 1 }
  let i := if s.clk.tick % 20 = 0 then
      let pub := i.pubAt
      safSample (steerShowOff i) false true (pub safInKey).val.toNat pub
    else i
  (i.setRpl { i.rpl with saf := i.saf }).setSaf liveSaf

end Sys2Proof.Machine
end

