-- ==== Sys2Proof/Machine/Modes.lean ====
section
/-! DEFINITION. Operating modes: requests (R55), the commit of a mode with everything that follows it (R53, R56, R57), the stationary
state (R58), and the closing of the debug port (R540). -/

namespace Sys2Proof.Machine

/-! ### Requests (R55) -/

/-- A write of SYS_MODE_REQ: REFUSED while a request is pending; otherwise the request waits for its check. -/
def modeRequest (s : State) (v : Word) : State :=
  if s.flag Fd.SYS_MODE_STAT_PENDING then s.setFld Fd.SYS_MODE_STAT_RESULT Code.refused
  else
    let s := tabCmd s Ra.SYS_MODE_REQ [v.toNat]
    (s.setFlag Fd.SYS_MODE_STAT_PENDING true).setFld Fd.SYS_MODE_STAT_TARGET (bits v.toNat 0 4)

/-- MODE_REQUEST (R55): SYS_MODE_REQ is written with ORIGIN and MODE. -/
def execModeRequest (v : Word) (s : State) : Out := .next (modeRequest s v)

/-- The pending request ends with a code. -/
def modeResult (s : State) (code : Nat) : State :=
  let s := s.setPm { s.pm with deferred := false, ramping := false, ownReq := false }
  ((s.setFlag Fd.SYS_MODE_STAT_PENDING false).setFld Fd.SYS_MODE_STAT_TARGET 0).setFld Fd.SYS_MODE_STAT_RESULT code

/-- A request of the safety island's own wins over a pending one, which ends with REFUSED (R57). -/
def modeDisplace (s : State) : State := if s.flag Fd.SYS_MODE_STAT_PENDING then modeResult s Code.refused else s

/-! ### Speed (R58) -/

/-- The fused ground speed in km/h, when it is valid. -/
def groundSpeed (s : State) : Option Word :=
  let v := s.livePub (fusKey 0 1)
  if v.valid then some (fabs v.val) else none

/-- The speed is known and at most `x` km/h. -/
def speedWithin (s : State) (x : Word) : Bool := match groundSpeed s with
  | some v => fle v x
  | none => false

/-- Half a kilometre per hour. -/
abbrev kmhHalf : Word := 0x3F000000

/-- Note at a tick since when the ground speed is at most 0.5 km/h; an invalid speed counts as faster. -/
def noteStill (s : State) : State :=
  if speedWithin s kmhHalf then (if s.pm.statCyc.isSome then s else s.setPm { s.pm with statCyc := some s.cyc })
  else if s.pm.statCyc.isNone then s else s.setPm { s.pm with statCyc := none }

/-- The machine is stationary: at most 0.5 km/h for at least 2 s. -/
def stationary (s : State) : Bool := match s.pm.statCyc with
  | some c => s.since c (2 * cycS)
  | none => false

/-! ### The debug port closes (R540) -/

/-- Close the debug port with a reason: 1 expiry, 2 reset, 3 mode, 4 write. -/
def debugClose (s : State) (why : Nat) : State :=
  if s.flag Fd.UPD_DBG_STAT_OPEN then
    let s := (s.setReg Ra.UPD_DBG_STAT 0).setUpd { s.upd with dbgEnd := none }
    logEvent s Ev.debugClose Src.unit why 0
  else s

/-! ### Commit (R53, R56, R57) -/

/-- The key of the mode in OUT records (TAB_DIV_INFO.UNIT 0x200). -/
abbrev modeKey : Nat := pubKey 4 0x200

/-- Leave UNLOAD_SYNC or enter it: FLR_UNL_STAT.PHASE (R348, R349). -/
def unloadPhase (s : State) (old m : Nat) : State :=
  if m = Mode.unloadSync then (s.setFld Fd.FLR_UNL_STAT_PHASE 2).setFld Fd.FLR_UNL_STAT_CODE Code.ok
  else if old = Mode.unloadSync then
    let s := if s.fld Fd.FLR_UNL_STAT_PHASE = 4 then s else s.setFld Fd.FLR_UNL_STAT_PHASE 0
    let s := s.setPm { s.pm with ownEnd := false }
    (s.setFlag Fd.FLR_UNL_CFG_ARM false).setFlr { s.flr with unlEnd := none, partSf := none, lossRep := false }
  else s

/-- Every function follows SAFE_STOP at once (R201), and the lock-outs decided have taken effect. -/
def safeStopFollows (s : State) : State := mfSafeStop (s.setSaf { s.saf with offs := [] })

/-- The outputs and the link follow the mode (R53, R351). -/
def modeGates (s : State) : State := lswGates (vlvGates s)

/-- Commit mode `m`: SYS_MODE_STAT, MODE_CHANGE, the recorded output, and what each unit does on the change. -/
def modeCommit (s : State) (m : Nat) : State :=
  let old := s.mode
  let s := (s.setFld Fd.SYS_MODE_STAT_PREV old).setFld Fd.SYS_MODE_STAT_MODE m
  let s := s.setPm { s.pm with exit := false, orig := if m = Mode.unloadSync then old else s.pm.orig }
  let s := unloadPhase s old m
  let s := if m = Mode.safeStop then safeStopFollows s else s
  let s := if driverless m then steerModeEnter s else s
  let s := if old = Mode.service then debugClose s 3 else s
  let s := tabRec s TabT.out modeKey [m]
  let s := logEvent s Ev.modeChange Src.mirror (m * 16 + old) 0
  modeGates s

/-- Commit the mode of the pending request: it ends with OK. -/
def modeGranted (s : State) (m : Nat) : State := modeCommit (modeResult s Code.ok) m

/-- Commit a mode that the module chooses itself. -/
def modeOwn (s : State) (m : Nat) : State := modeCommit (modeDisplace s) m

end Sys2Proof.Machine
end

