-- ==== Sys2Proof/Machine/Calib.lean ====
section
/-! DEFINITION. Calibration sets as their owners take them (R209, R263, R468, R499, R536, R537): registers that reset "from MRAM", the
calibration areas of loops, the safety configuration and the histogram configuration. -/

namespace Sys2Proof.Machine

/-- The committed records of a set as (offset, data), by record number. -/
def insertRec (x : CalRec) : List CalRec → List CalRec
  | [] => [x]
  | y :: r => if x.rec_ ≤ y.rec_ then x :: y :: r else y :: insertRec x r

def State.calRecs (s : State) (set : Nat) : List (Nat × List Byte) :=
  ((s.upd.cal.filter (fun r => r.set == set)).foldr insertRec []).map (fun r => (r.ofs, r.data))

/-- A word of a set by a register address, or by a place of the model's own in a set that holds no registers. -/
def State.calWord (s : State) (set a : Nat) : Word := Config.calReg set (s.calRecs set) a

/-! ### Registers (R536) -/

/-- `n` registers from an address upward, all of one mask. -/
def calRow (n : Nat) (f : Nat → Nat) (mask : Nat) : List (Nat × Nat) := (List.range n).map (fun k => (f k, mask))

/-- The bits of every register. -/
abbrev allBits : Nat := 0xFFFFFFFF

/-- GAIN, OFFSET and LIM of the UIN and BRG channels that satisfy `p`; with `cfg` their CFG too. -/
def calChans (p : Nat → Bool) (cfg : Bool) : List (Nat × Nat) :=
  ((List.range 48).filter p).flatMap (fun n =>
    (if cfg then [(Ra.UIN_CH_CFG n, allBits)] else []) ++
      [(Ra.UIN_CH_GAIN n, allBits), (Ra.UIN_CH_OFFSET n, allBits), (Ra.UIN_CH_LIM n, allBits)]) ++
  ((List.range 4).filter (fun n => p (48 + n))).flatMap (fun n =>
    (if cfg then [(Ra.BRG_CH_CFG n, 0xF800FF00)] else []) ++
      [(Ra.BRG_CH_GAIN n, allBits), (Ra.BRG_CH_OFFSET n, allBits), (Ra.BRG_CH_LIM n, allBits)])

/-- The registers a set gives their values, with the bits it gives (R536): the channels that the safety island takes have theirs from set 6. -/
def calRegs (s : State) (set : Nat) : List (Nat × Nat) := match set with
  | 1 => [(Ra.FLR_RADIO_CFG, 0xF0000000), (Ra.PWR_SUP_STAT, 0x80000000), (Ra.ETH_IP 0, allBits)]
  | 2 => calChans (fun u => !safTakes s u) false ++ calRow 4 Ra.UIN_SUP_CFG 0x80000003
  | 6 => calChans (safTakes s) true
  | 7 => calRow 72 Ra.FUS_EXTR allBits ++ calRow 9 Ra.FUS_IMU_ROT allBits ++ calRow 12 Ra.FUS_PT allBits
  | 8 => calRow 32 Ra.VLV_CH_CFG 0xBFF80000 ++ calRow 32 Ra.VLV_CH_R20 allBits ++ calRow 8 Ra.VLV_BANK_CFG 0xFF000000 ++
    calRow 8 Ra.VLV_BANK_ILIM allBits
  | 9 => calRow 24 Ra.LSW_CH_CFG 0xEFC00000 ++ calRow 24 Ra.LSW_CH_THR allBits ++ calRow 4 Ra.LSW_GRP_CFG 0xFF
  | 10 => calRow 6 Ra.CAN_CTL 0x88000000 ++ calRow 6 (fun c => Ra.CAN_CTL_AUX c 0) allBits ++ calRow 6 (fun c => Ra.CAN_CTL_AUX c 1) allBits ++
    calRow 4 Ra.ETH_PORT_CFG 0xC0000000
  | 11 => [(Ra.FLR_CFG, 0x6F0000FF), (Ra.FLR_DOM_CFG, 0xFFFF0007)] ++ calRow 4 Ra.FLR_ROLE 0xFF000000
  | 12 => [(Ra.DSP_PNL_CTL, 0x8000003F)]
  | 14 => calRow 2 Ra.GNS_ANT_CFG 0xFFFF ++ calRow 4 Ra.GNS_REFPT_X allBits ++ calRow 8 Ra.GNS_REFPT_Y allBits ++
    calRow 4 Ra.GNS_REFPT_Z allBits ++ [(Ra.GNS_ATT_CFG, allBits)]
  | n =>
    if 32 ≤ n then
      ((List.range 30).filter (fun f => s.fld (Fd.MFP_MF_CTL_CALSET f) == n)).flatMap (fun f =>
        (Ra.MFP_MF_CTL f, 0x18000000) :: (List.range 4).map (fun k => (Ra.MFP_MF_CTL f + 4 + 4 * k, allBits)))
    else []

/-- A register takes the bits of a set. -/
def calTake (s : State) (set : Nat) (x : Nat × Nat) : State :=
  s.setReg x.1 ((s.reg x.1 &&& ~~~(BitVec.ofNat 32 x.2)) ||| (s.calWord set x.1 &&& BitVec.ofNat 32 x.2))

/-- CALSET and SRC of the functions at boot: a set of 32 or above whose record gives a function's MFP_MF[n]_CTL with the set's own number as CALSET is that
function's. DESIGN CHOICE (log 31): the spec resets both "from MRAM" and names no record for them. -/
def calNames (s : State) : State := s.forN 30 (fun s f =>
  match ((List.range 224).map (· + 32)).find? (fun set =>
    !(s.calRecs set).isEmpty && bits (s.calWord set (Ra.MFP_MF_CTL f)).toNat 16 8 == set) with
  | some set => (s.setFld (Fd.MFP_MF_CTL_CALSET f) set).setFld (Fd.MFP_MF_CTL_SRC f) (bits (s.calWord set (Ra.MFP_MF_CTL f)).toNat 29 2)
  | none => s)

/-- Every register of a set that holds a record takes its value; without one each keeps its hardware reset value (R537). -/
def calLoad (s : State) (set : Nat) : State := if (s.calRecs set).isEmpty then s else (calRegs s set).foldl (fun s x => calTake s set x) s

/-! ### Calibration areas of loops (R209) -/

/-- Where the area lies in the window. -/
def calPlace (set : Nat) : Nat := if set = 3 ∨ set = 4 then 0x2000 else Config.calOfs set

/-- The sets whose records go to loops. -/
def loopSet (set : Nat) : Bool := set == 3 || set == 4 || decide (32 ≤ set ∧ set ≤ 255)

/-- The functions served by a set, and its loops: the governor for set 3, yield for set 4, with the loss loop, whose own calibration set R212 names and
R536 does not list (DESIGN CHOICE, log 24). -/
def calFns (s : State) (set : Nat) : List Nat :=
  if set < 32 then [] else (List.range 30).filter (fun n => s.fld (Fd.MFP_MF_CTL_CALSET n) == set)
def calLoops (s : State) (set : Nat) : List Nat :=
  if set = 3 then [0] else if set = 4 then [38, 39] else ((calFns s set).flatMap (mfLoops s)).eraseDups

/-- Records laid over bytes. -/
def overlay (b : List Byte) : List (Nat × List Byte) → List Byte
  | [] => b
  | x :: r => overlay (b.take x.1 ++ x.2 ++ b.drop (x.1 + x.2.length)) r

/-- The words of a set's area in a loop's window, with the set's records laid over what the window holds. -/
def calWords (s : State) (set loop : Nat) : List Word := match loopWindow s loop with
  | some (a, _) => bytesWords (calLen set / 4) (overlay (s.bytesAt (a + calPlace set) (calLen set)) (s.calRecs set))
  | none => []

/-- The shipped words of the yield set from its start (R223): CALSEQ, F_LOAD, KAPPA, RHO_CAL, RHO_TW, M_REF, T13_REF, MDELAY, TAU_MIN, TAU_MAX, QFLOOR,
GUARD, PLATE_LIM, PLATE_CONF. -/
def yldShipped : List Word :=
  [0, 0x3F800000, 0x3B83126F, 0x429C0000, 0x429C0000, 0x41680000, 0x43C80000, 600, 0x3FC00000, 0x41400000, 0x3F000000, 500, 0x3E99999A, 2000]

/-- A record of the yield set keeps the limits of R223 on the fields it writes, with what the area holds beside it. -/
def yldLimits (s : State) (ofs : Nat) (data : List Byte) : Bool :=
  let area := match loopWindow s 38 with
    | some (a, _) => s.bytesAt (a + calPlace 4) 128
    | none => wordsBytes yldShipped ++ List.replicate 72 0
  let area := overlay (overlay area (s.calRecs 4)) [(ofs, data)]
  let w := fun (k : Nat) => BitVec.ofNat 32 (num area (4 * k) 4)
  let hit := fun (k : Nat) => decide (ofs ≤ 4 * k + 3 ∧ 4 * k < ofs + data.length)
  let within := fun (k : Nat) (lo hi : Word) => !hit k || (fle lo (w k) && fle (w k) hi)
  within 1 0x3F4CCCCD 0x3FA00000 && within 4 0x42200000 0x42C80000 && within 5 0 0x42200000 && (!hit 7 || decide ((w 7).toNat ≤ 5000)) &&
    (!(hit 8 || hit 9) || flt (w 8) (w 9))

/-- A set waits for the next frame boundary, where it is copied to each of its loops and its MFP fields take effect. -/
def calDeliver (s : State) (set : Nat) : State :=
  let areas := (calLoops s set).map (fun l => (l, calPlace set, calWords s set l))
  let fields := (calFns s set).map (fun f => (mfArea + f, set, (List.range 5).map (fun k => s.calWord set (Ra.MFP_MF_CTL f + 4 * k))))
  s.setMfp { s.mfp with cal := s.mfp.cal ++ areas ++ fields }

/-- At boot the area takes the set's records directly (R537). -/
def calBoot (s : State) (set : Nat) : State :=
  if (s.calRecs set).isEmpty then s
  else (calLoops s set).foldl (fun s l => match loopWindow s l with
    | some (a, _) => s.setWords (a + calPlace set) (calWords s set l)
    | none => s) s

/-! ### Steering, safety configuration, histograms -/

/-- The steering set's words (R263): its records laid over what the module is shipped with. -/
def steerCal (s : State) : List Word := bytesWords 22 (overlay (wordsBytes steerShipped) (s.calRecs 5))

/-- The limits of the steering set's FP32 fields (R263), by word. -/
def steerRanges : List (Nat × Word × Word) :=
  [(2, 0x3F800000, 0x41000000),
   (3, 0x3DCCCCCD, 0x40400000),
   (4, 0x3E99999A, 0x40000000),
   (5, 0x3E4CCCCD, 0x40000000),
   (6, 0x3C23D70A, 0x3F800000),
   (7, 0x40A00000, 0x42700000),
   (8, 0x3F800000, 0x42F00000),
   (9, 0x00000000, 0x447A0000),
   (10, 0x00000000, 0x41200000),
   (12, 0x00000000, 0x44BB8000),
   (13, 0x00000000, 0x42C80000),
   (14, 0x3E4CCCCD, 0x40800000),
   (15, 0x3CA3D70A, 0x3F800000),
   (16, 0x3D4CCCCD, 0x40000000),
   (17, 0x3F800000, 0x41F00000),
   (18, 0x3F000000, 0x41200000),
   (20, 0x3F800000, 0x41A00000),
   (21, 0x00000000, 0x3F000000)]

/-- A record of the steering set keeps the limits of R263 on the fields it writes, with what the set holds beside it. -/
def steerLimits (s : State) (ofs : Nat) (data : List Byte) : Bool :=
  let area := overlay (overlay (wordsBytes steerShipped) (s.calRecs 5)) [(ofs, data)]
  let w := fun (k : Nat) => BitVec.ofNat 32 (num area (4 * k) 4)
  let hit := fun (k : Nat) => decide (ofs ≤ 4 * k + 3 ∧ 4 * k < ofs + data.length)
  steerRanges.all (fun x => !hit x.1 || (fle x.2.1 (w x.1) && fle (w x.1) x.2.2)) && (!hit 1 || decide ((w 1).toNat ≤ 2)) &&
    (!hit 19 || decide (50 ≤ (w 19).toNat ∧ (w 19).toNat ≤ 2000)) && (!(hit 11 || hit 12) || (fle (w 12) (w 11) && fle (w 11) 0x453B8000))

/-- The safety configuration of set 6 (R468): the registers' addresses where it has one, places of the model's own for the rest. -/
def safCfgOf (s : State) : SafCfg :=
  let w := s.calWord 6
  { id := crc32c ((s.calRecs 6).flatMap (fun x => leBytes 4 x.1 ++ x.2)), ins := (List.range 4).map (fun i => w (Ra.SAF_IN_CFG i)),
    tpw := (w 0).toNat, tpp := (w 4).toNat, waLim := w 8, waConf := (w 12).toNat, spConf := (w 16).toNat,
    chans := [(w 20).toNat % 48, (w 24).toNat % 48, (w 28).toNat % 48, (w 32).toNat % 48, 48 + (w 36).toNat % 4, (w 40).toNat % 48],
    assist := bit (w Ra.SAF_SPD_CFG).toNat 0, aStop := w Ra.SAF_A_STOP, dStop := w Ra.SAF_D_STOP, dPerson := w Ra.SAF_D_PERSON, valid := true }

/-- The channels of the safety configuration in force take their registers from set 6 and show SAFE (R171, R458, R536). -/
def safChannels (s : State) : State :=
  let s := calLoad s 6
  let s := s.forN 48 (fun s n => s.setFlag (Fd.UIN_CH_STAT_SAFE n) (safTakes s n))
  s.forN 4 (fun s n => s.setFlag (Fd.BRG_CH_STAT_SAFE n) (safTakes s (48 + n)))

/-- Histogram entry `h` of set 13 (R499): EN [31] and PERIOD [7:0], SRC, LO, WIDTH. Its contents are cleared. -/
def histoOf (s : State) (h : Nat) : Histo :=
  let b := overlay (List.replicate 1024 0) (s.calRecs 13)
  let w := fun (k : Nat) => num b (16 * h + 4 * k) 4
  { en := bit (w 0) 31 && [1, 3, 4, 6, 7, 8, 9].contains (bits (w 1) 28 4) && flt 0 (BitVec.ofNat 32 (w 3)), period := max 1 (bits (w 0) 0 8), src := w 1, lo := BitVec.ofNat 32 (w 2), width := BitVec.ofNat 32 (w 3) }

end Sys2Proof.Machine
end

