-- ==== Sys2Proof/Machine/Package.lean ====
section
/-! DEFINITION. Klodefin packages (R520–R523), bank sets and the pointer (R528–R530), the checks of installed parts, and the fallback
(R532, R533). -/

namespace Sys2Proof.Machine

/-! ### Manifests (R521–R523) -/

/-- A part TYPE with an INDEX that R522 lists. -/
def partOk (type idx : Nat) : Bool :=
  decide (1 ≤ type ∧ type ≤ 8) && decide (idx < (if type = 6 then 8 else if type = 8 then 16 else 1))

/-- Part entry `k` of a manifest block. -/
def partEntry (b : List Byte) (k : Nat) : PartEntry :=
  let o := 0x40 + 64 * k
  { type := num b o 1, index := num b (o + 1) 1, version := num b (o + 4) 4, length := num b (o + 8) 4, nblocks := num b (o + 12) 4,
    sha := (b.drop (o + 32)).take 32 }

/-- The entry is well formed. -/
def entryOk (b : List Byte) (k : Nat) : Bool :=
  let o := 0x40 + 64 * k
  let p := partEntry b k
  partOk p.type p.index && p.nblocks == (p.length + 4095) / 4096 && num b (o + 2) 2 == 0 && num b (o + 16) 16 == 0

/-- The manifest of a 4 KiB block. -/
def manifestOf (b : List Byte) : Manifest :=
  { pkg := num b 8 8, svn := num b 0x10 4, fence := bit (num b 0x18 4) 0, signer := num b 0x1C 4,
    parts := (List.range (num b 6 2)).map (partEntry b), raw := b }

/-- A part's key in staging and in the banks. -/
def PartEntry.key (p : PartEntry) : Nat := p.type * 256 + p.index
def SetPart.key (p : SetPart) : Nat := p.type * 256 + p.index

/-- The blocks of all parts. -/
def Manifest.total (m : Manifest) : Nat := m.parts.foldl (fun a p => a + p.nblocks) 0

/-- The block is well formed (first row of R523). -/
def manifestWf (b : List Byte) : Bool :=
  let n := num b 6 2
  let m := manifestOf b
  b.length == 4096 && num b 0 4 == 0x46444C4B && num b 4 2 == 1 && decide (1 ≤ n ∧ n ≤ 32) && m.pkg != 0 &&
    decide (num b 0x18 4 < 2) && num b 0x20 32 == 0 && allZero (b.drop (0x80 + 64 * n)) &&
    (List.range n).all (entryOk b) && (m.parts.map PartEntry.key).eraseDups.length == n && decide (m.total ≤ 3840000)

/-- The signature of a manifest block verifies with the package key it names, whose mask covers every TYPE; key 0 covers all. -/
def manifestSigned (s : State) (b : List Byte) : Bool :=
  let n := 0x40 + 64 * num b 6 2
  decide (num b 0x1C 4 < 8) && s.signedBy Key.package (num b 0x1C 4) (b.take n) ((b.drop n).take 64)

def manifestCovered (s : State) (m : Manifest) : Bool :=
  m.signer == 0 || m.parts.all (fun p => bit (s.keyPriv Key.package m.signer) p.type)

/-- The silicon accepts the manifest. -/
def manifestFits (s : State) (b : List Byte) : Bool :=
  num b 0x14 2 == s.fld Fd.SYS_ID_PART &&
    decide (num b 0x16 1 ≤ s.fld Fd.SYS_ID_MAJOR ∧ s.fld Fd.SYS_ID_MAJOR ≤ num b 0x17 1)

/-- The checks of R523 in their order. -/
def manifestCode (s : State) (b : List Byte) : Nat :=
  let m := manifestOf b
  if !manifestWf b then Code.badArgument
  else if manifestFits s b && manifestSigned s b && manifestCovered s m && decide ((s.reg Ra.UPD_FENCE).toNat ≤ m.svn) &&
      (match s.upd.man with
        | some x => x.pkg == m.pkg
        | none => true) then Code.ok
  else Code.refused

/-! ### Update state (UPD_STAT) -/

namespace Upd
abbrev idle : Nat := 0
abbrev receiving : Nat := 1
abbrev verifying : Nat := 2
abbrev verified : Nat := 3
abbrev activating : Nat := 4
abbrev trial : Nat := 5
end Upd

def State.updState (s : State) : Nat := s.fld Fd.UPD_STAT_STATE
def State.setUpdState (s : State) (v : Nat) : State := s.setFld Fd.UPD_STAT_STATE v

/-- The result of a manifest, block or update command (UPD_CODE). -/
def updCode (s : State) (code : Nat) : State := s.setReg Ra.UPD_CODE (BitVec.ofNat 32 (code * 2 ^ 16))

/-! What the UPD block counts (R574): blocks by code, verifications that failed, activations abandoned, fallbacks, missing calibration records,
openings of the debug port, and its last scope. -/
namespace UpdCnt
abbrev block (code : Nat) : Nat := if code = Code.ok then 0 else if code = Code.badArgument then 1 else if code = Code.refused then 2 else 3
abbrev verifyBad : Nat := 4
abbrev abandon : Nat := 5
abbrev fall : Nat := 6
abbrev calMissing : Nat := 7
abbrev dbgOpen : Nat := 8
abbrev dbgScope : Nat := 9
end UpdCnt
def State.updCount (s : State) (k : Nat) : State := s.setUpd { s.upd with cnt := smPut 0 s.upd.cnt k (smGet 0 s.upd.cnt k + 1) }

/-- Every bit of every part is set. -/
def allStaged (s : State) : Bool := match s.upd.man with
  | some m => s.upd.staged.length == m.total
  | none => false

/-- Staging is freed: no package is staged. -/
def stagingFree (s : State) : State :=
  let s := (s.setUpd { s.upd with man := none, staged := [] }).setUpdState Upd.idle
  let s := ((s.setReg Ra.UPD_PKG_LO 0).setReg Ra.UPD_PKG_HI 0).setFld Fd.UPD_STAT_NPARTS 0
  (s.setReg Ra.UPD_TOTAL 0).setReg Ra.UPD_RX 0

/-! ### Bank sets (R529) -/

/-- The set the pointer names, and a set's record. -/
def State.setNo (s : State) : Nat := s.fld Fd.UPD_STAT_SET
def State.setRec (s : State) (k : Nat) : SetRec := s.upd.sets.getD k {}
def State.curSet (s : State) : SetRec := s.setRec s.setNo

/-- An installed part of a set. -/
def SetRec.part (r : SetRec) (type idx : Nat) : Option SetPart := r.parts.find? (fun p => p.type == type && p.index == idx)

/-- The part is one of the two under the safety rule (R522, R533). -/
def safetyPart (type idx : Nat) : Bool := type == 7 || (type == 6 && idx == 0)

/-- The bytes of an installed part. -/
def State.partBytes (s : State) (p : SetPart) : List Byte := smGet [] s.upd.banks (p.key * 2 + p.bank)

/-- An installed part passes (R530): its bytes have the record's SHA-256, and the manifest held with it is signed, lists it and is not below
the rollback fence. -/
def partPasses (s : State) (p : SetPart) : Bool :=
  let b := smGet [] s.upd.mans (p.key * 2 + p.bank)
  let m := manifestOf b
  sha256 (s.partBytes p) == p.sha && manifestWf b && manifestSigned s b && decide ((s.reg Ra.UPD_FENCE).toNat ≤ m.svn) &&
    m.parts.any (fun e => e.key == p.key && e.sha == p.sha)

/-- The loader of a set passes, and every other part. -/
def loaderPasses (s : State) (r : SetRec) : Bool := r.parts.all (fun p => p.type != 1 || partPasses s p)
def setPasses (s : State) (r : SetRec) : Bool := r.ok && r.parts.all (partPasses s)

/-- Write a set's record. -/
def State.putSet (s : State) (k : Nat) (r : SetRec) : State := s.setUpd { s.upd with sets := s.upd.sets.set k r }

/-- Write the bank pointer: current set and TRIAL. -/
def pointer (s : State) (set : Nat) (trial : Bool) : State := (s.setFld Fd.UPD_STAT_SET set).setFlag Fd.UPD_STAT_TRIAL trial

/-- The set a package makes (R528 step 4, R533): its parts in the banks not in use, the safety parts kept in theirs and listed as SAF_NEXT,
every other part as in the set before, which is its fallback. -/
def setOfPackage (s : State) (m : Manifest) : SetRec :=
  let old := s.curSet
  let bankOf := fun (p : PartEntry) => match old.part p.type p.index with
    | some x => 1 - x.bank
    | none => 0
  let fresh := m.parts.map (fun p =>
    ({ type := p.type, index := p.index, bank := bankOf p, version := p.version, sha := p.sha } : SetPart))
  let now := fresh.filter (fun p => !safetyPart p.type p.index)
  { pkg := m.pkg, parts := now ++ old.parts.filter (fun p => !now.any (fun x => x.key == p.key)),
    safNext := fresh.filter (fun p => safetyPart p.type p.index), fall := s.setNo, ok := true }

/-! ### Fallback (R532, R533) -/

/-- The pointer goes back to the fallback set with TRIAL clear, UPD_FALLBACK is recorded, and the package, if still staged, is VERIFIED
again (what is staged beside a safety-image trial goes on where it was). A safety-image trial falls back with reason 5: the MRAM latch is written
with cause 11 and DETAIL 15. -/
def fallBack (s : State) (reason : Nat) : State :=
  let cur := s.curSet
  let safe := s.upd.safTrial
  let s := pointer s cur.fall false
  let s := s.setUpdState (if s.upd.man.isNone then Upd.idle else if !safe then Upd.verified else if allStaged s then Upd.verifying else Upd.receiving)
  let s := logEvent (s.updCount UpdCnt.fall) Ev.updFallback Src.unit (if safe then 5 else reason) (cur.pkg % 2 ^ 32)
  if safe then
    let s := s.putSet cur.fall { s.setRec cur.fall with safNext := [] }
    lockOut (s.setUpd { s.upd with safTrial := false }) 11 15
  else s

/-- Boot steps 3 and 4 of a trial (R530): a fourth boot and a part that fails its check fall back; otherwise the attempt is counted, and
the trial clock starts at the first. -/
def bootTrial (s : State) : State :=
  let n := s.fld Fd.UPD_STAT_ATTEMPTS
  if 3 ≤ n then fallBack s 2
  else
    let s := s.setFld Fd.UPD_STAT_ATTEMPTS (n + 1)
    let s := if n = 0 then s.setReg Ra.UPD_TRIAL_S 600#32 else s
    if setPasses s s.curSet then s.setUpdState Upd.trial else fallBack (s.setUpd { s.upd with partBad := true }) 3

/-- The same outside a trial: the fallback set boots when its record is committed and all its parts pass. -/
def bootPlain (s : State) : State :=
  if setPasses s s.curSet then s
  else
    let s := s.setUpd { s.upd with partBad := true }
    let r := s.curSet
    if r.fall ≠ s.setNo ∧ setPasses s (s.setRec r.fall) = true then
      logEvent ((pointer s r.fall false).updCount UpdCnt.fall) Ev.updFallback Src.unit 3 (r.pkg % 2 ^ 32)
    else s

/-- The part check of a boot; it stops the boot where the set that is left does not pass. -/
def bootParts (s : State) : State :=
  let s := s.setUpd { s.upd with partBad := false }
  let s := if s.updState = Upd.activating then s.setUpdState Upd.verified else s
  if s.flag Fd.UPD_STAT_TRIAL then bootTrial s else bootPlain s

/-- The boot step at which a set that does not pass stops the boot: 3 for the loader, 4 for another part. -/
def bootStops (s : State) : Option Nat :=
  if setPasses s s.curSet then none else if loaderPasses s s.curSet then some 4 else some 3

end Sys2Proof.Machine
end

