-- ==== Sys2Proof/Machine/Yield.lean ====
section
/-! DEFINITION. The yield loop 38 and the loss loop 39, run from their stored images (R211–R222), and the map the application complex
stores (R224). -/

namespace Sys2Proof.Machine

/-! ### Inputs and calibration (R211, R223) -/

/-- An input port of loop 38. -/
def yldIn (s : State) (p : Nat) : PubV := (s.portIn 38 p).getD {}

/-- The 8-point plate table, linear between breakpoints and flat beyond its ends (R213). -/
def plateTable (rd : Nat → Word) (x : Word) : Word :=
  tableLin (fun k => rd (0x2040 + 8 * k)) (fun k => rd (0x2044 + 8 * k)) x

/-- The wet grain flow from the plate signal (R213). -/
def plateFlow (rd : Nat → Word) (x t13 : Word) : Word :=
  if flt t13 0x41200000 then 0
  else
    let c := fAdd 0x3F800000 (fMul (rd 0x2008) (fSub (rd 0x2010) (rd 0x200C)))
    fMul (fMul (fMul (rd 0x2004) c) (plateTable rd x)) (fDiv (rd 0x2018) t13)

/-- Plate validation in a sample (R214): the flow used, and the state. -/
def plateCheck (s : State) (rd : Nat → Word) (q : Word) : State × Word :=
  let pred := (yldIn s 96).val
  let inval := !(yldIn s 0).valid
  let exc := flt (fMul (rd 0x2030) pred) (fabs (fSub q pred))
  let conf := (rd 0x2034).toNat
  let y := s.yld
  let bad := if exc then y.platBad + 1 else 0
  let good := if inval || exc then 0 else y.platGood + 1
  let deg := if y.platDeg then inval || exc || !decide (conf ≤ good) else inval || (exc && decide (conf ≤ bad))
  (s.setYld { y with platBad := bad, platGood := good, platDeg := deg }, if deg then pred else q)

/-! ### Transit time (R216, R217) -/

/-- The grain in transit G for a grain fraction. -/
def yldTransit (s : State) (fg : Word) : Word :=
  let cell := fun (i : Nat) => (yldIn s (32 + i)).val
  let sum := fun (a n : Nat) => ((List.range n).map (fun i => cell (a + i))).foldl fAdd 0
  fAdd (fAdd (fAdd (fMul fg (fAdd (sum 0 8) (sum 8 8))) (sum 24 8)) (sum 32 8)) (sum 48 10)

/-- The total cut mass flow W. -/
def yldCut (s : State) : Word :=
  fMul (fMul (fMean (yldIn s 2).val (yldIn s 3).val) (yldIn s 4).val) (yldIn s 5).val

/-- The filtered flow, τ and whether this sample is LOW_FLOW. -/
def yldTau (s : State) (rd : Nat → Word) (q : Word) : State × Bool :=
  let qb := fAdd s.yld.qbar (fMul (fSub q s.yld.qbar) 0x3A03126F)
  let w := yldCut s
  let low := flt qb (rd 0x2028) || feq w 0
  let tau := if low then s.yld.tau else
    fClamp (fDiv (yldTransit s (fClamp (fDiv qb w) 0 0x3F800000)) qb) (rd 0x2020) (rd 0x2024)
  (s.setYld { s.yld with q := q, qbar := qb, tau := tau }, low)

/-- The distance of section k from the header centre: |k − 3.5| × T01 / 8. -/
def sectionDist (t01 : Word) (k : Nat) : Word :=
  fMul (fOfRat (((2 * (k : Int) - 7).natAbs : Nat) : Int) 16) t01

/-- A step's mean section weights; equal weights where it has none (R218). -/
def stepWeights (x : YldStep) : List Word :=
  if x.wN = 0 then List.replicate 8 0x3F800000 else (List.range 8).map (fun k => fDiv (x.w.getD k 0) (fOfInt x.wN))

/-- The step, not yet final, that holds sample `n`. -/
def yldStepAt (s : State) (n : Int) : Option YldStep := s.yld.steps.find? (fun x => decide ((x.first : Int) ≤ n) && (match x.last with
  | some l => decide (n ≤ (l : Int))
  | none => true))

/-- τ in samples. -/
def tauSamples (s : State) : Int := fRound (fMul s.yld.tau 0x447A0000) 1 1

/-- The cut times s_k of the mass measured in sample n (R217). -/
def cutTimes (s : State) : List Int :=
  let t01 := (yldIn s 5).val
  let t02 := (yldIn s 6).val
  let l := (List.range 8).map (sectionDist t01)
  let u := match yldStepAt s ((s.yld.n : Int) - tauSamples s) with
    | some x => stepWeights x
    | none => List.replicate 8 0x3F800000
  let sw := u.foldl fAdd 0
  let u := if feq sw 0 then List.replicate 8 0x3F800000 else u
  let lbar := fDiv (((l.zip u).map (fun p => fMul p.1 p.2)).foldl fAdd 0) (u.foldl fAdd 0)
  l.map (fun lk =>
    let term := if flt t02 0x3DCCCCCD then 0 else fDiv (fSub lk lbar) t02
    (s.yld.n : Int) - fRound (fMul (fAdd s.yld.tau term) 0x447A0000) 1 1)

/-! ### Steps (R218–R220) -/

/-- Replace a step, found by its first sample. -/
def setStep (s : State) (x : YldStep) : State :=
  s.setYld { s.yld with steps := s.yld.steps.map (fun y => if y.first = x.first then x else y) }

/-- FLAGS bits of a step record. -/
abbrev yfTimeHold : Nat := 1
abbrev yfPlate : Nat := 2
abbrev yfMoist : Nat := 4
abbrev yfLate : Nat := 8
abbrev yfLow : Nat := 16
abbrev yfGap : Nat := 32

/-- The values a step takes at its centre sample: tick (low, high), latitude, longitude, heading, speed, fix, width, TIME_HOLD. -/
def centreVals (s : State) : List Word :=
  let hold := (yldIn s 17).code == Code.holdover || (yldIn s 18).code == Code.holdover || s.timeState == 2
  [BitVec.ofNat 32 s.clk.tick, BitVec.ofNat 32 (s.clk.tick / 2 ^ 32), (yldIn s 17).val, (yldIn s 18).val, (yldIn s 19).val,
   (yldIn s 4).val, (yldIn s 20).val, (yldIn s 5).val, BitVec.ofNat 32 (b2n hold)]

/-- A mass per section joins the wet mass credited at an M_REF (R223). -/
def addWet (mref : Word) (k : Nat → Word) : List (Word × List Word) → List (Word × List Word)
  | [] => [(mref, (List.range 8).map k)]
  | x :: r => if x.1 = mref then (mref, (List.range 8).map (fun i => fAdd (x.2.getD i 0) (k i))) :: r else x :: addWet mref k r

/-- The wet mass of a step. -/
def stepWet (x : YldStep) : Word := (x.wet.flatMap (·.2)).foldl fAdd 0

/-- FLAGS that mass of this sample brings its step (R214, R216). -/
def creditFlags (s : State) (low : Bool) : Nat := (if s.yld.platDeg then yfPlate else 0) ||| (if low then yfLow else 0)

/-- Open a step in this sample; the carry goes to it in equal parts, flagged LATE (R220), each portion weighted by its own moisture reading, or waiting
for it. -/
def openStep (s : State) (rd : Nat → Word) (low : Bool) : State :=
  let c := s.yld.carry
  let total := c.foldl (fun a p => fAdd a p.mass) 0
  let done := c.filterMap (fun p => p.moist.map (fun m => (p.mass, m)))
  let none_ := feq total 0
  let x : YldStep := { first := s.yld.n, w := List.replicate 8 0, wet := if none_ then [] else addWet (rd 0x2014) (fun _ => fMul total 0x3E000000) [],
                       moistW := done.foldl (fun a p => fAdd a (fMul p.1 p.2.1)) 0, moistM := done.foldl (fun a p => fAdd a p.1) 0,
                       flags := if none_ then 0 else yfLate ||| creditFlags s low ||| (if done.all (fun p => p.2.2) then 0 else yfMoist) }
  s.setYld { s.yld with
    steps := s.yld.steps ++ [x], carry := [],
    shares := s.yld.shares ++ (c.filter (fun p => p.moist.isNone)).map (fun p => { due := p.due, first := s.yld.n, mass := p.mass }) }

/-- The section density of this sample (R218). -/
def sectionDensity (s : State) (k : Nat) : Word :=
  let p := yldIn s (8 + k)
  if p.valid then p.val else (yldIn s (if k < 4 then 2 else 3)).val

/-- The open step takes a sample's travel and weights; it closes at 1 000 mm, and the next opens in the same sample. -/
def stepSample (s : State) (rd : Nat → Word) (low : Bool) (x : YldStep) (d : Int) : State :=
  let tr := x.travel + d
  let x := { x with travel := tr, w := (List.range 8).map (fun k => fAdd (x.w.getD k 0) (sectionDensity s k)), wN := x.wN + 1 }
  let x := if 500 ≤ tr ∧ x.centre.isNone then { x with centre := some (centreVals s) } else x
  if 1000 ≤ tr then openStep (setStep s { x with last := some s.yld.n }) rd low else setStep s x

/-- Travel and steps in a sample (R219). -/
def yldTravel (s : State) (rd : Nat → Word) (low : Bool) : State :=
  let fwd := (yldIn s 16).val
  let d : Int := match s.yld.lastFwd with
    | some p => (fwd - p).toInt
    | none => 0
  let s := s.setYld { s.yld with lastFwd := some fwd }
  let opened := s.yld.steps.find? (fun x => x.last.isNone)
  if flt 0 (yldIn s 5).val then
    match opened with
    | some x => stepSample s rd low x d
    | none => openStep s rd low
  else match opened with
    | some x => setStep s { x with last := some s.yld.n, centre := some (x.centre.getD (centreVals s)) }
    | none => s

/-- The first sample of the step a share with cut time `n` goes to, and whether it is LATE; `none`: the carry (R220). -/
def shareStep (s : State) (n : Int) : Option (Nat × Bool) := match yldStepAt s n with
  | some x => some (x.first, false)
  | none => s.yld.steps.head?.map (fun x => (x.first, true))

/-- Credit a share of wet mass, measured in this sample, to a step and section, with flags; its moisture comes MDELAY samples later. A share without mass
credits nothing. -/
def creditShare (s : State) (rd : Nat → Word) (first k flags : Nat) (m : Word) : State :=
  if feq m 0 then s
  else s.setYld { s.yld with
    steps := s.yld.steps.map (fun (x : YldStep) =>
      if x.first = first then { x with wet := addWet (rd 0x2014) (fun i => if i = k then m else 0) x.wet, flags := x.flags ||| flags } else x),
    shares := s.yld.shares ++ [{ due := s.yld.n + (rd 0x201C).toNat, first := first, mass := m }] }

/-- Credit the wet mass of this sample (R218, R220). -/
def yldCredit (s : State) (rd : Nat → Word) (q : Word) (low : Bool) : State :=
  let mass := fMul q fMsS
  let sk := cutTimes s
  let tgt := sk.map (shareStep s)
  let wt := fun (k : Nat) => match tgt.getD k none with
    | some (f, _) => ((s.yld.steps.find? (fun x => x.first == f)).map (fun x => (stepWeights x).getD k 0)).getD 0
    | none => fOne
  let ws := (List.range 8).map wt
  let sum := ws.foldl fAdd 0
  let part := fun (k : Nat) => if feq sum 0 then fMul mass 0x3E000000 else fDiv (fMul mass (ws.getD k 0)) sum
  let fl := creditFlags s low
  let s := (List.range 8).foldl (fun (s : State) k => match tgt.getD k none with
    | some (f, late) => creditShare s rd f k (if late then fl ||| yfLate else fl) (part k)
    | none => if feq (part k) 0 then s else
      s.setYld { s.yld with carry := s.yld.carry ++ [{ at_ := s.yld.n, due := s.yld.n + (rd 0x201C).toNat, mass := part k }] }) s
  let hit := ((List.range 8).filterMap (fun k => if feq (part k) 0 then none else (tgt.getD k none).map (·.1))).eraseDups
  let loss := (yldIn s 21).val
  s.setYld { s.yld with
    steps := s.yld.steps.map (fun (x : YldStep) => if hit.contains x.first then { x with lossW := fAdd x.lossW loss, lossN := x.lossN + 1 } else x) }

/-- A moisture reading weights a mass of a step. -/
def weigh (x : YldStep) (mass m : Word) (valid : Bool) : YldStep :=
  { x with moistW := fAdd x.moistW (fMul mass m), moistM := fAdd x.moistM mass, flags := if valid then x.flags else x.flags ||| yfMoist }

/-- The moisture reading of this sample weights the shares, credited or carried, that were measured MDELAY samples ago (R215). -/
def yldMoist (s : State) : State :=
  let p := yldIn s 1
  let m := if p.valid then p.val else s.yld.moist
  let due := s.yld.shares.filter (fun x => decide (x.due ≤ s.yld.n))
  s.setYld { s.yld with
    moist := m,
    shares := s.yld.shares.filter (fun x => decide (s.yld.n < x.due)),
    carry := s.yld.carry.map (fun (c : YldCarry) => if c.due ≤ s.yld.n ∧ c.moist.isNone then { c with moist := some (m, p.valid) } else c),
    steps := due.foldl (fun st x => st.map (fun (y : YldStep) => if y.first = x.first then weigh y x.mass m p.valid else y)) s.yld.steps }

/-! ### Records (R220–R222) -/

/-- A rounded non-negative value saturating at 65 535. -/
def u16Of (w : Word) (num den : Nat) : Nat := clampN 0 65535 (fRound w num den).toNat

/-- A heading in deg as hundredths, 0 to 35 999. -/
def headOf (w : Word) : Nat := ((fRound w 100 1) % 36000).toNat

/-- The sixteen words of a step's record, and its mean dry yield. Mass whose moisture reading has not come when the step becomes final is weighted by the
last reading. DESIGN CHOICE (log 44): the spec gives no reading for it. -/
def stepRecord (s : State) (x : YldStep) : List Word × Word :=
  let x := (s.yld.shares.filter (fun y => y.first == x.first)).foldl (fun x y => weigh x y.mass s.yld.moist true) x
  let c := x.centre.getD (centreVals s)
  let wet := stepWet x
  let mbar := if feq x.moistM 0 then 0 else fDiv x.moistW x.moistM
  let dry := (List.range 8).map (fun k => x.wet.foldl (fun a g =>
    fAdd a (fMul (g.2.getD k 0) (fDiv (fSub 0x42C80000 mbar) (fSub 0x42C80000 g.1)))) 0)
  let width := c.getD 7 0
  let yk := dry.map (fun d => fMul (fDiv d (fMul width 0x3E000000)) 0x461C4000)
  let y16 := yk.map (fun y => u16Of y 1 1)
  let w := fun (n : Nat) => BitVec.ofNat 32 n
  let dt := ((c.getD 0 0).toNat + (c.getD 1 0).toNat * 2 ^ 32) * 50000
  let fl := x.flags ||| (if (c.getD 8 0) = 0 then 0 else yfTimeHold) ||| (if s.yld.gap then yfGap else 0)
  let loss := if x.lossN = 0 then 0 else fDiv x.lossW (fOfInt x.lossN)
  let pair := fun (k : Nat) => w (y16.getD (2 * k) 0 + y16.getD (2 * k + 1) 0 * 65536)
  let rec_ := [w dt, w (dt / 2 ^ 32), w s.yld.seq, w fl, c.getD 2 0, c.getD 3 0,
    w (headOf (c.getD 4 0) + u16Of (c.getD 5 0) 360 1 * 65536),
    w (u16Of mbar 100 1 + u16Of width 1000 1 * 65536), pair 0, pair 1, pair 2, pair 3, wet, dry.foldl fAdd 0,
    c.getD 6 0 &&& 0xFFFF0000#32, w (u16Of loss 100 1)]
  (rec_, fMul (yk.foldl fAdd 0) 0x3E000000)

/-- The oldest step becomes final: its record joins the ring, whose oldest record is dropped at 512. -/
def stepFinal (s : State) (x : YldStep) : State :=
  let r := stepRecord s x
  let full := decide (512 ≤ s.yld.ring.length)
  let ring := if full then s.yld.ring.drop 1 else s.yld.ring
  s.setYld { s.yld with
    steps := s.yld.steps.drop 1, ring := ring ++ [(s.yld.seq, r.1)], seq := s.yld.seq + 1, gap := false, out2 := r.2,
    shares := s.yld.shares.filter (fun y => y.first != x.first),
    dropped := if full then s.yld.dropped + 1 else s.yld.dropped }

/-- Steps become final in order (R220); a step beyond the 256 held becomes final at once. -/
def yldFinal (rd : Nat → Word) (sk : List Int) : Nat → State → State
  | 0, s => s
  | n + 1, s => match s.yld.steps with
    | [] => s
    | x :: _ => match x.last with
      | none => s
      | some l =>
        let lim : Int := ((l + (rd 0x202C).toNat + (rd 0x201C).toNat : Nat) : Int)
        if sk.all (fun k => decide (lim ≤ k)) || decide (256 < s.yld.steps.length) then yldFinal rd sk n (stepFinal s x) else s

/-- The message window writes that send a record through transmit entry 0: sixteen payload words, then POST. -/
def yldWrites (r : List Word) : List (Nat × Word) :=
  (List.range 16).map (fun k => (0x40080 + 4 * k, r.getD k 0)) ++ [(0x400C0, 1)]

/-- The record in flight is acknowledged, or sent again; the next one is sent when none is in flight (R221). -/
def yldSend (s : State) : State × List (Nat × Word) :=
  let pend := match txEndpoint s 38 0 with
    | some e => s.flag (Fd.MBX_EP_SEND_STAT_PENDING e)
    | none => false
  let code := match txEndpoint s 38 0 with
    | some e => s.fld (Fd.MBX_EP_SEND_STAT_CODE e)
    | none => Code.aborted
  let s := match s.yld.sent with
    | some x =>
      if pend then s
      else if code = Code.ok then s.setYld { s.yld with sent := none, ring := s.yld.ring.erase x }
      else s.setYld { s.yld with sent := none }
    | none => s
  match s.yld.sent, s.yld.ring with
  | none, x :: _ => (s.setYld { s.yld with sent := some x }, yldWrites x.2)
  | _, _ => (s, [])

/-- Carry older than 30 s is moved to the unattributed mass, each portion by its own age (R220). -/
def yldCarry (s : State) : State :=
  let old := fun (c : YldCarry) => decide (c.at_ + 30000 < s.yld.n)
  s.setYld { s.yld with
    unattr := (s.yld.carry.filter old).foldl (fun a c => fAdd a c.mass) s.yld.unattr, carry := s.yld.carry.filter (fun c => !old c) }

/-- One sample of the yield loop at the present tick. -/
def yldSample (s : State) : State := match loopWindow s 38 with
  | none => s
  | some (base, _) =>
    let rd := fun (o : Nat) => s.wordAt (base + o)
    let (s, q) := plateCheck s rd (plateFlow rd (yldIn s 0).val (yldIn s 7).val)
    let (s, low) := yldTau s rd q
    let s := yldTravel s rd low
    let s := yldMoist (yldCredit s rd q low)
    let s := yldCarry (yldFinal rd (cutTimes s) 257 s)
    let (s, wr) := yldSend s
    let s := s.setYld { s.yld with n := s.yld.n + 1 }
    holdNative s 38 [(0, q), (1, s.yld.tau), (2, s.yld.out2)] wr

/-! ### The loss loop (R212) -/

/-- The impact plus suppressed count of a loss channel since the last sample. -/
def lossDelta (s : State) (n : Nat) : Word :=
  let now := (s.pubAt (pubKey 1 ((52 + n) * 64))).val + (s.pubAt (pubKey 1 ((52 + n) * 64 + 5))).val
  now - smGet 0 s.yld.losPrev n

/-- One sample of the loss loop: rotor loss of LOS0 and LOS1 and sieve loss of LOS2 and LOS3, each with the governor's predicted loss, as a percentage of
the calibrated grain flow. Its calibration stands in its window at 0x2000, as the yield loop's does. -/
def lossSample (s : State) : State := match loopWindow s 39 with
  | none => s
  | some (base, _) =>
    let area := s.wordsAt (base + 0x2000) (calLen 4 / 4)
    let rate := fun (n : Nat) => fMul (fMul (fOfInt (lossDelta s n).toNat) (Config.lossFactor area n)) 0x447A0000
    let part := fun (k : Nat) => Config.lossUse k (fAdd (rate (2 * k)) (rate (2 * k + 1))) (s.pubAt (portKey 0 (96 + k))).val
    let out := fMul (fDiv (fAdd (part 0) (part 1)) (s.pubAt (portKey 38 0)).val) 0x42C80000
    let s := s.setYld { s.yld with losPrev := (List.range 4).foldl (fun m n => smPut 0 m n (smGet 0 m n + lossDelta s n)) s.yld.losPrev }
    holdNative s 39 [(0, out)] []

/-! ### The stored map (R221, R224) -/

/-- The stored records of the present start: from the last one that carries GAP. -/
def sinceGap (l : List (Nat × List Word × Word)) : List (Nat × List Word × Word) :=
  l.foldl (fun a x => if bit ((x.2.1).getD 3 0).toNat 5 then [x] else a ++ [x]) []

/-- The application complex already holds this record from the same start. -/
def yldHeld (s : State) (seq : Nat) (r : List Word) : Bool :=
  (sinceGap s.yld.stored).any (fun x => x.1 == seq && (!bit (r.getD 3 0).toNat 5 || x.2.1 == r))

/-- YIELD_RECORD_STORE (R221, R224): the application complex reads a record of loop 38 from endpoint `e`, stores it with its CRC-32C unless
it holds it already, and acknowledges OK. -/
def execYieldRecordStore (e : Fin 64) (s : State) : Out :=
  let e := e.val
  if s.flag (Fd.MBX_EP_CFG_TXL e) && s.fld (Fd.MBX_EP_CFG_TX e) == 38 && s.fld (Fd.MBX_EP_STAT_STATE e) == epFull then
    let r := (List.range 16).map (fun k => s.reg (Ra.MBX_PAYLOAD e k))
    let seq := (r.getD 2 0).toNat
    let s := if yldHeld s seq r then s
      else s.setYld { s.yld with stored := s.yld.stored ++ [(seq, r, crc32c (wordsBytes r))] }
    .next (mbxAck s e Code.ok)
  else .next s

end Sys2Proof.Machine
end

