-- ==== Sys2Proof/Machine/Boot.lean ====
section
/-! DEFINITION. Full module resets and the boot that follows them (R62, R63, R70, R71, R157, R464, R494, R498, R536, R537): what a reset
does first, what it keeps, and boot steps 1 to 8, made at once. -/

namespace Sys2Proof.Machine

/-! ### Before the registers reset -/

/-- A full module reset begins: the recorder's segment ends, the debug port closes, load switches go off or bridge it, and the status strip
finishes its phase. -/
def resetBegin (s : State) (bridge : Bool) : State := stripSave (stripInterrupt (lswReset (debugClose (tabEnd s 3) 2) bridge))

/-! ### What a reset keeps -/

/-- Registers kept through every full module reset, with their bits: those of MRAM, and the reset causes. -/
def keepAlways : List (Nat × Nat) :=
  [Ra.UPD_STAT, Ra.UPD_FENCE, Ra.UPD_TRIAL_S, Ra.UPD_PKG_LO, Ra.UPD_PKG_HI, Ra.UPD_TOTAL, Ra.UPD_RX, Ra.EVR_NEXT, Ra.EVR_OLDEST, Ra.EVR_OVERWR,
    Ra.CE_SET_SPARE 0, Ra.TAB_SEG, Ra.TAB_RING_WR, Ra.CE_SET_SFC 0, Ra.CLK_PLL_STAT, Ra.PWR_GND_STAT, Ra.PWR_SUP_STAT, Ra.CLK_FREQ_EST].map (fun a => (a, allBits)) ++
  [(Ra.EVR_STAT, 1), (Ra.PWR_STAT, 0x400)] ++ (List.range 4).flatMap (fun k =>
    [(Ra.FLR_ROLE k, allBits), (Ra.TAB_HOLD_FIRST k, allBits), (Ra.TAB_HOLD_LAST k, allBits)]) ++
  (List.range 30).map (fun n => (Ra.MFP_MF_CTL n, 0x60000000))

/-- Registers a warm reset keeps as well: the time state (R37), scratch words, the wake source and the temperatures. -/
def keepWarm : List (Nat × Nat) :=
  [(Ra.CLK_TIME_STAT, allBits), (Ra.CLK_TIME_UNC, allBits), (Ra.CLK_TICK_STAT, allBits), (Ra.PWR_STAT, 0xE400)] ++
    calRow 22 Ra.SYS_SCRATCH allBits ++ calRow 24 Ra.THM_SITE allBits ++ calRow 24 Ra.THM_PEAK allBits

/-- The registers after a reset: reset values but for what is kept. Reset causes accumulate; power applied from OFF clears them. -/
def keptRegs (s : State) (cause : Nat) (warm : Bool) : RegFile :=
  let keep := keepAlways ++ (if warm then keepWarm else [])
  let base : State := keep.foldl (fun r x =>
    r.setReg x.1 ((r.reg x.1 &&& ~~~(BitVec.ofNat 32 x.2)) ||| (s.reg x.1 &&& BitVec.ofNat 32 x.2))) ({} : State)
  let old := if cause = 0 then 0 else s.reg Ra.PWR_RST_CAUSE
  let base := if cause = 0 then base.setReg Ra.CLK_PLL_STAT 0 else base
  (base.setReg Ra.PWR_RST_CAUSE (old ||| BitVec.ofNat 32 (2 ^ cause))).regs

/-- Memory after a reset (R573, R15): a warm reset keeps LPDDR5 but its lowest 1 GiB, which boot takes; tile memory, the fusion sequencer's
and the Mirror pair's memory are loaded anew. -/
def keptMem (s : State) (warm : Bool) : SMap Byte :=
  if warm then s.mem.filter (fun x => decide (0x840000000 ≤ x.1 ∧ x.1 < 0xFF0000000)) else []

/-- Device time after a reset (R37, R62): a warm reset keeps it; a wake restores DT from the saved value and the AON time that has passed, less
500 ppm, and the index follows it (R44); power applied from OFF starts at 0. f then is the estimate in MRAM. -/
def keptClk (s : State) (warm : Bool) (wake : Option Nat) : ClkState :=
  if warm then { s.clk with tick := s.liveTick, strm := [], runCfg := [], steerRun := none, steerAt := none, frameAt := none }
  else
    let fp := match wake with
      | some aon => s.clk.dtFp + aon * 2 ^ 32 * 999500 / 1000000
      | none => 0
    { dtFp := fp, tick := fp / 2 ^ 32 / 50000, cyc := s.clk.cyc, f := s.clk.fSaved.getD 0, fSaved := s.clk.fSaved, sfc := s.clk.sfc }

/-- The steps that cameras have seen stay seen over a warm reset (R43). -/
def keptCams (s : State) : CamState := { cam := smMapVals {} (fun _ (x : CamSt) => ({ stepSeen := x.stepSeen } : CamSt)) s.cam.cam }

/-- The recorder after a reset: what lies on UFS stays, and over a warm one the buffer in LPDDR5 (R62, R507, R510). -/
def keptTab (s : State) (warm : Bool) : TabState :=
  let t := s.tab
  let x : TabState := if warm then { buf := t.buf, bufBytes := t.bufBytes, carry := t.carry, blkAt := t.blkAt } else {}
  { x with
    ring := t.ring, ckpts := t.ckpts, blocks := t.blocks, blkSeg := t.blkSeg, blkIdx := t.blkIdx, holds := t.holds, winNum := t.winNum
    frames := t.frames, wantOpen := some 3 }

/-- The state at the beginning of a boot. `warm`: LPDDR5 and the time state are kept; `wake`: AON time since STANDBY in ns. -/
def bootBase (s : State) (cause : Nat) (warm : Bool) (wake : Option Nat) : State :=
  { regs := keptRegs s cause warm
    mem := keptMem s warm
    clk := keptClk s warm wake
    ce := { stored := s.ce.stored, stRtIn := s.ce.stRtIn, stRtOut := s.ce.stRtOut, stOld := s.ce.stOld, stOldIn := s.ce.stOldIn,
            stOldOut := s.ce.stOldOut, stNew := s.ce.stNew, stEng := s.ce.stEng }
    yld := { stored := s.yld.stored }
    gns := { mramPos := s.gns.mramPos, mramEph := s.gns.mramEph, aidsHeld := s.gns.mramEph,
             stepSeen := if warm then s.gns.stepSeen else 0, ppsStep := if warm then s.gns.ppsStep else 0,
             steps := if warm then s.gns.steps else [], ppsFrom := if warm then s.gns.ppsFrom else 0 }
    cam := if warm then keptCams s else {}
    fus := { stepSeen := if warm then s.fus.stepSeen else [] }
    steer := { cal := s.steer.calNext.getD s.steer.cal }
    lsw := if warm then { s.lsw with uvAt := [], overAt := none, req := none, test := none } else { rev := s.lsw.rev }
    saf := { mram := s.saf.mram, seCopy := s.saf.seCopy, cfg := s.saf.cfg, cfgP := s.saf.cfgP, hist := s.saf.hist }
    bst := { s.bst with pend := none, run := none, rep := none, last := if warm then s.bst.last else none }
    evr := { log := s.evr.log, committed := s.evr.committed, histos := if warm then s.evr.histos else s.evr.histosC,
             histosC := s.evr.histosC, commitAt := s.evr.committed.headD 0 }
    tab := keptTab s warm
    rpl := { ckpts := s.rpl.ckpts }
    upd := { s.upd with actStep := 0, nonce := none, dbgEnd := none, opAt := none, batt := [], cnt := s.upd.cnt.filter (fun x => x.1 == UpdCnt.abandon || x.1 == UpdCnt.fall) }
    pm := { sites := if warm then s.pm.sites else [], batALow := s.pm.batALow, batBLow := s.pm.batBLow, wakes := s.pm.wakes, wakeLow := if warm then s.pm.wakeLow else none, stbyReq := warm && s.pm.stbyReq }
    freeCtr := s.freeCtr
    pending := s.pending }

/-- Step 2: the PLL locks and every domain but the camera links' and AON runs (R33, R35, R71). -/
def bootClocks (s : State) : State :=
  let s := showTick (setFreq s s.clk.f) s.clk.tick
  (s.setFlag Fd.CLK_PLL_STAT_LOCKED true).setFld Fd.CLK_DOM_STAT_RUN 0x7FF

/-! ### Step 4: MRAM (R464, R498, R536, R537) -/

/-- The counters as committed last, then the one this boot counts: PCYC, WAKES or RESETS. -/
def bootCounters (s : State) (cause : Nat) : State :=
  let c := fun (k : Nat) => BitVec.ofNat 32 (s.evr.committed.getD k 0)
  let s := ((s.setReg Ra.EVR_OPTIME (c 0)).setReg Ra.EVR_FIELD_S (c 1)).setReg Ra.EVR_PCYC (c 2)
  let s := (s.setReg Ra.EVR_WAKES (c 3)).setReg Ra.EVR_RESETS (c 4)
  s.count (if cause = 0 then Fd.EVR_PCYC_V else if cause = 1 then Fd.EVR_WAKES_V else Fd.EVR_RESETS_V)

/-- The SAFE_STOP latch and its secure-element copy are reconciled (R464), and SAF_LOCK shows them. -/
def bootLatch (s : State) : State :=
  let s := match s.saf.mram, s.saf.seCopy with
    | none, some c => logEvent (s.setSaf { s.saf with mram := some (c, 0) }) Ev.lockout Src.mirror c 0
    | some (c, _), none => s.setSaf { s.saf with seCopy := some c }
    | _, _ => s
  match s.saf.mram with
  | some (c, d) =>
    let s := (s.setFld Fd.SAF_LOCK_CAUSE c).setFld Fd.SAF_LOCK_DETAIL d
    (s.setFlag Fd.SAF_LOCK_LATCHED true).setReg Ra.SAF_LOCK_MASK (BitVec.ofNat 32 (2 ^ c))
  | none => s

/-- A calibration record that no slot holds any more (R537): it is gone, and CAL_MISSING is recorded; one of the safety set is a lock-out with
cause 12. -/
def calMissing (s : State) (x : Nat × Nat) : State :=
  let s := s.setUpd { s.upd with cal := s.upd.cal.filter (fun r => !(r.set == x.1 && r.rec_ == x.2)) }
  let s := logEvent (s.updCount UpdCnt.calMissing) Ev.calMissing Src.unit (x.1 * 2 ^ 24 + x.2) 0
  if x.1 = 6 then lockOut s 12 0 else s

/-- Registers, serial number and histograms take their calibration sets; the undervoltage level of the load switch groups is shipped by SYSV (R554). -/
def bootCal (s : State) : State :=
  let s := ([1, 2, 7, 8, 9, 10, 11, 12, 14] ++ (List.range 224).map (· + 32)).foldl calLoad (calNames s)
  let s := if (s.calRecs 9).isEmpty then s.forN 4 (fun s g => s.setFld (Fd.LSW_GRP_CFG_UV g) (if s.flag Fd.PWR_SUP_STAT_SYSV24 then 180 else 90)) else s
  let s := if (s.calRecs 1).isEmpty then s
    else s.setUpd { s.upd with serial := (s.calWord 1 0).toNat + (s.calWord 1 4).toNat * 2 ^ 32 }
  if (s.calRecs 5).isEmpty then s else s.setSteer { s.steer with cal := steerCal s }

/-- The target of the boot (R70). -/
def bootTarget (s : State) : Nat :=
  if s.saf.mram.isSome || s.saf.seCopy.isSome then Mode.safeStop else if s.flag Fd.UPD_STAT_TRIAL then Mode.activate else Mode.road

/-- Step 4. The records that fail are given. -/
def bootMram (s : State) (cause : Nat) (bad : List (Nat × Nat)) : State :=
  let s := bootCounters s cause
  let tgt := bootTarget s
  let s := logEvent s Ev.reset Src.unit (s.reg Ra.PWR_RST_CAUSE).toNat tgt
  let s := bootCal (bad.foldl calMissing (bootLatch s))
  let s := s.setPm { s.pm with bootTgt := bootTarget s }
  stripBoot (rolesReset s)

/-! ### Step 5: the safety island -/

/-- The Mirror pair image starts; its channels are marked (R159). A discrepancy that the latch holds lasts until its pair has cycled (R452,
R465). -/
def bootMirror (s : State) : State :=
  let s := match s.curSet.part 7 0 with
    | some p => s.setBytes (2 ^ 40 + 2 ^ 20) (s.partBytes p)
    | none => s
  let s := safShowCfg s
  let s := s.setFld Fd.SAF_STAT_STATE (if s.locked then 2 else 1)
  let s := s.forN 4 (fun s i =>
    if (s.saf.cfg.func i == 2 || s.saf.cfg.func i == 4) && !s.saf.cfg.restart i then s.setSafPair i { s.safPair i with wait := true } else s)
  let s := match s.saf.mram with
    | some (2, i) => s.setSafPair i { s.safPair i with disc := true, cycled := false, trip := true }
    | _ => s
  safChannels s

/-! ### Step 6: images and loops (R157) -/

/-- Read `n` words of an unpacked part from word `k`. -/
def partWords (b : List Byte) (k n : Nat) : List Word := (List.range n).map (fun i => Config.partWord b (k + i))

/-- Unpack `n` loops from word `k`: number, engine, slot, window base and size, image length in words, the eight slot registers, the image.
The answer is the loops and the word after them. -/
def unpackLoops (b : List Byte) : Nat → Nat → List StoredLoop × Nat
  | 0, k => ([], k)
  | n + 1, k =>
    let w := fun (i : Nat) => (Config.partWord b (k + i)).toNat
    let len := min (w 5) 65536
    let x : StoredLoop := { loop := w 0 % 128, eng := w 1 % 8, slot := w 2 % 16, base := w 3 % 64, size := w 4 % 65,
                            img := partWords b (k + 14) len, regs := partWords b (k + 6) 8 }
    let r := unpackLoops b n (k + 14 + len)
    (x :: r.1, r.2)

/-- Unpack `n` route entries from word `k`, numbered from 0; reserved bits are not stored (R135). -/
def unpackRoutes (b : List Byte) (out : Bool) (k n : Nat) : SMap (List Word) :=
  (List.range n).foldl (fun m i => smPut [] m i (rtNorm (rtKept out (partWords b (k + 4 * i) 4)))) []

/-- A new loop configuration part replaces the stored placement with its defaults, at its first trial boot (R522). -/
def unpackConfig (s : State) (b : List Byte) : State :=
  let l := unpackLoops b (min (Config.partWord b 0).toNat 128) 3
  let ni := min (Config.partWord b 1).toNat 4096
  let no := min (Config.partWord b 2).toNat 1024
  s.setCe { s.ce with
    stOld := s.ce.stored, stOldIn := s.ce.stRtIn, stOldOut := s.ce.stRtOut, stNew := true,
    stored := l.1, stRtIn := unpackRoutes b false l.2 ni, stRtOut := unpackRoutes b true (l.2 + 4 * ni) no }

/-- The loop configuration of the active set is new: the trial's first boot, with a part 3 that the fallback set does not hold. -/
def configFresh (s : State) : Option (List Byte) :=
  if s.flag Fd.UPD_STAT_TRIAL && s.fld Fd.UPD_STAT_ATTEMPTS == 1 && !s.upd.safTrial then
    match s.curSet.part 3 0 with
    | some p => if (s.setRec s.curSet.fall).part 3 0 = some p then none else some (s.partBytes p)
    | none => none
  else none

/-- After a fallback the configuration that a trial replaced is stored again. -/
def configBack (s : State) : State :=
  if s.ce.stNew && !s.flag Fd.UPD_STAT_TRIAL && s.upd.man.isSome then
    s.setCe { s.ce with stored := s.ce.stOld, stRtIn := s.ce.stOldIn, stRtOut := s.ce.stOldOut, stOld := [], stOldIn := [], stOldOut := [], stNew := false }
  else s

/-- The window of the governor and of the yield loop in blocks of 4 KiB, and the period, phase, MF and PRIV that are theirs whatever a configuration
says (R176, R211, R212). BUDGET 0 stands for their default. -/
def nativeSize (loop size : Nat) : Nat := if loop = 0 then 32 else if loop = 38 then 16 else size
def nativeRegs (s : State) (e i loop : Nat) : State :=
  if loop = 0 ∨ loop = 38 ∨ loop = 39 then
    let s := (s.setFld (Fd.CE_SLOT_SCHED_PERIOD e i) 20).setFld (Fd.CE_SLOT_SCHED_PHASE e i) (if loop = 39 then s.fld (Fd.CE_SLOT_SCHED_PHASE e i) else 0)
    let s := s.setFld (Fd.CE_SLOT_CFG_MF e i) 0
    let s := if loop = 0 then s.setFld (Fd.CE_SLOT_CFG_PRIV e i) 0 else s
    if s.fld (Fd.CE_SLOT_BUDGET_BUDGET e i) = 0 ∧ loop ≠ 39 then s.setFld (Fd.CE_SLOT_BUDGET_BUDGET e i) (if loop = 0 then 6000 else 3000) else s
  else s

/-- A stored loop goes into its slot, LOADED, with its registers and its image. -/
def loadStored (s : State) (x : StoredLoop) : State :=
  let s := slotTake s x.eng x.slot x.loop x.base (nativeSize x.loop x.size)
  let s := ([1, 2, 3, 4, 7] : List Nat).foldl (fun s k => s.setReg (Ra.CE_SLOT_CFG x.eng x.slot + 4 * k) (x.regs.getD k 0)) s
  let s := s.setReg (Ra.CE_SLOT_CFG x.eng x.slot) (x.regs.getD 0 0)
  let s := (s.setFlag (Fd.CE_SLOT_CFG_VALID x.eng x.slot) true).setFld (Fd.CE_SLOT_CFG_LOOP x.eng x.slot) x.loop
  let s := nativeRegs s x.eng x.slot x.loop
  s.setWords (winAddr x.eng x.base) (x.img.take (1024 * x.size))

/-- The Facet code store of a bank from its part: words, little-endian. -/
def loadFacet (s : State) (b : Nat) : State := match s.curSet.part 6 b with
  | some p =>
    let img := s.partBytes p
    let act := (List.range 256).foldl (fun m k => smPut 0 m (b * 256 + k) (BitVec.ofNat 32 (num img (4 * k) 4))) s.vlv.active
    s.setVlv { s.vlv with active := act }
  | none => s

/-- Step 6: loops, routes with the SAFE values of their outputs (R134), engines, Facet stores, the fusion sequencer and the function parameter blocks. -/
def bootImages (s : State) : State :=
  let s := match configFresh s with
    | some b => unpackConfig s b
    | none => configBack s
  let s := s.forN 8 (fun s e => s.setFld (Fd.CE_ENG_STAT_STATE e) (s.ce.stEng.getD e 1))
  let s := s.ce.stored.foldl loadStored s
  let s := s.setCe { s.ce with rtIn := s.ce.stRtIn, rtOut := s.ce.stRtOut }
  let s := s.ce.stored.foldl (fun s x => (s.outRoutes x.loop).foldl (fun s r => s.publish (portKey x.loop (rtOutPort r)) (rtSafe r) false) s) s
  let s := refreshEngines (s.forN 8 loadFacet)
  let s := match s.curSet.part 4 0 with
    | some p => s.setBytes (2 ^ 40) (s.partBytes p)
    | none => s
  let s := (3 :: 4 :: (List.range 224).map (· + 32)).foldl calBoot s
  let s := s.forN 30 (fun s n =>
    (s.setReg (Ra.MFP_MF_OPER n) (s.reg (Ra.MFP_MF_SAFE n))).setReg (Ra.MFP_MF_HOST n) (s.reg (Ra.MFP_MF_SAFE n)))
  fusStart s

/-! ### Steps 7 and 8 -/

/-- Step 7, at the first frame boundary after it (R71): loops with AUTOSTART that serve no function start, in ascending order (R133). -/
def bootLoops (s : State) : State := s.forN 128 (fun s l => match s.slotOf l with
  | some (e, i) =>
    if s.flag (Fd.CE_SLOT_CFG_AUTOSTART e i) && s.fld (Fd.CE_SLOT_CFG_MF e i) == 0 && startCode s l == Code.ok then startLoop s l else s
  | none => s)

/-- Step 8: application cores, CAN, GNSS, the cab panel; the gates follow the mode BOOT. -/
def bootApps (s : State) : State :=
  let s := s.setFld Fd.PWR_STAT_STEP 8
  let s := s.forN 6 (fun s c => if s.flag (Fd.CAN_CTL_EN c) then canEnable s c else s)
  let s := gnsStart (s.setGns { s.gns with started := true })
  let s := if s.flag Fd.DSP_PNL_CTL_EN then panelStart s else s
  modeGates (s.setPm { s.pm with bootCyc := some s.cyc, wdogCyc := s.cyc, appReset := false, loopsDue := true })

/-! ### The boot -/

/-- A boot that a part stops at a step: every output stays off. -/
def bootFailed (s : State) (step : Nat) : State := modeGates ((s.setFld Fd.PWR_STAT_STEP step).setFlag Fd.PWR_STAT_BOOT_FAIL true)

/-- Boot steps 2 to 8 on the state at step 1. `bad` are the calibration records no slot holds. -/
def bootRun (s : State) (cause : Nat) (bad : List (Nat × Nat)) : State :=
  let s := bootParts (bootClocks s)
  match bootStops s with
  | some k => bootFailed s k
  | none => bootApps (bootImages (bootMirror (bootMram s cause bad)))

/-- A warm full module reset with the bit of its cause in PWR_RST_CAUSE (R62). -/
def warmReset (s : State) (cause : Nat) (bridge : Bool) : State := bootRun (bootBase (resetBegin s bridge) cause true none) cause []

end Sys2Proof.Machine
end

