-- ==== Sys2Proof/Machine/Update.lean ====
section
/-! DEFINITION. Updates, calibration and security (R518–R540): block delivery, verification, the Aperture, activation, trial and
confirmation, calibration writes, tokens and the debug port. -/

namespace Sys2Proof.Machine

/-- The store engine and the secure element reach memory as the UFS host controller does. -/
abbrev storeInit : Nat := 0x37

/-! ### Delivery (R523–R526) -/

/-- The key of a block in staging. -/
def stageKey (part blk : Nat) : Nat := part * 2 ^ 22 + blk

/-- The block's bitmap bit. -/
def staged (s : State) (part blk : Nat) : Bool := s.upd.staged.any (fun x => x.1 == stageKey part blk)

/-- Word `w` of a part's bitmap. -/
def bitmapWord (s : State) (part w : Nat) : Nat := (List.range 32).foldl (fun a i => a + b2n (staged s part (32 * w + i)) * 2 ^ i) 0

/-- Part entry `k` of the staged manifest. -/
def stagedPart (s : State) (k : Nat) : Option PartEntry := s.upd.man.bind (fun m => m.parts[k]?)

/-- A manifest block (R523): recorded when it passes; a package already staged keeps its blocks. -/
def takeManifest (s : State) (b : List Byte) : State :=
  let c := manifestCode s b
  if c ≠ Code.ok then updCode s c
  else
    let m := manifestOf b
    let s := updCode (logEvent s Ev.updManifest Src.unit (m.pkg % 2 ^ 32) m.svn) Code.ok
    if s.upd.man.isSome then s
    else
      let s := s.setUpd { s.upd with man := some m, staged := [] }
      let s := if s.updState = Upd.trial then s else s.setUpdState Upd.receiving
      let s := (s.setReg64 Ra.UPD_PKG_LO Ra.UPD_PKG_HI m.pkg).setFld Fd.UPD_STAT_NPARTS m.parts.length
      (s.setReg Ra.UPD_TOTAL (BitVec.ofNat 32 m.total)).setReg Ra.UPD_RX 0

/-- The code of R525's rules 3 to 7 for a block of a part. -/
def blockCode (s : State) (pkg part blk : Nat) : Nat := match s.upd.man with
  | none => Code.refused
  | some m =>
    if m.pkg ≠ pkg then Code.refused
    else if s.updState = Upd.activating ∨ s.updState = Upd.trial then Code.refused
    else match m.parts[part]? with
      | some p => if p.nblocks ≤ blk then Code.badArgument else Code.ok
      | none => Code.badArgument

/-- The state becomes VERIFYING: the parts are read back from now on (R526). -/
def verifyStart (s : State) : State := (s.setUpdState Upd.verifying).setUpd { (s.setUpdState Upd.verifying).upd with opAt := some s.cyc }

/-- A block message of 4 116 bytes is handled (R525); UPD_CODE and UPD_BLK_BMP answer. -/
def blockTake (s : State) (b : List Byte) : State :=
  let part := num b 8 1
  let blk := num b 0xC 4
  if crc32c (b.take 0x1010) ≠ BitVec.ofNat 32 (num b 0x1010 4) then updCode s Code.badArgument
  else if part = 0xFF then takeManifest s ((b.drop 0x10).take 4096)
  else
    let c := blockCode s (num b 0 8) part blk
    if c ≠ Code.ok then updCode s c
    else
      let s := if staged s part blk then s
        else
          let s := s.setUpd { s.upd with staged := smPut [] s.upd.staged (stageKey part blk) ((b.drop 0x10).take 4096) }
          let s := s.setReg Ra.UPD_RX (BitVec.ofNat 32 s.upd.staged.length)
          if allStaged s then verifyStart s else s
      (updCode s Code.ok).setReg Ra.UPD_BLK_BMP (BitVec.ofNat 32 (bitmapWord s part (blk / 32)))

/-- The same, counted by its code. -/
def takeBlock (s : State) (b : List Byte) : State := (blockTake s b).updCount (UpdCnt.block (bits ((blockTake s b).reg Ra.UPD_CODE).toNat 16 16))

/-- UPD_BLK_CMD.GO: the block message at UPD_BLK_LO/HI. DESIGN CHOICE (log 59): R525 names no code for a message that cannot be read; it is FAULT. -/
def blockGo (s : State) : State := match fetchIova s storeInit (s.reg64 Ra.UPD_BLK_LO Ra.UPD_BLK_HI) 4116 with
  | (some b, s) => takeBlock s b
  | (none, s) => (updCode s Code.fault).updCount (UpdCnt.block Code.fault)

/-- UPDATE_BLOCK (R525): UPD_BLK_CMD.GO is written. -/
def execUpdateBlock (s : State) : Out := .next (blockGo s)

/-- The bytes of a staged part. -/
def stagedBytes (s : State) (k : Nat) (p : PartEntry) : List Byte :=
  ((List.range p.nblocks).flatMap (fun i => smGet [] s.upd.staged (stageKey k i))).take p.length

/-- A part read back from staging mismatches: its bits are cleared, and UPD_PART_BAD is recorded. -/
def verifyPart (s : State) (x : Nat × PartEntry) : State :=
  if sha256 (stagedBytes s x.1 x.2) = x.2.sha then s
  else
    let s := s.setUpd { s.upd with staged := s.upd.staged.filter (fun y => y.1 / 2 ^ 22 != x.1) }
    logEvent (s.updCount UpdCnt.verifyBad) Ev.updPartBad Src.unit x.1 (x.2.type * 256 + x.2.index)

/-- While VERIFYING, the parts have been read back (R526): each that mismatches loses its bits; with every part right the state is VERIFIED. -/
def verifyEnd (s : State) : State := match s.upd.man with
  | some m =>
    if s.updState = Upd.verifying then
      let s := ((List.range m.parts.length).zip m.parts).foldl verifyPart (s.setUpd { s.upd with opAt := none })
      let s := s.setReg Ra.UPD_RX (BitVec.ofNat 32 s.upd.staged.length)
      if allStaged s then logEvent (s.setUpdState Upd.verified) Ev.updVerified Src.unit (m.pkg % 2 ^ 32) m.total
      else s.setUpdState Upd.receiving
    else s
  | none => s

/-- UPD_VERIFY_END (R526): the store engine has read every part back, at the latest at 200 MB/s (`updTick`). -/
def execUpdVerifyEnd (s : State) : Out := .next (verifyEnd s)

/-! ### The Aperture and activation (R527, R528) -/

/-- The conditions of R527, one bit each. -/
def apertureBits (s : State) : Nat :=
  let st := s.updState
  b2n (!(stationary s && safStationary s)) + 2 * b2n (!s.upd.battOk) + 4 * b2n (s.flag Fd.UPD_STAT_LOCK) +
    8 * b2n (st != Upd.verified && st != Upd.activating) + 16 * b2n (!s.flag Fd.PWR_STAT_RESERVE_OK) +
    32 * b2n (s.flag Fd.UPD_STAT_SAF_PENDING) + 64 * b2n (!([Mode.road, Mode.service, Mode.activate].contains s.mode))

/-- The Aperture is evaluated and shown. -/
def apertureShow (s : State) : State :=
  let w := apertureBits s
  (s.setFld Fd.UPD_APERTURE_BLOCKED w).setFlag Fd.UPD_APERTURE_MET (w == 0)

/-- A request the module makes itself through SYS_MODE_REQ (R67, R528, R531). -/
def ownRequest (s : State) (m : Nat) : State := modeRequest s (BitVec.ofNat 32 m)

/-- ACTIVATE has been committed: the state becomes ACTIVATING (R528 step 2). -/
def activationStart (s : State) : State :=
  (s.setUpdState Upd.activating).setUpd { (s.setUpdState Upd.activating).upd with actStep := 2, opAt := some s.cyc }

/-- Each frame boundary until step 5: a condition that fails abandons the activation (R528 step 3). -/
def activationCheck (s : State) : State :=
  let w := apertureBits s
  if s.updState = Upd.activating ∧ s.upd.actStep ≠ 0 ∧ w ≠ 0 then
    let s := (s.setUpdState Upd.verified).setUpd { (s.setUpdState Upd.verified).upd with actStep := 0, opAt := none }
    let s := updCode (logEvent (s.updCount UpdCnt.abandon) Ev.updAbandon Src.unit w 0) Code.refused
    ownRequest s Mode.road
  else s

/-- Copy a staged part into the bank not in use, with its manifest. -/
def copyPart (s : State) (old : SetRec) (m : Manifest) (x : Nat × PartEntry) : State :=
  let bank := match old.part x.2.type x.2.index with
    | some p => 1 - p.bank
    | none => 0
  let k := x.2.key * 2 + bank
  s.setUpd { s.upd with banks := smPut [] s.upd.banks k (stagedBytes s x.1 x.2), mans := smPut [] s.upd.mans k m.raw }

/-- The bank of a part after its copy holds what the manifest says (R528 step 2). -/
def copiedOk (s : State) (r : SetRec) (p : PartEntry) : Bool :=
  match (r.parts ++ r.safNext).find? (fun x => x.key == p.key && x.sha == p.sha) with
  | some x => sha256 (s.partBytes x) == p.sha
  | none => false

/-- Steps 2 and 4 of R528: every part is copied into its bank and checked there, and the new bank-set record is written. -/
def copyEnd (s : State) : State := match s.upd.man with
  | some m =>
    if s.updState = Upd.activating ∧ s.upd.actStep = 2 then
      let r := setOfPackage s m
      let s := ((List.range m.parts.length).zip m.parts).foldl (fun a x => copyPart a s.curSet m x) s
      if m.parts.all (copiedOk s r) then (s.putSet (1 - s.setNo) r).setUpd { (s.putSet (1 - s.setNo) r).upd with actStep := 4, opAt := none } else s
    else s
  | none => s

/-- ACTIVATION_COPY_DONE (R528 steps 2 and 4): the copy has ended, at the latest at 100 MB/s (`updTick`). -/
def execActivationCopyDone (s : State) : Out := .next (copyEnd s)

/-- Cycles to move a package's blocks at a rate in MB/s. -/
def packageCyc (s : State) (mbs : Nat) : Nat := match s.upd.man with
  | some m => (m.total * 4096 * (cycS / 1000000) + mbs - 1) / mbs
  | none => 0

/-- At a tick the store engine ends what the least rate of R526 and R528 has given it time for; a verification cut by a reset begins again. -/
def updTick (s : State) : State :=
  let s := if s.updState = Upd.verifying ∧ s.upd.opAt = none then s.setUpd { s.upd with opAt := some s.cyc } else s
  match s.upd.opAt with
  | some t =>
    if s.updState = Upd.verifying then (if s.since t (packageCyc s 200) then verifyEnd s else s)
    else if s.updState = Upd.activating ∧ s.upd.actStep = 2 then (if s.since t (packageCyc s 100) then copyEnd s else s)
    else s
  | none => s

/-- Step 5 of R528, at a frame boundary with MET: the pointer is written with the new set and TRIAL, and the module resets. -/
def activate (s : State) : State :=
  if s.updState = Upd.activating ∧ s.upd.actStep = 4 ∧ apertureBits s = 0 then
    let n := 1 - s.setNo
    let s := (pointer s n true).setFld Fd.UPD_STAT_ATTEMPTS 0
    let s := logEvent s Ev.updActivate Src.unit ((s.setRec n).pkg % 2 ^ 32) n
    warmReset s 6 true
  else s

/-- UPD_ACTIVATE (R528 step 5): at a frame boundary. -/
def execUpdActivate (s : State) : Out := if s.framePend && s.noPf then .next (activate s) else .next s

/-! ### Trial (R531–R533) -/

/-- The module's own checks (R531), as UPD_HEALTH shows them. -/
def healthBits (s : State) : Nat :=
  b2n (s.fld Fd.PWR_STAT_STEP == 0xF) + 2 * b2n (s.fld Fd.SAF_STAT_STATE == 1 && !s.locked) +
    4 * b2n (s.heldSlots.all (fun x => !s.flag (Fd.CE_SLOT_CFG_AUTOSTART x.1 x.2) || s.fld (Fd.CE_SLOT_CFG_MF x.1 x.2) != 0 ||
      s.slotState x.1 x.2 == SlotSt.running)) +
    8 * b2n ((List.range 8).all (fun e => s.engState e != engFailed) && !s.flag Fd.FUS_STAT_FAILED) + 16 * b2n (!s.upd.partBad)

/-- Bring UPD_HEALTH up to date. -/
def healthShow (s : State) : State := s.setReg Ra.UPD_HEALTH (BitVec.ofNat 32 (healthBits s))

/-- CONFIRM is accepted (R531): the pointer with TRIAL clear, the fence, staging, UPD_CONFIRMED, and ROAD is requested. -/
def confirmed (s : State) : State :=
  let pkg := s.curSet.pkg
  let s := (pointer s s.setNo false).setFld Fd.UPD_STAT_ATTEMPTS 0
  let s := match s.upd.man with
    | some m => if m.fence then s.setReg Ra.UPD_FENCE (BitVec.ofNat 32 (max (s.reg Ra.UPD_FENCE).toNat m.svn)) else s
    | none => s
  let s := (stagingFree s).setCe { s.ce with stNew := false, stOld := [], stOldIn := [], stOldOut := [] }
  let s := s.setUpd { s.upd with safTrial := false }
  let s := logEvent s Ev.updConfirmed Src.unit (pkg % 2 ^ 32) (s.reg Ra.UPD_FENCE).toNat
  ownRequest (s.setFlag Fd.UPD_STAT_SAF_PENDING (!s.curSet.safNext.isEmpty)) Mode.road

/-- The trial is under way. -/
def inTrial (s : State) : Bool := s.flag Fd.UPD_STAT_TRIAL && s.updState == Upd.trial

/-- UPD_CMD: ABANDON (R526). -/
def updAbandon (s : State) : State :=
  if s.updState = Upd.activating ∨ s.updState = Upd.trial then updCode s Code.refused else updCode (stagingFree s) Code.ok

/-- UPD_CMD: CONFIRM (R531). -/
def updConfirm (s : State) : State :=
  if inTrial s && healthBits s == 31 then updCode (confirmed (healthShow s)) Code.ok else updCode (healthShow s) Code.refused

/-- UPD_CMD: REJECT (R532), which falls back with reason 4 and resets through PWR_RST_CTRL.FULL. -/
def updReject (s : State) : State := if inTrial s then warmReset (fallBack (updCode s Code.ok) 4) 5 true else updCode s Code.refused

/-- A write of UPD_CMD. -/
def updCmdWrite (s : State) (v : Word) : State :=
  if bits v.toNat 16 16 ≠ 0xD17E then s
  else match bits v.toNat 0 2 with
    | 1 => updAbandon s
    | 2 => updConfirm s
    | 3 => updReject s
    | _ => updCode s Code.badArgument

/-- UPD_ABANDON_CMD (R526): UPD_CMD with its key and ABANDON. -/
def execUpdAbandonCmd (s : State) : Out := .next (updCmdWrite s 0xD17E0001#32)

/-- UPD_CONFIRM (R531): UPD_CMD with its key and CONFIRM. -/
def execUpdConfirm (s : State) : Out := .next (updCmdWrite s 0xD17E0002#32)

/-- UPD_REJECT (R532): UPD_CMD with its key and REJECT. -/
def execUpdReject (s : State) : Out := .next (updCmdWrite s 0xD17E0003#32)

/-- UPD_TRIAL_S has reached 0 without a confirmation (R532): fallback with reason 1. -/
def trialTick (s : State) : State :=
  if inTrial s && s.reg Ra.UPD_TRIAL_S == 0 && s.noPf then warmReset (fallBack s 1) 5 true else s

/-- TRIAL_EXPIRY (R532): the trial clock has run out. -/
def execTrialExpiry (s : State) : Out := .next (trialTick s)

/-- Step 6 of R465 with a safety image waiting (R533): its set with TRIAL, and a reset with cause UPDATE. -/
def safActivate (s : State) : State :=
  let cur := s.curSet
  if s.flag Fd.UPD_STAT_SAF_PENDING && !cur.safNext.isEmpty then
    let n := 1 - s.setNo
    let parts := cur.safNext ++ cur.parts.filter (fun p => !cur.safNext.any (fun x => x.key == p.key))
    let s := s.putSet n { pkg := cur.pkg, parts := parts, fall := s.setNo, ok := true }
    let s := ((pointer s n true).setFld Fd.UPD_STAT_ATTEMPTS 0).setFlag Fd.UPD_STAT_SAF_PENDING false
    let s := s.setUpd { s.upd with safTrial := true }
    let s := logEvent s Ev.updSafActivate Src.unit (((s.setRec n).part 7 0).map (·.bank) |>.getD 0) 0
    warmReset s 6 true
  else s

/-! ### Calibration writes (R534–R536) -/

/-- The set is one of R536. -/
def calDefined (set : Nat) : Bool := decide (1 ≤ set ∧ set ≤ 14) || decide (32 ≤ set ∧ set ≤ 255)

/-- Two ranges share no byte. -/
def apart (a n b m : Nat) : Bool := decide (a + n ≤ b) || decide (b + m ≤ a)

/-- Check 1 of R535 on a submitted record. -/
def calForm (s : State) (b : List Byte) : Bool :=
  let set := num b 0 1
  let ofs := num b 4 4
  let len := num b 8 2
  let size := 0x20 + len + (if num b 0x18 4 = 0 then 0 else 64)
  calDefined set && decide (4 ≤ len ∧ len ≤ 4096 ∧ len % 4 = 0 ∧ ofs % 4 = 0 ∧ ofs + len ≤ calLen set) &&
    num b 0xA 2 == 0 && num b 0x1C 4 == 0 && crc32c (b.take size) == BitVec.ofNat 32 (num b size 4) &&
    (s.upd.cal.filter (fun r => r.set == set)).all (fun r =>
      if r.rec_ = num b 2 2 then r.ofs == ofs && r.data.length == len else apart ofs len r.ofs r.data.length)

/-- Check 2: the signature of factory key KEYID, with SRC, WCNT and DT at 0. -/
def calSigned (s : State) (b : List Byte) : Bool :=
  let k := num b 0x18 4
  let len := num b 8 2
  let msg := b.take 1 ++ [0] ++ (b.drop 2).take 10 ++ List.replicate 12 0 ++ (b.drop 0x18).take (8 + len)
  k == 0 || (decide (k ≤ 2) && s.signedBy Key.factory (k - 1) msg ((b.drop (0x20 + len)).take 64))

/-- R208: a function, or a loop that counts as an enabled function with LIVE while it runs. -/
def liveOk (s : State) (enabled live : Bool) : Bool :=
  if s.mode = Mode.replay then false
  else !enabled || (live && [Mode.service, Mode.road, Mode.fieldManual, Mode.fieldAssist].contains s.mode)

/-- Check 3: the set's acceptance rule (R536). -/
def calAccepts (s : State) (set : Nat) : Bool :=
  let m := s.mode
  if m = Mode.replay then false
  else match set with
    | 1 | 10 => m == Mode.service
    | 2 | 7 | 14 => [Mode.service, Mode.road, Mode.fieldManual].contains m
    | 3 => liveOk s (s.loopState 0 == SlotSt.running) true
    | 4 => liveOk s (s.loopState 38 == SlotSt.running) true
    | 5 => !(s.steer.engaged || m == Mode.fieldAuto || m == Mode.unloadSync || s.locked)
    | 6 => m == Mode.safeStop
    | 8 | 9 | 11 => [Mode.service, Mode.road].contains m
    | 12 | 13 => true
    | n => (calFns s n).all (fun f => liveOk s (s.mfState f != mfDisabled) (s.flag (Fd.MFP_MF_CTL_LIVE f)))

/-- Histogram entries that a record writes keep R499 and R567: a class listed, a monitor that exists, WIDTH above 0, PERIOD at least 1. -/
def histoLimits (s : State) (ofs : Nat) (data : List Byte) : Bool :=
  let area := overlay (overlay (List.replicate 1024 0) (s.calRecs 13)) [(ofs, data)]
  (List.range 64).all (fun h =>
    let w := fun (k : Nat) => num area (16 * h + 4 * k) 4
    let cls := bits (w 1) 28 4
    apart ofs data.length (16 * h) 16 || !bit (w 0) 31 ||
      ([1, 3, 4, 6, 7, 8, 9].contains cls && (cls != 9 || decide (bits (w 1) 0 28 ≤ 33)) && flt 0 (BitVec.ofNat 32 (w 3)) && bits (w 0) 0 8 != 0))

/-- The code of R535. -/
def calCode (s : State) (b : List Byte) : Nat :=
  let data := (b.drop 0x20).take (num b 8 2)
  let set := num b 0 1
  if !calForm s b then Code.badArgument
  else if !calSigned s b then Code.refused
  else if !calAccepts s set || (num b 0x18 4 == 0 && set == 1 && Config.calFactoryOnly (num b 2 2) (num b 4 4) data) then Code.refused
  else if !Config.calLimits set (num b 2 2) (num b 4 4) data || (set == 4 && !yldLimits s (num b 4 4) data) || (set == 5 && !steerLimits s (num b 4 4) data) || (set == 13 && !histoLimits s (num b 4 4) data) then Code.badArgument
  else Code.ok

/-- A committed set takes effect (R209, R263, R468, R499; the others at the next full module reset). -/
def calEffect (s : State) (set ofs len : Nat) : State :=
  if loopSet set then calDeliver s set
  else if set = 5 then s.setSteer { s.steer with calNext := some (steerCal s) }
  else if set = 6 then s.setSaf { s.saf with cfgP := some (safCfgOf s) }
  else if set = 13 then
    s.setEvr { s.evr with histos := (List.range 64).foldl (fun m h =>
      if apart ofs len (16 * h) 16 then m else smPut {} m h (histoOf s h)) s.evr.histos }
  else s

/-- Show the result of a record (UPD_CAL_STAT). -/
def calShow (s : State) (code src set : Nat) : State :=
  s.setReg Ra.UPD_CAL_STAT (BitVec.ofNat 32 (code * 2 ^ 16 + src * 2 ^ 14 + set))

/-- Commit a record of a set, in place of the one of its number: SRC 1 FACTORY, 2 USER; the write count advances (R534). -/
def calStore (s : State) (set r ofs : Nat) (data : List Byte) (key : Nat) : State × CalRec :=
  let old := s.upd.cal.find? (fun x => x.set == set && x.rec_ == r)
  let x : CalRec := {
    set := set, rec_ := r, ofs := ofs, data := data, src := if key = 0 then 2 else 1,
    wcnt := ((old.map (·.wcnt)).getD 0 + 1) % 2 ^ 32, dt := s.dtNs, key := key }
  let s := s.setUpd { s.upd with cal := x :: s.upd.cal.filter (fun y => !(y.set == set && y.rec_ == r)) }
  ((logEvent s Ev.calWrite Src.unit (set * 2 ^ 24 + r) x.wcnt).setReg Ra.UPD_CAL_WCNT (BitVec.ofNat 32 x.wcnt), x)

/-- FUS_PAR_CMD.COMMIT at its frame boundary (R313): stored extrinsic + offset of each sensor with an offset becomes a USER record of set 7. In REPLAY
the recorded commit stores nothing. -/
def parRecords (s : State) : State :=
  if !s.fus.parPend || s.rpl.live.isSome then s
  else s.forN 12 (fun s u =>
    let o := fun (k : Nat) => smGet 0 s.fus.parOff (3 * u + k)
    if o 0 = 0 ∧ o 1 = 0 ∧ o 2 = 0 then s
    else
      let w := (List.range 6).map (fun k => s.reg (Ra.FUS_EXTR (6 * u + k)) + (if k < 3 then 0 else wordOfInt (o (k - 3))))
      let r := Config.extrRec u w
      (calStore s 7 r.1 r.2.1 r.2.2 0).1)

/-- A submitted record is checked and committed. -/
def calSubmit (s : State) (b : List Byte) : State :=
  let set := num b 0 1
  let r := num b 2 2
  let c := calCode s b
  if c ≠ Code.ok then calShow (logEvent s Ev.calRefused Src.unit (set * 2 ^ 24 + r) c) c 0 set
  else
    let x := calStore s set r (num b 4 4) ((b.drop 0x20).take (num b 8 2)) (num b 0x18 4)
    calEffect (calShow x.1 Code.ok x.2.src set) set x.2.ofs x.2.data.length

/-- UPD_CAL_CMD.GO: the record at UPD_CAL_LO/HI, its length as its header gives it. DESIGN CHOICE (log 59): one that cannot be read shows FAULT. -/
def calGo (s : State) : State :=
  let a := s.reg64 Ra.UPD_CAL_LO Ra.UPD_CAL_HI
  match fetchIova s storeInit a 0x20 with
  | (some h, s) =>
    match fetchIova s storeInit a (0x20 + num h 8 2 + (if num h 0x18 4 = 0 then 0 else 64) + 4) with
    | (some b, s) => calSubmit s b
    | (none, s) => calShow s Code.fault 0 0
  | (none, s) => calShow s Code.fault 0 0

/-- CALIBRATION_WRITE (R535): UPD_CAL_CMD with its key and GO. -/
def execCalibrationWrite (s : State) : Out := .next (calGo s)

/-! ### Tokens (R539, R540) -/

/-- A read of UPD_NONCE_LO draws a fresh nonce, current for 10 min. -/
def updNonce (s : State) : State :=
  let lo := s.fresh
  let hi := lo.2.fresh
  let s := (hi.2.setReg Ra.UPD_NONCE_LO lo.1).setReg Ra.UPD_NONCE_HI hi.1
  s.setUpd { s.upd with nonce := some (lo.1.toNat + hi.1.toNat * 2 ^ 32, s.cyc) }

/-- UPD_NONCE_READ (R539): an initiator reads UPD_NONCE_LO. -/
def execUpdNonceRead (init : Fin 58) (s : State) : Out := .next (readInto (updNonce s) init Ra.UPD_NONCE_LO)

/-- A token's parts. -/
def tokKind (b : List Byte) : Nat := num b 0x10 2
def tokLen (b : List Byte) : Nat := num b 0x12 2
def tokSigner (b : List Byte) : Nat := num b 0x14 4
def tokBody (b : List Byte) : List Byte := (b.drop 0x20).take (tokLen b)
def tokType (b : List Byte) : Nat := num (tokBody b) 0 1
def tokIndex (b : List Byte) : Nat := num (tokBody b) 1 1

/-- A key that a token of KIND 2 or 3 may change (R538). -/
def keyChanges (type idx : Nat) : Bool :=
  [Key.package, Key.host, Key.clear, Key.debug, Key.domain].contains type && decide (idx < keySlots type) && !(type == Key.package && idx == 0)

/-- The bytes of a key in a token: Ed25519 public 32, P-256 public 64, a wrapped key as long as it is. -/
def keyBytes (type n : Nat) : Bool := if type = Key.domain then decide (0 < n) else if type = Key.host then n == 64 else n == 32

/-- The token is well formed. The layout of the bodies is the model's own (log 60). -/
def tokForm (b : List Byte) : Bool :=
  let d := tokBody b
  decide (tokLen b ≤ 416) && num b 0x18 8 == 0 && (match tokKind b with
    | 1 => d.length == 4 && decide (num d 0 4 < 4)
    | 2 => keyBytes (tokType b) (d.length - 8) && num d 2 2 == 0 && keyChanges (tokType b) (tokIndex b)
    | 3 => d.length == 4 && num d 2 2 == 0 && keyChanges (tokType b) (tokIndex b)
    | 4 => d.length == 32
    | 5 => d.length == 4 && decide (num d 0 2 ≤ 1) && decide (1 ≤ num d 2 2 ∧ num d 2 2 ≤ 480)
    | _ => false)

/-- The key that must sign: type and index. -/
def tokKey (b : List Byte) : Nat × Nat := match tokKind b with
  | 2 | 3 => if tokType b = Key.package ∨ tokType b = Key.debug then (Key.package, 0) else (Key.owner, 0)
  | 5 => (Key.debug, tokSigner b)
  | _ => (Key.owner, 0)

/-- The nonce of the token is the current one. -/
def nonceCurrent (s : State) (n : Nat) : Bool := match s.upd.nonce with
  | some (x, c) => x == n && !s.since c (600 * cycS)
  | none => false

/-- Everything else a token needs: nonce, serial number, mode, signature, and a wrapped key that unwraps. -/
def tokOk (s : State) (b : List Byte) : Bool :=
  let n := 0x20 + tokLen b
  nonceCurrent s (num b 8 8) && num b 0 8 == s.upd.serial &&
    (if tokKind b = 1 then s.mode != Mode.replay else s.mode == Mode.service) && tokSigner b == (tokKey b).2 &&
    s.signedBy (tokKey b).1 (tokKey b).2 (b.take n) ((b.drop n).take 64) &&
    !(tokKind b == 2 && tokType b == Key.domain && !Config.unwrapOk ((tokBody b).drop 8))

/-- The debug port opens. -/
def debugOpen (s : State) (scope min : Nat) : State :=
  let s := s.setReg Ra.UPD_DBG_STAT (BitVec.ofNat 32 (2 ^ 31 + scope * 2 ^ 30 + min))
  let s := s.setUpd { s.upd with dbgEnd := some (s.cyc + min * 60 * cycS), cnt := smPut 0 s.upd.cnt UpdCnt.dbgScope scope }
  logEvent (s.updCount UpdCnt.dbgOpen) Ev.debugOpen Src.unit scope min

/-- What an accepted token does. -/
def tokEffect (s : State) (b : List Byte) : State :=
  let d := tokBody b
  match tokKind b with
  | 1 => (s.setFlag Fd.UPD_STAT_LOCK (bit (num d 0 4) 0)).setFlag Fd.UPD_STAT_DRIVERLESS (bit (num d 0 4) 1)
  | 2 =>
    let s := s.setKey (tokType b) (tokIndex b) (if tokType b = Key.domain then Config.unwrapKey (d.drop 8) else d.drop 8) (num d 4 4)
    if tokType b = Key.domain then keyAnnounce s (tokIndex b) else s
  | 3 => s.setKey (tokType b) (tokIndex b) [] 0
  | 4 => s.setKey Key.owner 0 d 0
  | _ => debugOpen s (num d 0 2) (num d 2 2)

/-- Show the result of a token; a failure that is no malformation is REFUSED and recorded. -/
def tokShow (s : State) (c : Nat) : State := s.setReg Ra.UPD_TOK_STAT (BitVec.ofNat 32 (c * 2 ^ 16))
def tokDeny (s : State) (kind : Nat) : State := tokShow (logEvent s Ev.tokenDenied Src.unit kind Code.refused) Code.refused

/-- A token is checked and, if it passes, taken. One that carries the current nonce uses it. -/
def tokSubmit (s : State) (b : List Byte) : State :=
  if !tokForm b then tokShow s Code.badArgument
  else
    let ok := tokOk s b
    let s := if nonceCurrent s (num b 8 8) then s.setUpd { s.upd with nonce := none } else s
    if ok then tokShow (tokEffect (logEvent s Ev.tokenOk Src.unit (tokKind b) (tokSigner b)) b) Code.ok
    else tokDeny s (tokKind b)

/-- The token at UPD_TOK_LO/HI. -/
def tokAt (s : State) : Option (List Byte) × State :=
  let a := s.reg64 Ra.UPD_TOK_LO Ra.UPD_TOK_HI
  match fetchIova s storeInit a 0x20 with
  | (some h, s) => fetchIova s storeInit a (0x20 + min 416 (tokLen h) + 64)
  | (none, s) => (none, s)

/-- UPD_TOK_CMD.GO. A token that cannot be read is REFUSED, with KIND 0. -/
def tokGo (s : State) : State := match tokAt s with
  | (some b, s) => tokSubmit s b
  | (none, s) => tokDeny s 0

/-- The token at UPD_TOK_LO/HI, where it is of a KIND, is submitted. -/
def tokOfKind (s : State) (kind : Nat) : State := match (tokAt s).1 with
  | some b => if tokKind b = kind then tokGo s else s
  | none => s

/-- OWNER_FLAGS (R539): a token of KIND 1 is submitted. -/
def execOwnerFlags (s : State) : Out := .next (tokOfKind s 1)

/-- SET_KEY (R539): a token of KIND 2 is submitted. -/
def execSetKey (s : State) : Out := .next (tokOfKind s 2)

/-- REMOVE_KEY (R539): a token of KIND 3 is submitted. -/
def execRemoveKey (s : State) : Out := .next (tokOfKind s 3)

/-- NEW_OWNER_KEY (R539): a token of KIND 4 is submitted. -/
def execNewOwnerKey (s : State) : Out := .next (tokOfKind s 4)

/-- DEBUG_UNLOCK (R540): a token of KIND 5 is submitted. -/
def execDebugUnlock (s : State) : Out := .next (tokOfKind s 5)

/-- DEBUG_CLOSE (R540): UPD_DBG_CLOSE is written with its key and GO. -/
def execDebugClose (s : State) : Out := .next (debugClose s 4)

/-- The minutes that remain of the debug port are shown, rounded up; when they have passed it closes (R540). -/
def debugTick (s : State) : State := match s.upd.dbgEnd with
  | some t => if t ≤ s.cyc then debugClose s 1 else s.setFld Fd.UPD_DBG_STAT_MINUTES ((t - s.cyc + 60 * cycS - 1) / (60 * cycS))
  | none => s

/-- DEBUG_EXPIRY (R540): the minutes of the token have passed. -/
def execDebugExpiry (s : State) : Out := .next (debugTick s)

end Sys2Proof.Machine
end

