-- ==== Sys2Proof/Machine/Recorder.lean ====
section
/-! DEFINITION. The event recorder's own commands (R494–R503) and the Tabroth recorder (R504–R511): segments, checkpoints, blocks, holds and
frame windows. -/

namespace Sys2Proof.Machine

/-! ### The event log (R494, R495, R497) -/

/-- Open records without a repeat for REP_WIN seconds of operating time close. -/
def recordClose (s : State) : State :=
  s.setEvr { s.evr with openRecs := s.evr.openRecs.filter (fun o =>
    decide (s.fld Fd.EVR_OPTIME_V < o.last + s.fld Fd.EVR_CFG_REP_WIN)) }

/-- RECORD_CLOSE (R494). Each second of operating time does the same on its own. -/
def execRecordClose (s : State) : Out := .next (recordClose s)

/-- STORM (R495): a second of OPTIME has ended in which records were withheld. Each second does the same on its own. -/
def execStorm (s : State) : Out := .next (stormRoll s)

/-- EVR_APP_GO is written by a core: its event, or BAD_ARGUMENT. -/
def appEvent (s : State) (core : Nat) : State :=
  let c := s.fld Fd.EVR_APP_CODE_CODE
  if 0x0180 ≤ c ∧ c ≤ 0x01FF then
    logEvent (s.setFld Fd.EVR_STAT_CODE Code.ok) c core (s.reg Ra.EVR_APP_D0).toNat (s.reg Ra.EVR_APP_D1).toNat
  else s.setFld Fd.EVR_STAT_CODE Code.badArgument

/-- EVR_APP_GO (R497): application core `core` writes EVR_APP_GO. -/
def execEvrAppGo (core : Fin 4) (s : State) : Out := .next (appEvent s core)

/-! ### Counters and histograms (R498–R500) -/

/-- The counters' values now. -/
def counters (s : State) : List Nat :=
  [s.fld Fd.EVR_OPTIME_V, s.fld Fd.EVR_FIELD_S_V, s.fld Fd.EVR_PCYC_V, s.fld Fd.EVR_WAKES_V, s.fld Fd.EVR_RESETS_V]

/-- Commit the counters and the histograms. -/
def counterCommit (s : State) : State :=
  s.setEvr { s.evr with committed := counters s, histosC := s.evr.histos, commitAt := s.fld Fd.EVR_OPTIME_V }

/-- 60 s of operating time since the last commit. -/
def counterDue (s : State) : State := if s.evr.commitAt + 60 ≤ s.fld Fd.EVR_OPTIME_V then counterCommit s else s

/-- COUNTER_COMMIT (R498). Each second of operating time does the same on its own. -/
def execCounterCommit (s : State) : Out := .next (counterDue s)

/-- `x` of `1/den` units as FP32. -/
def fScaled (x : Int) (den : Nat) : Word := fOfRat x den

/-- A module monitor (R567): its value as FP32, and whether it is available. BAT_A, BAT_B and the LOGIC_BAT current have no documented register
and are held in the first supply-monitor registers, in 10 mV and 10 mA units. -/
def monitor (s : State) (k : Nat) : Word × Bool :=
  if k < 24 then (fScaled (sint 16 (s.fld (Fd.THM_SITE_TEMP k))) 10, s.flag (Fd.THM_SITE_VALID k))
  else match k with
    | 24 => (fScaled (s.fld Fd.PWR_SUP_STAT_LOGIC_MV) 100, true)
    | 25 => (fScaled (s.fld (Fd.PWR_SUP_MON_V 0)) 100, true)
    | 26 => (fScaled (s.fld (Fd.PWR_SUP_MON_V 1)) 100, true)
    | 27 => (fScaled (s.fld (Fd.PWR_SUP_MON_V 2)) 100, true)
    | 28 => (fScaled (s.fld Fd.THM_PWR_COMPUTE) 100, true)
    | 29 => (fScaled (s.fld Fd.THM_PWR_OUT) 100, true)
    | 30 => (fScaled (s.fld Fd.PWR_STAT_RESERVE_J) 100, true)
    | 31 => (fScaled (sint 8 (s.fld Fd.PWR_GND_STAT_GND1_V)) 100, true)
    | 32 => (fScaled (sint 8 (s.fld Fd.PWR_GND_STAT_GND2_V)) 100, true)
    | 33 => (fScaled (s.fld Fd.LSW_SUM_CUR) 100, true)
    | _ => (0, false)

/-- The quantities that a histogram converts from INT32 (R500), by route class and INDEX: raw codes and counts, words, states and times. -/
def srcIsInt (cls idx : Nat) : Bool := match cls with
  | 1 => let u := idx / 64
         let q := idx % 64
         if u < 52 then q != 0 else if u < 60 then q != 3 && q != 4 else false
  | 3 => let g := idx / 64
         let q := idx % 64
         if g == 0 then false else if g < 5 then decide (q < 4) || q == 6 else if g == 7 then decide (3 ≤ q) else g == 8
  | 4 => idx == 1 || idx == 5
  | 6 => decide (3 ≤ idx % 8)
  | 7 => let g := idx / 256
         let q := idx % 256
         if g < 4 then decide (q < 4) || q == 7 else if g == 4 then q == 3 else if g == 5 then true else q == 3 || q == 7 || q == 10
  | 8 => idx % 2 == 1
  | _ => false

/-- The value of a histogram's source at the boundary, as FP32 and whether it is valid (R499, R500). -/
def histoVal (s : State) (src : Nat) : Word × Bool :=
  let cls := bits src 28 4
  let idx := bits src 0 28
  if cls = 9 then monitor s idx
  else
    let v := if cls = 6 then s.mfpPub (idx / 8) (idx % 8) else s.livePub (pubKey cls idx)
    (if srcIsInt cls idx then fOfInt v.val.toInt else v.val, v.valid)

/-- One histogram takes a value. -/
def histoTake (x : Histo) (v : Word) (valid : Bool) (dt : Nat) : Histo :=
  if !valid || fIsNaN v then
    { x with invalid := satU 32 (x.invalid + 1), sat := x.sat || x.invalid + 1 == 2 ^ 32 }
  else
    let q := fDiv (fSub v x.lo) x.width
    let b := if fle 0x42000000 q then 31 else if fle q 0 then 0 else (min 31 (fFloorScaled q 1 1)).toNat
    let n := smGet 0 x.bins b + 1
    let x := { x with bins := smPut 0 x.bins b (satU 32 n), sat := x.sat || n == 2 ^ 32 }
    let x := if !x.any || flt v x.minV then { x with minV := v, minDt := dt } else x
    let x := if !x.any || flt x.maxV v then { x with maxV := v, maxDt := dt } else x
    { x with any := true }

/-- The histograms due at a major frame boundary sample; in REPLAY none does. -/
def histoSample (s : State) : State :=
  if s.rpl.live.isSome then s
  else s.setEvr { s.evr with histos := s.evr.histos.map (fun y =>
    if y.2.en && s.clk.sfc % y.2.period == 0 then
      let v := histoVal s y.2.src
      (y.1, histoTake y.2 v.1 v.2 s.dtNs)
    else y) }

/-! ### Clearing (R501) -/

/-- A read of EVR_NONCE_LO draws a fresh nonce. -/
def evrNonce (s : State) : State :=
  let lo := s.fresh
  let hi := lo.2.fresh
  let s := (hi.2.setReg Ra.EVR_NONCE_LO lo.1).setReg Ra.EVR_NONCE_HI hi.1
  s.setEvr { s.evr with nonce := some (lo.1.toNat + hi.1.toNat * 2 ^ 32), nonceCyc := s.cyc }

/-- EVR_NONCE_READ (R501): an initiator reads EVR_NONCE_LO. -/
def execEvrNonceRead (init : Fin 58) (s : State) : Out := .next (readInto (evrNonce s) init Ra.EVR_NONCE_LO)

/-- The oldest SEQ present, or the next where none is. -/
def oldestSeq (s : State) : Nat :=
  let n := s.fld Fd.EVR_NEXT_SEQ
  (s.evr.log.filter (fun x => x.2.valid)).foldl (fun a x => if (n + 2 ^ 32 - a) % 2 ^ 32 < (n + 2 ^ 32 - x.2.seq) % 2 ^ 32 then x.2.seq else a) n

/-- The clear token's form, and everything else it needs. -/
def clearForm (b : List Byte) : Bool := decide (num b 0x10 4 < 4) && allZero ((b.drop 0x18).take 40)
def clearNonce (s : State) (b : List Byte) : Bool := s.evr.nonce == some (num b 8 8) && !s.since s.evr.nonceCyc (600 * cycS)
def clearOk (s : State) (b : List Byte) : Bool :=
  clearNonce s b && s.mode == Mode.service && num b 0 8 == s.upd.serial && decide (num b 0x14 4 < 4) &&
    s.signedBy Key.clear (num b 0x14 4) (b.take 64) ((b.drop 64).take 64)

/-- Clear what SCOPE names: VALID of every slot, or every histogram's contents. -/
def clearScope (s : State) (scope : Nat) : State :=
  let s := if bit scope 0 then
      (s.setEvr { s.evr with log := [], openRecs := [] }).setFld Fd.EVR_OLDEST_SEQ (s.fld Fd.EVR_NEXT_SEQ)
    else s
  if bit scope 1 then
    s.setEvr { s.evr with histos := s.evr.histos.map (fun y =>
      (y.1, ({ en := y.2.en, src := y.2.src, lo := y.2.lo, width := y.2.width, period := y.2.period } : Histo))) }
  else s

/-- A clear is refused: CLEAR_DENIED with its code and the key ID. -/
def clearDeny (s : State) (code key : Nat) : State := (logEvent s Ev.clearDenied Src.unit code key).setFld Fd.EVR_CLR_STAT_CODE code

/-- A clear token is checked: LOG_CLEAR and OK, or CLEAR_DENIED and its code. -/
def clearSubmit (s : State) (b : List Byte) : State :=
  let key := num b 0x14 4
  if !clearForm b then clearDeny s Code.badArgument key
  else
    let ok := clearOk s b
    let s := if clearNonce s b then s.setEvr { s.evr with nonce := none } else s
    if ok then
      let first := oldestSeq s
      let s := writeRecord (clearScope s (num b 0x10 4)) Ev.logClear Src.unit (num b 0x10 4 * 2 ^ 24 + key % 2 ^ 24) first
      (s.setFld Fd.EVR_CLR_STAT_CODE Code.ok).count Fd.EVR_CLR_STAT_ACCEPTED
    else clearDeny s Code.refused key

/-- EVR_CLR_CMD.GO: the token at EVR_CLR_LO/HI; one that cannot be read is refused. -/
def clearGo (s : State) : State := match fetchIova s storeInit (s.reg64 Ra.EVR_CLR_LO Ra.EVR_CLR_HI) 128 with
  | (some b, s) => clearSubmit s b
  | (none, s) => clearDeny s Code.refused 0

/-- LOG_CLEAR (R501): EVR_CLR_CMD is written with its key and GO. -/
def execLogClear (s : State) : Out := .next (clearGo s)

/-! ### The Loupe cursor (R502, R503) -/

/-- The next record present at or after SEQ `c`: the one nearest to it. -/
def nextPresent (s : State) (c : Nat) : Option EvRec :=
  (s.evr.log.filter (fun x => x.2.valid && decide ((x.2.seq + 2 ^ 32 - c) % 2 ^ 32 < 2 ^ 31))).foldl (fun a x => match a with
    | none => some x.2
    | some y => if (x.2.seq + 2 ^ 32 - c) % 2 ^ 32 < (y.seq + 2 ^ 32 - c) % 2 ^ 32 then some x.2 else a) none

/-- What a cursor gives: state 0 OK, 1 SKIP, 2 END; the record; the number passed over. -/
def loupe (s : State) (c : Nat) : Nat × Option EvRec × Nat := match nextPresent s c with
  | some r => if r.seq = c then (0, some r, 0) else (1, some r, (r.seq + 2 ^ 32 - c) % 2 ^ 32)
  | none => (2, none, 0)

/-- A window latches the record at its cursor. -/
def loupeLatch (s : State) (w : Nat) : State :=
  let c := s.fld (Fd.EVR_LOUPE_CUR_V w)
  let x := loupe s c
  let ws := match x.2.1 with
    | some r => evWords r
    | none => List.replicate 8 0
  let s := s.forN 8 (fun s k => s.setReg (Ra.EVR_LOUPE_DATA w k) (ws.getD k 0))
  let s := (s.setFld (Fd.EVR_LOUPE_CTL_STATE w) x.1).count (Fd.EVR_LOUPE_CTL_SKIPPED w) x.2.2
  if x.1 = 1 then s.setFld (Fd.EVR_LOUPE_CUR_V w) (c + x.2.2) else s

/-- LOUPE_LATCH (R502): an initiator reads DATA0 of window `w`. -/
def execLoupeLatch (init : Fin 58) (w : Fin 4) (s : State) : Out := .next (readInto (loupeLatch s w) init (Ra.EVR_LOUPE_DATA w 0))

/-- The cursor of window `w` advances. -/
def loupeNext (s : State) (w : Nat) : State := s.setFld (Fd.EVR_LOUPE_CUR_V w) (s.fld (Fd.EVR_LOUPE_CUR_V w) + 1)

/-- LOUPE_NEXT (R502): NEXT is written to EVR_LOUPE[w]_CTL. -/
def execLoupeNext (w : Fin 4) (s : State) : Out := .next (loupeNext s w)

/-- Records from a cursor, at most `n`: the records, the cursor after them and the number passed over. -/
def loupeRead (s : State) : Nat → Nat → List EvRec × Nat × Nat
  | 0, c => ([], c, 0)
  | n + 1, c =>
    match loupe s c with
    | (_, some r, k) =>
      let x := loupeRead s n ((c + k + 1) % 2 ^ 32)
      (r :: x.1, x.2.1, x.2.2 + k)
    | (_, none, _) => ([], c, 0)

/-- A histogram as a 192-byte block (R503). -/
def histoBlock (x : Histo) : List Byte :=
  let w := leBytes 4
  w x.src ++ w x.lo.toNat ++ w x.width.toNat ++ w (b2n x.en * 2 ^ 31 + b2n x.sat * 2 ^ 30 + x.period % 256) ++ w x.invalid ++
    w x.minV.toNat ++ w x.maxV.toNat ++ w 0 ++ leBytes 8 x.minDt ++ leBytes 8 x.maxDt ++ List.replicate 16 0 ++
    (List.range 32).flatMap (fun b => w (smGet 0 x.bins b))

/-- A LOG_READ (R503): the code and the response. -/
def logRead (s : State) (p : List Byte) : Nat × List Byte :=
  let region := num p 0 1
  let cnt := num p 1 1
  let cur := num p 4 4
  let head := fun (c n k : Nat) => leBytes 4 c ++ leBytes 2 n ++ leBytes 2 (min 65535 k)
  if region = 0 then
    let x := loupeRead s (min 128 cnt) cur
    (Code.ok, head x.2.1 x.1.length x.2.2 ++ x.1.flatMap (fun r => wordsBytes (evWords r)))
  else if region = 1 then
    let n := min (min 21 cnt) (64 - cur)
    (Code.ok, head (cur + n) n 0 ++ (List.range n).flatMap (fun i => histoBlock (smGet {} s.evr.histos (cur + i))))
  else if region = 2 then
    let n := min 1 cnt
    let ws := counters s ++ [oldestSeq s, s.fld Fd.EVR_NEXT_SEQ, s.fld Fd.EVR_OVERWR_COUNT]
    (Code.ok, head 0 n 0 ++ (if n = 1 then ws.flatMap (leBytes 4) else []))
  else (Code.badArgument, [])

/-! ### Tabroth segments and checkpoints (R506, R509) -/

/-- A register inside the replay boundary (R8): the control engines', the function parameter blocks', the fusion sequencer's, the valve drive's,
and those of endpoints that belong to loops. -/
def bndReg (s : State) (a : Nat) : Bool :=
  let w := a / 0x10000
  (decide (0x4010 ≤ w ∧ w ≤ 0x4017) && !decide (a % 0x10000 = 0xF0C)) || w == 0x4032 || w == 0x4050 || w == 0x40B0 ||
    (w == 0x4004 && (if a % 0x10000 < 0x800 then loopEndpoint s (a % 0x10000 / 0x20)
      else decide (0x8000 ≤ a % 0x10000 ∧ a % 0x10000 < 0x9000) && loopEndpoint s (a % 0x10000 % 0x1000 / 0x40)))

/-- A byte of tile memory, or of the fusion sequencer's or the Mirror pair's own memory. -/
def bndByte (a : Nat) : Bool := decide (0x50000000 ≤ a ∧ a < 0x50200000) || decide (2 ^ 40 ≤ a)

/-- The state of the boundary now. -/
def bndOf (s : State) : Bnd :=
  { tick := s.clk.tick, cyc := s.cyc, sfc := s.clk.sfc, mode := s.mode, regs := s.regs.filter (fun x => bndReg s x.1),
    tile := s.mem.filter (fun x => bndByte x.1), pub := s.pub, stage := s.stage, gw := s.gw, ce := s.ce, gov := s.gov, mfp := s.mfp,
    yld := s.yld, steer := s.steer, saf := s.saf, fus := s.fus, vlv := s.vlv, can := s.can }

/-- Take a checkpoint: number `num` of the present segment. -/
def takeCkpt (s : State) (num : Nat) : State :=
  let c : Ckpt := { seg := s.fld Fd.TAB_SEG_V, num := num, part := s.fld Fd.SYS_ID_PART, major := s.fld Fd.SYS_ID_MAJOR, bnd := bndOf s }
  let s := if s.flag Fd.TAB_STAT_DIGEST_NOW && decide (s.fld Fd.TAB_STAT_FILL < 10) then
      tabRec (s.setFlag Fd.TAB_STAT_DIGEST_NOW false) TabT.mark TabM.outLevel [0] else s
  let s := s.setTab { s.tab with ckptFrames := 0, ckpts := s.tab.ckpts ++ [(s.clk.tick, tabBlockNow s)] }
  let s := tabRec s TabT.ckpt num [b2n (digestNow s)]
  s.setRpl { s.rpl with ckpts := s.rpl.ckpts ++ [c] }

/-- Frames between checkpoints. -/
def ckptInt (s : State) : Nat := clampN 500 60000 (s.fld Fd.TAB_CFG_CKPT_INT)

/-- The number of the next checkpoint of the present segment. -/
def ckptNext (s : State) : Nat := (s.rpl.ckpts.filter (fun c => c.seg == s.fld Fd.TAB_SEG_V)).length

/-- CKPT_INT frames have passed since the last checkpoint of the open segment. -/
def ckptDue (s : State) : State :=
  if s.tab.segOpen && s.framePend && decide (ckptInt s ≤ s.tab.ckptFrames) && s.rpl.live.isNone then takeCkpt s (ckptNext s) else s

/-- CHECKPOINT (R506). A frame boundary does the same on its own. -/
def execCheckpoint (s : State) : Out := .next (ckptDue s)

/-- A new segment may open at this frame boundary (R509). -/
def segMayOpen (s : State) : Bool :=
  !s.tab.segOpen && s.flag Fd.TAB_CFG_EN && s.framePend && s.rpl.live.isNone && s.mode != Mode.replay && enginesRun s &&
    (s.tab.wantOpen != some 1 || decide (s.fld Fd.TAB_STAT_FILL < 10))

/-- A segment opens with a checkpoint where it may (R509). -/
def segOpen (s : State) : State :=
  if segMayOpen s then
    let s := (s.setFld Fd.TAB_SEG_V (s.fld Fd.TAB_SEG_V + 1)).setFlag Fd.TAB_STAT_RECORDING true
    takeCkpt (s.setTab { s.tab with segOpen := true, wantOpen := none }) 0
  else s

/-- TAB_SEGMENT_OPEN (R509). A frame boundary does the same on its own. -/
def execTabSegmentOpen (s : State) : Out := .next (segOpen s)

/-- The recorder at a frame boundary, before anything else is done at it: a segment opens, or a checkpoint is due (R506, R509). -/
def tabBoundary (s : State) : State := ckptDue (segOpen s)

/-- A full buffer ends the segment with reason 1 (R509). -/
def tabFull (s : State) : State := if tabBufSize ≤ s.tab.bufBytes then tabEnd s 1 else s

/-- TAB_GAP (R509): a segment ends: reason 1 when the buffer is full (a tick boundary does the same on its own), 6 on a UFS write error. The other reasons
end it with the command that causes them. -/
def execTabGap (reason : Fin 8) (s : State) : Out :=
  if reason.val = 6 then .next ((tabEnd s 6).count Fd.TAB_UFS_ERR_V)
  else if reason.val = 1 then .next (tabFull s)
  else .next s

/-- A write of TAB_CFG: clearing EN ends the segment with reason 4. -/
def tabCfgWrite (s : State) (v : Word) : State :=
  let s := plainWrite s Ra.TAB_CFG v
  if s.flag Fd.TAB_CFG_EN then s else tabEnd s 4

/-! ### Blocks and holds (R507, R510) -/

/-- The records that begin in `n` payload bytes. -/
def takeBytes : Nat → List TabRec → List TabRec
  | _, [] => []
  | n, r :: l => if n = 0 then [] else r :: takeBytes (n - r.bytes) l

/-- A record's bytes in the stream (R504): TYPE, FLAGS, LEN, TICK, then its payload, the unit and the data words. -/
def recBytes (r : TabRec) : List Byte :=
  leBytes 1 r.type ++ leBytes 1 0 ++ leBytes 2 (8 + 4 * r.data.length) ++ leBytes 4 r.tick ++ leBytes 8 r.unit ++ r.data.flatMap (leBytes 4)

/-- The blocks of UFS LUN 2: 128 GB. -/
abbrev ringBlocks : Nat := 1953125

/-- A block is held (R510). -/
def blockHeld (s : State) (k : Nat) : Bool := s.tab.holds.any (fun h => decide (h.2.fromBlk ≤ k ∧ k ≤ h.2.toBlk))

/-- The ring after a block was written: the oldest blocks that no hold keeps are written over. -/
def ringTrim (s : State) : State :=
  let keep := ringBlocks - heldBlocks s.tab.holds
  s.setTab { s.tab with ring := s.tab.ring.filter (fun x => decide (s.tab.blocks < x.1 + keep) || blockHeld s x.1) }

/-- Holds whose time has not passed take the block that ends the ring now. -/
def holdGrow (s : State) (tick : Nat) : State := s.forN 4 (fun s h => match s.tab.holds.find? (fun x => x.1 == h) with
  | some x =>
    if tick ≤ x.2.toTick ∧ heldBlocks s.tab.holds < holdBlocks then
      (s.setTab { s.tab with holds := smPut noHold s.tab.holds h { x.2 with toBlk := s.tab.blocks } }).setFld (Fd.TAB_HOLD_LAST_V h) s.tab.blocks
    else s
  | none => s)

/-- The segment that the next block belongs to: that of a record whose rest it begins with, else of the oldest record. -/
def nextSeg (s : State) : Nat := if s.tab.carry.isEmpty then (s.tab.buf.head?.map (·.seg)).getD (s.fld Fd.TAB_SEG_V) else s.tab.blkSeg

/-- The records that the next block can take, and whether more of its segment can still come. -/
def nextRecs (s : State) : List TabRec := s.tab.buf.takeWhile (fun r => r.seg == nextSeg s)
def nextOpen (s : State) : Bool := s.tab.segOpen && nextSeg s == s.fld Fd.TAB_SEG_V

/-- A block is ready: full, or the last of its segment. -/
def blockReady (s : State) : Bool :=
  let n := s.tab.carry.length + (nextRecs s).foldl (fun a r => a + r.bytes) 0
  decide (65504 ≤ n) || (decide (0 < n) && !nextOpen s)

/-- Blocks written within the last second. -/
def blocksLast (s : State) : List Nat := s.tab.blkAt.filter (fun t => !s.since t cycS)

/-- The next block goes to the ring (R507): its header, with the CRC-32C of the whole block, and its records. -/
def blockWrite (s : State) : State :=
  let seg := nextSeg s
  let l := takeBytes (65504 - s.tab.carry.length) (nextRecs s)
  let bytes := s.tab.carry ++ l.flatMap recBytes
  let used := min 65504 bytes.length
  let first := (l.head?.map (·.tick)).getD s.liveTick
  let idx := if seg = s.tab.blkSeg then s.tab.blkIdx + 1 else 0
  let last := !nextOpen s && decide (l.length = (nextRecs s).length ∧ bytes.length ≤ 65504)
  let flags := b2n (l.any (fun r => r.type == TabT.ckpt)) + 2 * b2n last + 4 * b2n (!s.tab.carry.isEmpty)
  let hdr := fun (crc : Nat) => leBytes 4 seg ++ leBytes 4 idx ++ leBytes 8 first ++ leBytes 2 used ++ leBytes 2 flags ++ leBytes 4 crc ++ leBytes 8 0
  let crc := (crc32c (hdr 0 ++ padTo 0 65504 (bytes.take used))).toNat
  let n := s.tab.bufBytes - used
  let s := holdGrow s first
  let s := s.setTab { s.tab with
    buf := s.tab.buf.drop l.length, bufBytes := n, carry := bytes.drop used, blocks := s.tab.blocks + 1, blkSeg := seg, blkIdx := idx
    blkAt := s.cyc :: blocksLast s
    ring := smPut {} s.tab.ring s.tab.blocks { seg := seg, hdr := hdr crc, recs := l } }
  let s := (s.setFld Fd.TAB_STAT_FILL (min 100 (n * 100 / tabBufSize))).setReg Ra.TAB_RING_WR (BitVec.ofNat 32 (s.tab.blocks % ringBlocks))
  ringTrim (s.count Fd.TAB_BLOCKS_V)

/-- Blocks per second that stay within 4 MB/s (R507). -/
abbrev blockLimit : Nat := 4 * 10 ^ 6 / 65536

/-- TAB_BLOCK_WRITE (R507): a block that is ready goes from the buffer to the ring, within 4 MB/s over the last second; `ok` is false on a UFS write error, which
ends the segment with reason 6. -/
def execTabBlockWrite (ok : Bool) (s : State) : Out :=
  if !blockReady s || decide (blockLimit ≤ (blocksLast s).length) then .next s
  else if !ok then .next ((tabEnd s 6).count Fd.TAB_UFS_ERR_V)
  else .next (blockWrite s)

/-- Power-fail step 5: every block left goes to the ring (R73, R507). -/
def tabFlush : Nat → State → State
  | 0, s => s
  | n + 1, s => if blockReady s then tabFlush n (blockWrite s) else s

/-- Once a second: TAB_RATE, in kB/s, and its peak. -/
def tabRate (s : State) : State :=
  let r := (blocksLast s).length * 65536 / 1000
  (s.setReg Ra.TAB_RATE (BitVec.ofNat 32 r)).setReg Ra.TAB_PEAK_RATE (BitVec.ofNat 32 (max r (s.reg Ra.TAB_PEAK_RATE).toNat))

/-- A write of TAB_HOLD[h] + 4 with its key and GO releases the hold. -/
def holdRelease (s : State) (h : Nat) (v : Word) : State :=
  if bits v.toNat 16 16 = 0x4F1D ∧ bit v.toNat 0 = true then
    let s := s.setTab { s.tab with holds := s.tab.holds.filter (fun x => x.1 != h) }
    (s.setReg (Ra.TAB_HOLD_FIRST h) 0).setReg (Ra.TAB_HOLD_LAST h) 0
  else s

/-- HOLD_RELEASE (R510). -/
def execHoldRelease (h : Fin 4) (s : State) : Out := .next (holdRelease s h 0x4F1D0001#32)

/-! ### Frame windows (R511) -/

/-- The frame (camera, slot, arrival stamp) is older. -/
def frameInsert (x : Nat × Nat × Nat) : List (Nat × Nat × Nat) → List (Nat × Nat × Nat)
  | [] => [x]
  | y :: l => if x.2.2 ≤ y.2.2 then x :: y :: l else y :: frameInsert x l

/-- A ring slot of camera `n` is being written now. -/
def slotBusy (s : State) (n i : Nat) : Bool := (s.camSt n).cur.any (fun x => x.2.any (fun f => f.slot == i))

/-- The frames that lie in the rings of a window's cameras with arrival stamps in its span, oldest first. -/
def winScan (s : State) (w : TabWin) : List (Nat × Nat × Nat) :=
  let l := ((List.range 6).filter (fun n => bit w.cams n)).flatMap (fun n =>
    (List.range (camSlots s n)).filterMap (fun i => match readIova s 0x36 (camSlotAddr s n i) 8 with
      | some b => if !slotBusy s n i && decide (w.fromDt ≤ leNat b ∧ leNat b ≤ w.toDt) then some (n, i, leNat b) else none
      | none => none))
  l.foldr frameInsert []

/-- The bytes of a frame in a ring slot: the descriptor and the pixels it counts, and the statistics record. -/
def winData (s : State) (n i : Nat) : List Byte :=
  let d := (readIova s 0x36 (camSlotAddr s n i) 64).getD []
  d ++ (readIova s 0x36 (camSlotAddr s n i + 64) (num d 0x38 4)).getD [] ++ (readIova s 0x36 (statAddr s n i) 4160).getD []

/-- Frames are copied in order as far as the credit goes: those copied, newest first, those left, and the credit left. -/
def winCopy (s : State) (win : Nat) : List (Nat × Nat × Nat) → Nat → List WinFrame → List WinFrame × List (Nat × Nat × Nat) × Nat
  | [], _, done => (done, [], 0)
  | x :: l, c, done =>
    let d := winData s x.1 x.2.1
    if d.length ≤ c then winCopy s win l (c - d.length) ({ win := win, cam := x.1, data := d } :: done) else (done, x :: l, c)

/-- The newest frames that fit into `n` bytes: LUN 3 holds 64 GB. -/
def framesFit : Nat → List WinFrame → List WinFrame
  | _, [] => []
  | n, f :: l => if f.data.length ≤ n then f :: framesFit (n - f.data.length) l else []

/-- The running window at a tick boundary: at its first the rings are searched; frames are copied at 400 MB/s. -/
def winTick (s : State) : State := match s.tab.window with
  | some w =>
    let w := if w.scanned then w else { w with scanned := true, todo := winScan s w }
    let r := winCopy s w.num w.todo (w.credit + 20000) []
    s.setTab { s.tab with
      window := some { w with todo := r.2.1, credit := r.2.2 }
      frames := if r.1.isEmpty then s.tab.frames else framesFit (64 * 10 ^ 9) (r.1 ++ s.tab.frames) }
  | none => s

/-- The running window has ended: its time has passed and its frames are copied; those overwritten before are counted. `now`: DT in ns. -/
def winEnd (s : State) (now : Nat) : State := match s.tab.window with
  | some w =>
    if w.scanned && w.todo.isEmpty && decide (w.toDt ≤ now) then
      let s := (s.setTab { s.tab with window := none }).setFld Fd.TAB_WIN_STAT_V 0
      logEvent (s.setReg Ra.TAB_WIN_MISSING (BitVec.ofNat 32 w.missing)) Ev.frameWindow Src.tabroth w.num w.missing
    else s
  | none => s

/-- FRAME_WINDOW (R511), `off` DTB cycles into the tick. A tick boundary does the same on its own. -/
def execFrameWindow (off : Fin 8192) (s : State) : Out := .next (winEnd s (s.dtSub off))

/-- The recorder at a tick boundary. -/
def tabTick (s : State) : State :=
  let s := winTick (tabFull s)
  winEnd s s.dtNs

/-! ### At a major frame boundary (R508) -/

/-- Frames of the open segment are counted, and a buffer more than half full forces DIGEST. -/
def tabFrame (s : State) : State :=
  if s.tab.segOpen then
    let s := s.setTab { s.tab with ckptFrames := s.tab.ckptFrames + 1 }
    if 50 < s.fld Fd.TAB_STAT_FILL ∧ s.flag Fd.TAB_STAT_DIGEST_NOW = false ∧ s.flag Fd.TAB_CFG_OUT = false then
      (tabRec (s.setFlag Fd.TAB_STAT_DIGEST_NOW true) TabT.mark TabM.outLevel [1]).count Fd.TAB_DIG_SWITCH_V
    else s
  else s

end Sys2Proof.Machine
end

