-- ==== Sys2Proof/Machine/Power.lean ====
section
/-! DEFINITION. Full module resets by source (R35, R62, R65, R75, R446), start-up from OFF and from STANDBY (R68, R70–R72, R381), and the
power-fail sequence (R73, R74, R566). -/

namespace Sys2Proof.Machine

/-- The module is powered and not asleep. -/
def State.powered (s : State) : Bool := decide (Mode.boot ≤ s.mode)

/-- RESET_REQ_N holds the module in reset. -/
def State.held (s : State) : Bool := s.pm.rstLow.isSome

/-- A full module reset may start: powered, no power-fail sequence (it runs to its end, R74), and not in reset already. -/
def mayReset (s : State) : Bool := s.powered && s.noPf && !s.held

/-- A warm full module reset from a source of R62, where one may start. -/
def fullReset (s : State) (cause : Nat) (bridge : Bool) : State := if mayReset s then warmReset s cause bridge else s

/-! ### Reset sources -/

/-- PLL_LOSS_OF_LOCK (R35): the loss is counted, and the module resets with cause PLL; a module without power has no PLL. -/
def execPllLossOfLock (s : State) : Out :=
  if s.powered then .next (fullReset (s.count Fd.CLK_PLL_STAT_LOSSES) 4 true) else .next s

/-- DEBUG_RESET (R62, R540): the debug port, while open with SCOPE 1, asks for a reset. -/
def execDebugReset (s : State) : Out := if s.flag Fd.UPD_DBG_STAT_OPEN && s.flag Fd.UPD_DBG_STAT_SCOPE then .next (fullReset s 7 true) else .next s

/-- LOCKSTEP_MISMATCH (R446): every safety output goes off, the hardware line sets the secure element copy with cause 6, and the module resets
into SAFE_STOP. -/
def execLockstepMismatch (s : State) : Out :=
  if s.powered then
    let s := safOutsOff s
    .next (fullReset (s.setSaf { s.saf with seCopy := some (s.saf.seCopy.getD 6) }) 8 false)
  else .next s

/-- A write of PWR_RST_CTRL asks for a full reset with its key. -/
def rstCtrlFull (v : Word) : Bool := bits v.toNat 16 16 == 0x5A3C && bit v.toNat 1

/-- HOST_FULL_RESET (R62): PWR_RST_CTRL.FULL is written with its key. -/
def execHostFullReset (s : State) : Out := .next (fullReset s 5 true)

/-! ### RESET_REQ_N (R65) -/

/-- RESET_REQ_ASSERT (R65): the input has been low for `us`. Less than 20 µs is ignored. With `held` it is still low, and the module stays in
reset; the command without `held` for a module in reset is its release, which starts the boot. -/
def execResetReqAssert (us : Word) (held : Bool) (s : State) : Out :=
  if s.held then (if held then .next s else .next (bootRun (s.setPm { s.pm with rstLow := none }) 2 []))
  else if us.toNat < 20 ∨ s.flag Fd.PWR_STAT_RST_STUCK = true ∨ mayReset s = false then .next s
  else if held then
    let s := modeGates (bootBase (resetBegin s true) 2 true none)
    .next (s.setPm { s.pm with rstLow := some (s.cyc - us.toNat * cycUs) })
  else .next (warmReset s 2 true)

/-- RESET_REQ_STUCK (R65): low for 10 s: the module boots, records RESET_STUCK, sets RST_STUCK and ignores the input. -/
def execResetReqStuck (s : State) : Out := match s.pm.rstLow with
  | some t =>
    if s.since t (10 * cycS) then
      let s := (s.setPm { s.pm with rstLow := none }).setFlag Fd.PWR_RST_CAUSE_STUCK true
      .next (logEvent ((bootRun s 3 []).setFlag Fd.PWR_STAT_RST_STUCK true) Ev.resetStuck Src.unit 0 0)
    else .next s
  | none => .next s

/-- RESET_REQ_REARM (R65): high for 100 ms: the input is armed again. -/
def execResetReqRearm (s : State) : Out := .next (s.setFlag Fd.PWR_STAT_RST_STUCK false)

/-! ### Start-up (R70–R72) -/

/-- Installed parts whose bytes in UFS fail their check from now on. -/
def dropParts (s : State) (bad : List (Byte × Byte)) : State :=
  s.setUpd { s.upd with banks := s.upd.banks.filter (fun x => !(bad.any (fun p => x.1 / 2 == p.1.toNat * 256 + p.2.toNat))) }

/-- POWER_APPLIED (R71): power is applied from OFF (or the module stands at step 1 with power just applied): a cold boot with DT 0 and FREE. `bad`
are the calibration records (set, record) that no slot holds any more, `badParts` the installed parts (type, index) that fail their check. -/
def execPowerApplied (bad : List (Byte × Half)) (badParts : List (Byte × Byte)) (s : State) : Out :=
  if s.mode = Mode.off ∨ (s.mode = Mode.boot ∧ s.bootStep = 1 ∧ s.held = false) then
    .next (bootRun (bootBase (resetBegin (dropParts s badParts) false) 0 false none) 0 (bad.map (fun x => (x.1.toNat, x.2.toNat))))
  else .next s

/-- The reserve's usable energy in 0.01 J: RESERVE_OK while it is at least 30 J. -/
def reserveShow (s : State) (res : Nat) : State := (s.setFld Fd.PWR_STAT_RESERVE_J res).setFlag Fd.PWR_STAT_RESERVE_OK (decide (3000 ≤ res))

/-- The reserve's usable energy (0.01 J) and capacitance (10 µF) measured at boot step 9 (R560). -/
def reserveMeasured (s : State) (res cap : Nat) : State :=
  let s := (reserveShow s res).setFld Fd.PWR_RSV_STAT_CAP_UF cap
  let low := decide (res < 3300)
  let s := s.setFlag Fd.PWR_RSV_STAT_LOW low
  if low then logEvent s Ev.reserveFail Src.unit res 0 else s

/-- The boot ends: STEP is 0xF, the target mode is committed, and the fleet radio starts when it is enabled (R70, R71, R327). -/
def bootEnd (s : State) : State :=
  let tgt := if s.locked then Mode.safeStop else s.pm.bootTgt
  let s := s.setFld Fd.PWR_STAT_STEP 0xF
  let s := modeCommit (s.setPm { s.pm with bootCyc := none }) tgt
  if s.flag Fd.FLR_CFG_EN then fleetEnable s else s

/-- BOOT_COMPLETE (R70, R72, R560): at a frame boundary of step 8 the reserve holds `res` (0.01 J), at least 30 J, in `cap` (10 µF units); the
start-up test that failed, if any, is given, and locks out. -/
def execBootComplete (res cap : Half) (failed : Option (Fin 16)) (s : State) : Out :=
  if s.mode = Mode.boot ∧ s.bootStep = 8 ∧ s.atFrame = true ∧ s.noPf = true ∧ 3000 ≤ res.toNat ∧ s.flag Fd.PWR_STAT_RESERVE_FAIL = false then
    let s := reserveMeasured s res.toNat cap.toNat
    let s := match failed with
      | some t => lockOut s 11 t.val
      | none => s
    .next (bootEnd s)
  else .next s

/-- 5 s after step 8 the reserve has not reached 30 J (R72). -/
def reserveTick (s : State) : State := match s.pm.bootCyc with
  | some c =>
    if s.mode = Mode.boot ∧ s.since c (5 * cycS) = true ∧ s.flag Fd.PWR_STAT_RESERVE_FAIL = false ∧ s.flag Fd.PWR_STAT_RESERVE_OK = false then
      logEvent (s.setFlag Fd.PWR_STAT_RESERVE_FAIL true) Ev.reserveFail Src.unit (s.fld Fd.PWR_STAT_RESERVE_J) 0
    else s
  | none => s

/-- RESERVE_TIMEOUT (R72). -/
def execReserveTimeout (s : State) : Out := .next (reserveTick s)

/-! ### Wake from STANDBY (R37, R68, R381) -/

/-- A wake: source 1 WAKE_IN, 2 CAN, 3 AON timer; `aon` ns of AON time since STANDBY. -/
def wakeUp (s : State) (src aon : Nat) : State :=
  let s := s.setPm { s.pm with wakes := (src :: s.pm.wakes).take 4 }
  bootRun ((bootBase (resetBegin s false) 1 false (some aon)).setFld Fd.PWR_STAT_WAKE_SRC src) 1 []

/-- WAKE_IN_WAKE (R68): WAKE_IN has been above its high level for 10 ms. -/
def execWakeInWake (aon : Long) (s : State) : Out :=
  if s.mode = Mode.standby ∧ s.flag Fd.PWR_WAKE_CFG_WAKE_IN = true then .next (wakeUp s 1 aon.toNat) else .next s

/-- AON_TIMER_WAKE (R68): PWR_WAKE_TIMER has elapsed. -/
def execAonTimerWake (aon : Long) (s : State) : Out :=
  let n := s.fld Fd.PWR_WAKE_TIMER_SECONDS
  if s.mode = Mode.standby ∧ s.flag Fd.PWR_WAKE_CFG_TIMER = true ∧ n ≠ 0 ∧ n * 10 ^ 9 ≤ aon.toNat then .next (wakeUp s 3 aon.toNat) else .next s

/-- A classical frame is the wake frame of a controller (R381): identifier (with IDE in bit 31), DLC and data. -/
def wakeFrame (s : State) (c : Nat) (id : Word) (dlc : Nat) (data : List Byte) : Bool :=
  let m := s.reg (Ra.CAN_WUF_MASK c)
  let d := leBytes 4 (s.reg (Ra.CAN_WUF_DMASK c 0)).toNat ++ leBytes 4 (s.reg (Ra.CAN_WUF_DMASK c 1)).toNat
  bit id.toNat 31 == s.flag (Fd.CAN_WUF_CFG_IDE c) && (id &&& m &&& 0x1FFFFFFF#32) == (s.reg (Ra.CAN_WUF_ID c) &&& m &&& 0x1FFFFFFF#32) &&
    (!s.flag (Fd.CAN_WUF_CFG_DLC_CHK c) || s.fld (Fd.CAN_WUF_CFG_DLC c) == dlc) &&
    (!s.flag (Fd.CAN_WUF_CFG_DATA_CHK c) || (data.zip d).any (fun x => (x.1 &&& x.2) != 0))

/-- CAN_SELECTIVE_WAKE (R381, R68): a classical frame on a watched controller, or `err`, more than 31 frame errors there. -/
def execCanSelectiveWake (c : Fin 6) (id : Word) (dlc : Fin 16) (data : List Byte) (err : Bool) (aon : Long) (s : State) : Out :=
  if s.mode = Mode.standby ∧ bit (s.fld Fd.PWR_WAKE_CFG_CAN) c = true ∧ (err || wakeFrame s c id dlc data) = true then
    let s := wakeUp s 2 aon.toNat
    .next (if err then s.setFlag (Fd.CAN_STAT_WAKE_ERR c) true else s)
  else .next s

/-! ### Power fail (R73, R74) -/

/-- Step 1: PF, POWER_FAIL, SO0–SO3 off, the panel's fast off, the strip's last phase. `stby` is the STANDBY path, whose off is the normal one. -/
def pfBegin (s : State) (mv res : Nat) (stby : Bool) : State :=
  let s := s.setPm { s.pm with pf := some { at_ := s.cyc, stby := stby } }
  let s := logEvent (s.setFlag Fd.PWR_STAT_PF true) Ev.powerFail Src.unit mv res
  stripInterrupt ((if stby then panelStop else panelFast) (safOutsOff s))

/-- POWER_FAIL (R73): LOGIC_BAT (`mv`) has stayed below 6.0 V for 1 ms; the reserve holds `res` (0.01 J). In STANDBY the module goes off at once;
on the STANDBY path the sequence ends in OFF. -/
def execPowerFail (mv res : Half) (s : State) : Out :=
  if s.mode = Mode.standby then .next (s.setFld Fd.SYS_MODE_STAT_MODE Mode.off)
  else if s.powered = false ∨ 6000 ≤ mv.toNat then .next s
  else
    let s := (reserveShow s res.toNat).setFld Fd.PWR_SUP_STAT_LOGIC_MV (mv.toNat / 10)
    match s.pm.pf with
    | some p => .next (s.setPm { s.pm with pf := some { p with stby := false } })
    | none => .next (pfBegin s mv.toNat res.toNat false)

/-- Step 2: outputs off, CAN frames not in arbitration aborted, the radio off. -/
def pfOutputs (s : State) : State :=
  let s := modeGates s
  let s := s.forN 6 (fun s c => canRetireAll s c (fun f => !f.arb) Code.aborted)
  if s.linkSt = flOff then s else linkOff s

/-- Step 3, at a frame boundary: the engines stop, the segment closes. The strip's running phase, cut short at PF, is over by then. -/
def pfStop (s : State) : State := tabEnd (s.setPm { s.pm with stopped := true }) 3

/-- Step 4: the commits; the frequency estimate is saved where the time state is not FREE (R575), the position where there is one, with the ephemerides
(R238). -/
def pfCommit (s : State) : State :=
  let s := if s.timeState = tFree then s else s.setClk { s.clk with fSaved := some s.clk.f }
  let f := s.gns.fix
  let s := s.setGns { s.gns with mramPos := if f.valid then some ((f.lat, f.lon, f.hgt), s.cyc) else s.gns.mramPos, mramEph := s.gns.aidsHeld }
  counterCommit (stripSave s)

/-- LOGIC_BAT is above 6.5 V (R74). -/
def supplyIsBack (s : State) : Bool := decide (650 < s.fld Fd.PWR_SUP_STAT_LOGIC_MV)

/-- Step 6: every rail goes off; STANDBY, OFF, or a reset where the supply has returned (R74). With RESET_REQ_N still low the module stays in that
reset (R65). -/
def pfOff (s : State) (p : PfSeq) : State :=
  if p.stby then
    let s := modeResult s Code.ok
    let s := (s.setFld Fd.SYS_MODE_STAT_PREV s.mode).setFld Fd.SYS_MODE_STAT_MODE Mode.standby
    let s := (s.setPm { s.pm with pf := none, stbyReq := false, wakeLow := none }).setFlag Fd.PWR_STAT_PF false
    let s := s.setFld Fd.CLK_DOM_STAT_RUN 0x2000
    if p.back then wakeUp s 1 0 else s
  else if supplyIsBack s then
    if s.held then
      let low := s.pm.rstLow
      let s := modeGates (bootBase (resetBegin s false) 10 true none)
      s.setPm { s.pm with rstLow := low }
    else warmReset s 10 false
  else
    let s := (s.setFld Fd.SYS_MODE_STAT_PREV s.mode).setFld Fd.SYS_MODE_STAT_MODE Mode.off
    let s := (s.setPm { s.pm with pf := none }).setFlag Fd.PWR_STAT_PF false
    s.setFld Fd.CLK_DOM_STAT_RUN 0

/-- Note the last step done; PWR_PF_TIME[k − 1] is its time since PF in µs. -/
def pfNote (s : State) (k : Nat) : State := match s.pm.pf with
  | some p => (s.setPm { s.pm with pf := some { p with step := k } }).setFld (Fd.PWR_PF_TIME_V (k - 1)) ((s.cyc - p.at_) / cycUs)
  | none => s

/-- The sequence at a tick boundary, each step at its latest time but step 2, made at the first tick, and step 3, at the first frame boundary.
Step 5 flushes what the recorder still holds, and is skipped after a thermal shutdown (R566). -/
def pfTick (s : State) : State := match s.pm.pf with
  | some p =>
    match p.step with
    | 1 => pfNote (pfOutputs s) 2
    | 2 => if s.atFrame then pfNote (pfStop s) 3 else s
    | 3 => if s.since p.at_ (100 * cycMs) then pfNote (pfCommit s) 4 else s
    | 4 => if s.since p.at_ (300 * cycMs) then pfNote (if s.pm.hot then s else tabFlush (s.tab.buf.length + 2) s) 5 else s
    | _ => if s.since p.at_ (400 * cycMs) then pfOff s p else s
  | none => s

/-! ### Thermal shutdown (R75) -/

/-- The lowest site at or above the shutdown level. -/
def hotSite (s : State) : Option Nat := (List.range 24).find? (fun k => bit (smGet {} s.pm.sites k).lvl 2)

/-- A site has reached 125 °C (R75, R566): the safe state, the latch with cause 9, and compute stops: engines, application cores, inference jobs. -/
def thermalOff (s : State) : State := match hotSite s with
  | some k =>
    if s.powered && !s.pm.hot then
      let s := safOutsOff (lockOut s 9 (k % 16))
      let s := s.setFus { s.fus with running := false, runJ := [], readyJ := [] }
      s.setPm { s.pm with hot := true, stopped := true }
    else s
  | none => s

/-- THERMAL_SHUTDOWN (R75). -/
def execThermalShutdown (s : State) : Out := .next (thermalOff s)

/-- Every site is below 120 °C again: a warm full reset into SAFE_STOP. -/
def thermalBack (s : State) : State := if s.pm.hot && (hotSite s).isNone then fullReset s 9 false else s

/-- THERMAL_RECOVERY_RESET (R75). -/
def execThermalRecoveryReset (s : State) : Out := .next (thermalBack s)

end Sys2Proof.Machine
end

