-- ==== Sys2Proof/Machine/Unload.lean ====
section
/-! DEFINITION. Coordinated unloading: arming, the link processor's check, the end, and the loss of the partner (R60, R347–R349). -/

namespace Sys2Proof.Machine

/-- Ticks of a superframe. -/
abbrev sfTicks : Nat := 2000

/-- The major frame before S of superframe `n`. -/
def frameBefore (s : State) (n : Nat) : Bool := decide (s.liveTick < n * sfTicks) && decide (n * sfTicks ≤ s.liveTick + 200)

/-- Fields of the partner's last UNLOAD record. -/
def partPhase (s : State) : Nat := bits (s.flr.part.getD 2 0).toNat 8 8
def partEnd (s : State) : Nat := (s.flr.part.getD 3 0).toNat

/-- Superframes since the partner's last record; 16 while there was none. -/
def partSilent (s : State) : Nat := match s.flr.partSf with
  | some n => (s.sfn + 2 ^ 32 - n) % 2 ^ 32
  | none => 16

/-- END is requested: PHASE 3 with END = SFN + 3, the earlier END in force. -/
def unloadEndReq (s : State) (sf : Nat) : State :=
  if s.mode = Mode.unloadSync then
    (s.setFld Fd.FLR_UNL_STAT_PHASE 3).setFlr { s.flr with unlEnd := some (match s.flr.unlEnd with
      | some e => min e sf
      | none => sf) }
  else s

/-- A write of FLR_UNL_CFG: ARM starts PHASE 1, or takes it back before the start; END requests the end. -/
def unlCfgWrite (s : State) (v : Word) : State :=
  let was := s.flag Fd.FLR_UNL_CFG_ARM
  let s := plainWrite s Ra.FLR_UNL_CFG v
  let now := s.flag Fd.FLR_UNL_CFG_ARM
  let s := if now && !was && s.mode != Mode.unloadSync then
      ((s.setFld Fd.FLR_UNL_STAT_PHASE 1).setFld Fd.FLR_UNL_STAT_CODE Code.ok).setFlr { s.flr with part := [], partSf := none, unlEnd := none }
    else if was && !now && s.fld Fd.FLR_UNL_STAT_PHASE == 1 then s.setFld Fd.FLR_UNL_STAT_PHASE 0
    else s
  if bit v.toNat 30 then unloadEndReq s ((s.sfn + 3) % 2 ^ 32) else s

/-- UNLOAD_ARM (R348 step 2): the application writes FLR_UNL_ID, FLR_UNL_START and PARTNER, and sets ARM. -/
def execUnloadArm (id start : Word) (partner : Fin 64) (s : State) : Out :=
  let s := (s.setReg Ra.FLR_UNL_ID id).setReg Ra.FLR_UNL_START start
  .next (unlCfgWrite s (BitVec.ofNat 32 (2 ^ 31 + partner.val * 2 ^ 24)))

/-- The unload is off: PHASE 4, REFUSED (R348 step 5). -/
def unloadRefused (s : State) : State := (s.setFld Fd.FLR_UNL_STAT_PHASE 4).setFld Fd.FLR_UNL_STAT_CODE Code.refused

/-- The checks of R348 step 3. -/
def unloadReady (s : State) : Bool :=
  let st := (s.reg Ra.FLR_UNL_START).toNat
  s.timeState == tLocked && !s.flag Fd.CLK_TIME_STAT_TICK_ALIGN && s.flr.partSf == some ((st + 2 ^ 32 - 1) % 2 ^ 32) && partPhase s == 1 &&
    s.flr.part.getD 0 0 == s.reg Ra.FLR_UNL_ID && s.flr.part.getD 1 0 == s.reg Ra.FLR_UNL_START

/-- UNLOAD_SYNC_CHECK (R348 step 3): in the major frame before S of START the link processor checks, and requests UNLOAD_SYNC with ORIGIN 2. -/
def execUnloadSyncCheck (s : State) : Out :=
  if s.flag Fd.FLR_UNL_CFG_ARM && s.fld Fd.FLR_UNL_STAT_PHASE == 1 && frameBefore s (s.reg Ra.FLR_UNL_START).toNat then
    if unloadReady s && !s.flag Fd.SYS_MODE_STAT_PENDING then .next (modeRequest s 0x88#32) else .next (unloadRefused s)
  else .next s

/-- UNLOAD_END_REQUEST (R349): FLR_UNL_CFG.END is written. -/
def execUnloadEndRequest (s : State) : Out := .next (unloadEndReq s ((s.sfn + 3) % 2 ^ 32))

/-- UNLOAD_EXIT_REQUEST (R349): in the major frame before S of END the link processor requests the originating mode. -/
def execUnloadExitRequest (s : State) : Out := match s.flr.unlEnd with
  | some e =>
    if s.mode = Mode.unloadSync ∧ frameBefore s e = true ∧ s.flag Fd.SYS_MODE_STAT_PENDING = false then
      .next (modeRequest s (BitVec.ofNat 32 (0x80 + s.pm.orig)))
    else .next s
  | none => .next s

/-- PARTNER_LOSS (R349): in UNLOAD_SYNC the partner has been silent for three superframes, or its record carries PHASE 4: reported to the safety
island. -/
def execPartnerLoss (s : State) : Out :=
  if s.mode = Mode.unloadSync ∧ (3 ≤ partSilent s ∨ partPhase s = 4) then .next (s.setFlr { s.flr with lossRep := true }) else .next s

/-- At a tick boundary: the partner's END is adopted where it is earlier, and FLR_UNL_STAT follows the partner's records. -/
def unloadTick (s : State) : State :=
  let s := if s.mode = Mode.unloadSync ∧ partPhase s = 3 ∧ partEnd s ≠ 0 then unloadEndReq s (partEnd s) else s
  if s.liveTick % sfTicks = 0 then
    (s.setFlag Fd.FLR_UNL_STAT_PARTNER_OK (decide (partSilent s ≤ 1))).setFld Fd.FLR_UNL_STAT_SILENT (min 15 (partSilent s - 1))
  else s

/-- The safety island takes the module out of UNLOAD_SYNC (R60). -/
def unloadMustEnd (s : State) : Bool :=
  s.mode == Mode.unloadSync && (s.flag Fd.CLK_TIME_STAT_HOLD_LIM || s.timeState == tFree ||
    (s.timeState == tConverging && s.clk.stepPend.isSome) || s.flr.lossRep)

/-- It does so: PHASE 4, a pending request ends with REFUSED, MF27 ramps, and the originating mode follows at the first frame boundary at which it
is done (R57, R58, R60). -/
def unloadExit (s : State) : State :=
  if unloadMustEnd s && !s.pm.exit then
    let s := mfClear ((modeDisplace s).setFld Fd.FLR_UNL_STAT_PHASE 4) [26]
    if mfAllDone s [26] then modeOwn s s.pm.orig else s.setPm { s.pm with exit := true }
  else s

end Sys2Proof.Machine
end

