-- ==== Sys2Proof/Machine/Supply.lean ====
section
/-! DEFINITION. Ground studs, supply levels, temperature sites, throttling and the output-stage estimate (R557, R558, R562–R566). -/

namespace Sys2Proof.Machine

/-! ### Ground studs (R557) -/

/-- LOST and the voltage (10 mV, signed) of stud `g`. -/
def gndShow (s : State) (g : Nat) (lost : Bool) (v : Nat) : State :=
  (s.setFlag (if g = 0 then Fd.PWR_GND_STAT_GND1_LOST else Fd.PWR_GND_STAT_GND2_LOST) lost).setFld
    (if g = 0 then Fd.PWR_GND_STAT_GND1_V else Fd.PWR_GND_STAT_GND2_V) v

/-- GROUND_STUD_LOSS (R557): the stud's voltage (10 mV, signed) has been beyond 0.5 V for 1 ms. With both lost the power-fail sequence runs. -/
def execGroundStudLoss (g : Fin 2) (v : Byte) (s : State) : Out :=
  if 50 < v.toInt.natAbs ∧ s.powered = true ∧ s.flag (if g.val = 0 then Fd.PWR_GND_STAT_GND1_LOST else Fd.PWR_GND_STAT_GND2_LOST) = false then
    let s := logEvent (gndShow s g true v.toNat) Ev.inputFault Src.unit (62 + g.val) 5
    if s.flag Fd.PWR_GND_STAT_GND1_LOST && s.flag Fd.PWR_GND_STAT_GND2_LOST && s.noPf then
      .next (pfBegin s (10 * s.fld Fd.PWR_SUP_STAT_LOGIC_MV) (s.fld Fd.PWR_STAT_RESERVE_J) false)
    else .next s
  else .next s

/-- GROUND_STUD_RETURN (R557): within 0.2 V for 100 ms. -/
def execGroundStudReturn (g : Fin 2) (v : Byte) (s : State) : Out :=
  if v.toInt.natAbs ≤ 20 ∧ s.flag (if g.val = 0 then Fd.PWR_GND_STAT_GND1_LOST else Fd.PWR_GND_STAT_GND2_LOST) = true then
    .next (logEvent (gndShow s g false v.toNat) Ev.inputOk Src.unit (62 + g.val) 0)
  else .next s

/-! ### Supply levels (R553, R558) -/

/-- Show a supply voltage: LOGIC_BAT in PWR_SUP_STAT, BAT_A and BAT_B in the supply monitors, in 10 mV. -/
def supShow (s : State) (inp mv : Nat) : State :=
  if inp = 0 then s.setFld Fd.PWR_SUP_STAT_LOGIC_MV (mv / 10) else s.setFld (Fd.PWR_SUP_MON_V (inp - 1)) (mv / 10)

/-- Set or clear the bit of an input in a field of PWR_SUP_STAT: bit 2 LOGIC_BAT, 1 BAT_A, 0 BAT_B. -/
def supBit (s : State) (f : Fld) (inp : Nat) (on : Bool) : State :=
  s.setFld f (setBits (s.fld f) (2 - inp) 1 (b2n on))

/-- BAT_B falls below 6 V or is reversed, or recovers: the converters follow; reversed, READY of every bank clears (R425, R553). -/
def batBChange (s : State) : State :=
  let s := vlvGates s
  if batBRev s then vlvLive s (fun s => s.forN 8 (fun s b => readySet s b false)) else s

/-- SUPPLY_LEVEL_CROSSING (R553, R558): input `inp` (0 LOGIC_BAT, 1 BAT_A, 2 BAT_B) crosses `lvl` (0: 40 V, 1: 9 V, 2: 6 V, 3: reversal), into the
condition where `on`, out of it otherwise; its voltage is then `mv`. With LOGIC_BAT reversed the module is unpowered: a running one by way of POWER_FAIL,
one in STANDBY at once. -/
def execSupplyLevelCrossing (inp : Fin 3) (lvl : Fin 4) (on : Bool) (mv : Half) (s : State) : Out :=
  let s := supShow s inp mv.toNat
  match lvl.val with
  | 0 =>
    let s := supBit s Fd.PWR_SUP_STAT_OV inp on
    .next (if inp.val = 1 ∧ on = true then lswOv s else s)
  | 1 => .next (supBit s Fd.PWR_SUP_STAT_LOW inp on)
  | 2 => .next (if inp.val = 1 then s.setPm { s.pm with batALow := on }
      else if inp.val = 2 then batBChange (s.setPm { s.pm with batBLow := on }) else s)
  | _ =>
    if inp.val = 0 then .next (if on && s.mode == Mode.standby then s.setFld Fd.SYS_MODE_STAT_MODE Mode.off else s)
    else
      let s := supBit s Fd.PWR_SUP_STAT_REV inp on
      .next (if inp.val = 1 then lswReverse s on else batBChange s)

/-! ### Temperature sites (R563, R564, R566) -/

/-- The levels of R564: set at, cleared below, in 0.1 °C. -/
def thmLevels : List (Int × Int) := [(1050, 1000), (1150, 1100), (1250, 1200)]

/-- The level bits of a site at temperature `t`, with hysteresis. -/
def thmBits (old : Nat) (t : Int) : Nat :=
  (List.range 3).foldl (fun a i =>
    let l := thmLevels.getD i (0, 0)
    a + (if l.1 ≤ t ∨ (bit old i = true ∧ l.2 ≤ t) then 2 ^ i else 0)) 0

/-- A site's temperature for the levels: 125 °C after 10 invalid reads. -/
def siteTemp (s : State) (k : Nat) : Int :=
  if 10 ≤ (smGet {} s.pm.sites k).inval then 1250 else sint 16 (s.fld (Fd.THM_SITE_TEMP k))

/-- THM_STAT and the peak follow the sites. -/
def thmShow (s : State) (k : Nat) : State :=
  let any := fun (i : Nat) => (List.range 24).any (fun j => bit (smGet {} s.pm.sites j).lvl i)
  let hot := (List.range 24).foldl (fun a j => if siteTemp s a < siteTemp s j then j else a) 0
  let s := (s.setFlag Fd.THM_STAT_WARN (any 0)).setFlag Fd.THM_STAT_THROTTLE (any 1)
  let s := (s.setFld Fd.THM_STAT_HOT_SITE hot).setFld Fd.THM_STAT_HOT_TEMP (unsint 16 (siteTemp s hot))
  if (smGet {} s.pm.sites k).seen = false ∨ sint 16 (bits (s.reg (Ra.THM_PEAK k)).toNat 0 16) < siteTemp s k then
    s.setReg (Ra.THM_PEAK k) (BitVec.ofNat 32 (unsint 16 (siteTemp s k) + s.dtNs % 2 ^ 16 * 2 ^ 16))
  else s

/-- Every site is below 110 °C. -/
def allCool (s : State) : Bool := (List.range 24).all (fun j => decide (siteTemp s j < 1100))

/-- A site is read. -/
def siteRead (s : State) (k : Nat) (valid : Bool) (t : Nat) : State :=
  let old := smGet {} s.pm.sites k
  let s := s.setFlag (Fd.THM_SITE_VALID k) valid
  let s := if valid then s.setFld (Fd.THM_SITE_TEMP k) t else s.count Fd.THM_INVALID_V
  let s := s.setPm { s.pm with sites := smPut {} s.pm.sites k { old with inval := if valid then 0 else min 10 (old.inval + 1) } }
  let now := thmBits old.lvl (siteTemp s k)
  let s := s.setPm { s.pm with sites := smPut {} s.pm.sites k { smGet {} s.pm.sites k with lvl := now } }
  let s := s.forN 3 (fun s i =>
    if bit now i && !bit old.lvl i then logEvent s Ev.thermal Src.unit k (unsint 16 (siteTemp s k)) else s)
  let s := thmShow s k
  let s := s.setPm { s.pm with sites := smPut {} s.pm.sites k { smGet {} s.pm.sites k with seen := true } }
  s.setPm { s.pm with coolCyc := if allCool s then some (s.pm.coolCyc.getD s.cyc) else none }

/-- THERMAL_SITE_READ (R563, R564): site `k` is read: a temperature (0.1 °C, signed), or no valid reading. -/
def execThermalSiteRead (k : Fin 24) (valid : Bool) (t : Half) (s : State) : Out :=
  if s.powered then .next (thermalBack (thermalOff (siteRead s k valid t.toNat))) else .next s

/-! ### Throttling (R565) and the output-stage estimate (R562) -/

/-- The stage that follows at a frame boundary. -/
def stageNext (s : State) : Nat :=
  let st := s.fld Fd.THM_STAT_STAGE
  let down := match s.pm.coolCyc with
    | some c => s.since c (5 * cycS)
    | none => false
  if st = 0 then (if s.flag Fd.THM_STAT_THROTTLE then 1 else 0)
  else if down then st - 1
  else if st = 1 ∧ s.since s.pm.stageCyc (5 * cycS) = true ∧ (List.range 24).any (fun j => decide (1150 ≤ siteTemp s j)) = true then 2
  else st

/-- Apply a stage: THM_STAT.STAGE and CLK_DOM_STAT. THM_HIST (the layout is the model's own, log 4): seconds in stages 1 and 2, entries into them, the
tick of the last change. -/
def setStage (s : State) (st : Nat) : State :=
  let s := if st ≠ 0 ∧ s.fld Fd.THM_STAT_STAGE < st then s.count (Fd.THM_HIST_V (1 + st)) else s
  let s := s.setReg (Ra.THM_HIST 4) (BitVec.ofNat 32 s.liveTick)
  let s := s.setFld Fd.THM_STAT_STAGE st
  let s := (s.setFld Fd.CLK_DOM_STAT_APP_DIV st).setFld Fd.CLK_DOM_STAT_INF_SKIP st
  let s := s.setFlag Fd.CLK_DOM_STAT_MP_HALF (decide (1 ≤ st))
  s.setPm { s.pm with stageCyc := s.cyc, coolCyc := s.pm.coolCyc.map (fun _ => s.cyc) }

/-- At a frame boundary the stage rises or falls. -/
def stageStep (s : State) : State := if s.powered && stageNext s != s.fld Fd.THM_STAT_STAGE then setStage s (stageNext s) else s

/-- THROTTLE_STAGE_CHANGE (R565): at a frame boundary. -/
def execThrottleStageChange (s : State) : Out := if s.atFrame then .next (stageStep s) else .next s

/-- A second passes in a throttle stage. -/
def stageSecond (s : State) : State :=
  if s.fld Fd.THM_STAT_STAGE = 0 then s else s.count (Fd.THM_HIST_V (s.fld Fd.THM_STAT_STAGE - 1))

/-- OUT_HIGH_CHANGE (R562): the output-stage estimate (0.01 W) has been above 30 W, or at most 28 W, for 10 s. -/
def execOutHighChange (w : Half) (s : State) : Out :=
  let s := s.setFld Fd.THM_PWR_OUT w.toNat
  if 3000 < w.toNat then .next (s.setFlag Fd.THM_STAT_OUT_HIGH true)
  else if w.toNat ≤ 2800 then .next (s.setFlag Fd.THM_STAT_OUT_HIGH false)
  else .next s

/-- The same from the estimates that ticks report. -/
def outTick (s : State) : State :=
  let w := s.fld Fd.THM_PWR_OUT
  let high := s.flag Fd.THM_STAT_OUT_HIGH
  if (if high then decide (w ≤ 2800) else decide (3000 < w)) then
    match s.pm.outAt with
    | none => s.setPm { s.pm with outAt := some s.cyc }
    | some t => if s.since t (10 * cycS) then (s.setFlag Fd.THM_STAT_OUT_HIGH (!high)).setPm { s.pm with outAt := none } else s
  else s.setPm { s.pm with outAt := none }

end Sys2Proof.Machine
end

