-- ==== Sys2Proof/Machine/Vhp.lean ====
section
/-! DEFINITION. Application resets (R62, R64), and the sessions of the Vrelfen Host Protocol with the transactions that need no register write
(R398–R402, R243, R226, R350, R503, R524). -/

namespace Sys2Proof.Machine

/-! ### Responses and sessions (R398, R399, R401, R402) -/

def State.vs (s : State) (i : Nat) : VhpSess := smGet {} s.vhp.sess i
def State.setVs (s : State) (i : Nat) (x : VhpSess) : State := s.setVhp { s.vhp with sess := smPut {} s.vhp.sess i x }

/-- The application complex serves the protocol: from boot step 8, not in reset and not stopped by a thermal shutdown (R75). -/
def vhpOn (s : State) : Bool := s.powered && decide (8 ≤ s.bootStep) && !s.pm.appReset && !s.pm.hot

/-- Send a response. -/
def vhpSend (s : State) (r : VhpRsp) : State := s.setVhp { s.vhp with sent := (r :: s.vhp.sent).take 256 }

/-- The kinds in the order of their counters (R400). -/
def vhpKinds : List Nat := [1, 2, 3, 4, 0x10, 0x11, 0x12, 0x20, 0x21, 0x22, 0x30, 0x31, 0x40, 0x41, 0x50, 0x60, 0x70]

/-- Per-kind counts of transactions taken, then of rejected datagrams: at 20 by MIC or COUNTER, at 21 of unknown sessions, at 22 beyond 256 outstanding
(layout: log 4). -/
def vhpCount (s : State) (k : Nat) : State := s.count (Fd.ETH_VHP_AUX_V k)

/-- Show OUTST. -/
def vhpShow (s : State) (i : Nat) : State := s.setFld (Fd.VHP_SESS_STAT_OUTST i) (s.vs i).outst.length

/-- A session number of 1 to 4 names session 0 to 3. -/
def sessOf (n : Nat) : Option Nat := if 1 ≤ n ∧ n ≤ 4 then some (n - 1) else none

/-- The session is open. -/
def sessOpen (s : State) (i : Nat) : Bool := s.fld (Fd.VHP_SESS_STAT_STATE i) == 2

/-- A session ends: its correction stream stops, and responses of transactions still running are discarded. -/
def vhpEnd (s : State) (i : Nat) : State :=
  let s := if (s.vs i).rtcm then s.setGns { s.gns with rtcmOut := none } else s
  (s.setVs i {}).setReg (Ra.VHP_SESS_STAT i) 0

/-- A datagram without a session is answered with CLOSE and ABORTED, once per second for each source. -/
def vhpUnknown (s : State) (h : VhpHdr) : State :=
  let k := h.src.toNat
  let old := s.vhp.closeCyc.find? (fun x => x.1 == k)
  if old.any (fun x => !s.since x.2 cycS) then s
  else
    let s := s.setVhp { s.vhp with closeCyc := smPut 0 s.vhp.closeCyc k s.cyc }
    vhpSend s { sess := h.sess.toNat, tag := h.tag.toNat, kind := 3, code := Code.aborted, at_ := s.cyc }

/-- The counter was seen, or lies more than 256 below the highest. -/
def ctrBad (x : VhpSess) (c : Nat) : Bool := x.seen.contains c || (match x.high with
  | some m => decide (c + 256 < m)
  | none => false)

/-- Note a counter. -/
def ctrNote (x : VhpSess) (c : Nat) : VhpSess :=
  let m := match x.high with
    | some m => max m c
    | none => c
  { x with high := some m, seen := c :: x.seen.filter (fun y => decide (m ≤ y + 256)) }

/-- Answer a transaction: it is no longer outstanding, and the response is kept for 10 s among the last 256. -/
def vhpReply (s : State) (i tag kind code : Nat) (data : List Nat) : State :=
  let r : VhpRsp := { sess := i + 1, tag := tag, kind := kind, code := code, data := data, at_ := s.cyc }
  let x := s.vs i
  let s := s.setVs i { x with outst := x.outst.filter (fun t => t.tag != tag), kept := (r :: x.kept).take 256 }
  vhpShow (vhpSend s r) i

/-- Privilege a kind needs (R400); none for an unknown one. A REG_WRITE needs OPERATE where it reaches only MFP_MF[n]_HOST. -/
def kindPriv (kind : Nat) (hostOnly : Bool) : Option Nat := match kind with
  | 0x03 | 0x04 | 0x10 | 0x12 | 0x31 | 0x41 | 0x50 => some 0
  | 0x20 | 0x21 | 0x30 => some 1
  | 0x11 => some (if hostOnly then 1 else 2)
  | 0x22 | 0x40 | 0x70 => some 2
  | _ => none

/-- Take a request of a kind that needs privilege `priv`: the session whose transaction it has become, or none where the datagram is discarded, a
repeat, or answered at once. -/
def vhpTake (s : State) (h : VhpHdr) (kind : Nat) (priv : Option Nat) (arg : Nat := 0) : State × Option Nat :=
  if !vhpOn s then (s, none)
  else match sessOf h.sess.toNat with
    | none => (vhpUnknown (vhpCount s 21) h, none)
    | some i =>
      let x := s.vs i
      let t := h.tag.toNat
      if !sessOpen s i then (vhpUnknown (vhpCount s 21) h, none)
      else if !h.mic || ctrBad x h.ctr.toNat then (vhpCount (s.setVhp { s.vhp with rej := s.vhp.rej + 1 }) 20, none)
      else
        let s := (s.setVs i { ctrNote x h.ctr.toNat with last := s.cyc }).setFld (Fd.VHP_SESS_STAT_IDLE i) 0
        match (s.vs i).kept.find? (fun r => r.tag == t && !s.since r.at_ (10 * cycS)) with
        | some r => (vhpSend s r, none)
        | none =>
          if (s.vs i).outst.any (fun y => y.tag == t) then (s, none)
          else if 256 ≤ (s.vs i).outst.length then
            (vhpSend (vhpCount s 22) { sess := i + 1, tag := t, kind := kind, code := Code.refused, at_ := s.cyc }, none)
          else match priv with
            | none => (vhpReply s i t kind Code.badArgument [], none)
            | some p =>
              if s.fld (Fd.VHP_SESS_STAT_PRIV i) < p then (vhpReply s i t kind Code.refused [], none)
              else
                let s := vhpCount s (vhpKinds.idxOf kind)
                let s := s.setVs i { s.vs i with outst := (s.vs i).outst ++ [{ tag := t, kind := kind, at_ := s.cyc, arg := arg }] }
                (vhpShow s i, some i)

/-- A transaction answered at once by a service. -/
def vhpServe (s : State) (h : VhpHdr) (kind : Nat) (priv : Option Nat) (f : State → State × Nat × List Nat) : State :=
  match vhpTake s h kind priv with
  | (s, some i) =>
    let r := f s
    vhpReply r.1 i h.tag.toNat kind r.2.1 r.2.2
  | (s, none) => s

/-! ### Opening and closing (R398, R402) -/

/-- VHP_HELLO (R398 step 1): a host asks for a session; the reply carries its number and a fresh module nonce. -/
def execVhpHello (src : Word) (tag : Half) (s : State) : Out :=
  if !vhpOn s then .next s
  else match (List.range 4).find? (fun i => s.fld (Fd.VHP_SESS_STAT_STATE i) == 0) with
    | none => .next (vhpSend s { sess := 0, tag := tag.toNat, kind := 1, code := Code.refused, at_ := s.cyc })
    | some i =>
      let n := (List.range 8).foldl (fun (a : State × List Nat) _ => (a.1.fresh.2, a.2 ++ [a.1.fresh.1.toNat])) (s, [])
      let s := (n.1.setReg (Ra.VHP_SESS_STAT i) 0).setFld (Fd.VHP_SESS_STAT_STATE i) 1
      let s := s.setVs i { began := s.cyc, last := s.cyc }
      .next (vhpSend s { sess := i + 1, tag := tag.toNat, kind := 1, code := Code.ok, data := (i + 1) :: src.toNat :: n.2, at_ := s.cyc })

/-- VHP_OPEN (R398 steps 2–4): OPEN for session `i` names a host key; `ok` tells whether the signature verifies against it. -/
def execVhpOpen (i : Fin 4) (tag : Half) (key : Byte) (ok : Bool) (s : State) : Out :=
  if !vhpOn s || s.fld (Fd.VHP_SESS_STAT_STATE i) != 1 then .next s
  else if ok && s.hasKey Key.host key.toNat then
    let p := min 2 (s.keyPriv Key.host key.toNat)
    let s := (s.setFld (Fd.VHP_SESS_STAT_STATE i) 2).setFld (Fd.VHP_SESS_STAT_PRIV i) p
    let s := s.setVs i { s.vs i with key := key.toNat, last := s.cyc }
    .next (vhpSend s { sess := i.val + 1, tag := tag.toNat, kind := 2, code := Code.ok, data := [p], at_ := s.cyc })
  else .next (vhpSend (vhpEnd s i) { sess := i.val + 1, tag := tag.toNat, kind := 2, code := Code.refused, at_ := s.cyc })

/-- A session opening for 2 s without an OPEN is REFUSED and freed (R398 step 4). -/
def vhpOpenExpire (s : State) (i : Nat) : State :=
  if s.fld (Fd.VHP_SESS_STAT_STATE i) = 1 ∧ s.since (s.vs i).began (2 * cycS) = true then
    vhpSend (vhpEnd s i) { sess := i + 1, tag := 0, kind := 2, code := Code.refused, at_ := s.cyc }
  else s

/-- VHP_OPEN_TIMEOUT (R398 step 4). A tick does the same on its own. -/
def execVhpOpenTimeout (i : Fin 4) (s : State) : Out := .next (vhpOpenExpire s i)

/-- VHP_CLOSE (R400, R402). -/
def execVhpClose (h : VhpHdr) (s : State) : Out := match vhpTake s h 3 (some 0) with
  | (s, some i) => .next (vhpEnd (vhpReply s i h.tag.toNat 3 Code.ok []) i)
  | (s, none) => .next s

/-- VHP_KEEPALIVE (R400). -/
def execVhpKeepalive (h : VhpHdr) (s : State) : Out := .next (vhpServe s h 4 (some 0) (fun s => (s, Code.ok, [])))

/-- A session ends after 30 s without a valid datagram (R402). -/
def vhpIdle (s : State) (i : Nat) : State := if sessOpen s i && s.since (s.vs i).last (30 * cycS) then vhpEnd s i else s

/-- VHP_SESSION_IDLE (R402). A tick does the same on its own. -/
def execVhpSessionIdle (i : Fin 4) (s : State) : Out := .next (vhpIdle s i)

/-- Transactions not completed 60 s after arrival end with TIMEOUT (R401). -/
def vhpTxnExpire (s : State) (i : Nat) : State :=
  ((s.vs i).outst.filter (fun t => s.since t.at_ (60 * cycS))).foldl (fun s t => vhpReply s i t.tag t.kind Code.timeout []) s

/-- VHP_TRANSACTION_TIMEOUT (R401). A tick does the same on its own. -/
def execVhpTransactionTimeout (i : Fin 4) (s : State) : Out := .next (vhpTxnExpire s i)

/-! ### Application resets (R62, R64) -/

/-- Fleet transactions under an application reset: requests it serves end with ABORTED, and responses to its own requests are discarded. -/
def fleetAppReset (s : State) : State :=
  let s := (s.flr.kept.filter (fun k => !k.done && appKinds.contains k.kind)).foldl (fun s k => fleetReply s k Code.aborted []) s
  let drop := fun (t : FTxn) => if t.vhp.isNone then { t with vhp := some (4, 0) } else t
  s.setFlr { s.flr with inflight := s.flr.inflight.map drop, queue := s.flr.queue.map drop }

/-- The application complex is reset with its cause bit: endpoints, sessions and fleet transactions follow; everything else runs on. It is in
reset until a core accesses the fabric again. -/
def appReset (s : State) (cause : Fld) : State :=
  if s.powered && decide (8 ≤ s.bootStep) && s.noPf then
    let s := s.setFlag cause true
    let s := s.setPm { s.pm with appReset := true, wdogCyc := s.cyc }
    fleetAppReset ((mbxAppReset s).forN 4 vhpEnd)
  else s

/-- The watchdog's TIMEOUT in cycles. -/
def wdogCycles (s : State) : Nat := clampN 10 10000 (s.fld Fd.PWR_APP_WDOG_TIMEOUT) * cycMs

/-- APP_WATCHDOG_EXPIRY (R64): not refreshed within TIMEOUT. -/
def execAppWatchdogExpiry (s : State) : Out :=
  if !s.pm.appReset && s.since s.pm.wdogCyc (wdogCycles s) then .next (appReset s Fd.PWR_RST_CAUSE_APP_WDOG) else .next s

/-- A write of PWR_APP_WDOG: TIMEOUT, and with REFRESH the timeout starts anew. -/
def wdogWrite (s : State) (v : Word) : State :=
  let s := plainWrite s Ra.PWR_APP_WDOG v
  if bit v.toNat 31 then s.setPm { s.pm with wdogCyc := s.cyc, appReset := false } else s

/-- WATCHDOG_REFRESH (R64): REFRESH is written. -/
def execWatchdogRefresh (s : State) : Out := .next (wdogWrite s (s.reg Ra.PWR_APP_WDOG ||| 0x80000000#32))

/-- A write of PWR_RST_CTRL. -/
def rstCtrlWrite (s : State) (v : Word) : State :=
  if rstCtrlFull v then fullReset s 5 true
  else if bits v.toNat 16 16 = 0x5A3C ∧ bit v.toNat 0 = true then appReset s Fd.PWR_RST_CAUSE_APP_REQ
  else s

/-- APP_RESET (R64): PWR_RST_CTRL.APP is written with its key. -/
def execAppReset (s : State) : Out := .next (appReset s Fd.PWR_RST_CAUSE_APP_REQ)

/-! ### Transactions (R400) -/

/-- VHP_LOG_READ (R503). -/
def execVhpLogRead (h : VhpHdr) (payload : List Byte) (s : State) : Out :=
  .next (vhpServe s h 0x12 (some 0) (fun s => (s, (logRead s payload).1, (logRead s payload).2.map (·.toNat))))

/-- A message to an endpoint as its sender 0x3F: its payload is written and posted. -/
def vhpPost (s : State) (e : Nat) (words : List Word) : State :=
  let s := (words.take 16).zipIdx.foldl (fun s x => mbxPayload s false 0x3F e x.2 x.1) s
  mbxPost s false 0x3F e 0

/-- VHP_MSG (R400): words for endpoint `e`; the response carries the code with which the message ends. -/
def execVhpMsg (h : VhpHdr) (e : Fin 64) (words : List Word) (s : State) : Out :=
  match vhpTake s h 0x20 (some 1) e.val with
  | (s, some i) =>
    if s.flag (Fd.MBX_EP_CFG_TXL e) || s.fld (Fd.MBX_EP_CFG_TX e) != 0x3F || s.fld (Fd.MBX_EP_STAT_STATE e) == epFull then
      .next (vhpReply s i h.tag.toNat 0x20 Code.refused [])
    else if 16 < words.length then .next (vhpReply s i h.tag.toNat 0x20 Code.badArgument [])
    else .next (vhpPost s e words)
  | (s, none) => .next s

/-- VHP_MODE_REQ (R400): SYS_MODE_REQ is written with ORIGIN 1; the response follows when PENDING clears, or DEFERRED at once. -/
def execVhpModeReq (h : VhpHdr) (mode : BitVec 4) (s : State) : Out := match vhpTake s h 0x21 (some 1) with
  | (s, some i) =>
    let busy := s.flag Fd.SYS_MODE_STAT_PENDING
    let s := modeRequest s (0x40#32 ||| mode.zeroExtend 32)
    if busy then .next (vhpReply s i h.tag.toNat 0x21 Code.refused []) else .next s
  | (s, none) => .next s

/-- VHP_RESET (R400): answered OK, then a full or an application reset. -/
def execVhpReset (h : VhpHdr) (full : Bool) (s : State) : Out := match vhpTake s h 0x22 (some 2) with
  | (s, some i) =>
    let s := vhpReply s i h.tag.toNat 0x22 Code.ok []
    .next (if full then fullReset s 5 true else appReset s Fd.PWR_RST_CAUSE_APP_REQ)
  | (s, none) => .next s

/-- VHP_RTCM_IN (R400): correction bytes; the frames among them are the RTCM_FRAME commands. -/
def execVhpRtcmIn (h : VhpHdr) (s : State) : Out := .next (vhpServe s h 0x30 (some 1) (fun s => (s, Code.ok, [])))

/-- VHP_RTCM_OUT (R243): the stream starts at `hz` (1, 5, 10 or 20) with MSM4 or MSM7, or with 0 stops. -/
def execVhpRtcmOut (h : VhpHdr) (hz : Byte) (msm7 : Bool) (s : State) : Out :=
  let r := vhpTake s h 0x31 (some 0)
  match r.2 with
  | some i =>
    let s := r.1
    if hz.toNat = 0 then
      .next (vhpReply ((s.setVs i { s.vs i with rtcm := false }).setGns { s.gns with rtcmOut := none }) i h.tag.toNat 0x31 Code.ok [])
    else if [1, 5, 10, 20].contains hz.toNat then
      let s := (s.setVs i { s.vs i with rtcm := true }).setGns { s.gns with rtcmOut := some (i, hz.toNat, b2n msm7) }
      .next (vhpReply s i h.tag.toNat 0x31 Code.ok [])
    else .next (vhpReply s i h.tag.toNat 0x31 Code.badArgument [])
  | none => .next r.1

/-- What an update block answers (R524): the code, the bitmap word index and the bitmap word. -/
def updAnswer (s : State) (b : List Byte) : State × Nat × List Nat :=
  let s := takeBlock s b
  let code := bits (s.reg Ra.UPD_CODE).toNat 16 16
  let blk := num b 0xC 4
  (s, code, [code, blk / 32, if code = Code.ok then (s.reg Ra.UPD_BLK_BMP).toNat else 0])

/-- VHP_UPD_BLOCK (R524): one block message. -/
def execVhpUpdBlock (h : VhpHdr) (msg : List Byte) (s : State) : Out :=
  .next (vhpServe s h 0x40 (some 2) (fun s => if msg.length = 4116 then updAnswer s msg else (s, Code.badArgument, [])))

/-- The first missing block of each part of the staged package. -/
def firstMissing (s : State) : List Nat := match s.upd.man with
  | some m => m.parts.zipIdx.map (fun x => ((List.range x.1.nblocks).find? (fun b => !staged s x.2 b)).getD x.1.nblocks)
  | none => []

/-- VHP_UPD_STATE (R524): the update state, the PKG_ID, the first missing block of each part, and a bitmap word. -/
def execVhpUpdState (h : VhpHdr) (part : Fin 32) (w : Half) (s : State) : Out :=
  .next (vhpServe s h 0x41 (some 0) (fun s =>
    (s, Code.ok, [s.updState, (s.reg Ra.UPD_PKG_LO).toNat, (s.reg Ra.UPD_PKG_HI).toNat, bitmapWord s part.val w.toNat] ++ firstMissing s)))

/-- VHP_TASK_EXPORT (R226): one part of the export, which the application complex builds from the stored records; `part` are its bytes at the offset
asked for. -/
def execVhpTaskExport (h : VhpHdr) (part : List Byte) (s : State) : Out :=
  .next (vhpServe s h 0x50 (some 0) (fun s => (s, Code.ok, part.map (·.toNat))))

/-- The records of a block of the Tabroth ring as words: type, unit, tick, data. -/
def tabWords (b : TabBlk) : List Nat := b.recs.flatMap (fun r => [r.type, r.unit, r.tick] ++ r.data)

/-- VHP_TAB_READ (R400): words `ofs` to `ofs + n` of block `blk`; FAULT for a block that is not present. -/
def execVhpTabRead (h : VhpHdr) (blk : Word) (ofs : Half) (n : Byte) (s : State) : Out :=
  .next (vhpServe s h 0x70 (some 2) (fun s => match s.tab.ring.find? (fun x => x.1 == blk.toNat) with
    | some x => (s, Code.ok, ((tabWords x.2).drop ofs.toNat).take n.toNat)
    | none => (s, Code.fault, [])))

/-! ### Forwarding to a fleet member (R350) -/

/-- Privilege of the kind inside a forwarded transaction: a REG_WRITE needs SERVICE. -/
def innerPriv (kind : Nat) : Option Nat := if kind = 3 ∨ kind = 4 ∨ kind = 0x60 then none else kindPriv kind false

/-- VHP_FWD (R350): the coordinator forwards a transaction of kind `kind` to member `dest`. -/
def execVhpFwd (h : VhpHdr) (dest : Fin 64) (kind : Half) (payload : List Byte) (s : State) : Out :=
  match vhpTake s h 0x60 (innerPriv kind.toNat) with
  | (s, some i) =>
    let no : Nat → Out := fun c => .next (vhpReply s i h.tag.toNat 0x60 c [])
    if s.linkSt ≠ flCoord then no Code.refused
    else if !s.present dest then no Code.departed
    else match txnBad s 0x50 dest.val (4 + payload.length), freeTag s with
      | some c, _ => no c
      | none, none => no Code.refused
      | none, some tag =>
        .next (txnIssue s { tag := tag, kind := 0x50, dest := dest.val, role := 0xFF, epoch := s.fld (Fd.FLR_MBR_STAT_MEPOCH dest),
                            dead := s.cyc + 60 * cycS, req := leBytes 2 kind.toNat ++ leBytes 2 0 ++ payload, vhp := some (i, h.tag.toNat) })
  | (s, none) => .next s

/-- The result of a forwarded transaction reaches its host: the fleet code, or the member's code and response. -/
def fwdResult (s : State) (d : FwdEnd) : State :=
  if d.sess < 4 ∧ (s.vs d.sess).outst.any (fun t => t.tag == d.cnt && t.kind == 0x60) = true then
    if d.code = Code.ok then vhpReply s d.sess d.cnt 0x60 (num d.rsp 0 2) ((d.rsp.drop 4).map (·.toNat))
    else vhpReply s d.sess d.cnt 0x60 d.code []
  else s

/-- A transaction that waits: a mode request until PENDING clears or the request is deferred, a message until it ends. -/
def vhpWaits (s : State) (i : Nat) (t : VhpTxn) : State :=
  if t.kind = 0x21 then
    if s.pm.deferred then vhpReply s i t.tag t.kind Code.deferred []
    else if s.flag Fd.SYS_MODE_STAT_PENDING then s else vhpReply s i t.tag t.kind (s.fld Fd.SYS_MODE_STAT_RESULT) []
  else if t.kind = 0x20 then
    if s.flag (Fd.MBX_EP_SEND_STAT_PENDING t.arg) then s else vhpReply s i t.tag t.kind (s.fld (Fd.MBX_EP_SEND_STAT_CODE t.arg)) []
  else s

/-- The correction stream (R243): at its rate the MSM4 or MSM7 of each constellation, and every 10 s 1005 in BASE or 1006, 1033 and 1230, as kind 0x0032
with TAG 0. The data names the messages; their bytes are RTCM 10403's (log 45). -/
def rtcmStream (s : State) : State := match s.gns.rtcmOut with
  | some (i, hz, m) =>
    if gnsRuns s && s.liveTick % (20000 / hz) == 0 then
      let often := [1074, 1084, 1094, 1124].map (· + 3 * m)
      let rare := if s.liveTick % 200000 = 0 then [if s.fld Fd.GNS_RTK_CFG_MODE = 2 then 1005 else 1006, 1033, 1230] else []
      vhpSend s { sess := i + 1, tag := 0, kind := 0x32, code := 0, data := often ++ rare, at_ := s.cyc }
    else s
  | none => s

/-- The host protocol at a tick boundary: results, waiting transactions, IDLE, what has run out, the correction stream. -/
def vhpTick (s : State) : State :=
  if !vhpOn s then s
  else
    let l := s.flr.fwdDone
    let s := l.foldl fwdResult (s.setFlr { s.flr with fwdDone := [] })
    let s := s.forN 4 (fun s i =>
      if sessOpen s i then
        ((s.vs i).outst.foldl (fun s t => vhpWaits s i t) s).setFld (Fd.VHP_SESS_STAT_IDLE i) (min 65535 ((s.cyc - (s.vs i).last) / cycS))
      else s)
    rtcmStream (s.forN 4 (fun s i => vhpTxnExpire (vhpIdle (vhpOpenExpire s i) i) i))

end Sys2Proof.Machine
end

