-- ==== Sys2Proof/Machine/Views.lean ====
section
/-! DEFINITION. What a read shows where a register carries a quantity that the state holds elsewhere (R574): "Readback, status, estimate, level,
result" registers of the upper ranges. Every other register shows what is stored (`regView`). -/

namespace Sys2Proof.Machine

/-- A register of the upper range that carries a derived quantity: the address of its first word, its stride and count, and the value of the one with
an index. -/
abbrev View := Nat × Nat × Nat × (State → Nat → Nat)

/-- The address is one of a view's registers. -/
def View.covers (v : View) (a : Nat) : Bool := decide (v.1 ≤ a) && (a - v.1) % v.2.1 == 0 && decide ((a - v.1) / v.2.1 < v.2.2.1)

/-- A word with bit `k` set where `p k`, for `k` below `n`. -/
def bitMap (n : Nat) (p : Nat → Bool) : Nat := (List.range n).foldl (fun w k => w + b2n (p k) * 2 ^ k) 0

/-- Application core `c` runs: the complex is powered, out of reset and not stopped. -/
def coreRuns (s : State) : Bool := s.powered && !s.held && !s.pm.hot && !s.pm.appReset

/-- The recovered clock domains run while a link of theirs is up (R33): CAMA in bit 11, CAMB in bit 12. -/
def recovered (s : State) : Nat :=
  let up := fun (n : Nat) => s.flag (Fd.CAM_LNK_STAT_UP n)
  if s.powered then b2n (up 0 || up 1 || up 2) * 2 ^ 11 + b2n (up 3 || up 4 || up 5) * 2 ^ 12 else 0

/-- The module's own quantities: the serial number; run and reset of each application core. -/
def viewsSys : List View :=
  [(Ra.SYS_ID_OPT 3, 4, 2, fun s k => s.upd.serial / 2 ^ (32 * k) % 2 ^ 32),
   (Ra.SYS_APP_CTL 0, 4, 4, fun s _ => b2n (coreRuns s)),
   (Ra.SYS_APP_CTL 4, 4, 4, fun s _ => b2n (s.held || s.pm.appReset)),
   (Ra.CLK_DOM_STAT, 4, 1, fun s _ => (s.reg Ra.CLK_DOM_STAT).toNat + recovered s)]

/-- Summaries of crop sensing (the layout is the model's own, log 4): FAULT_MAP and BUSY_MAP with bit k for units 2k and 2k + 1; the loss channels'
enables and faults, the sample clock's status, and the processing delay in µs (R166). -/
def viewsCrop : List View :=
  let pair := fun (p : Nat → Bool) => bitMap 31 (fun k => p (2 * k) || p (2 * k + 1))
  [(Ra.UIN_FAULT_MAP, 4, 1, fun s _ => pair (fun u => decide (u < 60) && s.fld (snFault u) != 0)),
   (Ra.UIN_BUSY_MAP, 4, 1, fun s _ => pair (snBusy s)),
   (Ra.LOS_COMMON 0, 4, 1, fun s _ => bitMap 8 (fun n => snEn s (52 + n))),
   (Ra.LOS_COMMON 1, 4, 1, fun s _ => bitMap 8 (fun n => s.fld (snFault (52 + n)) != 0)),
   (Ra.LOS_COMMON 2, 4, 1, fun s _ => b2n (s.flag Fd.CLK_PLL_STAT_LOCKED)),
   (Ra.LOS_COMMON 3, 4, 1, fun _ _ => 24)]

/-- A signed quantity as a word. -/
def viewInt (x : Int) : Nat := unsint 32 x

/-- Satellite positioning (layouts are the model's own, log 4): GNS_CTL_AUX receiver state (0 off, 1 acquiring, 2 tracking), start class, time to first fix
in ms; channels per signal; the solution; attitude; own slot; edge counts; RTCM output and messages ([31:16] used, [15:0] discarded). -/
def viewsGnss : List View :=
  let f := fun (s : State) => s.gns.fix
  let rt := fun (s : State) (l : List Nat) => satU 16 (l.foldl (fun a t => a + smGet 0 s.gns.rtcmUsed t) 0) * 2 ^ 16 +
    satU 16 (l.foldl (fun a t => a + smGet 0 s.gns.rtcmDrop t) 0)
  let groups : List (List Nat) := rtcmBase.map ([·]) ++ [[1074, 1077], [1084, 1087], [1094, 1097], [1124, 1127]] ++ rtcmEph.map ([·])
  let listed := groups.flatten
  let sol : List (State → Nat) :=
    [fun s => viewInt (f s).lat, fun s => viewInt (f s).lon, fun s => viewInt (f s).hgt,
     fun s => (f s).fix * 2 ^ 28 + (f s).unc * 2 ^ 16 + (f s).sats * 2 ^ 8 + corrAge s 255,
     fun s => (f s).ve.toNat, fun s => (f s).vn.toNat, fun s => (f s).vu.toNat, fun s => (f s).epoch % 2 ^ 32, fun s => (f s).head.toNat,
     fun s => (f s).pitch.toNat, fun s => (f s).hunc.toNat, fun s => (f s).att.toNat, fun s => b2n (f s).valid + 2 * b2n (f s).attOk,
     fun s => viewInt s.gns.timeE, fun s => viewInt (s.gns.timeE / 2 ^ 32), fun s => viewInt (f s).x, fun s => viewInt (f s).y, fun s => viewInt (f s).z]
  [(Ra.GNS_CTL_AUX 0, 4, 1, fun s _ => if gnsRuns s then (if s.gns.acquiring then 1 else 2) else 0),
   (Ra.GNS_CTL_AUX 1, 4, 1, fun s _ => s.gns.startCls), (Ra.GNS_CTL_AUX 2, 4, 1, fun s _ => s.gns.ttff.getD 0),
   (Ra.GNS_SIG_CNT 0, 4, 5, fun s k =>
     let n := fun (sig : Nat) => ((List.range 192).filter (fun c => (s.reg (Ra.GNS_CHAN c)).toNat / 2 ^ 26 != 0 &&
       bits (s.reg (Ra.GNS_CHAN c)).toNat 22 4 == sig)).length
     n (2 * k) + n (2 * k + 1) * 2 ^ 16),
   (Ra.GNS_SOL 0, 4, 18, fun s k => (sol.getD k (fun _ => 0)) s),
   (Ra.GNS_ATT_STAT 0, 4, 1, fun s _ => (f s).att.toNat), (Ra.GNS_ATT_STAT 1, 4, 1, fun s _ => bits (f s).att.toNat 16 12),
   (Ra.GNS_OWN_SLOT, 4, 1, fun s _ => b2n (decide (4 ≤ s.fld Fd.FLR_STAT_STATE)) * 2 ^ 31 + s.gns.obs.length * 2 ^ 8 + s.fld Fd.FLR_STAT_MODNUM),
   (Ra.GNS_PPS_EDGES 2, 4, 1, fun s _ => b2n (ppsPin s)),
   (Ra.GNS_RTCM 0, 4, 1, fun s _ => match s.gns.rtcmOut with
     | some (_, hz, m) => 2 ^ 31 + m * 2 ^ 8 + hz
     | none => 0),
   (Ra.GNS_RTCM 1, 4, 1, fun s _ => satU 32 (s.gns.rtcmDrop.foldl (fun a x => if listed.contains x.1 then a else a + x.2) 0)),
   (Ra.GNS_RTCM 2, 4, 12, fun s k => rt s (groups.getD k []))]

/-- An element of safety output `k` is switched off for its test pulse (R457), with element 1 half a period later and output k at k × TPP/8; the model
counts the period from the safety loop's first tick. -/
def soPulsing (s : State) (k elem : Nat) : Bool :=
  let c := s.saf.cfg
  let per := clampN 500 5000 c.tpp * 1000
  let at_ := (s.saf.t * 50 + 2 * per - k * per / 8 - elem * per / 2) % per
  (s.safOut k).on && decide (at_ < clampN 100 800 c.tpw)

/-- The safety island (layouts are the model's own, log 4): levels, filtered states, discrepancy timers in ticks; trips and test faults; SI results; output
timing, elements, faults; sensor pairs; what the speed limit lists; the last 8 lock-outs; segments. -/
def viewsSaf : List View :=
  let z := fun (s : State) (k : Nat) => b2n (smGet none s.saf.zero k).isSome
  [(Ra.SAF_STATUS_AUX 0, 4, 1, fun s _ => bitMap 8 (fun k => (s.safIn k).lvl)), (Ra.SAF_STATUS_AUX 1, 4, 1, fun s _ => bitMap 8 (fun k => (s.safIn k).filt)),
   (Ra.SAF_STATUS_AUX 2, 4, 4, fun s k => match (s.safPair k).diff with
     | some t => s.saf.t - t
     | none => 0),
   (Ra.SAF_STATUS_AUX 6, 4, 4, fun s k => b2n (s.safPair k).trip + 2 * b2n (s.safPair k).disc + 4 * b2n (s.safPair k).wait),
   (Ra.SAF_SI 0, 8, 8, fun s k => (s.safIn k).miss), (Ra.SAF_SI 1, 8, 8, fun s k => b2n (s.safIn k).fault),
   (Ra.SAF_SO 0, 16, 4, fun s _ => clampN 500 5000 s.saf.cfg.tpp * 2 ^ 16 + clampN 100 800 s.saf.cfg.tpw),
   (Ra.SAF_SO 1, 16, 4, fun s k => b2n ((s.safOut k).on && !soPulsing s k 0) + 2 * b2n ((s.safOut k).on && !soPulsing s k 1)),
   (Ra.SAF_SO 3, 16, 4, fun s k => (s.safOut k).fail + b2n (s.safOut k).fault * 2 ^ 31),
   (Ra.SAF_PAIR 0, 24, 2, fun s p => (sensUnits s p).1), (Ra.SAF_PAIR 1, 24, 2, fun s p => (sensUnits s p).2),
   (Ra.SAF_PAIR 2, 24, 2, fun s p => if p = 0 then s.saf.cfg.waLim.toNat else 0), (Ra.SAF_PAIR 3, 24, 2, fun s p => sensConf s p),
   (Ra.SAF_PAIR 4, 24, 2, fun s p => (s.sensPair p).val.toNat), (Ra.SAF_PAIR 5, 24, 2, fun s p => (s.sensPair p).bad),
   (Ra.SAF_SPD_AUX 0, 4, 1, fun s _ => (steerLimit s).toNat), (Ra.SAF_SPD_AUX 1, 4, 1, fun s _ => s.saf.hbMiss),
   (Ra.SAF_SPD_AUX 2, 4, 1, fun s _ => z s 2 * 4 + z s 4 * 16 + z s 5 * 32 + z s 6 * 64),
   (Ra.SAF_HIST 0, 12, 8, fun s k => match s.saf.hist[k]? with
     | some (c, d, _) => c * 2 ^ 8 + d
     | none => 0),
   (Ra.SAF_HIST 1, 12, 8, fun s k => match s.saf.hist[k]? with
     | some (_, _, t) => t % 2 ^ 32
     | none => 0),
   (Ra.SAF_HIST 2, 12, 8, fun s k => match s.saf.hist[k]? with
     | some (_, _, t) => t / 2 ^ 32 % 2 ^ 32
     | none => 0),
   (Ra.SAF_STEER_AUX 0, 4, 1, fun s _ => s.steer.segs.length), (Ra.SAF_CFG_AUX 0, 4, 1, fun s _ => s.saf.cfg.id.toNat)]

/-- The image pipeline (layouts are the model's own, log 4): the gear of each link; queue, running job, rate in Mpixel/s and throttling of the memory path;
the in-line source in force. -/
def viewsCam : List View :=
  [(Ra.CAM_DIAG 9, 40, 6, fun s n => min 2 (s.fld (Fd.CAM_LNK_CFG_GEAR n))),
   (Ra.CAM_MP_COMMON 0, 4, 1, fun s _ => s.cam.queue.length), (Ra.CAM_MP_COMMON 1, 4, 1, fun s _ => b2n s.cam.run.isSome),
   (Ra.CAM_MP_COMMON 2, 4, 1, fun s _ => if s.flag Fd.CLK_DOM_STAT_MP_HALF then 600 else 1200),
   (Ra.CAM_MP_COMMON 3, 4, 1, fun s _ => b2n (s.flag Fd.CLK_DOM_STAT_MP_HALF)),
   (Ra.CAM_INLINE_AUX 0, 4, 1, fun s _ => match s.cam.inl with
     | some (n, v) => 2 ^ 31 + n * 2 ^ 4 + v
     | none => 0)]

/-- The fleet link (layouts are the model's own, log 4): key in use, announced and still accepted; successors, 0xFF none; directory entries. -/
def viewsFlr : List View :=
  [(Ra.FLR_KEY_STATE, 4, 1, fun s _ => s.flr.keyIdx + 2 * b2n s.flr.keyAt.isSome + 4 * b2n s.flr.keyOld.isSome + 8 * b2n (hasDomainKey s)),
   (Ra.FLR_SUCC, 4, 1, fun s _ => (List.range 4).foldl (fun a k => a + s.flr.succ.getD k 0xFF * 2 ^ (8 * k)) 0),
   (Ra.FLR_DIR 2, 4, 1, fun s _ => (List.range 64).foldl (fun a m => if s.present m then a + (rolesOf s m).length else a) 0)]

/-- Fusion (layouts are the model's own, log 4): cycles each task has used; PT_AUX the tolerance of point 1 in mm, its mismatch, the alignment; biases, wheel
scale factors and health of the filter; pulse counts; tracks by state. -/
def viewsFus : List View :=
  [(Ra.FUS_TASK_CYC 0, 4, 4, fun s k => match smGet none s.gw.ctx 8 with
     | some c => if c.loop = fusLoop + k then c.cyc else 0
     | none => 0),
   (Ra.FUS_PT_AUX 0, 4, 1, fun _ _ => 10), (Ra.FUS_PT_AUX 1, 4, 1, fun s _ => b2n (s.flag Fd.FUS_STAT_PT_MISMATCH)),
   (Ra.FUS_PT_AUX 2, 4, 1, fun s _ => b2n (s.flag Fd.FUS_STAT_ALIGNED)),
   (Ra.FUS_EGO_AUX 0, 4, 18, fun s k => (egoW s (40 + k)).toNat),
   (Ra.FUS_WHL_PULSES 0, 4, 4, fun s w => (s.pubAt (snKey (s.fld (Fd.FUS_WHL_CFG_UNIT w)) 1)).val.toNat),
   (Ra.FUS_TRK_AUX 6, 4, 1, fun s _ => (s.fus.tracks.filter (fun t => t.st == .tentative)).length),
   (Ra.FUS_TRK_AUX 7, 4, 1, fun s _ => (s.fus.tracks.filter (fun t => t.st == .confirmed)).length),
   (Ra.FUS_TRK_AUX 8, 4, 1, fun s _ => (s.fus.tracks.filter (fun t => t.st == .coasting)).length)]

/-- Vehicle networks (layouts are the model's own, log 4): frames sent and received by a CAN controller; instants skipped, and frames too short or remote;
what a grandmaster distributes, PTP time = DT + 315 964 819 s, in ns. -/
def viewsNet : List View :=
  let pair := fun (a b : Nat) => satU 16 a * 2 ^ 16 + satU 16 b
  let ptp := fun (s : State) => if s.fld Fd.ETH_PTP_STAT_ROLE = 1 then s.dtNs + 315964819 * 1000000000 else 0
  [(Ra.CAN_CNT 0 0, 0x10000, 6, fun s c => pair (s.canC c).nSent (s.canC c).nRcvd),
   (Ra.CAN_CNT 0 1, 0x10000, 6, fun s c => pair (s.canC c).skips ((s.canC c).short + (s.canC c).remote)),
   (Ra.ETH_PTP_AUX 0, 4, 1, fun s _ => ptp s % 2 ^ 32), (Ra.ETH_PTP_AUX 1, 4, 1, fun s _ => ptp s / 2 ^ 32)]

/-- The estimate of a coil's temperature in 0.1 °C (R422), nearest: TEMP := 20 + (R / R20 − 1) / 0.00393 °C; 0 while R20 is 0. -/
def coilTemp (r r20 : Nat) : Int :=
  let a : Int := ((r : Int) - r20) * 1000000
  let b : Int := r20 * 393
  if r20 = 0 then 0 else 200 + (2 * a + b) / (2 * b)

/-- Valve drive (layouts are the model's own, log 4): coil temperatures; channels and banks with a fault. -/
def viewsVlv : List View :=
  [(Ra.VLV_CH_TEMP 0, 0x20, 32, fun s n => viewInt (coilTemp (s.fld (Fd.VLV_CH_COIL_R n)) (s.reg (Ra.VLV_CH_R20 n)).toNat)),
   (Ra.VLV_FAULT_MAP 0, 4, 1, fun s _ => bitMap 32 (fun n => s.fld (Fd.VLV_CH_STAT_FAULT n) != 0)),
   (Ra.VLV_FAULT_MAP 1, 4, 1, fun s _ => bitMap 8 (fun b => s.fld (Fd.VLV_BANK_STAT_FAULT b) != 0))]

/-- Displays (layouts are the model's own, log 4): largest counter of each colour in two words, gains that wait, lanes that carry video; the words of the
panel calibration record; of the strip's ledgers the first 56 in pairs, the largest, the rounds of the last repair and the copy in use (1 A, 2 B). -/
def viewsDsp : List View :=
  [(Ra.DSP_AGE_AUX 0, 4, 6, fun s k => ageMax s (k / 2) / 2 ^ (32 * (k % 2)) % 2 ^ 32), (Ra.DSP_AGE_AUX 6, 4, 1, fun s _ => b2n s.dsp.gainP.isSome),
   (Ra.DSP_INIT 0, 4, 40, fun s k => leNat ((panelCal s).drop (4 * k) |>.take 4)), (Ra.DSP_DIAG 4, 4, 4, fun s _ => b2n (videoOn s)),
   (Ra.BST_LEDGER 1, 4, 28, fun s k => unsint 16 (smGet 0 s.bst.led (2 * k)) + unsint 16 (smGet 0 s.bst.led (2 * k + 1)) * 2 ^ 16),
   (Ra.BST_LEDGER 29, 4, 1, fun s _ => s.bst.led.foldl (fun a x => max a x.2.natAbs) 0), (Ra.BST_LEDGER 30, 4, 1, fun s _ => s.bst.rounds),
   (Ra.BST_LEDGER 31, 4, 1, fun s _ => match stripNewer s with
     | some c => if s.bst.b = some c then 2 else 1
     | none => 0)]

/-- The recorder (layouts are the model's own, log 4): where the replay event list lies, and the records read ahead. -/
def viewsTab : List View :=
  [(Ra.TAB_REL_LO, 4, 2, fun _ k => relAt / 2 ^ (32 * k) % 2 ^ 32), (Ra.TAB_READ_AHEAD, 4, 1, fun s _ => s.rpl.recs.length)]

/-- A part of a bank set as its readback shows it: TYPE [31:24], INDEX [23:16], bank [15], in SAF_NEXT [14], VERSION [13:0]. -/
def setWord (r : SetRec) (k : Nat) : Nat :=
  let w := fun (p : SetPart) (n : Nat) => p.type * 2 ^ 24 + p.index * 2 ^ 16 + p.bank % 2 * 2 ^ 15 + n * 2 ^ 14 + p.version % 2 ^ 14
  match (r.parts.map (fun p => w p 0) ++ r.safNext.map (fun p => w p 1))[k]? with
  | some x => x
  | none => 0

/-- The keys present of a type, a bit each. -/
def keyMap (s : State) (type : Nat) : Nat := bitMap (keySlots type) (s.hasKey type)

/-- Updates (layouts are the model's own, log 4): the first part with a block missing and that block; the verification's progress in %; the pointer word, the
activations abandoned, the fallbacks; twelve parts of each bank set; calibration records, the last one (SET, REC) and the records missing; keys
present by type; openings of the debug port and its last scope; blocks by code (OK, BAD_ARGUMENT, REFUSED, FAULT), failed verifications. -/
def viewsUpd : List View :=
  let c := fun (s : State) (k : Nat) => smGet 0 s.upd.cnt k
  let miss := fun (s : State) => match s.upd.man with
    | some m => (firstMissing s).zipIdx.find? (fun (x : Nat × Nat) => decide (x.1 < (m.parts[x.2]?.map PartEntry.nblocks).getD 0))
    | none => (none : Option (Nat × Nat))
  [(Ra.UPD_PART_AUX 0, 4, 1, fun s _ => ((miss s).map (·.2)).getD 0), (Ra.UPD_PART_AUX 1, 4, 1, fun s _ => ((miss s).map (·.1)).getD 0),
   (Ra.UPD_PART_AUX 2, 4, 1, fun s _ => match s.upd.opAt with
     | some t => if s.updState = Upd.verifying ∧ 0 < packageCyc s 200 then min 100 ((s.cyc - t) * 100 / packageCyc s 200) else 0
     | none => 0),
   (Ra.UPD_ACT_AUX 0, 4, 1, fun s _ => 0xB5A7 * 2 ^ 16 + b2n (s.flag Fd.UPD_STAT_TRIAL) * 2 + s.setNo),
   (Ra.UPD_ACT_AUX 1, 4, 2, fun s k => c s (UpdCnt.abandon + k)),
   (Ra.UPD_SETS 0, 4, 24, fun s k => setWord (s.setRec (k / 12)) (k % 12)),
   (Ra.UPD_CAL_AUX 0, 4, 1, fun s _ => s.upd.cal.length),
   (Ra.UPD_CAL_AUX 1, 4, 1, fun s _ => match s.upd.cal.head? with
     | some r => r.set * 2 ^ 24 + r.rec_
     | none => 0),
   (Ra.UPD_CAL_AUX 4, 4, 1, fun s _ => c s UpdCnt.calMissing),
   (Ra.UPD_KEY_AUX 0, 4, 1, fun s _ => keyMap s Key.package + keyMap s Key.factory * 2 ^ 8 + keyMap s Key.owner * 2 ^ 16),
   (Ra.UPD_KEY_AUX 1, 4, 1, fun s _ => keyMap s Key.host),
   (Ra.UPD_KEY_AUX 2, 4, 1, fun s _ => keyMap s Key.clear + keyMap s Key.debug * 2 ^ 8),
   (Ra.UPD_KEY_AUX 3, 4, 1, fun s _ => keyMap s Key.domain),
   (Ra.UPD_DBG_AUX 0, 4, 2, fun s k => c s (UpdCnt.dbgOpen + k)),
   (Ra.UPD_CNT 0, 4, 5, fun s k => c s k)]

/-- Power and temperature (layouts are the model's own, log 4): cold boots, wakes and resets; the last four wake sources; the charger, which runs at every
LOGIC_BAT above 6.5 V (R559); the reserve's energy; which groups of load switches and which valve banks the mode supplies; the levels of R564 in °C. -/
def viewsPwr : List View :=
  [(Ra.PWR_RST_CNT 0, 4, 3, fun s k => (s.reg ([Ra.EVR_PCYC, Ra.EVR_WAKES, Ra.EVR_RESETS].getD k 0)).toNat),
   (Ra.PWR_WAKE_HIST 0, 4, 4, fun s k => s.pm.wakes.getD k 0),
   (Ra.PWR_RSV_STAT, 4, 1, fun s _ => (s.reg Ra.PWR_RSV_STAT).toNat + b2n (s.powered && supplyIsBack s) * 2 ^ 30),
   (Ra.PWR_RSV_AUX 0, 4, 1, fun s _ => b2n (s.powered && supplyIsBack s)), (Ra.PWR_RSV_AUX 1, 4, 1, fun s _ => s.fld Fd.PWR_STAT_RESERVE_J),
   (Ra.PWR_GATE 0, 4, 4, fun s g => bitMap 6 (fun k => !lswGated s (6 * g + k))), (Ra.PWR_GATE 4, 4, 8, fun s b => b2n (s.vbank b).conv),
   (Ra.THM_LVL, 4, 1, fun _ _ => 105 + 115 * 2 ^ 8 + 125 * 2 ^ 16)]

/-- Control engines (layouts are the model's own, log 4): the result of the last self-test, the peak tick load, the engine's number; traps since LOAD of
all slots. -/
def viewsCe : List View :=
  [(Ra.CE_ENG_AUX 0 0, 0x10000, 8, fun s e => b2n (s.engState e != engFailed)),
   (Ra.CE_ENG_AUX 0 1, 0x10000, 8, fun s e => peakLoad (s.engScheds e)), (Ra.CE_ENG_AUX 0 2, 0x10000, 8, fun _ e => e),
   (Ra.CE_PERF 0 0, 0x10000, 8, fun s e => (List.range 16).foldl (fun a i => a + s.fld (Fd.CE_SLOT_STATUS_TRAPS e i)) 0)]

/-- Every view. -/
def views : List View := viewsSys ++ viewsCrop ++ viewsGnss ++ viewsSaf ++ viewsCam ++ viewsFlr ++ viewsFus ++ viewsNet ++ viewsVlv ++ viewsDsp ++ viewsTab ++ viewsUpd ++ viewsPwr ++ viewsCe

/-- What a read of a register shows. -/
def shown (s : State) (a : Nat) : Word := match views.find? (·.covers a) with
  | some v => BitVec.ofNat 32 (v.2.2.2 s ((a - v.1) / v.2.1))
  | none => regView s a

end Sys2Proof.Machine
end

