-- ==== Sys2Proof/Machine/RegWrite.lean ====
section
/-! DEFINITION. A write into the fabric's address space (R4–R6, R14–R19, R28): what each register does when it is written, and the errors of
accesses that reach none. -/

namespace Sys2Proof.Machine

/-! ### Registers with an action -/

/-- Registers whose write does more than store: the address of the first, stride, count, and what a write of the one with an index does. -/
abbrev Hook := Nat × Nat × Nat × (Nat → State → State)

/-- The address is one of a hook's registers. -/
def Hook.covers (h : Hook) (a : Nat) : Bool := decide (h.1 ≤ a) && (a - h.1) % h.2.1 == 0 && decide ((a - h.1) / h.2.1 < h.2.2.1)

/-- A write of a register that stays in force with its old value until the next frame boundary (R46, R48). -/
def waitFrame (s : State) (a : Nat) (v : Word) : State :=
  let s := if (smGet none s.clk.runCfg a).isSome then s else s.setClk { s.clk with runCfg := smPut none s.clk.runCfg a (some (s.reg a)) }
  plainWrite s a v

/-- The module: SYS, CLK, PWR. -/
def hooksSys (init : Nat) (v : Word) : List Hook :=
  [(Ra.SYS_MODE_REQ, 4, 1, fun _ s => modeRequest s v),
   (Ra.CLK_DT_SET_HI, 4, 1, fun _ s => dtSet s init v),
   (Ra.CLK_STEER_CFG, 4, 1, fun _ s => steerWrite s v),
   (Ra.CLK_PLOCK_EN, 4, 1, fun _ s => waitFrame s Ra.CLK_PLOCK_EN v),
   (Ra.CLK_VB_PHASE 0, 4, 8, fun n s => waitFrame s (Ra.CLK_VB_PHASE n) v),
   (Ra.CLK_CAM_TRIG 0, 8, 6, fun n s => waitFrame s (Ra.CLK_CAM_TRIG n) v),
   (Ra.CLK_CAM_FINE 0, 8, 6, fun n s => waitFrame s (Ra.CLK_CAM_FINE n) v),
   (Ra.CLK_STRM_CFG 0, 8, 24, fun n s => strmCfgWrite s n v),
   (Ra.PWR_RST_CTRL, 4, 1, fun _ s => rstCtrlWrite s v),
   (Ra.PWR_APP_WDOG, 4, 1, fun _ s => wdogWrite s v)]

/-- DMA, IOMMU and mailboxes. -/
def hooksMem (init : Nat) (v : Word) : List Hook :=
  [(Ra.DMA_CH_CFG 0, 0x40, 32, fun n s => unlessPanel s n (fun s => dmaCfgWrite s init n v)),
   (Ra.DMA_CH_TAIL 0, 0x40, 32, fun n s => unlessPanel s n (fun s => dmaTail s n (v.toNat % 65536))),
   (Ra.DMA_CH_CMD 0, 0x40, 32, fun n s => unlessPanel s n (fun s =>
     if bits v.toNat 0 2 = 1 then dmaResume s n else if bits v.toNat 0 2 = 2 then dmaSkip s n else s)),
   (Ra.IOMMU_INV_CMD, 4, 1, fun _ s => if bit v.toNat 31 then iommuInv s (bits v.toNat 24 5) else s),
   (Ra.MBX_EP_CFG2 0, 0x20, 64, fun e s => mbxCfg2 s e v),
   (Ra.MBX_EP_POST 0, 0x20, 64, fun e s => if bit v.toNat 0 then mbxPost s false init e (bits v.toNat 16 16) else s),
   (Ra.MBX_EP_ACK 0, 0x20, 64, fun e s => mbxAckWrite s e (v.toNat % 65536)),
   (Ra.MBX_EP_FREE, 4, 1, fun _ s => if bits v.toNat 16 16 = 0x3C5A then mbxFree s (bits v.toNat 0 6) else s),
   (Ra.MBX_DB_TARGET 0, 0x10, 32, fun d s => dbTarget s d v),
   (Ra.MBX_DB_SET 0, 0x10, 32, fun d s => s.setReg (Ra.MBX_DB_PEND d) (s.reg (Ra.MBX_DB_PEND d) ||| v)),
   (Ra.MBX_PAYLOAD 0 0, 4, 1024, fun k s => mbxPayload s false init (k / 16) (k % 16) v)]

/-- The event recorder, the Tabroth recorder and the store engine. -/
def hooksRec (init : Nat) (v : Word) : List Hook :=
  [(Ra.EVR_APP_GO, 4, 1, fun _ s => if bit v.toNat 0 then appEvent s init else s),
   (Ra.EVR_CLR_CMD, 4, 1, fun _ s => if bits v.toNat 16 16 = 0xC1EA ∧ bit v.toNat 0 = true then clearGo s else s),
   (Ra.EVR_LOUPE_CTL 0, 0x30, 4, fun w s => if bit v.toNat 31 then loupeNext s w else s),
   (Ra.TAB_CFG, 4, 1, fun _ s => tabCfgWrite s v),
   (Ra.TAB_HOLD_LAST 0, 8, 4, fun h s => holdRelease s h v),
   (Ra.TAB_RPL_CTL, 4, 1, fun _ s =>
     let s := plainWrite s Ra.TAB_RPL_CTL (v &&& 0x7FFFFFFF#32)
     if bit v.toNat 31 && s.rpl.live.isSome then s.setRpl { s.rpl with endBy := some (s.rpl.endBy.getD 2) } else s),
   (Ra.UPD_CMD, 4, 1, fun _ s => updCmdWrite s v),
   (Ra.UPD_BLK_CMD, 4, 1, fun _ s => if bit v.toNat 0 then blockGo s else s),
   (Ra.UPD_CAL_CMD, 4, 1, fun _ s => if bits v.toNat 16 16 = 0xCA1B ∧ bit v.toNat 0 = true then calGo s else s),
   (Ra.UPD_TOK_CMD, 4, 1, fun _ s => if bits v.toNat 16 16 = 0x70CE ∧ bit v.toNat 0 = true then tokGo s else s),
   (Ra.UPD_DBG_CLOSE, 4, 1, fun _ s => if bits v.toNat 16 16 = 0xDB0C ∧ bit v.toNat 0 = true then debugClose s 4 else s)]

/-- The control engines, the safety island and the parameters of the machine functions. -/
def hooksCe (v : Word) : List Hook :=
  let w := v.toNat
  [(Ra.CE_LOOP_CMD 0, 0x10000, 8, fun e s => loopCmdWrite s e (bits w 28 4) (bits w 16 7) (bits w 8 7)),
   (Ra.CE_MIG_CMD 0, 0x10000, 8, fun e s => migCmdWrite s e (bits w 28 4) (bits w 24 3) (bits w 16 7) (bits w 0 16)),
   (Ra.CE_ENG_CMD 0, 0x10000, 8, fun e s => engCmdWrite s e (bits w 16 16) (bits w 0 2)),
   (Ra.CE_RT_CMD 0, 4, 1, fun _ s => rtCmdWrite s w),
   (Ra.CE_SET_SPARE 0, 4, 1, fun _ s => spareWrite s (bits w 0 4)),
   (Ra.SAF_HB, 4, 1, fun _ s => hbWrite s v),
   (Ra.SAF_STEER_REQ, 4, 1, fun _ s => steerReq s v),
   (Ra.SAF_STEER_TEST, 4, 1, fun _ s => steerTest s v),
   (Ra.SAF_STOP_REQ, 4, 1, fun _ s => stopReq s v),
   (Ra.MFP_MF_CTL 0, 4, 240, fun k s => mfpWrite s (Ra.MFP_MF_CTL 0 + 4 * k) v)]

/-- Sensors: crop sensing, cameras, fusion, satellite positioning. What the baseband holds at a RESTART (visible satellites with ephemerides, an
almanac) is a free value here; GNSS_RESTART carries it. -/
def hooksSens (init : Nat) (v : Word) : List Hook :=
  [(Ra.UIN_CH_CFG 0, 0x20, 48, fun u s => snRegWrite s init u (Ra.UIN_CH_CFG u) v true),
   (Ra.UIN_CH_GAIN 0, 0x20, 48, fun u s => snRegWrite s init u (Ra.UIN_CH_GAIN u) v false),
   (Ra.UIN_CH_OFFSET 0, 0x20, 48, fun u s => snRegWrite s init u (Ra.UIN_CH_OFFSET u) v false),
   (Ra.UIN_CH_LIM 0, 0x20, 48, fun u s => snRegWrite s init u (Ra.UIN_CH_LIM u) v false),
   (Ra.BRG_CH_CFG 0, 0x20, 4, fun n s => snRegWrite s init (48 + n) (Ra.BRG_CH_CFG n) v true),
   (Ra.BRG_CH_GAIN 0, 0x20, 4, fun n s => snRegWrite s init (48 + n) (Ra.BRG_CH_GAIN n) v false),
   (Ra.BRG_CH_OFFSET 0, 0x20, 4, fun n s => snRegWrite s init (48 + n) (Ra.BRG_CH_OFFSET n) v false),
   (Ra.BRG_CH_LIM 0, 0x20, 4, fun n s => snRegWrite s init (48 + n) (Ra.BRG_CH_LIM n) v false),
   (Ra.LOS_CH_CFG 0, 0x40, 8, fun n s => senseCfgWrite s (Ra.LOS_CH_CFG n) v),
   (Ra.UIN_SUP_CFG 0, 8, 4, fun n s => senseCfgWrite s (Ra.UIN_SUP_CFG n) v),
   (Ra.UIN_IMU_CFG, 4, 1, fun _ s => senseCfgWrite s Ra.UIN_IMU_CFG v),
   (Ra.UIN_TEST_CMD, 4, 1, fun _ s =>
     let t := bits v.toNat 28 4
     snTestCmd s t (if t = 2 then bits v.toNat 0 2 else bits v.toNat 6 6)),
   (Ra.CAM_LNK_CFG 0, 0x100, 6, fun n s => camCfgWrite s n v),
   (Ra.CAM_PAIR_CFG 0, 0x10, 3, fun p s => pairCfgWrite s p v),
   (Ra.CAM_MP_CFG 0, 0x20, 6, fun n s => mpCfgWrite s n v),
   (Ra.CAM_EXP_COMMIT 0, 0x40, 6, fun n s => if bit v.toNat 0 then expCommit s n else s),
   (0x40500000, 4, 0x4000, fun k s => fusWrite s init (0x40500000 + 4 * k) v),
   (Ra.GNS_CTL, 4, 1, fun _ s =>
     let s := plainWrite s Ra.GNS_CTL (v &&& 0xBFFFFFFF#32)
     if bit v.toNat 30 then gnsStart s
     else s),
   (Ra.GNS_CH_ALLOC, 4, 1, fun _ s => allocWrite s v),
   (Ra.GNS_BASE 0, 4, 6, fun k s => baseWrite s k v),
   (Ra.GNS_MB_NB_CFG 0, 8, 8, fun k s => nbWrite s k v),
   (Ra.GNS_AID 0, 4, 2, fun k s => aidWrite s (k == 1) v.toNat)]

/-- Links: fleet, CAN, Ethernet. -/
def hooksLink (v : Word) : List Hook :=
  [(Ra.FLR_CFG, 4, 1, fun _ s => flrCfgWrite s v),
   (Ra.FLR_DOM_CFG, 4, 1, fun _ s => flrDomWrite s v),
   (Ra.FLR_ROLE 0, 4, 4, fun i s => roleWrite s i (bits v.toNat 24 8)),
   (Ra.FLR_UNL_CFG, 4, 1, fun _ s => unlCfgWrite s v),
   (Ra.CAN_CTL 0, 0x10000, 6, fun c s => canCtlWrite s c v),
   (Ra.CAN_SIG_CMD 0, 4, 1, fun _ s =>
     let s := if bit v.toNat 0 then canSigWrite s else s
     if bit v.toNat 1 then canSigRead s else s),
   (Ra.CAN_STRM_CFG 0 0, 8, 12, fun k s => canStrmCfg s k v),
   (Ra.CAN_TXQ_TAIL 0, 0x10000, 6, fun c s => txqTail s c v),
   (Ra.ETH_GCL_DATA 1, 4, 1, fun _ s => gclDataWrite s v),
   (Ra.ETH_GCL_COMMIT 0, 4, 4, fun p s => if v = 0 then s else gclCommit s p),
   (Ra.ETH_PTP_CFG, 4, 1, fun _ s => ptpShow (plainWrite s Ra.ETH_PTP_CFG v))]

/-- Outputs: valves, load switches, displays. -/
def hooksOut (init : Nat) (v : Word) : List Hook :=
  let w := v.toNat
  [(Ra.VLV_CH_CFG 0, 0x20, 32, fun n s => vlvCfgWrite s init n v),
   (Ra.VLV_BANK_SWAP 0, 0x40, 8, fun b s => bankSwap s init b v),
   (Ra.VLV_BANK_CLR 0, 0x40, 8, fun b s => bankClr s init b v),
   (Ra.VLV_TEST_CMD, 4, 1, fun _ s => vlvTestCmd s s.cmdMode (bits w 28 4) (bits w 0 5)),
   (0x40B80000, 4, 0x2000, fun k s => codeWrite s init (0x40B80000 + 4 * k) v),
   (Ra.LSW_CH_CMD 0, 0x20, 24, fun n s => lswCmdWrite s n v),
   (Ra.LSW_CH_CFG 0, 0x20, 24, fun n s => lswCfgWrite s n v),
   (Ra.LSW_CH_CLR 0, 0x20, 24, fun n s => lswClr s n v),
   (Ra.LSW_TEST_CMD, 4, 1, fun _ s => lswTestCmd s (bits w 28 4) (bits w 0 5)),
   (Ra.DSP_PNL_CTL, 4, 1, fun _ s => pnlCtlWrite s v),
   (Ra.DSP_FB_FLIP, 4, 1, fun _ s => fbFlip s v),
   (Ra.BST_UPD, 4, 1, fun _ s => if bit w 0 then stripGo s else s)]

/-- Every register with an action. -/
def hooks (init : Nat) (v : Word) : List Hook :=
  hooksSys init v ++ hooksMem init v ++ hooksRec init v ++ hooksCe v ++ hooksSens init v ++ hooksLink v ++ hooksOut init v

/-- The register has an action of its own. -/
def hooked (a : Nat) : Bool := (hooks 0 0).any (·.covers a)

/-! ### The write -/

/-- SAF registers that any initiator may write (R19). -/
def safHost : List Nat := [Ra.SAF_HB, Ra.SAF_STEER_REQ, Ra.SAF_STEER_TEST, Ra.SAF_STOP_REQ]

/-- A block refuses the initiator (R19, R406): SAF but for its request registers, and the bank registers of VB0, answer to the Mirror pair only. -/
def initBarred (init a : Nat) : Bool :=
  init != 0x0C && ((a / 0x10000 == 0x4020 && !safHost.contains a) || decide (Ra.VLV_BANK_CFG 0 ≤ a ∧ a < Ra.VLV_BANK_CFG 1))

/-- A write of a register of the replay boundary by an application core is captured, and in REPLAY ignored (R8, R514). Commands, routes, parameters,
fusion registers and mailboxes have rules of their own. -/
def coreBnd (s : State) (init a : Nat) : Bool :=
  decide (init < 4) && bndReg s a && !([0x4032, 0x4050, 0x4004].contains (a / 0x10000)) &&
    !(decide (a < 0x40180000) && [0x04, 0x20, 0x40, 0x74].contains (a % 0x10000))

/-- Write a register that exists. -/
def regAct (s : State) (init a : Nat) (v : Word) : State := match (hooks init v).find? (·.covers a) with
  | some h => h.2.2.2 ((a - h.1) / h.2.1) s
  | none => if decide (0x40050000 ≤ a ∧ a < 0x40050800) && panelOwns s ((a - 0x40050000) / 0x40) then s else plainWrite s a v

/-- A 32-bit aligned write of an address in a register window. -/
def regWrite (s : State) (init addr : Nat) (v : Word) : State :=
  let a := canonAddr addr
  if initBarred init a then fabErr s init a 1
  else if coreBnd s init a then (if s.rpl.live.isSome then s else regAct (tabCmd s a [v.toNat]) init a v)
  else regAct s init a v

/-- An error response (R28): recorded; an application core takes a synchronous abort, and one of the Mirror pair is a lock-out with cause 8. -/
def busError (s : State) (init addr kind : Nat) : State :=
  let s := coreAbort (fabErr s init addr kind) init
  if init = 0x0C then lockOut s 8 0 else s

/-- The low bytes of a word. -/
def lowBytes (v : Word) (size : Nat) : List Byte := (leBytes 4 v.toNat).take (2 ^ size)

/-- The debug port may access: open, and for a write with SCOPE 1 (R540). -/
def dbgMay (s : State) (write : Bool) : Bool := s.flag Fd.UPD_DBG_STAT_OPEN && (!write || s.flag Fd.UPD_DBG_STAT_SCOPE)

/-- A write of 2^`size` bytes by an initiator: registers (R16–R19), LPDDR5 (R353, R357), tile memory through the debug port (R15, R540); any other
address is a decode error, and a region closed to the initiator an access error (R28). -/
def busWrite (s : State) (init addr size : Nat) (v : Word) : State :=
  if 0x40000000 ≤ addr ∧ addr < 0x41000000 then
    if !inWindow addr then busError s init addr 0
    else if size < 2 ∨ addr % 4 ≠ 0 then fabErr s init addr 2
    else regWrite s init addr v
  else if init = 0x39 ∧ 0x50000000 ≤ addr ∧ addr < 0x50200000 then tabEnd (s.setBytes addr (lowBytes v size)) 2
  else if init = 0x0C ∧ 0x0FF0000000 ≤ addr ∧ addr < 0x1000000000 then s.setBytes addr (lowBytes v size)
  else if addr < 0x10000 ∨ (0x50000000 ≤ addr ∧ addr < 0x50200000) ∨ (0x60000000 ≤ addr ∧ addr < 0x61000000) then busError s init addr 1
  else if 0x0800000000 ≤ addr ∧ addr < 0x1000000000 then
    writeIova s init addr (lowBytes v size)
  else busError s init addr 0

/-- An initiator may issue accesses now: the module is powered and not in reset; in a thermal shutdown compute stops and only the Mirror pair
runs (R75); the debug port is open. An access of a core ends its reset. -/
def mayAccess (s : State) (init : Nat) (write : Bool) : Bool :=
  s.powered && !s.held && (!s.pm.hot || init == 0x0C) && (init != 0x39 || dbgMay s write)

/-- A core that accesses the fabric has left its reset. -/
def coreAwake (s : State) (init : Nat) : State := if init < 4 ∧ s.pm.appReset = true then s.setPm { s.pm with appReset := false } else s

/-- A write on the fabric (R20, R22): it is performed and answered, or stalls at its initiator's port. -/
def fabWrite (s : State) (init addr size : Nat) (v : Word) : State :=
  let t := { fabTxn s init addr true with wr := some (size, v) }
  if fabOpen s t then busWrite (fabPass s t) init addr size v else fabStall s t

/-- REGISTER_WRITE (R18): an initiator writes `v`, 8, 16 or 32 bits wide (`size` 0 to 2), at a fabric address. -/
def execRegisterWrite (init : Fin 58) (addr : BitVec 40) (size : Fin 3) (v : Word) (s : State) : Out :=
  if mayAccess s init true then .next (fabWrite (coreAwake s init) init addr.toNat size v) else .next s

/-- The stalled writes that have been granted are performed in order; each frees its entry for the next stalled request (R22). -/
def fabWrites : Nat → State → State
  | 0, s => s
  | n + 1, s => match s.fab.ready with
    | [] => s
    | t :: r =>
      let w := t.wr.getD (2, 0)
      fabWrites n (fabGrant (busWrite (s.setFab { s.fab with ready := r }) t.init t.addr w.1 w.2))

/-- Perform every granted write. -/
def fabDrain (s : State) : State := fabWrites (s.fab.ready.length + s.fab.stalled.length) s

/-- FABRIC_ENTRY_FREED (R20–R24): requests that arrived, in order (initiator, address, write), then the initiator whose oldest
transaction received its response. -/
def execFabricEntryFreed (arrive : List (Fin 58 × BitVec 40 × Bool)) (freed : Fin 58) (s : State) : Out :=
  .next (fabDrain (fabFree (fabArrive s arrive) freed))

/-- DMA_DOORBELL (R363, R20): an application core writes TAIL. -/
def execDmaDoorbell (n : Fin 32) (tail : Half) (s : State) : Out := .next (fabWrite s 0 (Ra.DMA_CH_TAIL n) 2 (tail.setWidth 32))

/-- DOORBELL_SET (R372, R20): an application core writes MBX_DB[d]_SET; the bits written as 1 become pending. -/
def execDoorbellSet (d : Fin 32) (v : Word) (s : State) : Out := .next (fabWrite s 0 (Ra.MBX_DB_SET d) 2 v)

/-! ### Reads -/

/-- A read of one register word by an initiator: the reads that act come first (R502, R501, R539). -/
def busRead (s : State) (init a : Nat) : Word × State :=
  if inCodeStore a then (codeRead s a, s)
  else
    let s := if a = Ra.EVR_NONCE_LO then evrNonce s else if a = Ra.UPD_NONCE_LO then updNonce s else s
    let s := s.forN 4 (fun s w => if a = Ra.EVR_LOUPE_DATA w 0 then loupeLatch s w else s)
    readReg (shown s) s init a

/-- Read `n` words in rising order. -/
def busReads (s : State) (init : Nat) : Nat → Nat → List Word × State
  | _, 0 => ([], s)
  | a, n + 1 =>
    let x := busRead s init a
    let y := busReads x.2 init (a + 4) n
    (x.1 :: y.1, y.2)

/-- Write words in rising order. -/
def busWrites (s : State) (init : Nat) : Nat → List Word → State
  | _, [] => s
  | a, v :: r => busWrites (busWrite s init a 2 v) init (a + 4) r

/-- A read of 1, 2 or 4 bytes (R16): the addressed bytes of the register; one that is not aligned to its width returns 0 and is recorded. -/
def readSized (s : State) (init addr size : Nat) : Word × State :=
  if addr % 2 ^ size ≠ 0 then (0, fabErr s init addr 2)
  else
    let x := busRead s init (addr / 4 * 4)
    (BitVec.ofNat 32 (bits x.1.toNat (8 * (addr % 4)) (8 * 2 ^ size)), x.2)

/-- A register read on the fabric (R16, R17, R20): answered to its initiator, a decode error outside every window, or stalled. -/
def fabRead (s : State) (init addr size : Nat) : State :=
  let t := fabTxn s init addr false
  if !fabOpen s t then fabStall s t
  else if inWindow addr then noteRead init (readSized (fabPass s t) init addr size)
  else busError (fabPass s t) init addr 0

/-- LOW_WORD_READ_LATCH (R16): an initiator reads 8, 16 or 32 bits of a register; the read of the low word of a 64-bit value
latches the high word for it, and its next read of the high word returns that. -/
def execLowWordReadLatch (init : Fin 58) (rd : RegRead) (s : State) : Out :=
  if mayAccess s init false && decide (0x40000000 ≤ rd.addr.toNat ∧ rd.addr.toNat < 0x41000000) then
    .next (fabRead (coreAwake s init) init rd.addr.toNat rd.size)
  else .next s

/-- RC_FIELD_READ (R4, R7): an initiator reads a register that holds an RC field; the field is returned and cleared. -/
def execRcFieldRead (init : Fin 58) (addr : Word) (s : State) : Out :=
  match regRow (canonAddr addr.toNat) with
  | some r =>
    if r.rc = 0 ∨ mayAccess s init false = false then .next s else .next (fabRead (coreAwake s init) init addr.toNat 2)
  | none => .next s

/-- The loop of an engine whose access an error response answers: the one whose sample runs, else the one in its first running slot. -/
def accessLoop (s : State) (e : Nat) : Option Nat := match s.ctx e with
  | some c => some c.loop
  | none => ((s.engSlots e).find? (fun i => s.slotState e i == SlotSt.running)).map (s.slotLoop e)

/-- A transaction of an initiator ends without a response (R28): a DMA channel stops with FAULT, a control engine takes its memory-fault trap
(R92), the others as with any error response. -/
def timeoutAct (s : State) (init addr : Nat) : State :=
  if 0x10 ≤ init ∧ init < 0x30 then
    let n := init - 0x10
    match (s.dch n).run with
    | some d =>
      if s.fld (Fd.DMA_CH_STAT_STATE n) = dmaFault then fabErr s init addr 3
      else
        let p := dmaPhys s n d d.done true
        dmaFaultAt (fabErr s init addr 3) n d d.done ftError (decide (p ≤ addr ∧ addr < p + 256)) 0
    | none => fabErr s init addr 3
  else if 4 ≤ init ∧ init < 0x0C then
    let s := fabErr s init addr 3
    match accessLoop s (init - 4) with
    | some l => s.setGw { s.gw with dwf := smPut none s.gw.dwf l (some (addr % 2 ^ 32)) }
    | none => s
  else busError s init addr 3

/-- RESPONSE_TIMEOUT (R28): the oldest transaction of an initiator gets no response in time: an error response of KIND 3, which
SYS_FAB_AUX[9] counts. -/
def execResponseTimeout (init : Fin 58) (addr : BitVec 40) (s : State) : Out :=
  .next (fabDrain (fabFree (timeoutAct (s.count (Fd.SYS_FAB_AUX_V 9)) init addr.toNat) init))

end Sys2Proof.Machine
end

