-- ==== Sys2Proof/Machine/Replay.lean ====
section
/-! DEFINITION. REPLAY (R512–R517): the start from a checkpoint, the delivery of recorded inputs, the comparison of outputs, and the end. -/

namespace Sys2Proof.Machine

/-! ### The selected recording (R512) -/

/-- The records of a segment, in order: its blocks of the ring, and what is still in the buffer of the present segment. -/
def segRecs (s : State) (seg : Nat) : List TabRec :=
  (s.tab.ring.filter (fun x => x.2.seg == seg)).flatMap (fun x => x.2.recs) ++ s.tab.buf.filter (fun r => r.seg == seg)

/-- The records after a checkpoint's own; none where the stream no longer holds it. -/
def recsFrom (l : List TabRec) (num : Nat) : Option (List TabRec) :=
  match l.dropWhile (fun r => !(r.type == TabT.ckpt && r.unit == num)) with
  | _ :: r => some r
  | [] => none

/-- DIGEST at a checkpoint, from its record. -/
def recsDigest (l : List TabRec) (num : Nat) : Bool :=
  (l.find? (fun r => r.type == TabT.ckpt && r.unit == num)).any (fun r => r.data == [1])

/-- The checkpoint that TAB_RPL_SEL and TAB_RPL_CKPT select, with the records after it. -/
def selCkpt (s : State) : Option (Ckpt × List TabRec) :=
  let num := (s.reg Ra.TAB_RPL_CKPT).toNat
  match s.rpl.ckpts.find? (fun c => c.seg == (s.reg Ra.TAB_RPL_SEL).toNat && c.num == num) with
  | some c => (recsFrom (segRecs s c.seg) num).map (fun l => (c, l))
  | none => none

/-! ### The boundary's state (R513) -/

/-- Replace the part of a sparse map with keys inside a set. -/
def smSwap {α : Type} [DecidableEq α] (d : Nat → α) (inside : Nat → Bool) (old new : SMap α) : SMap α :=
  (new.filter (fun x => inside x.1)).foldl (fun m x => smPut (d x.1) m x.1 x.2) (old.filter (fun x => !inside x.1))

/-- A register inside the boundary, by the present configuration of the mailboxes or by that of `b`. -/
def bndUnion (s : State) (b : Bnd) (a : Nat) : Bool := bndReg s a || bndReg { s with regs := b.regs } a

/-- Cycle counts kept by units inside the boundary move with the DTB count: by `d` cycles, a multiple of 16. -/
def laterCyc (d : Nat) (x : Option Nat) : Option Nat := x.map (· + d)

/-- The valve drive's steps, `d` cycles later. -/
def vlvLater (d : Nat) (v : VlvState) : VlvState :=
  let n := d / 16
  let req := fun (r : BoostReq) => { r with reqAt := r.reqAt + n, start := if r.start = 0 then 0 else r.start + n }
  { v with
    ctx := smMapVals {} (fun _ (c : FacetCtx) => ({ c with
      step := c.step + n,
      wait := match c.wait with
        | .untilStep t => .untilStep (t + n)
        | w => w } : FacetCtx)) v.ctx
    ch := smMapVals {} (fun _ (c : VlvCh) => ({ c with idleCyc := laterCyc d c.idleCyc, req := c.req.map req } : VlvCh)) v.ch
    bank := smMapVals {} (fun _ (b : VlvBank) => ({ b with
      waiting := b.waiting.map (fun w => (w.1 + n, w.2)), hist := b.hist.map (fun h => (h.1 + n, h.2 + n)) } : VlvBank)) v.bank }

/-- The fusion sequencer's cycle counts, `d` cycles later; the inference array, the receivers and their results lie outside and stay. -/
def fusLater (d : Nat) (live f : FusState) : FusState :=
  { f with
    whl := smMapVals {} (fun _ (w : WhlSt) => ({ w with offCyc := laterCyc d w.offCyc, okCyc := laterCyc d w.okCyc } : WhlSt)) f.whl
    imuBad := laterCyc d f.imuBad, headCyc := laterCyc d f.headCyc, posCyc := laterCyc d f.posCyc
    parLim := smMapVals none (fun _ x => laterCyc d x) f.parLim
    fwdCyc := laterCyc d f.fwdCyc, readyJ := live.readyJ, runJ := live.runJ, pairOut := live.pairOut, waitR := live.waitR
    scan := live.scan, scanOff := live.scanOff }

/-- Put a state of the boundary in place of the present one; the live safety loop's state, the CAN controllers and the map that the
application complex stores lie outside. -/
def putBnd (s : State) (b : Bnd) : State :=
  let d := (s.cyc - b.cyc) / 16 * 16
  { s with
    regs := smSwap resetVal (bndUnion s b) s.regs b.regs
    mem := smSwap (fun _ => 0) bndByte s.mem b.tile
    pub := b.pub, stage := b.stage, gw := b.gw, ce := b.ce, gov := b.gov, mfp := b.mfp
    yld := { b.yld with stored := s.yld.stored }
    steer := b.steer, fus := fusLater d s.fus b.fus, vlv := vlvLater d b.vlv
    can := { s.can with tab := b.can.tab, tabP := b.can.tabP, sig := b.can.sig, txv := b.can.txv, virt := b.can.virt } }

/-! ### Placement (R512, R128) -/

/-- The recorded loops on an engine as (schedule, tile units). -/
def recLoops (r : State) (e : Nat) : List (Sched × Nat) :=
  (r.engSlots e).map (fun i =>
    ((r.fld (Fd.CE_SLOT_SCHED_PERIOD e i), r.fld (Fd.CE_SLOT_SCHED_PHASE e i), r.slotCost e i), r.fld (Fd.CE_SLOT_WIN_SIZE e i)))

/-- An engine holds these loops: 16 slots, 64 units of tile memory, and the load of R128. -/
def holdsAll (l : List (Sched × Nat)) : Bool :=
  decide (l.length ≤ 16) && decide (l.foldl (fun a x => a + x.2) 0 ≤ 64) && decide (peakLoad (l.map (·.1)) ≤ 38400)

/-- Give each further loop to the first engine of the list that still holds it. -/
def placeAll : List (List (Sched × Nat)) → List (Sched × Nat) → Bool
  | _, [] => true
  | on, x :: r => match on.findIdx? (fun l => holdsAll (x :: l)) with
    | some k => placeAll (on.set k (x :: on.getD k [])) r
    | none => false

/-- Every recorded loop has a place: its recorded engine, or another ONLINE engine where that one is not ONLINE. -/
def replayPlaced (s : State) (c : Ckpt) : Bool :=
  let r := { s with regs := c.bnd.regs }
  let up := (List.range 8).filter (fun e => s.engState e == engOnline)
  let down := (List.range 8).filter (fun e => s.engState e != engOnline)
  placeAll (up.map (recLoops r)) (down.flatMap (recLoops r))

/-- REPLAY may be requested (R512). -/
def replayAllowed (s : State) : Bool := match selCkpt s with
  | some (c, _) => c.part == s.fld Fd.SYS_ID_PART && c.major == s.fld Fd.SYS_ID_MAJOR && replayPlaced s c
  | none => false

/-! ### Start (R513 steps 2 to 4) -/

/-- The divergence registers clear when a replay starts. -/
def divClear (s : State) : State :=
  [Ra.TAB_DIV_INFO, Ra.TAB_DIV_TICK_LO, Ra.TAB_DIV_TICK_HI, Ra.TAB_DIV_STEP, Ra.TAB_DIV_REC, Ra.TAB_DIV_REP, Ra.TAB_DIV_CNT].foldl
    (fun s a => s.setReg a 0) s

/-- F0: the live segment ends, the live state of the boundary is saved, and the checkpoint's takes its place. -/
def replayStart (s : State) : State := match selCkpt s with
  | some (c, l) =>
    let s := logEvent (tabEnd s 5) Ev.replayStart Src.tabroth c.seg c.num
    let s := divClear s
    let live : Bnd := { bndOf s with regs := s.regs.filter (fun x => bndUnion s c.bnd x.1) }
    let s := (putBnd s c.bnd).setFld Fd.TAB_RPL_CTL_STATE 1
    s.setRpl { s.rpl with
      live := some live, recs := l, events := [], facet := [], endBy := none, loaded := false, liveTick := s.clk.tick, startAt := c.bnd.tick, sfc := c.bnd.sfc,
      outs := [], bndMode := c.bnd.mode, digest := recsDigest (segRecs s c.seg) c.num, saf := c.bnd.saf }
  | none => s

/-- TAB_RPL_TICK shows the replay tick index. -/
def showReplayTick (s : State) : State := s.setReg64 Ra.TAB_RPL_TICK_LO Ra.TAB_RPL_TICK_HI s.clk.tick

/-! ### Recorded inputs (R504, R513 step 5) -/

/-- Do what a write does outside REPLAY. -/
def asLive (f : State → State) (s : State) : State :=
  let l := s.rpl.live
  let s := f (s.setRpl { s.rpl with live := none })
  s.setRpl { s.rpl with live := l }

/-- A recorded message to endpoint `e`: the Mirror pair takes a path segment; a loop's mailbox takes it as posted. -/
def deliverMsg (s : State) (e : Nat) (ws : List Word) : State :=
  if s.flag (Fd.MBX_EP_CFG_RXL e) then
    asLive (fun s => mbxPost (ws.zipIdx.foldl (fun s x => s.setReg (Ra.MBX_PAYLOAD e x.2) x.1) s) false (s.fld (Fd.MBX_EP_CFG_TX e)) e 0) s
  else (pathMsg s ws).1

/-- A recorded command that was turned away at its write shows the code it showed then (R130). -/
def cmdTurned (s : State) (a w code : Nat) : State :=
  let e := a / 0x10000 - 0x4010
  match a % 0x10000 with
  | 0x20 => cmdRefuse s e code (bits w 16 7) 0
  | 0x04 => cmdRefuse s e code 0 1
  | 0x40 => migRefuse s e code (bits w 16 7) (bits w 24 3)
  | _ => s.setFld (Fd.CE_RT_CMD_RESULT 0) code

/-- A recorded write by a core, a calibration copy or a message, at the tick at which it applies. Mode requests are followed through the recorded
mode, and load-switch commands lie outside. -/
def deliverCmd (s : State) (a : Nat) (data : List Nat) : State :=
  let v := BitVec.ofNat 32 (data.headD 0)
  if 2 ^ 40 ≤ a then calCopy s ((a - 2 ^ 40) / 2 ^ 24) (a % 2 ^ 24) (data.map (BitVec.ofNat 32))
  else if a = Ra.SYS_MODE_REQ ∨ a / 0x10000 = 0x40A0 then s
  else if a = Ra.SAF_HB then s.setRpl { s.rpl with saf := { s.rpl.saf with hb := v } }
  else if a = Ra.SAF_STOP_REQ then s.setRpl { s.rpl with saf := { s.rpl.saf with imgLock := true } }
  else if a = Ra.SAF_STEER_REQ then s.setSteer { s.steer with req := some (bits v.toNat 0 2) }
  else if a / 0x10000 = 0x4032 then s.setMfp { s.mfp with wr := s.mfp.wr ++ [(a, v)] }
  else if a = Ra.FUS_PAR_CMD then asLive parCommit s
  else if a / 0x10000 = 0x4050 then s.setFus { s.fus with cfgPend := s.fus.cfgPend ++ [(a, v)] }
  else if Ra.MBX_PAYLOAD 0 0 ≤ a ∧ a < Ra.MBX_PAYLOAD 64 0 then deliverMsg s ((a - Ra.MBX_PAYLOAD 0 0) / 0x40) (data.map (BitVec.ofNat 32))
  else if a / 0x10000 = 0x4004 then asLive (fun s => mbxAck s ((a - Ra.MBX_EP_ACK 0) / 0x20) (data.headD 0)) s
  else if data.length = 2 then cmdTurned s a v.toNat (data.getD 1 0)
  else asLive (fun s => regAct s 0 a v) s

/-- A recorded buffer: an inference result or a lidar scan, or a DMA channel's data in its loop's window. -/
def deliverBuf (s : State) (unit : Nat) (data : List Nat) : State :=
  let ws := fun (k : Nat) => (data.drop k).map (BitVec.ofNat 32)
  if 0x0D00 ≤ unit then
    let tM := data.getD 2 0 + data.getD 3 0 * 2 ^ 32
    fusTake s { kind := (unit - 0x0D00) / 16, src := unit % 16, status := data.getD 0 0, tM := tM, flags := data.getD 1 0, data := ws 4, tick := s.clk.tick }
  else s.setWords (chTile s unit (data.headD 0)) (ws 1)

/-- Act on the replayed image of the safety loop (R470). -/
def asImage (f : State → State) (s : State) : State :=
  let i := f (s.setSaf s.rpl.saf)
  (i.setRpl { i.rpl with saf := i.saf }).setSaf s.saf

/-- A recorded fault makes the bench engine behave as recorded, at the end of its tick (R156, R513 step 5). -/
def deliverFault (s : State) (r : TabRec) : State :=
  if r.type ≠ TabT.fault then s
  else match r.data with
    | 4 :: addr :: l => match slotAt s r.unit addr with
      | some i => ueAt s r.unit i addr (pubsOf s.clk.tick l)
      | none => s
    | 5 :: l => hangAt s r.unit (pubsOf s.clk.tick l)
    | [7] => fusHalt s
    | _ => s

/-- Deliver one record. FACET records wait for their step; of the FAULT records an evacuation of a DEGRADED engine starts with its frame. -/
def deliverRec (s : State) (r : TabRec) : State :=
  if r.type = TabT.latch ∧ r.unit = safTpKey then
    asImage (fun s => testPulse s false (bits (r.data.headD 0) 8 1) (bits (r.data.headD 0) 0 8)) s
  else if r.type = TabT.latch ∧ r.unit = safBtnKey then asImage (fun s => imagePress s (r.data.headD 0)) s
  else if r.type = TabT.latch then
    s.setPub r.unit { val := BitVec.ofNat 32 (r.data.getD 0 0), valid := r.data.getD 1 0 == 1, code := r.data.getD 2 0, tick := some (r.data.getD 3 0) }
  else if r.type = TabT.facet then s.setRpl { s.rpl with facet := s.rpl.facet ++ [r] }
  else if r.type = TabT.cmd then deliverCmd s r.unit r.data
  else if r.type = TabT.buf then deliverBuf s r.unit r.data
  else if r.type = TabT.fault ∧ r.data = [6] then evacRemove s r.unit
  else s

/-- The records of the present replay tick. -/
def tickRecs (s : State) : List TabRec := s.rpl.recs.filter (fun r => decide (r.tick ≤ s.clk.tick))

/-- Deliver the recorded inputs of the tick. -/
def replayDeliver (s : State) : State := (tickRecs s).foldl deliverRec s

/-- REPLAY_LOADED (R513 step 4): at a frame boundary the checkpoint is loaded and the stream read ahead: samples run from the checkpoint's tick. -/
def execReplayLoaded (s : State) : Out := match s.rpl.live with
  | some b =>
    if s.rpl.loaded = false ∧ s.framePend = true then
      let s := s.setClk { s.clk with tick := s.rpl.startAt, frameAt := some s.rpl.startAt }
      let s := (s.setRpl { s.rpl with loaded := true }).setFld Fd.TAB_RPL_CTL_STATE 2
      .next (replayDeliver (showReplayTick (s.setReg Ra.TAB_LOAD_TIME (BitVec.ofNat 32 ((s.cyc - b.cyc) / cycMs)))))
    else .next s
  | none => .next s

/-- The recorded mode commit, at a frame boundary. -/
def replayMode (s : State) : State := (tickRecs s).foldl (fun s r =>
  if r.type = TabT.out ∧ r.unit = modeKey then s.setRpl { s.rpl with bndMode := r.data.headD 0 } else s) s

/-- The recorded change of the OUT level (R508), at a frame boundary. -/
def replayDigest (s : State) : State := (tickRecs s).foldl (fun s r =>
  if r.type = TabT.mark ∧ r.unit = TabM.outLevel then s.setRpl { s.rpl with digest := r.data == [1] } else s) s

/-! ### Comparison (R515, R516) -/

/-- KIND of an output's unit. -/
def outKind (unit : Nat) : Nat :=
  if 2 ^ 48 ≤ unit then 7
  else if 2 ^ 44 ≤ unit then (if unit % 2 ^ 20 < 0x41000 then 3 else 4)
  else if 2 ^ 43 ≤ unit then 6
  else match unit / 2 ^ 28 with
    | 2 => 0
    | 3 => if 0x10000 ≤ unit % 2 ^ 28 then 5 else 1
    | _ => 2

/-- TAB_DIV_INFO.UNIT of an output's unit. -/
def outUnit (s : State) (unit : Nat) : Nat := match outKind unit with
  | 3 => let x := unit - 2 ^ 44
         (txEndpoint s (x / 2 ^ 20) ((x % 2 ^ 20 - 0x40000) / 0x100)).getD ((rxEndpoint s (x / 2 ^ 20) ((x % 2 ^ 20 - 0x40000) / 0x100)).getD 0)
  | 4 => let x := unit - 2 ^ 44
         let i := (x % 2 ^ 20 - 0x41000) / 0x20
         (submitDesc s (x / 2 ^ 20) i).ctl % 32 * 256 + i
  | 5 => unit % 2 ^ 28 - 0x10000
  | 6 => unit - 2 ^ 43
  | 7 => (unit - 2 ^ 48) % 2 ^ 28 / 256
  | _ => unit % 2 ^ 28

/-- The value of an output that TAB_DIV_REC and TAB_DIV_REP show: its first differing word's first place, for the valve drive after kind and step. -/
def outValue (kind : Nat) (d : List Nat) : Nat := if kind = 6 then d.getD 2 0 else d.headD 0

/-- A mismatch: the first latches everything; every one after it is only counted. STOP_ON_DIV ends the replay with reason 4. -/
def diverge (s : State) (tick unit : Nat) (rec_ rep : List Nat) : State :=
  let s := if s.flag Fd.TAB_DIV_INFO_VALID then s.count Fd.TAB_DIV_CNT_V
    else
      let k := outKind unit
      let s := ((s.setFlag Fd.TAB_DIV_INFO_VALID true).setFld Fd.TAB_DIV_INFO_KIND k).setFld Fd.TAB_DIV_INFO_UNIT (outUnit s unit)
      let s := (s.setReg64 Ra.TAB_DIV_TICK_LO Ra.TAB_DIV_TICK_HI tick).setReg Ra.TAB_DIV_STEP (BitVec.ofNat 32 (if k = 6 then rec_.getD 1 0 else 0))
      let s := s.setReg Ra.TAB_DIV_REC (BitVec.ofNat 32 (outValue k rec_))
      ((s.setReg Ra.TAB_DIV_REP (BitVec.ofNat 32 (outValue k rep))).count Fd.TAB_DIV_CNT_V).raise (Ra.TAB_INT_PEND 1) 0
  if s.flag Fd.TAB_RPL_CTL_STOP_ON_DIV then s.setRpl { s.rpl with endBy := some (s.rpl.endBy.getD 4) } else s

/-- Compare two lists of outputs of one tick, in order; an output without its counterpart is a mismatch. -/
def compareOuts (s : State) (a b : List TabRec) : State := s.forN (max a.length b.length) (fun s k => match a[k]?, b[k]? with
  | some r, some p => if r.unit = p.unit ∧ r.data = p.data then s else diverge s r.tick r.unit r.data p.data
  | some r, none => diverge s r.tick r.unit r.data []
  | none, some p => diverge s p.tick p.unit [] p.data
  | none, none => s)

/-- The end of a replayed tick: recorded faults act, its outputs are compared, and END, the end of the segment and a live lock-out end the replay. -/
def replayTickEnd (s : State) : State :=
  let l := tickRecs s
  let s := l.foldl deliverFault (facetDue s (stepAt s 499))
  let s := compareOuts s (l.filter (fun r => r.type == TabT.out)) s.rpl.outs
  let s := s.setRpl { s.rpl with recs := s.rpl.recs.filter (fun r => decide (s.clk.tick < r.tick)), outs := [] }
  let stop := fun (s : State) (why : Nat) => s.setRpl { s.rpl with endBy := some (s.rpl.endBy.getD why) }
  let e := s.reg64 Ra.TAB_RPL_END_LO Ra.TAB_RPL_END_HI
  if e ≠ 0 ∧ e ≤ s.clk.tick then stop s 0 else if s.rpl.recs.isEmpty then stop s 1 else s

/-! ### End (R513 step 6, R517) -/

/-- The loops that run lose the samples since F0: their ports keep their values with VALID clear (R156). -/
def resumeLost (s : State) : State :=
  let l := (s.heldSlots.filter (fun x => s.slotState x.1 x.2 == SlotSt.running)).map (fun x => (s.slotLoop x.1 x.2, s.clk.tick + 1))
  s.setCe { s.ce with lost := s.ce.lost ++ l }

/-- Restore the live state and commit SERVICE, or SAFE_STOP after a live lock-out. -/
def replayFinish (s : State) (b : Bnd) (why : Nat) : State :=
  let n := s.fld Fd.TAB_DIV_CNT_V
  let s := putBnd s b
  let s := s.setClk { s.clk with tick := s.rpl.liveTick, frameAt := s.clk.frameAt.map (fun _ => s.rpl.liveTick) }
  let s := (s.setRpl { s.rpl with live := none, loaded := false, recs := [], outs := [], facet := [], endBy := none }).setFld Fd.TAB_RPL_CTL_STATE 3
  let s := modeCommit (modeDisplace (resumeLost s)) (if s.locked then Mode.safeStop else Mode.service)
  logEvent (s.raise (Ra.TAB_INT_PEND 1) 1) Ev.replayEnd Src.tabroth n why

/-- At a frame boundary the replay stops where an end is due; a live lock-out ends it with reason 5. -/
def replayEndDue (s : State) : State := match s.rpl.live with
  | some b =>
    if s.locked then replayFinish s b 5
    else match s.rpl.endBy with
      | some w => replayFinish s b w
      | none => s
  | none => s

/-- A UFS read error ends a replay with reason 3 (R517). -/
def replayReadErr (s : State) : State := if s.rpl.live.isSome then s.setRpl { s.rpl with endBy := some (s.rpl.endBy.getD 3) } else s

/-- REPLAY_END (R513 step 6, R517): at a frame boundary the replay stops where an end is due. -/
def execReplayEnd (s : State) : Out :=
  if s.framePend then .next (replayEndDue s) else .next s

/-- REPLAY_STOP (R517): TAB_RPL_CTL.STOP is written. -/
def execReplayStop (s : State) : Out :=
  if s.rpl.live.isSome then .next (s.setRpl { s.rpl with endBy := some (s.rpl.endBy.getD 2) }) else .next s

end Sys2Proof.Machine
end

