-- ==== Sys2Proof/Machine/Supervise.lean ====
section
/-! DEFINITION. The Mirror pair's check of a mode request (R54–R60), its commit after a ramp, and the module's own way to STANDBY (R66–R68). -/

namespace Sys2Proof.Machine

/-! ### The transition table (R58) -/

/-- The transition is in the table, as one that a request may ask for. -/
def inTable (s : State) (old new : Nat) : Bool :=
  if new = Mode.off then true
  else if new = Mode.safeStop then decide (Mode.boot ≤ old)
  else if old = Mode.boot then [Mode.road, Mode.activate].contains new
  else if old = Mode.road then [Mode.fieldManual, Mode.service, Mode.activate, Mode.standby].contains new
  else if old = Mode.fieldManual then [Mode.fieldAssist, Mode.road, Mode.service].contains new
  else if old = Mode.fieldAssist then [Mode.fieldAuto, Mode.unloadSync, Mode.fieldManual, Mode.road, Mode.service].contains new
  else if old = Mode.fieldAuto then [Mode.unloadSync, Mode.fieldAssist, Mode.road, Mode.service].contains new
  else if old = Mode.unloadSync then new == s.pm.orig
  else if old = Mode.service then [Mode.road, Mode.replay, Mode.activate, Mode.standby].contains new
  else if old = Mode.replay then new == Mode.service
  else if old = Mode.activate then new == Mode.road
  else if old = Mode.safeStop then [Mode.road, Mode.standby].contains new
  else false

/-- Three kilometres per hour. -/
abbrev kmh3 : Word := 0x40400000

/-- Driverless operation may start: enabled by the owner, pose valid, tracking and speed limiter healthy, MF01 sourced by the governor. -/
def autoReady (s : State) : Bool :=
  let h := s.pubAt (fusKey 7 6)
  s.flag Fd.UPD_STAT_DRIVERLESS && (s.pubAt (fusKey 1 0)).valid && h.valid && h.val == 1 && s.fld Fd.SAF_STAT_STATE == 1 && !s.locked && s.fld (Fd.MFP_MF_CTL_SRC 0) == 0

/-- Loop 0 runs, and no measurement of the observer is in degraded mode. -/
def assistReady (s : State) : Bool := s.loopState 0 == SlotSt.running && !bit (statusWord s 0) 31

/-- The conditions of a transition of the table; `ack`: the operator is present and steering is acknowledged. -/
def modeConds (s : State) (old new : Nat) (ack : Bool) : Bool :=
  if new = Mode.off ∨ new = Mode.safeStop ∨ old = Mode.boot ∨ (old = Mode.safeStop ∧ new = Mode.road) ∨ old = Mode.replay then false
  else if new = Mode.standby then true
  else if old = Mode.road ∧ new = Mode.fieldManual then speedWithin s kmh3 && !s.locked
  else if old = Mode.fieldManual ∧ new = Mode.fieldAssist then assistReady s
  else if new = Mode.fieldAuto ∧ old = Mode.fieldAssist then autoReady s
  else if new = Mode.unloadSync then unloadReady s
  else if old = Mode.unloadSync then s.flr.unlEnd.isSome
  else if old = Mode.fieldAuto ∧ new = Mode.fieldAssist then ack
  else if old = Mode.activate then !([Upd.activating, Upd.trial].contains s.updState)
  else if new = Mode.service then stationary s
  else if new = Mode.replay then replayAllowed s
  else if new = Mode.activate then apertureBits s == 0
  else true

/-- The functions that a transition ramps to their safe values (R58, R201): MF02–MF29, all, or MF27. -/
def rampOf (old new : Nat) : List Nat :=
  if old = Mode.unloadSync then [26]
  else if old = Mode.activate then []
  else if new = Mode.road ∨ new = Mode.service then (List.range 28).map (· + 1)
  else if new = Mode.activate ∨ new = Mode.replay then List.range 30
  else []

/-! ### Check and commit (R56) -/

/-- Start the sequence of R73 for STANDBY, the request still pending. -/
def standbyStart (s : State) : State := pfBegin s (s.fld Fd.PWR_SUP_STAT_LOGIC_MV * 10) (s.fld Fd.PWR_STAT_RESERVE_J) true

/-- Commit the requested mode with what begins in it. -/
def modeEnter (s : State) (m : Nat) : State :=
  let s := modeGranted s m
  if m = Mode.activate then activationStart s else if m = Mode.replay then replayStart s else s

/-- Start the ramp; with nothing left to ramp, commit. -/
def modeRamp (s : State) (old new : Nat) : State :=
  let l := rampOf old new
  let s := mfClear s l
  if mfAllDone s l then modeEnter s new else s.setPm { s.pm with ramping := true }

/-- The check of a pending request. -/
def modeCheck (s : State) (ack : Bool) : State :=
  let old := s.mode
  let new := s.fld Fd.SYS_MODE_STAT_TARGET
  if !inTable s old new then modeResult s Code.badArgument
  else if !modeConds s old new ack then (let s := modeResult s Code.refused; if new = Mode.unloadSync then unloadRefused s else s)
  else if new = Mode.standby then
    if stationary s then standbyStart s
    else (s.setFld Fd.SYS_MODE_STAT_RESULT Code.deferred).setPm { s.pm with deferred := true }
  else modeRamp s old new

/-- A request waits for its check at this frame boundary. -/
def checkDue (s : State) : Bool :=
  s.framePend && s.flag Fd.SYS_MODE_STAT_PENDING && !s.pm.ramping && !s.pm.deferred && s.noPf && s.powered && !s.held &&
    (s.mode == Mode.safeStop || !s.locked) && !s.saf.rstGo && !s.pm.exit

/-- MODE_CHECK (R56, R58): at a frame boundary the Mirror pair checks the pending request; `ack` says that the operator is present and has
acknowledged steering. -/
def execModeCheck (ack : Bool) (s : State) : Out := if checkDue s then .next (modeCheck s ack) else .next s

/-- The request's ramp is over. -/
def rampDone (s : State) : Bool :=
  s.framePend && s.flag Fd.SYS_MODE_STAT_PENDING && s.pm.ramping && s.noPf && !s.locked && mfAllDone s (rampOf s.mode (s.fld Fd.SYS_MODE_STAT_TARGET))

/-- The safety island's own way out of UNLOAD_SYNC has ramped MF27 (R57, R60). -/
def exitDone (s : State) : Bool := s.framePend && s.pm.exit && s.noPf && !s.locked && mfAllDone s [26]

/-- MODE_COMMIT_AFTER_RAMP (R56, R57): at a frame boundary every affected function has reported DISABLE_DONE. -/
def execModeCommitAfterRamp (s : State) : Out :=
  if exitDone s then .next (modeOwn s s.pm.orig)
  else if rampDone s then .next (modeEnter s (s.fld Fd.SYS_MODE_STAT_TARGET)) else .next s

/-! ### The module's own STANDBY (R66, R67) -/

/-- A request of the module's own on its way to STANDBY. -/
def stbyRequest (s : State) (m : Nat) : State := (ownRequest s m).setPm { (ownRequest s m).pm with ownReq := true }

/-- The module's next own request toward STANDBY, by its mode, while none is pending. -/
def stbyAdvance (s : State) : State :=
  if s.pm.stbyReq && !s.flag Fd.SYS_MODE_STAT_PENDING && s.noPf then
    let m := s.mode
    if [Mode.road, Mode.service, Mode.safeStop].contains m then stbyRequest s Mode.standby
    else if m = Mode.unloadSync then
      (if s.flr.unlEnd.isSome then s else unloadEndReq (s.setPm { s.pm with ownEnd := true }) ((s.sfn + 3) % 2 ^ 32))
    else if isField m then (if stationary s then stbyRequest s Mode.road else s)
    else if m = Mode.replay then s.setRpl { s.rpl with endBy := some (s.rpl.endBy.getD 2) }
    else s
  else s

/-- WAKE_IN_FALL (R66): WAKE_IN falls below its low level, and the delay starts. -/
def execWakeInFall (s : State) : Out :=
  if s.powered && s.pm.wakeLow.isNone then .next (s.setPm { s.pm with wakeLow := some s.cyc }) else .next s

/-- STANDBY_DELAY_EXPIRY (R66, R67): PWR_WAKE_CFG.DELAY seconds have passed. -/
def execStandbyDelayExpiry (s : State) : Out := match s.pm.wakeLow with
  | some t =>
    if s.powered && !s.pm.stbyReq && s.since t (s.fld Fd.PWR_WAKE_CFG_DELAY * cycS) then
      .next (stbyAdvance (s.setPm { s.pm with stbyReq := true }))
    else .next s
  | none => .next s

/-- STATIONARY_STANDBY (R66): a DEFERRED request for STANDBY, and the machine is stationary. -/
def execStationaryStandby (s : State) : Out :=
  if s.flag Fd.SYS_MODE_STAT_PENDING && s.pm.deferred && stationary s && s.noPf && [Mode.road, Mode.service, Mode.safeStop].contains s.mode then
    .next (standbyStart s)
  else .next s

/-- What remains of the module's own way to STANDBY is cancelled (R67): its own pending or ramping request and its own end of an unload. DESIGN
CHOICE (log 35): the spec gives no RESULT for the request so cancelled; the model shows REFUSED. -/
def stbyDrop (s : State) : State :=
  let s := if s.pm.ownReq && s.flag Fd.SYS_MODE_STAT_PENDING then modeResult s Code.refused else s
  let s := if s.pm.ownEnd && s.mode == Mode.unloadSync then
      (if s.fld Fd.FLR_UNL_STAT_PHASE = 3 then s.setFld Fd.FLR_UNL_STAT_PHASE 2 else s).setFlr { s.flr with unlEnd := none }
    else s
  s.setPm { s.pm with wakeLow := none, stbyReq := false, ownReq := false, ownEnd := false }

/-- STANDBY_CANCEL (R67, R68): WAKE_IN has been high for 10 ms: before the sequence what remains of the module's own way ends and it stays in the
mode it has reached; during the sequence it wakes at once when that is complete. -/
def execStandbyCancel (s : State) : Out := match s.pm.pf with
  | some p => if p.stby then .next (s.setPm { s.pm with pf := some { p with back := true } }) else .next s
  | none => .next (stbyDrop s)

end Sys2Proof.Machine
end

