-- ==== Sys2Proof/Machine/Serve.lean ====
section
/-! DEFINITION. What a module answers to requests from outside that reach its registers or services: the fleet transactions served here (R341, R346,
R348, R350, R503, R524), and the register transactions of the host protocol (R400). -/

namespace Sys2Proof.Machine

/-! ### Requests of fleet members (R341, R343) -/

/-- The whole request of a source's tag with a kind, when every segment is here and it is not answered. -/
def fleetReqOf (s : State) (src tag kind : Nat) : Option (FKept × List Byte) :=
  match s.flr.kept.find? (fun k => k.src == src && k.tag == tag && k.kind == kind && !k.done) with
  | some k => if 0 < k.nseg ∧ contiguous k.segs k.nseg = k.nseg then some (k, segJoin k.segs) else none
  | none => none

/-- Serve a request: the state after, the code and the response. -/
def fleetServe (s : State) (src tag kind : Nat) (f : State → List Byte → State × Nat × List Byte) : State :=
  match fleetReqOf s src tag kind with
  | some (k, p) =>
    let r := f s p
    fleetReply r.1 k r.2.1 r.2.2
  | none => s

/-- FLEET_PING (R341): at most 64 bytes come back. -/
def execFleetPing (src : Fin 64) (tag : Byte) (s : State) : Out :=
  .next (fleetServe s src tag.toNat 0x01 (fun s p => if p.length ≤ 64 then (s, Code.ok, p) else (s, Code.badArgument, [])))

/-- The holders of a role: this module, and the members by their records. -/
def roleHolders (s : State) (r : Nat) : List (Nat × Nat) :=
  ((ownRoles s).filter (fun x => x.1 == r)).map (fun x => (s.modNum, x.2)) ++
    s.flr.mbr.flatMap (fun m => if m.1 == s.modNum || !s.present m.1 then [] else (m.2.roles.filter (fun x => x.1 == r)).map (fun x => (m.1, x.2)))

/-- ROLE_QUERY (R341): up to 16 (module, epoch) pairs; only the coordinator serves it. -/
def execRoleQuery (src : Fin 64) (tag : Byte) (s : State) : Out :=
  .next (fleetServe s src tag.toNat 0x02 (fun s p =>
    if s.linkSt ≠ flCoord then (s, Code.refused, [])
    else (s, Code.ok, ((roleHolders s (num p 0 1)).take 16).flatMap (fun x => leBytes 1 x.1 ++ leBytes 1 0 ++ leBytes 2 x.2))))

/-! ### Registers over the link (R346) -/

/-- The bit of FLR_REG_WIN for the block that holds an address. -/
def winBit (a : Nat) : Nat :=
  let w := a / 0x10000
  if w ≤ 0x4008 then w - 0x4000 else if w ≤ 0x4017 then 9 else if w ≤ 0x4020 then 10 else if w ≤ 0x4032 then 11 + (w - 0x4030)
  else if w ≤ 0x4040 then 14 else if w ≤ 0x4050 then 15 else if w ≤ 0x4060 then 16 else if w ≤ 0x4070 then 17 else if w ≤ 0x4085 then 18
  else if w ≤ 0x4090 then 19 else if w ≤ 0x40A0 then 20 else if w ≤ 0x40B8 then 21 else if w ≤ 0x40C0 then 22 else 23

/-- The addresses of `n` words. -/
def wordAddrs (a n : Nat) : List Nat := (List.range n).map (fun k => a + 4 * k)

/-- Words of registers of any block: the code of an access that reaches none. -/
def rangeCode (a n top : Nat) : Nat :=
  if a % 4 ≠ 0 ∨ n = 0 ∨ top < n then Code.badArgument
  else if (wordAddrs a n).all (fun x => decide (x < 2 ^ 32) && inWindow x) then Code.ok else Code.fault

/-- Members of the domain. -/
def memberCount (s : State) : Nat := ((List.range 64).filter s.present).length

/-- FLEET_REG_READ (R346): address and count; from 16 members on the EVR block is REFUSED. -/
def execFleetRegRead (src : Fin 64) (tag : Byte) (s : State) : Out :=
  .next (fleetServe s src tag.toNat 0x10 (fun s p =>
    let a := num p 0 4
    let n := num p 4 4
    let c := rangeCode a n 64
    if c ≠ Code.ok then (s, c, [])
    else if 16 ≤ memberCount s ∧ (wordAddrs a n).any (fun x => winBit x == 6) = true then (s, Code.refused, [])
    else
      let r := busReads s 0x0E a n
      (r.2, Code.ok, wordsBytes r.1)))

/-- FLEET_REG_WRITE (R346): address, count and values; only blocks of FLR_REG_WIN, never SAF or FLR, not in a driverless mode. -/
def execFleetRegWrite (src : Fin 64) (tag : Byte) (s : State) : Out :=
  .next (fleetServe s src tag.toNat 0x11 (fun s p =>
    let a := num p 0 4
    let n := num p 4 4
    let c := rangeCode a n 64
    let ok := fun (x : Nat) => bit (s.reg Ra.FLR_REG_WIN).toNat (winBit x) && winBit x != 10 && winBit x != 17
    if c ≠ Code.ok then (s, c, [])
    else if p.length ≠ 8 + 4 * n then (s, Code.badArgument, [])
    else if driverless s.mode ∨ (wordAddrs a n).all ok = false then (s, Code.refused, [])
    else (busWrites s 0x0E a ((List.range n).map (fun k => BitVec.ofNat 32 (num p (8 + 4 * k) 4))), Code.ok, [])))

/-! ### Services of the application complex (R341) -/

/-- FLEET_LOG_READ (R503). -/
def execFleetLogRead (src : Fin 64) (tag : Byte) (s : State) : Out :=
  .next (fleetServe s src tag.toNat 0x12 (fun s p => (s, logRead s p)))

/-- A code the application answers with; one that R30 does not list is never returned (R31). DESIGN CHOICE (log 49): it is answered as BAD_ARGUMENT. -/
def listedCode (code : Half) : Nat := if codeTable.contains code.toNat then code.toNat else Code.badArgument

/-- FLEET_MSG (R341): the application complex has taken the message and answers with `code` and `rsp`. -/
def execFleetMsg (src : Fin 64) (tag : Byte) (code : Half) (rsp : List Byte) (s : State) : Out :=
  .next (fleetServe s src tag.toNat 0x20 (fun s _ => (s, listedCode code, rsp.take 4096)))

/-- FLEET_UNLOAD (R348 step 1): the application answers a proposal with a code. -/
def execFleetUnload (src : Fin 64) (tag : Byte) (code : Half) (s : State) : Out :=
  .next (fleetServe s src tag.toNat 0x30 (fun s _ => (s, listedCode code, [])))

/-- FLEET_UPD_BLOCK (R524): one update block. -/
def execFleetUpdBlock (src : Fin 64) (tag : Byte) (s : State) : Out :=
  .next (fleetServe s src tag.toNat 0x40 (fun s p =>
    if p.length = 4116 then
      let r := updAnswer s p
      (r.1, r.2.1, r.2.2.flatMap (leBytes 4))
    else (s, Code.badArgument, [])))

/-! ### Registers over the host protocol (R400) -/

/-- VHP_REG_READ (R400): 1 to 256 words. -/
def execVhpRegRead (h : VhpHdr) (addr : Word) (n : Half) (s : State) : Out :=
  .next (vhpServe s h 0x10 (kindPriv 0x10 false) (fun s =>
    let c := rangeCode addr.toNat n.toNat 256
    if c ≠ Code.ok then (s, c, [])
    else
      let r := busReads s 0 addr.toNat n.toNat
      (r.2, Code.ok, r.1.map (·.toNat))))

/-- The words are all MFP_MF[n]_HOST. -/
def hostWords (a n : Nat) : Bool := (wordAddrs a n).all (fun x =>
  decide (Ra.MFP_MF_CTL 0 ≤ x ∧ x < Ra.MFP_MF_CTL 30) && (x - Ra.MFP_MF_CTL 0) % 0x20 == 0x14)

/-- What a REG_WRITE does: REFUSED in a driverless mode. -/
def vhpWrite (s : State) (a : Nat) (ws : List Word) : State × Nat × List Nat :=
  let c := rangeCode a ws.length 256
  if c ≠ Code.ok then (s, c, [])
  else if driverless s.mode then (s, Code.refused, [])
  else (busWrites s 0 a ws, Code.ok, [])

/-- VHP_REG_WRITE (R400): 1 to 256 words under R18 and R19. -/
def execVhpRegWrite (h : VhpHdr) (addr : Word) (ws : List Word) (s : State) : Out :=
  .next (vhpServe s h 0x11 (kindPriv 0x11 (hostWords addr.toNat ws.length)) (fun s => vhpWrite s addr.toNat ws))

/-! ### A forwarded transaction at the member (R350) -/

/-- The inner response: code, two bytes of 0, data. -/
def innerRsp (code : Nat) (data : List Byte) : List Byte := leBytes 2 code ++ leBytes 2 0 ++ data

/-- An inner transaction of a kind that is answered at once: the state after, its code and its data. -/
def innerServe (s : State) (kind : Nat) (p part : List Byte) : State × Nat × List Byte :=
  let w := fun (l : List Nat) => l.flatMap (leBytes 4)
  match kind with
  | 0x10 =>
    let c := rangeCode (num p 0 4) (num p 4 4) 256
    if c ≠ Code.ok then (s, c, [])
    else
      let r := busReads s 0 (num p 0 4) (num p 4 4)
      (r.2, Code.ok, wordsBytes r.1)
  | 0x11 =>
    let ws := (List.range (p.length / 4 - 1)).map (fun k => BitVec.ofNat 32 (num p (4 + 4 * k) 4))
    let r := vhpWrite s (num p 0 4) ws
    (r.1, r.2.1, [])
  | 0x12 => (s, (logRead s p).1, (logRead s p).2)
  | 0x30 => (s, Code.ok, [])
  | 0x31 => (s, Code.refused, [])
  | 0x40 =>
    if p.length = 4116 then
      let r := updAnswer s p
      (r.1, r.2.1, w r.2.2)
    else (s, Code.badArgument, [])
  | 0x41 =>
    (s, Code.ok, w ([s.updState, (s.reg Ra.UPD_PKG_LO).toNat, (s.reg Ra.UPD_PKG_HI).toNat, bitmapWord s (num p 0 1) (num p 2 2)] ++ firstMissing s))
  | 0x50 => (s, Code.ok, part)
  | 0x70 => match s.tab.ring.find? (fun x => x.1 == num p 0 4) with
    | some x => (s, Code.ok, w (((tabWords x.2).drop (num p 4 2)).take (num p 6 1)))
    | none => (s, Code.fault, [])
  | _ => (s, Code.badArgument, [])

/-- The mark of an inner transaction that has been submitted and waits. -/
abbrev innerSubmitted : Nat := 1

/-- A waiting inner transaction: whether it has ended, with its code. -/
def innerDone (s : State) (kind : Nat) (p : List Byte) : Option Nat :=
  if kind = 0x21 then
    if s.pm.deferred then some Code.deferred else if s.flag Fd.SYS_MODE_STAT_PENDING then none else some (s.fld Fd.SYS_MODE_STAT_RESULT)
  else
    let e := num p 0 1 % 64
    if s.flag (Fd.MBX_EP_SEND_STAT_PENDING e) then none else some (s.fld (Fd.MBX_EP_SEND_STAT_CODE e))

/-- Submit an inner MODE_REQ or MSG: the code of one that cannot be submitted. -/
def innerSubmit (s : State) (kind : Nat) (p : List Byte) : State × Option Nat :=
  if kind = 0x21 then
    let busy := s.flag Fd.SYS_MODE_STAT_PENDING
    (modeRequest s (BitVec.ofNat 32 (0x40 + num p 0 1 % 16)), if busy then some Code.refused else none)
  else
    let e := num p 0 1 % 64
    let ws := (List.range ((p.length - 4) / 4)).map (fun k => BitVec.ofNat 32 (num p (4 + 4 * k) 4))
    if s.flag (Fd.MBX_EP_CFG_TXL e) || s.fld (Fd.MBX_EP_CFG_TX e) != 0x3F || s.fld (Fd.MBX_EP_STAT_STATE e) == epFull then (s, some Code.refused)
    else if 16 < ws.length then (s, some Code.badArgument)
    else (vhpPost s e ws, none)

/-- VHP_FWD_INNER (R350): the member serves the transaction in a VHP_FWD request: kind, two bytes of 0, payload. MODE_REQ and MSG are answered by a
later command once they have ended; `part` are the bytes of a TASK_EXPORT. -/
def execVhpFwdInner (src : Fin 64) (tag : Byte) (part : List Byte) (s : State) : Out :=
  match fleetReqOf s src tag.toNat 0x50 with
  | some (k, b) =>
    let kind := num b 0 2
    let p := b.drop 4
    if kind = 0x21 ∨ kind = 0x20 then
      if k.code = innerSubmitted then
        match innerDone s kind p with
        | some c => .next (fleetReply s k Code.ok (innerRsp c []))
        | none => .next s
      else
        let r := innerSubmit s kind p
        match r.2 with
        | some c => .next (fleetReply r.1 k Code.ok (innerRsp c []))
        | none => .next (keepReq r.1 { k with code := innerSubmitted })
    else if kind = 0x22 then
      let s := fleetReply s k Code.ok (innerRsp Code.ok [])
      .next (if num p 0 1 = 0 then appReset s Fd.PWR_RST_CAUSE_APP_REQ else fullReset s 5 true)
    else
      let r := innerServe s kind p part
      .next (fleetReply r.1 k Code.ok (innerRsp r.2.1 r.2.2))
  | none => .next s

end Sys2Proof.Machine
end

