-- ==== Sys2Proof/Machine/Tick.lean ====
section
/-! DEFINITION. The tick boundary and the major frame boundary (R10, R44, R56, R126): what happens at each, in order, in every unit that has
no command of its own for it. -/

namespace Sys2Proof.Machine

/-! ### Publication (R10, R515) -/

/-- Publish what is staged. The values of fusion, the safety island and the steering law are outputs of samples: in FULL those that differ from the last are
recorded, in DIGEST one record covers each sample's, in port order (R508, R515). -/
def publishDue (s : State) : State :=
  let due := s.stage.filter (fun x => decide (x.tick ≤ s.clk.tick) && [3, 4, 9].contains (x.key / 2 ^ 28))
  let s := if digestNow s then
      let m : SMap (List Nat) := due.foldl (fun m x => smPut [] m x.key [x.key, x.v.val.toNat, b2n x.v.valid]) []
      (m.map (fun x => x.1 / 64)).eraseDups.foldl (fun s g => tabDigest s (64 * g) ((m.filter (fun x => x.1 / 64 == g)).flatMap (·.2))) s
    else due.foldl (fun s x =>
      let o := s.pubAt x.key
      if o.val = x.v.val ∧ o.valid = x.v.valid ∧ o.code = x.v.code then s
      else tabRec s TabT.out x.key [x.v.val.toNat, b2n x.v.valid]) s
  s.publishStaged

/-- Everything due at this tick is published, and the ports of stopped and disabled loops move. -/
def publishTick (s : State) : State :=
  disableTick (stopActions (portMotion (publishLost (publishHeld (publishDue s)))))

/-! ### Dispatch -/

/-- A native loop's sample starts at the present tick (R126): its slot runs, after the engines have dispatched. -/
def nativeDue (s : State) (loop : Nat) : Bool := match s.slotOf loop with
  | some (e, i) =>
    nativeLoop s loop && enginesRun s && s.slotState e i == SlotSt.running && (s.engState e == engOnline || s.engState e == engDegraded) &&
      (smGet none s.ce.resume loop).isNone && dueNow s (s.fld (Fd.CE_SLOT_SCHED_PERIOD e i)) (s.fld (Fd.CE_SLOT_SCHED_PHASE e i))
  | none => false

/-- The native samples of the tick: the governor, the yield loop, the loss loop. -/
def nativeTick (s : State) : State :=
  let s := if nativeDue s 0 then govSample s else s
  let s := if nativeDue s 38 then yldSample s else s
  if nativeDue s 39 then lossSample s else s

/-- The arbiter, then every engine's samples. -/
def runTick (s : State) : State := nativeTick (dispatchTick (migTick (arbTick s)))

/-! ### Measured values -/

/-- The registers that only report a measurement of the module's own, one field each. -/
def measFields : List Fld :=
  (List.range 24).map Fd.LSW_CH_MEAS_CUR ++ (List.range 24).map Fd.LSW_CH_MEAS_VOUT ++ (List.range 4).map Fd.LSW_GRP_STAT_MV ++
    [Fd.PWR_STAT_RESERVE_J, Fd.PWR_SUP_STAT_LOGIC_MV, Fd.PWR_GND_STAT_GND1_V,
    Fd.PWR_GND_STAT_GND2_V, Fd.THM_PWR_COMPUTE, Fd.THM_PWR_OUT, Fd.BST_TEMP_V, Fd.ETH_PTP_OFS_LO_V, Fd.ETH_PTP_OFS_HI_V] ++
    (List.range 2).map Fd.GNS_ANT_STAT_JAM ++ (List.range 2).map Fd.GNS_ANT_STAT_AGC ++ (List.range 8).map Fd.VLV_BANK_RAIL_MV ++ (List.range 32).map Fd.VLV_CH_COIL_R ++ (List.range 34).map Fd.PWR_SUP_MON_V ++ (List.range 8).map Fd.DSP_RAIL_V ++ (List.range 4).map Fd.DSP_DIAG_V

/-- The counters of what the hardware meets by itself (corrected errors, cache hits, UFS read errors): the word carries how many there were since the last tick
(R154, R155, R517). -/
def measCounts : List Fld := (List.range 8).map Fd.CE_ENG_FAULT_CE_CNT ++ [Fd.DMA_MEM_CE_CNT_V, Fd.DMA_CACHE_HITS_V, Fd.TAB_UFS_ERR_V]

/-- Whole registers of the upper range that report measurements of a unit's own: first address and number. -/
def measWords : List (Nat × Nat) := [(Ra.VLV_BATB_MON, 22), (Ra.GNS_ANT_QUIET 0, 4), (Ra.GNS_RTK_AMB 0, 16), (Ra.GNS_IMON 0, 26), (Ra.GNS_STATS 8, 24)]

/-- A measured value is shown in its register, a count is added to its counter, which saturates, and a UFS read error ends a replay; a tracking channel reports under the rules of its
allocation; a word for any other register is ignored. -/
def showMeas (s : State) (x : Word × Word) : State :=
  let k := (x.1.toNat - Ra.GNS_CHAN 0) / 4
  let s := if x.1.toNat = Ra.GNS_CHAN k ∧ k < 192 then chanShow s k x.2.toNat else s
  let s := if measWords.any (fun r => decide (r.1 ≤ x.1.toNat ∧ x.1.toNat < r.1 + 4 * r.2)) && x.1.toNat % 4 == 0 then s.setReg x.1.toNat x.2 else s
  let s := (measCounts.filter (fun f => f.addr == x.1.toNat)).foldl (fun s f => s.setFld f (satU f.width (s.fld f + x.2.toNat))) s
  let s := (measFields.filter (fun f => f.addr == x.1.toNat)).foldl (fun s f => s.setFld f (bits x.2.toNat f.lo f.width)) s
  let s := if x.1.toNat = Ra.TAB_UFS_ERR ∧ x.2 ≠ 0 then replayReadErr s else s
  if x.1.toNat = Ra.PWR_STAT then reserveShow s (s.fld Fd.PWR_STAT_RESERVE_J) else s

/-! ### Operating time (R498, R531) -/

/-- Once a second of powered time: OPTIME, FIELD_S in the FIELD modes, what follows operating time (R494, R495, R498), the recorder's rate, and the trial clock. -/
def secondTick (s : State) (before : Nat) : State :=
  if before / cycS = s.cyc / cycS then s
  else
    let s := s.count Fd.EVR_OPTIME_V
    let s := if isField s.mode then s.count Fd.EVR_FIELD_S_V else s
    let s := stageSecond (tabRate (counterDue (stormRoll (recordClose s))))
    if s.flag Fd.UPD_STAT_TRIAL then s.setReg Ra.UPD_TRIAL_S (BitVec.ofNat 32 ((s.reg Ra.UPD_TRIAL_S).toNat - 1)) else s

/-! ### The major frame boundary -/

/-- The units inside the replay boundary run: outside REPLAY, and in it once the checkpoint is loaded. -/
def bndRuns (s : State) : Bool := s.rpl.live.isNone || s.rpl.loaded

/-- SFC advances (R126); in REPLAY the boundary's own count as well. -/
def sfcNext (s : State) : State :=
  let s := s.setClk { s.clk with frameAt := none, sfc := (s.clk.sfc + 1) % 2 ^ 32 }
  let s := if s.rpl.loaded then s.setRpl { s.rpl with sfc := (s.rpl.sfc + 1) % 2 ^ 32 } else s
  s.setReg (Ra.CE_SET_SFC 0) (BitVec.ofNat 32 s.clk.sfc)

/-- Configuration that waits for a frame boundary inside the replay boundary comes into force, and the commands of loops and engines are
accepted (R130, R138, R290, R387). -/
def frameBnd (s : State) : State :=
  let s := if s.rpl.loaded then replayDigest (replayMode s) else s
  let s := if s.pm.loopsDue then bootLoops (s.setPm { s.pm with loopsDue := false }) else s
  let s := fusCfgApply (parRecords (canTabApply (rtApply s)))
  let s := match s.steer.calNext with
    | some l => s.setSteer { s.steer with cal := (stCal s 0 + 1) :: l.drop 1, calNext := none }
    | none => s
  calCopies (acceptMigs (acceptLoopCmds (acceptEngCmds (migsDone s))))

/-- Configuration outside the replay boundary: camera pairs, gate lists (R397), references (R173), a pending sensing test (R174). -/
def frameCfg (s : State) (refs : Nat) : State := gclApply (pairsCheck (testFrame (refFrame s refs)))

/-- Step 6 of the deliberate reset (R465, R468, R533): ROAD, the safety configuration that waits, and a safety image that waits. -/
def resetStep6 (s : State) : State :=
  let s := s.setSaf { s.saf with rstGo := false }
  if s.locked || s.mode != Mode.safeStop then s
  else
    let s := match s.saf.cfgP with
      | some c => safChannels (safShowCfg (s.setSaf { s.saf with cfg := c, cfgP := none }))
      | none => s
    safActivate (modeOwn s Mode.road)

/-- The safety island's own transitions: SAFE_STOP after a lock-out, ROAD after a deliberate reset, the way out of UNLOAD_SYNC (R57, R60,
R463, R465). -/
def frameModes (s : State) : State :=
  let s := if s.saf.rstGo then resetStep6 s else s
  if s.locked && decide (Mode.service ≤ s.mode) && s.mode != Mode.safeStop && s.rpl.live.isNone then modeOwn s Mode.safeStop else unloadExit s

/-- The least mean of LOGIC_BAT for an activation (R527): 11.5 V, or 23 V in a 24 V system. -/
def battMin (s : State) : Nat := if s.flag Fd.PWR_SUP_STAT_SYSV24 then 23000 else 11500

/-- LOGIC_BAT in mV at a frame boundary: its mean over the last second, one value a frame, is held against the limit. -/
def battNote (s : State) (mv : Nat) : State :=
  let l := mv :: s.upd.batt.take 99
  s.setUpd { s.upd with batt := l, battOk := decide (battMin s * l.length ≤ l.foldl (· + ·) 0) }

/-- What is evaluated at each frame boundary beside the Aperture: the health checks (R531), the recorder (R508), the histograms (R500). -/
def frameShow (s : State) : State := histoSample (tabFrame (healthShow s))

/-- The actions of a major frame boundary, then the samples of its tick; LOGIC_BAT in mV. A full module reset ends the boundary. -/
def frameRun (s : State) (refs mv : Nat) : State :=
  let s := sfcNext (replayEndDue (tabBoundary s))
  let s := frameCfg (if bndRuns s then frameBnd s else s) refs
  let m := s.mode
  let s := activate (activationCheck (apertureShow (battNote (stageStep (frameModes s)) mv)))
  if s.mode = Mode.boot ∧ m ≠ Mode.boot then s
  else
    let s := frameShow s
    if bndRuns s then runTick s else s

/-- MAJOR_FRAME_BOUNDARY (R126): the tick that has begun is the first of a frame. `refs`: the reference groups that deviate; `bat`: LOGIC_BAT in mV. -/
def execMajorFrameBoundary (refs : BitVec 6) (bat : Half) (s : State) : Out :=
  if s.powered && !s.held && s.framePend then .next (frameRun s refs.toNat bat.toNat) else .next s

/-! ### The tick boundary -/

/-- The tick index advances: in REPLAY the live one always, the replayed one once loaded; a frame boundary is marked, and clock and camera
configuration that waits for it comes into force (R48). SFC counts it also where nothing runs (R126). -/
def tickTime (s : State) : State :=
  let before := s.cyc
  let s := secondTick (advanceTick s) before
  let s := if s.rpl.loaded then showReplayTick (s.setClk { s.clk with tick := s.clk.tick + 1 }) else s
  if s.liveTick % 200 = 0 then s.setClk { s.clk with frameAt := some s.clk.tick, runCfg := [] } else s

/-- A tick of a module held in reset or before boot step 2: only time and the count of frames pass. -/
def tickIdle (s : State) : State :=
  let s := if s.framePend then sfcNext s else s
  tickTime s

/-- The sources latch: sensing, CAN, GNSS, cameras; the ground speed is noted. -/
def latchTick (s : State) (lat : List (Fin 62 × Word × List Word)) (gnss : List Word) : State :=
  let s := canExpiries (canLatch (snTick (noteStill s) lat))
  let s := if s.liveTick % 1000 = 0 then gnsEpoch s gnss else s
  infTick (pairsCheck (camTriggers (camTick (gnsTick (gnsLatch s)))))

/-- Units inside the replay boundary at a tick boundary, before the engines: recorded inputs, publications, fusion, the image's safety loop and
CAN objects. -/
def bndTick (s : State) : State :=
  let s := if s.rpl.loaded then replayDeliver s else s
  publishTick s

/-- Fusion, the image's safety loop, CAN objects. -/
def bndUnits (s : State) : State :=
  let s := fusTick s
  let s := if s.rpl.loaded then safImage s else s
  canTick s

/-- Units outside the replay boundary: datagrams, mailboxes, the link, unloading, outputs, panel, the host protocol, time distribution, the way to STANDBY. -/
def liveUnits (s : State) : State := tabTick (stbyAdvance (ptpShow (vhpTick (stripTick (panelTick (lswTick (vlvTick (vlvGates (unloadTick (flrTick (mbxTick (reasmExpire s))))))))))))

/-- One tick boundary. -/
def tickRun (s : State) (si : Nat) (lat : List (Fin 62 × Word × List Word)) (gnss : List Word) (meas : List (Word × Word)) : State :=
  let s := fabDrain s
  let s := facetDigest (if s.framePend then frameRun s 0 (s.fld Fd.PWR_SUP_STAT_LOGIC_MV * 10) else s)
  let s := tickTime (if s.rpl.loaded then replayTickEnd s else s)
  let s := meas.foldl showMeas s
  let s := if bndRuns s then bndTick s else s
  let s := latchTick s lat gnss
  let s := safTick (if bndRuns s then bndUnits s else s) si
  let s := liveUnits s
  let s := if bndRuns s && !s.framePend then runTick s else s
  pfTick (trialTick (reserveTick (outTick (debugTick (updTick s)))))

/-- TICK (R10, R44): one 50 µs tick boundary. `si`: the levels of the safety inputs; `lat`: what the sources acquired in the interval that ends
(a UIN or BRG channel its converter code and the cause its own check reports; a loss channel its piezo samples in µV, and whether the
input reads shorted; the IMU and the supply monitor their quantities; a unit left out acquired the same as before); `gnss`: an epoch's solution; `meas`: measured values by register. A module that is off does not tick; one held in reset only counts time. -/
def execTick (si : BitVec 8) (lat : List (Fin 62 × Word × List Word)) (gnss : List Word) (meas : List (Word × Word)) (s : State) : Out :=
  if !s.powered then .next s
  else if s.held || (s.mode == Mode.boot && decide (s.bootStep < 2)) then .next (pfTick (tickIdle s))
  else .next (tickRun s si.toNat lat gnss meas)

end Sys2Proof.Machine
end

