-- ==== Sys2Proof/Machine/Dispatch.lean ====
section
/-! DEFINITION. One arm per command: each is a direct call of the command's meaning. -/

namespace Sys2Proof.Machine

def exec (cmd : Instr) (s : State) : Host.Outcome State Fault Refusal :=
  match cmd with
  | .tick si lat gnss meas => Sys2Proof.Machine.execTick si lat gnss meas s
  | .majorFrameBoundary refs bat => Sys2Proof.Machine.execMajorFrameBoundary refs bat s
  | .carrierPeriodStart b sub full mean => Sys2Proof.Machine.execCarrierPeriodStart b sub full mean s
  | .targetNotReached n => Sys2Proof.Machine.execTargetNotReached n s
  | .registerWrite init addr size v => Sys2Proof.Machine.execRegisterWrite init addr size v s
  | .lowWordReadLatch init rd => Sys2Proof.Machine.execLowWordReadLatch init rd s
  | .rcFieldRead init addr => Sys2Proof.Machine.execRcFieldRead init addr s
  | .w1cClear init addr v => Sys2Proof.Machine.execW1cClear init addr v s
  | .fabricEntryFreed arrive freed => Sys2Proof.Machine.execFabricEntryFreed arrive freed s
  | .bulkAgePromotion init => Sys2Proof.Machine.execBulkAgePromotion init s
  | .responseTimeout init addr => Sys2Proof.Machine.execResponseTimeout init addr s
  | .pllLossOfLock => Sys2Proof.Machine.execPllLossOfLock s
  | .timeSolution gps sigma basis => Sys2Proof.Machine.execTimeSolution gps sigma basis s
  | .dtStep => Sys2Proof.Machine.execDtStep s
  | .holdoverEntry => Sys2Proof.Machine.execHoldoverEntry s
  | .holdLimExceeded => Sys2Proof.Machine.execHoldLimExceeded s
  | .dtSet init hi => Sys2Proof.Machine.execDtSet init hi s
  | .steerCfgApply => Sys2Proof.Machine.execSteerCfgApply s
  | .streamSample n arr sens => Sys2Proof.Machine.execStreamSample n arr sens s
  | .streamEnable n period => Sys2Proof.Machine.execStreamEnable n period s
  | .streamReanchor n => Sys2Proof.Machine.execStreamReanchor n s
  | .modeRequest v => Sys2Proof.Machine.execModeRequest v s
  | .modeCheck ack => Sys2Proof.Machine.execModeCheck ack s
  | .modeCommitAfterRamp => Sys2Proof.Machine.execModeCommitAfterRamp s
  | .heartbeatLoss => Sys2Proof.Machine.execHeartbeatLoss s
  | .speedContributionLift k => Sys2Proof.Machine.execSpeedContributionLift k s
  | .safHbWrite v => Sys2Proof.Machine.execSafHbWrite v s
  | .resetReqAssert us held => Sys2Proof.Machine.execResetReqAssert us held s
  | .resetReqStuck => Sys2Proof.Machine.execResetReqStuck s
  | .resetReqRearm => Sys2Proof.Machine.execResetReqRearm s
  | .powerApplied bad badParts => Sys2Proof.Machine.execPowerApplied bad badParts s
  | .bootComplete res cap failed => Sys2Proof.Machine.execBootComplete res cap failed s
  | .reserveTimeout => Sys2Proof.Machine.execReserveTimeout s
  | .keepChannelTimeout => Sys2Proof.Machine.execKeepChannelTimeout s
  | .appWatchdogExpiry => Sys2Proof.Machine.execAppWatchdogExpiry s
  | .watchdogRefresh => Sys2Proof.Machine.execWatchdogRefresh s
  | .hostFullReset => Sys2Proof.Machine.execHostFullReset s
  | .appReset => Sys2Proof.Machine.execAppReset s
  | .wakeInFall => Sys2Proof.Machine.execWakeInFall s
  | .standbyDelayExpiry => Sys2Proof.Machine.execStandbyDelayExpiry s
  | .stationaryStandby => Sys2Proof.Machine.execStationaryStandby s
  | .standbyCancel => Sys2Proof.Machine.execStandbyCancel s
  | .wakeInWake aon => Sys2Proof.Machine.execWakeInWake aon s
  | .canSelectiveWake c id dlc data err aon => Sys2Proof.Machine.execCanSelectiveWake c id dlc data err aon s
  | .aonTimerWake aon => Sys2Proof.Machine.execAonTimerWake aon s
  | .powerFail mv res => Sys2Proof.Machine.execPowerFail mv res s
  | .thermalShutdown => Sys2Proof.Machine.execThermalShutdown s
  | .thermalRecoveryReset => Sys2Proof.Machine.execThermalRecoveryReset s
  | .debugReset => Sys2Proof.Machine.execDebugReset s
  | .add u rd rs1 rs2 => Sys2Proof.Machine.execAdd u rd rs1 rs2 s
  | .sub u rd rs1 rs2 => Sys2Proof.Machine.execSub u rd rs1 rs2 s
  | .and u rd rs1 rs2 => Sys2Proof.Machine.execAnd u rd rs1 rs2 s
  | .or u rd rs1 rs2 => Sys2Proof.Machine.execOr u rd rs1 rs2 s
  | .xor u rd rs1 rs2 => Sys2Proof.Machine.execXor u rd rs1 rs2 s
  | .shl u rd rs1 rs2 => Sys2Proof.Machine.execShl u rd rs1 rs2 s
  | .shr u rd rs1 rs2 => Sys2Proof.Machine.execShr u rd rs1 rs2 s
  | .sra u rd rs1 rs2 => Sys2Proof.Machine.execSra u rd rs1 rs2 s
  | .mul u rd rs1 rs2 => Sys2Proof.Machine.execMul u rd rs1 rs2 s
  | .min u rd rs1 rs2 => Sys2Proof.Machine.execMin u rd rs1 rs2 s
  | .max u rd rs1 rs2 => Sys2Proof.Machine.execMax u rd rs1 rs2 s
  | .cmp u rs1 rs2 => Sys2Proof.Machine.execCmp u rs1 rs2 s
  | .addi u rd rs1 imm => Sys2Proof.Machine.execAddi u rd rs1 imm s
  | .andi u rd rs1 imm => Sys2Proof.Machine.execAndi u rd rs1 imm s
  | .ori u rd rs1 imm => Sys2Proof.Machine.execOri u rd rs1 imm s
  | .xori u rd rs1 imm => Sys2Proof.Machine.execXori u rd rs1 imm s
  | .shli u rd rs1 sh => Sys2Proof.Machine.execShli u rd rs1 sh s
  | .shri u rd rs1 sh => Sys2Proof.Machine.execShri u rd rs1 sh s
  | .srai u rd rs1 sh => Sys2Proof.Machine.execSrai u rd rs1 sh s
  | .lui u rd imm => Sys2Proof.Machine.execLui u rd imm s
  | .fadd u rd rs1 rs2 => Sys2Proof.Machine.execFadd u rd rs1 rs2 s
  | .fsub u rd rs1 rs2 => Sys2Proof.Machine.execFsub u rd rs1 rs2 s
  | .fmul u rd rs1 rs2 => Sys2Proof.Machine.execFmul u rd rs1 rs2 s
  | .fdiv u rd rs1 rs2 => Sys2Proof.Machine.execFdiv u rd rs1 rs2 s
  | .fmin u rd rs1 rs2 => Sys2Proof.Machine.execFmin u rd rs1 rs2 s
  | .fmax u rd rs1 rs2 => Sys2Proof.Machine.execFmax u rd rs1 rs2 s
  | .fabs u rd rs1 => Sys2Proof.Machine.execFabs u rd rs1 s
  | .fneg u rd rs1 => Sys2Proof.Machine.execFneg u rd rs1 s
  | .fsqrt u rd rs1 => Sys2Proof.Machine.execFsqrt u rd rs1 s
  | .fcmp u rs1 rs2 => Sys2Proof.Machine.execFcmp u rs1 rs2 s
  | .fcvtsw u rd rs1 => Sys2Proof.Machine.execFcvtsw u rd rs1 s
  | .fcvtws u rd rs1 => Sys2Proof.Machine.execFcvtws u rd rs1 s
  | .fma u rd rs1 rs2 rs3 => Sys2Proof.Machine.execFma u rd rs1 rs2 rs3 s
  | .fclamp u rd rs1 rs2 rs3 => Sys2Proof.Machine.execFclamp u rd rs1 rs2 rs3 s
  | .lw u rd rs1 imm => Sys2Proof.Machine.execLw u rd rs1 imm s
  | .sw u rd rs1 imm => Sys2Proof.Machine.execSw u rd rs1 imm s
  | .lv u vd rs1 imm => Sys2Proof.Machine.execLv u vd rs1 imm s
  | .sv u vd rs1 imm => Sys2Proof.Machine.execSv u vd rs1 imm s
  | .pmv u rs1 imm => Sys2Proof.Machine.execPmv u rs1 imm s
  | .prismComplete u => Sys2Proof.Machine.execPrismComplete u s
  | .beq u rs1 rs2 off => Sys2Proof.Machine.execBeq u rs1 rs2 off s
  | .bne u rs1 rs2 off => Sys2Proof.Machine.execBne u rs1 rs2 off s
  | .blt u rs1 rs2 off => Sys2Proof.Machine.execBlt u rs1 rs2 off s
  | .bge u rs1 rs2 off => Sys2Proof.Machine.execBge u rs1 rs2 off s
  | .bltu u rs1 rs2 off => Sys2Proof.Machine.execBltu u rs1 rs2 off s
  | .bgeu u rs1 rs2 off => Sys2Proof.Machine.execBgeu u rs1 rs2 off s
  | .bfs u n off => Sys2Proof.Machine.execBfs u n off s
  | .bfc u n off => Sys2Proof.Machine.execBfc u n off s
  | .j u off => Sys2Proof.Machine.execJ u off s
  | .jal u off => Sys2Proof.Machine.execJal u off s
  | .jr u rs1 imm => Sys2Proof.Machine.execJr u rs1 imm s
  | .inPort u rd rs1 imm => Sys2Proof.Machine.execInPort u rd rs1 imm s
  | .inq u rd rs1 imm => Sys2Proof.Machine.execInq u rd rs1 imm s
  | .out u rd rs1 imm => Sys2Proof.Machine.execOut u rd rs1 imm s
  | .vin u vd rs1 imm => Sys2Proof.Machine.execVin u vd rs1 imm s
  | .vadd u vd va vb => Sys2Proof.Machine.execVadd u vd va vb s
  | .vsub u vd va vb => Sys2Proof.Machine.execVsub u vd va vb s
  | .vmul u vd va vb => Sys2Proof.Machine.execVmul u vd va vb s
  | .vfma u vd va vb => Sys2Proof.Machine.execVfma u vd va vb s
  | .vmin u vd va vb => Sys2Proof.Machine.execVmin u vd va vb s
  | .vmax u vd va vb => Sys2Proof.Machine.execVmax u vd va vb s
  | .vclamp u vd va vb => Sys2Proof.Machine.execVclamp u vd va vb s
  | .vbcast u vd rs1 => Sys2Proof.Machine.execVbcast u vd rs1 s
  | .vext u rd va rs2 => Sys2Proof.Machine.execVext u rd va rs2 s
  | .vins u vd rs1 rs2 => Sys2Proof.Machine.execVins u vd rs1 rs2 s
  | .vred u rd va => Sys2Proof.Machine.execVred u rd va s
  | .vdot u rd va vb => Sys2Proof.Machine.execVdot u rd va vb s
  | .nop u => Sys2Proof.Machine.execNop u s
  | .ends u => Sys2Proof.Machine.execEnds u s
  | .trap u n => Sys2Proof.Machine.execTrap u n s
  | .csrr u rd n => Sys2Proof.Machine.execCsrr u rd n s
  | .csrw u n rs1 => Sys2Proof.Machine.execCsrw u n rs1 s
  | .pwait u => Sys2Proof.Machine.execPwait u s
  | .integ u rd rs1 rs2 rs3 => Sys2Proof.Machine.execInteg u rd rs1 rs2 rs3 s
  | .relay u rd rs1 rs2 => Sys2Proof.Machine.execRelay u rd rs1 rs2 s
  | .plaus u rd rs1 rs2 rs3 => Sys2Proof.Machine.execPlaus u rd rs1 rs2 rs3 s
  | .budgetTrap u => Sys2Proof.Machine.execBudgetTrap u s
  | .deliveredWriteFault loop addr kind => Sys2Proof.Machine.execDeliveredWriteFault loop addr kind s
  | .loopLoad e loop win => Sys2Proof.Machine.execLoopLoad e loop win s
  | .loadCopyComplete loop fault => Sys2Proof.Machine.execLoadCopyComplete loop fault s
  | .loopStart e loop => Sys2Proof.Machine.execLoopStart e loop s
  | .loopStop e loop => Sys2Proof.Machine.execLoopStop e loop s
  | .loopDisable e loop => Sys2Proof.Machine.execLoopDisable e loop s
  | .loopDisableDone loop => Sys2Proof.Machine.execLoopDisableDone loop s
  | .loopUnload e loop => Sys2Proof.Machine.execLoopUnload e loop s
  | .engineRemove e key => Sys2Proof.Machine.execEngineRemove e key s
  | .removeComplete e => Sys2Proof.Machine.execRemoveComplete e s
  | .engineReturn e key => Sys2Proof.Machine.execEngineReturn e key s
  | .marchTestEnd e pass => Sys2Proof.Machine.execMarchTestEnd e pass s
  | .migrateMove e dest loop => Sys2Proof.Machine.execMigrateMove e dest loop s
  | .migrateReplace e dest loop budget => Sys2Proof.Machine.execMigrateReplace e dest loop budget s
  | .replaceFetchComplete loop fault => Sys2Proof.Machine.execReplaceFetchComplete loop fault s
  | .migrationCut loop => Sys2Proof.Machine.execMigrationCut loop s
  | .migrationCopyComplete loop => Sys2Proof.Machine.execMigrationCopyComplete loop s
  | .routeRead => Sys2Proof.Machine.execRouteRead s
  | .routeWrite => Sys2Proof.Machine.execRouteWrite s
  | .spareDesignate eng => Sys2Proof.Machine.execSpareDesignate eng s
  | .tileUe e addr => Sys2Proof.Machine.execTileUe e addr s
  | .engineHang e => Sys2Proof.Machine.execEngineHang e s
  | .engEvac e => Sys2Proof.Machine.execEngEvac e s
  | .inputEdge n open_ v off => Sys2Proof.Machine.execInputEdge n open_ v off s
  | .inputFault u => Sys2Proof.Machine.execInputFault u s
  | .inputOk u => Sys2Proof.Machine.execInputOk u s
  | .i25Overcurrent d => Sys2Proof.Machine.execI25Overcurrent d s
  | .freqEdgeTimeout n => Sys2Proof.Machine.execFreqEdgeTimeout n s
  | .losImpact n env off => Sys2Proof.Machine.execLosImpact n env off s
  | .losRearm n x => Sys2Proof.Machine.execLosRearm n x s
  | .referenceFault g => Sys2Proof.Machine.execReferenceFault g s
  | .supplyCurrentTrip m => Sys2Proof.Machine.execSupplyCurrentTrip m s
  | .supplyBatteryShort m => Sys2Proof.Machine.execSupplyBatteryShort m s
  | .supplyRestart n => Sys2Proof.Machine.execSupplyRestart n s
  | .openTest n => Sys2Proof.Machine.execOpenTest n s
  | .supplyTest n => Sys2Proof.Machine.execSupplyTest n s
  | .bridgeTest n => Sys2Proof.Machine.execBridgeTest n s
  | .piezoTest n => Sys2Proof.Machine.execPiezoTest n s
  | .imuTest => Sys2Proof.Machine.execImuTest s
  | .senseTestStart => Sys2Proof.Machine.execSenseTestStart s
  | .senseTestEnd pass => Sys2Proof.Machine.execSenseTestEnd pass s
  | .bandChange => Sys2Proof.Machine.execBandChange s
  | .govholdSet => Sys2Proof.Machine.execGovholdSet s
  | .referenceMessage e => Sys2Proof.Machine.execReferenceMessage e s
  | .mfEnable n => Sys2Proof.Machine.execMfEnable n s
  | .mfEnableStart n => Sys2Proof.Machine.execMfEnableStart n s
  | .mfDisable n => Sys2Proof.Machine.execMfDisable n s
  | .mfDisableIssue n => Sys2Proof.Machine.execMfDisableIssue n s
  | .mfDisableDone n => Sys2Proof.Machine.execMfDisableDone n s
  | .mf01HoldZero => Sys2Proof.Machine.execMf01HoldZero s
  | .yieldRecordStore e => Sys2Proof.Machine.execYieldRecordStore e s
  | .antennaFault a draw ma => Sys2Proof.Machine.execAntennaFault a draw ma s
  | .chAllocApply => Sys2Proof.Machine.execChAllocApply s
  | .rtcmFrame typ crcOk => Sys2Proof.Machine.execRtcmFrame typ crcOk s
  | .baseMoved off => Sys2Proof.Machine.execBaseMoved off s
  | .basePositionWrite x y z => Sys2Proof.Machine.execBasePositionWrite x y z s
  | .neighbourEpoch k rec epoch own slotEnd vec sol => Sys2Proof.Machine.execNeighbourEpoch k rec epoch own slotEnd vec sol s
  | .neighbourConfig k en module => Sys2Proof.Machine.execNeighbourConfig k en module s
  | .gnssRestart eph alm => Sys2Proof.Machine.execGnssRestart eph alm s
  | .aidWrite isPos unc => Sys2Proof.Machine.execAidWrite isPos unc s
  | .ppsEdge b => Sys2Proof.Machine.execPpsEdge b s
  | .pathSegment e => Sys2Proof.Machine.execPathSegment e s
  | .steerEngage => Sys2Proof.Machine.execSteerEngage s
  | .steerDisengageReq => Sys2Proof.Machine.execSteerDisengageReq s
  | .steerCheckAct => Sys2Proof.Machine.execSteerCheckAct s
  | .steerTest valve cur => Sys2Proof.Machine.execSteerTest valve cur s
  | .steerTestEnd => Sys2Proof.Machine.execSteerTestEnd s
  | .camLinkEnable n => Sys2Proof.Machine.execCamLinkEnable n s
  | .camLinkDisable n => Sys2Proof.Machine.execCamLinkDisable n s
  | .linkTrained n => Sys2Proof.Machine.execLinkTrained n s
  | .linkLost n => Sys2Proof.Machine.execLinkLost n s
  | .linkRetrain n => Sys2Proof.Machine.execLinkRetrain n s
  | .cameraSupplyFault n ma => Sys2Proof.Machine.execCameraSupplyFault n ma s
  | .csiFrameStart n vc sub => Sys2Proof.Machine.execCsiFrameStart n vc sub s
  | .csiLine n vc dt hdr crcOk full data => Sys2Proof.Machine.execCsiLine n vc dt hdr crcOk full data s
  | .csiFrameEnd n vc sub => Sys2Proof.Machine.execCsiFrameEnd n vc sub s
  | .exposureCommit n => Sys2Proof.Machine.execExposureCommit n s
  | .exposureAck n sub => Sys2Proof.Machine.execExposureAck n sub s
  | .exposureTimeout n nack => Sys2Proof.Machine.execExposureTimeout n nack s
  | .mpJobStart => Sys2Proof.Machine.execMpJobStart s
  | .mpJobComplete => Sys2Proof.Machine.execMpJobComplete s
  | .frameSkipped => Sys2Proof.Machine.execFrameSkipped s
  | .mpDisable n => Sys2Proof.Machine.execMpDisable n s
  | .fusHang => Sys2Proof.Machine.execFusHang s
  | .wheelSlip w => Sys2Proof.Machine.execWheelSlip w s
  | .wheelRestored w => Sys2Proof.Machine.execWheelRestored w s
  | .imuLost => Sys2Proof.Machine.execImuLost s
  | .inferenceJobStart => Sys2Proof.Machine.execInferenceJobStart s
  | .inferenceResult j count data => Sys2Proof.Machine.execInferenceResult j count data s
  | .inferenceDeadlineAbort => Sys2Proof.Machine.execInferenceDeadlineAbort s
  | .lidarDatagram n sens count last seq recs sub => Sys2Proof.Machine.execLidarDatagram n sens count last seq recs sub s
  | .scanTimeout n => Sys2Proof.Machine.execScanTimeout n s
  | .parallaxCommit => Sys2Proof.Machine.execParallaxCommit s
  | .superframeStart energy => Sys2Proof.Machine.execSuperframeStart energy s
  | .beaconReceive h b inTime rsf rsub => Sys2Proof.Machine.execBeaconReceive h b inTime rsf rsub s
  | .memberSlotTransmit obs => Sys2Proof.Machine.execMemberSlotTransmit obs s
  | .memberFrameReceive h sub recs => Sys2Proof.Machine.execMemberFrameReceive h sub recs s
  | .contentionTransmit busy rsf rsub => Sys2Proof.Machine.execContentionTransmit busy rsf rsub s
  | .fleetLinkEnable => Sys2Proof.Machine.execFleetLinkEnable s
  | .fleetLinkDisable => Sys2Proof.Machine.execFleetLinkDisable s
  | .joinRequest ident pref sub => Sys2Proof.Machine.execJoinRequest ident pref sub s
  | .domainFound => Sys2Proof.Machine.execDomainFound s
  | .memberDepart m => Sys2Proof.Machine.execMemberDepart m s
  | .beaconLoss => Sys2Proof.Machine.execBeaconLoss s
  | .successorTakeover => Sys2Proof.Machine.execSuccessorTakeover s
  | .channelChange => Sys2Proof.Machine.execChannelChange s
  | .keyChange => Sys2Proof.Machine.execKeyChange s
  | .roleWrite i role => Sys2Proof.Machine.execRoleWrite i role s
  | .fleetRequest e => Sys2Proof.Machine.execFleetRequest e s
  | .segmentReceive src g => Sys2Proof.Machine.execSegmentReceive src g s
  | .segmentRepeat rsp src tag => Sys2Proof.Machine.execSegmentRepeat rsp src tag s
  | .fleetTransactionTimeout => Sys2Proof.Machine.execFleetTransactionTimeout s
  | .fleetPing src tag => Sys2Proof.Machine.execFleetPing src tag s
  | .roleQuery src tag => Sys2Proof.Machine.execRoleQuery src tag s
  | .fleetRegRead src tag => Sys2Proof.Machine.execFleetRegRead src tag s
  | .fleetRegWrite src tag => Sys2Proof.Machine.execFleetRegWrite src tag s
  | .fleetLogRead src tag => Sys2Proof.Machine.execFleetLogRead src tag s
  | .fleetMsg src tag code rsp => Sys2Proof.Machine.execFleetMsg src tag code rsp s
  | .fleetUnload src tag code => Sys2Proof.Machine.execFleetUnload src tag code s
  | .fleetUpdBlock src tag => Sys2Proof.Machine.execFleetUpdBlock src tag s
  | .vhpFwdInner src tag part => Sys2Proof.Machine.execVhpFwdInner src tag part s
  | .unloadArm id start partner => Sys2Proof.Machine.execUnloadArm id start partner s
  | .unloadSyncCheck => Sys2Proof.Machine.execUnloadSyncCheck s
  | .unloadEndRequest => Sys2Proof.Machine.execUnloadEndRequest s
  | .unloadExitRequest => Sys2Proof.Machine.execUnloadExitRequest s
  | .partnerLoss => Sys2Proof.Machine.execPartnerLoss s
  | .dmaDoorbell n tail => Sys2Proof.Machine.execDmaDoorbell n tail s
  | .descriptorRetire n => Sys2Proof.Machine.execDescriptorRetire n s
  | .dmaFault n chunks write beat extra => Sys2Proof.Machine.execDmaFault n chunks write beat extra s
  | .dmaResume n => Sys2Proof.Machine.execDmaResume n s
  | .dmaSkip n => Sys2Proof.Machine.execDmaSkip n s
  | .dmaDisable n => Sys2Proof.Machine.execDmaDisable n s
  | .iommuInvalidate ctx page count => Sys2Proof.Machine.execIommuInvalidate ctx page count s
  | .invalidateDone => Sys2Proof.Machine.execInvalidateDone s
  | .mbxPost init e timeout => Sys2Proof.Machine.execMbxPost init e timeout s
  | .mbxAck e code => Sys2Proof.Machine.execMbxAck e code s
  | .mbxTimeout e => Sys2Proof.Machine.execMbxTimeout e s
  | .mbxCrossing a b => Sys2Proof.Machine.execMbxCrossing a b s
  | .mbxEpFree e key => Sys2Proof.Machine.execMbxEpFree e key s
  | .mbxPairConfig e v => Sys2Proof.Machine.execMbxPairConfig e v s
  | .doorbellSet d v => Sys2Proof.Machine.execDoorbellSet d v s
  | .canEnable c => Sys2Proof.Machine.execCanEnable c s
  | .canFrameReceive c hdr rtr data stamp => Sys2Proof.Machine.execCanFrameReceive c hdr rtr data stamp s
  | .canSignalTimeout i => Sys2Proof.Machine.execCanSignalTimeout i s
  | .canFrameSent c tdcv => Sys2Proof.Machine.execCanFrameSent c tdcv s
  | .canLifetimeExpiry c => Sys2Proof.Machine.execCanLifetimeExpiry c s
  | .busOff c => Sys2Proof.Machine.execBusOff c s
  | .busOn c => Sys2Proof.Machine.execBusOn c s
  | .canSigRead => Sys2Proof.Machine.execCanSigRead s
  | .canSigWrite => Sys2Proof.Machine.execCanSigWrite s
  | .canStreamEnable k frame count => Sys2Proof.Machine.execCanStreamEnable k frame count s
  | .canTxqDoorbell c tail => Sys2Proof.Machine.execCanTxqDoorbell c tail s
  | .addressClaim c addr => Sys2Proof.Machine.execAddressClaim c addr s
  | .addressLost c => Sys2Proof.Machine.execAddressLost c s
  | .ethDatagram src dst port id ofs more data sub => Sys2Proof.Machine.execEthDatagram src dst port id ofs more data sub s
  | .reassemblyTimeout => Sys2Proof.Machine.execReassemblyTimeout s
  | .gclCommit p => Sys2Proof.Machine.execGclCommit p s
  | .vhpHello src tag => Sys2Proof.Machine.execVhpHello src tag s
  | .vhpOpen i tag key ok => Sys2Proof.Machine.execVhpOpen i tag key ok s
  | .vhpOpenTimeout i => Sys2Proof.Machine.execVhpOpenTimeout i s
  | .vhpClose h => Sys2Proof.Machine.execVhpClose h s
  | .vhpKeepalive h => Sys2Proof.Machine.execVhpKeepalive h s
  | .vhpRegRead h addr n => Sys2Proof.Machine.execVhpRegRead h addr n s
  | .vhpRegWrite h addr ws => Sys2Proof.Machine.execVhpRegWrite h addr ws s
  | .vhpLogRead h payload => Sys2Proof.Machine.execVhpLogRead h payload s
  | .vhpMsg h e words => Sys2Proof.Machine.execVhpMsg h e words s
  | .vhpModeReq h mode => Sys2Proof.Machine.execVhpModeReq h mode s
  | .vhpReset h full => Sys2Proof.Machine.execVhpReset h full s
  | .vhpRtcmIn h => Sys2Proof.Machine.execVhpRtcmIn h s
  | .vhpRtcmOut h hz msm7 => Sys2Proof.Machine.execVhpRtcmOut h hz msm7 s
  | .vhpUpdBlock h msg => Sys2Proof.Machine.execVhpUpdBlock h msg s
  | .vhpUpdState h part w => Sys2Proof.Machine.execVhpUpdState h part w s
  | .vhpTaskExport h part => Sys2Proof.Machine.execVhpTaskExport h part s
  | .vhpFwd h dest kind payload => Sys2Proof.Machine.execVhpFwd h dest kind payload s
  | .vhpTabRead h blk ofs n => Sys2Proof.Machine.execVhpTabRead h blk ofs n s
  | .vhpSessionIdle i => Sys2Proof.Machine.execVhpSessionIdle i s
  | .vhpTransactionTimeout i => Sys2Proof.Machine.execVhpTransactionTimeout i s
  | .facetNop n sub => Sys2Proof.Machine.execFacetNop n sub s
  | .facetLdi n sub => Sys2Proof.Machine.execFacetLdi n sub s
  | .facetMov n sub => Sys2Proof.Machine.execFacetMov n sub s
  | .facetAdd n sub => Sys2Proof.Machine.execFacetAdd n sub s
  | .facetSub n sub => Sys2Proof.Machine.execFacetSub n sub s
  | .facetCmp n sub => Sys2Proof.Machine.execFacetCmp n sub s
  | .facetTake n sub => Sys2Proof.Machine.execFacetTake n sub s
  | .facetBr n sub => Sys2Proof.Machine.execFacetBr n sub s
  | .facetHold n sub => Sys2Proof.Machine.execFacetHold n sub s
  | .facetOff n sub => Sys2Proof.Machine.execFacetOff n sub s
  | .facetBoost n sub => Sys2Proof.Machine.execFacetBoost n sub s
  | .facetPull n sub => Sys2Proof.Machine.execFacetPull n sub s
  | .facetWait n sub => Sys2Proof.Machine.execFacetWait n sub s
  | .facetSync n sub => Sys2Proof.Machine.execFacetSync n sub s
  | .facetKget n sub => Sys2Proof.Machine.execFacetKget n sub s
  | .facetDith n sub => Sys2Proof.Machine.execFacetDith n sub s
  | .boostGrant b sub => Sys2Proof.Machine.execBoostGrant b sub s
  | .boostWaitTimeout n sub => Sys2Proof.Machine.execBoostWaitTimeout n sub s
  | .boostPhaseEnd n sub pk dip => Sys2Proof.Machine.execBoostPhaseEnd n sub pk dip s
  | .boostReadyChange b mv => Sys2Proof.Machine.execBoostReadyChange b mv s
  | .valveShort n => Sys2Proof.Machine.execValveShort n s
  | .valveGroundShort n present => Sys2Proof.Machine.execValveGroundShort n present s
  | .valveOvertemp n hot => Sys2Proof.Machine.execValveOvertemp n hot s
  | .valveOpenCoil n present => Sys2Proof.Machine.execValveOpenCoil n present s
  | .railFault b overV present => Sys2Proof.Machine.execRailFault b overV present s
  | .valveChannelEnable init n => Sys2Proof.Machine.execValveChannelEnable init n s
  | .vlvBankSwap init b => Sys2Proof.Machine.execVlvBankSwap init b s
  | .swapApply b sub => Sys2Proof.Machine.execSwapApply b sub s
  | .vlvBankClr init b => Sys2Proof.Machine.execVlvBankClr init b s
  | .valveOpenTest n => Sys2Proof.Machine.execValveOpenTest n s
  | .coilTest n => Sys2Proof.Machine.execCoilTest n s
  | .boostTest b => Sys2Proof.Machine.execBoostTest b s
  | .valveTestStart sub => Sys2Proof.Machine.execValveTestStart sub s
  | .valveTestEnd sub pass r l => Sys2Proof.Machine.execValveTestEnd sub pass r l s
  | .lswCmdWrite n v => Sys2Proof.Machine.execLswCmdWrite n v s
  | .lswHardTrip n peak => Sys2Proof.Machine.execLswHardTrip n peak s
  | .lswInrushTrip n x => Sys2Proof.Machine.execLswInrushTrip n x s
  | .lswLatchTrip n x => Sys2Proof.Machine.execLswLatchTrip n x s
  | .inrushWindowEnd n => Sys2Proof.Machine.execInrushWindowEnd n s
  | .lswRetry n => Sys2Proof.Machine.execLswRetry n s
  | .lswClr n => Sys2Proof.Machine.execLswClr n s
  | .lswOvertemp n => Sys2Proof.Machine.execLswOvertemp n s
  | .lswCooldown n => Sys2Proof.Machine.execLswCooldown n s
  | .clamp n x => Sys2Proof.Machine.execClamp n x s
  | .openLoad n cur mv => Sys2Proof.Machine.execOpenLoad n cur mv s
  | .batAOver sum => Sys2Proof.Machine.execBatAOver sum s
  | .batAOvRelease mv => Sys2Proof.Machine.execBatAOvRelease mv s
  | .pulseTest n => Sys2Proof.Machine.execPulseTest n s
  | .freewheelTest n => Sys2Proof.Machine.execFreewheelTest n s
  | .lswTestStart => Sys2Proof.Machine.execLswTestStart s
  | .lswTestEnd m => Sys2Proof.Machine.execLswTestEnd m s
  | .lockstepMismatch => Sys2Proof.Machine.execLockstepMismatch s
  | .testPulse tp low => Sys2Proof.Machine.execTestPulse tp low s
  | .tpOverload tp => Sys2Proof.Machine.execTpOverload tp s
  | .discrepancyTimeout i => Sys2Proof.Machine.execDiscrepancyTimeout i s
  | .soElementTest k elem pass => Sys2Proof.Machine.execSoElementTest k elem pass s
  | .soOvercurrent k => Sys2Proof.Machine.execSoOvercurrent k s
  | .sensorPairContradiction p => Sys2Proof.Machine.execSensorPairContradiction p s
  | .resetPress ms pass out => Sys2Proof.Machine.execResetPress ms pass out s
  | .buttonFault => Sys2Proof.Machine.execButtonFault s
  | .safStopReq => Sys2Proof.Machine.execSafStopReq s
  | .panelEnable => Sys2Proof.Machine.execPanelEnable s
  | .panelDisable => Sys2Proof.Machine.execPanelDisable s
  | .panelFault m => Sys2Proof.Machine.execPanelFault m s
  | .videoFrameStart fault under => Sys2Proof.Machine.execVideoFrameStart fault under s
  | .fbFlip b => Sys2Proof.Machine.execFbFlip b s
  | .ageingSample => Sys2Proof.Machine.execAgeingSample s
  | .ageingGainUpdate => Sys2Proof.Machine.execAgeingGainUpdate s
  | .stripUpdateGo => Sys2Proof.Machine.execStripUpdateGo s
  | .stripUpdateStart => Sys2Proof.Machine.execStripUpdateStart s
  | .stripUpdateEnd => Sys2Proof.Machine.execStripUpdateEnd s
  | .recordClose => Sys2Proof.Machine.execRecordClose s
  | .storm => Sys2Proof.Machine.execStorm s
  | .evrAppGo core => Sys2Proof.Machine.execEvrAppGo core s
  | .counterCommit => Sys2Proof.Machine.execCounterCommit s
  | .evrNonceRead init => Sys2Proof.Machine.execEvrNonceRead init s
  | .logClear => Sys2Proof.Machine.execLogClear s
  | .loupeLatch init w => Sys2Proof.Machine.execLoupeLatch init w s
  | .loupeNext w => Sys2Proof.Machine.execLoupeNext w s
  | .checkpoint => Sys2Proof.Machine.execCheckpoint s
  | .tabBlockWrite ok => Sys2Proof.Machine.execTabBlockWrite ok s
  | .tabGap reason => Sys2Proof.Machine.execTabGap reason s
  | .tabSegmentOpen => Sys2Proof.Machine.execTabSegmentOpen s
  | .holdRelease h => Sys2Proof.Machine.execHoldRelease h s
  | .frameWindow off => Sys2Proof.Machine.execFrameWindow off s
  | .replayLoaded => Sys2Proof.Machine.execReplayLoaded s
  | .replayStop => Sys2Proof.Machine.execReplayStop s
  | .replayEnd => Sys2Proof.Machine.execReplayEnd s
  | .updateBlock => Sys2Proof.Machine.execUpdateBlock s
  | .updVerifyEnd => Sys2Proof.Machine.execUpdVerifyEnd s
  | .updAbandonCmd => Sys2Proof.Machine.execUpdAbandonCmd s
  | .updConfirm => Sys2Proof.Machine.execUpdConfirm s
  | .updReject => Sys2Proof.Machine.execUpdReject s
  | .activationCopyDone => Sys2Proof.Machine.execActivationCopyDone s
  | .updActivate => Sys2Proof.Machine.execUpdActivate s
  | .trialExpiry => Sys2Proof.Machine.execTrialExpiry s
  | .calibrationWrite => Sys2Proof.Machine.execCalibrationWrite s
  | .updNonceRead init => Sys2Proof.Machine.execUpdNonceRead init s
  | .ownerFlags => Sys2Proof.Machine.execOwnerFlags s
  | .setKey => Sys2Proof.Machine.execSetKey s
  | .removeKey => Sys2Proof.Machine.execRemoveKey s
  | .newOwnerKey => Sys2Proof.Machine.execNewOwnerKey s
  | .debugUnlock => Sys2Proof.Machine.execDebugUnlock s
  | .debugClose => Sys2Proof.Machine.execDebugClose s
  | .debugExpiry => Sys2Proof.Machine.execDebugExpiry s
  | .groundStudLoss g v => Sys2Proof.Machine.execGroundStudLoss g v s
  | .groundStudReturn g v => Sys2Proof.Machine.execGroundStudReturn g v s
  | .thermalSiteRead k valid t => Sys2Proof.Machine.execThermalSiteRead k valid t s
  | .throttleStageChange => Sys2Proof.Machine.execThrottleStageChange s
  | .outHighChange w => Sys2Proof.Machine.execOutHighChange w s
  | .illegalInstruction u w => Sys2Proof.Machine.execIllegalInstruction u w s
  | .facetUndefinedOpcode n sub => Sys2Proof.Machine.execFacetUndefinedOpcode n sub s
  | .i25BurdenRestore n => Sys2Proof.Machine.execI25BurdenRestore n s
  | .inlineFrameComplete => Sys2Proof.Machine.execInlineFrameComplete s
  | .canBusError c kind tx => Sys2Proof.Machine.execCanBusError c kind tx s
  | .ethFrameIngress p dst src pcp etype data stamp => Sys2Proof.Machine.execEthFrameIngress p dst src pcp etype data stamp s
  | .ethLinkChange p up sqi => Sys2Proof.Machine.execEthLinkChange p up sqi s
  | .supplyLevelCrossing inp lvl on mv => Sys2Proof.Machine.execSupplyLevelCrossing inp lvl on mv s
  | .groupUndervoltage g below mv sag => Sys2Proof.Machine.execGroupUndervoltage g below mv sag s

end Sys2Proof.Machine
end

