-- ==== Sys2Proof/Safety.lean ====
section
/-! DEFINITION. What claims say of a run: the canonical form of memory and of the register store, the parts of the state, and the frames
"only these parts", "only these registers" and "only these bytes" change. -/

namespace Sys2Proof.Machine

/-! ### Canonical forms -/

/-- Memory is in its canonical form: addresses rise strictly, and no listed byte equals 0, what an unlisted byte reads as. -/
def Memory.wf (m : SMap Byte) : Bool := smWf (fun _ => 0) m

/-- The register store is in its canonical form: addresses rise strictly, and no listed register holds its reset value. -/
def RegStore.wf (m : RegFile) : Bool := smWf resetVal m

/-- The sparse maps of the units outside the replay boundary that statements read back are in canonical form: latched high words and read data of
the fabric, temperature sites, load-switch channels, host sessions, DMA channels, message timers, fleet members, sensing units, camera links with
their frames in progress, pairs, lidar scans and CAN controllers. -/
def State.liveMapsWf (s : State) : Bool :=
  smWf (fun _ => none) s.fab.hiLatch && smWf (fun _ => 0) s.fab.rdata && smWf (fun _ => {}) s.pm.sites && smWf (fun _ => {}) s.lsw.ch &&
    smWf (fun _ => {}) s.vhp.sess && smWf (fun _ => {}) s.dma.ch && smWf (fun _ => none) s.dma.postCyc && smWf (fun _ => none) s.dma.tmoCyc &&
    smWf (fun _ => {}) s.flr.mbr && smWf (fun _ => {}) s.uin.unit && smWf (fun _ => {}) s.cam.cam && smWf (fun _ => {}) s.cam.pair &&
    s.cam.cam.all (fun x => smWf (fun _ => none) x.2.cur) && smWf (fun _ => none) s.fus.scan && smWf (fun _ => none) s.fus.scanOff && smWf (fun _ => {}) s.can.ctl

/-- The valve drive's maps are in canonical form: channels, contexts, banks and active code. -/
def vlvMapsWf (v : VlvState) : Bool := smWf (fun _ => {}) v.ch && smWf (fun _ => {}) v.ctx && smWf (fun _ => {}) v.bank && smWf (fun _ => 0) v.active

/-- The maps inside the replay boundary that statements read back are in canonical form: published values and the valve drive, in the present
state and in every state of the boundary that is kept. -/
def State.bndMapsWf (s : State) : Bool :=
  let pubWf := fun (m : SMap PubV) => smWf (fun _ => {}) m
  pubWf s.pub && vlvMapsWf s.vlv && s.rpl.ckpts.all (fun c => pubWf c.bnd.pub && vlvMapsWf c.bnd.vlv) &&
    s.rpl.live.all (fun b => pubWf b.pub && vlvMapsWf b.vlv)

/-- Memory, the register store and the units' maps are in canonical form, so that equal contents are equal data. -/
def State.canonical (s : State) : Prop :=
  Memory.wf s.mem = true ∧ RegStore.wf s.regs = true ∧ s.liveMapsWf = true ∧ s.bndMapsWf = true

/-! ### Parts -/

/-- The parts of the state, one for each of its fields. -/
inductive Part where
  | regs | mem | pub | stage | fab | clk | gw | ce | uin | gov | mfp | yld | gns | steer | cam | fus | flr | dma | can | eth | vhp
  | vlv | lsw | saf | dsp | bst | evr | tab | rpl | upd | pm | freeCtr | pending
  deriving DecidableEq, Repr

/-- A part is the same in two states. -/
def Part.same (s t : State) : Part → Prop
  | .regs => t.regs = s.regs
  | .mem => t.mem = s.mem
  | .pub => t.pub = s.pub
  | .stage => t.stage = s.stage
  | .fab => t.fab = s.fab
  | .clk => t.clk = s.clk
  | .gw => t.gw = s.gw
  | .ce => t.ce = s.ce
  | .uin => t.uin = s.uin
  | .gov => t.gov = s.gov
  | .mfp => t.mfp = s.mfp
  | .yld => t.yld = s.yld
  | .gns => t.gns = s.gns
  | .steer => t.steer = s.steer
  | .cam => t.cam = s.cam
  | .fus => t.fus = s.fus
  | .flr => t.flr = s.flr
  | .dma => t.dma = s.dma
  | .can => t.can = s.can
  | .eth => t.eth = s.eth
  | .vhp => t.vhp = s.vhp
  | .vlv => t.vlv = s.vlv
  | .lsw => t.lsw = s.lsw
  | .saf => t.saf = s.saf
  | .dsp => t.dsp = s.dsp
  | .bst => t.bst = s.bst
  | .evr => t.evr = s.evr
  | .tab => t.tab = s.tab
  | .rpl => t.rpl = s.rpl
  | .upd => t.upd = s.upd
  | .pm => t.pm = s.pm
  | .freeCtr => t.freeCtr = s.freeCtr
  | .pending => t.pending = s.pending

/-- From `s` to `t` no part changes but those listed. -/
def OnlyParts (l : List Part) (s t : State) : Prop := ∀ p : Part, p ∉ l → p.same s t

/-- From `s` to `t` no register changes but those at the addresses listed. -/
def OnlyRegs (l : List Nat) (s t : State) : Prop := ∀ a : Nat, a ∉ l → t.reg a = s.reg a

/-- From `s` to `t` every byte outside `n` bytes from address `a` reads as before. -/
def OnlyBytes (a n : Nat) (s t : State) : Prop := ∀ x : Nat, (x < a ∨ a + n ≤ x) → t.byteAt x = s.byteAt x

/-- From `s` to `t`, with events recorded on the way, no part changes but those listed; of memory only the replay event list does (4 096 records of 32
bytes, R514), and outside REPLAY none. -/
def LogsOnly (l : List Part) (s t : State) : Prop :=
  OnlyParts (.mem :: l) s t ∧ OnlyBytes relAt 131072 s t ∧ (s.rpl.live = none → t.mem = s.mem)

/-- The registers that show what the recorder captures: TAB_STAT and the record counters (R504, R507). -/
def captureRegs : List Nat := Ra.TAB_STAT :: (List.range 8).map Ra.TAB_REC_TYPE

/-- The registers in which an accepted access counts: SYS_FAB_PEAK, and by class SYS_FAB_AUX[0] to [7] (R20, R26). -/
def passRegs : List Nat := Ra.SYS_FAB_PEAK :: (List.range 8).map Ra.SYS_FAB_AUX

/-- The registers that hold the first fabric error (R29). -/
def errRegs : List Nat := [Ra.SYS_FAB_ERR_ADDR, Ra.SYS_FAB_ERR_INFO]

/-- The registers in which the translations of a unit's transfer count, and their faults show (R361). -/
def xferRegs : List Nat :=
  [Ra.DMA_IOFAULT_LO, Ra.DMA_IOFAULT_HI, Ra.DMA_IOFAULT_INFO, Ra.DMA_IOFAULT_OVR] ++ (List.range 4).map Ra.DMA_WALK_CNT ++
    (List.range 4).map Ra.DMA_WALKFLT_CNT

/-- The state in which an accepted access of an initiator is performed (R20): a core has left its reset, and the access counts. -/
def accessed (s : State) (init addr : Nat) (write : Bool) : State :=
  fabPass (coreAwake s init) (fabTxn (coreAwake s init) init addr write)

/-- The initiator may access now, and the fabric has an entry for it and no earlier request of it that stalls (R20–R22). -/
def Accepts (s : State) (init addr : Nat) (write : Bool) : Prop :=
  mayAccess s init write = true ∧ fabOpen s (fabTxn s init addr write) = true

/-! ### Answers -/

/-- The command `c` completes on `s`: `exec` answers a next state, and `P` holds of it. -/
def Gives (c : Instr) (s : State) (P : State → Prop) : Prop := ∃ t, exec c s = .next t ∧ P t

/-- The command completes on `s` and leaves it as it is. -/
def Idle (c : Instr) (s : State) : Prop := exec c s = .next s

/-! ### Host protocol requests -/

/-- Session `i` takes the request `h` as a new transaction (R399, R401): the complex serves, the session is open, the datagram is authentic and not
replayed, no response is kept for its tag, no request of its tag runs, and fewer than 256 are outstanding. -/
def VhpTakes (s : State) (h : VhpHdr) (i : Nat) : Prop :=
  vhpOn s = true ∧ i < 4 ∧ h.sess.toNat = i + 1 ∧ sessOpen s i = true ∧ h.mic = true ∧ ctrBad (s.vs i) h.ctr.toNat = false ∧
    (∀ r ∈ (s.vs i).kept, r.tag = h.tag.toNat → s.since r.at_ (10 * cycS) = true) ∧
    (∀ x ∈ (s.vs i).outst, x.tag ≠ h.tag.toNat) ∧ (s.vs i).outst.length < 256

/-! ### Gweny samples -/

/-- Unit `u` runs a sample which, with a running Prism operation brought up to the present cycle, is `c` (no result goes to memory at this cycle),
and it can execute an instruction of `cost` cycles: its pc is aligned and inside the tile window, the budget outlasts the instruction, and the unit
has the instruction (`vec`: one that the Mirror pair lacks, R76). -/
def ReadyFor (s : State) (u : Nat) (c : GwCtx) (vec : Bool) (cost : Nat) : Prop :=
  (∃ c0, s.ctx u = some c0 ∧ prismAuto s c0 = (s, c)) ∧ c.pc % 4 = 0 ∧ c.pc + 4 ≤ c.size ∧ cost < c.budget ∧ (vec = true → u ≠ mirrorUnit)

/-- The state after an instruction of `cost` cycles of unit `u` that ran on `c`, turned its registers into those of `c'` and continues at
`pc`: only the unit's sample has changed. -/
def retired (s : State) (u : Nat) (c c' : GwCtx) (cost : Nat) (pc : Nat) : State :=
  s.setCtx u (some { c' with pc := pc, budget := c.budget - cost, cyc := c.cyc + cost })

/-- Command `i` of unit `u` completes in `cost` cycles from sample `c`, with the registers of `c'`, and continues at the next word. -/
def Retires (i : Instr) (s : State) (u : Nat) (c c' : GwCtx) (cost : Nat) : Prop := exec i s = .next (retired s u c c' cost (c.pc + 4))

/-- The result and the sticky flags of an FP operation go to the register and to the flags. -/
def GwCtx.take (c : GwCtx) (rd : Nat) (r : FRes) : GwCtx := (c.setG rd r.val).orFlags r.fl

/-- The result lanes and the joined flags of a lane-wise operation. -/
def GwCtx.takeV (c : GwCtx) (vd : Nat) (r : List Word × Nat) : GwCtx := (c.setV vd r.1).orFlags r.2

/-- No Prism operation runs. -/
def GwCtx.prismIdle (c : GwCtx) : Prop := c.prism = none

end Sys2Proof.Machine
end

