-- ==== Sys2Proof/WellFormed.lean ====
section
/-! DEFINITION. Which commands are well formed: what the types of the operands do not say. A tick latches each source once and measures at
word addresses (R16, R158); a read of an RC field and a clear of W1C bits name a word (R16); a bank has four channels (R403); a classical
frame's data fill its DLC and a CAN FD frame carries at most 64 bytes (R377, R381); a solved baseline has its eight words (R246); five
channels' energy is measured (R318); a lidar object has eight words (R305). -/

namespace Sys2Proof

/-- The command is well formed. -/
def Instr.wf (c : Instr) : Bool := match c with
  | .tick _ lat _ meas => decide ((lat.map (·.1)).Nodup) && meas.all (fun x => x.1.toNat % 4 == 0)
  | .majorFrameBoundary .. => true
  | .carrierPeriodStart _ _ _ mean => decide (mean.length ≤ 4)
  | .targetNotReached .. => true
  | .registerWrite .. => true
  | .lowWordReadLatch .. => true
  | .rcFieldRead _ addr => addr.toNat % 4 == 0
  | .w1cClear _ addr _ => addr.toNat % 4 == 0
  | .fabricEntryFreed .. => true
  | .bulkAgePromotion .. => true
  | .responseTimeout .. => true
  | .pllLossOfLock .. => true
  | .timeSolution .. => true
  | .dtStep .. => true
  | .holdoverEntry .. => true
  | .holdLimExceeded .. => true
  | .dtSet .. => true
  | .steerCfgApply .. => true
  | .streamSample .. => true
  | .streamEnable .. => true
  | .streamReanchor .. => true
  | .modeRequest .. => true
  | .modeCheck .. => true
  | .modeCommitAfterRamp .. => true
  | .heartbeatLoss .. => true
  | .speedContributionLift .. => true
  | .safHbWrite .. => true
  | .resetReqAssert .. => true
  | .resetReqStuck .. => true
  | .resetReqRearm .. => true
  | .powerApplied .. => true
  | .bootComplete .. => true
  | .reserveTimeout .. => true
  | .keepChannelTimeout .. => true
  | .appWatchdogExpiry .. => true
  | .watchdogRefresh .. => true
  | .hostFullReset .. => true
  | .appReset .. => true
  | .wakeInFall .. => true
  | .standbyDelayExpiry .. => true
  | .stationaryStandby .. => true
  | .standbyCancel .. => true
  | .wakeInWake .. => true
  | .canSelectiveWake _ _ dlc data _ _ => data.length == Nat.min 8 dlc.val
  | .aonTimerWake .. => true
  | .powerFail .. => true
  | .thermalShutdown .. => true
  | .thermalRecoveryReset .. => true
  | .debugReset .. => true
  | .add .. => true
  | .sub .. => true
  | .and .. => true
  | .or .. => true
  | .xor .. => true
  | .shl .. => true
  | .shr .. => true
  | .sra .. => true
  | .mul .. => true
  | .min .. => true
  | .max .. => true
  | .cmp .. => true
  | .addi .. => true
  | .andi .. => true
  | .ori .. => true
  | .xori .. => true
  | .shli .. => true
  | .shri .. => true
  | .srai .. => true
  | .lui .. => true
  | .fadd .. => true
  | .fsub .. => true
  | .fmul .. => true
  | .fdiv .. => true
  | .fmin .. => true
  | .fmax .. => true
  | .fabs .. => true
  | .fneg .. => true
  | .fsqrt .. => true
  | .fcmp .. => true
  | .fcvtsw .. => true
  | .fcvtws .. => true
  | .fma .. => true
  | .fclamp .. => true
  | .lw .. => true
  | .sw .. => true
  | .lv .. => true
  | .sv .. => true
  | .pmv .. => true
  | .prismComplete .. => true
  | .beq .. => true
  | .bne .. => true
  | .blt .. => true
  | .bge .. => true
  | .bltu .. => true
  | .bgeu .. => true
  | .bfs .. => true
  | .bfc .. => true
  | .j .. => true
  | .jal .. => true
  | .jr .. => true
  | .inPort .. => true
  | .inq .. => true
  | .out .. => true
  | .vin .. => true
  | .vadd .. => true
  | .vsub .. => true
  | .vmul .. => true
  | .vfma .. => true
  | .vmin .. => true
  | .vmax .. => true
  | .vclamp .. => true
  | .vbcast .. => true
  | .vext .. => true
  | .vins .. => true
  | .vred .. => true
  | .vdot .. => true
  | .nop .. => true
  | .ends .. => true
  | .trap .. => true
  | .csrr .. => true
  | .csrw .. => true
  | .pwait .. => true
  | .integ .. => true
  | .relay .. => true
  | .plaus .. => true
  | .budgetTrap .. => true
  | .deliveredWriteFault .. => true
  | .loopLoad .. => true
  | .loadCopyComplete .. => true
  | .loopStart .. => true
  | .loopStop .. => true
  | .loopDisable .. => true
  | .loopDisableDone .. => true
  | .loopUnload .. => true
  | .engineRemove .. => true
  | .removeComplete .. => true
  | .engineReturn .. => true
  | .marchTestEnd .. => true
  | .migrateMove .. => true
  | .migrateReplace .. => true
  | .replaceFetchComplete .. => true
  | .migrationCut .. => true
  | .migrationCopyComplete .. => true
  | .routeRead .. => true
  | .routeWrite .. => true
  | .spareDesignate .. => true
  | .tileUe .. => true
  | .engineHang .. => true
  | .engEvac .. => true
  | .inputEdge .. => true
  | .inputFault .. => true
  | .inputOk .. => true
  | .i25Overcurrent .. => true
  | .freqEdgeTimeout .. => true
  | .losImpact .. => true
  | .losRearm .. => true
  | .referenceFault .. => true
  | .supplyCurrentTrip .. => true
  | .supplyBatteryShort .. => true
  | .supplyRestart .. => true
  | .openTest .. => true
  | .supplyTest .. => true
  | .bridgeTest .. => true
  | .piezoTest .. => true
  | .imuTest .. => true
  | .senseTestStart .. => true
  | .senseTestEnd .. => true
  | .bandChange .. => true
  | .govholdSet .. => true
  | .referenceMessage .. => true
  | .mfEnable .. => true
  | .mfEnableStart .. => true
  | .mfDisable .. => true
  | .mfDisableIssue .. => true
  | .mfDisableDone .. => true
  | .mf01HoldZero .. => true
  | .yieldRecordStore .. => true
  | .antennaFault .. => true
  | .chAllocApply .. => true
  | .rtcmFrame .. => true
  | .baseMoved .. => true
  | .basePositionWrite .. => true
  | .neighbourEpoch _ rec _ _ _ vec sol => decide (rec.length = 48) && decide (vec.length = 5) && decide (sol.length = 3)
  | .neighbourConfig .. => true
  | .gnssRestart .. => true
  | .aidWrite .. => true
  | .ppsEdge .. => true
  | .pathSegment .. => true
  | .steerEngage .. => true
  | .steerDisengageReq .. => true
  | .steerCheckAct .. => true
  | .steerTest .. => true
  | .steerTestEnd .. => true
  | .camLinkEnable .. => true
  | .camLinkDisable .. => true
  | .linkTrained .. => true
  | .linkLost .. => true
  | .linkRetrain .. => true
  | .cameraSupplyFault .. => true
  | .csiFrameStart .. => true
  | .csiLine .. => true
  | .csiFrameEnd .. => true
  | .exposureCommit .. => true
  | .exposureAck .. => true
  | .exposureTimeout .. => true
  | .mpJobStart .. => true
  | .mpJobComplete .. => true
  | .frameSkipped .. => true
  | .mpDisable .. => true
  | .fusHang .. => true
  | .wheelSlip .. => true
  | .wheelRestored .. => true
  | .imuLost .. => true
  | .inferenceJobStart .. => true
  | .inferenceResult .. => true
  | .inferenceDeadlineAbort .. => true
  | .lidarDatagram _ _ count _ _ recs _ => recs.length == 8 * count.toNat
  | .scanTimeout .. => true
  | .parallaxCommit .. => true
  | .superframeStart energy => energy.length == 5
  | .beaconReceive .. => true
  | .memberSlotTransmit .. => true
  | .memberFrameReceive .. => true
  | .contentionTransmit .. => true
  | .fleetLinkEnable .. => true
  | .fleetLinkDisable .. => true
  | .joinRequest .. => true
  | .domainFound .. => true
  | .memberDepart .. => true
  | .beaconLoss .. => true
  | .successorTakeover .. => true
  | .channelChange .. => true
  | .keyChange .. => true
  | .roleWrite .. => true
  | .fleetRequest .. => true
  | .segmentReceive .. => true
  | .segmentRepeat .. => true
  | .fleetTransactionTimeout .. => true
  | .fleetPing .. => true
  | .roleQuery .. => true
  | .fleetRegRead .. => true
  | .fleetRegWrite .. => true
  | .fleetLogRead .. => true
  | .fleetMsg .. => true
  | .fleetUnload .. => true
  | .fleetUpdBlock .. => true
  | .vhpFwdInner .. => true
  | .unloadArm .. => true
  | .unloadSyncCheck .. => true
  | .unloadEndRequest .. => true
  | .unloadExitRequest .. => true
  | .partnerLoss .. => true
  | .dmaDoorbell .. => true
  | .descriptorRetire .. => true
  | .dmaFault .. => true
  | .dmaResume .. => true
  | .dmaSkip .. => true
  | .dmaDisable .. => true
  | .iommuInvalidate .. => true
  | .invalidateDone .. => true
  | .mbxPost .. => true
  | .mbxAck .. => true
  | .mbxTimeout .. => true
  | .mbxCrossing .. => true
  | .mbxEpFree .. => true
  | .mbxPairConfig .. => true
  | .doorbellSet .. => true
  | .canEnable .. => true
  | .canFrameReceive _ _ _ data _ => decide (data.length ≤ 64)
  | .canSignalTimeout .. => true
  | .canFrameSent .. => true
  | .canLifetimeExpiry .. => true
  | .busOff .. => true
  | .busOn .. => true
  | .canSigRead .. => true
  | .canSigWrite .. => true
  | .canStreamEnable .. => true
  | .canTxqDoorbell .. => true
  | .addressClaim .. => true
  | .addressLost .. => true
  | .ethDatagram .. => true
  | .reassemblyTimeout .. => true
  | .gclCommit .. => true
  | .vhpHello .. => true
  | .vhpOpen .. => true
  | .vhpOpenTimeout .. => true
  | .vhpClose .. => true
  | .vhpKeepalive .. => true
  | .vhpRegRead .. => true
  | .vhpRegWrite .. => true
  | .vhpLogRead .. => true
  | .vhpMsg .. => true
  | .vhpModeReq .. => true
  | .vhpReset .. => true
  | .vhpRtcmIn .. => true
  | .vhpRtcmOut .. => true
  | .vhpUpdBlock .. => true
  | .vhpUpdState .. => true
  | .vhpTaskExport .. => true
  | .vhpFwd .. => true
  | .vhpTabRead .. => true
  | .vhpSessionIdle .. => true
  | .vhpTransactionTimeout .. => true
  | .facetNop .. => true
  | .facetLdi .. => true
  | .facetMov .. => true
  | .facetAdd .. => true
  | .facetSub .. => true
  | .facetCmp .. => true
  | .facetTake .. => true
  | .facetBr .. => true
  | .facetHold .. => true
  | .facetOff .. => true
  | .facetBoost .. => true
  | .facetPull .. => true
  | .facetWait .. => true
  | .facetSync .. => true
  | .facetKget .. => true
  | .facetDith .. => true
  | .boostGrant .. => true
  | .boostWaitTimeout .. => true
  | .boostPhaseEnd .. => true
  | .boostReadyChange .. => true
  | .valveShort .. => true
  | .valveGroundShort .. => true
  | .valveOvertemp .. => true
  | .valveOpenCoil .. => true
  | .railFault .. => true
  | .valveChannelEnable .. => true
  | .vlvBankSwap .. => true
  | .swapApply .. => true
  | .vlvBankClr .. => true
  | .valveOpenTest .. => true
  | .coilTest .. => true
  | .boostTest .. => true
  | .valveTestStart .. => true
  | .valveTestEnd .. => true
  | .lswCmdWrite .. => true
  | .lswHardTrip .. => true
  | .lswInrushTrip .. => true
  | .lswLatchTrip .. => true
  | .inrushWindowEnd .. => true
  | .lswRetry .. => true
  | .lswClr .. => true
  | .lswOvertemp .. => true
  | .lswCooldown .. => true
  | .clamp .. => true
  | .openLoad .. => true
  | .batAOver .. => true
  | .batAOvRelease .. => true
  | .pulseTest .. => true
  | .freewheelTest .. => true
  | .lswTestStart .. => true
  | .lswTestEnd .. => true
  | .lockstepMismatch .. => true
  | .testPulse .. => true
  | .tpOverload .. => true
  | .discrepancyTimeout .. => true
  | .soElementTest .. => true
  | .soOvercurrent .. => true
  | .sensorPairContradiction .. => true
  | .resetPress .. => true
  | .buttonFault .. => true
  | .safStopReq .. => true
  | .panelEnable .. => true
  | .panelDisable .. => true
  | .panelFault .. => true
  | .videoFrameStart .. => true
  | .fbFlip .. => true
  | .ageingSample .. => true
  | .ageingGainUpdate .. => true
  | .stripUpdateGo .. => true
  | .stripUpdateStart .. => true
  | .stripUpdateEnd .. => true
  | .recordClose .. => true
  | .storm .. => true
  | .evrAppGo .. => true
  | .counterCommit .. => true
  | .evrNonceRead .. => true
  | .logClear .. => true
  | .loupeLatch .. => true
  | .loupeNext .. => true
  | .checkpoint .. => true
  | .tabBlockWrite .. => true
  | .tabGap .. => true
  | .tabSegmentOpen .. => true
  | .holdRelease .. => true
  | .frameWindow .. => true
  | .replayLoaded .. => true
  | .replayStop .. => true
  | .replayEnd => true
  | .updateBlock .. => true
  | .updVerifyEnd .. => true
  | .updAbandonCmd .. => true
  | .updConfirm .. => true
  | .updReject .. => true
  | .activationCopyDone .. => true
  | .updActivate .. => true
  | .trialExpiry .. => true
  | .calibrationWrite .. => true
  | .updNonceRead .. => true
  | .ownerFlags .. => true
  | .setKey .. => true
  | .removeKey .. => true
  | .newOwnerKey .. => true
  | .debugUnlock .. => true
  | .debugClose .. => true
  | .debugExpiry .. => true
  | .groundStudLoss .. => true
  | .groundStudReturn .. => true
  | .thermalSiteRead .. => true
  | .throttleStageChange .. => true
  | .outHighChange .. => true
  | .illegalInstruction .. => true
  | .facetUndefinedOpcode .. => true
  | .i25BurdenRestore .. => true
  | .inlineFrameComplete .. => true
  | .canBusError .. => true
  | .ethFrameIngress .. => true
  | .ethLinkChange .. => true
  | .supplyLevelCrossing .. => true
  | .groupUndervoltage .. => true

end Sys2Proof
end

