-- ==== Sys2Proof/Certificates/Slice0/Obligations.lean ====
section
/-! DEFINITION. The statements for the provers. -/

open Sys2Proof Sys2Proof.Machine

/-! ### The machine as a whole -/

/-- A step takes the command at the front of the queue and runs it on the state with the queue's rest. -/
def Obligations.StepRunsFront : Prop :=
  ∀ (c : Instr) (q : List Instr) (s : State), step { s with pending := c :: q } = exec c { s with pending := q }

/-- On an empty queue the block idles (the model's choice, assumption 1). -/
def Obligations.EmptyQueueIdles : Prop := ∀ s : State, s.pending = [] → step s = .next s

/-- The module right after reset (R53, R71): BOOT, boot step 1, no lock-out latched, no command waiting. -/
def Obligations.ResetState : Prop :=
  State.reset.mode = Mode.boot ∧ State.reset.fld Fd.PWR_STAT_STEP = 1 ∧ State.reset.flag Fd.SAF_LOCK_LATCHED = false ∧
  State.reset.reg Ra.SYS_ID = 0x96400100#32 ∧ State.reset.timeState = 0 ∧ State.reset.pending = [] ∧
  State.reset.dtNs = 0 ∧ State.reset.fld Fd.PWR_APP_WDOG_TIMEOUT = 1000 ∧ State.reset.mem = []

/-- The reset state's memory and register store are in canonical form. -/
def Obligations.ResetCanonical : Prop := State.reset.canonical

/-- Every step from a state whose memory and register store are in canonical form answers a state in canonical form. -/
def Obligations.CanonicalKept : Prop := ∀ s t : State, s.canonical → step s = .next t → t.canonical

/-- No step makes, repeats, reorders or drops a waiting command: of a queue, a step leaves exactly the rest. -/
def Obligations.QueueKept : Prop := ∀ s t : State, step s = .next t → t.pending = s.pending.tail

/-- No command faults and none is refused: the spec gives every event of its table an effect. -/
def Obligations.NoStop : Prop := ∀ (c : Instr) (s : State), ∃ t, exec c s = .next t

/-! ### Gweny (R76–R122) -/

/-- Integer and immediate instructions (R85, R99): every operand form, its result, its cycles and nothing else changed. Each clause holds for
every unit, register and state in which the unit's sample is ready for the instruction; a write to g0 is discarded (`ScalarRegisters`). CMP (R85, R99): Z, N, C and V of g[a] − g[b] as integers; UN, the sticky flags and every other part of the sample are as before. -/
def Obligations.GwenyInteger : Prop :=
  ((∀ (u : Fin 10) (rd a b : Fin 32) (s : State) (c : GwCtx), ReadyFor s u c false 1 →
    Retires (.add u rd a b) s u c (c.setG rd (c.gr a + c.gr b)) 1 ∧
    Retires (.sub u rd a b) s u c (c.setG rd (c.gr a - c.gr b)) 1 ∧
    Retires (.and u rd a b) s u c (c.setG rd (c.gr a &&& c.gr b)) 1 ∧
    Retires (.or u rd a b) s u c (c.setG rd (c.gr a ||| c.gr b)) 1 ∧
    Retires (.xor u rd a b) s u c (c.setG rd (c.gr a ^^^ c.gr b)) 1 ∧
    Retires (.shl u rd a b) s u c (c.setG rd (BitVec.ofNat 32 ((c.gr a).toNat * 2 ^ ((c.gr b).toNat % 32)))) 1 ∧
    Retires (.shr u rd a b) s u c (c.setG rd (BitVec.ofNat 32 ((c.gr a).toNat / 2 ^ ((c.gr b).toNat % 32)))) 1 ∧
    Retires (.sra u rd a b) s u c (c.setG rd (BitVec.ofInt 32 ((c.gr a).toInt / 2 ^ ((c.gr b).toNat % 32)))) 1 ∧
    Retires (.min u rd a b) s u c (c.setG rd (BitVec.ofInt 32 (min (c.gr a).toInt (c.gr b).toInt))) 1 ∧
    Retires (.max u rd a b) s u c (c.setG rd (BitVec.ofInt 32 (max (c.gr a).toInt (c.gr b).toInt))) 1) ∧
  (∀ (u : Fin 10) (rd a b : Fin 32) (s : State) (c : GwCtx), ReadyFor s u c false 2 →
    Retires (.mul u rd a b) s u c (c.setG rd (BitVec.ofNat 32 ((c.gr a).toNat * (c.gr b).toNat))) 2) ∧
  (∀ (u : Fin 10) (rd a : Fin 32) (imm : BitVec 16) (s : State) (c : GwCtx), ReadyFor s u c false 1 →
    Retires (.addi u rd a imm) s u c (c.setG rd (BitVec.ofInt 32 ((c.gr a).toInt + imm.toInt))) 1 ∧
    Retires (.andi u rd a imm) s u c (c.setG rd (c.gr a &&& BitVec.ofNat 32 imm.toNat)) 1 ∧
    Retires (.ori u rd a imm) s u c (c.setG rd (c.gr a ||| BitVec.ofNat 32 imm.toNat)) 1 ∧
    Retires (.xori u rd a imm) s u c (c.setG rd (c.gr a ^^^ BitVec.ofNat 32 imm.toNat)) 1 ∧
    Retires (.lui u rd imm) s u c (c.setG rd (BitVec.ofNat 32 (imm.toNat * 65536))) 1) ∧
  (∀ (u : Fin 10) (rd a sh : Fin 32) (s : State) (c : GwCtx), ReadyFor s u c false 1 →
    Retires (.shli u rd a sh) s u c (c.setG rd (BitVec.ofNat 32 ((c.gr a).toNat * 2 ^ sh.val))) 1 ∧
    Retires (.shri u rd a sh) s u c (c.setG rd (BitVec.ofNat 32 ((c.gr a).toNat / 2 ^ sh.val))) 1 ∧
    Retires (.srai u rd a sh) s u c (c.setG rd (BitVec.ofInt 32 ((c.gr a).toInt / 2 ^ sh.val))) 1)) ∧
  (∀ (u : Fin 10) (a b : Fin 32) (s : State) (c : GwCtx), ReadyFor s u c false 1 → ∃ f : Word,
    Retires (.cmp u a b) s u c { c with flags := f } 1 ∧
    (bit f.toNat 0 = true ↔ c.gr a = c.gr b) ∧ (bit f.toNat 1 = true ↔ (c.gr a - c.gr b).toInt < 0) ∧
    (bit f.toNat 2 = true ↔ (c.gr b).toNat ≤ (c.gr a).toNat) ∧
    (bit f.toNat 3 = true ↔ (c.gr a).toInt - (c.gr b).toInt < -2147483648 ∨ 2147483647 < (c.gr a).toInt - (c.gr b).toInt) ∧
    ∀ i, 4 ≤ i → i < 32 → bit f.toNat i = bit c.flags.toNat i)

/-- FP scalar instructions (R83, R84, R100): the result of the IEEE operation and its sticky flags, in the cycles of the table. -/
def Obligations.GwenyFloat : Prop :=
  (∀ (u : Fin 10) (rd a b : Fin 32) (s : State) (c : GwCtx), ReadyFor s u c false 2 →
    Retires (.fadd u rd a b) s u c (c.take rd (fadd (c.gr a) (c.gr b))) 2 ∧
    Retires (.fsub u rd a b) s u c (c.take rd (fsub (c.gr a) (c.gr b))) 2 ∧
    Retires (.fmul u rd a b) s u c (c.take rd (fmul (c.gr a) (c.gr b))) 2 ∧
    Retires (.fcvtsw u rd a) s u c (c.setG rd (fcvtsw (c.gr a))) 2 ∧
    Retires (.fcvtws u rd a) s u c (c.take rd (fcvtws (c.gr a))) 2) ∧
  (∀ (u : Fin 10) (rd a b : Fin 32) (s : State) (c : GwCtx), ReadyFor s u c false 16 →
    Retires (.fdiv u rd a b) s u c (c.take rd (fdiv (c.gr a) (c.gr b))) 16 ∧
    Retires (.fsqrt u rd a) s u c (c.take rd (fsqrt (c.gr a))) 16) ∧
  (∀ (u : Fin 10) (rd a b : Fin 32) (s : State) (c : GwCtx), ReadyFor s u c false 1 →
    Retires (.fmin u rd a b) s u c (c.take rd (fmin (c.gr a) (c.gr b))) 1 ∧
    Retires (.fmax u rd a b) s u c (c.take rd (fmax (c.gr a) (c.gr b))) 1 ∧
    Retires (.fabs u rd a) s u c (c.setG rd (c.gr a &&& 0x7FFFFFFF#32)) 1 ∧
    Retires (.fneg u rd a) s u c (c.setG rd (c.gr a ^^^ 0x80000000#32)) 1) ∧
  (∀ (u : Fin 10) (rd a b d : Fin 32) (s : State) (c : GwCtx), ReadyFor s u c false 3 →
    Retires (.fma u rd a b d) s u c (c.take rd (fma (c.gr a) (c.gr b) (c.gr d))) 3) ∧
  (∀ (u : Fin 10) (rd a b d : Fin 32) (s : State) (c : GwCtx), ReadyFor s u c false 1 →
    Retires (.fclamp u rd a b d) s u c (c.take rd (fclamp (c.gr a) (c.gr b) (c.gr d))) 1) ∧
  (∀ (u : Fin 10) (a b : Fin 32) (s : State) (c : GwCtx), ReadyFor s u c false 1 → ∃ f : Word,
    Retires (.fcmp u a b) s u c { c with flags := f } 1 ∧
    (bit f.toNat 0 = true ↔ feq (c.gr a) (c.gr b) = true) ∧ (bit f.toNat 1 = true ↔ flt (c.gr a) (c.gr b) = true) ∧
    bit f.toNat 2 = false ∧ bit f.toNat 3 = false ∧
    (bit f.toNat 4 = true ↔ fIsNaN (c.gr a) = true ∨ fIsNaN (c.gr b) = true) ∧
    (bit f.toNat 7 = true ↔ bit c.flags.toNat 7 = true ∨ fIsNaN (c.gr a) = true ∨ fIsNaN (c.gr b) = true) ∧
    ∀ i, 5 ≤ i → i < 32 → i ≠ 7 → bit f.toNat i = bit c.flags.toNat i)

/-- Scalar registers (R80): g0 reads 0 and discards writes; a write changes no other register. Vector registers (R77, R81): a write of 64 lanes gives each lane its word and changes no other lane of any register. -/
def Obligations.GwenyRegisters : Prop :=
  (∀ (c : GwCtx) (r : Nat) (w : Word), smWf (fun _ => (0 : Word)) c.g = true →
    c.gr 0 = 0 ∧ (r ≠ 0 → (c.setG r w).gr r = w) ∧ c.setG 0 w = c ∧ (∀ q, q ≠ r → (c.setG r w).gr q = c.gr q) ∧
    smWf (fun _ => (0 : Word)) (c.setG r w).g = true) ∧
  (∀ (c : GwCtx) (r : Nat) (l : List Word), smWf (fun _ => (0 : Word)) c.v = true → l.length = 64 →
    (∀ i, i < 64 → (c.setV r l).lane r i = l.getD i 0) ∧
    (∀ q i, q ≠ r → i < 64 → (c.setV r l).lane q i = c.lane q i) ∧ smWf (fun _ => (0 : Word)) (c.setV r l).v = true)

/-- Loads (R87–R91, R101): a word of the tile window, of the mailbox window as it stood at the boundary, or 0 from the submit window. Stores (R87–R91, R101): a store to the tile window writes the bytes of its words there and no other byte; one to the mailbox or submit
window is held with the sample's outputs; the registers stay. Input ports (R93, R94): the routed source's value as it stood at the boundary, or 0 where no route exists; its qualifier with AGE, VALID and CODE. -/
def Obligations.GwenyMemory : Prop :=
  ((∀ (u : Fin 10) (rd a : Fin 32) (imm : BitVec 16) (s : State) (c : GwCtx), ReadyFor s u c false 2 →
    prismTouches c (c.ea a imm) 4 = false → c.ea a imm % 4 = 0 →
    (c.ea a imm + 4 ≤ c.size → Retires (.lw u rd a imm) s u c (c.setG rd (s.wordAt (c.base + c.ea a imm))) 2) ∧
    (c.size < c.ea a imm + 4 → 0x40000 ≤ c.ea a imm → c.ea a imm < 0x41000 →
      Retires (.lw u rd a imm) s u c (c.setG rd (smGet 0 c.mbx (c.ea a imm - 0x40000))) 2) ∧
    (c.size < c.ea a imm + 4 → 0x41000 ≤ c.ea a imm → c.ea a imm < 0x41100 → Retires (.lw u rd a imm) s u c (c.setG rd 0) 2)) ∧
  (∀ (u : Fin 10) (vd : Fin 8) (a : Fin 32) (imm : BitVec 16) (s : State) (c : GwCtx), ReadyFor s u c true 2 → c.prismIdle →
    c.ea a imm % 64 = 0 → c.ea a imm + 256 ≤ c.size →
    Retires (.lv u vd a imm) s u c (c.setV vd (s.wordsAt (c.base + c.ea a imm) 64)) 2) ∧
  (∀ (u : Fin 10) (vd : Fin 8) (a : Fin 32) (imm : BitVec 16) (s : State) (c : GwCtx), ReadyFor s u c true 16 → c.prismIdle →
    c.port a imm + 63 ≤ 1023 →
    Retires (.vin u vd a imm) s u c (c.setV vd ((List.range 64).map (fun i => ((c.portAt (c.port a imm + i)).map (·.val)).getD 0))) 16)) ∧
  ((∀ (u : Fin 10) (rd a : Fin 32) (imm : BitVec 16) (s : State) (c : GwCtx), ReadyFor s u c false 1 →
    prismTouches c (c.ea a imm) 4 = false → c.ea a imm % 4 = 0 →
    (c.ea a imm + 4 ≤ c.size → Gives (.sw u rd a imm) s (fun t =>
      t.ctx u = some { c with pc := c.pc + 4, budget := c.budget - 1, cyc := c.cyc + 1 } ∧
      OnlyParts [.mem, .gw] s t ∧ OnlyBytes (c.base + c.ea a imm) 4 s t ∧
      (Memory.wf s.mem = true → t.wordAt (c.base + c.ea a imm) = c.gr rd))) ∧
    (c.size < c.ea a imm + 4 → 0x40000 ≤ c.ea a imm → c.ea a imm < 0x41100 →
      Retires (.sw u rd a imm) s u c { c with writes := c.writes ++ [(c.ea a imm, c.gr rd)] } 1)) ∧
  (∀ (u : Fin 10) (vd : Fin 8) (a : Fin 32) (imm : BitVec 16) (s : State) (c : GwCtx), ReadyFor s u c true 2 → c.prismIdle →
    c.ea a imm % 64 = 0 → c.ea a imm + 256 ≤ c.size → Gives (.sv u vd a imm) s (fun t =>
      t.ctx u = some { c with pc := c.pc + 4, budget := c.budget - 2, cyc := c.cyc + 2 } ∧
      OnlyParts [.mem, .gw] s t ∧ OnlyBytes (c.base + c.ea a imm) 256 s t ∧
      (Memory.wf s.mem = true → ∀ i, i < 64 → t.wordAt (c.base + c.ea a imm + 4 * i) = c.lane vd i))) ∧
  (∀ (u : Fin 10) (rd a : Fin 32) (imm : BitVec 16) (s : State) (c : GwCtx), ReadyFor s u c false 1 → c.port a imm ≤ 255 →
    (u.val < 8 → (s.outRoute c.loop (c.port a imm)).isSome) →
    Retires (.out u rd a imm) s u c { c with outs := smPut none c.outs (c.port a imm) (some (c.gr rd)) } 1)) ∧
  (∀ (u : Fin 10) (rd a : Fin 32) (imm : BitVec 16) (s : State) (c : GwCtx), ReadyFor s u c false 2 → c.port a imm ≤ 1023 →
    (c.portAt (c.port a imm) = none →
      Retires (.inPort u rd a imm) s u c (c.setG rd 0) 2 ∧ Retires (.inq u rd a imm) s u c (c.setG rd 0) 2) ∧
    ∀ v, c.portAt (c.port a imm) = some v →
      Retires (.inPort u rd a imm) s u c (c.setG rd v.val) 2 ∧
      ∃ q : Word, Retires (.inq u rd a imm) s u c (c.setG rd q) 2 ∧ bits q.toNat 0 16 = v.code % 65536 ∧ bit q.toNat 16 = v.valid ∧
        (v.tick = none → bits q.toNat 20 12 = 4095) ∧ ∀ x, v.tick = some x → bits q.toNat 20 12 = min 4095 (c.tick - x))

/-- Branches and jumps (R101): taken in 3 cycles to pc + 4 + off × 4 in 32 bits, otherwise 1 cycle and the next word; JAL leaves its return
address in g31, JR goes to its effective address. BFS and BFC wait for the Prism unit, which is idle here. -/
def Obligations.GwenyBranches : Prop :=
  ∀ (u : Fin 10) (a b : Fin 32) (off : BitVec 16) (n : Fin 16) (far : BitVec 26) (s : State) (c : GwCtx), ReadyFor s u c false 3 →
    let near := (BitVec.ofInt 32 ((c.pc : Int) + 4 + off.toInt * 4)).toNat
    let far' := (BitVec.ofInt 32 ((c.pc : Int) + 4 + far.toInt * 4)).toNat
    let goes := fun (i : Instr) (p : Prop) => (p → exec i s = .next (retired s u c c 3 near)) ∧ (¬ p → Retires i s u c c 1)
    goes (.beq u a b off) (c.gr a = c.gr b) ∧ goes (.bne u a b off) (c.gr a ≠ c.gr b) ∧
    goes (.blt u a b off) ((c.gr a).toInt < (c.gr b).toInt) ∧ goes (.bge u a b off) ((c.gr b).toInt ≤ (c.gr a).toInt) ∧
    goes (.bltu u a b off) ((c.gr a).toNat < (c.gr b).toNat) ∧ goes (.bgeu u a b off) ((c.gr b).toNat ≤ (c.gr a).toNat) ∧
    (c.prismIdle → goes (.bfs u n off) (bit c.flags.toNat n = true) ∧ goes (.bfc u n off) (bit c.flags.toNat n = false)) ∧
    exec (.j u far) s = .next (retired s u c c 3 far') ∧
    exec (.jal u far) s = .next (retired s u c (c.setG 31 (BitVec.ofNat 32 (c.pc + 4))) 3 far') ∧
    exec (.jr u a off) s = .next (retired s u c c 3 (BitVec.ofInt 32 ((c.gr a).toInt + off.toInt)).toNat)

/-- Vector instructions (R86, R102): lane by lane or over the lane tree, with the joined sticky flags; no word of memory and no scalar register
but the one named changes. The Prism unit uses none of the registers. -/
def Obligations.GwenyVector : Prop :=
  (∀ (u : Fin 10) (vd va vb : Fin 8) (s : State) (c : GwCtx), ReadyFor s u c true 1 → c.prismIdle →
    Retires (.vadd u vd va vb) s u c (c.takeV vd (lanes3 (fun _ a b => fadd a b) (c.vr vd) (c.vr va) (c.vr vb))) 1 ∧
    Retires (.vsub u vd va vb) s u c (c.takeV vd (lanes3 (fun _ a b => fsub a b) (c.vr vd) (c.vr va) (c.vr vb))) 1 ∧
    Retires (.vmul u vd va vb) s u c (c.takeV vd (lanes3 (fun _ a b => fmul a b) (c.vr vd) (c.vr va) (c.vr vb))) 1 ∧
    Retires (.vmin u vd va vb) s u c (c.takeV vd (lanes3 (fun _ a b => fmin a b) (c.vr vd) (c.vr va) (c.vr vb))) 1 ∧
    Retires (.vmax u vd va vb) s u c (c.takeV vd (lanes3 (fun _ a b => fmax a b) (c.vr vd) (c.vr va) (c.vr vb))) 1 ∧
    Retires (.vclamp u vd va vb) s u c (c.takeV vd (lanes3 fclamp (c.vr vd) (c.vr va) (c.vr vb))) 1) ∧
  (∀ (u : Fin 10) (vd va vb : Fin 8) (s : State) (c : GwCtx), ReadyFor s u c true 2 → c.prismIdle →
    Retires (.vfma u vd va vb) s u c (c.takeV vd (lanes3 (fun d a b => fma a b d) (c.vr vd) (c.vr va) (c.vr vb))) 2) ∧
  (∀ (u : Fin 10) (vd va : Fin 8) (rd a b : Fin 32) (s : State) (c : GwCtx), ReadyFor s u c true 1 → c.prismIdle →
    Retires (.vbcast u vd a) s u c (c.setV vd (List.replicate 64 (c.gr a))) 1 ∧
    Retires (.vext u rd va b) s u c (c.setG rd (c.lane va ((c.gr b).toNat % 64))) 1 ∧
    Retires (.vins u vd a b) s u c (c.setLane vd ((c.gr b).toNat % 64) (c.gr a)) 1) ∧
  (∀ (u : Fin 10) (rd : Fin 32) (va vb : Fin 8) (s : State) (c : GwCtx), ReadyFor s u c true 8 → c.prismIdle →
    Retires (.vred u rd va) s u c (c.take rd (laneTree (c.vr va))) 7 ∧
    Retires (.vdot u rd va vb) s u c (c.take rd (vdot (c.vr va) (c.vr vb))) 8)

/-- System instructions (R79, R82, R103): NOP and PWAIT, the CSRs by number, CSRW of the flags with their reserved bits clear, and ENDS, which
holds the sample's outputs and writes for t + P and starts the next due sample; the words of the spec's examples decode to their instructions
(R97, R98, R109). -/
def Obligations.GwenySystem : Prop :=
  (∀ (u : Fin 10) (s : State) (c : GwCtx), ReadyFor s u c false 1 → Retires (.nop u) s u c c 1) ∧
  (∀ (u : Fin 10) (s : State) (c : GwCtx), ReadyFor s u c true 1 → c.prismIdle → Retires (.pwait u) s u c c 1) ∧
  (∀ (u : Fin 10) (rd a : Fin 32) (s : State) (c : GwCtx), ReadyFor s u c false 1 →
    (c.prismIdle → Retires (.csrr u rd 0) s u c (c.setG rd c.flags) 1 ∧
      Retires (.csrw u 0 a) s u c { c with flags := c.gr a &&& 0x7F9F#32 } 1) ∧
    Retires (.csrr u rd 1) s u c (c.setG rd (BitVec.ofNat 32 c.tick)) 1 ∧
    Retires (.csrr u rd 2) s u c (c.setG rd (BitVec.ofNat 32 c.budget)) 1 ∧
    Retires (.csrr u rd 3) s u c (c.setG rd (BitVec.ofNat 32 (c.loop % 128))) 1 ∧
    Retires (.csrr u rd 4) s u c (c.setG rd (BitVec.ofNat 32 c.period)) 1 ∧
    Retires (.csrr u rd 5) s u c (c.setG rd (BitVec.ofNat 32 (c.mode % 16))) 1 ∧
    Retires (.csrr u rd 6) s u c (c.setG rd (BitVec.ofNat 32 c.cyc)) 1 ∧ Retires (.csrr u rd 8) s u c (c.setG rd c.epc) 1 ∧
    Retires (.csrr u rd 9) s u c (c.setG rd c.cause) 1 ∧ Retires (.csrr u rd 10) s u c (c.setG rd c.faddr) 1) ∧
  (∀ (u : Fin 10) (s : State) (c : GwCtx), ReadyFor s u c false 0 → c.prismIdle → c.handler = false → smWf (fun _ => 0) s.ce.trapRun = true →
    Gives (.ends u) s (fun t =>
      t.ce.held = s.ce.held ++ [({ loop := c.loop, pub := c.tick + c.period, outs := c.outs.filterMap (fun x => x.2.map (fun w => (x.1, w))), valid := true, writes := c.writes } : Held)] ∧
      t.ce.trapRun = smPut 0 s.ce.trapRun c.loop 0 ∧ t.gw.ctx = smPut none s.gw.ctx u (smGet [] s.gw.due u).head? ∧
      OnlyParts [.regs, .ce, .gw] s t)) ∧
  (∀ u : Fin 10, gwDecode u 0#32 = some (.add u 0 0 0) ∧ gwDecode u 0xFFFFFFFF#32 = none ∧
    gwDecode u 0x106C2801#32 = some (.relay u 3 12 5) ∧ gwDecode u 0x108D11C2#32 = some (.plaus u 4 13 2 7) ∧
    gwDecode u 0x90200011#32 = some (.inPort u 1 0 17) ∧ gwDecode u 0x11492980#32 = some (.integ u 10 9 5 6))

/-- Traps (R120, R121): TRAP, an illegal word and an exhausted budget take their cause; the Prism operation and the pending writes are
dropped, epc, cause and faddr are set, and in the next cycle the handler starts with a budget of 256 cycles: at its slot's vector for a loop, at its
image's for a fusion task (R288), whose values of that task turn invalid. An exhausted budget has passed all its cycles. Without a vector the
sample ends. -/
def Obligations.GwenyTraps : Prop :=
  let handler := fun (c : GwCtx) (cause faddr cyc vec : Nat) => some { c with prism := none, epc := BitVec.ofNat 32 c.pc, cause := BitVec.ofNat 32 cause, faddr := BitVec.ofNat 32 faddr, outs := [], writes := [], pc := vec, budget := 256, cyc := cyc, handler := true }
  (∀ (u : Fin 10) (n : Fin 32) (w : Word) (s : State) (c : GwCtx) (e i : Nat), u.val < 8 → s.slotOf c.loop = some (e, i) →
    s.flag (Fd.CE_SLOT_TRAPV_EN e i) = true → c.handler = false →
    let vec := 4 * s.fld (Fd.CE_SLOT_TRAPV_VECTOR e i)
    (ReadyFor s u c false 0 → Gives (.trap u n) s (fun t =>
      t.ctx u = handler c 0x07 n (c.cyc + 1) vec ∧ LogsOnly [.regs, .gw, .evr, .tab, .rpl] s t)) ∧
    (ReadyFor s u c false 0 → gwLegal w = false → Gives (.illegalInstruction u w) s (fun t =>
      t.ctx u = handler c 0x01 (c.pc % 2 ^ 32) (c.cyc + 1) vec ∧ LogsOnly [.regs, .gw, .evr, .tab, .rpl] s t)) ∧
    (s.ctx u = some c → c.prismIdle → Gives (.budgetTrap u) s (fun t =>
      t.ctx u = handler c 0x06 0 (c.cyc + c.budget + 1) vec ∧ LogsOnly [.regs, .gw, .evr, .tab, .rpl] s t))) ∧
  (∀ (n : Fin 32) (w : Word) (s : State) (c : GwCtx), c.handler = false → ReadyFor s 8 c false 0 →
    Gives (.trap 8 n) s (fun t => t.ctx 8 = handler c 0x07 n (c.cyc + 1) (4 * Config.imageVector c.loop) ∧
      LogsOnly [.regs, .gw, .stage, .evr, .tab, .rpl] s t) ∧
    (gwLegal w = false → Gives (.illegalInstruction 8 w) s (fun t =>
      t.ctx 8 = handler c 0x01 (c.pc % 2 ^ 32) (c.cyc + 1) (4 * Config.imageVector c.loop) ∧ LogsOnly [.regs, .gw, .stage, .evr, .tab, .rpl] s t))) ∧
  (∀ (u : Fin 10) (n : Fin 32) (s : State) (c : GwCtx), u.val < 8 → ReadyFor s u c false 0 →
    (s.slotOf c.loop = none ∨ (∃ e i, s.slotOf c.loop = some (e, i) ∧ s.flag (Fd.CE_SLOT_TRAPV_EN e i) = false)) →
    Gives (.trap u n) s (fun t => t.gw.ctx = smPut none s.gw.ctx u (smGet [] s.gw.due u).head? ∧
      t.ce.trapRun = smPut 0 s.ce.trapRun c.loop (smGet 0 s.ce.trapRun c.loop + 1)))

/-- The Prism unit (R104–R108): PMV starts a checked descriptor with x and b as they are, which completes ROWS × ⌈COLS / 64⌉ + 12 cycles later; at its
completion the rows not yet formed are formed from A as it is then, y goes to its words in memory, or to its vector register, and the flags of its
rows are joined. -/
def Obligations.PrismUnit : Prop :=
  (∀ (u : Fin 10) (a : Fin 32) (imm : BitVec 16) (s : State) (c : GwCtx), ReadyFor s u c true 1 → c.prismIdle →
    c.ea a imm % 32 = 0 → c.ea a imm + 32 ≤ c.size →
    let d := pmvDesc (s.wordsAt (c.base + c.ea a imm) 8)
    pmvBad d = false → pmvMisaligned d = none → pmvOutside c.size d = none →
    ∃ p : Prism, Retires (.pmv u a imm) s u c { c with prism := some p } 1 ∧ p.doneAt = c.cyc + d.rows * ((d.cols + 63) / 64) + 12 ∧
      p.yAddr = (if d.yreg then none else some d.y) ∧ p.yv = d.yv ∧ p.y = [] ∧ p.flags = 0 ∧ p.a = d.a ∧ p.stride = d.stride ∧ p.cols = d.cols ∧
      p.rows = d.rows ∧ p.x = (if d.xreg then (c.vr d.xv).take d.cols else s.wordsAt (c.base + d.x) d.cols) ∧
      p.b = (if d.acc || d.sub then some (d.sub, s.wordsAt (c.base + d.b) d.rows) else none)) ∧
  (∀ (u : Fin 10) (s : State) (c : GwCtx) (p : Prism), s.ctx u = some c → c.prism = some p → p.doneAt ≤ c.cyc →
    let rest := List.range' p.y.length (p.rows - p.y.length)
    let y := p.y ++ rest.map (fun r => (prismRow s c p r).val)
    let fl := rest.foldl (fun w r => w ||| BitVec.ofNat 32 ((prismRow s c p r).fl &&& 0x680)) p.flags
    (∀ a, p.yAddr = some a → exec (.prismComplete u) s =
      .next ((s.setWords (c.base + a) y).setCtx u (some { c with prism := none, flags := c.flags ||| fl }))) ∧
    (p.yAddr = none → exec (.prismComplete u) s =
      .next (s.setCtx u (some (({ c with prism := none, flags := c.flags ||| fl } : GwCtx).setV p.yv y)))))

/-- Control primitives (R109–R119) on a block that is aligned and inside the tile window: PLAUS returns the deviation, counts it against its
confirmation and trips once; INTEG with valid limits returns its limited output and stores the accumulator; RELAY that runs counts its sample and
returns U0 plus or minus D by its sign, and one that does not run, or may not run in the present mode, returns U0. They cost 8, 12 and 14 cycles and touch only their block. -/
def Obligations.ControlPrimitives : Prop :=
  (∀ (u : Fin 10) (rd a b d : Fin 32) (s : State) (c : GwCtx), ReadyFor s u c false 8 → c.prismIdle →
    (c.gr a).toNat % 32 = 0 → (c.gr a).toNat + 32 ≤ c.size →
    let blk := c.base + (c.gr a).toNat
    let dev := fabs (fsub (c.gr b) (c.gr d)).val
    let conf := max 1 (s.wordAt (blk + 0x04)).toNat
    let cnt := if fIsNaN dev || flt (s.wordAt blk) dev then min ((s.wordAt (blk + 0x08)).toNat + 1) conf else 0
    Gives (.plaus u rd a b d) s (fun t =>
      OnlyParts [.mem, .gw, .regs, .evr, .tab, .rpl] s t ∧ (cnt < conf → OnlyParts [.mem, .gw] s t) ∧
      (s.rpl.live = none ∨ cnt < conf → OnlyBytes blk 32 s t ∧ (Memory.wf s.mem = true → t.wordAt (blk + 0x08) = BitVec.ofNat 32 cnt)) ∧
      ∃ c', t.ctx u = some c' ∧ c'.g = (c.setG rd dev).g ∧ c'.pc = c.pc + 4 ∧ c'.budget = c.budget - 8)) ∧
  (∀ (u : Fin 10) (rd a b d : Fin 32) (s : State) (c : GwCtx), ReadyFor s u c false 12 → c.prismIdle →
    (c.gr a).toNat % 32 = 0 → (c.gr a).toNat + 32 ≤ c.size →
    let blk := c.base + (c.gr a).toNat
    let w := fun (k : Nat) => s.wordAt (blk + k)
    integBad (w 0x08) (w 0x0C) (w 0x10) (w 0x14) = false →
    let r := integ (w 0x00) (w 0x04) (w 0x08) (w 0x0C) (w 0x10) (w 0x14) (bit (w 0x18).toNat 0) c.priv (c.gr b) (c.gr d)
    Gives (.integ u rd a b d) s (fun t =>
      OnlyParts [.mem, .gw] s t ∧ OnlyBytes blk 32 s t ∧ (Memory.wf s.mem = true → t.wordAt blk = r.acc) ∧
      ∃ c', t.ctx u = some c' ∧ c'.g = (c.setG rd r.out).g ∧ c'.flagBit 11 = r.sat ∧ c'.pc = c.pc + 4 ∧ c'.budget = c.budget - 12)) ∧
  (∀ (u : Fin 10) (rd a b : Fin 32) (s : State) (c : GwCtx), ReadyFor s u c true 14 → c.prismIdle →
    (c.gr a).toNat % 64 = 0 → (c.gr a).toNat + 64 ≤ c.size →
    let blk := c.base + (c.gr a).toNat
    let run := bit (s.wordAt (blk + 0x14)).toNat 31
    (run = false → Retires (.relay u rd a b) s u c (c.setG rd (s.wordAt (blk + 0x08))) 14) ∧
    (run = true → c.mode ≠ Mode.service → c.mode ≠ Mode.fieldManual → Gives (.relay u rd a b) s (fun t =>
      OnlyParts [.mem, .gw] s t ∧ OnlyBytes (blk + 0x14) 4 s t ∧
      (Memory.wf s.mem = true → bit (t.wordAt (blk + 0x14)).toNat 31 = false ∧ bit (t.wordAt (blk + 0x14)).toNat 28 = true) ∧
      ∃ c', t.ctx u = some c' ∧ c'.g = (c.setG rd (s.wordAt (blk + 0x08))).g ∧ c'.flagBit 13 = true ∧ c'.budget = c.budget - 14)) ∧
    (run = true → c.mode = Mode.service ∨ c.mode = Mode.fieldManual → Gives (.relay u rd a b) s (fun t =>
      let w := fun (k : Nat) => s.wordAt (blk + k)
      let r := relayStep (w 0x00) (w 0x04) (min 16 (max 2 (w 0x0C).toNat)) (w 0x10).toNat (c.gr b) (relayLoad w)
      OnlyParts [.mem, .gw] s t ∧ OnlyBytes (blk + 0x14) 32 s t ∧
      (Memory.wf s.mem = true → t.wordAt (blk + 0x18) = w 0x18 + 1 ∧ bit (t.wordAt (blk + 0x14)).toNat 31 = r.run) ∧
      ∃ c', t.ctx u = some c' ∧ c'.budget = c.budget - 14 ∧
        c'.g = (c.setG rd (if !r.run then w 0x08 else if r.sign then (fadd (w 0x08) (w 0x00)).val else (fsub (w 0x08) (w 0x00)).val)).g)))

/-! ### Loops, migration and engines (R123–R157) -/

/-- Loops (R92, R130–R134, R140, R142, R144). A command is held for the next frame boundary with its result pending, or REFUSED while one of the loop
is pending. At the boundary START makes an eligible loop STARTING, STOP a running one STOPPED, DISABLE DISABLING, and UNLOAD empties the slot and zeroes
its window; a copy of a LOAD leaves the loop LOADED with its ports not valid; a disable is done once every port is at SAFE and all work has retired; an
error on a delivered write is recorded and kept for the loop's next sample. -/
def Obligations.Loops : Prop :=
  (∀ (e : Fin 8) (loop win : Fin 128) (s : State), s.canonical →
    let asks := fun (c : Instr) (cmd w : Nat) =>
      (s.replaying = false → loopBusy s loop = false → Gives c s (fun t =>
        t.ce = { s.ce with cmds := smPut none s.ce.cmds loop (some { cmd := cmd, win := w, via := e.val }) } ∧
        smGet none t.ce.cmds loop = some { cmd := cmd, win := w, via := e.val } ∧
        t.fld (Fd.CE_CMD_RESULT_CODE e) = Code.ok ∧ t.flag (Fd.CE_CMD_RESULT_PENDING e) = true ∧ t.fld (Fd.CE_CMD_RESULT_LOOP e) = loop.val ∧
        OnlyRegs [Ra.CE_CMD_RESULT e] s t ∧ OnlyParts [.regs, .ce] s t)) ∧
      (s.replaying = true ∨ loopBusy s loop = true → Gives c s (fun t => t.fld (Fd.CE_CMD_RESULT_CODE e) = Code.refused ∧
        t.flag (Fd.CE_CMD_RESULT_PENDING e) = s.flag (Fd.CE_CMD_RESULT_PENDING e) ∧ OnlyRegs (Ra.CE_CMD_RESULT e :: captureRegs) s t ∧
        OnlyParts [.regs, .tab] s t))
    asks (.loopLoad e loop win) 1 win ∧ asks (.loopStart e loop) 2 0 ∧ asks (.loopStop e loop) 3 0 ∧ asks (.loopDisable e loop) 4 0 ∧
    asks (.loopUnload e loop) 5 0) ∧
  (∀ (s : State) (loop e i via : Nat), s.canonical → via < 8 → s.slotOf loop = some (e, i) →
    let at_ := fun (cmd : Nat) => acceptLoopCmd s loop { cmd := cmd, win := 0, via := via }
    let code := fun (t : State) => t.fld (Fd.CE_CMD_RESULT_CODE via)
    (s.fld (Fd.CE_SLOT_CFG_MF e i) = 0 → startCode s loop = Code.ok →
      (at_ 2).slotState e i = SlotSt.starting ∧ (at_ 2).flag (Fd.CE_SLOT_STATUS_DISABLE_DONE e i) = false ∧
      (at_ 2).fld (Fd.CE_SLOT_STATUS_STOP_WHY e i) = 0 ∧ code (at_ 2) = Code.ok ∧ OnlyParts [.regs, .ce, .yld, .tab, .rpl] s (at_ 2)) ∧
    (s.fld (Fd.CE_SLOT_CFG_MF e i) ≠ 0 → code (at_ 2) = Code.refused ∧ (at_ 2).slotState e i = s.slotState e i) ∧
    (s.fld (Fd.CE_SLOT_CFG_MF e i) = 0 → startCode s loop ≠ Code.ok → (at_ 2).slotState e i = s.slotState e i) ∧
    (s.slotState e i ∈ [SlotSt.running, SlotSt.starting, SlotSt.disabling] → (at_ 3).slotState e i = SlotSt.stopped ∧
      (at_ 3).fld (Fd.CE_SLOT_STATUS_STOP_WHY e i) = 1 ∧ code (at_ 3) = Code.ok) ∧
    (s.slotState e i ∉ [SlotSt.running, SlotSt.starting, SlotSt.disabling] → (at_ 3).slotState e i = s.slotState e i ∧ code (at_ 3) = Code.refused) ∧
    (s.slotState e i ∈ [SlotSt.running, SlotSt.starting] → (at_ 4).slotState e i = SlotSt.disabling ∧ code (at_ 4) = Code.ok) ∧
    (s.slotState e i ∉ [SlotSt.running, SlotSt.starting] → (at_ 4).slotState e i = s.slotState e i ∧ code (at_ 4) = Code.refused) ∧
    (s.slotState e i ∈ [SlotSt.loaded, SlotSt.disabled, SlotSt.stopped] → (at_ 5).slotValid e i = false ∧ code (at_ 5) = Code.ok ∧
      (∀ k, k < 4096 * s.fld (Fd.CE_SLOT_WIN_SIZE e i) → (at_ 5).byteAt (winAddr e (s.fld (Fd.CE_SLOT_WIN_BASE e i)) + k) = 0) ∧
      (∀ x ∈ (at_ 5).ce.rtOut, rtLoop x.2 ≠ loop) ∧ (∀ x ∈ (at_ 5).ce.rtIn, rtLoop x.2 ≠ loop) ∧
      OnlyBytes (winAddr e (s.fld (Fd.CE_SLOT_WIN_BASE e i))) (4096 * s.fld (Fd.CE_SLOT_WIN_SIZE e i)) s (at_ 5)) ∧
    (s.slotState e i ∉ [SlotSt.loaded, SlotSt.disabled, SlotSt.stopped] → code (at_ 5) = Code.refused ∧ (at_ 5).slotState e i = s.slotState e i)) ∧
  (∀ (loop : Fin 128) (fault : Bool) (s : State), s.canonical →
    (s.ce.copies.find? (fun c => c.loop == loop.val) = none → Idle (.loadCopyComplete loop fault) s) ∧
    (s.atFrame = false → Idle (.loadCopyComplete loop fault) s) ∧
    (∀ x, s.ce.copies.find? (fun c => c.loop == loop.val) = some x → x.eng < 8 → x.slot < 16 → x.via < 8 → x.base < 64 → x.win ≤ 64 →
      s.atFrame = true → x.at_ < s.clk.tick →
      (x.fault = false → Gives (.loadCopyComplete loop false) s (fun t => t.slotState x.eng x.slot = SlotSt.loaded ∧ t.slotValid x.eng x.slot = true ∧
        t.slotLoop x.eng x.slot = loop.val ∧ t.fld (Fd.CE_SLOT_WIN_BASE x.eng x.slot) = x.base ∧ t.fld (Fd.CE_SLOT_WIN_SIZE x.eng x.slot) = x.win ∧
        (∀ r ∈ s.outRoutes loop, (t.pubAt (portKey loop (rtOutPort r))).valid = false) ∧ t.ce = { s.ce with copies := s.ce.copies.erase x } ∧
        t.fld (Fd.CE_CMD_RESULT_CODE x.via) = Code.ok ∧ t.flag (Fd.CE_CMD_RESULT_PENDING x.via) = false ∧
        OnlyParts [.regs, .pub, .ce, .gov, .yld, .tab, .rpl] s t)) ∧
      Gives (.loadCopyComplete loop true) s (fun t => t.fld (Fd.CE_CMD_RESULT_CODE x.via) = Code.fault ∧
        t.flag (Fd.CE_CMD_RESULT_PENDING x.via) = false ∧ t.ce = { s.ce with copies := s.ce.copies.erase x } ∧
        OnlyRegs [Ra.CE_CMD_RESULT x.via] s t ∧ OnlyParts [.regs, .ce] s t))) ∧
  (∀ (loop : Fin 128) (s : State), s.canonical →
    (s.slotOf loop = none → Idle (.loopDisableDone loop) s) ∧
    (∀ e i, s.slotOf loop = some (e, i) →
      (s.slotState e i = SlotSt.disabling → (∃ x, smGet none s.ce.disAt loop = some x ∧ x ≤ s.clk.tick) → portsSafe s loop = true →
        dmaQuiet s loop = true → canQuiet s loop = true → Gives (.loopDisableDone loop) s (fun t => t.slotState e i = SlotSt.disabled ∧
          t.flag (Fd.CE_SLOT_STATUS_DISABLE_DONE e i) = true ∧ OnlyParts [.regs] s t)) ∧
      (s.slotState e i ≠ SlotSt.disabling ∨ portsSafe s loop = false ∨ dmaQuiet s loop = false ∨ canQuiet s loop = false →
        Idle (.loopDisableDone loop) s))) ∧
  (∀ (loop : Fin 128) (addr : BitVec 40) (kind : Fin 4) (s : State),
    (s.slotOf loop = none → Idle (.deliveredWriteFault loop addr kind) s) ∧
    (∀ e i, s.slotOf loop = some (e, i) → Gives (.deliveredWriteFault loop addr kind) s (fun t =>
      smGet none t.gw.dwf loop = some (addr.toNat % 2 ^ 32) ∧ (∀ a, t.reg a = (fabErr s (Src.ce0 + e) addr.toNat kind).reg a) ∧
      OnlyParts [.regs, .gw] s t)))

/-- Migration, engines and routes (R132, R135, R137, R138, R146, R147, R149, R150, R152–R156). A request is held with its status pending, or REFUSED; a
fetched image waits for its frame; the cut makes the source MIGRATING and the copy makes the destination RUNNING with the window's bytes; REMOVE and
RETURN need their key; a removed engine is OFFLINE and the spare is used up; a march test decides ONLINE or OFFLINE; an uncorrectable error stops its
loop with STOP_WHY 4 and a hang fails its engine, which is evacuated or stopped; a route is read as last written, and a write that passes its checks
waits for the frame boundary. -/
def Obligations.Migration : Prop :=
  (∀ (e dest : Fin 8) (loop : Fin 128) (budget : Half) (s : State), s.canonical →
    let asks := fun (c : Instr) (rep : Bool) (b : Nat) =>
      (s.replaying = false → loopBusy s loop = false → Gives c s (fun t =>
        t.ce = { s.ce with migs := s.ce.migs ++ [{ loop := loop, dest := dest, replace := rep, budget := b, via := e }] } ∧
        t.flag (Fd.CE_MIG_STAT_PENDING e) = true ∧ t.fld (Fd.CE_MIG_STAT_LOOP e) = loop.val ∧ t.fld (Fd.CE_MIG_STAT_DEST e) = dest.val ∧
        OnlyRegs [Ra.CE_MIG_STAT e] s t ∧ OnlyParts [.regs, .ce] s t)) ∧
      (s.replaying = true ∨ loopBusy s loop = true → Gives c s (fun t => t.fld (Fd.CE_MIG_STAT_CODE e) = Code.refused ∧
        t.flag (Fd.CE_MIG_STAT_PENDING e) = s.flag (Fd.CE_MIG_STAT_PENDING e) ∧ OnlyRegs (Ra.CE_MIG_STAT e :: captureRegs) s t ∧
        OnlyParts [.regs, .tab] s t))
    asks (.migrateMove e dest loop) false 0 ∧ asks (.migrateReplace e dest loop budget) true budget.toNat) ∧
  (∀ (loop : Fin 128) (fault : Bool) (s : State),
    (migIn s loop 1 = none → Idle (.replaceFetchComplete loop fault) s ∧ Idle (.migrationCut loop) s) ∧
    (migIn s loop 2 = none → Idle (.migrationCopyComplete loop) s) ∧
    (∀ m, migIn s loop 1 = some m →
      (m.fetched = true → Idle (.replaceFetchComplete loop fault) s) ∧
      (m.fetched = false → fault = true ∨ m.bad = true → exec (.replaceFetchComplete loop fault) s = .next (migEnd s m Code.fault 0)) ∧
      (m.fetched = false → fault = false → m.bad = false → exec (.replaceFetchComplete loop fault) s =
        .next (setMig s m { m with fetched := true, from_ := (s.clk.tick / 200 + 1) * 200 })))) ∧
  (∀ (loop : Fin 128) (s : State) (m : Mig), s.canonical → migIn s loop 1 = some m → m.src < 8 → m.srcSlot < 16 → m.via < 8 →
    (s.slotState m.src m.srcSlot = SlotSt.stopped → m.remove = false → exec (.migrationCut loop) s = .next (migEnd s m Code.refused 0)) ∧
    (s.slotState m.src m.srcSlot = SlotSt.stopped → m.remove = true →
      exec (.migrationCut loop) s = .next (refreshEngines (copyLoop (migEnd s m 0 0) m.src m.srcSlot m.dest))) ∧
    (s.slotState m.src m.srcSlot ≠ SlotSt.stopped →
      (m.tc.isSome = true → sampleEnded s loop = true → Gives (.migrationCut loop) s (fun t => t.slotState m.src m.srcSlot = SlotSt.migrating ∧
        t.ce = { s.ce with migs := s.ce.migs.map (fun x => if x = m then { m with phase := 2 } else x) } ∧
        (m.remove = false → t.fld (Fd.CE_MIG_STAT_PHASE m.via) = 2) ∧
        (∀ n ∈ loopChannels s loop, (t.dch n).paused = true ∧ (t.dch n).run = (s.dch n).run) ∧ OnlyParts [.regs, .ce, .dma] s t)) ∧
      (m.tc = none ∨ sampleEnded s loop = false → Idle (.migrationCut loop) s))) ∧
  (∀ (loop : Fin 128) (s : State) (m : Mig), s.canonical → migIn s loop 2 = some m → m.src < 8 → m.srcSlot < 16 → m.dest < 8 → m.dstSlot < 16 →
    m.via < 8 → m.dstBase < 64 → ¬ (m.src = m.dest ∧ m.srcSlot = m.dstSlot) →
    s.clk.tick < m.tc.getD 0 + s.fld (Fd.CE_SLOT_SCHED_PERIOD m.src m.srcSlot) → Gives (.migrationCopyComplete loop) s (fun t =>
      let w := 4096 * s.fld (Fd.CE_SLOT_WIN_SIZE m.src m.srcSlot)
      let a := winAddr m.src (s.fld (Fd.CE_SLOT_WIN_BASE m.src m.srcSlot))
      let b := winAddr m.dest m.dstBase
      t.slotState m.dest m.dstSlot = SlotSt.running ∧ t.slotLoop m.dest m.dstSlot = s.slotLoop m.src m.srcSlot ∧
      t.fld (Fd.CE_SLOT_WIN_BASE m.dest m.dstSlot) = m.dstBase ∧
      t.fld (Fd.CE_SLOT_BUDGET_BUDGET m.dest m.dstSlot) = migBudget s m m.src m.srcSlot % 65536 ∧
      (m.replace = false → (a + w ≤ b ∨ b + w ≤ a) → ∀ k, k < w → t.byteAt (b + k) = s.byteAt (a + k)) ∧
      (m.replace = false → OnlyBytes b w s t) ∧
      t.ce = { s.ce with migs := s.ce.migs.map (fun x => if x = m then { m with phase := 3 } else x) } ∧ OnlyParts [.regs, .mem, .ce, .dma] s t)) ∧
  (∀ (e : Fin 8) (key : Half) (s : State), s.canonical →
    (key.toNat ≠ 0x6E1D → Idle (.engineRemove e key) s ∧ Idle (.engineReturn e key) s) ∧
    (key.toNat = 0x6E1D →
      let asks := fun (c : Instr) (cmd : Nat) =>
        (s.replaying = false → smGet 0 s.ce.engCmds e = 0 → Gives c s (fun t => t.ce = { s.ce with engCmds := smPut 0 s.ce.engCmds e cmd } ∧
          smGet 0 t.ce.engCmds e = cmd ∧ t.flag (Fd.CE_CMD_RESULT_PENDING e) = true ∧ OnlyRegs [Ra.CE_CMD_RESULT e] s t ∧
          OnlyParts [.regs, .ce] s t)) ∧
        (s.replaying = true ∨ smGet 0 s.ce.engCmds e ≠ 0 → Gives c s (fun t => t.fld (Fd.CE_CMD_RESULT_CODE e) = Code.refused ∧
          t.flag (Fd.CE_CMD_RESULT_PENDING e) = s.flag (Fd.CE_CMD_RESULT_PENDING e) ∧ OnlyRegs (Ra.CE_CMD_RESULT e :: captureRegs) s t ∧
          OnlyParts [.regs, .tab] s t))
      asks (.engineRemove e key) 1 ∧ asks (.engineReturn e key) 2)) ∧
  (∀ (e : Fin 8) (s : State), s.canonical →
    (smGet false s.ce.removing e = true → removeCopied s e = true → Gives (.removeComplete e) s (fun t => t.engState e = engOffline ∧ t.spare = 0xF ∧
      (smGet 0 s.ce.engCmds e = 5 → t.ce = { s.ce with
        removing := smPut false s.ce.removing e false,
        engCmds := smPut 0 s.ce.engCmds e 3 }) ∧
      (smGet 0 s.ce.engCmds e ≠ 5 → t.ce = { s.ce with
          removing := smPut false s.ce.removing e false,
          stored := t.ce.stored,
          stEng := (List.range 8).map (fun x => if t.engState x = engTesting then engOffline else t.engState x) } ∧
        ∀ x ∈ t.ce.stored, t.ce.migs.any (fun m => m.loop == x.loop && decide (1 ≤ m.phase)) = false →
          ∀ y, t.slotOf x.loop = some y → (x.eng, x.slot) = y) ∧
      (∀ x, x < 8 → x ≠ e.val → t.engState x = s.engState x) ∧ OnlyParts [.regs, .ce] s t)) ∧
    (smGet false s.ce.removing e = false ∨ removeCopied s e = false → Idle (.removeComplete e) s)) ∧
  (∀ (e : Fin 8) (pass : Bool) (s : State), s.canonical →
    (s.engState e = engTesting → Gives (.marchTestEnd e pass) s (fun t => t.engState e = (if pass then engOnline else engOffline) ∧
      t.spare = (if pass ∧ s.spare = 0xF then e.val else s.spare) ∧ t.ce.engCmds = smPut 0 s.ce.engCmds e 0 ∧
      t.fld (Fd.CE_CMD_RESULT_CODE e) = (if pass then Code.ok else Code.refused) ∧ t.flag (Fd.CE_CMD_RESULT_PENDING e) = false ∧
      OnlyParts [.regs, .ce] s t)) ∧
    (s.engState e ≠ engTesting → Idle (.marchTestEnd e pass) s)) ∧
  (∀ (eng : Fin 16) (s : State), s.canonical →
    (eng.val = 15 ∨ (eng.val < 8 ∧ s.engState eng = engOnline ∧ s.engSlots eng = []) → Gives (.spareDesignate eng) s (fun t => t.spare = eng.val ∧
      (∀ x, x < 8 → t.flag (Fd.CE_ENG_STAT_SPARE x) = decide (x = eng.val)) ∧ OnlyParts [.regs] s t)) ∧
    (¬ (eng.val = 15 ∨ (eng.val < 8 ∧ s.engState eng = engOnline ∧ s.engSlots eng = [])) →
      exec (.spareDesignate eng) s = .next (s.setFlag (Fd.CE_SET_STAT_SPARE_ERR 0) true))) ∧
  (∀ (e : Fin 8) (addr : Fin 262144) (s : State), s.canonical →
    (slotAt s e addr = none → Idle (.tileUe e addr) s) ∧
    (∀ i, slotAt s e addr = some i →
      let loop := s.slotLoop e i
      Gives (.tileUe e addr) s (fun t =>
        (migOpen s loop = none → t.slotState e i = SlotSt.stopped ∧ t.fld (Fd.CE_SLOT_STATUS_STOP_WHY e i) = 4) ∧
        (∀ m, migOpen s loop = some m → t.ce.migs = s.ce.migs.erase m ∧
          (m.src = e.val → m.srcSlot = i → ¬ (m.dest = e.val ∧ m.dstSlot = i) → t.slotState e i = SlotSt.stopped ∧
            t.fld (Fd.CE_SLOT_STATUS_STOP_WHY e i) = 4) ∧
          (m.src < 8 → m.srcSlot < 16 → ¬ (m.src = e.val ∧ m.srcSlot = i) → ¬ (m.dest = m.src ∧ m.dstSlot = m.srcSlot) → 2 ≤ m.phase →
            t.slotState m.src m.srcSlot = SlotSt.running)) ∧
        t.flag (Fd.CE_ENG_FAULT_UE e) = true ∧ t.fld (Fd.CE_ENG_FAULT_UE_LOOP e) = loop ∧
        t.engState e = (if s.engState e = engOnline then engDegraded else s.engState e) ∧
        t.ce.evac = (if evacOk t e then smPut false s.ce.evac e true else s.ce.evac) ∧
        (migOpen s loop = none → LogsOnly [.regs, .stage, .gw, .ce, .dma, .evr, .tab, .rpl] s t) ∧
        OnlyParts [.regs, .mem, .stage, .gw, .ce, .dma, .evr, .tab, .rpl] s t))) ∧
  (∀ (e : Fin 8) (s : State), s.canonical →
    let ask := s.ce.evac
    (smGet false ask e = false ∨ s.framePend = false ∨ s.rpl.live.isSome = true → Idle (.engEvac e) s) ∧
    (smGet false ask e = true → s.framePend = true → s.rpl.live = none →
      (removeRefused s e = true → Gives (.engEvac e) s (fun t => t.ce = { s.ce with evac := smPut false ask e false } ∧
        OnlyRegs captureRegs s t ∧ OnlyParts [.regs, .ce, .tab] s t)) ∧
      (removeRefused s e = false → Gives (.engEvac e) s (fun t => smGet false t.ce.removing e = true ∧
        t.ce.evac = smPut false ask e false ∧ OnlyParts [.regs, .mem, .ce, .evr, .tab] s t)))) ∧
  (∀ (e : Fin 8) (s : State), s.canonical → s.ce.migs = [] →
    (refreshSet s).flag (Fd.CE_SET_STAT_SPARE_OK 0) = s.flag (Fd.CE_SET_STAT_SPARE_OK 0) →
    (s.ctx e = none → Idle (.engineHang e) s) ∧
    ((s.ctx e).isSome = true → Gives (.engineHang e) s (fun t => t.engState e = engFailed ∧ t.flag (Fd.CE_ENG_FAULT_HANG e) = true ∧
      t.gw = { s.gw with ctx := smPut none s.gw.ctx e none, due := smPut [] s.gw.due e [] } ∧
      (evacOk s e = true → t.spare = 0xF ∧ t.engSlots e = []) ∧
      (evacOk s e = false → t.spare = s.spare ∧ ∀ i ∈ s.engSlots e, s.slotState e i ∈ [SlotSt.running, SlotSt.starting, SlotSt.disabling] →
        t.slotState e i = SlotSt.stopped ∧ t.fld (Fd.CE_SLOT_STATUS_STOP_WHY e i) = 5) ∧
      OnlyParts [.regs, .mem, .stage, .gw, .ce, .dma, .evr, .tab, .rpl] s t))) ∧
  (∀ s : State, s.canonical →
    let i := rtSelIdx s
    (rtSelOut s = true → 1023 < i → exec .routeRead s = .next (s.setFld (Fd.CE_RT_CMD_RESULT 0) Code.badArgument)) ∧
    (rtSelOut s = false ∨ i ≤ 1023 → Gives .routeRead s (fun t => t.fld (Fd.CE_RT_CMD_RESULT 0) = Code.ok ∧
      (∀ k, k < 4 → t.reg (Ra.CE_RT_DATA 0 k) = (rtWritten s (rtSelOut s) i).getD k 0) ∧
      OnlyRegs [Ra.CE_RT_DATA 0 0, Ra.CE_RT_DATA 0 1, Ra.CE_RT_DATA 0 2, Ra.CE_RT_DATA 0 3, Ra.CE_RT_CMD 0] s t ∧ OnlyParts [.regs] s t)) ∧
    (let e := rtData s (rtSelOut s)
      let code := rtCode s (rtSelOut s) i e
      (code ≠ Code.ok → Gives .routeWrite s (fun t => t.fld (Fd.CE_RT_CMD_RESULT 0) = code ∧ OnlyRegs (Ra.CE_RT_CMD 0 :: captureRegs) s t ∧
        OnlyParts [.regs, .tab] s t)) ∧
      (code = Code.ok → Gives .routeWrite s (fun t => t.fld (Fd.CE_RT_CMD_RESULT 0) = Code.ok ∧ rtWritten t (rtSelOut s) i = rtNorm e ∧
        t.ce.rtIn = s.ce.rtIn ∧ t.ce.rtOut = s.ce.rtOut ∧ OnlyRegs (Ra.CE_RT_CMD 0 :: captureRegs) s t ∧ OnlyParts [.regs, .ce, .tab] s t))))

/-- Machine functions, the governor and the yield store (R186, R188, R189, R197, R199, R200, R201, R221, R224). Enabling a function needs its mode and
a loop; its loops start at a frame boundary, or the function is DISABLED again with the code recorded; disabling ramps, issues DISABLE and is done when no
loop runs. The band changes after 100 samples, GOVHOLD sets for a CRIT slot, a message to the governor waits for its sample, which takes or refuses the references as a whole, and a yield record is stored
once and acknowledged. -/
def Obligations.MachineFunctions : Prop :=
  (∀ (n : Fin 30) (s : State), s.canonical →
    (s.mfState n = mfDisabling → exec (.mfEnable n) s = .next (fnReq s n Code.refused)) ∧
    (s.mfState n = mfEnabling ∨ s.mfState n = mfEnabled → Idle (.mfEnable n) s) ∧
    (s.mfState n = mfDisabled → mfModeOk s.bndMode n = false ∨ mfLoops s n = [] →
      exec (.mfEnable n) s = .next (fnReq (s.setFlag (Fd.MFP_MF_CTL_EN n) false) n Code.refused)) ∧
    (s.mfState n = mfDisabled → mfModeOk s.bndMode n = true → mfLoops s n ≠ [] → Gives (.mfEnable n) s (fun t =>
      t.flag (Fd.MFP_MF_CTL_EN n) = true ∧ t.mfState n = mfEnabling ∧ t.flag (Fd.MFP_MF_STAT_DISABLE_DONE n) = false ∧
      t.mfp = { s.mfp with fn := smPut {} s.mfp.fn n { s.mf n with started := false, disIssued := false } } ∧
      OnlyRegs [Ra.MFP_MF_CTL n, Ra.MFP_MF_STAT n] s t ∧ OnlyParts [.regs, .mfp] s t)) ∧
    (s.mfState n = mfEnabling ∨ s.mfState n = mfEnabled → Gives (.mfDisable n) s (fun t => t.flag (Fd.MFP_MF_CTL_EN n) = false ∧
      t.mfState n = mfDisabling ∧ t.flag (Fd.MFP_MF_STAT_DISABLE_DONE n) = false ∧
      t.mfp = { s.mfp with fn := smPut {} s.mfp.fn n { s.mf n with disIssued := false } } ∧
      OnlyRegs [Ra.MFP_MF_CTL n, Ra.MFP_MF_STAT n] s t ∧ OnlyParts [.regs, .mfp] s t)) ∧
    (s.mfState n = mfDisabled ∨ s.mfState n = mfDisabling → exec (.mfDisable n) s = .next (s.setFlag (Fd.MFP_MF_CTL_EN n) false))) ∧
  (∀ (n : Fin 30) (s : State), s.canonical →
    (s.mfState n ≠ mfEnabling ∨ (s.mf n).started = true ∨ s.atFrame = false → Idle (.mfEnableStart n) s) ∧
    (∀ l, s.mfState n = mfEnabling → (s.mf n).started = false → s.atFrame = true → mfLoops s n = [l] →
      s.loopState l ∈ [SlotSt.loaded, SlotSt.disabled, SlotSt.stopped] →
      (mfStartCode s l = Code.ok → exec (.mfEnableStart n) s =
        .next ((startLoop s l).setMf n { (startLoop s l).mf n with started := true })) ∧
      (mfStartCode s l ≠ Code.ok → Gives (.mfEnableStart n) s (fun t => t.mfState n = mfDisabled ∧ t.flag (Fd.MFP_MF_CTL_EN n) = false ∧
        t.flag (Fd.MFP_MF_STAT_DISABLE_DONE n) = true ∧ t.loopState l = s.loopState l ∧ LogsOnly [.regs, .evr, .tab, .rpl] s t)))) ∧
  (∀ (n : Fin 30) (s : State), s.canonical →
    (s.mfState n ≠ mfDisabling ∨ s.atFrame = false ∨ mfArb s n ≠ s.reg (Ra.MFP_MF_SAFE n) → Idle (.mfDisableIssue n) s) ∧
    (s.mfState n = mfDisabling → s.atFrame = true → mfArb s n = s.reg (Ra.MFP_MF_SAFE n) → s.ce.migs = [] →
      let t := (mfLoops s n).foldl mfDisableLoop s
      exec (.mfDisableIssue n) s = .next (t.setMf n { t.mf n with disIssued := true })) ∧
    (∀ l, s.loopState l ∈ [SlotSt.running, SlotSt.starting] → smGet none s.ce.cmds l = none → mfDisableLoop s l = disableLoop s l) ∧
    (∀ l, s.loopState l ∉ [SlotSt.running, SlotSt.starting] → smGet none s.ce.cmds l = none → mfDisableLoop s l = s) ∧
    (s.mfState n = mfDisabling → (s.mf n).disIssued = true →
      (∀ x ∈ mfSlots s n, s.slotState x.1 x.2 ∈ [SlotSt.loaded, SlotSt.disabled, SlotSt.stopped]) → Gives (.mfDisableDone n) s (fun t =>
        t.mfState n = mfDisabled ∧ t.flag (Fd.MFP_MF_STAT_DISABLE_DONE n) = true ∧ OnlyRegs [Ra.MFP_MF_STAT n] s t ∧ OnlyParts [.regs] s t)) ∧
    (s.mfState n ≠ mfDisabling ∨ (s.mf n).disIssued = false → Idle (.mfDisableDone n) s)) ∧
  (∀ s : State,
    ((s.mf 0).holdTick = none → Idle .mf01HoldZero s) ∧
    (∀ x, (s.mf 0).holdTick = some x →
      (driverless s.bndMode = true → x + 2000 ≤ s.clk.tick → exec .mf01HoldZero s = .next (s.setMfp { s.mfp with govAbs := true })) ∧
      (driverless s.bndMode = false ∨ s.clk.tick < x + 2000 → Idle .mf01HoldZero s)) ∧
    (100 ≤ s.gov.candN → exec .bandChange s = .next (s.setGov { s.gov with band := s.gov.cand, candN := 0 })) ∧
    (s.gov.candN < 100 → Idle .bandChange s) ∧
    (loopWindow s 0 = none → Idle .govholdSet s) ∧
    (∀ base w, loopWindow s 0 = some (base, w) →
      (critLong s (fun o => s.wordAt (base + o)) = true → exec .govholdSet s = .next (s.setGov { s.gov with hold := true })) ∧
      (critLong s (fun o => s.wordAt (base + o)) = false → Idle .govholdSet s))) ∧
  (∀ (e : Fin 64) (s : State),
    let w := (List.range 16).map (fun k => s.reg (Ra.MBX_PAYLOAD e k))
    let here := fun (isLoop : Fld) (party : Fld) (loop : Nat) => s.flag isLoop = true ∧ s.fld party = loop ∧ s.fld (Fd.MBX_EP_STAT_STATE e) = epFull
    let forGov := here (Fd.MBX_EP_CFG_RXL e) (Fd.MBX_EP_CFG_RX e) 0
    let fromYld := here (Fd.MBX_EP_CFG_TXL e) (Fd.MBX_EP_CFG_TX e) 38
    (forGov → e.val ∉ s.gov.refs → exec (.referenceMessage e) s = .next (s.setGov { s.gov with refs := s.gov.refs ++ [e.val] })) ∧
    (¬ forGov ∨ e.val ∈ s.gov.refs → Idle (.referenceMessage e) s) ∧
    (forGov → s.gov.refs = [e.val] → (∀ x : Nat, x < 64 → x ≠ e.val → refFull s x = false) → ∀ ref : List Word,
      govRefs s ref = (if refOk w then (w, [ackWrite s e Code.ok]) else (ref, [ackWrite s e Code.badArgument]))) ∧
    (¬ fromYld → Idle (.yieldRecordStore e) s) ∧
    (fromYld → yldHeld s (w.getD 2 0).toNat w = true → exec (.yieldRecordStore e) s = .next (mbxAck s e Code.ok)) ∧
    (fromYld → yldHeld s (w.getD 2 0).toNat w = false → exec (.yieldRecordStore e) s = .next (mbxAck (s.setYld
      { s.yld with stored := s.yld.stored ++ [((w.getD 2 0).toNat, w, crc32c (wordsBytes w))] }) e Code.ok)))

/-! ### Ticks, registers, fabric (R4–R29, R44, R126) -/

/-- The field accessors (R4): a field that is written reads back its low bits, every other field of the register keeps its value, and so do
every other register and every other part of the state. Memory (R15, R352): a word that is written reads back, every byte outside it keeps its value, and memory stays in canonical form. -/
def Obligations.RegistersAndMemory : Prop :=
  (∀ (s : State) (f g : Fld) (v : Nat), RegStore.wf s.regs = true → f.lo + f.width ≤ 32 →
    (s.setFld f v).fld f = v % 2 ^ f.width ∧
    (g.addr ≠ f.addr ∨ g.lo + g.width ≤ f.lo ∨ f.lo + f.width ≤ g.lo → (s.setFld f v).fld g = s.fld g) ∧
    RegStore.wf (s.setFld f v).regs = true ∧ OnlyParts [.regs] s (s.setFld f v)) ∧
  (∀ (s : State) (a : Nat) (w : Word), Memory.wf s.mem = true →
    (s.setWord a w).wordAt a = w ∧ OnlyBytes a 4 s (s.setWord a w) ∧ Memory.wf (s.setWord a w).mem = true ∧ OnlyParts [.mem] s (s.setWord a w))

/-- TICK (R10, R44): a module that is off only stays; one in reset or at boot step 1, in no power-fail sequence, counts its cycles, its tick and, at a
frame boundary, its frame, and of the rest only what counts or shows time changes; in any other state the tick boundary runs with the levels,
acquisitions and measurements given. -/
def Obligations.TickBoundary : Prop :=
  ∀ (si : BitVec 8) (lat : List (Fin 62 × Word × List Word)) (gnss : List Word) (meas : List (Word × Word)) (s : State),
    (s.powered = false → Idle (.tick si lat gnss meas) s) ∧
    (s.powered = true → s.held = true ∨ (s.mode = Mode.boot ∧ s.bootStep < 2) → s.pm.pf = none →
      Gives (.tick si lat gnss meas) s (fun t => t.cyc = s.cyc + tickLen s ∧
        t.clk.sfc = (if s.framePend then (s.clk.sfc + 1) % 2 ^ 32 else s.clk.sfc) ∧
        (s.rpl.live = none → s.rpl.loaded = false → t.clk.tick = s.clk.tick + 1) ∧ OnlyParts [.regs, .clk, .evr, .tab, .rpl] s t)) ∧
    (s.powered = true → s.held = true ∨ (s.mode = Mode.boot ∧ s.bootStep < 2) →
      exec (.tick si lat gnss meas) s = .next (pfTick (tickIdle s))) ∧
    (s.powered = true → s.held = false → ¬ (s.mode = Mode.boot ∧ s.bootStep < 2) →
      exec (.tick si lat gnss meas) s = .next (tickRun s si.toNat lat gnss meas))

/-- MAJOR_FRAME_BOUNDARY (R126): at the first tick of a frame the frame's actions run once, in the order of `frameRun`, and SFC has advanced by one; a
tick that begins no frame, and a module that is off or in reset, run none. SFC shows in CE_SET_SFC, and the frame counts as begun. -/
def Obligations.FrameBoundary : Prop :=
  ∀ (refs : BitVec 6) (bat : Half) (s : State),
    (s.powered = true → s.held = false → s.framePend = true → Gives (.majorFrameBoundary refs bat) s (fun t =>
      t = frameRun s refs.toNat bat.toNat ∧ t.clk.sfc = (s.clk.sfc + 1) % 2 ^ 32)) ∧
    (s.framePend = false ∨ s.powered = false ∨ s.held = true → Idle (.majorFrameBoundary refs bat) s) ∧
    (RegStore.wf s.regs = true →
      (sfcNext s).clk.sfc = (s.clk.sfc + 1) % 2 ^ 32 ∧ (sfcNext s).framePend = false ∧
      ((sfcNext s).reg (Ra.CE_SET_SFC 0)).toNat = (s.clk.sfc + 1) % 2 ^ 32 ∧ OnlyRegs [Ra.CE_SET_SFC 0] s (sfcNext s) ∧
      OnlyParts [.regs, .clk, .rpl] s (sfcNext s))

/-- A 32-bit write of a register without an action of its own (R4, R5, R18): each bit follows its access type. A bit that the row names RW or WO
takes the bit written, one it names RWL does while the block's lock is open, a W1C bit is cleared by a 1, every other bit keeps its value; no
other register of a block changes, but for what counts the access and the recorder's capture of it. While the boundary replays, a core's write of its
registers is ignored. A write that finds no entry stalls. SYS_FAB_ERR_INFO, whose VALID clears OVERRUN too, is in `W1cWrites`. -/
def Obligations.RegisterWrites : Prop :=
  ∀ (init : Fin 58) (addr : BitVec 40) (v : Word) (s : State), s.canonical →
    (∀ size : Fin 3, mayAccess s init true = true → fabOpen s (fabTxn s init addr.toNat true) = false →
      Gives (.registerWrite init addr size v) s (fun t => t.fab = { s.fab with
          stalled := s.fab.stalled ++ [{ fabTxn s init addr.toNat true with wr := some (size.val, v) }] } ∧ OnlyParts [.fab, .pm] s t)) ∧
    (∀ r : RegRow, Accepts s init addr.toNat true →
      0x40000000 ≤ addr.toNat → addr.toNat < 0x41000000 → inWindow addr.toNat = true → addr.toNat % 4 = 0 →
      let a := canonAddr addr.toNat
      regRow a = some r → initBarred init a = false → (∀ h ∈ hooks init v, h.covers a = false) →
      ¬ (0x40050000 ≤ a ∧ a < 0x40050800 ∧ panelOwns s ((a - 0x40050000) / 0x40) = true) →
      a ≠ Ra.SYS_FAB_ERR_INFO → a ∉ passRegs ++ captureRegs →
      (coreBnd s init a = false ∨ s.rpl.live = none → Gives (.registerWrite init addr 2 v) s (fun t =>
        (∀ i, i < 32 → bit (t.reg a).toNat i =
          if bit r.w1c i && bit v.toNat i then false
          else if bit r.rw i || bit r.wo i || (rwlOpen s a && bit r.rwl i) then bit v.toNat i else bit (s.reg a).toNat i) ∧
        OnlyRegs (a :: passRegs ++ captureRegs) s t ∧ OnlyParts [.regs, .pm, .tab] s t)) ∧
      (coreBnd s init a = true → s.rpl.live.isSome = true → Gives (.registerWrite init addr 2 v) s (fun t =>
        OnlyRegs passRegs s t ∧ OnlyParts [.regs, .pm] s t)))

/-- Writes that change no register but the error capture and what counts the access (R16, R17, R19, R28, R29): an 8- or 16-bit or misaligned write of a
register is recorded with KIND 2, one that the block refuses with KIND 1, one outside every window with KIND 0, where a core takes an abort and the
Mirror pair locks out; none reaches a register of the block. The capture of fabric errors (R29): the first is held with its address, initiator, class and KIND; a further one sets OVERRUN and keeps it. -/
def Obligations.RefusedAccesses : Prop :=
  (∀ (init : Fin 58) (addr : BitVec 40) (size : Fin 3) (v : Word) (s : State), Accepts s init addr.toNat true →
    0x40000000 ≤ addr.toNat → addr.toNat < 0x41000000 →
    let s' := accessed s init addr.toNat true
    (inWindow addr.toNat = true → size.val < 2 ∨ addr.toNat % 4 ≠ 0 → Gives (.registerWrite init addr size v) s (fun t =>
      t = fabErr s' init addr.toNat 2 ∧ OnlyRegs (errRegs ++ passRegs) s t ∧ OnlyParts [.regs, .pm] s t)) ∧
    (inWindow addr.toNat = true → size = 2 → addr.toNat % 4 = 0 → initBarred init (canonAddr addr.toNat) = true →
      Gives (.registerWrite init addr size v) s (fun t =>
        t = fabErr s' init (canonAddr addr.toNat) 1 ∧ OnlyRegs (errRegs ++ passRegs) s t ∧ OnlyParts [.regs, .pm] s t)) ∧
    (inWindow addr.toNat = false →
      exec (.registerWrite init addr size v) s = .next (busError s' init addr.toNat 0) ∧
      (init.val ≠ 0x0C → Gives (.registerWrite init addr size v) s (fun t => (∀ a, t.reg a = (fabErr s' init addr.toNat 0).reg a) ∧
        OnlyRegs (errRegs ++ passRegs) s t ∧ OnlyParts [.regs, .fab, .pm] s t ∧
        (init.val < 4 → smGet 0 t.fab.aborts init = smGet 0 s.fab.aborts init + 1))))) ∧
  (∀ (init addr kind : Nat) (s : State), s.canonical → init < 64 → kind < 4 → addr < 2 ^ 40 →
    (s.flag Fd.SYS_FAB_ERR_INFO_VALID = true →
      (fabErr s init addr kind).flag Fd.SYS_FAB_ERR_INFO_OVERRUN = true ∧
      (fabErr s init addr kind).flag Fd.SYS_FAB_ERR_INFO_VALID = true ∧
      (fabErr s init addr kind).fld Fd.SYS_FAB_ERR_INFO_INITIATOR = s.fld Fd.SYS_FAB_ERR_INFO_INITIATOR ∧
      (fabErr s init addr kind).fld Fd.SYS_FAB_ERR_INFO_CLASS = s.fld Fd.SYS_FAB_ERR_INFO_CLASS ∧
      (fabErr s init addr kind).fld Fd.SYS_FAB_ERR_INFO_KIND = s.fld Fd.SYS_FAB_ERR_INFO_KIND ∧
      OnlyRegs [Ra.SYS_FAB_ERR_INFO] s (fabErr s init addr kind)) ∧
    (s.flag Fd.SYS_FAB_ERR_INFO_VALID = false →
      (fabErr s init addr kind).flag Fd.SYS_FAB_ERR_INFO_VALID = true ∧
      (fabErr s init addr kind).flag Fd.SYS_FAB_ERR_INFO_OVERRUN = false ∧
      ((fabErr s init addr kind).reg Ra.SYS_FAB_ERR_ADDR).toNat = addr % 2 ^ 32 ∧
      (fabErr s init addr kind).fld Fd.SYS_FAB_ERR_INFO_INITIATOR = init ∧
      (fabErr s init addr kind).fld Fd.SYS_FAB_ERR_INFO_CLASS = txnClass s init % 4 ∧
      (fabErr s init addr kind).fld Fd.SYS_FAB_ERR_INFO_KIND = kind ∧
      OnlyRegs [Ra.SYS_FAB_ERR_ADDR, Ra.SYS_FAB_ERR_INFO] s (fabErr s init addr kind)) ∧
    OnlyParts [.regs] s (fabErr s init addr kind))

/-- Reads (R7, R16, R17): the initiator gets the addressed bytes of what the register shows; a low word latches its high word for it, a latched high
word is returned once, an RC field is returned and then cleared; no other register changes, but for what counts the access. A read that is not aligned
to its width returns 0 with KIND 2, one outside every window is a decode error, one that finds no entry stalls. W1C bits (R4): 1 clears the bit, 0 has no effect; no other bit and no other register changes. Clearing SYS_FAB_ERR_INFO.VALID clears OVERRUN
too. In the SAF window another initiator than the Mirror pair reaches none of them, and is recorded with KIND 1 (R19). -/
def Obligations.ReadsAndClears : Prop :=
  (∀ (init : Fin 58) (addr : Word) (size : Fin 3) (s : State), s.canonical → mayAccess s init false = true →
    0x40000000 ≤ addr.toNat → addr.toNat < 0x41000000 →
    let s' := accessed s init addr.toNat false
    let b := addr.toNat / 4 * 4
    let a := canonAddr b
    let key := latchKey init a
    let part := fun (w : Word) => BitVec.ofNat 32 (bits w.toNat (8 * (addr.toNat % 4)) (8 * 2 ^ size.val))
    let plain := inCodeStore b = false ∧ b ∉ [Ra.EVR_NONCE_LO, Ra.UPD_NONCE_LO] ∧ ∀ w, w < 4 → b ≠ Ra.EVR_LOUPE_DATA w 0
    (fabOpen s (fabTxn s init addr.toNat false) = false → Gives (.lowWordReadLatch init ⟨addr, size⟩) s (fun t =>
      t.fab = { s.fab with stalled := s.fab.stalled ++ [fabTxn s init addr.toNat false] } ∧ OnlyParts [.fab, .pm] s t)) ∧
    (fabOpen s (fabTxn s init addr.toNat false) = true →
      (inWindow addr.toNat = false → exec (.lowWordReadLatch init ⟨addr, size⟩) s = .next (busError s' init addr.toNat 0)) ∧
      (inWindow addr.toNat = true → addr.toNat % 2 ^ size.val ≠ 0 → Gives (.lowWordReadLatch init ⟨addr, size⟩) s (fun t =>
        smGet 0 t.fab.rdata init = 0 ∧ t.regs = (fabErr s' init addr.toNat 2).regs ∧ OnlyParts [.regs, .fab, .pm] s t)) ∧
      (inWindow addr.toNat = true → addr.toNat % 2 ^ size.val = 0 → plain →
        (isPairLow a = true → smGet none s.fab.hiLatch key = none → (∀ r, regRow a = some r → r.rc = 0) →
          Gives (.lowWordReadLatch init ⟨addr, size⟩) s (fun t =>
            smGet 0 t.fab.rdata init = part (shown s' a) ∧ smGet none t.fab.hiLatch (latchKey init (a + 4)) = some (shown s' (a + 4)) ∧
            (∀ j, j ≠ init.val → smGet 0 t.fab.rdata j = smGet 0 s.fab.rdata j) ∧ OnlyRegs passRegs s t ∧ OnlyParts [.regs, .fab, .pm] s t)) ∧
        (∀ w, smGet none s.fab.hiLatch key = some w → isPairLow a = false → (∀ r, regRow a = some r → r.rc = 0) →
          Gives (.lowWordReadLatch init ⟨addr, size⟩) s (fun t => smGet 0 t.fab.rdata init = part w ∧ smGet none t.fab.hiLatch key = none ∧
            OnlyRegs passRegs s t ∧ OnlyParts [.regs, .fab, .pm] s t)) ∧
        (smGet none s.fab.hiLatch key = none → isPairLow a = false → (∀ r, regRow a = some r → r.rc = 0) →
          Gives (.lowWordReadLatch init ⟨addr, size⟩) s (fun t => smGet 0 t.fab.rdata init = part (shown s' a) ∧
            OnlyRegs passRegs s t ∧ OnlyParts [.regs, .fab, .pm] s t)) ∧
        (∀ r, regRow a = some r → r.rc ≠ 0 → isPairLow a = false → smGet none s.fab.hiLatch key = none → addr.toNat % 4 = 0 →
          Gives (.rcFieldRead init addr) s (fun t =>
            smGet 0 t.fab.rdata init = shown s' a ∧ t.reg a = s.reg a &&& ~~~(BitVec.ofNat 32 r.rc) ∧ OnlyRegs (a :: passRegs) s t ∧
            OnlyParts [.regs, .fab, .pm] s t))))) ∧
  (∀ (init : Fin 58) (addr v : Word) (s : State) (r : RegRow), s.canonical →
    let a := canonAddr addr.toNat
    regRow a = some r →
    (r.w1c ≠ 0 → a / 0x10000 = 0x4020 → init.val ≠ 0x0C → exec (.w1cClear init addr v) s = .next (fabErr s init a 1)) ∧
    (r.w1c ≠ 0 → (a / 0x10000 = 0x4020 → init.val = 0x0C) → Gives (.w1cClear init addr v) s (fun t =>
      (∀ i, i < 32 → ¬ (a = Ra.SYS_FAB_ERR_INFO ∧ i = 30) →
        bit (t.reg a).toNat i = (bit (s.reg a).toNat i && !(bit r.w1c i && bit v.toNat i))) ∧
      (a = Ra.SYS_FAB_ERR_INFO → t.flag Fd.SYS_FAB_ERR_INFO_OVERRUN = (s.flag Fd.SYS_FAB_ERR_INFO_OVERRUN && !bit v.toNat 31)) ∧
      OnlyRegs [a] s t ∧ OnlyParts [.regs] s t)) ∧
    (r.w1c = 0 → Idle (.w1cClear init addr v) s))

/-- The memory controller's next grant (R24): a BULK request that has waited long enough takes a grant that would have gone to STREAM, and never
one of SAFETY or CONTROL. -/
def Obligations.BulkAge : Prop :=
  (∀ (s : State) (t : FabTxn), (rrPick s 0 = some t ∨ (rrPick s 0 = none ∧ rrPick s 1 = some t)) → nextGrant s = some t) ∧
  (∀ (s : State) (t b : FabTxn), rrPick s 0 = none → rrPick s 1 = none → rrPick s 2 = some t →
    s.fab.stalled.find? (fun x => x.promoted && fabRoom s x) = some b → nextGrant s = some b) ∧
  (∀ (init : Fin 58) (s : State), Gives (.bulkAgePromotion init) s (fun t =>
    t.fab.stalled = s.fab.stalled.map (fun x =>
      if x.init = init.val ∧ x.cls = 3 ∧ x.at_ + 50 * cycUs < s.cyc then { x with promoted := true } else x) ∧
    t.fab.outst = s.fab.outst ∧ OnlyParts [.fab] s t))

/-- The fabric (R20–R22, R28): a request with an entry becomes outstanding, one without stalls; a response frees its entry and the next stalled
request that may proceed takes it, where a write is performed. A missing response frees the entry as well: it is an error of KIND 3, which stops a DMA
channel with FAULT, traps a control engine's loop at its next sample, aborts a core and locks the Mirror pair out. -/
def Obligations.FabricEntries : Prop :=
  (∀ (arrive : List (Fin 58 × BitVec 40 × Bool)) (freed : Fin 58) (s : State),
    exec (.fabricEntryFreed arrive freed) s = .next (fabDrain (fabFree (fabArrive s arrive) freed))) ∧
  (∀ (arrive : List (Fin 58 × BitVec 40 × Bool)) (i : Fin 58) (a : BitVec 40) (w : Bool) (s : State),
    let m := fabArrive s arrive
    let x := fabTxn m i a.toNat w
    let t := fabArrive s (arrive ++ [(i, a, w)])
    (fabOpen m x = true → t.fab.outst = m.fab.outst ++ [x] ∧ t.fab.stalled = m.fab.stalled) ∧
    (fabOpen m x = false → t.fab.outst = m.fab.outst ∧ t.fab.stalled = m.fab.stalled ++ [x]) ∧
    OnlyRegs (Ra.SYS_FAB_CNT :: passRegs) s t ∧ OnlyParts [.regs, .fab] s t) ∧
  (∀ (i freed : Fin 58) (a : BitVec 40) (w : Bool) (s : State),
    let x := fabTxn s i a.toNat w
    i ≠ freed → s.fab.outst.any (fun t => t.init == freed.val) = false → s.fab.ready = [] → fabOpen s x = true →
    Gives (.fabricEntryFreed [(i, a, w)] freed) s (fun t => t.fab.outst = s.fab.outst ++ [x] ∧ t.fab.stalled = s.fab.stalled ∧
      OnlyRegs (Ra.SYS_FAB_CNT :: passRegs) s t ∧ OnlyParts [.regs, .fab] s t)) ∧
  (∀ (freed : Fin 58) (s : State), s.fab.stalled = [] → s.fab.ready = [] →
    Gives (.fabricEntryFreed [] freed) s (fun t => t.fab.outst = dropFirst (fun t => t.init == freed.val) s.fab.outst ∧ t.fab.stalled = [] ∧
      OnlyRegs [Ra.SYS_FAB_CNT] s t ∧ OnlyParts [.regs, .fab] s t)) ∧
  (∀ (freed : Fin 58) (s : State) (x y : FabTxn), s.fab.outst = [x] → x.init = freed.val → s.fab.stalled = [y] → s.fab.ready = [] → y.cls < 4 →
    (y.wr = none → Gives (.fabricEntryFreed [] freed) s (fun t => t.fab.outst = [{ y with promoted := false }] ∧ t.fab.stalled = [] ∧
      OnlyRegs (Ra.SYS_FAB_CNT :: passRegs) s t ∧ OnlyParts [.regs, .fab] s t)) ∧
    (∀ size v, y.wr = some (size, v) → y.init ≠ 0x0C → 0x40000000 ≤ y.addr → y.addr < 0x41000000 → inWindow y.addr = true → size < 2 →
      Gives (.fabricEntryFreed [] freed) s (fun t => t.fab.outst = [] ∧ t.fab.stalled = [] ∧ t.fab.ready = [] ∧
        t.flag Fd.SYS_FAB_ERR_INFO_VALID = true ∧ OnlyRegs (Ra.SYS_FAB_CNT :: passRegs ++ errRegs) s t ∧ OnlyParts [.regs, .fab] s t))) ∧
  (∀ (init : Fin 58) (addr : BitVec 40) (s : State),
    let miss := s.count (Fd.SYS_FAB_AUX_V 9)
    exec (.responseTimeout init addr) s = .next (fabDrain (fabFree (timeoutAct miss init addr.toNat) init)) ∧
    (s.canonical → s.fab.stalled = [] → s.fab.ready = [] → Gives (.responseTimeout init addr) s (fun t =>
      t.fld (Fd.SYS_FAB_AUX_V 9) = satU 32 (s.fld (Fd.SYS_FAB_AUX_V 9) + 1) ∧ t.flag Fd.SYS_FAB_ERR_INFO_VALID = true ∧
      (s.flag Fd.SYS_FAB_ERR_INFO_VALID = false → t.fld Fd.SYS_FAB_ERR_INFO_KIND = 3 ∧ t.fld Fd.SYS_FAB_ERR_INFO_INITIATOR = init.val ∧
        (t.reg Ra.SYS_FAB_ERR_ADDR).toNat = addr.toNat % 2 ^ 32) ∧
      (init.val < 4 → smGet 0 t.fab.aborts init = smGet 0 s.fab.aborts init + 1 ∧
        t.fab.outst = dropFirst (fun t => t.init == init.val) s.fab.outst) ∧
      (∀ e l, init.val = 4 + e → e < 8 → accessLoop s e = some l → smGet none t.gw.dwf l = some (addr.toNat % 2 ^ 32)) ∧
      (∀ n d, init.val = 0x10 + n → n < 32 → (s.dch n).run = some d → d.loop = false → (s.dch n).stopping = false →
        t.fld (Fd.DMA_CH_STAT_STATE n) = dmaFault) ∧
      (init.val = 0x0C → s.locked = false → t.fld Fd.SAF_LOCK_CAUSE = 8))))

/-! ### Events, power, modes (R30–R75, R348, R349, R492–R495, R557–R566) -/

/-- The event log (R492–R495): a new event writes one record, with the next sequence number, DT, OPTIME, the time state and the event's code, source
and data, into its slot of 131 072, and no other record changes; an event that an open record holds only counts there; one above the storm limit
writes nothing and is counted. No register outside the log's and the recorder's windows changes. -/
def Obligations.EventLog : Prop :=
  ∀ (s : State) (code src d0 d1 : Nat), s.canonical → s.rpl.live = none → s.evr.stormSec = s.fld Fd.EVR_OPTIME_V ∨ s.evr.stormHeld = [] →
    let now := if s.evr.stormSec = s.fld Fd.EVR_OPTIME_V then smGet 0 s.evr.stormCnt code else 0
    let t := logEvent s code src d0 d1
    let seq := s.fld Fd.EVR_NEXT_SEQ
    let limit := max 1 (s.fld Fd.EVR_CFG_STORM_LIM)
    (openFor s code src d0 d1 = none → now < limit →
      t.logAt seq = ({ dt := s.dtNs, seq := seq, code := code, src := src, tstate := s.timeState % 4, valid := true, optime := s.fld Fd.EVR_OPTIME_V, pcyc := s.fld Fd.EVR_PCYC_V % 65536, rept := 0, d0 := d0 % 2 ^ 32, d1 := d1 % 2 ^ 32 } : EvRec) ∧
      (∀ k, k ≠ seq % 131072 → smGet {} t.evr.log k = smGet {} s.evr.log k) ∧ t.fld Fd.EVR_NEXT_SEQ = (seq + 1) % 2 ^ 32) ∧
    (∀ o, openFor s code src d0 d1 = some o →
      t.logAt o.seq = { s.logAt o.seq with rept := min ((s.logAt o.seq).rept + 1) 65535 } ∧
      (∀ k, k ≠ o.seq % 131072 → smGet {} t.evr.log k = smGet {} s.evr.log k) ∧ t.regs = s.regs) ∧
    (openFor s code src d0 d1 = none → limit ≤ now →
      t.evr.log = s.evr.log ∧ smGet 0 t.evr.stormHeld code = smGet 0 s.evr.stormHeld code + 1 ∧ t.regs = s.regs) ∧
    (∀ a, a / 0x10000 ≠ 0x4006 → a / 0x10000 ≠ 0x4007 → t.reg a = s.reg a) ∧ OnlyParts [.regs, .evr, .tab] s t

/-- What a full module reset keeps (R62, R37, R573): the state at boot step 1 is in BOOT, shows the cause beside those before it (power applied
from OFF clears them), DT and the time state after a warm reset, DT 0 and FREE after power, and the LPDDR5 above its lowest GiB after a warm one. -/
def Obligations.ResetKeeps : Prop :=
  ∀ (s : State) (cause : Nat) (warm : Bool) (wake : Option Nat), cause < 16 →
    let t := bootBase s cause warm wake
    t.mode = Mode.boot ∧ t.bootStep = 1 ∧ bit (t.reg Ra.PWR_RST_CAUSE).toNat cause = true ∧
    (cause ≠ 0 → ∀ i, i < 32 → i ≠ cause → bit (t.reg Ra.PWR_RST_CAUSE).toNat i = bit (s.reg Ra.PWR_RST_CAUSE).toNat i) ∧
    (cause = 0 → ∀ i, i < 32 → i ≠ cause → bit (t.reg Ra.PWR_RST_CAUSE).toNat i = false) ∧
    (warm = true → t.clk.dtFp = s.clk.dtFp ∧ t.timeState = s.timeState ∧
      ∀ a, 0x840000000 ≤ a → a < 0xFF0000000 → t.byteAt a = s.byteAt a) ∧
    (warm = false → t.timeState = tFree ∧ (wake = none → t.dtNs = 0) ∧ t.mem = []) ∧
    t.saf.mram = s.saf.mram ∧ t.evr.log = s.evr.log ∧ t.pending = s.pending ∧ t.cyc = s.cyc

/-- Full resets by source (R35, R62, R65, R75, R446): each begins a warm reset with its cause where one may start (powered, no power-fail sequence,
not in reset), and bridges the keep channels as its row says; a loss of lock is counted in any case. Start-up and wake (R68, R70–R72, R381): power from OFF boots cold, each enabled wake source wakes from STANDBY with its number in WAKE_SRC, the
boot ends in its target once the reserve holds 30 J, and a reserve that does not fill within 5 s is reported once. -/
def Obligations.ResetsAndStart : Prop :=
  ((∀ s : State, mayReset s = true →
    exec .pllLossOfLock s = .next (warmReset (s.count Fd.CLK_PLL_STAT_LOSSES) 4 true) ∧
    exec .hostFullReset s = .next (warmReset s 5 true) ∧
    (s.flag Fd.UPD_DBG_STAT_OPEN = true → s.flag Fd.UPD_DBG_STAT_SCOPE = true → exec .debugReset s = .next (warmReset s 7 true)) ∧
    (s.pm.hot = true → hotSite s = none → exec .thermalRecoveryReset s = .next (warmReset s 9 false)) ∧
    Gives .lockstepMismatch s (fun t => ∃ s', t = warmReset s' 8 false ∧ s'.saf.seCopy = some (s.saf.seCopy.getD 6) ∧
      s'.saf.mram = s.saf.mram ∧ OnlyParts [.regs, .saf] s s')) ∧
  (∀ s : State, mayReset s = false → Idle .hostFullReset s ∧ Idle .debugReset s ∧ Idle .thermalRecoveryReset s ∧
    (s.powered = true → exec .pllLossOfLock s = .next (s.count Fd.CLK_PLL_STAT_LOSSES))) ∧
  (∀ s : State, s.powered = false → Idle .pllLossOfLock s ∧ Idle .lockstepMismatch s) ∧
  (∀ s : State, s.flag Fd.UPD_DBG_STAT_OPEN = false ∨ s.flag Fd.UPD_DBG_STAT_SCOPE = false → Idle .debugReset s) ∧
  (∀ (us : Word) (s : State), s.held = false →
    (us.toNat < 20 ∨ s.flag Fd.PWR_STAT_RST_STUCK = true ∨ mayReset s = false → Idle (.resetReqAssert us true) s ∧ Idle (.resetReqAssert us false) s) ∧
    (20 ≤ us.toNat → s.flag Fd.PWR_STAT_RST_STUCK = false → mayReset s = true →
      exec (.resetReqAssert us false) s = .next (warmReset s 2 true) ∧
      Gives (.resetReqAssert us true) s (fun t => t.held = true ∧ t.pm.rstLow = some (s.cyc - us.toNat * cycUs) ∧ t.pending = s.pending))) ∧
  (∀ (us : Word) (s : State), s.held = true →
    exec (.resetReqAssert us false) s = .next (bootRun (s.setPm { s.pm with rstLow := none }) 2 []) ∧ Idle (.resetReqAssert us true) s) ∧
  (∀ s : State, s.pm.rstLow = none → Idle .resetReqStuck s) ∧
  (∀ (s : State) (c : Nat), s.pm.rstLow = some c →
    (c + 10 * cycS ≤ s.cyc → Gives .resetReqStuck s (fun t => ∃ s', t = logEvent (s'.setFlag Fd.PWR_STAT_RST_STUCK true) Ev.resetStuck Src.unit 0 0 ∧
      s' = bootRun ((s.setPm { s.pm with rstLow := none }).setFlag Fd.PWR_RST_CAUSE_STUCK true) 3 [])) ∧
    (s.cyc < c + 10 * cycS → Idle .resetReqStuck s)) ∧
  (∀ s : State, exec .resetReqRearm s = .next (s.setFlag Fd.PWR_STAT_RST_STUCK false))) ∧
  ((∀ (bad : List (Byte × Half)) (parts : List (Byte × Byte)) (s : State),
    (s.mode = Mode.off ∨ (s.mode = Mode.boot ∧ s.bootStep = 1 ∧ s.held = false) →
      exec (.powerApplied bad parts) s = .next (bootRun (bootBase (resetBegin (dropParts s parts) false) 0 false none) 0
        (bad.map (fun x => (x.1.toNat, x.2.toNat))))) ∧
    (s.mode ≠ Mode.off → s.mode ≠ Mode.boot → Idle (.powerApplied bad parts) s)) ∧
  (∀ (aon : Long) (s : State),
    let wakes := fun (src : Nat) =>
      let s := s.setPm { s.pm with wakes := (src :: s.pm.wakes).take 4 }
      bootRun ((bootBase (resetBegin s false) 1 false (some aon.toNat)).setFld Fd.PWR_STAT_WAKE_SRC src) 1 []
    (s.mode = Mode.standby → s.flag Fd.PWR_WAKE_CFG_WAKE_IN = true → exec (.wakeInWake aon) s = .next (wakes 1)) ∧
    (s.mode ≠ Mode.standby ∨ s.flag Fd.PWR_WAKE_CFG_WAKE_IN = false → Idle (.wakeInWake aon) s) ∧
    (s.mode = Mode.standby → s.flag Fd.PWR_WAKE_CFG_TIMER = true → s.fld Fd.PWR_WAKE_TIMER_SECONDS ≠ 0 →
      s.fld Fd.PWR_WAKE_TIMER_SECONDS * 10 ^ 9 ≤ aon.toNat → exec (.aonTimerWake aon) s = .next (wakes 3)) ∧
    (s.mode ≠ Mode.standby ∨ s.flag Fd.PWR_WAKE_CFG_TIMER = false ∨ aon.toNat < s.fld Fd.PWR_WAKE_TIMER_SECONDS * 10 ^ 9 →
      Idle (.aonTimerWake aon) s) ∧
    (∀ (c : Fin 6) (id : Word) (dlc : Fin 16) (data : List Byte),
      (s.mode = Mode.standby → bit (s.fld Fd.PWR_WAKE_CFG_CAN) c = true →
        (wakeFrame s c id dlc data = true → exec (.canSelectiveWake c id dlc data false aon) s = .next (wakes 2)) ∧
        (wakeFrame s c id dlc data = false → Idle (.canSelectiveWake c id dlc data false aon) s) ∧
        exec (.canSelectiveWake c id dlc data true aon) s = .next ((wakes 2).setFlag (Fd.CAN_STAT_WAKE_ERR c) true)) ∧
      (∀ err, s.mode ≠ Mode.standby ∨ bit (s.fld Fd.PWR_WAKE_CFG_CAN) c = false → Idle (.canSelectiveWake c id dlc data err aon) s))) ∧
  (∀ (res cap : Half) (s : State), s.canonical → s.mode = Mode.boot → s.bootStep = 8 → s.atFrame = true → s.noPf = true → 3000 ≤ res.toNat →
    s.flag Fd.PWR_STAT_RESERVE_FAIL = false →
    exec (.bootComplete res cap none) s = .next (bootEnd (reserveMeasured s res.toNat cap.toNat)) ∧
    Gives (.bootComplete res cap none) s (fun t => t.mode = (if s.locked then Mode.safeStop else s.pm.bootTgt % 16) ∧ t.fld Fd.PWR_STAT_STEP = 0xF ∧
      t.pm.bootCyc = none) ∧
    (∀ x : Fin 16, exec (.bootComplete res cap (some x)) s = .next (bootEnd (lockOut (reserveMeasured s res.toNat cap.toNat) 11 x)))) ∧
  (∀ s : State, s.pm.bootCyc = none → Idle .reserveTimeout s) ∧
  (∀ (s : State) (c : Nat), s.pm.bootCyc = some c →
    (s.mode = Mode.boot → c + 5 * cycS ≤ s.cyc → s.flag Fd.PWR_STAT_RESERVE_FAIL = false → s.flag Fd.PWR_STAT_RESERVE_OK = false →
      exec .reserveTimeout s = .next (logEvent (s.setFlag Fd.PWR_STAT_RESERVE_FAIL true) Ev.reserveFail Src.unit (s.fld Fd.PWR_STAT_RESERVE_J) 0)) ∧
    (s.mode ≠ Mode.boot ∨ s.cyc < c + 5 * cycS ∨ s.flag Fd.PWR_STAT_RESERVE_FAIL = true ∨ s.flag Fd.PWR_STAT_RESERVE_OK = true →
      Idle .reserveTimeout s)))

/-- Power fail and thermal shutdown (R73–R75): below 6.0 V the sequence starts once, with PF set, the event, the safety outputs off and the fast off
of the panel; a sequence toward STANDBY then ends in OFF; STANDBY goes off at once. A site at 125 °C switches the safety outputs off, latches cause 9 and
stops compute. -/
def Obligations.PowerFail : Prop :=
  (∀ (mv res : Half) (s : State), s.canonical →
    (s.mode = Mode.standby → exec (.powerFail mv res) s = .next (s.setFld Fd.SYS_MODE_STAT_MODE Mode.off)) ∧
    (s.powered = true → mv.toNat < 6000 → s.pm.pf = none →
      Gives (.powerFail mv res) s (fun t => t.pm.pf = some { at_ := s.cyc, stby := false } ∧ t.flag Fd.PWR_STAT_PF = true ∧
        t.fld Fd.PWR_STAT_RESERVE_J = res.toNat ∧ t.flag Fd.PWR_STAT_RESERVE_OK = decide (3000 ≤ res.toNat) ∧
        (smWf (fun _ => {}) s.saf.so = true → ∀ k, k < 4 → (t.safOut k).on = false) ∧
        t.dsp.seq = (match s.dsp.seq with
          | .off => .off
          | .faulted c => .faulted c
          | _ => .stopping s.cyc true) ∧
        t.bst.run = none ∧ (s.bst.run = none → t.bst.rep = none) ∧ t.mode = s.mode ∧ OnlyParts [.regs, .saf, .dsp, .bst, .evr, .tab, .pm] s t)) ∧
    (∀ p, s.powered = true → mv.toNat < 6000 → s.pm.pf = some p →
      Gives (.powerFail mv res) s (fun t => t.pm.pf = some { p with stby := false } ∧ OnlyRegs [Ra.PWR_STAT, Ra.PWR_SUP_STAT] s t ∧
        OnlyParts [.regs, .pm] s t)) ∧
    (s.mode ≠ Mode.standby → s.powered = false ∨ 6000 ≤ mv.toNat → Idle (.powerFail mv res) s)) ∧
  (∀ (s : State) (k : Nat), hotSite s = some k →
    (s.powered = true → s.pm.hot = false → Gives .thermalShutdown s (fun t => t.pm = { s.pm with hot := true, stopped := true } ∧
      t.saf.mram.isSome = true ∧ (s.saf.mram = none → t.saf.mram = some (9, k % 16)) ∧
      (smWf (fun _ => {}) s.saf.so = true → ∀ j, j < 4 → (t.safOut j).on = false) ∧
      t.fus = { s.fus with running := false, runJ := [], readyJ := [] } ∧ OnlyParts [.regs, .saf, .fus, .evr, .tab, .rpl, .pm] s t)) ∧
    (s.powered = false ∨ s.pm.hot = true → Idle .thermalShutdown s)) ∧
  (∀ s : State, hotSite s = none → Idle .thermalShutdown s)

/-- Mode requests (R55): a write while none is pending makes the request pending with its target and records it; a write while one is pending only
sets RESULT to REFUSED. The end of a request (R30, R55–R57): its code, PENDING clear and TARGET 0, in SYS_MODE_STAT only. -/
def Obligations.ModeRequests : Prop :=
  (∀ (v : Word) (s : State), s.canonical →
    (s.flag Fd.SYS_MODE_STAT_PENDING = false → Gives (.modeRequest v) s (fun t =>
      t.flag Fd.SYS_MODE_STAT_PENDING = true ∧ t.fld Fd.SYS_MODE_STAT_TARGET = bits v.toNat 0 4 ∧ t.mode = s.mode ∧
      t.fld Fd.SYS_MODE_STAT_RESULT = s.fld Fd.SYS_MODE_STAT_RESULT ∧ OnlyRegs (Ra.SYS_MODE_STAT :: captureRegs) s t ∧
      OnlyParts [.regs, .tab] s t)) ∧
    (s.flag Fd.SYS_MODE_STAT_PENDING = true → Gives (.modeRequest v) s (fun t =>
      t.fld Fd.SYS_MODE_STAT_RESULT = Code.refused ∧ t.flag Fd.SYS_MODE_STAT_PENDING = true ∧
      t.fld Fd.SYS_MODE_STAT_TARGET = s.fld Fd.SYS_MODE_STAT_TARGET ∧ t.mode = s.mode ∧ OnlyRegs [Ra.SYS_MODE_STAT] s t ∧ OnlyParts [.regs] s t))) ∧
  (∀ (s : State) (code : Nat), s.canonical → code < 2 ^ 16 →
    (modeResult s code).flag Fd.SYS_MODE_STAT_PENDING = false ∧ (modeResult s code).fld Fd.SYS_MODE_STAT_TARGET = 0 ∧
    (modeResult s code).fld Fd.SYS_MODE_STAT_RESULT = code ∧ (modeResult s code).mode = s.mode ∧
    OnlyRegs [Ra.SYS_MODE_STAT] s (modeResult s code) ∧ OnlyParts [.regs, .pm] s (modeResult s code))

/-- A transition that the safety island starts itself takes precedence (R57): it is committed, and a pending request ends with REFUSED. -/
def Obligations.IslandPrecedence : Prop :=
  ∀ (s : State) (m : Nat), s.canonical → m < 16 →
    (modeOwn s m).mode = m ∧ (modeOwn s m).fld Fd.SYS_MODE_STAT_PREV = s.mode ∧
    (s.flag Fd.SYS_MODE_STAT_PENDING = true → (modeOwn s m).flag Fd.SYS_MODE_STAT_PENDING = false ∧
      (modeOwn s m).fld Fd.SYS_MODE_STAT_RESULT = Code.refused)

/-- The Mirror pair's check (R56, R58, R66, R67): a transition outside the table ends with BAD_ARGUMENT, conditions that fail with REFUSED, a request
for STANDBY of a machine that moves is DEFERRED and starts once it is stationary; a transition without a ramp is committed at once, one with a
ramp once every function it ramps has reported. The module's own STANDBY follows WAKE_IN; what remains of it is REFUSED when WAKE_IN returns (the model's
choice of the code, assumption 35). -/
def Obligations.ModeChecks : Prop :=
  (∀ (ack : Bool) (s : State), checkDue s = true →
    let old := s.mode
    let new := s.fld Fd.SYS_MODE_STAT_TARGET
    let ramp := mfClear s (rampOf old new)
    let done := mfAllDone ramp (rampOf old new)
    (inTable s old new = false → exec (.modeCheck ack) s = .next (modeResult s Code.badArgument)) ∧
    (inTable s old new = true → modeConds s old new ack = false →
      (new ≠ Mode.unloadSync → exec (.modeCheck ack) s = .next (modeResult s Code.refused)) ∧
      (new = Mode.unloadSync → exec (.modeCheck ack) s = .next (unloadRefused (modeResult s Code.refused)))) ∧
    (inTable s old new = true → modeConds s old new ack = true →
      (new = Mode.standby → stationary s = true → exec (.modeCheck ack) s = .next (standbyStart s)) ∧
      (new = Mode.standby → stationary s = false →
        exec (.modeCheck ack) s = .next ((s.setFld Fd.SYS_MODE_STAT_RESULT Code.deferred).setPm { s.pm with deferred := true })) ∧
      (new ≠ Mode.standby → done = true → exec (.modeCheck ack) s = .next (modeEnter ramp new)) ∧
      (new ≠ Mode.standby → new ≠ Mode.activate → new ≠ Mode.replay → done = true → s.canonical → Gives (.modeCheck ack) s (fun t =>
        t.mode = new ∧ t.fld Fd.SYS_MODE_STAT_PREV = old ∧ t.flag Fd.SYS_MODE_STAT_PENDING = false ∧ t.fld Fd.SYS_MODE_STAT_RESULT = Code.ok)) ∧
      (new ≠ Mode.standby → rampOf old new = [] → ramp = s ∧ done = true) ∧
      (new ≠ Mode.standby → done = false → Gives (.modeCheck ack) s (fun t =>
        t.pm.ramping = true ∧ t.mode = s.mode ∧ OnlyParts [.regs, .mfp, .pm] s t)))) ∧
  (∀ (ack : Bool) (s : State), checkDue s = false → Idle (.modeCheck ack) s) ∧
  (∀ s : State, (exitDone s = true → exec .modeCommitAfterRamp s = .next (modeOwn s s.pm.orig)) ∧
    (exitDone s = false → rampDone s = true → exec .modeCommitAfterRamp s = .next (modeEnter s (s.fld Fd.SYS_MODE_STAT_TARGET))) ∧
    (exitDone s = false → rampDone s = false → Idle .modeCommitAfterRamp s)) ∧
  (∀ s : State, (s.powered = true → s.pm.wakeLow = none → exec .wakeInFall s = .next (s.setPm { s.pm with wakeLow := some s.cyc })) ∧
    (s.powered = false ∨ s.pm.wakeLow.isSome = true → Idle .wakeInFall s)) ∧
  (∀ s : State, s.pm.wakeLow = none → Idle .standbyDelayExpiry s) ∧
  (∀ (s : State) (c : Nat), s.pm.wakeLow = some c →
    (s.powered = true → s.pm.stbyReq = false → c + s.fld Fd.PWR_WAKE_CFG_DELAY * cycS ≤ s.cyc →
      exec .standbyDelayExpiry s = .next (stbyAdvance (s.setPm { s.pm with stbyReq := true })) ∧
      (s.flag Fd.SYS_MODE_STAT_PENDING = false → s.noPf = true → s.mode ∈ [Mode.road, Mode.service, Mode.safeStop] → s.canonical →
        Gives .standbyDelayExpiry s (fun t => t.flag Fd.SYS_MODE_STAT_PENDING = true ∧ t.fld Fd.SYS_MODE_STAT_TARGET = Mode.standby ∧
          t.pm.stbyReq = true ∧ t.pm.ownReq = true ∧ t.mode = s.mode))) ∧
    (s.powered = false ∨ s.pm.stbyReq = true ∨ s.cyc < c + s.fld Fd.PWR_WAKE_CFG_DELAY * cycS → Idle .standbyDelayExpiry s)) ∧
  (∀ s : State,
    (s.flag Fd.SYS_MODE_STAT_PENDING = true → s.pm.deferred = true → stationary s = true → s.noPf = true →
      s.mode ∈ [Mode.road, Mode.service, Mode.safeStop] → exec .stationaryStandby s = .next (standbyStart s)) ∧
    (s.flag Fd.SYS_MODE_STAT_PENDING = false ∨ s.pm.deferred = false ∨ stationary s = false → Idle .stationaryStandby s)) ∧
  (∀ s : State,
    let pm := { s.pm with wakeLow := none, stbyReq := false, ownReq := false, ownEnd := false }
    (s.pm.pf = none → s.pm.ownReq = false → s.pm.ownEnd = false → exec .standbyCancel s = .next (s.setPm pm)) ∧
    (s.pm.pf = none → s.pm.ownReq = true → s.flag Fd.SYS_MODE_STAT_PENDING = true → s.canonical → Gives .standbyCancel s (fun t =>
      t.flag Fd.SYS_MODE_STAT_PENDING = false ∧ t.fld Fd.SYS_MODE_STAT_RESULT = Code.refused ∧ t.mode = s.mode ∧
      t.pm = { pm with deferred := false, ramping := false } ∧ OnlyParts [.regs, .flr, .pm] s t)) ∧
    (s.pm.pf = none → s.pm.ownEnd = true → s.mode = Mode.unloadSync → Gives .standbyCancel s (fun t =>
      t.flr.unlEnd = none ∧ t.pm.ownEnd = false ∧ t.mode = s.mode)) ∧
    (∀ p, s.pm.pf = some p → p.stby = true → exec .standbyCancel s = .next (s.setPm { s.pm with pf := some { p with back := true } })) ∧
    (∀ p, s.pm.pf = some p → p.stby = false → Idle .standbyCancel s))

/-- Coordinated unloading (R348, R349): arming takes the identity and START and begins PHASE 1; in the frame before START the link processor asks
for UNLOAD_SYNC or calls the unload off; END is SFN + 3 or an earlier one in force; in the frame before END it asks for the originating mode; a lost
partner is reported. -/
def Obligations.Unloading : Prop :=
  (∀ (id start : Word) (partner : Fin 64) (s : State), s.canonical →
    let first := s.flag Fd.FLR_UNL_CFG_ARM = false ∧ s.mode ≠ Mode.unloadSync
    Gives (.unloadArm id start partner) s (fun t => t.reg Ra.FLR_UNL_ID = id ∧ t.reg Ra.FLR_UNL_START = start ∧ t.flag Fd.FLR_UNL_CFG_ARM = true ∧
      t.fld Fd.FLR_UNL_CFG_PARTNER = partner ∧
      (first → t.fld Fd.FLR_UNL_STAT_PHASE = 1 ∧ t.fld Fd.FLR_UNL_STAT_CODE = Code.ok ∧ t.flr = { s.flr with part := [], partSf := none, unlEnd := none }) ∧
      (¬ first → t.reg Ra.FLR_UNL_STAT = s.reg Ra.FLR_UNL_STAT ∧ t.flr = s.flr) ∧
      OnlyRegs [Ra.FLR_UNL_ID, Ra.FLR_UNL_START, Ra.FLR_UNL_CFG, Ra.FLR_UNL_STAT] s t ∧ OnlyParts [.regs, .flr] s t)) ∧
  (∀ s : State,
    let due := s.flag Fd.FLR_UNL_CFG_ARM = true ∧ s.fld Fd.FLR_UNL_STAT_PHASE = 1 ∧ frameBefore s (s.reg Ra.FLR_UNL_START).toNat = true
    (due → unloadReady s = true → s.flag Fd.SYS_MODE_STAT_PENDING = false → exec .unloadSyncCheck s = .next (modeRequest s 0x88#32)) ∧
    (due → unloadReady s = false ∨ s.flag Fd.SYS_MODE_STAT_PENDING = true → exec .unloadSyncCheck s =
      .next ((s.setFld Fd.FLR_UNL_STAT_PHASE 4).setFld Fd.FLR_UNL_STAT_CODE Code.refused)) ∧
    (¬ due → Idle .unloadSyncCheck s)) ∧
  (∀ s : State, s.mode = Mode.unloadSync → Gives .unloadEndRequest s (fun t =>
    t.flr.unlEnd = some (match s.flr.unlEnd with
      | some e => min e ((s.sfn + 3) % 2 ^ 32)
      | none => (s.sfn + 3) % 2 ^ 32) ∧
    t.regs = (s.setFld Fd.FLR_UNL_STAT_PHASE 3).regs ∧ OnlyParts [.regs, .flr] s t)) ∧
  (∀ s : State, s.mode ≠ Mode.unloadSync → Idle .unloadEndRequest s) ∧
  (∀ (s : State) (e : Nat), s.flr.unlEnd = some e → s.mode = Mode.unloadSync → frameBefore s e = true → s.flag Fd.SYS_MODE_STAT_PENDING = false →
    exec .unloadExitRequest s = .next (modeRequest s (BitVec.ofNat 32 (0x80 + s.pm.orig)))) ∧
  (∀ s : State, s.flr.unlEnd = none ∨ s.mode ≠ Mode.unloadSync ∨ s.flag Fd.SYS_MODE_STAT_PENDING = true → Idle .unloadExitRequest s) ∧
  (∀ s : State, s.mode = Mode.unloadSync → 3 ≤ partSilent s ∨ partPhase s = 4 → Gives .partnerLoss s (fun t => t.flr.lossRep = true ∧
    t.regs = s.regs ∧ OnlyParts [.flr] s t)) ∧
  (∀ s : State, s.mode = Mode.unloadSync → partSilent s < 3 → partPhase s ≠ 4 → Idle .partnerLoss s)

/-- Supplies and temperature (R553, R557, R558, R562–R566): stud losses and returns show with their events, and with both studs lost the power-fail
sequence begins; level crossings show in PWR_SUP_STAT with what follows them; a site's temperature in its register, the stage and the clocks it sets, and
OUT_HIGH with its hysteresis. -/
def Obligations.SuppliesAndHeat : Prop :=
  (∀ (g : Fin 2) (v : Byte) (s : State), s.canonical →
    let lost := if g.val = 0 then Fd.PWR_GND_STAT_GND1_LOST else Fd.PWR_GND_STAT_GND2_LOST
    let other := if g.val = 0 then Fd.PWR_GND_STAT_GND2_LOST else Fd.PWR_GND_STAT_GND1_LOST
    let volt := if g.val = 0 then Fd.PWR_GND_STAT_GND1_V else Fd.PWR_GND_STAT_GND2_V
    let t := logEvent ((s.setFlag lost true).setFld volt v.toNat) Ev.inputFault Src.unit (62 + g.val) 5
    (50 < v.toInt.natAbs → s.powered = true → s.flag lost = false →
      (s.flag other = false ∨ s.noPf = false → exec (.groundStudLoss g v) s = .next t) ∧
      (s.flag other = true → s.noPf = true → exec (.groundStudLoss g v) s =
        .next (pfBegin t (10 * s.fld Fd.PWR_SUP_STAT_LOGIC_MV) (s.fld Fd.PWR_STAT_RESERVE_J) false))) ∧
    (v.toInt.natAbs ≤ 50 ∨ s.powered = false ∨ s.flag lost = true → Idle (.groundStudLoss g v) s) ∧
    (v.toInt.natAbs ≤ 20 → s.flag lost = true →
      exec (.groundStudReturn g v) s = .next (logEvent ((s.setFlag lost false).setFld volt v.toNat) Ev.inputOk Src.unit (62 + g.val) 0)) ∧
    (20 < v.toInt.natAbs ∨ s.flag lost = false → Idle (.groundStudReturn g v) s)) ∧
  (∀ (k : Fin 24) (valid : Bool) (x : Half) (s : State), s.canonical →
    let t := siteRead s k valid x.toNat
    (s.powered = true → exec (.thermalSiteRead k valid x) s = .next (thermalBack (thermalOff t))) ∧
    (s.powered = true → hotSite t = none → s.pm.hot = false → exec (.thermalSiteRead k valid x) s = .next t) ∧
    (s.powered = false → Idle (.thermalSiteRead k valid x) s) ∧
    (smGet {} t.pm.sites k).inval = (if valid then 0 else min 10 ((smGet {} s.pm.sites k).inval + 1)) ∧
    t.flag (Fd.THM_SITE_VALID k) = valid ∧ t.fld (Fd.THM_SITE_TEMP k) = (if valid then x.toNat else s.fld (Fd.THM_SITE_TEMP k)) ∧
    (∀ j, j ≠ k.val → smGet {} t.pm.sites j = smGet {} s.pm.sites j) ∧ OnlyParts [.regs, .pm, .evr, .tab, .rpl] s t) ∧
  (∀ s : State, s.canonical →
    (s.atFrame = true → s.powered = true → stageNext s ≠ s.fld Fd.THM_STAT_STAGE →
      Gives .throttleStageChange s (fun t => t.fld Fd.THM_STAT_STAGE = stageNext s % 4 ∧ t.flag Fd.CLK_DOM_STAT_MP_HALF = decide (1 ≤ stageNext s) ∧
        t.fld Fd.CLK_DOM_STAT_APP_DIV = stageNext s % 4 ∧ t.fld Fd.CLK_DOM_STAT_INF_SKIP = stageNext s % 4 ∧ t.pm.stageCyc = s.cyc ∧
        OnlyRegs [Ra.THM_STAT, Ra.CLK_DOM_STAT, Ra.THM_HIST 4, Ra.THM_HIST (1 + stageNext s)] s t ∧ OnlyParts [.regs, .pm] s t)) ∧
    (s.atFrame = false ∨ s.powered = false ∨ stageNext s = s.fld Fd.THM_STAT_STAGE → Idle .throttleStageChange s)) ∧
  (∀ (w : Half) (s : State),
    (3000 < w.toNat → exec (.outHighChange w) s = .next ((s.setFld Fd.THM_PWR_OUT w.toNat).setFlag Fd.THM_STAT_OUT_HIGH true)) ∧
    (w.toNat ≤ 2800 → exec (.outHighChange w) s = .next ((s.setFld Fd.THM_PWR_OUT w.toNat).setFlag Fd.THM_STAT_OUT_HIGH false)) ∧
    (2800 < w.toNat → w.toNat ≤ 3000 → exec (.outHighChange w) s = .next (s.setFld Fd.THM_PWR_OUT w.toNat))) ∧
  (∀ (inp : Fin 3) (on : Bool) (mv : Half) (s : State),
    let s' := supShow s inp mv.toNat
    let ov := supBit s' Fd.PWR_SUP_STAT_OV inp on
    let rev := supBit s' Fd.PWR_SUP_STAT_REV inp on
    exec (.supplyLevelCrossing inp 0 on mv) s = .next (if inp = 1 ∧ on = true then lswOv ov else ov) ∧
    exec (.supplyLevelCrossing inp 1 on mv) s = .next (supBit s' Fd.PWR_SUP_STAT_LOW inp on) ∧
    (inp = 0 → exec (.supplyLevelCrossing inp 2 on mv) s = .next s' ∧
      exec (.supplyLevelCrossing inp 3 on mv) s = .next (if on = true ∧ s'.mode = Mode.standby then s'.setFld Fd.SYS_MODE_STAT_MODE Mode.off else s')) ∧
    (inp = 1 → exec (.supplyLevelCrossing inp 2 on mv) s = .next (s'.setPm { s'.pm with batALow := on }) ∧
      exec (.supplyLevelCrossing inp 3 on mv) s = .next (lswReverse rev on)) ∧
    (inp = 2 → exec (.supplyLevelCrossing inp 2 on mv) s = .next (batBChange (s'.setPm { s'.pm with batBLow := on })) ∧
      exec (.supplyLevelCrossing inp 3 on mv) s = .next (batBChange rev)))

/-! ### Crop sensing (R161–R175) -/

/-- Crop sensing (R161, R163, R164, R167, R170, R173–R175). A change of an input's level is an edge, stamped in DT and taken by the boundary 1 µs later; it
counts and is timed as its channel's mode says; 10 s without one report no frequency; an impact counts while armed and is suppressed within the dead
time; a confirmed fault clears VALID and one that has gone sets it; an overcurrent opens the burden, a reference and a supply fault show on every channel
they concern; an intrusive test is taken by the table at a frame boundary, holds its sources not valid, and ends with its result. -/
def Obligations.CropSensing : Prop :=
  (∀ (n : Fin 48) (open_ : Bool) (v : Half) (off : Fin 8192) (s : State), s.canonical →
    let x := s.snU n
    let level := if open_ then pulled s n else some v.toNat
    (level = none → Idle (.inputEdge n open_ v off) s) ∧
    (∀ mv, level = some mv → pinLevel s n x.pin mv = x.pin → Idle (.inputEdge n open_ v off) s) ∧
    (∀ mv, level = some mv → pinLevel s n x.pin mv ≠ x.pin → Gives (.inputEdge n open_ v off) s (fun t => t.snU n = { x with pin := !x.pin } ∧
      t.uin.edges = s.uin.edges ++ [{ ch := n, high := !x.pin, cyc := s.clk.cyc + off, dt := s.dtSub off }] ∧
      (∀ u, u ≠ n.val → t.snU u = s.snU u) ∧ OnlyParts [.uin] s t))) ∧
  (∀ (s : State) (e : PinEdge), s.uin.edges = [e] →
    (e.cyc + cycUs ≤ s.clk.cyc → edgesTake s = edgeAct (s.setUin { s.uin with edges := [] }) e) ∧ (s.clk.cyc < e.cyc + cycUs → edgesTake s = s)) ∧
  (∀ (s : State) (e : PinEdge), s.canonical →
    let a := e.ch / 2 * 2
    let x := s.snU e.ch
    let y := (edgeAct s e).snU e.ch
    let quad := uinMode s a = 9 ∧ snEn s a = true
    let freq := snEn s e.ch = true ∧ (uinMode s e.ch = 7 ∨ uinMode s e.ch = 10)
    let sel := s.fld (Fd.UIN_CH_CFG_EDGE e.ch)
    let timed := if sel = 1 then e.high = false else e.high = true
    (y.level = e.high ∧ y.digCyc = e.cyc) ∧
    (quad → ((edgeAct s e).snU a).edges = (s.snU a).edges +
      (if e.ch = a then (if e.high ≠ (s.snU (a + 1)).level then 1 else -1) else (if e.high = (s.snU a).level then 1 else -1))) ∧
    (¬ quad → freq → (sel = 2 ∨ timed → y.edges = x.edges + 1) ∧ (sel ≠ 2 → ¬ timed → y.edges = x.edges) ∧
      (timed → y.edgeDt = some e.dt ∧ ∀ t, x.edgeDt = some t → y.per = clampN 1 0x7FFFFFFF ((e.dt - t) * 4 / 25)) ∧
      (¬ timed → y.edgeDt = x.edgeDt ∧ y.per = x.per)) ∧
    (¬ quad → ¬ freq → y.edges = x.edges)) ∧
  (∀ (n : Fin 48) (s : State),
    let x := s.snU n
    let out := snEn s n = true ∧ (uinMode s n = 7 ∨ uinMode s n = 10) ∧ x.per ≠ 0 ∧ x.edgeCyc + 10 * cycS ≤ s.cyc
    (out → exec (.freqEdgeTimeout n) s = .next (s.setSnU n { x with per := 0x7FFFFFFF, edgeDt := none })) ∧
    (¬ out → Idle (.freqEdgeTimeout n) s)) ∧
  (∀ (n : Fin 8) (env : Half) (off : Fin 8192) (s : State), s.canonical →
    let u := 52 + n.val
    let x := s.snU u
    let now := s.clk.cyc + off.val
    let past := x.hitCyc + losDead s n ≤ now
    let armed := x.disarmed = false ∨ (x.fell = true ∧ past)
    let runs := snEn s u = true ∧ snHeld s u = false
    (env.toNat ≤ losThr s n ∨ ¬ runs → Idle (.losImpact n env off) s) ∧
    (losThr s n < env.toNat → runs → Gives (.losImpact n env off) s (fun t =>
      (armed → t.snU u = { x with disarmed := true, fell := false, hitCyc := now, imp := x.imp + 1, cumImp := (x.cumImp + 1) % 2 ^ 32, peak := max x.peak env.toNat }) ∧
      (¬ armed → x.fell = true → t.snU u = { x with fell := false, sup := x.sup + 1, cumSup := (x.cumSup + 1) % 2 ^ 32, peak := max x.peak env.toNat }) ∧
      (¬ armed → x.fell = false → t.snU u = { x with peak := max x.peak env.toNat }) ∧ OnlyParts [.uin] s t)) ∧
    (losLow s n ≤ env.toNat ∨ ¬ runs → Idle (.losRearm n ⟨env, off⟩) s) ∧
    (env.toNat < losLow s n → runs → Gives (.losRearm n ⟨env, off⟩) s (fun t => (t.snU u).disarmed = (x.disarmed && !decide past) ∧
      (t.snU u).fell = (x.disarmed && !decide past) ∧ (t.snU u).imp = x.imp ∧ (t.snU u).sup = x.sup ∧ OnlyParts [.uin] s t))) ∧
  (∀ (u : Fin 60) (s : State), s.canonical →
    let x := s.snU u
    (snConf s u ≤ x.bad → s.fld (snFault u) ≠ x.cand → Gives (.inputFault u) s (fun t => t.fld (snFault u) = x.cand % 2 ^ (snFault u).width ∧
      t.flag (snValid u) = false ∧ (s.rpl.live = none → ∀ q, q < snQuants u → (t.pubAt (snKey u q)).valid = false) ∧
      (∀ w, w < 60 → w ≠ u.val → t.fld (snFault w) = s.fld (snFault w)) ∧ OnlyParts [.regs, .pub, .evr, .tab, .rpl] s t)) ∧
    (x.bad < snConf s u ∨ s.fld (snFault u) = x.cand → Idle (.inputFault u) s) ∧
    (snConf s u ≤ x.good → s.fld (snFault u) ≠ 0 → Gives (.inputOk u) s (fun t => t.fld (snFault u) = 0 ∧ t.flag (snValid u) = true ∧
      (∀ w, w < 60 → w ≠ u.val → t.fld (snFault w) = s.fld (snFault w)) ∧ OnlyParts [.regs, .pub, .evr, .tab, .rpl] s t)) ∧
    (x.good < snConf s u ∨ s.fld (snFault u) = 0 → Idle (.inputOk u) s)) ∧
  (∀ (n : Fin 48) (ua : Word) (s : State), s.canonical →
    let high := snEn s n = true ∧ uinMode s n = 5 ∧ (s.snU n).burden = none ∧ 30000 < ua.toNat
    (high → Gives (.i25Overcurrent ⟨n, ua⟩) s (fun t =>
      (t.snU n).burden = some (s.clk.cyc + 100 * cycMs) ∧ t.fld (snFault n) = 4 ∧ t.flag (snValid n) = false ∧
      (∀ u, u < 60 → u ≠ n.val → t.fld (snFault u) = s.fld (snFault u)) ∧ OnlyParts [.regs, .uin, .pub, .evr, .tab, .rpl] s t)) ∧
    (¬ high → Idle (.i25Overcurrent ⟨n, ua⟩) s) ∧
    (∀ x, (s.snU n).burden = some x →
      (x ≤ s.clk.cyc → exec (.i25BurdenRestore n) s = .next (s.setSnU n { s.snU n with burden := none })) ∧
      (s.clk.cyc < x → Idle (.i25BurdenRestore n) s)) ∧
    ((s.snU n).burden = none → Idle (.i25BurdenRestore n) s)) ∧
  (∀ (g : Fin 6) (s : State), s.canonical →
    (3 ≤ smGet 0 s.uin.refs g → Gives (.referenceFault g) s (fun t =>
      (∀ u, u / 8 = g.val → t.fld (snFault u) = 6) ∧
      (∀ u, u < 60 → u / 8 ≠ g.val → t.fld (snFault u) = s.fld (snFault u)) ∧ OnlyParts [.regs, .pub, .evr, .tab, .rpl] s t)) ∧
    (smGet 0 s.uin.refs g < 3 → Idle (.referenceFault g) s)) ∧
  (∀ (n : Fin 4) (mv us : Word) (s : State), s.canonical →
    let tied := fun (u : Nat) => s.flag (Fd.UIN_CH_CFG_SUPTIE u) = true ∧ s.fld (Fd.UIN_CH_CFG_SUP u) = n.val
    let trips := fun (c : Instr) (at_ : Prop) (kind : Nat) =>
      (at_ → supOn s n = true → Gives c s (fun t => t.fld (Fd.UIN_SUP_STAT_FAULT n) = kind ∧
        (∀ u, u < 48 → tied u → t.fld (snFault u) = 5 ∧ t.flag (snValid u) = false) ∧
        (∀ u, u < 60 → ¬ tied u ∨ 48 ≤ u → t.fld (snFault u) = s.fld (snFault u)) ∧ OnlyParts [.regs, .pub, .evr, .tab, .rpl] s t)) ∧
      (¬ at_ ∨ supOn s n = false → Idle c s)
    trips (.supplyCurrentTrip ⟨n, mv, us⟩) (10000 ≤ us.toNat) 1 ∧
    trips (.supplyBatteryShort ⟨n, mv, us⟩) (supSet s n + 1000000 < 1000 * mv.toNat ∧ 1000 ≤ us.toNat) 2 ∧
    (supTested s n = false → Gives (.supplyRestart n) s (fun t => t.flag (Fd.UIN_SUP_CFG_EN n) = true ∧ t.fld (Fd.UIN_SUP_STAT_FAULT n) = 0 ∧
      t.fld (Fd.UIN_SUP_CFG_VSEL n) = s.fld (Fd.UIN_SUP_CFG_VSEL n) ∧ OnlyParts [.regs, .uin] s t)) ∧
    (supTested s n = true → Gives (.supplyRestart n) s (fun t =>
      smGet none t.uin.held (Ra.UIN_SUP_CFG n) = some (s.reg (Ra.UIN_SUP_CFG n) ||| 0x80000000#32) ∧ OnlyParts [.uin] s t))) ∧
  (∀ s : State, s.canonical →
    let asks := fun (c : Instr) (test unit shown : Nat) =>
      (testFits s test unit = false → exec c s = .next (s.setFld Fd.UIN_TEST_RES_CODE Code.badArgument)) ∧
      (testFits s test unit = true → s.uin.test.isSome = true → exec c s = .next (s.setFld Fd.UIN_TEST_RES_CODE Code.refused)) ∧
      (testFits s test unit = true → s.uin.test = none → Gives c s (fun t => t.fld Fd.UIN_TEST_RES_CODE = Code.ok ∧
        t.flag Fd.UIN_TEST_RES_PENDING = true ∧ t.fld Fd.UIN_TEST_RES_UNIT = shown ∧ t.fld Fd.UIN_TEST_RES_TEST = test ∧
        t.flag Fd.UIN_TEST_RES_PASS = false ∧ t.uin = { s.uin with test := some { test := test, unit := unit } } ∧
        (∀ u ∈ testUnits s test unit, u < 52 → t.flag (snPend u) = true) ∧
        OnlyRegs (Ra.UIN_TEST_RES :: (testUnits s test unit).map snStat) s t ∧ OnlyParts [.regs, .uin] s t))
    (∀ n : Fin 48, asks (.openTest n) 1 n n) ∧ (∀ n : Fin 4, asks (.supplyTest n) 2 n 61) ∧ (∀ n : Fin 4, asks (.bridgeTest n) 3 (48 + n.val) (48 + n.val)) ∧
    (∀ n : Fin 8, asks (.piezoTest n) 4 (52 + n.val) (52 + n.val)) ∧ asks .imuTest 5 60 60) ∧
  (∀ (busySaf busy : Bool),
    (∀ m ∈ [Mode.service, Mode.activate, Mode.safeStop], testCode m busySaf busy = Code.ok) ∧ testCode Mode.replay busySaf busy = Code.refused ∧
    testCode Mode.road false busy = Code.ok ∧
    (∀ m ∈ [Mode.fieldManual, Mode.fieldAssist], testCode m false true = Code.deferred ∧ testCode m false false = Code.ok) ∧
    (∀ m ∈ [Mode.fieldAuto, Mode.unloadSync], testCode m false true = Code.refused ∧ testCode m false false = Code.ok) ∧
    (∀ m ∈ [Mode.road, Mode.fieldManual, Mode.fieldAssist, Mode.fieldAuto, Mode.unloadSync], testCode m true busy = Code.refused)) ∧
  (∀ (s : State) (pass : Bool), s.canonical →
    (s.uin.test = none → Idle .senseTestStart s ∧ Idle (.senseTestEnd pass) s) ∧
    (∀ x, s.uin.test = some x → x.unit < 61 →
      let code := testCode s.mode (testBusySaf s x.test x.unit) (testBusy s x.test x.unit)
      let idle := s.mode = Mode.service ∨ s.mode = Mode.road ∨ testBusy s x.test x.unit = false
      (x.running = true ∨ s.liveTick % 200 ≠ 0 ∨ (x.deferred = true ∧ ¬ idle) → Idle .senseTestStart s) ∧
      (x.running = false → s.liveTick % 200 = 0 →
        (x.deferred = false → code = Code.refused → Gives .senseTestStart s (fun t => t.uin = { s.uin with test := none } ∧
          t.fld Fd.UIN_TEST_RES_CODE = Code.refused ∧ t.flag Fd.UIN_TEST_RES_PENDING = false ∧ OnlyParts [.regs, .uin] s t)) ∧
        (x.deferred = false → code = Code.deferred → Gives .senseTestStart s (fun t => t.uin = { s.uin with test := some { x with deferred := true } } ∧
          t.fld Fd.UIN_TEST_RES_CODE = Code.deferred ∧ OnlyRegs [Ra.UIN_TEST_RES] s t ∧ OnlyParts [.regs, .uin] s t)) ∧
        ((x.deferred = false ∧ code = Code.ok) ∨ (x.deferred = true ∧ idle) →
          Gives .senseTestStart s (fun t => t.uin = { s.uin with test := some { x with running := true, at_ := s.liveTick } } ∧
            t.flag Fd.UIN_TEST_RES_RUNNING = true ∧ t.flag Fd.UIN_TEST_RES_PENDING = false ∧ t.fld Fd.UIN_TEST_RES_CODE = Code.ok ∧
            (s.rpl.live = none → ∀ k ∈ testKeys s x.test x.unit, (t.pubAt k).valid = false ∧ (t.pubAt k).val = (s.pubAt k).val) ∧
            (∀ u ∈ testUnits s x.test x.unit, u < 60 → t.flag (snTesting u) = true ∧ t.flag (snValid u) = false) ∧
            OnlyParts [.regs, .uin, .pub, .rpl] s t))) ∧
      (x.running = true → x.at_ + testTicks s x.test x.unit ≤ s.liveTick → ∃ t, exec (.senseTestEnd pass) s = .next (testRelease t) ∧
        t.uin = { s.uin with test := none } ∧ t.flag Fd.UIN_TEST_RES_RUNNING = false ∧ t.flag Fd.UIN_TEST_RES_PASS = pass ∧
        (∀ u ∈ testUnits s x.test x.unit, u < 60 → t.flag (snTesting u) = false) ∧
        (x.test = 5 → (t.reg Ra.UIN_IMU_TEST_RES).toNat = b2n pass) ∧ OnlyParts [.regs, .uin] s t) ∧
      (x.running = false ∨ s.liveTick < x.at_ + testTicks s x.test x.unit → Idle (.senseTestEnd pass) s)))

/-! ### Cameras and the image pipeline (R265–R287) -/

/-- Camera links, frames, exposure commits and processing jobs (R265–R269, R276, R280, R282–R285). A link with room for its frames trains when
enabled and retrains 100 ms after a loss, which unlocks its pairs; disabling it ends its frames and jobs; a packet is used, marked or counted as its header,
channel and type say; a commit sends the shadow words under the next epoch and ends by the acknowledge or in a timeout; the idle path starts the best job,
and a job that waits past its deadline is dropped. -/
def Obligations.Cameras : Prop :=
  (∀ (n : Fin 6) (s : State), s.canonical →
    let tooBig := s.fld (Fd.CAM_LNK_RING_CFG_SLOTS n) < 4 ∨ s.fld (Fd.CAM_LNK_RING_CFG_SLOT_SIZE n) * 4096 < 64 + largestFrame s n ∨
      6 * 2 ^ 30 < enabledRings s + ringBytes s n
    (s.flag (Fd.CAM_LNK_CFG_EN n) = false →
      (tooBig → exec (.camLinkEnable n) s = .next (s.setFld (Fd.CAM_LNK_STAT_CODE n) Code.badArgument)) ∧
      (¬ tooBig → Gives (.camLinkEnable n) s (fun t => t.flag (Fd.CAM_LNK_CFG_EN n) = true ∧ t.flag (Fd.CAM_LNK_STAT_TRAINING n) = true ∧
        t.fld (Fd.CAM_LNK_STAT_CODE n) = Code.ok ∧ t.camSt n = { s.camSt n with lostCyc := s.clk.cyc } ∧
        OnlyRegs [Ra.CAM_LNK_CFG n, Ra.CAM_LNK_STAT n] s t ∧ OnlyParts [.regs, .cam] s t)) ∧
      Idle (.camLinkDisable n) s ∧ Idle (.linkTrained n) s ∧ Idle (.linkRetrain n) s) ∧
    (s.flag (Fd.CAM_LNK_STAT_TRAINING n) = false → Idle (.linkTrained n) s) ∧
    (s.flag (Fd.CAM_LNK_CFG_EN n) = true → Idle (.camLinkEnable n) s ∧
      Gives (.camLinkDisable n) s (fun t => t.flag (Fd.CAM_LNK_CFG_EN n) = false ∧ t.flag (Fd.CAM_LNK_STAT_UP n) = false ∧
        t.flag (Fd.CAM_LNK_STAT_TRAINING n) = false ∧ (∀ v, v < 4 → smGet none (t.camSt n).cur v = none) ∧ (∀ j ∈ t.cam.queue, j.cam ≠ n.val) ∧
        t.fld (Fd.CAM_MP_STAT_QUEUED n) = 0 ∧ OnlyParts [.regs, .mem, .clk, .cam, .evr, .tab, .rpl] s t) ∧
      (s.flag (Fd.CAM_LNK_STAT_TRAINING n) = true → Gives (.linkTrained n) s (fun t => t.flag (Fd.CAM_LNK_STAT_UP n) = true ∧
        t.flag (Fd.CAM_LNK_STAT_TRAINING n) = false ∧ OnlyParts [.regs, .cam, .evr, .tab, .rpl] s t)) ∧
      (s.flag (Fd.CAM_LNK_STAT_UP n) = false → s.since (s.camSt n).lostCyc (100 * cycMs) = true → Gives (.linkRetrain n) s (fun t =>
        t.flag (Fd.CAM_LNK_STAT_TRAINING n) = true ∧ (t.camSt n).lostCyc = s.clk.cyc ∧
        OnlyRegs [Ra.CAM_LNK_STAT n] s t ∧ OnlyParts [.regs, .cam] s t)) ∧
      (s.flag (Fd.CAM_LNK_STAT_UP n) = true ∨ s.since (s.camSt n).lostCyc (100 * cycMs) = false → Idle (.linkRetrain n) s)) ∧
    (s.flag (Fd.CAM_LNK_STAT_UP n) = true → Gives (.linkLost n) s (fun t => t.flag (Fd.CAM_LNK_STAT_UP n) = false ∧
      t.camSt n = { s.camSt n with lostCyc := s.clk.cyc, count := none } ∧
      (∀ p, p < 3 → s.flag (Fd.CAM_PAIR_CFG_EN p) = true → s.fld (Fd.CAM_PAIR_CFG_LEFT p) = n.val ∨ s.fld (Fd.CAM_PAIR_CFG_RIGHT p) = n.val →
        t.fld (Fd.CAM_PAIR_STAT_STATE p) ≠ 2) ∧ OnlyParts [.regs, .cam, .evr, .tab, .rpl] s t)) ∧
    (s.flag (Fd.CAM_LNK_STAT_UP n) = false → Idle (.linkLost n) s)) ∧
  (∀ (n : Fin 6) (ma : Half) (s : State), s.canonical →
    let poc := if camPower s n = false then 0 else if ma.toNat < 10 then 1 else if 480 < ma.toNat then 2 else 0
    let seen := fun (k : Nat) => Fd.CAM_SUPPLY_V (9 * n + 1 + k)
    Gives (.cameraSupplyFault n ma) s (fun t => t.fld (Fd.CAM_LNK_STAT_POC n) = poc ∧ t.fld (Fd.CAM_SUPPLY_V (9 * n)) = ma.toNat ∧
      (∀ k, 0 < k → k < 3 → t.fld (seen k) = if poc = k then satU 32 (s.fld (seen k) + 1) else s.fld (seen k)) ∧
      OnlyRegs [Ra.CAM_LNK_STAT n, Ra.CAM_SUPPLY (9 * n), Ra.CAM_SUPPLY (9 * n + 2), Ra.CAM_SUPPLY (9 * n + 3)] s t ∧ OnlyParts [.regs] s t)) ∧
  (∀ (n : Fin 6) (vc : Fin 4) (sub : Fin 8000) (s : State), s.canonical →
    let cur := smGet none (s.camSt n).cur vc
    (s.flag (Fd.CAM_LNK_STAT_UP n) = false → Idle (.csiFrameStart n vc sub) s ∧ Idle (.csiFrameEnd n vc sub) s) ∧
    (s.flag (Fd.CAM_LNK_STAT_UP n) = true → vcOn s n vc = false →
      exec (.csiFrameStart n vc sub) s = .next (s.count (Fd.CAM_LNK_STAT_DROP n)) ∧
      exec (.csiFrameEnd n vc sub) s = .next (s.count (Fd.CAM_LNK_STAT_DROP n))) ∧
    (s.flag (Fd.CAM_LNK_STAT_UP n) = true → vcOn s n vc = true → Gives (.csiFrameStart n vc sub) s (fun t =>
      (∃ f, smGet none (t.camSt n).cur vc = some f ∧ f.arrDt = s.dtSub sub ∧ f.arrCyc = s.clk.cyc + sub.val ∧ f.trig = camTrigOf s n (s.clk.cyc + sub.val) ∧
        f.lines = 0 ∧ f.bytes = 0 ∧ f.emb = false ∧ f.width = vcWidth s n vc ∧ bit f.flags ffHold = decide (s.timeState = tHoldover)) ∧
      OnlyParts [.regs, .mem, .clk, .cam, .evr, .tab, .rpl] s t)) ∧
    (s.flag (Fd.CAM_LNK_STAT_UP n) = true → vcOn s n vc = true → ∀ f, cur = some f →
      exec (.csiFrameStart n vc sub) s = .next (beginFrame (endFrame s n vc sub (2 ^ ffTrunc) f) n vc sub)) ∧
    (vcOn s n vc = true → cur = none → Idle (.csiFrameEnd n vc sub) s) ∧
    (s.flag (Fd.CAM_LNK_STAT_UP n) = true → vcOn s n vc = true → ∀ f, cur = some f → Gives (.csiFrameEnd n vc sub) s (fun t => smGet none (t.camSt n).cur vc = none ∧
      t.fld (Fd.CAM_LNK_RING_WR_V n) = f.slot % 2 ^ 32 ∧ (vc.val = s.fld (Fd.CAM_LNK_CFG_TVC n) → t.fld (Fd.CAM_EXP_EPOCH_LAST n) = f.epoch % 65536) ∧
      OnlyParts [.regs, .mem, .clk, .cam, .evr, .tab, .rpl] s t))) ∧
  (∀ (n : Fin 6) (vc : Fin 4) (dt : Byte) (hdr : Fin 3) (crcOk full : Bool) (data : List Byte) (s : State), s.canonical →
    let c := Instr.csiLine n vc dt hdr crcOk full data
    let cur := smGet none (s.camSt n).cur vc
    let e := if hdr.val = 0 then s else s.count (Fd.CAM_LNK_ERR0_V n)
    let e := if crcOk then e else e.count (Fd.CAM_LNK_ERR1_V n)
    let with_ := fun (f : CamFrame) => e.setCamSt n { s.camSt n with cur := smPut none (s.camSt n).cur vc (some f) }
    let drops := exec c s = .next (e.count (Fd.CAM_LNK_STAT_DROP n))
    let passes := exec c s = .next e
    (s.flag (Fd.CAM_LNK_STAT_UP n) = false → Idle c s) ∧
    (s.flag (Fd.CAM_LNK_STAT_UP n) = true →
      (hdr.val = 2 → (cur = none → drops) ∧
        ∀ f, cur = some f → exec c s = .next ((with_ { f with flags := setFF f.flags ffTrunc }).count (Fd.CAM_LNK_STAT_DROP n))) ∧
      (hdr.val ≠ 2 → vcOn s n vc = false → drops) ∧
      (hdr.val ≠ 2 → vcOn s n vc = true →
        (dt.toNat = 2 ∨ dt.toNat = 3 → passes) ∧
        (dt.toNat ≠ 2 → dt.toNat ≠ 3 → (cur = none → drops) ∧ ∀ f, cur = some f →
          (dt.toNat = 0x12 → f.emb = true → passes) ∧
          (dt.toNat = 0x12 → f.emb = false → Gives c s (fun t =>
            let count := unwrap32 (s.camSt n).count (embNum s n data (s.fld (Fd.CAM_LNK_EMB_TS_OFS n)) 4)
            (t.camSt n).count = some count ∧
            smGet none (t.camSt n).cur vc = some { f with
              emb := true
              sensT := count * s.fld (Fd.CAM_LNK_TSC_V n) / 1000
              fcnt := embNum s n data (s.fld (Fd.CAM_LNK_EMB_FC_OFS n)) 4
              epoch := embNum s n data (s.fld (Fd.CAM_LNK_EMB_EP_OFS n)) 2 } ∧ OnlyParts [.regs, .clk, .cam, .evr, .tab, .rpl] s t)) ∧
          (dt.toNat ≠ 0x12 → dt.toNat ≠ f.type → drops) ∧
          (dt.toNat ≠ 0x12 → dt.toNat = f.type →
            let room := full = false ∧ 64 + f.bytes + data.length ≤ camSlotSize s n
            Gives c s (fun t => ∃ g, smGet none (t.camSt n).cur vc = some g ∧ g.lines = f.lines + 1 ∧
              bit g.flags ffCrc = (bit f.flags ffCrc || !crcOk) ∧ bit g.flags ffOvf = (bit f.flags ffOvf || full) ∧
              bit g.flags ffSize = (bit f.flags ffSize || decide (linePixels f.type data.length ≠ vcWidth s n vc)) ∧
              (room → g.bytes = f.bytes + data.length ∧
                t.mem = (writeIova e (camInit n) (camSlotAddr s n f.slot + 64 + f.bytes) data).mem) ∧
              (¬ room → g.bytes = f.bytes ∧ t.mem = s.mem) ∧ OnlyParts [.regs, .mem, .cam] s t)))))) ∧
  (∀ (n : Fin 6) (s : State), s.canonical →
    let blocked := s.flag (Fd.CAM_EXP_STAT_PENDING n) = true ∨ s.flag (Fd.CAM_LNK_STAT_UP n) = false
    let epoch := if (s.camSt n).epochN = 65535 then 1 else (s.camSt n).epochN + 1
    let r := s.fld (Fd.CAM_EXP_CTL_EPOCH_REG n)
    let i2c := fun (a v : Nat) => BitVec.ofNat 32 ((if s.flag (Fd.CAM_EXP_CTL_AW16 n) then a % 65536 else a % 256) * 2 ^ 16 +
      s.fld (Fd.CAM_EXP_CTL_DEV n) * 2 ^ 8 + v % 256)
    (blocked → exec (.exposureCommit n) s = .next (s.setFld (Fd.CAM_EXP_STAT_CODE n) Code.refused)) ∧
    (¬ blocked → Gives (.exposureCommit n) s (fun t => t.flag (Fd.CAM_EXP_STAT_PENDING n) = true ∧
      t.camSt n = { s.camSt n with
        epochN := epoch
        commit := some (epoch, s.clk.cyc)
        sent := (List.range (min 8 (s.fld (Fd.CAM_EXP_CTL_COUNT n)))).map (fun k =>
            i2c (bits (s.reg (Ra.CAM_EXP_W n k)).toNat 16 16) (s.reg (Ra.CAM_EXP_W n k)).toNat) ++ [i2c r (epoch / 256), i2c (r + 1) epoch] } ∧
      OnlyRegs [Ra.CAM_EXP_STAT n] s t ∧ OnlyParts [.regs, .cam] s t)) ∧
    ((s.camSt n).commit = none → (∀ sub, Idle (.exposureAck n sub) s) ∧ ∀ nack, Idle (.exposureTimeout n nack) s) ∧
    (∀ e c, (s.camSt n).commit = some (e, c) →
      (∀ sub : Fin 8000, Gives (.exposureAck n sub) s (fun t => t.reg64 (Ra.CAM_EXP_ACK_DT_LO n) (Ra.CAM_EXP_ACK_DT_HI n) = s.dtSub sub % 2 ^ 64 ∧
        t.fld (Fd.CAM_EXP_EPOCH_ACKED n) = e % 65536 ∧ t.fld (Fd.CAM_EXP_STAT_CODE n) = Code.ok ∧ t.flag (Fd.CAM_EXP_STAT_PENDING n) = false ∧
        t.camSt n = { s.camSt n with commit := none } ∧ OnlyRegs [Ra.CAM_EXP_ACK_DT_LO n, Ra.CAM_EXP_ACK_DT_HI n, Ra.CAM_EXP_EPOCH n, Ra.CAM_EXP_STAT n, Ra.CAM_INT_PEND 4] s t ∧
        OnlyParts [.regs, .cam] s t)) ∧
      (∀ nack : Bool, (nack = true ∨ s.since c (2 * cycMs) = true → Gives (.exposureTimeout n nack) s (fun t =>
          t.fld (Fd.CAM_EXP_STAT_CODE n) = Code.timeout ∧ t.flag (Fd.CAM_EXP_STAT_PENDING n) = false ∧ t.camSt n = { s.camSt n with commit := none } ∧
          OnlyRegs [Ra.CAM_EXP_STAT n] s t ∧ OnlyParts [.regs, .cam] s t)) ∧
        (nack = false → s.since c (2 * cycMs) = false → Idle (.exposureTimeout n nack) s)))) ∧
  (∀ s : State, s.canonical →
    (s.cam.run = none → s.cam.queue ≠ [] → Gives .mpJobStart s (fun t => ∃ j ∈ s.cam.queue, (∀ k ∈ s.cam.queue, jobBefore k j = false) ∧
      t.cam = { s.cam with
        queue := s.cam.queue.erase j
        run := some (j, ispSet s (s.fld (Fd.CAM_MP_CFG_SET j.cam)), s.clk.cyc + jobCycles s j) } ∧ OnlyParts [.regs, .cam] s t)) ∧
    (s.cam.run ≠ none ∨ s.cam.queue = [] → Idle .mpJobStart s) ∧
    (s.cam.run = none → Idle .mpJobComplete s) ∧
    (∀ j set e, s.cam.run = some (j, set, e) → (s.clk.cyc < e → Idle .mpJobComplete s) ∧
      (e ≤ s.clk.cyc → Gives .mpJobComplete s (fun t => t.cam = { s.cam with run := none } ∧ t.mem = (ispProcess s j set).mem ∧
        (∀ n, n < 6 → t.flag (Fd.CAM_MP_STAT_RUNNING n) = false) ∧ OnlyParts [.regs, .mem, .cam, .fus] s t))) ∧
    let late := fun (j : MpJob) => s.since j.ready (j.dead * cycUs)
    ((∀ j ∈ s.cam.queue, late j = false) → Idle .frameSkipped s) ∧
    let lost := s.cam.queue.filter late
    ((∀ j ∈ s.cam.queue, j.cam < 6) → Gives .frameSkipped s (fun t =>
      t.cam = { s.cam with queue := s.cam.queue.filter (fun j => !late j) } ∧ t.mem = (lost.foldl (fun a j => writeStats a j 1 []) s).mem ∧
      (∀ n, n < 6 → t.fld (Fd.CAM_MP_STAT_SKIPPED n) = satU 16 (s.fld (Fd.CAM_MP_STAT_SKIPPED n) + (lost.filter (fun j => j.cam == n)).length)) ∧
      OnlyParts [.regs, .mem, .cam] s t)) ∧
    (∀ n : Fin 6, Gives (.mpDisable n) s (fun t => t.flag (Fd.CAM_MP_CFG_EN n) = false ∧ t.fld (Fd.CAM_MP_STAT_QUEUED n) = 0 ∧
      t.cam = { s.cam with queue := s.cam.queue.filter (fun j => j.cam != n.val) } ∧ OnlyParts [.regs, .mem, .cam] s t))) ∧
  (∀ s : State, (s.cam.inlDone = none → Idle .inlineFrameComplete s) ∧ (∀ j set bad, s.cam.inlDone = some (j, set, bad) →
    Gives .inlineFrameComplete s (fun t => t.cam = { s.cam with inlDone := none } ∧
      t.mem = (if bad then writeStats s j 2 [] else ispProcess s j set).mem ∧ (bad = true → t.fus = s.fus) ∧ OnlyParts [.regs, .mem, .cam, .fus] s t)))

/-! ### Fusion (R288–R313) -/

/-- Fusion (R289, R298, R300, R301, R305, R312, R313). A hang halts the sequencer; a wheel is excluded after 200 ms of slip and restored after 1 s; an IMU
without VALID shows; the array runs at most four jobs, the best ready one first, and hands over results and aborts; a lidar scan is assembled from datagrams
in sequence, or discarded; a parallax commit is accepted in three modes. -/
def Obligations.Fusion : Prop :=
  (∀ s : State, s.canonical →
    (s.fus.running = true → s.flag Fd.FUS_STAT_FAILED = false → Gives .fusHang s (fun t => t.fus = { s.fus with running := false } ∧
      t.flag Fd.FUS_STAT_FAILED = true ∧ t.fld Fd.FUS_STAT_RUN = 0 ∧ (∀ x ∈ t.stage, x.key / 2 ^ 28 = 3 → x.v.valid = false ∧ x.tick = s.clk.tick + 1) ∧
      t.ctx 8 = none ∧ LogsOnly [.regs, .stage, .gw, .fus, .evr, .tab, .rpl] s t)) ∧
    (s.fus.running = false ∨ s.flag Fd.FUS_STAT_FAILED = true → Idle .fusHang s)) ∧
  (∀ (w : Fin 4) (s : State), s.canonical →
    let x := s.whlSt w
    (∀ c, x.offCyc = some c → x.excl = false → s.since c (200 * cycMs) = true → wheelOn s w = true → taskOn s 0 = true → Gives (.wheelSlip w) s (fun t =>
      t.fus = { s.fus with whl := smPut {} s.fus.whl w { x with excl := true } } ∧ t.fld (Fd.FUS_WHL_EXCL_V w) = 1 ∧
      t.fld (Fd.FUS_WHL_SLIPS_V w) = satU 32 (s.fld (Fd.FUS_WHL_SLIPS_V w) + 1) ∧ LogsOnly [.regs, .fus, .evr, .tab, .rpl] s t)) ∧
    (x.offCyc = none ∨ x.excl = true ∨ wheelOn s w = false ∨ taskOn s 0 = false ∨ (∃ c, x.offCyc = some c ∧ s.since c (200 * cycMs) = false) → Idle (.wheelSlip w) s) ∧
    (∀ c, x.okCyc = some c → x.excl = true → s.since c cycS = true → taskOn s 0 = true → Gives (.wheelRestored w) s (fun t =>
      t.fus = { s.fus with whl := smPut {} s.fus.whl w { x with excl := false } } ∧ t.fld (Fd.FUS_WHL_EXCL_V w) = 0 ∧
      LogsOnly [.regs, .fus, .evr, .tab, .rpl] s t)) ∧
    (x.okCyc = none ∨ x.excl = false ∨ taskOn s 0 = false ∨ (∃ c, x.okCyc = some c ∧ s.since c cycS = false) → Idle (.wheelRestored w) s)) ∧
  (∀ s : State,
    ((s.pubAt (snKey 60 0)).valid = false → s.fus.imuBad = none →
      exec .imuLost s = .next ((s.setFlag Fd.FUS_STAT_IMU_LOST true).setFus { s.fus with imuBad := some s.clk.cyc })) ∧
    ((s.pubAt (snKey 60 0)).valid = true ∨ s.fus.imuBad ≠ none → Idle .imuLost s)) ∧
  (∀ s : State,
    (s.fus.readyJ ≠ [] → s.fus.runJ.length < 4 → s.pm.hot = false → Gives .inferenceJobStart s (fun t => ∃ j ∈ s.fus.readyJ, (∀ k ∈ s.fus.readyJ, infBefore s k j = false) ∧
      t = s.setFus { s.fus with readyJ := s.fus.readyJ.erase j, runJ := s.fus.runJ ++ [j] })) ∧
    (s.fus.readyJ = [] ∨ 4 ≤ s.fus.runJ.length ∨ s.pm.hot = true → Idle .inferenceJobStart s)) ∧
  (∀ (j : Fin 8) (count : Half) (data : List Word) (s : State), s.canonical →
    ((∀ x ∈ s.fus.runJ, x.job ≠ j.val) → Idle (.inferenceResult j count data) s) ∧
    ((∃ x ∈ s.fus.runJ, x.job = j.val) → Gives (.inferenceResult j count data) s (fun t => ∃ x ∈ s.fus.runJ, x.job = j.val ∧
      let kind := s.fld (Fd.FUS_INF_JOB_CFG_KIND j)
      let p := infPayload kind count.toNat data
      let a := s.reg64 (Ra.FUS_INF_JOB_RING_LO j) (Ra.FUS_INF_JOB_RING_HI j) +
        (s.fld (Fd.FUS_INF_JOB_STAT_RESULTS j) + s.fld (Fd.FUS_INF_JOB_STAT_ABORTS j)) % (max 1 (s.fld (Fd.FUS_INF_JOB_RING_CFG_SLOTS j))) *
          (s.fld (Fd.FUS_INF_JOB_RING_CFG_SIZE j) * 4096)
      t.fus = { s.fus with
        runJ := s.fus.runJ.erase x
        waitR := s.fus.waitR ++ [{ kind := kind, src := j, status := 0, tM := x.tM, flags := x.flags, data := p.2, tick := s.liveTick + 1 }] } ∧
      t.mem = (writeIova (writeIova s 0x0F (a + 32) (p.2.flatMap (fun w => leBytes 4 w.toNat))) 0x0F a
        (leBytes 8 x.arrDt ++ leBytes 8 x.tM ++ leBytes 4 x.fcnt ++ leBytes 2 x.epoch ++ leBytes 1 kind ++ leBytes 1 0 ++ leBytes 2 p.1 ++
          leBytes 1 (x.flags % 4) ++ leBytes 5 0)).mem ∧
      t.fld (Fd.FUS_INF_JOB_STAT_RESULTS j) = satU 16 (s.fld (Fd.FUS_INF_JOB_STAT_RESULTS j) + 1) ∧
      OnlyRegs (Ra.FUS_INF_JOB_STAT j :: xferRegs) s t ∧ OnlyParts [.regs, .mem, .fus] s t))) ∧
  (∀ s : State, s.canonical → (∀ x ∈ s.fus.runJ ++ s.fus.readyJ, x.job < 8) →
    let late := (s.fus.runJ ++ s.fus.readyJ).filter (infLate s)
    Gives .inferenceDeadlineAbort s (fun t => t.fus = { s.fus with
        runJ := s.fus.runJ.filter (fun x => !infLate s x)
        readyJ := s.fus.readyJ.filter (fun x => !infLate s x)
        waitR := s.fus.waitR ++ late.map (fun x =>
          { kind := s.fld (Fd.FUS_INF_JOB_CFG_KIND x.job), src := x.job, status := 2, tM := x.tM, flags := x.flags, data := [], tick := s.liveTick + 1 }) } ∧
      (∀ j, j < 8 → t.fld (Fd.FUS_INF_JOB_STAT_ABORTS j) =
        satU 16 (s.fld (Fd.FUS_INF_JOB_STAT_ABORTS j) + (late.filter (fun x => x.job == j)).length)) ∧
      (late = [] → t = s) ∧ OnlyRegs ((List.range 8).map Ra.FUS_INF_JOB_STAT ++ xferRegs) s t ∧ OnlyParts [.regs, .mem, .fus] s t)) ∧
  (∀ (n : Fin 6) (sens : Long) (count : Byte) (last : Bool) (seq : Half) (recs : List Word) (sub : Fin 8000) (s : State), s.canonical →
    let c := Instr.lidarDatagram n sens count last seq recs sub
    let cur := smGet none s.fus.scan n
    let got := padTo 0 (8 * min 44 count.toNat) recs
    let nextSeq := (seq.toNat + 1) % 65536
    let off := smGet none s.fus.scanOff n = some sens.toNat
    (s.flag (Fd.FUS_SRC_CFG_EN n) = false ∨ off → Idle c s) ∧
    (s.flag (Fd.FUS_SRC_CFG_EN n) = true → ¬ off →
      (∀ x, cur = some x → x.sens = sens.toNat → seq.toNat ≠ x.next → Gives c s (fun t =>
        t.fus = { s.fus with scan := smPut none s.fus.scan n none, scanOff := smPut none s.fus.scanOff n (some x.sens) } ∧
        t.fld (Fd.FUS_SRC_STAT_DISCARDED n) = satU 16 (s.fld (Fd.FUS_SRC_STAT_DISCARDED n) + 1) ∧
        OnlyRegs [Ra.FUS_SRC_STAT n] s t ∧ OnlyParts [.regs, .fus] s t)) ∧
      (∀ x, cur = some x → x.sens = sens.toNat → seq.toNat = x.next → last = false →
        exec c s = .next (s.setFus { s.fus with scan := smPut none s.fus.scan n (some { x with next := nextSeq, recs := x.recs ++ got }) })) ∧
      (∀ x, cur = some x → x.sens = sens.toNat → seq.toNat = x.next → last = true → Gives c s (fun t =>
        t.fld (Fd.FUS_SRC_STAT_OBJECTS n) = satU 8 ((x.recs ++ got).length / 8) ∧ (∃ r, t.fus = { s.fus with
            scan := smPut none s.fus.scan n none
            waitR := s.fus.waitR ++ [r] } ∧
          r.kind = 0 ∧ r.src = n.val ∧ r.data = x.recs ++ got ∧ r.status = 0 ∧ r.tick = s.liveTick + 1 ∧
          r.flags = b2n (s.flag (Fd.CLK_STRM_STAT_SLIPPED (6 + n.val))) + 2 * b2n (s.timeState == tHoldover) ∧ r.tM = measTime s (6 + n.val) x.sens x.arrDt) ∧
        OnlyRegs [Ra.FUS_SRC_STAT n] s t ∧ OnlyParts [.regs, .fus] s t)) ∧
      (cur = none ∨ (∃ x, cur = some x ∧ x.sens ≠ sens.toNat) → Gives c s (fun t =>
        t.fld (Fd.FUS_SRC_STAT_DISCARDED n) =
          (if cur = none then s.fld (Fd.FUS_SRC_STAT_DISCARDED n) else satU 16 (s.fld (Fd.FUS_SRC_STAT_DISCARDED n) + 1)) ∧
        smGet none t.fus.scanOff n = none ∧ (last = false → t.fus.waitR = s.fus.waitR ∧ smGet none t.fus.scan n =
          some { sens := sens.toNat, first := s.clk.cyc, next := nextSeq, recs := got, arrDt := s.dtSub sub }) ∧
        (last = true → (∃ r, t.fus.waitR = s.fus.waitR ++ [r] ∧ r.kind = 0 ∧ r.src = n.val ∧ r.data = got ∧ r.tick = s.liveTick + 1) ∧
          smGet none t.fus.scan n = none ∧
          t.fld (Fd.FUS_SRC_STAT_OBJECTS n) = satU 8 (got.length / 8)) ∧
        OnlyParts [.regs, .clk, .fus, .evr, .tab, .rpl] s t)))) ∧
  (∀ (n : Fin 6) (s : State), s.canonical →
    (smGet none s.fus.scan n = none → Idle (.scanTimeout n) s) ∧ (∀ x, smGet none s.fus.scan n = some x →
      (s.since x.first (50 * cycMs) = true → Gives (.scanTimeout n) s (fun t =>
        t.fus = { s.fus with scan := smPut none s.fus.scan n none, scanOff := smPut none s.fus.scanOff n (some x.sens) } ∧
        t.fld (Fd.FUS_SRC_STAT_DISCARDED n) = satU 16 (s.fld (Fd.FUS_SRC_STAT_DISCARDED n) + 1) ∧
        OnlyRegs [Ra.FUS_SRC_STAT n] s t ∧ OnlyParts [.regs, .fus] s t)) ∧
      (s.since x.first (50 * cycMs) = false → Idle (.scanTimeout n) s))) ∧
  (∀ s : State,
    (s.cmdMode ∈ [Mode.service, Mode.road, Mode.fieldManual] →
      exec .parallaxCommit s = .next ((s.setFld Fd.FUS_PAR_STAT_CODE Code.ok).setFus { s.fus with parPend := true })) ∧
    (s.cmdMode ∉ [Mode.service, Mode.road, Mode.fieldManual] → exec .parallaxCommit s = .next (s.setFld Fd.FUS_PAR_STAT_CODE Code.refused)))

/-! ### Device time (R36–R52, R575) -/

/-- The steering loop's answer to a solution that GNSS gives at its epoch (R38–R42, R575): a valid one sets the time state, f, k and U by its error; within
1 µs LOCKED, below a slew, above a slew or, from 1 ms on, one step per loss of lock, prepared for the next second, which later solutions leave as it is;
an invalid one cancels a step that waits. -/
def Obligations.TimeSolutions : Prop :=
  ∀ (gps : Long) (sigma : Word) (sats cons : Byte) (raim eph : Bool) (s : State), s.canonical →
    let c := Instr.timeSolution gps sigma ⟨sats, cons, raim, eph⟩
    let valid := solutionOk sats.toNat cons.toNat raim eph = true ∧ sigma.toNat ≤ 100
    let e : Int := ((gps.toNat + s.fld (Fd.GNS_ANT_CFG_DELAY 0)) * 2 ^ 32 : Nat) - (s.clk.dtFp : Int)
    let fresh := s.timeState = tFree ∨ s.timeState = tHoldover
    let used := if fresh then false else s.clk.stepUsed
    let f := if s.timeState = tFree then s.clk.fSaved.getD 0 else s.clk.f
    let unc := fun (t : State) (u : Nat) => (t.reg Ra.CLK_TIME_UNC).toNat = min u (2 ^ 32 - 1)
    let frame := fun (t : State) => t.clk.dtFp = s.clk.dtFp ∧ t.cyc = s.cyc ∧ t.clk.solCyc = s.cyc ∧ t.clk.fHist = (t.clk.f :: s.clk.fHist).take 600 ∧
      t.gns = { s.gns with timeE := e / 2 ^ 32 } ∧
      OnlyRegs ([Ra.CLK_TIME_STAT, Ra.CLK_TIME_UNC, Ra.CLK_FREQ_EST] ++ captureRegs) s t ∧ OnlyParts [.regs, .clk, .gns, .tab, .rpl] s t
    let moving := fun (t : State) => t.timeState = tConverging ∧ unc t (e.natAbs / 2 ^ 32 + sigma.toNat) ∧ t.clk.f = f ∧ t.clk.stepUsed = used ∧ frame t
    (gnsRuns s = false ∨ s.liveTick % 2000 ≠ 0 → Idle c s) ∧
    (gnsRuns s = true → s.liveTick % 2000 = 0 →
      (¬ valid → exec c s = .next (s.setClk { s.clk with stepPend := none })) ∧
      (valid → s.clk.stepPend = none →
        (-fpUs ≤ e → e ≤ fpUs → Gives c s (fun t =>
          t.timeState = tLocked ∧ t.flag Fd.CLK_TIME_STAT_SLEWING = false ∧ t.flag Fd.CLK_TIME_STAT_HOLD_LIM = false ∧ unc t (sigma.toNat + 10) ∧
          t.clk.f = clampK (f + e * 256 / 10 ^ 14) ∧ t.clk.k = clampK (t.clk.f + e * 256 / (20 * 10 ^ 9)) ∧
          t.reg Ra.CLK_FREQ_EST = wordOfInt t.clk.f ∧ t.clk.stepUsed = false ∧ frame t)) ∧
        (e < -fpUs → Gives c s (fun t =>
          t.flag Fd.CLK_TIME_STAT_SLEWING = true ∧ t.clk.k = clampK (f - slewRate s) ∧ t.clk.stepPend = none ∧ moving t)) ∧
        (fpUs < e → e < fpMs ∨ used = true → Gives c s (fun t =>
          t.flag Fd.CLK_TIME_STAT_SLEWING = true ∧ t.clk.k = clampK (f + slewRate s) ∧ t.clk.stepPend = none ∧ moving t)) ∧
        (fpMs ≤ e → used = false → Gives c s (fun t =>
          t.flag Fd.CLK_TIME_STAT_SLEWING = false ∧ t.clk.stepPend = some e ∧ t.clk.stepAt = (s.dtNs / 10 ^ 9 + 1) * 10 ^ 9 ∧ t.clk.k = f ∧ moving t))) ∧
      (valid → ∀ p, s.clk.stepPend = some p → Gives c s (fun t =>
        t.flag Fd.CLK_TIME_STAT_SLEWING = false ∧ t.clk.stepPend = some p ∧ t.clk.stepAt = s.clk.stepAt ∧ t.clk.k = s.clk.k ∧ moving t)))

/-- Steps and sets of DT (R43, R45, R51): the step of E is made at its second boundary; the tick index jumps by 200·N ticks with N the whole frames
nearest to S = new DT − old DT, the rest becomes phase, anchored streams move by S and one that anchors starts anew; STEP is set and STEPS counts. DT is
set forward in FREE only, and any other try is recorded. HOLDOVER (R39, R42): 2 s without a solution freeze the frequency estimate and the uncertainty as it stands; HOLD_LIM is set when U exceeds the
limit; CLK_STEER_CFG takes effect at the second boundary, also for a slew that runs. -/
def Obligations.TimeSteps : Prop :=
  (let jumps := fun (s t : State) (ns : Nat) =>
    let n := (ns + 5000000) / 10000000
    t.liveTick = s.liveTick + 200 * n ∧ t.clk.phase = s.clk.phase + ((ns : Int) - (n * 10000000 : Nat)) * 4 / 25 ∧ t.clk.stepSeq = s.clk.stepSeq + 1 ∧
    t.clk.strm = smMapVals {} (fun _ x => if x.cnt < 8 then ({} : Strm) else { x with a := x.a + ns }) s.clk.strm ∧
    t.flag Fd.CLK_TIME_STAT_STEP = true ∧ t.flag Fd.CLK_TIME_STAT_TICK_ALIGN = (t.clk.phase != 0) ∧
    t.fld Fd.CLK_TIME_STAT_STEPS = min (s.fld Fd.CLK_TIME_STAT_STEPS + 1) (2 ^ Fd.CLK_TIME_STAT_STEPS.width - 1) ∧ t.cyc = s.cyc ∧
    OnlyParts [.regs, .pub, .stage, .clk, .gw, .ce, .uin, .mfp, .gns, .steer, .fus, .tab, .rpl] s t
  (∀ (s : State) (e : Int), s.canonical → s.clk.stepPend = some e →
    (s.clk.stepAt ≤ s.dtNs → Gives .dtStep s (fun t =>
      t.clk.dtFp = s.clk.dtFp + e.toNat ∧ t.clk.stepPend = none ∧ t.clk.stepUsed = s.clk.seek ∧ jumps s t (t.dtNs - s.dtNs))) ∧
    (s.dtNs < s.clk.stepAt → Idle .dtStep s)) ∧
  (∀ s : State, s.clk.stepPend = none → Idle .dtStep s) ∧
  (∀ (init : Fin 58) (hi : Word) (s : State), s.canonical →
    let new := (s.reg Ra.CLK_DT_SET_LO).toNat + hi.toNat * 2 ^ 32
    (s.timeState = tFree → s.dtNs < new → Gives (.dtSet init hi) s (fun t =>
      t.dtNs = new ∧ t.reg Ra.CLK_DT_SET_HI = hi ∧ jumps s t (new - s.dtNs))) ∧
    (s.timeState ≠ tFree ∨ new ≤ s.dtNs → exec (.dtSet init hi) s =
      .next (logEvent (s.setReg Ra.CLK_DT_SET_HI hi) Ev.timeSetRefused init s.timeState 0)))) ∧
  ((∀ s : State, s.canonical →
    (s.timeState = tLocked ∨ s.timeState = tConverging → s.clk.solCyc + 2 * cycS ≤ s.cyc → Gives .holdoverEntry s (fun t =>
      t.timeState = tHoldover ∧ t.clk.k = s.clk.f ∧ t.clk.f = s.clk.f ∧ t.clk.stepPend = none ∧
      t.clk.u0 = (s.reg Ra.CLK_TIME_UNC).toNat ∧ t.clk.rsig = freqSigma s.clk.fHist ∧ t.clk.holdCyc = s.cyc ∧ t.flag Fd.CLK_TIME_STAT_SLEWING = false ∧
      OnlyRegs (Ra.CLK_TIME_STAT :: captureRegs) s t ∧ OnlyParts [.regs, .clk, .tab, .rpl] s t)) ∧
    (s.timeState = tFree ∨ s.timeState = tHoldover ∨ s.cyc < s.clk.solCyc + 2 * cycS → Idle .holdoverEntry s)) ∧
  (∀ s : State,
    (s.timeState = tHoldover → holdLimNs s < holdUnc s → exec .holdLimExceeded s = .next (s.setFlag Fd.CLK_TIME_STAT_HOLD_LIM true)) ∧
    (s.timeState ≠ tHoldover ∨ holdUnc s ≤ holdLimNs s → Idle .holdLimExceeded s)) ∧
  (∀ s : State,
    (s.clk.steerAt = none → Idle .steerCfgApply s) ∧
    (∀ c, s.clk.steerAt = some c →
      let u := s.setClk { s.clk with steerAt := none, steerRun := some (s.reg Ra.CLK_STEER_CFG) }
      (c ≤ s.dtNs → s.clk.slewDir = 0 → exec .steerCfgApply s = .next u) ∧
      (c ≤ s.dtNs → s.clk.slewDir ≠ 0 → exec .steerCfgApply s =
        .next (u.setClk { u.clk with k := clampK (s.clk.f + s.clk.slewDir * slewRate u) })) ∧
      (s.dtNs < c → Idle .steerCfgApply s))))

/-- Stream units (R50): EN or REANCHOR starts anchoring; the first eight samples take the smallest difference as the anchor; after that a sample's
deviation shows in DEV, and one of more than a period sets SLIPPED. A disabled stream ignores its samples. -/
def Obligations.Streams : Prop :=
  (∀ (n : Fin 24) (arr sens : Long) (s : State),
    (s.flag (Fd.CLK_STRM_CFG_EN n) = false → Idle (.streamSample n arr sens) s) ∧
    (s.flag (Fd.CLK_STRM_CFG_EN n) = true →
      let x := smGet {} s.clk.strm n
      let d : Int := (arr.toNat : Int) - sens.toNat
      let m := if x.cnt = 0 then d else min x.minD d
      let u := s.setClk { s.clk with strm := smPut {} s.clk.strm n { cnt := x.cnt + 1, minD := m, a := m, okRun := 0 } }
      (x.cnt < 7 → exec (.streamSample n arr sens) s = .next u) ∧
      (x.cnt = 7 → exec (.streamSample n arr sens) s = .next (u.setFlag (Fd.CLK_STRM_STAT_ANCHORED n) true)) ∧
      (8 ≤ x.cnt → s.canonical → s.fld (Fd.CLK_STRM_CFG_PERIOD n) ≠ 0 →
        (s.fld (Fd.CLK_STRM_CFG_PERIOD n) * 10000 : Nat) < ((d - x.a).natAbs : Int) →
        Gives (.streamSample n arr sens) s (fun t => t.flag (Fd.CLK_STRM_STAT_SLIPPED n) = true ∧
          t.fld (Fd.CLK_STRM_STAT_DEV n) = devField (d - x.a) % 2 ^ (Fd.CLK_STRM_STAT_DEV n).width ∧
          OnlyParts [.regs, .clk, .evr, .tab, .rpl] s t)))) ∧
  (∀ (n : Fin 24) (period : Half) (s : State), s.canonical → s.flag (Fd.CLK_STRM_CFG_EN n) = true →
    Gives (.streamEnable n period) s (fun t => t.flag (Fd.CLK_STRM_CFG_EN n) = true ∧
      t.fld (Fd.CLK_STRM_CFG_PERIOD n) = period.toNat % 2 ^ (Fd.CLK_STRM_CFG_PERIOD n).width ∧ OnlyRegs [Ra.CLK_STRM_CFG n] s t ∧
      OnlyParts [.regs] s t)) ∧
  (∀ (n : Fin 24) (period : Half) (s : State), s.canonical → s.flag (Fd.CLK_STRM_CFG_EN n) = false →
    Gives (.streamEnable n period) s (fun t => t.flag (Fd.CLK_STRM_CFG_EN n) = true ∧
      t.fld (Fd.CLK_STRM_CFG_PERIOD n) = period.toNat % 2 ^ (Fd.CLK_STRM_CFG_PERIOD n).width ∧
      t.clk.strm = smPut {} s.clk.strm n {} ∧ t.flag (Fd.CLK_STRM_STAT_ANCHORED n) = false ∧ t.flag (Fd.CLK_STRM_STAT_SLIPPED n) = false ∧
      OnlyParts [.regs, .clk, .evr, .tab, .rpl] s t)) ∧
  (∀ (n : Fin 24) (s : State), s.canonical → Gives (.streamReanchor n) s (fun t =>
    t.flag (Fd.CLK_STRM_CFG_EN n) = s.flag (Fd.CLK_STRM_CFG_EN n) ∧ t.fld (Fd.CLK_STRM_CFG_PERIOD n) = s.fld (Fd.CLK_STRM_CFG_PERIOD n) ∧
    t.clk.strm = smPut {} s.clk.strm n {} ∧ t.flag (Fd.CLK_STRM_STAT_ANCHORED n) = false ∧ OnlyParts [.regs, .clk, .evr, .tab, .rpl] s t))

/-! ### Protected load switches (R428–R445) -/

/-- Commands (R431, R442): the application's command waits for the next tick; a channel that a loop owns refuses it. The intrusive tests (R444, R445): a command with a good argument waits for the next tick, unless another test stands; there the table accepts,
defers or refuses it; the pulse is on from the start, and the test ends after its time with its result. -/
def Obligations.LoadSwitchCommands : Prop :=
  (∀ (n : Fin 24) (v : BitVec 11) (s : State), s.canonical →
    ((lswRoute s n).isSome = true → exec (.lswCmdWrite n v) s = .next (s.setFld (Fd.LSW_CH_STAT_CODE n) Code.refused)) ∧
    (lswRoute s n = none → Gives (.lswCmdWrite n v) s (fun t =>
      t.lch n = { s.lch n with cmdPend := some (min 1000 v.toNat) } ∧ (∀ m, m ≠ n.val → t.lch m = s.lch m) ∧
      t.fld (Fd.LSW_CH_CMD_VALUE n) = v.toNat ∧ t.fld (Fd.LSW_CH_STAT_CODE n) = Code.ok ∧
      OnlyRegs ([Ra.LSW_CH_CMD n, Ra.LSW_CH_STAT n] ++ captureRegs) s t ∧ OnlyParts [.regs, .lsw, .tab, .rpl] s t))) ∧
  ((∀ (n : Fin 24) (s : State), s.canonical →
    let asks := fun (c : Instr) (test : Nat) =>
      (s.lsw.test.isSome = true ∨ s.lsw.req.isSome = true → exec c s = .next (s.setFld Fd.LSW_TEST_RES_CODE Code.refused)) ∧
      (s.lsw.test = none → s.lsw.req = none → Gives c s (fun t => t.flag Fd.LSW_TEST_RES_PENDING = true ∧
        t.fld Fd.LSW_TEST_RES_UNIT = n ∧ t.fld Fd.LSW_TEST_RES_TEST = test ∧ t.flag Fd.LSW_TEST_RES_PASS = false ∧
        t.lsw = { s.lsw with req := some (test, n.val) } ∧ OnlyRegs [Ra.LSW_TEST_RES] s t ∧ OnlyParts [.regs, .lsw] s t))
    asks (.pulseTest n) 1 ∧ (s.flag (Fd.LSW_CH_CFG_LOAD n) = true → asks (.freewheelTest n) 2) ∧
    (s.flag (Fd.LSW_CH_CFG_LOAD n) = false → exec (.freewheelTest n) s = .next (s.setFld Fd.LSW_TEST_RES_CODE Code.badArgument))) ∧
  (∀ (s : State) (test n : Nat), s.canonical → s.lsw.req = some (test, n) →
    let code := lswTestCode s.mode (lswBusy s n)
    (lswAccept s).fld Fd.LSW_TEST_RES_CODE = code ∧ (lswAccept s).lsw.req = none ∧
    (code = Code.refused → (lswAccept s).lsw.test = s.lsw.test ∧ (lswAccept s).flag Fd.LSW_TEST_RES_PENDING = false) ∧
    (code ≠ Code.refused → (lswAccept s).lsw.test = some { test := test, unit := n, deferred := code == Code.deferred })) ∧
  (∀ busy : Bool, (∀ m, m < 3 ∨ 8 < m → lswTestCode m busy = Code.refused) ∧ (∀ m ∈ [Mode.service, Mode.road], lswTestCode m busy = Code.ok) ∧
    (∀ m, 3 ≤ m → m ≤ 8 → lswTestCode m false = Code.ok) ∧ (∀ m ∈ [Mode.fieldManual, Mode.fieldAssist], lswTestCode m true = Code.deferred) ∧
    (∀ m ∈ [Mode.fieldAuto, Mode.unloadSync], lswTestCode m true = Code.refused)) ∧
  (∀ (s : State) (x : TestRun), s.canonical → s.lsw.test = some x → x.unit < 24 →
    (x.running = true ∨ (x.deferred = true ∧ lswIdle s x.unit = false) → Idle .lswTestStart s) ∧
    (x.running = false → x.deferred = false ∨ lswIdle s x.unit = true → Gives .lswTestStart s (fun t =>
      t.lsw.test = some { x with running := true, at_ := s.cyc } ∧ (t.lch x.unit).on = !(s.lch x.unit).hot ∧ t.flag Fd.LSW_TEST_RES_RUNNING = true ∧
      t.flag Fd.LSW_TEST_RES_PENDING = false ∧ t.fld Fd.LSW_TEST_RES_CODE = Code.ok ∧ (∀ m, m ≠ x.unit → t.lch m = s.lch m) ∧
      OnlyParts [.regs, .lsw] s t)) ∧
    (∀ (cur : Half) (clamped : Bool),
      (x.running = true → x.at_ + (if x.test = 1 then 1 else 5) * cycMs ≤ s.cyc → Gives (.lswTestEnd ⟨cur, clamped⟩) s (fun t =>
        t.lsw.test = none ∧ (t.lch x.unit).on = false ∧ t.flag Fd.LSW_TEST_RES_RUNNING = false ∧
        t.flag Fd.LSW_TEST_RES_PASS = (if x.test = 1 then decide (s.fld (Fd.LSW_CH_THR_OL_ON x.unit) < cur.toNat) else !clamped) ∧
        (∀ m, m ≠ x.unit → t.lch m = s.lch m) ∧ OnlyParts [.regs, .lsw] s t)) ∧
      (x.running = false ∨ s.cyc < x.at_ + (if x.test = 1 then 1 else 5) * cycMs → Idle (.lswTestEnd ⟨cur, clamped⟩) s))) ∧
  (∀ s : State, s.lsw.test = none → Idle .lswTestStart s ∧ ∀ cur clamped, Idle (.lswTestEnd ⟨cur, clamped⟩) s))

/-- Trips (R433, R436): a current above a threshold that applies, for the time the threshold gives, switches the channel off at once and latches it with
its fault, and counts; no other channel changes. Below the thresholds, for a shorter time, and while off, nothing happens. What ends a trip (R434–R437): the window closes after INRUSH_T and its pauses; a retry uses one of the retries left, 1 s after the trip; CLR
with its key clears the latch and faults without a cause; a hot switch is off until it has cooled. -/
def Obligations.LoadSwitchTrips : Prop :=
  (∀ (n : Fin 24) (peak dur : Half) (s : State), s.canonical →
    let x := s.lch n
    let latched := fun (c : Instr) (fault : Nat) => Gives c s (fun t => (t.lch n).on = false ∧ (t.lch n).latchAt = some s.cyc ∧ (t.lch n).hold = false ∧
      t.fld (Fd.LSW_CH_STAT_FAULT n) = fault ∧ t.fld (Fd.LSW_CH_CNT_LATCHES n) = satU (Fd.LSW_CH_CNT_LATCHES n).width (s.fld (Fd.LSW_CH_CNT_LATCHES n) + 1) ∧
      (∀ m, m ≠ n.val → t.lch m = s.lch m) ∧ OnlyParts [.regs, .lsw, .evr, .tab, .rpl] s t)
    let trips := fun (c : Instr) (at_ : Prop) (fault : Nat) => (x.on = true → at_ → latched c fault) ∧ (x.on = false ∨ ¬ at_ → Idle c s)
    trips (.lswHardTrip n peak) (lswHard n < peak.toNat) 4 ∧
    trips (.lswInrushTrip n ⟨peak, dur⟩) (x.winAt.isSome = true ∧ lswInrush s n < peak.toNat ∧ 100 ≤ dur.toNat) 3 ∧
    trips (.lswLatchTrip n ⟨peak, dur⟩) (x.winAt = none ∧ lswLatch s n < peak.toNat ∧ lswLatchMs s n ≤ dur.toNat) 3) ∧
  (∀ (n : Fin 24) (s : State), s.canonical →
    let others := fun (t : State) => (∀ m, m ≠ n.val → t.lch m = s.lch m) ∧ OnlyParts [.regs, .lsw] s t
    let kept := if (s.lch n).hot then 6 else if (s.lch n).cause then s.fld (Fd.LSW_CH_STAT_FAULT n) else 0
    let left := s.fld (Fd.LSW_CH_STAT_RETRY_LEFT n)
    ((s.lch n).winAt = none ∨ lswTesting s n = true → Idle (.inrushWindowEnd n) s) ∧
    (∀ c, (s.lch n).winAt = some c → lswTesting s n = false →
      (c + (lswWindowMs s n * cycMs + lswPause s n c) ≤ s.cyc ∨ c + 50 * cycMs ≤ s.cyc → Gives (.inrushWindowEnd n) s (fun t =>
        t.lch n = { s.lch n with winAt := none } ∧ t.flag (Fd.LSW_CH_STAT_INRUSH n) = false ∧ others t)) ∧
      (s.cyc < c + (lswWindowMs s n * cycMs + lswPause s n c) → s.cyc < c + 50 * cycMs → Idle (.inrushWindowEnd n) s)) ∧
    (∀ c, (s.lch n).latchAt = some c →
      (c + cycS ≤ s.cyc → 0 < left → s.fld (Fd.LSW_CH_STAT_FAULT n) ≠ 5 → (s.lch n).cmd ≠ 0 → Gives (.lswRetry n) s (fun t =>
        (t.lch n).latchAt = none ∧ t.fld (Fd.LSW_CH_STAT_FAULT n) = kept ∧ t.fld (Fd.LSW_CH_STAT_RETRY_LEFT n) = left - 1 ∧ others t)) ∧
      (s.cyc < c + cycS ∨ left = 0 ∨ s.fld (Fd.LSW_CH_STAT_FAULT n) = 5 ∨ (s.lch n).cmd = 0 → Idle (.lswRetry n) s)) ∧
    ((s.lch n).latchAt = none → Idle (.lswRetry n) s) ∧
    Gives (.lswClr n) s (fun t => (t.lch n).latchAt = none ∧ t.fld (Fd.LSW_CH_STAT_FAULT n) = kept ∧ others t) ∧
    Gives (.lswOvertemp n) s (fun t => (t.lch n).hot = true ∧ (t.lch n).on = false ∧ (t.lch n).latchAt = (s.lch n).latchAt ∧
      (t.fld (Fd.LSW_CH_STAT_FAULT n) = if (s.lch n).latchAt.isSome then s.fld (Fd.LSW_CH_STAT_FAULT n) else 6) ∧ others t) ∧
    ((s.lch n).hot = true → Gives (.lswCooldown n) s (fun t => (t.lch n).hot = false ∧
      (t.fld (Fd.LSW_CH_STAT_FAULT n) = if s.fld (Fd.LSW_CH_STAT_FAULT n) = 6 then 0 else s.fld (Fd.LSW_CH_STAT_FAULT n)) ∧ others t)) ∧
    ((s.lch n).hot = false → Idle (.lswCooldown n) s))

/-- Clamps, open loads, supply and keep channels (R63, R429, R435, R438–R443): a clamp that conducts too long at a switch-off trips a channel that is a
load, and another at the second time within 100 ms; an open load shows as FAULT 1, 2 or 7 and clears with its cause; a summed current above 100 A for
1 s sets OVER and is recorded; BAT_A's overvoltage and a group's undervoltage set and clear their bits, and a sag pauses the inrush windows of its group;
the keep hold ends. -/
def Obligations.LoadSwitchChecks : Prop :=
  (∀ (n : Fin 24) (us peak : Half) (s : State), s.canonical →
    let c := Instr.clamp n ⟨peak, us⟩
    let load := s.flag (Fd.LSW_CH_CFG_LOAD n)
    let edge := lswOffEdge s n us.toNat = true
    let soon := ∃ x, (s.lch n).clampAt = some x ∧ s.cyc ≤ x + 100 * cycMs
    (¬ edge ∨ (load = true ∧ us.toNat ≤ 20) ∨ (load = false ∧ us.toNat ≤ 200) → Idle c s) ∧
    (edge → load = true → 20 < us.toNat → exec c s = .next (lswTrip (s.count (Fd.LSW_CH_CNT_CLAMPS n)) n 5 peak.toNat)) ∧
    (edge → load = false → 200 < us.toNat → ¬ soon → Gives c s (fun t =>
      t.lch n = { s.lch n with clampAt := some s.cyc } ∧ (∀ m, m ≠ n.val → t.lch m = s.lch m) ∧ OnlyParts [.regs, .lsw, .evr, .tab, .rpl] s t)) ∧
    (edge → load = false → 200 < us.toNat → soon → Gives c s (fun t => (t.lch n).latchAt = some s.cyc ∧ (t.lch n).on = false ∧
      t.fld (Fd.LSW_CH_STAT_FAULT n) = 5 ∧ (∀ m, m ≠ n.val → t.lch m = s.lch m) ∧ OnlyParts [.regs, .lsw, .evr, .tab, .rpl] s t))) ∧
  (∀ (n : Fin 24) (cur mv : Half) (s : State), s.canonical →
    let found := if (s.lch n).on then (if cur.toNat < s.fld (Fd.LSW_CH_THR_OL_ON n) then 1 else 0)
      else if s.flag (Fd.LSW_CH_CFG_OL_OFF n) = false then 0 else if 6000 < mv.toNat then 7 else if 2000 ≤ mv.toNat then 2 else 0
    let f := s.fld (Fd.LSW_CH_STAT_FAULT n)
    (f ∈ [0, 1, 2, 7] → f ≠ found → Gives (.openLoad n cur mv) s (fun t =>
      t.fld (Fd.LSW_CH_STAT_FAULT n) = found ∧ t.lch n = { s.lch n with cause := found != 0 } ∧ (∀ m, m ≠ n.val → t.lch m = s.lch m) ∧
      OnlyParts [.regs, .lsw] s t)) ∧
    (f ∉ [0, 1, 2, 7] ∨ f = found → Idle (.openLoad n cur mv) s)) ∧
  (∀ (sum : Half) (s : State), s.canonical →
    let shown := s.setFld Fd.LSW_SUM_CUR (satU 16 sum.toNat)
    (sum.toNat ≤ 10000 → exec (.batAOver sum) s = .next ((shown.setFlag Fd.LSW_SUM_OVER false).setLsw { s.lsw with overAt := none })) ∧
    (10000 < sum.toNat → s.lsw.overAt = none → exec (.batAOver sum) s = .next (shown.setLsw { s.lsw with overAt := some s.cyc })) ∧
    (∀ c, 10000 < sum.toNat → s.lsw.overAt = some c →
      (s.cyc < c + cycS ∨ s.flag Fd.LSW_SUM_OVER = true → exec (.batAOver sum) s = .next shown) ∧
      (c + cycS ≤ s.cyc → s.flag Fd.LSW_SUM_OVER = false → exec (.batAOver sum) s =
        .next (logEvent ((shown.setFlag Fd.LSW_SUM_OVER true).raise (Ra.LSW_INT_PEND 2) 0) Ev.batAOver Src.unit (satU 16 sum.toNat) 0)))) ∧
  (∀ (mv : Half) (s : State), s.canonical →
    (mv.toNat < 38000 → s.flag (Fd.LSW_GRP_STAT_OV 0) = true → Gives (.batAOvRelease mv) s (fun t =>
      (∀ g, g < 4 → t.flag (Fd.LSW_GRP_STAT_OV g) = false) ∧ OnlyParts [.regs, .lsw] s t)) ∧
    (38000 ≤ mv.toNat ∨ s.flag (Fd.LSW_GRP_STAT_OV 0) = false → Idle (.batAOvRelease mv) s)) ∧
  (∀ (g : Fin 4) (mv : Half) (sag : Word) (s : State), s.canonical →
    let low := smGet none s.lsw.uvAt g
    (mv.toNat < lswUv s g → low = none → Gives (.groupUndervoltage g true mv sag) s (fun t =>
      t.flag (Fd.LSW_GRP_STAT_UV g) = true ∧ t.fld (Fd.LSW_GRP_STAT_MV g) = mv.toNat ∧ smGet none t.lsw.uvAt g = some s.cyc ∧ t.lsw.ch = s.lsw.ch ∧
      OnlyRegs [Ra.LSW_GRP_STAT g, Ra.LSW_INT_PEND 1] s t ∧ OnlyParts [.regs, .lsw] s t)) ∧
    (lswUv s g ≤ mv.toNat ∨ low.isSome = true → Idle (.groupUndervoltage g true mv sag) s) ∧
    (mv.toNat < lswUv s g ∨ low = none → Idle (.groupUndervoltage g false mv sag) s) ∧
    (lswUv s g ≤ mv.toNat → low.isSome = true → Gives (.groupUndervoltage g false mv sag) s (fun t =>
      t.flag (Fd.LSW_GRP_STAT_UV g) = false ∧ t.fld (Fd.LSW_GRP_SAG_US g) = sag.toNat % 2 ^ (Fd.LSW_GRP_SAG_US g).width ∧
      (∀ n c, n < 24 → lswGroup n = g.val → (s.lch n).winAt = some c →
        t.lch n = { s.lch n with winPause := (s.lch n).winPause + min (sag.toNat * cycUs) (s.cyc - c) }) ∧
      (∀ n, lswGroup n ≠ g.val ∨ (s.lch n).winAt = none → t.lch n = s.lch n) ∧
      OnlyRegs [Ra.LSW_GRP_STAT g, Ra.LSW_GRP_SAG g] s t ∧ OnlyParts [.regs, .lsw] s t))) ∧
  (∀ s : State, s.canonical → Gives .keepChannelTimeout s (fun t =>
    (∀ n c, n < 24 → (s.lch n).keepEnd = some c → c ≤ s.cyc → (s.lch n).hold = true →
      (t.lch n).on = false ∧ (t.lch n).hold = false ∧ (t.lch n).cmd = 0 ∧ (t.lch n).keepEnd = none) ∧
    (∀ n c, n < 24 → (s.lch n).keepEnd = some c → c ≤ s.cyc → (s.lch n).hold = false → t.lch n = { s.lch n with keepEnd := none }) ∧
    (∀ n, (s.lch n).keepEnd = none ∨ (∃ c, (s.lch n).keepEnd = some c ∧ s.cyc < c) → t.lch n = s.lch n) ∧ OnlyParts [.regs, .lsw] s t))

/-! ### Satellite positioning (R227–R253) -/

/-- Satellite positioning (R227, R229, R238–R242, R246, R248, R250–R252). An antenna fault shows and is recorded where the bias is on; a channel
allocation takes effect at its second; a frame is used or dropped by its CRC and type, and MSM frames renew the corrections; a base that moves stops; a
neighbour's number must be free and its clock offsets within 1 ms; aids are taken where they are better; a time-pulse edge leaves where the mode allows. -/
def Obligations.Positioning : Prop :=
  (∀ (a : Fin 2) (draw ma : Half) (s : State), s.canonical →
    let f := if s.flag (Fd.GNS_ANT_CFG_BIAS a) = false then 0 else if draw.toNat < 3 then 1 else if 120 < draw.toNat then 2 else 0
    Gives (.antennaFault a draw ma) s (fun t => t.fld (Fd.GNS_ANT_STAT_FAULT a) = f ∧ t.fld (Fd.GNS_ANT_STAT_CUR a) = ma.toNat ∧
      (f = 0 ∨ f = s.fld (Fd.GNS_ANT_STAT_FAULT a) → OnlyRegs [Ra.GNS_ANT_STAT a] s t ∧ OnlyParts [.regs] s t) ∧
      OnlyParts [.regs, .evr, .tab, .rpl] s t)) ∧
  (∀ s : State, s.canonical → (s.gns.allocAt = none → Idle .chAllocApply s) ∧ (∀ x, s.gns.allocAt = some x →
    let old := s.gns.ant1Run
    let new := min 96 (s.fld Fd.GNS_CH_ALLOC_ANT1)
    (x ≤ s.dtNs → Gives .chAllocApply s (fun t => t.gns = { s.gns with allocAt := none, ant1Run := new } ∧
      (∀ i, i < 96 → min old new ≤ i → i < max old new → t.reg (Ra.GNS_CHAN (191 - i)) = 0) ∧
      (∀ i, i < 96 → i < min old new ∨ max old new ≤ i → t.reg (Ra.GNS_CHAN (191 - i)) = s.reg (Ra.GNS_CHAN (191 - i))) ∧
      OnlyRegs (Ra.GNS_CH_ALLOC :: (List.range 192).map Ra.GNS_CHAN) s t ∧ OnlyParts [.regs, .gns] s t)) ∧
    (s.dtNs < x → Idle .chAllocApply s))) ∧
  (∀ (typ : Fin 4096) (s : State),
    let used := { s.gns with rtcmUsed := smUpd 0 s.gns.rtcmUsed typ (· + 1) }
    let drops := fun (ok : Bool) => exec (.rtcmFrame typ ok) s = .next (s.setGns { s.gns with rtcmDrop := smUpd 0 s.gns.rtcmDrop typ (· + 1) })
    drops false ∧ (typ.val ∉ rtcmBase ++ rtcmMsm ++ rtcmEph → drops true) ∧
    (typ.val ∈ rtcmMsm → rtkMode s = 1 → s.fld Fd.GNS_RTK_CFG_ABS_SRC = 0 →
      exec (.rtcmFrame typ true) s = .next (s.setGns { used with corrCyc := some s.clk.cyc })) ∧
    (typ.val ∈ rtcmMsm → rtkMode s ≠ 1 ∨ s.fld Fd.GNS_RTK_CFG_ABS_SRC ≠ 0 → exec (.rtcmFrame typ true) s = .next (s.setGns used)) ∧
    (typ.val ∈ rtcmBase → exec (.rtcmFrame typ true) s = .next (s.setGns used)) ∧
    (typ.val ∈ rtcmEph → exec (.rtcmFrame typ true) s =
      .next (s.setGns { used with aidsHeld := typ.val :: s.gns.aidsHeld.filter (· != typ.val) }))) ∧
  (∀ (off : Fin 8192) (s : State), s.canonical →
    let shifted := (∃ x, s.gns.movSince = some x ∧ x + 2 * cycS ≤ s.clk.cyc + off) ∨ baseOff s = true
    (rtkMode s = 2 → s.gns.baseOk = true → shifted → Gives (.baseMoved off) s (fun t => t.gns = { s.gns with baseOk := false } ∧
      t.flag Fd.GNS_RTK_STAT_BASE_MOVED = true ∧ OnlyRegs [Ra.GNS_RTK_STAT] s t ∧ OnlyParts [.regs, .gns] s t)) ∧
    (rtkMode s ≠ 2 ∨ s.gns.baseOk = false ∨ ¬ shifted → Idle (.baseMoved off) s)) ∧
  (∀ (x y z : Long) (s : State), s.canonical → Gives (.basePositionWrite x y z) s (fun t =>
    t.reg64 (Ra.GNS_BASE 0) (Ra.GNS_BASE 1) = x.toNat ∧ t.reg64 (Ra.GNS_BASE 2) (Ra.GNS_BASE 3) = y.toNat ∧
    t.reg64 (Ra.GNS_BASE 4) (Ra.GNS_BASE 5) = z.toNat ∧ t.gns = { s.gns with baseOk := true } ∧ t.flag Fd.GNS_RTK_STAT_BASE_MOVED = false ∧
    OnlyRegs (Ra.GNS_RTK_STAT :: (List.range 6).map Ra.GNS_BASE) s t ∧ OnlyParts [.regs, .gns] s t)) ∧
  (∀ (k : Fin 8) (en : Bool) (m : Fin 64) (s : State), s.canonical →
    let taken := (s.fld Fd.FLR_STAT_STATE ≠ 0 ∧ s.fld Fd.FLR_STAT_MODNUM = m.val) ∨
      ∃ j, j < 8 ∧ j ≠ k.val ∧ s.flag (Fd.GNS_MB_NB_CFG_EN j) = true ∧ s.fld (Fd.GNS_MB_NB_CFG_MODULE j) = m.val
    let sets := fun (on : Bool) (code : Nat) => Gives (.neighbourConfig k en m) s (fun t => t.flag (Fd.GNS_MB_NB_CFG_EN k) = on ∧
      t.fld (Fd.GNS_MB_NB_CFG_MODULE k) = m.val ∧ t.fld (Fd.GNS_MB_NB_STAT_CODE k) = code ∧
      t.gns = { s.gns with nb := smPut {} s.gns.nb k {} } ∧ OnlyRegs [Ra.GNS_MB_NB_CFG k, Ra.GNS_MB_NB_STAT k] s t ∧ OnlyParts [.regs, .gns] s t)
    (en = true → taken → sets false Code.badArgument) ∧ (en = true → ¬ taken → sets true Code.ok) ∧ (en = false → sets false Code.ok)) ∧
  (∀ (k : Fin 8) (rec : List Byte) (epoch : Long) (own : Word) (slotEnd : Long) (vec sol : List Word) (s : State), s.canonical →
    let c := Instr.neighbourEpoch k rec epoch own slotEnd vec sol
    let nb := smGet {} s.gns.nb k
    let tow := leNat (rec.take 4)
    let far := 1000000 < (sint 32 (leNat ((rec.drop 8).take 4))).natAbs ∨ 1000000 < own.toInt.natAbs
    let b := matched s rec epoch.toNat slotEnd.toNat (vec ++ sol)
    let taken := s.flag (Fd.GNS_MB_NB_CFG_EN k) = true ∧ nb.tows.contains tow = false
    (¬ taken → Idle c s) ∧
    (taken → far → exec c s = .next ((aidTake s true 2000).count (Fd.GNS_MB_NB_STAT_REJ k))) ∧
    (taken → ¬ far → b.tow = tow ∧ b.epoch = epoch.toNat ∧ slotEnd.toNat + 5000000 ≤ b.latch * 50000 ∧ b.latch * 50000 < slotEnd.toNat + 5050000 ∧
      Gives c s (fun t =>
        smGet {} t.gns.nb k = { nb with
          wait := some (match nb.wait with
            | some x => if b.epoch < x.epoch then x else b
            | none => b)
          amb := b.fix == 4
          left := false
          tows := (tow :: nb.tows).take 8 } ∧
        t.gns.aidPos = (aidTake s true 2000).gns.aidPos ∧ (nb.left = true → t.fld (Fd.GNS_MB_NB_STAT_CODE k) = Code.ok) ∧
        (∀ j, j ≠ k.val → smGet {} t.gns.nb j = smGet {} s.gns.nb j) ∧ OnlyRegs [Ra.GNS_MB_NB_STAT k] s t ∧ OnlyParts [.regs, .gns] s t))) ∧
  (∀ (eph : Fin 64) (alm : Bool) (s : State),
    exec (.gnssRestart eph alm) s = .next (s.setGns { s.gns with
      acquiring := true, startCls := startClass s eph alm, fix := {}, startCyc := s.clk.cyc, ttff := none })) ∧
  (∀ (isPos : Bool) (unc : Word) (s : State),
    let waits := s.gns.acquiring = true ∧ gnsRuns s = true
    let better := fun (x : Option (Nat × Nat)) => ∀ u c, x = some (u, c) → unc.toNat < u
    let c := Instr.aidWrite isPos unc
    (waits → exec c s = .next (s.setGns { s.gns with aidPend := s.gns.aidPend ++ [(isPos, unc.toNat)] })) ∧
    (¬ waits → isPos = true → better s.gns.aidPos → exec c s = .next (s.setGns { s.gns with aidPos := some (unc.toNat, s.clk.cyc) })) ∧
    (¬ waits → isPos = true → ¬ better s.gns.aidPos → Idle c s) ∧
    (¬ waits → isPos = false → better s.gns.aidTime → exec c s = .next (s.setGns { s.gns with aidTime := some (unc.toNat, s.clk.cyc) })) ∧
    (¬ waits → isPos = false → ¬ better s.gns.aidTime → Idle c s)) ∧
  (∀ (b : Long) (s : State), s.canonical →
    let at_ : Int := (b.toNat : Int) - sint 16 (s.fld Fd.GNS_PPS_CFG_DELAY)
    let due : Prop := b.toNat % 10 ^ 9 = 0 ∧ (s.gns.ppsFrom : Int) ≤ at_ ∧ at_ < s.dtNs + 50010
    (¬ due → Idle (.ppsEdge b) s) ∧
    (due → ppsAllowed s = false → exec (.ppsEdge b) s =
      .next ((s.setGns { s.gns with ppsFrom := (at_ + 1).toNat }).count (Fd.GNS_PPS_EDGES_V 1))) ∧
    (due → ppsAllowed s = true → Gives (.ppsEdge b) s (fun t => t.reg64 Ra.GNS_PPS_B_LO Ra.GNS_PPS_B_HI = b.toNat ∧
      t.flag Fd.GNS_PPS_STAT_ACTIVE = true ∧ t.fld (Fd.GNS_PPS_EDGES_V 0) = satU 32 (s.fld (Fd.GNS_PPS_EDGES_V 0) + 1) ∧
      t.fld Fd.GNS_PPS_STAT_CODE = (if s.gns.ppsStep ≠ s.clk.stepSeq then Code.step else if s.timeState = tHoldover then Code.holdover else Code.ok) ∧
      t.gns = { s.gns with
        ppsFrom := (at_ + 1).toNat
        ppsStep := s.clk.stepSeq
        ppsEnd := s.clk.cyc + clampN 1 500 (s.fld Fd.GNS_PPS_CFG_WIDTH) * cycMs } ∧
      OnlyRegs [Ra.GNS_PPS_B_LO, Ra.GNS_PPS_B_HI, Ra.GNS_PPS_STAT, Ra.GNS_PPS_EDGES 0] s t ∧ OnlyParts [.regs, .gns] s t)))

/-! ### CAN FD (R377–R393) -/

/-- CAN (R378, R380, R382–R384, R386–R389, R392). A controller starts where its bit timing passes the checks; errors count, bus-off refuses the queue and
recovery clears the counters; a received frame gives every matching entry its value; the winner of arbitration is sent; late frames time out; the link
processor takes all queued entries; table entries are read and written by command, a locked or unfit one refused. The switch (R394, R395, R397). A link change shows; a gate list whose cycle divides 10 ms waits for the frame boundary; a frame leaves by the learned
port or by all others whose gate it fits, gPTP frames by none; datagrams for the module are delivered or put together from their fragments, and an
incomplete one is dropped after 100 ms. -/
def Obligations.Networks : Prop :=
  ((∀ (c : Fin 6) (s : State), s.canonical →
    (s.flag (Fd.CAN_CTL_EN c) = true → Idle (.canEnable c) s) ∧
    (s.flag (Fd.CAN_CTL_EN c) = false →
      (canTimingOk s c = true → Gives (.canEnable c) s (fun t => t.flag (Fd.CAN_CTL_EN c) = true ∧ t.fld (Fd.CAN_STAT_CODE c) = Code.ok ∧
        t.fld (Fd.CAN_STAT_STATE c) = 0 ∧ t.fld (Fd.CAN_ERR_TEC c) = 0 ∧ t.fld (Fd.CAN_ERR_REC c) = 0 ∧
        t.canC c = { s.canC c with offCyc := none } ∧ OnlyRegs [Ra.CAN_CTL c, Ra.CAN_STAT c, Ra.CAN_ERR c] s t ∧ OnlyParts [.regs, .can] s t)) ∧
      (nomBit s c < 80 → canTimingOk s c = false) ∧
      (canTimingOk s c = false → Gives (.canEnable c) s (fun t => t.flag (Fd.CAN_CTL_EN c) = false ∧ t.fld (Fd.CAN_STAT_CODE c) = Code.badArgument ∧
        OnlyRegs [Ra.CAN_STAT c] s t ∧ OnlyParts [.regs] s t)))) ∧
  (∀ (c : Fin 6) (kind : Fin 7) (s : State), s.canonical →
    let tec := s.fld (Fd.CAN_ERR_TEC c)
    let rec_ := s.fld (Fd.CAN_ERR_REC c)
    let passive := fun (t r : Nat) => if 128 ≤ t ∨ 128 ≤ r then 1 else 0
    let off := fun (m : Instr) (err : Nat) => Gives m s (fun t => t.fld (Fd.CAN_STAT_STATE c) = 2 ∧ t.fld (Fd.CAN_STAT_LASTERR c) = err ∧
      t.fld (Fd.CAN_ERR_TEC c) = 255 ∧ t.fld (Fd.CAN_ERR_BUSOFF c) = satU 16 (s.fld (Fd.CAN_ERR_BUSOFF c) + 1) ∧
      t.canC c = { s.canC c with queue := [], offCyc := some s.clk.cyc } ∧
      (∀ d, d ≠ c.val → t.canC d = s.canC d) ∧ OnlyParts [.regs, .mem, .can, .evr, .tab, .rpl] s t)
    let noRetry := fun (f : CanFrame) => f.arb && match f.obj with
      | some o => (objOwner s o).any (objQuiet s)
      | none => false
    (canRunning s c = true →
      Gives (.canBusError c kind false) s (fun t => t.fld (Fd.CAN_STAT_LASTERR c) = kind.val ∧ t.fld (Fd.CAN_ERR_TEC c) = tec ∧
        t.fld (Fd.CAN_ERR_REC c) = min 255 (rec_ + 1) ∧ t.fld (Fd.CAN_STAT_STATE c) = passive tec (min 255 (rec_ + 1)) ∧
        OnlyRegs [Ra.CAN_STAT c, Ra.CAN_ERR c] s t ∧ OnlyParts [.regs] s t) ∧
      (tec < 248 → Gives (.canBusError c kind true) s (fun t => t.fld (Fd.CAN_STAT_LASTERR c) = kind.val ∧ t.fld (Fd.CAN_ERR_TEC c) = tec + 8 ∧
        t.fld (Fd.CAN_ERR_REC c) = rec_ ∧ t.fld (Fd.CAN_STAT_STATE c) = passive (tec + 8) rec_ ∧
        t.canC c = { s.canC c with queue := (s.canC c).queue.filter (fun f => !noRetry f) } ∧ (∀ d, d ≠ c.val → t.canC d = s.canC d) ∧
        OnlyRegs ([Ra.CAN_STAT c, Ra.CAN_ERR c] ++ xferRegs) s t ∧ OnlyParts [.regs, .mem, .can] s t)) ∧
      (248 ≤ tec → off (.canBusError c kind true) kind.val ∧ off (.busOff c) (s.fld (Fd.CAN_STAT_LASTERR c)))) ∧
    (canRunning s c = false → ∀ tx, Idle (.canBusError c kind tx) s) ∧
    (canRunning s c = false ∨ tec < 248 → Idle (.busOff c) s)) ∧
  (∀ (c : Fin 6) (s : State), s.canonical →
    ((s.canC c).offCyc = none → Idle (.busOn c) s) ∧
    (∀ x, (s.canC c).offCyc = some x →
      let over_ := s.fld (Fd.CAN_STAT_STATE c) = 2 ∧ s.flag (Fd.CAN_CTL_AUTO_REC c) = true ∧ s.since x (s.fld (Fd.CAN_CTL_REC_DLY c) * cycMs) = true
      (over_ → Gives (.busOn c) s (fun t => t.fld (Fd.CAN_STAT_STATE c) = 0 ∧ t.fld (Fd.CAN_ERR_TEC c) = 0 ∧ t.fld (Fd.CAN_ERR_REC c) = 0 ∧
        t.canC c = { s.canC c with offCyc := none } ∧ OnlyParts [.regs, .can, .evr, .tab, .rpl] s t)) ∧
      (¬ over_ → Idle (.busOn c) s))) ∧
  (∀ (c : Fin 6) (hdr : Word) (rtr : Bool) (data : List Byte) (stamp : Long) (s : State), s.canonical →
    let m := Instr.canFrameReceive c hdr rtr data stamp
    (canRunning s c = false → Idle m s) ∧
    let rec_ := min 127 (s.fld (Fd.CAN_ERR_REC c) - 1)
    (canRunning s c = true → rtr = true → Gives m s (fun t => t.canC c = { s.canC c with remote := (s.canC c).remote + 1 } ∧
      t.fld (Fd.CAN_ERR_REC c) = rec_ ∧ t.fld (Fd.CAN_STAT_STATE c) = (if 128 ≤ s.fld (Fd.CAN_ERR_TEC c) then 1 else 0) ∧
      OnlyRegs [Ra.CAN_STAT c, Ra.CAN_ERR c] s t ∧ OnlyParts [.regs, .can] s t)) ∧
    (canRunning s c = true → rtr = false → Gives m s (fun t => t.fld (Fd.CAN_ERR_REC c) = rec_ ∧ (t.canC c).nRcvd = (s.canC c).nRcvd + 1 ∧
      (∀ i raw, i < 512 → s.rpl.live = none → sigMatches (s.canEnt 0 i) c hdr.toNat = true → sigExtract (s.canEnt 0 i) data = some raw →
        (smGet {} t.can.sig i).wait =
          some (BitVec.ofNat 32 raw, bit (ew (s.canEnt 0 i) 0) 26 && naRaw (ef (s.canEnt 0 i) 0 9 6) raw)) ∧
      (∀ i, i < 512 → s.rpl.live ≠ none ∨ sigMatches (s.canEnt 0 i) c hdr.toNat = false → smGet {} t.can.sig i = smGet {} s.can.sig i) ∧
      t.can.tab = s.can.tab ∧ (∀ d, (t.canC d).queue = (s.canC d).queue) ∧ OnlyParts [.regs, .mem, .clk, .gns, .can, .evr, .tab, .rpl] s t))) ∧
  (∀ (i : Fin 512) (s : State),
    let x := smGet {} s.can.sig i
    let late := ∃ c, x.cyc = some c ∧ ef (s.canEnt 0 i) 3 0 16 ≠ 0 ∧ x.valid = true ∧ s.since c (ef (s.canEnt 0 i) 3 0 16 * cycMs) = true ∧ s.rpl.live = none
    (late → exec (.canSignalTimeout i) s = .next
      (((s.setCan { s.can with sig := smPut {} s.can.sig i { x with valid := false } }).unvalid (pubKey 8 (2 * i.val))).unvalid (pubKey 8 (2 * i.val + 1)))) ∧
    (¬ late → Idle (.canSignalTimeout i) s)) ∧
  (∀ (c : Fin 6) (tdcv : Fin 128) (s : State), s.canonical →
    (canSends s c = true → (s.canC c).queue ≠ [] → Gives (.canFrameSent c tdcv) s (fun t => ∃ f ∈ (s.canC c).queue,
      (∀ g ∈ (s.canC c).queue, f.hdr % 2 ^ 29 ≤ g.hdr % 2 ^ 29) ∧
      t.canC c = { s.canC c with queue := (s.canC c).queue.erase f, nSent := (s.canC c).nSent + 1 } ∧
      t.fld (Fd.CAN_ERR_TEC c) = s.fld (Fd.CAN_ERR_TEC c) - 1 ∧
      t.fld (Fd.CAN_STAT_STATE c) = (if 128 ≤ s.fld (Fd.CAN_ERR_TEC c) - 1 ∨ 128 ≤ s.fld (Fd.CAN_ERR_REC c) then 1 else 0) ∧
      (s.flag (Fd.CAN_TDC_EN c) = true → bit f.hdr 30 = true → t.fld (Fd.CAN_STAT_TDCV c) = tdcv.val) ∧
      (∀ o, f.obj = some o → bits (((smGet [] t.can.tab (1024 + o)).getD 4 0).toNat) 16 16 = Code.ok ∧ t.mem = s.mem) ∧
      (f.obj = none → t.mem =
        (writeIova (writeIova s 0x0E (f.entry + 0x50) (leBytes 4 (Code.ok * 2 ^ 16))) 0x0E (f.entry + 0x58) (leBytes 8 s.dtNs)).mem) ∧
      OnlyRegs ([Ra.CAN_STAT c, Ra.CAN_ERR c] ++ xferRegs) s t ∧ OnlyParts [.regs, .mem, .can] s t)) ∧
    (canSends s c = false ∨ (s.canC c).queue = [] → Idle (.canFrameSent c tdcv) s)) ∧
  (∀ (c : Fin 6) (s : State), s.canonical → Gives (.canLifetimeExpiry c) s (fun t =>
    t.canC c = { s.canC c with queue := (s.canC c).queue.filter (fun f => match f.dead with
      | some x => !(decide (x ≤ s.clk.cyc) && !f.arb)
      | none => true) } ∧
    (∀ d, d ≠ c.val → t.canC d = s.canC d) ∧ OnlyRegs xferRegs s t ∧ OnlyParts [.regs, .mem, .can] s t)) ∧
  (∀ (c : Fin 6) (tail : Word) (s : State), s.canonical →
    let n := max 1 (bits (s.reg (Ra.CAN_TXQ_CFG c)).toNat 0 16)
    Gives (.canTxqDoorbell c tail) s (fun t => t.fld (Fd.CAN_TXQ_TAIL_V c) = tail.toNat % n ∧ t.fld (Fd.CAN_TXQ_HEAD_V c) = tail.toNat % n ∧
      OnlyRegs ([Ra.CAN_TXQ_TAIL c, Ra.CAN_TXQ_HEAD c] ++ xferRegs) s t ∧ OnlyParts [.regs, .mem, .can] s t)) ∧
  (∀ s : State, s.canonical →
    let kind := canSelKind s
    let i := canSelIdx s
    let e := (List.range 6).map (fun k => s.reg (Ra.CAN_SIG_DATA 0 k))
    (canIdxOk kind i = true → Gives .canSigRead s (fun t => (∀ k, k < 6 → t.reg (Ra.CAN_SIG_DATA 0 k) = (s.canWritten kind i).getD k 0) ∧
      t.fld (Fd.CAN_SIG_CMD_RESULT 0) = Code.ok ∧ OnlyRegs (Ra.CAN_SIG_CMD 0 :: (List.range 6).map (Ra.CAN_SIG_DATA 0)) s t ∧ OnlyParts [.regs] s t)) ∧
    (canIdxOk kind i = false → exec .canSigRead s = .next (s.setFld (Fd.CAN_SIG_CMD_RESULT 0) Code.badArgument)) ∧
    (canIdxOk kind i = false ∨ canFieldsOk kind e = false → exec .canSigWrite s = .next (s.setFld (Fd.CAN_SIG_CMD_RESULT 0) Code.badArgument)) ∧
    (∀ l, canIdxOk kind i = true → canFieldsOk kind e = true → canEntOwner s kind i = some l → loopLocked s l = true →
      exec .canSigWrite s = .next (s.setFld (Fd.CAN_SIG_CMD_RESULT 0) Code.refused)) ∧
    (canWriteCode s kind i e = Code.ok → Gives .canSigWrite s (fun t => t.fld (Fd.CAN_SIG_CMD_RESULT 0) = Code.ok ∧
      t.can = { s.can with
        tabP := smPut none s.can.tabP (canKey kind i) (some (if kind = 2 then setAt e 4 ((s.canEnt 2 i).getD 4 0) else e)) } ∧
      OnlyRegs [Ra.CAN_SIG_CMD 0] s t ∧ OnlyParts [.regs, .can] s t))) ∧
  (∀ (k : Fin 12) (frame count : Fin 512) (s : State), s.canonical →
    let f := s.canEnt 0 frame
    let c := s.canEnt 0 count
    let same := bit (ew f 0) 31 = true ∧ bit (ew c 0) 31 = true ∧ ef f 0 27 4 = ef c 0 27 4 ∧ ef f 1 0 29 = ef c 1 0 29 ∧ ef f 2 0 29 = ef c 2 0 29
    let ends := fun (en : Bool) (code : Nat) => Gives (.canStreamEnable k frame count) s (fun t => t.flag (Fd.CAN_STRM_CFG_EN 0 k) = en ∧
      t.fld (Fd.CAN_STRM_CFG_FRAME 0 k) = frame.val ∧ t.fld (Fd.CAN_STRM_CFG_COUNT 0 k) = count.val ∧ t.fld (Fd.CAN_SIG_CMD_RESULT 0) = code ∧
      OnlyRegs [Ra.CAN_STRM_CFG 0 k, Ra.CAN_SIG_CMD 0] s t ∧ OnlyParts [.regs] s t)
    (same → ends true Code.ok) ∧ (¬ same → ends false Code.badArgument)) ∧
  (∀ (c : Fin 6) (addr : Fin 254) (s : State),
    let may := canRunning s c = true ∧ s.flag (Fd.CAN_CTL_ISO c) = true ∧ canTxOn s = true ∧ s.rpl.live = none
    (may → exec (.addressClaim c addr) s = .next (s.setCanC c { s.canC c with addr := addr, claimed := true })) ∧
    (¬ may → Idle (.addressClaim c addr) s) ∧
    (s.rpl.live = none → exec (.addressLost c) s = .next (s.setCanC c { s.canC c with addr := 254, claimed := false })) ∧
    (s.rpl.live ≠ none → Idle (.addressLost c) s))) ∧
  ((∀ (p : Fin 4) (up : Bool) (sqi : Fin 8) (s : State), s.canonical → Gives (.ethLinkChange p up sqi) s (fun t =>
    t.flag (Fd.ETH_PORT_STAT_LINK p) = up ∧ t.fld (Fd.ETH_PORT_STAT_SQI p) = sqi.val ∧
    (up = false → s.eth.ptp.any (fun x => x.1 == p.val) = true → t.eth = { s.eth with ptp := none }) ∧
    (up = true ∨ s.eth.ptp.any (fun x => x.1 == p.val) = false → t.eth = s.eth) ∧
    OnlyRegs [Ra.ETH_PORT_STAT p] s t ∧ OnlyParts [.regs, .eth] s t)) ∧
  (∀ (p : Fin 4) (s : State), s.canonical →
    let l := gclOf (smGet [] s.eth.gclSh p)
    let fits := gclCycle l ≠ 0 ∧ 10000 % gclCycle l = 0
    (¬ fits → exec (.gclCommit p) s = .next (s.setReg (Ra.ETH_GCL_STAT p) (BitVec.ofNat 32 (Code.badArgument * 2 ^ 16)))) ∧
    (fits → Gives (.gclCommit p) s (fun t => t.reg (Ra.ETH_GCL_STAT p) = BitVec.ofNat 32 (Code.ok * 2 ^ 16) ∧
      t.eth = { s.eth with gclP := smPut none s.eth.gclP p (some l) } ∧ OnlyRegs [Ra.ETH_GCL_STAT p] s t ∧ OnlyParts [.regs, .eth] s t))) ∧
  (∀ (p : Fin 5) (dst src : Long) (pcp : Option (Fin 8)) (etype : Half) (data : List Byte) (stamp : Long) (s : State), s.canonical →
    let c := Instr.ethFrameIngress p dst src pcp etype data stamp
    let cls := match pcp with
      | some x => x.val
      | none => if p.val < 4 then s.fld (Fd.ETH_PORT_CFG_PCP p) else 0
    let goes := fun (q : Nat) => q < 5 ∧ q ≠ p.val ∧ ethUp s q = true ∧ gateFits s q cls (data.length + 14) = true
    let own := if etype.toNat = 0x0806 then arpReply s p.val data else if etype.toNat = 0x0800 then echoReply s p.val src.toNat data else []
    let floods := Gives c s (fun t => (∀ x, x ∈ t.eth.fwd ↔ goes x.1 ∧ x.2 = (dst.toNat, data)) ∧ OnlyParts [.regs, .eth] s t)
    (ethUp s p = false → exec c s = .next (s.setEth { s.eth with fwd := [] })) ∧
    (ethUp s p = true → 9000 < data.length + 14 → Gives c s (fun t => t.eth = { s.eth with fwd := [] } ∧
      (p.val < 4 → t.fld (Fd.ETH_PORT_STAT_DROPS p) = satU 16 (s.fld (Fd.ETH_PORT_STAT_DROPS p) + 1)) ∧
      OnlyRegs [Ra.ETH_PORT_STAT p] s t ∧ OnlyParts [.regs, .eth] s t)) ∧
    (ethUp s p = true → data.length + 14 ≤ 9000 →
      ((∃ q, (src.toNat, q) ∈ s.eth.fdb) ∨ s.eth.fdb.length < 1024 →
        Gives c s (fun t => smGet none t.eth.fdb src.toNat = some p.val)) ∧
      (etype.toNat = 0x88F7 → Gives c s (fun t => t.eth.fwd = [] ∧ OnlyParts [.regs, .gns, .eth] s t)) ∧
      (etype.toNat = 0x0806 → beNum data 6 2 = 1 → beNum data 24 4 = ownIp s → Gives c s (fun t =>
        ∃ x ∈ t.eth.fwd, x.1 = p.val ∧ x.2.1 = beNum data 8 6 ∧ beNum x.2.2 6 2 = 2 ∧ beNum x.2.2 14 4 = ownIp s)) ∧
      (let h := beNum data 0 1 % 16 * 4;
        etype.toNat = 0x0800 → beNum data 9 1 = 1 → beNum data 16 4 = ownIp s → beNum data h 1 = 8 → 20 ≤ h → h < data.length → Gives c s (fun t =>
          ∃ x ∈ t.eth.fwd, x.1 = p.val ∧ x.2.1 = src.toNat ∧ x.2.2.getD h 0 = 0)) ∧
      (etype.toNat ≠ 0x88F7 → own = [] →
        (macGroup dst.toNat = true → floods) ∧
        (macGroup dst.toNat = false → dst.toNat = Config.macAddr → Gives c s (fun t => t.eth.fwd = [] ∧ OnlyParts [.eth] s t)) ∧
        (macGroup dst.toNat = false → dst.toNat ≠ Config.macAddr → dst ≠ src → smGet none s.eth.fdb dst.toNat = none → floods) ∧
        (∀ q, macGroup dst.toNat = false → dst.toNat ≠ Config.macAddr → dst ≠ src → smGet none s.eth.fdb dst.toNat = some q → goes q →
          Gives c s (fun t => t.eth.fwd = [(q, dst.toNat, data)] ∧ OnlyParts [.eth] s t))))) ∧
  (∀ (src dst : Word) (port id : Half) (data : List Byte) (sub : Fin 8000) (s : State),
    let whole := Instr.ethDatagram src dst port id 0 false data sub
    let toFusion := fun (n : Nat) => s.flag (Fd.FUS_SRC_CFG_EN n) = true ∧ s.fld (Fd.FUS_SRC_CFG_PORT n) = port.toNat
    (∀ ofs more, ipMine s dst.toNat = false ∨ s.bootStep < 8 → Idle (.ethDatagram src dst port id ofs more data sub) s) ∧
    (ipMine s dst.toNat = true → 8 ≤ s.bootStep →
      ((∀ n, n < 6 → ¬ toFusion n) → port.toNat ≠ s.fld Fd.VHP_CFG_PORT → s.pm.appReset = false →
        exec whole s = .next (s.setEth { s.eth with appRx := ((port.toNat, data) :: s.eth.appRx).take 64 })) ∧
      ((∀ n, n < 6 → ¬ toFusion n) → port.toNat = s.fld Fd.VHP_CFG_PORT ∨ s.pm.appReset = true → Idle whole s) ∧
      (∀ n : Fin 6, toFusion n → (∀ m, m < n.val → ¬ toFusion m) → exec whole s = .next (lidarDatagram s n (leNat (data.take 8)) (beNum data 8 1)
        (leNat ((data.drop 10).take 2)) (bit (beNum data 9 1) 0) (leWords (data.drop 16)) sub)))) ∧
  (∀ (src dst : Word) (port id : Half) (ofs : Fin 9001) (more : Bool) (data : List Byte) (sub : Fin 8000) (s : State),
    let c := Instr.ethDatagram src dst port id ofs more data sub
    let key := src.toNat * 2 ^ 32 + id.toNat * 2 ^ 16 + port.toNat
    let others := s.eth.reasm.filter (fun r => r.key != key)
    ipMine s dst.toNat = true → 8 ≤ s.bootStep → ofs.val ≠ 0 ∨ more = true →
      (s.eth.reasm.find? (fun r => r.key == key) = none → 16 ≤ others.length → Idle c s) ∧
      (∀ r, s.eth.reasm.find? (fun r => r.key == key) = some r ∨
          (s.eth.reasm.find? (fun r => r.key == key) = none ∧ others.length < 16 ∧ r = { key := key, at_ := s.cyc }) →
        let r' : Reasm := { r with frags := r.frags ++ [(ofs.val, data)], total := if more then r.total else some (ofs.val + data.length) }
        (9000 < ofs.val + data.length → exec c s = .next (s.setEth { s.eth with reasm := others })) ∧
        (ofs.val + data.length ≤ 9000 → reasmDone r' = none → exec c s = .next (s.setEth { s.eth with reasm := others ++ [r'] })) ∧
        (∀ b, ofs.val + data.length ≤ 9000 → reasmDone r' = some b →
          exec c s = .next (udpDeliver (s.setEth { s.eth with reasm := others }) port.toNat sub b)))) ∧
  (∀ s : State, exec .reassemblyTimeout s =
    .next ((s.setEth { s.eth with reasm := s.eth.reasm.filter (fun r => decide (s.clk.cyc < r.at_ + 100 * cycMs)) }).count (Fd.ETH_IP_V 15)
      (s.eth.reasm.filter (fun r => decide (r.at_ + 100 * cycMs ≤ s.clk.cyc))).length)))

/-! ### Ethernet (R394–R397) -/

/-! ### The safety island and steering (R255–R263, R446–R470) -/

/-- The safety island's events (R61, R450, R452, R457, R459, R461–R466). A lock-out latches the first cause with its detail, marks every cause and is
recorded. A contribution to the speed limit becomes 0 and lifts 1 s after its cause; a heartbeat is taken; a test pulse finds a lasting high or a
low of the wrong source; an overloaded source, a discrepancy, a failed output, a contradicting pair, a stop and a press of the button act as their
rules say, and otherwise change nothing. -/
def Obligations.SafetyIsland : Prop :=
  (∀ (s : State) (cause detail : Nat), s.canonical → cause < 16 → detail < 16 →
    let t := lockOut s cause detail
    t.saf.mram.isSome = true ∧ (∀ x, s.saf.mram = some x → s.saf.lockTick ≠ some s.saf.t → t.saf.mram = some x) ∧
    bit (t.reg Ra.SAF_LOCK_MASK).toNat cause = true ∧
    (s.saf.mram = none → t.saf.mram = some (cause, detail) ∧ t.saf.seCopy = some (s.saf.seCopy.getD cause) ∧ t.flag Fd.SAF_LOCK_LATCHED = true ∧
      t.fld Fd.SAF_LOCK_CAUSE = cause ∧ t.fld Fd.SAF_LOCK_DETAIL = detail ∧ t.flag Fd.SAF_LOCK_READY = false) ∧
    t.saf.offs = s.saf.offs ++ [{ cause := cause, detail := detail, off := s.saf.t + 20 }] ∧ OnlyParts [.regs, .saf, .evr, .tab, .rpl] s t) ∧
  (∀ s : State,
    (5 ≤ s.saf.hbMiss → driverless s.outMode = true → exec .heartbeatLoss s =
      .next (s.setSaf { s.saf with zero := smPut none s.saf.zero 2 (some none) })) ∧
    (s.saf.hbMiss < 5 ∨ driverless s.outMode = false → Idle .heartbeatLoss s)) ∧
  (∀ (k : Fin 8) (s : State),
    (∀ x, smGet none s.saf.zero k = some (some x) →
      (x + 20000 ≤ s.saf.t → exec (.speedContributionLift k) s = .next (s.setSaf { s.saf with zero := smPut none s.saf.zero k none })) ∧
      (s.saf.t < x + 20000 → Idle (.speedContributionLift k) s)) ∧
    (smGet none s.saf.zero k = some none ∨ smGet none s.saf.zero k = none → Idle (.speedContributionLift k) s)) ∧
  (∀ (v : Word) (s : State),
    Gives (.safHbWrite v) s (fun t => t.saf = { s.saf with hb := v } ∧ OnlyRegs captureRegs s t ∧ OnlyParts [.regs, .saf, .tab, .rpl] s t)) ∧
  (∀ s : State, Gives .safStopReq s (fun t => t.saf = { s.saf with stopGo := true } ∧ OnlyRegs captureRegs s t ∧
    OnlyParts [.regs, .saf, .tab, .rpl] s t)) ∧
  (∀ (tp : Fin 2) (low : BitVec 8) (s : State),
    let works := bit (s.fld Fd.SAF_STAT_TP) tp = false ∧ safRuns s = true
    let seen := fun (k : Nat) => k < 8 ∧ s.saf.cfg.used (k / 2) = true ∧ s.saf.cfg.type (k / 2) ≠ 2 ∧ (s.safIn k).filt = true
    (¬ works → Idle (.testPulse tp low) s) ∧
    (works → (∀ k, seen k → bit low.toNat k = decide (k % 2 = tp.val)) →
      Gives (.testPulse tp low) s (fun t => t.saf.mram = s.saf.mram ∧ t.saf.offs = s.saf.offs ∧ OnlyRegs captureRegs s t ∧
        OnlyParts [.regs, .saf, .tab] s t)) ∧
    (works → ∀ k, seen k → (s.safIn k).fault = false →
      (k % 2 = tp.val ∧ bit low.toNat k = false ∧ (s.safIn k).miss = 2) ∨ (k % 2 ≠ tp.val ∧ bit low.toNat k = true) →
      Gives (.testPulse tp low) s (fun t => t.saf.mram.isSome = true ∧ (t.safIn k).fault = true ∧ OnlyParts [.regs, .saf, .evr, .tab, .rpl] s t))) ∧
  (∀ (tp : Fin 2) (s : State), s.canonical → Gives (.tpOverload tp) s (fun t => bit (t.fld Fd.SAF_STAT_TP) tp = true ∧
    bit (t.fld Fd.SAF_STAT_TP) (1 - tp) = bit (s.fld Fd.SAF_STAT_TP) (1 - tp) ∧ OnlyRegs [Ra.SAF_STAT] s t ∧ OnlyParts [.regs] s t)) ∧
  (∀ (i : Fin 4) (s : State),
    (discDue s i = true → Gives (.discrepancyTimeout i) s (fun t => (t.safPair i).disc = true ∧ (t.safPair i).trip = true ∧
      (t.safPair i).cycled = false ∧ t.saf.mram.isSome = true ∧ OnlyParts [.regs, .saf, .evr, .tab, .rpl] s t)) ∧
    (discDue s i = false → Idle (.discrepancyTimeout i) s)) ∧
  (∀ (k : Fin 4) (elem : Fin 2) (s : State),
    let fails := fun (c : Instr) => Gives c s (fun t => (t.safOut k).fault = true ∧ (t.safOut k).on = false ∧ t.saf.mram.isSome = true ∧
      (s.saf.mram = none → t.saf.mram = some (4, k.val)) ∧ OnlyParts [.regs, .saf, .evr, .tab, .rpl] s t)
    (soPowered s = true → (s.safOut k).fault = false →
      ((s.safOut k).on = true →
        exec (.soElementTest k elem true) s = .next (s.setSafOut k { s.safOut k with fail := 0 }) ∧
        ((s.safOut k).fail = 0 → exec (.soElementTest k elem false) s = .next (s.setSafOut k { s.safOut k with fail := 1 })) ∧
        (1 ≤ (s.safOut k).fail → fails (.soElementTest k elem false))) ∧
      ((s.safOut k).on = false → Idle (.soElementTest k elem true) s ∧ fails (.soElementTest k 0 false))) ∧
    (soPowered s = false → Idle (.soElementTest k elem false) s) ∧
    ((s.safOut k).on = true → fails (.soOvercurrent k)) ∧ ((s.safOut k).on = false → Idle (.soOvercurrent k) s)) ∧
  (∀ (p : Fin 2) (s : State),
    let x := s.sensPair p
    let locks := Gives (.sensorPairContradiction p) s (fun t => (t.sensPair p).con = true ∧ t.saf.mram.isSome = true ∧
      (s.saf.mram = none → t.saf.mram = some (5, p.val)) ∧ OnlyParts [.regs, .saf, .evr, .tab, .rpl] s t)
    (x.con = false → x.bad < max 1 (sensConf s p) → Idle (.sensorPairContradiction p) s) ∧
    (x.con = false → 0 < x.bad → sensConf s p ≤ x.bad →
      (driverless s.outMode = false → exec (.sensorPairContradiction p) s = .next (s.setSensPair p { x with con := true, ok := false })) ∧
      (driverless s.outMode = true → locks)) ∧
    (x.con = true → (driverless s.outMode = false ∨ s.locked = true → Idle (.sensorPairContradiction p) s) ∧
      (driverless s.outMode = true → s.locked = false → locks))) ∧
  (∀ (ms : Word) (pass : Bool) (out : Fin 4) (s : State), s.canonical →
    let c := Instr.resetPress ms pass out
    (10000 < ms.toNat → Gives c s (fun t => t.flag Fd.SAF_LOCK_BTN_FAULT = true ∧ t.saf = { s.saf with btnIgn := true, btnRel := some s.saf.t } ∧
      OnlyRegs (Ra.SAF_LOCK :: captureRegs) s t ∧ OnlyParts [.regs, .saf, .tab] s t)) ∧
    (ms.toNat ≤ 10000 → s.saf.btnIgn = true → Gives c s (fun t => t.saf = { s.saf with btnRel := some s.saf.t } ∧
      OnlyRegs captureRegs s t ∧ OnlyParts [.regs, .saf, .tab] s t)) ∧
    (s.saf.btnIgn = false →
      (ms.toNat < 500 ∨ (3000 < ms.toNat ∧ ms.toNat ≤ 10000) → Gives c s (fun t => OnlyRegs captureRegs s t ∧ OnlyParts [.regs, .tab] s t)) ∧
      (500 ≤ ms.toNat → ms.toNat ≤ 3000 →
        (s.locked = true → s.flag Fd.SAF_LOCK_READY = false → Gives c s (fun t =>
          t.fld Fd.SAF_LOCK_RST_CODE = Code.refused ∧ t.saf = s.saf ∧ OnlyParts [.regs, .evr, .tab, .rpl] s t)) ∧
        (s.locked = true → s.flag Fd.SAF_LOCK_READY = true → Gives c s (fun t =>
          t.saf = { s.saf with rst := some (none, pass, out.val) } ∧ OnlyParts [.regs, .saf, .evr, .tab, .rpl] s t)) ∧
        (s.locked = false → Gives c s (fun t => t.fld Fd.SAF_LOCK_RST_CODE = Code.ok ∧
          (∀ i, i < 4 → (s.safPair i).trip = true → t.safPair i = s.safPair i) ∧
          (smWf (fun _ => {}) s.saf.ip = true → ∀ i, i < 4 → (s.safPair i).trip = false → t.safPair i = { s.safPair i with wait := false }) ∧
          OnlyParts [.regs, .saf, .evr, .tab, .rpl] s t))))) ∧
  (∀ s : State, exec .buttonFault s = .next ((s.setFlag Fd.SAF_LOCK_BTN_FAULT true).setSaf { s.saf with btnIgn := true, btnRel := none }))

/-- Steering (R255, R259–R261, R469): a path segment is appended where it is well formed, in sequence and joins the last one, a clearing message
empties the path, and either is acknowledged with its code; requests wait for the inner sample; the lowest check that acts disengages with its number,
or in the driverless modes holds the speed limit at 0; a test drives one valve of a standing machine in SERVICE for 2 s. -/
def Obligations.Steering : Prop :=
  (∀ (s : State) (m : Seg),
    let ok := segOk m = true ∧ (∀ q, s.steer.lastSeq = some q → (m.headD 0).toNat = (q + 1) % 2 ^ 32) ∧
      (∀ p, s.steer.segs.getLast? = some p → segOrig p = segOrig m ∧ segJoins p m = true)
    let clears := segType m = 0xFFFF ∧ (m.drop 11).all (· == 0) = true
    (clears →
      (pathMsg s m).2 = Code.ok ∧ (pathMsg s m).1.steer = { s.steer with segs := [], lastSeq := some (m.headD 0).toNat }) ∧
    (¬ clears →
      (ok → s.steer.segs.length < 64 → (pathMsg s m).2 = Code.ok ∧
        (pathMsg s m).1.steer = { s.steer with segs := s.steer.segs ++ [m], lastSeq := some (m.headD 0).toNat }) ∧
      (ok → 64 ≤ s.steer.segs.length → pathMsg s m = (s, Code.refused)) ∧
      (¬ ok → pathMsg s m = (s, Code.badArgument)))) ∧
  (∀ (e : Fin 64) (s : State),
    let mine := s.fld (Fd.MBX_EP_STAT_STATE e) = epFull ∧ s.flag (Fd.MBX_EP_CFG_RXL e) = false ∧ s.fld (Fd.MBX_EP_CFG_RX e) = 0x0C
    let m := (List.range 16).map (fun k => s.reg (Ra.MBX_PAYLOAD e k))
    (¬ mine → Idle (.pathSegment e) s) ∧
    (mine → s.rpl.live = none → Gives (.pathSegment e) s (fun t => t.steer = (pathMsg s m).1.steer ∧
      (∃ s', t = mbxAck s' e (pathMsg s m).2 ∧ OnlyRegs (Ra.SAF_STEER_STAT :: captureRegs) s s' ∧ OnlyParts [.regs, .steer, .tab] s s') ∧
      OnlyParts [.regs, .steer, .dma, .tab] s t)) ∧
    (mine → s.rpl.live.isSome = true → exec (.pathSegment e) s = .next (mbxAck s e Code.refused))) ∧
  (∀ s : State,
    (s.rpl.live = none → Gives .steerEngage s (fun t => t.steer = { s.steer with req := some 1 } ∧ OnlyRegs captureRegs s t ∧
        OnlyParts [.regs, .steer, .tab] s t) ∧
      Gives .steerDisengageReq s (fun t => t.steer = { s.steer with req := some 2 } ∧ OnlyRegs captureRegs s t ∧
        OnlyParts [.regs, .steer, .tab] s t)) ∧
    (s.rpl.live.isSome = true → exec .steerEngage s = .next (s.setFld Fd.SAF_STEER_STAT_RESULT Code.refused) ∧
      exec .steerDisengageReq s = .next (s.setFld Fd.SAF_STEER_STAT_RESULT Code.refused))) ∧
  (∀ s : State, (s.steer.engaged = false → Idle .steerCheckAct s) ∧ (steerFirst s = none → Idle .steerCheckAct s) ∧
    ∀ k, s.steer.engaged = true → steerFirst s = some k →
      (driverless s.bndMode = false ∨ k = 12 → Gives .steerCheckAct s (fun t => t.steer.engaged = false ∧
        t.steer.disAt = some (s.clk.tick + 20, k) ∧ t.stage.length = s.stage.length + 2 ∧ OnlyParts [.steer, .stage] s t)) ∧
      (driverless s.bndMode = true → k ≠ 12 → Gives .steerCheckAct s (fun t => t.steer.engaged = true ∧
        (∀ j, 2 ≤ j → j ≤ 12 → steerDue s j = true → smGet false t.steer.held j = true) ∧ OnlyParts [.steer] s t))) ∧
  (∀ (valve : Fin 4) (cur : BitVec 12) (s : State),
    let ends := fun (t : State) (code : Nat) => t.setFld Fd.SAF_STEER_STAT_RESULT code
    (valve = 3 → exec (.steerTest valve cur) s = .next (ends s Code.badArgument)) ∧
    (valve = 0 → exec (.steerTest valve cur) s = .next (ends (s.setSteer { s.steer with test := none }) Code.ok)) ∧
    (valve = 1 ∨ valve = 2 →
      let may := s.mode = Mode.service ∧ s.flag Fd.SAF_LOCK_STATIONARY = true ∧ s.steer.engaged = false ∧ s.locked = false ∧
        fle (fOfInt cur.toNat) (stCal s cImax) = true
      (may → exec (.steerTest valve cur) s =
        .next (ends (s.setSteer { s.steer with test := some (valve.val - 1, cur.toNat, s.cyc) }) Code.ok)) ∧
      (¬ may → exec (.steerTest valve cur) s = .next (ends s Code.refused)))) ∧
  (∀ (s : State) (v i c : Nat), s.steer.test = some (v, i, c) →
    (c + 2 * cycS ≤ s.cyc → exec .steerTestEnd s = .next (s.setSteer { s.steer with test := none })) ∧
    (s.cyc < c + 2 * cycS → Idle .steerTestEnd s)) ∧
  (∀ s : State, s.steer.test = none → Idle .steerTestEnd s)

/-! ### Valve drive (R403–R427) -/

/-- Facet instructions (R407–R412, R415, R417): the legal instruction at a running context's program counter does what the table gives it and the
context goes on with the next word in the next step (BR at IMM where its condition holds, WAIT after IMM steps, SYNC at the carrier period, BOOST and
PULL when their phase or request has ended). No other channel changes. A word that is no legal instruction stops the context with FAULT 7 and switches
its channel off. A context that is not at its step executes nothing. In REPLAY the recorded inputs of the step have taken effect before. -/
def Obligations.FacetInstructions : Prop :=
  ∀ (n : Fin 32) (sub : Fin 500) (s : State), s.canonical → s.rpl.facet = [] → (facetReady s n (stepAt s sub) = false →
    ∀ c ∈ ([.facetNop n sub, .facetLdi n sub, .facetMov n sub, .facetAdd n sub, .facetSub n sub, .facetCmp n sub, .facetTake n sub, .facetBr n sub,
      .facetHold n sub, .facetOff n sub, .facetBoost n sub, .facetPull n sub, .facetWait n sub, .facetSync n sub, .facetKget n sub, .facetDith n sub,
      .facetUndefinedOpcode n sub] : List Instr), Idle c s) ∧
    (facetReady s n (stepAt s sub) = true →
    let now := stepAt s sub
    let c := s.fctx n
    let b := n.val / 4
    let others := fun (t : State) => (∀ m, m ≠ n.val → t.vch m = s.vch m ∧ t.fctx m = s.fctx m) ∧ OnlyParts [.regs, .vlv, .tab, .rpl] s t
    let next := { c with wait := .ready, pc := c.pc + 1, step := now + 1 }
    let v := if (s.vch n).keep then { s.vch n with keep := false, dithA := 0, dithN := 0 } else s.vch n
    (∀ i, facetFetch s n = some i →
      let runs := fun (cmd : Instr) (c' : FacetCtx) (pc step : Nat) => exec cmd s =
        .next ((s.setFctx n { c' with wait := .ready, pc := pc, step := step }).setFld ⟨Ra.VLV_BANK_SEQ b, 8 * (n.val % 4), 8⟩ pc)
      (i.op = 0x00 → runs (.facetNop n sub) c (c.pc + 1) (now + 1)) ∧
      (i.op = 0x01 → runs (.facetLdi n sub) (c.set i.a i.imm) (c.pc + 1) (now + 1)) ∧
      (i.op = 0x02 → runs (.facetMov n sub) (c.set i.a (c.get i.b)) (c.pc + 1) (now + 1)) ∧
      (i.op = 0x03 → runs (.facetAdd n sub) (c.set i.a (min (c.get i.a + c.get i.b) 65535)) (c.pc + 1) (now + 1)) ∧
      (i.op = 0x04 → runs (.facetSub n sub) (c.set i.a (c.get i.a - c.get i.b)) (c.pc + 1) (now + 1)) ∧
      (i.op = 0x05 → runs (.facetCmp n sub) { c with z := decide (c.get i.a = c.get i.b), c := decide (c.get i.b ≤ c.get i.a) } (c.pc + 1) (now + 1)) ∧
      (i.op = 0x06 → runs (.facetTake n sub) { c.set i.a (s.vch n).s with new := decide ((s.vch n).s ≠ c.last), last := (s.vch n).s } (c.pc + 1) (now + 1)) ∧
      (i.op = 0x07 → (facetCond c i.b = true → runs (.facetBr n sub) c i.imm (now + 1)) ∧
        (facetCond c i.b = false → runs (.facetBr n sub) c (c.pc + 1) (now + 1))) ∧
      (i.op = 0x0E → runs (.facetKget n sub) (c.set i.a (s.fld (Fd.VLV_CH_KINK_TIME n))) (c.pc + 1) (now + 1)) ∧
      (i.op = 0x08 → Gives (.facetHold n sub) s (fun t => t.fctx n = next ∧
        t.vch n = { v with held := true, target := min (c.get i.a) (min 3000 (s.fld (Fd.VLV_CH_CFG_IMAX n))) } ∧
        t.fld (Fd.VLV_CH_MEAS_TARGET n) = min (c.get i.a) (min 3000 (s.fld (Fd.VLV_CH_CFG_IMAX n))) ∧ others t)) ∧
      (i.op = 0x09 → Gives (.facetOff n sub) s (fun t => t.fctx n = next ∧
        t.vch n = { v with held := false, target := 0, fast := decide (i.b = 1), keep := false, req := none } ∧ t.fld (Fd.VLV_CH_MEAS_TARGET n) = 0 ∧ others t)) ∧
      (i.op = 0x0C → Gives (.facetWait n sub) s (fun t =>
        t.fctx n = { c with wait := .untilStep (now + i.imm), pc := c.pc + 1, step := now + i.imm } ∧ t.vch n = s.vch n ∧ others t)) ∧
      (i.op = 0x0D → Gives (.facetSync n sub) s (fun t =>
        t.fctx n = { c with wait := .sync, pc := c.pc + 1, step := now + 1 } ∧ t.vch n = s.vch n ∧ others t)) ∧
      (i.op = 0x0F → Gives (.facetDith n sub) s (fun t => t.fctx n = next ∧
        t.vch n = { s.vch n with dithA := c.get i.a, dithN := i.imm } ∧ others t)) ∧
      (i.op = 0x0B → Gives (.facetPull n sub) s (fun t =>
        t.fctx n = { c with wait := .phase, pk := false, kink := false, tmo := false, rej := false, wd := false, pc := c.pc + 1 } ∧
        (t.vch n).req = some { peak := min 8000 (c.get i.a), limit := i.imm, kinkOn := decide (i.b = 1), pull := true, reqAt := now, start := now } ∧
        t.vbank b = s.vbank b ∧ others t)) ∧
      (i.op = 0x0A →
        let clr := { c with pk := false, kink := false, tmo := false, rej := false, wd := false, pc := c.pc + 1 }
        let r : BoostReq := { peak := min 8000 (c.get i.a), limit := i.imm, kinkOn := decide (i.b = 1), pull := false, reqAt := now }
        (grantBar s b now = 0 → Gives (.facetBoost n sub) s (fun t => t.fctx n = { clr with wait := .phase } ∧
          (t.vch n).req = some { r with start := now } ∧ (t.vbank b).boost = some (n.val % 4) ∧ t.fld (Fd.VLV_CH_STAT_CODE n) = Code.ok ∧ others t)) ∧
        (grantBar s b now = 3 → s.flag (Fd.VLV_BANK_CFG_FALLBACK b) = true → Gives (.facetBoost n sub) s (fun t =>
          t.fctx n = { clr with wait := .phase } ∧ (t.vch n).req = some { r with pull := true, start := now } ∧ t.vbank b = s.vbank b ∧ others t)) ∧
        (grantBar s b now ≠ 0 → ¬ (grantBar s b now = 3 ∧ s.flag (Fd.VLV_BANK_CFG_FALLBACK b) = true) →
          (waitSteps s b ≠ 0 → Gives (.facetBoost n sub) s (fun t => t.fctx n = { clr with wait := .arb } ∧ (t.vch n).req = some r ∧
            (t.vbank b).waiting = insertWait (now, n.val % 4) (s.vbank b).waiting ∧ others t)) ∧
          (waitSteps s b = 0 → Gives (.facetBoost n sub) s (fun t =>
            t.fctx n = { clr with wait := .ready, rej := true, step := now + 1 } ∧ t.vch n = { s.vch n with req := none } ∧
            t.fld (Fd.VLV_CH_STAT_CODE n) = Code.overlapReject ∧ (∀ m, m ≠ n.val → t.vch m = s.vch m ∧ t.fctx m = s.fctx m) ∧
            LogsOnly [.regs, .vlv, .evr, .tab, .rpl] s t))))) ∧
    (facetFetch s n = none → Gives (.facetUndefinedOpcode n sub) s (fun t => (t.fctx n).wait = .idle ∧ (t.vch n).held = false ∧ (t.vch n).target = 0 ∧
      (t.vch n).fast = true ∧ (t.vch n).req = none ∧ t.fld (Fd.VLV_CH_STAT_FAULT n) = 7 ∧
      (∀ m, m ≠ n.val → t.vch m = s.vch m ∧ t.fctx m = s.fctx m) ∧ LogsOnly [.regs, .vlv, .evr, .tab, .rpl] s t)) ∧
    ((facetFetch s n).isSome = true → Idle (.facetUndefinedOpcode n sub) s))

/-- The arbiter, the carrier and the code stores (R405, R406, R408, R410, R413–R419, R426): enabling, grants and their ends, the setpoints taken at a
carrier period, and the swap of the code halves. VB0 answers to the Mirror pair only. Protection and tests (R413, R421, R423, R424, R427): each fault switches off what its row says, and no other channel; faults clear as their row says,
and in REPLAY a live one has no effect; a test is accepted by the table, starts at a carrier period start of its bank, a deferred one at its idle point,
and ends with its result. -/
def Obligations.ValveDrive : Prop :=
  ((∀ (init : Fin 58) (n : Fin 32) (s : State), s.canonical →
    (n.val < 4 → init.val ≠ 0x0C → exec (.valveChannelEnable init n) s = .next (fabErr s init (Ra.VLV_CH_CFG n) 1)) ∧
    (4 ≤ n.val ∨ init.val = 0x0C → s.flag (Fd.VLV_CH_CFG_EN n) = false → isGated s n = false → vlvTesting s n = false →
      s.fld (Fd.VLV_CH_STAT_FAULT n) = 0 → s.fld (Fd.VLV_BANK_STAT_FAULT (n / 4)) = 0 → Gives (.valveChannelEnable init n) s (fun t => t.flag (Fd.VLV_CH_CFG_EN n) = true ∧
        t.fctx n = { wait := .ready, pc := s.fld (Fd.VLV_CH_CFG_ENTRY n), step := stepAt s 0 } ∧
        t.vch n = (if (s.vch n).keep then s.vch n else { s.vch n with dithA := 0, dithN := 0 }) ∧
        (∀ m, m ≠ n.val → t.fctx m = s.fctx m ∧ t.vch m = s.vch m) ∧ OnlyParts [.regs, .vlv] s t))) ∧
  (∀ (b : Fin 8) (sub : Fin 500) (s : State) (x c : Nat) (l : List (Nat × Nat)) (r : BoostReq), c < 4 → (s.vbank b).waiting = (x, c) :: l →
    (s.vch (4 * b.val + c)).req = some r → r.pull = false →
    (grantBar s b (stepAt s sub) = 0 → Gives (.boostGrant b sub) s (fun t =>
      (t.vch (4 * b.val + c)).req = some { r with start := stepAt s sub } ∧ (t.vbank b).boost = some c ∧
      (t.fctx (4 * b.val + c)).wait = .phase ∧ t.fld (Fd.VLV_CH_STAT_CODE (4 * b.val + c)) = Code.ok ∧
      (∀ m, m ≠ 4 * b.val + c → t.vch m = s.vch m ∧ t.fctx m = s.fctx m) ∧ OnlyParts [.regs, .vlv, .tab, .rpl] s t)) ∧
    (grantBar s b (stepAt s sub) ≠ 0 → Idle (.boostGrant b sub) s)) ∧
  (∀ (b : Fin 8) (sub : Fin 500) (s : State), (s.vbank b).waiting = [] → Idle (.boostGrant b sub) s) ∧
  (∀ (n : Fin 32) (sub : Fin 500) (s : State), (s.vch n).req = none → Idle (.boostWaitTimeout n sub) s ∧
    ∀ pk dip, Idle (.boostPhaseEnd n sub pk dip) s) ∧
  (∀ (n : Fin 32) (sub : Fin 500) (s : State) (r : BoostReq), s.canonical → (s.vch n).req = some r →
    let now := stepAt s sub
    let b := n.val / 4
    let end_ := r.reqAt + waitSteps s b
    (r.start = 0 → end_ ≤ now → Gives (.boostWaitTimeout n sub) s (fun t =>
      t.vch n = { s.vch n with req := none } ∧ t.fctx n = { s.fctx n with wait := .ready, rej := true, step := end_ + 1 } ∧
      t.fld (Fd.VLV_CH_STAT_CODE n) = Code.overlapReject ∧ (∀ m, m ≠ n.val → t.vch m = s.vch m ∧ t.fctx m = s.fctx m) ∧
      LogsOnly [.regs, .vlv, .evr, .tab, .rpl] s t)) ∧
    (r.start ≠ 0 ∨ now < end_ → Idle (.boostWaitTimeout n sub) s) ∧
    (∀ (pk : Bool) (dip : Option (Fin 65536)) (before after : Half),
      let c := Instr.boostPhaseEnd n sub pk ⟨dip, before, after⟩
      let k : Option Nat := (dip.map (·.val)).filter (fun t => r.kinkOn && decide ((kinkWindow s b).1 ≤ t ∧ t ≤ (kinkWindow s b).2) &&
        decide (s.fld (Fd.VLV_BANK_KINK_KDEPTH b) ≤ before.toNat ∧ s.fld (Fd.VLV_BANK_KINK_KDEPTH b) ≤ after.toNat))
      let due := match k with
        | some t => r.start + t + s.fld (Fd.VLV_BANK_KINK_KHOLD b) * 10 ≤ now
        | none => r.start + r.limit ≤ now
      (r.start = 0 ∨ s.rpl.live.isSome = true ∨ ¬ due → Idle c s) ∧
      (r.start ≠ 0 → s.rpl.live = none → due →
        let ends := fun (t : State) => t.fctx n = { s.fctx n with wait := .ready, step := now + 1, pk := pk, kink := k.isSome, tmo := k.isNone } ∧
          (t.vch n).req = none ∧ (t.vch n).held = (s.vch n).held ∧ (t.vch n).target = (s.vch n).target ∧ t.fld (Fd.VLV_CH_KINK_TIME n) = k.getD 0 ∧
          (t.vch n).misses = (if r.kinkOn then (if k.isSome then 0 else (s.vch n).misses + 1) else (s.vch n).misses) ∧
          (r.kinkOn = true → k = none → (s.vch n).misses + 1 = max 1 (s.fld (Fd.VLV_CH_CFG_NOKINK_LIM n)) → t.fld (Fd.VLV_CH_STAT_FAULT n) = 5) ∧
          (k.isSome = true → s.fld (Fd.VLV_CH_STAT_FAULT n) = 5 → t.fld (Fd.VLV_CH_STAT_FAULT n) = 0) ∧
          OnlyParts [.regs, .vlv, .evr, .tab, .rpl] s t
        (r.pull = true ∨ (s.vbank b).waiting = [] → Gives c s (fun t => ends t ∧
          ((s.vbank b).boost = some (n.val % 4) → (t.vbank b).boost = none) ∧ (∀ m, m ≠ n.val → t.vch m = s.vch m ∧ t.fctx m = s.fctx m))) ∧
        (∀ (x m : Nat) (l : List (Nat × Nat)) (q : BoostReq), r.pull = false → (s.vbank b).waiting = (x, m) :: l → m < 4 → m ≠ n.val % 4 →
          (s.vch (4 * b + m)).req = some q → q.pull = false → grantBar (phaseDrop s n now) b (now + 1) = 0 → Gives c s (fun t => ends t ∧
            (t.vch (4 * b + m)).req = some { q with start := now + 1 } ∧ (t.vbank b).boost = some m ∧ (t.fctx (4 * b + m)).wait = .phase ∧
            (∀ i, i ≠ n.val → i ≠ 4 * b + m → t.vch i = s.vch i ∧ t.fctx i = s.fctx i)))))) ∧
  (∀ (b : Fin 8) (mv : Half) (s : State), s.canonical →
    let v := clampN 24 60 (s.fld (Fd.VLV_BANK_CFG_BOOST_V b)) * 1000
    let good := if v * 9 ≤ mv.toNat * 10 then true else if mv.toNat * 10 < v * 8 then false else s.flag (Fd.VLV_BANK_STAT_READY b)
    let fault := s.fld (Fd.VLV_BANK_STAT_FAULT b)
    (s.rpl.live.isSome = true → Idle (.boostReadyChange b mv) s) ∧
    (s.rpl.live = none → Gives (.boostReadyChange b mv) s (fun t => t.fld (Fd.VLV_BANK_RAIL_MV b) = mv.toNat ∧
      t.flag (Fd.VLV_BANK_STAT_READY b) = (good && !(fault == 3) && !(fault == 4) && !batBRev s) ∧
      OnlyRegs (Ra.VLV_BANK_RAIL b :: Ra.VLV_BANK_STAT b :: captureRegs) s t ∧ OnlyParts [.regs, .tab, .rpl] s t))) ∧
  (∀ (b : Fin 8) (sub : Fin 500) (full : Fin 16) (mean : List Half) (s : State), s.canonical →
    (carrierStart s b sub = none → Idle (.carrierPeriodStart b sub full mean) s) ∧
    (∀ t0, carrierStart s b sub = some t0 → s.rpl.facet = [] → Gives (.carrierPeriodStart b sub full mean) s (fun t =>
      (t.vbank b).carAt = some t0 ∧ (∀ i, i < 4 → (t.vch (4 * b.val + i)).s = vlvSet s (4 * b.val + i) ∧
        (s.rpl.live = none → t.fld (Fd.VLV_CH_MEAS_MEAN (4 * b.val + i)) = (mean.getD i 0).toNat)) ∧
      (∀ m, m / 4 ≠ b.val → t.vch m = s.vch m ∧ t.fctx m = s.fctx m) ∧ LogsOnly [.regs, .vlv, .evr, .tab, .rpl] s t))) ∧
  (∀ (init : Fin 58) (b : Fin 8) (s : State),
    (b.val = 0 → init.val ≠ 0x0C → exec (.vlvBankSwap init b) s = .next (fabErr s init (Ra.VLV_BANK_SWAP b) 1) ∧
      exec (.vlvBankClr init b) s = .next (fabErr s init (Ra.VLV_BANK_CLR b) 1)) ∧
    (b.val ≠ 0 ∨ init.val = 0x0C → exec (.vlvBankSwap init b) s = .next (s.setVbank b { s.vbank b with swap := true }) ∧
      ((s.vbank b).cause = false → exec (.vlvBankClr init b) s = .next (s.setFld (Fd.VLV_BANK_STAT_FAULT b) 0)) ∧
      ((s.vbank b).cause = true → Idle (.vlvBankClr init b) s))) ∧
  (∀ (b : Fin 8) (sub : Fin 500) (s : State), s.canonical →
    (carrierIn s b sub = true → (s.vbank b).swap = true → (∀ i, i < 4 → (s.vch (4 * b.val + i)).req = none) → Gives (.swapApply b sub) s (fun t =>
      (∀ k, k < 256 → smGet 0 t.vlv.active (b.val * 256 + k) = smGet 0 s.vlv.shadow (b.val * 256 + k)) ∧
      (∀ k, k / 256 ≠ b.val → smGet 0 t.vlv.active k = smGet 0 s.vlv.active k) ∧ t.vbank b = { s.vbank b with swap := false } ∧
      (∀ m, m / 4 ≠ b.val ∨ (s.fctx m).wait = .idle → t.fctx m = s.fctx m ∧ t.vch m = s.vch m) ∧
      (∀ m, m / 4 = b.val → (s.fctx m).wait ≠ .idle → chanRuns s m = true →
        t.fctx m = { wait := .ready, pc := s.fld (Fd.VLV_CH_CFG_ENTRY m), step := stepAt s sub } ∧
        t.vch m = (if (s.vch m).held then { s.vch m with keep := true } else { s.vch m with keep := false, dithA := 0, dithN := 0 })) ∧
      OnlyParts [.regs, .vlv] s t)) ∧
    (carrierIn s b sub = false ∨ (s.vbank b).swap = false ∨ (∃ i, i < 4 ∧ (s.vch (4 * b.val + i)).req ≠ none) → Idle (.swapApply b sub) s))) ∧
  ((∀ (n : Fin 32) (b : Fin 8) (p : Bool) (s : State), s.rpl.live.isSome = true → Idle (.valveShort n) s ∧ Idle (.valveOvertemp n p) s ∧
    Idle (.valveGroundShort n p) s ∧ Idle (.valveOpenCoil n p) s ∧ Idle (.targetNotReached n) s ∧ (∀ o, Idle (.railFault b o p) s)) ∧
  (∀ (n : Fin 32) (s : State), s.canonical → s.rpl.live = none →
    let off := fun (c : Instr) (fault : Nat) => Gives c s (fun t => t.fld (Fd.VLV_CH_STAT_FAULT n) = fault ∧
      t.vch n = { s.vch n with held := false, target := 0, fast := true, keep := false, req := none } ∧ t.fctx n = { s.fctx n with wait := .idle } ∧
      (∀ m, m ≠ n.val → t.vch m = s.vch m ∧ t.fctx m = s.fctx m) ∧ OnlyParts [.regs, .vlv, .evr, .tab, .rpl] s t)
    off (.valveShort n) 2 ∧ off (.valveOvertemp n true) 4 ∧
    (s.fld (Fd.VLV_CH_STAT_FAULT n) ≠ 4 → Idle (.valveOvertemp n false) s) ∧
    (s.fld (Fd.VLV_CH_STAT_FAULT n) = 4 → Gives (.valveOvertemp n false) s (fun t => t.fld (Fd.VLV_CH_STAT_FAULT n) = 0 ∧
      (s.flag (Fd.VLV_CH_CFG_EN n) = true → isGated s n = false → vlvTesting s n = false → s.fld (Fd.VLV_BANK_STAT_FAULT (n / 4)) ≠ 2 →
        t.fctx n = { wait := .ready, pc := s.fld (Fd.VLV_CH_CFG_ENTRY n), step := stepAt s 0 }) ∧
      (∀ m, m ≠ n.val → t.vch m = s.vch m ∧ t.fctx m = s.fctx m) ∧ OnlyParts [.regs, .vlv, .tab, .rpl] s t)) ∧
    Gives (.valveGroundShort n true) s (fun t => t.fld (Fd.VLV_CH_STAT_FAULT n) = 3 ∧ t.fld (Fd.VLV_BANK_STAT_FAULT (n / 4)) = 2 ∧
      (t.vbank (n / 4)).cause = true ∧ (∀ m, m / 4 = n.val / 4 → (t.vch m).held = false ∧ (t.vch m).req = none ∧ (t.fctx m).wait = .idle) ∧
      (∀ m, m / 4 ≠ n.val / 4 → t.vch m = s.vch m ∧ t.fctx m = s.fctx m) ∧ OnlyParts [.regs, .vlv, .evr, .tab, .rpl] s t) ∧
    Gives (.valveGroundShort n false) s (fun t => t.vbank (n / 4) = { s.vbank (n / 4) with cause := false } ∧
      (∀ m, t.vch m = s.vch m ∧ t.fctx m = s.fctx m) ∧ OnlyRegs captureRegs s t ∧ OnlyParts [.regs, .vlv, .tab, .rpl] s t) ∧
    (s.flag (Fd.VLV_CH_CFG_OPEN_DET n) = true ∨ (s.vch n).held = true → Gives (.valveOpenCoil n true) s (fun t =>
      t.fld (Fd.VLV_CH_STAT_FAULT n) = 1 ∧ OnlyParts [.regs, .evr, .tab, .rpl] s t)) ∧
    (s.flag (Fd.VLV_CH_CFG_OPEN_DET n) = false → (s.vch n).held = false → Idle (.valveOpenCoil n true) s) ∧
    (s.fld (Fd.VLV_CH_STAT_FAULT n) = 1 → Gives (.valveOpenCoil n false) s (fun t => t.fld (Fd.VLV_CH_STAT_FAULT n) = 0 ∧
      OnlyRegs (Ra.VLV_CH_STAT n :: captureRegs) s t ∧ OnlyParts [.regs, .tab, .rpl] s t)) ∧
    (s.fld (Fd.VLV_CH_STAT_FAULT n) ≠ 1 → Idle (.valveOpenCoil n false) s) ∧
    (20 ≤ (s.vch n).unreach → Gives (.targetNotReached n) s (fun t =>
      t.fld (Fd.VLV_CH_STAT_FAULT n) = 6 ∧ OnlyParts [.regs, .evr, .tab, .rpl] s t)) ∧
    ((s.vch n).unreach < 20 → Idle (.targetNotReached n) s)) ∧
  (∀ (b : Fin 8) (overV : Bool) (s : State), s.canonical → s.rpl.live = none →
    Gives (.railFault b overV true) s (fun t => t.fld (Fd.VLV_BANK_STAT_FAULT b) = (if overV then 4 else 3) ∧
      t.flag (Fd.VLV_BANK_STAT_READY b) = false ∧ t.vbank b = { s.vbank b with conv := false, cause := true } ∧
      (∀ m, t.vch m = s.vch m ∧ t.fctx m = s.fctx m) ∧ OnlyParts [.regs, .vlv, .evr, .tab, .rpl] s t) ∧
    Gives (.railFault b overV false) s (fun t => t.vbank b = { s.vbank b with cause := false } ∧
      (∀ m, t.vch m = s.vch m ∧ t.fctx m = s.fctx m) ∧ OnlyRegs captureRegs s t ∧ OnlyParts [.regs, .vlv, .tab, .rpl] s t)) ∧
  (∀ s : State, s.canonical →
    let asks := fun (c : Instr) (test unit code : Nat) =>
      (s.vlv.test.isSome = true ∨ code = Code.refused → exec c s = .next (s.setFld Fd.VLV_TEST_RES_CODE Code.refused)) ∧
      (s.vlv.test = none → code ≠ Code.refused → Gives c s (fun t => t.fld Fd.VLV_TEST_RES_CODE = code ∧ t.flag Fd.VLV_TEST_RES_PENDING = true ∧
        t.fld Fd.VLV_TEST_RES_UNIT = unit ∧ t.fld Fd.VLV_TEST_RES_TEST = test ∧ t.flag Fd.VLV_TEST_RES_PASS = false ∧
        t.vlv = { s.vlv with test := some { test := test, unit := unit, deferred := decide (code = Code.deferred) } } ∧
        OnlyRegs [Ra.VLV_TEST_RES] s t ∧ OnlyParts [.regs, .vlv] s t))
    (∀ n : Fin 32, asks (.valveOpenTest n) 1 n (vlvTestCode s.mode (decide (n.val < 2)) (vlvBusy s n)) ∧
      asks (.coilTest n) 2 n (vlvTestCode s.mode (decide (n.val < 2)) (vlvBusy s n))) ∧
    (∀ b : Fin 8, asks (.boostTest b) 3 b (vlvTestCode s.mode (decide (b.val = 0)) ((List.range 4).any (fun i => vlvBusy s (4 * b.val + i)))))) ∧
  (∀ (sub : Fin 500) (s : State) (x : TestRun), s.canonical → s.vlv.test = some x →
    let n := x.unit % 32
    let b := vlvTestBank x
    (x.running = true ∨ carrierIn s b sub = false → Idle (.valveTestStart sub) s) ∧
    (x.running = false → carrierIn s b sub = true → (x.deferred = true → ∀ c ∈ vlvTestChans x.test x.unit, vlvIdle s c = true) →
      (x.test = 3 → grantBar s b (stepAt s sub) = 0 ∧ (s.vbank b).waiting = []) → Gives (.valveTestStart sub) s (fun t =>
        t.vlv.test = some { x with running := true, at_ := stepAt s sub } ∧
        t.flag Fd.VLV_TEST_RES_RUNNING = true ∧ t.flag Fd.VLV_TEST_RES_PENDING = false ∧ t.fld Fd.VLV_TEST_RES_CODE = Code.ok ∧
        (x.test ≠ 3 → (t.fctx n).wait = .idle ∧ (t.vch n).held = false) ∧ (x.test = 3 → (t.vbank b).boost = some 4) ∧
        OnlyParts [.regs, .vlv] s t)) ∧
    (∀ (pass : Bool) (r l : Half), x.running = true → x.at_ + vlvTestSteps x.test ≤ stepAt s sub → s.rpl.live = none →
      Gives (.valveTestEnd sub pass r l) s (fun t =>
        t.vlv.test = none ∧ t.flag Fd.VLV_TEST_RES_RUNNING = false ∧ t.flag Fd.VLV_TEST_RES_PASS = pass ∧
        (x.test = 2 → (t.reg Ra.VLV_TEST_R).toNat = r.toNat ∧ (t.reg Ra.VLV_TEST_L).toNat = l.toNat ∧
          t.fld (Fd.VLV_CH_COIL_R n) = r.toNat ∧ t.fld (Fd.VLV_CH_COIL_L n) = l.toNat) ∧
        (x.test = 3 → (s.vbank b).waiting = [] → (t.vbank b).boost = none) ∧ OnlyParts [.regs, .vlv, .tab, .rpl] s t)) ∧
    (∀ (pass : Bool) (r l : Half), x.running = false ∨ stepAt s sub < x.at_ + vlvTestSteps x.test ∨ s.rpl.live.isSome = true →
      Idle (.valveTestEnd sub pass r l) s)) ∧
  (∀ (sub : Fin 500) (s : State), s.vlv.test = none → Idle (.valveTestStart sub) s ∧ ∀ pass r l, Idle (.valveTestEnd sub pass r l) s))

/-! ### The cab panel and the status strip (R472–R491) -/

/-- The displays (R473–R476, R478, R479, R481–R483, R485–R491). The panel starts, stops and faults by its sequence, a rail's fault being one that is on
and outside ±10 % of its setting or above its limit; a frame start comes a frame time after the last, takes the flip, the brightness and the gains, and counts
black frames and late lines; ageing is sampled each second and its gains renewed each minute; the strip's image waits, starts after the running update
or repair, and ends with its ledgers and its image committed. -/
def Obligations.Displays : Prop :=
  (∀ s : State, s.canonical →
    let started := s.flag Fd.DSP_PNL_CTL_EN = false ∧ panelMay s = true ∧ s.dsp.seq = .off
    (started → Gives .panelEnable s (fun t => t.flag Fd.DSP_PNL_CTL_EN = true ∧
      t.dsp = { s.dsp with seq := .starting s.cyc, frames := 0, lit := false, full := s.dsp.level, level := 0, frameAt := none } ∧
      t.fld Fd.DSP_PNL_STAT_STATE = 1 ∧ t.fld Fd.DSP_PNL_STAT_FAULT = 0 ∧ OnlyRegs [Ra.DSP_PNL_CTL, Ra.DSP_PNL_STAT] s t ∧ OnlyParts [.regs, .dsp] s t)) ∧
    (s.flag Fd.DSP_PNL_CTL_EN = false → ¬ started → exec .panelEnable s = .next (s.setFlag Fd.DSP_PNL_CTL_EN true)) ∧
    (s.flag Fd.DSP_PNL_CTL_EN = true → Idle .panelEnable s) ∧
    (s.flag Fd.DSP_PNL_CTL_EN = false → Idle .panelDisable s) ∧
    (s.flag Fd.DSP_PNL_CTL_EN = true →
      let stops := fun (q : PanelSeq) (lit : Bool) (state : Nat) => Gives .panelDisable s (fun t => t.flag Fd.DSP_PNL_CTL_EN = false ∧
        t.dsp = { s.dsp with seq := q, frames := 0, lit := lit, full := s.dsp.level } ∧ t.fld Fd.DSP_PNL_STAT_STATE = state ∧
        OnlyRegs [Ra.DSP_PNL_CTL, Ra.DSP_PNL_STAT] s t ∧ OnlyParts [.regs, .dsp] s t)
      (s.dsp.seq = .on ∨ (∃ c, s.dsp.seq = .starting c) → stops (.stopping s.cyc false) s.dsp.lit 3) ∧
      ((∃ c, s.dsp.seq = .faulted c) → stops .off false 0) ∧
      (s.dsp.seq = .off ∨ (∃ c f, s.dsp.seq = .stopping c f) → exec .panelDisable s = .next (s.setFlag Fd.DSP_PNL_CTL_EN false)))) ∧
  (∀ (rail : Fin 4) (mv ma : Half) (s : State), s.canonical →
    let set := ([1800, 3300, 4600, 2000 + 50 * min 40 (s.fld Fd.DSP_PNL_CTL_ELVSS)] : List Nat).getD rail 0
    let limit := ([150, 400, 2500, 2500] : List Nat).getD rail 0
    let live := s.dsp.seq = .on ∨ ∃ c, s.dsp.seq = .starting c ∨ s.dsp.seq = .stopping c false
    let bad := live ∧ panelRail s rail = true ∧ (mv.toNat * 10 < set * 9 ∨ set * 11 < mv.toNat * 10 ∨ limit < ma.toNat)
    (bad → Gives (.panelFault ⟨rail, mv, ma⟩) s (fun t =>
      t.dsp = { s.dsp with seq := .faulted s.cyc, frames := 0, lit := false, full := s.dsp.level } ∧
      t.fld Fd.DSP_PNL_STAT_FAULT = rail.val + 1 ∧ t.fld Fd.DSP_PNL_STAT_STATE = 3 ∧ OnlyParts [.regs, .dsp, .evr, .tab, .rpl] s t)) ∧
    (¬ bad → Idle (.panelFault ⟨rail, mv, ma⟩) s)) ∧
  (∀ (fault under : Byte) (s : State), s.canonical →
    let c := Instr.videoFrameStart fault under
    let due := videoOn s = true ∧ ∀ x, s.dsp.frameAt = some x → x + framePeriod s ≤ s.cyc + 8000
    let black := fun (d : DspState) => exec c s = .next ((s.setDsp { d with frameAt := some s.cyc }).count (Fd.DSP_DIAG_V 8))
    let shown := fun (level : Nat) (P : State → Prop) => Gives c s (fun t => P t ∧ t.dsp.flip = none ∧ t.dsp.level = level ∧
      t.dsp.frameAt = some s.cyc ∧ t.dsp.gain = s.dsp.gainP.getD s.dsp.gain ∧
      (∀ b, s.dsp.flip = some b → t.fld Fd.DSP_PNL_STAT_BUF = b % 2) ∧ (s.dsp.flip = none → t.fld Fd.DSP_PNL_STAT_BUF = s.fld Fd.DSP_PNL_STAT_BUF) ∧
      t.fld Fd.DSP_PNL_STAT_UNDERRUN = satU 8 (s.fld Fd.DSP_PNL_STAT_UNDERRUN + under.toNat) ∧
      (∃ f : Bool, t.fld Fd.DSP_PNL_STAT_FB_FAULT = satU 8 (s.fld Fd.DSP_PNL_STAT_FB_FAULT + (fault.toNat + b2n f)) ∧
        (fault.toNat + b2n f = 0 → t.dma = s.dma)) ∧
      OnlyParts [.regs, .mem, .stage, .fab, .dma, .dsp] s t)
    (¬ due → Idle c s) ∧
    (due →
      (∀ x, s.dsp.seq = .starting x →
        (s.dsp.frames < 2 → black { s.dsp with frames := s.dsp.frames + 1 }) ∧
        (s.dsp.frames = 2 → black { s.dsp with frames := 3, lit := true }) ∧
        (2 < s.dsp.frames → shown 0 (fun t => t.dsp.seq = .on ∧ t.dsp.onAt = s.cyc ∧ t.fld Fd.DSP_PNL_STAT_STATE = 2))) ∧
      (s.dsp.seq = .on → shown (s.fld Fd.DSP_PNL_BRT_LEVEL * min (200 * cycMs) (s.cyc - s.dsp.onAt) / (200 * cycMs)) (fun t => t.dsp.seq = .on ∧
        t.dsp.frames = s.dsp.frames + 1 ∧ (s.flag Fd.DSP_PNL_CTL_AGE_EN = false → t.dsp.gainP = none ∧ t.dsp.ageAt = s.dsp.ageAt))) ∧
      (∀ x, s.dsp.seq = .stopping x false →
        (s.since x (140 * cycMs) = false → shown (s.dsp.full * (100 * cycMs - min (100 * cycMs) (s.cyc - x)) / (100 * cycMs))
          (fun t => t.dsp.seq = s.dsp.seq)) ∧
        (s.since x (140 * cycMs) = true → s.dsp.frames < 2 → black { s.dsp with frames := s.dsp.frames + 1 }) ∧
        (s.since x (140 * cycMs) = true → 2 ≤ s.dsp.frames → Gives c s (fun t => OnlyParts [.regs, .dsp] s t ∧
          (s.flag Fd.DSP_PNL_CTL_EN = true ∧ panelMay s = true → t.dsp.seq = .starting s.cyc ∧ t.fld Fd.DSP_PNL_STAT_STATE = 1) ∧
          (¬ (s.flag Fd.DSP_PNL_CTL_EN = true ∧ panelMay s = true) → t.dsp.seq = .off ∧ t.fld Fd.DSP_PNL_STAT_STATE = 0)))))) ∧
  (∀ (b : Fin 2) (s : State), exec (.fbFlip b) s = .next (s.setDsp { s.dsp with flip := some b.val })) ∧
  (∀ s : State, s.canonical →
    let active := s.flag Fd.DSP_PNL_CTL_AGE_EN = true ∧ s.dsp.seq = .on
    (active → s.since s.dsp.ageAt cycS = true → Gives .ageingSample s (fun t => t.dsp = { s.dsp with ageAt := s.cyc } ∧
      ((∀ x, x < 129600 → ∃ k, initXlat s (0x10 + panelCh s) (ageAddr s 0 + x) true = .fault k) → t.mem = s.mem) ∧
      OnlyRegs xferRegs s t ∧ OnlyParts [.regs, .mem, .dsp] s t)) ∧
    (¬ active ∨ s.since s.dsp.ageAt cycS = false → Idle .ageingSample s) ∧
    (active → s.since s.dsp.gainAt (60 * cycS) = true → Gives .ageingGainUpdate s (fun t => ∃ g : SMap Nat,
      (∀ i, i < 16200 → let l := Config.panelLum (panelCal s) (i % 3)
        smGet 4096 g i = min 4096 (l (ageMax s (i % 3)) * 4096 / max 1 (l (ageCount s i)))) ∧
      t = s.setDsp { s.dsp with gainP := some g, gainAt := s.cyc })) ∧
    (¬ active ∨ s.since s.dsp.gainAt (60 * cycS) = false → Idle .ageingGainUpdate s)) ∧
  (∀ s : State, s.canonical →
    (s.mode < 2 → Idle .stripUpdateGo s) ∧
    (2 ≤ s.mode → Gives .stripUpdateGo s (fun t => t.bst = { s.bst with pend := some (stripShadow s) } ∧ t.flag Fd.BST_STAT_PENDING = true ∧
      t.fld Fd.BST_STAT_DISCARD = (if s.bst.pend = none then s.fld Fd.BST_STAT_DISCARD else satU 8 (s.fld Fd.BST_STAT_DISCARD + 1)) ∧
      OnlyRegs [Ra.BST_STAT] s t ∧ OnlyParts [.regs, .bst] s t)) ∧
    (s.mode < 2 ∨ s.pm.pf ≠ none ∨ s.bst.run ≠ none → Idle .stripUpdateStart s) ∧
    let begins := fun (img : List Word) (blank twice : Bool) (led : SMap Int) (P : State → Prop) => Gives .stripUpdateStart s (fun t => P t ∧
      t.bst.run = some { img := img, t := stripT s (stripBandNow s), at_ := s.cyc, twice := twice, blank := blank } ∧ t.bst.last = some s.cyc ∧
      t.bst.led = led ∧ t.fld Fd.BST_CNT_V = satU 32 (s.fld Fd.BST_CNT_V + 1) ∧ t.flag Fd.BST_STAT_BUSY = true ∧
      (∃ c, (if s.bst.nextB then t.bst.b else t.bst.a) = some c ∧ c.led = led ∧ c.img = img ∧ c.cnt = t.fld Fd.BST_CNT_V) ∧
      OnlyParts [.regs, .bst, .evr, .tab, .rpl] s t)
    (2 ≤ s.mode → s.pm.pf = none → s.bst.run = none →
      (∀ r, s.bst.rep = some r →
        let led := repairDrive r.t (4 * r.rounds) s.bst.led
        (s.since r.at_ (phaseCyc r.t (4 * r.rounds)) = true → begins r.img r.blank (ledgerHigh led) led (fun t =>
          t.bst.rep = none ∧ t.bst.pend = s.bst.pend ∧ t.flag Fd.BST_STAT_REPAIR = false)) ∧
        (s.since r.at_ (phaseCyc r.t (4 * r.rounds)) = false → Idle .stripUpdateStart s)) ∧
      (s.bst.rep = none → (s.bst.pend = none → Idle .stripUpdateStart s) ∧ (∀ img, s.bst.pend = some img →
        let due := ∀ x, s.bst.last = some x → s.since x (clampN 100 60000 (s.fld Fd.BST_CFG_MIN_INT) * cycMs) = true
        (due → begins img false (s.flag Fd.BST_STAT_LEDGER_HIGH) s.bst.led (fun t => t.bst.pend = none ∧ t.flag Fd.BST_STAT_PENDING = false)) ∧
        (¬ due → Idle .stripUpdateStart s))))) ∧
  (∀ s : State, s.canonical → (s.bst.run = none → Idle .stripUpdateEnd s) ∧ (∀ r, s.bst.run = some r →
    let n := 4 * (if r.twice || r.blank then 4 else 3)
    let led := stripDrive s r n
    (s.since r.at_ (n * r.t * (cycMs / 10)) = false → Idle .stripUpdateEnd s) ∧
    (s.since r.at_ (n * r.t * (cycMs / 10)) = true → Gives .stripUpdateEnd s (fun t => t.bst.run = none ∧ t.bst.led = led ∧
      t.flag Fd.BST_STAT_BUSY = false ∧ (t.flag Fd.BST_STAT_LEDGER_HIGH = true ↔ ∃ x ∈ led, 2000 < x.2.natAbs) ∧
      (∀ c, c < 4 → smGet none t.bst.shown c = some [r.img.getD (2 * c) 0, r.img.getD (2 * c + 1) 0]) ∧
      (∃ c, (if s.bst.nextB then t.bst.b else t.bst.a) = some c ∧ c.led = led ∧ c.img = r.img ∧ c.cnt = s.fld Fd.BST_CNT_V) ∧
      t.bst.nextB = !s.bst.nextB ∧ OnlyRegs [Ra.BST_STAT, Ra.BST_INT_AUX 0] s t ∧ OnlyParts [.regs, .bst] s t))))

/-! ### The host protocol, fleet link and messages (R314–R350, R371–R402) -/

/-- The host protocol (R62, R64, R398, R400–R402, R503, R524). HELLO takes the first free session, OPEN opens it with the key's privilege, and
it ends with REFUSED, after 2 s without OPEN, after 30 s idle, or by CLOSE. A request above the session's privilege is REFUSED; one that is taken is
outstanding until its response is sent, and each kind has its action and its code. A transaction ends with TIMEOUT after 60 s. An application reset
ends every session and leaves the engines and the outputs alone. -/
def Obligations.HostProtocol : Prop :=
  (∀ (src : Word) (tag : Half) (i : Nat) (s : State), s.canonical → vhpOn s = true → i < 4 → (∀ j, j < i → s.fld (Fd.VHP_SESS_STAT_STATE j) ≠ 0) →
    s.fld (Fd.VHP_SESS_STAT_STATE i) = 0 → Gives (.vhpHello src tag) s (fun t => (t.reg (Ra.VHP_SESS_STAT i)).toNat = 2 ^ 30 ∧
      t.vs i = { began := s.cyc, last := s.cyc } ∧ (∃ nonce : List Nat, nonce.length = 8 ∧
        t.vhp.sent.head? = some { sess := i + 1, tag := tag.toNat, kind := 1, code := Code.ok, data := (i + 1) :: src.toNat :: nonce, at_ := s.cyc }) ∧
      OnlyRegs [Ra.VHP_SESS_STAT i] s t ∧ OnlyParts [.regs, .vhp, .freeCtr] s t)) ∧
  (∀ (src : Word) (tag : Half) (s : State), vhpOn s = true → (∀ j, j < 4 → s.fld (Fd.VHP_SESS_STAT_STATE j) ≠ 0) →
    exec (.vhpHello src tag) s = .next (vhpSend s { sess := 0, tag := tag.toNat, kind := 1, code := Code.refused, at_ := s.cyc })) ∧
  (∀ (src : Word) (tag : Half) (i : Fin 4) (key : Byte) (ok : Bool) (s : State),
    (vhpOn s = false → Idle (.vhpHello src tag) s ∧ Idle (.vhpOpen i tag key ok) s) ∧
    (s.fld (Fd.VHP_SESS_STAT_STATE i) ≠ 1 → Idle (.vhpOpen i tag key ok) s ∧ Idle (.vhpOpenTimeout i) s)) ∧
  (∀ (i : Fin 4) (tag : Half) (key : Byte) (s : State), s.canonical → vhpOn s = true → s.fld (Fd.VHP_SESS_STAT_STATE i) = 1 →
    let no := vhpSend (vhpEnd s i) { sess := i.val + 1, tag := tag.toNat, kind := 2, code := Code.refused, at_ := s.cyc }
    (s.hasKey Key.host key.toNat = true → Gives (.vhpOpen i tag key true) s (fun t => sessOpen t i = true ∧
      t.fld (Fd.VHP_SESS_STAT_PRIV i) = min 2 (s.keyPriv Key.host key.toNat) ∧ (t.vs i).key = key.toNat ∧ (t.vs i).outst = (s.vs i).outst ∧
      t.vhp.sent.head? = some { sess := i.val + 1, tag := tag.toNat, kind := 2, code := Code.ok, data := [min 2 (s.keyPriv Key.host key.toNat)],
                                at_ := s.cyc } ∧
      OnlyRegs [Ra.VHP_SESS_STAT i] s t ∧ OnlyParts [.regs, .vhp] s t)) ∧
    (s.hasKey Key.host key.toNat = false → exec (.vhpOpen i tag key true) s = .next no) ∧ exec (.vhpOpen i tag key false) s = .next no ∧
    (s.since (s.vs i).began (2 * cycS) = true → exec (.vhpOpenTimeout i) s =
      .next (vhpSend (vhpEnd s i) { sess := i.val + 1, tag := 0, kind := 2, code := Code.refused, at_ := s.cyc })) ∧
    (s.since (s.vs i).began (2 * cycS) = false → Idle (.vhpOpenTimeout i) s)) ∧
  (∀ (i : Fin 4) (s : State), (sessOpen s i = true → s.since (s.vs i).last (30 * cycS) = true → exec (.vhpSessionIdle i) s = .next (vhpEnd s i)) ∧
    (sessOpen s i = false ∨ s.since (s.vs i).last (30 * cycS) = false → Idle (.vhpSessionIdle i) s)) ∧
  (∀ (i : Nat) (s : State), s.canonical → (vhpEnd s i).vs i = {} ∧ (vhpEnd s i).reg (Ra.VHP_SESS_STAT i) = 0 ∧
    (∀ j, j ≠ i → (vhpEnd s i).vs j = s.vs j) ∧ OnlyRegs [Ra.VHP_SESS_STAT i] s (vhpEnd s i) ∧ OnlyParts [.regs, .gns, .vhp] s (vhpEnd s i)) ∧
  (∀ (h : VhpHdr) (i kind p arg : Nat) (s : State), s.canonical → VhpTakes s h i →
    (s.fld (Fd.VHP_SESS_STAT_PRIV i) < p → ∃ t, vhpTake s h kind (some p) arg = (t, none) ∧ (t.vs i).outst = (s.vs i).outst ∧
      t.vhp.sent.head? = some { sess := i + 1, tag := h.tag.toNat, kind := kind, code := Code.refused, at_ := s.cyc } ∧
      OnlyRegs [Ra.VHP_SESS_STAT i] s t ∧ OnlyParts [.regs, .vhp] s t) ∧
    (p ≤ s.fld (Fd.VHP_SESS_STAT_PRIV i) → ∃ t, vhpTake s h kind (some p) arg = (t, some i) ∧
      (t.vs i).outst = (s.vs i).outst ++ [{ tag := h.tag.toNat, kind := kind, at_ := s.cyc, arg := arg }] ∧ (t.vs i).last = s.cyc ∧
      h.ctr.toNat ∈ (t.vs i).seen ∧ t.fld (Fd.VHP_SESS_STAT_OUTST i) = (s.vs i).outst.length + 1 ∧ t.vhp.sent = s.vhp.sent ∧
      (∀ j, j ≠ i → t.vs j = s.vs j) ∧ t.fld (Fd.ETH_VHP_AUX_V (vhpKinds.idxOf kind)) = satU 32 (s.fld (Fd.ETH_VHP_AUX_V (vhpKinds.idxOf kind)) + 1) ∧
      OnlyRegs [Ra.VHP_SESS_STAT i, Ra.ETH_VHP_AUX (vhpKinds.idxOf kind)] s t ∧ OnlyParts [.regs, .vhp] s t)) ∧
  (∀ (s : State) (i tag kind code : Nat) (data : List Nat), s.canonical → (s.vs i).outst.length ≤ 256 →
    let t := vhpReply s i tag kind code data
    t.vhp.sent.head? = some { sess := i + 1, tag := tag, kind := kind, code := code, data := data, at_ := s.cyc } ∧
    (t.vs i).outst = (s.vs i).outst.filter (fun x => x.tag != tag) ∧
    (t.vs i).kept.head? = some { sess := i + 1, tag := tag, kind := kind, code := code, data := data, at_ := s.cyc } ∧
    t.fld (Fd.VHP_SESS_STAT_OUTST i) = (t.vs i).outst.length ∧ (∀ j, j ≠ i → t.vs j = s.vs j) ∧ OnlyRegs [Ra.VHP_SESS_STAT i] s t ∧
    OnlyParts [.regs, .vhp] s t) ∧
  (∀ (h : VhpHdr) (i : Nat) (s : State), s.canonical → VhpTakes s h i →
    let tag := h.tag.toNat
    let runs := fun (c : Instr) (kind p arg : Nat) (op : State → State) => p ≤ s.fld (Fd.VHP_SESS_STAT_PRIV i) →
      exec c s = .next (op (vhpTake s h kind (some p) arg).1)
    let ans := fun (kind code : Nat) (data : List Nat) (t : State) => vhpReply t i tag kind code data
    runs (.vhpClose h) 3 0 0 (fun t => vhpEnd (ans 3 Code.ok [] t) i) ∧
    runs (.vhpKeepalive h) 4 0 0 (ans 4 Code.ok []) ∧
    (∀ (a : Word) (n : Half),
      (rangeCode a.toNat n.toNat 256 = Code.ok → runs (.vhpRegRead h a n) 0x10 0 0
        (fun t => ans 0x10 Code.ok ((busReads t 0 a.toNat n.toNat).1.map (·.toNat)) (busReads t 0 a.toNat n.toNat).2)) ∧
      (rangeCode a.toNat n.toNat 256 ≠ Code.ok → runs (.vhpRegRead h a n) 0x10 0 0 (ans 0x10 (rangeCode a.toNat n.toNat 256) []))) ∧
    (∀ (a : Word) (ws : List Word), let p := if hostWords a.toNat ws.length then 1 else 2
      (rangeCode a.toNat ws.length 256 = Code.ok → driverless s.mode = false →
        runs (.vhpRegWrite h a ws) 0x11 p 0 (fun t => ans 0x11 Code.ok [] (busWrites t 0 a.toNat ws))) ∧
      (rangeCode a.toNat ws.length 256 = Code.ok → driverless s.mode = true → runs (.vhpRegWrite h a ws) 0x11 p 0 (ans 0x11 Code.refused [])) ∧
      (rangeCode a.toNat ws.length 256 ≠ Code.ok → runs (.vhpRegWrite h a ws) 0x11 p 0 (ans 0x11 (rangeCode a.toNat ws.length 256) []))) ∧
    (∀ payload : List Byte, runs (.vhpLogRead h payload) 0x12 0 0 (fun t => ans 0x12 (logRead t payload).1 ((logRead t payload).2.map (·.toNat)) t)) ∧
    (∀ (e : Fin 64) (words : List Word),
      (s.flag (Fd.MBX_EP_CFG_TXL e) = false → s.fld (Fd.MBX_EP_CFG_TX e) = 0x3F → s.fld (Fd.MBX_EP_STAT_STATE e) ≠ epFull → words.length ≤ 16 →
        runs (.vhpMsg h e words) 0x20 1 e (fun t => vhpPost t e words)) ∧
      (s.flag (Fd.MBX_EP_CFG_TXL e) = false → s.fld (Fd.MBX_EP_CFG_TX e) = 0x3F → s.fld (Fd.MBX_EP_STAT_STATE e) ≠ epFull → 16 < words.length →
        runs (.vhpMsg h e words) 0x20 1 e (ans 0x20 Code.badArgument [])) ∧
      (s.flag (Fd.MBX_EP_CFG_TXL e) = true ∨ s.fld (Fd.MBX_EP_CFG_TX e) ≠ 0x3F ∨ s.fld (Fd.MBX_EP_STAT_STATE e) = epFull →
        runs (.vhpMsg h e words) 0x20 1 e (ans 0x20 Code.refused []))) ∧
    (∀ mode : BitVec 4,
      (s.flag Fd.SYS_MODE_STAT_PENDING = false → runs (.vhpModeReq h mode) 0x21 1 0 (fun t => modeRequest t (0x40#32 ||| mode.zeroExtend 32))) ∧
      (s.flag Fd.SYS_MODE_STAT_PENDING = true → runs (.vhpModeReq h mode) 0x21 1 0
        (fun t => ans 0x21 Code.refused [] (modeRequest t (0x40#32 ||| mode.zeroExtend 32))))) ∧
    runs (.vhpReset h true) 0x22 2 0 (fun t => fullReset (ans 0x22 Code.ok [] t) 5 true) ∧
    runs (.vhpReset h false) 0x22 2 0 (fun t => appReset (ans 0x22 Code.ok [] t) Fd.PWR_RST_CAUSE_APP_REQ) ∧
    runs (.vhpRtcmIn h) 0x30 1 0 (ans 0x30 Code.ok []) ∧
    (∀ (hz : Byte) (msm7 : Bool),
      (hz.toNat ∈ [1, 5, 10, 20] → Gives (.vhpRtcmOut h hz msm7) s (fun t => t.gns = { s.gns with rtcmOut := some (i, hz.toNat, b2n msm7) } ∧
        (t.vs i).rtcm = true ∧ (t.vs i).outst = (s.vs i).outst ∧ (∃ r, t.vhp.sent.head? = some r ∧ r.code = Code.ok) ∧
        OnlyParts [.regs, .gns, .vhp] s t)) ∧
      (hz.toNat = 0 → Gives (.vhpRtcmOut h hz msm7) s (fun t => t.gns = { s.gns with rtcmOut := none } ∧ (t.vs i).rtcm = false ∧
        (t.vs i).outst = (s.vs i).outst ∧ OnlyParts [.regs, .gns, .vhp] s t)) ∧
      (hz.toNat ∉ [0, 1, 5, 10, 20] → runs (.vhpRtcmOut h hz msm7) 0x31 0 0 (ans 0x31 Code.badArgument []))) ∧
    (∀ msg : List Byte, (msg.length = 4116 → runs (.vhpUpdBlock h msg) 0x40 2 0
        (fun t => ans 0x40 (updAnswer t msg).2.1 (updAnswer t msg).2.2 (updAnswer t msg).1)) ∧
      (msg.length ≠ 4116 → runs (.vhpUpdBlock h msg) 0x40 2 0 (ans 0x40 Code.badArgument []))) ∧
    (∀ (part : Fin 32) (w : Half), runs (.vhpUpdState h part w) 0x41 0 0 (ans 0x41 Code.ok
      ([s.updState, (s.reg Ra.UPD_PKG_LO).toNat, (s.reg Ra.UPD_PKG_HI).toNat, bitmapWord s part w.toNat] ++ firstMissing s))) ∧
    (∀ part : List Byte, runs (.vhpTaskExport h part) 0x50 0 0 (ans 0x50 Code.ok (part.map (·.toNat)))) ∧
    (∀ (blk : Word) (ofs : Half) (n : Byte),
      (∀ b, s.tab.ring.find? (fun x => x.1 == blk.toNat) = some (blk.toNat, b) →
        runs (.vhpTabRead h blk ofs n) 0x70 2 0 (ans 0x70 Code.ok (((tabWords b).drop ofs.toNat).take n.toNat))) ∧
      (s.tab.ring.find? (fun x => x.1 == blk.toNat) = none → runs (.vhpTabRead h blk ofs n) 0x70 2 0 (ans 0x70 Code.fault []))) ∧
    (∀ (dest : Fin 64) (kind : Half) (payload : List Byte) (p : Nat), innerPriv kind.toNat = some p →
      (s.linkSt ≠ flCoord → runs (.vhpFwd h dest kind payload) 0x60 p 0 (ans 0x60 Code.refused [])) ∧
      (s.linkSt = flCoord → s.present dest = false → runs (.vhpFwd h dest kind payload) 0x60 p 0 (ans 0x60 Code.departed [])) ∧
      (∀ c, s.linkSt = flCoord → s.present dest = true → txnBad s 0x50 dest (4 + payload.length) = some c →
        runs (.vhpFwd h dest kind payload) 0x60 p 0 (ans 0x60 c [])) ∧
      (∀ ft, s.linkSt = flCoord → s.present dest = true → txnBad s 0x50 dest (4 + payload.length) = none → freeTag s = some ft →
        runs (.vhpFwd h dest kind payload) 0x60 p 0 (fun t => txnIssue t
          { tag := ft, kind := 0x50, dest := dest, role := 0xFF, epoch := s.fld (Fd.FLR_MBR_STAT_MEPOCH dest), dead := s.cyc + 60 * cycS,
            req := leBytes 2 kind.toNat ++ leBytes 2 0 ++ payload, vhp := some (i, tag) })))) ∧
  (∀ (i : Fin 4) (s : State), s.canonical → (s.vs i).outst.length ≤ 256 →
    Gives (.vhpTransactionTimeout i) s (fun t =>
      (∀ x ∈ (t.vs i).outst, x ∈ (s.vs i).outst ∧ s.since x.at_ (60 * cycS) = false) ∧
      (∀ x ∈ (s.vs i).outst, (∀ y ∈ (s.vs i).outst, y.tag = x.tag → s.since y.at_ (60 * cycS) = false) → x ∈ (t.vs i).outst) ∧
      (∀ j, j ≠ i.val → t.vs j = s.vs j) ∧ OnlyRegs [Ra.VHP_SESS_STAT i] s t ∧ OnlyParts [.regs, .vhp] s t)) ∧
  (∀ s : State, s.canonical →
    let resets := fun (c : Instr) (cause : Fld) => Gives c s (fun t => t.flag cause = true ∧ t.pm = { s.pm with appReset := true, wdogCyc := s.cyc } ∧
      (∀ j, j < 4 → t.vs j = {} ∧ t.fld (Fd.VHP_SESS_STAT_STATE j) = 0) ∧ t.mode = s.mode ∧
      OnlyParts [.regs, .gns, .flr, .dma, .vhp, .pm] s t)
    (s.powered = true → 8 ≤ s.bootStep → s.noPf = true → resets .appReset Fd.PWR_RST_CAUSE_APP_REQ ∧
      (s.pm.appReset = false → s.since s.pm.wdogCyc (wdogCycles s) = true → resets .appWatchdogExpiry Fd.PWR_RST_CAUSE_APP_WDOG)) ∧
    (s.powered = false ∨ s.bootStep < 8 ∨ s.noPf = false → Idle .appReset s ∧ Idle .appWatchdogExpiry s) ∧
    (s.pm.appReset = true ∨ s.since s.pm.wdogCyc (wdogCycles s) = false → Idle .appWatchdogExpiry s) ∧
    Gives .watchdogRefresh s (fun t => t.pm = { s.pm with wdogCyc := s.cyc, appReset := false } ∧
      t.fld Fd.PWR_APP_WDOG_TIMEOUT = s.fld Fd.PWR_APP_WDOG_TIMEOUT ∧ OnlyRegs [Ra.PWR_APP_WDOG] s t ∧ OnlyParts [.regs, .pm] s t))

/-- Mailboxes and doorbells (R371–R375): who may post, what POST, ACK, a timeout, a crossing, MBX_EP_FREE and a CFG2 write do to their endpoint and
their doorbells, and that no other endpoint changes. A doorbell write is an access of the fabric: without an entry it stalls (R20, R22). -/
def Obligations.Mailboxes : Prop :=
  (∀ (init : Fin 58) (e : Fin 64) (timeout : Half) (s : State), s.canonical →
    let db := Ra.MBX_DB_PEND (s.fld (Fd.MBX_EP_CFG_RX_DB e))
    (isSender s e false init = false → exec (.mbxPost init e timeout) s = .next (fabErr s init (Ra.MBX_EP_POST e) 1)) ∧
    (isSender s e false init = true →
      (s.rpl.live.isSome = true → s.flag (Fd.MBX_EP_CFG_RXL e) = true →
        exec (.mbxPost init e timeout) s = .next (s.setFld (Fd.MBX_EP_SEND_STAT_CODE e) Code.refused)) ∧
      (s.fld (Fd.MBX_EP_STAT_STATE e) = epFull →
        exec (.mbxPost init e timeout) s = .next (s.setFld (Fd.MBX_EP_SEND_STAT_CODE e) Code.refused)) ∧
      (s.rpl.live = none → s.fld (Fd.MBX_EP_STAT_STATE e) ≠ epFull → rxAway s e = true → Gives (.mbxPost init e timeout) s (fun t =>
        t.fld (Fd.MBX_EP_SEND_STAT_CODE e) = Code.aborted ∧ t.flag (Fd.MBX_EP_SEND_STAT_PENDING e) = false ∧
        OnlyRegs [Ra.MBX_EP_SEND_STAT e, Ra.MBX_CODE_CNT 4] s t ∧ OnlyParts [.regs, .dma] s t)) ∧
      (s.rpl.live = none → s.fld (Fd.MBX_EP_STAT_STATE e) ≠ epFull → rxAway s e = false → Gives (.mbxPost init e timeout) s (fun t =>
        t.fld (Fd.MBX_EP_STAT_STATE e) = epFull ∧ t.fld (Fd.MBX_EP_STAT_SEQ e) = (s.fld (Fd.MBX_EP_STAT_SEQ e) + 1) % 256 ∧
        t.flag (Fd.MBX_EP_STAT_TOUT e) = false ∧ t.flag (Fd.MBX_EP_STAT_XING e) = false ∧ t.flag (Fd.MBX_EP_STAT_GONE e) = false ∧
        t.flag (Fd.MBX_EP_SEND_STAT_PENDING e) = true ∧ t.flag (Fd.MBX_EP_LATE_LATE e) = false ∧ bit (t.reg db).toNat (e.val % 32) = true ∧
        bit (t.reg (Ra.MBX_FULL_MAP (e / 32))).toNat (e.val % 32) = true ∧ smGet none t.dma.postCyc e = some s.clk.cyc ∧
        smGet none t.dma.tmoCyc e = (if timeout = 0 then none else some (s.clk.cyc + timeout.toNat * cycMs)) ∧
        OnlyRegs ([Ra.MBX_EP_STAT e, Ra.MBX_EP_SEND_STAT e, Ra.MBX_EP_LATE e, Ra.MBX_FULL_MAP (e / 32), Ra.MBX_XING_MAP (e / 32), db] ++ captureRegs) s t ∧
        OnlyParts [.regs, .dma, .tab] s t)))) ∧
  (∀ (e : Fin 64) (code : Half) (s : State),
    (loopEndpoint s e = false → exec (.mbxAck e code) s = .next (mbxAck s e code.toNat)) ∧
    (loopEndpoint s e = true → s.rpl.live = none → exec (.mbxAck e code) s = .next (mbxAck (tabCmd s (Ra.MBX_EP_ACK e) [code.toNat]) e code.toNat)) ∧
    (loopEndpoint s e = true → s.rpl.live.isSome = true → Idle (.mbxAck e code) s)) ∧
  (∀ (s : State) (e code : Nat), s.canonical → e < 64 → code < 65536 →
    let t := mbxAck s e code
    let db := Ra.MBX_DB_PEND (s.fld (Fd.MBX_EP_CFG_TX_DB e))
    (s.fld (Fd.MBX_EP_STAT_STATE e) ≠ epFull → t = s.setFld (Fd.MBX_EP_ACK_RES_CODE e) Code.refused) ∧
    (s.fld (Fd.MBX_EP_STAT_STATE e) = epFull →
      (code ∉ codeTable → t = s.setFld (Fd.MBX_EP_ACK_RES_CODE e) Code.badArgument) ∧
      (code ∈ codeTable → s.flag (Fd.MBX_EP_STAT_GONE e) = true → t.fld (Fd.MBX_EP_STAT_STATE e) = epEmpty ∧
        t.fld (Fd.MBX_EP_ACK_RES_CODE e) = Code.senderGone ∧
        OnlyRegs [Ra.MBX_EP_STAT e, Ra.MBX_EP_ACK_RES e, Ra.MBX_FULL_MAP (e / 32)] s t ∧ OnlyParts [.regs] s t) ∧
      (code ∈ codeTable → s.flag (Fd.MBX_EP_STAT_GONE e) = false → t.fld (Fd.MBX_EP_STAT_STATE e) = epEmpty ∧
        t.fld (Fd.MBX_EP_ACK_RES_CODE e) = Code.ok ∧ bit (t.reg (Ra.MBX_FULL_MAP (e / 32))).toNat (e % 32) = false ∧
        (s.rpl.live = none → bit (t.reg db).toNat (e % 32) = true) ∧
        (s.flag (Fd.MBX_EP_STAT_TOUT e) = true → t.fld (Fd.MBX_EP_LATE_CODE e) = code ∧ t.flag (Fd.MBX_EP_LATE_LATE e) = true ∧
          t.reg (Ra.MBX_EP_SEND_STAT e) = s.reg (Ra.MBX_EP_SEND_STAT e)) ∧
        (s.flag (Fd.MBX_EP_STAT_TOUT e) = false → t.fld (Fd.MBX_EP_SEND_STAT_CODE e) = code ∧ t.flag (Fd.MBX_EP_SEND_STAT_PENDING e) = false ∧
          smGet none t.dma.tmoCyc e = none) ∧
        OnlyRegs [Ra.MBX_EP_STAT e, Ra.MBX_EP_ACK_RES e, Ra.MBX_FULL_MAP (e / 32), Ra.MBX_EP_LATE e, Ra.MBX_EP_SEND_STAT e, db,
          Ra.MBX_CODE_CNT (codeTable.idxOf code)] s t ∧ OnlyParts [.regs, .dma] s t))) ∧
  (∀ (a b : Fin 64) (s : State), s.canonical →
    (crossDue s a b = false → Idle (.mbxCrossing a b) s) ∧
    (crossDue s a b = true → let h := max a.val b.val
      let l := min a.val b.val
      Gives (.mbxCrossing a b) s (fun t => t = crossing s a b ∧ t.fld (Fd.MBX_EP_STAT_STATE h) = epEmpty ∧ t.fld (Fd.MBX_EP_STAT_STATE l) = epFull ∧
        t.fld (Fd.MBX_EP_SEND_STAT_CODE h) = Code.crossed ∧ t.flag (Fd.MBX_EP_SEND_STAT_PENDING h) = false ∧
        t.reg (Ra.MBX_EP_SEND_STAT l) = s.reg (Ra.MBX_EP_SEND_STAT l) ∧ t.flag (Fd.MBX_EP_STAT_XING h) = true ∧ t.flag (Fd.MBX_EP_STAT_XING l) = true ∧
        (s.rpl.live = none → ∀ x, x = h ∨ x = l → bit (t.reg (Ra.MBX_DB_PEND (s.fld (Fd.MBX_EP_CFG_RX_DB x)))).toNat (x % 32) = true ∧
          bit (t.reg (Ra.MBX_DB_PEND (s.fld (Fd.MBX_EP_CFG_TX_DB x)))).toNat (x % 32) = true) ∧
        (∀ x, x < 64 → x ≠ h → x ≠ l → t.reg (Ra.MBX_EP_STAT x) = s.reg (Ra.MBX_EP_STAT x) ∧
          t.reg (Ra.MBX_EP_SEND_STAT x) = s.reg (Ra.MBX_EP_SEND_STAT x)) ∧ OnlyParts [.regs, .dma] s t))) ∧
  (∀ (e : Fin 64) (s : State), s.canonical →
    let p := s.fld (Fd.MBX_EP_CFG2_PARTNER e)
    (crossDue s e p = true → exec (.mbxTimeout e) s = .next (mbxTimeout (crossing s e p) e)) ∧
    (crossDue s e p = false → ∀ x, smGet none s.dma.tmoCyc e = some x → x ≤ s.clk.cyc → s.flag (Fd.MBX_EP_SEND_STAT_PENDING e) = true →
      Gives (.mbxTimeout e) s (fun t => t.fld (Fd.MBX_EP_SEND_STAT_CODE e) = Code.timeout ∧ t.flag (Fd.MBX_EP_SEND_STAT_PENDING e) = false ∧
        t.flag (Fd.MBX_EP_STAT_TOUT e) = true ∧ t.fld (Fd.MBX_EP_STAT_STATE e) = s.fld (Fd.MBX_EP_STAT_STATE e) ∧
        smGet none t.dma.tmoCyc e = none ∧ OnlyRegs [Ra.MBX_EP_SEND_STAT e, Ra.MBX_EP_STAT e, Ra.MBX_CODE_CNT 7] s t ∧ OnlyParts [.regs, .dma] s t)) ∧
    (crossDue s e p = false → (∀ x, smGet none s.dma.tmoCyc e = some x → s.clk.cyc < x) ∨ s.flag (Fd.MBX_EP_SEND_STAT_PENDING e) = false →
      Idle (.mbxTimeout e) s)) ∧
  (∀ (e : Fin 64) (key : Half) (s : State), s.canonical →
    (key.toNat ≠ 0x3C5A → Idle (.mbxEpFree e key) s) ∧
    (key.toNat = 0x3C5A → Gives (.mbxEpFree e key) s (fun t => t.fld (Fd.MBX_EP_STAT_STATE e) = epFree ∧ t.flag (Fd.MBX_EP_STAT_TOUT e) = false ∧
      t.flag (Fd.MBX_EP_STAT_GONE e) = false ∧
      (s.flag (Fd.MBX_EP_SEND_STAT_PENDING e) = true → t.fld (Fd.MBX_EP_SEND_STAT_CODE e) = Code.aborted ∧
        t.flag (Fd.MBX_EP_SEND_STAT_PENDING e) = false) ∧
      OnlyRegs [Ra.MBX_EP_STAT e, Ra.MBX_EP_SEND_STAT e, Ra.MBX_FULL_MAP (e / 32), Ra.MBX_CODE_CNT 4] s t ∧ OnlyParts [.regs, .dma] s t))) ∧
  (∀ (e : Fin 64) (v : Word) (s : State), s.canonical →
    (bits v.toNat 24 6 = e.val → exec (.mbxPairConfig e v) s = .next (s.setFld Fd.MBX_STAT_CODE_CODE Code.badArgument)) ∧
    (bits v.toNat 24 6 ≠ e.val → rwlOpen s (Ra.MBX_EP_CFG2 e) = false → Gives (.mbxPairConfig e v) s (fun t => OnlyRegs [] s t ∧ OnlyParts [.regs] s t)) ∧
    (bits v.toNat 24 6 ≠ e.val → rwlOpen s (Ra.MBX_EP_CFG2 e) = true → Gives (.mbxPairConfig e v) s (fun t => t.fld (Fd.MBX_EP_CFG2_PARTNER e) = bits v.toNat 24 6 ∧
      t.flag (Fd.MBX_EP_CFG2_PAIR_EN e) = bit v.toNat 31 ∧ t.fld (Fd.MBX_EP_CFG2_RX_ENTRY e) = bits v.toNat 4 4 ∧
      t.fld (Fd.MBX_EP_CFG2_TX_ENTRY e) = bits v.toNat 0 4 ∧ OnlyRegs [Ra.MBX_EP_CFG2 e] s t ∧ OnlyParts [.regs] s t))) ∧
  (∀ (d : Fin 32) (v : Word) (s : State),
    let x := fabTxn s 0 (Ra.MBX_DB_SET d) true
    (fabOpen s x = true → exec (.doorbellSet d v) s = .next ((fabPass s x).setReg (Ra.MBX_DB_PEND d) (s.reg (Ra.MBX_DB_PEND d) ||| v))) ∧
    (fabOpen s x = false → exec (.doorbellSet d v) s = .next (fabStall s { x with wr := some (2, v) })))

/-- DMA channels and the IOMMU (R357–R369): a page keeps its offset and lies in LPDDR5; a doorbell starts the entry at HEAD; a descriptor whose data
moves retires with OK and LEN, one that a request of a higher class pre-empts stops at its next 256-byte boundary (R23), one that faults leaves its channel in FAULT with KIND, WRITE, RESTART, EXTRA and DONE; RESUME and SKIP act in FAULT
only; disabling lets the running descriptor complete and cancels the rest; an invalidation is BUSY until it is done. -/
def Obligations.DmaChannels : Prop :=
  (∀ (s : State) (c a : Nat) (w : Bool), (2 ^ 36 ≤ a → translate s c a w = .fault ftRange) ∧
    (∀ p, translate s c a w = .ok p → a < 2 ^ 36 ∧ p % 4096 = a % 4096 ∧ 0x0800000000 ≤ p ∧ p < 0x0FF0000000)) ∧
  (∀ (n : Fin 32) (tail : Half) (s : State),
    let x := fabTxn s 0 (Ra.DMA_CH_TAIL n) true
    (fabOpen s x = true → (panelOwns s n = false → exec (.dmaDoorbell n tail) s = .next (dmaTail (fabPass s x) n tail.toNat)) ∧
      (panelOwns s n = true → exec (.dmaDoorbell n tail) s = .next (fabPass s x))) ∧
    (fabOpen s x = false → exec (.dmaDoorbell n tail) s = .next (fabStall s { x with wr := some (2, tail.setWidth 32) }))) ∧
  (∀ (n : Fin 32) (tail : Half) (s : State), s.canonical →
    let s0 := s.setFld (Fd.DMA_CH_TAIL_IDX n) tail.toNat
    let t := dmaTail s n tail.toNat
    let head := s.fld (Fd.DMA_CH_HEAD_IDX n)
    ((s.dch n).run.isSome = true ∨ s.fld (Fd.DMA_CH_STAT_STATE n) = dmaFault → t = s0) ∧
    ((s.dch n).run = none → s.fld (Fd.DMA_CH_STAT_STATE n) ≠ dmaFault →
      (s.fld (Fd.DMA_CH_CFG_MODE n) = 1 →
        ((s.dch n).queue = [] → t = s0.setFld (Fd.DMA_CH_STAT_STATE n) dmaIdle) ∧
        (∀ d l, (s.dch n).queue = d :: l → t = dmaBegin (s0.setDch n { s.dch n with queue := l }) n d)) ∧
      (s.fld (Fd.DMA_CH_CFG_MODE n) ≠ 1 →
        (s.flag (Fd.DMA_CH_CFG_EN n) = false ∨ head = tail.toNat → t = s0.setFld (Fd.DMA_CH_STAT_STATE n) dmaIdle) ∧
        (s.flag (Fd.DMA_CH_CFG_EN n) = true → head ≠ tail.toNat →
          (∀ d, ringDesc s n head = some d → (dmaLenOk d.len = true → d.ctl % 2 ^ 29 = 0 → t = dmaBegin s0 n d) ∧
            (dmaLenOk d.len = false ∨ d.ctl % 2 ^ 29 ≠ 0 → t = dmaNext (retireRing s0 n Code.badArgument 0) n 4095)) ∧
          (ringDesc s n head = none → t.fld (Fd.DMA_CH_STAT_STATE n) = dmaFault ∧ t.fld (Fd.DMA_CH_STAT_OUT n) = 0 ∧
            t.fld (Fd.DMA_CH_FAULT_INFO_DONE n) = 0 ∧ (∀ m, m ≠ n.val → t.dch m = s.dch m) ∧ OnlyParts [.regs, .fab, .dma] s t))))) ∧
  (∀ (n : Fin 32) (d : DmaDesc) (s : State), s.canonical → (s.dch n).paused = false → let t := dmaBegin s n d
    (t.dch n).run = some { d with pre := false } ∧ t.fld (Fd.DMA_CH_STAT_STATE n) = dmaRun ∧ t.fld (Fd.DMA_CH_STAT_OUT n) = 1 ∧ (∀ m, m ≠ n.val → t.dch m = s.dch m) ∧
    OnlyParts [.regs, .fab, .dma] s t) ∧
  (∀ (n : Fin 32) (code done : Nat) (s : State), s.canonical → let t := retireRing s n code done
    t.fld (Fd.DMA_CH_HEAD_IDX n) = (s.fld (Fd.DMA_CH_HEAD_IDX n) + 1) % ringSize s n % 65536 ∧ t.reg (Ra.DMA_CH_CNT n) = s.reg (Ra.DMA_CH_CNT n) + 1 ∧
    (s.rpl.live = none → t.stage.length = s.stage.length + 1) ∧ OnlyRegs (Ra.DMA_CH_HEAD n :: Ra.DMA_CH_CNT n :: xferRegs) s t ∧
    OnlyParts [.regs, .mem, .stage] s t) ∧
  (∀ (n : Fin 32) (s : State) (d : DmaDesc) (sp dp : Nat), d.loop = false → d.fix = false → bit d.ctl 30 = false → bit d.ctl 29 = false →
    d.done = 0 → dmaLenOk d.len = true → d.len ≤ chunkLen d 0 → chXlat s n d.src false = .ok sp → chXlat s n d.dst true = .ok dp →
    sp + d.len ≤ dp ∨ dp + d.len ≤ sp → ∃ t, dmaMove n d d.len (d.len / 4 + 1) 0 s = .done t ∧
      (∀ i, i < d.len → t.byteAt (dp + i) = s.byteAt (sp + i)) ∧ OnlyBytes dp d.len s t ∧ OnlyRegs xferRegs s t ∧ OnlyParts [.regs, .mem] s t) ∧
  (∀ (n : Fin 32) (s : State) (d : DmaDesc), (s.dch n).run = some d →
    let move := fun (stop : Nat) => dmaMove n d stop (d.len / 4 + 1) d.done s
    let next := d.done + chunkLen d d.done
    let ends := fun (s' : State) => exec (.descriptorRetire n) s = .next (dmaRetire (dmaHandOver (fabFree s' (0x10 + n.val)) n d) n Code.ok d.len)
    (s.fld (Fd.DMA_CH_STAT_STATE n) = dmaFault ∨ (s.dch n).paused = true ∨ dmaGranted s n = false → Idle (.descriptorRetire n) s) ∧
    (s.fld (Fd.DMA_CH_STAT_STATE n) ≠ dmaFault → (s.dch n).paused = false → dmaGranted s n = true →
      (s.rpl.live.isSome = true → d.loop = true → exec (.descriptorRetire n) s = .next (dmaRetire (fabFree s (0x10 + n.val)) n Code.ok d.len)) ∧
      (s.rpl.live = none ∨ d.loop = false →
        (dmaPreempted s n = false → (∀ s', move d.len = .done s' → ends s') ∧
          (∀ s' o k w, move d.len = .fault s' o k w → exec (.descriptorRetire n) s = .next (dmaFaultAt s' n d o k w 0))) ∧
        (dmaPreempted s n = true → d.pre = true → Idle (.descriptorRetire n) s) ∧
        (dmaPreempted s n = true → d.pre = false → (∀ s', move next = .done s' →
            (next < d.len → exec (.descriptorRetire n) s = .next (s'.setDch n { s'.dch n with run := some { d with done := next, pre := true } })) ∧
            (d.len ≤ next → ends s')) ∧
          (∀ s' o k w, move next = .fault s' o k w → exec (.descriptorRetire n) s = .next (dmaFaultAt s' n d o k w 0)))))) ∧
  (∀ (n : Fin 32) (s : State), (s.dch n).run = none → Idle (.descriptorRetire n) s ∧
    (∀ chunks w beat extra, Idle (.dmaFault n chunks w beat extra) s)) ∧
  (∀ (n : Fin 32) (s : State) (d : DmaDesc) (code done : Nat), s.canonical → (s.dch n).run = some d → d.loop = false → (s.dch n).stopping = false →
    ∃ s', dmaRetire s n code done = dmaNext (retireRing s' n code done) n 4096 ∧ s'.dch n = { s.dch n with run := none } ∧
      s'.fld (Fd.DMA_CH_STAT_STATE n) = dmaIdle ∧ s'.fld (Fd.DMA_CH_STAT_OUT n) = 0 ∧ OnlyRegs [Ra.DMA_CH_STAT n] s s' ∧ OnlyParts [.regs, .dma] s s') ∧
  (∀ (n : Fin 32) (s : State) (d : DmaDesc) (o kind extra : Nat) (w : Bool), s.canonical → (s.dch n).run = some d → (s.dch n).stopping = false →
    d.loop = false → o < 2 ^ 24 → extra < 16 → kind < 4 →
    let t := dmaFaultAt s n d o kind w extra
    t.fld (Fd.DMA_CH_STAT_STATE n) = dmaFault ∧ t.fld (Fd.DMA_CH_STAT_OUT n) = 0 ∧ t.fld (Fd.DMA_CH_FAULT_INFO_KIND n) = kind ∧
    t.flag (Fd.DMA_CH_FAULT_INFO_WRITE n) = w ∧ t.flag (Fd.DMA_CH_FAULT_INFO_RESTART n) = !(w && bit d.ctl 30) ∧
    t.fld (Fd.DMA_CH_FAULT_INFO_EXTRA n) = extra ∧ t.fld (Fd.DMA_CH_FAULT_INFO_DONE n) = o ∧
    t.reg64 (Ra.DMA_CH_FAULT_LO n) (Ra.DMA_CH_FAULT_HI n) = (if w then dmaDstAddr d o else dmaSrcAddr d o) % 2 ^ 64 ∧
    (t.dch n).run = some { d with done := o } ∧ (∀ m, m ≠ n.val → t.dch m = s.dch m) ∧ OnlyParts [.regs, .fab, .dma] s t) ∧
  (∀ (n : Fin 32) (chunks : Nat) (beat : Fin 4) (extra : Fin 16) (s : State) (d : DmaDesc), (s.dch n).run = some d →
    let stands := s.fld (Fd.DMA_CH_STAT_STATE n) = dmaFault ∨ dmaGranted s n = false ∨ (dmaPreempted s n = true ∧ d.pre = true)
    let o := (List.range chunks).foldl (fun o _ => o + chunkLen d o) d.done
    (stands → ∀ w, Idle (.dmaFault n chunks w beat extra) s) ∧
    (¬ stands →
      (∀ s' o' k w', dmaMove n d o (chunks + 1) d.done s = .fault s' o' k w' → ∀ w, exec (.dmaFault n chunks w beat extra) s = .next (dmaFaultAt s' n d o' k w' 0)) ∧
      (∀ s', dmaMove n d o (chunks + 1) d.done s = .done s' →
        (let p := dmaPhys s' n d o false
         exec (.dmaFault n chunks false beat extra) s = .next (dmaFaultAt
           (fabErr (if 0x0800000000 ≤ p then s'.count Fd.DMA_MEM_UE_CNT_V else s') (0x10 + n.val) p 1) n d o ftError false 0)) ∧
        ∃ s'', OnlyParts [.mem] s' s'' ∧ exec (.dmaFault n chunks true beat extra) s = .next (dmaFaultAt
          (fabErr s'' (0x10 + n.val) (dmaPhys s'' n d o true + 64 * beat.val) 1) n d o ftError true extra)))) ∧
  (∀ (n : Fin 32) (s : State), panelOwns s n = false →
    (s.fld (Fd.DMA_CH_STAT_STATE n) ≠ dmaFault ∨ (s.dch n).run = none → Idle (.dmaResume n) s ∧ Idle (.dmaSkip n) s) ∧
    (∀ d, s.fld (Fd.DMA_CH_STAT_STATE n) = dmaFault → (s.dch n).run = some d →
      (d.len ≠ 0 → exec (.dmaResume n) s = .next (dmaBegin s n d)) ∧
      (d.len = 0 → exec (.dmaResume n) s = .next (dmaNext ((s.setDch n { s.dch n with run := none }).setFld (Fd.DMA_CH_STAT_STATE n) dmaIdle) n 4096)) ∧
      exec (.dmaSkip n) s = .next (dmaRetire s n Code.fault d.done))) ∧
  (∀ (n : Fin 32) (s : State), panelOwns s n = true → Idle (.dmaResume n) s ∧ Idle (.dmaSkip n) s ∧ Idle (.dmaDisable n) s) ∧
  (∀ (n : Fin 32) (s : State), s.canonical → panelOwns s n = false →
    (s.flag (Fd.DMA_CH_CFG_EN n) = false → Idle (.dmaDisable n) s) ∧
    (s.flag (Fd.DMA_CH_CFG_EN n) = true →
      (∀ d, (s.dch n).run = some d → s.fld (Fd.DMA_CH_STAT_STATE n) ≠ dmaFault → Gives (.dmaDisable n) s (fun t =>
        t.flag (Fd.DMA_CH_CFG_EN n) = false ∧ t.fld (Fd.DMA_CH_STAT_STATE n) = dmaStopping ∧ t.dch n = { s.dch n with stopping := true } ∧
        OnlyRegs [Ra.DMA_CH_CFG n, Ra.DMA_CH_STAT n] s t ∧ OnlyParts [.regs, .dma] s t)) ∧
      (∀ d, (s.dch n).run = some d → s.fld (Fd.DMA_CH_STAT_STATE n) = dmaFault → exec (.dmaDisable n) s =
        .next (dmaRetire ((s.setFlag (Fd.DMA_CH_CFG_EN n) false).setDch n { s.dch n with stopping := true }) n Code.fault d.done)) ∧
      ((s.dch n).run = none → s.fld (Fd.DMA_CH_CFG_MODE n) ≠ 1 → s.fld (Fd.DMA_CH_HEAD_IDX n) < ringSize s n →
        s.fld (Fd.DMA_CH_TAIL_IDX n) < ringSize s n → ringSize s n ≤ 4096 → Gives (.dmaDisable n) s (fun t =>
          t.flag (Fd.DMA_CH_CFG_EN n) = false ∧ t.fld (Fd.DMA_CH_STAT_STATE n) = dmaIdle ∧ t.flag (Fd.DMA_CH_STAT_DISABLE_DONE n) = true ∧
          t.fld (Fd.DMA_CH_HEAD_IDX n) = s.fld (Fd.DMA_CH_TAIL_IDX n) ∧ (∀ m, m ≠ n.val → t.dch m = s.dch m) ∧
          OnlyRegs (Ra.DMA_CH_CFG n :: Ra.DMA_CH_STAT n :: Ra.DMA_CH_HEAD n :: Ra.DMA_CH_CNT n :: xferRegs) s t ∧ OnlyParts [.regs, .mem, .stage, .dma] s t)))) ∧
  (∀ (ctx : Fin 32) (page count : Word) (s : State), s.canonical → Gives (.iommuInvalidate ctx page count) s (fun t =>
    t.reg Ra.IOMMU_INV_LO = page ∧ t.reg Ra.IOMMU_INV_HI = count ∧ t.flag Fd.IOMMU_INV_STAT_BUSY = true ∧
    (s.flag Fd.IOMMU_INV_STAT_BUSY = true → t.dma = s.dma) ∧
    (s.flag Fd.IOMMU_INV_STAT_BUSY = false → t.dma = { s.dma with inv := some ctx.val }) ∧
    OnlyRegs [Ra.IOMMU_INV_LO, Ra.IOMMU_INV_HI, Ra.IOMMU_INV_STAT] s t ∧ OnlyParts [.regs, .dma] s t)) ∧
  (∀ s : State, (s.dma.inv = none → Idle .invalidateDone s) ∧ (s.dma.inv.isSome = true →
    exec .invalidateDone s = .next ((s.setDma { s.dma with inv := none }).setFlag Fd.IOMMU_INV_STAT_BUSY false)))

/-- The fleet link (R316, R318, R320, R323–R336, R338, R339). Roles and their epochs, enabling and disabling, the start of a superframe, the checks of
a received frame, what a beacon brings, joins, departures, succession, loss of the beacon, key and channel changes, and what leaves in the module's
slot or by contention. -/
def Obligations.FleetLink : Prop :=
  (∀ (i : Fin 4) (role : Byte) (s : State), s.canonical →
    let r := role.toNat
    (roleCodeOk r = false → exec (.roleWrite i role) s = .next (s.setFld Fd.FLR_STAT_CODE Code.badArgument)) ∧
    (roleCodeOk r = true → s.fld (Fd.FLR_ROLE_ROLE i) = r → exec (.roleWrite i role) s = .next (s.setFld Fd.FLR_STAT_CODE Code.ok)) ∧
    (roleCodeOk r = true → s.fld (Fd.FLR_ROLE_ROLE i) ≠ r → Gives (.roleWrite i role) s (fun t => t.fld (Fd.FLR_ROLE_ROLE i) = r ∧
      t.fld (Fd.FLR_ROLE_EPOCH i) = nextEpoch (s.fld (Fd.FLR_ROLE_EPOCH i)) ∧ t.fld Fd.FLR_STAT_CODE = Code.ok ∧
      OnlyRegs [Ra.FLR_ROLE i, Ra.FLR_STAT] s t ∧ OnlyParts [.regs] s t))) ∧
  (∀ s : State, s.canonical → let t := startListen s
    t.flr.missed = 0 ∧ t.flr.cont = none ∧ t.flr.granted = none ∧ t.flr.listenCyc = s.clk.cyc ∧
    (s.fld Fd.FLR_DOM_CFG_CHAN < 5 → t.linkSt = flListen ∧ t.fld Fd.FLR_STAT_CHAN = s.fld Fd.FLR_DOM_CFG_CHAN) ∧
    (5 ≤ s.fld Fd.FLR_DOM_CFG_CHAN → t.linkSt = flScan ∧ t.fld Fd.FLR_STAT_CHAN = (chans s).headD 0) ∧
    OnlyRegs [Ra.FLR_STAT] s t ∧ OnlyParts [.regs, .flr] s t) ∧
  (∀ s : State, s.canonical →
    let en := s.setFlag Fd.FLR_CFG_EN true
    (s.linkSt ≠ flOff → exec .fleetLinkEnable s = .next en) ∧
    (s.linkSt = flOff → joinOk s = false → exec .fleetLinkEnable s = .next (en.setFld Fd.FLR_STAT_CODE Code.badArgument)) ∧
    (s.linkSt = flOff → joinOk s = true → linkRuns s = true → exec .fleetLinkEnable s = .next (startListen (en.setFld Fd.FLR_STAT_CODE Code.ok))) ∧
    (s.linkSt = flOff → joinOk s = true → linkRuns s = false → exec .fleetLinkEnable s = .next (en.setFld Fd.FLR_STAT_CODE Code.ok)) ∧
    (s.flag Fd.FLR_CFG_EN = false → Idle .fleetLinkDisable s) ∧
    (s.flag Fd.FLR_CFG_EN = true → isMember s = true → Gives .fleetLinkDisable s (fun t => t.flag Fd.FLR_CFG_EN = false ∧
      t.flr = { s.flr with leaving := true, recs := s.flr.recs ++ [(2, [])] } ∧ OnlyRegs [Ra.FLR_CFG] s t ∧ OnlyParts [.regs, .flr] s t)) ∧
    (s.flag Fd.FLR_CFG_EN = true → isMember s = false → Gives .fleetLinkDisable s (fun t => t.flag Fd.FLR_CFG_EN = false ∧ t.linkSt = flOff ∧
      t.flr = { s.flr with cont := none, granted := none, leaving := false, recs := [] } ∧ OnlyRegs [Ra.FLR_CFG, Ra.FLR_STAT] s t ∧
      OnlyParts [.regs, .flr] s t))) ∧
  (∀ (energy : List Word) (s : State), s.canonical →
    (linkRuns s = true → flListen ≤ s.linkSt → atBoundary s = true →
      let n := if s.linkSt = flCoord ∨ s.flag Fd.FLR_STAT_TIMING = false then s.dtNs / 100000000 % 2 ^ 32 else (s.sfn + 1) % 2 ^ 32
      let missed := s.flr.missed + (if s.linkSt ≠ flCoord ∧ s.flr.got = false then 1 else 0)
      Gives (.superframeStart energy) s (fun t =>
        t.sfn = n ∧ t.flr.got = false ∧ t.flr.sfCyc = some s.clk.cyc ∧ (∀ c, c < 5 → t.reg (Ra.FLR_RADIO c) = energy.getD c 0) ∧
        (s.linkSt = flMember ∨ s.linkSt = flJoining → missed < 3 → s.flr.cont.any (·.sent) = false →
          (s.flr.granted = none → t.linkSt = s.linkSt ∧ t.flr.missed = missed) ∧
          (∀ m, m < 64 → s.flr.granted = some m → t.linkSt = flMember ∧ t.modNum = m ∧ t.flr.granted = none)) ∧
        (s.linkSt = flMember ∨ s.linkSt = flJoining → lossSf s ≤ missed → s.flr.cont.any (·.sent) = false → s.flr.granted = none →
          s.modNum ∉ s.flr.succ → t.linkSt = flScan ∨ t.linkSt = flListen) ∧
        (s.linkSt = flCoord → s.flr.granted = none → t.linkSt = flCoord ∧ (flrTx s = true → s.flr.chanAt = none → t.flr.grants = [] ∧ t.flr.cack = [] ∧
          ∃ x, t.flr.lastTx = some x ∧ x.type = 0 ∧ x.sfn = n ∧ x.bcn.isSome = true)) ∧
        (∀ q, q < 512 → s.flr.quotaNext = some q → t.fld Fd.FLR_TXN_STAT_QUOTA = q) ∧ OnlyParts [.regs, .mem, .stage, .gns, .flr, .dma, .freeCtr] s t)) ∧
    (linkRuns s = false ∨ s.linkSt < flListen ∨ atBoundary s = false → Idle (.superframeStart energy) s)) ∧
  (∀ (s : State) (h : FleetHdr) (k : Nat), s.canonical → k < 16 → let t := frameDrop s h k
    t.fld (Fd.FLR_CNT_V k) = satU 32 (s.fld (Fd.FLR_CNT_V k) + 1) ∧ OnlyParts [.regs, .flr, .evr, .tab, .rpl] s t) ∧
  (∀ (h : FleetHdr) (b : BeaconMsg) (inTime : Bool) (rsf : Fin 16) (rsub : Fin 12) (s : State), s.canonical →
    (linkRuns s = false ∨ s.linkSt < flScan ∨ h.type.val ≠ 0 → Idle (.beaconReceive h b inTime rsf rsub) s) ∧
    (linkRuns s = true → flScan ≤ s.linkSt → h.type.val = 0 →
      (∀ k, frameBad s h = some k → exec (.beaconReceive h b inTime rsf rsub) s = .next (frameDrop s h k)) ∧
      (frameBad s h = none → s.linkSt ≠ flCoord → Gives (.beaconReceive h b inTime rsf rsub) s (fun t =>
        t.sfn = h.sfn.toNat ∧ t.flr.missed = 0 ∧ t.flr.coord = h.src.toNat % 64 ∧ t.flr.rx = some (h.rx0.toInt, h.rx1.toInt) ∧ t.flr.succ = b.succ.map (·.val) ∧ t.flr.mcs = b.mcs.val ∧
        (∀ m, m < 64 → t.present m = bit b.map.toNat m ∧ t.flag (Fd.FLR_MBR_STAT_HELD m) = bit b.held.toNat m) ∧
        (b.keyIn.toNat ≠ 0 → t.flr.keyAt = some ((h.sfn.toNat + b.keyIn.toNat) % 2 ^ 32)) ∧
        (b.chanIn.toNat ≠ 0 → t.flr.chanAt = some ((h.sfn.toNat + b.chanIn.toNat) % 2 ^ 32, b.chanTo.val)) ∧
        (s.linkSt = flJoining → s.flr.cont = none → ∀ m e, b.grants.find? (fun x => x.1.toNat == s.ident) = some (BitVec.ofNat 32 s.ident, m, e, 0) →
          t.flr.granted = some m.val ∧ t.fld (Fd.FLR_MBR_STAT_MEPOCH m) = e.toNat) ∧
        OnlyParts [.regs, .mem, .stage, .gns, .flr, .dma] s t)) ∧
      (frameBad s h = none → s.linkSt = flCoord →
        let own := s.fld Fd.FLR_CFG_COORD_PRI
        (own < b.pri.val ∨ (own = b.pri.val ∧ h.ident.toNat < s.ident) → Gives (.beaconReceive h b inTime rsf rsub) s (fun t =>
          t.linkSt ≠ flCoord ∧ t.sfn = h.sfn.toNat ∧ t.flr.coord = h.src.toNat % 64 ∧ OnlyParts [.regs, .mem, .stage, .gns, .flr, .dma] s t)) ∧
        (b.pri.val < own ∨ (own = b.pri.val ∧ s.ident ≤ h.ident.toNat) → Idle (.beaconReceive h b inTime rsf rsub) s)))) ∧
  (∀ (ident : Word) (pref : Byte) (sub : Fin 12) (s : State), s.canonical →
    let i := ident.toNat
    (s.linkSt ≠ flCoord → Idle (.joinRequest ident pref sub) s) ∧
    (s.linkSt = flCoord → (∃ m ∈ owners s, (s.mbr m).ident = i) → Gives (.joinRequest ident pref sub) s (fun t => ∃ k, k < 64 ∧ t.present k = true ∧
      (t.mbr k).ident = i ∧ t.flr.grants.getLast? = some (i, k, t.fld (Fd.FLR_MBR_STAT_MEPOCH k), Code.ok) ∧
      t.flr.cack = s.flr.cack ++ [(sub.val, i % 65536)] ∧ OnlyParts [.regs, .mem, .stage, .gns, .flr, .dma] s t)) ∧
    (s.linkSt = flCoord → (∀ m ∈ owners s, (s.mbr m).ident ≠ i) →
      (∀ m, m < 64 → chooseSlot s i pref.toNat = some m → Gives (.joinRequest ident pref sub) s (fun t =>
        t.present m = true ∧ t.flag (Fd.FLR_MBR_STAT_HELD m) = false ∧ t.fld (Fd.FLR_MBR_STAT_MEPOCH m) = (s.fld (Fd.FLR_MBR_STAT_MEPOCH m) + 1) % 65536 ∧
        (t.mbr m).ident = i ∧ t.flr.grants = s.flr.grants ++ [(i, m, (s.fld (Fd.FLR_MBR_STAT_MEPOCH m) + 1) % 65536, Code.ok)] ∧
        t.flr.cack = s.flr.cack ++ [(sub.val, i % 65536)] ∧ OnlyRegs [Ra.FLR_MBR_STAT m] s t ∧ OnlyParts [.regs, .flr] s t)) ∧
      (chooseSlot s i pref.toNat = none → exec (.joinRequest ident pref sub) s = .next (s.setFlr { s.flr with
        cack := s.flr.cack ++ [(sub.val, i % 65536)], grants := s.flr.grants ++ [(i, 0, 0, Code.refused)] })))) ∧
  (∀ (m : Fin 64) (s : State), s.canonical →
    (s.linkSt = flCoord → s.present m = true → m.val ≠ s.modNum → lossSf s ≤ (s.mbr m).silent → Gives (.memberDepart m) s (fun t =>
      t.present m = false ∧ t.flag (Fd.FLR_MBR_STAT_HELD m) = true ∧
      (t.mbr m).heldTo = some (s.clk.cyc + s.fld Fd.FLR_TXN_CFG_HOLD * cycS) ∧ t.flr.departed = s.flr.departed ++ [(m.val, (s.mbr m).ident, 10)] ∧
      (∀ x ∈ t.flr.inflight ++ t.flr.queue, x.dest ≠ m.val) ∧ (∀ x, x < 64 → x ≠ m.val → t.present x = s.present x) ∧
      OnlyParts [.regs, .mem, .stage, .gns, .flr, .dma] s t)) ∧
    (s.linkSt ≠ flCoord ∨ s.present m = false ∨ m.val = s.modNum ∨ (s.mbr m).silent < lossSf s → Idle (.memberDepart m) s)) ∧
  (∀ s : State, s.canonical →
    let p := if s.fld Fd.FLR_CFG_PREF < 64 then s.fld Fd.FLR_CFG_PREF else 0
    (s.linkSt = flListen → s.flag Fd.FLR_CFG_FOUND = true → flrTx s = true → s.since s.flr.listenCyc (3 * cycS) = true → Gives .domainFound s (fun t =>
      t.linkSt = flCoord ∧ t.modNum = p ∧ t.present p = true ∧ (t.mbr p).ident = s.ident ∧ t.flr.coordEp = nextEpoch s.flr.coordEp ∧
      t.flag Fd.FLR_STAT_TIMING = false ∧ OnlyRegs [Ra.FLR_STAT, Ra.FLR_MBR_STAT p] s t ∧ OnlyParts [.regs, .flr] s t)) ∧
    (s.linkSt ≠ flListen ∨ s.flag Fd.FLR_CFG_FOUND = false ∨ flrTx s = false ∨ s.since s.flr.listenCyc (3 * cycS) = false → Idle .domainFound s)) ∧
  (∀ s : State, s.canonical →
    let k := s.flr.succ.idxOf s.modNum
    (s.linkSt = flMember → k < s.flr.succ.length → 3 + 2 * k ≤ s.flr.missed → flrTx s = true → Gives .successorTakeover s (fun t =>
      t.linkSt = flCoord ∧ t.modNum = s.modNum ∧ t.flr.coord = s.modNum ∧ (s.flr.coord % 64 ≠ s.modNum → t.present (s.flr.coord % 64) = false) ∧
      OnlyParts [.regs, .mem, .stage, .gns, .flr, .dma] s t)) ∧
    (s.linkSt ≠ flMember ∨ s.modNum ∉ s.flr.succ ∨ s.flr.missed < 3 + 2 * k ∨ flrTx s = false → Idle .successorTakeover s) ∧
    (s.linkSt = flMember ∨ s.linkSt = flJoining → lossSf s ≤ s.flr.missed → exec .beaconLoss s = .next (startListen s)) ∧
    ((s.linkSt ≠ flMember ∧ s.linkSt ≠ flJoining) ∨ s.flr.missed < lossSf s → Idle .beaconLoss s)) ∧
  (∀ s : State, s.canonical →
    let reached := fun (x : Nat) => (s.sfn + 2 ^ 32 - x) % 2 ^ 32 < 2 ^ 31
    (s.flr.keyAt = none → Idle .keyChange s) ∧ (s.flr.chanAt = none → Idle .channelChange s) ∧
    (∀ x, s.flr.keyAt = some x →
      (reached x → exec .keyChange s = .next (s.setFlr { s.flr with keyAt := none, keyIdx := 1 - s.flr.keyIdx, keyOld := some ((x + 10) % 2 ^ 32) })) ∧
      (¬ reached x → Idle .keyChange s)) ∧
    (∀ x c, c < 5 → s.flr.chanAt = some (x, c) →
      (reached x → isMember s = true → Gives .channelChange s (fun t => t.fld Fd.FLR_STAT_CHAN = c ∧
        t.flr = { s.flr with chanAt := none, badSlots := [] } ∧ OnlyRegs [Ra.FLR_STAT] s t ∧ OnlyParts [.regs, .flr] s t)) ∧
      (¬ reached x ∨ isMember s = false → Idle .channelChange s))) ∧
  (∀ (obs : List (List (List Byte))) (s : State), s.canonical →
    let c := Instr.memberSlotTransmit obs
    (isMember s = false ∨ flrTx s = false ∨ inMemberSlot s s.modNum = false ∨ unsent s 1 0 = false → Idle c s) ∧
    (isMember s = true → flrTx s = true → inMemberSlot s s.modNum = true → unsent s 1 0 = true →
      let p := txnPromote s
      let cap := slotCapacity s.flr.mcs
      let by_ := fun (k : Nat) => p.flr.recs.filter (fun r => r.1 == k)
      let all := [roleRec s] ++ by_ 2 ++ (obsRec s cap obs).1 ++ s.flr.unlRec ++ by_ 5 ++ by_ 6 ++ by_ 7 ++ by_ 8
      ∃ sent rest, fillSlot cap all = (sent, rest) ∧ (sent.map recSize).sum ≤ cap ∧ (∀ r ∈ all, r ∈ sent ∨ r ∈ rest) ∧
        (dutyOk s (airTime s.flr.mcs (frameBytes sent)) = false → Gives c s (fun t => t.flr = p.flr ∧
          t.fld (Fd.FLR_CNT_V fcDuty) = satU 32 (s.fld (Fd.FLR_CNT_V fcDuty) + 1) ∧ OnlyParts [.regs, .flr] s t)) ∧
        (dutyOk s (airTime s.flr.mcs (frameBytes sent)) = true → Gives c s (fun t =>
          t.flr.lastTx = some { type := 1, sfn := s.sfn, recs := sent, port := txPort s, power := txPower s } ∧ (1, 0) ∈ t.flr.sentNow ∧
          (s.flr.leaving = false → t.linkSt = s.linkSt ∧ ∀ r ∈ rest, r.1 ≠ 1 → r.1 ≠ 3 → r.1 ≠ 4 → r ∈ t.flr.recs) ∧
          (s.flr.leaving = true → (∃ r ∈ sent, r.1 = 2) → t.linkSt = flOff) ∧ OnlyParts [.regs, .flr] s t)))) ∧
  (∀ (h : FleetHdr) (sub : Fin 12) (recs : List FleetRec) (s : State), s.canonical →
    let m := h.src.toNat % 64
    (linkRuns s = false ∨ isMember s = false ∨ (h.type.val ≠ 1 ∧ h.type.val ≠ 2) → Idle (.memberFrameReceive h sub recs) s) ∧
    (linkRuns s = true → isMember s = true → h.type.val = 1 ∨ h.type.val = 2 →
      (∀ k, frameBad s h = some k → exec (.memberFrameReceive h sub recs) s = .next (frameDrop s h k)) ∧
      (frameBad s h = none → ∃ s', exec (.memberFrameReceive h sub recs) s = .next (recs.foldl (fun a r => recTake a m r) s') ∧
        s'.fld (Fd.FLR_MBR_STAT_LAST m) = 0 ∧ (s'.mbr m).silent = 0 ∧ s'.reg (Ra.FLR_QUALITY m) = h.level ∧ (h.type.val = 1 → (s'.mbr m).ident = h.ident.toNat ∧ s'.flr.cack = s.flr.cack) ∧
        (h.type.val = 2 → s.linkSt = flCoord → s'.flr.cack = s.flr.cack ++ [(sub.val, h.ident.toNat % 65536)]) ∧
        (∀ x, x ≠ m → s'.mbr x = s.mbr x) ∧ OnlyRegs [Ra.FLR_MBR_STAT m, Ra.FLR_QUALITY m] s s' ∧ OnlyParts [.regs, .flr] s s'))) ∧
  (∀ (s : State) (m : Nat), s.canonical →
    (∀ l, ((recTake s m (.role l)).mbr m).roles = l.map (fun x => (x.1.toNat, x.2.toNat)) ∧ OnlyParts [.flr] s (recTake s m (.role l))) ∧
    (s.linkSt ≠ flCoord → recTake s m .leave = s) ∧ (s.linkSt = flCoord → recTake s m .leave = depart s m) ∧
    (∀ b, OnlyParts [.gns] s (recTake s m (.obs b))) ∧
    (∀ w, m = s.fld Fd.FLR_UNL_CFG_PARTNER → (recTake s m (.unload w)).flr = { s.flr with part := w, partSf := some s.sfn }) ∧
    (∀ w, m ≠ s.fld Fd.FLR_UNL_CFG_PARTNER → recTake s m (.unload w) = s) ∧ (∀ d, recTake s m (.telem d) = s) ∧
    (∀ x, recTake s m (.unknown x) = flrCount s fcUnknown) ∧
    (∀ (src : Fin 64) (tag seg : Byte), src.val ≠ s.modNum → recTake s m (.ack src tag seg) = s)) ∧
  (∀ (busy : Bool) (rsf : Fin 16) (rsub : Fin 12) (s : State), s.canonical →
    (flrTx s = false ∨ s.linkSt < flJoining → Idle (.contentionTransmit busy rsf rsub) s) ∧
    (flrTx s = true → flJoining ≤ s.linkSt →
      (s.flr.cont = none → isMember s = true → s.flag Fd.FLR_CFG_CONT_EN = true → overflow s ≠ [] → Gives (.contentionTransmit busy rsf rsub) s (fun t =>
        t.flr.cont = some { att := 1, sf := s.sfn, sub := rsub, join := false, recs := (fillSlot 1034 (overflow s)).1 } ∧ OnlyParts [.flr] s t)) ∧
      (s.flr.cont = none → isMember s = false ∨ s.flag Fd.FLR_CFG_CONT_EN = false ∨ overflow s = [] → Idle (.contentionTransmit busy rsf rsub) s) ∧
      (∀ c, s.flr.cont = some c →
        let us := airTime 1 (frameBytes c.recs)
        let stands := c.sent = true ∨ c.sf ≠ s.sfn ∨ inSubSlot s c.sub = false ∨ ∃ x ∈ s.flr.sentNow, 2 ≤ x.1
        (stands → Idle (.contentionTransmit busy rsf rsub) s) ∧
        (¬ stands → dutyOk s us = false → exec (.contentionTransmit busy rsf rsub) s = .next (flrCount s fcDuty)) ∧
        (¬ stands → dutyOk s us = true →
          Gives (.contentionTransmit true rsf rsub) s (fun t => OnlyParts [.flr] s t ∧
            t.flr.cont = some { c with sf := (s.sfn + rsf.val % (min (2 ^ (c.att - 1)) 16)) % 2 ^ 32, sub := rsub }) ∧
          Gives (.contentionTransmit false rsf rsub) s (fun t => t.flr.cont = some { c with sent := true } ∧
            t.flr.lastTx = some { type := if c.join then 3 else 2, sfn := s.sfn, sub := c.sub, recs := c.recs, port := txPort s, power := txPower s } ∧
            t.fld (Fd.FLR_CNT_V 3) = satU 32 (s.fld (Fd.FLR_CNT_V 3) + 1) ∧ OnlyRegs [Ra.FLR_CNT 3, Ra.FLR_RADIO 5, Ra.FLR_RADIO 8] s t ∧
            OnlyParts [.regs, .flr] s t)))))

/-- Fleet transactions (R340–R346, R348, R350, R503, R524). A request at the link processor's endpoint is refused or issued, in flight within the quota
and else queued; its segments repeat after two superframes without progress; it ends with TIMEOUT, its tag resting for 10 s. A request segment that
fails its checks is answered at once; a whole request is served by its kind, and the reply is kept with its segments waiting for the slot. -/
def Obligations.FleetTransactions : Prop :=
  (∀ (e : Fin 64) (s : State), fleetEndpoint s e = true → s.fld (Fd.MBX_EP_STAT_STATE e) = epFull →
    (∀ t ∈ s.flr.inflight ++ s.flr.queue, t.vhp = none → t.endp ≠ e.val) →
    let w := fun (k : Nat) => (s.reg (Ra.MBX_PAYLOAD e k)).toNat
    let kind := bits (w 1) 0 8
    let dest := bits (w 1) 8 8
    let tmo := bits (w 2) 16 16
    (∀ c, txnBad s kind dest (w 3) = some c → exec (.fleetRequest e) s = .next (mbxAck s e c)) ∧
    (txnBad s kind dest (w 3) = none →
      let a := w 4 + w 5 * 2 ^ 32
      let s1 := noteXfer s 0x0E a (w 3) false
      (readIova s 0x0E a (w 3) = none → exec (.fleetRequest e) s = .next (mbxAck s1 e Code.fault)) ∧
      (∀ req, readIova s 0x0E a (w 3) = some req → (freeTag s = none → exec (.fleetRequest e) s = .next (mbxAck s1 e Code.refused)) ∧
        (∀ tag, freeTag s = some tag → exec (.fleetRequest e) s = .next (txnIssue s1
          { tag := tag, kind := kind, dest := dest, role := bits (w 1) 16 8, epoch := bits (w 2) 0 16,
            dead := s.clk.cyc + (if tmo = 0 then 1000 else clampN 100 60000 tmo) * cycMs, req := req, ctx := BitVec.ofNat 32 (w 0),
            rspIova := w 6 + w 7 * 2 ^ 32, rspSize := w 8, endp := e }))))) ∧
  (∀ (e : Fin 64) (s : State), fleetEndpoint s e = false ∨ s.fld (Fd.MBX_EP_STAT_STATE e) ≠ epFull ∨
    (∃ t ∈ s.flr.inflight ++ s.flr.queue, t.vhp = none ∧ t.endp = e.val) → Idle (.fleetRequest e) s) ∧
  (∀ (s : State) (x : FTxn), s.canonical → let t := txnIssue s x
    let room := s.fld Fd.FLR_TXN_STAT_QUOTA - s.flr.inflight.length
    let l := (s.flr.queue ++ [x]).take room
    t.flr.inflight = s.flr.inflight ++ l.map (fun (x : FTxn) => { x with lastSf := s.sfn }) ∧ t.flr.queue = (s.flr.queue ++ [x]).drop room ∧
    t.flr.recs = s.flr.recs ++ l.flatMap reqRecs ∧
    t.fld Fd.FLR_TXN_STAT_INFLIGHT = t.flr.inflight.length % 512 ∧ t.fld Fd.FLR_TXN_STAT_QUEUED = t.flr.queue.length % 128 ∧
    OnlyRegs [Ra.FLR_TXN_STAT] s t ∧ OnlyParts [.regs, .flr] s t) ∧
  (∀ s : State, ((∀ t ∈ s.flr.inflight ++ s.flr.queue, s.clk.cyc < t.dead) → Idle .fleetTransactionTimeout s) ∧
    (∀ x, (s.flr.inflight ++ s.flr.queue).filter (fun x => decide (x.dead ≤ s.clk.cyc)) = [x] →
      exec .fleetTransactionTimeout s = .next (txnEnd s x Code.timeout [])) ∧
    Gives .fleetTransactionTimeout s (fun t => (∀ x ∈ t.flr.inflight ++ t.flr.queue, s.clk.cyc < x.dead) ∧ OnlyParts [.regs, .mem, .flr, .dma] s t)) ∧
  (∀ (s : State) (x : FTxn) (code : Nat) (rsp : List Byte), let t := txnEnd s x code rsp
    (∀ y ∈ t.flr.inflight ++ t.flr.queue, y.tag ≠ x.tag) ∧ t.flr.tags = (x.tag, s.clk.cyc + 10 * cycS) :: s.flr.tags ∧
    (∀ y ∈ s.flr.inflight, y.tag ≠ x.tag → y ∈ t.flr.inflight) ∧ OnlyParts [.regs, .mem, .flr, .dma] s t) ∧
  (∀ (src : Fin 64) (tag : Byte) (s : State),
    (∀ t, s.flr.inflight.find? (fun x => x.tag == tag.toNat) = some t → t.acked < segCount t.req.length → noProgress s t.lastSf = true →
      Gives (.segmentRepeat false src tag) s (fun u => u.flr.recs = s.flr.recs.filter (fun r => !isReqRec t r) ++ reqRecs t ∧ OnlyParts [.flr] s u)) ∧
    (∀ t, s.flr.inflight.find? (fun x => x.tag == tag.toNat) = some t → noProgress s t.lastSf = false ∨ segCount t.req.length ≤ t.acked →
      Idle (.segmentRepeat false src tag) s) ∧
    (s.flr.inflight.find? (fun x => x.tag == tag.toNat) = none → Idle (.segmentRepeat false src tag) s) ∧
    (∀ k, s.flr.kept.find? (fun x => x.src == src.val && x.tag == tag.toNat) = some k → k.done = true → k.acked < segCount k.rsp.length →
      noProgress s k.lastSf = true →
      Gives (.segmentRepeat true src tag) s (fun u => u.flr.recs = s.flr.recs.filter (fun r => !isRspRec k r) ++ rspRecs k ∧ OnlyParts [.flr] s u)) ∧
    (∀ k, s.flr.kept.find? (fun x => x.src == src.val && x.tag == tag.toNat) = some k → k.done = false ∨ segCount k.rsp.length ≤ k.acked ∨
      noProgress s k.lastSf = false → Idle (.segmentRepeat true src tag) s) ∧
    (s.flr.kept.find? (fun x => x.src == src.val && x.tag == tag.toNat) = none → Idle (.segmentRepeat true src tag) s)) ∧
  (∀ (src : Fin 64) (g : FleetSeg) (s : State),
    (isMember s = false ∨ g.dest.toNat ≠ s.modNum → Idle (.segmentReceive src g) s) ∧
    (isMember s = true → g.dest.toNat = s.modNum → g.rsp = false →
      s.flr.kept.find? (fun k => k.src == src.val && k.tag == g.tag.toNat) = none →
      let k : FKept := { src := src, tag := g.tag.toNat, segs := [(g.idx.toNat, g.data)], nseg := g.cnt.toNat, kind := g.kind.toNat, role := g.role.toNat }
      (∀ c, reqBad s g = some c → exec (.segmentReceive src g) s = .next (fleetReply s k c [])) ∧
      (reqBad s g = none → Gives (.segmentReceive src g) s (fun t => t.flr.kept.getLast? = some k ∧ OnlyParts [.flr] s t))) ∧
    (isMember s = true → g.dest.toNat = s.modNum → g.rsp = true → g.code.toNat ∉ codeTable ∨ s.present src = false ∨
      s.flr.inflight.find? (fun t => t.tag == g.tag.toNat && t.dest == src.val) = none → Idle (.segmentReceive src g) s) ∧
    (isMember s = true → g.dest.toNat = s.modNum → g.rsp = true → g.code.toNat ∈ codeTable → s.present src = true →
      ∀ t, s.flr.inflight.find? (fun t => t.tag == g.tag.toNat && t.dest == src.val) = some t →
        let t' : FTxn := { t with rsp := smPut [] t.rsp g.idx.toNat g.data, nseg := g.cnt.toNat }
        let held := contiguous (if g.data.isEmpty then [(g.idx.toNat, [])] else t'.rsp) g.cnt.toNat
        (g.cnt.toNat ≤ held → ∃ s', OnlyParts [.flr] s s' ∧ exec (.segmentReceive src g) s = .next (txnEnd s' t' g.code.toNat (segJoin t'.rsp))) ∧
        (held < g.cnt.toNat → Gives (.segmentReceive src g) s (fun u => t' ∈ u.flr.inflight ∧ OnlyParts [.flr] s u)))) ∧
  (∀ (s : State) (k : FKept) (code : Nat) (rsp : List Byte), ∃ x : FKept, (fleetReply s k code rsp).flr.kept.getLast? = some x ∧
    x.src = k.src ∧ x.tag = k.tag ∧ x.done = true ∧ x.code = code ∧ x.rsp = rsp ∧ x.till = s.clk.cyc + 10 * cycS ∧
    (fleetReply s k code rsp).flr.recs = s.flr.recs ++ rspRecs x ∧ OnlyParts [.flr] s (fleetReply s k code rsp)) ∧
  (∀ (src : Fin 64) (tag : Byte) (s : State),
    let none_ := fun (kind : Nat) => fleetReqOf s src tag.toNat kind = none
    (none_ 0x01 → Idle (.fleetPing src tag) s) ∧ (none_ 0x02 → Idle (.roleQuery src tag) s) ∧ (none_ 0x10 → Idle (.fleetRegRead src tag) s) ∧
    (none_ 0x11 → Idle (.fleetRegWrite src tag) s) ∧ (none_ 0x12 → Idle (.fleetLogRead src tag) s) ∧
    (∀ c r, none_ 0x20 → Idle (.fleetMsg src tag c r) s) ∧ (∀ c, none_ 0x30 → Idle (.fleetUnload src tag c) s) ∧
    (none_ 0x40 → Idle (.fleetUpdBlock src tag) s) ∧ (∀ p, none_ 0x50 → Idle (.vhpFwdInner src tag p) s)) ∧
  (∀ (src : Fin 64) (tag : Byte) (s : State) (k : FKept) (p : List Byte),
    let whole := fun (kind : Nat) => fleetReqOf s src tag.toNat kind = some (k, p)
    let ans := fun (c : Instr) (t : State) (code : Nat) (rsp : List Byte) => exec c s = .next (fleetReply t k code rsp)
    let a := num p 0 4
    let n := num p 4 4
    (whole 0x01 → (p.length ≤ 64 → ans (.fleetPing src tag) s Code.ok p) ∧ (64 < p.length → ans (.fleetPing src tag) s Code.badArgument [])) ∧
    (whole 0x02 → (s.linkSt ≠ flCoord → ans (.roleQuery src tag) s Code.refused []) ∧
      (s.linkSt = flCoord → ans (.roleQuery src tag) s Code.ok
        (((roleHolders s (num p 0 1)).take 16).flatMap (fun x => leBytes 1 x.1 ++ leBytes 1 0 ++ leBytes 2 x.2)))) ∧
    (whole 0x10 → (rangeCode a n 64 ≠ Code.ok → ans (.fleetRegRead src tag) s (rangeCode a n 64) []) ∧
      (rangeCode a n 64 = Code.ok → memberCount s < 16 ∨ (wordAddrs a n).any (fun x => winBit x == 6) = false →
        ans (.fleetRegRead src tag) (busReads s 0x0E a n).2 Code.ok (wordsBytes (busReads s 0x0E a n).1)) ∧
      (rangeCode a n 64 = Code.ok → 16 ≤ memberCount s → (wordAddrs a n).any (fun x => winBit x == 6) = true →
        ans (.fleetRegRead src tag) s Code.refused [])) ∧
    (whole 0x11 → (rangeCode a n 64 ≠ Code.ok → ans (.fleetRegWrite src tag) s (rangeCode a n 64) []) ∧
      (rangeCode a n 64 = Code.ok → p.length ≠ 8 + 4 * n → ans (.fleetRegWrite src tag) s Code.badArgument []) ∧
      (rangeCode a n 64 = Code.ok → p.length = 8 + 4 * n →
        (driverless s.mode = true ∨ (∃ x ∈ wordAddrs a n, winBit x = 10 ∨ winBit x = 17 ∨ bit (s.reg Ra.FLR_REG_WIN).toNat (winBit x) = false) →
          ans (.fleetRegWrite src tag) s Code.refused []) ∧
        (driverless s.mode = false → (∀ x ∈ wordAddrs a n, winBit x ≠ 10 ∧ winBit x ≠ 17 ∧ bit (s.reg Ra.FLR_REG_WIN).toNat (winBit x) = true) →
          ans (.fleetRegWrite src tag) (busWrites s 0x0E a ((List.range n).map (fun k => BitVec.ofNat 32 (num p (8 + 4 * k) 4)))) Code.ok []))) ∧
    (whole 0x12 → ans (.fleetLogRead src tag) s (logRead s p).1 (logRead s p).2) ∧
    (∀ (c : Half) (r : List Byte), whole 0x20 → ans (.fleetMsg src tag c r) s
      (if c.toNat ∈ codeTable then c.toNat else Code.badArgument) (r.take 4096)) ∧
    (∀ c : Half, whole 0x30 → ans (.fleetUnload src tag c) s (if c.toNat ∈ codeTable then c.toNat else Code.badArgument) []) ∧
    (whole 0x40 → (p.length = 4116 → ans (.fleetUpdBlock src tag) (updAnswer s p).1 (updAnswer s p).2.1 ((updAnswer s p).2.2.flatMap (leBytes 4))) ∧
      (p.length ≠ 4116 → ans (.fleetUpdBlock src tag) s Code.badArgument [])) ∧
    (∀ part : List Byte, whole 0x50 →
      let c := Instr.vhpFwdInner src tag part
      let q := p.drop 4
      (num p 0 2 = 0x22 → exec c s = .next (if num q 0 1 = 0 then appReset (fleetReply s k Code.ok (innerRsp Code.ok [])) Fd.PWR_RST_CAUSE_APP_REQ
        else fullReset (fleetReply s k Code.ok (innerRsp Code.ok [])) 5 true)) ∧
      (num p 0 2 = 0x50 → ans c s Code.ok (innerRsp Code.ok part)) ∧
      (num p 0 2 ∉ [0x20, 0x21, 0x22] → ans c (innerServe s (num p 0 2) q part).1 Code.ok
        (innerRsp (innerServe s (num p 0 2) q part).2.1 (innerServe s (num p 0 2) q part).2.2)) ∧
      (num p 0 2 = 0x21 →
        let t := modeRequest s (BitVec.ofNat 32 (0x40 + num q 0 1 % 16))
        (k.code ≠ innerSubmitted → (s.flag Fd.SYS_MODE_STAT_PENDING = false → exec c s = .next (keepReq t { k with code := innerSubmitted })) ∧
          (s.flag Fd.SYS_MODE_STAT_PENDING = true → ans c t Code.ok (innerRsp Code.refused []))) ∧
        (k.code = innerSubmitted → (s.pm.deferred = true → ans c s Code.ok (innerRsp Code.deferred [])) ∧
          (s.pm.deferred = false → s.flag Fd.SYS_MODE_STAT_PENDING = true → Idle c s) ∧
          (s.pm.deferred = false → s.flag Fd.SYS_MODE_STAT_PENDING = false → ans c s Code.ok (innerRsp (s.fld Fd.SYS_MODE_STAT_RESULT) [])))) ∧
      (num p 0 2 = 0x20 →
        let e := num q 0 1 % 64
        let ws := (List.range ((q.length - 4) / 4)).map (fun i => BitVec.ofNat 32 (num q (4 + 4 * i) 4))
        let bad := s.flag (Fd.MBX_EP_CFG_TXL e) = true ∨ s.fld (Fd.MBX_EP_CFG_TX e) ≠ 0x3F ∨ s.fld (Fd.MBX_EP_STAT_STATE e) = epFull
        (k.code ≠ innerSubmitted → (bad → ans c s Code.ok (innerRsp Code.refused [])) ∧
          (¬ bad → 16 < ws.length → ans c s Code.ok (innerRsp Code.badArgument [])) ∧
          (¬ bad → ws.length ≤ 16 → exec c s = .next (keepReq (vhpPost s e ws) { k with code := innerSubmitted }))) ∧
        (k.code = innerSubmitted → (s.flag (Fd.MBX_EP_SEND_STAT_PENDING e) = true → Idle c s) ∧
          (s.flag (Fd.MBX_EP_SEND_STAT_PENDING e) = false → ans c s Code.ok (innerRsp (s.fld (Fd.MBX_EP_SEND_STAT_CODE e)) []))))))

/-! ### The event recorder, the Tabroth recorder and replay (R492–R517) -/

/-- The recorders and replay (R494, R495, R497, R498, R501, R502, R506, R507, R509–R511, R513, R517). Records close, storms are summed up, application
events and counters are recorded; a clear token clears or is denied; a Loupe window latches the record at its cursor; segments open, take checkpoints,
write blocks and end with their reason; holds are released and frame windows end; a replay is loaded and ends at a frame boundary. -/
def Obligations.Recorders : Prop :=
  (∀ s : State, exec .recordClose s = .next (s.setEvr { s.evr with
    openRecs := s.evr.openRecs.filter (fun o => decide (s.fld Fd.EVR_OPTIME_V < o.last + s.fld Fd.EVR_CFG_REP_WIN)) })) ∧
  (∀ s : State, s.canonical →
    (s.evr.stormSec = s.fld Fd.EVR_OPTIME_V → Idle .storm s) ∧
    (s.evr.stormSec ≠ s.fld Fd.EVR_OPTIME_V → Gives .storm s (fun t => t.evr.stormHeld = [] ∧ t.evr.stormCnt = [] ∧
      t.evr.stormSec = s.fld Fd.EVR_OPTIME_V ∧ t.fld Fd.EVR_NEXT_SEQ = (s.fld Fd.EVR_NEXT_SEQ + s.evr.stormHeld.length) % 2 ^ 32 ∧
      OnlyParts [.regs, .evr, .tab, .rpl] s t))) ∧
  (∀ (core : Fin 4) (s : State), s.canonical →
    let c := s.fld Fd.EVR_APP_CODE_CODE
    let d0 := (s.reg Ra.EVR_APP_D0).toNat
    let d1 := (s.reg Ra.EVR_APP_D1).toNat
    (c < 0x0180 ∨ 0x01FF < c → exec (.evrAppGo core) s = .next (s.setFld Fd.EVR_STAT_CODE Code.badArgument)) ∧
    (0x0180 ≤ c → c ≤ 0x01FF → Gives (.evrAppGo core) s (fun t => t.fld Fd.EVR_STAT_CODE = Code.ok ∧
      (∀ o, openFor s c core d0 d1 = some o → (t.logAt o.seq).rept = satU 16 ((s.logAt o.seq).rept + 1) ∧ t.reg Ra.EVR_NEXT = s.reg Ra.EVR_NEXT) ∧
      (openFor s c core d0 d1 = none → s.evr.stormSec = s.fld Fd.EVR_OPTIME_V →
        (smGet 0 s.evr.stormCnt c < max 1 (s.fld Fd.EVR_CFG_STORM_LIM) →
          t.logAt (s.fld Fd.EVR_NEXT_SEQ) = newRecord s c core d0 d1 ∧ t.fld Fd.EVR_NEXT_SEQ = (s.fld Fd.EVR_NEXT_SEQ + 1) % 2 ^ 32) ∧
        (max 1 (s.fld Fd.EVR_CFG_STORM_LIM) ≤ smGet 0 s.evr.stormCnt c → t.evr.log = s.evr.log ∧
          smGet 0 t.evr.stormHeld c = smGet 0 s.evr.stormHeld c + 1)) ∧
      OnlyParts [.regs, .evr, .tab, .rpl] s t))) ∧
  (∀ s : State,
    (s.evr.commitAt + 60 ≤ s.fld Fd.EVR_OPTIME_V → exec .counterCommit s = .next (s.setEvr { s.evr with
      committed := counters s
      histosC := s.evr.histos
      commitAt := s.fld Fd.EVR_OPTIME_V })) ∧
    (s.fld Fd.EVR_OPTIME_V < s.evr.commitAt + 60 → Idle .counterCommit s)) ∧
  (∀ (init : Fin 58) (s : State), s.canonical → Gives (.evrNonceRead init) s (fun t =>
    t.evr = { s.evr with
      nonce := some ((t.reg Ra.EVR_NONCE_LO).toNat + (t.reg Ra.EVR_NONCE_HI).toNat * 2 ^ 32)
      nonceCyc := s.clk.cyc } ∧ t.freeCtr = s.freeCtr + 2 ∧
    (smGet none s.fab.hiLatch (latchKey init Ra.EVR_NONCE_LO) = none → smGet 0 t.fab.rdata init = t.reg Ra.EVR_NONCE_LO) ∧
    smGet none t.fab.hiLatch (latchKey init Ra.EVR_NONCE_HI) = some (t.reg Ra.EVR_NONCE_HI) ∧
    OnlyRegs [Ra.EVR_NONCE_LO, Ra.EVR_NONCE_HI] s t ∧ OnlyParts [.regs, .fab, .evr, .freeCtr] s t)) ∧
  (∀ s : State, s.canonical →
    let tok := (fetchIova s storeInit (s.reg64 Ra.EVR_CLR_LO Ra.EVR_CLR_HI) 128).1
    let nonce := fun (b : List Byte) => if clearNonce s b then none else s.evr.nonce
    let denied := fun (code : Nat) (n : Option Nat) => Gives .logClear s (fun t => t.fld Fd.EVR_CLR_STAT_CODE = code ∧ t.evr.nonce = n ∧
      t.evr.histos = s.evr.histos ∧ OnlyParts [.regs, .evr, .tab, .rpl] s t)
    (tok = none → denied Code.refused s.evr.nonce) ∧
    (∀ b, tok = some b →
      (clearForm b = false → denied Code.badArgument s.evr.nonce) ∧
      (clearForm b = true → clearOk s b = false → denied Code.refused (nonce b)) ∧
      (clearForm b = true → clearOk s b = true → Gives .logClear s (fun t => t.fld Fd.EVR_CLR_STAT_CODE = Code.ok ∧ t.evr.nonce = none ∧
        t.fld Fd.EVR_CLR_STAT_ACCEPTED = satU 16 (s.fld Fd.EVR_CLR_STAT_ACCEPTED + 1) ∧
        (bit (num b 0x10 4) 0 = true → ∀ q, (t.logAt q).valid = true → (t.logAt q).code = Ev.logClear ∧ (t.logAt q).seq = s.fld Fd.EVR_NEXT_SEQ) ∧
        (bit (num b 0x10 4) 1 = true → ∀ y ∈ t.evr.histos, y.2.bins = [] ∧ y.2.any = false) ∧
        (bit (num b 0x10 4) 1 = false → t.evr.histos = s.evr.histos) ∧ OnlyParts [.regs, .evr, .tab, .rpl] s t)))) ∧
  (∀ (init : Fin 58) (w : Fin 4) (s : State), s.canonical →
    let c := s.fld (Fd.EVR_LOUPE_CUR_V w)
    let latches := fun (st : Nat) (ws : List Word) (skip : Nat) => Gives (.loupeLatch init w) s (fun t =>
      t.fld (Fd.EVR_LOUPE_CTL_STATE w) = st ∧ (∀ k, k < 8 → t.reg (Ra.EVR_LOUPE_DATA w k) = ws.getD k 0) ∧
      t.fld (Fd.EVR_LOUPE_CTL_SKIPPED w) = satU 16 (s.fld (Fd.EVR_LOUPE_CTL_SKIPPED w) + skip) ∧
      t.fld (Fd.EVR_LOUPE_CUR_V w) = (c + skip) % 2 ^ 32 ∧
      (smGet none s.fab.hiLatch (latchKey init (Ra.EVR_LOUPE_DATA w 0)) = none → smGet 0 t.fab.rdata init = ws.getD 0 0) ∧
      OnlyParts [.regs, .fab] s t)
    (nextPresent s c = none → latches 2 [] 0) ∧
    (∀ r, nextPresent s c = some r → (r.seq = c → latches 0 (evWords r) 0) ∧
      (r.seq ≠ c → latches 1 (evWords r) ((r.seq + 2 ^ 32 - c) % 2 ^ 32))) ∧
    exec (.loupeNext w) s = .next (s.setFld (Fd.EVR_LOUPE_CUR_V w) (c + 1))) ∧
  (∀ s : State, s.canonical →
    let due := s.tab.segOpen = true ∧ s.framePend = true ∧ ckptInt s ≤ s.tab.ckptFrames ∧ s.rpl.live = none
    (due → Gives .checkpoint s (fun t => t.tab.ckptFrames = 0 ∧ t.tab.segOpen = true ∧
      (∃ c, t.rpl.ckpts = s.rpl.ckpts ++ [c] ∧ c.seg = s.fld Fd.TAB_SEG_V ∧ c.num = ckptNext s ∧ c.bnd = bndOf s) ∧
      OnlyParts [.regs, .tab, .rpl] s t)) ∧
    (¬ due → Idle .checkpoint s) ∧
    (segMayOpen s = true → Gives .tabSegmentOpen s (fun t => t.tab.segOpen = true ∧ t.tab.wantOpen = none ∧ t.flag Fd.TAB_STAT_RECORDING = true ∧
      t.fld Fd.TAB_SEG_V = (s.fld Fd.TAB_SEG_V + 1) % 2 ^ 32 ∧
      (∃ c, t.rpl.ckpts = s.rpl.ckpts ++ [c] ∧ c.seg = t.fld Fd.TAB_SEG_V ∧ c.num = 0 ∧ c.bnd.tick = s.clk.tick) ∧ OnlyParts [.regs, .tab, .rpl] s t)) ∧
    (segMayOpen s = false → Idle .tabSegmentOpen s)) ∧
  (∀ s : State, s.canonical →
    let ends := fun (c : Instr) (why errs : Nat) => Gives c s (fun t => t.tab.segOpen = false ∧
      (s.tab.segOpen = true → t.tab.wantOpen = some why ∧ t.fld Fd.TAB_STAT_GAP = why ∧ t.flag Fd.TAB_STAT_RECORDING = false) ∧
      t.fld Fd.TAB_UFS_ERR_V = satU 32 (s.fld Fd.TAB_UFS_ERR_V + errs) ∧ OnlyParts [.regs, .evr, .tab, .rpl] s t)
    let waits := blockReady s = false ∨ blockLimit ≤ (blocksLast s).length
    let l := takeBytes (65504 - s.tab.carry.length) (nextRecs s)
    let bytes := s.tab.carry ++ l.flatMap recBytes
    ends (.tabGap 6) 6 1 ∧ (tabBufSize ≤ s.tab.bufBytes → ends (.tabGap 1) 1 0) ∧
    (∀ k : Fin 8, k.val ≠ 6 → k.val ≠ 1 ∨ s.tab.bufBytes < tabBufSize → Idle (.tabGap k) s) ∧
    (∀ ok, waits → Idle (.tabBlockWrite ok) s) ∧ (¬ waits → ends (.tabBlockWrite false) 6 1) ∧
    (¬ waits → Gives (.tabBlockWrite true) s (fun t => t.tab.buf = s.tab.buf.drop l.length ∧ t.tab.carry = bytes.drop (min 65504 bytes.length) ∧
      t.tab.blocks = s.tab.blocks + 1 ∧ t.tab.blkSeg = nextSeg s ∧
      t.tab.bufBytes = s.tab.bufBytes - min 65504 bytes.length ∧ t.tab.segOpen = s.tab.segOpen ∧
      (heldBlocks t.tab.holds + 1 < ringBlocks → (smGet {} t.tab.ring s.tab.blocks).seg = nextSeg s ∧ (smGet {} t.tab.ring s.tab.blocks).recs = l) ∧
      t.reg Ra.TAB_RING_WR = BitVec.ofNat 32 ((s.tab.blocks + 1) % ringBlocks) ∧
      t.fld Fd.TAB_BLOCKS_V = satU 32 (s.fld Fd.TAB_BLOCKS_V + 1) ∧ OnlyParts [.regs, .tab] s t)) ∧
    (∀ h : Fin 4, Gives (.holdRelease h) s (fun t => t.tab = { s.tab with holds := s.tab.holds.filter (fun x => x.1 != h.val) } ∧
      t.reg (Ra.TAB_HOLD_FIRST h) = 0 ∧ t.reg (Ra.TAB_HOLD_LAST h) = 0 ∧
      OnlyRegs [Ra.TAB_HOLD_FIRST h, Ra.TAB_HOLD_LAST h] s t ∧ OnlyParts [.regs, .tab] s t)) ∧
    (∀ off, s.tab.window = none → Idle (.frameWindow off) s) ∧
    (∀ w (off : Fin 8192), s.tab.window = some w →
      let ended := w.scanned = true ∧ w.todo = [] ∧ w.toDt ≤ s.dtSub off
      (¬ ended → Idle (.frameWindow off) s) ∧
      (ended → Gives (.frameWindow off) s (fun t => t.reg Ra.TAB_WIN_MISSING = BitVec.ofNat 32 w.missing ∧
        ((∀ k, k < 8 → s.flag (Fd.TAB_TRIG_FW k) = false) → t.tab.window = none ∧ t.fld Fd.TAB_WIN_STAT_V = 0) ∧
        OnlyParts [.regs, .evr, .tab, .rpl] s t)))) ∧
  (∀ s : State, s.canonical →
    (s.rpl.live = none ∨ s.rpl.loaded = true ∨ s.framePend = false → Idle .replayLoaded s) ∧
    (∀ b, s.rpl.live = some b → s.rpl.loaded = false → s.framePend = true → ∃ s1,
      exec .replayLoaded s = .next ((s.rpl.recs.filter (fun r => decide (r.tick ≤ s.rpl.startAt))).foldl deliverRec s1) ∧
      s1.rpl = { s.rpl with loaded := true } ∧ s1.fld Fd.TAB_RPL_CTL_STATE = 2 ∧
      s1.clk = { s.clk with tick := s.rpl.startAt, frameAt := some s.rpl.startAt } ∧
      s1.reg64 Ra.TAB_RPL_TICK_LO Ra.TAB_RPL_TICK_HI = s.rpl.startAt % 2 ^ 64 ∧
      s1.fld Fd.TAB_LOAD_TIME_V = (s.clk.cyc - b.cyc) / cycMs % 2 ^ 32 ∧ OnlyParts [.regs, .clk, .rpl] s s1) ∧
    (s.rpl.live = none → Idle .replayStop s ∧ Idle .replayEnd s) ∧
    (s.rpl.live ≠ none → exec .replayStop s = .next (s.setRpl { s.rpl with endBy := some (s.rpl.endBy.getD 2) })) ∧
    (s.framePend = false ∨ (s.locked = false ∧ s.rpl.endBy = none) → Idle .replayEnd s) ∧
    (∀ n : Word, n ≠ 0 → s.rpl.live ≠ none → (showMeas s (BitVec.ofNat 32 Ra.TAB_UFS_ERR, n)).rpl = { s.rpl with endBy := some (s.rpl.endBy.getD 3) }) ∧
    (∀ b, s.framePend = true → s.rpl.live = some b → s.locked = true ∨ s.rpl.endBy ≠ none →
      Gives .replayEnd s (fun t => t.rpl.live = none ∧ t.rpl.loaded = false ∧ t.rpl.recs = [] ∧ t.fld Fd.TAB_RPL_CTL_STATE = 3 ∧
        t.clk.tick = s.rpl.liveTick ∧ t.mode = (if s.locked then Mode.safeStop else Mode.service))))

/-! ### Updates, calibration and security (R518–R540) -/

/-- Updates, calibration and tokens (R525–R528, R531, R532, R534, R535, R539, R540). A block message is checked, counted and staged; the parts read back make
the package VERIFIED or clear the bad parts; the copy and the activation follow the Aperture; a trial is confirmed, rejected or expires; a calibration record
is checked in order and committed; a token does what its KIND says once; the debug port shows its minutes and closes by command and by its time. -/
def Obligations.Updates : Prop :=
  (∀ s : State, s.canonical →
    let msg := fetchIova s storeInit (s.reg64 Ra.UPD_BLK_LO Ra.UPD_BLK_HI) 4116
    let s' := msg.2
    let cnt := fun (c : Nat) => smPut 0 s.upd.cnt (UpdCnt.block c) (smGet 0 s.upd.cnt (UpdCnt.block c) + 1)
    let shows := fun (c : Nat) => exec .updateBlock s = .next ((updCode s' c).updCount (UpdCnt.block c))
    OnlyRegs xferRegs s s' ∧ OnlyParts [.regs] s s' ∧
    (msg.1 = none → shows Code.fault) ∧
    (∀ b, msg.1 = some b →
      let crcOk := crc32c (b.take 0x1010) = BitVec.ofNat 32 (num b 0x1010 4)
      let part := num b 8 1
      let blk := num b 0xC 4
      let body := (b.drop 0x10).take 4096
      (¬ crcOk → shows Code.badArgument) ∧
      (crcOk → part = 0xFF →
        (manifestCode s' body ≠ Code.ok → shows (manifestCode s' body)) ∧
        (manifestCode s' body = Code.ok → Gives .updateBlock s (fun t => t.fld Fd.UPD_CODE_CODE = Code.ok ∧
          (s.upd.man = none → t.upd = { s.upd with man := some (manifestOf body), staged := [], cnt := cnt Code.ok } ∧ t.fld Fd.UPD_RX_V = 0 ∧
            t.updState = (if s.updState = Upd.trial then Upd.trial else Upd.receiving)) ∧
          (s.upd.man ≠ none → t.upd = { s.upd with cnt := cnt Code.ok } ∧ t.updState = s.updState) ∧ OnlyParts [.regs, .evr, .tab, .rpl, .upd] s t))) ∧
      (crcOk → part ≠ 0xFF →
        let c := blockCode s' (num b 0 8) part blk
        let st := smPut [] s.upd.staged (stageKey part blk) body
        let full := s.upd.man.any (fun m => st.length == m.total)
        (c ≠ Code.ok → shows c) ∧
        (c = Code.ok → staged s part blk = true → Gives .updateBlock s (fun t => t.fld Fd.UPD_CODE_CODE = Code.ok ∧
          t.upd = { s.upd with cnt := cnt Code.ok } ∧ t.reg Ra.UPD_BLK_BMP = BitVec.ofNat 32 (bitmapWord t part (blk / 32)) ∧
          OnlyRegs ([Ra.UPD_CODE, Ra.UPD_BLK_BMP] ++ xferRegs) s t ∧ OnlyParts [.regs, .upd] s t)) ∧
        (c = Code.ok → staged s part blk = false → Gives .updateBlock s (fun t => t.fld Fd.UPD_CODE_CODE = Code.ok ∧
          t.upd = { s.upd with staged := st, opAt := if full then some s.clk.cyc else s.upd.opAt, cnt := cnt Code.ok } ∧
          t.fld Fd.UPD_RX_V = st.length % 2 ^ 32 ∧ t.updState = (if full then Upd.verifying else s.updState) ∧
          t.reg Ra.UPD_BLK_BMP = BitVec.ofNat 32 (bitmapWord t part (blk / 32)) ∧
          OnlyRegs ([Ra.UPD_CODE, Ra.UPD_BLK_BMP, Ra.UPD_RX, Ra.UPD_STAT] ++ xferRegs) s t ∧ OnlyParts [.regs, .upd] s t))))) ∧
  (∀ s : State, s.canonical →
    (s.upd.man = none ∨ s.updState ≠ Upd.verifying → Idle .updVerifyEnd s) ∧
    (∀ m, s.upd.man = some m → s.updState = Upd.verifying → (∀ p ∈ m.parts, p.nblocks ≤ 2 ^ 22) →
      let bad := fun (k : Nat) => match m.parts[k]? with
        | some p => decide (sha256 (stagedBytes s k p) ≠ p.sha)
        | none => false
      let st := s.upd.staged.filter (fun x => !bad (x.1 / 2 ^ 22))
      Gives .updVerifyEnd s (fun t => t.upd.staged = st ∧ t.upd.man = some m ∧ t.upd.opAt = none ∧ t.fld Fd.UPD_RX_V = st.length % 2 ^ 32 ∧
        t.updState = (if st.length = m.total then Upd.verified else Upd.receiving) ∧
        ((∀ k, bad k = false) → t.upd = { s.upd with opAt := none }) ∧ OnlyParts [.regs, .evr, .tab, .rpl, .upd] s t))) ∧
  (∀ s : State, s.canonical →
    let locked := s.updState = Upd.activating ∨ s.updState = Upd.trial
    (locked → exec .updAbandonCmd s = .next (updCode s Code.refused)) ∧
    (¬ locked → Gives .updAbandonCmd s (fun t => t.upd = { s.upd with man := none, staged := [] } ∧ t.updState = Upd.idle ∧ t.fld Fd.UPD_RX_V = 0 ∧
      t.fld Fd.UPD_CODE_CODE = Code.ok ∧ OnlyParts [.regs, .upd] s t)) ∧
    (inTrial s = true → healthBits s = 31 → Gives .updConfirm s (fun t => t.flag Fd.UPD_STAT_TRIAL = false ∧ t.fld Fd.UPD_STAT_ATTEMPTS = 0 ∧
      t.setNo = s.setNo ∧ t.updState = Upd.idle ∧ t.upd = { s.upd with man := none, staged := [], safTrial := false } ∧ t.fld Fd.UPD_CODE_CODE = Code.ok ∧
      (∀ m, s.upd.man = some m → m.fence = true → t.reg Ra.UPD_FENCE = BitVec.ofNat 32 (max (s.reg Ra.UPD_FENCE).toNat m.svn)) ∧
      t.ce = { s.ce with stNew := false, stOld := [], stOldIn := [], stOldOut := [] } ∧
      t.flag Fd.UPD_STAT_SAF_PENDING = !s.curSet.safNext.isEmpty ∧ t.flag Fd.SYS_MODE_STAT_PENDING = true ∧
      (s.flag Fd.SYS_MODE_STAT_PENDING = false → t.fld Fd.SYS_MODE_STAT_TARGET = Mode.road) ∧ OnlyParts [.regs, .ce, .evr, .tab, .rpl, .upd] s t)) ∧
    (inTrial s = false ∨ healthBits s ≠ 31 → exec .updConfirm s = .next (updCode (healthShow s) Code.refused)) ∧
    (inTrial s = true → exec .updReject s = .next (warmReset (fallBack (updCode s Code.ok) 4) 5 true)) ∧
    (inTrial s = false → exec .updReject s = .next (updCode s Code.refused)) ∧
    let expired := inTrial s = true ∧ s.reg Ra.UPD_TRIAL_S = 0 ∧ s.noPf = true
    (expired → exec .trialExpiry s = .next (warmReset (fallBack s 1) 5 true)) ∧ (¬ expired → Idle .trialExpiry s)) ∧
  (∀ s : State,
    (s.upd.man = none ∨ s.updState ≠ Upd.activating ∨ s.upd.actStep ≠ 2 → Idle .activationCopyDone s) ∧
    (∀ m, s.upd.man = some m → s.updState = Upd.activating → s.upd.actStep = 2 →
      let copied := ((List.range m.parts.length).zip m.parts).foldl (fun a x => copyPart a s.curSet m x) s
      OnlyParts [.upd] s copied ∧ copied.upd.staged = s.upd.staged ∧ copied.upd.cal = s.upd.cal ∧ copied.upd.keys = s.upd.keys ∧
      (m.parts.all (copiedOk copied (setOfPackage s m)) = true → Gives .activationCopyDone s (fun t => OnlyParts [.upd] s t ∧
        t.upd = { copied.upd with sets := s.upd.sets.set (1 - s.setNo) (setOfPackage s m), actStep := 4, opAt := none })) ∧
      (m.parts.all (copiedOk copied (setOfPackage s m)) = false → exec .activationCopyDone s = .next copied)) ∧
    let ready := s.updState = Upd.activating ∧ s.upd.actStep = 4 ∧ s.framePend = true ∧ s.noPf = true ∧ apertureBits s = 0
    (ready → exec .updActivate s = .next (warmReset (logEvent ((pointer s (1 - s.setNo) true).setFld Fd.UPD_STAT_ATTEMPTS 0) Ev.updActivate Src.unit
      ((s.setRec (1 - s.setNo)).pkg % 2 ^ 32) (1 - s.setNo)) 6 true)) ∧
    (¬ ready → Idle .updActivate s)) ∧
  (∀ s : State, s.canonical →
    let a := s.reg64 Ra.UPD_CAL_LO Ra.UPD_CAL_HI
    let size := fun (h : List Byte) => 0x20 + num h 8 2 + (if num h 0x18 4 = 0 then 0 else 64) + 4
    let head := fetchIova s storeInit a 0x20
    (head.1 = none → exec .calibrationWrite s = .next (calShow head.2 Code.fault 0 0)) ∧
    (∀ h, head.1 = some h →
      let whole := fetchIova head.2 storeInit a (size h)
      let s' := whole.2
      (whole.1 = none → exec .calibrationWrite s = .next (calShow s' Code.fault 0 0)) ∧
      (∀ b, whole.1 = some b →
        let set := num b 0 1
        let r := num b 2 2
        let refuses := fun (code : Nat) => Gives .calibrationWrite s (fun t => t.fld Fd.UPD_CAL_STAT_CODE = code ∧ t.fld Fd.UPD_CAL_STAT_SET = set ∧
          OnlyParts [.regs, .evr, .tab, .rpl] s t)
        (calCode s' b ≠ Code.ok → refuses (calCode s' b)) ∧
        (calForm s' b = false → refuses Code.badArgument) ∧
        (calForm s' b = true → calSigned s' b = false ∨ calAccepts s' set = false → refuses Code.refused) ∧
        (calCode s' b = Code.ok → Gives .calibrationWrite s (fun t => t.fld Fd.UPD_CAL_STAT_CODE = Code.ok ∧ t.fld Fd.UPD_CAL_STAT_SET = set ∧
          (∃ x, t.upd = { s.upd with cal := x :: s.upd.cal.filter (fun y => !(y.set == set && y.rec_ == r)) } ∧ x.set = set ∧ x.rec_ = r ∧
            x.ofs = num b 4 4 ∧ x.data = (b.drop 0x20).take (num b 8 2) ∧ x.src = (if num b 0x18 4 = 0 then 2 else 1) ∧ x.key = num b 0x18 4 ∧
            x.dt = s.dtNs ∧ x.wcnt = (((s.upd.cal.find? (fun y => y.set == set && y.rec_ == r)).map (·.wcnt)).getD 0 + 1) % 2 ^ 32 ∧
            t.reg Ra.UPD_CAL_WCNT = BitVec.ofNat 32 x.wcnt) ∧
          (set = 5 → t.steer.calNext = some (steerCal t)) ∧ (set = 6 → t.saf.cfgP = some (safCfgOf t)) ∧
          (loopSet set = true → ∃ l, t.mfp = { s.mfp with cal := s.mfp.cal ++ l } ∧ ∀ k ∈ calLoops s set, ∃ w, (k, calPlace set, w) ∈ l) ∧
          OnlyParts [.regs, .mfp, .steer, .saf, .evr, .tab, .rpl, .upd] s t))))) ∧
  (∀ (init : Fin 58) (s : State), s.canonical → Gives (.updNonceRead init) s (fun t =>
    t.upd = { s.upd with nonce := some ((t.reg Ra.UPD_NONCE_LO).toNat + (t.reg Ra.UPD_NONCE_HI).toNat * 2 ^ 32, s.clk.cyc) } ∧
    t.freeCtr = s.freeCtr + 2 ∧
    (smGet none s.fab.hiLatch (latchKey init Ra.UPD_NONCE_LO) = none → smGet 0 t.fab.rdata init = t.reg Ra.UPD_NONCE_LO) ∧
    smGet none t.fab.hiLatch (latchKey init Ra.UPD_NONCE_HI) = some (t.reg Ra.UPD_NONCE_HI) ∧
    OnlyRegs [Ra.UPD_NONCE_LO, Ra.UPD_NONCE_HI] s t ∧ OnlyParts [.regs, .fab, .upd, .freeCtr] s t)) ∧
  (∀ s : State, s.canonical →
    let kinds : List (Nat × Instr) := [(1, .ownerFlags), (2, .setKey), (3, .removeKey), (4, .newOwnerKey), (5, .debugUnlock)]
    let s' := (tokAt s).2
    (∀ x ∈ kinds,
      ((tokAt s).1 = none → Idle x.2 s) ∧ (∀ b, (tokAt s).1 = some b →
        (tokKind b ≠ x.1 → Idle x.2 s) ∧
        (tokKind b = x.1 → tokForm b = false → exec x.2 s = .next (s'.setReg Ra.UPD_TOK_STAT (BitVec.ofNat 32 (Code.badArgument * 2 ^ 16)))) ∧
        (tokKind b = x.1 → tokForm b = true → tokOk s' b = false → Gives x.2 s (fun t => t.fld Fd.UPD_TOK_STAT_CODE = Code.refused ∧
          t.upd = { s.upd with nonce := if nonceCurrent s (num b 8 8) then none else s.upd.nonce } ∧ OnlyParts [.regs, .evr, .tab, .rpl, .upd] s t)))) ∧
    (∀ b, (tokAt s).1 = some b → tokForm b = true → tokOk s' b = true →
      let d := tokBody b
      let takes := fun (c : Instr) (P : State → Prop) => Gives c s (fun t => P t ∧ t.fld Fd.UPD_TOK_STAT_CODE = Code.ok ∧ t.upd.nonce = none ∧
        OnlyParts [.regs, .flr, .evr, .tab, .rpl, .upd] s t ∧ (tokKind b ≠ 2 → t.flr = s.flr))
      (tokKind b = 1 → takes .ownerFlags (fun t => t.flag Fd.UPD_STAT_LOCK = bit (num d 0 4) 0 ∧ t.flag Fd.UPD_STAT_DRIVERLESS = bit (num d 0 4) 1 ∧
        t.upd.keys = s.upd.keys)) ∧
      (tokKind b = 2 → takes .setKey (fun t => t.keyPriv (tokType b) (tokIndex b) = num d 4 4 ∧ t.keyOf (tokType b) (tokIndex b) =
        if tokType b = Key.domain then Config.unwrapKey (d.drop 8) else d.drop 8)) ∧
      (tokKind b = 3 → takes .removeKey (fun t => t.keyOf (tokType b) (tokIndex b) = [])) ∧
      (tokKind b = 4 → takes .newOwnerKey (fun t => t.keyOf Key.owner 0 = d)) ∧
      (tokKind b = 5 → takes .debugUnlock (fun t => t.flag Fd.UPD_DBG_STAT_OPEN = true ∧ t.fld Fd.UPD_DBG_STAT_SCOPE = num d 0 2 ∧
        t.fld Fd.UPD_DBG_STAT_MINUTES = num d 2 2 ∧ t.upd.dbgEnd = some (s.clk.cyc + num d 2 2 * 60 * cycS) ∧ t.upd.keys = s.upd.keys)))) ∧
  (∀ s : State, s.canonical →
    let closes := fun (c : Instr) => Gives c s (fun t => t.reg Ra.UPD_DBG_STAT = 0 ∧ t.upd = { s.upd with dbgEnd := none } ∧
      OnlyParts [.regs, .evr, .tab, .rpl, .upd] s t)
    (s.flag Fd.UPD_DBG_STAT_OPEN = true → closes .debugClose) ∧
    (s.flag Fd.UPD_DBG_STAT_OPEN = false → Idle .debugClose s) ∧
    (s.upd.dbgEnd = none → Idle .debugExpiry s) ∧
    (∀ x, s.upd.dbgEnd = some x →
      (s.clk.cyc < x → exec .debugExpiry s = .next (s.setFld Fd.UPD_DBG_STAT_MINUTES ((x - s.clk.cyc + 60 * cycS - 1) / (60 * cycS)))) ∧
      (x ≤ s.clk.cyc → s.flag Fd.UPD_DBG_STAT_OPEN = true → closes .debugExpiry) ∧
      (x ≤ s.clk.cyc → s.flag Fd.UPD_DBG_STAT_OPEN = false → Idle .debugExpiry s)))
end

