-- ==== Sys2Proof/Laws/State.lean ====
section
/-! SUPPORT. One lemma for each part of the state under each update of a part: the part that is set holds the new value, every other part
is as before. -/

namespace Sys2Proof.Machine

@[simp] theorem State.setFab_regs (s : State) (x) : (s.setFab x).regs = s.regs := rfl
@[simp] theorem State.setFab_mem (s : State) (x) : (s.setFab x).mem = s.mem := rfl
@[simp] theorem State.setFab_pub (s : State) (x) : (s.setFab x).pub = s.pub := rfl
@[simp] theorem State.setFab_stage (s : State) (x) : (s.setFab x).stage = s.stage := rfl
@[simp] theorem State.setFab_fab (s : State) (x) : (s.setFab x).fab = x := rfl
@[simp] theorem State.setFab_clk (s : State) (x) : (s.setFab x).clk = s.clk := rfl
@[simp] theorem State.setFab_gw (s : State) (x) : (s.setFab x).gw = s.gw := rfl
@[simp] theorem State.setFab_ce (s : State) (x) : (s.setFab x).ce = s.ce := rfl
@[simp] theorem State.setFab_uin (s : State) (x) : (s.setFab x).uin = s.uin := rfl
@[simp] theorem State.setFab_gov (s : State) (x) : (s.setFab x).gov = s.gov := rfl
@[simp] theorem State.setFab_mfp (s : State) (x) : (s.setFab x).mfp = s.mfp := rfl
@[simp] theorem State.setFab_yld (s : State) (x) : (s.setFab x).yld = s.yld := rfl
@[simp] theorem State.setFab_gns (s : State) (x) : (s.setFab x).gns = s.gns := rfl
@[simp] theorem State.setFab_steer (s : State) (x) : (s.setFab x).steer = s.steer := rfl
@[simp] theorem State.setFab_cam (s : State) (x) : (s.setFab x).cam = s.cam := rfl
@[simp] theorem State.setFab_fus (s : State) (x) : (s.setFab x).fus = s.fus := rfl
@[simp] theorem State.setFab_flr (s : State) (x) : (s.setFab x).flr = s.flr := rfl
@[simp] theorem State.setFab_dma (s : State) (x) : (s.setFab x).dma = s.dma := rfl
@[simp] theorem State.setFab_can (s : State) (x) : (s.setFab x).can = s.can := rfl
@[simp] theorem State.setFab_eth (s : State) (x) : (s.setFab x).eth = s.eth := rfl
@[simp] theorem State.setFab_vhp (s : State) (x) : (s.setFab x).vhp = s.vhp := rfl
@[simp] theorem State.setFab_vlv (s : State) (x) : (s.setFab x).vlv = s.vlv := rfl
@[simp] theorem State.setFab_lsw (s : State) (x) : (s.setFab x).lsw = s.lsw := rfl
@[simp] theorem State.setFab_saf (s : State) (x) : (s.setFab x).saf = s.saf := rfl
@[simp] theorem State.setFab_dsp (s : State) (x) : (s.setFab x).dsp = s.dsp := rfl
@[simp] theorem State.setFab_bst (s : State) (x) : (s.setFab x).bst = s.bst := rfl
@[simp] theorem State.setFab_evr (s : State) (x) : (s.setFab x).evr = s.evr := rfl
@[simp] theorem State.setFab_tab (s : State) (x) : (s.setFab x).tab = s.tab := rfl
@[simp] theorem State.setFab_rpl (s : State) (x) : (s.setFab x).rpl = s.rpl := rfl
@[simp] theorem State.setFab_upd (s : State) (x) : (s.setFab x).upd = s.upd := rfl
@[simp] theorem State.setFab_pm (s : State) (x) : (s.setFab x).pm = s.pm := rfl
@[simp] theorem State.setFab_freeCtr (s : State) (x) : (s.setFab x).freeCtr = s.freeCtr := rfl
@[simp] theorem State.setFab_pending (s : State) (x) : (s.setFab x).pending = s.pending := rfl

@[simp] theorem State.setClk_regs (s : State) (x) : (s.setClk x).regs = s.regs := rfl
@[simp] theorem State.setClk_mem (s : State) (x) : (s.setClk x).mem = s.mem := rfl
@[simp] theorem State.setClk_pub (s : State) (x) : (s.setClk x).pub = s.pub := rfl
@[simp] theorem State.setClk_stage (s : State) (x) : (s.setClk x).stage = s.stage := rfl
@[simp] theorem State.setClk_fab (s : State) (x) : (s.setClk x).fab = s.fab := rfl
@[simp] theorem State.setClk_clk (s : State) (x) : (s.setClk x).clk = x := rfl
@[simp] theorem State.setClk_gw (s : State) (x) : (s.setClk x).gw = s.gw := rfl
@[simp] theorem State.setClk_ce (s : State) (x) : (s.setClk x).ce = s.ce := rfl
@[simp] theorem State.setClk_uin (s : State) (x) : (s.setClk x).uin = s.uin := rfl
@[simp] theorem State.setClk_gov (s : State) (x) : (s.setClk x).gov = s.gov := rfl
@[simp] theorem State.setClk_mfp (s : State) (x) : (s.setClk x).mfp = s.mfp := rfl
@[simp] theorem State.setClk_yld (s : State) (x) : (s.setClk x).yld = s.yld := rfl
@[simp] theorem State.setClk_gns (s : State) (x) : (s.setClk x).gns = s.gns := rfl
@[simp] theorem State.setClk_steer (s : State) (x) : (s.setClk x).steer = s.steer := rfl
@[simp] theorem State.setClk_cam (s : State) (x) : (s.setClk x).cam = s.cam := rfl
@[simp] theorem State.setClk_fus (s : State) (x) : (s.setClk x).fus = s.fus := rfl
@[simp] theorem State.setClk_flr (s : State) (x) : (s.setClk x).flr = s.flr := rfl
@[simp] theorem State.setClk_dma (s : State) (x) : (s.setClk x).dma = s.dma := rfl
@[simp] theorem State.setClk_can (s : State) (x) : (s.setClk x).can = s.can := rfl
@[simp] theorem State.setClk_eth (s : State) (x) : (s.setClk x).eth = s.eth := rfl
@[simp] theorem State.setClk_vhp (s : State) (x) : (s.setClk x).vhp = s.vhp := rfl
@[simp] theorem State.setClk_vlv (s : State) (x) : (s.setClk x).vlv = s.vlv := rfl
@[simp] theorem State.setClk_lsw (s : State) (x) : (s.setClk x).lsw = s.lsw := rfl
@[simp] theorem State.setClk_saf (s : State) (x) : (s.setClk x).saf = s.saf := rfl
@[simp] theorem State.setClk_dsp (s : State) (x) : (s.setClk x).dsp = s.dsp := rfl
@[simp] theorem State.setClk_bst (s : State) (x) : (s.setClk x).bst = s.bst := rfl
@[simp] theorem State.setClk_evr (s : State) (x) : (s.setClk x).evr = s.evr := rfl
@[simp] theorem State.setClk_tab (s : State) (x) : (s.setClk x).tab = s.tab := rfl
@[simp] theorem State.setClk_rpl (s : State) (x) : (s.setClk x).rpl = s.rpl := rfl
@[simp] theorem State.setClk_upd (s : State) (x) : (s.setClk x).upd = s.upd := rfl
@[simp] theorem State.setClk_pm (s : State) (x) : (s.setClk x).pm = s.pm := rfl
@[simp] theorem State.setClk_freeCtr (s : State) (x) : (s.setClk x).freeCtr = s.freeCtr := rfl
@[simp] theorem State.setClk_pending (s : State) (x) : (s.setClk x).pending = s.pending := rfl

@[simp] theorem State.setGw_regs (s : State) (x) : (s.setGw x).regs = s.regs := rfl
@[simp] theorem State.setGw_mem (s : State) (x) : (s.setGw x).mem = s.mem := rfl
@[simp] theorem State.setGw_pub (s : State) (x) : (s.setGw x).pub = s.pub := rfl
@[simp] theorem State.setGw_stage (s : State) (x) : (s.setGw x).stage = s.stage := rfl
@[simp] theorem State.setGw_fab (s : State) (x) : (s.setGw x).fab = s.fab := rfl
@[simp] theorem State.setGw_clk (s : State) (x) : (s.setGw x).clk = s.clk := rfl
@[simp] theorem State.setGw_gw (s : State) (x) : (s.setGw x).gw = x := rfl
@[simp] theorem State.setGw_ce (s : State) (x) : (s.setGw x).ce = s.ce := rfl
@[simp] theorem State.setGw_uin (s : State) (x) : (s.setGw x).uin = s.uin := rfl
@[simp] theorem State.setGw_gov (s : State) (x) : (s.setGw x).gov = s.gov := rfl
@[simp] theorem State.setGw_mfp (s : State) (x) : (s.setGw x).mfp = s.mfp := rfl
@[simp] theorem State.setGw_yld (s : State) (x) : (s.setGw x).yld = s.yld := rfl
@[simp] theorem State.setGw_gns (s : State) (x) : (s.setGw x).gns = s.gns := rfl
@[simp] theorem State.setGw_steer (s : State) (x) : (s.setGw x).steer = s.steer := rfl
@[simp] theorem State.setGw_cam (s : State) (x) : (s.setGw x).cam = s.cam := rfl
@[simp] theorem State.setGw_fus (s : State) (x) : (s.setGw x).fus = s.fus := rfl
@[simp] theorem State.setGw_flr (s : State) (x) : (s.setGw x).flr = s.flr := rfl
@[simp] theorem State.setGw_dma (s : State) (x) : (s.setGw x).dma = s.dma := rfl
@[simp] theorem State.setGw_can (s : State) (x) : (s.setGw x).can = s.can := rfl
@[simp] theorem State.setGw_eth (s : State) (x) : (s.setGw x).eth = s.eth := rfl
@[simp] theorem State.setGw_vhp (s : State) (x) : (s.setGw x).vhp = s.vhp := rfl
@[simp] theorem State.setGw_vlv (s : State) (x) : (s.setGw x).vlv = s.vlv := rfl
@[simp] theorem State.setGw_lsw (s : State) (x) : (s.setGw x).lsw = s.lsw := rfl
@[simp] theorem State.setGw_saf (s : State) (x) : (s.setGw x).saf = s.saf := rfl
@[simp] theorem State.setGw_dsp (s : State) (x) : (s.setGw x).dsp = s.dsp := rfl
@[simp] theorem State.setGw_bst (s : State) (x) : (s.setGw x).bst = s.bst := rfl
@[simp] theorem State.setGw_evr (s : State) (x) : (s.setGw x).evr = s.evr := rfl
@[simp] theorem State.setGw_tab (s : State) (x) : (s.setGw x).tab = s.tab := rfl
@[simp] theorem State.setGw_rpl (s : State) (x) : (s.setGw x).rpl = s.rpl := rfl
@[simp] theorem State.setGw_upd (s : State) (x) : (s.setGw x).upd = s.upd := rfl
@[simp] theorem State.setGw_pm (s : State) (x) : (s.setGw x).pm = s.pm := rfl
@[simp] theorem State.setGw_freeCtr (s : State) (x) : (s.setGw x).freeCtr = s.freeCtr := rfl
@[simp] theorem State.setGw_pending (s : State) (x) : (s.setGw x).pending = s.pending := rfl

@[simp] theorem State.setCe_regs (s : State) (x) : (s.setCe x).regs = s.regs := rfl
@[simp] theorem State.setCe_mem (s : State) (x) : (s.setCe x).mem = s.mem := rfl
@[simp] theorem State.setCe_pub (s : State) (x) : (s.setCe x).pub = s.pub := rfl
@[simp] theorem State.setCe_stage (s : State) (x) : (s.setCe x).stage = s.stage := rfl
@[simp] theorem State.setCe_fab (s : State) (x) : (s.setCe x).fab = s.fab := rfl
@[simp] theorem State.setCe_clk (s : State) (x) : (s.setCe x).clk = s.clk := rfl
@[simp] theorem State.setCe_gw (s : State) (x) : (s.setCe x).gw = s.gw := rfl
@[simp] theorem State.setCe_ce (s : State) (x) : (s.setCe x).ce = x := rfl
@[simp] theorem State.setCe_uin (s : State) (x) : (s.setCe x).uin = s.uin := rfl
@[simp] theorem State.setCe_gov (s : State) (x) : (s.setCe x).gov = s.gov := rfl
@[simp] theorem State.setCe_mfp (s : State) (x) : (s.setCe x).mfp = s.mfp := rfl
@[simp] theorem State.setCe_yld (s : State) (x) : (s.setCe x).yld = s.yld := rfl
@[simp] theorem State.setCe_gns (s : State) (x) : (s.setCe x).gns = s.gns := rfl
@[simp] theorem State.setCe_steer (s : State) (x) : (s.setCe x).steer = s.steer := rfl
@[simp] theorem State.setCe_cam (s : State) (x) : (s.setCe x).cam = s.cam := rfl
@[simp] theorem State.setCe_fus (s : State) (x) : (s.setCe x).fus = s.fus := rfl
@[simp] theorem State.setCe_flr (s : State) (x) : (s.setCe x).flr = s.flr := rfl
@[simp] theorem State.setCe_dma (s : State) (x) : (s.setCe x).dma = s.dma := rfl
@[simp] theorem State.setCe_can (s : State) (x) : (s.setCe x).can = s.can := rfl
@[simp] theorem State.setCe_eth (s : State) (x) : (s.setCe x).eth = s.eth := rfl
@[simp] theorem State.setCe_vhp (s : State) (x) : (s.setCe x).vhp = s.vhp := rfl
@[simp] theorem State.setCe_vlv (s : State) (x) : (s.setCe x).vlv = s.vlv := rfl
@[simp] theorem State.setCe_lsw (s : State) (x) : (s.setCe x).lsw = s.lsw := rfl
@[simp] theorem State.setCe_saf (s : State) (x) : (s.setCe x).saf = s.saf := rfl
@[simp] theorem State.setCe_dsp (s : State) (x) : (s.setCe x).dsp = s.dsp := rfl
@[simp] theorem State.setCe_bst (s : State) (x) : (s.setCe x).bst = s.bst := rfl
@[simp] theorem State.setCe_evr (s : State) (x) : (s.setCe x).evr = s.evr := rfl
@[simp] theorem State.setCe_tab (s : State) (x) : (s.setCe x).tab = s.tab := rfl
@[simp] theorem State.setCe_rpl (s : State) (x) : (s.setCe x).rpl = s.rpl := rfl
@[simp] theorem State.setCe_upd (s : State) (x) : (s.setCe x).upd = s.upd := rfl
@[simp] theorem State.setCe_pm (s : State) (x) : (s.setCe x).pm = s.pm := rfl
@[simp] theorem State.setCe_freeCtr (s : State) (x) : (s.setCe x).freeCtr = s.freeCtr := rfl
@[simp] theorem State.setCe_pending (s : State) (x) : (s.setCe x).pending = s.pending := rfl

@[simp] theorem State.setUin_regs (s : State) (x) : (s.setUin x).regs = s.regs := rfl
@[simp] theorem State.setUin_mem (s : State) (x) : (s.setUin x).mem = s.mem := rfl
@[simp] theorem State.setUin_pub (s : State) (x) : (s.setUin x).pub = s.pub := rfl
@[simp] theorem State.setUin_stage (s : State) (x) : (s.setUin x).stage = s.stage := rfl
@[simp] theorem State.setUin_fab (s : State) (x) : (s.setUin x).fab = s.fab := rfl
@[simp] theorem State.setUin_clk (s : State) (x) : (s.setUin x).clk = s.clk := rfl
@[simp] theorem State.setUin_gw (s : State) (x) : (s.setUin x).gw = s.gw := rfl
@[simp] theorem State.setUin_ce (s : State) (x) : (s.setUin x).ce = s.ce := rfl
@[simp] theorem State.setUin_uin (s : State) (x) : (s.setUin x).uin = x := rfl
@[simp] theorem State.setUin_gov (s : State) (x) : (s.setUin x).gov = s.gov := rfl
@[simp] theorem State.setUin_mfp (s : State) (x) : (s.setUin x).mfp = s.mfp := rfl
@[simp] theorem State.setUin_yld (s : State) (x) : (s.setUin x).yld = s.yld := rfl
@[simp] theorem State.setUin_gns (s : State) (x) : (s.setUin x).gns = s.gns := rfl
@[simp] theorem State.setUin_steer (s : State) (x) : (s.setUin x).steer = s.steer := rfl
@[simp] theorem State.setUin_cam (s : State) (x) : (s.setUin x).cam = s.cam := rfl
@[simp] theorem State.setUin_fus (s : State) (x) : (s.setUin x).fus = s.fus := rfl
@[simp] theorem State.setUin_flr (s : State) (x) : (s.setUin x).flr = s.flr := rfl
@[simp] theorem State.setUin_dma (s : State) (x) : (s.setUin x).dma = s.dma := rfl
@[simp] theorem State.setUin_can (s : State) (x) : (s.setUin x).can = s.can := rfl
@[simp] theorem State.setUin_eth (s : State) (x) : (s.setUin x).eth = s.eth := rfl
@[simp] theorem State.setUin_vhp (s : State) (x) : (s.setUin x).vhp = s.vhp := rfl
@[simp] theorem State.setUin_vlv (s : State) (x) : (s.setUin x).vlv = s.vlv := rfl
@[simp] theorem State.setUin_lsw (s : State) (x) : (s.setUin x).lsw = s.lsw := rfl
@[simp] theorem State.setUin_saf (s : State) (x) : (s.setUin x).saf = s.saf := rfl
@[simp] theorem State.setUin_dsp (s : State) (x) : (s.setUin x).dsp = s.dsp := rfl
@[simp] theorem State.setUin_bst (s : State) (x) : (s.setUin x).bst = s.bst := rfl
@[simp] theorem State.setUin_evr (s : State) (x) : (s.setUin x).evr = s.evr := rfl
@[simp] theorem State.setUin_tab (s : State) (x) : (s.setUin x).tab = s.tab := rfl
@[simp] theorem State.setUin_rpl (s : State) (x) : (s.setUin x).rpl = s.rpl := rfl
@[simp] theorem State.setUin_upd (s : State) (x) : (s.setUin x).upd = s.upd := rfl
@[simp] theorem State.setUin_pm (s : State) (x) : (s.setUin x).pm = s.pm := rfl
@[simp] theorem State.setUin_freeCtr (s : State) (x) : (s.setUin x).freeCtr = s.freeCtr := rfl
@[simp] theorem State.setUin_pending (s : State) (x) : (s.setUin x).pending = s.pending := rfl

@[simp] theorem State.setGov_regs (s : State) (x) : (s.setGov x).regs = s.regs := rfl
@[simp] theorem State.setGov_mem (s : State) (x) : (s.setGov x).mem = s.mem := rfl
@[simp] theorem State.setGov_pub (s : State) (x) : (s.setGov x).pub = s.pub := rfl
@[simp] theorem State.setGov_stage (s : State) (x) : (s.setGov x).stage = s.stage := rfl
@[simp] theorem State.setGov_fab (s : State) (x) : (s.setGov x).fab = s.fab := rfl
@[simp] theorem State.setGov_clk (s : State) (x) : (s.setGov x).clk = s.clk := rfl
@[simp] theorem State.setGov_gw (s : State) (x) : (s.setGov x).gw = s.gw := rfl
@[simp] theorem State.setGov_ce (s : State) (x) : (s.setGov x).ce = s.ce := rfl
@[simp] theorem State.setGov_uin (s : State) (x) : (s.setGov x).uin = s.uin := rfl
@[simp] theorem State.setGov_gov (s : State) (x) : (s.setGov x).gov = x := rfl
@[simp] theorem State.setGov_mfp (s : State) (x) : (s.setGov x).mfp = s.mfp := rfl
@[simp] theorem State.setGov_yld (s : State) (x) : (s.setGov x).yld = s.yld := rfl
@[simp] theorem State.setGov_gns (s : State) (x) : (s.setGov x).gns = s.gns := rfl
@[simp] theorem State.setGov_steer (s : State) (x) : (s.setGov x).steer = s.steer := rfl
@[simp] theorem State.setGov_cam (s : State) (x) : (s.setGov x).cam = s.cam := rfl
@[simp] theorem State.setGov_fus (s : State) (x) : (s.setGov x).fus = s.fus := rfl
@[simp] theorem State.setGov_flr (s : State) (x) : (s.setGov x).flr = s.flr := rfl
@[simp] theorem State.setGov_dma (s : State) (x) : (s.setGov x).dma = s.dma := rfl
@[simp] theorem State.setGov_can (s : State) (x) : (s.setGov x).can = s.can := rfl
@[simp] theorem State.setGov_eth (s : State) (x) : (s.setGov x).eth = s.eth := rfl
@[simp] theorem State.setGov_vhp (s : State) (x) : (s.setGov x).vhp = s.vhp := rfl
@[simp] theorem State.setGov_vlv (s : State) (x) : (s.setGov x).vlv = s.vlv := rfl
@[simp] theorem State.setGov_lsw (s : State) (x) : (s.setGov x).lsw = s.lsw := rfl
@[simp] theorem State.setGov_saf (s : State) (x) : (s.setGov x).saf = s.saf := rfl
@[simp] theorem State.setGov_dsp (s : State) (x) : (s.setGov x).dsp = s.dsp := rfl
@[simp] theorem State.setGov_bst (s : State) (x) : (s.setGov x).bst = s.bst := rfl
@[simp] theorem State.setGov_evr (s : State) (x) : (s.setGov x).evr = s.evr := rfl
@[simp] theorem State.setGov_tab (s : State) (x) : (s.setGov x).tab = s.tab := rfl
@[simp] theorem State.setGov_rpl (s : State) (x) : (s.setGov x).rpl = s.rpl := rfl
@[simp] theorem State.setGov_upd (s : State) (x) : (s.setGov x).upd = s.upd := rfl
@[simp] theorem State.setGov_pm (s : State) (x) : (s.setGov x).pm = s.pm := rfl
@[simp] theorem State.setGov_freeCtr (s : State) (x) : (s.setGov x).freeCtr = s.freeCtr := rfl
@[simp] theorem State.setGov_pending (s : State) (x) : (s.setGov x).pending = s.pending := rfl

@[simp] theorem State.setMfp_regs (s : State) (x) : (s.setMfp x).regs = s.regs := rfl
@[simp] theorem State.setMfp_mem (s : State) (x) : (s.setMfp x).mem = s.mem := rfl
@[simp] theorem State.setMfp_pub (s : State) (x) : (s.setMfp x).pub = s.pub := rfl
@[simp] theorem State.setMfp_stage (s : State) (x) : (s.setMfp x).stage = s.stage := rfl
@[simp] theorem State.setMfp_fab (s : State) (x) : (s.setMfp x).fab = s.fab := rfl
@[simp] theorem State.setMfp_clk (s : State) (x) : (s.setMfp x).clk = s.clk := rfl
@[simp] theorem State.setMfp_gw (s : State) (x) : (s.setMfp x).gw = s.gw := rfl
@[simp] theorem State.setMfp_ce (s : State) (x) : (s.setMfp x).ce = s.ce := rfl
@[simp] theorem State.setMfp_uin (s : State) (x) : (s.setMfp x).uin = s.uin := rfl
@[simp] theorem State.setMfp_gov (s : State) (x) : (s.setMfp x).gov = s.gov := rfl
@[simp] theorem State.setMfp_mfp (s : State) (x) : (s.setMfp x).mfp = x := rfl
@[simp] theorem State.setMfp_yld (s : State) (x) : (s.setMfp x).yld = s.yld := rfl
@[simp] theorem State.setMfp_gns (s : State) (x) : (s.setMfp x).gns = s.gns := rfl
@[simp] theorem State.setMfp_steer (s : State) (x) : (s.setMfp x).steer = s.steer := rfl
@[simp] theorem State.setMfp_cam (s : State) (x) : (s.setMfp x).cam = s.cam := rfl
@[simp] theorem State.setMfp_fus (s : State) (x) : (s.setMfp x).fus = s.fus := rfl
@[simp] theorem State.setMfp_flr (s : State) (x) : (s.setMfp x).flr = s.flr := rfl
@[simp] theorem State.setMfp_dma (s : State) (x) : (s.setMfp x).dma = s.dma := rfl
@[simp] theorem State.setMfp_can (s : State) (x) : (s.setMfp x).can = s.can := rfl
@[simp] theorem State.setMfp_eth (s : State) (x) : (s.setMfp x).eth = s.eth := rfl
@[simp] theorem State.setMfp_vhp (s : State) (x) : (s.setMfp x).vhp = s.vhp := rfl
@[simp] theorem State.setMfp_vlv (s : State) (x) : (s.setMfp x).vlv = s.vlv := rfl
@[simp] theorem State.setMfp_lsw (s : State) (x) : (s.setMfp x).lsw = s.lsw := rfl
@[simp] theorem State.setMfp_saf (s : State) (x) : (s.setMfp x).saf = s.saf := rfl
@[simp] theorem State.setMfp_dsp (s : State) (x) : (s.setMfp x).dsp = s.dsp := rfl
@[simp] theorem State.setMfp_bst (s : State) (x) : (s.setMfp x).bst = s.bst := rfl
@[simp] theorem State.setMfp_evr (s : State) (x) : (s.setMfp x).evr = s.evr := rfl
@[simp] theorem State.setMfp_tab (s : State) (x) : (s.setMfp x).tab = s.tab := rfl
@[simp] theorem State.setMfp_rpl (s : State) (x) : (s.setMfp x).rpl = s.rpl := rfl
@[simp] theorem State.setMfp_upd (s : State) (x) : (s.setMfp x).upd = s.upd := rfl
@[simp] theorem State.setMfp_pm (s : State) (x) : (s.setMfp x).pm = s.pm := rfl
@[simp] theorem State.setMfp_freeCtr (s : State) (x) : (s.setMfp x).freeCtr = s.freeCtr := rfl
@[simp] theorem State.setMfp_pending (s : State) (x) : (s.setMfp x).pending = s.pending := rfl

@[simp] theorem State.setYld_regs (s : State) (x) : (s.setYld x).regs = s.regs := rfl
@[simp] theorem State.setYld_mem (s : State) (x) : (s.setYld x).mem = s.mem := rfl
@[simp] theorem State.setYld_pub (s : State) (x) : (s.setYld x).pub = s.pub := rfl
@[simp] theorem State.setYld_stage (s : State) (x) : (s.setYld x).stage = s.stage := rfl
@[simp] theorem State.setYld_fab (s : State) (x) : (s.setYld x).fab = s.fab := rfl
@[simp] theorem State.setYld_clk (s : State) (x) : (s.setYld x).clk = s.clk := rfl
@[simp] theorem State.setYld_gw (s : State) (x) : (s.setYld x).gw = s.gw := rfl
@[simp] theorem State.setYld_ce (s : State) (x) : (s.setYld x).ce = s.ce := rfl
@[simp] theorem State.setYld_uin (s : State) (x) : (s.setYld x).uin = s.uin := rfl
@[simp] theorem State.setYld_gov (s : State) (x) : (s.setYld x).gov = s.gov := rfl
@[simp] theorem State.setYld_mfp (s : State) (x) : (s.setYld x).mfp = s.mfp := rfl
@[simp] theorem State.setYld_yld (s : State) (x) : (s.setYld x).yld = x := rfl
@[simp] theorem State.setYld_gns (s : State) (x) : (s.setYld x).gns = s.gns := rfl
@[simp] theorem State.setYld_steer (s : State) (x) : (s.setYld x).steer = s.steer := rfl
@[simp] theorem State.setYld_cam (s : State) (x) : (s.setYld x).cam = s.cam := rfl
@[simp] theorem State.setYld_fus (s : State) (x) : (s.setYld x).fus = s.fus := rfl
@[simp] theorem State.setYld_flr (s : State) (x) : (s.setYld x).flr = s.flr := rfl
@[simp] theorem State.setYld_dma (s : State) (x) : (s.setYld x).dma = s.dma := rfl
@[simp] theorem State.setYld_can (s : State) (x) : (s.setYld x).can = s.can := rfl
@[simp] theorem State.setYld_eth (s : State) (x) : (s.setYld x).eth = s.eth := rfl
@[simp] theorem State.setYld_vhp (s : State) (x) : (s.setYld x).vhp = s.vhp := rfl
@[simp] theorem State.setYld_vlv (s : State) (x) : (s.setYld x).vlv = s.vlv := rfl
@[simp] theorem State.setYld_lsw (s : State) (x) : (s.setYld x).lsw = s.lsw := rfl
@[simp] theorem State.setYld_saf (s : State) (x) : (s.setYld x).saf = s.saf := rfl
@[simp] theorem State.setYld_dsp (s : State) (x) : (s.setYld x).dsp = s.dsp := rfl
@[simp] theorem State.setYld_bst (s : State) (x) : (s.setYld x).bst = s.bst := rfl
@[simp] theorem State.setYld_evr (s : State) (x) : (s.setYld x).evr = s.evr := rfl
@[simp] theorem State.setYld_tab (s : State) (x) : (s.setYld x).tab = s.tab := rfl
@[simp] theorem State.setYld_rpl (s : State) (x) : (s.setYld x).rpl = s.rpl := rfl
@[simp] theorem State.setYld_upd (s : State) (x) : (s.setYld x).upd = s.upd := rfl
@[simp] theorem State.setYld_pm (s : State) (x) : (s.setYld x).pm = s.pm := rfl
@[simp] theorem State.setYld_freeCtr (s : State) (x) : (s.setYld x).freeCtr = s.freeCtr := rfl
@[simp] theorem State.setYld_pending (s : State) (x) : (s.setYld x).pending = s.pending := rfl

@[simp] theorem State.setGns_regs (s : State) (x) : (s.setGns x).regs = s.regs := rfl
@[simp] theorem State.setGns_mem (s : State) (x) : (s.setGns x).mem = s.mem := rfl
@[simp] theorem State.setGns_pub (s : State) (x) : (s.setGns x).pub = s.pub := rfl
@[simp] theorem State.setGns_stage (s : State) (x) : (s.setGns x).stage = s.stage := rfl
@[simp] theorem State.setGns_fab (s : State) (x) : (s.setGns x).fab = s.fab := rfl
@[simp] theorem State.setGns_clk (s : State) (x) : (s.setGns x).clk = s.clk := rfl
@[simp] theorem State.setGns_gw (s : State) (x) : (s.setGns x).gw = s.gw := rfl
@[simp] theorem State.setGns_ce (s : State) (x) : (s.setGns x).ce = s.ce := rfl
@[simp] theorem State.setGns_uin (s : State) (x) : (s.setGns x).uin = s.uin := rfl
@[simp] theorem State.setGns_gov (s : State) (x) : (s.setGns x).gov = s.gov := rfl
@[simp] theorem State.setGns_mfp (s : State) (x) : (s.setGns x).mfp = s.mfp := rfl
@[simp] theorem State.setGns_yld (s : State) (x) : (s.setGns x).yld = s.yld := rfl
@[simp] theorem State.setGns_gns (s : State) (x) : (s.setGns x).gns = x := rfl
@[simp] theorem State.setGns_steer (s : State) (x) : (s.setGns x).steer = s.steer := rfl
@[simp] theorem State.setGns_cam (s : State) (x) : (s.setGns x).cam = s.cam := rfl
@[simp] theorem State.setGns_fus (s : State) (x) : (s.setGns x).fus = s.fus := rfl
@[simp] theorem State.setGns_flr (s : State) (x) : (s.setGns x).flr = s.flr := rfl
@[simp] theorem State.setGns_dma (s : State) (x) : (s.setGns x).dma = s.dma := rfl
@[simp] theorem State.setGns_can (s : State) (x) : (s.setGns x).can = s.can := rfl
@[simp] theorem State.setGns_eth (s : State) (x) : (s.setGns x).eth = s.eth := rfl
@[simp] theorem State.setGns_vhp (s : State) (x) : (s.setGns x).vhp = s.vhp := rfl
@[simp] theorem State.setGns_vlv (s : State) (x) : (s.setGns x).vlv = s.vlv := rfl
@[simp] theorem State.setGns_lsw (s : State) (x) : (s.setGns x).lsw = s.lsw := rfl
@[simp] theorem State.setGns_saf (s : State) (x) : (s.setGns x).saf = s.saf := rfl
@[simp] theorem State.setGns_dsp (s : State) (x) : (s.setGns x).dsp = s.dsp := rfl
@[simp] theorem State.setGns_bst (s : State) (x) : (s.setGns x).bst = s.bst := rfl
@[simp] theorem State.setGns_evr (s : State) (x) : (s.setGns x).evr = s.evr := rfl
@[simp] theorem State.setGns_tab (s : State) (x) : (s.setGns x).tab = s.tab := rfl
@[simp] theorem State.setGns_rpl (s : State) (x) : (s.setGns x).rpl = s.rpl := rfl
@[simp] theorem State.setGns_upd (s : State) (x) : (s.setGns x).upd = s.upd := rfl
@[simp] theorem State.setGns_pm (s : State) (x) : (s.setGns x).pm = s.pm := rfl
@[simp] theorem State.setGns_freeCtr (s : State) (x) : (s.setGns x).freeCtr = s.freeCtr := rfl
@[simp] theorem State.setGns_pending (s : State) (x) : (s.setGns x).pending = s.pending := rfl

@[simp] theorem State.setSteer_regs (s : State) (x) : (s.setSteer x).regs = s.regs := rfl
@[simp] theorem State.setSteer_mem (s : State) (x) : (s.setSteer x).mem = s.mem := rfl
@[simp] theorem State.setSteer_pub (s : State) (x) : (s.setSteer x).pub = s.pub := rfl
@[simp] theorem State.setSteer_stage (s : State) (x) : (s.setSteer x).stage = s.stage := rfl
@[simp] theorem State.setSteer_fab (s : State) (x) : (s.setSteer x).fab = s.fab := rfl
@[simp] theorem State.setSteer_clk (s : State) (x) : (s.setSteer x).clk = s.clk := rfl
@[simp] theorem State.setSteer_gw (s : State) (x) : (s.setSteer x).gw = s.gw := rfl
@[simp] theorem State.setSteer_ce (s : State) (x) : (s.setSteer x).ce = s.ce := rfl
@[simp] theorem State.setSteer_uin (s : State) (x) : (s.setSteer x).uin = s.uin := rfl
@[simp] theorem State.setSteer_gov (s : State) (x) : (s.setSteer x).gov = s.gov := rfl
@[simp] theorem State.setSteer_mfp (s : State) (x) : (s.setSteer x).mfp = s.mfp := rfl
@[simp] theorem State.setSteer_yld (s : State) (x) : (s.setSteer x).yld = s.yld := rfl
@[simp] theorem State.setSteer_gns (s : State) (x) : (s.setSteer x).gns = s.gns := rfl
@[simp] theorem State.setSteer_steer (s : State) (x) : (s.setSteer x).steer = x := rfl
@[simp] theorem State.setSteer_cam (s : State) (x) : (s.setSteer x).cam = s.cam := rfl
@[simp] theorem State.setSteer_fus (s : State) (x) : (s.setSteer x).fus = s.fus := rfl
@[simp] theorem State.setSteer_flr (s : State) (x) : (s.setSteer x).flr = s.flr := rfl
@[simp] theorem State.setSteer_dma (s : State) (x) : (s.setSteer x).dma = s.dma := rfl
@[simp] theorem State.setSteer_can (s : State) (x) : (s.setSteer x).can = s.can := rfl
@[simp] theorem State.setSteer_eth (s : State) (x) : (s.setSteer x).eth = s.eth := rfl
@[simp] theorem State.setSteer_vhp (s : State) (x) : (s.setSteer x).vhp = s.vhp := rfl
@[simp] theorem State.setSteer_vlv (s : State) (x) : (s.setSteer x).vlv = s.vlv := rfl
@[simp] theorem State.setSteer_lsw (s : State) (x) : (s.setSteer x).lsw = s.lsw := rfl
@[simp] theorem State.setSteer_saf (s : State) (x) : (s.setSteer x).saf = s.saf := rfl
@[simp] theorem State.setSteer_dsp (s : State) (x) : (s.setSteer x).dsp = s.dsp := rfl
@[simp] theorem State.setSteer_bst (s : State) (x) : (s.setSteer x).bst = s.bst := rfl
@[simp] theorem State.setSteer_evr (s : State) (x) : (s.setSteer x).evr = s.evr := rfl
@[simp] theorem State.setSteer_tab (s : State) (x) : (s.setSteer x).tab = s.tab := rfl
@[simp] theorem State.setSteer_rpl (s : State) (x) : (s.setSteer x).rpl = s.rpl := rfl
@[simp] theorem State.setSteer_upd (s : State) (x) : (s.setSteer x).upd = s.upd := rfl
@[simp] theorem State.setSteer_pm (s : State) (x) : (s.setSteer x).pm = s.pm := rfl
@[simp] theorem State.setSteer_freeCtr (s : State) (x) : (s.setSteer x).freeCtr = s.freeCtr := rfl
@[simp] theorem State.setSteer_pending (s : State) (x) : (s.setSteer x).pending = s.pending := rfl

@[simp] theorem State.setCam_regs (s : State) (x) : (s.setCam x).regs = s.regs := rfl
@[simp] theorem State.setCam_mem (s : State) (x) : (s.setCam x).mem = s.mem := rfl
@[simp] theorem State.setCam_pub (s : State) (x) : (s.setCam x).pub = s.pub := rfl
@[simp] theorem State.setCam_stage (s : State) (x) : (s.setCam x).stage = s.stage := rfl
@[simp] theorem State.setCam_fab (s : State) (x) : (s.setCam x).fab = s.fab := rfl
@[simp] theorem State.setCam_clk (s : State) (x) : (s.setCam x).clk = s.clk := rfl
@[simp] theorem State.setCam_gw (s : State) (x) : (s.setCam x).gw = s.gw := rfl
@[simp] theorem State.setCam_ce (s : State) (x) : (s.setCam x).ce = s.ce := rfl
@[simp] theorem State.setCam_uin (s : State) (x) : (s.setCam x).uin = s.uin := rfl
@[simp] theorem State.setCam_gov (s : State) (x) : (s.setCam x).gov = s.gov := rfl
@[simp] theorem State.setCam_mfp (s : State) (x) : (s.setCam x).mfp = s.mfp := rfl
@[simp] theorem State.setCam_yld (s : State) (x) : (s.setCam x).yld = s.yld := rfl
@[simp] theorem State.setCam_gns (s : State) (x) : (s.setCam x).gns = s.gns := rfl
@[simp] theorem State.setCam_steer (s : State) (x) : (s.setCam x).steer = s.steer := rfl
@[simp] theorem State.setCam_cam (s : State) (x) : (s.setCam x).cam = x := rfl
@[simp] theorem State.setCam_fus (s : State) (x) : (s.setCam x).fus = s.fus := rfl
@[simp] theorem State.setCam_flr (s : State) (x) : (s.setCam x).flr = s.flr := rfl
@[simp] theorem State.setCam_dma (s : State) (x) : (s.setCam x).dma = s.dma := rfl
@[simp] theorem State.setCam_can (s : State) (x) : (s.setCam x).can = s.can := rfl
@[simp] theorem State.setCam_eth (s : State) (x) : (s.setCam x).eth = s.eth := rfl
@[simp] theorem State.setCam_vhp (s : State) (x) : (s.setCam x).vhp = s.vhp := rfl
@[simp] theorem State.setCam_vlv (s : State) (x) : (s.setCam x).vlv = s.vlv := rfl
@[simp] theorem State.setCam_lsw (s : State) (x) : (s.setCam x).lsw = s.lsw := rfl
@[simp] theorem State.setCam_saf (s : State) (x) : (s.setCam x).saf = s.saf := rfl
@[simp] theorem State.setCam_dsp (s : State) (x) : (s.setCam x).dsp = s.dsp := rfl
@[simp] theorem State.setCam_bst (s : State) (x) : (s.setCam x).bst = s.bst := rfl
@[simp] theorem State.setCam_evr (s : State) (x) : (s.setCam x).evr = s.evr := rfl
@[simp] theorem State.setCam_tab (s : State) (x) : (s.setCam x).tab = s.tab := rfl
@[simp] theorem State.setCam_rpl (s : State) (x) : (s.setCam x).rpl = s.rpl := rfl
@[simp] theorem State.setCam_upd (s : State) (x) : (s.setCam x).upd = s.upd := rfl
@[simp] theorem State.setCam_pm (s : State) (x) : (s.setCam x).pm = s.pm := rfl
@[simp] theorem State.setCam_freeCtr (s : State) (x) : (s.setCam x).freeCtr = s.freeCtr := rfl
@[simp] theorem State.setCam_pending (s : State) (x) : (s.setCam x).pending = s.pending := rfl

@[simp] theorem State.setFus_regs (s : State) (x) : (s.setFus x).regs = s.regs := rfl
@[simp] theorem State.setFus_mem (s : State) (x) : (s.setFus x).mem = s.mem := rfl
@[simp] theorem State.setFus_pub (s : State) (x) : (s.setFus x).pub = s.pub := rfl
@[simp] theorem State.setFus_stage (s : State) (x) : (s.setFus x).stage = s.stage := rfl
@[simp] theorem State.setFus_fab (s : State) (x) : (s.setFus x).fab = s.fab := rfl
@[simp] theorem State.setFus_clk (s : State) (x) : (s.setFus x).clk = s.clk := rfl
@[simp] theorem State.setFus_gw (s : State) (x) : (s.setFus x).gw = s.gw := rfl
@[simp] theorem State.setFus_ce (s : State) (x) : (s.setFus x).ce = s.ce := rfl
@[simp] theorem State.setFus_uin (s : State) (x) : (s.setFus x).uin = s.uin := rfl
@[simp] theorem State.setFus_gov (s : State) (x) : (s.setFus x).gov = s.gov := rfl
@[simp] theorem State.setFus_mfp (s : State) (x) : (s.setFus x).mfp = s.mfp := rfl
@[simp] theorem State.setFus_yld (s : State) (x) : (s.setFus x).yld = s.yld := rfl
@[simp] theorem State.setFus_gns (s : State) (x) : (s.setFus x).gns = s.gns := rfl
@[simp] theorem State.setFus_steer (s : State) (x) : (s.setFus x).steer = s.steer := rfl
@[simp] theorem State.setFus_cam (s : State) (x) : (s.setFus x).cam = s.cam := rfl
@[simp] theorem State.setFus_fus (s : State) (x) : (s.setFus x).fus = x := rfl
@[simp] theorem State.setFus_flr (s : State) (x) : (s.setFus x).flr = s.flr := rfl
@[simp] theorem State.setFus_dma (s : State) (x) : (s.setFus x).dma = s.dma := rfl
@[simp] theorem State.setFus_can (s : State) (x) : (s.setFus x).can = s.can := rfl
@[simp] theorem State.setFus_eth (s : State) (x) : (s.setFus x).eth = s.eth := rfl
@[simp] theorem State.setFus_vhp (s : State) (x) : (s.setFus x).vhp = s.vhp := rfl
@[simp] theorem State.setFus_vlv (s : State) (x) : (s.setFus x).vlv = s.vlv := rfl
@[simp] theorem State.setFus_lsw (s : State) (x) : (s.setFus x).lsw = s.lsw := rfl
@[simp] theorem State.setFus_saf (s : State) (x) : (s.setFus x).saf = s.saf := rfl
@[simp] theorem State.setFus_dsp (s : State) (x) : (s.setFus x).dsp = s.dsp := rfl
@[simp] theorem State.setFus_bst (s : State) (x) : (s.setFus x).bst = s.bst := rfl
@[simp] theorem State.setFus_evr (s : State) (x) : (s.setFus x).evr = s.evr := rfl
@[simp] theorem State.setFus_tab (s : State) (x) : (s.setFus x).tab = s.tab := rfl
@[simp] theorem State.setFus_rpl (s : State) (x) : (s.setFus x).rpl = s.rpl := rfl
@[simp] theorem State.setFus_upd (s : State) (x) : (s.setFus x).upd = s.upd := rfl
@[simp] theorem State.setFus_pm (s : State) (x) : (s.setFus x).pm = s.pm := rfl
@[simp] theorem State.setFus_freeCtr (s : State) (x) : (s.setFus x).freeCtr = s.freeCtr := rfl
@[simp] theorem State.setFus_pending (s : State) (x) : (s.setFus x).pending = s.pending := rfl

@[simp] theorem State.setFlr_regs (s : State) (x) : (s.setFlr x).regs = s.regs := rfl
@[simp] theorem State.setFlr_mem (s : State) (x) : (s.setFlr x).mem = s.mem := rfl
@[simp] theorem State.setFlr_pub (s : State) (x) : (s.setFlr x).pub = s.pub := rfl
@[simp] theorem State.setFlr_stage (s : State) (x) : (s.setFlr x).stage = s.stage := rfl
@[simp] theorem State.setFlr_fab (s : State) (x) : (s.setFlr x).fab = s.fab := rfl
@[simp] theorem State.setFlr_clk (s : State) (x) : (s.setFlr x).clk = s.clk := rfl
@[simp] theorem State.setFlr_gw (s : State) (x) : (s.setFlr x).gw = s.gw := rfl
@[simp] theorem State.setFlr_ce (s : State) (x) : (s.setFlr x).ce = s.ce := rfl
@[simp] theorem State.setFlr_uin (s : State) (x) : (s.setFlr x).uin = s.uin := rfl
@[simp] theorem State.setFlr_gov (s : State) (x) : (s.setFlr x).gov = s.gov := rfl
@[simp] theorem State.setFlr_mfp (s : State) (x) : (s.setFlr x).mfp = s.mfp := rfl
@[simp] theorem State.setFlr_yld (s : State) (x) : (s.setFlr x).yld = s.yld := rfl
@[simp] theorem State.setFlr_gns (s : State) (x) : (s.setFlr x).gns = s.gns := rfl
@[simp] theorem State.setFlr_steer (s : State) (x) : (s.setFlr x).steer = s.steer := rfl
@[simp] theorem State.setFlr_cam (s : State) (x) : (s.setFlr x).cam = s.cam := rfl
@[simp] theorem State.setFlr_fus (s : State) (x) : (s.setFlr x).fus = s.fus := rfl
@[simp] theorem State.setFlr_flr (s : State) (x) : (s.setFlr x).flr = x := rfl
@[simp] theorem State.setFlr_dma (s : State) (x) : (s.setFlr x).dma = s.dma := rfl
@[simp] theorem State.setFlr_can (s : State) (x) : (s.setFlr x).can = s.can := rfl
@[simp] theorem State.setFlr_eth (s : State) (x) : (s.setFlr x).eth = s.eth := rfl
@[simp] theorem State.setFlr_vhp (s : State) (x) : (s.setFlr x).vhp = s.vhp := rfl
@[simp] theorem State.setFlr_vlv (s : State) (x) : (s.setFlr x).vlv = s.vlv := rfl
@[simp] theorem State.setFlr_lsw (s : State) (x) : (s.setFlr x).lsw = s.lsw := rfl
@[simp] theorem State.setFlr_saf (s : State) (x) : (s.setFlr x).saf = s.saf := rfl
@[simp] theorem State.setFlr_dsp (s : State) (x) : (s.setFlr x).dsp = s.dsp := rfl
@[simp] theorem State.setFlr_bst (s : State) (x) : (s.setFlr x).bst = s.bst := rfl
@[simp] theorem State.setFlr_evr (s : State) (x) : (s.setFlr x).evr = s.evr := rfl
@[simp] theorem State.setFlr_tab (s : State) (x) : (s.setFlr x).tab = s.tab := rfl
@[simp] theorem State.setFlr_rpl (s : State) (x) : (s.setFlr x).rpl = s.rpl := rfl
@[simp] theorem State.setFlr_upd (s : State) (x) : (s.setFlr x).upd = s.upd := rfl
@[simp] theorem State.setFlr_pm (s : State) (x) : (s.setFlr x).pm = s.pm := rfl
@[simp] theorem State.setFlr_freeCtr (s : State) (x) : (s.setFlr x).freeCtr = s.freeCtr := rfl
@[simp] theorem State.setFlr_pending (s : State) (x) : (s.setFlr x).pending = s.pending := rfl

@[simp] theorem State.setDma_regs (s : State) (x) : (s.setDma x).regs = s.regs := rfl
@[simp] theorem State.setDma_mem (s : State) (x) : (s.setDma x).mem = s.mem := rfl
@[simp] theorem State.setDma_pub (s : State) (x) : (s.setDma x).pub = s.pub := rfl
@[simp] theorem State.setDma_stage (s : State) (x) : (s.setDma x).stage = s.stage := rfl
@[simp] theorem State.setDma_fab (s : State) (x) : (s.setDma x).fab = s.fab := rfl
@[simp] theorem State.setDma_clk (s : State) (x) : (s.setDma x).clk = s.clk := rfl
@[simp] theorem State.setDma_gw (s : State) (x) : (s.setDma x).gw = s.gw := rfl
@[simp] theorem State.setDma_ce (s : State) (x) : (s.setDma x).ce = s.ce := rfl
@[simp] theorem State.setDma_uin (s : State) (x) : (s.setDma x).uin = s.uin := rfl
@[simp] theorem State.setDma_gov (s : State) (x) : (s.setDma x).gov = s.gov := rfl
@[simp] theorem State.setDma_mfp (s : State) (x) : (s.setDma x).mfp = s.mfp := rfl
@[simp] theorem State.setDma_yld (s : State) (x) : (s.setDma x).yld = s.yld := rfl
@[simp] theorem State.setDma_gns (s : State) (x) : (s.setDma x).gns = s.gns := rfl
@[simp] theorem State.setDma_steer (s : State) (x) : (s.setDma x).steer = s.steer := rfl
@[simp] theorem State.setDma_cam (s : State) (x) : (s.setDma x).cam = s.cam := rfl
@[simp] theorem State.setDma_fus (s : State) (x) : (s.setDma x).fus = s.fus := rfl
@[simp] theorem State.setDma_flr (s : State) (x) : (s.setDma x).flr = s.flr := rfl
@[simp] theorem State.setDma_dma (s : State) (x) : (s.setDma x).dma = x := rfl
@[simp] theorem State.setDma_can (s : State) (x) : (s.setDma x).can = s.can := rfl
@[simp] theorem State.setDma_eth (s : State) (x) : (s.setDma x).eth = s.eth := rfl
@[simp] theorem State.setDma_vhp (s : State) (x) : (s.setDma x).vhp = s.vhp := rfl
@[simp] theorem State.setDma_vlv (s : State) (x) : (s.setDma x).vlv = s.vlv := rfl
@[simp] theorem State.setDma_lsw (s : State) (x) : (s.setDma x).lsw = s.lsw := rfl
@[simp] theorem State.setDma_saf (s : State) (x) : (s.setDma x).saf = s.saf := rfl
@[simp] theorem State.setDma_dsp (s : State) (x) : (s.setDma x).dsp = s.dsp := rfl
@[simp] theorem State.setDma_bst (s : State) (x) : (s.setDma x).bst = s.bst := rfl
@[simp] theorem State.setDma_evr (s : State) (x) : (s.setDma x).evr = s.evr := rfl
@[simp] theorem State.setDma_tab (s : State) (x) : (s.setDma x).tab = s.tab := rfl
@[simp] theorem State.setDma_rpl (s : State) (x) : (s.setDma x).rpl = s.rpl := rfl
@[simp] theorem State.setDma_upd (s : State) (x) : (s.setDma x).upd = s.upd := rfl
@[simp] theorem State.setDma_pm (s : State) (x) : (s.setDma x).pm = s.pm := rfl
@[simp] theorem State.setDma_freeCtr (s : State) (x) : (s.setDma x).freeCtr = s.freeCtr := rfl
@[simp] theorem State.setDma_pending (s : State) (x) : (s.setDma x).pending = s.pending := rfl

@[simp] theorem State.setCan_regs (s : State) (x) : (s.setCan x).regs = s.regs := rfl
@[simp] theorem State.setCan_mem (s : State) (x) : (s.setCan x).mem = s.mem := rfl
@[simp] theorem State.setCan_pub (s : State) (x) : (s.setCan x).pub = s.pub := rfl
@[simp] theorem State.setCan_stage (s : State) (x) : (s.setCan x).stage = s.stage := rfl
@[simp] theorem State.setCan_fab (s : State) (x) : (s.setCan x).fab = s.fab := rfl
@[simp] theorem State.setCan_clk (s : State) (x) : (s.setCan x).clk = s.clk := rfl
@[simp] theorem State.setCan_gw (s : State) (x) : (s.setCan x).gw = s.gw := rfl
@[simp] theorem State.setCan_ce (s : State) (x) : (s.setCan x).ce = s.ce := rfl
@[simp] theorem State.setCan_uin (s : State) (x) : (s.setCan x).uin = s.uin := rfl
@[simp] theorem State.setCan_gov (s : State) (x) : (s.setCan x).gov = s.gov := rfl
@[simp] theorem State.setCan_mfp (s : State) (x) : (s.setCan x).mfp = s.mfp := rfl
@[simp] theorem State.setCan_yld (s : State) (x) : (s.setCan x).yld = s.yld := rfl
@[simp] theorem State.setCan_gns (s : State) (x) : (s.setCan x).gns = s.gns := rfl
@[simp] theorem State.setCan_steer (s : State) (x) : (s.setCan x).steer = s.steer := rfl
@[simp] theorem State.setCan_cam (s : State) (x) : (s.setCan x).cam = s.cam := rfl
@[simp] theorem State.setCan_fus (s : State) (x) : (s.setCan x).fus = s.fus := rfl
@[simp] theorem State.setCan_flr (s : State) (x) : (s.setCan x).flr = s.flr := rfl
@[simp] theorem State.setCan_dma (s : State) (x) : (s.setCan x).dma = s.dma := rfl
@[simp] theorem State.setCan_can (s : State) (x) : (s.setCan x).can = x := rfl
@[simp] theorem State.setCan_eth (s : State) (x) : (s.setCan x).eth = s.eth := rfl
@[simp] theorem State.setCan_vhp (s : State) (x) : (s.setCan x).vhp = s.vhp := rfl
@[simp] theorem State.setCan_vlv (s : State) (x) : (s.setCan x).vlv = s.vlv := rfl
@[simp] theorem State.setCan_lsw (s : State) (x) : (s.setCan x).lsw = s.lsw := rfl
@[simp] theorem State.setCan_saf (s : State) (x) : (s.setCan x).saf = s.saf := rfl
@[simp] theorem State.setCan_dsp (s : State) (x) : (s.setCan x).dsp = s.dsp := rfl
@[simp] theorem State.setCan_bst (s : State) (x) : (s.setCan x).bst = s.bst := rfl
@[simp] theorem State.setCan_evr (s : State) (x) : (s.setCan x).evr = s.evr := rfl
@[simp] theorem State.setCan_tab (s : State) (x) : (s.setCan x).tab = s.tab := rfl
@[simp] theorem State.setCan_rpl (s : State) (x) : (s.setCan x).rpl = s.rpl := rfl
@[simp] theorem State.setCan_upd (s : State) (x) : (s.setCan x).upd = s.upd := rfl
@[simp] theorem State.setCan_pm (s : State) (x) : (s.setCan x).pm = s.pm := rfl
@[simp] theorem State.setCan_freeCtr (s : State) (x) : (s.setCan x).freeCtr = s.freeCtr := rfl
@[simp] theorem State.setCan_pending (s : State) (x) : (s.setCan x).pending = s.pending := rfl

@[simp] theorem State.setEth_regs (s : State) (x) : (s.setEth x).regs = s.regs := rfl
@[simp] theorem State.setEth_mem (s : State) (x) : (s.setEth x).mem = s.mem := rfl
@[simp] theorem State.setEth_pub (s : State) (x) : (s.setEth x).pub = s.pub := rfl
@[simp] theorem State.setEth_stage (s : State) (x) : (s.setEth x).stage = s.stage := rfl
@[simp] theorem State.setEth_fab (s : State) (x) : (s.setEth x).fab = s.fab := rfl
@[simp] theorem State.setEth_clk (s : State) (x) : (s.setEth x).clk = s.clk := rfl
@[simp] theorem State.setEth_gw (s : State) (x) : (s.setEth x).gw = s.gw := rfl
@[simp] theorem State.setEth_ce (s : State) (x) : (s.setEth x).ce = s.ce := rfl
@[simp] theorem State.setEth_uin (s : State) (x) : (s.setEth x).uin = s.uin := rfl
@[simp] theorem State.setEth_gov (s : State) (x) : (s.setEth x).gov = s.gov := rfl
@[simp] theorem State.setEth_mfp (s : State) (x) : (s.setEth x).mfp = s.mfp := rfl
@[simp] theorem State.setEth_yld (s : State) (x) : (s.setEth x).yld = s.yld := rfl
@[simp] theorem State.setEth_gns (s : State) (x) : (s.setEth x).gns = s.gns := rfl
@[simp] theorem State.setEth_steer (s : State) (x) : (s.setEth x).steer = s.steer := rfl
@[simp] theorem State.setEth_cam (s : State) (x) : (s.setEth x).cam = s.cam := rfl
@[simp] theorem State.setEth_fus (s : State) (x) : (s.setEth x).fus = s.fus := rfl
@[simp] theorem State.setEth_flr (s : State) (x) : (s.setEth x).flr = s.flr := rfl
@[simp] theorem State.setEth_dma (s : State) (x) : (s.setEth x).dma = s.dma := rfl
@[simp] theorem State.setEth_can (s : State) (x) : (s.setEth x).can = s.can := rfl
@[simp] theorem State.setEth_eth (s : State) (x) : (s.setEth x).eth = x := rfl
@[simp] theorem State.setEth_vhp (s : State) (x) : (s.setEth x).vhp = s.vhp := rfl
@[simp] theorem State.setEth_vlv (s : State) (x) : (s.setEth x).vlv = s.vlv := rfl
@[simp] theorem State.setEth_lsw (s : State) (x) : (s.setEth x).lsw = s.lsw := rfl
@[simp] theorem State.setEth_saf (s : State) (x) : (s.setEth x).saf = s.saf := rfl
@[simp] theorem State.setEth_dsp (s : State) (x) : (s.setEth x).dsp = s.dsp := rfl
@[simp] theorem State.setEth_bst (s : State) (x) : (s.setEth x).bst = s.bst := rfl
@[simp] theorem State.setEth_evr (s : State) (x) : (s.setEth x).evr = s.evr := rfl
@[simp] theorem State.setEth_tab (s : State) (x) : (s.setEth x).tab = s.tab := rfl
@[simp] theorem State.setEth_rpl (s : State) (x) : (s.setEth x).rpl = s.rpl := rfl
@[simp] theorem State.setEth_upd (s : State) (x) : (s.setEth x).upd = s.upd := rfl
@[simp] theorem State.setEth_pm (s : State) (x) : (s.setEth x).pm = s.pm := rfl
@[simp] theorem State.setEth_freeCtr (s : State) (x) : (s.setEth x).freeCtr = s.freeCtr := rfl
@[simp] theorem State.setEth_pending (s : State) (x) : (s.setEth x).pending = s.pending := rfl

@[simp] theorem State.setVhp_regs (s : State) (x) : (s.setVhp x).regs = s.regs := rfl
@[simp] theorem State.setVhp_mem (s : State) (x) : (s.setVhp x).mem = s.mem := rfl
@[simp] theorem State.setVhp_pub (s : State) (x) : (s.setVhp x).pub = s.pub := rfl
@[simp] theorem State.setVhp_stage (s : State) (x) : (s.setVhp x).stage = s.stage := rfl
@[simp] theorem State.setVhp_fab (s : State) (x) : (s.setVhp x).fab = s.fab := rfl
@[simp] theorem State.setVhp_clk (s : State) (x) : (s.setVhp x).clk = s.clk := rfl
@[simp] theorem State.setVhp_gw (s : State) (x) : (s.setVhp x).gw = s.gw := rfl
@[simp] theorem State.setVhp_ce (s : State) (x) : (s.setVhp x).ce = s.ce := rfl
@[simp] theorem State.setVhp_uin (s : State) (x) : (s.setVhp x).uin = s.uin := rfl
@[simp] theorem State.setVhp_gov (s : State) (x) : (s.setVhp x).gov = s.gov := rfl
@[simp] theorem State.setVhp_mfp (s : State) (x) : (s.setVhp x).mfp = s.mfp := rfl
@[simp] theorem State.setVhp_yld (s : State) (x) : (s.setVhp x).yld = s.yld := rfl
@[simp] theorem State.setVhp_gns (s : State) (x) : (s.setVhp x).gns = s.gns := rfl
@[simp] theorem State.setVhp_steer (s : State) (x) : (s.setVhp x).steer = s.steer := rfl
@[simp] theorem State.setVhp_cam (s : State) (x) : (s.setVhp x).cam = s.cam := rfl
@[simp] theorem State.setVhp_fus (s : State) (x) : (s.setVhp x).fus = s.fus := rfl
@[simp] theorem State.setVhp_flr (s : State) (x) : (s.setVhp x).flr = s.flr := rfl
@[simp] theorem State.setVhp_dma (s : State) (x) : (s.setVhp x).dma = s.dma := rfl
@[simp] theorem State.setVhp_can (s : State) (x) : (s.setVhp x).can = s.can := rfl
@[simp] theorem State.setVhp_eth (s : State) (x) : (s.setVhp x).eth = s.eth := rfl
@[simp] theorem State.setVhp_vhp (s : State) (x) : (s.setVhp x).vhp = x := rfl
@[simp] theorem State.setVhp_vlv (s : State) (x) : (s.setVhp x).vlv = s.vlv := rfl
@[simp] theorem State.setVhp_lsw (s : State) (x) : (s.setVhp x).lsw = s.lsw := rfl
@[simp] theorem State.setVhp_saf (s : State) (x) : (s.setVhp x).saf = s.saf := rfl
@[simp] theorem State.setVhp_dsp (s : State) (x) : (s.setVhp x).dsp = s.dsp := rfl
@[simp] theorem State.setVhp_bst (s : State) (x) : (s.setVhp x).bst = s.bst := rfl
@[simp] theorem State.setVhp_evr (s : State) (x) : (s.setVhp x).evr = s.evr := rfl
@[simp] theorem State.setVhp_tab (s : State) (x) : (s.setVhp x).tab = s.tab := rfl
@[simp] theorem State.setVhp_rpl (s : State) (x) : (s.setVhp x).rpl = s.rpl := rfl
@[simp] theorem State.setVhp_upd (s : State) (x) : (s.setVhp x).upd = s.upd := rfl
@[simp] theorem State.setVhp_pm (s : State) (x) : (s.setVhp x).pm = s.pm := rfl
@[simp] theorem State.setVhp_freeCtr (s : State) (x) : (s.setVhp x).freeCtr = s.freeCtr := rfl
@[simp] theorem State.setVhp_pending (s : State) (x) : (s.setVhp x).pending = s.pending := rfl

@[simp] theorem State.setVlv_regs (s : State) (x) : (s.setVlv x).regs = s.regs := rfl
@[simp] theorem State.setVlv_mem (s : State) (x) : (s.setVlv x).mem = s.mem := rfl
@[simp] theorem State.setVlv_pub (s : State) (x) : (s.setVlv x).pub = s.pub := rfl
@[simp] theorem State.setVlv_stage (s : State) (x) : (s.setVlv x).stage = s.stage := rfl
@[simp] theorem State.setVlv_fab (s : State) (x) : (s.setVlv x).fab = s.fab := rfl
@[simp] theorem State.setVlv_clk (s : State) (x) : (s.setVlv x).clk = s.clk := rfl
@[simp] theorem State.setVlv_gw (s : State) (x) : (s.setVlv x).gw = s.gw := rfl
@[simp] theorem State.setVlv_ce (s : State) (x) : (s.setVlv x).ce = s.ce := rfl
@[simp] theorem State.setVlv_uin (s : State) (x) : (s.setVlv x).uin = s.uin := rfl
@[simp] theorem State.setVlv_gov (s : State) (x) : (s.setVlv x).gov = s.gov := rfl
@[simp] theorem State.setVlv_mfp (s : State) (x) : (s.setVlv x).mfp = s.mfp := rfl
@[simp] theorem State.setVlv_yld (s : State) (x) : (s.setVlv x).yld = s.yld := rfl
@[simp] theorem State.setVlv_gns (s : State) (x) : (s.setVlv x).gns = s.gns := rfl
@[simp] theorem State.setVlv_steer (s : State) (x) : (s.setVlv x).steer = s.steer := rfl
@[simp] theorem State.setVlv_cam (s : State) (x) : (s.setVlv x).cam = s.cam := rfl
@[simp] theorem State.setVlv_fus (s : State) (x) : (s.setVlv x).fus = s.fus := rfl
@[simp] theorem State.setVlv_flr (s : State) (x) : (s.setVlv x).flr = s.flr := rfl
@[simp] theorem State.setVlv_dma (s : State) (x) : (s.setVlv x).dma = s.dma := rfl
@[simp] theorem State.setVlv_can (s : State) (x) : (s.setVlv x).can = s.can := rfl
@[simp] theorem State.setVlv_eth (s : State) (x) : (s.setVlv x).eth = s.eth := rfl
@[simp] theorem State.setVlv_vhp (s : State) (x) : (s.setVlv x).vhp = s.vhp := rfl
@[simp] theorem State.setVlv_vlv (s : State) (x) : (s.setVlv x).vlv = x := rfl
@[simp] theorem State.setVlv_lsw (s : State) (x) : (s.setVlv x).lsw = s.lsw := rfl
@[simp] theorem State.setVlv_saf (s : State) (x) : (s.setVlv x).saf = s.saf := rfl
@[simp] theorem State.setVlv_dsp (s : State) (x) : (s.setVlv x).dsp = s.dsp := rfl
@[simp] theorem State.setVlv_bst (s : State) (x) : (s.setVlv x).bst = s.bst := rfl
@[simp] theorem State.setVlv_evr (s : State) (x) : (s.setVlv x).evr = s.evr := rfl
@[simp] theorem State.setVlv_tab (s : State) (x) : (s.setVlv x).tab = s.tab := rfl
@[simp] theorem State.setVlv_rpl (s : State) (x) : (s.setVlv x).rpl = s.rpl := rfl
@[simp] theorem State.setVlv_upd (s : State) (x) : (s.setVlv x).upd = s.upd := rfl
@[simp] theorem State.setVlv_pm (s : State) (x) : (s.setVlv x).pm = s.pm := rfl
@[simp] theorem State.setVlv_freeCtr (s : State) (x) : (s.setVlv x).freeCtr = s.freeCtr := rfl
@[simp] theorem State.setVlv_pending (s : State) (x) : (s.setVlv x).pending = s.pending := rfl

@[simp] theorem State.setLsw_regs (s : State) (x) : (s.setLsw x).regs = s.regs := rfl
@[simp] theorem State.setLsw_mem (s : State) (x) : (s.setLsw x).mem = s.mem := rfl
@[simp] theorem State.setLsw_pub (s : State) (x) : (s.setLsw x).pub = s.pub := rfl
@[simp] theorem State.setLsw_stage (s : State) (x) : (s.setLsw x).stage = s.stage := rfl
@[simp] theorem State.setLsw_fab (s : State) (x) : (s.setLsw x).fab = s.fab := rfl
@[simp] theorem State.setLsw_clk (s : State) (x) : (s.setLsw x).clk = s.clk := rfl
@[simp] theorem State.setLsw_gw (s : State) (x) : (s.setLsw x).gw = s.gw := rfl
@[simp] theorem State.setLsw_ce (s : State) (x) : (s.setLsw x).ce = s.ce := rfl
@[simp] theorem State.setLsw_uin (s : State) (x) : (s.setLsw x).uin = s.uin := rfl
@[simp] theorem State.setLsw_gov (s : State) (x) : (s.setLsw x).gov = s.gov := rfl
@[simp] theorem State.setLsw_mfp (s : State) (x) : (s.setLsw x).mfp = s.mfp := rfl
@[simp] theorem State.setLsw_yld (s : State) (x) : (s.setLsw x).yld = s.yld := rfl
@[simp] theorem State.setLsw_gns (s : State) (x) : (s.setLsw x).gns = s.gns := rfl
@[simp] theorem State.setLsw_steer (s : State) (x) : (s.setLsw x).steer = s.steer := rfl
@[simp] theorem State.setLsw_cam (s : State) (x) : (s.setLsw x).cam = s.cam := rfl
@[simp] theorem State.setLsw_fus (s : State) (x) : (s.setLsw x).fus = s.fus := rfl
@[simp] theorem State.setLsw_flr (s : State) (x) : (s.setLsw x).flr = s.flr := rfl
@[simp] theorem State.setLsw_dma (s : State) (x) : (s.setLsw x).dma = s.dma := rfl
@[simp] theorem State.setLsw_can (s : State) (x) : (s.setLsw x).can = s.can := rfl
@[simp] theorem State.setLsw_eth (s : State) (x) : (s.setLsw x).eth = s.eth := rfl
@[simp] theorem State.setLsw_vhp (s : State) (x) : (s.setLsw x).vhp = s.vhp := rfl
@[simp] theorem State.setLsw_vlv (s : State) (x) : (s.setLsw x).vlv = s.vlv := rfl
@[simp] theorem State.setLsw_lsw (s : State) (x) : (s.setLsw x).lsw = x := rfl
@[simp] theorem State.setLsw_saf (s : State) (x) : (s.setLsw x).saf = s.saf := rfl
@[simp] theorem State.setLsw_dsp (s : State) (x) : (s.setLsw x).dsp = s.dsp := rfl
@[simp] theorem State.setLsw_bst (s : State) (x) : (s.setLsw x).bst = s.bst := rfl
@[simp] theorem State.setLsw_evr (s : State) (x) : (s.setLsw x).evr = s.evr := rfl
@[simp] theorem State.setLsw_tab (s : State) (x) : (s.setLsw x).tab = s.tab := rfl
@[simp] theorem State.setLsw_rpl (s : State) (x) : (s.setLsw x).rpl = s.rpl := rfl
@[simp] theorem State.setLsw_upd (s : State) (x) : (s.setLsw x).upd = s.upd := rfl
@[simp] theorem State.setLsw_pm (s : State) (x) : (s.setLsw x).pm = s.pm := rfl
@[simp] theorem State.setLsw_freeCtr (s : State) (x) : (s.setLsw x).freeCtr = s.freeCtr := rfl
@[simp] theorem State.setLsw_pending (s : State) (x) : (s.setLsw x).pending = s.pending := rfl

@[simp] theorem State.setSaf_regs (s : State) (x) : (s.setSaf x).regs = s.regs := rfl
@[simp] theorem State.setSaf_mem (s : State) (x) : (s.setSaf x).mem = s.mem := rfl
@[simp] theorem State.setSaf_pub (s : State) (x) : (s.setSaf x).pub = s.pub := rfl
@[simp] theorem State.setSaf_stage (s : State) (x) : (s.setSaf x).stage = s.stage := rfl
@[simp] theorem State.setSaf_fab (s : State) (x) : (s.setSaf x).fab = s.fab := rfl
@[simp] theorem State.setSaf_clk (s : State) (x) : (s.setSaf x).clk = s.clk := rfl
@[simp] theorem State.setSaf_gw (s : State) (x) : (s.setSaf x).gw = s.gw := rfl
@[simp] theorem State.setSaf_ce (s : State) (x) : (s.setSaf x).ce = s.ce := rfl
@[simp] theorem State.setSaf_uin (s : State) (x) : (s.setSaf x).uin = s.uin := rfl
@[simp] theorem State.setSaf_gov (s : State) (x) : (s.setSaf x).gov = s.gov := rfl
@[simp] theorem State.setSaf_mfp (s : State) (x) : (s.setSaf x).mfp = s.mfp := rfl
@[simp] theorem State.setSaf_yld (s : State) (x) : (s.setSaf x).yld = s.yld := rfl
@[simp] theorem State.setSaf_gns (s : State) (x) : (s.setSaf x).gns = s.gns := rfl
@[simp] theorem State.setSaf_steer (s : State) (x) : (s.setSaf x).steer = s.steer := rfl
@[simp] theorem State.setSaf_cam (s : State) (x) : (s.setSaf x).cam = s.cam := rfl
@[simp] theorem State.setSaf_fus (s : State) (x) : (s.setSaf x).fus = s.fus := rfl
@[simp] theorem State.setSaf_flr (s : State) (x) : (s.setSaf x).flr = s.flr := rfl
@[simp] theorem State.setSaf_dma (s : State) (x) : (s.setSaf x).dma = s.dma := rfl
@[simp] theorem State.setSaf_can (s : State) (x) : (s.setSaf x).can = s.can := rfl
@[simp] theorem State.setSaf_eth (s : State) (x) : (s.setSaf x).eth = s.eth := rfl
@[simp] theorem State.setSaf_vhp (s : State) (x) : (s.setSaf x).vhp = s.vhp := rfl
@[simp] theorem State.setSaf_vlv (s : State) (x) : (s.setSaf x).vlv = s.vlv := rfl
@[simp] theorem State.setSaf_lsw (s : State) (x) : (s.setSaf x).lsw = s.lsw := rfl
@[simp] theorem State.setSaf_saf (s : State) (x) : (s.setSaf x).saf = x := rfl
@[simp] theorem State.setSaf_dsp (s : State) (x) : (s.setSaf x).dsp = s.dsp := rfl
@[simp] theorem State.setSaf_bst (s : State) (x) : (s.setSaf x).bst = s.bst := rfl
@[simp] theorem State.setSaf_evr (s : State) (x) : (s.setSaf x).evr = s.evr := rfl
@[simp] theorem State.setSaf_tab (s : State) (x) : (s.setSaf x).tab = s.tab := rfl
@[simp] theorem State.setSaf_rpl (s : State) (x) : (s.setSaf x).rpl = s.rpl := rfl
@[simp] theorem State.setSaf_upd (s : State) (x) : (s.setSaf x).upd = s.upd := rfl
@[simp] theorem State.setSaf_pm (s : State) (x) : (s.setSaf x).pm = s.pm := rfl
@[simp] theorem State.setSaf_freeCtr (s : State) (x) : (s.setSaf x).freeCtr = s.freeCtr := rfl
@[simp] theorem State.setSaf_pending (s : State) (x) : (s.setSaf x).pending = s.pending := rfl

@[simp] theorem State.setDsp_regs (s : State) (x) : (s.setDsp x).regs = s.regs := rfl
@[simp] theorem State.setDsp_mem (s : State) (x) : (s.setDsp x).mem = s.mem := rfl
@[simp] theorem State.setDsp_pub (s : State) (x) : (s.setDsp x).pub = s.pub := rfl
@[simp] theorem State.setDsp_stage (s : State) (x) : (s.setDsp x).stage = s.stage := rfl
@[simp] theorem State.setDsp_fab (s : State) (x) : (s.setDsp x).fab = s.fab := rfl
@[simp] theorem State.setDsp_clk (s : State) (x) : (s.setDsp x).clk = s.clk := rfl
@[simp] theorem State.setDsp_gw (s : State) (x) : (s.setDsp x).gw = s.gw := rfl
@[simp] theorem State.setDsp_ce (s : State) (x) : (s.setDsp x).ce = s.ce := rfl
@[simp] theorem State.setDsp_uin (s : State) (x) : (s.setDsp x).uin = s.uin := rfl
@[simp] theorem State.setDsp_gov (s : State) (x) : (s.setDsp x).gov = s.gov := rfl
@[simp] theorem State.setDsp_mfp (s : State) (x) : (s.setDsp x).mfp = s.mfp := rfl
@[simp] theorem State.setDsp_yld (s : State) (x) : (s.setDsp x).yld = s.yld := rfl
@[simp] theorem State.setDsp_gns (s : State) (x) : (s.setDsp x).gns = s.gns := rfl
@[simp] theorem State.setDsp_steer (s : State) (x) : (s.setDsp x).steer = s.steer := rfl
@[simp] theorem State.setDsp_cam (s : State) (x) : (s.setDsp x).cam = s.cam := rfl
@[simp] theorem State.setDsp_fus (s : State) (x) : (s.setDsp x).fus = s.fus := rfl
@[simp] theorem State.setDsp_flr (s : State) (x) : (s.setDsp x).flr = s.flr := rfl
@[simp] theorem State.setDsp_dma (s : State) (x) : (s.setDsp x).dma = s.dma := rfl
@[simp] theorem State.setDsp_can (s : State) (x) : (s.setDsp x).can = s.can := rfl
@[simp] theorem State.setDsp_eth (s : State) (x) : (s.setDsp x).eth = s.eth := rfl
@[simp] theorem State.setDsp_vhp (s : State) (x) : (s.setDsp x).vhp = s.vhp := rfl
@[simp] theorem State.setDsp_vlv (s : State) (x) : (s.setDsp x).vlv = s.vlv := rfl
@[simp] theorem State.setDsp_lsw (s : State) (x) : (s.setDsp x).lsw = s.lsw := rfl
@[simp] theorem State.setDsp_saf (s : State) (x) : (s.setDsp x).saf = s.saf := rfl
@[simp] theorem State.setDsp_dsp (s : State) (x) : (s.setDsp x).dsp = x := rfl
@[simp] theorem State.setDsp_bst (s : State) (x) : (s.setDsp x).bst = s.bst := rfl
@[simp] theorem State.setDsp_evr (s : State) (x) : (s.setDsp x).evr = s.evr := rfl
@[simp] theorem State.setDsp_tab (s : State) (x) : (s.setDsp x).tab = s.tab := rfl
@[simp] theorem State.setDsp_rpl (s : State) (x) : (s.setDsp x).rpl = s.rpl := rfl
@[simp] theorem State.setDsp_upd (s : State) (x) : (s.setDsp x).upd = s.upd := rfl
@[simp] theorem State.setDsp_pm (s : State) (x) : (s.setDsp x).pm = s.pm := rfl
@[simp] theorem State.setDsp_freeCtr (s : State) (x) : (s.setDsp x).freeCtr = s.freeCtr := rfl
@[simp] theorem State.setDsp_pending (s : State) (x) : (s.setDsp x).pending = s.pending := rfl

@[simp] theorem State.setBst_regs (s : State) (x) : (s.setBst x).regs = s.regs := rfl
@[simp] theorem State.setBst_mem (s : State) (x) : (s.setBst x).mem = s.mem := rfl
@[simp] theorem State.setBst_pub (s : State) (x) : (s.setBst x).pub = s.pub := rfl
@[simp] theorem State.setBst_stage (s : State) (x) : (s.setBst x).stage = s.stage := rfl
@[simp] theorem State.setBst_fab (s : State) (x) : (s.setBst x).fab = s.fab := rfl
@[simp] theorem State.setBst_clk (s : State) (x) : (s.setBst x).clk = s.clk := rfl
@[simp] theorem State.setBst_gw (s : State) (x) : (s.setBst x).gw = s.gw := rfl
@[simp] theorem State.setBst_ce (s : State) (x) : (s.setBst x).ce = s.ce := rfl
@[simp] theorem State.setBst_uin (s : State) (x) : (s.setBst x).uin = s.uin := rfl
@[simp] theorem State.setBst_gov (s : State) (x) : (s.setBst x).gov = s.gov := rfl
@[simp] theorem State.setBst_mfp (s : State) (x) : (s.setBst x).mfp = s.mfp := rfl
@[simp] theorem State.setBst_yld (s : State) (x) : (s.setBst x).yld = s.yld := rfl
@[simp] theorem State.setBst_gns (s : State) (x) : (s.setBst x).gns = s.gns := rfl
@[simp] theorem State.setBst_steer (s : State) (x) : (s.setBst x).steer = s.steer := rfl
@[simp] theorem State.setBst_cam (s : State) (x) : (s.setBst x).cam = s.cam := rfl
@[simp] theorem State.setBst_fus (s : State) (x) : (s.setBst x).fus = s.fus := rfl
@[simp] theorem State.setBst_flr (s : State) (x) : (s.setBst x).flr = s.flr := rfl
@[simp] theorem State.setBst_dma (s : State) (x) : (s.setBst x).dma = s.dma := rfl
@[simp] theorem State.setBst_can (s : State) (x) : (s.setBst x).can = s.can := rfl
@[simp] theorem State.setBst_eth (s : State) (x) : (s.setBst x).eth = s.eth := rfl
@[simp] theorem State.setBst_vhp (s : State) (x) : (s.setBst x).vhp = s.vhp := rfl
@[simp] theorem State.setBst_vlv (s : State) (x) : (s.setBst x).vlv = s.vlv := rfl
@[simp] theorem State.setBst_lsw (s : State) (x) : (s.setBst x).lsw = s.lsw := rfl
@[simp] theorem State.setBst_saf (s : State) (x) : (s.setBst x).saf = s.saf := rfl
@[simp] theorem State.setBst_dsp (s : State) (x) : (s.setBst x).dsp = s.dsp := rfl
@[simp] theorem State.setBst_bst (s : State) (x) : (s.setBst x).bst = x := rfl
@[simp] theorem State.setBst_evr (s : State) (x) : (s.setBst x).evr = s.evr := rfl
@[simp] theorem State.setBst_tab (s : State) (x) : (s.setBst x).tab = s.tab := rfl
@[simp] theorem State.setBst_rpl (s : State) (x) : (s.setBst x).rpl = s.rpl := rfl
@[simp] theorem State.setBst_upd (s : State) (x) : (s.setBst x).upd = s.upd := rfl
@[simp] theorem State.setBst_pm (s : State) (x) : (s.setBst x).pm = s.pm := rfl
@[simp] theorem State.setBst_freeCtr (s : State) (x) : (s.setBst x).freeCtr = s.freeCtr := rfl
@[simp] theorem State.setBst_pending (s : State) (x) : (s.setBst x).pending = s.pending := rfl

@[simp] theorem State.setEvr_regs (s : State) (x) : (s.setEvr x).regs = s.regs := rfl
@[simp] theorem State.setEvr_mem (s : State) (x) : (s.setEvr x).mem = s.mem := rfl
@[simp] theorem State.setEvr_pub (s : State) (x) : (s.setEvr x).pub = s.pub := rfl
@[simp] theorem State.setEvr_stage (s : State) (x) : (s.setEvr x).stage = s.stage := rfl
@[simp] theorem State.setEvr_fab (s : State) (x) : (s.setEvr x).fab = s.fab := rfl
@[simp] theorem State.setEvr_clk (s : State) (x) : (s.setEvr x).clk = s.clk := rfl
@[simp] theorem State.setEvr_gw (s : State) (x) : (s.setEvr x).gw = s.gw := rfl
@[simp] theorem State.setEvr_ce (s : State) (x) : (s.setEvr x).ce = s.ce := rfl
@[simp] theorem State.setEvr_uin (s : State) (x) : (s.setEvr x).uin = s.uin := rfl
@[simp] theorem State.setEvr_gov (s : State) (x) : (s.setEvr x).gov = s.gov := rfl
@[simp] theorem State.setEvr_mfp (s : State) (x) : (s.setEvr x).mfp = s.mfp := rfl
@[simp] theorem State.setEvr_yld (s : State) (x) : (s.setEvr x).yld = s.yld := rfl
@[simp] theorem State.setEvr_gns (s : State) (x) : (s.setEvr x).gns = s.gns := rfl
@[simp] theorem State.setEvr_steer (s : State) (x) : (s.setEvr x).steer = s.steer := rfl
@[simp] theorem State.setEvr_cam (s : State) (x) : (s.setEvr x).cam = s.cam := rfl
@[simp] theorem State.setEvr_fus (s : State) (x) : (s.setEvr x).fus = s.fus := rfl
@[simp] theorem State.setEvr_flr (s : State) (x) : (s.setEvr x).flr = s.flr := rfl
@[simp] theorem State.setEvr_dma (s : State) (x) : (s.setEvr x).dma = s.dma := rfl
@[simp] theorem State.setEvr_can (s : State) (x) : (s.setEvr x).can = s.can := rfl
@[simp] theorem State.setEvr_eth (s : State) (x) : (s.setEvr x).eth = s.eth := rfl
@[simp] theorem State.setEvr_vhp (s : State) (x) : (s.setEvr x).vhp = s.vhp := rfl
@[simp] theorem State.setEvr_vlv (s : State) (x) : (s.setEvr x).vlv = s.vlv := rfl
@[simp] theorem State.setEvr_lsw (s : State) (x) : (s.setEvr x).lsw = s.lsw := rfl
@[simp] theorem State.setEvr_saf (s : State) (x) : (s.setEvr x).saf = s.saf := rfl
@[simp] theorem State.setEvr_dsp (s : State) (x) : (s.setEvr x).dsp = s.dsp := rfl
@[simp] theorem State.setEvr_bst (s : State) (x) : (s.setEvr x).bst = s.bst := rfl
@[simp] theorem State.setEvr_evr (s : State) (x) : (s.setEvr x).evr = x := rfl
@[simp] theorem State.setEvr_tab (s : State) (x) : (s.setEvr x).tab = s.tab := rfl
@[simp] theorem State.setEvr_rpl (s : State) (x) : (s.setEvr x).rpl = s.rpl := rfl
@[simp] theorem State.setEvr_upd (s : State) (x) : (s.setEvr x).upd = s.upd := rfl
@[simp] theorem State.setEvr_pm (s : State) (x) : (s.setEvr x).pm = s.pm := rfl
@[simp] theorem State.setEvr_freeCtr (s : State) (x) : (s.setEvr x).freeCtr = s.freeCtr := rfl
@[simp] theorem State.setEvr_pending (s : State) (x) : (s.setEvr x).pending = s.pending := rfl

@[simp] theorem State.setTab_regs (s : State) (x) : (s.setTab x).regs = s.regs := rfl
@[simp] theorem State.setTab_mem (s : State) (x) : (s.setTab x).mem = s.mem := rfl
@[simp] theorem State.setTab_pub (s : State) (x) : (s.setTab x).pub = s.pub := rfl
@[simp] theorem State.setTab_stage (s : State) (x) : (s.setTab x).stage = s.stage := rfl
@[simp] theorem State.setTab_fab (s : State) (x) : (s.setTab x).fab = s.fab := rfl
@[simp] theorem State.setTab_clk (s : State) (x) : (s.setTab x).clk = s.clk := rfl
@[simp] theorem State.setTab_gw (s : State) (x) : (s.setTab x).gw = s.gw := rfl
@[simp] theorem State.setTab_ce (s : State) (x) : (s.setTab x).ce = s.ce := rfl
@[simp] theorem State.setTab_uin (s : State) (x) : (s.setTab x).uin = s.uin := rfl
@[simp] theorem State.setTab_gov (s : State) (x) : (s.setTab x).gov = s.gov := rfl
@[simp] theorem State.setTab_mfp (s : State) (x) : (s.setTab x).mfp = s.mfp := rfl
@[simp] theorem State.setTab_yld (s : State) (x) : (s.setTab x).yld = s.yld := rfl
@[simp] theorem State.setTab_gns (s : State) (x) : (s.setTab x).gns = s.gns := rfl
@[simp] theorem State.setTab_steer (s : State) (x) : (s.setTab x).steer = s.steer := rfl
@[simp] theorem State.setTab_cam (s : State) (x) : (s.setTab x).cam = s.cam := rfl
@[simp] theorem State.setTab_fus (s : State) (x) : (s.setTab x).fus = s.fus := rfl
@[simp] theorem State.setTab_flr (s : State) (x) : (s.setTab x).flr = s.flr := rfl
@[simp] theorem State.setTab_dma (s : State) (x) : (s.setTab x).dma = s.dma := rfl
@[simp] theorem State.setTab_can (s : State) (x) : (s.setTab x).can = s.can := rfl
@[simp] theorem State.setTab_eth (s : State) (x) : (s.setTab x).eth = s.eth := rfl
@[simp] theorem State.setTab_vhp (s : State) (x) : (s.setTab x).vhp = s.vhp := rfl
@[simp] theorem State.setTab_vlv (s : State) (x) : (s.setTab x).vlv = s.vlv := rfl
@[simp] theorem State.setTab_lsw (s : State) (x) : (s.setTab x).lsw = s.lsw := rfl
@[simp] theorem State.setTab_saf (s : State) (x) : (s.setTab x).saf = s.saf := rfl
@[simp] theorem State.setTab_dsp (s : State) (x) : (s.setTab x).dsp = s.dsp := rfl
@[simp] theorem State.setTab_bst (s : State) (x) : (s.setTab x).bst = s.bst := rfl
@[simp] theorem State.setTab_evr (s : State) (x) : (s.setTab x).evr = s.evr := rfl
@[simp] theorem State.setTab_tab (s : State) (x) : (s.setTab x).tab = x := rfl
@[simp] theorem State.setTab_rpl (s : State) (x) : (s.setTab x).rpl = s.rpl := rfl
@[simp] theorem State.setTab_upd (s : State) (x) : (s.setTab x).upd = s.upd := rfl
@[simp] theorem State.setTab_pm (s : State) (x) : (s.setTab x).pm = s.pm := rfl
@[simp] theorem State.setTab_freeCtr (s : State) (x) : (s.setTab x).freeCtr = s.freeCtr := rfl
@[simp] theorem State.setTab_pending (s : State) (x) : (s.setTab x).pending = s.pending := rfl

@[simp] theorem State.setRpl_regs (s : State) (x) : (s.setRpl x).regs = s.regs := rfl
@[simp] theorem State.setRpl_mem (s : State) (x) : (s.setRpl x).mem = s.mem := rfl
@[simp] theorem State.setRpl_pub (s : State) (x) : (s.setRpl x).pub = s.pub := rfl
@[simp] theorem State.setRpl_stage (s : State) (x) : (s.setRpl x).stage = s.stage := rfl
@[simp] theorem State.setRpl_fab (s : State) (x) : (s.setRpl x).fab = s.fab := rfl
@[simp] theorem State.setRpl_clk (s : State) (x) : (s.setRpl x).clk = s.clk := rfl
@[simp] theorem State.setRpl_gw (s : State) (x) : (s.setRpl x).gw = s.gw := rfl
@[simp] theorem State.setRpl_ce (s : State) (x) : (s.setRpl x).ce = s.ce := rfl
@[simp] theorem State.setRpl_uin (s : State) (x) : (s.setRpl x).uin = s.uin := rfl
@[simp] theorem State.setRpl_gov (s : State) (x) : (s.setRpl x).gov = s.gov := rfl
@[simp] theorem State.setRpl_mfp (s : State) (x) : (s.setRpl x).mfp = s.mfp := rfl
@[simp] theorem State.setRpl_yld (s : State) (x) : (s.setRpl x).yld = s.yld := rfl
@[simp] theorem State.setRpl_gns (s : State) (x) : (s.setRpl x).gns = s.gns := rfl
@[simp] theorem State.setRpl_steer (s : State) (x) : (s.setRpl x).steer = s.steer := rfl
@[simp] theorem State.setRpl_cam (s : State) (x) : (s.setRpl x).cam = s.cam := rfl
@[simp] theorem State.setRpl_fus (s : State) (x) : (s.setRpl x).fus = s.fus := rfl
@[simp] theorem State.setRpl_flr (s : State) (x) : (s.setRpl x).flr = s.flr := rfl
@[simp] theorem State.setRpl_dma (s : State) (x) : (s.setRpl x).dma = s.dma := rfl
@[simp] theorem State.setRpl_can (s : State) (x) : (s.setRpl x).can = s.can := rfl
@[simp] theorem State.setRpl_eth (s : State) (x) : (s.setRpl x).eth = s.eth := rfl
@[simp] theorem State.setRpl_vhp (s : State) (x) : (s.setRpl x).vhp = s.vhp := rfl
@[simp] theorem State.setRpl_vlv (s : State) (x) : (s.setRpl x).vlv = s.vlv := rfl
@[simp] theorem State.setRpl_lsw (s : State) (x) : (s.setRpl x).lsw = s.lsw := rfl
@[simp] theorem State.setRpl_saf (s : State) (x) : (s.setRpl x).saf = s.saf := rfl
@[simp] theorem State.setRpl_dsp (s : State) (x) : (s.setRpl x).dsp = s.dsp := rfl
@[simp] theorem State.setRpl_bst (s : State) (x) : (s.setRpl x).bst = s.bst := rfl
@[simp] theorem State.setRpl_evr (s : State) (x) : (s.setRpl x).evr = s.evr := rfl
@[simp] theorem State.setRpl_tab (s : State) (x) : (s.setRpl x).tab = s.tab := rfl
@[simp] theorem State.setRpl_rpl (s : State) (x) : (s.setRpl x).rpl = x := rfl
@[simp] theorem State.setRpl_upd (s : State) (x) : (s.setRpl x).upd = s.upd := rfl
@[simp] theorem State.setRpl_pm (s : State) (x) : (s.setRpl x).pm = s.pm := rfl
@[simp] theorem State.setRpl_freeCtr (s : State) (x) : (s.setRpl x).freeCtr = s.freeCtr := rfl
@[simp] theorem State.setRpl_pending (s : State) (x) : (s.setRpl x).pending = s.pending := rfl

@[simp] theorem State.setUpd_regs (s : State) (x) : (s.setUpd x).regs = s.regs := rfl
@[simp] theorem State.setUpd_mem (s : State) (x) : (s.setUpd x).mem = s.mem := rfl
@[simp] theorem State.setUpd_pub (s : State) (x) : (s.setUpd x).pub = s.pub := rfl
@[simp] theorem State.setUpd_stage (s : State) (x) : (s.setUpd x).stage = s.stage := rfl
@[simp] theorem State.setUpd_fab (s : State) (x) : (s.setUpd x).fab = s.fab := rfl
@[simp] theorem State.setUpd_clk (s : State) (x) : (s.setUpd x).clk = s.clk := rfl
@[simp] theorem State.setUpd_gw (s : State) (x) : (s.setUpd x).gw = s.gw := rfl
@[simp] theorem State.setUpd_ce (s : State) (x) : (s.setUpd x).ce = s.ce := rfl
@[simp] theorem State.setUpd_uin (s : State) (x) : (s.setUpd x).uin = s.uin := rfl
@[simp] theorem State.setUpd_gov (s : State) (x) : (s.setUpd x).gov = s.gov := rfl
@[simp] theorem State.setUpd_mfp (s : State) (x) : (s.setUpd x).mfp = s.mfp := rfl
@[simp] theorem State.setUpd_yld (s : State) (x) : (s.setUpd x).yld = s.yld := rfl
@[simp] theorem State.setUpd_gns (s : State) (x) : (s.setUpd x).gns = s.gns := rfl
@[simp] theorem State.setUpd_steer (s : State) (x) : (s.setUpd x).steer = s.steer := rfl
@[simp] theorem State.setUpd_cam (s : State) (x) : (s.setUpd x).cam = s.cam := rfl
@[simp] theorem State.setUpd_fus (s : State) (x) : (s.setUpd x).fus = s.fus := rfl
@[simp] theorem State.setUpd_flr (s : State) (x) : (s.setUpd x).flr = s.flr := rfl
@[simp] theorem State.setUpd_dma (s : State) (x) : (s.setUpd x).dma = s.dma := rfl
@[simp] theorem State.setUpd_can (s : State) (x) : (s.setUpd x).can = s.can := rfl
@[simp] theorem State.setUpd_eth (s : State) (x) : (s.setUpd x).eth = s.eth := rfl
@[simp] theorem State.setUpd_vhp (s : State) (x) : (s.setUpd x).vhp = s.vhp := rfl
@[simp] theorem State.setUpd_vlv (s : State) (x) : (s.setUpd x).vlv = s.vlv := rfl
@[simp] theorem State.setUpd_lsw (s : State) (x) : (s.setUpd x).lsw = s.lsw := rfl
@[simp] theorem State.setUpd_saf (s : State) (x) : (s.setUpd x).saf = s.saf := rfl
@[simp] theorem State.setUpd_dsp (s : State) (x) : (s.setUpd x).dsp = s.dsp := rfl
@[simp] theorem State.setUpd_bst (s : State) (x) : (s.setUpd x).bst = s.bst := rfl
@[simp] theorem State.setUpd_evr (s : State) (x) : (s.setUpd x).evr = s.evr := rfl
@[simp] theorem State.setUpd_tab (s : State) (x) : (s.setUpd x).tab = s.tab := rfl
@[simp] theorem State.setUpd_rpl (s : State) (x) : (s.setUpd x).rpl = s.rpl := rfl
@[simp] theorem State.setUpd_upd (s : State) (x) : (s.setUpd x).upd = x := rfl
@[simp] theorem State.setUpd_pm (s : State) (x) : (s.setUpd x).pm = s.pm := rfl
@[simp] theorem State.setUpd_freeCtr (s : State) (x) : (s.setUpd x).freeCtr = s.freeCtr := rfl
@[simp] theorem State.setUpd_pending (s : State) (x) : (s.setUpd x).pending = s.pending := rfl

@[simp] theorem State.setPm_regs (s : State) (x) : (s.setPm x).regs = s.regs := rfl
@[simp] theorem State.setPm_mem (s : State) (x) : (s.setPm x).mem = s.mem := rfl
@[simp] theorem State.setPm_pub (s : State) (x) : (s.setPm x).pub = s.pub := rfl
@[simp] theorem State.setPm_stage (s : State) (x) : (s.setPm x).stage = s.stage := rfl
@[simp] theorem State.setPm_fab (s : State) (x) : (s.setPm x).fab = s.fab := rfl
@[simp] theorem State.setPm_clk (s : State) (x) : (s.setPm x).clk = s.clk := rfl
@[simp] theorem State.setPm_gw (s : State) (x) : (s.setPm x).gw = s.gw := rfl
@[simp] theorem State.setPm_ce (s : State) (x) : (s.setPm x).ce = s.ce := rfl
@[simp] theorem State.setPm_uin (s : State) (x) : (s.setPm x).uin = s.uin := rfl
@[simp] theorem State.setPm_gov (s : State) (x) : (s.setPm x).gov = s.gov := rfl
@[simp] theorem State.setPm_mfp (s : State) (x) : (s.setPm x).mfp = s.mfp := rfl
@[simp] theorem State.setPm_yld (s : State) (x) : (s.setPm x).yld = s.yld := rfl
@[simp] theorem State.setPm_gns (s : State) (x) : (s.setPm x).gns = s.gns := rfl
@[simp] theorem State.setPm_steer (s : State) (x) : (s.setPm x).steer = s.steer := rfl
@[simp] theorem State.setPm_cam (s : State) (x) : (s.setPm x).cam = s.cam := rfl
@[simp] theorem State.setPm_fus (s : State) (x) : (s.setPm x).fus = s.fus := rfl
@[simp] theorem State.setPm_flr (s : State) (x) : (s.setPm x).flr = s.flr := rfl
@[simp] theorem State.setPm_dma (s : State) (x) : (s.setPm x).dma = s.dma := rfl
@[simp] theorem State.setPm_can (s : State) (x) : (s.setPm x).can = s.can := rfl
@[simp] theorem State.setPm_eth (s : State) (x) : (s.setPm x).eth = s.eth := rfl
@[simp] theorem State.setPm_vhp (s : State) (x) : (s.setPm x).vhp = s.vhp := rfl
@[simp] theorem State.setPm_vlv (s : State) (x) : (s.setPm x).vlv = s.vlv := rfl
@[simp] theorem State.setPm_lsw (s : State) (x) : (s.setPm x).lsw = s.lsw := rfl
@[simp] theorem State.setPm_saf (s : State) (x) : (s.setPm x).saf = s.saf := rfl
@[simp] theorem State.setPm_dsp (s : State) (x) : (s.setPm x).dsp = s.dsp := rfl
@[simp] theorem State.setPm_bst (s : State) (x) : (s.setPm x).bst = s.bst := rfl
@[simp] theorem State.setPm_evr (s : State) (x) : (s.setPm x).evr = s.evr := rfl
@[simp] theorem State.setPm_tab (s : State) (x) : (s.setPm x).tab = s.tab := rfl
@[simp] theorem State.setPm_rpl (s : State) (x) : (s.setPm x).rpl = s.rpl := rfl
@[simp] theorem State.setPm_upd (s : State) (x) : (s.setPm x).upd = s.upd := rfl
@[simp] theorem State.setPm_pm (s : State) (x) : (s.setPm x).pm = x := rfl
@[simp] theorem State.setPm_freeCtr (s : State) (x) : (s.setPm x).freeCtr = s.freeCtr := rfl
@[simp] theorem State.setPm_pending (s : State) (x) : (s.setPm x).pending = s.pending := rfl

@[simp] theorem State.setReg_regs (s : State) (a : Nat) (w : Word) : (s.setReg a w).regs = smPut (resetVal a) s.regs a w := rfl
@[simp] theorem State.setReg_mem (s : State) (a : Nat) (w : Word) : (s.setReg a w).mem = s.mem := rfl
@[simp] theorem State.setReg_pub (s : State) (a : Nat) (w : Word) : (s.setReg a w).pub = s.pub := rfl
@[simp] theorem State.setReg_stage (s : State) (a : Nat) (w : Word) : (s.setReg a w).stage = s.stage := rfl
@[simp] theorem State.setReg_fab (s : State) (a : Nat) (w : Word) : (s.setReg a w).fab = s.fab := rfl
@[simp] theorem State.setReg_clk (s : State) (a : Nat) (w : Word) : (s.setReg a w).clk = s.clk := rfl
@[simp] theorem State.setReg_gw (s : State) (a : Nat) (w : Word) : (s.setReg a w).gw = s.gw := rfl
@[simp] theorem State.setReg_ce (s : State) (a : Nat) (w : Word) : (s.setReg a w).ce = s.ce := rfl
@[simp] theorem State.setReg_uin (s : State) (a : Nat) (w : Word) : (s.setReg a w).uin = s.uin := rfl
@[simp] theorem State.setReg_gov (s : State) (a : Nat) (w : Word) : (s.setReg a w).gov = s.gov := rfl
@[simp] theorem State.setReg_mfp (s : State) (a : Nat) (w : Word) : (s.setReg a w).mfp = s.mfp := rfl
@[simp] theorem State.setReg_yld (s : State) (a : Nat) (w : Word) : (s.setReg a w).yld = s.yld := rfl
@[simp] theorem State.setReg_gns (s : State) (a : Nat) (w : Word) : (s.setReg a w).gns = s.gns := rfl
@[simp] theorem State.setReg_steer (s : State) (a : Nat) (w : Word) : (s.setReg a w).steer = s.steer := rfl
@[simp] theorem State.setReg_cam (s : State) (a : Nat) (w : Word) : (s.setReg a w).cam = s.cam := rfl
@[simp] theorem State.setReg_fus (s : State) (a : Nat) (w : Word) : (s.setReg a w).fus = s.fus := rfl
@[simp] theorem State.setReg_flr (s : State) (a : Nat) (w : Word) : (s.setReg a w).flr = s.flr := rfl
@[simp] theorem State.setReg_dma (s : State) (a : Nat) (w : Word) : (s.setReg a w).dma = s.dma := rfl
@[simp] theorem State.setReg_can (s : State) (a : Nat) (w : Word) : (s.setReg a w).can = s.can := rfl
@[simp] theorem State.setReg_eth (s : State) (a : Nat) (w : Word) : (s.setReg a w).eth = s.eth := rfl
@[simp] theorem State.setReg_vhp (s : State) (a : Nat) (w : Word) : (s.setReg a w).vhp = s.vhp := rfl
@[simp] theorem State.setReg_vlv (s : State) (a : Nat) (w : Word) : (s.setReg a w).vlv = s.vlv := rfl
@[simp] theorem State.setReg_lsw (s : State) (a : Nat) (w : Word) : (s.setReg a w).lsw = s.lsw := rfl
@[simp] theorem State.setReg_saf (s : State) (a : Nat) (w : Word) : (s.setReg a w).saf = s.saf := rfl
@[simp] theorem State.setReg_dsp (s : State) (a : Nat) (w : Word) : (s.setReg a w).dsp = s.dsp := rfl
@[simp] theorem State.setReg_bst (s : State) (a : Nat) (w : Word) : (s.setReg a w).bst = s.bst := rfl
@[simp] theorem State.setReg_evr (s : State) (a : Nat) (w : Word) : (s.setReg a w).evr = s.evr := rfl
@[simp] theorem State.setReg_tab (s : State) (a : Nat) (w : Word) : (s.setReg a w).tab = s.tab := rfl
@[simp] theorem State.setReg_rpl (s : State) (a : Nat) (w : Word) : (s.setReg a w).rpl = s.rpl := rfl
@[simp] theorem State.setReg_upd (s : State) (a : Nat) (w : Word) : (s.setReg a w).upd = s.upd := rfl
@[simp] theorem State.setReg_pm (s : State) (a : Nat) (w : Word) : (s.setReg a w).pm = s.pm := rfl
@[simp] theorem State.setReg_freeCtr (s : State) (a : Nat) (w : Word) : (s.setReg a w).freeCtr = s.freeCtr := rfl
@[simp] theorem State.setReg_pending (s : State) (a : Nat) (w : Word) : (s.setReg a w).pending = s.pending := rfl

@[simp] theorem State.setByte_regs (s : State) (a : Nat) (w : Byte) : (s.setByte a w).regs = s.regs := rfl
@[simp] theorem State.setByte_mem (s : State) (a : Nat) (w : Byte) : (s.setByte a w).mem = smPut 0 s.mem a w := rfl
@[simp] theorem State.setByte_pub (s : State) (a : Nat) (w : Byte) : (s.setByte a w).pub = s.pub := rfl
@[simp] theorem State.setByte_stage (s : State) (a : Nat) (w : Byte) : (s.setByte a w).stage = s.stage := rfl
@[simp] theorem State.setByte_fab (s : State) (a : Nat) (w : Byte) : (s.setByte a w).fab = s.fab := rfl
@[simp] theorem State.setByte_clk (s : State) (a : Nat) (w : Byte) : (s.setByte a w).clk = s.clk := rfl
@[simp] theorem State.setByte_gw (s : State) (a : Nat) (w : Byte) : (s.setByte a w).gw = s.gw := rfl
@[simp] theorem State.setByte_ce (s : State) (a : Nat) (w : Byte) : (s.setByte a w).ce = s.ce := rfl
@[simp] theorem State.setByte_uin (s : State) (a : Nat) (w : Byte) : (s.setByte a w).uin = s.uin := rfl
@[simp] theorem State.setByte_gov (s : State) (a : Nat) (w : Byte) : (s.setByte a w).gov = s.gov := rfl
@[simp] theorem State.setByte_mfp (s : State) (a : Nat) (w : Byte) : (s.setByte a w).mfp = s.mfp := rfl
@[simp] theorem State.setByte_yld (s : State) (a : Nat) (w : Byte) : (s.setByte a w).yld = s.yld := rfl
@[simp] theorem State.setByte_gns (s : State) (a : Nat) (w : Byte) : (s.setByte a w).gns = s.gns := rfl
@[simp] theorem State.setByte_steer (s : State) (a : Nat) (w : Byte) : (s.setByte a w).steer = s.steer := rfl
@[simp] theorem State.setByte_cam (s : State) (a : Nat) (w : Byte) : (s.setByte a w).cam = s.cam := rfl
@[simp] theorem State.setByte_fus (s : State) (a : Nat) (w : Byte) : (s.setByte a w).fus = s.fus := rfl
@[simp] theorem State.setByte_flr (s : State) (a : Nat) (w : Byte) : (s.setByte a w).flr = s.flr := rfl
@[simp] theorem State.setByte_dma (s : State) (a : Nat) (w : Byte) : (s.setByte a w).dma = s.dma := rfl
@[simp] theorem State.setByte_can (s : State) (a : Nat) (w : Byte) : (s.setByte a w).can = s.can := rfl
@[simp] theorem State.setByte_eth (s : State) (a : Nat) (w : Byte) : (s.setByte a w).eth = s.eth := rfl
@[simp] theorem State.setByte_vhp (s : State) (a : Nat) (w : Byte) : (s.setByte a w).vhp = s.vhp := rfl
@[simp] theorem State.setByte_vlv (s : State) (a : Nat) (w : Byte) : (s.setByte a w).vlv = s.vlv := rfl
@[simp] theorem State.setByte_lsw (s : State) (a : Nat) (w : Byte) : (s.setByte a w).lsw = s.lsw := rfl
@[simp] theorem State.setByte_saf (s : State) (a : Nat) (w : Byte) : (s.setByte a w).saf = s.saf := rfl
@[simp] theorem State.setByte_dsp (s : State) (a : Nat) (w : Byte) : (s.setByte a w).dsp = s.dsp := rfl
@[simp] theorem State.setByte_bst (s : State) (a : Nat) (w : Byte) : (s.setByte a w).bst = s.bst := rfl
@[simp] theorem State.setByte_evr (s : State) (a : Nat) (w : Byte) : (s.setByte a w).evr = s.evr := rfl
@[simp] theorem State.setByte_tab (s : State) (a : Nat) (w : Byte) : (s.setByte a w).tab = s.tab := rfl
@[simp] theorem State.setByte_rpl (s : State) (a : Nat) (w : Byte) : (s.setByte a w).rpl = s.rpl := rfl
@[simp] theorem State.setByte_upd (s : State) (a : Nat) (w : Byte) : (s.setByte a w).upd = s.upd := rfl
@[simp] theorem State.setByte_pm (s : State) (a : Nat) (w : Byte) : (s.setByte a w).pm = s.pm := rfl
@[simp] theorem State.setByte_freeCtr (s : State) (a : Nat) (w : Byte) : (s.setByte a w).freeCtr = s.freeCtr := rfl
@[simp] theorem State.setByte_pending (s : State) (a : Nat) (w : Byte) : (s.setByte a w).pending = s.pending := rfl

@[simp] theorem State.setPub_regs (s : State) (a : Nat) (w : PubV) : (s.setPub a w).regs = s.regs := rfl
@[simp] theorem State.setPub_mem (s : State) (a : Nat) (w : PubV) : (s.setPub a w).mem = s.mem := rfl
@[simp] theorem State.setPub_pub (s : State) (a : Nat) (w : PubV) : (s.setPub a w).pub = smPut {} s.pub a w := rfl
@[simp] theorem State.setPub_stage (s : State) (a : Nat) (w : PubV) : (s.setPub a w).stage = s.stage := rfl
@[simp] theorem State.setPub_fab (s : State) (a : Nat) (w : PubV) : (s.setPub a w).fab = s.fab := rfl
@[simp] theorem State.setPub_clk (s : State) (a : Nat) (w : PubV) : (s.setPub a w).clk = s.clk := rfl
@[simp] theorem State.setPub_gw (s : State) (a : Nat) (w : PubV) : (s.setPub a w).gw = s.gw := rfl
@[simp] theorem State.setPub_ce (s : State) (a : Nat) (w : PubV) : (s.setPub a w).ce = s.ce := rfl
@[simp] theorem State.setPub_uin (s : State) (a : Nat) (w : PubV) : (s.setPub a w).uin = s.uin := rfl
@[simp] theorem State.setPub_gov (s : State) (a : Nat) (w : PubV) : (s.setPub a w).gov = s.gov := rfl
@[simp] theorem State.setPub_mfp (s : State) (a : Nat) (w : PubV) : (s.setPub a w).mfp = s.mfp := rfl
@[simp] theorem State.setPub_yld (s : State) (a : Nat) (w : PubV) : (s.setPub a w).yld = s.yld := rfl
@[simp] theorem State.setPub_gns (s : State) (a : Nat) (w : PubV) : (s.setPub a w).gns = s.gns := rfl
@[simp] theorem State.setPub_steer (s : State) (a : Nat) (w : PubV) : (s.setPub a w).steer = s.steer := rfl
@[simp] theorem State.setPub_cam (s : State) (a : Nat) (w : PubV) : (s.setPub a w).cam = s.cam := rfl
@[simp] theorem State.setPub_fus (s : State) (a : Nat) (w : PubV) : (s.setPub a w).fus = s.fus := rfl
@[simp] theorem State.setPub_flr (s : State) (a : Nat) (w : PubV) : (s.setPub a w).flr = s.flr := rfl
@[simp] theorem State.setPub_dma (s : State) (a : Nat) (w : PubV) : (s.setPub a w).dma = s.dma := rfl
@[simp] theorem State.setPub_can (s : State) (a : Nat) (w : PubV) : (s.setPub a w).can = s.can := rfl
@[simp] theorem State.setPub_eth (s : State) (a : Nat) (w : PubV) : (s.setPub a w).eth = s.eth := rfl
@[simp] theorem State.setPub_vhp (s : State) (a : Nat) (w : PubV) : (s.setPub a w).vhp = s.vhp := rfl
@[simp] theorem State.setPub_vlv (s : State) (a : Nat) (w : PubV) : (s.setPub a w).vlv = s.vlv := rfl
@[simp] theorem State.setPub_lsw (s : State) (a : Nat) (w : PubV) : (s.setPub a w).lsw = s.lsw := rfl
@[simp] theorem State.setPub_saf (s : State) (a : Nat) (w : PubV) : (s.setPub a w).saf = s.saf := rfl
@[simp] theorem State.setPub_dsp (s : State) (a : Nat) (w : PubV) : (s.setPub a w).dsp = s.dsp := rfl
@[simp] theorem State.setPub_bst (s : State) (a : Nat) (w : PubV) : (s.setPub a w).bst = s.bst := rfl
@[simp] theorem State.setPub_evr (s : State) (a : Nat) (w : PubV) : (s.setPub a w).evr = s.evr := rfl
@[simp] theorem State.setPub_tab (s : State) (a : Nat) (w : PubV) : (s.setPub a w).tab = s.tab := rfl
@[simp] theorem State.setPub_rpl (s : State) (a : Nat) (w : PubV) : (s.setPub a w).rpl = s.rpl := rfl
@[simp] theorem State.setPub_upd (s : State) (a : Nat) (w : PubV) : (s.setPub a w).upd = s.upd := rfl
@[simp] theorem State.setPub_pm (s : State) (a : Nat) (w : PubV) : (s.setPub a w).pm = s.pm := rfl
@[simp] theorem State.setPub_freeCtr (s : State) (a : Nat) (w : PubV) : (s.setPub a w).freeCtr = s.freeCtr := rfl
@[simp] theorem State.setPub_pending (s : State) (a : Nat) (w : PubV) : (s.setPub a w).pending = s.pending := rfl

@[simp] theorem State.publish_regs (s : State) (k : Nat) (w : Word) (v : Bool) (c : Nat) : (s.publish k w v c).regs = s.regs := rfl
@[simp] theorem State.stageAt_regs (s : State) (t k : Nat) (w : Word) (v : Bool) (c : Nat) : (s.stageAt t k w v c).regs = s.regs := rfl
@[simp] theorem State.setFld_mem (s : State) (f : Fld) (v : Nat) : (s.setFld f v).mem = s.mem := rfl
@[simp] theorem State.setFlag_mem (s : State) (f : Fld) (b : Bool) : (s.setFlag f b).mem = s.mem := rfl
@[simp] theorem State.count_mem (s : State) (f : Fld) (n : Nat) : (s.count f n).mem = s.mem := rfl
@[simp] theorem State.setReg64_mem (s : State) (a b v : Nat) : (s.setReg64 a b v).mem = s.mem := rfl
@[simp] theorem State.publish_mem (s : State) (k : Nat) (w : Word) (v : Bool) (c : Nat) : (s.publish k w v c).mem = s.mem := rfl
@[simp] theorem State.stageAt_mem (s : State) (t k : Nat) (w : Word) (v : Bool) (c : Nat) : (s.stageAt t k w v c).mem = s.mem := rfl
@[simp] theorem State.setFld_pub (s : State) (f : Fld) (v : Nat) : (s.setFld f v).pub = s.pub := rfl
@[simp] theorem State.setFlag_pub (s : State) (f : Fld) (b : Bool) : (s.setFlag f b).pub = s.pub := rfl
@[simp] theorem State.count_pub (s : State) (f : Fld) (n : Nat) : (s.count f n).pub = s.pub := rfl
@[simp] theorem State.setReg64_pub (s : State) (a b v : Nat) : (s.setReg64 a b v).pub = s.pub := rfl
@[simp] theorem State.stageAt_pub (s : State) (t k : Nat) (w : Word) (v : Bool) (c : Nat) : (s.stageAt t k w v c).pub = s.pub := rfl
@[simp] theorem State.setFld_stage (s : State) (f : Fld) (v : Nat) : (s.setFld f v).stage = s.stage := rfl
@[simp] theorem State.setFlag_stage (s : State) (f : Fld) (b : Bool) : (s.setFlag f b).stage = s.stage := rfl
@[simp] theorem State.count_stage (s : State) (f : Fld) (n : Nat) : (s.count f n).stage = s.stage := rfl
@[simp] theorem State.setReg64_stage (s : State) (a b v : Nat) : (s.setReg64 a b v).stage = s.stage := rfl
@[simp] theorem State.publish_stage (s : State) (k : Nat) (w : Word) (v : Bool) (c : Nat) : (s.publish k w v c).stage = s.stage := rfl
@[simp] theorem State.setFld_fab (s : State) (f : Fld) (v : Nat) : (s.setFld f v).fab = s.fab := rfl
@[simp] theorem State.setFlag_fab (s : State) (f : Fld) (b : Bool) : (s.setFlag f b).fab = s.fab := rfl
@[simp] theorem State.count_fab (s : State) (f : Fld) (n : Nat) : (s.count f n).fab = s.fab := rfl
@[simp] theorem State.setReg64_fab (s : State) (a b v : Nat) : (s.setReg64 a b v).fab = s.fab := rfl
@[simp] theorem State.publish_fab (s : State) (k : Nat) (w : Word) (v : Bool) (c : Nat) : (s.publish k w v c).fab = s.fab := rfl
@[simp] theorem State.stageAt_fab (s : State) (t k : Nat) (w : Word) (v : Bool) (c : Nat) : (s.stageAt t k w v c).fab = s.fab := rfl
@[simp] theorem State.setFld_clk (s : State) (f : Fld) (v : Nat) : (s.setFld f v).clk = s.clk := rfl
@[simp] theorem State.setFlag_clk (s : State) (f : Fld) (b : Bool) : (s.setFlag f b).clk = s.clk := rfl
@[simp] theorem State.count_clk (s : State) (f : Fld) (n : Nat) : (s.count f n).clk = s.clk := rfl
@[simp] theorem State.setReg64_clk (s : State) (a b v : Nat) : (s.setReg64 a b v).clk = s.clk := rfl
@[simp] theorem State.publish_clk (s : State) (k : Nat) (w : Word) (v : Bool) (c : Nat) : (s.publish k w v c).clk = s.clk := rfl
@[simp] theorem State.stageAt_clk (s : State) (t k : Nat) (w : Word) (v : Bool) (c : Nat) : (s.stageAt t k w v c).clk = s.clk := rfl
@[simp] theorem State.setFld_gw (s : State) (f : Fld) (v : Nat) : (s.setFld f v).gw = s.gw := rfl
@[simp] theorem State.setFlag_gw (s : State) (f : Fld) (b : Bool) : (s.setFlag f b).gw = s.gw := rfl
@[simp] theorem State.count_gw (s : State) (f : Fld) (n : Nat) : (s.count f n).gw = s.gw := rfl
@[simp] theorem State.setReg64_gw (s : State) (a b v : Nat) : (s.setReg64 a b v).gw = s.gw := rfl
@[simp] theorem State.publish_gw (s : State) (k : Nat) (w : Word) (v : Bool) (c : Nat) : (s.publish k w v c).gw = s.gw := rfl
@[simp] theorem State.stageAt_gw (s : State) (t k : Nat) (w : Word) (v : Bool) (c : Nat) : (s.stageAt t k w v c).gw = s.gw := rfl
@[simp] theorem State.setFld_ce (s : State) (f : Fld) (v : Nat) : (s.setFld f v).ce = s.ce := rfl
@[simp] theorem State.setFlag_ce (s : State) (f : Fld) (b : Bool) : (s.setFlag f b).ce = s.ce := rfl
@[simp] theorem State.count_ce (s : State) (f : Fld) (n : Nat) : (s.count f n).ce = s.ce := rfl
@[simp] theorem State.setReg64_ce (s : State) (a b v : Nat) : (s.setReg64 a b v).ce = s.ce := rfl
@[simp] theorem State.publish_ce (s : State) (k : Nat) (w : Word) (v : Bool) (c : Nat) : (s.publish k w v c).ce = s.ce := rfl
@[simp] theorem State.stageAt_ce (s : State) (t k : Nat) (w : Word) (v : Bool) (c : Nat) : (s.stageAt t k w v c).ce = s.ce := rfl
@[simp] theorem State.setFld_uin (s : State) (f : Fld) (v : Nat) : (s.setFld f v).uin = s.uin := rfl
@[simp] theorem State.setFlag_uin (s : State) (f : Fld) (b : Bool) : (s.setFlag f b).uin = s.uin := rfl
@[simp] theorem State.count_uin (s : State) (f : Fld) (n : Nat) : (s.count f n).uin = s.uin := rfl
@[simp] theorem State.setReg64_uin (s : State) (a b v : Nat) : (s.setReg64 a b v).uin = s.uin := rfl
@[simp] theorem State.publish_uin (s : State) (k : Nat) (w : Word) (v : Bool) (c : Nat) : (s.publish k w v c).uin = s.uin := rfl
@[simp] theorem State.stageAt_uin (s : State) (t k : Nat) (w : Word) (v : Bool) (c : Nat) : (s.stageAt t k w v c).uin = s.uin := rfl
@[simp] theorem State.setFld_gov (s : State) (f : Fld) (v : Nat) : (s.setFld f v).gov = s.gov := rfl
@[simp] theorem State.setFlag_gov (s : State) (f : Fld) (b : Bool) : (s.setFlag f b).gov = s.gov := rfl
@[simp] theorem State.count_gov (s : State) (f : Fld) (n : Nat) : (s.count f n).gov = s.gov := rfl
@[simp] theorem State.setReg64_gov (s : State) (a b v : Nat) : (s.setReg64 a b v).gov = s.gov := rfl
@[simp] theorem State.publish_gov (s : State) (k : Nat) (w : Word) (v : Bool) (c : Nat) : (s.publish k w v c).gov = s.gov := rfl
@[simp] theorem State.stageAt_gov (s : State) (t k : Nat) (w : Word) (v : Bool) (c : Nat) : (s.stageAt t k w v c).gov = s.gov := rfl
@[simp] theorem State.setFld_mfp (s : State) (f : Fld) (v : Nat) : (s.setFld f v).mfp = s.mfp := rfl
@[simp] theorem State.setFlag_mfp (s : State) (f : Fld) (b : Bool) : (s.setFlag f b).mfp = s.mfp := rfl
@[simp] theorem State.count_mfp (s : State) (f : Fld) (n : Nat) : (s.count f n).mfp = s.mfp := rfl
@[simp] theorem State.setReg64_mfp (s : State) (a b v : Nat) : (s.setReg64 a b v).mfp = s.mfp := rfl
@[simp] theorem State.publish_mfp (s : State) (k : Nat) (w : Word) (v : Bool) (c : Nat) : (s.publish k w v c).mfp = s.mfp := rfl
@[simp] theorem State.stageAt_mfp (s : State) (t k : Nat) (w : Word) (v : Bool) (c : Nat) : (s.stageAt t k w v c).mfp = s.mfp := rfl
@[simp] theorem State.setFld_yld (s : State) (f : Fld) (v : Nat) : (s.setFld f v).yld = s.yld := rfl
@[simp] theorem State.setFlag_yld (s : State) (f : Fld) (b : Bool) : (s.setFlag f b).yld = s.yld := rfl
@[simp] theorem State.count_yld (s : State) (f : Fld) (n : Nat) : (s.count f n).yld = s.yld := rfl
@[simp] theorem State.setReg64_yld (s : State) (a b v : Nat) : (s.setReg64 a b v).yld = s.yld := rfl
@[simp] theorem State.publish_yld (s : State) (k : Nat) (w : Word) (v : Bool) (c : Nat) : (s.publish k w v c).yld = s.yld := rfl
@[simp] theorem State.stageAt_yld (s : State) (t k : Nat) (w : Word) (v : Bool) (c : Nat) : (s.stageAt t k w v c).yld = s.yld := rfl
@[simp] theorem State.setFld_gns (s : State) (f : Fld) (v : Nat) : (s.setFld f v).gns = s.gns := rfl
@[simp] theorem State.setFlag_gns (s : State) (f : Fld) (b : Bool) : (s.setFlag f b).gns = s.gns := rfl
@[simp] theorem State.count_gns (s : State) (f : Fld) (n : Nat) : (s.count f n).gns = s.gns := rfl
@[simp] theorem State.setReg64_gns (s : State) (a b v : Nat) : (s.setReg64 a b v).gns = s.gns := rfl
@[simp] theorem State.publish_gns (s : State) (k : Nat) (w : Word) (v : Bool) (c : Nat) : (s.publish k w v c).gns = s.gns := rfl
@[simp] theorem State.stageAt_gns (s : State) (t k : Nat) (w : Word) (v : Bool) (c : Nat) : (s.stageAt t k w v c).gns = s.gns := rfl
@[simp] theorem State.setFld_steer (s : State) (f : Fld) (v : Nat) : (s.setFld f v).steer = s.steer := rfl
@[simp] theorem State.setFlag_steer (s : State) (f : Fld) (b : Bool) : (s.setFlag f b).steer = s.steer := rfl
@[simp] theorem State.count_steer (s : State) (f : Fld) (n : Nat) : (s.count f n).steer = s.steer := rfl
@[simp] theorem State.setReg64_steer (s : State) (a b v : Nat) : (s.setReg64 a b v).steer = s.steer := rfl
@[simp] theorem State.publish_steer (s : State) (k : Nat) (w : Word) (v : Bool) (c : Nat) : (s.publish k w v c).steer = s.steer := rfl
@[simp] theorem State.stageAt_steer (s : State) (t k : Nat) (w : Word) (v : Bool) (c : Nat) : (s.stageAt t k w v c).steer = s.steer := rfl
@[simp] theorem State.setFld_cam (s : State) (f : Fld) (v : Nat) : (s.setFld f v).cam = s.cam := rfl
@[simp] theorem State.setFlag_cam (s : State) (f : Fld) (b : Bool) : (s.setFlag f b).cam = s.cam := rfl
@[simp] theorem State.count_cam (s : State) (f : Fld) (n : Nat) : (s.count f n).cam = s.cam := rfl
@[simp] theorem State.setReg64_cam (s : State) (a b v : Nat) : (s.setReg64 a b v).cam = s.cam := rfl
@[simp] theorem State.publish_cam (s : State) (k : Nat) (w : Word) (v : Bool) (c : Nat) : (s.publish k w v c).cam = s.cam := rfl
@[simp] theorem State.stageAt_cam (s : State) (t k : Nat) (w : Word) (v : Bool) (c : Nat) : (s.stageAt t k w v c).cam = s.cam := rfl
@[simp] theorem State.setFld_fus (s : State) (f : Fld) (v : Nat) : (s.setFld f v).fus = s.fus := rfl
@[simp] theorem State.setFlag_fus (s : State) (f : Fld) (b : Bool) : (s.setFlag f b).fus = s.fus := rfl
@[simp] theorem State.count_fus (s : State) (f : Fld) (n : Nat) : (s.count f n).fus = s.fus := rfl
@[simp] theorem State.setReg64_fus (s : State) (a b v : Nat) : (s.setReg64 a b v).fus = s.fus := rfl
@[simp] theorem State.publish_fus (s : State) (k : Nat) (w : Word) (v : Bool) (c : Nat) : (s.publish k w v c).fus = s.fus := rfl
@[simp] theorem State.stageAt_fus (s : State) (t k : Nat) (w : Word) (v : Bool) (c : Nat) : (s.stageAt t k w v c).fus = s.fus := rfl
@[simp] theorem State.setFld_flr (s : State) (f : Fld) (v : Nat) : (s.setFld f v).flr = s.flr := rfl
@[simp] theorem State.setFlag_flr (s : State) (f : Fld) (b : Bool) : (s.setFlag f b).flr = s.flr := rfl
@[simp] theorem State.count_flr (s : State) (f : Fld) (n : Nat) : (s.count f n).flr = s.flr := rfl
@[simp] theorem State.setReg64_flr (s : State) (a b v : Nat) : (s.setReg64 a b v).flr = s.flr := rfl
@[simp] theorem State.publish_flr (s : State) (k : Nat) (w : Word) (v : Bool) (c : Nat) : (s.publish k w v c).flr = s.flr := rfl
@[simp] theorem State.stageAt_flr (s : State) (t k : Nat) (w : Word) (v : Bool) (c : Nat) : (s.stageAt t k w v c).flr = s.flr := rfl
@[simp] theorem State.setFld_dma (s : State) (f : Fld) (v : Nat) : (s.setFld f v).dma = s.dma := rfl
@[simp] theorem State.setFlag_dma (s : State) (f : Fld) (b : Bool) : (s.setFlag f b).dma = s.dma := rfl
@[simp] theorem State.count_dma (s : State) (f : Fld) (n : Nat) : (s.count f n).dma = s.dma := rfl
@[simp] theorem State.setReg64_dma (s : State) (a b v : Nat) : (s.setReg64 a b v).dma = s.dma := rfl
@[simp] theorem State.publish_dma (s : State) (k : Nat) (w : Word) (v : Bool) (c : Nat) : (s.publish k w v c).dma = s.dma := rfl
@[simp] theorem State.stageAt_dma (s : State) (t k : Nat) (w : Word) (v : Bool) (c : Nat) : (s.stageAt t k w v c).dma = s.dma := rfl
@[simp] theorem State.setFld_can (s : State) (f : Fld) (v : Nat) : (s.setFld f v).can = s.can := rfl
@[simp] theorem State.setFlag_can (s : State) (f : Fld) (b : Bool) : (s.setFlag f b).can = s.can := rfl
@[simp] theorem State.count_can (s : State) (f : Fld) (n : Nat) : (s.count f n).can = s.can := rfl
@[simp] theorem State.setReg64_can (s : State) (a b v : Nat) : (s.setReg64 a b v).can = s.can := rfl
@[simp] theorem State.publish_can (s : State) (k : Nat) (w : Word) (v : Bool) (c : Nat) : (s.publish k w v c).can = s.can := rfl
@[simp] theorem State.stageAt_can (s : State) (t k : Nat) (w : Word) (v : Bool) (c : Nat) : (s.stageAt t k w v c).can = s.can := rfl
@[simp] theorem State.setFld_eth (s : State) (f : Fld) (v : Nat) : (s.setFld f v).eth = s.eth := rfl
@[simp] theorem State.setFlag_eth (s : State) (f : Fld) (b : Bool) : (s.setFlag f b).eth = s.eth := rfl
@[simp] theorem State.count_eth (s : State) (f : Fld) (n : Nat) : (s.count f n).eth = s.eth := rfl
@[simp] theorem State.setReg64_eth (s : State) (a b v : Nat) : (s.setReg64 a b v).eth = s.eth := rfl
@[simp] theorem State.publish_eth (s : State) (k : Nat) (w : Word) (v : Bool) (c : Nat) : (s.publish k w v c).eth = s.eth := rfl
@[simp] theorem State.stageAt_eth (s : State) (t k : Nat) (w : Word) (v : Bool) (c : Nat) : (s.stageAt t k w v c).eth = s.eth := rfl
@[simp] theorem State.setFld_vhp (s : State) (f : Fld) (v : Nat) : (s.setFld f v).vhp = s.vhp := rfl
@[simp] theorem State.setFlag_vhp (s : State) (f : Fld) (b : Bool) : (s.setFlag f b).vhp = s.vhp := rfl
@[simp] theorem State.count_vhp (s : State) (f : Fld) (n : Nat) : (s.count f n).vhp = s.vhp := rfl
@[simp] theorem State.setReg64_vhp (s : State) (a b v : Nat) : (s.setReg64 a b v).vhp = s.vhp := rfl
@[simp] theorem State.publish_vhp (s : State) (k : Nat) (w : Word) (v : Bool) (c : Nat) : (s.publish k w v c).vhp = s.vhp := rfl
@[simp] theorem State.stageAt_vhp (s : State) (t k : Nat) (w : Word) (v : Bool) (c : Nat) : (s.stageAt t k w v c).vhp = s.vhp := rfl
@[simp] theorem State.setFld_vlv (s : State) (f : Fld) (v : Nat) : (s.setFld f v).vlv = s.vlv := rfl
@[simp] theorem State.setFlag_vlv (s : State) (f : Fld) (b : Bool) : (s.setFlag f b).vlv = s.vlv := rfl
@[simp] theorem State.count_vlv (s : State) (f : Fld) (n : Nat) : (s.count f n).vlv = s.vlv := rfl
@[simp] theorem State.setReg64_vlv (s : State) (a b v : Nat) : (s.setReg64 a b v).vlv = s.vlv := rfl
@[simp] theorem State.publish_vlv (s : State) (k : Nat) (w : Word) (v : Bool) (c : Nat) : (s.publish k w v c).vlv = s.vlv := rfl
@[simp] theorem State.stageAt_vlv (s : State) (t k : Nat) (w : Word) (v : Bool) (c : Nat) : (s.stageAt t k w v c).vlv = s.vlv := rfl
@[simp] theorem State.setFld_lsw (s : State) (f : Fld) (v : Nat) : (s.setFld f v).lsw = s.lsw := rfl
@[simp] theorem State.setFlag_lsw (s : State) (f : Fld) (b : Bool) : (s.setFlag f b).lsw = s.lsw := rfl
@[simp] theorem State.count_lsw (s : State) (f : Fld) (n : Nat) : (s.count f n).lsw = s.lsw := rfl
@[simp] theorem State.setReg64_lsw (s : State) (a b v : Nat) : (s.setReg64 a b v).lsw = s.lsw := rfl
@[simp] theorem State.publish_lsw (s : State) (k : Nat) (w : Word) (v : Bool) (c : Nat) : (s.publish k w v c).lsw = s.lsw := rfl
@[simp] theorem State.stageAt_lsw (s : State) (t k : Nat) (w : Word) (v : Bool) (c : Nat) : (s.stageAt t k w v c).lsw = s.lsw := rfl
@[simp] theorem State.setFld_saf (s : State) (f : Fld) (v : Nat) : (s.setFld f v).saf = s.saf := rfl
@[simp] theorem State.setFlag_saf (s : State) (f : Fld) (b : Bool) : (s.setFlag f b).saf = s.saf := rfl
@[simp] theorem State.count_saf (s : State) (f : Fld) (n : Nat) : (s.count f n).saf = s.saf := rfl
@[simp] theorem State.setReg64_saf (s : State) (a b v : Nat) : (s.setReg64 a b v).saf = s.saf := rfl
@[simp] theorem State.publish_saf (s : State) (k : Nat) (w : Word) (v : Bool) (c : Nat) : (s.publish k w v c).saf = s.saf := rfl
@[simp] theorem State.stageAt_saf (s : State) (t k : Nat) (w : Word) (v : Bool) (c : Nat) : (s.stageAt t k w v c).saf = s.saf := rfl
@[simp] theorem State.setFld_dsp (s : State) (f : Fld) (v : Nat) : (s.setFld f v).dsp = s.dsp := rfl
@[simp] theorem State.setFlag_dsp (s : State) (f : Fld) (b : Bool) : (s.setFlag f b).dsp = s.dsp := rfl
@[simp] theorem State.count_dsp (s : State) (f : Fld) (n : Nat) : (s.count f n).dsp = s.dsp := rfl
@[simp] theorem State.setReg64_dsp (s : State) (a b v : Nat) : (s.setReg64 a b v).dsp = s.dsp := rfl
@[simp] theorem State.publish_dsp (s : State) (k : Nat) (w : Word) (v : Bool) (c : Nat) : (s.publish k w v c).dsp = s.dsp := rfl
@[simp] theorem State.stageAt_dsp (s : State) (t k : Nat) (w : Word) (v : Bool) (c : Nat) : (s.stageAt t k w v c).dsp = s.dsp := rfl
@[simp] theorem State.setFld_bst (s : State) (f : Fld) (v : Nat) : (s.setFld f v).bst = s.bst := rfl
@[simp] theorem State.setFlag_bst (s : State) (f : Fld) (b : Bool) : (s.setFlag f b).bst = s.bst := rfl
@[simp] theorem State.count_bst (s : State) (f : Fld) (n : Nat) : (s.count f n).bst = s.bst := rfl
@[simp] theorem State.setReg64_bst (s : State) (a b v : Nat) : (s.setReg64 a b v).bst = s.bst := rfl
@[simp] theorem State.publish_bst (s : State) (k : Nat) (w : Word) (v : Bool) (c : Nat) : (s.publish k w v c).bst = s.bst := rfl
@[simp] theorem State.stageAt_bst (s : State) (t k : Nat) (w : Word) (v : Bool) (c : Nat) : (s.stageAt t k w v c).bst = s.bst := rfl
@[simp] theorem State.setFld_evr (s : State) (f : Fld) (v : Nat) : (s.setFld f v).evr = s.evr := rfl
@[simp] theorem State.setFlag_evr (s : State) (f : Fld) (b : Bool) : (s.setFlag f b).evr = s.evr := rfl
@[simp] theorem State.count_evr (s : State) (f : Fld) (n : Nat) : (s.count f n).evr = s.evr := rfl
@[simp] theorem State.setReg64_evr (s : State) (a b v : Nat) : (s.setReg64 a b v).evr = s.evr := rfl
@[simp] theorem State.publish_evr (s : State) (k : Nat) (w : Word) (v : Bool) (c : Nat) : (s.publish k w v c).evr = s.evr := rfl
@[simp] theorem State.stageAt_evr (s : State) (t k : Nat) (w : Word) (v : Bool) (c : Nat) : (s.stageAt t k w v c).evr = s.evr := rfl
@[simp] theorem State.setFld_tab (s : State) (f : Fld) (v : Nat) : (s.setFld f v).tab = s.tab := rfl
@[simp] theorem State.setFlag_tab (s : State) (f : Fld) (b : Bool) : (s.setFlag f b).tab = s.tab := rfl
@[simp] theorem State.count_tab (s : State) (f : Fld) (n : Nat) : (s.count f n).tab = s.tab := rfl
@[simp] theorem State.setReg64_tab (s : State) (a b v : Nat) : (s.setReg64 a b v).tab = s.tab := rfl
@[simp] theorem State.publish_tab (s : State) (k : Nat) (w : Word) (v : Bool) (c : Nat) : (s.publish k w v c).tab = s.tab := rfl
@[simp] theorem State.stageAt_tab (s : State) (t k : Nat) (w : Word) (v : Bool) (c : Nat) : (s.stageAt t k w v c).tab = s.tab := rfl
@[simp] theorem State.setFld_rpl (s : State) (f : Fld) (v : Nat) : (s.setFld f v).rpl = s.rpl := rfl
@[simp] theorem State.setFlag_rpl (s : State) (f : Fld) (b : Bool) : (s.setFlag f b).rpl = s.rpl := rfl
@[simp] theorem State.count_rpl (s : State) (f : Fld) (n : Nat) : (s.count f n).rpl = s.rpl := rfl
@[simp] theorem State.setReg64_rpl (s : State) (a b v : Nat) : (s.setReg64 a b v).rpl = s.rpl := rfl
@[simp] theorem State.publish_rpl (s : State) (k : Nat) (w : Word) (v : Bool) (c : Nat) : (s.publish k w v c).rpl = s.rpl := rfl
@[simp] theorem State.stageAt_rpl (s : State) (t k : Nat) (w : Word) (v : Bool) (c : Nat) : (s.stageAt t k w v c).rpl = s.rpl := rfl
@[simp] theorem State.setFld_upd (s : State) (f : Fld) (v : Nat) : (s.setFld f v).upd = s.upd := rfl
@[simp] theorem State.setFlag_upd (s : State) (f : Fld) (b : Bool) : (s.setFlag f b).upd = s.upd := rfl
@[simp] theorem State.count_upd (s : State) (f : Fld) (n : Nat) : (s.count f n).upd = s.upd := rfl
@[simp] theorem State.setReg64_upd (s : State) (a b v : Nat) : (s.setReg64 a b v).upd = s.upd := rfl
@[simp] theorem State.publish_upd (s : State) (k : Nat) (w : Word) (v : Bool) (c : Nat) : (s.publish k w v c).upd = s.upd := rfl
@[simp] theorem State.stageAt_upd (s : State) (t k : Nat) (w : Word) (v : Bool) (c : Nat) : (s.stageAt t k w v c).upd = s.upd := rfl
@[simp] theorem State.setFld_pm (s : State) (f : Fld) (v : Nat) : (s.setFld f v).pm = s.pm := rfl
@[simp] theorem State.setFlag_pm (s : State) (f : Fld) (b : Bool) : (s.setFlag f b).pm = s.pm := rfl
@[simp] theorem State.count_pm (s : State) (f : Fld) (n : Nat) : (s.count f n).pm = s.pm := rfl
@[simp] theorem State.setReg64_pm (s : State) (a b v : Nat) : (s.setReg64 a b v).pm = s.pm := rfl
@[simp] theorem State.publish_pm (s : State) (k : Nat) (w : Word) (v : Bool) (c : Nat) : (s.publish k w v c).pm = s.pm := rfl
@[simp] theorem State.stageAt_pm (s : State) (t k : Nat) (w : Word) (v : Bool) (c : Nat) : (s.stageAt t k w v c).pm = s.pm := rfl
@[simp] theorem State.setFld_freeCtr (s : State) (f : Fld) (v : Nat) : (s.setFld f v).freeCtr = s.freeCtr := rfl
@[simp] theorem State.setFlag_freeCtr (s : State) (f : Fld) (b : Bool) : (s.setFlag f b).freeCtr = s.freeCtr := rfl
@[simp] theorem State.count_freeCtr (s : State) (f : Fld) (n : Nat) : (s.count f n).freeCtr = s.freeCtr := rfl
@[simp] theorem State.setReg64_freeCtr (s : State) (a b v : Nat) : (s.setReg64 a b v).freeCtr = s.freeCtr := rfl
@[simp] theorem State.publish_freeCtr (s : State) (k : Nat) (w : Word) (v : Bool) (c : Nat) : (s.publish k w v c).freeCtr = s.freeCtr := rfl
@[simp] theorem State.stageAt_freeCtr (s : State) (t k : Nat) (w : Word) (v : Bool) (c : Nat) : (s.stageAt t k w v c).freeCtr = s.freeCtr := rfl
@[simp] theorem State.setFld_pending (s : State) (f : Fld) (v : Nat) : (s.setFld f v).pending = s.pending := rfl
@[simp] theorem State.setFlag_pending (s : State) (f : Fld) (b : Bool) : (s.setFlag f b).pending = s.pending := rfl
@[simp] theorem State.count_pending (s : State) (f : Fld) (n : Nat) : (s.count f n).pending = s.pending := rfl
@[simp] theorem State.setReg64_pending (s : State) (a b v : Nat) : (s.setReg64 a b v).pending = s.pending := rfl
@[simp] theorem State.publish_pending (s : State) (k : Nat) (w : Word) (v : Bool) (c : Nat) : (s.publish k w v c).pending = s.pending := rfl
@[simp] theorem State.stageAt_pending (s : State) (t k : Nat) (w : Word) (v : Bool) (c : Nat) : (s.stageAt t k w v c).pending = s.pending := rfl

end Sys2Proof.Machine
end

