-- ==== Sys2Proof/Laws/SMap.lean ====
section
/-! SUPPORT. Sparse maps: read after write, the canonical form is kept by a write, and what follows for registers, their fields and memory. -/

namespace Sys2Proof.Machine

/-! ### Reads after writes -/

theorem smGet_above {α : Type} [DecidableEq α] (d : Nat → α) (x : α) (m : SMap α) (b k : Nat) (h : smWfAbove d (some b) m = true)
    (hk : k ≤ b) : smGet x m k = x := by
  induction m generalizing b with
  | nil => rfl
  | cons e r ih =>
    obtain ⟨k', v⟩ := e
    simp only [smWfAbove, Bool.and_eq_true, decide_eq_true_eq] at h
    have : k' ≠ k := by omega
    simp only [smGet, if_neg this]
    exact ih k' h.2 (by omega)

/-- A read after a write to the same key gives the value written, whatever the map. -/
theorem smGet_smPut_same {α : Type} [DecidableEq α] (d : Nat → α) (m : SMap α) (k : Nat) (v : α) (b : Option Nat)
    (h : smWfAbove d b m = true) : smGet (d k) (smPut (d k) m k v) k = v := by
  induction m generalizing b with
  | nil => unfold smPut; split <;> simp_all [smGet]
  | cons e r ih =>
    obtain ⟨k', v'⟩ := e
    have hr : smWfAbove d (some k') r = true := by
      simp only [smWfAbove, Bool.and_eq_true] at h; exact h.2
    unfold smPut
    by_cases h1 : k < k'
    · rw [if_pos h1]
      by_cases hv : v = d k
      · rw [if_pos hv]
        have : k' ≠ k := by omega
        simp only [smGet, if_neg this]
        rw [smGet_above d (d k) r k' k hr (by omega), hv]
      · rw [if_neg hv]; simp [smGet]
    · rw [if_neg h1]
      by_cases h2 : k = k'
      · subst h2; rw [if_pos rfl]
        by_cases hv : v = d k
        · rw [if_pos hv, smGet_above d (d k) r k k hr (by omega), hv]
        · rw [if_neg hv]; simp [smGet]
      · rw [if_neg h2]
        have : k' ≠ k := by omega
        simp only [smGet, if_neg this]
        exact ih _ hr

/-- A write leaves every other key as it was, whatever the map and whatever unlisted keys read as. -/
theorem smGet_smPut_other {α : Type} [DecidableEq α] (d x : α) (m : SMap α) (k j : Nat) (v : α) (h : j ≠ k) :
    smGet x (smPut d m k v) j = smGet x m j := by
  induction m with
  | nil => unfold smPut; split <;> simp [smGet, Ne.symm h]
  | cons e r ih =>
    obtain ⟨k', v'⟩ := e
    unfold smPut
    by_cases h1 : k < k'
    · rw [if_pos h1]; split
      · rfl
      · simp [smGet, Ne.symm h]
    · rw [if_neg h1]
      by_cases h2 : k = k'
      · subst h2; rw [if_pos rfl]; split <;> simp [smGet, Ne.symm h]
      · rw [if_neg h2]; simp only [smGet, ih]

/-! ### The canonical form -/

theorem smWfAbove_smPut {α : Type} [DecidableEq α] (d : Nat → α) (m : SMap α) (b : Option Nat) (k : Nat) (v : α)
    (hb : ∀ x, b = some x → x < k) (h : smWfAbove d b m = true) : smWfAbove d b (smPut (d k) m k v) = true := by
  have hkey : ∀ b' : Option Nat, (∀ x, b' = some x → x < k) → (match b' with | none => true | some x => decide (x < k)) = true := by
    intro b' hx; cases b' with
    | none => rfl
    | some x => simpa using hx x rfl
  induction m generalizing b with
  | nil =>
    unfold smPut; split
    · rfl
    · rename_i hv; simp only [smWfAbove, Bool.and_eq_true, decide_eq_true_eq]; exact ⟨⟨hkey b hb, hv⟩, trivial⟩
  | cons e r ih =>
    obtain ⟨k', v'⟩ := e
    unfold smPut
    have hh := h
    simp only [smWfAbove, Bool.and_eq_true, decide_eq_true_eq] at hh
    by_cases h1 : k < k'
    · rw [if_pos h1]; split
      · exact h
      · rename_i hv
        simp only [smWfAbove, Bool.and_eq_true, decide_eq_true_eq]
        exact ⟨⟨hkey b hb, hv⟩, ⟨h1, hh.1.2⟩, hh.2⟩
    · rw [if_neg h1]
      by_cases h2 : k = k'
      · subst h2; rw [if_pos rfl]; split
        · cases b with
          | none =>
            revert hh; cases r with
            | nil => intro _; rfl
            | cons f q => obtain ⟨k2, v2⟩ := f; simp only [smWfAbove, Bool.and_eq_true, decide_eq_true_eq]; intro hh; exact ⟨⟨trivial, hh.2.1.2⟩, hh.2.2⟩
          | some x =>
            revert hh; cases r with
            | nil => intro _; rfl
            | cons f q => obtain ⟨k2, v2⟩ := f; simp only [smWfAbove, Bool.and_eq_true, decide_eq_true_eq]; intro hh; exact ⟨⟨by omega, hh.2.1.2⟩, hh.2.2⟩
        · rename_i hv
          simp only [smWfAbove, Bool.and_eq_true, decide_eq_true_eq]
          exact ⟨⟨hh.1.1, hv⟩, hh.2⟩
      · rw [if_neg h2]
        simp only [smWfAbove, Bool.and_eq_true, decide_eq_true_eq]
        exact ⟨hh.1, ih (some k') (by intro x hx; cases hx; omega) hh.2⟩

/-- A write keeps the canonical form. -/
theorem smWf_smPut {α : Type} [DecidableEq α] (d : Nat → α) (m : SMap α) (k : Nat) (v : α) (h : smWf d m = true) :
    smWf d (smPut (d k) m k v) = true := smWfAbove_smPut d m none k v (by simp) h

/-! ### Memory -/

theorem byteAt_setByte_same (s : State) (a : Nat) (b : Byte) (h : Memory.wf s.mem = true) : (s.setByte a b).byteAt a = b :=
  smGet_smPut_same (fun _ => 0) s.mem a b none h

theorem byteAt_setByte_other (s : State) (a x : Nat) (b : Byte) (h : x ≠ a) : (s.setByte a b).byteAt x = s.byteAt x :=
  smGet_smPut_other 0 0 s.mem a x b h

/-- Storing a byte keeps the canonical form of memory. -/
theorem setByte_wf (s : State) (a : Nat) (b : Byte) (h : Memory.wf s.mem = true) : Memory.wf (s.setByte a b).mem = true :=
  smWf_smPut (fun _ => 0) s.mem a b h

/-- Storing bytes keeps the canonical form of memory. -/
theorem setBytes_wf (s : State) (a : Nat) (l : List Byte) (h : Memory.wf s.mem = true) : Memory.wf (s.setBytes a l).mem = true := by
  induction l generalizing s a with
  | nil => exact h
  | cons b r ih => exact ih _ _ (setByte_wf s a b h)

/-- Storing a word keeps the canonical form of memory. -/
theorem setWord_wf (s : State) (a : Nat) (w : Word) (h : Memory.wf s.mem = true) : Memory.wf (s.setWord a w).mem = true :=
  setBytes_wf s a _ h

/-- Storing words keeps the canonical form of memory. -/
theorem setWords_wf (s : State) (a : Nat) (l : List Word) (h : Memory.wf s.mem = true) : Memory.wf (s.setWords a l).mem = true := by
  induction l generalizing s a with
  | nil => exact h
  | cons b r ih => exact ih _ _ (setWord_wf s a b h)

/-- Storing bytes leaves every byte outside them as it was. -/
theorem byteAt_setBytes_other (s : State) (a x : Nat) (l : List Byte) (h : x < a ∨ a + l.length ≤ x) :
    (s.setBytes a l).byteAt x = s.byteAt x := by
  induction l generalizing s a with
  | nil => rfl
  | cons b r ih =>
    simp only [List.length_cons] at h
    have h1 : x ≠ a := by omega
    calc ((s.setByte a b).setBytes (a + 1) r).byteAt x = (s.setByte a b).byteAt x := ih _ _ (by omega)
      _ = s.byteAt x := byteAt_setByte_other s a x b h1

theorem leBytes_length (n v : Nat) : (leBytes n v).length = n := by
  induction n generalizing v with
  | zero => rfl
  | succ n ih => simp [leBytes, ih]

/-- Storing a word leaves every byte outside its four as it was. -/
theorem setWord_only (s : State) (a : Nat) (w : Word) : OnlyBytes a 4 s (s.setWord a w) := fun x h =>
  byteAt_setBytes_other s a x _ (by rw [leBytes_length]; exact h)

/-! ### Registers -/

/-- The reset state's memory and register store are in canonical form. -/
theorem reset_canonical : State.reset.canonical := ⟨rfl, rfl, rfl, rfl⟩

theorem reg_setReg_same (s : State) (a : Nat) (w : Word) (h : RegStore.wf s.regs = true) : (s.setReg a w).reg a = w :=
  smGet_smPut_same resetVal s.regs a w none h

theorem reg_setReg_other (s : State) (a x : Nat) (w : Word) (h : x ≠ a) : (s.setReg a w).reg x = s.reg x :=
  smGet_smPut_other _ _ s.regs a x w h

/-- Writing a register keeps the canonical form of the register store. -/
theorem setReg_wf (s : State) (a : Nat) (w : Word) (h : RegStore.wf s.regs = true) : RegStore.wf (s.setReg a w).regs = true :=
  smWf_smPut resetVal s.regs a w h

theorem setReg_onlyRegs (s : State) (a : Nat) (w : Word) : OnlyRegs [a] s (s.setReg a w) := fun x h =>
  reg_setReg_other s a x w (by simpa using h)

/-- A field that has been set holds the number's low bits. -/
theorem bits_setBits_same (w lo n v : Nat) : bits (setBits w lo n v) lo n = v % 2 ^ n := by
  have e : setBits w lo n v = (w / 2 ^ (lo + n) * 2 ^ n + v % 2 ^ n) * 2 ^ lo + w % 2 ^ lo := by
    unfold setBits; rw [pow_add]; ring
  have hl : w % 2 ^ lo < 2 ^ lo := Nat.mod_lt _ (by positivity)
  unfold bits
  rw [e, Nat.add_comm, Nat.add_mul_div_right _ _ (by positivity), Nat.div_eq_of_lt hl, Nat.zero_add,
    Nat.add_comm, Nat.add_mul_mod_self_right, Nat.mod_mod]

theorem setBits_lt (w lo n v : Nat) (h : lo + n ≤ 32) (hw : w < 2 ^ 32) : setBits w lo n v < 2 ^ 32 := by
  have h3 : w / 2 ^ (lo + n) < 2 ^ (32 - (lo + n)) := by
    rw [Nat.div_lt_iff_lt_mul (by positivity), ← pow_add]
    have : 32 - (lo + n) + (lo + n) = 32 := by omega
    rw [this]; exact hw
  have h1 : v % 2 ^ n < 2 ^ n := Nat.mod_lt _ (by positivity)
  have h2 : w % 2 ^ lo < 2 ^ lo := Nat.mod_lt _ (by positivity)
  have h4 : (v % 2 ^ n + 1) * 2 ^ lo ≤ 2 ^ n * 2 ^ lo := Nat.mul_le_mul_right _ h1
  have h5 : (w / 2 ^ (lo + n) + 1) * 2 ^ (lo + n) ≤ 2 ^ (32 - (lo + n)) * 2 ^ (lo + n) := Nat.mul_le_mul_right _ h3
  have h6 : 2 ^ (32 - (lo + n)) * 2 ^ (lo + n) = 2 ^ 32 := by rw [← pow_add]; congr 1; omega
  have h7 : 2 ^ n * 2 ^ lo = 2 ^ (lo + n) := by rw [← pow_add, Nat.add_comm]
  unfold setBits
  rw [add_mul, one_mul] at h4 h5
  omega

/-- Reading a field that has just been set. -/
theorem fld_setFld_same (s : State) (f : Fld) (v : Nat) (h : RegStore.wf s.regs = true) (hf : f.lo + f.width ≤ 32) :
    (s.setFld f v).fld f = v % 2 ^ f.width := by
  have h1 : setBits (s.reg f.addr).toNat f.lo f.width v < 2 ^ 32 := setBits_lt _ _ _ _ hf (s.reg f.addr).isLt
  unfold State.fld State.setFld
  rw [reg_setReg_same s _ _ h, BitVec.toNat_ofNat, Nat.mod_eq_of_lt h1, bits_setBits_same]

theorem setFld_onlyRegs (s : State) (f : Fld) (v : Nat) : OnlyRegs [f.addr] s (s.setFld f v) := setReg_onlyRegs s _ _

end Sys2Proof.Machine
end

