-- ==== Sys2Proof/Laws/Gwen.lean ====
section
/-! SUPPORT. What the shared operations of Gweny do, said once: an instruction that a ready sample runs completes or traps (`gwRun`). -/

namespace Sys2Proof.Machine

theorem prismAuto_idle (s : State) (c : GwCtx) (h : c.prism = none) : prismAuto s c = (s, c) := by unfold prismAuto; rw [h]

theorem prismWait_idle (s : State) (c : GwCtx) (h : c.prism = none) : prismWait s c = (s, c) := by
  unfold prismWait; rw [h]

/-- On a ready sample, an instruction that does not wait runs its body: it completes, or takes the trap the body names. -/
theorem gwRun_ready (s : State) (u : Nat) (c : GwCtx) (vec : Bool) (cost : Nat) (waits : GwCtx → Bool) (body : State → GwCtx → GwEff)
    (h : ReadyFor s u c vec cost) (hw : waits c = false ∨ c.prism = none) :
    gwRun s u vec waits body = match body s c with
      | .trap cause f => takeTrap s u c cause f
      | .go s' c' k => if c.budget ≤ k then budgetTrap s u c else s'.setCtx u (some { c' with budget := c.budget - k, cyc := c.cyc + k }) := by
  obtain ⟨⟨c0, hc, hp⟩, h4, hsz, hb, hv⟩ := h
  have ha : gwAllowed u vec = true := by
    unfold gwAllowed
    cases vec with
    | false => simp
    | true => simp [hv rfl]
  have hin : c.inTile c.pc 4 = true := by simpa [GwCtx.inTile] using hsz
  have hwait : (match c.prism with
      | some p => if waits c then p.doneAt - c.cyc else 0
      | none => 0) = 0 := by
    cases hpr : c.prism with
    | none => rfl
    | some p => cases hw with
      | inl hw => simp [hw]
      | inr hw => rw [hpr] at hw; cases hw
  have hgo : (if waits c = true then prismWait s c else (s, c)) = (s, c) := by
    cases hw with
    | inl hw => simp [hw]
    | inr hw => simp [prismWait_idle s c hw]
  unfold gwRun
  rw [hc]
  simp only [hp, h4, hin, ha, hgo]
  simp only [ne_eq, not_true_eq_false, if_false, Bool.not_true, Bool.false_eq_true]
  rw [if_neg (fun hx => hx.1 hwait)]
  all_goals (cases body s c <;> rfl)

/-- On a ready sample, an instruction that completes leaves its registers and continues at the context's pc. -/
theorem gwRun_go (s s' : State) (u : Nat) (c c' : GwCtx) (vec : Bool) (cost : Nat) (waits : GwCtx → Bool) (body : State → GwCtx → GwEff)
    (h : ReadyFor s u c vec cost) (hw : waits c = false ∨ c.prism = none) (k : Nat) (hk : k ≤ cost) (hb : body s c = .go s' c' k) :
    gwRun s u vec waits body = s'.setCtx u (some { c' with budget := c.budget - k, cyc := c.cyc + k }) := by
  have := h.2.2.2.1
  rw [gwRun_ready s u c vec cost waits body h hw, hb]
  simp only
  rw [if_neg (by omega)]

/-- An instruction that never waits. -/
theorem gwSimple_ready (s : State) (u : Nat) (c : GwCtx) (vec : Bool) (cost : Nat) (f : GwCtx → GwCtx) (h : ReadyFor s u c vec cost)
    (hf : (f c).pc = c.pc) : gwSimple s u vec cost f = retired s u c (f c) cost (c.pc + 4) := by
  unfold gwSimple
  rw [gwRun_go s s u c (f c).step4 vec cost _ _ h (.inl rfl) cost (le_refl _) rfl]
  simp [retired, GwCtx.step4, hf]

@[simp] theorem GwCtx.setG_pc (c : GwCtx) (r : Nat) (w : Word) : (c.setG r w).pc = c.pc := by unfold GwCtx.setG; split <;> rfl
@[simp] theorem GwCtx.orFlags_pc (c : GwCtx) (n : Nat) : (c.orFlags n).pc = c.pc := rfl
@[simp] theorem GwCtx.setFlags_pc (c : GwCtx) (m v : Nat) : (c.setFlags m v).pc = c.pc := rfl
@[simp] theorem GwCtx.setLane_pc (c : GwCtx) (r i : Nat) (w : Word) : (c.setLane r i w).pc = c.pc := rfl
@[simp] theorem GwCtx.setLanes_pc (c : GwCtx) (r i : Nat) (l : List Word) : (c.setLanes r i l).pc = c.pc := by
  induction l generalizing c i with
  | nil => rfl
  | cons w l ih => exact ih _ _
@[simp] theorem GwCtx.setV_pc (c : GwCtx) (r : Nat) (l : List Word) : (c.setV r l).pc = c.pc := GwCtx.setLanes_pc c r 0 _
@[simp] theorem GwCtx.take_pc (c : GwCtx) (r : Nat) (x : FRes) : (c.take r x).pc = c.pc := by simp [GwCtx.take]
@[simp] theorem GwCtx.takeV_pc (c : GwCtx) (r : Nat) (x : List Word × Nat) : (c.takeV r x).pc = c.pc := by simp [GwCtx.takeV]

/-- An instruction over scalar registers. -/
theorem gwAlu_ready (s : State) (u : Nat) (c : GwCtx) (rd a b cost : Nat) (f : Word → Word → Word) (h : ReadyFor s u c false cost) :
    gwAlu s u rd a b cost f = retired s u c (c.setG rd (f (c.gr a) (c.gr b))) cost (c.pc + 4) := gwSimple_ready s u c false cost _ h (by simp)
theorem gwImm_ready (s : State) (u : Nat) (c : GwCtx) (rd a : Nat) (f : Word → Word) (h : ReadyFor s u c false 1) :
    gwImm s u rd a f = retired s u c (c.setG rd (f (c.gr a))) 1 (c.pc + 4) := gwSimple_ready s u c false 1 _ h (by simp)
theorem gwFp1_ready (s : State) (u : Nat) (c : GwCtx) (rd a cost : Nat) (f : Word → FRes) (h : ReadyFor s u c false cost) :
    gwFp1 s u rd a cost f = retired s u c (c.take rd (f (c.gr a))) cost (c.pc + 4) := gwSimple_ready s u c false cost _ h (by simp)
theorem gwFp_ready (s : State) (u : Nat) (c : GwCtx) (rd a b cost : Nat) (f : Word → Word → FRes) (h : ReadyFor s u c false cost) :
    gwFp s u rd a b cost f = retired s u c (c.take rd (f (c.gr a) (c.gr b))) cost (c.pc + 4) := gwSimple_ready s u c false cost _ h (by simp)
theorem gwFp3_ready (s : State) (u : Nat) (c : GwCtx) (rd a b d cost : Nat) (f : Word → Word → Word → FRes) (h : ReadyFor s u c false cost) :
    gwFp3 s u rd a b d cost f = retired s u c (c.take rd (f (c.gr a) (c.gr b) (c.gr d))) cost (c.pc + 4) :=
  gwSimple_ready s u c false cost _ h (by simp)

/-- A lane-wise vector operation while the Prism unit is idle. -/
theorem gwVec_ready (s : State) (u : Nat) (c : GwCtx) (vd va vb cost : Nat) (f : Word → Word → Word → FRes) (h : ReadyFor s u c true cost)
    (hp : c.prism = none) :
    gwVec s u vd va vb cost f = retired s u c (c.takeV vd (lanes3 f (c.vr vd) (c.vr va) (c.vr vb))) cost (c.pc + 4) := by
  unfold gwVec
  rw [gwRun_go s s u c _ true cost _ _ h (.inr hp) cost (le_refl _) rfl]
  simp [retired, GwCtx.step4, GwCtx.takeV]

end Sys2Proof.Machine
end

