-- ==== Sys2Proof/Tests/Slice0.lean ====
section
/-! SUPPORT. Tests: ill-formed commands, worked values of the spec, and a concrete state and operands for the hypotheses of each statement. -/

namespace Sys2Proof.Machine

set_option Elab.async false

/-! ### Well-formedness: one ill-formed command for each check -/

theorem test_wf_tick_twice : (Instr.tick 0 [(3, 0, []), (3, 1, [])] [] []).wf = false := by decide
theorem test_wf_tick_meas : (Instr.tick 0 [] [] [(2#32, 0)]).wf = false := by decide
theorem test_wf_tick_ok : (Instr.tick 0 [(3, 0, []), (4, 1, [])] [] [(4#32, 0)]).wf = true := by decide
theorem test_wf_rc : (Instr.rcFieldRead 0 1#32).wf = false := by decide
theorem test_wf_w1c : (Instr.w1cClear 0 3#32 0).wf = false := by decide
theorem test_wf_carrier : (Instr.carrierPeriodStart 0 0 0 [0, 0, 0, 0, 0]).wf = false := by decide
theorem test_wf_can_wake : (Instr.canSelectiveWake 0 0 2 [0] false 0).wf = false := by decide
theorem test_wf_can : (Instr.canFrameReceive 0 0 false (List.replicate 65 0) 0).wf = false := by decide
theorem test_wf_neighbour : (Instr.neighbourEpoch 0 [1] 0 0 0 [0, 0, 0, 0, 0] [0, 0, 0]).wf = false := by decide
theorem test_wf_superframe : (Instr.superframeStart []).wf = false := by decide
theorem test_wf_lidar : (Instr.lidarDatagram 0 0 1 true 0 [0] 0).wf = false := by decide

/-! ### Instruction words of the spec -/

theorem test_gw_relay : gwDecode 0 0x106C2801#32 = some (.relay 0 3 12 5) := by decide
theorem test_gw_plaus : gwDecode 0 0x108D11C2#32 = some (.plaus 0 4 13 2 7) := by decide
theorem test_gw_in : gwDecode 0 0x90200011#32 = some (.inPort 0 1 0 17) := by decide
theorem test_gw_integ : gwDecode 0 0x11492980#32 = some (.integ 0 10 9 5 6) := by decide

/-! ### Concrete states

Each theorem `test_hyp_<Name>` below gives, for the statement `Obligations.<Name>`, concrete states and operands that meet the hypotheses of its
clauses, at boundary values where a clause has a range. -/

/-- The state after reset with fields set. -/
def wF (l : List (Fld × Nat)) : State := l.foldl (fun s x => s.setFld x.1 x.2) State.reset

/-- The parts of `State.canonical` in one Boolean. -/
def canonB (s : State) : Bool := Memory.wf s.mem && RegStore.wf s.regs && s.liveMapsWf && s.bndMapsWf

theorem canon_of {s : State} (h : canonB s = true) : s.canonical := by
  simp only [canonB, Bool.and_eq_true] at h
  exact ⟨h.1.1.1, h.1.1.2, h.1.2, h.2⟩

/-- The fields of a slot that holds a loop of one 4 KiB window. -/
def slotF (e i loop st : Nat) : List (Fld × Nat) :=
  [(Fd.CE_SLOT_CFG_VALID e i, 1), (Fd.CE_SLOT_CFG_LOOP e i, loop), (Fd.CE_SLOT_STATUS_STATE e i, st), (Fd.CE_SLOT_WIN_SIZE e i, 1),
    (Fd.CE_SLOT_WIN_BASE e i, 2)]

/-- A state in which unit `u` runs the sample `c`. -/
def smp (u : Nat) (c : GwCtx) : State := State.reset.setCtx u (some c)

/-- A sample of loop 5 in a window of 4 KiB with a budget of `b` cycles. -/
def ctxB (b : Nat) : GwCtx := { loop := 5, base := 0x50000000, size := 4096, budget := b }

theorem ready_of {s : State} {u : Nat} {c : GwCtx} {vec : Bool} {cost : Nat} (hp : c.prism = none)
    (h : s.ctx u = some c ∧ c.pc % 4 = 0 ∧ c.pc + 4 ≤ c.size ∧ cost < c.budget ∧ (vec = true → u ≠ mirrorUnit)) : ReadyFor s u c vec cost := by
  obtain ⟨h1, h2, h3, h4, h5⟩ := h
  exact ⟨⟨c, h1, prismAuto_idle s c hp⟩, h2, h3, h4, h5⟩

theorem canon_iff {s : State} : s.canonical ↔ canonB s = true := ⟨fun h => by simp [canonB, h.1, h.2.1, h.2.2.1, h.2.2.2], canon_of⟩

/-- The state after reset in a mode. -/
def inMode (m : Nat) : State := wF [(Fd.SYS_MODE_STAT_MODE, m)]

/-- Every initiator uses context 0, in which IOVAs 0 to 0x1FFFF are two pages from 0x0800100000. -/
def mapS (s : State) : State :=
  let s := (List.range 15).foldl (fun s k => s.setReg (Ra.IOMMU_INI_MAP k) 0x80808080#32) (s.setReg Ra.IOMMU_CTXT_HI 8#32)
  ((s.setWords 0x0800000000 [0x00004001#32, 8#32]).setWords 0x0800004000 [0x00008001#32, 8#32]).setWords 0x0800008000
    [0x0010000F#32, 8#32, 0x0011000F#32, 8#32]

/-- The first byte that `mapS` maps. -/
abbrev mapAt : Nat := 0x0800100000

/-! ### Gweny -/

theorem test_hyp_GwenyInteger : ReadyFor (smp 9 (ctxB 2)) 9 (ctxB 2) false 1 ∧ ReadyFor (smp 0 (ctxB 3)) 0 (ctxB 3) false 2 :=
  ⟨ready_of rfl (by decide), ready_of rfl (by decide)⟩

theorem test_hyp_GwenyCompare : ReadyFor (smp 7 { ctxB 2 with pc := 4092 }) 7 { ctxB 2 with pc := 4092 } false 1 := ready_of rfl (by decide)

theorem test_hyp_GwenyFloat : ReadyFor (smp 9 (ctxB 17)) 9 (ctxB 17) false 16 ∧ ReadyFor (smp 8 (ctxB 4)) 8 (ctxB 4) false 3 ∧
    ReadyFor (smp 8 (ctxB 4)) 8 (ctxB 4) false 2 ∧ ReadyFor (smp 8 (ctxB 4)) 8 (ctxB 4) false 1 :=
  ⟨ready_of rfl (by decide), ready_of rfl (by decide), ready_of rfl (by decide), ready_of rfl (by decide)⟩

theorem test_hyp_ScalarRegisters : smWf (fun _ => (0 : Word)) { ctxB 1 with g := [(31, 7#32)] }.g = true ∧ (31 : Nat) ≠ 0 ∧ (30 : Nat) ≠ 31 := by decide

theorem test_hyp_VectorRegisters : smWf (fun _ => (0 : Word)) { ctxB 1 with v := [(511, 1#32)] }.v = true ∧
    (List.replicate 64 (0 : Word)).length = 64 ∧ (7 : Nat) ≠ 6 ∧ 63 < 64 := by decide

/-- g1 holds `a`. -/
def ctxG (a : Word) : GwCtx := { ctxB 20 with g := [(1, a)] }

theorem test_hyp_GwenyLoads : ReadyFor (smp 9 (ctxG 0)) 9 (ctxG 0) false 2 ∧
    (prismTouches (ctxB 20) ((ctxB 20).ea 0 4092) 4 = false ∧ (ctxB 20).ea 0 4092 % 4 = 0 ∧ (ctxB 20).ea 0 4092 + 4 ≤ (ctxB 20).size) ∧
    ((ctxG 0x40000).ea 1 0 = 0x40000 ∧ (ctxG 0x41000).ea 1 (-4) = 0x40FFC ∧ (ctxG 0x41000).ea 1 0 = 0x41000 ∧ (ctxG 0x41000).ea 1 0xFC = 0x410FC) ∧
    ReadyFor (smp 8 (ctxB 3)) 8 (ctxB 3) true 2 ∧ (ctxB 3).prismIdle ∧ (ctxB 3).ea 0 3840 % 64 = 0 ∧ (ctxB 3).ea 0 3840 + 256 ≤ (ctxB 3).size ∧
    ReadyFor (smp 0 (ctxB 17)) 0 (ctxB 17) true 16 ∧ (ctxB 17).port 0 960 + 63 ≤ 1023 :=
  ⟨ready_of rfl (by decide), by decide, by decide, ready_of rfl (by decide), rfl, by decide, by decide, ready_of rfl (by decide), by decide⟩

/-- Loop 5 has its output port 255 and its input port 1023 routed. -/
def routed (s : State) : State :=
  s.setCe { s.ce with rtOut := [(0, [0x85FF0000#32, 0#32, 0#32, 0#32])], rtIn := [(0, [0x85FFC000#32, 0x20000000#32])] }

theorem test_hyp_GwenyStores : ReadyFor (smp 9 (ctxG 0x41000)) 9 (ctxG 0x41000) false 1 ∧ (ctxG 0x41000).size < (ctxG 0x41000).ea 1 0xFC + 4 ∧
    (ctxG 0x41000).ea 1 0xFC < 0x41100 ∧ ReadyFor (smp 8 (ctxB 3)) 8 (ctxB 3) true 2 ∧ Memory.wf (smp 8 (ctxB 3)).mem = true ∧
    ReadyFor (routed (smp 0 (ctxB 2))) 0 (ctxB 2) false 1 ∧ (ctxB 2).port 0 255 ≤ 255 ∧
    ((routed (smp 0 (ctxB 2))).outRoute 5 ((ctxB 2).port 0 255)).isSome = true :=
  ⟨ready_of rfl (by decide), by decide, by decide, ready_of rfl (by decide), by decide, ready_of rfl (by decide), by decide, by decide⟩

theorem test_hyp_GwenyPorts : ReadyFor (routed (smp 0 (ctxB 3))) 0 (ctxB 3) false 2 ∧ (ctxB 3).port 0 1023 ≤ 1023 ∧
    (routed (smp 0 (ctxB 3))).portIn 5 1022 = none ∧ (routed (smp 0 (ctxB 3))).portIn 5 1023 = some {} ∧ ({} : PubV).tick = none :=
  ⟨ready_of rfl (by decide), by decide, by decide, by decide, rfl⟩

theorem test_hyp_GwenyBranches : ReadyFor (smp 9 (ctxG 1)) 9 (ctxG 1) false 3 ∧ (ctxG 1).prismIdle ∧ (ctxG 1).gr 0 = (ctxG 1).gr 2 ∧
    (ctxG 1).gr 0 ≠ (ctxG 1).gr 1 ∧ ((ctxG (-1)).gr 1).toInt < ((ctxG (-1)).gr 0).toInt ∧ bit ({ ctxB 4 with flags := 0x8000#32 } : GwCtx).flags.toNat 15 = true :=
  ⟨ready_of rfl (by decide), rfl, by decide, by decide, by decide, by decide⟩

theorem test_hyp_GwenyVector : ReadyFor (smp 7 (ctxB 9)) 7 (ctxB 9) true 8 ∧ ReadyFor (smp 7 (ctxB 9)) 7 (ctxB 9) true 2 ∧
    ReadyFor (smp 8 (ctxB 2)) 8 (ctxB 2) true 1 ∧ (ctxB 9).prismIdle ∧ (ctxB 2).prismIdle :=
  ⟨ready_of rfl (by decide), ready_of rfl (by decide), ready_of rfl (by decide), rfl, rfl⟩

theorem test_hyp_GwenySystem : ReadyFor (smp 8 (ctxB 2)) 8 (ctxB 2) true 1 ∧ ReadyFor (smp 9 (ctxB 2)) 9 (ctxB 2) false 1 ∧
    ReadyFor (smp 9 (ctxB 1)) 9 (ctxB 1) false 0 ∧ (ctxB 1).prismIdle ∧ (ctxB 1).handler = false ∧ (smp 9 (ctxB 1)).slotOf 5 = none ∧
    (wF (slotF 0 0 5 SlotSt.running)).slotOf 5 = some (0, 0) ∧ (wF (slotF 0 0 5 SlotSt.running)).fld (Fd.CE_SLOT_CFG_TRAP_LIM 0 0) = 0 :=
  ⟨ready_of rfl (by decide), ready_of rfl (by decide), ready_of rfl (by decide), rfl, rfl, by decide, by decide, by decide⟩

/-- Loop 5 runs in slot 15 of engine 7 with its vector enabled. -/
def trapS : State := (wF (slotF 7 15 5 SlotSt.running ++ [(Fd.CE_SLOT_TRAPV_EN 7 15, 1)])).setCtx 7 (some (ctxB 1))

theorem test_hyp_GwenyTraps : trapS.slotOf (ctxB 1).loop = some (7, 15) ∧ trapS.flag (Fd.CE_SLOT_TRAPV_EN 7 15) = true ∧ (ctxB 1).handler = false ∧
    ReadyFor trapS 7 (ctxB 1) false 0 ∧ gwLegal 0xFFFFFFFF = false ∧ trapS.ctx 7 = some (ctxB 1) :=
  ⟨by decide, by decide, rfl, ready_of rfl (by decide), by decide, by decide⟩

/-- A descriptor of one row and one column at local address 0: A at 64, X at 128, Y at 4092. -/
def pmvS : State := (smp 8 (ctxB 2)).setWords 0x50000000 [64, 0x00010001, 128, 4092, 0, 0x00040000, 0, 0]

/-- A Prism operation at its completion. -/
def prismP (y : Option Nat) : Prism := { doneAt := 13, ranges := [], vregs := [], y := [1#32], yAddr := y, yv := 7, a := 0, stride := 0, cols := 0, rows := 0, x := [], b := none }

theorem test_hyp_PrismUnit : ReadyFor pmvS 8 (ctxB 2) true 1 ∧ (ctxB 2).prismIdle ∧ (ctxB 2).ea 0 0 % 32 = 0 ∧ (ctxB 2).ea 0 0 + 32 ≤ (ctxB 2).size ∧
    (let d := pmvDesc (pmvS.wordsAt 0x50000000 8); pmvBad d = false ∧ pmvMisaligned d = none ∧ pmvOutside 4096 d = none) ∧
    (smp 8 { ctxB 2 with prism := some (prismP (some 4092)), cyc := 13 }).ctx 8 = some { ctxB 2 with prism := some (prismP (some 4092)), cyc := 13 } ∧
    (prismP (some 4092)).doneAt ≤ 13 ∧ (prismP none).yAddr = none :=
  ⟨ready_of rfl (by decide), rfl, by decide, by decide, by decide, by decide, by decide, rfl⟩

/-- g1 points at the last block of the window; the RELAY block there runs. -/
def relayS : State := (smp 8 { ctxG 4032 with budget := 15 }).setWord (0x50000000 + 4032 + 0x14) 0x80000000#32

theorem test_hyp_ControlPrimitives : ReadyFor (smp 9 (ctxG 4064)) 9 (ctxG 4064) false 8 ∧ ReadyFor (smp 9 (ctxG 4064)) 9 (ctxG 4064) false 12 ∧
    (ctxG 4064).prismIdle ∧ ((ctxG 4064).gr 1).toNat % 32 = 0 ∧ ((ctxG 4064).gr 1).toNat + 32 ≤ (ctxG 4064).size ∧
    integBad 0 0x3F800000#32 0 0x3F800000#32 = false ∧ ReadyFor relayS 8 { ctxG 4032 with budget := 15 } true 14 ∧
    ((ctxG 4032).gr 1).toNat % 64 = 0 ∧ ((ctxG 4032).gr 1).toNat + 64 ≤ (ctxG 4032).size ∧
    bit (relayS.wordAt (0x50000000 + 4032 + 0x14)).toNat 31 = true ∧ ({ ctxG 4032 with mode := Mode.road } : GwCtx).mode ≠ Mode.service ∧ Mode.road ≠ Mode.fieldManual :=
  ⟨ready_of rfl (by decide), ready_of rfl (by decide), rfl, by decide, by decide, by decide, ready_of rfl (by decide), by decide, by decide,
    by decide, by decide, by decide⟩

/-! ### Loops, migration and machine functions -/

/-- Loop 5 in slot 3 of engine 2, in the given state, with its output port 255 routed, and eligible for START. -/
def loopS (st : Nat) : State := routed (wF (slotF 2 3 5 st ++ [(Fd.CE_SLOT_SCHED_PERIOD 2 3, 20), (Fd.CE_SLOT_BUDGET_BUDGET 2 3, 16),
  (Fd.CE_ENG_STAT_STATE 2, engOnline)]))

/-- The copy of a LOAD of loop 127 to the last slot and window. -/
def copyX (fault : Bool) : LoadCopy := { loop := 127, eng := 7, slot := 15, via := 7, win := 64, base := 63, at_ := 199, fault := fault }

/-- A copy stands at tick 200. -/
def copyS (fault : Bool) : State := (State.reset.setCe { State.reset.ce with copies := [copyX fault] }).setClk { State.reset.clk with tick := 200 }

/-- Loop 5 disables and its work has retired. -/
def disS : State := let s := loopS SlotSt.disabling; s.setCe { s.ce with disAt := smPut none s.ce.disAt 5 (some s.clk.tick) }

theorem test_hyp_Loops : (State.reset.canonical ∧ State.reset.replaying = false ∧ loopBusy State.reset 127 = false ∧ loopBusy (copyS false) 127 = true) ∧
    ((loopS SlotSt.loaded).canonical ∧ (loopS SlotSt.loaded).slotOf 5 = some (2, 3) ∧ (loopS SlotSt.loaded).fld (Fd.CE_SLOT_CFG_MF 2 3) = 0 ∧
      startCode (loopS SlotSt.loaded) 5 = Code.ok ∧ startCode (loopS SlotSt.running) 5 ≠ Code.ok ∧
      (loopS SlotSt.starting).slotState 2 3 ∈ [SlotSt.running, SlotSt.starting] ∧ (loopS SlotSt.stopped).slotState 2 3 ∈ [SlotSt.loaded, SlotSt.disabled, SlotSt.stopped]) ∧
    ((copyS false).canonical ∧ (copyS false).ce.copies.find? (fun c => c.loop == 127) = some (copyX false) ∧ (copyS false).atFrame = true ∧
      (copyX false).at_ < (copyS false).clk.tick ∧ (copyX true).fault = true) ∧
    (disS.canonical ∧ disS.slotOf 5 = some (2, 3) ∧ smGet none disS.ce.disAt 5 = some 0 ∧ dmaQuiet disS 5 = true ∧ canQuiet disS 5 = true ∧
      portsSafe disS 5 = true) :=
  ⟨⟨canon_of (by decide +kernel), by decide +kernel, by decide +kernel, by decide +kernel⟩, ⟨canon_of (by decide +kernel), by decide +kernel, by decide +kernel, by decide +kernel, by decide +kernel, by decide +kernel, by decide +kernel⟩,
    ⟨canon_of (by decide +kernel), by decide +kernel, by decide +kernel, by decide +kernel, rfl⟩, ⟨canon_of (by decide +kernel), by decide +kernel, by decide +kernel, by decide +kernel, by decide +kernel, by decide +kernel⟩⟩

/-- A migration of loop 5 from slot 3 of engine 2 to slot 15 of engine 7. -/
def migM (phase : Nat) : Mig :=
  { loop := 5, dest := 7, replace := false, budget := 0, via := 7, phase := phase, src := 2, srcSlot := 3, dstSlot := 15, dstBase := 63, tc := some 0 }

/-- The migration stands at a phase. -/
def migS (phase : Nat) : State := let s := loopS SlotSt.running; s.setCe { s.ce with migs := [migM phase] }

/-- Engine 2 is being removed and holds no loop. -/
def remS : State := State.reset.setCe { State.reset.ce with removing := smPut false [] 2 true, evac := smPut false [] 2 true }

theorem test_hyp_Migration : ((migS 1).canonical ∧ migIn (migS 1) 5 1 = some (migM 1) ∧ migIn State.reset 5 1 = none ∧
      (migS 1).slotState 2 3 ≠ SlotSt.stopped ∧ sampleEnded (migS 1) 5 = true ∧ (migM 1).tc.isSome = true ∧ (migM 1).fetched = true) ∧
    (migIn (migS 2) 5 2 = some (migM 2) ∧ ¬ ((migM 2).src = (migM 2).dest ∧ (migM 2).srcSlot = (migM 2).dstSlot) ∧
      (migS 2).clk.tick < (migM 2).tc.getD 0 + (migS 2).fld (Fd.CE_SLOT_SCHED_PERIOD 2 3) ∧ winAddr 2 2 + 4096 ≤ winAddr 7 63) ∧
    ((0x6E1D#16).toNat = 0x6E1D ∧ smGet 0 State.reset.ce.engCmds 7 = 0) ∧
    (remS.canonical ∧ smGet false remS.ce.removing 2 = true ∧ removeCopied remS 2 = true ∧ smGet false remS.ce.evac 2 = true ∧ remS.atFrame = true ∧
      removeRefused remS 2 = true ∧ removeRefused (wF [(Fd.CE_ENG_STAT_STATE 7, engOnline)]) 2 = false) ∧
    ((wF [(Fd.CE_ENG_STAT_STATE 7, engTesting)]).engState 7 = engTesting) ∧
    ((loopS SlotSt.running).engState 2 = engOnline ∧ (wF [(Fd.CE_ENG_STAT_STATE 7, engOnline)]).engSlots 7 = []) ∧
    (slotAt (loopS SlotSt.running) 2 0x2000 = some 3 ∧ slotAt (loopS SlotSt.running) 2 0x2FFF = some 3 ∧ slotAt (loopS SlotSt.running) 2 0x3000 = none) ∧
    ((wF []).spare = 7 ∧ evacOk (wF []) 2 = true ∧ evacOk (wF []) 7 = false ∧ (wF []).ce.migs = [] ∧ ((smp 2 (ctxB 1)).ctx 2).isSome = true) ∧
    (rtSelOut State.reset = false ∧ rtSelIdx State.reset ≤ 1023 ∧ rtSelOut (wF [(Fd.CE_RT_IDX_KIND 0, 1), (Fd.CE_RT_IDX_INDEX 0, 1024)]) = true ∧
      rtSelIdx (wF [(Fd.CE_RT_IDX_KIND 0, 1), (Fd.CE_RT_IDX_INDEX 0, 1024)]) = 1024 ∧ rtCode State.reset false 0 (rtData State.reset false) = Code.badArgument ∧
      (let s := State.reset.setReg (Ra.CE_RT_DATA 0 1) 0x10000000#32; rtCode s false 0 (rtData s false) = Code.ok)) :=
  ⟨⟨canon_of (by decide +kernel), by decide +kernel, by decide +kernel, by decide +kernel, by decide +kernel, rfl, rfl⟩, ⟨by decide +kernel, by decide +kernel, by decide +kernel, by decide +kernel⟩, by decide +kernel,
    ⟨canon_of (by decide +kernel), by decide +kernel, by decide +kernel, by decide +kernel, by decide +kernel, by decide +kernel, by decide +kernel⟩, by decide +kernel, by decide +kernel, ⟨by decide +kernel, by decide +kernel, by decide +kernel⟩,
    ⟨by decide +kernel, by decide +kernel, by decide +kernel, by decide +kernel, by decide +kernel⟩, by decide +kernel⟩

/-- Loop 5 serves MF30 (n = 29). -/
def mfS (st slot en : Nat) : State := let s := loopS slot; (s.setFld (Fd.CE_SLOT_CFG_MF 2 3) 30).setFld (Fd.MFP_MF_STAT_STATE 29) st |>.setFld (Fd.MFP_MF_CTL_EN 29) en

/-- Endpoint 63 holds a full message from a loop to a loop. -/
def epS (tx rx : Nat) : State := wF [(Fd.MBX_EP_CFG_TXL 63, 1), (Fd.MBX_EP_CFG_TX 63, tx), (Fd.MBX_EP_CFG_RXL 63, 1), (Fd.MBX_EP_CFG_RX 63, rx),
  (Fd.MBX_EP_STAT_STATE 63, epFull)]

theorem test_hyp_MachineFunctions : ((mfS mfDisabled SlotSt.loaded 0).canonical ∧ (mfS mfDisabled SlotSt.loaded 0).mfState 29 = mfDisabled ∧
      mfModeOk (mfS mfDisabled SlotSt.loaded 0).bndMode 29 = true ∧ mfLoops (mfS mfDisabled SlotSt.loaded 0) 29 = [5] ∧ mfLoops State.reset 29 = [] ∧
      (mfS mfDisabling SlotSt.running 0).mfState 29 = mfDisabling ∧ (mfS mfEnabled SlotSt.running 1).mfState 29 = mfEnabled) ∧
    ((mfS mfEnabling SlotSt.loaded 1).canonical ∧ ((mfS mfEnabling SlotSt.loaded 1).mf 29).started = false ∧ (mfS mfEnabling SlotSt.loaded 1).atFrame = true ∧
      mfLoops (mfS mfEnabling SlotSt.loaded 1) 29 = [5] ∧ (mfS mfEnabling SlotSt.loaded 1).loopState 5 ∈ [SlotSt.loaded, SlotSt.disabled, SlotSt.stopped] ∧
      mfStartCode (mfS mfEnabling SlotSt.loaded 1) 5 = Code.ok ∧ mfStartCode (wF (slotF 2 3 5 SlotSt.loaded)) 5 ≠ Code.ok) ∧
    ((mfS mfDisabling SlotSt.running 0).canonical ∧ mfArb (mfS mfDisabling SlotSt.running 0) 29 = (mfS mfDisabling SlotSt.running 0).reg (Ra.MFP_MF_SAFE 29) ∧
      (mfS mfDisabling SlotSt.running 0).ce.migs = [] ∧ (mfS mfDisabling SlotSt.running 0).loopState 5 ∈ [SlotSt.running, SlotSt.starting] ∧
      smGet none (mfS mfDisabling SlotSt.running 0).ce.cmds 5 = none) ∧
    (driverless (wF [(Fd.SYS_MODE_STAT_MODE, Mode.fieldAuto)]).bndMode = true ∧ driverless State.reset.bndMode = false ∧
      (0 : Nat) + 2000 ≤ (State.reset.setClk { State.reset.clk with tick := 2000 }).clk.tick) ∧
    (loopWindow State.reset 0 = none ∧ loopWindow (wF (slotF 7 15 0 SlotSt.running)) 0 = some (tileBase 7 + 0x2000, 4096) ∧
      critLong State.reset (fun _ => 0) = false) ∧
    ((epS 38 0).flag (Fd.MBX_EP_CFG_RXL 63) = true ∧ (epS 38 0).fld (Fd.MBX_EP_CFG_RX 63) = 0 ∧ (epS 38 0).fld (Fd.MBX_EP_STAT_STATE 63) = epFull ∧
      (epS 38 0).fld (Fd.MBX_EP_CFG_TX 63) = 38 ∧ refOk (List.replicate 16 0) = true ∧ refOk (0xBF800000#32 :: List.replicate 15 0) = false ∧
      yldHeld (epS 38 0) 0 (List.replicate 16 0) = false) :=
  ⟨⟨canon_of (by decide +kernel), by decide +kernel, by decide +kernel, by decide +kernel, by decide +kernel, by decide +kernel, by decide +kernel⟩,
    ⟨canon_of (by decide +kernel), by decide +kernel, by decide +kernel, by decide +kernel, by decide +kernel, by decide +kernel, by decide +kernel⟩,
    ⟨canon_of (by decide +kernel), by decide +kernel, by decide +kernel, by decide +kernel, by decide +kernel⟩, ⟨by decide +kernel, by decide +kernel, by decide +kernel⟩, ⟨by decide +kernel, by decide +kernel, by decide +kernel⟩,
    ⟨by decide +kernel, by decide +kernel, by decide +kernel, by decide +kernel, by decide +kernel, by decide +kernel, by decide +kernel⟩⟩

/-! ### Ticks, registers, fabric -/

theorem test_hyp_EmptyQueueIdles : State.reset.pending = [] := rfl

theorem test_hyp_CanonicalKept : State.reset.canonical ∧ step State.reset = .next State.reset := ⟨reset_canonical, rfl⟩

theorem test_hyp_QueueKept : ∃ t, step { State.reset with pending := [.fbFlip 0] } = .next t := ⟨_, rfl⟩

theorem test_hyp_RegisterFields : RegStore.wf State.reset.regs = true ∧ Fd.THM_PWR_OUT.lo + Fd.THM_PWR_OUT.width ≤ 32 ∧
    (Fd.CE_SLOT_CFG_VALID 0 0).lo + (Fd.CE_SLOT_CFG_VALID 0 0).width ≤ 32 ∧
    (Fd.CE_SLOT_CFG_VALID 0 0).addr ≠ (Fd.CE_SLOT_CFG_VALID 7 15).addr ∧ (Fd.CE_SLOT_CFG_LOOP 0 0).addr = (Fd.CE_SLOT_CFG_VALID 0 0).addr ∧
    (Fd.CE_SLOT_CFG_LOOP 0 0).lo + (Fd.CE_SLOT_CFG_LOOP 0 0).width ≤ (Fd.CE_SLOT_CFG_VALID 0 0).lo := by decide

theorem test_hyp_MemoryWords : Memory.wf [(0xFFFFFFFFC, 255#8)] = true ∧ Memory.wf State.reset.mem = true := by decide

/-- The module is held in reset by its pin. -/
def heldS : State := State.reset.setPm { State.reset.pm with rstLow := some 0 }

theorem test_hyp_TickBoundary : (inMode Mode.standby).powered = false ∧ State.reset.powered = true ∧ State.reset.mode = Mode.boot ∧ State.reset.bootStep < 2 ∧
    heldS.held = true ∧ (wF [(Fd.PWR_STAT_STEP, 2)]).held = false ∧ ¬ ((wF [(Fd.PWR_STAT_STEP, 2)]).mode = Mode.boot ∧ (wF [(Fd.PWR_STAT_STEP, 2)]).bootStep < 2) := by
  decide +kernel

/-- The tick's major frame is still to run. -/
def frameS (s : State) : State := s.setClk { s.clk with frameAt := some s.clk.tick }

theorem test_hyp_FrameBoundary : (frameS State.reset).powered = true ∧ (frameS State.reset).held = false ∧ (frameS State.reset).framePend = true ∧
    State.reset.framePend = false ∧ (frameS State.reset).rpl.loaded = false ∧ RegStore.wf (frameS State.reset).regs = true := by decide +kernel

theorem test_hyp_RegisterWrites : mayAccess State.reset 4 true = true ∧ State.reset.canonical ∧ 0x40000000 ≤ Ra.PWR_WAKE_CFG ∧ Ra.PWR_WAKE_CFG < 0x41000000 ∧
    inWindow Ra.PWR_WAKE_CFG = true ∧ Ra.PWR_WAKE_CFG % 4 = 0 ∧ canonAddr Ra.PWR_WAKE_CFG = Ra.PWR_WAKE_CFG ∧ (regRow Ra.PWR_WAKE_CFG).isSome = true ∧
    initBarred 4 Ra.PWR_WAKE_CFG = false ∧ coreBnd State.reset 4 Ra.PWR_WAKE_CFG = false ∧ (hooks 4 5#32).all (fun h => !h.covers Ra.PWR_WAKE_CFG) = true ∧
    ¬ (0x40050000 ≤ Ra.PWR_WAKE_CFG) ∧ Ra.PWR_WAKE_CFG ≠ Ra.SYS_FAB_ERR_INFO := by
  simp only [canon_iff]; decide +kernel

theorem test_hyp_RefusedWrites : mayAccess State.reset 4 true = true ∧ inWindow 0x40000000 = true ∧ (1 : Fin 3).val < 2 ∧ 0x40000001 % 4 ≠ 0 ∧
    initBarred 4 (canonAddr 0x40200000) = true ∧ inWindow 0x40200000 = true ∧ inWindow 0x40FFFFFC = false := by decide +kernel

theorem test_hyp_FabricErrors : State.reset.canonical ∧ State.reset.flag Fd.SYS_FAB_ERR_INFO_VALID = false ∧
    (wF [(Fd.SYS_FAB_ERR_INFO_VALID, 1)]).canonical ∧ (wF [(Fd.SYS_FAB_ERR_INFO_VALID, 1)]).flag Fd.SYS_FAB_ERR_INFO_VALID = true := by
  simp only [canon_iff]; decide +kernel

theorem test_hyp_ReadEffects : State.reset.canonical ∧ isPairLow 0x40010000 = true ∧ smGet none State.reset.fab.hiLatch (latchKey 57 0x40010000) = none ∧
    (regRow 0x40010000).all (fun r => r.rc == 0) = true ∧
    (let s := State.reset.setFab { State.reset.fab with hiLatch := smPut none [] (latchKey 57 0x40010004) (some 1#32) };
      smGet none s.fab.hiLatch (latchKey 57 0x40010004) = some 1#32 ∧ s.canonical ∧ isPairLow 0x40010004 = false ∧
      (regRow 0x40010004).all (fun r => r.rc == 0) = true) ∧
    (regRow 1073742100).any (fun r => r.rc != 0) = true ∧ isPairLow 1073742100 = false ∧ canonAddr 1073742100 = 1073742100 := by
  simp only [canon_iff]; decide +kernel

theorem test_hyp_W1cWrites : State.reset.canonical ∧ canonAddr 0x40020000 = 0x40020000 ∧ (regRow 0x40020000).any (fun r => r.w1c != 0 && r.rw &&& r.w1c == 0 &&
      r.wo &&& r.w1c == 0 && r.rwl &&& r.w1c == 0) = true ∧ 0x40020000 / 0x10000 ≠ 0x4020 ∧
    (regRow Ra.SYS_FAB_ERR_INFO).any (fun r => r.w1c != 0 && r.rw &&& r.w1c == 0 && r.wo &&& r.w1c == 0 && r.rwl &&& r.w1c == 0) = true := by
  simp only [canon_iff]; decide +kernel

/-- Requests that stall. -/
def stalls (l : List FabTxn) : State := State.reset.setFab { State.reset.fab with stalled := l }

/-- A STREAM and an aged BULK request. -/
def strmT : FabTxn := { init := 4, cls := 2 }
def bulkT : FabTxn := { init := 5, cls := 3, promoted := true }

theorem test_hyp_BulkAge : rrPick (stalls [strmT, bulkT]) 0 = none ∧ rrPick (stalls [strmT, bulkT]) 1 = none ∧ rrPick (stalls [strmT, bulkT]) 2 = some strmT ∧
    (stalls [strmT, bulkT]).fab.stalled.find? (fun x => x.promoted && fabRoom (stalls [strmT, bulkT]) x) = some bulkT ∧
    rrPick (stalls [{ strmT with cls := 0 }]) 0 = some { strmT with cls := 0 } ∧ rrPick (stalls [{ strmT with cls := 1 }]) 1 = some { strmT with cls := 1 } := by
  decide +kernel

theorem test_hyp_FabricEntries : State.reset.fab.outst.any (fun t => t.init == 57) = false ∧
    (let s := State.reset.setFab { State.reset.fab with outst := [strmT], stalled := [bulkT] };
      s.fab.outst = [strmT] ∧ strmT.init = (4 : Fin 58).val ∧ s.fab.stalled = [bulkT] ∧ bulkT.cls < 4) ∧ State.reset.fab.outst = [] := by decide +kernel

/-! ### Events, power, modes -/

/-- An open record of event 5. -/
def openX : EvOpen := { seq := 0, last := 0 }

theorem test_hyp_EventLog : State.reset.canonical ∧ State.reset.rpl.live = none ∧ State.reset.evr.stormSec = State.reset.fld Fd.EVR_OPTIME_V ∧
    openFor State.reset 5 0 0 0 = none ∧ smGet 0 State.reset.evr.stormCnt 5 < max 1 (State.reset.fld Fd.EVR_CFG_STORM_LIM) ∧
    (let s := State.reset.setEvr { State.reset.evr with openRecs := [openX], log := [(0, { code := 5 })] };
      s.canonical ∧ openFor s 5 0 0 0 = some openX) ∧
    (let s := State.reset.setEvr { State.reset.evr with stormCnt := smPut 0 [] 5 (max 1 (State.reset.fld Fd.EVR_CFG_STORM_LIM)) };
      s.canonical ∧ max 1 (s.fld Fd.EVR_CFG_STORM_LIM) ≤ smGet 0 s.evr.stormCnt 5) := by
  simp only [canon_iff]; decide +kernel

theorem test_hyp_ResetKeeps : (0 : Nat) < 16 ∧ (15 : Nat) < 16 ∧ (15 : Nat) ≠ 0 := by decide

theorem test_hyp_ResetSources : mayReset State.reset = true ∧
    (wF [(Fd.UPD_DBG_STAT_OPEN, 1), (Fd.UPD_DBG_STAT_SCOPE, 1)]).flag Fd.UPD_DBG_STAT_SCOPE = true ∧
    (wF [(Fd.UPD_DBG_STAT_OPEN, 1), (Fd.UPD_DBG_STAT_SCOPE, 1)]).flag Fd.UPD_DBG_STAT_OPEN = true ∧ hotSite State.reset = none ∧
    mayReset (State.reset.setPm { State.reset.pm with hot := true }) = true ∧ State.reset.held = false ∧ (19#32).toNat < 20 ∧ 20 ≤ (20#32).toNat ∧
    State.reset.flag Fd.PWR_STAT_RST_STUCK = false ∧ (wF [(Fd.PWR_STAT_RST_STUCK, 1)]).flag Fd.PWR_STAT_RST_STUCK = true ∧ heldS.held = true ∧
    heldS.pm.rstLow = some 0 ∧ heldS.cyc < 0 + 10 * cycS ∧ 0 + 10 * cycS ≤ (heldS.setClk { heldS.clk with cyc := 10 * cycS }).cyc := by decide +kernel

/-- STANDBY with every wake source enabled and a timer of one second. -/
def stbyS : State := wF [(Fd.SYS_MODE_STAT_MODE, Mode.standby), (Fd.PWR_WAKE_CFG_WAKE_IN, 1), (Fd.PWR_WAKE_CFG_TIMER, 1), (Fd.PWR_WAKE_TIMER_SECONDS, 1),
  (Fd.PWR_WAKE_CFG_CAN, 0x3F)]

/-- Boot step 8. -/
def boot8 : State := wF [(Fd.PWR_STAT_STEP, 8)]

theorem test_hyp_StartUp : (inMode Mode.off).mode = Mode.off ∧ stbyS.mode = Mode.standby ∧ stbyS.flag Fd.PWR_WAKE_CFG_WAKE_IN = true ∧
    (wF [(Fd.SYS_MODE_STAT_MODE, Mode.standby), (Fd.PWR_WAKE_CFG_WAKE_IN, 0)]).flag Fd.PWR_WAKE_CFG_WAKE_IN = false ∧
    stbyS.flag Fd.PWR_WAKE_CFG_TIMER = true ∧ stbyS.fld Fd.PWR_WAKE_TIMER_SECONDS ≠ 0 ∧
    stbyS.fld Fd.PWR_WAKE_TIMER_SECONDS * 10 ^ 9 ≤ (1000000000#64).toNat ∧ bit (stbyS.fld Fd.PWR_WAKE_CFG_CAN) 5 = true ∧
    wakeFrame stbyS 5 0 0 [] = true ∧ wakeFrame stbyS 5 0x80000000#32 0 [] = false ∧
    boot8.mode = Mode.boot ∧ boot8.bootStep = 8 ∧ boot8.atFrame = true ∧ boot8.noPf = true ∧ 3000 ≤ (3000#16).toNat ∧
    boot8.flag Fd.PWR_STAT_RESERVE_FAIL = false ∧ 0 + 5 * cycS ≤ ((boot8.setPm { boot8.pm with bootCyc := some 0 }).setClk { boot8.clk with cyc := 5 * cycS }).cyc := by
  decide +kernel

/-- A power-fail sequence toward STANDBY runs. -/
def pfS : State := State.reset.setPm { State.reset.pm with pf := some { at_ := 0, stby := true } }

/-- Site 23 is at 125 °C. -/
def hotS : State := State.reset.setPm { State.reset.pm with sites := [(23, { lvl := 4 })] }

theorem test_hyp_PowerFail : (inMode Mode.standby).mode = Mode.standby ∧ State.reset.powered = true ∧ (5999#16).toNat < 6000 ∧ State.reset.pm.pf = none ∧
    pfS.powered = true ∧ pfS.pm.pf = some { at_ := 0, stby := true } ∧ State.reset.mode ≠ Mode.standby ∧ 6000 ≤ (6000#16).toNat ∧
    hotSite hotS = some 23 ∧ hotS.powered = true ∧ hotS.pm.hot = false ∧ hotS.saf.mram = none ∧ hotSite State.reset = none := by decide +kernel

/-- A request for ROAD is pending in BOOT. -/
def reqS (m tgt : Nat) : State := wF [(Fd.SYS_MODE_STAT_MODE, m), (Fd.SYS_MODE_STAT_PENDING, 1), (Fd.SYS_MODE_STAT_TARGET, tgt)]

theorem test_hyp_ModeRequests : State.reset.canonical ∧ State.reset.flag Fd.SYS_MODE_STAT_PENDING = false ∧ (reqS Mode.boot Mode.road).canonical ∧
    (reqS Mode.boot Mode.road).flag Fd.SYS_MODE_STAT_PENDING = true := by simp only [canon_iff]; decide +kernel

theorem test_hyp_RequestEnds : (reqS Mode.boot Mode.road).canonical ∧ (0xFFFF : Nat) < 2 ^ 16 := by simp only [canon_iff]; decide +kernel

theorem test_hyp_IslandPrecedence : (reqS Mode.boot Mode.road).canonical ∧ (15 : Nat) < 16 ∧ (reqS Mode.boot Mode.road).flag Fd.SYS_MODE_STAT_PENDING = true := by
  simp only [canon_iff]; decide +kernel

/-- The state in which the machine has stood still for 2 s. -/
def still (s : State) : State := (s.setPm { s.pm with statCyc := some 0 }).setClk { s.clk with cyc := 2 * cycS }

/-- WAKE_IN has been low for its delay in ROAD. -/
def wakeS : State := ((inMode Mode.road).setPm { State.reset.pm with wakeLow := some 0 }).setClk
  { State.reset.clk with cyc := State.reset.fld Fd.PWR_WAKE_CFG_DELAY * cycS }

theorem test_hyp_ModeChecks : checkDue (frameS (reqS Mode.road Mode.standby)) = true ∧ checkDue State.reset = false ∧
    inTable (reqS Mode.road Mode.fieldAuto) Mode.road Mode.fieldAuto = false ∧
    inTable State.reset Mode.fieldAuto Mode.fieldAssist = true ∧ modeConds State.reset Mode.fieldAuto Mode.fieldAssist false = false ∧
    inTable State.reset Mode.road Mode.standby = true ∧ modeConds State.reset Mode.road Mode.standby false = true ∧
    stationary (still State.reset) = true ∧ stationary State.reset = false ∧
    modeConds State.reset Mode.fieldAuto Mode.fieldAssist true = true ∧ rampOf Mode.fieldAuto Mode.fieldAssist = [] ∧
    checkDue (frameS (reqS Mode.fieldAuto Mode.fieldAssist)) = true ∧
    inTable State.reset Mode.fieldManual Mode.road = true ∧ modeConds State.reset Mode.fieldManual Mode.road false = true ∧
    checkDue (frameS (reqS Mode.fieldManual Mode.road)) = true ∧
    (let s := (frameS (reqS Mode.fieldManual Mode.road)).setFld (Fd.MFP_MF_STAT_STATE 28) mfEnabled;
      checkDue s = true ∧ mfAllDone (mfClear s (rampOf Mode.fieldManual Mode.road)) (rampOf Mode.fieldManual Mode.road) = false) ∧
    (let s := frameS (reqS Mode.fieldAuto Mode.fieldAssist); rampDone (s.setPm { s.pm with ramping := true }) = true) ∧ rampDone State.reset = false ∧
    State.reset.powered = true ∧ State.reset.pm.wakeLow = none ∧
    wakeS.pm.wakeLow = some 0 ∧ wakeS.powered = true ∧ wakeS.pm.stbyReq = false ∧ 0 + wakeS.fld Fd.PWR_WAKE_CFG_DELAY * cycS ≤ wakeS.cyc ∧
    wakeS.flag Fd.SYS_MODE_STAT_PENDING = false ∧ wakeS.noPf = true ∧ wakeS.mode = Mode.road ∧ wakeS.canonical ∧
    (let s := still (reqS Mode.road Mode.standby); let d := s.setPm { s.pm with deferred := true };
      d.flag Fd.SYS_MODE_STAT_PENDING = true ∧ d.pm.deferred = true ∧ stationary d = true ∧ d.noPf = true ∧ d.mode = Mode.road ∧
      d.fld Fd.SYS_MODE_STAT_TARGET = Mode.standby ∧ d.pm.pf = none) ∧ pfS.pm.pf = some { at_ := 0, stby := true } := by
  simp only [canon_iff]; decide +kernel

/-- Unloading armed for superframe 1, in the frame before its START; the partner agrees. -/
def unlS : State := ((wF [(Fd.FLR_UNL_CFG_ARM, 1), (Fd.FLR_UNL_STAT_PHASE, 1), (Fd.FLR_UNL_START_V, 1), (Fd.CLK_TIME_STAT_STATE, tLocked)]).setFlr
  { State.reset.flr with partSf := some 0, part := [0#32, 1#32, 0x100#32] }).setClk { State.reset.clk with tick := sfTicks - 200 }

theorem test_hyp_Unloading : State.reset.canonical ∧ State.reset.flag Fd.FLR_UNL_CFG_ARM = false ∧ State.reset.mode ≠ Mode.unloadSync ∧
    unlS.flag Fd.FLR_UNL_CFG_ARM = true ∧ unlS.fld Fd.FLR_UNL_STAT_PHASE = 1 ∧ frameBefore unlS (unlS.reg Ra.FLR_UNL_START).toNat = true ∧
    unloadReady unlS = true ∧ unloadReady State.reset = false ∧ unlS.flag Fd.SYS_MODE_STAT_PENDING = false ∧ (inMode Mode.unloadSync).mode = Mode.unloadSync ∧
    (let s := (inMode Mode.unloadSync).setFlr { State.reset.flr with unlEnd := some 1 };
      s.flr.unlEnd = some 1 ∧ frameBefore (s.setClk { s.clk with tick := sfTicks - 1 }) 1 = true) ∧
    3 ≤ partSilent State.reset ∧ partSilent unlS < 3 ∧ partPhase unlS ≠ 4 := by simp only [canon_iff]; decide +kernel

theorem test_hyp_SuppliesAndHeat : 50 < ((-51#8 : Byte)).toInt.natAbs ∧ (50#8).toInt.natAbs ≤ 50 ∧ State.reset.powered = true ∧ State.reset.canonical ∧
    State.reset.flag Fd.PWR_GND_STAT_GND1_LOST = false ∧ State.reset.flag Fd.PWR_GND_STAT_GND2_LOST = false ∧ (20#8).toInt.natAbs ≤ 20 ∧
    20 < (21#8).toInt.natAbs ∧ (wF [(Fd.PWR_GND_STAT_GND2_LOST, 1)]).flag Fd.PWR_GND_STAT_GND2_LOST = true ∧
    State.reset.atFrame = true ∧ stageNext (wF [(Fd.THM_STAT_THROTTLE, 1)]) ≠ (wF [(Fd.THM_STAT_THROTTLE, 1)]).fld Fd.THM_STAT_STAGE ∧
    3000 < (3001#16).toNat ∧ (2800#16).toNat ≤ 2800 ∧ 2800 < (2801#16).toNat ∧ (3000#16).toNat ≤ 3000 ∧ (6500#16).toNat ≤ 6500 := by
  simp only [canon_iff]; decide +kernel

/-! ### Crop sensing, cameras, fusion -/

/-- Channel 47 is enabled in mode `m` with edge setting `e`, tied to supply 3. -/
def uinS (m e : Nat) : State := wF [(Fd.UIN_CH_CFG_EN 47, 1), (Fd.UIN_CH_CFG_MODE 47, m), (Fd.UIN_CH_CFG_EDGE 47, e), (Fd.UIN_CH_CFG_SUPTIE 47, 1),
  (Fd.UIN_CH_CFG_SUP 47, 3), (Fd.UIN_SUP_CFG_EN 3, 1), (Fd.LOS_CH_CFG_EN 7, 1)]

/-- An impact of channel 7 has been counted at DTB cycle 1 and the signal has fallen since. -/
def losS : State := (uinS 0 0).setSnU 59 { disarmed := true, fell := true, hitCyc := 1 }

/-- An intrusive test of channel 47. -/
def senseS (run : Bool) : State := (uinS 1 0).setUin { State.reset.uin with test := some { test := 1, unit := 47, running := run, at_ := 0 } }

theorem test_hyp_CropSensing : (uinS 7 0).canonical ∧ uinMode (uinS 7 0) 46 ≠ 9 ∧ snEn (uinS 7 0) 47 = true ∧ uinMode (uinS 7 0) 47 = 7 ∧ uinMode (uinS 10 2) 47 = 10 ∧
    uinMode (uinS 8 0) 47 = 8 ∧ (uinS 10 2).fld (Fd.UIN_CH_CFG_EDGE 47) = 2 ∧
    (let q := wF [(Fd.UIN_CH_CFG_EN 46, 1), (Fd.UIN_CH_CFG_MODE 46, 9)]; q.canonical ∧ uinMode q 46 = 9 ∧ snEn q 46 = true) ∧
    ((uinS 7 0).setClk { State.reset.clk with cyc := 10 * cycS }).since 0 (10 * cycS) = true ∧ (uinS 7 0).since 0 (10 * cycS) = false ∧
    losS.canonical ∧ snEn losS 59 = true ∧ snHeld losS 59 = false ∧ (losS.snU 59).disarmed = true ∧ losS.clk.cyc + 1 < 1 + losDead losS 7 ∧
    ((uinS 0 0).snU 59).disarmed = false ∧ (uinS 5 0).canonical ∧ uinMode (uinS 5 0) 47 = 5 ∧ ((uinS 5 0).snU 47).burden = none ∧
    (((uinS 5 0).setSnU 47 { burden := some 0 }).snU 47).burden = some 0 ∧
    (let s := State.reset.setUin { State.reset.uin with refs := smPut 0 [] 5 3 }; s.canonical ∧ 3 ≤ smGet 0 s.uin.refs 5) ∧
    (uinS 5 0).flag (Fd.UIN_SUP_CFG_EN 3) = true ∧ (uinS 5 0).fld (Fd.UIN_SUP_STAT_FAULT 3) = 0 ∧ (uinS 5 0).flag (Fd.UIN_CH_CFG_SUPTIE 47) = true ∧
    (uinS 5 0).fld (Fd.UIN_CH_CFG_SUP 47) = 3 ∧ testFits (uinS 1 0) 1 47 = true ∧ testFits (uinS 7 0) 1 47 = false ∧ (uinS 1 0).uin.test = none ∧
    testCode ((uinS 1 0).setFld Fd.SYS_MODE_STAT_MODE Mode.service).mode false false ≠ Code.refused ∧ testCode ((uinS 1 0).setFld Fd.SYS_MODE_STAT_MODE Mode.replay).mode false false = Code.refused ∧
    (senseS false).canonical ∧ (senseS false).uin.test = some { test := 1, unit := 47 } ∧ (senseS false).clk.tick % 200 = 0 ∧
    testBusy (senseS false) 1 47 = false ∧ (senseS false).rpl.live = none ∧ (senseS true).clk.tick < 0 + testTicks (senseS true) 1 47 ∧
    0 + testTicks (senseS true) 1 47 ≤ ((senseS true).setClk { State.reset.clk with tick := 4 }).clk.tick := by
  simp only [canon_iff]; decide +kernel

/-- Link 5 is enabled, up or training, with channel 3 on. -/
def camS (up train : Nat) : State := wF [(Fd.CAM_LNK_CFG_EN 5, 1), (Fd.CAM_LNK_STAT_UP 5, up), (Fd.CAM_LNK_STAT_TRAINING 5, train), (Fd.CAM_LNK_VC_CFG_EN 5 3, 1),
  (Fd.CAM_LNK_RING_CFG_SLOTS 5, 4), (Fd.CAM_LNK_RING_CFG_SLOT_SIZE 5, 4), (Fd.CAM_LNK_CFG_POC 5, 1)]

/-- A frame of type 0x2B is arriving on channel 3. -/
def camF : State := (camS 1 0).setCamSt 5 { cur := smPut none [] 3 (some { type := 0x2B }), commit := some (1, 0), lostCyc := 0 }

/-- A job of camera 5. -/
def camJ : MpJob := { cam := 5, vc := 3, slot := 0, fcnt := 0, epoch := 0, arrDt := 0, ready := 0, dead := 0, pri := 0, width := 16, lines := 1, type := 0x2B }

/-- A job waits, runs, or has been done inline. -/
def jobS : State := (camS 1 0).setCam { State.reset.cam with queue := [camJ], inlDone := some (camJ, [], true) }
def jobR : State := (camS 1 0).setCam { State.reset.cam with run := some (camJ, [], 0) }

theorem test_hyp_Cameras : (camS 1 0).canonical ∧ (camS 1 0).flag (Fd.CAM_LNK_CFG_EN 5) = true ∧ (camS 0 1).flag (Fd.CAM_LNK_STAT_TRAINING 5) = true ∧
    State.reset.flag (Fd.CAM_LNK_CFG_EN 5) = false ∧ State.reset.fld (Fd.CAM_LNK_RING_CFG_SLOTS 5) < 4 ∧
    (let s := wF [(Fd.CAM_LNK_RING_CFG_SLOTS 5, 4), (Fd.CAM_LNK_RING_CFG_SLOT_SIZE 5, 4)];
     ¬ (s.fld (Fd.CAM_LNK_RING_CFG_SLOTS 5) < 4 ∨ s.fld (Fd.CAM_LNK_RING_CFG_SLOT_SIZE 5) * 4096 < 64 + largestFrame s 5 ∨
      6 * 2 ^ 30 < enabledRings s + ringBytes s 5)) ∧
    ((camS 0 0).setClk { State.reset.clk with cyc := 100 * cycMs }).since ((camS 0 0).camSt 5).lostCyc (100 * cycMs) = true ∧
    (camS 1 0).flag (Fd.CAM_LNK_STAT_UP 5) = true ∧ (9#16).toNat < 10 ∧ 480 < (481#16).toNat ∧ (camS 1 0).flag (Fd.CAM_LNK_CFG_POC 5) = true ∧
    vcOn (camS 1 0) 5 3 = true ∧ vcOn (camS 1 0) 5 2 = false ∧ smGet none ((camS 1 0).camSt 5).cur 3 = none ∧
    camF.canonical ∧ smGet none (camF.camSt 5).cur 3 = some { type := 0x2B } ∧ 64 + 0 + (List.replicate 20 (0#8)).length ≤ camSlotSize camF 5 ∧
    (camS 1 0).flag (Fd.CAM_EXP_STAT_PENDING 5) = false ∧ (camF.camSt 5).commit = some (1, 0) ∧ ((camS 1 0).camSt 5).commit = none ∧
    (camF.setClk { State.reset.clk with cyc := 2 * cycMs }).since 0 (2 * cycMs) = true ∧ camF.since 0 (2 * cycMs) = false ∧
    jobS.canonical ∧ jobS.cam.run = none ∧ jobS.cam.queue = [camJ] ∧ jobS.since camJ.ready (camJ.dead * cycUs) = true ∧ jobS.cam.inlDone = some (camJ, [], true) ∧
    jobR.canonical ∧ jobR.cam.run = some (camJ, [], 0) ∧ 0 ≤ jobR.clk.cyc := by
  simp only [canon_iff]; decide +kernel

/-- The sequencer runs; wheel 3 has slipped and recovered since cycle 0. -/
def fusS (excl : Bool) : State := State.reset.setFus { State.reset.fus with running := true, whl := smPut {} [] 3 { offCyc := some 0, okCyc := some 0, excl := excl } }

/-- An inference job. -/
def infJ : InfJob := { job := 7, arrDt := 0, fcnt := 0, epoch := 0, ready := 0 }

/-- A lidar scan of source 5 is half assembled. -/
def scanX : ScanSt := { sens := 9, first := 0, next := 65535, recs := [], arrDt := 0 }
def scanS : State := (wF [(Fd.FUS_SRC_CFG_EN 5, 1)]).setFus { State.reset.fus with scan := smPut none [] 5 (some scanX) }

theorem test_hyp_Fusion : (fusS false).canonical ∧ (fusS false).fus.running = true ∧ (fusS false).flag Fd.FUS_STAT_FAILED = false ∧ State.reset.fus.running = false ∧
    ((fusS false).whlSt 3).offCyc = some 0 ∧ ((fusS false).whlSt 3).excl = false ∧ ((fusS false).setClk { State.reset.clk with cyc := 200 * cycMs }).since 0 (200 * cycMs) = true ∧
    taskOn (fusS false) 0 = true ∧ ((fusS true).whlSt 3).okCyc = some 0 ∧ ((fusS true).whlSt 3).excl = true ∧
    (State.reset.pubAt (snKey 60 0)).valid = false ∧ State.reset.fus.imuBad = none ∧
    (let s := State.reset.setFus { State.reset.fus with readyJ := [infJ], runJ := [infJ, infJ, infJ] }; s.canonical ∧ s.fus.readyJ ≠ [] ∧ s.fus.runJ.length < 4 ∧
      s.fus.runJ.any (fun x => x.job == (7 : Fin 8).val) = true) ∧
    infLate ((wF []).setClk { State.reset.clk with cyc := 65536 * cycUs }) infJ = true ∧ infLate (wF []) infJ = false ∧
    scanS.canonical ∧ scanS.flag (Fd.FUS_SRC_CFG_EN 5) = true ∧ smGet none scanS.fus.scan 5 = some scanX ∧ scanX.sens = (9#64).toNat ∧ (65535#16).toNat = scanX.next ∧
    (65534#16).toNat ≠ scanX.next ∧ scanX.sens ≠ (8#64).toNat ∧ smGet none State.reset.fus.scan 5 = none ∧
    (scanS.setClk { State.reset.clk with cyc := 50 * cycMs }).since scanX.first (50 * cycMs) = true ∧ scanS.since scanX.first (50 * cycMs) = false ∧
    (inMode Mode.fieldManual).mode ∈ [Mode.service, Mode.road, Mode.fieldManual] ∧ State.reset.mode ∉ [Mode.service, Mode.road, Mode.fieldManual] := by
  simp only [canon_iff]; decide +kernel

/-! ### Device time, load switches, satellite positioning -/

/-- A step of E = 1 s is prepared for DT = 0. -/
def stepS : State := State.reset.setClk { State.reset.clk with stepPend := some (1000000000 * 2 ^ 32), stepAt := 0 }

theorem test_hyp_TimeSolutions : State.reset.canonical ∧ State.reset.clk.stepPend = none ∧ -fpUs ≤ (0 : Int) ∧ (-1000 * 2 ^ 32 : Int) = -fpUs ∧
    (1000001 * 2 ^ 32 : Int) ≥ fpMs ∧ (if State.reset.timeState = tFree ∨ State.reset.timeState = tHoldover then false else State.reset.clk.stepUsed) = false := by
  simp only [canon_iff]; decide +kernel

theorem test_hyp_TimeSteps : stepS.canonical ∧ stepS.clk.stepPend = some (1000000000 * 2 ^ 32) ∧ stepS.clk.stepAt ≤ stepS.dtNs ∧ State.reset.clk.stepPend = none ∧
    (stepS.setClk { stepS.clk with stepAt := 1 }).dtNs < 1 ∧ State.reset.timeState = tFree ∧
    State.reset.dtNs < (State.reset.reg Ra.CLK_DT_SET_LO).toNat + (1#32).toNat * 2 ^ 32 ∧ (wF [(Fd.CLK_TIME_STAT_STATE, tLocked)]).timeState ≠ tFree := by
  simp only [canon_iff]; decide +kernel

theorem test_hyp_Holdover : (wF [(Fd.CLK_TIME_STAT_STATE, tLocked)]).canonical ∧ (wF [(Fd.CLK_TIME_STAT_STATE, tLocked)]).timeState = tLocked ∧
    0 + 2 * cycS ≤ (State.reset.setClk { State.reset.clk with cyc := 2 * cycS }).cyc ∧ State.reset.cyc < State.reset.clk.solCyc + 2 * cycS ∧
    (wF [(Fd.CLK_TIME_STAT_STATE, tHoldover)]).timeState = tHoldover ∧ holdUnc (wF [(Fd.CLK_TIME_STAT_STATE, tHoldover)]) ≤ holdLimNs (wF [(Fd.CLK_TIME_STAT_STATE, tHoldover)]) ∧
    (let s := (wF [(Fd.CLK_TIME_STAT_STATE, tHoldover)]).setClk { State.reset.clk with u0 := 2 ^ 32 - 1 }; holdLimNs s < holdUnc s) ∧
    (State.reset.setClk { State.reset.clk with steerAt := some 0 }).clk.steerAt = some 0 := by
  simp only [canon_iff]; decide +kernel

/-- Stream 23 is enabled and anchored. -/
def strmS (cnt : Nat) : State := (wF [(Fd.CLK_STRM_CFG_EN 23, 1), (Fd.CLK_STRM_CFG_PERIOD 23, 1)]).setClk { State.reset.clk with strm := smPut {} [] 23 { cnt := cnt } }

theorem test_hyp_Streams : (strmS 8).canonical ∧ (strmS 8).flag (Fd.CLK_STRM_CFG_EN 23) = true ∧ State.reset.flag (Fd.CLK_STRM_CFG_EN 23) = false ∧
    (smGet {} (strmS 8).clk.strm 23).cnt = 8 ∧ (smGet {} (strmS 7).clk.strm 23).cnt = 7 ∧ (smGet {} (strmS 6).clk.strm 23).cnt < 7 ∧
    (strmS 8).fld (Fd.CLK_STRM_CFG_PERIOD 23) ≠ 0 ∧
    ((strmS 8).fld (Fd.CLK_STRM_CFG_PERIOD 23) * 10000 : Nat) < ((((10001#64).toNat : Int) - (0#64).toNat - (smGet {} (strmS 8).clk.strm 23).a).natAbs : Int) := by
  simp only [canon_iff]; decide +kernel

/-- Load switch 23. -/
def lswS (x : LswCh) (l : List (Fld × Nat)) : State := (wF l).setLsw { State.reset.lsw with ch := smPut {} [] 23 x }

theorem test_hyp_LoadSwitchCommands : State.reset.canonical ∧ State.reset.ownerRoute 2 23 = none ∧
    (let s := State.reset.setCe { State.reset.ce with rtOut := [(0, [0x85000000#32, 0x20000017#32, 0#32, 0#32])] }; s.canonical ∧ (s.ownerRoute 2 23).isSome = true) := by
  simp only [canon_iff]; decide +kernel

theorem test_hyp_LoadSwitchTrips : (lswS { on := true } []).canonical ∧ ((lswS { on := true } []).lch 23).on = true ∧ lswHard 23 < (2001#16).toNat ∧
    (2000#16).toNat ≤ lswHard 23 ∧ ((lswS { on := true, winAt := some 0 } []).lch 23).winAt = some 0 ∧ lswInrush (lswS { on := true, winAt := some 0 } []) 23 < (1501#16).toNat ∧
    ((lswS { on := true } []).lch 23).winAt = none ∧ lswLatch (lswS { on := true } []) 23 < (551#16).toNat ∧ (0#16).toNat ≤ lswLatch (lswS {} []) 23 := by
  simp only [canon_iff]; decide +kernel

theorem test_hyp_LoadSwitchRecovery : (lswS { winAt := some 0 } []).canonical ∧ ((lswS { winAt := some 0 } []).lch 23).winAt = some 0 ∧
    0 + 50 * cycMs ≤ ((lswS { winAt := some 0 } []).setClk { State.reset.clk with cyc := 50 * cycMs }).cyc ∧
    (let s := lswS { winAt := some 0 } [(Fd.LSW_CH_TIME_INRUSH_T 23, 1)]; s.cyc < 0 + (lswWindowMs s 23 * cycMs + lswPause s 23 0) ∧ s.cyc < 0 + 50 * cycMs) ∧
    (let s := (lswS { latchAt := some 0, cmd := 1000 } [(Fd.LSW_CH_STAT_RETRY_LEFT 23, 1), (Fd.LSW_CH_STAT_FAULT 23, 4)]).setClk { State.reset.clk with cyc := cycS };
      s.canonical ∧ (s.lch 23).latchAt = some 0 ∧ 0 + cycS ≤ s.cyc ∧ 0 < s.fld (Fd.LSW_CH_STAT_RETRY_LEFT 23) ∧ s.fld (Fd.LSW_CH_STAT_FAULT 23) ≠ 5 ∧ (s.lch 23).cmd ≠ 0) ∧
    ((lswS {} []).lch 23).latchAt = none ∧ ((lswS { hot := true } []).lch 23).hot = true ∧ ((lswS {} []).lch 23).hot = false := by
  simp only [canon_iff]; decide +kernel

theorem test_hyp_LoadSwitchChecks : (wF [(Fd.LSW_CH_CFG_LOAD 23, 1)]).flag (Fd.LSW_CH_CFG_LOAD 23) = true ∧ (wF [(Fd.LSW_CH_CFG_LOAD 23, 0)]).flag (Fd.LSW_CH_CFG_LOAD 23) = false ∧
    20 < (21#16).toNat ∧ 200 < (201#16).toNat ∧ ((lswS { clampAt := some 0 } [(Fd.LSW_CH_CFG_LOAD 23, 0)]).lch 23).clampAt = some 0 ∧
    (lswS { clampAt := some 0 } []).cyc ≤ 0 + 100 * cycMs ∧ (lswS { on := true } []).canonical ∧ (lswS { on := true } []).fld (Fd.LSW_CH_STAT_FAULT 23) = 0 ∧
    (wF [(Fd.LSW_CH_CFG_OL_OFF 23, 1)]).flag (Fd.LSW_CH_CFG_OL_OFF 23) = true ∧ (wF [(Fd.LSW_CH_STAT_FAULT 23, 1)]).fld (Fd.LSW_CH_STAT_FAULT 23) = 1 ∧
    (wF [(Fd.LSW_CH_STAT_FAULT 23, 4)]).fld (Fd.LSW_CH_STAT_FAULT 23) = 4 ∧ 10000 < (10001#16).toNat ∧ (10000#16).toNat ≤ 10000 ∧ (37999#16).toNat < 38000 ∧
    38000 ≤ (38000#16).toNat ∧ (wF [(Fd.LSW_GRP_STAT_OV 0, 1)]).flag (Fd.LSW_GRP_STAT_OV 0) = true ∧ (4999#16).toNat < lswUv State.reset 3 ∧
    smGet none State.reset.lsw.uvAt 3 = none ∧ lswUv State.reset 3 ≤ (20000#16).toNat ∧
    (let s := State.reset.setLsw { State.reset.lsw with uvAt := smPut none [] 3 (some 0), ch := smPut {} [] 23 { winAt := some 0 } };
      s.canonical ∧ (smGet none s.lsw.uvAt 3).isSome = true ∧ lswGroup 23 = 3 ∧ (s.lch 23).winAt.isSome = true ∧ lswGroup 15 ≠ 3) ∧
    (let s := lswS { on := true, hold := true, keepEnd := some 0 } []; s.canonical ∧ (s.lch 23).keepEnd = some 0 ∧ 0 ≤ s.cyc ∧ (s.lch 23).hold = true) := by
  simp only [canon_iff]; decide +kernel

/-- A test of load switch 23. -/
def lswT (run : Bool) (cyc : Nat) : State :=
  (State.reset.setLsw { State.reset.lsw with test := some { test := 1, unit := 23, running := run, at_ := 0 } }).setClk { State.reset.clk with cyc := cyc }

theorem test_hyp_LoadSwitchTests : State.reset.canonical ∧ State.reset.lsw.test = none ∧ lswTestCode State.reset.mode (lswBusy State.reset 23) = Code.refused ∧
    lswTestCode (inMode Mode.road).mode (lswBusy (inMode Mode.road) 23) ≠ Code.refused ∧ (lswT false 0).canonical ∧ (lswT false 0).fld Fd.LSW_TEST_RES_CODE = Code.ok ∧
    (lswT false 0).lsw.test = some { test := 1, unit := 23, running := false, at_ := 0 } ∧ 0 + 1 * cycMs ≤ (lswT true cycMs).cyc := by
  simp only [canon_iff]; decide +kernel

theorem test_hyp_Positioning : (wF [(Fd.GNS_ANT_CFG_BIAS 1, 1)]).canonical ∧ (wF [(Fd.GNS_ANT_CFG_BIAS 1, 1)]).flag (Fd.GNS_ANT_CFG_BIAS 1) = true ∧
    (wF [(Fd.GNS_ANT_CFG_BIAS 1, 1)]).fld (Fd.GNS_ANT_STAT_FAULT 1) ≠ (2 : Fin 3).val ∧ (wF [(Fd.GNS_ANT_CFG_BIAS 1, 0)]).flag (Fd.GNS_ANT_CFG_BIAS 1) = false ∧
    State.reset.gns.allocAt = none ∧ (State.reset.setGns { State.reset.gns with allocAt := some 0 }).gns.allocAt = some 0 ∧
    (0 : Nat) ∉ rtcmBase ++ rtcmMsm ++ rtcmEph ∧ rtcmMsm.all (fun t => decide (t < 4096)) = true ∧ rtcmMsm ≠ [] ∧ rtcmBase ≠ [] ∧ rtcmEph ≠ [] ∧
    rtkMode (wF [(Fd.GNS_RTK_CFG_MODE, 1)]) = 1 ∧ (wF [(Fd.GNS_RTK_CFG_MODE, 1)]).fld Fd.GNS_RTK_CFG_ABS_SRC = 0 ∧
    (let s := (wF [(Fd.GNS_RTK_CFG_MODE, 2)]).setGns { State.reset.gns with baseOk := true, movSince := some 0 };
      s.canonical ∧ rtkMode s = 2 ∧ s.gns.baseOk = true ∧ s.gns.movSince = some 0 ∧ (s.setClk { s.clk with cyc := 2 * cycS }).since 0 (2 * cycS) = true) ∧
    (wF [(Fd.GNS_MB_NB_CFG_EN 7, 1), (Fd.GNS_MB_NB_CFG_MODULE 7, 63)]).flag (Fd.GNS_MB_NB_CFG_EN 7) = true ∧
    (wF [(Fd.GNS_MB_NB_CFG_EN 7, 1), (Fd.GNS_MB_NB_CFG_MODULE 7, 63)]).fld (Fd.GNS_MB_NB_CFG_MODULE 7) = 63 ∧
    (smGet {} State.reset.gns.nb 7).best = none ∧ (smGet {} State.reset.gns.nb 7).wait = none ∧ 1000000 < (1000001#32).toInt.natAbs ∧
    (-1000000#32).toInt.natAbs ≤ 1000000 ∧ State.reset.gns.aidPos = none ∧ State.reset.gns.aidTime = none ∧
    (State.reset.setGns { State.reset.gns with aidPos := some (5, 0) }).gns.aidPos = some (5, 0) ∧ (5 : Nat) ≤ (5#32).toNat ∧
    (let s := wF [(Fd.GNS_PPS_CFG_DELAY, 0)]; s.canonical ∧ (0#64).toNat % 10 ^ 9 = 0 ∧ (s.dtNs : Int) ≤ ((0#64).toNat : Int) - sint 16 (s.fld Fd.GNS_PPS_CFG_DELAY) ∧
      ((0#64).toNat : Int) - sint 16 (s.fld Fd.GNS_PPS_CFG_DELAY) < (s.dtNs : Int) + 50010) ∧ ppsAllowed State.reset = false := by
  simp only [canon_iff]; decide +kernel

/-! ### CAN FD and Ethernet -/

/-- CAN 5 runs at 80 cycles a bit in mode `m`. -/
def canS (m : Nat) (l : List (Fld × Nat)) : State := wF ([(Fd.SYS_MODE_STAT_MODE, m), (Fd.CAN_CTL_EN 5, 1), (Fd.CAN_STAT_STATE 5, 0)] ++ l)

/-- A queued frame. -/
def canF : CanFrame := { obj := some 3, hdr := 0x40000000 }

theorem test_hyp_CanBuses : (canS Mode.road []).canonical ∧ (canS Mode.road []).flag (Fd.CAN_CTL_EN 5) = true ∧ State.reset.flag (Fd.CAN_CTL_EN 5) = false ∧
    canTimingOk (wF [(Fd.CAN_NBT_BRP 5, 0), (Fd.CAN_NBT_SEG1 5, 250), (Fd.CAN_NBT_SEG2 5, 67), (Fd.CAN_NBT_SJW 5, 0)]) 5 = true ∧
    nomBit (wF [(Fd.CAN_NBT_BRP 5, 0), (Fd.CAN_NBT_SEG1 5, 0), (Fd.CAN_NBT_SEG2 5, 0)]) 5 < 80 ∧
    canRunning (canS Mode.road []) 5 = true ∧ canRunning State.reset 5 = false ∧ (canS Mode.road [(Fd.CAN_ERR_TEC 5, 255)]).fld (Fd.CAN_ERR_TEC 5) = 255 ∧
    (let s := ((canS Mode.road [(Fd.CAN_STAT_STATE 5, 2), (Fd.CAN_CTL_AUTO_REC 5, 1), (Fd.CAN_CTL_REC_DLY 5, 0)]).setCanC 5 { offCyc := some 0 });
      s.canonical ∧ (s.canC 5).offCyc = some 0 ∧ s.fld (Fd.CAN_STAT_STATE 5) = 2 ∧ s.flag (Fd.CAN_CTL_AUTO_REC 5) = true ∧
      s.since 0 (s.fld (Fd.CAN_CTL_REC_DLY 5) * cycMs) = true) ∧ ((canS Mode.road []).canC 5).offCyc = none ∧
    (let s := (canS Mode.road []).setCan { State.reset.can with tab := [(511, [0xD0001200#32, 0#32, 0x1FFFFFFF#32, 0#32, 0#32, 0#32])] };
      s.canonical ∧ sigMatches (s.canEnt 0 511) 5 0 = true ∧ sigExtract (s.canEnt 0 511) [1#8, 2#8] = some 1 ∧ sigMatches (s.canEnt 0 510) 5 0 = false) ∧
    (let s := State.reset.setCan { State.reset.can with tab := [(511, [0#32, 0#32, 0#32, 1#32])], sig := smPut {} [] 511 { cyc := some 0, valid := true } };
      let t := s.setClk { s.clk with cyc := cycMs }; ef (t.canEnt 0 511) 3 0 16 ≠ 0 ∧ t.since 0 (ef (t.canEnt 0 511) 3 0 16 * cycMs) = true ∧ t.rpl.live = none ∧
      (smGet {} t.can.sig 511).valid = true ∧ s.since 0 (ef (s.canEnt 0 511) 3 0 16 * cycMs) = false) ∧
    (let s := (canS Mode.road []).setCanC 5 { queue := [canF] }; s.canonical ∧ canSends s 5 = true ∧ (s.canC 5).queue ≠ []) ∧ canSends State.reset 5 = false ∧
    canIdxOk 0 511 = true ∧ canIdxOk 0 512 = false ∧ canIdxOk 2 127 = true ∧ canFieldsOk 0 [0x00000200#32, 0#32, 0#32, 0#32, 0#32, 0#32] = true ∧
    canFieldsOk 0 [0x60000200#32] = false ∧ canWriteCode State.reset 0 511 [0x00000200#32, 0#32, 0#32, 0#32, 0#32, 0#32] = Code.ok ∧
    (canS Mode.road [(Fd.CAN_CTL_ISO 5, 1)]).flag (Fd.CAN_CTL_ISO 5) = true ∧ canTxOn (canS Mode.road []) = true ∧ State.reset.rpl.live = none := by
  simp only [canon_iff]; decide +kernel

/-- Ports 0 and 3 are up. -/
def ethS : State := wF [(Fd.ETH_PORT_CFG_EN 0, 1), (Fd.ETH_PORT_STAT_LINK 0, 1), (Fd.ETH_PORT_CFG_EN 3, 1), (Fd.ETH_PORT_STAT_LINK 3, 1), (Fd.PWR_STAT_STEP, 8),
  (Fd.FUS_SRC_CFG_EN 5, 1), (Fd.FUS_SRC_CFG_PORT 5, 4000)]

theorem test_hyp_EthernetSwitch : ethS.canonical ∧ (let l := gclOf [(0xFF, 5000), (0x01, 5000), (0, 0)]; gclCycle l ≠ 0 ∧ 10000 % gclCycle l = 0) ∧
    gclCycle (gclOf (smGet [] ethS.eth.gclSh 3)) = 0 ∧ ethUp ethS 0 = true ∧ ethUp ethS 1 = false ∧ ethUp ethS 4 = true ∧
    (List.replicate 8986 (0#8)).length + 14 ≤ 9000 ∧ 9000 < (List.replicate 8987 (0#8)).length + 14 ∧ ethS.eth.fdb.length < 1024 ∧
    (0x1234 : Nat) ∉ [0x88F7, 0x0806, 0x0800] ∧ macGroup 0x010000000000 = true ∧ macGroup 2 = false ∧ macGroup 4 = false ∧
    smGet none ethS.eth.fdb 2 = none ∧ gateFits ethS 3 0 14 = true ∧ ipMine ethS (ownIp ethS) = true ∧ 8 ≤ ethS.bootStep ∧ State.reset.bootStep < 8 ∧
    ethS.flag (Fd.FUS_SRC_CFG_EN 5) = true ∧ ethS.fld (Fd.FUS_SRC_CFG_PORT 5) = (4000#16).toNat ∧ ethS.pm.appReset = false ∧
    ethS.eth.reasm.find? (fun r => r.key == 0) = none ∧ reasmDone { key := 0, at_ := 0, frags := [(0, [1#8]), (1, [2#8])], total := some 2 } = some [1#8, 2#8] ∧
    reasmDone { key := 0, at_ := 0, frags := [(1, [2#8])], total := some 2 } = none ∧ (8999 : Nat) + [0#8].length ≤ 9000 ∧ 9000 < (9000 : Nat) + [0#8].length := by
  simp only [canon_iff]; decide +kernel

theorem test_hyp_EthernetSwitch_mac : (2#64 : Long).toNat ≠ Config.macAddr ∨ (4#64 : Long).toNat ≠ Config.macAddr := by
  have h : (2#64 : Long).toNat ≠ (4#64 : Long).toNat := by decide
  omega

/-! ### The safety island and steering -/

/-- The module in FIELD_AUTO. -/
def autoS : State := inMode Mode.fieldAuto

theorem test_hyp_SafetyIsland : State.reset.canonical ∧ (15 : Nat) < 16 ∧ State.reset.saf.mram = none ∧
    (let s := State.reset.setSaf { State.reset.saf with mram := some (3, 1), lockTick := none }; s.canonical ∧ s.saf.mram = some (3, 1) ∧
      s.saf.lockTick ≠ some s.saf.t ∧ s.locked = true ∧ s.flag Fd.SAF_LOCK_READY = false ∧ (s.setFlag Fd.SAF_LOCK_READY true).flag Fd.SAF_LOCK_READY = true) ∧
    (let s := autoS.setSaf { State.reset.saf with hbMiss := 5 }; 5 ≤ s.saf.hbMiss ∧ driverless s.outMode = true) ∧ driverless State.reset.outMode = false ∧
    (let s := State.reset.setSaf { State.reset.saf with zero := smPut none [] 7 (some (some 0)), t := 20000 }; smGet none s.saf.zero 7 = some (some 0) ∧
      0 + 20000 ≤ s.saf.t) ∧ smGet none State.reset.saf.zero 7 = none ∧
    bit (State.reset.fld Fd.SAF_STAT_TP) 1 = false ∧ bit ((wF [(Fd.SAF_STAT_TP, 2)]).fld Fd.SAF_STAT_TP) 1 = true ∧
    (let s := State.reset.setSaf { State.reset.saf with cfg := { State.reset.saf.cfg with ins := [20, 20, 20, 0x10000014] }, si := smPut {} [] 7 { filt := true, miss := 2 } };
      s.saf.cfg.used 3 = true ∧ s.saf.cfg.type 3 ≠ 2 ∧
      (s.safIn 7).filt = true ∧ (s.safIn 7).fault = false ∧ (7 % 2 = (1 : Fin 2).val ∧ bit (0#8).toNat 7 = false ∧ (s.safIn 7).miss = 2) ∧
      (∀ k : Fin 8, s.saf.cfg.used (k / 2) = true → s.saf.cfg.type (k / 2) ≠ 2 → (s.safIn k).filt = true → bit (0x80#8).toNat k = decide (k % 2 = (1 : Fin 2).val))) ∧
    (let s := State.reset.setSaf { State.reset.saf with cfg := { State.reset.saf.cfg with ins := [20, 20, 20, 0x10000014] }, ip := smPut {} [] 3 { diff := some 0 }, t := 200 };
      discDue s 3 = true) ∧ discDue State.reset 3 = false ∧ soPowered State.reset = true ∧ (State.reset.safOut 3).fault = false ∧ (State.reset.safOut 3).on = false ∧
    (let s := State.reset.setSafOut 3 { on := true, fail := 1 }; (s.safOut 3).on = true ∧ 1 ≤ (s.safOut 3).fail ∧ (s.safOut 3).fault = false) ∧
    (let s := autoS.setSensPair 1 { bad := 300 }; (s.sensPair 1).con = false ∧ 0 < (s.sensPair 1).bad ∧ sensConf s 1 ≤ (s.sensPair 1).bad ∧ driverless s.outMode = true) ∧
    (State.reset.sensPair 0).bad < max 1 (sensConf State.reset 0) ∧ State.reset.saf.btnIgn = false ∧ (499#32).toNat < 500 ∧ 3000 < (3001#32).toNat ∧
    500 ≤ (500#32).toNat ∧ (3000#32).toNat ≤ 3000 ∧ State.reset.locked = false := by
  simp only [canon_iff]; decide +kernel

/-- A straight segment at the origin, and the message that clears the path. -/
def segM : Seg := [0, 0, 0, 0, 0, 0x3F800000#32, 0, 0, 0, 0, 0, 0, 0, 0, 0, 0]
def clrM : Seg := [0, 0xFFFF#32, 0, 0, 0, 0, 0, 0, 0, 0, 0, 0, 0, 0, 0, 0]

/-- Endpoint 63 holds a full message for the Mirror pair. -/
def epM : State := wF [(Fd.MBX_EP_STAT_STATE 63, epFull), (Fd.MBX_EP_CFG_RXL 63, 0), (Fd.MBX_EP_CFG_RX 63, 0x0C)]

/-- The law is engaged and check 12 acts, or check 3 does. -/
def actS (m k : Nat) : State := (inMode m).setSteer { State.reset.steer with engaged := true, conf := smPut 0 [] k 60000 }

theorem test_hyp_Steering : segOk segM = true ∧ State.reset.steer.lastSeq = none ∧ State.reset.steer.segs = [] ∧ segType segM ≠ 0xFFFF ∧ segType clrM = 0xFFFF ∧
    (clrM.drop 11).all (· == 0) = true ∧ segOk clrM = false ∧ segType (segM.set 1 2#32) ≠ 0xFFFF ∧ segOk (segM.set 1 2#32) = false ∧
    epM.fld (Fd.MBX_EP_STAT_STATE 63) = epFull ∧ epM.flag (Fd.MBX_EP_CFG_RXL 63) = false ∧ epM.fld (Fd.MBX_EP_CFG_RX 63) = 0x0C ∧ epM.rpl.live = none ∧
    State.reset.fld (Fd.MBX_EP_STAT_STATE 63) ≠ epFull ∧ State.reset.steer.engaged = false ∧ steerFirst State.reset = none ∧
    (actS Mode.fieldManual 3).steer.engaged = true ∧ steerFirst (actS Mode.fieldManual 3) = some 3 ∧ driverless (actS Mode.fieldManual 3).bndMode = false ∧
    steerFirst (actS Mode.fieldAuto 12) = some 12 ∧ driverless (actS Mode.fieldAuto 3).bndMode = true ∧ steerFirst (actS Mode.fieldAuto 3) = some 3 ∧
    (let s := wF [(Fd.SYS_MODE_STAT_MODE, Mode.service), (Fd.SAF_LOCK_STATIONARY, 1)]; s.mode = Mode.service ∧ s.flag Fd.SAF_LOCK_STATIONARY = true ∧
      s.steer.engaged = false ∧ s.locked = false ∧ fle (fOfInt (0 : Nat)) (stCal s cImax) = true) ∧
    (let s := State.reset.setSteer { State.reset.steer with test := some (1, 100, 0) }; s.steer.test = some (1, 100, 0) ∧ s.cyc < 0 + 2 * cycS) := by
  simp only [canon_iff]; decide +kernel

/-! ### Valve drive, displays -/

/-- Channel 31 is enabled, in bank 7, with its context ready at program counter 255; the word there is `w`. -/
def vlvS (w : Word) : State := (wF [(Fd.VLV_CH_CFG_EN 31, 1), (Fd.SYS_MODE_STAT_MODE, Mode.service), (Fd.VLV_CH_STAT_PHASE 31, 0)]).setVlv
  { State.reset.vlv with ctx := smPut {} [] 31 { wait := .ready, pc := 255 }, active := smPut 0 [] 2047 w }

theorem test_hyp_FacetInstructions : (vlvS 0).canonical ∧ facetReady (vlvS 0) 31 (stepAt (vlvS 0) 499) = true ∧
    ((List.range 16).all (fun op => (facetFetch (vlvS (BitVec.ofNat 32 (op * 2 ^ 27 + (if [10, 11, 12, 15].contains op then 2 else 0)))) 31).any
      (fun i => i.op == op))) = true ∧ facetFetch (vlvS 0xFFFFFFFF#32) 31 = none ∧ ((vlvS 0).vch 31).req = none ∧
    grantBar (vlvS 0) 7 0 ≠ 0 ∧ waitSteps (wF [(Fd.VLV_BANK_CFG_WAIT 7, 1)]) 7 ≠ 0 ∧ waitSteps (wF [(Fd.VLV_BANK_CFG_WAIT 7, 0)]) 7 = 0 := by
  simp only [canon_iff]; decide +kernel

/-- Channel 31 waits for its bank, or drives its phase from step 1 on. -/
def reqX (start : Nat) : BoostReq := { peak := 8000, limit := 1, kinkOn := true, pull := false, reqAt := 0, start := start }
def boostS (start cyc : Nat) (l : List (Fld × Nat)) : State :=
  (((wF l).setVch 31 { req := some (reqX start) }).setVbank 7 { waiting := [(0, 3)] }).setClk { State.reset.clk with cyc := cyc }

theorem test_hyp_ValveArbiter : State.reset.canonical ∧ State.reset.flag (Fd.VLV_CH_CFG_EN 31) = false ∧ isGated (wF [(Fd.VLV_CH_STAT_PHASE 31, 0)]) 31 = false ∧
    State.reset.fld (Fd.VLV_CH_STAT_FAULT 31) = 0 ∧ State.reset.fld (Fd.VLV_BANK_STAT_FAULT 7) = 0 ∧ (boostS 0 0 []).canonical ∧
    ((boostS 0 0 []).vbank 7).waiting = [(0, 3)] ∧ ((boostS 0 0 []).vch 31).req = some (reqX 0) ∧ grantBar (boostS 0 0 []) 7 (stepAt (boostS 0 0 []) 0) ≠ 0 ∧
    (reqX 0).reqAt + waitSteps (boostS 0 0 [(Fd.VLV_BANK_CFG_WAIT 7, 0)]) 7 ≤ stepAt (boostS 0 0 []) 0 ∧
    stepAt (boostS 0 0 []) 9 < (reqX 0).reqAt + waitSteps (boostS 0 0 [(Fd.VLV_BANK_CFG_WAIT 7, 1)]) 7 ∧
    (reqX 1).start ≠ 0 ∧ (reqX 1).start + (reqX 1).limit ≤ stepAt (boostS 1 0 []) 2 ∧
    (let s := boostS 1 160000 [(Fd.VLV_BANK_KINK_KWIN_LO 7, 1), (Fd.VLV_BANK_KINK_KWIN_HI 7, 2), (Fd.VLV_BANK_KINK_KHOLD 7, 0)]; (kinkWindow s 7).1 ≤ 100 ∧ 200 ≤ (kinkWindow s 7).2 ∧
      1 + 200 + s.fld (Fd.VLV_BANK_KINK_KHOLD 7) * 10 ≤ stepAt s 0) ∧
    (let s := State.reset.setVbank 7 { swap := true, cause := true }; s.canonical ∧ (s.vbank 7).swap = true ∧ (s.vbank 7).cause = true ∧
      (∀ i : Fin 4, (s.vch (28 + i)).req = none)) ∧ (State.reset.vbank 7).cause = false ∧ (State.reset.vbank 7).swap = false := by
  simp only [canon_iff]; decide +kernel

/-- A test of the valve drive. -/
def vlvT (run : Bool) (test unit cyc : Nat) : State := (State.reset.setVlv { State.reset.vlv with test := some { test := test, unit := unit, running := run, at_ := 0 } }).setClk
  { State.reset.clk with cyc := cyc }

theorem test_hyp_ValveProtection : State.reset.canonical ∧ (wF [(Fd.VLV_CH_STAT_FAULT 31, 4)]).fld (Fd.VLV_CH_STAT_FAULT 31) = 4 ∧
    (wF [(Fd.VLV_CH_CFG_OPEN_DET 31, 1)]).flag (Fd.VLV_CH_CFG_OPEN_DET 31) = true ∧ (wF [(Fd.VLV_CH_CFG_OPEN_DET 31, 0)]).flag (Fd.VLV_CH_CFG_OPEN_DET 31) = false ∧
    (State.reset.vch 31).held = false ∧ (wF [(Fd.VLV_CH_STAT_FAULT 31, 1)]).fld (Fd.VLV_CH_STAT_FAULT 31) = 1 ∧
    20 ≤ ((State.reset.setVch 31 { unreach := 20 }).vch 31).unreach ∧ (State.reset.vch 31).unreach < 20 ∧ State.reset.vlv.test = none ∧
    vlvTestCode Mode.boot false false = Code.refused ∧ vlvTestCode Mode.service false true ≠ Code.refused ∧
    (vlvT false 1 31 0).canonical ∧ (vlvT false 1 31 0).vlv.test = some { test := 1, unit := 31, running := false, at_ := 0 } ∧
    (vlvT false 1 31 0).fld Fd.VLV_TEST_RES_CODE = Code.ok ∧ (vlvT true 1 31 0).vlv.test = some { test := 1, unit := 31, running := true, at_ := 0 } ∧
    0 + vlvTestSteps 1 ≤ stepAt (vlvT true 1 31 (16 * 20000)) 0 := by
  simp only [canon_iff]; decide +kernel

/-- The panel in a state of its sequence, after boot. -/
def pnlS (q : PanelSeq) (en fr cyc : Nat) : State := ((wF [(Fd.DSP_PNL_CTL_EN, en), (Fd.PWR_STAT_STEP, 8), (Fd.DSP_PNL_CTL_AGE_EN, 1)]).setDsp
  { State.reset.dsp with seq := q, frames := fr }).setClk { State.reset.clk with cyc := cyc }

/-- The panel's last frame started at cycle 0. -/
def frmS (cyc : Nat) : State := let s := pnlS .on 1 0 cyc; s.setDsp { s.dsp with frameAt := some 0 }

/-- An update of the strip runs; a repair runs; an image waits. -/
def stripX : StripRun := { img := [], t := 5, at_ := 0 }
def stripS (cyc : Nat) : State := (State.reset.setBst { State.reset.bst with run := some stripX }).setClk { State.reset.clk with cyc := cyc }
def repX : StripRep := { t := 5, at_ := 0, rounds := 1, img := [] }
def repS (cyc : Nat) : State := (State.reset.setBst { State.reset.bst with rep := some repX }).setClk { State.reset.clk with cyc := cyc }
def imgS (cyc : Nat) : State := (State.reset.setBst { State.reset.bst with pend := some [], last := some 0 }).setClk { State.reset.clk with cyc := cyc }

theorem test_hyp_Displays : ((pnlS .off 0 0 0).canonical ∧ (pnlS .off 0 0 0).flag Fd.DSP_PNL_CTL_EN = false ∧ panelMay (pnlS .off 0 0 0) = true ∧
      (pnlS .off 0 0 0).dsp.seq = .off ∧ panelMay State.reset = false ∧ (pnlS .on 1 0 0).flag Fd.DSP_PNL_CTL_EN = true ∧ (pnlS .on 1 0 0).dsp.seq = .on ∧
      (pnlS (.faulted 0) 1 0 0).dsp.seq = .faulted 0 ∧ (pnlS (.stopping 0 false) 1 0 0).dsp.seq = .stopping 0 false) ∧
    (panelRail (pnlS .on 1 0 0) 0 = true ∧ (pnlS .on 1 0 0).fld Fd.DSP_PNL_CTL_ELVSS = 0 ∧ (1619#16).toNat * 10 < 1800 * 9 ∧ 1800 * 11 < (1981#16).toNat * 10 ∧
      150 < (151#16).toNat ∧ ¬ ((1620#16).toNat * 10 < 1800 * 9 ∨ 1800 * 11 < (1620#16).toNat * 10 ∨ 150 < (150#16).toNat) ∧
      panelRail (pnlS (.starting 0) 1 0 (cycMs - 1)) 1 = false ∧ panelRail (pnlS (.starting 0) 1 0 cycMs) 1 = true) ∧
    (videoOn (pnlS (.starting 0) 1 2 (16 * cycMs)) = true ∧ videoOn (pnlS (.starting 0) 1 2 (16 * cycMs - 1)) = false ∧ (pnlS .on 1 0 0).dsp.frameAt = none ∧
      (frmS 0).dsp.frameAt = some 0 ∧ 0 + framePeriod (frmS 0) ≤ (frmS (framePeriod (frmS 0) - 8000)).cyc + 8000 ∧
      (frmS (framePeriod (frmS 0) - 8001)).cyc + 8000 < 0 + framePeriod (frmS 0) ∧ (pnlS (.starting 0) 1 1 0).dsp.frames < 2 ∧
      (pnlS (.starting 0) 1 2 0).dsp.frames = 2 ∧ 2 < (pnlS (.starting 0) 1 3 0).dsp.frames ∧ videoOn (pnlS (.stopping 0 false) 1 1 0) = true ∧
      (pnlS (.stopping 0 false) 1 1 (140 * cycMs)).since 0 (140 * cycMs) = true ∧ (pnlS (.stopping 0 false) 1 1 (140 * cycMs - 1)).since 0 (140 * cycMs) = false) ∧
    ((pnlS .on 1 0 cycS).flag Fd.DSP_PNL_CTL_AGE_EN = true ∧ (pnlS .on 1 0 cycS).since (pnlS .on 1 0 cycS).dsp.ageAt cycS = true ∧
      (pnlS .on 1 0 (cycS - 1)).since (pnlS .on 1 0 0).dsp.ageAt cycS = false ∧ (pnlS .on 1 0 (60 * cycS)).since (pnlS .on 1 0 0).dsp.gainAt (60 * cycS) = true ∧
      (pnlS .on 1 0 (60 * cycS - 1)).since (pnlS .on 1 0 0).dsp.gainAt (60 * cycS) = false ∧ initXlat (pnlS .on 1 0 cycS) 0x10 0 true = .fault ftTrans) ∧
    ((inMode 1).mode < 2 ∧ 2 ≤ State.reset.mode ∧ State.reset.pm.pf = none ∧ State.reset.bst.run = none ∧ State.reset.bst.pend = none ∧ State.reset.bst.rep = none ∧
      (repS 0).canonical ∧ (repS 0).bst.rep = some repX ∧ (repS 0).since 0 (phaseCyc 5 4) = false ∧ (repS (phaseCyc 5 4)).since 0 (phaseCyc 5 4) = true ∧
      (imgS 0).canonical ∧ (imgS 0).bst.pend = some [] ∧ (imgS 0).bst.last = some 0 ∧
      (let m := clampN 100 60000 (State.reset.fld Fd.BST_CFG_MIN_INT) * cycMs; (imgS m).since 0 m = true ∧ (imgS (m - 1)).since 0 m = false)) ∧
    ((stripS 0).canonical ∧ (stripS 0).bst.run = some stripX ∧ (stripS (60 * (cycMs / 10))).since 0 (12 * stripX.t * (cycMs / 10)) = true ∧
      (stripS (60 * (cycMs / 10) - 1)).since 0 (12 * stripX.t * (cycMs / 10)) = false) := by
  simp only [canon_iff]; decide +kernel

/-! ### Host protocol, mailboxes, DMA -/

/-- Session 0 is open with privilege 2, in a mode. -/
def hostS (m : Nat) : State := wF [(Fd.SYS_MODE_STAT_MODE, m), (Fd.PWR_STAT_STEP, 15), (Fd.VHP_SESS_STAT_STATE 0, 2), (Fd.VHP_SESS_STAT_PRIV 0, 2)]

/-- A request of session 1 (slot 0). -/
def hdrX : VhpHdr := { src := 0, sess := 1, tag := 9, ctr := 0, mic := true }

/-- Every session is taken; the last one waits for its OPEN. -/
def helloS : State := wF [(Fd.SYS_MODE_STAT_MODE, Mode.service), (Fd.PWR_STAT_STEP, 15), (Fd.VHP_SESS_STAT_STATE 0, 2), (Fd.VHP_SESS_STAT_STATE 1, 2),
  (Fd.VHP_SESS_STAT_STATE 2, 1), (Fd.VHP_SESS_STAT_STATE 3, 1)]

/-- The same at a later cycle. -/
def laterS (s : State) (c : Nat) : State := s.setClk { s.clk with cyc := c }

/-- The module coordinates its domain, and member 5 is present. -/
def coordS : State := let s := hostS Mode.road; (s.setFld Fd.FLR_STAT_STATE flCoord).setFlag (Fd.FLR_MBR_STAT_PRESENT 5) true

theorem test_hyp_HostProtocol :
    ((hostS Mode.service).canonical ∧ vhpOn (hostS Mode.service) = true ∧ (hostS Mode.service).fld (Fd.VHP_SESS_STAT_STATE 0) ≠ 0 ∧ (hostS Mode.service).fld (Fd.VHP_SESS_STAT_STATE 1) = 0 ∧
      vhpOn helloS = true ∧ (List.range 4).all (fun j => helloS.fld (Fd.VHP_SESS_STAT_STATE j) != 0) = true ∧ vhpOn State.reset = false) ∧
    (helloS.canonical ∧ helloS.fld (Fd.VHP_SESS_STAT_STATE 3) = 1 ∧ helloS.fld (Fd.VHP_SESS_STAT_STATE 1) ≠ 1 ∧ helloS.hasKey Key.host 16 = false ∧
      (helloS.setKey Key.host 15 [1] 2).hasKey Key.host 15 = true ∧ (laterS helloS (2 * cycS)).since (helloS.vs 3).began (2 * cycS) = true ∧
      (laterS helloS (2 * cycS - 1)).since (helloS.vs 3).began (2 * cycS) = false) ∧
    (sessOpen helloS 1 = true ∧ (laterS helloS (30 * cycS)).since (helloS.vs 1).last (30 * cycS) = true ∧
      (laterS helloS (30 * cycS - 1)).since (helloS.vs 1).last (30 * cycS) = false) ∧
    ((hostS Mode.service).fld (Fd.VHP_SESS_STAT_PRIV 0) = 2 ∧ helloS.fld (Fd.VHP_SESS_STAT_PRIV 0) = 0 ∧ ((hostS Mode.service).vs 0).outst.length ≤ 256) ∧
    (rangeCode 0x40000000 256 256 = Code.ok ∧ rangeCode 0x40000000 257 256 = Code.badArgument ∧ rangeCode 0x40000002 1 256 = Code.badArgument ∧
      rangeCode 0 1 256 = Code.fault ∧ hostWords (Ra.MFP_MF_CTL 29 + 0x14) 1 = true ∧ driverless (hostS Mode.service).mode = false ∧
      driverless (hostS Mode.fieldAuto).mode = true) ∧
    ((epS 0x3F 0).setFlag (Fd.MBX_EP_CFG_TXL 63) false |>.setFld (Fd.MBX_EP_STAT_STATE 63) epEmpty).fld (Fd.MBX_EP_CFG_TX 63) = 0x3F ∧
    ((hostS Mode.service).flag Fd.SYS_MODE_STAT_PENDING = false ∧ (hostS Mode.service).tab.ring = [] ∧ innerPriv 0x60 = none ∧ innerPriv 0x10 = some 0 ∧
      coordS.linkSt = flCoord ∧ coordS.present 5 = true ∧ coordS.present 4 = false ∧ txnBad coordS 0x50 5 4160 = none ∧
      txnBad coordS 0x50 5 4161 = some Code.badArgument ∧ freeTag coordS = some 0) ∧
    ((hostS Mode.service).powered = true ∧ 8 ≤ (hostS Mode.service).bootStep ∧ (hostS Mode.service).noPf = true ∧ (hostS Mode.service).pm.appReset = false ∧
      (laterS (hostS Mode.service) (10000 * cycMs)).since (hostS Mode.service).pm.wdogCyc (wdogCycles (hostS Mode.service)) = true ∧
      (hostS Mode.service).since (hostS Mode.service).pm.wdogCyc (wdogCycles (hostS Mode.service)) = false ∧ State.reset.bootStep < 8) := by
  simp only [canon_iff]; decide +kernel

theorem test_hyp_HostProtocol_takes : VhpTakes (hostS Mode.service) hdrX 0 := by unfold VhpTakes; decide +kernel

/-- Endpoint 63 from core 1 to core 2, empty; it and endpoint 0 are a pair. -/
def coreEp : State := wF [(Fd.MBX_EP_CFG_TX 63, 1), (Fd.MBX_EP_CFG_RX 63, 2), (Fd.MBX_EP_STAT_STATE 63, epEmpty), (Fd.MBX_EP_CFG2_PARTNER 63, 0),
  (Fd.MBX_EP_CFG2_PAIR_EN 63, 1), (Fd.MBX_EP_CFG2_PARTNER 0, 63), (Fd.MBX_EP_CFG2_PAIR_EN 0, 1), (Fd.MBX_EP_CFG_TX 0, 2), (Fd.MBX_EP_CFG_RX 0, 1),
  (Fd.MBX_EP_STAT_STATE 0, epEmpty)]

/-- The pair is full on both sides since cycle 0. -/
def crossS : State :=
  let s := (coreEp.setFld (Fd.MBX_EP_STAT_STATE 63) epFull).setFld (Fd.MBX_EP_STAT_STATE 0) epFull
  laterS ((s.setFlag (Fd.MBX_EP_SEND_STAT_PENDING 63) true).setDma { s.dma with postCyc := [(0, some 0), (63, some 0)], tmoCyc := [(63, some 5)] }) (10001 * cycMs)

theorem test_hyp_Mailboxes : (coreEp.canonical ∧ isSender coreEp 63 false 1 = true ∧ isSender coreEp 63 false 57 = false ∧ coreEp.rpl.live = none ∧
      coreEp.flag (Fd.MBX_EP_CFG_RXL 63) = false ∧ coreEp.fld (Fd.MBX_EP_STAT_STATE 63) ≠ epFull ∧ crossS.fld (Fd.MBX_EP_STAT_STATE 63) = epFull ∧
      rxAway coreEp 63 = false ∧ rxAway (coreEp.setPm { coreEp.pm with appReset := true }) 63 = true) ∧
    (loopEndpoint coreEp 63 = false ∧ loopEndpoint (epS 0 5) 63 = true ∧ (0xFFFF : Nat) ∉ codeTable ∧ (0 : Nat) ∈ codeTable ∧
      crossS.flag (Fd.MBX_EP_STAT_GONE 63) = false ∧ crossS.flag (Fd.MBX_EP_STAT_TOUT 63) = false) ∧
    (crossS.canonical ∧ crossDue crossS 63 0 = true ∧ crossDue coreEp 63 0 = false ∧ crossS.fld (Fd.MBX_EP_CFG2_PARTNER 63) = 0 ∧
      smGet none crossS.dma.tmoCyc 63 = some 5 ∧ 5 ≤ crossS.clk.cyc ∧ crossS.flag (Fd.MBX_EP_SEND_STAT_PENDING 63) = true ∧
      crossDue (crossS.setFld (Fd.MBX_EP_STAT_STATE 0) epEmpty) 63 0 = false) ∧
    ((0x3C5A#16).toNat = 0x3C5A ∧ (0#16).toNat ≠ 0x3C5A) ∧
    (bits (0x3F000000#32).toNat 24 6 = 63 ∧ bits (0x3E000000#32).toNat 24 6 ≠ 63 ∧ rwlOpen State.reset (Ra.MBX_EP_CFG2 63) = true ∧ rwlOpen coreEp (Ra.MBX_EP_CFG2 63) = false) ∧
    fabOpen coreEp (fabTxn coreEp 0 (Ra.MBX_DB_SET 31) true) = true := by
  simp only [canon_iff]; decide +kernel

/-- A descriptor of `n` bytes. -/
def descX (n : Nat) : DmaDesc := { src := 0xFFC, dst := 0x10000, len := n, ctl := 0 }

/-- Channel 31 is enabled with a ring of 4 entries; with `run`, a descriptor of 512 bytes runs. -/
def dmaS (st : Nat) (run : Option DmaDesc) : State :=
  let s := mapS (wF [(Fd.DMA_CH_CFG_EN 31, 1), (Fd.DMA_CH_RING_CFG_SIZE 31, 4), (Fd.DMA_CH_STAT_STATE 31, st)])
  s.setDch 31 { s.dch 31 with run := run }

/-- A request of class CONTROL stalls, ahead of the channel's. -/
def preemptS : State := let s := dmaS dmaRun (some (descX 512)); s.setFab { s.fab with stalled := [{ init := 4, cls := 0 }] }

theorem test_hyp_DmaChannels : ((2 ^ 36 : Nat) ≤ 2 ^ 36 ∧ panelOwns (dmaS dmaIdle none) 31 = false ∧ (dmaS dmaIdle none).canonical ∧
      ((dmaS dmaIdle none).dch 31).run = none ∧ (dmaS dmaIdle none).fld (Fd.DMA_CH_STAT_STATE 31) ≠ dmaFault ∧
      (dmaS dmaIdle none).fld (Fd.DMA_CH_CFG_MODE 31) ≠ 1 ∧ (dmaS dmaIdle none).flag (Fd.DMA_CH_CFG_EN 31) = true ∧
      (dmaS dmaIdle none).fld (Fd.DMA_CH_HEAD_IDX 31) ≠ (3#16).toNat) ∧
    (((dmaS dmaRun (some (descX 512))).dch 31).run = some (descX 512) ∧ ((dmaS dmaRun (some (descX 512))).dch 31).paused = false ∧
      dmaGranted (dmaS dmaRun (some (descX 512))) 31 = true ∧ dmaPreempted (dmaS dmaRun (some (descX 512))) 31 = false ∧
      dmaGranted preemptS 31 = true ∧ dmaPreempted preemptS 31 = true ∧ (descX 512).pre = false ∧ (descX 512).loop = false ∧ (descX 512).fix = false) ∧
    (dmaLenOk 4 = true ∧ dmaLenOk 16777212 = true ∧ dmaLenOk 16777216 = false ∧ dmaLenOk 0 = false ∧ (descX 4).len ≤ chunkLen (descX 4) 0 ∧
      chXlat (dmaS dmaIdle none) 31 (descX 4).src false = .ok (mapAt + 0xFFC) ∧ chXlat (dmaS dmaIdle none) 31 (descX 4).dst true = .ok (mapAt + 0x10000) ∧
      mapAt + 0xFFC + 4 ≤ mapAt + 0x10000 ∧ chXlat (dmaS dmaIdle none) 31 0x20000 false = .fault ftTrans ∧
     
      bit (descX 256).ctl 30 = false ∧ bit (descX 256).ctl 29 = false) ∧
    ((dmaS dmaFault (some (descX 512))).fld (Fd.DMA_CH_STAT_STATE 31) = dmaFault ∧ (descX 512).len ≠ 0 ∧ (descX 0).len = 0) ∧
    ((dmaS dmaIdle none).fld (Fd.DMA_CH_HEAD_IDX 31) < ringSize (dmaS dmaIdle none) 31 ∧ ringSize (dmaS dmaIdle none) 31 ≤ 4096) ∧
    (State.reset.flag Fd.IOMMU_INV_STAT_BUSY = false ∧ State.reset.dma.inv = none ∧
      panelOwns (wF [(Fd.DSP_PNL_CTL_EN, 1)]) (panelCh (wF [(Fd.DSP_PNL_CTL_EN, 1)])) = true) := by
  simp only [canon_iff]; decide +kernel

/-! ### Fleet link, recorders, updates -/

/-- The link in a state, in SERVICE, in region 1 with a key and the own module number 3, at a device time in ns. -/
def flS (st dt : Nat) (l : List (Fld × Nat)) : State :=
  let s := wF ([(Fd.SYS_MODE_STAT_MODE, Mode.service), (Fd.PWR_STAT_STEP, 15), (Fd.FLR_RADIO_CFG_REGION, 1), (Fd.FLR_DOM_CFG_DOMAIN, 7), (Fd.FLR_STAT_STATE, st),
    (Fd.FLR_STAT_MODNUM, 3), (Fd.FLR_MBR_STAT_PRESENT 3, 1)] ++ l)
  (s.setKey Key.domain 0 [1] 0).setClk { s.clk with dtFp := dt * 2 ^ 32 }

/-- The link's own part in such a state. -/
def flF (st dt : Nat) (f : FlrState) : State := (flS st dt []).setFlr f

/-- A header of a frame of the domain. -/
def fhX (type : Fin 4) : FleetHdr := { domain := 7, type := type, key := 0, src := 5, sfn := 0, slot := 5, ident := 9, crcOk := true, micOk := true, level := 0 }

/-- The later of two like states. -/
def atCyc (s : State) (c : Nat) : State := s.setClk { s.clk with cyc := c }

theorem test_hyp_FleetLink :
    ((flS flOff 0 []).canonical ∧ roleCodeOk (1#8).toNat = false ∧ roleCodeOk (2#8).toNat = true ∧ roleCodeOk (8#8).toNat = true ∧ roleCodeOk (9#8).toNat = false ∧
      roleCodeOk (0x7F#8).toNat = true ∧ roleCodeOk (0x80#8).toNat = false ∧ (flS flOff 0 []).fld (Fd.FLR_ROLE_ROLE 3) ≠ 2 ∧ (flS flOff 0 []).fld (Fd.FLR_ROLE_ROLE 3) = 0) ∧
    ((flS flOff 0 [(Fd.FLR_DOM_CFG_CHAN, 4)]).fld Fd.FLR_DOM_CFG_CHAN < 5 ∧ 5 ≤ (flS flOff 0 [(Fd.FLR_DOM_CFG_CHAN, 5)]).fld Fd.FLR_DOM_CFG_CHAN) ∧
    ((flS flOff 0 []).linkSt = flOff ∧ joinOk (flS flOff 0 []) = true ∧ joinOk State.reset = false ∧ linkRuns (flS flOff 0 []) = true ∧
      linkRuns (wF [(Fd.SYS_MODE_STAT_MODE, 1)]) = false ∧ (flS flMember 0 [(Fd.FLR_CFG_EN, 1)]).flag Fd.FLR_CFG_EN = true ∧ isMember (flS flMember 0 []) = true ∧
      isMember (flS flJoining 0 []) = false) ∧
    (flListen ≤ (flS flMember 0 []).linkSt ∧ atBoundary (flS flMember 0 []) = true ∧ atBoundary (flS flMember 50000 []) = false ∧
      (flS flMember 0 []).flr.granted = none ∧ (flS flMember 0 []).flr.cont = none ∧ (flS flMember 0 []).flr.missed + 1 < 3 ∧
      (flF flJoining 0 { granted := some 63 }).flr.granted = some 63 ∧ lossSf (flS flMember 0 [(Fd.FLR_CFG_LOSS_SF, 9)]) = 10 ∧
      (flF flMember 0 { missed := 10 }).modNum ∉ (flF flMember 0 { missed := 10 }).flr.succ ∧ flrTx (flS flCoord 0 []) = true ∧
      (flF flCoord 0 { quotaNext := some 511 }).flr.quotaNext = some 511 ∧ (flS flCoord 0 []).flr.chanAt = none) ∧
    (frameBad (flS flMember 0 []) (fhX 0) = none ∧ (frameBad (flS flMember 0 []) { fhX 0 with crcOk := false }).isSome = true ∧
      (frameBad (flS flMember 0 []) { fhX 0 with sfn := 2 }).isSome = true ∧ frameBad (flS flMember 0 []) { fhX 0 with sfn := 1 } = none ∧
      (flS flMember 0 []).fld Fd.FLR_CFG_COORD_PRI < 15) ∧
    (owners (flS flCoord 0 []) = [3] ∧ (∀ m ∈ owners (flS flCoord 0 []), ((flS flCoord 0 []).mbr m).ident ≠ 9) ∧ chooseSlot (flS flCoord 0 []) 9 63 = some 63 ∧
      (flS flCoord 0 []).ident ≠ 9 ∧ (let s := (flS flCoord 0 []).setFlr { mbr := [(3, { ident := 9 })] }; ∃ m ∈ owners s, (s.mbr m).ident = 9) ∧
      chooseSlot (flS flCoord 0 ((List.range 64).map (fun m => (Fd.FLR_MBR_STAT_PRESENT m, 1)))) 9 63 = none) ∧
    (let s := (flS flCoord 0 [(Fd.FLR_MBR_STAT_PRESENT 63, 1), (Fd.FLR_CFG_LOSS_SF, 10)]).setFlr { mbr := [(63, { silent := 10 })] };
      s.canonical ∧ s.present 63 = true ∧ (63 : Nat) ≠ s.modNum ∧ lossSf s ≤ (s.mbr 63).silent ∧ (s.mbr 62).silent < lossSf s) ∧
    (let s := flS flListen 0 [(Fd.FLR_CFG_FOUND, 1), (Fd.FLR_CFG_PREF, 63)]; flrTx (atCyc s (3 * cycS)) = true ∧ s.since s.flr.listenCyc (3 * cycS) = false ∧
      (atCyc s (3 * cycS)).since s.flr.listenCyc (3 * cycS) = true ∧ s.flag Fd.FLR_CFG_FOUND = true) ∧
    (let s := flF flMember 0 { succ := [5, 3], missed := 5 }; s.canonical ∧ s.flr.succ.idxOf s.modNum = 1 ∧ 3 + 2 * 1 ≤ s.flr.missed ∧ flrTx s = true) ∧
    (let s := flF flMember 0 { keyAt := some 0, chanAt := some (0, 4) }; s.canonical ∧ s.flr.keyAt = some 0 ∧ s.flr.chanAt = some (0, 4) ∧
      (s.sfn + 2 ^ 32 - 0) % 2 ^ 32 < 2 ^ 31 ∧ ¬ (s.sfn + 2 ^ 32 - 1) % 2 ^ 32 < 2 ^ 31) ∧
    (let s := flS flMember 5750000 []; inMemberSlot s s.modNum = true ∧ unsent s 1 0 = true ∧ flrTx s = true ∧ inMemberSlot (flS flMember 5749999 []) 3 = false ∧
      inMemberSlot (flS flMember 6999999 []) 3 = true ∧ inMemberSlot (flS flMember 7000000 []) 3 = false ∧ dutyOk s 100001 = true ∧
      dutyOk (flS flMember 5750000 [(Fd.FLR_RADIO_CFG_REGION, 3)]) 100001 = false ∧ dutyOk (flS flMember 5750000 [(Fd.FLR_RADIO_CFG_REGION, 3)]) 100000 = true) ∧
    (let s := flF flMember 98500000 { cont := some { att := 1, sf := 0, sub := 11, join := false } }; inSubSlot s 11 = true ∧ inSubSlot s 10 = false ∧
      (∀ x ∈ s.flr.sentNow, ¬ 2 ≤ x.1) ∧ s.sfn = 0) ∧
    (let s := (flS flMember 0 [(Fd.FLR_CFG_CONT_EN, 1)]).setFlr { recs := [(6, [0])] }; s.flag Fd.FLR_CFG_CONT_EN = true ∧ overflow s ≠ [] ∧ s.flr.cont = none ∧
      (5 : Nat) ≠ s.fld Fd.FLR_UNL_CFG_PARTNER) := by
  simp only [canon_iff]; and_intros <;> decide +kernel

/-- A transaction and a kept response, each of one segment. -/
def txX : FTxn := { tag := 8, kind := 1, dest := 5, role := 0, epoch := 0, dead := 100, req := [1] }
def ftS (c : Nat) : State := atCyc ((flF flMember 0 { inflight := [txX] }).setFld (Fd.FLR_MBR_STAT_PRESENT 5) 1) c

/-- A whole request of kind 0x01, and a response kept. -/
def rqX (kind : Nat) (p : List Byte) : FKept := { src := 5, tag := 9, segs := [(0, p)], nseg := 1, kind := kind }
def rsX : FKept := { src := 5, tag := 9, done := true, rsp := [1] }

/-- A segment for module 3. -/
def sgX (rsp : Bool) : FleetSeg := { rsp := rsp, tag := 8, dest := 3, role := 0xFF, kind := 1, epoch := 0, idx := 0, cnt := 1, total := 1, code := 0, data := [1] }

/-- The link processor receives from endpoint 63, where a request of kind 0x01 for module 5 waits; its data are mapped. -/
def fqS (kind : Nat) : State :=
  let s := mapS (flS flMember 0 [(Fd.FLR_MBR_STAT_PRESENT 5, 1), (Fd.MBX_EP_CFG_RX 63, 0x0E), (Fd.MBX_EP_STAT_STATE 63, epFull)])
  (s.setReg (Ra.MBX_PAYLOAD 63 1) (BitVec.ofNat 32 (5 * 256 + kind))).setReg (Ra.MBX_PAYLOAD 63 3) 4#32

theorem test_hyp_FleetTransactions :
    (fleetEndpoint (fqS 1) 63 = true ∧ (fqS 1).fld (Fd.MBX_EP_STAT_STATE 63) = epFull ∧ (fqS 1).flr.inflight ++ (fqS 1).flr.queue = [] ∧
      txnBad (fqS 1) 1 5 4 = none ∧ txnBad (fqS 1) 1 4 4 = some Code.departed ∧ txnBad (fqS 1) 0 5 4 = some Code.badArgument ∧
      txnBad (fqS 1) 1 5 4160 = none ∧ txnBad (fqS 1) 1 5 4161 = some Code.badArgument ∧ (readIova (fqS 1) 0x0E 0 4).isSome = true ∧
      readIova (fqS 1) 0x0E 0x20000 4 = none ∧ freeTag (fqS 1) = some 0 ∧
      freeTag (flF flMember 0 { tags := (List.range 256).map (fun k => (k, 1)) }) = none ∧
      freeTag (atCyc (flF flMember 0 { tags := (List.range 256).map (fun k => (k, 1)) }) 1) = some 0 ∧ fleetEndpoint State.reset 63 = false) ∧
    ((ftS 0).canonical ∧ (∀ t ∈ (ftS 99).flr.inflight ++ (ftS 99).flr.queue, (ftS 99).clk.cyc < t.dead) ∧
      ((ftS 100).flr.inflight ++ (ftS 100).flr.queue).filter (fun x => decide (x.dead ≤ (ftS 100).clk.cyc)) = [txX]) ∧
    ((ftS 0).flr.inflight.find? (fun x => x.tag == 8) = some txX ∧ txX.acked < segCount txX.req.length ∧ noProgress (ftS 0) 0 = false ∧
      noProgress ((ftS 0).setFld Fd.FLR_SFN_V 1) 0 = false ∧ noProgress ((ftS 0).setFld Fd.FLR_SFN_V 2) 0 = true ∧
      (ftS 0).flr.inflight.find? (fun x => x.tag == 7) = none ∧
      (flF flMember 0 { kept := [rsX] }).flr.kept.find? (fun x => x.src == 5 && x.tag == 9) = some rsX ∧ rsX.acked < segCount rsX.rsp.length) ∧
    (isMember (ftS 0) = true ∧ (sgX false).dest.toNat = (ftS 0).modNum ∧ (ftS 0).flr.kept = [] ∧ reqBad (ftS 0) (sgX false) = none ∧
      (reqBad (ftS 0) { sgX false with role := 9 }).isSome = true ∧ (reqBad (ftS 0) { sgX false with kind := 0x30 }).isSome = true ∧
      (sgX true).code.toNat ∈ codeTable ∧ (0xFFFF#16).toNat ∉ codeTable ∧ (ftS 0).present 5 = true ∧
      (ftS 0).flr.inflight.find? (fun t => t.tag == (sgX true).tag.toNat && t.dest == 5) = some txX ∧
      contiguous (smPut [] txX.rsp 0 [1]) 1 = 1 ∧ contiguous (smPut [] txX.rsp 1 [1]) 2 = 0) ∧
    (fleetReqOf State.reset 5 9 1 = none ∧ fleetReqOf (flF flMember 0 { kept := [rqX 1 [1]] }) 5 9 1 = some (rqX 1 [1], [1]) ∧
      rangeCode 0x40600000 64 64 = Code.ok ∧ rangeCode 0x40600000 65 64 ≠ Code.ok ∧ winBit 0x40060000 = 6 ∧ memberCount (flS flMember 0 []) < 16 ∧
      16 ≤ memberCount (flS flMember 0 ((List.range 16).map (fun m => (Fd.FLR_MBR_STAT_PRESENT m, 1)))) ∧
      bit (State.reset.reg Ra.FLR_REG_WIN).toNat 0 = false ∧ driverless (flS flMember 0 []).mode = false ∧ num (leBytes 4 0x22) 0 2 = 0x22 ∧
      (rqX 0x50 []).code ≠ innerSubmitted) := by
  simp only [canon_iff]; and_intros <;> decide +kernel

/-- The event log's part in a state after reset. -/
def evS (e : EvrState) (l : List (Fld × Nat)) : State := (wF l).setEvr e

/-- A record at sequence number 5, still open. -/
def recX : EvRec := { seq := 5, code := 0x0180, valid := true }
def opnS : State := evS { log := [(5, recX)], openRecs := [{ seq := 5, last := 0 }] } [(Fd.EVR_APP_CODE_CODE, 0x0180), (Fd.EVR_CFG_REP_WIN, 1), (Fd.EVR_OPTIME_V, 0)]

/-- A clear token of the module, with the nonce 7. -/
def clrTok (w2 : Nat) : List Byte := leBytes 8 0 ++ leBytes 8 7 ++ leBytes 4 w2 ++ leBytes 4 0 ++ List.replicate 104 0

/-- The recorder's part at a frame boundary. -/
def tabS (t : TabState) (l : List (Fld × Nat)) : State := ((wF ([(Fd.SYS_MODE_STAT_MODE, Mode.service)] ++ l)).setTab t).setClk { State.reset.clk with frameAt := some 0 }

/-- A frame window that has kept all its frames. -/
def winX : TabWin := { num := 1, cams := 0, fromDt := 0, toDt := 0, scanned := true }

/-- A replay is loading, loaded, or to end, at a frame boundary. -/
def rplS (loaded : Bool) (by_ : Option Nat) : State := let s := tabS {} []; s.setRpl { s.rpl with live := some (bndOf s), loaded := loaded, endBy := by_ }

theorem test_hyp_Recorders :
    ((evS { stormSec := 1 } []).canonical ∧ (evS { stormSec := 1 } []).evr.stormSec ≠ State.reset.fld Fd.EVR_OPTIME_V ∧
      State.reset.evr.stormSec = State.reset.fld Fd.EVR_OPTIME_V) ∧
    (State.reset.fld Fd.EVR_APP_CODE_CODE < 0x0180 ∧ 0x01FF < (wF [(Fd.EVR_APP_CODE_CODE, 0x0200)]).fld Fd.EVR_APP_CODE_CODE ∧
      (wF [(Fd.EVR_APP_CODE_CODE, 0x01FF)]).fld Fd.EVR_APP_CODE_CODE ≤ 0x01FF ∧ openFor opnS 0x0180 0 0 0 = some { seq := 5, last := 0 } ∧ openFor opnS 0x0180 3 0 0 = none ∧
      smGet 0 opnS.evr.stormCnt 0x0180 < max 1 (opnS.fld Fd.EVR_CFG_STORM_LIM) ∧
      max 1 (opnS.fld Fd.EVR_CFG_STORM_LIM) ≤ smGet 0 (opnS.setEvr { opnS.evr with stormCnt := [(0x0180, 65536)] }).evr.stormCnt 0x0180) ∧
    ((wF [(Fd.EVR_OPTIME_V, 60)]).evr.commitAt + 60 ≤ (wF [(Fd.EVR_OPTIME_V, 60)]).fld Fd.EVR_OPTIME_V ∧
      (wF [(Fd.EVR_OPTIME_V, 59)]).fld Fd.EVR_OPTIME_V < (wF [(Fd.EVR_OPTIME_V, 59)]).evr.commitAt + 60) ∧
    ((fetchIova (wF []) storeInit 0 128).1 = none ∧ ((fetchIova (mapS (wF [])) storeInit 0 128).1.map (·.length)) = some 128 ∧
      clearForm (clrTok 3) = true ∧ clearForm (clrTok 4) = false ∧ clearOk State.reset (clrTok 3) = false ∧ bit (num (clrTok 3) 0x10 4) 0 = true ∧
      bit (num (clrTok 1) 0x10 4) 1 = false) ∧
    (nextPresent State.reset 5 = none ∧ nextPresent opnS 5 = some recX ∧ nextPresent opnS 4 = some recX ∧ recX.seq ≠ 4 ∧
      nextPresent opnS (5 + 2 ^ 31) = none ∧ nextPresent opnS (6 + 2 ^ 31) = some recX) ∧
    (let s := tabS { segOpen := true, ckptFrames := 60000 } []; s.canonical ∧ s.tab.segOpen = true ∧ s.framePend = true ∧ ckptInt s ≤ s.tab.ckptFrames ∧ s.rpl.live = none ∧
      segMayOpen s = false ∧ segMayOpen (tabS {} [(Fd.TAB_CFG_EN, 1)]) = true) ∧
    (tabBufSize ≤ (tabS { bufBytes := tabBufSize } []).tab.bufBytes ∧ (tabS { bufBytes := tabBufSize - 1 } []).tab.bufBytes < tabBufSize ∧
      blockReady (tabS {} []) = false ∧ blockReady (tabS { carry := [0] } []) = true ∧ (blocksLast (tabS { carry := [0] } [])).length < blockLimit ∧
      (let s := tabS { blkAt := List.replicate blockLimit 0 } []; blockLimit ≤ (blocksLast s).length ∧ (blocksLast (atCyc s cycS)).length < blockLimit) ∧
      heldBlocks (tabS {} []).tab.holds + 1 < ringBlocks) ∧
    ((tabS { window := some winX } []).tab.window = some winX ∧ winX.scanned = true ∧ winX.todo = [] ∧ winX.toDt ≤ (tabS { window := some winX } []).dtNs ∧
      (∀ k, k < 8 → (tabS { window := some winX } []).flag (Fd.TAB_TRIG_FW k) = false) ∧ State.reset.tab.window = none) ∧
    ((rplS false none).canonical ∧ (rplS false none).rpl.live.isSome = true ∧ (rplS false none).rpl.loaded = false ∧ (rplS false none).framePend = true ∧
      (rplS true (some 2)).rpl.endBy ≠ none ∧ (rplS true (some 2)).framePend = true ∧ (rplS true none).locked = false ∧ State.reset.rpl.live = none) := by
  simp only [canon_iff]; and_intros <;> decide +kernel

/-- Where the key's signature verifies, the clear token is accepted (`Config.ed25519` is free). -/
theorem test_hyp_Recorders_signed :
    let s := ((wF [(Fd.SYS_MODE_STAT_MODE, Mode.service)]).setKey Key.clear 0 [1] 0).setEvr { nonce := some 7 }
    Config.ed25519 [1] ((clrTok 3).take 64) (((clrTok 3).drop 64).take 64) = true → clearOk s (clrTok 3) = true := by
  intro s h
  have h1 : clearNonce s (clrTok 3) = true ∧ s.mode = Mode.service ∧ num (clrTok 3) 0 8 = s.upd.serial ∧ num (clrTok 3) 0x14 4 = 0 ∧
      s.keyOf Key.clear 0 = [1] := by decide +kernel
  simp [clearOk, State.signedBy, State.hasKey, h1]
  exact h

/-- An accepted manifest of one part of one block, and an update in a state. -/
def partX : PartEntry := { type := 0, index := 0, version := 1, length := 4096, nblocks := 1, sha := [] }
def manX : Manifest := { pkg := 1, svn := 0, fence := true, signer := 0, parts := [partX] }
def updS (st : Nat) (l : List (Fld × Nat)) (u : UpdState) : State := (wF ([(Fd.SYS_MODE_STAT_MODE, Mode.service), (Fd.UPD_STAT_STATE, st)] ++ l)).setUpd u

/-- A token of a kind with the nonce 7, whose data are `d`. -/
def tokB (kind : Nat) (d : List Byte) : List Byte :=
  leBytes 8 0 ++ leBytes 8 7 ++ leBytes 2 kind ++ leBytes 2 d.length ++ leBytes 4 0 ++ leBytes 8 0 ++ d ++ List.replicate 64 0

/-- A set-5 record of one word with its CRC. -/
def calB (set : Nat) : List Byte :=
  let b := leBytes 1 set ++ [0] ++ leBytes 2 3 ++ leBytes 4 0 ++ leBytes 2 4 ++ leBytes 2 0 ++ List.replicate 20 0 ++ leBytes 4 0
  b ++ leBytes 4 (crc32c b).toNat

theorem test_hyp_Updates :
    ((fetchIova (wF []) storeInit 0 4116).1 = none ∧ blockCode (updS Upd.receiving [] { man := some manX }) 1 0 0 = Code.ok ∧
      blockCode (updS Upd.receiving [] { man := some manX }) 1 0 1 = Code.badArgument ∧ blockCode (updS Upd.receiving [] { man := some manX }) 2 0 0 = Code.refused ∧
      blockCode (updS Upd.receiving [] {}) 1 0 0 = Code.refused ∧ staged (updS Upd.receiving [] {}) 0 0 = false ∧
      staged (updS Upd.receiving [] { staged := [(0, [])] }) 0 0 = true ∧ manX.total = 1 ∧ manifestCode State.reset (List.replicate 16 0) ≠ Code.ok) ∧
    (let s := updS Upd.verifying [] { man := some manX, staged := [(0, [])] }; s.canonical ∧ s.upd.man = some manX ∧ s.updState = Upd.verifying ∧
      (∀ p ∈ manX.parts, p.nblocks ≤ 2 ^ 22) ∧ State.reset.updState ≠ Upd.verifying) ∧
    ((updS Upd.activating [] {}).updState = Upd.activating ∧ (updS Upd.trial [] {}).updState = Upd.trial ∧ (updS Upd.verified [] {}).updState = Upd.verified ∧
      (let s := updS Upd.trial [(Fd.UPD_STAT_TRIAL, 1), (Fd.PWR_STAT_STEP, 15), (Fd.SAF_STAT_STATE, 1)] { man := some manX };
        s.canonical ∧ inTrial s = true ∧ healthBits s = 31 ∧ s.flag Fd.SYS_MODE_STAT_PENDING = false ∧ manX.fence = true ∧ s.noPf = true ∧
        (s.setReg Ra.UPD_TRIAL_S 0).reg Ra.UPD_TRIAL_S = 0) ∧ healthBits (updS Upd.trial [(Fd.UPD_STAT_TRIAL, 1)] {}) ≠ 31 ∧ inTrial State.reset = false) ∧
    (let s := updS Upd.activating [] { man := some { manX with parts := [] }, actStep := 2 }; s.canonical ∧ s.upd.actStep = 2 ∧ s.updState = Upd.activating ∧
      ([] : List PartEntry).all (copiedOk s (setOfPackage s { manX with parts := [] })) = true ∧ [partX].all (copiedOk s (setOfPackage s manX)) = false) ∧
    (let s := (updS Upd.activating [(Fd.PWR_STAT_RESERVE_OK, 1)] { man := some manX, actStep := 4 }).setClk { State.reset.clk with frameAt := some 0 };
      s.updState = Upd.activating ∧ s.upd.actStep = 4 ∧ s.framePend = true ∧ s.noPf = true) ∧
    ((fetchIova (wF []) storeInit 0 0x20).1 = none ∧ (fetchIova (mapS (wF [])) storeInit 0x10000 0x24).1.isSome = true ∧
      calForm (updS 0 [] {}) (calB 5) = true ∧ calSigned (updS 0 [] {}) (calB 5) = true ∧ calAccepts (updS 0 [] {}) 5 = true ∧ calAccepts (updS 0 [] {}) 6 = false ∧
      calForm (updS 0 [] {}) (calB 15) = false ∧ loopSet 3 = true ∧ loopSet 2 = false) ∧
    ((tokAt State.reset).1 = none ∧ (tokAt (mapS (wF []))).1.isSome = true ∧ tokKind (tokB 1 [3, 0, 0, 0]) = 1 ∧ tokForm (tokB 1 [3, 0, 0, 0]) = true ∧
      tokForm (tokB 1 [4, 0, 0, 0]) = false ∧ tokForm (tokB 5 [1, 0, 0xE0, 1]) = true ∧ tokForm (tokB 5 [1, 0, 0xE1, 1]) = false ∧
      tokForm (tokB 5 [0, 0, 0, 0]) = false ∧ tokForm (tokB 2 ([6, 3, 0, 0, 0, 0, 0, 0] ++ List.replicate 32 1)) = true ∧ tokForm (tokB 3 [6, 4, 0, 0]) = false ∧
      tokForm (tokB 4 (List.replicate 32 1)) = true ∧ tokOk State.reset (tokB 1 [3, 0, 0, 0]) = false ∧ nonceCurrent (updS 0 [] { nonce := some (7, 0) }) 7 = true ∧
      nonceCurrent (atCyc (updS 0 [] { nonce := some (7, 0) }) (600 * cycS)) 7 = false) ∧
    ((wF [(Fd.UPD_DBG_STAT_OPEN, 1)]).flag Fd.UPD_DBG_STAT_OPEN = true ∧ State.reset.upd.dbgEnd = none ∧ (updS 0 [] { dbgEnd := some 1 }).clk.cyc < 1 ∧
      (atCyc (updS 0 [] { dbgEnd := some 1 }) 1).upd.dbgEnd = some 1) := by
  simp only [canon_iff]; and_intros <;> decide +kernel

/-- Where the owner key's signature verifies, a token of KIND 1 is accepted; where the limits of its set allow it, a calibration record is taken
(`Config.ed25519` and `Config.calLimits` are free). -/
theorem test_hyp_Updates_signed :
    (let s := ((updS 0 [] { nonce := some (7, 0) }).setKey Key.owner 0 [1] 0)
     let b := tokB 1 [3, 0, 0, 0]
     Config.ed25519 [1] (b.take 36) ((b.drop 36).take 64) = true → tokForm b = true ∧ tokOk s b = true) ∧
    (Config.calLimits 5 3 0 [0, 0, 0, 0] = true → calCode (updS 0 [] {}) (calB 5) = Code.ok) := by
  constructor
  · intro s b h
    have h1 : tokForm b = true ∧ tokLen b = 4 ∧ tokKind b = 1 ∧ nonceCurrent s (num b 8 8) = true ∧ num b 0 8 = s.upd.serial ∧ s.mode = Mode.service ∧
        tokSigner b = 0 ∧ tokKey b = (Key.owner, 0) ∧ s.keyOf Key.owner 0 = [1] := by decide +kernel
    obtain ⟨h1, h2, h3, h4, h5, h6, h7, h8, h9⟩ := h1
    refine ⟨h1, ?_⟩
    simp [tokOk, State.signedBy, State.hasKey, h2, h3, h4, h5, h6, h7, h8, h9]
    exact h
  · intro h
    have h1 : calForm (updS 0 [] {}) (calB 5) = true ∧ calSigned (updS 0 [] {}) (calB 5) = true ∧ calAccepts (updS 0 [] {}) 5 = true ∧ num (calB 5) 0 1 = 5 ∧
        num (calB 5) 2 2 = 3 ∧ num (calB 5) 4 4 = 0 ∧ ((calB 5).drop 0x20).take (num (calB 5) 8 2) = [0, 0, 0, 0] ∧ steerLimits (updS 0 [] {}) 0 [0, 0, 0, 0] = true := by decide +kernel
    obtain ⟨h1, h2, h3, h4, h5, h6, h7, h8⟩ := h1
    simp [calCode, h1, h2, h3, h4, h5, h6, h7]
    exact ⟨h, h8⟩

end Sys2Proof.Machine
end

section
/-! SUPPORT. Frames compose: a change of few parts, registers or bits followed by another one. -/

namespace Sys2Proof.Machine

/-! ### Parts and registers that stay -/

theorem OnlyParts.mono {l l' : List Part} {s t : State} (h : OnlyParts l s t) (hl : l ⊆ l') : OnlyParts l' s t :=
  fun p hp => h p fun hm => hp (hl hm)

theorem OnlyParts.refl (l : List Part) (s : State) : OnlyParts l s s := fun p _ => by cases p <;> rfl

theorem OnlyParts.trans {l : List Part} {s t u : State} (h : OnlyParts l s t) (h' : OnlyParts l t u) : OnlyParts l s u := by
  intro p hp
  have h1 := h p hp
  have h2 := h' p hp
  cases p <;> exact Eq.trans h2 h1

/-- A state that differs in its registers alone. -/
theorem onlyParts_regs {s t : State} (h : t = { s with regs := t.regs }) : OnlyParts [.regs] s t := by
  rw [h]
  intro p hp
  cases p
  case regs => simp at hp
  all_goals rfl

/-- A state that differs in its memory alone. -/
theorem onlyParts_mem {s t : State} (h : t = { s with mem := t.mem }) : OnlyParts [.mem] s t := by
  rw [h]
  intro p hp
  cases p
  case mem => simp at hp
  all_goals rfl

theorem setFab_onlyParts (s : State) (x : FabState) : OnlyParts [.fab] s (s.setFab x) := by
  intro p hp
  cases p
  case fab => simp at hp
  all_goals rfl

theorem setPm_onlyParts (s : State) (x : PmState) : OnlyParts [.pm] s (s.setPm x) := by
  intro p hp
  cases p
  case pm => simp at hp
  all_goals rfl

theorem setTab_onlyParts (s : State) (x : TabState) : OnlyParts [.tab] s (s.setTab x) := by
  intro p hp
  cases p
  case tab => simp at hp
  all_goals rfl

theorem setReg_onlyParts (s : State) (a : Nat) (w : Word) : OnlyParts [.regs] s (s.setReg a w) := onlyParts_regs rfl

theorem setFld_onlyParts (s : State) (f : Fld) (v : Nat) : OnlyParts [.regs] s (s.setFld f v) := onlyParts_regs rfl

theorem OnlyRegs.mono {l l' : List Nat} {s t : State} (h : OnlyRegs l s t) (hl : l ⊆ l') : OnlyRegs l' s t :=
  fun a ha => h a fun hm => ha (hl hm)

theorem OnlyRegs.refl (l : List Nat) (s : State) : OnlyRegs l s s := fun _ _ => rfl

theorem OnlyRegs.trans {l : List Nat} {s t u : State} (h : OnlyRegs l s t) (h' : OnlyRegs l t u) : OnlyRegs l s u :=
  fun a ha => (h' a ha).trans (h a ha)

/-- Equal register stores hold equal registers. -/
theorem onlyRegs_of_regs_eq {s t : State} (l : List Nat) (h : t.regs = s.regs) : OnlyRegs l s t :=
  fun a _ => by simp only [State.reg, h]

/-- A store into one of the listed registers. -/
theorem setFld_onlyRegs_of_mem {l : List Nat} (s : State) (f : Fld) (v : Nat) (h : f.addr ∈ l) : OnlyRegs l s (s.setFld f v) :=
  (setFld_onlyRegs s f v).mono (by simpa using h)

/-- A field of a register outside the frame reads as before. -/
theorem OnlyRegs.fld_eq {l : List Nat} {s t : State} (h : OnlyRegs l s t) {f : Fld} (hf : f.addr ∉ l) : t.fld f = s.fld f := by
  simp only [State.fld, h f.addr hf]

/-- A flag of a register outside the frame reads as before. -/
theorem OnlyRegs.flag_eq {l : List Nat} {s t : State} (h : OnlyRegs l s t) {f : Fld} (hf : f.addr ∉ l) : t.flag f = s.flag f := by
  simp only [State.flag, h.fld_eq hf]

/-- Storing a field keeps the canonical form of the register store. -/
theorem setFld_wf (s : State) (f : Fld) (v : Nat) (h : RegStore.wf s.regs = true) : RegStore.wf (s.setFld f v).regs = true :=
  setReg_wf s _ _ h

theorem State.canonical.regs_wf {s : State} (h : s.canonical) : RegStore.wf s.regs = true := h.2.1

theorem State.canonical.hiLatch_wf {s : State} (h : s.canonical) : smWf (fun _ => none) s.fab.hiLatch = true := by
  obtain ⟨-, -, hlive, -⟩ := h
  simp only [State.liveMapsWf, Bool.and_eq_true, and_assoc] at hlive
  obtain ⟨hlatch, -⟩ := hlive
  exact hlatch

theorem State.canonical.rdata_wf {s : State} (h : s.canonical) : smWf (fun _ => 0) s.fab.rdata = true := by
  obtain ⟨-, -, hlive, -⟩ := h
  simp only [State.liveMapsWf, Bool.and_eq_true, and_assoc] at hlive
  obtain ⟨-, hrdata, -⟩ := hlive
  exact hrdata

/-! ### Bits of words and fields -/

theorem bit_eq_testBit (w i : Nat) : bit w i = w.testBit i := by
  rw [Nat.testBit_eq_decide_div_mod_eq]; rfl

theorem testBit_bits (w lo n i : Nat) : (bits w lo n).testBit i = (decide (i < n) && w.testBit (lo + i)) := by
  simp only [bits, Nat.testBit_mod_two_pow, Nat.testBit_div_two_pow, Nat.add_comm]

/-- Bit `i` of a word with a field replaced: the field's own bits come from the new value. -/
theorem testBit_setBits (w lo n v i : Nat) :
    (setBits w lo n v).testBit i = if lo ≤ i ∧ i < lo + n then v.testBit (i - lo) else w.testBit i := by
  have e : setBits w lo n v = 2 ^ lo * (2 ^ n * (w / 2 ^ (lo + n)) + v % 2 ^ n) + w % 2 ^ lo := by
    unfold setBits; rw [pow_add]; ring
  rw [e, Nat.testBit_two_pow_mul_add _ (Nat.mod_lt _ (by positivity)),
    Nat.testBit_two_pow_mul_add _ (Nat.mod_lt _ (by positivity)), Nat.testBit_mod_two_pow, Nat.testBit_mod_two_pow,
    Nat.testBit_div_two_pow]
  by_cases h1 : i < lo
  · simp [h1, Nat.not_le.mpr h1]
  · by_cases h2 : i < lo + n
    · simp [h1, h2, show i - lo < n by omega, show lo ≤ i by omega]
    · simp [h1, h2, show ¬ i - lo < n by omega, show i - lo - n + (lo + n) = i by omega]

/-- Replacing a field leaves a field apart from it as it was. -/
theorem bits_setBits_other (w lo n v lo' n' : Nat) (h : lo' + n' ≤ lo ∨ lo + n ≤ lo') :
    bits (setBits w lo n v) lo' n' = bits w lo' n' := by
  refine Nat.eq_of_testBit_eq fun i => ?_
  rw [testBit_bits, testBit_bits, testBit_setBits]
  by_cases hi : i < n'
  · rw [if_neg (by omega)]
  · simp [hi]

theorem toNat_reg_setFld_same (s : State) (f : Fld) (v : Nat) (h : RegStore.wf s.regs = true) (hf : f.lo + f.width ≤ 32) :
    ((s.setFld f v).reg f.addr).toNat = setBits (s.reg f.addr).toNat f.lo f.width v := by
  unfold State.setFld
  rw [reg_setReg_same s _ _ h, BitVec.toNat_ofNat, Nat.mod_eq_of_lt (setBits_lt _ _ _ _ hf (s.reg f.addr).isLt)]

/-- Reading a field of another register, or one apart from the field that has been set. -/
theorem fld_setFld_other (s : State) (f g : Fld) (v : Nat) (h : RegStore.wf s.regs = true) (hf : f.lo + f.width ≤ 32)
    (hg : g.addr ≠ f.addr ∨ g.lo + g.width ≤ f.lo ∨ f.lo + f.width ≤ g.lo) : (s.setFld f v).fld g = s.fld g := by
  by_cases ha : g.addr = f.addr
  · have hd : g.lo + g.width ≤ f.lo ∨ f.lo + f.width ≤ g.lo := by simpa [ha] using hg
    simp only [State.fld, ha]
    rw [toNat_reg_setFld_same s f v h hf, bits_setBits_other _ _ _ _ _ _ hd]
  · exact (setFld_onlyRegs s f v).fld_eq (by simpa using ha)

/-! ### Words of memory -/

/-- Bytes that have been stored read back. -/
theorem bytesAt_setBytes_same (s : State) (a : Nat) (l : List Byte) (h : Memory.wf s.mem = true) :
    (s.setBytes a l).bytesAt a l.length = l := by
  induction l generalizing s a with
  | nil => rfl
  | cons b r ih =>
    have hb : ((s.setByte a b).setBytes (a + 1) r).byteAt a = b :=
      (byteAt_setBytes_other _ _ _ _ (by omega)).trans (byteAt_setByte_same s a b h)
    simp only [State.setBytes, List.length_cons, State.bytesAt, hb, ih _ _ (setByte_wf s a b h)]

theorem leNat_leBytes (n v : Nat) : leNat (leBytes n v) = v % 256 ^ n := by
  induction n generalizing v with
  | zero => simp [leBytes, leNat, Nat.mod_one]
  | succ n ih =>
    have hm : v % 256 ^ (n + 1) = v % 256 + 256 * (v / 256 % 256 ^ n) := by rw [pow_succ', Nat.mod_mul]
    simp only [leBytes, leNat, ih, BitVec.toNat_ofNat, hm]

/-- A word that has been stored reads back. -/
theorem wordAt_setWord_same (s : State) (a : Nat) (w : Word) (h : Memory.wf s.mem = true) : (s.setWord a w).wordAt a = w := by
  have hb := bytesAt_setBytes_same s a (leBytes 4 w.toNat) h
  rw [leBytes_length] at hb
  unfold State.wordAt State.setWord
  rw [hb, leNat_leBytes, Nat.mod_eq_of_lt (by simpa using w.isLt), BitVec.ofNat_toNat, BitVec.setWidth_eq]

/-- Settles O21, by the bits of a word with a field replaced and by induction on the bytes stored. -/
theorem registersAndMemory : Obligations.RegistersAndMemory := by
  unfold Obligations.RegistersAndMemory
  refine ⟨fun s f g v h hf => ⟨fld_setFld_same s f v h hf, fld_setFld_other s f g v h hf, setFld_wf s f v h, setFld_onlyParts s f v⟩,
    fun s a w h => ⟨wordAt_setWord_same s a w h, setWord_only s a w, setWord_wf s a w h, onlyParts_mem rfl⟩⟩

end Sys2Proof.Machine
end

section
/-! SUPPORT. An access of the fabric (R20–R22): the core's wake and the counts of an access change `passRegs` alone, the capture of a command
`captureRegs`; a stalled request changes no register. A write by access types (R4) is said bit by bit. -/

namespace Sys2Proof.Machine

/-! ### A core that accesses the fabric -/

theorem coreAwake_cases (s : State) (init : Nat) : coreAwake s init = s ∨ ∃ x, coreAwake s init = s.setPm x := by
  unfold coreAwake
  split
  · exact .inr ⟨_, rfl⟩
  · exact .inl rfl

@[simp] theorem coreAwake_regs (s : State) (init : Nat) : (coreAwake s init).regs = s.regs := by
  obtain h | ⟨x, h⟩ := coreAwake_cases s init <;> simp [h]

@[simp] theorem coreAwake_fab (s : State) (init : Nat) : (coreAwake s init).fab = s.fab := by
  obtain h | ⟨x, h⟩ := coreAwake_cases s init <;> simp [h]

theorem coreAwake_onlyParts (s : State) (init : Nat) : OnlyParts [.pm] s (coreAwake s init) := by
  obtain h | ⟨x, h⟩ := coreAwake_cases s init
  · rw [h]; exact .refl _ _
  · rw [h]; exact setPm_onlyParts s x

/-- The request of a core is the same once it has left its reset. -/
@[simp] theorem fabTxn_coreAwake (s : State) (init i addr : Nat) (write : Bool) :
    fabTxn (coreAwake s init) i addr write = fabTxn s i addr write := by
  obtain h | ⟨x, h⟩ := coreAwake_cases s init
  · rw [h]
  · rw [h]; rfl

@[simp] theorem fabOpen_coreAwake (s : State) (init : Nat) (t : FabTxn) : fabOpen (coreAwake s init) t = fabOpen s t := by
  simp only [fabOpen, fabRoom, coreAwake_fab]

/-- A request that stalls joins the stalled ones, and nothing else changes but for the core's wake. -/
theorem fabStall_coreAwake (s : State) (init : Nat) (t : FabTxn) :
    (fabStall (coreAwake s init) t).fab = { s.fab with stalled := s.fab.stalled ++ [t] } ∧
      OnlyParts [.fab, .pm] s (fabStall (coreAwake s init) t) := by
  refine ⟨by simp [fabStall], ?_⟩
  exact ((coreAwake_onlyParts s init).mono (by simp)).trans ((setFab_onlyParts _ _).mono (by simp))

/-! ### What an access counts -/

theorem bits_lt (w lo n : Nat) : bits w lo n < 2 ^ n := Nat.mod_lt _ (by positivity)

/-- There are four classes (R21). -/
theorem initClass_lt (s : State) (i : Nat) : initClass s i < 4 := by
  have hd : s.fld (Fd.DMA_CH_CFG_CLASS (i - 0x10)) < 4 := bits_lt _ _ 2
  unfold initClass
  repeat' split
  all_goals omega

theorem fabAux_mem_passRegs {k : Nat} (h : k < 8) : Ra.SYS_FAB_AUX k ∈ passRegs :=
  List.mem_cons_of_mem _ (List.mem_map_of_mem (List.mem_range.mpr h))

theorem fabNote_onlyRegs (s : State) (c n total : Nat) (hc : c < 4) : OnlyRegs passRegs s (fabNote s c n total) := by
  unfold fabNote State.count
  refine ((setFld_onlyRegs_of_mem s (Fd.SYS_FAB_AUX_V c) _ (fabAux_mem_passRegs (by omega))).trans
    (setFld_onlyRegs_of_mem _ (Fd.SYS_FAB_AUX_V (4 + c)) _ (fabAux_mem_passRegs (by omega)))).trans
    (setFld_onlyRegs_of_mem _ Fd.SYS_FAB_PEAK_PEAK _ (by simp [passRegs, Fd.SYS_FAB_PEAK_PEAK]))

theorem fabNote_wf (s : State) (c n total : Nat) (h : RegStore.wf s.regs = true) : RegStore.wf (fabNote s c n total).regs = true :=
  setFld_wf _ _ _ (setFld_wf _ _ _ (setFld_wf _ _ _ h))

theorem accessed_eq (s : State) (init addr : Nat) (write : Bool) :
    accessed s init addr write = fabPass (coreAwake s init) (fabTxn s init addr write) := by
  rw [accessed, fabTxn_coreAwake]

theorem accessed_onlyParts (s : State) (init addr : Nat) (write : Bool) : OnlyParts [.regs, .pm] s (accessed s init addr write) :=
  ((coreAwake_onlyParts s init).mono (by simp)).trans ((onlyParts_regs rfl : OnlyParts [.regs] (coreAwake s init) _).mono (by simp))

theorem accessed_onlyRegs (s : State) (init addr : Nat) (write : Bool) : OnlyRegs passRegs s (accessed s init addr write) :=
  (onlyRegs_of_regs_eq _ (coreAwake_regs s init)).trans (fabNote_onlyRegs _ _ _ _ (initClass_lt _ _))

theorem accessed_wf (s : State) (init addr : Nat) (write : Bool) (h : RegStore.wf s.regs = true) :
    RegStore.wf (accessed s init addr write).regs = true := fabNote_wf _ _ _ _ (by simpa using h)

@[simp] theorem accessed_fab (s : State) (init addr : Nat) (write : Bool) : (accessed s init addr write).fab = s.fab :=
  accessed_onlyParts s init addr write .fab (by simp)

@[simp] theorem accessed_rpl (s : State) (init addr : Nat) (write : Bool) : (accessed s init addr write).rpl = s.rpl :=
  accessed_onlyParts s init addr write .rpl (by simp)

/-! ### The recorder's capture of a command -/

theorem tabRecMem_captureRegs {k : Nat} (h : k < 8) : Ra.TAB_REC_TYPE k ∈ captureRegs :=
  List.mem_cons_of_mem _ (List.mem_map_of_mem (List.mem_range.mpr h))

/-- The capture of a command changes nothing (no segment is open, or the boundary replays), or counts the record and shows the buffer's fill. -/
theorem tabCmd_cases (s : State) (unit : Nat) (data : List Nat) : tabCmd s unit data = s ∨
    ∃ x fill, tabCmd s unit data = ((s.count (Fd.TAB_REC_TYPE_V 2)).setTab x).setFld Fd.TAB_STAT_FILL fill := by
  simp only [tabCmd, tabRecAt]
  by_cases h1 : s.rpl.live.isSome = true
  · simp [h1]
  · by_cases h2 : s.tab.segOpen = true
    · exact .inr ⟨_, _, by rw [if_neg h1, if_pos h2]; rfl⟩
    · exact .inl (by rw [if_neg h1, if_neg h2])

theorem tabCmd_onlyRegs (s : State) (unit : Nat) (data : List Nat) : OnlyRegs captureRegs s (tabCmd s unit data) := by
  obtain h | ⟨x, fill, h⟩ := tabCmd_cases s unit data
  · rw [h]; exact .refl _ _
  · rw [h]
    have hrec := setFld_onlyRegs_of_mem s (Fd.TAB_REC_TYPE_V 2) (satU 32 (s.fld (Fd.TAB_REC_TYPE_V 2) + 1)) (tabRecMem_captureRegs (by omega))
    have htab : OnlyRegs captureRegs (s.count (Fd.TAB_REC_TYPE_V 2)) ((s.count (Fd.TAB_REC_TYPE_V 2)).setTab x) := onlyRegs_of_regs_eq _ rfl
    exact (hrec.trans htab).trans (setFld_onlyRegs_of_mem _ Fd.TAB_STAT_FILL _ (by simp [captureRegs, Fd.TAB_STAT_FILL]))

theorem tabCmd_onlyParts (s : State) (unit : Nat) (data : List Nat) : OnlyParts [.regs, .tab] s (tabCmd s unit data) := by
  obtain h | ⟨x, fill, h⟩ := tabCmd_cases s unit data
  · rw [h]; exact .refl _ _
  · rw [h]
    exact (((setFld_onlyParts s _ _).mono (by simp)).trans ((setTab_onlyParts _ x).mono (by simp))).trans ((setFld_onlyParts _ _ _).mono (by simp))

theorem tabCmd_wf (s : State) (unit : Nat) (data : List Nat) (h : RegStore.wf s.regs = true) :
    RegStore.wf (tabCmd s unit data).regs = true := by
  obtain e | ⟨x, fill, e⟩ := tabCmd_cases s unit data
  · rw [e]; exact h
  · rw [e]; exact setFld_wf _ _ _ (setFld_wf s _ _ h)

/-! ### What an access leaves for the decisions of a write -/

/-- `t` is `s` but for what counts an access and the recorder's capture of it. -/
def Counted (s t : State) : Prop := OnlyRegs (passRegs ++ captureRegs) s t ∧ OnlyParts [.regs, .pm, .tab] s t

theorem accessed_counted (s : State) (init addr : Nat) (write : Bool) : Counted s (accessed s init addr write) :=
  ⟨(accessed_onlyRegs s init addr write).mono (by simp), (accessed_onlyParts s init addr write).mono (by simp)⟩

theorem tabCmd_counted (s : State) (unit : Nat) (data : List Nat) : Counted s (tabCmd s unit data) :=
  ⟨(tabCmd_onlyRegs s unit data).mono (by simp), (tabCmd_onlyParts s unit data).mono (by simp)⟩

theorem Counted.trans {s t u : State} (h : Counted s t) (h' : Counted t u) : Counted s u := ⟨h.1.trans h'.1, h.2.trans h'.2⟩

/-- The counts of accesses and captures lie in the SYS and TAB windows. -/
theorem countRegs_window : ∀ a ∈ passRegs ++ captureRegs, a / 0x10000 = 0x4000 ∨ a / 0x10000 = 0x4007 := by decide

/-- A field of another window reads as before. -/
theorem Counted.fld {s t : State} (h : Counted s t) {f : Fld} (hf : f.addr / 0x10000 ≠ 0x4000 ∧ f.addr / 0x10000 ≠ 0x4007) :
    t.fld f = s.fld f :=
  h.1.fld_eq fun hm => (countRegs_window _ hm).elim hf.1 hf.2

/-- A flag of another window reads as before. -/
theorem Counted.flag {s t : State} (h : Counted s t) {f : Fld} (hf : f.addr / 0x10000 ≠ 0x4000 ∧ f.addr / 0x10000 ≠ 0x4007) :
    t.flag f = s.flag f := by
  simp only [State.flag, h.fld hf]

theorem Counted.slotState {s t : State} (h : Counted s t) (e i : Nat) : t.slotState e i = s.slotState e i :=
  h.fld (by simp only [Fd.CE_SLOT_STATUS_STATE, Ra.CE_SLOT_STATUS]; omega)

theorem Counted.loopState {s t : State} (h : Counted s t) (l : Nat) : t.loopState l = s.loopState l := by
  have hv : t.slotValid = s.slotValid := funext₂ fun e i =>
    h.flag (by simp only [Fd.CE_SLOT_CFG_VALID, Ra.CE_SLOT_CFG]; omega)
  have hl : t.slotLoop = s.slotLoop := funext₂ fun e i =>
    h.fld (by simp only [Fd.CE_SLOT_CFG_LOOP, Ra.CE_SLOT_CFG]; omega)
  have hs : t.slotState = s.slotState := funext₂ h.slotState
  simp only [State.loopState, State.slotOf, State.heldSlots, hv, hl, hs]

/-- The loops and routes that own the live outputs keep their states. -/
theorem Counted.liveRoutes {s t : State} (h : Counted s t) : Counted s.liveRoutes t.liveRoutes := by
  have hr : t.rpl.live = s.rpl.live := congrArg RplState.live (h.2 .rpl (by simp))
  unfold State.liveRoutes
  rw [hr]
  cases s.rpl.live with
  | none => exact h
  | some b =>
    refine ⟨fun _ _ => rfl, fun p hp => ?_⟩
    have hs := h.2 p hp
    cases p
    case regs | ce => rfl
    all_goals exact hs

theorem Counted.lswOwned {s t : State} (h : Counted s t) (n : Nat) : lswOwned t n = lswOwned s n := by
  have hc : t.liveRoutes.ce = s.liveRoutes.ce := h.liveRoutes.2 .ce (by simp)
  have ho : t.liveRoutes.ownerRoute 2 n = s.liveRoutes.ownerRoute 2 n := by simp only [State.ownerRoute, hc]
  simp only [Machine.lswOwned, ho, h.liveRoutes.loopState]

/-- The locks of RWL fields (R4) stand as before. -/
theorem Counted.rwlOpen {s t : State} (h : Counted s t) (a : Nat) : rwlOpen t a = rwlOpen s a := by
  have hlsw : t.lsw = s.lsw := h.2 .lsw (by simp)
  have hmfp : t.fld (Fd.MFP_MF_STAT_STATE (a % 0x10000 / 0x20)) = s.fld (Fd.MFP_MF_STAT_STATE (a % 0x10000 / 0x20)) :=
    h.fld (by simp only [Fd.MFP_MF_STAT_STATE, Ra.MFP_MF_STAT]; omega)
  have hdma : t.flag (Fd.DMA_CH_CFG_EN (a % 0x10000 / 0x40)) = s.flag (Fd.DMA_CH_CFG_EN (a % 0x10000 / 0x40)) :=
    h.flag (by simp only [Fd.DMA_CH_CFG_EN, Ra.DMA_CH_CFG]; omega)
  have hmbx : t.fld (Fd.MBX_EP_STAT_STATE (a % 0x10000 / 0x20)) = s.fld (Fd.MBX_EP_STAT_STATE (a % 0x10000 / 0x20)) :=
    h.fld (by simp only [Fd.MBX_EP_STAT_STATE, Ra.MBX_EP_STAT]; omega)
  have hcan : t.flag (Fd.CAN_CTL_EN ((a - 0x40800000) / 0x10000)) = s.flag (Fd.CAN_CTL_EN ((a - 0x40800000) / 0x10000)) :=
    h.flag (by simp only [Fd.CAN_CTL_EN, Ra.CAN_CTL]; omega)
  have hvlv : t.flag (Fd.VLV_CH_CFG_EN (a % 0x10000 / 0x20)) = s.flag (Fd.VLV_CH_CFG_EN (a % 0x10000 / 0x20)) :=
    h.flag (by simp only [Fd.VLV_CH_CFG_EN, Ra.VLV_CH_CFG]; omega)
  have hdsp : t.flag Fd.DSP_PNL_CTL_EN = s.flag Fd.DSP_PNL_CTL_EN := h.flag (by decide)
  simp only [Machine.rwlOpen, h.slotState, hmfp, hdma, hmbx, hcan, hvlv, hdsp, hlsw, h.lswOwned]

/-- The panel's fetch owns the same channel as before. -/
theorem Counted.panelOwns {s t : State} (h : Counted s t) (n : Nat) : panelOwns t n = panelOwns s n := by
  have he : t.flag Fd.DSP_PNL_CTL_EN = s.flag Fd.DSP_PNL_CTL_EN := h.flag (by decide)
  have hc : t.fld Fd.DSP_FB_CFG_CH = s.fld Fd.DSP_FB_CFG_CH := h.fld (by decide)
  simp only [Machine.panelOwns, panelCh, he, hc]

theorem Counted.loopEndpoint {s t : State} (h : Counted s t) {e : Nat} (he : e < 0x800) : loopEndpoint t e = loopEndpoint s e := by
  have ht : t.flag (Fd.MBX_EP_CFG_TXL e) = s.flag (Fd.MBX_EP_CFG_TXL e) :=
    h.flag (by simp only [Fd.MBX_EP_CFG_TXL, Ra.MBX_EP_CFG]; omega)
  have hr : t.flag (Fd.MBX_EP_CFG_RXL e) = s.flag (Fd.MBX_EP_CFG_RXL e) :=
    h.flag (by simp only [Fd.MBX_EP_CFG_RXL, Ra.MBX_EP_CFG]; omega)
  simp only [Machine.loopEndpoint, ht, hr]

/-- The registers inside the replay boundary are the same as before. -/
theorem Counted.coreBnd {s t : State} (h : Counted s t) (init a : Nat) : coreBnd t init a = coreBnd s init a := by
  have h1 : Machine.loopEndpoint t (a % 0x10000 / 0x20) = Machine.loopEndpoint s (a % 0x10000 / 0x20) := h.loopEndpoint (by omega)
  have h2 : Machine.loopEndpoint t (a % 0x10000 % 0x1000 / 0x40) = Machine.loopEndpoint s (a % 0x10000 % 0x1000 / 0x40) :=
    h.loopEndpoint (by omega)
  simp only [Machine.coreBnd, bndReg, h1, h2]

/-! ### A write by access types (R4) -/

/-- Each bit of a masked write follows its access type. -/
theorem bit_maskedWrite (r : RegRow) (isOpen : Bool) (old v : Word) {i : Nat} (hi : i < 32) :
    bit (maskedWrite r isOpen old v).toNat i =
      if bit r.w1c i && bit v.toNat i then false
      else if bit r.rw i || bit r.wo i || (isOpen && bit r.rwl i) then bit v.toNat i else bit old.toNat i := by
  have hl : (if isOpen = true then r.rwl else 0).testBit i = (isOpen && r.rwl.testBit i) := by cases isOpen <;> simp
  simp only [bit_eq_testBit, BitVec.testBit_toNat, maskedWrite, BitVec.getLsbD_and, BitVec.getLsbD_or, BitVec.getLsbD_not,
    BitVec.getLsbD_ofNat, Nat.testBit_or, hl, hi, decide_true, Bool.true_and]
  cases r.w1c.testBit i <;> cases v.getLsbD i <;> cases r.rw.testBit i || r.wo.testBit i || isOpen && r.rwl.testBit i <;> simp

/-- A one-bit flag is the bit it names. -/
theorem flag_eq_bit (s : State) (a i : Nat) : s.flag ⟨a, i, 1⟩ = bit (s.reg a).toNat i := rfl

/-- A write by access types of any register but SYS_FAB_ERR_INFO stores the masked word. -/
theorem plainWrite_of_row {s : State} {a : Nat} {v : Word} {r : RegRow} (hr : regRow a = some r) (ha : a ≠ Ra.SYS_FAB_ERR_INFO) :
    plainWrite s a v = s.setReg a (maskedWrite r (rwlOpen s a) (s.reg a) v) := by
  simp [plainWrite, hr, ha]

/-- A write by access types of SYS_FAB_ERR_INFO clears OVERRUN where it clears VALID. -/
theorem plainWrite_errInfo {s : State} {v : Word} {r : RegRow} (hr : regRow Ra.SYS_FAB_ERR_INFO = some r) :
    let t := s.setReg Ra.SYS_FAB_ERR_INFO (maskedWrite r (rwlOpen s Ra.SYS_FAB_ERR_INFO) (s.reg Ra.SYS_FAB_ERR_INFO) v)
    plainWrite s Ra.SYS_FAB_ERR_INFO v = if bit v.toNat 31 then t.setFlag Fd.SYS_FAB_ERR_INFO_OVERRUN false else t := by
  simp [plainWrite, hr]

theorem plainWrite_onlyParts (s : State) (a : Nat) (v : Word) : OnlyParts [.regs] s (plainWrite s a v) := by
  unfold plainWrite
  split
  · dsimp only
    split <;> exact onlyParts_regs rfl
  · exact .refl _ _

theorem plainWrite_onlyRegs (s : State) (a : Nat) (v : Word) : OnlyRegs [a] s (plainWrite s a v) := by
  unfold plainWrite
  split
  · dsimp only
    split
    · next h => exact (setReg_onlyRegs s a _).trans (setFld_onlyRegs_of_mem _ _ _ (by simp [h.1, Fd.SYS_FAB_ERR_INFO_OVERRUN]))
    · exact setReg_onlyRegs s a _
  · exact .refl _ _

/-- Setting OVERRUN leaves the other bits of SYS_FAB_ERR_INFO as they were. -/
theorem setFlag_overrun_bit (s : State) (b : Bool) (h : RegStore.wf s.regs = true) {i : Nat} (hi : i ≠ 30) :
    bit ((s.setFlag Fd.SYS_FAB_ERR_INFO_OVERRUN b).reg Ra.SYS_FAB_ERR_INFO).toNat i = bit (s.reg Ra.SYS_FAB_ERR_INFO).toNat i := by
  have hb : ((s.setFlag Fd.SYS_FAB_ERR_INFO_OVERRUN b).reg Ra.SYS_FAB_ERR_INFO).toNat = setBits (s.reg Ra.SYS_FAB_ERR_INFO).toNat 30 1 (b2n b) :=
    toNat_reg_setFld_same s Fd.SYS_FAB_ERR_INFO_OVERRUN (b2n b) h (by decide)
  rw [hb, bit_eq_testBit, bit_eq_testBit, testBit_setBits, if_neg (by omega)]

/-- Each bit of a register written by its access types, but for OVERRUN, follows its access type. -/
theorem bit_plainWrite {s : State} {a : Nat} {v : Word} {r : RegRow} (hr : regRow a = some r) (hw : RegStore.wf s.regs = true) {i : Nat}
    (hi : i < 32) (ho : ¬ (a = Ra.SYS_FAB_ERR_INFO ∧ i = 30)) :
    bit ((plainWrite s a v).reg a).toNat i =
      if bit r.w1c i && bit v.toNat i then false
      else if bit r.rw i || bit r.wo i || (rwlOpen s a && bit r.rwl i) then bit v.toNat i else bit (s.reg a).toNat i := by
  rw [← bit_maskedWrite r (rwlOpen s a) (s.reg a) v hi]
  by_cases ha : a = Ra.SYS_FAB_ERR_INFO
  · subst ha
    have hi30 : i ≠ 30 := fun h => ho ⟨rfl, h⟩
    rw [plainWrite_errInfo hr]
    split
    · rw [setFlag_overrun_bit _ _ (setReg_wf s _ _ hw) hi30, reg_setReg_same s _ _ hw]
    · rw [reg_setReg_same s _ _ hw]
  · rw [plainWrite_of_row hr ha, reg_setReg_same s _ _ hw]

/-! ### The write of a register without an action -/

/-- A register that no action covers, and that the panel's fetch does not own, is written by its access types. -/
theorem regAct_eq_plainWrite {s : State} {init a : Nat} {v : Word} (hh : ∀ h ∈ hooks init v, h.covers a = false)
    (hp : ¬ (0x40050000 ≤ a ∧ a < 0x40050800 ∧ panelOwns s ((a - 0x40050000) / 0x40) = true)) : regAct s init a v = plainWrite s a v := by
  have hf : (hooks init v).find? (·.covers a) = none := by simpa using hh
  have hn : (decide (0x40050000 ≤ a ∧ a < 0x40050800) && Machine.panelOwns s ((a - 0x40050000) / 0x40)) = false := by
    simpa [and_assoc] using hp
  simp only [regAct, hf, hn, Bool.false_eq_true, if_false]

/-- A 32-bit write of a word in a register window that the fabric accepts reaches the register. -/
theorem exec_registerWrite_word {s : State} {init : Fin 58} {addr : BitVec 40} {v : Word} (hacc : Accepts s init addr.toNat true)
    (hlo : 0x40000000 ≤ addr.toNat) (hhi : addr.toNat < 0x41000000) (hwin : inWindow addr.toNat = true) (hal : addr.toNat % 4 = 0) :
    exec (.registerWrite init addr 2 v) s = .next (regWrite (accessed s init addr.toNat true) init addr.toNat v) := by
  obtain ⟨hmay, hopen⟩ := hacc
  have ho : fabOpen s { fabTxn s init addr.toNat true with wr := some (2, v) } = true := hopen
  change execRegisterWrite init addr 2 v s = _
  simp only [execRegisterWrite, hmay, if_true, fabWrite, fabTxn_coreAwake, fabOpen_coreAwake, Fin.isValue, Fin.val_two, ho, busWrite, hlo, hhi,
    and_self, hwin, Bool.not_true, Bool.false_eq_true, if_false, hal, ne_eq, not_true_eq_false, or_false, Nat.lt_irrefl, accessed_eq]
  rfl

/-- A write that finds no entry stalls at its initiator's port. -/
theorem exec_registerWrite_stalled {s : State} {init : Fin 58} {addr : BitVec 40} {size : Fin 3} {v : Word} (hmay : mayAccess s init true = true)
    (hclosed : fabOpen s (fabTxn s init addr.toNat true) = false) :
    exec (.registerWrite init addr size v) s =
      .next (fabStall (coreAwake s init) { fabTxn s init addr.toNat true with wr := some (size.val, v) }) := by
  have ho : fabOpen s { fabTxn s init addr.toNat true with wr := some (size.val, v) } = false := hclosed
  change execRegisterWrite init addr size v s = _
  simp [execRegisterWrite, hmay, fabWrite, ho]

/-- What a write by access types leaves, after the access has been counted and captured. -/
theorem plainWrite_counted {s u : State} {a : Nat} {v : Word} {r : RegRow} (hu : Counted s u) (hw : RegStore.wf u.regs = true)
    (hr : regRow a = some r) (hi : a ≠ Ra.SYS_FAB_ERR_INFO) (ha : a ∉ passRegs ++ captureRegs) :
    (∀ i, i < 32 → bit ((plainWrite u a v).reg a).toNat i =
      if bit r.w1c i && bit v.toNat i then false
      else if bit r.rw i || bit r.wo i || (rwlOpen s a && bit r.rwl i) then bit v.toNat i else bit (s.reg a).toNat i) ∧
    OnlyRegs (a :: passRegs ++ captureRegs) s (plainWrite u a v) ∧ OnlyParts [.regs, .pm, .tab] s (plainWrite u a v) := by
  refine ⟨fun i hlt => ?_, ?_, ?_⟩
  · rw [bit_plainWrite hr hw hlt (fun h => hi h.1), hu.rwlOpen, hu.1 a ha]
  · exact (hu.1.mono (List.subset_cons_self _ _)).trans ((plainWrite_onlyRegs u a v).mono (by simp))
  · exact hu.2.trans ((plainWrite_onlyParts u a v).mono (by simp))

/-- Settles O24: a write reaches the register through `accessed` and, for a core inside the boundary, `tabCmd`, which leave the decisions of the write
as they were (`Counted`). -/
theorem registerWrites : Obligations.RegisterWrites := by
  unfold Obligations.RegisterWrites
  intro init addr v s hc
  refine ⟨fun size hmay hclosed => ⟨_, exec_registerWrite_stalled hmay hclosed, fabStall_coreAwake s init _⟩, ?_⟩
  intro r hacc hlo hhi hwin hal a hr hbar hh hp hi ha
  have he := exec_registerWrite_word (v := v) hacc hlo hhi hwin hal
  have hs' := accessed_counted s init addr.toNat true
  have hw' := accessed_wf s init addr.toNat true hc.regs_wf
  have hplain : ∀ u, Counted s u → regAct u init a v = plainWrite u a v := fun u hu =>
    regAct_eq_plainWrite hh (by rw [hu.panelOwns]; exact hp)
  refine ⟨fun hb => ?_, fun hb hlive => ⟨_, he, ?_⟩⟩
  · by_cases hcore : coreBnd s init a = true
    · have hlive : s.rpl.live = none := by simpa [hcore] using hb
      have hs'' := hs'.trans (tabCmd_counted (accessed s init addr.toNat true) a [v.toNat])
      refine ⟨_, he, ?_⟩
      have hreg : regWrite (accessed s init addr.toNat true) init addr.toNat v =
          plainWrite (tabCmd (accessed s init addr.toNat true) a [v.toNat]) a v := by
        rw [← hplain _ hs'']
        simp [regWrite, a, hbar, hs'.coreBnd, hcore, hlive]
      rw [hreg]
      exact plainWrite_counted hs'' (tabCmd_wf _ _ _ hw') hr hi ha
    · refine ⟨_, he, ?_⟩
      have hreg : regWrite (accessed s init addr.toNat true) init addr.toNat v = plainWrite (accessed s init addr.toNat true) a v := by
        rw [← hplain _ hs']
        simp [regWrite, a, hbar, hs'.coreBnd, hcore]
      rw [hreg]
      exact plainWrite_counted hs' hw' hr hi ha
  · have hreg : regWrite (accessed s init addr.toNat true) init addr.toNat v = accessed s init addr.toNat true := by
      simp [regWrite, a, hbar, hs'.coreBnd, hb, hlive]
    rw [hreg]
    exact ⟨accessed_onlyRegs s init addr.toNat true, accessed_onlyParts s init addr.toNat true⟩

end Sys2Proof.Machine
end

section
/-! SUPPORT. Reads of registers (R7, R16, R17) and the clearing of W1C bits (R4): what a read returns, latches and clears, and which rows hold W1C
bits. -/

namespace Sys2Proof.Machine

/-! ### A read of one register -/

/-- The RC fields of a register are cleared (R7). -/
def clearRc (s : State) (a : Nat) : State := match regRow a with
  | some r => if r.rc = 0 then s else s.setReg a (s.reg a &&& ~~~(BitVec.ofNat 32 r.rc))
  | none => s

theorem clearRc_of_no_rc {s : State} {a : Nat} (h : ∀ r, regRow a = some r → r.rc = 0) : clearRc s a = s := by
  unfold clearRc
  cases hr : regRow a with
  | none => rfl
  | some r => exact if_pos (h r hr)

theorem clearRc_of_rc {s : State} {a : Nat} {r : RegRow} (hr : regRow a = some r) (hrc : r.rc ≠ 0) :
    clearRc s a = s.setReg a (s.reg a &&& ~~~(BitVec.ofNat 32 r.rc)) := by
  simp only [clearRc, hr, if_neg hrc]

theorem clearRc_onlyParts (s : State) (a : Nat) : OnlyParts [.regs] s (clearRc s a) := by
  unfold clearRc
  split
  · split
    · exact .refl _ _
    · exact setReg_onlyParts s a _
  · exact .refl _ _

theorem clearRc_onlyRegs (s : State) (a : Nat) : OnlyRegs [a] s (clearRc s a) := by
  unfold clearRc
  split
  · split
    · exact .refl _ _
    · exact setReg_onlyRegs s a _
  · exact .refl _ _

/-- The word an initiator reads at a register: the one latched for it, else what the register shows (R16). -/
def readWord (s : State) (init a : Nat) : Word := (smGet none s.fab.hiLatch (latchKey init a)).getD (shown s a)

/-- The latched high words after a read: the read takes the word latched at its address, and that of a low word latches the high word (R16). -/
def latchAfter (s : State) (init a : Nat) : SMap (Option Word) :=
  let taken := smPut none s.fab.hiLatch (latchKey init a) none
  if isPairLow a then smPut none taken (latchKey init (a + 4)) (some (shown s (a + 4))) else taken

/-- The state after a read of a register. -/
def afterRead (s : State) (init a : Nat) : State := clearRc (s.setFab { s.fab with hiLatch := latchAfter s init a }) a

theorem readReg_shown (s : State) (init b : Nat) :
    readReg (shown s) s init b = (readWord s init (canonAddr b), afterRead s init (canonAddr b)) := by
  refine Prod.ext ?_ ?_
  · dsimp only [readReg, readWord]
    cases smGet none s.fab.hiLatch (latchKey init (canonAddr b)) <;> rfl
  · dsimp only [readReg, afterRead, latchAfter, clearRc]
    cases isPairLow (canonAddr b) <;> rfl

/-- A read of a register that draws no nonce, latches no record and lies in no code store. -/
theorem busRead_plain {s : State} {init b : Nat} (hcode : inCodeStore b = false) (hnonce : b ∉ [Ra.EVR_NONCE_LO, Ra.UPD_NONCE_LO])
    (hloupe : ∀ w, w < 4 → b ≠ Ra.EVR_LOUPE_DATA w 0) :
    busRead s init b = (readWord s init (canonAddr b), afterRead s init (canonAddr b)) := by
  rw [List.mem_cons, List.mem_singleton, not_or] at hnonce
  have hskip : s.forN 4 (fun s w => if b = Ra.EVR_LOUPE_DATA w 0 then loupeLatch s w else s) = s := by
    simp only [State.forN, List.range_succ, List.range_zero, List.nil_append, List.cons_append, List.foldl_cons, List.foldl_nil,
      if_neg (hloupe 0 (by omega)), if_neg (hloupe 1 (by omega)), if_neg (hloupe 2 (by omega)), if_neg (hloupe 3 (by omega))]
  simp only [busRead, hcode, Bool.false_eq_true, if_false, if_neg hnonce.1, if_neg hnonce.2, hskip, readReg_shown]

theorem afterRead_fab (s : State) (init a : Nat) : (afterRead s init a).fab = { s.fab with hiLatch := latchAfter s init a } :=
  clearRc_onlyParts _ a .fab (by simp)

theorem afterRead_onlyParts (s : State) (init a : Nat) : OnlyParts [.regs, .fab] s (afterRead s init a) :=
  ((setFab_onlyParts s _).mono (by simp)).trans ((clearRc_onlyParts _ a).mono (by simp))

theorem afterRead_onlyRegs (s : State) (init a : Nat) : OnlyRegs [a] s (afterRead s init a) :=
  (onlyRegs_of_regs_eq _ rfl).trans (clearRc_onlyRegs _ a)

/-- A register without RC fields keeps its value when it is read. -/
theorem afterRead_regs {s : State} {init a : Nat} (h : ∀ r, regRow a = some r → r.rc = 0) : (afterRead s init a).regs = s.regs := by
  rw [afterRead, clearRc_of_no_rc h]
  rfl

/-- RC fields are cleared when they are read. -/
theorem afterRead_reg_rc {s : State} {init a : Nat} {r : RegRow} (hr : regRow a = some r) (hrc : r.rc ≠ 0) (hw : RegStore.wf s.regs = true) :
    (afterRead s init a).reg a = s.reg a &&& ~~~(BitVec.ofNat 32 r.rc) := by
  rw [afterRead, clearRc_of_rc hr hrc]
  exact reg_setReg_same (s.setFab _) a _ hw

/-- The read of a low word latches the high word. -/
theorem latchAfter_high {s : State} {init a : Nat} (hl : isPairLow a = true) (hw : smWf (fun _ => none) s.fab.hiLatch = true) :
    smGet none (latchAfter s init a) (latchKey init (a + 4)) = some (shown s (a + 4)) := by
  simp only [latchAfter, hl, if_true]
  exact smGet_smPut_same (fun _ => none) _ _ _ none (smWf_smPut (fun _ => none) _ _ _ hw)

/-- A latched word is returned once. -/
theorem latchAfter_taken {s : State} {init a : Nat} (hl : isPairLow a = false) (hw : smWf (fun _ => none) s.fab.hiLatch = true) :
    smGet none (latchAfter s init a) (latchKey init a) = none := by
  simp only [latchAfter, hl, Bool.false_eq_true, if_false]
  exact smGet_smPut_same (fun _ => none) _ _ none none hw

/-! ### The value goes to the initiator -/

theorem noteRead_onlyParts (init : Nat) (x : Word × State) : OnlyParts [.fab] x.2 (noteRead init x) := setFab_onlyParts _ _

theorem noteRead_rdata_same (init : Nat) (x : Word × State) (hw : smWf (fun _ => 0) x.2.fab.rdata = true) :
    smGet 0 (noteRead init x).fab.rdata init = x.1 := smGet_smPut_same (fun _ => 0) _ _ _ none hw

theorem noteRead_rdata_other (init j : Nat) (x : Word × State) (hj : j ≠ init) :
    smGet 0 (noteRead init x).fab.rdata j = smGet 0 x.2.fab.rdata j := smGet_smPut_other _ _ _ _ _ _ hj

/-- The state after a read that the fabric accepts, whose initiator gets `w` of the register `a`. -/
def answered (s : State) (init addr a : Nat) (w : Word) : State := noteRead init (w, afterRead (accessed s init addr false) init a)

theorem answered_rdata_same {s : State} {init addr a : Nat} {w : Word} (hc : s.canonical) :
    smGet 0 (answered s init addr a w).fab.rdata init = w :=
  noteRead_rdata_same init _ (by simpa [afterRead_fab] using hc.rdata_wf)

theorem answered_rdata_other {s : State} {init addr a j : Nat} {w : Word} (hj : j ≠ init) :
    smGet 0 (answered s init addr a w).fab.rdata j = smGet 0 s.fab.rdata j := by
  rw [answered, noteRead_rdata_other _ _ _ hj, afterRead_fab, accessed_fab]

theorem answered_hiLatch (s : State) (init addr a : Nat) (w : Word) :
    (answered s init addr a w).fab.hiLatch = latchAfter (accessed s init addr false) init a := by
  simp [answered, noteRead, afterRead_fab]

theorem answered_onlyParts (s : State) (init addr a : Nat) (w : Word) : OnlyParts [.regs, .fab, .pm] s (answered s init addr a w) :=
  (((accessed_onlyParts s init addr false).mono (by simp)).trans ((afterRead_onlyParts _ init a).mono (by simp))).trans
    ((noteRead_onlyParts init (w, _)).mono (by simp))

theorem answered_onlyRegs (s : State) (init addr a : Nat) (w : Word) : OnlyRegs (a :: passRegs) s (answered s init addr a w) :=
  ((accessed_onlyRegs s init addr false).mono (List.subset_cons_self _ _)).trans ((afterRead_onlyRegs _ init a).mono (by simp))

theorem answered_onlyRegs_of_no_rc {s : State} {init addr a : Nat} {w : Word} (h : ∀ r, regRow a = some r → r.rc = 0) :
    OnlyRegs passRegs s (answered s init addr a w) :=
  (accessed_onlyRegs s init addr false).trans (onlyRegs_of_regs_eq _ (afterRead_regs h))

/-- The bytes of a word that a read of 2^`size` bytes at `addr` returns. -/
def readPart (addr size : Nat) (w : Word) : Word := BitVec.ofNat 32 (bits w.toNat (8 * (addr % 4)) (8 * 2 ^ size))

theorem readPart_word {addr : Nat} (w : Word) (h : addr % 4 = 0) : readPart addr 2 w = w := by
  have hb : bits w.toNat (8 * (addr % 4)) (8 * 2 ^ 2) = w.toNat := by
    simp only [bits, h, Nat.mul_zero, pow_zero, Nat.div_one]
    exact Nat.mod_eq_of_lt w.isLt
  rw [readPart, hb, BitVec.ofNat_toNat, BitVec.setWidth_eq]

/-- A read that the fabric accepts in a window returns the addressed bytes. -/
theorem fabRead_answered {s : State} {init addr size : Nat} (hopen : fabOpen s (fabTxn s init addr false) = true)
    (hwin : inWindow addr = true) (hal : addr % 2 ^ size = 0) (hcode : inCodeStore (addr / 4 * 4) = false)
    (hnonce : addr / 4 * 4 ∉ [Ra.EVR_NONCE_LO, Ra.UPD_NONCE_LO]) (hloupe : ∀ w, w < 4 → addr / 4 * 4 ≠ Ra.EVR_LOUPE_DATA w 0) :
    fabRead (coreAwake s init) init addr size = answered s init addr (canonAddr (addr / 4 * 4))
      (readPart addr size (readWord (accessed s init addr false) init (canonAddr (addr / 4 * 4)))) := by
  simp [fabRead, hopen, hwin, readSized, hal, busRead_plain hcode hnonce hloupe, ← accessed_eq, answered, readPart]

/-- A read that is not aligned to its width returns 0, and is recorded. -/
theorem fabRead_misaligned {s : State} {init addr size : Nat} (hopen : fabOpen s (fabTxn s init addr false) = true)
    (hwin : inWindow addr = true) (hal : addr % 2 ^ size ≠ 0) :
    fabRead (coreAwake s init) init addr size = noteRead init (0, fabErr (accessed s init addr false) init addr 2) := by
  simp [fabRead, hopen, hwin, readSized, hal, ← accessed_eq]

/-- A read outside every window is a decode error. -/
theorem fabRead_outside {s : State} {init addr size : Nat} (hopen : fabOpen s (fabTxn s init addr false) = true)
    (hwin : inWindow addr = false) : fabRead (coreAwake s init) init addr size = busError (accessed s init addr false) init addr 0 := by
  simp [fabRead, hopen, hwin, ← accessed_eq]

/-- A read that finds no entry stalls. -/
theorem fabRead_stalled {s : State} {init addr size : Nat} (hclosed : fabOpen s (fabTxn s init addr false) = false) :
    fabRead (coreAwake s init) init addr size = fabStall (coreAwake s init) (fabTxn s init addr false) := by
  simp [fabRead, hclosed]

theorem exec_lowWordReadLatch {s : State} {init : Fin 58} {addr : Word} {size : Fin 3} (hmay : mayAccess s init false = true)
    (hlo : 0x40000000 ≤ addr.toNat) (hhi : addr.toNat < 0x41000000) :
    exec (.lowWordReadLatch init ⟨addr, size⟩) s = .next (fabRead (coreAwake s init) init addr.toNat size) := by
  change execLowWordReadLatch init ⟨addr, size⟩ s = _
  simp [execLowWordReadLatch, hmay, hlo, hhi]

theorem exec_rcFieldRead {s : State} {init : Fin 58} {addr : Word} {r : RegRow} (hr : regRow (canonAddr addr.toNat) = some r) (hrc : r.rc ≠ 0)
    (hmay : mayAccess s init false = true) :
    exec (.rcFieldRead init addr) s = .next (fabRead (coreAwake s init) init addr.toNat 2) := by
  change execRcFieldRead init addr s = _
  simp [execRcFieldRead, hr, hrc, hmay]

theorem fabErr_onlyParts (s : State) (init addr kind : Nat) : OnlyParts [.regs] s (fabErr s init addr kind) := by
  unfold fabErr
  split <;> exact onlyParts_regs rfl

/-- Of the registers in which an access counts, SYS_FAB_PEAK alone has an RC field. -/
theorem rc_passRegs : ∀ a ∈ passRegs, ∀ r, regRow a = some r → r.rc ≠ 0 → a = Ra.SYS_FAB_PEAK ∧ r.rc = 0x1FF := by
  have h : ∀ a ∈ passRegs, ∀ r ∈ regRow a, r.rc ≠ 0 → a = Ra.SYS_FAB_PEAK ∧ r.rc = 0x1FF := by decide
  exact h

/-- Clearing the low 9 bits of a word undoes a store into them. -/
theorem setBits_and_not_low9 (w : Word) (v : Nat) :
    BitVec.ofNat 32 (setBits w.toNat 0 9 v) &&& ~~~(BitVec.ofNat 32 0x1FF) = w &&& ~~~(BitVec.ofNat 32 0x1FF) := by
  have hm : ∀ i, Nat.testBit 0x1FF i = decide (i < 9) := fun i => Nat.testBit_two_pow_sub_one 9 i
  refine BitVec.eq_of_getLsbD_eq fun i hi => ?_
  rw [BitVec.getLsbD_and, BitVec.getLsbD_and, BitVec.getLsbD_not, BitVec.getLsbD_ofNat, BitVec.getLsbD_ofNat, hm, testBit_setBits]
  by_cases h9 : i < 9
  · simp [h9]
  · simp [h9, hi, BitVec.getLsbD]

/-- What an access leaves in SYS_FAB_PEAK differs from before in the peak's 9 bits alone. -/
theorem accessed_peak (s : State) (init addr : Nat) (write : Bool) (hw : RegStore.wf s.regs = true) :
    ∃ v, (accessed s init addr write).reg Ra.SYS_FAB_PEAK = BitVec.ofNat 32 (setBits (s.reg Ra.SYS_FAB_PEAK).toNat 0 9 v) := by
  obtain ⟨c, n, total, he⟩ : ∃ c n total, accessed s init addr write = fabNote (coreAwake s init) c n total := ⟨_, _, _, rfl⟩
  have haux : ∀ k, Ra.SYS_FAB_PEAK ∉ [(Fd.SYS_FAB_AUX_V k).addr] := fun k => by
    simp only [Fd.SYS_FAB_AUX_V, Ra.SYS_FAB_AUX, Ra.SYS_FAB_PEAK, List.mem_singleton]; omega
  have hw' : RegStore.wf (coreAwake s init).regs = true := by simpa using hw
  rw [he, fabNote]
  generalize hu : ((coreAwake s init).count (Fd.SYS_FAB_AUX_V c)).setFld (Fd.SYS_FAB_AUX_V (4 + c)) _ = u
  have hreg : u.reg Ra.SYS_FAB_PEAK = s.reg Ra.SYS_FAB_PEAK := by
    rw [← hu, setFld_onlyRegs _ (Fd.SYS_FAB_AUX_V (4 + c)) _ _ (haux _), State.count, setFld_onlyRegs _ (Fd.SYS_FAB_AUX_V c) _ _ (haux _)]
    exact onlyRegs_of_regs_eq [] (coreAwake_regs s init) _ (by simp)
  have hwu : RegStore.wf u.regs = true := hu ▸ setFld_wf _ _ _ (setFld_wf _ _ _ hw')
  rw [← hreg]
  exact ⟨_, reg_setReg_same u _ _ hwu⟩

/-- An access counts in no register with RC fields but in those that its read then clears. -/
theorem accessed_reg_and_not_rc {s : State} {init addr a : Nat} {write : Bool} {r : RegRow} (hw : RegStore.wf s.regs = true)
    (hr : regRow a = some r) (hrc : r.rc ≠ 0) :
    (accessed s init addr write).reg a &&& ~~~(BitVec.ofNat 32 r.rc) = s.reg a &&& ~~~(BitVec.ofNat 32 r.rc) := by
  by_cases ha : a ∈ passRegs
  · obtain ⟨rfl, h9⟩ := rc_passRegs a ha r hr hrc
    obtain ⟨v, hv⟩ := accessed_peak s init addr write hw
    rw [hv, h9, setBits_and_not_low9]
  · rw [accessed_onlyRegs s init addr write a ha]

theorem answered_reg_rc {s : State} {init addr a : Nat} {w : Word} {r : RegRow} (hw : RegStore.wf s.regs = true)
    (hr : regRow a = some r) (hrc : r.rc ≠ 0) : (answered s init addr a w).reg a = s.reg a &&& ~~~(BitVec.ofNat 32 r.rc) :=
  (afterRead_reg_rc hr hrc (accessed_wf s init addr false hw)).trans (accessed_reg_and_not_rc hw hr hrc)

/-- Nothing is latched: the read returns what the register shows. -/
theorem readWord_shown {s : State} {init addr a : Nat} {write : Bool} (h : smGet none s.fab.hiLatch (latchKey init a) = none) :
    readWord (accessed s init addr write) init a = shown (accessed s init addr write) a := by
  simp [readWord, h]

/-- The read returns the word latched. -/
theorem readWord_latched {s : State} {init addr a : Nat} {write : Bool} {w : Word} (h : smGet none s.fab.hiLatch (latchKey init a) = some w) :
    readWord (accessed s init addr write) init a = w := by
  simp [readWord, h]

/-! ### W1C bits -/

/-- A row with W1C bits holds no bit that a write stores. -/
def RegRow.w1cAlone (r : RegRow) : Bool := r.w1c == 0 || (r.rw == 0 && r.wo == 0 && r.rwl == 0)

theorem rowsAt_w1cAlone (a : Nat) : (rowsAt a).all RegRow.w1cAlone = true := by
  unfold rowsAt
  split <;> decide

theorem regRow_w1cAlone {a : Nat} {r : RegRow} (hr : regRow a = some r) (hc : r.w1c ≠ 0) : r.rw = 0 ∧ r.wo = 0 ∧ r.rwl = 0 := by
  have h := List.all_eq_true.mp (rowsAt_w1cAlone a) r (List.mem_of_find?_eq_some hr)
  simpa [RegRow.w1cAlone, hc, and_assoc] using h

theorem bit_and (v : Word) (c i : Nat) (hi : i < 32) : bit (v &&& BitVec.ofNat 32 c).toNat i = (bit v.toNat i && bit c i) := by
  simp only [bit_eq_testBit, BitVec.testBit_toNat, BitVec.getLsbD_and, BitVec.getLsbD_ofNat, hi, decide_true, Bool.true_and]

/-- A write of W1C bits clears those written 1 and keeps every other bit, but for OVERRUN. -/
theorem bit_plainWrite_w1c {s : State} {a : Nat} {v : Word} {r : RegRow} (hr : regRow a = some r) (hc : r.w1c ≠ 0)
    (hw : RegStore.wf s.regs = true) {i : Nat} (hi : i < 32) (ho : ¬ (a = Ra.SYS_FAB_ERR_INFO ∧ i = 30)) :
    bit ((plainWrite s a (v &&& BitVec.ofNat 32 r.w1c)).reg a).toNat i = (bit (s.reg a).toNat i && !(bit r.w1c i && bit v.toNat i)) := by
  obtain ⟨hrw, hwo, hrwl⟩ := regRow_w1cAlone hr hc
  have hz : bit 0 i = false := by rw [bit_eq_testBit, Nat.zero_testBit]
  rw [bit_plainWrite hr hw hi ho, bit_and v _ i hi, hrw, hwo, hrwl, hz]
  cases bit r.w1c i <;> cases bit v.toNat i <;> simp

/-- Clearing VALID clears OVERRUN too; else OVERRUN stays (R4). -/
theorem overrun_plainWrite_w1c {s : State} {v : Word} {r : RegRow} (hr : regRow Ra.SYS_FAB_ERR_INFO = some r)
    (hw : RegStore.wf s.regs = true) :
    (plainWrite s Ra.SYS_FAB_ERR_INFO (v &&& BitVec.ofNat 32 r.w1c)).flag Fd.SYS_FAB_ERR_INFO_OVERRUN =
      (s.flag Fd.SYS_FAB_ERR_INFO_OVERRUN && !bit v.toNat 31) := by
  have hbits : ∀ r ∈ regRow Ra.SYS_FAB_ERR_INFO, bit r.w1c 31 = true ∧ bit r.w1c 30 = false ∧
    bit r.rw 30 = false ∧ bit r.wo 30 = false ∧ bit r.rwl 30 = false := by decide
  obtain ⟨h31, h30, hrw, hwo, hrwl⟩ := hbits r hr
  rw [plainWrite_errInfo hr, bit_and v _ 31 (by omega), h31, Bool.and_true]
  cases bit v.toNat 31 with
  | true =>
    have h := fld_setFld_same (s.setReg Ra.SYS_FAB_ERR_INFO (maskedWrite r (rwlOpen s Ra.SYS_FAB_ERR_INFO) (s.reg Ra.SYS_FAB_ERR_INFO)
      (v &&& BitVec.ofNat 32 r.w1c))) Fd.SYS_FAB_ERR_INFO_OVERRUN (b2n false) (setReg_wf s _ _ hw) (by decide)
    simp only [if_true, State.flag, State.setFlag, h]
    simp [b2n]
  | false =>
    simp only [Bool.false_eq_true, if_false, Bool.not_false, Bool.and_true, Fd.SYS_FAB_ERR_INFO_OVERRUN, flag_eq_bit]
    rw [reg_setReg_same s _ _ hw, bit_maskedWrite _ _ _ _ (by omega), h30, hrw, hwo, hrwl]
    simp

/-- The clear of W1C bits: none to clear, another initiator than the Mirror pair in the SAF window (R19), or the write. -/
theorem exec_w1cClear {init : Fin 58} {addr v : Word} {s : State} {r : RegRow} (hr : regRow (canonAddr addr.toNat) = some r) :
    exec (.w1cClear init addr v) s = .next (
      if r.w1c = 0 then s
      else if canonAddr addr.toNat / 0x10000 = 0x4020 ∧ init.val ≠ 0x0C then fabErr s init (canonAddr addr.toNat) 1
      else plainWrite s (canonAddr addr.toNat) (v &&& BitVec.ofNat 32 r.w1c)) := by
  change execW1cClear init addr v s = _
  simp only [execW1cClear, hr]
  split
  · rfl
  · split <;> rfl

/-- Settles O26: a read that the fabric accepts is `answered`, and no row with W1C bits holds a bit that a write stores (`regRow_w1cAlone`). -/
theorem readsAndClears : Obligations.ReadsAndClears := by
  unfold Obligations.ReadsAndClears
  refine ⟨?_, ?_⟩
  · intro init addr size s hc hmay hlo hhi s' b a key part plain
    have he : ∀ size : Fin 3, exec (.lowWordReadLatch init ⟨addr, size⟩) s = .next (fabRead (coreAwake s init) init addr.toNat size) :=
      fun _ => exec_lowWordReadLatch hmay hlo hhi
    refine ⟨fun hclosed => ⟨_, (he size).trans (congrArg _ (fabRead_stalled hclosed)), fabStall_coreAwake s init _⟩, fun hopen => ⟨?_, ?_, ?_⟩⟩
    · exact fun hwin => (he size).trans (congrArg _ (fabRead_outside hopen hwin))
    · intro hwin hal
      refine ⟨_, (he size).trans (congrArg _ (fabRead_misaligned hopen hwin hal)), ?_, rfl, ?_⟩
      · have hfab : (fabErr s' init addr.toNat 2).fab = s.fab := (fabErr_onlyParts s' init _ 2 .fab (by simp)).trans (accessed_fab _ _ _ _)
        exact noteRead_rdata_same _ _ (by rw [hfab]; exact hc.rdata_wf)
      · exact (((accessed_onlyParts s init addr.toNat false).mono (by simp)).trans ((fabErr_onlyParts s' init _ 2).mono (by simp))).trans
          ((noteRead_onlyParts init _).mono (by simp))
    · intro hwin hal hplain
      obtain ⟨hcode, hnonce, hloupe⟩ := hplain
      have hread := fabRead_answered hopen hwin hal hcode hnonce hloupe
      refine ⟨fun hlow hnone hrc => ?_, fun w hsome hlow hrc => ?_, fun hnone hlow hrc => ?_, fun r hr hrc hlow hnone hword => ?_⟩
      · rw [readWord_shown hnone] at hread
        refine ⟨_, (he size).trans (congrArg _ hread), answered_rdata_same hc, ?_, fun j hj => answered_rdata_other hj,
          answered_onlyRegs_of_no_rc hrc, answered_onlyParts _ _ _ _ _⟩
        rw [answered_hiLatch]
        exact latchAfter_high hlow (by simpa using hc.hiLatch_wf)
      · rw [readWord_latched hsome] at hread
        refine ⟨_, (he size).trans (congrArg _ hread), answered_rdata_same hc, ?_, answered_onlyRegs_of_no_rc hrc, answered_onlyParts _ _ _ _ _⟩
        rw [answered_hiLatch]
        exact latchAfter_taken hlow (by simpa using hc.hiLatch_wf)
      · rw [readWord_shown hnone] at hread
        exact ⟨_, (he size).trans (congrArg _ hread), answered_rdata_same hc, answered_onlyRegs_of_no_rc hrc, answered_onlyParts _ _ _ _ _⟩
      · have hb : addr.toNat / 4 * 4 = addr.toNat := by omega
        have hread := fabRead_answered (size := 2) hopen hwin hword hcode hnonce hloupe
        rw [readWord_shown hnone, readPart_word _ hword] at hread
        refine ⟨_, (exec_rcFieldRead (r := r) (by rw [← hb]; exact hr) hrc hmay).trans (congrArg _ hread), answered_rdata_same hc,
          answered_reg_rc hc.regs_wf hr hrc, answered_onlyRegs _ _ _ _ _, answered_onlyParts _ _ _ _ _⟩
  · intro init addr v s r hc a hr
    have he := exec_w1cClear (init := init) (v := v) (s := s) hr
    refine ⟨fun hw1c hsaf hinit => ?_, fun hw1c hmirror => ?_, fun hw1c => ?_⟩
    · rw [he, if_neg hw1c, if_pos ⟨hsaf, hinit⟩]
    · rw [if_neg hw1c, if_neg (fun h => h.2 (hmirror h.1))] at he
      refine ⟨_, he, fun i hi ho => bit_plainWrite_w1c hr hw1c hc.regs_wf hi ho, fun hinfo => ?_, plainWrite_onlyRegs _ _ _, plainWrite_onlyParts _ _ _⟩
      rw [show canonAddr addr.toNat = Ra.SYS_FAB_ERR_INFO from hinfo]
      exact overrun_plainWrite_w1c (hinfo ▸ hr) hc.regs_wf
    · rw [Idle, he, if_pos hw1c]

end Sys2Proof.Machine
end

section
/-! SUPPORT. Fabric errors (R28, R29): what the capture holds, and the writes that reach no register. -/

namespace Sys2Proof.Machine

/-! ### The capture of a fabric error (R29) -/

theorem fabErr_held {s : State} (init addr kind : Nat) (h : s.flag Fd.SYS_FAB_ERR_INFO_VALID = true) :
    fabErr s init addr kind = s.setFlag Fd.SYS_FAB_ERR_INFO_OVERRUN true := if_pos h

/-- What the first error leaves in SYS_FAB_ERR_INFO. -/
def errInfo (init cls kind hi : Nat) : Nat := 2 ^ 31 + init % 64 * 2 ^ 24 + cls % 4 * 2 ^ 22 + kind % 4 * 2 ^ 20 + hi % 256

theorem fabErr_first {s : State} (init addr kind : Nat) (h : s.flag Fd.SYS_FAB_ERR_INFO_VALID = false) :
    fabErr s init addr kind = (s.setReg Ra.SYS_FAB_ERR_ADDR (BitVec.ofNat 32 addr)).setReg Ra.SYS_FAB_ERR_INFO
      (BitVec.ofNat 32 (errInfo init (txnClass s init) kind (addr / 2 ^ 32))) := by
  simp only [fabErr, h, Bool.false_eq_true, if_false, errInfo]

theorem errInfo_fields (init cls kind hi : Nat) :
    errInfo init cls kind hi < 2 ^ 32 ∧ bits (errInfo init cls kind hi) 31 1 = 1 ∧ bits (errInfo init cls kind hi) 30 1 = 0 ∧
      bits (errInfo init cls kind hi) 24 6 = init % 64 ∧ bits (errInfo init cls kind hi) 22 2 = cls % 4 ∧
      bits (errInfo init cls kind hi) 20 2 = kind % 4 := by
  unfold bits errInfo
  omega

theorem fabErr_onlyRegs (s : State) (init addr kind : Nat) : OnlyRegs errRegs s (fabErr s init addr kind) := by
  cases h : s.flag Fd.SYS_FAB_ERR_INFO_VALID with
  | true =>
    rw [fabErr_held _ _ _ h]
    exact setFld_onlyRegs_of_mem s _ _ (by simp [errRegs, Fd.SYS_FAB_ERR_INFO_OVERRUN])
  | false =>
    rw [fabErr_first _ _ _ h]
    exact ((setReg_onlyRegs s _ _).mono (by simp [errRegs])).trans ((setReg_onlyRegs _ _ _).mono (by simp [errRegs]))

theorem fabErr_wf (s : State) (init addr kind : Nat) (hw : RegStore.wf s.regs = true) :
    RegStore.wf (fabErr s init addr kind).regs = true := by
  unfold fabErr
  split
  · exact setFld_wf s _ _ hw
  · exact setReg_wf _ _ _ (setReg_wf s _ _ hw)

/-- After the first error, SYS_FAB_ERR_INFO and SYS_FAB_ERR_ADDR hold what it captured. -/
theorem reg_fabErr_first {s : State} (init addr kind : Nat) (hw : RegStore.wf s.regs = true)
    (h : s.flag Fd.SYS_FAB_ERR_INFO_VALID = false) :
    ((fabErr s init addr kind).reg Ra.SYS_FAB_ERR_INFO).toNat = errInfo init (txnClass s init) kind (addr / 2 ^ 32) ∧
      ((fabErr s init addr kind).reg Ra.SYS_FAB_ERR_ADDR).toNat = addr % 2 ^ 32 := by
  have hlt := (errInfo_fields init (txnClass s init) kind (addr / 2 ^ 32)).1
  rw [fabErr_first _ _ _ h]
  constructor
  · rw [reg_setReg_same _ _ _ (setReg_wf s _ _ hw), BitVec.toNat_ofNat, Nat.mod_eq_of_lt hlt]
  · rw [reg_setReg_other _ _ _ _ (by decide), reg_setReg_same s _ _ hw, BitVec.toNat_ofNat]

/-- A further error sets OVERRUN and keeps the first. -/
theorem fabErr_overrun {s : State} (init addr kind : Nat) (hw : RegStore.wf s.regs = true) (h : s.flag Fd.SYS_FAB_ERR_INFO_VALID = true) :
    let t := fabErr s init addr kind
    t.flag Fd.SYS_FAB_ERR_INFO_OVERRUN = true ∧ t.flag Fd.SYS_FAB_ERR_INFO_VALID = true ∧
      t.fld Fd.SYS_FAB_ERR_INFO_INITIATOR = s.fld Fd.SYS_FAB_ERR_INFO_INITIATOR ∧
      t.fld Fd.SYS_FAB_ERR_INFO_CLASS = s.fld Fd.SYS_FAB_ERR_INFO_CLASS ∧
      t.fld Fd.SYS_FAB_ERR_INFO_KIND = s.fld Fd.SYS_FAB_ERR_INFO_KIND ∧ OnlyRegs [Ra.SYS_FAB_ERR_INFO] s t := by
  have hkeep : ∀ g : Fld, g.addr ≠ Ra.SYS_FAB_ERR_INFO ∨ g.lo + g.width ≤ 30 ∨ 31 ≤ g.lo →
      (s.setFlag Fd.SYS_FAB_ERR_INFO_OVERRUN true).fld g = s.fld g :=
    fun g hg => fld_setFld_other s Fd.SYS_FAB_ERR_INFO_OVERRUN g _ hw (by decide) hg
  rw [fabErr_held _ _ _ h]
  refine ⟨?_, ?_, hkeep _ (by decide), hkeep _ (by decide), hkeep _ (by decide), setFld_onlyRegs s Fd.SYS_FAB_ERR_INFO_OVERRUN _⟩
  · have hset := fld_setFld_same s Fd.SYS_FAB_ERR_INFO_OVERRUN (b2n true) hw (by decide)
    simp only [State.flag, State.setFlag, hset]
    decide
  · rw [State.flag, hkeep _ (by decide)]
    exact h

/-- The first error is held with its address, initiator, class and KIND. -/
theorem fabErr_captures {s : State} (init addr kind : Nat) (hw : RegStore.wf s.regs = true) (hi : init < 64) (hk : kind < 4)
    (h : s.flag Fd.SYS_FAB_ERR_INFO_VALID = false) :
    let t := fabErr s init addr kind
    t.flag Fd.SYS_FAB_ERR_INFO_VALID = true ∧ t.flag Fd.SYS_FAB_ERR_INFO_OVERRUN = false ∧
      (t.reg Ra.SYS_FAB_ERR_ADDR).toNat = addr % 2 ^ 32 ∧ t.fld Fd.SYS_FAB_ERR_INFO_INITIATOR = init ∧
      t.fld Fd.SYS_FAB_ERR_INFO_CLASS = txnClass s init % 4 ∧ t.fld Fd.SYS_FAB_ERR_INFO_KIND = kind := by
  obtain ⟨hinfo, haddr⟩ := reg_fabErr_first init addr kind hw h
  obtain ⟨-, hvalid, hover, hinit, hcls, hkind⟩ := errInfo_fields init (txnClass s init) kind (addr / 2 ^ 32)
  have hfld : ∀ lo n, (fabErr s init addr kind).fld ⟨Ra.SYS_FAB_ERR_INFO, lo, n⟩ = bits (errInfo init (txnClass s init) kind (addr / 2 ^ 32)) lo n :=
    fun lo n => by rw [State.fld, hinfo]
  refine ⟨?_, ?_, haddr, (hfld 24 6).trans (hinit.trans (Nat.mod_eq_of_lt hi)), (hfld 22 2).trans hcls,
    (hfld 20 2).trans (hkind.trans (Nat.mod_eq_of_lt hk))⟩
  · rw [State.flag, Fd.SYS_FAB_ERR_INFO_VALID, hfld, hvalid]
    rfl
  · rw [State.flag, Fd.SYS_FAB_ERR_INFO_OVERRUN, hfld, hover]
    rfl

/-- After any error VALID is set. -/
theorem fabErr_valid (s : State) (init addr kind : Nat) (hw : RegStore.wf s.regs = true) :
    (fabErr s init addr kind).flag Fd.SYS_FAB_ERR_INFO_VALID = true := by
  cases h : s.flag Fd.SYS_FAB_ERR_INFO_VALID with
  | true => exact (fabErr_overrun init addr kind hw h).2.1
  | false =>
    have hfld := (errInfo_fields init (txnClass s init) kind (addr / 2 ^ 32)).2.1
    rw [State.flag, State.fld, Fd.SYS_FAB_ERR_INFO_VALID, (reg_fabErr_first init addr kind hw h).1, hfld]
    rfl

/-! ### Error responses (R28) -/

/-- A value other than the default reads back, whatever the map. -/
theorem smGet_smPut_of_ne {α : Type} [DecidableEq α] {d v : α} (x : α) (m : SMap α) (k : Nat) (hv : v ≠ d) : smGet x (smPut d m k v) k = v := by
  induction m with
  | nil => simp [smPut, hv, smGet]
  | cons e r ih =>
    obtain ⟨k', v'⟩ := e
    simp only [smPut, if_neg hv]
    split
    · simp [smGet]
    · split
      · simp [smGet]
      · next h => simp [smGet, Ne.symm h, ih]

theorem coreAbort_onlyParts (s : State) (init : Nat) : OnlyParts [.fab] s (coreAbort s init) := by
  unfold coreAbort
  split
  · exact setFab_onlyParts s _
  · exact .refl _ s

/-- An application core takes one abort more. -/
theorem coreAbort_aborts {s : State} {init : Nat} (h : init < 4) :
    smGet 0 (coreAbort s init).fab.aborts init = smGet 0 s.fab.aborts init + 1 := by
  rw [coreAbort, if_pos h]
  exact smGet_smPut_of_ne _ _ _ (by omega)

/-- An error response to another initiator than the Mirror pair is captured, and aborts a core. -/
theorem busError_of_ne {s : State} {init : Nat} (addr kind : Nat) (h : init ≠ 0x0C) :
    busError s init addr kind = coreAbort (fabErr s init addr kind) init := if_neg h

theorem busError_onlyParts {s : State} {init : Nat} (addr kind : Nat) (h : init ≠ 0x0C) :
    OnlyParts [.regs, .fab] s (busError s init addr kind) := by
  rw [busError_of_ne addr kind h]
  exact ((fabErr_onlyParts s init addr kind).mono (by simp)).trans ((coreAbort_onlyParts _ init).mono (by simp))

theorem busError_regs {s : State} {init : Nat} (addr kind : Nat) (h : init ≠ 0x0C) :
    (busError s init addr kind).regs = (fabErr s init addr kind).regs := by
  rw [busError_of_ne addr kind h]
  exact coreAbort_onlyParts _ init .regs (by simp)

theorem busError_aborts {s : State} {init : Nat} (addr kind : Nat) (h : init < 4) :
    smGet 0 (busError s init addr kind).fab.aborts init = smGet 0 s.fab.aborts init + 1 := by
  rw [busError_of_ne addr kind (by omega), coreAbort_aborts h, fabErr_onlyParts s init addr kind .fab (by simp)]

/-! ### Writes that reach no register -/

/-- A write that the fabric accepts is performed once the access has counted. -/
theorem exec_registerWrite_accepted {s : State} {init : Fin 58} {addr : BitVec 40} {size : Fin 3} {v : Word}
    (hacc : Accepts s init addr.toNat true) :
    exec (.registerWrite init addr size v) s = .next (busWrite (accessed s init addr.toNat true) init addr.toNat size v) := by
  obtain ⟨hmay, hopen⟩ := hacc
  have ho : fabOpen s { fabTxn s init addr.toNat true with wr := some (size.val, v) } = true := hopen
  change execRegisterWrite init addr size v s = _
  simp only [execRegisterWrite, hmay, if_true, fabWrite, fabTxn_coreAwake, fabOpen_coreAwake, ho, accessed_eq]
  rfl

/-- Inside the register windows' range a write outside every window is a decode error. -/
theorem busWrite_outside {s : State} {init addr size : Nat} {v : Word} (hlo : 0x40000000 ≤ addr) (hhi : addr < 0x41000000)
    (hwin : inWindow addr = false) : busWrite s init addr size v = busError s init addr 0 := by
  simp [busWrite, hlo, hhi, hwin]

/-- A write that is narrower than a word, or misaligned, is recorded with KIND 2. -/
theorem busWrite_misfit {s : State} {init addr size : Nat} {v : Word} (hlo : 0x40000000 ≤ addr) (hhi : addr < 0x41000000)
    (hwin : inWindow addr = true) (hbad : size < 2 ∨ addr % 4 ≠ 0) : busWrite s init addr size v = fabErr s init addr 2 := by
  simp only [busWrite, hlo, hhi, and_self, if_true, hwin, Bool.not_true, Bool.false_eq_true, if_false]
  exact if_pos hbad

/-- A write that the block refuses is recorded with KIND 1. -/
theorem regWrite_barred {s : State} {init addr : Nat} {v : Word} (h : initBarred init (canonAddr addr) = true) :
    regWrite s init addr v = fabErr s init (canonAddr addr) 1 := if_pos h

/-- An accepted access whose only effect is a capture. -/
theorem accessed_fabErr_frame (s : State) (init i addr a kind : Nat) (write : Bool) :
    OnlyRegs (errRegs ++ passRegs) s (fabErr (accessed s init addr write) i a kind) ∧
      OnlyParts [.regs, .pm] s (fabErr (accessed s init addr write) i a kind) :=
  ⟨((accessed_onlyRegs s init addr write).mono (List.subset_append_right _ _)).trans
      ((fabErr_onlyRegs _ i a kind).mono (List.subset_append_left _ _)),
    (accessed_onlyParts s init addr write).trans ((fabErr_onlyParts _ i a kind).mono (by simp))⟩

/-- Settles O25: an accepted write ends in a capture (`busWrite_misfit`, `regWrite_barred`) or an error response (`busWrite_outside`), and the
capture holds the first error (`fabErr_captures`, `fabErr_overrun`). -/
theorem refusedAccesses : Obligations.RefusedAccesses := by
  unfold Obligations.RefusedAccesses
  refine ⟨fun init addr size v s hacc hlo hhi => ⟨fun hwin hbad => ?_, fun hwin hsize hal hbar => ?_, fun hwin => ?_⟩,
    fun init addr kind s hc hi hk ha => ⟨fun hv => fabErr_overrun init addr kind hc.regs_wf hv, fun hv => ?_, fabErr_onlyParts s init addr kind⟩⟩
  · refine ⟨_, exec_registerWrite_accepted hacc, ?_⟩
    rw [busWrite_misfit hlo hhi hwin hbad]
    exact ⟨rfl, accessed_fabErr_frame s init init addr.toNat addr.toNat 2 true⟩
  · subst hsize
    refine ⟨_, exec_registerWrite_word hacc hlo hhi hwin hal, ?_⟩
    rw [regWrite_barred hbar]
    exact ⟨rfl, accessed_fabErr_frame s init init addr.toNat (canonAddr addr.toNat) 1 true⟩
  · have he : exec (.registerWrite init addr size v) s = .next (busError (accessed s init addr.toNat true) init addr.toNat 0) := by
      rw [exec_registerWrite_accepted hacc, busWrite_outside hlo hhi hwin]
    refine ⟨he, fun hne => ⟨_, he, ?_, ?_, ?_, fun hcore => ?_⟩⟩
    · exact fun a => onlyRegs_of_regs_eq [] (busError_regs addr.toNat 0 hne) a (by simp)
    · exact (accessed_fabErr_frame s init init addr.toNat addr.toNat 0 true).1.trans (onlyRegs_of_regs_eq _ (busError_regs addr.toNat 0 hne))
    · exact ((accessed_onlyParts s init addr.toNat true).mono (by simp)).trans ((busError_onlyParts addr.toNat 0 hne).mono (by simp))
    · rw [busError_aborts addr.toNat 0 hcore, accessed_fab]
  · obtain ⟨hvalid, hover, haddr, hinit, hcls, hkind⟩ := fabErr_captures init addr kind hc.regs_wf hi hk hv
    refine ⟨hvalid, hover, haddr, hinit, hcls, hkind, ?_⟩
    rw [fabErr_first _ _ _ hv]
    exact ((setReg_onlyRegs s _ _).mono (by simp)).trans ((setReg_onlyRegs _ _ _).mono (by simp))

end Sys2Proof.Machine
end

section
/-! SUPPORT. The next grant of the memory controller (R24), and the reset state. -/

namespace Sys2Proof.Machine

theorem nextGrant_safety {s : State} {t : FabTxn} (h : rrPick s 0 = some t) : nextGrant s = some t := by
  simp only [nextGrant, h]

theorem nextGrant_control {s : State} {t : FabTxn} (h0 : rrPick s 0 = none) (h1 : rrPick s 1 = some t) : nextGrant s = some t := by
  simp only [nextGrant, h0, h1]

/-- A promoted BULK request that can proceed takes the grant of STREAM. -/
theorem nextGrant_promoted {s : State} {t b : FabTxn} (h0 : rrPick s 0 = none) (h1 : rrPick s 1 = none) (h2 : rrPick s 2 = some t)
    (hb : s.fab.stalled.find? (fun x => x.promoted && fabRoom s x) = some b) : nextGrant s = some b := by
  simp only [nextGrant, h0, h1, h2, hb]

/-- Settles O4. -/
theorem resetCanonical : Obligations.ResetCanonical := reset_canonical

/-- Settles O27, by the order in which `nextGrant` asks the classes. -/
theorem bulkAge : Obligations.BulkAge := by
  unfold Obligations.BulkAge
  refine ⟨fun s t h => ?_, fun s t b h0 h1 h2 hb => nextGrant_promoted h0 h1 h2 hb, fun init s => ⟨_, rfl, rfl, rfl, setFab_onlyParts s _⟩⟩
  obtain h0 | ⟨h0, h1⟩ := h
  · exact nextGrant_safety h0
  · exact nextGrant_control h0 h1

end Sys2Proof.Machine
end

section
/-! SUPPORT. A tick in which only time passes (R10, R44): its counts, and the parts that stay. -/

namespace Sys2Proof.Machine

/-! ### Frames of parts along a chain of updates

Each lemma carries a frame over one update more of a listed part, so that a chain of updates is read off from left to right. -/

section
variable {l : List Part} {s t : State}

protected theorem OnlyParts.ite {u : State} {c : Prop} {inst : Decidable c} (ht : OnlyParts l s t) (hu : OnlyParts l s u) :
    OnlyParts l s (if c then t else u) := by
  split
  · exact ht
  · exact hu

protected theorem OnlyParts.foldl {α : Type} {f : State → α → State} (h : OnlyParts l s t) (hf : ∀ t x, OnlyParts l s t → OnlyParts l s (f t x))
    (xs : List α) : OnlyParts l s (xs.foldl f t) := by
  induction xs generalizing t with
  | nil => exact h
  | cons x xs ih => exact ih (hf t x h)

/-- A state that differs in its registers alone. -/
theorem OnlyParts.of_regs {u : State} (h : OnlyParts l s t) (e : u = { t with regs := u.regs }) (hl : Part.regs ∈ l) : OnlyParts l s u :=
  h.trans ((onlyParts_regs e).mono (by simpa using hl))

protected theorem OnlyParts.setReg {a : Nat} {w : Word} (h : OnlyParts l s t) (hl : Part.regs ∈ l := by simp) : OnlyParts l s (t.setReg a w) :=
  h.of_regs rfl hl

protected theorem OnlyParts.setFld {f : Fld} {v : Nat} (h : OnlyParts l s t) (hl : Part.regs ∈ l := by simp) : OnlyParts l s (t.setFld f v) :=
  h.of_regs rfl hl

protected theorem OnlyParts.setFlag {f : Fld} {b : Bool} (h : OnlyParts l s t) (hl : Part.regs ∈ l := by simp) : OnlyParts l s (t.setFlag f b) :=
  h.of_regs rfl hl

protected theorem OnlyParts.count {f : Fld} {n : Nat} (h : OnlyParts l s t) (hl : Part.regs ∈ l := by simp) : OnlyParts l s (t.count f n) :=
  h.of_regs rfl hl

protected theorem OnlyParts.raise {a k : Nat} (h : OnlyParts l s t) (hl : Part.regs ∈ l := by simp) : OnlyParts l s (t.raise a k) :=
  h.of_regs rfl hl

protected theorem OnlyParts.setTab {x : TabState} (h : OnlyParts l s t) (hl : Part.tab ∈ l := by simp) : OnlyParts l s (t.setTab x) :=
  h.trans ((setTab_onlyParts t x).mono (by simpa using hl))

protected theorem OnlyParts.setFab {x : FabState} (h : OnlyParts l s t) (hl : Part.fab ∈ l := by simp) : OnlyParts l s (t.setFab x) :=
  h.trans ((setFab_onlyParts t x).mono (by simpa using hl))

protected theorem OnlyParts.setEvr {x : EvrState} (h : OnlyParts l s t) (hl : Part.evr ∈ l := by simp) : OnlyParts l s (t.setEvr x) := by
  refine h.trans fun p hp => ?_
  cases p
  case evr => exact absurd hl hp
  all_goals rfl

protected theorem OnlyParts.setClk {x : ClkState} (h : OnlyParts l s t) (hl : Part.clk ∈ l := by simp) : OnlyParts l s (t.setClk x) := by
  refine h.trans fun p hp => ?_
  cases p
  case clk => exact absurd hl hp
  all_goals rfl

protected theorem OnlyParts.setRpl {x : RplState} (h : OnlyParts l s t) (hl : Part.rpl ∈ l := by simp) : OnlyParts l s (t.setRpl x) := by
  refine h.trans fun p hp => ?_
  cases p
  case rpl => exact absurd hl hp
  all_goals rfl

end

/-! ### The event log's records -/

/-- The parts that a record of the event log changes (R493, R510). -/
abbrev logParts : List Part := [.regs, .evr, .tab]

section
variable {s t : State}

/-- A record that is no output changes only the recorder and the registers that show it. -/
protected theorem OnlyParts.tabMark {unit : Nat} {data : List Nat} (h : OnlyParts logParts s t) :
    OnlyParts logParts s (tabRec t TabT.mark unit data) := by
  have hout : ¬ (TabT.mark = TabT.out ∧ t.rpl.loaded = true) := fun e => absurd e.1 (by decide)
  simp only [tabRec, tabRecAt, if_neg hout]
  exact .ite h (.ite h.count.setTab.setFld h)

protected theorem OnlyParts.tabHold {k : Nat} (h : OnlyParts logParts s t) : OnlyParts logParts s (tabHold t k) := by
  unfold Machine.tabHold
  dsimp only
  split
  · exact .ite (.tabMark h.setTab.setFld.setFld.raise) (.tabMark h.setFlag)
  · exact .tabMark h.setFlag

protected theorem OnlyParts.tabWindow (h : OnlyParts logParts s t) : OnlyParts logParts s (tabWindow t) := by
  unfold Machine.tabWindow
  split
  · exact h.count.setFld
  · exact h.setTab.setFld

protected theorem OnlyParts.tabTrigger {code : Nat} (h : OnlyParts logParts s t) : OnlyParts logParts s (tabTrigger t code) := by
  refine h.foldl (fun u k hu => .ite ?_ hu) _
  extract_lets v w
  have hv : OnlyParts logParts s v := hu.raise.tabMark
  have hw : OnlyParts logParts s w := .ite hv.tabHold hv
  exact .ite hw.tabWindow hw

protected theorem OnlyParts.writeRecord {code src d0 d1 : Nat} (h : OnlyParts logParts s t) :
    OnlyParts logParts s (writeRecord t code src d0 d1) :=
  .tabTrigger (.ite h.setEvr.setFld.setFlag.count.setFld h.setEvr.setFld)

protected theorem OnlyParts.stormRoll (h : OnlyParts logParts s t) : OnlyParts logParts s (stormRoll t) :=
  .ite h (.foldl h.setEvr (fun _ _ hu => hu.writeRecord) _)

/-! ### A tick in which only time passes (R10, R44) -/

protected theorem OnlyParts.counterDue (h : OnlyParts logParts s t) : OnlyParts logParts s (counterDue t) := .ite h.setEvr h

protected theorem OnlyParts.stageSecond (h : OnlyParts logParts s t) : OnlyParts logParts s (stageSecond t) := .ite h h.count

protected theorem OnlyParts.secondTick {before : Nat} (h : OnlyParts logParts s t) : OnlyParts logParts s (secondTick t before) := by
  refine .ite h ?_
  extract_lets u v w
  have hv : OnlyParts logParts s v := .ite h.count.count h.count
  have hw : OnlyParts logParts s w := OnlyParts.stageSecond (.setReg (.setReg (.counterDue (.stormRoll hv.setEvr))))
  exact .ite hw.setReg hw

end

theorem secondTick_onlyParts (s : State) (before : Nat) : OnlyParts logParts s (secondTick s before) := (OnlyParts.refl _ s).secondTick

/-- The parts that a tick changes in which only time passes. -/
abbrev timeParts : List Part := [.regs, .clk, .evr, .tab, .rpl]

theorem sfcNext_onlyParts (s : State) : OnlyParts timeParts s (sfcNext s) := by
  have h : OnlyParts timeParts s s := .refl _ s
  exact .setReg (.ite h.setClk.setRpl h.setClk)

/-- The state whose registers `advanceTick` then brings up to date: the counts have advanced. -/
def tickCounts (s : State) : State :=
  addTick (s.setClk { s.clk with
    cyc := s.clk.cyc + tickLen s, dtFp := s.clk.dtFp + ((tickLen s : Int) * 6250 * 2 ^ 32 * (2 ^ 40 + s.clk.k) / (1000 * 2 ^ 40)).toNat,
    phase := nextPhase s.clk.phase }) 1

theorem advanceTick_counts (s : State) : OnlyParts [.regs] (tickCounts s) (advanceTick s) := by
  have h : OnlyParts [.regs] (tickCounts s) (tickCounts s) := .refl _ _
  exact .ite (.ite h.setFlag.setReg.setFlag h.setFlag.setReg) h.setFlag

theorem tickCounts_onlyParts (s : State) : OnlyParts timeParts s (tickCounts s) := by
  have h : OnlyParts timeParts s s := .refl _ s
  exact .ite h.setClk.setRpl.setReg h.setClk.setClk.setReg

/-- The counts of a tick: the DTB count, SFC and, outside REPLAY, the tick index. -/
theorem tickCounts_clk (s : State) : (tickCounts s).clk.cyc = s.clk.cyc + tickLen s ∧ (tickCounts s).clk.sfc = s.clk.sfc ∧
    (s.rpl.live = none → (tickCounts s).clk.tick = s.clk.tick + 1 ∧ (tickCounts s).rpl = s.rpl) := by
  unfold tickCounts addTick
  cases h : s.rpl.live <;> simp [h, showTick]

/-- A frame that begins within the tick changes neither the DTB count nor the tick index. -/
def tickFrame (s : State) : State := if s.liveTick % 200 = 0 then s.setClk { s.clk with frameAt := some s.clk.tick, runCfg := [] } else s

/-- The replayed tick index advances once the checkpoint is loaded. -/
def tickReplay (s : State) : State := if s.rpl.loaded then showReplayTick (s.setClk { s.clk with tick := s.clk.tick + 1 }) else s

theorem tickTime_eq (s : State) : tickTime s = tickFrame (tickReplay (secondTick (advanceTick s) s.cyc)) := rfl

theorem tickFrame_onlyParts (s : State) : OnlyParts timeParts s (tickFrame s) := .ite (OnlyParts.refl _ s).setClk (.refl _ s)

theorem tickReplay_onlyParts (s : State) : OnlyParts timeParts s (tickReplay s) :=
  .ite (OnlyParts.refl _ s).setClk.setReg.setReg (.refl _ s)

theorem tickFrame_clk (s : State) : (tickFrame s).clk.cyc = s.clk.cyc ∧ (tickFrame s).clk.sfc = s.clk.sfc ∧ (tickFrame s).clk.tick = s.clk.tick := by
  unfold tickFrame
  split <;> exact ⟨rfl, rfl, rfl⟩

theorem tickReplay_clk (s : State) : (tickReplay s).clk.cyc = s.clk.cyc ∧ (tickReplay s).clk.sfc = s.clk.sfc ∧
    (s.rpl.loaded = false → (tickReplay s).clk.tick = s.clk.tick) := by
  unfold tickReplay
  split
  · next h => exact ⟨rfl, rfl, fun e => absurd (h.symm.trans e) (by decide)⟩
  · exact ⟨rfl, rfl, fun _ => rfl⟩

theorem tickTime_onlyParts (s : State) : OnlyParts timeParts s (tickTime s) := by
  rw [tickTime_eq]
  exact ((((tickCounts_onlyParts s).trans ((advanceTick_counts s).mono (by simp))).trans ((secondTick_onlyParts _ _).mono (by simp))).trans
    (tickReplay_onlyParts _)).trans (tickFrame_onlyParts _)

theorem tickTime_clk (s : State) : (tickTime s).clk.cyc = s.clk.cyc + tickLen s ∧ (tickTime s).clk.sfc = s.clk.sfc ∧
    (s.rpl.live = none → s.rpl.loaded = false → (tickTime s).clk.tick = s.clk.tick + 1) := by
  obtain ⟨hcyc, hsfc, htick⟩ := tickCounts_clk s
  have hclk : (secondTick (advanceTick s) s.cyc).clk = (tickCounts s).clk :=
    (secondTick_onlyParts _ _ .clk (by simp)).trans (advanceTick_counts s .clk (by simp))
  have hrpl : (secondTick (advanceTick s) s.cyc).rpl = (tickCounts s).rpl :=
    (secondTick_onlyParts _ _ .rpl (by simp)).trans (advanceTick_counts s .rpl (by simp))
  obtain ⟨hcyc', hsfc', htick'⟩ := tickFrame_clk (tickReplay (secondTick (advanceTick s) s.cyc))
  obtain ⟨hcyc'', hsfc'', htick''⟩ := tickReplay_clk (secondTick (advanceTick s) s.cyc)
  rw [tickTime_eq]
  refine ⟨by rw [hcyc', hcyc'', hclk, hcyc], by rw [hsfc', hsfc'', hclk, hsfc], fun hlive hloaded => ?_⟩
  obtain ⟨ht, hr⟩ := htick hlive
  rw [htick', htick'' (by rw [hrpl, hr, hloaded]), hclk, ht]

/-! ### The frame that a tick finds waiting -/

/-- A tick of a module held in reset counts the frame that waits (R126). -/
def frameCounted (s : State) : State := if s.framePend then sfcNext s else s

theorem frameCounted_onlyParts (s : State) : OnlyParts timeParts s (frameCounted s) := .ite (sfcNext_onlyParts s) (.refl _ s)

/-- The frame's count touches nothing that the length of the next tick depends on. -/
theorem frameCounted_keeps (s : State) : tickLen (frameCounted s) = tickLen s ∧ (frameCounted s).clk.cyc = s.clk.cyc ∧
    (frameCounted s).clk.tick = s.clk.tick ∧ (frameCounted s).rpl.live = s.rpl.live ∧ (frameCounted s).rpl.loaded = s.rpl.loaded ∧
    (frameCounted s).clk.sfc = if s.framePend then (s.clk.sfc + 1) % 2 ^ 32 else s.clk.sfc := by
  unfold frameCounted
  split
  · unfold sfcNext
    cases h : s.rpl.loaded <;> simp [h, tickLen, State.liveTick]
  · simp

theorem tickIdle_onlyParts (s : State) : OnlyParts timeParts s (tickIdle s) := (frameCounted_onlyParts s).trans (tickTime_onlyParts _)

theorem pfTick_of_none {s : State} (h : s.pm.pf = none) : pfTick s = s := by simp only [pfTick, h]

/-- Settles O22, by the frames of `frameCounted` and `tickTime`. -/
theorem tickBoundary : Obligations.TickBoundary := by
  unfold Obligations.TickBoundary
  intro si lat gnss meas s
  have hidle : s.powered = true → s.held = true ∨ (s.mode = Mode.boot ∧ s.bootStep < 2) →
      exec (.tick si lat gnss meas) s = .next (pfTick (tickIdle s)) := fun hp hheld => by
    have hc : (s.held || (s.mode == Mode.boot && decide (s.bootStep < 2))) = true := by simpa using hheld
    change execTick si lat gnss meas s = _
    simp only [execTick, hp, hc, Bool.not_true, Bool.false_eq_true, if_false, if_true]
  refine ⟨fun hoff => ?_, fun hp hheld hpf => ⟨_, hidle hp hheld, ?_⟩, hidle, fun hp hheld hboot => ?_⟩
  · change execTick si lat gnss meas s = _
    simp [execTick, hoff]
  · have hpf' : (tickIdle s).pm.pf = none := (congrArg PmState.pf (tickIdle_onlyParts s .pm (by simp))).trans hpf
    obtain ⟨hlen, hcyc, htick, hlive, hloaded, hsfc⟩ := frameCounted_keeps s
    obtain ⟨hcyc', hsfc', htick'⟩ := tickTime_clk (frameCounted s)
    rw [pfTick_of_none hpf']
    refine ⟨hcyc'.trans ?_, hsfc'.trans hsfc, fun h1 h2 => (htick' (hlive.trans h1) (hloaded.trans h2)).trans ?_, tickIdle_onlyParts s⟩
    · rw [hcyc, hlen]; rfl
    · rw [htick]
  · have hc : (s.held || (s.mode == Mode.boot && decide (s.bootStep < 2))) = false := by simpa [hheld] using hboot
    change execTick si lat gnss meas s = _
    simp only [execTick, hp, hc, Bool.not_true, Bool.false_eq_true, if_false]

end Sys2Proof.Machine
end
section
/-! SUPPORT. The canonical form of the state part by part, what every update keeps of it, and the updates of whole parts. -/

namespace Sys2Proof.Machine

/-! ### Sparse maps: updates that keep the canonical form -/

/-- A lower bound that lies no higher keeps the keys above it. -/
theorem smWfAbove_weaken {α : Type} [DecidableEq α] {d : Nat → α} {m : SMap α} {b c : Option Nat} (h : smWfAbove d b m = true)
    (hbc : ∀ x, c = some x → ∃ y, b = some y ∧ x ≤ y) : smWfAbove d c m = true := by
  cases m with
  | nil => rfl
  | cons e r =>
    obtain ⟨k, v⟩ := e
    simp only [smWfAbove, Bool.and_eq_true] at h ⊢
    refine ⟨⟨?_, h.1.2⟩, h.2⟩
    cases c with
    | none => rfl
    | some x =>
      obtain ⟨y, rfl, hxy⟩ := hbc x rfl
      have hy : y < k := by simpa using h.1.1
      exact decide_eq_true (by omega)

/-- A map whose first entry is dropped. -/
theorem smWfAbove_tail {α : Type} [DecidableEq α] {d : Nat → α} {m : SMap α} {b : Option Nat} {k : Nat} {v : α}
    (h : smWfAbove d b ((k, v) :: m) = true) : smWfAbove d b m = true := by
  simp only [smWfAbove, Bool.and_eq_true] at h
  obtain ⟨⟨hb, -⟩, hm⟩ := h
  refine smWfAbove_weaken hm fun x hx => ⟨k, rfl, ?_⟩
  subst hx
  exact le_of_lt (by simpa using hb)

/-- Mapping every listed value keeps the canonical form. -/
theorem smWf_mapVals {α : Type} [DecidableEq α] (d : α) (f : Nat → α → α) {m : SMap α} (h : smWf (fun _ => d) m = true) :
    smWf (fun _ => d) (smMapVals d f m) = true := by
  have hb : ∀ b, smWfAbove (fun _ => d) b m = true → smWfAbove (fun _ => d) b (smMapVals d f m) = true := by
    clear h
    induction m with
    | nil => exact fun _ h => h
    | cons e r ih =>
      obtain ⟨k, v⟩ := e
      intro b h
      unfold smMapVals
      split
      · exact ih b (smWfAbove_tail h)
      · next hne =>
        simp only [smWfAbove, Bool.and_eq_true, decide_eq_true_eq] at h ⊢
        exact ⟨⟨h.1.1, hne⟩, ih _ h.2⟩
  exact hb none h

/-- Dropping entries keeps the canonical form. -/
theorem smWf_filter {α : Type} [DecidableEq α] {d : Nat → α} (p : Nat × α → Bool) {m : SMap α} (h : smWf d m = true) :
    smWf d (m.filter p) = true := by
  have hb : ∀ b, smWfAbove d b m = true → smWfAbove d b (m.filter p) = true := by
    clear h
    induction m with
    | nil => exact fun _ h => h
    | cons e r ih =>
      obtain ⟨k, v⟩ := e
      intro b h
      rw [List.filter_cons]
      split
      · simp only [smWfAbove, Bool.and_eq_true] at h ⊢
        exact ⟨h.1, ih _ h.2⟩
      · exact ih b (smWfAbove_tail h)
  exact hb none h

/-- A listed value of a canonical map, or the default. -/
theorem smGet_mem {α : Type} (d : α) (m : SMap α) (k : Nat) : smGet d m k = d ∨ ∃ x ∈ m, x.2 = smGet d m k := by
  induction m with
  | nil => exact .inl rfl
  | cons e r ih =>
    obtain ⟨k', v⟩ := e
    unfold smGet
    split
    · exact .inr ⟨(k', v), by simp, rfl⟩
    · obtain h | ⟨x, hx, he⟩ := ih
      · exact .inl h
      · exact .inr ⟨x, by simp [hx], he⟩

/-- The entries of a map after a write are those before it and the one written. -/
theorem mem_smPut {α : Type} [DecidableEq α] {d : α} {m : SMap α} {k : Nat} {v : α} {x : Nat × α} (h : x ∈ smPut d m k v) :
    x ∈ m ∨ x = (k, v) := by
  induction m with
  | nil =>
    unfold smPut at h
    split at h <;> simp_all
  | cons e r ih =>
    obtain ⟨k', v'⟩ := e
    unfold smPut at h
    split at h
    · split at h
      · exact .inl h
      · simpa [or_comm] using h
    · split at h
      · split at h
        · exact .inl (by simp [h])
        · obtain h | h := List.mem_cons.mp h
          · exact .inr h
          · exact .inl (by simp [h])
      · obtain h | h := List.mem_cons.mp h
        · exact .inl (by simp [h])
        · exact (ih h).imp_left fun h => by simp [h]

/-- The entries of a mapped map are images of its entries. -/
theorem mem_smMapVals {α : Type} [DecidableEq α] {d : α} {f : Nat → α → α} {m : SMap α} {x : Nat × α} (h : x ∈ smMapVals d f m) :
    ∃ v, (x.1, v) ∈ m ∧ x.2 = f x.1 v := by
  induction m with
  | nil => simp [smMapVals] at h
  | cons e r ih =>
    obtain ⟨k, v⟩ := e
    have hr : x ∈ smMapVals d f r → ∃ w, (x.1, w) ∈ (k, v) :: r ∧ x.2 = f x.1 w := fun h =>
      (ih h).imp fun w hw => ⟨by simp [hw.1], hw.2⟩
    unfold smMapVals at h
    split at h
    · exact hr h
    · obtain rfl | h := List.mem_cons.mp h
      · exact ⟨v, by simp, rfl⟩
      · exact hr h

/-- Writing a list of entries keeps the canonical form. -/
theorem smWf_foldl_smPut {α β : Type} [DecidableEq α] {d : Nat → α} {k : β → Nat} {v e : β → α} (l : List β) {m : SMap α}
    (hd : ∀ x ∈ l, d (k x) = e x) (h : smWf d m = true) : smWf d (l.foldl (fun m x => smPut (e x) m (k x) (v x)) m) = true := by
  induction l generalizing m with
  | nil => exact h
  | cons x l ih =>
    have hx := hd x (by simp)
    exact ih (fun y hy => hd y (by simp [hy])) (by simpa only [hx] using smWf_smPut d m (k x) (v x) h)

/-- Replacing the part of a map with keys inside a set keeps the canonical form, whatever the new part. -/
theorem smWf_smSwap {α : Type} [DecidableEq α] (d : Nat → α) (inside : Nat → Bool) {old : SMap α} (new : SMap α) (h : smWf d old = true) :
    smWf d (smSwap d inside old new) = true :=
  smWf_foldl_smPut _ (fun _ _ => rfl) (smWf_filter _ h)

/-! ### The parts of the canonical form -/

/-- What is kept of a state of the replay boundary is in canonical form. -/
def Bnd.wf (b : Bnd) : Prop := smWf (fun _ => {}) b.pub = true ∧ vlvMapsWf b.vlv = true

/-- `State.canonical`, one part by name each. -/
structure State.Canon (s : State) : Prop where
  mem : Memory.wf s.mem = true
  regs : RegStore.wf s.regs = true
  hiLatch : smWf (fun _ => none) s.fab.hiLatch = true
  rdata : smWf (fun _ => 0) s.fab.rdata = true
  sites : smWf (fun _ => {}) s.pm.sites = true
  lswCh : smWf (fun _ => {}) s.lsw.ch = true
  sess : smWf (fun _ => {}) s.vhp.sess = true
  dmaCh : smWf (fun _ => {}) s.dma.ch = true
  postCyc : smWf (fun _ => none) s.dma.postCyc = true
  tmoCyc : smWf (fun _ => none) s.dma.tmoCyc = true
  mbr : smWf (fun _ => {}) s.flr.mbr = true
  unit : smWf (fun _ => {}) s.uin.unit = true
  cam : smWf (fun _ => {}) s.cam.cam = true
  pair : smWf (fun _ => {}) s.cam.pair = true
  cur : ∀ x ∈ s.cam.cam, smWf (fun _ => none) x.2.cur = true
  scan : smWf (fun _ => none) s.fus.scan = true
  scanOff : smWf (fun _ => none) s.fus.scanOff = true
  ctl : smWf (fun _ => {}) s.can.ctl = true
  pub : smWf (fun _ => {}) s.pub = true
  vlv : vlvMapsWf s.vlv = true
  ckpts : ∀ c ∈ s.rpl.ckpts, c.bnd.wf
  live : ∀ b ∈ s.rpl.live, b.wf

theorem canonical_iff_canon (s : State) : s.canonical ↔ s.Canon := by
  simp only [State.canonical, State.liveMapsWf, State.bndMapsWf, Bool.and_eq_true, List.all_eq_true, Option.all_eq_true]
  constructor
  · rintro ⟨hmem, hregs, h, ⟨⟨hpub, hvlv⟩, hckpts⟩, hlive⟩
    simp only [and_assoc] at h
    obtain ⟨h1, h2, h3, h4, h5, h6, h7, h8, h9, h10, h11, h12, h13, h14, h15, h16⟩ := h
    exact ⟨hmem, hregs, h1, h2, h3, h4, h5, h6, h7, h8, h9, h10, h11, h12, h13, h14, h15, h16, hpub, hvlv, hckpts, hlive⟩
  · rintro ⟨hmem, hregs, h1, h2, h3, h4, h5, h6, h7, h8, h9, h10, h11, h12, h13, h14, h15, h16, hpub, hvlv, hckpts, hlive⟩
    refine ⟨hmem, hregs, ?_, ⟨⟨hpub, hvlv⟩, hckpts⟩, hlive⟩
    simp only [and_assoc]
    exact ⟨h1, h2, h3, h4, h5, h6, h7, h8, h9, h10, h11, h12, h13, h14, h15, h16⟩

/-! ### What every update keeps -/

/-- From `s` to `t` the canonical form is kept, and the queue of waiting commands is the same. -/
structure Keeps (s t : State) : Prop where
  canon : s.Canon → t.Canon
  pending : t.pending = s.pending

/-- The command completes, and keeps what `Keeps` says. -/
def Answers (s : State) (o : Out) : Prop := ∃ t, o = .next t ∧ Keeps s t

section
variable {s t u : State}

theorem Keeps.refl (s : State) : Keeps s s := ⟨id, rfl⟩

/-- Names the state reached for the rest of a proof, where it is read more than once. -/
theorem Keeps.use {p : Prop} (h : Keeps s t) (f : Keeps s t → p) : p := f h

protected theorem Keeps.ite {c : Prop} {inst : Decidable c} (ht : Keeps s t) (hu : Keeps s u) : Keeps s (if c then t else u) := by
  split
  · exact ht
  · exact hu

protected theorem Keeps.foldl {α : Type} {f : State → α → State} {l : List α} (h : Keeps s t) (hf : ∀ t x, Keeps s t → Keeps s (f t x)) :
    Keeps s (l.foldl f t) := by
  induction l generalizing t with
  | nil => exact h
  | cons x l ih => exact ih (hf t x h)

protected theorem Keeps.forN {f : State → Nat → State} {n : Nat} (h : Keeps s t) (hf : ∀ t k, Keeps s t → Keeps s (f t k)) :
    Keeps s (t.forN n f) := h.foldl hf

protected theorem Keeps.next (h : Keeps s t) : Answers s (.next t) := ⟨t, rfl, h⟩

protected theorem Answers.next (h : Keeps s t) : Answers s (.next t) := ⟨t, rfl, h⟩

protected theorem Answers.ite {c : Prop} {inst : Decidable c} {o o' : Out} (h : Answers s o) (h' : Answers s o') :
    Answers s (if c then o else o') := by
  split
  · exact h
  · exact h'

/-- `Keeps.use` for what a command answers. -/
theorem Answers.use {p : Prop} (h : Keeps s t) (f : Keeps s t → p) : p := f h

/-! ### Parts outside the canonical form -/

protected theorem Keeps.setClk {x : ClkState} (h : Keeps s t) : Keeps s (t.setClk x) := ⟨fun hc => { h.canon hc with }, h.pending⟩
protected theorem Keeps.setGw {x : GwState} (h : Keeps s t) : Keeps s (t.setGw x) := ⟨fun hc => { h.canon hc with }, h.pending⟩
protected theorem Keeps.setCe {x : CeState} (h : Keeps s t) : Keeps s (t.setCe x) := ⟨fun hc => { h.canon hc with }, h.pending⟩
protected theorem Keeps.setGov {x : GovState} (h : Keeps s t) : Keeps s (t.setGov x) := ⟨fun hc => { h.canon hc with }, h.pending⟩
protected theorem Keeps.setMfp {x : MfpState} (h : Keeps s t) : Keeps s (t.setMfp x) := ⟨fun hc => { h.canon hc with }, h.pending⟩
protected theorem Keeps.setYld {x : YldState} (h : Keeps s t) : Keeps s (t.setYld x) := ⟨fun hc => { h.canon hc with }, h.pending⟩
protected theorem Keeps.setGns {x : GnsState} (h : Keeps s t) : Keeps s (t.setGns x) := ⟨fun hc => { h.canon hc with }, h.pending⟩
protected theorem Keeps.setSteer {x : SteerState} (h : Keeps s t) : Keeps s (t.setSteer x) := ⟨fun hc => { h.canon hc with }, h.pending⟩
protected theorem Keeps.setEth {x : EthState} (h : Keeps s t) : Keeps s (t.setEth x) := ⟨fun hc => { h.canon hc with }, h.pending⟩
protected theorem Keeps.setSaf {x : SafState} (h : Keeps s t) : Keeps s (t.setSaf x) := ⟨fun hc => { h.canon hc with }, h.pending⟩
protected theorem Keeps.setDsp {x : DspState} (h : Keeps s t) : Keeps s (t.setDsp x) := ⟨fun hc => { h.canon hc with }, h.pending⟩
protected theorem Keeps.setBst {x : BstState} (h : Keeps s t) : Keeps s (t.setBst x) := ⟨fun hc => { h.canon hc with }, h.pending⟩
protected theorem Keeps.setEvr {x : EvrState} (h : Keeps s t) : Keeps s (t.setEvr x) := ⟨fun hc => { h.canon hc with }, h.pending⟩
protected theorem Keeps.setTab {x : TabState} (h : Keeps s t) : Keeps s (t.setTab x) := ⟨fun hc => { h.canon hc with }, h.pending⟩
protected theorem Keeps.setUpd {x : UpdState} (h : Keeps s t) : Keeps s (t.setUpd x) := ⟨fun hc => { h.canon hc with }, h.pending⟩
protected theorem Keeps.setStaged {x : List Staged} (h : Keeps s t) : Keeps s { t with stage := x } := ⟨fun hc => { h.canon hc with }, h.pending⟩
protected theorem Keeps.setFreeCtr {n : Nat} (h : Keeps s t) : Keeps s { t with freeCtr := n } := ⟨fun hc => { h.canon hc with }, h.pending⟩

/-! ### Parts with maps in canonical form: the maps as before -/

protected theorem Keeps.setFab {x : FabState} (h : Keeps s t)
    (hx : ∀ y, t.fab = y → x.hiLatch = y.hiLatch ∧ x.rdata = y.rdata := by intro y e; rw [e]; exact ⟨rfl, rfl⟩) :
    Keeps s (t.setFab x) :=
  have ⟨h₁, h₂⟩ := hx _ rfl
  ⟨fun hc => have c := h.canon hc; { c with hiLatch := h₁ ▸ c.hiLatch, rdata := h₂ ▸ c.rdata }, h.pending⟩

protected theorem Keeps.setPm {x : PmState} (h : Keeps s t)
    (hx : ∀ y, t.pm = y → x.sites = y.sites := by intro y e; rw [e]) :
    Keeps s (t.setPm x) :=
  ⟨fun hc => have c := h.canon hc; { c with sites := hx _ rfl ▸ c.sites }, h.pending⟩

protected theorem Keeps.setLsw {x : LswState} (h : Keeps s t)
    (hx : ∀ y, t.lsw = y → x.ch = y.ch := by intro y e; rw [e]) :
    Keeps s (t.setLsw x) :=
  ⟨fun hc => have c := h.canon hc; { c with lswCh := hx _ rfl ▸ c.lswCh }, h.pending⟩

protected theorem Keeps.setVhp {x : VhpState} (h : Keeps s t)
    (hx : ∀ y, t.vhp = y → x.sess = y.sess := by intro y e; rw [e]) :
    Keeps s (t.setVhp x) :=
  ⟨fun hc => have c := h.canon hc; { c with sess := hx _ rfl ▸ c.sess }, h.pending⟩

protected theorem Keeps.setDma {x : DmaState} (h : Keeps s t)
    (hx : ∀ y, t.dma = y → x.ch = y.ch ∧ x.postCyc = y.postCyc ∧ x.tmoCyc = y.tmoCyc := by intro y e; rw [e]; exact ⟨rfl, rfl, rfl⟩) :
    Keeps s (t.setDma x) :=
  have ⟨h₁, h₂, h₃⟩ := hx _ rfl
  ⟨fun hc => have c := h.canon hc; { c with dmaCh := h₁ ▸ c.dmaCh, postCyc := h₂ ▸ c.postCyc, tmoCyc := h₃ ▸ c.tmoCyc }, h.pending⟩

protected theorem Keeps.setFlr {x : FlrState} (h : Keeps s t)
    (hx : ∀ y, t.flr = y → x.mbr = y.mbr := by intro y e; rw [e]) :
    Keeps s (t.setFlr x) :=
  ⟨fun hc => have c := h.canon hc; { c with mbr := hx _ rfl ▸ c.mbr }, h.pending⟩

protected theorem Keeps.setUin {x : UinState} (h : Keeps s t)
    (hx : ∀ y, t.uin = y → x.unit = y.unit := by intro y e; rw [e]) :
    Keeps s (t.setUin x) :=
  ⟨fun hc => have c := h.canon hc; { c with unit := hx _ rfl ▸ c.unit }, h.pending⟩

protected theorem Keeps.setCam {x : CamState} (h : Keeps s t)
    (hx : ∀ y, t.cam = y → x.cam = y.cam ∧ x.pair = y.pair := by intro y e; rw [e]; exact ⟨rfl, rfl⟩) :
    Keeps s (t.setCam x) :=
  have ⟨h₁, h₂⟩ := hx _ rfl
  ⟨fun hc => have c := h.canon hc; { c with cam := h₁ ▸ c.cam, pair := h₂ ▸ c.pair, cur := h₁ ▸ c.cur }, h.pending⟩

protected theorem Keeps.setFus {x : FusState} (h : Keeps s t)
    (hx : ∀ y, t.fus = y → x.scan = y.scan ∧ x.scanOff = y.scanOff := by intro y e; rw [e]; exact ⟨rfl, rfl⟩) :
    Keeps s (t.setFus x) :=
  have ⟨h₁, h₂⟩ := hx _ rfl
  ⟨fun hc => have c := h.canon hc; { c with scan := h₁ ▸ c.scan, scanOff := h₂ ▸ c.scanOff }, h.pending⟩

protected theorem Keeps.setCan {x : CanState} (h : Keeps s t)
    (hx : ∀ y, t.can = y → x.ctl = y.ctl := by intro y e; rw [e]) :
    Keeps s (t.setCan x) :=
  ⟨fun hc => have c := h.canon hc; { c with ctl := hx _ rfl ▸ c.ctl }, h.pending⟩

protected theorem Keeps.setRpl {x : RplState} (h : Keeps s t)
    (hx : ∀ y, t.rpl = y → x.ckpts = y.ckpts ∧ x.live = y.live := by intro y e; rw [e]; exact ⟨rfl, rfl⟩) :
    Keeps s (t.setRpl x) :=
  have ⟨h₁, h₂⟩ := hx _ rfl
  ⟨fun hc => have c := h.canon hc; { c with ckpts := h₁ ▸ c.ckpts, live := h₂ ▸ c.live }, h.pending⟩

/-- The valve drive's maps stay in canonical form. -/
protected theorem Keeps.setVlvMaps {x : VlvState} (h : Keeps s t) (hx : vlvMapsWf t.vlv = true → vlvMapsWf x = true) : Keeps s (t.setVlv x) :=
  ⟨fun hc => have c := h.canon hc; { c with vlv := hx c.vlv }, h.pending⟩

protected theorem Keeps.setVlv {x : VlvState} (h : Keeps s t)
    (hx : ∀ y, t.vlv = y → x.ctx = y.ctx ∧ x.ch = y.ch ∧ x.bank = y.bank ∧ x.active = y.active := by intro y e; rw [e]; exact ⟨rfl, rfl, rfl,
        rfl⟩) :
    Keeps s (t.setVlv x) :=
  have ⟨h₁, h₂, h₃, h₄⟩ := hx _ rfl
  h.setVlvMaps fun hv => by simpa only [vlvMapsWf, h₁, h₂, h₃, h₄] using hv

/-! ### One entry of a map -/

protected theorem Keeps.setReg {a : Nat} {w : Word} (h : Keeps s t) : Keeps s (t.setReg a w) :=
  ⟨fun hc => have c := h.canon hc; { c with regs := setReg_wf t a w c.regs }, h.pending⟩

protected theorem Keeps.setByte {a : Nat} {b : Byte} (h : Keeps s t) : Keeps s (t.setByte a b) :=
  ⟨fun hc => have c := h.canon hc; { c with mem := setByte_wf t a b c.mem }, h.pending⟩

protected theorem Keeps.setPub {k : Nat} {v : PubV} (h : Keeps s t) : Keeps s (t.setPub k v) :=
  ⟨fun hc => have c := h.canon hc; { c with pub := smWf_smPut (fun _ => {}) _ k v c.pub }, h.pending⟩

protected theorem Keeps.setDch {n : Nat} {x : DmaCh} (h : Keeps s t) : Keeps s (t.setDch n x) :=
  Keeps.setReg ⟨fun hc => have c := h.canon hc; { c with dmaCh := smWf_smPut (fun _ => {}) _ n x c.dmaCh }, h.pending⟩

/-- The message timers of endpoints. -/
protected theorem Keeps.setTmo {e : Nat} {x : Option Nat} (h : Keeps s t) :
    Keeps s (t.setDma { t.dma with tmoCyc := smPut none t.dma.tmoCyc e x }) :=
  ⟨fun hc => have c := h.canon hc; { c with tmoCyc := smWf_smPut (fun _ => none) _ e x c.tmoCyc }, h.pending⟩

protected theorem Keeps.setPostTmo {e : Nat} {x y : Option Nat} (h : Keeps s t) :
    Keeps s (t.setDma { t.dma with postCyc := smPut none t.dma.postCyc e x, tmoCyc := smPut none t.dma.tmoCyc e y }) :=
  ⟨fun hc => have c := h.canon hc; { c with
    postCyc := smWf_smPut (fun _ => none) _ e x c.postCyc, tmoCyc := smWf_smPut (fun _ => none) _ e y c.tmoCyc }, h.pending⟩

end

end Sys2Proof.Machine

end

section
/-! SUPPORT. Updates of one entry of a unit's map keep the canonical form. -/

namespace Sys2Proof.Machine

section
variable {s t u : State}

/-! ### The units' maps, entry by entry -/

protected theorem Keeps.setVch {n : Nat} {x : VlvCh} (h : Keeps s t) : Keeps s (t.setVch n x) := h.setVlvMaps fun hv => by
  simp only [vlvMapsWf, Bool.and_eq_true] at hv ⊢
  exact ⟨⟨⟨smWf_smPut (fun _ => {}) _ n x hv.1.1.1, hv.1.1.2⟩, hv.1.2⟩, hv.2⟩

protected theorem Keeps.setFctx {n : Nat} {x : FacetCtx} (h : Keeps s t) : Keeps s (t.setFctx n x) := h.setVlvMaps fun hv => by
  simp only [vlvMapsWf, Bool.and_eq_true] at hv ⊢
  exact ⟨⟨⟨hv.1.1.1, smWf_smPut (fun _ => {}) _ n x hv.1.1.2⟩, hv.1.2⟩, hv.2⟩

protected theorem Keeps.setVbank {b : Nat} {x : VlvBank} (h : Keeps s t) : Keeps s (t.setVbank b x) := h.setVlvMaps fun hv => by
  simp only [vlvMapsWf, Bool.and_eq_true] at hv ⊢
  exact ⟨⟨hv.1.1, smWf_smPut (fun _ => {}) _ b x hv.1.2⟩, hv.2⟩

/-- The active code of the banks. -/
protected theorem Keeps.setActive {x : SMap Word} (h : Keeps s t) (hx : smWf (fun _ => 0) t.vlv.active = true → smWf (fun _ => 0) x = true) :
    Keeps s (t.setVlv { t.vlv with active := x }) := h.setVlvMaps fun hv => by
  simp only [vlvMapsWf, Bool.and_eq_true] at hv ⊢
  exact ⟨hv.1, hx hv.2⟩

protected theorem Keeps.setLch {n : Nat} {x : LswCh} (h : Keeps s t) : Keeps s (t.setLch n x) :=
  ⟨fun hc => have c := h.canon hc; { c with lswCh := smWf_smPut (fun _ => {}) _ n x c.lswCh }, h.pending⟩

protected theorem Keeps.setVs {i : Nat} {x : VhpSess} (h : Keeps s t) : Keeps s (t.setVs i x) :=
  ⟨fun hc => have c := h.canon hc; { c with sess := smWf_smPut (fun _ => {}) _ i x c.sess }, h.pending⟩

protected theorem Keeps.setMbr {m : Nat} {x : Mbr} (h : Keeps s t) : Keeps s (t.setMbr m x) :=
  ⟨fun hc => have c := h.canon hc; { c with mbr := smWf_smPut (fun _ => {}) _ m x c.mbr }, h.pending⟩

protected theorem Keeps.setSnU {u : Nat} {x : UinSt} (h : Keeps s t) : Keeps s (t.setSnU u x) :=
  ⟨fun hc => have c := h.canon hc; { c with unit := smWf_smPut (fun _ => {}) _ u x c.unit }, h.pending⟩

protected theorem Keeps.setCanC {n : Nat} {x : CanSt} (h : Keeps s t) : Keeps s (t.setCanC n x) :=
  ⟨fun hc => have c := h.canon hc; { c with ctl := smWf_smPut (fun _ => {}) _ n x c.ctl }, h.pending⟩

protected theorem Keeps.setPairSt {p : Nat} {x : PairSt} (h : Keeps s t) : Keeps s (t.setPairSt p x) :=
  ⟨fun hc => have c := h.canon hc; { c with pair := smWf_smPut (fun _ => {}) _ p x c.pair }, h.pending⟩

/-- A temperature site. -/
protected theorem Keeps.setSite {k : Nat} {x : SiteSt} (h : Keeps s t) : Keeps s (t.setPm { t.pm with sites := smPut {} t.pm.sites k x }) :=
  ⟨fun hc => have c := h.canon hc; { c with sites := smWf_smPut (fun _ => {}) _ k x c.sites }, h.pending⟩

/-- The frames in progress of a camera link are in canonical form. -/
theorem State.Canon.camSt_cur (h : s.Canon) (n : Nat) : smWf (fun _ => none) (s.camSt n).cur = true := by
  obtain he | ⟨x, hx, he⟩ := smGet_mem ({} : CamSt) s.cam.cam n
  · rw [State.camSt, he]; rfl
  · rw [State.camSt, ← he]; exact h.cur x hx

/-- A camera link whose frames in progress stay in canonical form. -/
protected theorem Keeps.setCamCur {n : Nat} {x : CamSt} (h : Keeps s t) (hx : t.Canon → smWf (fun _ => none) x.cur = true) :
    Keeps s (t.setCamSt n x) :=
  ⟨fun hc => have c := h.canon hc; { c with
    cam := smWf_smPut (fun _ => {}) _ n x c.cam
    cur := fun y hy => (mem_smPut hy).elim (c.cur y) fun e => e ▸ hx c }, h.pending⟩

protected theorem Keeps.setCamSt {n : Nat} {x : CamSt} (h : Keeps s t)
    (hx : ∀ y, t.camSt n = y → x.cur = y.cur := by intro y e; rw [e]) :
    Keeps s (t.setCamSt n x) :=
  h.setCamCur fun c => hx _ rfl ▸ c.camSt_cur n

/-- A camera link of which one frame in progress is replaced. -/
protected theorem Keeps.setCamFrame {n : Nat} {x : CamSt} (h : Keeps s t)
    (hx : ∀ y, t.camSt n = y → ∃ v f, x.cur = smPut none y.cur v f := by intro y e; rw [e]; exact ⟨_, _, rfl⟩) :
    Keeps s (t.setCamSt n x) :=
  have ⟨v, f, hcur⟩ := hx _ rfl
  h.setCamCur fun c => hcur ▸ smWf_smPut (fun _ => none) _ v f (c.camSt_cur n)

end

end Sys2Proof.Machine

end

section
/-! SUPPORT. Results that carry a state, the replay's states and the reset keep the canonical form. -/

namespace Sys2Proof.Machine

section
variable {s t u : State}

/-! ### Results that carry a state -/

/-- The state in front of a result taken apart. -/
theorem Keeps.of_fst {α : Type} {x : State × α} {a : α} (h : Keeps s x.1) (e : x = (u, a)) : Keeps s u := by subst e; exact h

/-- The state behind a result taken apart. -/
theorem Keeps.of_snd {α : Type} {x : α × State} {a : α} (h : Keeps s x.2) (e : x = (a, u)) : Keeps s u := by subst e; exact h

protected theorem Keeps.ite_fst {α : Type} {c : Prop} {inst : Decidable c} {x y : State × α} (h : Keeps s x.1) (h' : Keeps s y.1) :
    Keeps s (if c then x else y).1 := by
  split
  · exact h
  · exact h'

protected theorem Keeps.ite_snd {α : Type} {c : Prop} {inst : Decidable c} {x y : α × State} (h : Keeps s x.2) (h' : Keeps s y.2) :
    Keeps s (if c then x else y).2 := by
  split
  · exact h
  · exact h'

/-- A fold that carries a state and a further value. -/
protected theorem Keeps.foldl_fst {α β : Type} {f : State × β → α → State × β} {l : List α} {b : β} (h : Keeps s t)
    (hf : ∀ x a, Keeps s x.1 → Keeps s (f x a).1) : Keeps s (l.foldl f (t, b)).1 := by
  induction l generalizing t b with
  | nil => exact h
  | cons a l ih => exact ih (hf (t, b) a h)

/-- An instruction's effect leaves a state that `Keeps` allows. -/
def Effects (s : State) : GwEff → Prop
  | .go t _ _ => Keeps s t
  | .trap _ _ => True

protected theorem Keeps.go {c : GwCtx} {cost : Nat} (h : Keeps s t) : Effects s (.go t c cost) := h

protected theorem Effects.trap {cause : Nat} {faddr : Word} : Effects s (.trap cause faddr) := trivial

protected theorem Effects.ite {c : Prop} {inst : Decidable c} {e e' : GwEff} (h : Effects s e) (h' : Effects s e') :
    Effects s (if c then e else e') := by
  split
  · exact h
  · exact h'

/-! ### More of the maps -/

/-- Memory, its bytes in canonical form. -/
protected theorem Keeps.setMem {m : SMap Byte} (h : Keeps s t) (hm : Memory.wf t.mem = true → Memory.wf m = true) : Keeps s { t with mem := m } :=
  ⟨fun hc => have c := h.canon hc; { c with mem := hm c.mem }, h.pending⟩

/-- The published and the staged values together. -/
protected theorem Keeps.setPubMap {l : List Staged} {m : SMap PubV} (h : Keeps s t)
    (hm : smWf (fun _ => {}) t.pub = true → smWf (fun _ => {}) m = true) : Keeps s { t with stage := l, pub := m } :=
  ⟨fun hc => have c := h.canon hc; { c with pub := hm c.pub }, h.pending⟩

/-- A latched high word. -/
protected theorem Keeps.setLatch {k : Nat} {w : Option Word} (h : Keeps s t) :
    Keeps s (t.setFab { t.fab with hiLatch := smPut none t.fab.hiLatch k w }) :=
  ⟨fun hc => have c := h.canon hc; { c with hiLatch := smWf_smPut (fun _ => none) _ k w c.hiLatch }, h.pending⟩

protected theorem Keeps.noteRead {init : Nat} {x : Word × State} (h : Keeps s x.2) : Keeps s (noteRead init x) :=
  ⟨fun hc => have c := h.canon hc; { c with rdata := smWf_smPut (fun _ => 0) _ init x.1 c.rdata }, h.pending⟩

/-- What of the present state belongs to the boundary is in canonical form. -/
theorem State.Canon.bndOf (h : s.Canon) : (bndOf s).wf := ⟨h.pub, h.vlv⟩

/-- The replay's part: the live state that is kept. -/
protected theorem Keeps.setLive {x : RplState} (h : Keeps s t) (hl : ∀ b ∈ x.live, s.Canon → b.wf)
    (h₁ : ∀ y, t.rpl = y → x.ckpts = y.ckpts := by intro y e; rw [e]) :
    Keeps s (t.setRpl x) :=
  ⟨fun hc => have c := h.canon hc; { c with ckpts := h₁ _ rfl ▸ c.ckpts, live := fun b hb => hl b hb hc }, h.pending⟩

/-- One published value of the live state that is kept. -/
protected theorem Keeps.setLivePub {b : Bnd} {k : Nat} {v : PubV} (h : Keeps s t) (e : t.rpl.live = some b) :
    Keeps s (t.setRpl { t.rpl with live := some { b with pub := smPut {} b.pub k v } }) :=
  h.setLive fun _ hb hc => Option.some.inj hb ▸
    have hw := (h.canon hc).live b e
    ⟨smWf_smPut (fun _ => {}) _ k v hw.1, hw.2⟩

/-- A further checkpoint. -/
protected theorem Keeps.addCkpt {c : Ckpt} (h : Keeps s t) (hb : s.Canon → c.bnd.wf) :
    Keeps s (t.setRpl { t.rpl with ckpts := t.rpl.ckpts ++ [c] }) :=
  ⟨fun hc => { h.canon hc with
    ckpts := fun x hx => (List.mem_append.mp hx).elim ((h.canon hc).ckpts x) fun e => (List.mem_singleton.mp e) ▸ hb hc }, h.pending⟩

/-- Moving the valve drive's steps keeps its maps in canonical form. -/
theorem vlvLater_wf {d : Nat} {v : VlvState} (h : vlvMapsWf v = true) : vlvMapsWf (vlvLater d v) = true := by
  simp only [vlvMapsWf, Bool.and_eq_true] at h ⊢
  obtain ⟨⟨⟨hch, hctx⟩, hbank⟩, hactive⟩ := h
  exact ⟨⟨⟨smWf_mapVals _ _ hch, smWf_mapVals _ _ hctx⟩, smWf_mapVals _ _ hbank⟩, hactive⟩

/-- Putting a canonical state of the boundary in place keeps the canonical form. -/
protected theorem Keeps.putBnd {b : Bnd} (h : Keeps s t) (hb : s.Canon → b.wf) : Keeps s (putBnd t b) :=
  ⟨fun hc => have c := h.canon hc; { c with
    mem := smWf_smSwap _ _ _ c.mem, regs := smWf_smSwap _ _ _ c.regs, pub := (hb hc).1, vlv := vlvLater_wf (hb hc).2
    scan := c.scan, scanOff := c.scanOff }, h.pending⟩

/-! ### What a reset keeps -/

/-- Every part of the empty state is in canonical form. -/
theorem canon_empty : ({} : State).Canon := (canonical_iff_canon {}).mp ⟨rfl, rfl, rfl, rfl⟩

/-- The registers after a reset are in canonical form. -/
theorem keptRegs_wf (s : State) (cause : Nat) (warm : Bool) : RegStore.wf (keptRegs s cause warm) = true :=
  have hk : ∀ l : List (Nat × Nat), Keeps {} (l.foldl (fun r x =>
      r.setReg x.1 ((r.reg x.1 &&& ~~~(BitVec.ofNat 32 x.2)) ||| (s.reg x.1 &&& BitVec.ofNat 32 x.2))) ({} : State)) :=
    fun _ => (Keeps.refl {}).foldl fun _ _ h => h.setReg
  (Keeps.setReg (.ite (hk _).setReg (hk _))).canon canon_empty |>.regs

theorem keptMem_wf (h : s.Canon) (warm : Bool) : Memory.wf (keptMem s warm) = true := by
  unfold keptMem
  split
  · exact smWf_filter _ h.mem
  · rfl

/-- The state a boot begins from is in canonical form. -/
theorem State.Canon.bootBase {cause : Nat} {warm : Bool} {wake : Option Nat} (h : s.Canon) : (bootBase s cause warm wake).Canon := by
  have hmem := keptMem_wf h warm
  have hregs := keptRegs_wf s cause warm
  cases warm
  · exact { canon_empty with mem := hmem, regs := hregs, ckpts := h.ckpts }
  · have hcur : ∀ x ∈ (keptCams s).cam, smWf (fun _ => none) x.2.cur = true := fun x hx => by
      obtain ⟨v, -, he⟩ := mem_smMapVals hx
      rw [he]; rfl
    exact { canon_empty with
      mem := hmem, regs := hregs, cam := smWf_mapVals _ _ h.cam, cur := hcur, lswCh := h.lswCh, sites := h.sites, ckpts := h.ckpts }

protected theorem Keeps.bootBase {cause : Nat} {warm : Bool} {wake : Option Nat} (h : Keeps s t) : Keeps s (bootBase t cause warm wake) :=
  ⟨fun hc => (h.canon hc).bootBase, h.pending⟩

/-! ### Scans of the lidars -/

/-- A scan in progress. -/
protected theorem Keeps.setScan {x : FusState} (h : Keeps s t)
    (hx : ∀ y, t.fus = y → ∃ n v, x.scan = smPut none y.scan n v ∧ x.scanOff = y.scanOff := by intro y e; rw [e]; exact ⟨_, _, rfl, rfl⟩) :
    Keeps s (t.setFus x) :=
  have ⟨n, v, hscan, hoff⟩ := hx _ rfl
  ⟨fun hc => have c := h.canon hc; { c with scan := hscan ▸ smWf_smPut (fun _ => none) _ n v c.scan, scanOff := hoff ▸ c.scanOff }, h.pending⟩

/-- A scan that is passed over. -/
protected theorem Keeps.setScanOff {n : Nat} {v : Option Nat} (h : Keeps s t) :
    Keeps s (t.setFus { t.fus with scanOff := smPut none t.fus.scanOff n v }) :=
  ⟨fun hc => have c := h.canon hc; { c with scanOff := smWf_smPut (fun _ => none) _ n v c.scanOff }, h.pending⟩

protected theorem Keeps.scanDrop {n : Nat} (h : Keeps s t) : Keeps s (scanDrop t n) :=
  Keeps.setReg ⟨fun hc => have c := h.canon hc; { c with
    scan := smWf_smPut (fun _ => none) _ n none c.scan, scanOff := smWf_smPut (fun _ => none) _ n _ c.scanOff }, h.pending⟩

end

end Sys2Proof.Machine

end

section
/-! SUPPORT. What the operations of Sys2Proof/Machine/Ops.lean keep of the canonical form. -/

namespace Sys2Proof.Machine

section
set_option Elab.async false
variable {s t u : State}

protected theorem Keeps.setFld {f : Fld} {v : Nat} (h : Keeps s t) : Keeps s (t.setFld f v) :=
  h.setReg

protected theorem Keeps.setFlag {f : Fld} {b : Bool} (h : Keeps s t) : Keeps s (t.setFlag f b) :=
  h.setFld

protected theorem Keeps.count {f : Fld} {n : Nat} (h : Keeps s t) : Keeps s (t.count f n) :=
  h.setFld

protected theorem Keeps.raise {a k : Nat} (h : Keeps s t) : Keeps s (t.raise a k) :=
  h.setReg

protected theorem Keeps.setReg64 {lo hi v : Nat} (h : Keeps s t) : Keeps s (t.setReg64 lo hi v) :=
  h.setReg.setReg

protected theorem Keeps.publish {k : Nat} {val : Word} {valid : Bool} {code : Nat} (h : Keeps s t) : Keeps s (t.publish k val valid code) :=
  h.setPub

protected theorem Keeps.stageAt {tick k : Nat} {val : Word} {valid : Bool} {code : Nat} (h : Keeps s t) :
    Keeps s (t.stageAt tick k val valid code) :=
  h.setStaged

protected theorem Keeps.publishStaged (h : Keeps s t) : Keeps s t.publishStaged :=
  h.setStaged.foldl fun _ _ h => h.setPub

protected theorem Keeps.unvalid {k : Nat} (h : Keeps s t) : Keeps s (t.unvalid k) :=
  h.setPub

protected theorem Keeps.setBytes {a : Nat} {l : List Byte} (h : Keeps s t) : Keeps s (t.setBytes a l) := by
  induction l generalizing a t with
  | nil => exact h
  | cons _ _ ih => exact ih h.setByte

protected theorem Keeps.setWord {a : Nat} {w : Word} (h : Keeps s t) : Keeps s (t.setWord a w) :=
  h.setBytes

protected theorem Keeps.setWords {a : Nat} {l : List Word} (h : Keeps s t) : Keeps s (t.setWords a l) := by
  induction l generalizing a t with
  | nil => exact h
  | cons _ _ ih => exact ih h.setWord

protected theorem Keeps.fresh (h : Keeps s t) : Keeps s t.fresh.2 :=
  h.setFreeCtr

end

end Sys2Proof.Machine

end

section
/-! SUPPORT. What the operations of Sys2Proof/Machine/Evlog.lean keep of the canonical form. -/

namespace Sys2Proof.Machine

section
set_option Elab.async false
variable {s t u : State}

protected theorem Keeps.tabRecAt {tick type unit : Nat} {data : List Nat} (h : Keeps s t) : Keeps s (tabRecAt t tick type unit data) :=
  .ite (.ite h.setRpl h) (.ite h.count.setTab.setFld h)

protected theorem Keeps.tabRec {type unit : Nat} {data : List Nat} (h : Keeps s t) : Keeps s (tabRec t type unit data) :=
  h.tabRecAt

protected theorem Keeps.tabCmd {unit : Nat} {data : List Nat} (h : Keeps s t) : Keeps s (tabCmd t unit data) :=
  h.tabRecAt

protected theorem Keeps.tabDigest {unit : Nat} {ws : List Nat} (h : Keeps s t) : Keeps s (tabDigest t unit ws) :=
  h.tabRec

protected theorem Keeps.tabHold {k : Nat} (h : Keeps s t) : Keeps s (tabHold t k) := by
  unfold Machine.tabHold
  dsimp only
  split
  · exact .ite h.setTab.setFld.setFld.raise.tabRec h.setFlag.tabRec
  · exact h.setFlag.tabRec

protected theorem Keeps.tabWindow (h : Keeps s t) : Keeps s (tabWindow t) := by
  unfold Machine.tabWindow
  split
  · exact h.count.setFld
  · exact h.setTab.setFld

protected theorem Keeps.winTakes {n slot arrDt : Nat} (h : Keeps s t) : Keeps s (winTakes t n slot arrDt) := by
  unfold Machine.winTakes
  split
  · exact .ite h.setTab h
  · exact h

protected theorem Keeps.winLoses {n slot : Nat} (h : Keeps s t) : Keeps s (winLoses t n slot) := by
  unfold Machine.winLoses
  split
  · exact .ite h.setTab h
  · exact h

protected theorem Keeps.tabTrigger {code : Nat} (h : Keeps s t) : Keeps s (tabTrigger t code) :=
  h.forN (fun _ _ h₁ => .ite (.use (.ite h₁.raise.tabRec.tabHold h₁.raise.tabRec) fun h₂ => .ite h₂.tabWindow h₂) h₁)

protected theorem Keeps.mergeEvent {o : EvOpen} (h : Keeps s t) : Keeps s (mergeEvent t o) :=
  h.setEvr

protected theorem Keeps.writeRecord {code src d0 d1 : Nat} (h : Keeps s t) : Keeps s (writeRecord t code src d0 d1) :=
  .tabTrigger (.ite h.setEvr.setFld.setFlag.count.setFld h.setEvr.setFld)

protected theorem Keeps.stormRoll (h : Keeps s t) : Keeps s (stormRoll t) :=
  .ite h (h.setEvr.foldl (fun _ _ h₁ => h₁.writeRecord))

protected theorem Keeps.replayEvent {code src d0 d1 : Nat} (h : Keeps s t) : Keeps s (replayEvent t code src d0 d1) :=
  h.setWords.setRpl.count

protected theorem Keeps.logLive {code src d0 d1 : Nat} (h : Keeps s t) : Keeps s (logLive t code src d0 d1) := by
  unfold Machine.logLive
  split
  · exact h.mergeEvent
  · exact .ite h.stormRoll.setEvr h.stormRoll.setEvr.writeRecord

protected theorem Keeps.logEvent {code src d0 d1 : Nat} (h : Keeps s t) : Keeps s (logEvent t code src d0 d1) :=
  .ite h.replayEvent h.logLive

protected theorem Keeps.tabEnd {reason : Nat} (h : Keeps s t) : Keeps s (tabEnd t reason) :=
  .ite h.tabRec.setTab.setFlag.setFld.logEvent h

protected theorem Keeps.latchNext {key : Nat} {val : Word} {valid : Bool} {code : Nat} (h : Keeps s t) : Keeps s (latchNext t key val valid code) :=
  .ite h h.stageAt

protected theorem Keeps.latchNow {key : Nat} {val : Word} {valid : Bool} {code : Nat} (h : Keeps s t) :
    Keeps s (latchNow t key val valid code) := by
  unfold Machine.latchNow
  split
  · next b e => exact h.setLivePub e
  · exact h.publish

protected theorem Keeps.recKeys {keys : List Nat} (h : Keeps s t) : Keeps s (recKeys t keys) :=
  h.foldl (fun _ _ h₁ => h₁.tabRec)

end

end Sys2Proof.Machine

end

section
/-! SUPPORT. What the operations of Sys2Proof/Machine/Slots.lean keep of the canonical form. -/

namespace Sys2Proof.Machine

section
set_option Elab.async false
variable {s t u : State}

protected theorem Keeps.lockOut {cause detail : Nat} (h : Keeps s t) : Keeps s (lockOut t cause detail) :=
  .logLive (.ite h.setReg.setSaf.setSaf.setFld.setFld.setFlag.setFlag.setFld h.setReg.setSaf)

protected theorem Keeps.refreshEng {e : Nat} (h : Keeps s t) : Keeps s (refreshEng t e) :=
  h.setFld.setFld.setFld

protected theorem Keeps.refreshSet (h : Keeps s t) : Keeps s (refreshSet t) :=
  h.setFld.setFld.setFlag.setFld.forN (fun _ _ h₁ => h₁.setFlag)

protected theorem Keeps.refreshEngines (h : Keeps s t) : Keeps s (refreshEngines t) :=
  (h.forN (fun _ _ h₁ => h₁.refreshEng)).refreshSet

protected theorem Keeps.stopSlot {e i why act : Nat} (h : Keeps s t) : Keeps s (stopSlot t e i why act) :=
  h.setFld.setFld.setCe.logEvent

protected theorem Keeps.stopLoop {loop why act : Nat} (h : Keeps s t) : Keeps s (stopLoop t loop why act) := by
  unfold Machine.stopLoop
  split
  · exact h.stopSlot
  · exact h

end

end Sys2Proof.Machine

end

section
/-! SUPPORT. What the operations of Sys2Proof/Machine/RegAccess.lean keep of the canonical form. -/

namespace Sys2Proof.Machine

section
set_option Elab.async false
variable {s t u : State}

protected theorem Keeps.fabErr {init addr kind : Nat} (h : Keeps s t) : Keeps s (fabErr t init addr kind) :=
  .ite h.setFlag h.setReg.setReg

protected theorem Keeps.coreAbort {init : Nat} (h : Keeps s t) : Keeps s (coreAbort t init) :=
  .ite h.setFab h

protected theorem Keeps.plainWrite {a : Nat} {v : Word} (h : Keeps s t) : Keeps s (plainWrite t a v) := by
  unfold Machine.plainWrite
  split
  · exact .ite h.setReg.setFlag h.setReg
  · exact h

protected theorem Keeps.readReg {view : Nat → Word} {init a : Nat} (h : Keeps s t) : Keeps s (readReg view t init a).2 := by
  unfold Machine.readReg
  dsimp only
  split
  · exact .ite (.ite h.setLatch.setLatch h.setLatch) (.setReg (.ite h.setLatch.setLatch h.setLatch))
  · exact .ite h.setLatch.setLatch h.setLatch

protected theorem Keeps.readInto {init a : Nat} (h : Keeps s t) : Keeps s (readInto t init a) :=
  h.readReg.noteRead

protected theorem Answers.execW1cClear {init : Fin 58} {addr v : Word} (h : Keeps s t) : Answers s (execW1cClear init addr v t) := by
  unfold Machine.execW1cClear
  dsimp only
  split
  · exact .ite h.next (.ite h.fabErr.next h.plainWrite.next)
  · exact h.next

end

end Sys2Proof.Machine

end

section
/-! SUPPORT. What the operations of Sys2Proof/Machine/Fabric.lean keep of the canonical form. -/

namespace Sys2Proof.Machine

section
set_option Elab.async false
variable {s t u : State}

protected theorem Keeps.fabNote {c n total : Nat} (h : Keeps s t) : Keeps s (fabNote t c n total) :=
  h.count.setFld.setFld

protected theorem Keeps.fabShow (h : Keeps s t) : Keeps s (fabShow t) :=
  h.setFld.setFld.setFld.setFld

protected theorem Keeps.fabIssue {t' : FabTxn} (h : Keeps s t) : Keeps s (fabIssue t t') :=
  h.setFab.fabShow.fabNote

protected theorem Keeps.fabStall {t' : FabTxn} (h : Keeps s t) : Keeps s (fabStall t t') :=
  h.setFab

protected theorem Keeps.fabRequest {init addr : Nat} {write : Bool} (h : Keeps s t) : Keeps s (fabRequest t init addr write) :=
  .ite h.fabIssue h.fabStall

protected theorem Keeps.fabPass {t' : FabTxn} (h : Keeps s t) : Keeps s (fabPass t t') :=
  h.fabNote

protected theorem Keeps.fabGrant (h : Keeps s t) : Keeps s (fabGrant t) := by
  unfold Machine.fabGrant
  split
  · exact .ite (h.setFab.fabPass.setFab fun _ e => e ▸ ⟨rfl, rfl⟩) h.setFab.fabIssue
  · exact h

protected theorem Keeps.fabFree {init : Nat} (h : Keeps s t) : Keeps s (fabFree t init) :=
  .ite h.setFab.fabShow.fabGrant h

protected theorem Keeps.fabArrive {l : List (Fin 58 × BitVec 40 × Bool)} (h : Keeps s t) : Keeps s (fabArrive t l) :=
  h.foldl (fun _ _ h₁ => h₁.fabRequest)

end

end Sys2Proof.Machine

end

section
/-! SUPPORT. What the operations of Sys2Proof/Machine/Dma.lean keep of the canonical form. -/

namespace Sys2Proof.Machine

section
set_option Elab.async false
variable {s t u : State}

protected theorem Keeps.iommuFault {init iova kind : Nat} {write : Bool} (h : Keeps s t) : Keeps s (iommuFault t init iova kind write) :=
  h.count.coreAbort.use fun h₁ => .ite h₁.setReg.count h₁.setReg64.setReg

protected theorem Keeps.walkCount {init : Nat} (h : Keeps s t) : Keeps s (walkCount t init) :=
  h.count

protected theorem Keeps.noteXfer {init a n : Nat} {write : Bool} (h : Keeps s t) : Keeps s (noteXfer t init a n write) :=
  .ite h (h.foldl (fun _ _ h₁ => by split; exacts [h₁.walkCount, h₁.walkCount.iommuFault]))

protected theorem Keeps.storeIova {init a : Nat} {l : List Byte} (h : Keeps s t) : Keeps s (storeIova t init a l) := by
  induction l generalizing a t with
  | nil => exact h
  | cons b r ih =>
    unfold Machine.storeIova
    split
    · exact ih h.setByte
    · exact ih h

protected theorem Keeps.writeIova {init a : Nat} {l : List Byte} (h : Keeps s t) : Keeps s (writeIova t init a l) :=
  h.noteXfer.storeIova

protected theorem Keeps.fetchIova {init a n : Nat} (h : Keeps s t) : Keeps s ((fetchIova t init a n).2) :=
  h.noteXfer

protected theorem Keeps.iommuInv {ctx : Nat} (h : Keeps s t) : Keeps s (iommuInv t ctx) :=
  .ite h h.setDma.setFlag

protected theorem Answers.execInvalidateDone (h : Keeps s t) : Answers s (execInvalidateDone t) := by
  unfold Machine.execInvalidateDone
  split
  · exact h.setDma.setFlag.next
  · exact h.next

protected theorem Keeps.dmaCount {n : Nat} (h : Keeps s t) : Keeps s (dmaCount t n) :=
  h.setReg.latchNext

protected theorem Keeps.ringWriteBack {n entry code done : Nat} (h : Keeps s t) : Keeps s (ringWriteBack t n entry code done) :=
  h.writeIova

protected theorem Keeps.retireLoop {n : Nat} {d : DmaDesc} {code done : Nat} (h : Keeps s t) : Keeps s (retireLoop t n d code done) :=
  .dmaCount (.ite h h.setBytes)

protected theorem Keeps.retireRing {n code done : Nat} (h : Keeps s t) : Keeps s (retireRing t n code done) :=
  h.ringWriteBack.setFld.dmaCount

protected theorem Keeps.dmaEnterFault {n iova kind : Nat} {write restart : Bool} {extra done : Nat} (h : Keeps s t) :
    Keeps s (dmaEnterFault t n iova kind write restart extra done) :=
  .fabFree (.setFld (.setFld (.ite h.setReg64.setReg h.setReg64.setReg.iommuFault)))

protected theorem Keeps.dmaBegin {n : Nat} {d : DmaDesc} (h : Keeps s t) : Keeps s (dmaBegin t n d) :=
  h.setDch.setFld.setFld.fabRequest

protected theorem Keeps.dmaNext {n fuel : Nat} (h : Keeps s t) : Keeps s (dmaNext t n fuel) := by
  induction fuel generalizing t with
  | zero => exact h
  | succ k ih =>
    refine .ite h (.ite ?_ (.ite h.setFld ?_))
    · split
      · exact h.setFld
      · exact h.setDch.dmaBegin
    · split
      · exact h.setDch.dmaEnterFault
      · exact .ite h.dmaBegin (ih h.retireRing)

protected theorem Keeps.dmaCancelRing {n fuel : Nat} (h : Keeps s t) : Keeps s (dmaCancelRing t n fuel) := by
  induction fuel generalizing t with
  | zero => exact h
  | succ k ih => exact .ite h (ih h.retireRing)

protected theorem Keeps.dmaCancelQueue {n : Nat} (h : Keeps s t) : Keeps s (dmaCancelQueue t n) :=
  h.setDch.foldl (fun _ _ h₁ => h₁.retireLoop)

protected theorem Keeps.dmaDisabled {n : Nat} (h : Keeps s t) : Keeps s (dmaDisabled t n) :=
  .setFlag (.setFld (.setDch (.ite h.dmaCancelQueue (.ite h.dmaCancelRing h))))

protected theorem Keeps.dmaRetire {n code done : Nat} (h : Keeps s t) : Keeps s (dmaRetire t n code done) := by
  unfold Machine.dmaRetire
  split
  · exact .use (.ite h.setDch.setFld.setFld.retireLoop h.setDch.setFld.setFld.retireRing) fun h₁ => .ite h₁.dmaDisabled h₁.dmaNext
  · exact h

protected theorem Keeps.copyBytes {sp dp k i : Nat} {sf df : Bool} (h : Keeps s t) : Keeps s (copyBytes sp dp sf df k i t) := by
  induction k generalizing i t with
  | zero => exact h
  | succ k ih => exact ih h.setByte

protected theorem Keeps.chunkWalks {n : Nat} {d : DmaDesc} (h : Keeps s t) : Keeps s (chunkWalks t n d) :=
  .ite h.walkCount h.walkCount.walkCount

protected theorem Keeps.dmaAfterFault {n done : Nat} (h : Keeps s t) : Keeps s (dmaAfterFault t n done) := by
  unfold Machine.dmaAfterFault
  split
  · exact .ite h.setDch.dmaRetire h.setDch
  · exact h

protected theorem Keeps.dmaFaultAt {n : Nat} {d : DmaDesc} {o kind : Nat} {write : Bool} {extra : Nat} (h : Keeps s t) :
    Keeps s (dmaFaultAt t n d o kind write extra) :=
  h.dmaEnterFault.dmaAfterFault

protected theorem Keeps.dmaHandOver {n : Nat} {d : DmaDesc} (h : Keeps s t) : Keeps s (dmaHandOver t n d) :=
  .ite h.tabRecAt h

protected theorem Keeps.dmaMove {n stop fuel o : Nat} {d : DmaDesc} (h : Keeps s t) : Keeps s (dmaMove n d stop fuel o t).state := by
  induction fuel generalizing o t with
  | zero => exact h
  | succ k ih =>
    unfold Machine.dmaMove
    split
    · exact h
    · split
      · exact h
      · exact h
      · exact ih h.chunkWalks.copyBytes

/-- The state of a move that ended. -/
theorem Keeps.of_done {x : DmaMove} (h : Keeps s x.state) (e : x = .done u) : Keeps s u := by subst e; exact h

/-- The state of a move that met a fault. -/
theorem Keeps.of_fault {x : DmaMove} {o k : Nat} {w : Bool} (h : Keeps s x.state) (e : x = .fault u o k w) : Keeps s u := by subst e; exact h

protected theorem Keeps.dmaComplete {n : Nat} (h : Keeps s t) : Keeps s (dmaComplete t n) := by
  unfold Machine.dmaComplete
  split
  · refine .ite h (.ite h.fabFree.dmaRetire (.ite h ?_))
    dsimp only
    split
    · next e => exact (h.dmaMove.of_done e).use fun h => .ite h.setDch h.fabFree.dmaHandOver.dmaRetire
    · next e => exact (h.dmaMove.of_fault e).dmaFaultAt
  · exact h

protected theorem Keeps.dmaError {n : Nat} {d : DmaDesc} {o : Nat} {write : Bool} {beat extra kind : Nat} (h : Keeps s t) :
    Keeps s (dmaError t n d o write beat extra kind) :=
  .dmaFaultAt (.fabErr (.ite h.count h))

protected theorem Answers.execDmaFault {n : Fin 32} {chunks : Nat} {write : Bool} {beat : Fin 4} {extra : Fin 16} (h : Keeps s t) :
    Answers s (execDmaFault n chunks write beat extra t) := by
  unfold Machine.execDmaFault
  split
  · refine .ite h.next ?_
    dsimp only
    split
    · next e => exact (h.dmaMove.of_fault e).dmaFaultAt.next
    · next e =>
      have h := h.dmaMove.of_done e
      refine .next (.dmaError (.ite ?_ h))
      split
      · exact h.copyBytes.copyBytes
      · exact h
  · exact h.next

protected theorem Keeps.unlessPanel {n : Nat} {f : State → State} (h : Keeps s t) (hf : ∀ t, Keeps s t → Keeps s (f t)) :
    Keeps s (unlessPanel t n f) :=
  .ite h (hf _ h)

protected theorem Keeps.dmaTail {n tail : Nat} (h : Keeps s t) : Keeps s (dmaTail t n tail) :=
  h.setFld.dmaNext

protected theorem Keeps.dmaResume {n : Nat} (h : Keeps s t) : Keeps s (dmaResume t n) :=
  .ite (by split; exacts [.ite h.setDch.setFld.dmaNext h.dmaBegin, h]) h

protected theorem Keeps.dmaSkip {n : Nat} (h : Keeps s t) : Keeps s (dmaSkip t n) :=
  .ite (by split; exacts [h.dmaRetire, h]) h

protected theorem Keeps.dmaDisable {n : Nat} (h : Keeps s t) : Keeps s (dmaDisable t n) :=
  .ite (by dsimp only; split; exacts [.ite h.setFlag.setDch.dmaRetire h.setFlag.setDch.setFld, h.setFlag.dmaDisabled]) h

protected theorem Keeps.dmaCfgWrite {init n : Nat} {v : Word} (h : Keeps s t) : Keeps s (dmaCfgWrite t init n v) :=
  .ite h.plainWrite.setFlag.setFlag.dmaNext (.ite h.plainWrite.dmaDisable h.plainWrite)

protected theorem Keeps.dmaSubmit {loop i : Nat} (h : Keeps s t) : Keeps s (dmaSubmit t loop i) :=
  .ite h (.ite (.dmaCount (by split; exacts [.ite h.setBytes h, h])) (.ite h.retireLoop (.ite h.retireLoop h.setDch.dmaNext)))

protected theorem Keeps.submitWrite {loop ofs : Nat} {w : Word} (h : Keeps s t) : Keeps s (submitWrite t loop ofs w) :=
  .ite h.setDma.dmaSubmit h.setDma

protected theorem Keeps.dmaCancelLoop {loop : Nat} (h : Keeps s t) : Keeps s (dmaCancelLoop t loop) :=
  h.foldl (fun _ _ h₁ => h₁.dmaCancelQueue)

protected theorem Keeps.dmaPause {loop : Nat} {b : Bool} (h : Keeps s t) : Keeps s (dmaPause t loop b) :=
  h.foldl (fun _ _ h₁ => .ite h₁.setDch.setFld h₁.setDch)

end

end Sys2Proof.Machine

end

section
/-! SUPPORT. What the operations of Sys2Proof/Machine/Time.lean keep of the canonical form. -/

namespace Sys2Proof.Machine

section
set_option Elab.async false
variable {s t u : State}

protected theorem Keeps.setFreq {f : Int} (h : Keeps s t) : Keeps s (setFreq t f) :=
  h.setClk.setReg

protected theorem Keeps.setUnc {u : Nat} (h : Keeps s t) : Keeps s (setUnc t u) :=
  h.setReg

protected theorem Keeps.shiftBnd {n : Nat} (h : Keeps s t) : Keeps s (shiftBnd t n) :=
  (h.setPubMap (smWf_mapVals _ _)).setCe.setGw.setMfp.setSteer.setFus

protected theorem Keeps.shiftLive {n : Nat} (h : Keeps s t) : Keeps s (shiftLive t n) :=
  h.setGns.setTab.setFus.setUin

protected theorem Keeps.shiftTicks {n : Nat} (h : Keeps s t) : Keeps s (shiftTicks t n) :=
  .ite h.shiftLive h.shiftLive.setClk.shiftBnd

protected theorem Keeps.stepAnchors {ns : Nat} (h : Keeps s t) : Keeps s (stepAnchors t ns) :=
  h.setClk

protected theorem Keeps.showTick {t' : Nat} (h : Keeps s t) : Keeps s (showTick t t') :=
  h.setReg

protected theorem Keeps.addTick {n : Nat} (h : Keeps s t) : Keeps s (addTick t n) :=
  .ite h.setRpl.showTick h.setClk.showTick

protected theorem Keeps.timeStep {fp : Nat} (h : Keeps s t) : Keeps s (timeStep t fp) :=
  h.shiftTicks.setClk.addTick.stepAnchors.setFlag.setGns.tabRec.setFlag.count

protected theorem Answers.execDtStep (h : Keeps s t) : Answers s (execDtStep t) := by
  unfold Machine.execDtStep
  split
  · exact .ite h.setClk.timeStep.next h.next
  · exact h.next

protected theorem Keeps.dtSet {init : Nat} {hi : Word} (h : Keeps s t) : Keeps s (dtSet t init hi) :=
  .ite h.setReg.timeStep h.setReg.logEvent

protected theorem Keeps.noteTimeAid {us : Nat} (h : Keeps s t) : Keeps s (noteTimeAid t us) := by
  unfold Machine.noteTimeAid
  split
  · exact .ite h.setGns h
  · exact h.setGns

protected theorem Keeps.setTimeState {st : Nat} {dir : Int} (h : Keeps s t) : Keeps s (setTimeState t st dir) :=
  .setFlag (.setFld (.setClk (.ite h h.tabRec)))

protected theorem Keeps.steerLoop {e : Int} (h : Keeps s t) : Keeps s (steerLoop t e) :=
  h.setFreq.setClk

protected theorem Keeps.slewTerm {dir : Int} (h : Keeps s t) : Keeps s (slewTerm t dir) :=
  h.setClk

protected theorem Keeps.noteFreq (h : Keeps s t) : Keeps s (noteFreq t) :=
  h.setClk

protected theorem Keeps.timeLocked (h : Keeps s t) : Keeps s (timeLocked t) :=
  h.setClk.setTimeState.setFlag

protected theorem Keeps.correct {e : Int} (h : Keeps s t) : Keeps s (correct t e) :=
  .ite h.setTimeState (.ite h.timeLocked.steerLoop (.ite h.setTimeState.slewTerm (.ite h.setTimeState.slewTerm h.setTimeState.setClk)))

protected theorem Keeps.timeSolution {e : Int} {sigma : Nat} (h : Keeps s t) : Keeps s (timeSolution t e sigma) :=
  .use (.ite h.setClk.setFreq h.setClk) fun h₁ => .setUnc (.noteFreq (.correct (.ite h₁.setClk.setFlag h₁)))

protected theorem Keeps.timeLost (h : Keeps s t) : Keeps s (timeLost t) :=
  h.setClk

protected theorem Keeps.steerWrite {v : Word} (h : Keeps s t) : Keeps s (steerWrite t v) :=
  h.plainWrite.setClk

protected theorem Answers.execSteerCfgApply (h : Keeps s t) : Answers s (execSteerCfgApply t) := by
  unfold Machine.execSteerCfgApply
  split
  · exact .ite (.next (.ite h.setClk h.setClk.slewTerm)) h.next
  · exact h.next

protected theorem Keeps.advanceTick (h : Keeps s t) : Keeps s (advanceTick t) :=
  .ite (.ite h.setClk.addTick.setFlag.setUnc.setFlag h.setClk.addTick.setFlag.setUnc) h.setClk.addTick.setFlag

protected theorem Keeps.reanchor {n : Nat} (h : Keeps s t) : Keeps s (reanchor t n) :=
  h.setClk.setFlag.setFlag.use fun h₁ => .ite h₁.logEvent h₁

protected theorem Keeps.setSlipped {n : Nat} {b : Bool} (h : Keeps s t) : Keeps s (setSlipped t n b) :=
  .ite h h.setFlag.logEvent

protected theorem Keeps.slipCheck {n : Nat} {d : Int} (h : Keeps s t) : Keeps s (slipCheck t n d) :=
  .ite h.setFld.setClk (.ite h.setFld.setClk.setSlipped (.ite h.setFld.setClk.setSlipped h.setFld.setClk))

protected theorem Keeps.streamSample {n arr sens : Nat} (h : Keeps s t) : Keeps s (streamSample t n arr sens) :=
  .ite (.ite (.ite h.setClk.setFlag h.setClk) h.slipCheck) h

protected theorem Keeps.strmCfgWrite {n : Nat} {v : Word} (h : Keeps s t) : Keeps s (strmCfgWrite t n v) :=
  .ite h.plainWrite.setFld.reanchor h.plainWrite.setFld

end

end Sys2Proof.Machine

end

section
/-! SUPPORT. What the operations of Sys2Proof/Machine/Cam.lean keep of the canonical form. -/

namespace Sys2Proof.Machine

section
set_option Elab.async false
variable {s t u : State}

protected theorem Keeps.camTriggers (h : Keeps s t) : Keeps s (camTriggers t) :=
  h.forN (fun _ _ h₁ => .ite h₁.setCamSt h₁)

protected theorem Keeps.pairUnlock {p why : Nat} (h : Keeps s t) : Keeps s (pairUnlock t p why) :=
  .ite h.setFld.setFld.count.setPairSt.raise.logEvent h

protected theorem Keeps.pairCheck {p : Nat} (h : Keeps s t) : Keeps s (pairCheck t p) :=
  .ite (.ite (.use (.ite h.setFld.setPairSt h.setFld) fun h₁ => .ite (.ite h₁ h₁.pairUnlock) (.ite h₁.pairUnlock
      (.ite h₁ h₁.pairUnlock))) h.pairUnlock.setFld) h

protected theorem Keeps.pairsCheck (h : Keeps s t) : Keeps s (pairsCheck t) :=
  h.forN (fun _ _ h₁ => h₁.pairCheck)

protected theorem Keeps.pairCfgWrite {p : Nat} {v : Word} (h : Keeps s t) : Keeps s (pairCfgWrite t p v) :=
  h.plainWrite.setFld.setPairSt.pairCheck

protected theorem Keeps.pairMiss {p : Nat} (h : Keeps s t) : Keeps s (pairMiss t p) :=
  .ite h.count.setPairSt.pairUnlock h.count.setPairSt

protected theorem Keeps.markPaired {n slot : Nat} (h : Keeps s t) : Keeps s (markPaired t n slot) := by
  unfold Machine.markPaired
  dsimp only
  split
  · exact h.noteXfer.writeIova
  · exact h.noteXfer

protected theorem Keeps.pairMatch {p trig c1 s1 c2 s2 : Nat} (h : Keeps s t) : Keeps s (pairMatch t p trig c1 s1 c2 s2) :=
  .ite h (.markPaired (.markPaired (.setFld (.setPairSt (.ite h.reanchor.reanchor.setFld h)))))

protected theorem Keeps.pairFrame {n trig slot : Nat} {ok : Bool} (h : Keeps s t) : Keeps s (pairFrame t n trig slot ok) :=
  h.forN (fun _ _ h₁ => .ite (by split; exacts [.ite (.ite h₁.setPairSt.pairMatch (.ite h₁.setPairSt.pairMiss h₁.setPairSt)) (.setPairSt
                                   (.ite h₁.pairMiss h₁)), h₁.setPairSt]) h₁)

protected theorem Keeps.writeStats {j : MpJob} {reason : Nat} {body : List Nat} (h : Keeps s t) : Keeps s (writeStats t j reason body) :=
  h.writeIova.writeIova.raise

protected theorem Keeps.ispProcess {j : MpJob} {set : List Word} (h : Keeps s t) : Keeps s (ispProcess t j set) :=
  .writeStats (.writeIova (.ite h.noteXfer h.noteXfer.noteXfer))

protected theorem Keeps.mpShow (h : Keeps s t) : Keeps s (mpShow t) :=
  h.forN (fun _ _ h₁ => h₁.setFld.setFlag)

protected theorem Keeps.mpSkip {j : MpJob} (h : Keeps s t) : Keeps s (mpSkip t j) :=
  h.setCam.writeStats.count.raise.mpShow

protected theorem Keeps.mpQueue {j : MpJob} (h : Keeps s t) : Keeps s (mpQueue t j) := by
  unfold Machine.mpQueue
  dsimp only
  split
  · exact h.setCam.mpSkip
  · exact h.setCam.mpShow

protected theorem Keeps.mpFrame {n v : Nat} {f : CamFrame} (h : Keeps s t) : Keeps s (mpFrame t n v f) :=
  .ite (.ite h.writeStats (.ite h.setCamSt.mpQueue h.setCamSt)) h

protected theorem Keeps.inlineFrame {n v : Nat} {f : CamFrame} {set : List Word} (h : Keeps s t) : Keeps s (inlineFrame t n v f set) :=
  .setCam (.ite h.count h)

protected theorem Keeps.endFrame {n v sub extra : Nat} : {f : CamFrame} → Keeps s t → Keeps s (endFrame t n v sub extra f)
  | { set := none, .. }, h => .mpFrame (.use (.ite h.writeIova.setFld.raise.winTakes.setCamFrame.setFld
      h.writeIova.setFld.raise.winTakes.setCamFrame) fun h => .ite h.pairFrame h)
  | { set := some _, .. }, h => .inlineFrame (.use (.ite h.writeIova.setFld.raise.winTakes.setCamFrame.setFld
      h.writeIova.setFld.raise.winTakes.setCamFrame) fun h => .ite h.pairFrame h)

protected theorem Keeps.camDrop {n : Nat} (h : Keeps s t) : Keeps s (camDrop t n) :=
  h.count

protected theorem Keeps.camEnable {n : Nat} (h : Keeps s t) : Keeps s (camEnable t n) :=
  .ite h (.ite h.setFld (h.setFlag.setFld.setFlag.setCamSt fun _ e => by rw [← e, State.camSt, State.camSt, State.setFlag_cam]))

protected theorem Keeps.mpCancel {n : Nat} (h : Keeps s t) : Keeps s (mpCancel t n) :=
  (h.setCam.foldl (fun _ _ h₁ => h₁.writeStats)).mpShow

protected theorem Keeps.camDisable {n : Nat} (h : Keeps s t) : Keeps s (camDisable t n) :=
  .ite (h.setFlag.forN (fun _ _ h₁ => by split; exacts [h₁.endFrame, h₁])).setFlag.setFlag.mpCancel.pairsCheck h

protected theorem Keeps.camCfgWrite {n : Nat} {v : Word} (h : Keeps s t) : Keeps s (camCfgWrite t n v) :=
  h.plainWrite.setFlag.use fun h₁ => .ite h₁.camEnable h₁.camDisable

protected theorem Keeps.linkLost {n : Nat} (h : Keeps s t) : Keeps s (linkLost t n) :=
  .ite h.setFlag.raise.setCamSt.pairsCheck h

protected theorem Keeps.linkRetrain {n : Nat} (h : Keeps s t) : Keeps s (linkRetrain t n) :=
  .ite (h.setFlag.setCamSt fun _ e => e ▸ rfl) h

protected theorem Keeps.inlineSwitch {n v : Nat} (h : Keeps s t) : Keeps s (inlineSwitch t n v) :=
  .ite h (by split; exacts [.ite h.setCam h, h.setCam])

protected theorem Keeps.beginFrame {n v sub : Nat} (h : Keeps s t) : Keeps s (beginFrame t n v sub) :=
  (h.foldl fun _ _ h₁ => h₁.mpSkip).winLoses.inlineSwitch.setCamFrame

protected theorem Keeps.embLine {n v : Nat} {f : CamFrame} {d : List Byte} (h : Keeps s t) : Keeps s (embLine t n v f d) :=
  h.setCamSt.setCamFrame.use fun h => .ite h.streamSample.pairsCheck h

protected theorem Keeps.imageLine {n v : Nat} {f : CamFrame} {crcOk full : Bool} {d : List Byte} (h : Keeps s t) :
    Keeps s (imageLine t n v f crcOk full d) :=
  .setCamFrame (.ite h.writeIova h)

protected theorem Answers.execCsiLine {n : Fin 6} {vc : Fin 4} {dt : Byte} {hdr : Fin 3} {crcOk full : Bool} {data : List Byte} (h : Keeps s t) :
    Answers s (execCsiLine n vc dt hdr crcOk full data t) := by
  refine .ite (.use (.ite (.ite h h.count) (.count (.ite h h.count))) fun h => .ite ?_ (.ite h.camDrop.next (.ite h.next ?_))) h.next
  · split
    · exact h.setCamFrame.camDrop.next
    · exact h.camDrop.next
  · split
    · exact .ite (.ite h.next h.embLine.next) (.ite h.imageLine.next h.camDrop.next)
    · exact h.camDrop.next

protected theorem Keeps.expCommit {n : Nat} (h : Keeps s t) : Keeps s (expCommit t n) :=
  .ite h.setFld h.setCamSt.setFlag

protected theorem Answers.execExposureAck {n : Fin 6} {sub : Fin 8000} (h : Keeps s t) : Answers s (execExposureAck n sub t) := by
  unfold Machine.execExposureAck
  split
  · exact (h.setReg64.setFld.setFld.setFlag.setCamSt fun _ e => by rw [← e, State.camSt, State.camSt, State.setFlag_cam]).raise.next
  · exact h.next

protected theorem Keeps.expTimeout {n : Nat} {nack : Bool} (h : Keeps s t) : Keeps s (expTimeout t n nack) := by
  unfold Machine.expTimeout
  split
  · exact .ite (h.setFld.setFlag.setCamSt fun _ e => e ▸ rfl) h
  · exact h

protected theorem Keeps.mpStart (h : Keeps s t) : Keeps s (mpStart t) := by
  unfold Machine.mpStart
  split
  · exact h.setCam.mpShow
  · exact h

protected theorem Keeps.infReady {j : MpJob} (h : Keeps s t) : Keeps s (infReady t j) :=
  h.noteXfer.forN (fun _ _ h₁ => .ite h₁ (.ite (.ite (by split; exacts [.ite h₁.setFus h₁.setFus, h₁.setFus]) h₁) (.ite h₁.setFus h₁)))

protected theorem Keeps.mpComplete (h : Keeps s t) : Keeps s (mpComplete t) := by
  unfold Machine.mpComplete
  split
  · exact .ite h.ispProcess.setCam.mpShow.infReady h
  · exact h

protected theorem Keeps.mpExpire (h : Keeps s t) : Keeps s (mpExpire t) :=
  h.foldl (fun _ _ h₁ => h₁.mpSkip)

protected theorem Keeps.mpCfgWrite {n : Nat} {v : Word} (h : Keeps s t) : Keeps s (mpCfgWrite t n v) :=
  .ite h.plainWrite h.plainWrite.mpCancel

protected theorem Keeps.inlineComplete (h : Keeps s t) : Keeps s (inlineComplete t) := by
  unfold Machine.inlineComplete
  split
  · exact .ite h.setCam.writeStats h.setCam.ispProcess.infReady
  · exact h

protected theorem Keeps.camTick (h : Keeps s t) : Keeps s (camTick t) :=
  h.inlineComplete.mpComplete.mpExpire.mpStart.forN (fun _ _ h₁ => h₁.linkRetrain.expTimeout)

end

end Sys2Proof.Machine

end

section
/-! SUPPORT. What the operations of Sys2Proof/Machine/Mbx.lean keep of the canonical form. -/

namespace Sys2Proof.Machine

section
set_option Elab.async false
variable {s t u : State}

protected theorem Keeps.epSet {e st : Nat} (h : Keeps s t) : Keeps s (epSet t e st) :=
  h.setFld.setReg

protected theorem Keeps.epXing {e : Nat} {b : Bool} (h : Keeps s t) : Keeps s (epXing t e b) :=
  h.setFlag.setReg

protected theorem Keeps.ring {d e : Nat} (h : Keeps s t) : Keeps s (ring t d e) :=
  .ite h h.setReg

protected theorem Keeps.endSend {e code : Nat} (h : Keeps s t) : Keeps s (endSend t e code) :=
  h.setFld.setFlag.setTmo.count

protected theorem Keeps.mbxPayload {wLoop : Bool} {w e k : Nat} {v : Word} (h : Keeps s t) : Keeps s (mbxPayload t wLoop w e k v) :=
  .ite (.ite h h.fabErr) (.ite h h.setReg)

protected theorem Keeps.mbxCapture {wLoop : Bool} {e : Nat} (h : Keeps s t) : Keeps s (mbxCapture t wLoop e) :=
  .ite h.tabCmd h

protected theorem Keeps.mbxPost {wLoop : Bool} {w e timeout : Nat} (h : Keeps s t) : Keeps s (mbxPost t wLoop w e timeout) :=
  .ite (.ite h h.fabErr) (.ite h.setFld (.ite h.setFld (.ite h.endSend
    h.mbxCapture.epSet.epXing.setFld.setFlag.setFlag.setFlag.setFlag.setPostTmo.ring)))

protected theorem Keeps.mbxAck {e code : Nat} (h : Keeps s t) : Keeps s (mbxAck t e code) :=
  .ite h.setFld (.ite h.setFld (.ite h.epSet.setFld (.ring (.setFld (.epSet (.ite h.setFld.setFlag h.endSend))))))

protected theorem Keeps.mbxAckWrite {e code : Nat} (h : Keeps s t) : Keeps s (mbxAckWrite t e code) :=
  .ite (.ite h h.tabCmd.mbxAck) h.mbxAck

protected theorem Keeps.crossing {a b : Nat} (h : Keeps s t) : Keeps s (crossing t a b) :=
  h.epSet.endSend.epXing.epXing.ring.ring.ring.ring

protected theorem Keeps.mbxTimeout {e : Nat} (h : Keeps s t) : Keeps s (mbxTimeout t e) := by
  unfold Machine.mbxTimeout
  split
  · exact .ite h.endSend.setFlag h
  · exact h

protected theorem Keeps.mbxTick (h : Keeps s t) : Keeps s (mbxTick t) :=
  (h.forN (fun _ _ h₁ => .ite h₁.crossing h₁)).forN (fun _ _ h₁ => h₁.mbxTimeout)

protected theorem Keeps.mbxAbort {e : Nat} (h : Keeps s t) : Keeps s (mbxAbort t e) :=
  .ite h.endSend h

protected theorem Keeps.mbxFree {e : Nat} (h : Keeps s t) : Keeps s (mbxFree t e) :=
  h.mbxAbort.epSet.setFlag.setFlag

protected theorem Keeps.mbxCfg2 {e : Nat} {v : Word} (h : Keeps s t) : Keeps s (mbxCfg2 t e v) :=
  .ite h.setFld h.plainWrite

protected theorem Keeps.dbTarget {d : Nat} {v : Word} (h : Keeps s t) : Keeps s (dbTarget t d v) :=
  .ite h.setFld h

protected theorem Keeps.rxReset {e : Nat} (h : Keeps s t) : Keeps s (rxReset t e) :=
  .setFld (.setFlag (.setFlag (.forN (.ite h h.mbxAbort.epSet) (fun _ _ h₁ => h₁.setReg))))

protected theorem Keeps.txReset {e : Nat} (h : Keeps s t) : Keeps s (txReset t e) :=
  .setReg (.setTmo (.ite h.setFlag h))

protected theorem Keeps.mbxResetParties {p : Bool → Nat → Bool} (h : Keeps s t) : Keeps s (mbxResetParties t p) :=
  h.forN (fun _ _ h₁ => .ite h₁.rxReset (.ite h₁.txReset h₁))

protected theorem Keeps.mbxUnload {loop : Nat} (h : Keeps s t) : Keeps s (mbxUnload t loop) :=
  h.mbxResetParties

protected theorem Keeps.mbxAppReset (h : Keeps s t) : Keeps s (mbxAppReset t) :=
  h.mbxResetParties

protected theorem Keeps.mbxDeliver {loop ofs : Nat} {w : Word} (h : Keeps s t) : Keeps s (mbxDeliver t loop ofs w) :=
  .ite (by split; exacts [h.mbxAck, h]) (by split; exacts [.ite h.mbxPayload (.ite h.mbxPost h), h])

protected theorem Keeps.deliverWrites {loop : Nat} {l : List (Nat × Word)} (h : Keeps s t) : Keeps s (deliverWrites t loop l) :=
  h.foldl (fun _ _ h₁ => .ite h₁.mbxDeliver h₁.submitWrite)

end

end Sys2Proof.Machine

end

section
/-! SUPPORT. What the operations of Sys2Proof/Machine/Can.lean keep of the canonical form. -/

namespace Sys2Proof.Machine

section
set_option Elab.async false
variable {s t u : State}

protected theorem Keeps.objResult {o code : Nat} (h : Keeps s t) : Keeps s (objResult t o code) :=
  h.setCan

protected theorem Keeps.canRetire {f : CanFrame} {code : Nat} (h : Keeps s t) : Keeps s (canRetire t f code) := by
  unfold Machine.canRetire
  split
  · exact h.objResult
  · exact h.writeIova.writeIova

protected theorem Keeps.canRetireAll {c : Nat} {p : CanFrame → Bool} {code : Nat} (h : Keeps s t) : Keeps s (canRetireAll t c p code) :=
  h.setCanC.foldl (fun _ _ h₁ => h₁.canRetire)

protected theorem Keeps.canEnable {c : Nat} (h : Keeps s t) : Keeps s (canEnable t c) :=
  .ite h.setFlag.setFld.setFld.setFld.setFld.setCanC h.setFlag.setFld

protected theorem Keeps.canDisable {c : Nat} (h : Keeps s t) : Keeps s (canDisable t c) :=
  h.canRetireAll.setFlag.setFld

protected theorem Keeps.canCtlWrite {c : Nat} {v : Word} (h : Keeps s t) : Keeps s (canCtlWrite t c v) :=
  .ite h.plainWrite.canEnable (.ite h.plainWrite.canDisable h.plainWrite)

protected theorem Keeps.canErrState {c : Nat} (h : Keeps s t) : Keeps s (canErrState t c) :=
  .ite h.setFld h

protected theorem Keeps.canGoOff {c : Nat} (h : Keeps s t) : Keeps s (canGoOff t c) :=
  h.canRetireAll.setFld.setFld.count.setCanC.logEvent

protected theorem Keeps.canTxError {c : Nat} (h : Keeps s t) : Keeps s (canTxError t c) :=
  .ite h.canGoOff h.count.canErrState

protected theorem Keeps.canRxGood {c : Nat} (h : Keeps s t) : Keeps s (canRxGood t c) :=
  h.setFld.canErrState

protected theorem Answers.execBusOn {c : Fin 6} (h : Keeps s t) : Answers s (execBusOn c t) := by
  unfold Machine.execBusOn
  split
  · exact .ite h.setFld.setFld.setFld.setCanC.logEvent.next h.next
  · exact h.next

protected theorem Keeps.sigFrame {c i : Nat} {d : List Byte} (h : Keeps s t) : Keeps s (sigFrame t c i d) := by
  unfold Machine.sigFrame
  dsimp only
  split
  · exact h.setCanC
  · exact h.setCan

protected theorem Keeps.strmFrame {k stamp : Nat} {d : List Byte} (h : Keeps s t) : Keeps s (strmFrame t k stamp d) := by
  unfold Machine.strmFrame
  dsimp only
  split
  · exact h
  · exact h.setCan.streamSample

protected theorem Keeps.rxqWrite {c hdr stamp : Nat} {d : List Byte} (h : Keeps s t) : Keeps s (rxqWrite t c hdr stamp d) :=
  .ite h h.writeIova.setFld

protected theorem Keeps.sigPublish {i raw : Nat} {valid : Bool} (h : Keeps s t) : Keeps s (sigPublish t i raw valid) :=
  h.publish.publish

protected theorem Keeps.canLatch (h : Keeps s t) : Keeps s (canLatch t) :=
  h.foldl (fun _ _ h₁ => by split; exacts [h₁.setCan.sigPublish, h₁])

protected theorem Keeps.canSigExpire {i : Nat} (h : Keeps s t) : Keeps s (canSigExpire t i) := by
  unfold Machine.canSigExpire
  dsimp only
  split
  · exact .ite h.setCan.unvalid.unvalid h
  · exact h

protected theorem Keeps.virtSend {c : Nat} {f : CanFrame} (h : Keeps s t) : Keeps s (virtSend t c f) :=
  h.setCan.canRetire

protected theorem Keeps.canSkip {c : Nat} (h : Keeps s t) : Keeps s (canSkip t c) :=
  h.setCanC

protected theorem Keeps.objQueue {c o : Nat} {f : CanFrame} (h : Keeps s t) : Keeps s (objQueue t c o f) :=
  .setCanC (.ite h.setCan h)

protected theorem Keeps.objInstant {o : Nat} (h : Keeps s t) : Keeps s (objInstant t o) := by
  unfold Machine.objInstant
  dsimp only
  split
  · exact h
  · exact .ite h (.ite h.tabRec.virtSend (.ite h.canSkip h.tabRec.objQueue))

protected theorem Keeps.canTick (h : Keeps s t) : Keeps s (canTick t) :=
  (h.foldl (fun _ _ h₁ => .ite h₁.objInstant h₁)).forN (fun _ _ h₁ => .ite h₁ (by split; exacts [h₁.setCanC, h₁]))

protected theorem Keeps.canExpire {c : Nat} (h : Keeps s t) : Keeps s (canExpire t c) :=
  h.canRetireAll

protected theorem Keeps.canExpiries (h : Keeps s t) : Keeps s (canExpiries t) :=
  (h.foldl (fun _ _ h₁ => h₁.canSigExpire)).forN (fun _ _ h₁ => h₁.canExpire)

protected theorem Keeps.canNoRetry {c : Nat} (h : Keeps s t) : Keeps s (canNoRetry t c) :=
  h.canRetireAll

protected theorem Keeps.txqEntry {c a : Nat} (h : Keeps s t) : Keeps s (txqEntry t c a) := by
  unfold Machine.txqEntry
  split
  · next e => exact h.fetchIova.of_snd e
  · next e =>
    exact (h.fetchIova.of_snd e).use fun h => .ite h.canRetire (.ite h.virtSend (.ite h.canRetire (.ite h.canRetire h.setCanC)))

protected theorem Keeps.txqServe {c fuel : Nat} (h : Keeps s t) : Keeps s (txqServe t c fuel) := by
  induction fuel generalizing t with
  | zero => exact h
  | succ k ih => exact .ite h (ih h.txqEntry.setFld)

protected theorem Keeps.txqTail {c : Nat} {v : Word} (h : Keeps s t) : Keeps s (txqTail t c v) :=
  h.setReg.txqServe

protected theorem Keeps.canCancelLoop {loop : Nat} (h : Keeps s t) : Keeps s (canCancelLoop t loop) :=
  h.forN (fun _ _ h₁ => h₁.canRetireAll)

protected theorem Keeps.canSigRead (h : Keeps s t) : Keeps s (canSigRead t) :=
  .ite (h.forN (fun _ _ h₁ => h₁.setReg)).setFld h.setFld

protected theorem Keeps.canSigWrite (h : Keeps s t) : Keeps s (canSigWrite t) :=
  .ite h.setFld.setCan h.setFld

protected theorem Keeps.canEntApply {key : Nat} {e : List Word} (h : Keeps s t) : Keeps s (canEntApply t key e) :=
  .ite h.setCan.setCan.unvalid.unvalid h.setCan

protected theorem Keeps.canTabApply (h : Keeps s t) : Keeps s (canTabApply t) :=
  (h.foldl (fun _ _ h₁ => by split; exacts [h₁.canEntApply, h₁])).setCan

protected theorem Keeps.canStrmCfg {k : Nat} {v : Word} (h : Keeps s t) : Keeps s (canStrmCfg t k v) :=
  .ite (.ite h.plainWrite.setFld h.plainWrite.setFld) h.plainWrite

end

end Sys2Proof.Machine

end

section
/-! SUPPORT. What the operations of Sys2Proof/Machine/Crop.lean keep of the canonical form. -/

namespace Sys2Proof.Machine

section
set_option Elab.async false
variable {s t u : State}

protected theorem Keeps.livePort {k : Nat} {valid : Bool} (h : Keeps s t) : Keeps s (livePort t k valid) := by
  unfold Machine.livePort
  split
  · next b e => exact h.setLivePub e
  · exact h.setPub

protected theorem Keeps.snUnvalid {u : Nat} (h : Keeps s t) : Keeps s (snUnvalid t u) :=
  .forN (.ite h.setFlag h) (fun _ _ h₁ => h₁.livePort)

protected theorem Keeps.snFaultSet {u c : Nat} (h : Keeps s t) : Keeps s (snFaultSet t u c) :=
  h.setFld.snUnvalid.use fun h₁ => .logEvent (.ite h₁.count h₁)

protected theorem Keeps.snFaultClear {u : Nat} (h : Keeps s t) : Keeps s (snFaultClear t u) :=
  (h.setFld.setFlag.forN (fun _ _ h₁ => h₁.livePort)).logEvent

protected theorem Keeps.snConfirm {u : Nat} (h : Keeps s t) : Keeps s (snConfirm t u) :=
  .ite h.snFaultSet (.ite h.snFaultClear h)

protected theorem Keeps.snCount {u c n : Nat} (h : Keeps s t) : Keeps s (snCount t u c n) :=
  h.setSnU.snConfirm

protected theorem Keeps.snAcquire {u : Nat} {code : Int} (h : Keeps s t) : Keeps s (snAcquire t u code) :=
  h.setSnU

protected theorem Keeps.digLatch {n : Nat} (h : Keeps s t) : Keeps s (digLatch t n) :=
  .ite h.setSnU h

protected theorem Keeps.snOff {u : Nat} (h : Keeps s t) : Keeps s (snOff t u) :=
  h.setFlag.setFld.setReg.forN (fun _ _ h₁ => h₁.latchNow)

protected theorem Keeps.burdenClose {n : Nat} (h : Keeps s t) : Keeps s (burdenClose t n) := by
  unfold Machine.burdenClose
  split
  · exact .ite h.setSnU h
  · exact h

protected theorem Keeps.uinLatch {n cause : Nat} (h : Keeps s t) : Keeps s (uinLatch t n cause) :=
  .ite h.snOff (.latchNow (.latchNow (.latchNow (.setReg (.setFld (.setFlag (.snCount (.ite h.burdenClose.digLatch h.burdenClose))))))))

protected theorem Keeps.brgLatch {n cause : Nat} (h : Keeps s t) : Keeps s (brgLatch t n cause) :=
  .ite h h.snCount.setFlag.setFld.setReg.latchNow.latchNow

protected theorem Keeps.losEnv {n at_ e : Nat} (h : Keeps s t) : Keeps s (losEnv t n at_ e) :=
  .ite h h.setSnU

protected theorem Keeps.losSample {n at_ : Nat} {x : Int} (h : Keeps s t) : Keeps s (losSample t n at_ x) := by
  unfold Machine.losSample
  dsimp only
  split
  · exact .ite h.setSnU.losEnv h.setSnU
  · exact h.setSnU

protected theorem Keeps.losSamples {n : Nat} {ws : List Word} (h : Keeps s t) : Keeps s (losSamples t n ws) :=
  h.foldl (fun _ _ h₁ => h₁.losSample)

protected theorem Keeps.losLatch {n : Nat} {short : Bool} (h : Keeps s t) : Keeps s (losLatch t n short) :=
  h.snCount.latchNow.latchNow.latchNow.latchNow.latchNow.latchNow.setSnU.setReg.setReg.setReg.setReg.setFlag

protected theorem Keeps.imuLatch {ws : List Word} (h : Keeps s t) : Keeps s (imuLatch t ws) :=
  .ite h.setUin (h.setUin.forN (fun _ _ h₁ => h₁.latchNow)).setReg

protected theorem Keeps.supTrip {n kind : Nat} (h : Keeps s t) : Keeps s (supTrip t n kind) :=
  .ite (h.setFld.forN (fun _ _ h₁ => .ite h₁.snFaultSet h₁)) h

protected theorem Keeps.supWatch {ws : List Int} {n : Nat} (h : Keeps s t) : Keeps s (supWatch t ws n) :=
  .ite h.setUin.supTrip (.ite h.setUin.supTrip h.setUin)

protected theorem Keeps.supLatch {ws : List Word} (h : Keeps s t) : Keeps s (supLatch t ws) :=
  ((h.setUin.forN (fun _ _ h₁ => .ite h₁ h₁.latchNow)).forN (fun _ _ h₁ => h₁.setFld)).forN (fun _ _ h₁ => h₁.supWatch)

protected theorem Keeps.snLatch {u : Nat} {x : Word × List Word} (h : Keeps s t) : Keeps s (snLatch t u x) :=
  .ite h.imuLatch (.ite h.supLatch (.ite h (.use (.ite h.snAcquire (.ite h.snAcquire h.losSamples)) fun h₁ => .ite h₁ (.ite h₁.uinLatch
      (.ite h₁.brgLatch h₁.losLatch)))))

protected theorem Keeps.quadEdge {e : PinEdge} (h : Keeps s t) : Keeps s (quadEdge t e) :=
  h.setSnU

protected theorem Keeps.freqEdge {e : PinEdge} (h : Keeps s t) : Keeps s (freqEdge t e) :=
  .ite h.setSnU h.setSnU

protected theorem Keeps.edgeAct {e : PinEdge} (h : Keeps s t) : Keeps s (edgeAct t e) :=
  .setSnU (.ite h.quadEdge (.ite h.freqEdge h))

protected theorem Keeps.edgesTake (h : Keeps s t) : Keeps s (edgesTake t) :=
  h.setUin.foldl (fun _ _ h₁ => h₁.edgeAct)

protected theorem Keeps.snTick {lat : List (Fin 62 × Word × List Word)} (h : Keeps s t) : Keeps s (snTick t lat) :=
  h.edgesTake.foldl (fun _ _ h₁ => h₁.snLatch)

protected theorem Answers.execInputEdge {n : Fin 48} {open_ : Bool} {v : Half} {off : Fin 8192} (h : Keeps s t) :
    Answers s (execInputEdge n open_ v off t) := by
  unfold Machine.execInputEdge
  split
  · exact .ite h.next h.setSnU.setUin.next
  · exact h.next

protected theorem Keeps.refFault {g : Nat} (h : Keeps s t) : Keeps s (refFault t g) :=
  .ite (h.forN (fun _ _ h₁ => .ite h₁ h₁.snFaultSet)) h

protected theorem Keeps.refFrame {refs : Nat} (h : Keeps s t) : Keeps s (refFrame t refs) :=
  h.forN (fun _ _ h₁ => h₁.setUin.refFault)

protected theorem Keeps.testPend {t' : TestRun} {b : Bool} (h : Keeps s t) : Keeps s (testPend t t' b) :=
  h.foldl (fun _ _ h₁ => .ite h₁.setFlag h₁)

protected theorem Keeps.testDrop {t' : TestRun} {code : Nat} (h : Keeps s t) : Keeps s (testDrop t t' code) :=
  h.setUin.testPend.setFld.setFlag

protected theorem Keeps.testCancel {sup : Bool} {unit : Nat} (h : Keeps s t) : Keeps s (testCancel t sup unit) := by
  unfold Machine.testCancel
  split
  · exact .ite h.testDrop h
  · exact h

protected theorem Keeps.snTestCmd {test unit : Nat} (h : Keeps s t) : Keeps s (snTestCmd t test unit) :=
  .ite h.setFld (.ite h.setFld h.setFld.setFlag.setFld.setFld.setFlag.setUin.testPend)

protected theorem Keeps.testShow {t' : TestRun} {b : Bool} (h : Keeps s t) : Keeps s (testShow t t' b) :=
  h.foldl (fun _ _ h₁ => .ite h₁.setFlag h₁)

protected theorem Keeps.testStart {t' : TestRun} (h : Keeps s t) : Keeps s (testStart t t') :=
  ((h.setUin.foldl (fun _ _ h₁ => h₁.livePort)).testPend.foldl (fun _ _ h₁ => .ite h₁.setFlag h₁)).setFld.setFlag.setFlag.testShow

protected theorem Keeps.testFrame (h : Keeps s t) : Keeps s (testFrame t) := by
  unfold Machine.testFrame
  split
  · exact .ite h (.ite (.ite h.testStart h) (.ite h.testStart (.ite h.setUin.setFld h.testDrop)))
  · exact h

protected theorem Keeps.supWrite {n : Nat} {v : Word} (h : Keeps s t) : Keeps s (supWrite t n v) :=
  .ite (.ite h.plainWrite h.plainWrite.setFld) h.plainWrite.testCancel

protected theorem Keeps.chCfgWrite {u a : Nat} {v : Word} (h : Keeps s t) : Keeps s (chCfgWrite t u a v) :=
  .use (.ite h.plainWrite h.plainWrite.setSnU) fun h₁ => .ite h₁ h₁.testCancel.snUnvalid

protected theorem Keeps.unitCfgWrite {u a : Nat} {v : Word} (h : Keeps s t) : Keeps s (unitCfgWrite t u a v) :=
  .ite h.chCfgWrite (.ite h.plainWrite h.supWrite)

protected theorem Keeps.senseCfgWrite {a : Nat} {v : Word} (h : Keeps s t) : Keeps s (senseCfgWrite t a v) :=
  .ite h.setUin h.unitCfgWrite

protected theorem Keeps.snRegWrite {init u a : Nat} {v : Word} {isCfg : Bool} (h : Keeps s t) : Keeps s (snRegWrite t init u a v isCfg) :=
  .ite h (.ite h.senseCfgWrite h.plainWrite)

protected theorem Keeps.testRelease (h : Keeps s t) : Keeps s (testRelease t) :=
  h.setUin.foldl (fun _ _ h₁ => h₁.unitCfgWrite)

protected theorem Answers.execSenseTestEnd {pass : Bool} (h : Keeps s t) : Answers s (execSenseTestEnd pass t) := by
  unfold Machine.execSenseTestEnd
  split
  · exact .ite (h.testShow.setUin.setFlag.setFlag.use fun h₁ => .next (.testRelease (.ite h₁.setReg h₁))) h.next
  · exact h.next

end

end Sys2Proof.Machine

end

section
/-! SUPPORT. What the operations of Sys2Proof/Machine/Display.lean keep of the canonical form. -/

namespace Sys2Proof.Machine

section
set_option Elab.async false
variable {s t u : State}

protected theorem Keeps.setPanel {q : PanelSeq} (h : Keeps s t) : Keeps s (setPanel t q) :=
  h.setDsp.setFld

protected theorem Keeps.panelStart (h : Keeps s t) : Keeps s (panelStart t) :=
  .ite h.setPanel.setFld.setDsp h

protected theorem Keeps.panelStop (h : Keeps s t) : Keeps s (panelStop t) := by
  unfold Machine.panelStop
  split
  · exact h.setPanel
  · exact h.setPanel
  · exact h.setPanel
  · exact h

protected theorem Keeps.panelFast (h : Keeps s t) : Keeps s (panelFast t) := by
  unfold Machine.panelFast
  split
  · exact h
  · exact h
  · exact h.setPanel

protected theorem Keeps.pnlCtlWrite {v : Word} (h : Keeps s t) : Keeps s (pnlCtlWrite t v) :=
  .ite h.plainWrite.panelStart (.ite h.plainWrite.panelStop h.plainWrite)

protected theorem Keeps.panelTrip {r : Nat} (h : Keeps s t) : Keeps s (panelTrip t r) :=
  h.setPanel.setFld.raise.logEvent

protected theorem Keeps.panelTick (h : Keeps s t) : Keeps s (panelTick t) := by
  unfold Machine.panelTick
  split
  · exact .ite h.setPanel.panelStart h
  · exact .ite h.setFld h
  · exact h.panelStart
  · exact h

protected theorem Keeps.frameTakes (h : Keeps s t) : Keeps s (frameTakes t) :=
  .count (.setDsp (by split; exacts [h.setFld.count, h]))

protected theorem Keeps.frameFetch (h : Keeps s t) : Keeps s ((frameFetch t).2) :=
  h.noteXfer

protected theorem Keeps.frameShown {fault under : Nat} (h : Keeps s t) : Keeps s (frameShown t fault under) :=
  h.frameTakes.frameFetch.count.count.count.use fun h₁ => .ite h₁.count.count h₁.count.count.dmaSkip

protected theorem Keeps.fbFlip {v : Word} (h : Keeps s t) : Keeps s (fbFlip t v) :=
  h.setDsp

protected theorem Keeps.ageSample (h : Keeps s t) : Keeps s (ageSample t) :=
  .ite (h.noteXfer.noteXfer.foldl (fun _ _ h₁ => h₁.storeIova)).setDsp h

protected theorem Keeps.ageGains (h : Keeps s t) : Keeps s (ageGains t) :=
  .ite h.setDsp h

protected theorem Keeps.frameStart {fault under : Nat} (h : Keeps s t) : Keeps s (frameStart t fault under) := by
  unfold Machine.frameStart
  dsimp only
  split
  · exact .ite h.setDsp.count.setDsp (.ite h.setDsp.count.setDsp.setDsp h.setDsp.count.setPanel.setDsp.frameShown)
  · exact h.setDsp.count.frameShown.ageSample.ageGains.setDsp
  · exact .ite h.setDsp.count.frameShown (.ite h.setDsp.count.setDsp h.setDsp.count.setPanel.panelStart)
  · exact h.setDsp.count

protected theorem Keeps.stripCommit {img : List Word} (h : Keeps s t) : Keeps s (stripCommit t img) :=
  h.setBst

protected theorem Keeps.stripGo (h : Keeps s t) : Keeps s (stripGo t) :=
  .ite h (.setFlag (.setBst (.ite h.count h)))

protected theorem Keeps.stripBegin {img : List Word} {blank : Bool} (h : Keeps s t) : Keeps s (stripBegin t img blank) :=
  h.count.setBst.setFlag.setFld.use fun h₁ => .stripCommit (.ite h₁.setFlag.logEvent h₁)

protected theorem Keeps.stripStart (h : Keeps s t) : Keeps s (stripStart t) :=
  .ite h (by split; exacts [.ite (h.setBst.setFlag.use fun h₁ => .setFlag (.stripBegin (.ite h₁.raise h₁))) h,
               by split; exacts [.ite h.setBst.stripBegin.setFlag h, h]])

protected theorem Keeps.stripEnd (h : Keeps s t) : Keeps s (stripEnd t) := by
  unfold Machine.stripEnd
  split
  · exact .ite h.setBst.setFlag.setFlag.raise.stripCommit h
  · exact h

protected theorem Keeps.stripTick (h : Keeps s t) : Keeps s (stripTick t) :=
  h.stripEnd.stripStart

protected theorem Keeps.stripInterrupt (h : Keeps s t) : Keeps s (stripInterrupt t) := by
  unfold Machine.stripInterrupt
  dsimp only
  split
  · exact h.setBst.setFlag.count
  · exact h.setBst.setFlag.setFlag.count
  · exact h

protected theorem Keeps.stripSave (h : Keeps s t) : Keeps s (stripSave t) :=
  .ite h.setBst.stripCommit h

protected theorem Keeps.stripBoot (h : Keeps s t) : Keeps s (stripBoot t) := by
  unfold Machine.stripBoot
  split
  · exact h.setReg.setFlag.setBst.setFlag.setFlag
  · exact h.setBst.setFlag.logEvent.setFlag

end

end Sys2Proof.Machine

end

section
/-! SUPPORT. What the operations of Sys2Proof/Machine/Gnss.lean keep of the canonical form. -/

namespace Sys2Proof.Machine

section
set_option Elab.async false
variable {s t u : State}

protected theorem Keeps.chanShow {k w : Nat} (h : Keeps s t) : Keeps s (chanShow t k w) :=
  h.setReg.setFld

protected theorem Keeps.allocWrite {v : Word} (h : Keeps s t) : Keeps s (allocWrite t v) :=
  h.plainWrite.setGns

protected theorem Keeps.chanRelease {old new : Nat} (h : Keeps s t) : Keeps s (chanRelease t old new) :=
  h.foldl (fun _ _ h₁ => h₁.chanShow)

protected theorem Answers.execChAllocApply (h : Keeps s t) : Answers s (execChAllocApply t) := by
  unfold Machine.execChAllocApply
  split
  · exact .ite h.setGns.chanRelease.next h.next
  · exact h.next

protected theorem Keeps.fleetCorr {module : Nat} {baseFlag : Bool} (h : Keeps s t) : Keeps s (fleetCorr t module baseFlag) :=
  .ite h.setGns h

protected theorem Keeps.baseCheck {off : Nat} (h : Keeps s t) : Keeps s (baseCheck t off) :=
  .ite h.setGns.setFlag h

protected theorem Keeps.aidTake {isPos : Bool} {unc : Nat} (h : Keeps s t) : Keeps s (aidTake t isPos unc) :=
  .ite (by split; exacts [.ite h.setGns h, h.setGns]) h.noteTimeAid

protected theorem Keeps.gnsEpoch {w : List Word} (h : Keeps s t) : Keeps s (gnsEpoch t w) :=
  .ite h ((h.setGns.foldl (fun _ _ h₁ => h₁.aidTake)).setGns.setFld.setFld.count.baseCheck.use fun h₁ => .ite h₁ h₁.setGns)

protected theorem Keeps.refPointLatch {code i : Nat} (h : Keeps s t) : Keeps s (refPointLatch t code i) :=
  h.forN (fun _ _ h₁ => h₁.latchNow)

protected theorem Keeps.currentLatch {code k : Nat} (h : Keeps s t) : Keeps s (currentLatch t code k) := by
  unfold Machine.currentLatch
  dsimp only
  split
  · exact h
  · exact (h.forN (fun _ _ h₁ => h₁.latchNow)).latchNow

protected theorem Keeps.gnsLatch (h : Keeps s t) : Keeps s (gnsLatch t) :=
  .ite h ((h.forN (fun _ _ h₁ => h₁.refPointLatch)).latchNow.latchNow.latchNow.latchNow.latchNow.latchNow.latchNow.forN
      (fun _ _ h₁ => h₁.currentLatch)).setGns

protected theorem Keeps.aidWrite {isPos : Bool} {unc : Nat} (h : Keeps s t) : Keeps s (aidWrite t isPos unc) :=
  .ite h.setGns h.aidTake

protected theorem Keeps.gnsRestart {eph : Nat} {alm : Bool} (h : Keeps s t) : Keeps s (gnsRestart t eph alm) :=
  h.setGns

protected theorem Keeps.gnsStart (h : Keeps s t) : Keeps s (gnsStart t) :=
  h.fresh.gnsRestart

protected theorem Keeps.baseWrite {k : Nat} {v : Word} (h : Keeps s t) : Keeps s (baseWrite t k v) :=
  .ite h.plainWrite.setGns.setFlag h.plainWrite

protected theorem Keeps.nbWrite {k : Nat} {v : Word} (h : Keeps s t) : Keeps s (nbWrite t k v) :=
  h.plainWrite.setGns.setFld

protected theorem Keeps.matchedLatch {k : Nat} (h : Keeps s t) : Keeps s (matchedLatch t k) := by
  unfold Machine.matchedLatch
  dsimp only
  split
  · exact h
  · exact .ite h (h.setGns.setFld.forN (fun _ _ h₁ => h₁.latchNow)).setGns

protected theorem Keeps.nbDeparted {module : Nat} (h : Keeps s t) : Keeps s (nbDeparted t module) :=
  h.forN (fun _ _ h₁ => .ite (h₁.setGns.forN (fun _ _ h₂ => h₂.latchNext)).setFld h₁)

protected theorem Keeps.ppsEmit {b : Nat} (h : Keeps s t) : Keeps s (ppsEmit t b) :=
  .ite h.setGns.setReg64.setFld.setFlag.count.setGns h.setGns.count

protected theorem Keeps.ppsTick (h : Keeps s t) : Keeps s (ppsTick t) :=
  .use (.ite h.ppsEmit h) fun h₁ => .setGns (.ite h₁ h₁.setFlag)

protected theorem Keeps.gnsTick (h : Keeps s t) : Keeps s (gnsTick t) :=
  (h.forN (fun _ _ h₁ => h₁.matchedLatch)).ppsTick

end

end Sys2Proof.Machine

end

section
/-! SUPPORT. What the operations of Sys2Proof/Machine/Gwen.lean keep of the canonical form. -/

namespace Sys2Proof.Machine

section
set_option Elab.async false
variable {s t u : State}

protected theorem Keeps.setCtx {u : Nat} {c : Option GwCtx} (h : Keeps s t) : Keeps s (t.setCtx u c) :=
  h.setGw

protected theorem Keeps.prismDone {c : GwCtx} {p : Prism} (h : Keeps s t) : Keeps s ((prismDone t c p).1) := by
  unfold Machine.prismDone
  dsimp only
  split
  · exact h.setWords
  · exact h

protected theorem Keeps.prismAuto {c : GwCtx} (h : Keeps s t) : Keeps s ((prismAuto t c).1) := by
  unfold Machine.prismAuto
  split
  · exact .ite_fst h.prismDone h
  · exact h

protected theorem Keeps.prismWait {c : GwCtx} (h : Keeps s t) : Keeps s ((prismWait t c).1) := by
  unfold Machine.prismWait
  split
  · exact h.prismDone
  · exact h

protected theorem Keeps.nextSample {u : Nat} (h : Keeps s t) : Keeps s (nextSample t u) := by
  unfold Machine.nextSample
  split
  · exact h.setCtx
  · exact h.setGw.setCtx

protected theorem Keeps.countTrapRun {loop : Nat} {trapped : Bool} (h : Keeps s t) : Keeps s (countTrapRun t loop trapped) :=
  h.setCe

protected theorem Keeps.fusInvalid {task tick : Nat} (h : Keeps s t) : Keeps s (fusInvalid t task tick) :=
  h.foldl fun _ _ h => .ite h.setStaged h

protected theorem Keeps.fusTaskStop {task cause : Nat} (h : Keeps s t) : Keeps s (fusTaskStop t task cause) :=
  h.setFld.setFld.logEvent

protected theorem Keeps.doubleFault {u : Nat} {c : GwCtx} (h : Keeps s t) : Keeps s (doubleFault t u c) :=
  .ite h.lockOut (.ite h.countTrapRun.fusTaskStop h.countTrapRun.stopLoop.dmaCancelLoop)

protected theorem Keeps.trapRecord {u : Nat} {c : GwCtx} (h : Keeps s t) : Keeps s (trapRecord t u c) :=
  .logEvent (.ite (by split; exacts [h.count.setFld, h]) (.ite h.count h))

protected theorem Keeps.taskTrapped {u : Nat} {c : GwCtx} (h : Keeps s t) : Keeps s (taskTrapped t u c) :=
  .ite h.fusInvalid h

protected theorem Keeps.takeTrap {u : Nat} {c : GwCtx} {cause : Nat} {faddr : Word} (h : Keeps s t) : Keeps s (takeTrap t u c cause faddr) := by
  unfold Machine.takeTrap
  dsimp only
  split
  · exact .ite h.trapRecord.taskTrapped.doubleFault.nextSample h.trapRecord.taskTrapped.setCtx
  · exact h.trapRecord.taskTrapped.doubleFault.nextSample

protected theorem Keeps.budgetTrap {u : Nat} {c : GwCtx} (h : Keeps s t) : Keeps s (budgetTrap t u c) := by
  refine Keeps.takeTrap ?_
  split
  · split
    · exact h.prismDone
    · exact h
  · exact h

protected theorem Keeps.stickyToStatus {loop fl : Nat} (h : Keeps s t) : Keeps s (stickyToStatus t loop fl) := by
  unfold Machine.stickyToStatus
  split
  · exact .ite (.setFlag (.ite (.setFlag (.ite (.setFlag (.ite h.setFlag h)) (.ite h.setFlag h))) (.ite (.setFlag (.ite h.setFlag h))
      (.ite h.setFlag h)))) (.ite (.setFlag (.ite (.setFlag (.ite h.setFlag h)) (.ite h.setFlag h))) (.ite (.setFlag (.ite h.setFlag h))
      (.ite h.setFlag h)))
  · exact h

protected theorem Keeps.trapLimit {c : GwCtx} (h : Keeps s t) : Keeps s (trapLimit t c) := by
  unfold Machine.trapLimit
  split
  · exact .ite h.stopSlot.dmaCancelLoop h
  · exact h

protected theorem Keeps.taskLimit {c : GwCtx} (h : Keeps s t) : Keeps s (taskLimit t c) :=
  .ite h.fusTaskStop h

protected theorem Keeps.endSample {u : Nat} {c : GwCtx} (h : Keeps s t) : Keeps s (endSample t u c) :=
  .use (.ite h.stickyToStatus h) fun h₁ => .nextSample (.ite h₁.setCe.countTrapRun.trapLimit
      (.ite h₁.setCe.countTrapRun.taskLimit h₁.setCe.countTrapRun))

protected theorem Keeps.gwRun {u : Nat} {vec : Bool} {waits : GwCtx → Bool} {body : State → GwCtx → GwEff} (h : Keeps s t)
    (hb : ∀ t c, Keeps s t → Effects s (body t c)) : Keeps s (gwRun t u vec waits body) := by
  unfold Machine.gwRun
  split
  · exact h
  · next c _ =>
    have h₁ : Keeps s (prismAuto t c).1 := h.prismAuto
    generalize prismAuto t c = x at h₁ ⊢
    obtain ⟨t, c⟩ := x
    refine .ite h₁.takeTrap (.ite h₁.takeTrap (.ite h₁.takeTrap (.ite h₁.budgetTrap ?_)))
    have h₂ : Keeps s (if waits c then prismWait t c else (t, c)).1 := by
      split
      · exact h₁.prismWait
      · exact h₁
    generalize (if waits c then prismWait t c else (t, c)) = x at h₂ ⊢
    obtain ⟨t, c⟩ := x
    have h₃ := hb t c h₂
    dsimp only
    split
    · exact h₂.takeTrap
    · next e => rw [e] at h₃; exact .ite h₂.budgetTrap (.setCtx h₃)

protected theorem Keeps.gwSimple {u : Nat} {vec : Bool} {cost : Nat} {f : GwCtx → GwCtx} (h : Keeps s t) : Keeps s (gwSimple t u vec cost f) :=
  h.gwRun (fun _ _ h₁ => h₁.go)

protected theorem Keeps.gwAlu {u rd rs1 rs2 cost : Nat} {f : Word → Word → Word} (h : Keeps s t) : Keeps s (gwAlu t u rd rs1 rs2 cost f) :=
  h.gwSimple

protected theorem Keeps.gwImm {u rd rs1 : Nat} {f : Word → Word} (h : Keeps s t) : Keeps s (gwImm t u rd rs1 f) :=
  h.gwSimple

protected theorem Keeps.gwFp1 {u rd rs1 cost : Nat} {f : Word → FRes} (h : Keeps s t) : Keeps s (gwFp1 t u rd rs1 cost f) :=
  h.gwSimple

protected theorem Keeps.gwFp {u rd rs1 rs2 cost : Nat} {f : Word → Word → FRes} (h : Keeps s t) : Keeps s (gwFp t u rd rs1 rs2 cost f) :=
  h.gwSimple

protected theorem Keeps.gwFp3 {u rd rs1 rs2 rs3 cost : Nat} {f : Word → Word → Word → FRes} (h : Keeps s t) :
    Keeps s (gwFp3 t u rd rs1 rs2 rs3 cost f) :=
  h.gwSimple

protected theorem Keeps.gwVec {u vd va vb cost : Nat} {f : Word → Word → Word → FRes} (h : Keeps s t) : Keeps s (gwVec t u vd va vb cost f) :=
  h.gwRun (fun _ _ h₁ => h₁.go)

end

end Sys2Proof.Machine

end

section
/-! SUPPORT. What the operations of Sys2Proof/Machine/Loops.lean keep of the canonical form. -/

namespace Sys2Proof.Machine

section
set_option Elab.async false
variable {s t u : State}

protected theorem Keeps.cmdResult {via code : Nat} {pending : Bool} {loop kind slot : Nat} (h : Keeps s t) :
    Keeps s (cmdResult t via code pending loop kind slot) :=
  h.setReg

protected theorem Keeps.cmdRefuse {via code loop kind : Nat} (h : Keeps s t) : Keeps s (cmdRefuse t via code loop kind) :=
  .ite h.setFld h.cmdResult

protected theorem Keeps.recRefused {a w code : Nat} (h : Keeps s t) : Keeps s (recRefused t a w code) :=
  h.tabCmd

protected theorem Keeps.loopCmdWrite {via cmd loop win : Nat} (h : Keeps s t) : Keeps s (loopCmdWrite t via cmd loop win) :=
  .ite h.recRefused.cmdRefuse (.ite h.recRefused.cmdRefuse h.setCe.cmdResult)

protected theorem Keeps.clearBytes {a n : Nat} (h : Keeps s t) : Keeps s (clearBytes t a n) :=
  h.setMem (smWf_filter _)

protected theorem Keeps.slotReset {e i : Nat} (h : Keeps s t) : Keeps s (slotReset t e i) :=
  h.forN (fun _ _ h₁ => h₁.setReg)

protected theorem Keeps.slotCopy {e i e' i' : Nat} (h : Keeps s t) : Keeps s (slotCopy t e i e' i') :=
  h.forN (fun _ _ h₁ => h₁.setReg)

protected theorem Keeps.slotTake {e i loop base size : Nat} (h : Keeps s t) : Keeps s (slotTake t e i loop base size) :=
  h.slotReset.setFlag.setFld.setFld.setFld.setFld

protected theorem Keeps.slotEmpty {e i : Nat} (h : Keeps s t) : Keeps s (slotEmpty t e i) :=
  h.clearBytes.slotReset

protected theorem Keeps.portPublish {loop port : Nat} {w : Word} {valid : Bool} (h : Keeps s t) : Keeps s (portPublish t loop port w valid) :=
  .ite h.publish h.publish.tabRec

protected theorem Keeps.setAct {loop port : Nat} {a : PortAct} (h : Keeps s t) : Keeps s (setAct t loop port a) :=
  h.setCe

protected theorem Keeps.portMove {loop : Nat} {e : List Word} (h : Keeps s t) : Keeps s (portMove t loop e) := by
  unfold Machine.portMove
  dsimp only
  split
  · exact h
  · exact h.portPublish.setAct
  · exact .ite h.portPublish.setAct h.portPublish

protected theorem Keeps.portMotion (h : Keeps s t) : Keeps s (portMotion t) :=
  h.foldl (fun _ _ h₁ => h₁.portMove)

protected theorem Keeps.stopActPort {loop : Nat} {e : List Word} (h : Keeps s t) : Keeps s (stopActPort t loop e) :=
  .ite h.portPublish (.ite h.portPublish h.setAct.portMove)

protected theorem Keeps.stopActions (h : Keeps s t) : Keeps s (stopActions t) :=
  h.foldl (fun _ _ h₁ => h₁.setCe.foldl (fun _ _ h₂ => h₂.stopActPort))

protected theorem Keeps.publishOne {h' : Held} (h : Keeps s t) : Keeps s (publishOne t h') :=
  .deliverWrites (.foldl (.ite (h.foldl (fun _ _ h₁ => h₁.publish)).tabDigest (h.foldl (fun _ _ h₁ => h₁.portPublish))) (fun _ _ h₁ => h₁.tabRec))

protected theorem Keeps.publishHeld (h : Keeps s t) : Keeps s (publishHeld t) :=
  h.setCe.foldl (fun _ _ h₁ => h₁.publishOne)

protected theorem Keeps.publishLost (h : Keeps s t) : Keeps s (publishLost t) :=
  h.setCe.foldl (fun _ _ h₁ => h₁.foldl (fun _ _ h₂ => h₂.portPublish))

protected theorem Keeps.disableRetire {loop : Nat} (h : Keeps s t) : Keeps s (disableRetire t loop) :=
  h.dmaCancelLoop.canCancelLoop.foldl (fun _ _ h₁ => h₁.setAct)

protected theorem Keeps.disableTick (h : Keeps s t) : Keeps s (disableTick t) :=
  h.foldl (fun _ _ h₁ => h₁.disableRetire)

protected theorem Keeps.dropSamples {loop : Nat} (h : Keeps s t) : Keeps s (dropSamples t loop) :=
  h.setGw.forN (fun _ _ h₁ => by split; exacts [.ite h₁.nextSample h₁, h₁])

protected theorem Keeps.fetchImage {e base size len iova : Nat} (h : Keeps s t) (hu : fetchImage t e base size len iova = some u) : Keeps s u := by
  obtain ⟨b, -, rfl⟩ := Option.map_eq_some_iff.mp hu
  exact h.clearBytes.setBytes

protected theorem Keeps.acceptLoad {c : LoopCmd} {loop : Nat} (h : Keeps s t) : Keeps s (acceptLoad t c loop) := by
  refine .ite h.cmdResult (.ite h.cmdResult (.ite h.cmdResult (.ite h.cmdResult ?_)))
  split
  · refine .ite h.cmdResult ?_
    dsimp only
    split
    · next e => exact (h.noteXfer.fetchImage e).setCe
    · exact h.noteXfer.setCe
  · exact h.cmdResult

protected theorem Keeps.nativeFresh {loop : Nat} (h : Keeps s t) : Keeps s (nativeFresh t loop) :=
  .ite h.setGov (.ite h.setYld (.ite h.setYld h))

protected theorem Keeps.loadDone {x : LoadCopy} {fault : Bool} (h : Keeps s t) : Keeps s (loadDone t x fault) :=
  .ite h.setCe.cmdResult (h.setCe.slotTake.nativeFresh.foldl (fun _ _ h₁ => h₁.portPublish)).cmdResult.refreshEngines

protected theorem Answers.execLoadCopyComplete {loop : Fin 128} {fault : Bool} (h : Keeps s t) : Answers s (execLoadCopyComplete loop fault t) := by
  unfold Machine.execLoadCopyComplete
  split
  · exact .ite h.loadDone.next h.next
  · exact h.next

protected theorem Keeps.startLoop {loop : Nat} (h : Keeps s t) : Keeps s (startLoop t loop) := by
  unfold Machine.startLoop
  split
  · exact h
  · exact (h.setFld.setFlag.setFld.setCe.foldl (fun _ _ h₁ => h₁.setAct)).use fun h₁ => .refreshEngines (.ite h₁.setYld h₁)

protected theorem Keeps.stopNow {loop : Nat} (h : Keeps s t) : Keeps s (stopNow t loop) :=
  (h.dropSamples.setCe.foldl (fun _ _ h₁ => h₁.setAct)).stopLoop.dmaCancelLoop.refreshEngines

protected theorem Keeps.disableLoop {loop : Nat} (h : Keeps s t) : Keeps s (disableLoop t loop) := by
  unfold Machine.disableLoop
  split
  · exact h
  · exact .refreshEngines (.ite h.setFld.setCe.disableRetire h.setFld.setCe)

protected theorem Keeps.unloadLoop {loop : Nat} (h : Keeps s t) : Keeps s (unloadLoop t loop) := by
  unfold Machine.unloadLoop
  split
  · exact h
  · exact h.slotEmpty.mbxUnload.setCe.refreshEngines

protected theorem Keeps.acceptLoopCmd {loop : Nat} {c : LoopCmd} (h : Keeps s t) : Keeps s (acceptLoopCmd t loop c) := by
  unfold Machine.acceptLoopCmd
  dsimp only
  split
  · exact h.setCe.tabRec.acceptLoad
  · exact .cmdResult (.ite h.setCe.tabRec.startLoop h.setCe.tabRec)
  · exact .ite h.setCe.tabRec.stopNow.cmdResult h.setCe.tabRec.cmdResult
  · exact .ite h.setCe.tabRec.disableLoop.cmdResult h.setCe.tabRec.cmdResult
  · exact .ite h.setCe.tabRec.unloadLoop.cmdResult h.setCe.tabRec.cmdResult

protected theorem Keeps.acceptLoopCmds (h : Keeps s t) : Keeps s (acceptLoopCmds t) :=
  h.foldl (fun _ _ h₁ => by split; exacts [h₁.acceptLoopCmd, h₁])

protected theorem Answers.execLoopDisableDone {loop : Fin 128} (h : Keeps s t) : Answers s (execLoopDisableDone loop t) := by
  unfold Machine.execLoopDisableDone
  split
  · exact .ite h.setFld.setFlag.refreshEngines.next h.next
  · exact h.next

protected theorem Keeps.recordLatches {loop : Nat} (h : Keeps s t) : Keeps s (recordLatches t loop) :=
  h.recKeys

protected theorem Keeps.queueSample {u : Nat} {c : GwCtx} (h : Keeps s t) : Keeps s (queueSample t u c) := by
  unfold Machine.queueSample
  dsimp only
  split
  · exact .ite h.setGw.nextSample h.setGw
  · split
    · exact .ite h.setGw.trapRecord.setGw.nextSample h.setGw.trapRecord.setGw
    · exact .ite h.setGw.trapRecord.doubleFault.nextSample h.setGw.trapRecord.doubleFault

protected theorem Keeps.dispatchSlot {e i : Nat} (h : Keeps s t) : Keeps s (dispatchSlot t e i) :=
  .ite (by split; exacts [.ite h.setCe (h.setCe.setFld.recordLatches.use fun h₁ => .ite h₁ h₁.queueSample),
             .ite h.setFld.setCe.recordLatches h.setFld.setCe.recordLatches.queueSample]) h

protected theorem Keeps.dispatchTick (h : Keeps s t) : Keeps s (dispatchTick t) :=
  .ite (h.foldl (fun _ _ h₁ => .ite h₁.dispatchSlot h₁)) h

protected theorem Answers.execDeliveredWriteFault {loop : Fin 128} {addr : BitVec 40} {kind : Fin 4} (h : Keeps s t) :
    Answers s (execDeliveredWriteFault loop addr kind t) := by
  unfold Machine.execDeliveredWriteFault
  split
  · exact h.fabErr.setGw.next
  · exact h.next

end

end Sys2Proof.Machine

end

section
/-! SUPPORT. What the operations of Sys2Proof/Machine/Fusion.lean keep of the canonical form. -/

namespace Sys2Proof.Machine

section
set_option Elab.async false
variable {s t u : State}

protected theorem Keeps.showRun (h : Keeps s t) : Keeps s (showRun t) :=
  h.setFld

protected theorem Keeps.noteTask {k : Nat} (h : Keeps s t) : Keeps s (noteTask t k) :=
  h.setFus

protected theorem Keeps.fusPub {p key : Nat} {v : Word} {valid : Bool} {code : Nat} (h : Keeps s t) : Keeps s (fusPub t p key v valid code) :=
  h.stageAt

protected theorem Keeps.fusRepub {p key : Nat} {v : Word} {valid : Bool} {code : Nat} (h : Keeps s t) : Keeps s (fusRepub t p key v valid code) :=
  h.setStaged

protected theorem Keeps.wheelTrack {w : Nat} (h : Keeps s t) : Keeps s (wheelTrack t w) :=
  .ite h.setFus h

protected theorem Keeps.wheelSlip {w : Nat} (h : Keeps s t) : Keeps s (wheelSlip t w) := by
  unfold Machine.wheelSlip
  split
  · exact .ite h.setFus.setFld.count.logEvent h
  · exact h

protected theorem Keeps.wheelBack {w : Nat} (h : Keeps s t) : Keeps s (wheelBack t w) := by
  unfold Machine.wheelBack
  split
  · exact .ite h.setFus.setFld.logEvent h
  · exact h

protected theorem Keeps.imuCheck (h : Keeps s t) : Keeps s (imuCheck t) :=
  .ite (h.setFlag.setFus fun _ e => e ▸ ⟨rfl, rfl⟩) (.ite h (h.setFlag.setFus fun _ e => e ▸ ⟨rfl, rfl⟩))

protected theorem Keeps.egoAlign (h : Keeps s t) : Keeps s (egoAlign t) :=
  .ite h.setFus.setFlag h.setFus

protected theorem Keeps.egoGnss (h : Keeps s t) : Keeps s (egoGnss t) :=
  .ite (.use (.ite h.count h) fun h₁ => .ite h₁.setFus h₁) h

protected theorem Keeps.egoTravel (h : Keeps s t) : Keeps s (egoTravel t) :=
  (h.forN (fun _ _ h₁ => h₁.setFus)).setFus

protected theorem Keeps.pointPub {code p : Nat} (h : Keeps s t) : Keeps s (pointPub t code p) :=
  h.forN (fun _ _ h₁ => h₁.fusPub)

protected theorem Keeps.egoShow (h : Keeps s t) : Keeps s (egoShow t) :=
  h.setFld.setFld

protected theorem Keeps.egoSample (h : Keeps s t) : Keeps s (egoSample t) :=
  (((h.imuCheck.setFus.egoGnss.egoAlign.forN (fun _ _ h₁ => h₁.wheelTrack.wheelSlip.wheelBack)).egoTravel.forN (fun _ _ h₁ => h₁.fusPub)).forN
      (fun _ _ h₁ => h₁.pointPub)).fusPub.setFus.egoShow.noteTask

protected theorem Keeps.cropBins {r : InfRes} (h : Keeps s t) : Keeps s (cropBins t r) :=
  (h.forN (fun _ _ h₁ => h₁.forN (fun _ _ h₂ => h₂.setFus))).setFus

protected theorem Keeps.cropSection {k : Nat} (h : Keeps s t) : Keeps s ((cropSection t k).1) := by
  unfold Machine.cropSection
  dsimp only
  split
  · exact h.setFus
  · exact h

protected theorem Keeps.densPub {key : Nat} {w : Word} {fresh ok : Bool} {code : Nat} (h : Keeps s t) : Keeps s (densPub t key w fresh ok code) :=
  .ite h.fusPub h.fusRepub

protected theorem Keeps.cropDensity {code : Nat} (h : Keeps s t) : Keeps s (cropDensity t code) :=
  .forN (.forN (.foldl_fst h fun _ _ h => h.cropSection) fun _ _ h => h.densPub) fun _ _ h => h.densPub

protected theorem Keeps.cropQuality {r : InfRes} (h : Keeps s t) : Keeps s (cropQuality t r) :=
  h.noteTask.fusPub.fusPub.setFus

protected theorem Keeps.cropSample (h : Keeps s t) : Keeps s (cropSample t) := by
  unfold Machine.cropSample
  extract_lets mine z u u₁ slip u₂ age
  have h₁ : Keeps s u := h.setFus fun _ e => e ▸ ⟨rfl, rfl⟩
  have h₂ : Keeps s u₂ := Keeps.cropDensity (h₁.foldl fun _ _ h => .ite h (.ite h.cropBins h.cropQuality))
  have ha : ∀ {u q x}, Keeps s u → Keeps s (age u q x) := by
    intro u q x hu
    simp only [age]
    split
    · exact hu.fusPub
    · exact hu
  exact (ha (ha h₂)).noteTask

protected theorem Keeps.trackStart {o : ObjIn} (h : Keeps s t) : Keeps s (trackStart t o) :=
  .ite h (.ite (h.count.setFus fun _ e => e ▸ ⟨rfl, rfl⟩) (by split; exacts [h.count.count.setFus fun _ e => e ▸ ⟨rfl, rfl⟩, h.count]))

protected theorem Keeps.corridorPub (h : Keeps s t) : Keeps s (corridorPub t) :=
  .setFlag (by split; exacts [(h.forN (fun _ _ h₁ => h₁.fusPub)).fusPub, h.forN (fun _ _ h₁ => h₁.fusPub)])

protected theorem Keeps.writeTracks (h : Keeps s t) : Keeps s (writeTracks t) :=
  h.writeIova.setFus

protected theorem Keeps.lifeCount {a b : List Track} (h : Keeps s t) : Keeps s (lifeCount t a b) :=
  h.foldl (fun _ _ h₁ => by split; exacts [h₁.count, h₁.count, h₁.count, h₁.count, h₁])

/-- Counting the tracks' changes of life leaves the fusion part. -/
theorem lifeCount_fus (a b : List Track) (s : State) : (lifeCount s a b).fus = s.fus := by
  unfold lifeCount
  induction a generalizing s with
  | nil => rfl
  | cons x a ih =>
    rw [List.foldl_cons]
    refine (ih _).trans ?_
    split
    all_goals rfl

protected theorem Keeps.trackSample (h : Keeps s t) : Keeps s (trackSample t) := by
  unfold Machine.trackSample
  refine Keeps.noteTask (.writeTracks (.corridorPub (.setFld ?_)))
  exact .foldl (.setFus (.lifeCount h.setFus.setFus) fun _ e => e ▸ (lifeCount_fus _ _ _).symm ▸ ⟨rfl, rfl⟩) fun _ _ h => h.trackStart

protected theorem Keeps.parCount (h : Keeps s t) : Keeps s (parCount t) :=
  .ite h.count (.use (.ite h h.count) fun h₁ => .use (.ite h₁ h₁.count) fun h₂ => .ite h₂ h₂.count)

protected theorem Keeps.parShow {u : Nat} (h : Keeps s t) : Keeps s (parShow t u) :=
  h.setReg.setReg

protected theorem Keeps.parOffset {l : List Word} {os : List Int} {k : Nat} (h : Keeps s t) : Keeps s (parOffset l os t k) :=
  h.setFus

protected theorem Keeps.parHeld {k : Nat} (h : Keeps s t) : Keeps s (parHeld t k) :=
  .ite h.setFld.count.logEvent h

protected theorem Keeps.parClear (h : Keeps s t) : Keeps s (parClear t) :=
  h.forN (fun _ _ h₁ => .ite h₁.setFld h₁)

protected theorem Keeps.parSample (h : Keeps s t) : Keeps s (parSample t) :=
  .forN (.ite ((h.parCount.forN (fun _ _ h₁ => h₁.parOffset)).parClear.forN (fun _ _ h₁ => h₁.parShow)) h.parCount) (fun _ _ h₁ => h₁.parHeld)

protected theorem Keeps.parCommit (h : Keeps s t) : Keeps s (parCommit t) :=
  .ite (h.setFld.setFus fun _ e => e ▸ ⟨rfl, rfl⟩) h.setFld

protected theorem Keeps.parApply (h : Keeps s t) : Keeps s (parApply t) :=
  .ite ((h.forN (fun _ _ h₁ => h₁.forN (fun _ _ h₂ => h₂.setReg))).setFus.setFld.forN (fun _ _ h₁ => h₁.parShow)) h

protected theorem Keeps.fusTake {r : InfRes} (h : Keeps s t) : Keeps s (fusTake t r) :=
  .setFus (.ite h.setFus h)

protected theorem Keeps.fusHandOver (h : Keeps s t) : Keeps s (fusHandOver t) :=
  .ite h.setFus (h.setFus.foldl (fun _ _ h₁ => h₁.tabRec.fusTake))

protected theorem Keeps.runTask {k : Nat} (h : Keeps s t) : Keeps s (runTask t k) := by
  unfold Machine.runTask
  split
  · exact h.egoSample
  · exact h.cropSample
  · exact h.trackSample
  · exact h.parSample

protected theorem Keeps.fusTick (h : Keeps s t) : Keeps s (fusTick t) := by
  refine Keeps.foldl ?_ fun _ _ h => h.runTask
  have h := h.fusHandOver
  have hw : ∀ n, Keeps s (((fusHandOver t).setFld Fd.FUS_TRK_WR_V n).setFus { (fusHandOver t).fus with trkWr := none }) := fun _ =>
    h.setFld.setFus fun _ e => e ▸ ⟨rfl, rfl⟩
  refine .ite (.recKeys ?_) ?_
  all_goals
    split
    · split
      · exact .ite (hw _) h
      · exact h
    · refine Keeps.setCtx (Keeps.setGw ?_)
      split
      · exact .ite (hw _) h
      · exact h

protected theorem Keeps.fusHalt (h : Keeps s t) : Keeps s (fusHalt t) :=
  ((h.setFlag.tabRec.setFus.setCtx.setGw.setStaged).forN fun _ _ h => h.fusInvalid).showRun.logEvent

protected theorem Keeps.infStart (h : Keeps s t) : Keeps s (infStart t) := by
  unfold Machine.infStart
  split
  · exact .ite h.setFus h
  · exact h

protected theorem Keeps.infResult {j : InfJob} {status count : Nat} {data : List Word} (h : Keeps s t) :
    Keeps s (infResult t j status count data) :=
  h.writeIova.writeIova.count.setFus

protected theorem Answers.execInferenceResult {j : Fin 8} {count : Half} {data : List Word} (h : Keeps s t) :
    Answers s (execInferenceResult j count data t) := by
  unfold Machine.execInferenceResult
  split
  · exact h.setFus.infResult.next
  · exact h.next

protected theorem Keeps.infAborts (h : Keeps s t) : Keeps s (infAborts t) :=
  h.foldl (fun _ _ h₁ => h₁.setFus.infResult)

protected theorem Keeps.lidarDatagram {n sens count seq : Nat} {last : Bool} {recs : List Word} {sub : Nat} (h : Keeps s t) :
    Keeps s (lidarDatagram t n sens count seq last recs sub) :=
  .ite h (.use (.ite h.scanDrop h) fun h₁ => .use (.ite h₁ h₁.setScanOff.streamSample) fun h₂ =>
    .ite h₂.setScan.scanDrop (.ite (h₂.setScan.setFld.setScan fun _ e => e ▸ ⟨_, _, rfl, rfl⟩) h₂.setScan.setScan))

protected theorem Keeps.scanExpire {n : Nat} (h : Keeps s t) : Keeps s (scanExpire t n) := by
  unfold Machine.scanExpire
  split
  · exact .ite h.scanDrop h
  · exact h

protected theorem Keeps.infTick (h : Keeps s t) : Keeps s (infTick t) :=
  (h.infAborts.forN (fun _ _ h₁ => h₁.infStart)).forN (fun _ _ h₁ => h₁.scanExpire)

protected theorem Keeps.fusWrite {init addr : Nat} {v : Word} (h : Keeps s t) : Keeps s (fusWrite t init addr v) :=
  .ite h (.ite (.ite h.tabCmd.parCommit h) (h.tabCmd.setFus fun _ e => e ▸ tabCmd_onlyParts t addr [v.toNat] .fus (by simp) ▸ ⟨rfl, rfl⟩))

protected theorem Keeps.trackOff (h : Keeps s t) : Keeps s (trackOff t) :=
  .ite h.setFlag.fusInvalid h

protected theorem Keeps.fusCfgApply (h : Keeps s t) : Keeps s (fusCfgApply t) :=
  .trackOff (.showRun (.parApply (.setFlag (.foldl (.ite h.setFus.setFld h.setFus) (fun _ _ h₁ => .ite h₁ (.ite h₁.setFld h₁.plainWrite))))))

protected theorem Keeps.fusStart (h : Keeps s t) : Keeps s (fusStart t) :=
  h.setFus.showRun

end

end Sys2Proof.Machine

end

section
/-! SUPPORT. What the operations of Sys2Proof/Machine/Eth.lean keep of the canonical form. -/

namespace Sys2Proof.Machine

section
set_option Elab.async false
variable {s t u : State}

protected theorem Keeps.ethDrop {p : Nat} (h : Keeps s t) : Keeps s (ethDrop t p) :=
  .ite h.count h

protected theorem Keeps.gclDataWrite {v : Word} (h : Keeps s t) : Keeps s (gclDataWrite t v) :=
  .ite h.setReg.setEth h.setReg

protected theorem Keeps.gclCommit {p : Nat} (h : Keeps s t) : Keeps s (gclCommit t p) :=
  .ite h.setReg.setEth h.setReg

protected theorem Keeps.gclApply (h : Keeps s t) : Keeps s (gclApply t) :=
  h.forN (fun _ _ h₁ => by split; exacts [h₁.setEth.setReg, h₁])

protected theorem Keeps.ptpShow (h : Keeps s t) : Keeps s (ptpShow t) :=
  .ite h.setFld.setFld.setFld.setFlag (by split; exacts [.ite h.setFld.setFld.setFld.setFlag h.setFld.setFld.setFld.setFlag,
                                            .ite h.setFld.setFld.setFld.setFlag h.setFld.setFld.setFld.setFlag])

protected theorem Keeps.ptpMessage {p : Nat} {d : List Byte} {stamp : Nat} (h : Keeps s t) : Keeps s (ptpMessage t p d stamp) :=
  .ite h (by split; exacts [.ptpShow (.ite h.setEth h), .ite (.ite h.setReg64.noteTimeAid h.setReg64) h, h])

protected theorem Keeps.ethLearn {mac p : Nat} (h : Keeps s t) : Keeps s (ethLearn t mac p) :=
  .ite h.setEth h

protected theorem Keeps.udpDeliver {port sub : Nat} {d : List Byte} (h : Keeps s t) : Keeps s (udpDeliver t port sub d) := by
  unfold Machine.udpDeliver
  split
  · exact h.lidarDatagram
  · exact .ite h h.setEth

protected theorem Keeps.udpFragment {key ofs : Nat} {more : Bool} {d : List Byte} {port sub : Nat} (h : Keeps s t) :
    Keeps s (udpFragment t key ofs more d port sub) :=
  .ite h (.ite h.setEth (by split; exacts [h.setEth.udpDeliver, h.setEth]))

protected theorem Keeps.reasmExpire (h : Keeps s t) : Keeps s (reasmExpire t) :=
  h.setEth.count

end

end Sys2Proof.Machine

end

section
/-! SUPPORT. What the operations of Sys2Proof/Machine/Valve.lean keep of the canonical form. -/

namespace Sys2Proof.Machine

section
set_option Elab.async false
variable {s t u : State}

protected theorem Keeps.facetRec {n kind at_ : Nat} {l : List Nat} (h : Keeps s t) : Keeps s (facetRec t n kind at_ l) :=
  .ite h.tabRec (.ite h.setVlv h.tabRec)

protected theorem Keeps.facetDigest (h : Keeps s t) : Keeps s (facetDigest t) :=
  .ite h (h.setVlv.foldl (fun _ _ h₁ => h₁.tabDigest))

protected theorem Keeps.vlvShow {n : Nat} (h : Keeps s t) : Keeps s (vlvShow t n) :=
  .setFld (by split; exacts [.setFld (.setFlag (.setFlag (.ite h h.setFld))), .setFlag (.setFlag (.ite h h.setFld))])

protected theorem Keeps.phaseStart {n now : Nat} {r : BoostReq} (h : Keeps s t) : Keeps s (phaseStart t n now r) := by
  unfold Machine.phaseStart
  exact .facetRec (.vlvShow (.ite h.setVch.setFctx h.setVch.setFctx.setVbank.count.count.setFld))

protected theorem Keeps.phaseDrop {n now : Nat} (h : Keeps s t) : Keeps s (phaseDrop t n now) := by
  unfold Machine.phaseDrop
  dsimp only
  split
  · exact h
  · exact h.setVch.setVbank

protected theorem Keeps.chanOff {n now : Nat} (h : Keeps s t) : Keeps s (chanOff t n now) :=
  h.phaseDrop.setVch.setFld.vlvShow

protected theorem Keeps.ctxStop {n : Nat} (h : Keeps s t) : Keeps s (ctxStop t n) :=
  h.setFctx.vlvShow

protected theorem Keeps.ctxStart {n sub : Nat} (h : Keeps s t) : Keeps s (ctxStart t n sub) :=
  .ite (.vlvShow (.setFctx (.ite h h.setVch))) h

protected theorem Keeps.chanCancel {n sub : Nat} (h : Keeps s t) : Keeps s (chanCancel t n sub) :=
  .ctxStop (.chanOff (.ite h.setFld h))

protected theorem Keeps.chanEnable {n : Nat} (h : Keeps s t) : Keeps s (chanEnable t n) :=
  .ctxStart (.ite h.setFlag.setFld h.setFlag)

protected theorem Keeps.chanDisable {n : Nat} (h : Keeps s t) : Keeps s (chanDisable t n) :=
  h.setFlag.chanCancel

protected theorem Keeps.vlvCfgWrite {init n : Nat} {v : Word} (h : Keeps s t) : Keeps s (vlvCfgWrite t init n v) :=
  .ite h.fabErr (h.plainWrite.setFlag.use fun h₁ => .ite (.ite h₁ h₁.chanEnable) (.ite h₁.chanDisable h₁))

protected theorem Keeps.vlvGate {n : Nat} (h : Keeps s t) : Keeps s (vlvGate t n) :=
  .ite h (.ite h.setFld.vlvShow.ctxStart h.chanCancel.setFld)

protected theorem Keeps.vlvGates (h : Keeps s t) : Keeps s (vlvGates t) :=
  (h.forN (fun _ _ h₁ => h₁.vlvGate)).forN (fun _ _ h₁ => .ite h₁ h₁.setVbank)

protected theorem Keeps.reject {n now why : Nat} (h : Keeps s t) : Keeps s (reject t n now why) :=
  h.phaseDrop.setFctx.setFld.setFld.count.count.vlvShow.facetRec.logEvent

protected theorem Keeps.boostRequest {n now : Nat} {r : BoostReq} (h : Keeps s t) : Keeps s (boostRequest t n now r) :=
  .ite h.phaseStart (.ite h.phaseStart (.ite h.reject h.setVch.setFctx.setVbank.vlvShow))

protected theorem Keeps.grantNext {b now : Nat} (h : Keeps s t) : Keeps s (grantNext t b now) := by
  unfold Machine.grantNext
  split
  · split
    · exact .ite h.phaseStart h
    · exact h
  · exact h

protected theorem Keeps.waitExpire {n now : Nat} (h : Keeps s t) : Keeps s (waitExpire t n now) := by
  unfold Machine.waitExpire
  split
  · exact .ite h.reject h
  · exact h

protected theorem Keeps.vlvFault {n code : Nat} (h : Keeps s t) : Keeps s (vlvFault t n code) :=
  .ite h h.setFld.facetRec.raise.logEvent

protected theorem Keeps.vlvClear {n : Nat} (h : Keeps s t) : Keeps s (vlvClear t n) :=
  h.setFld.facetRec

protected theorem Keeps.kinkResult {n : Nat} {k : Option Nat} (h : Keeps s t) : Keeps s (kinkResult t n k) := by
  unfold Machine.kinkResult
  split
  · exact .ite h.count.setFld.setVch.setFld h.count.setFld.setVch
  · exact .ite h.setVch.setFld.vlvFault.logEvent h.setVch.setFld

protected theorem Keeps.phaseEnd {n now : Nat} {r : BoostReq} {pk : Bool} {k : Option Nat} (h : Keeps s t) : Keeps s (phaseEnd t n now r pk k) :=
  .use (.facetRec (.vlvShow (.ite h.phaseDrop.setFctx.kinkResult h.phaseDrop.setFctx.setFld))) fun h₁ => .ite h₁ h₁.grantNext

protected theorem Keeps.vlvLive {f : State → State} (h : Keeps s t) (hf : ∀ t, Keeps s t → Keeps s (f t)) : Keeps s (vlvLive t f) :=
  .ite h (hf _ h)

protected theorem Answers.execBoostPhaseEnd {n : Fin 32} {sub : Fin 500} {pk : Bool} {dip : CurrentDip} (h : Keeps s t) :
    Answers s (execBoostPhaseEnd n sub pk dip t) := by
  unfold Machine.execBoostPhaseEnd
  dsimp only
  split
  · exact .ite (h.vlvLive (fun _ h₁ => h₁.phaseEnd)).next h.next
  · exact h.next

protected theorem Keeps.readySet {b : Nat} {ok : Bool} (h : Keeps s t) : Keeps s (readySet t b ok) :=
  .ite h h.setFlag.facetRec

protected theorem Keeps.takeSet {n now : Nat} (h : Keeps s t) : Keeps s (takeSet t n now) :=
  .setFlag (by split; exacts [.setFctx (.ite h.setVch.phaseDrop.setFctx.vlvShow h.setVch), .ite h.setVch.phaseDrop.setFctx.vlvShow h.setVch])

protected theorem Keeps.shareIlim {n room : Nat} (h : Keeps s t) : Keeps s ((shareIlim t n room).1) :=
  .ite_fst (.ite h.setFld h.setFld.setFlag.logEvent) h.setFlag

protected theorem Keeps.countReach {n : Nat} {out : Bool} (h : Keeps s t) : Keeps s (countReach t n out) :=
  .ite h.setVch (.ite h.setVch.vlvFault (.ite h.setVch.vlvClear h.setVch))

protected theorem Keeps.swapApply {b sub : Nat} (h : Keeps s t) : Keeps s (swapApply t b sub) :=
  (h.setActive (smWf_foldl_smPut _ fun _ _ => rfl)).setVbank.forN fun _ _ h₁ => .ite h₁ h₁.setVch.ctxStart

protected theorem Keeps.bankSwapDue {b sub : Nat} (h : Keeps s t) : Keeps s (bankSwapDue t b sub) :=
  .ite h.swapApply h

protected theorem Keeps.bankSwap {init b : Nat} {v : Word} (h : Keeps s t) : Keeps s (bankSwap t init b v) :=
  .ite h.fabErr (.ite h.setVbank h)

protected theorem Keeps.codeWrite {init a : Nat} {v : Word} (h : Keeps s t) : Keeps s (codeWrite t init a v) :=
  .ite h.fabErr (.ite h.setVlv h)

protected theorem Keeps.chanFault {n code : Nat} (h : Keeps s t) : Keeps s (chanFault t n code) :=
  h.vlvFault.chanOff.ctxStop

protected theorem Keeps.bankFault {b code : Nat} (h : Keeps s t) : Keeps s (bankFault t b code) :=
  h.setFld.setVbank.facetRec.raise.count.logEvent

protected theorem Keeps.bankOff {b : Nat} (h : Keeps s t) : Keeps s (bankOff t b) :=
  h.forN (fun _ _ h₁ => h₁.chanOff.ctxStop)

protected theorem Keeps.causeGone {b : Nat} (h : Keeps s t) : Keeps s (causeGone t b) :=
  h.setVbank.facetRec

protected theorem Keeps.chanCool {n : Nat} (h : Keeps s t) : Keeps s (chanCool t n) :=
  .ite h.vlvClear.ctxStart h

protected theorem Keeps.coilOpen {n : Nat} {present : Bool} (h : Keeps s t) : Keeps s (coilOpen t n present) :=
  .ite (.ite h.vlvFault h) (.ite h.vlvClear h)

protected theorem Keeps.railFault {b code : Nat} (h : Keeps s t) : Keeps s (railFault t b code) :=
  h.bankFault.readySet.setVbank

protected theorem Keeps.bankClr {init b : Nat} {v : Word} (h : Keeps s t) : Keeps s (bankClr t init b v) :=
  .ite h.fabErr (.ite h.setFld h)

protected theorem Keeps.vlvTestCmd {mode test unit : Nat} (h : Keeps s t) : Keeps s (vlvTestCmd t mode test unit) :=
  .ite h.setFld (.ite h.setFld (.ite h.setFld (h.setFld.setFlag.setFld.setFld.setFlag.setVlv fun _ e => e ▸ ⟨rfl, rfl, rfl, rfl⟩)))

protected theorem Keeps.vlvTestStart {b sub : Nat} (h : Keeps s t) : Keeps s (vlvTestStart t b sub) := by
  unfold Machine.vlvTestStart
  split
  · exact .ite (.vlvShow (.setFld (.setFlag (.setFlag (.setVlv (.ite h.setVbank h.chanOff.ctxStop)))))) h
  · exact h

protected theorem Answers.execValveTestStart {sub : Fin 500} (h : Keeps s t) : Answers s (execValveTestStart sub t) := by
  unfold Machine.execValveTestStart
  split
  · exact .ite h.vlvTestStart.next h.next
  · exact h.next

protected theorem Keeps.vlvTestEnd {sub : Nat} {t' : TestRun} {pass : Bool} {r l : Half} (h : Keeps s t) : Keeps s (vlvTestEnd t sub t' pass r l) :=
  h.setVlv.setFlag.setFlag.use fun h₁ => .ite h₁.facetRec.setVbank.vlvShow.grantNext (.ctxStart (.vlvShow
      (.ite h₁.facetRec.setReg.setReg.setFld.setFld h₁.facetRec)))

protected theorem Answers.execValveTestEnd {sub : Fin 500} {pass : Bool} {r l : Half} (h : Keeps s t) :
    Answers s (execValveTestEnd sub pass r l t) := by
  unfold Machine.execValveTestEnd
  split
  · exact .ite (h.vlvLive (fun _ h₁ => h₁.vlvTestEnd)).next h.next
  · exact h.next

protected theorem Keeps.faultInput {n code : Nat} (h : Keeps s t) : Keeps s (faultInput t n code) := by
  unfold Machine.faultInput
  split
  · exact .ite h.chanCool h.vlvClear
  · exact h.chanFault
  · exact h.chanFault
  · exact h.vlvFault
  · exact h.vlvFault
  · exact h.vlvFault
  · exact h

protected theorem Keeps.bankInput {b code : Nat} (h : Keeps s t) : Keeps s (bankInput t b code) := by
  unfold Machine.bankInput
  split
  · exact h.causeGone
  · exact h.bankFault.bankOff
  · exact h.railFault

protected theorem Keeps.facetInput {r : TabRec} (h : Keeps s t) : Keeps s (facetInput t r) := by
  unfold Machine.facetInput
  split
  · exact h.readySet
  · split
    · exact .ite h h.phaseEnd
    · exact h
  · exact .ite h.bankInput h.faultInput
  · split
    · exact .ite h.vlvTestEnd h
    · exact h
  · exact h

protected theorem Keeps.facetDue {now : Nat} (h : Keeps s t) : Keeps s (facetDue t now) :=
  .ite h (h.setRpl.foldl (fun _ _ h₁ => h₁.facetInput))

protected theorem Keeps.carrierPeriod {b sub full : Nat} {mean : List Half} (h : Keeps s t) : Keeps s (carrierPeriod t b sub full mean) :=
  .setFld (.vlvLive (.foldl_fst (.vlvTestStart (.bankSwapDue (h.facetDue.forN fun _ _ h => h.takeSet))) fun _ _ h => h.shareIlim) fun _ h =>
    h.forN fun _ _ h => h.countReach.setFld)

protected theorem Answers.execCarrierPeriodStart {b : Fin 8} {sub : Fin 500} {full : Fin 16} {mean : List Half} (h : Keeps s t) :
    Answers s (execCarrierPeriodStart b sub full mean t) := by
  unfold Machine.execCarrierPeriodStart
  split
  · exact h.next
  · exact h.setVbank.carrierPeriod.next

protected theorem Keeps.vlvTestDrop (h : Keeps s t) : Keeps s (vlvTestDrop t) := by
  unfold Machine.vlvTestDrop
  split
  · exact .ite h h.setVlv.setFlag.setFld
  · exact h

protected theorem Keeps.vlvTick (h : Keeps s t) : Keeps s (vlvTick t) := by
  unfold Machine.vlvTick
  exact .vlvTestDrop (.forN (.forN h.facetDue fun _ _ h => .ite h.waitExpire h) fun _ _ h => h.grantNext)

end

end Sys2Proof.Machine

end

section
/-! SUPPORT. What the operations of Sys2Proof/Machine/Facet.lean keep of the canonical form. -/

namespace Sys2Proof.Machine

section
set_option Elab.async false
variable {s t u : State}

protected theorem Keeps.facetNext {n now : Nat} {c : FacetCtx} (h : Keeps s t) : Keeps s (facetNext t n now c) :=
  h.setFctx.setFld

protected theorem Keeps.facetRun {n sub op : Nat} {f : State → FInstr → Nat → State} (h : Keeps s t) (hf : ∀ t x1 x2, Keeps s t → Keeps s
    (f t x1 x2)) : Keeps s (facetRun t n sub op f) := by
  unfold Machine.facetRun
  dsimp only
  split
  · exact .ite (hf _ _ _ h.facetDue) h.facetDue
  · exact h.facetDue

protected theorem Keeps.facetReg {n sub op : Nat} {f : FInstr → FacetCtx → FacetCtx} (h : Keeps s t) : Keeps s (facetReg t n sub op f) :=
  h.facetRun (fun _ _ _ h₁ => h₁.facetNext)

protected theorem Keeps.keepEnd {n : Nat} (h : Keeps s t) : Keeps s (keepEnd t n) :=
  .ite h.setVch h

end

end Sys2Proof.Machine

end

section
/-! SUPPORT. What the operations of Sys2Proof/Machine/Keys.lean keep of the canonical form. -/

namespace Sys2Proof.Machine

section
set_option Elab.async false
variable {s t u : State}

protected theorem Keeps.setKey {type idx : Nat} {key : List Byte} {priv : Nat} (h : Keeps s t) : Keeps s (t.setKey type idx key priv) :=
  h.setUpd

end

end Sys2Proof.Machine

end

section
/-! SUPPORT. What the operations of Sys2Proof/Machine/Fleet.lean keep of the canonical form. -/

namespace Sys2Proof.Machine

section
set_option Elab.async false
variable {s t u : State}

protected theorem Keeps.flrCount {k : Nat} (h : Keeps s t) : Keeps s (flrCount t k) :=
  h.count

protected theorem Keeps.setLink {v : Nat} (h : Keeps s t) : Keeps s (t.setLink v) :=
  h.setFld

protected theorem Keeps.sendFrame {tx : FTx} {us : Nat} (h : Keeps s t) : Keeps s (sendFrame t tx us) :=
  h.setReg.setReg.setFlr

protected theorem Keeps.roleWrite {i r : Nat} (h : Keeps s t) : Keeps s (roleWrite t i r) :=
  .ite h.setFld (.ite h.setFld h.setFld.setFld.setFld)

protected theorem Keeps.rolesReset (h : Keeps s t) : Keeps s (rolesReset t) :=
  h.forN (fun _ _ h₁ => .ite h₁ h₁.setFld)

protected theorem Keeps.addRecs {l : List FRec} (h : Keeps s t) : Keeps s (addRecs t l) :=
  h.setFlr

protected theorem Keeps.txnShow (h : Keeps s t) : Keeps s (txnShow t) :=
  h.setFld.setFld

protected theorem Keeps.txnPromote (h : Keeps s t) : Keeps s (txnPromote t) :=
  h.setFlr.addRecs.txnShow

protected theorem Keeps.txnDeliver {x : FTxn} {code : Nat} {rsp : List Byte} (h : Keeps s t) : Keeps s (txnDeliver t x code rsp).1 := by
  unfold Machine.txnDeliver
  split
  · exact h
  · split
    · exact h.writeIova
    · dsimp only
      exact h.noteXfer

protected theorem Keeps.txnEnd {x : FTxn} {code : Nat} {rsp : List Byte} (h : Keeps s t) : Keeps s (txnEnd t x code rsp) := by
  have h₁ : Keeps s (txnDeliver t x code rsp).1 := h.txnDeliver
  unfold Machine.txnEnd
  generalize txnDeliver t x code rsp = y at h₁ ⊢
  obtain ⟨u, c⟩ := y
  refine Keeps.txnPromote ?_
  dsimp only
  split
  · exact (Keeps.count (Keeps.setFlr h₁ fun _ e => e ▸ rfl)).setFlr fun _ e => e ▸ rfl
  · exact Keeps.mbxAck (Keeps.count (Keeps.setFlr h₁ fun _ e => e ▸ rfl))

protected theorem Keeps.txnIssue {t' : FTxn} (h : Keeps s t) : Keeps s (txnIssue t t') :=
  h.setFlr.txnPromote

protected theorem Keeps.fleetRequest {e : Nat} (h : Keeps s t) : Keeps s (fleetRequest t e) := by
  unfold Machine.fleetRequest
  dsimp only
  split
  · exact h.mbxAck
  · split
    · exact h.noteXfer.txnIssue
    · exact h.noteXfer.mbxAck
    · exact h.noteXfer.mbxAck

protected theorem Keeps.txnTimeouts (h : Keeps s t) : Keeps s (txnTimeouts t) :=
  h.foldl (fun _ _ h₁ => h₁.txnEnd)

protected theorem Keeps.repeatRsp {k : FKept} (h : Keeps s t) : Keeps s (repeatRsp t k) :=
  .ite h.setFlr.addRecs h

protected theorem Keeps.repeatReq {t' : FTxn} (h : Keeps s t) : Keeps s (repeatReq t t') :=
  .ite h.setFlr.addRecs h

protected theorem Keeps.repeatAll (h : Keeps s t) : Keeps s (repeatAll t) :=
  (h.foldl (fun _ _ h₁ => h₁.repeatReq)).foldl (fun _ _ h₁ => h₁.repeatRsp)

protected theorem Keeps.ackRec {src tag held : Nat} (h : Keeps s t) : Keeps s (ackRec t src tag held) :=
  .ite h h.setFlr

protected theorem Keeps.keepReq {k : FKept} (h : Keeps s t) : Keeps s (keepReq t k) :=
  h.setFlr

protected theorem Keeps.fleetReply {k : FKept} {code : Nat} {rsp : List Byte} (h : Keeps s t) : Keeps s (fleetReply t k code rsp) :=
  h.keepReq.addRecs

protected theorem Keeps.reqSegment {src : Nat} {g : FleetSeg} (h : Keeps s t) : Keeps s (reqSegment t src g) := by
  unfold Machine.reqSegment
  split
  · exact .ite h.setFlr.addRecs h.keepReq.ackRec
  · dsimp only
    split
    · exact h.fleetReply
    · exact h.keepReq.ackRec

protected theorem Keeps.rspSegment {src : Nat} {g : FleetSeg} (h : Keeps s t) : Keeps s (rspSegment t src g) :=
  .ite h (by split; exacts [.ite h.setFlr.ackRec.txnEnd h.setFlr.ackRec, h])

protected theorem Keeps.segReceive {src : Nat} {g : FleetSeg} (h : Keeps s t) : Keeps s (segReceive t src g) :=
  .ite h (.ite h.rspSegment h.reqSegment)

protected theorem Keeps.segAck {src tag seg : Nat} (h : Keeps s t) : Keeps s (segAck t src tag seg) :=
  h.setFlr.setFlr

protected theorem Keeps.memberGone {m : Nat} (h : Keeps s t) : Keeps s (memberGone t m) :=
  (h.setFlag.foldl (fun _ _ h₁ => h₁.txnEnd)).nbDeparted

protected theorem Keeps.setQuotas (h : Keeps s t) : Keeps s (setQuotas t) :=
  (h.forN (fun _ _ h₁ => .ite h₁.setMbr h₁)).setFlr

protected theorem Keeps.depart {m : Nat} (h : Keeps s t) : Keeps s (depart t m) :=
  .ite h.setMbr.setFlag.setFlr.memberGone.setQuotas h

protected theorem Keeps.departSilent {m : Nat} (h : Keeps s t) : Keeps s (departSilent t m) :=
  .ite h.depart h

protected theorem Keeps.grantSlot {m ident : Nat} (h : Keeps s t) : Keeps s (grantSlot t m ident) :=
  h.setFlag.setFlag.setFld.setFld.setMbr.setFlr.setQuotas

protected theorem Keeps.startListen (h : Keeps s t) : Keeps s (startListen t) :=
  .ite h.setFlr.setLink.setFld h.setFlr.setLink.setFld

protected theorem Keeps.fleetEnable (h : Keeps s t) : Keeps s (fleetEnable t) :=
  .ite h.setFlag (.ite h.setFlag.setFld (.ite h.setFlag.setFld.startListen h.setFlag.setFld))

protected theorem Keeps.linkOff (h : Keeps s t) : Keeps s (linkOff t) :=
  h.setLink.setFlr fun _ e => e ▸ rfl

protected theorem Keeps.fleetDisable (h : Keeps s t) : Keeps s (fleetDisable t) :=
  .ite h.setFlag.setFlr.addRecs h.setFlag.linkOff

protected theorem Keeps.flrCfgWrite {v : Word} (h : Keeps s t) : Keeps s (flrCfgWrite t v) :=
  h.plainWrite.setFlag.use fun h₁ => .ite h₁.fleetEnable (.ite h₁.fleetDisable h₁)

protected theorem Keeps.flrDomWrite {v : Word} (h : Keeps s t) : Keeps s (flrDomWrite t v) :=
  .ite h.setFld h.plainWrite.setFld

protected theorem Keeps.beCoordinator {m : Nat} (h : Keeps s t) : Keeps s (beCoordinator t m) :=
  .setFlag (.setQuotas (.setFlr (.setFld (.setLink (.ite h h.grantSlot)))))

protected theorem Keeps.foundDomain (h : Keeps s t) : Keeps s (foundDomain t) :=
  .ite h.beCoordinator h

protected theorem Keeps.takeOver (h : Keeps s t) : Keeps s (takeOver t) :=
  .ite (.ite h.beCoordinator h.beCoordinator.depart) h

protected theorem Keeps.beaconLost (h : Keeps s t) : Keeps s (beaconLost t) :=
  .ite h.startListen h

protected theorem Keeps.flrScan (h : Keeps s t) : Keeps s (flrScan t) :=
  .ite (h.setFld.setFlr fun _ e => e ▸ rfl) h

protected theorem Keeps.flrTick (h : Keeps s t) : Keeps s (flrTick t) :=
  h.flrScan.txnTimeouts

protected theorem Keeps.holdExpire (h : Keeps s t) : Keeps s (holdExpire t) :=
  h.forN (fun _ _ h₁ => by split; exacts [.ite h₁.setMbr.setFlag h₁, h₁])

protected theorem Keeps.agingMembers (h : Keeps s t) : Keeps s (agingMembers t) :=
  h.forN (fun _ _ h₁ => .ite h₁.count.setMbr h₁)

protected theorem Keeps.autoChannel {energy : List Word} (h : Keeps s t) : Keeps s (autoChannel t energy) :=
  .ite (by dsimp only; split; exacts [h.setFlr, h]) h

protected theorem Keeps.coordStart {energy : List Word} (h : Keeps s t) : Keeps s (coordStart t energy) := by
  have h₁ : Keeps s (t.forN 64 departSilent) := h.forN fun _ _ h => h.departSilent
  have h₂ : Keeps s (holdExpire (autoChannel (t.forN 64 departSilent) energy)) := h₁.autoChannel.holdExpire
  unfold Machine.coordStart
  dsimp only
  generalize holdExpire (autoChannel (t.forN 64 departSilent) energy) = u at h₂ ⊢
  exact .ite h₂.setFlr.sendFrame.setFlr h₂

protected theorem Keeps.joinStart (h : Keeps s t) : Keeps s (joinStart t) := by
  unfold Machine.joinStart
  split
  · exact h.setLink.setFld.setFlr fun _ e => e ▸ rfl
  · exact h

protected theorem Keeps.keySwitch (h : Keeps s t) : Keeps s (keySwitch t) := by
  unfold Machine.keySwitch
  split
  · exact .ite h.setFlr h
  · exact h

protected theorem Keeps.chanSwitch (h : Keeps s t) : Keeps s (chanSwitch t) := by
  unfold Machine.chanSwitch
  split
  · exact .ite (h.setFld.setFlr fun _ e => e ▸ rfl) h
  · exact h

protected theorem Keeps.keyAnnounce {idx : Nat} (h : Keeps s t) : Keeps s (keyAnnounce t idx) :=
  .ite h.setFlr h

protected theorem Keeps.contFail {rsf rsub : Nat} (h : Keeps s t) : Keeps s (contFail t rsf rsub) := by
  unfold Machine.contFail
  split
  · exact h
  · exact .ite h (.ite (.ite h.startListen.setFlr h.setFlr) h.setFlr)

protected theorem Keeps.beaconMissed (h : Keeps s t) : Keeps s (beaconMissed t) :=
  h.setFlr.flrCount.use fun h₁ => .ite h₁.fresh.contFail h₁

protected theorem Keeps.sfBegin {energy : List Word} (h : Keeps s t) : Keeps s (sfBegin t energy) := by
  have h₁ : Keeps s (if t.linkSt != flCoord && !t.flr.got then beaconMissed t else t) := .ite h.beaconMissed h
  unfold Machine.sfBegin
  dsimp only
  generalize (if t.linkSt != flCoord && !t.flr.got then beaconMissed t else t) = u at h₁ ⊢
  have h₂ : ∀ x : FlrState, x.mbr = u.flr.mbr → Keeps s ((u.setFlr x).forN 5 fun s c => s.setReg (Ra.FLR_RADIO c) (energy.getD c 0)) :=
    fun x hx => (h₁.setFlr fun _ e => e ▸ hx).forN fun _ _ h => h.setReg
  refine Keeps.setFlr (Keeps.repeatAll (Keeps.agingMembers (Keeps.joinStart (Keeps.chanSwitch (Keeps.keySwitch ?_)))))
  split
  · exact ((h₂ _ rfl).setFld.setFlr fun _ e => e ▸ rfl).txnPromote
  · exact h₂ _ rfl

protected theorem Keeps.frameDrop {h' : FleetHdr} {k : Nat} (h : Keeps s t) : Keeps s (frameDrop t h' k) :=
  .use (.ite h.flrCount h.flrCount.setFlr) fun h₁ => .ite h₁.setFlr.setFlag.logEvent h₁

protected theorem Keeps.contResult {cacks : List (Nat × Nat)} {rsf rsub : Nat} (h : Keeps s t) : Keeps s (contResult t cacks rsf rsub) := by
  unfold Machine.contResult
  split
  · exact h
  · exact .ite h.setFlr.flrCount h.contFail

protected theorem Keeps.contStart {join : Bool} {recs : List FRec} {rsub : Nat} (h : Keeps s t) : Keeps s (contStart t join recs rsub) :=
  h.setFlr

protected theorem Keeps.beaconDomain {b : BeaconMsg} (h : Keeps s t) : Keeps s (beaconDomain t b) :=
  ((((h.foldl (fun _ _ h₁ => .ite h₁.memberGone h₁)).forN (fun _ _ h₁ => h₁.setFlag.setFlag)).foldl (fun _ _ h₁ => .setMbr
      (.ite h₁.setFld h₁))).foldl (fun _ _ h₁ => h₁.setMbr)).use fun h₁ => .ite h₁.setFlr.setFlr h₁.setFlr

protected theorem Keeps.beaconGrants {b : BeaconMsg} (h : Keeps s t) : Keeps s (beaconGrants t b) := by
  have hm : ∀ f n g, Keeps s ((t.setFld f n).setFlr { t.flr with granted := some g, cont := none }) := fun _ _ _ =>
    h.setFld.setFlr fun _ e => e ▸ rfl
  unfold Machine.beaconGrants
  dsimp only
  split
  · exact .use (.ite h (.ite (hm _ _ _) h.startListen.setFlr)) fun h => .ite h.startListen h
  · exact .ite h.startListen h

protected theorem Keeps.beaconSwitches {b : BeaconMsg} (h : Keeps s t) : Keeps s (beaconSwitches t b) :=
  .use (.ite h.setFlr h) fun h₁ => .use (.ite h₁.setFlr h₁) fun h₂ => .ite h₂.setFlr h₂

protected theorem Keeps.beaconTiming {inTime : Bool} (h : Keeps s t) : Keeps s (beaconTiming t inTime) :=
  h.setFlr.setFlag

protected theorem Keeps.beaconTake {x : FleetHdr} {b : BeaconMsg} {inTime : Bool} {rsf rsub : Nat} (h : Keeps s t) :
    Keeps s (beaconTake t x b inTime rsf rsub) :=
  .use (.ite h.setFld.setFlr.aidTake h.setFld.setFlr) fun h₁ =>
    .use (.beaconGrants (.beaconSwitches (.beaconDomain (.contResult (.ite
      (h₁.beaconTiming.setLink.setFld.setFlr fun _ e => e ▸ rfl) h₁.beaconTiming))))) fun h₂ => .ite h₂.contStart h₂

protected theorem Keeps.beaconYield {h' : FleetHdr} {b : BeaconMsg} (h : Keeps s t) : Keeps s (beaconYield t h' b) :=
  .ite (h.setFld.setFlr.setLink.beaconDomain.use fun h₁ => .ite h₁ h₁.startListen) h

protected theorem Keeps.heard {m : Nat} (h : Keeps s t) : Keeps s (heard t m) :=
  h.setFld.setMbr

protected theorem Keeps.recTake {m : Nat} {r : FleetRec} (h : Keeps s t) : Keeps s (recTake t m r) := by
  unfold Machine.recTake
  split
  · exact .setMbr (.ite h h.setFlr)
  · exact .ite h.depart h
  · exact h.fleetCorr
  · exact .ite h.setFlr h
  · exact .ite h.segAck h
  · exact h
  · exact h.flrCount

end

end Sys2Proof.Machine

end

section
/-! SUPPORT. What the operations of Sys2Proof/Machine/GwenMem.lean keep of the canonical form. -/

namespace Sys2Proof.Machine

section
set_option Elab.async false
variable {s t u : State}

protected theorem Keeps.gwBranch {u : Nat} {off : BitVec 16} {waits cond : GwCtx → Bool} (h : Keeps s t) : Keeps s (gwBranch t u off waits cond) :=
  h.gwRun (fun _ _ h₁ => .ite h₁.go h₁.go)

end

end Sys2Proof.Machine

end

section
/-! SUPPORT. What the operations of Sys2Proof/Machine/Migrate.lean keep of the canonical form. -/

namespace Sys2Proof.Machine

section
set_option Elab.async false
variable {s t u : State}

protected theorem Keeps.commitPlacement (h : Keeps s t) : Keeps s (commitPlacement t) :=
  h.setCe

protected theorem Keeps.migStat {via code : Nat} {pending : Bool} {loop dest phase : Nat} (h : Keeps s t) :
    Keeps s (migStat t via code pending loop dest phase) :=
  h.setReg

protected theorem Keeps.migShow {m : Mig} {phase : Nat} (h : Keeps s t) : Keeps s (migShow t m phase) :=
  .ite h h.migStat

protected theorem Keeps.migRefuse {via code loop dest : Nat} (h : Keeps s t) : Keeps s (migRefuse t via code loop dest) :=
  .ite h.setFld h.migStat

protected theorem Keeps.migCmdWrite {via cmd dest loop budget : Nat} (h : Keeps s t) : Keeps s (migCmdWrite t via cmd dest loop budget) :=
  .ite h.recRefused.migRefuse (.ite h.recRefused.migRefuse h.setCe.migStat)

protected theorem Keeps.setMig {m m' : Mig} (h : Keeps s t) : Keeps s (setMig t m m') :=
  h.setCe

protected theorem Keeps.migEnd {m : Mig} {code phase : Nat} (h : Keeps s t) : Keeps s (migEnd t m code phase) :=
  .refreshEngines (.ite h.setCe h.setCe.migStat)

protected theorem Keeps.acceptMig {m : Mig} (h : Keeps s t) : Keeps s (acceptMig t m) := by
  unfold Machine.acceptMig
  dsimp only
  split
  · exact h.migEnd
  · split
    · exact h
    · split
      · split
        · next e => exact (h.noteXfer.fetchImage e).setMig.migShow
        · exact h.noteXfer.setMig.migShow
      · exact h.setMig.migShow.refreshEngines

protected theorem Keeps.acceptMigs (h : Keeps s t) : Keeps s (acceptMigs t) :=
  h.foldl (fun _ _ h₁ => h₁.tabRec.acceptMig)

protected theorem Answers.execReplaceFetchComplete {loop : Fin 128} {fault : Bool} (h : Keeps s t) :
    Answers s (execReplaceFetchComplete loop fault t) := by
  unfold Machine.execReplaceFetchComplete
  split
  · exact .ite h.next (.ite h.migEnd.next h.setMig.next)
  · exact h.next

protected theorem Keeps.copyMem {src dst n : Nat} (h : Keeps s t) : Keeps s (copyMem t src dst n) :=
  h.setBytes

protected theorem Keeps.copyLoop {e i dest : Nat} (h : Keeps s t) : Keeps s (copyLoop t e i dest) :=
  h.copyMem.slotCopy.slotEmpty

protected theorem Answers.execMigrationCut {loop : Fin 128} (h : Keeps s t) : Answers s (execMigrationCut loop t) := by
  unfold Machine.execMigrationCut
  split
  · exact .ite (.ite h.migEnd.copyLoop.refreshEngines.next h.migEnd.next) (.ite h.setFld.dmaPause.setMig.migShow.next h.next)
  · exact h.next

protected theorem Keeps.migCut {m : Mig} (h : Keeps s t) : Keeps s (migCut t m) :=
  .refreshEngines (.setMig (.ite h.slotEmpty h.slotEmpty.setReg64))

protected theorem Keeps.migTick (h : Keeps s t) : Keeps s (migTick t) :=
  h.foldl (fun _ _ h₁ => h₁.migCut)

protected theorem Keeps.migCopy {m : Mig} (h : Keeps s t) : Keeps s (migCopy t m) :=
  .ite h.copyMem h.copyMem

protected theorem Answers.execMigrationCopyComplete {loop : Fin 128} (h : Keeps s t) : Answers s (execMigrationCopyComplete loop t) := by
  unfold Machine.execMigrationCopyComplete
  split
  · exact h.migCopy.slotCopy.setFld.setFld.setFld.setMig.migShow.dmaPause.use fun h₁ => .ite h₁.migCut.dispatchSlot.next h₁.refreshEngines.next
  · exact h.next

protected theorem Keeps.migsDone (h : Keeps s t) : Keeps s (migsDone t) :=
  h.foldl (fun _ _ h₁ => h₁.migEnd.commitPlacement)

protected theorem Keeps.migAbort {m : Mig} (h : Keeps s t) : Keeps s (migAbort t m) :=
  .use (.ite h.setFld.dmaPause h) fun h₁ => .migEnd (.ite h₁.slotEmpty h₁)

protected theorem Keeps.removeEnd {e : Nat} (h : Keeps s t) : Keeps s (removeEnd t e) :=
  .ite h.setCe.cmdResult h.setCe

protected theorem Keeps.migsAbort {e : Nat} (h : Keeps s t) : Keeps s (migsAbort t e) :=
  (h.foldl (fun _ _ h₁ => h₁.migAbort)).forN (fun _ _ h₁ => .ite h₁.removeEnd h₁)

protected theorem Keeps.engCmdWrite {e key cmd : Nat} (h : Keeps s t) : Keeps s (engCmdWrite t e key cmd) :=
  .ite h (.ite h.recRefused.cmdRefuse (.ite h.recRefused.cmdRefuse h.setCe.cmdResult))

protected theorem Keeps.removeSlot {e i : Nat} {auto : Bool} (h : Keeps s t) : Keeps s (removeSlot t e i auto) :=
  .ite h.setCe (.ite h h.copyLoop)

protected theorem Keeps.startRemove {e : Nat} {auto : Bool} (h : Keeps s t) : Keeps s (startRemove t e auto) :=
  (h.foldl (fun _ _ h₁ => h₁.removeSlot)).setCe.refreshEngines

protected theorem Keeps.acceptReturn {e : Nat} (h : Keeps s t) : Keeps s (acceptReturn t e) :=
  .ite h.setFld.setCe.refreshEngines h.setCe.cmdResult

protected theorem Keeps.acceptEngCmd {e : Nat} (h : Keeps s t) : Keeps s (acceptEngCmd t e) := by
  unfold Machine.acceptEngCmd
  split
  · exact .ite h.tabRec.setCe.cmdResult h.tabRec.setCe.startRemove
  · exact h.tabRec.acceptReturn
  · exact h.setCe.commitPlacement.cmdResult
  · exact h

protected theorem Keeps.acceptEngCmds (h : Keeps s t) : Keeps s (acceptEngCmds t) :=
  h.forN (fun _ _ h₁ => h₁.acceptEngCmd)

protected theorem Keeps.spareWrite {v : Nat} (h : Keeps s t) : Keeps s (spareWrite t v) :=
  .ite h.setFld.refreshSet (.ite h.setFld.refreshSet h.setFlag)

protected theorem Keeps.dropPubs {l : List (Nat × Nat)} (h : Keeps s t) : Keeps s (dropPubs t l) :=
  h.setCe

protected theorem Keeps.ueEngine {e loop : Nat} (h : Keeps s t) : Keeps s (ueEngine t e loop) :=
  h.setFlag.setFld.use fun h₁ => .use (.refreshEngines (.ite h₁.setFld h₁)) fun h₂ => .ite h₂.setCe h₂

protected theorem Keeps.ueAt {e i addr : Nat} {l : List (Nat × Nat)} (h : Keeps s t) : Keeps s (ueAt t e i addr l) :=
  .ueEngine (by split; exacts [.ite h.tabRec.logEvent.migAbort.dropSamples.dropPubs.stopSlot.dmaCancelLoop h.tabRec.logEvent.migAbort,
                  h.tabRec.logEvent.dropSamples.dropPubs.stopSlot.dmaCancelLoop])

protected theorem Answers.execTileUe {e : Fin 8} {addr : Fin 262144} (h : Keeps s t) : Answers s (execTileUe e addr t) := by
  unfold Machine.execTileUe
  split
  · exact h.ueAt.next
  · exact h.next

protected theorem Keeps.evacRemove {e : Nat} (h : Keeps s t) : Keeps s (evacRemove t e) :=
  .ite h.setCe.tabRec h.setCe.tabRec.logEvent.startRemove

protected theorem Keeps.evacuate {e : Nat} {l : List (Nat × Nat)} (h : Keeps s t) : Keeps s (evacuate t e l) :=
  (h.setCe.foldl (fun _ _ h₁ => .ite h₁.copyLoop.setCe h₁.copyLoop)).setFld.logEvent.commitPlacement

protected theorem Keeps.stopEngine {e : Nat} {l : List (Nat × Nat)} (h : Keeps s t) : Keeps s (stopEngine t e l) :=
  h.foldl (fun _ _ h₁ => .ite h₁.stopSlot.dmaCancelLoop h₁)

protected theorem Keeps.hangAt {e : Nat} {l : List (Nat × Nat)} (h : Keeps s t) : Keeps s (hangAt t e l) :=
  h.setFlag.tabRec.migsAbort.setFld.setGw.dropPubs.refreshEngines.use fun h₁ => .refreshEngines (.ite h₁.evacuate h₁.stopEngine)

protected theorem Keeps.rtRead (h : Keeps s t) : Keeps s (rtRead t) :=
  .ite h.setFld (h.forN (fun _ _ h₁ => h₁.setReg)).setFld

protected theorem Keeps.rtWrite (h : Keeps s t) : Keeps s (rtWrite t) :=
  .ite h.setFld.tabCmd (.ite h.setFld.tabCmd.setCe h.setFld.tabCmd.setCe)

protected theorem Keeps.rtApply (h : Keeps s t) : Keeps s (rtApply t) :=
  h.setCe

protected theorem Keeps.rtCmdWrite {v : Nat} (h : Keeps s t) : Keeps s (rtCmdWrite t v) :=
  .use (.ite h.rtWrite h) fun h₁ => .ite h₁.rtRead h₁

end

end Sys2Proof.Machine

end

section
/-! SUPPORT. What the operations of Sys2Proof/Machine/Mfp.lean keep of the canonical form. -/

namespace Sys2Proof.Machine

section
set_option Elab.async false
variable {s t u : State}

protected theorem Keeps.setMf {n : Nat} {x : MfSt} (h : Keeps s t) : Keeps s (t.setMf n x) :=
  h.setMfp

protected theorem Keeps.fnReq {n code : Nat} (h : Keeps s t) : Keeps s (fnReq t n code) :=
  h.logEvent

protected theorem Keeps.mfEnable {n : Nat} (h : Keeps s t) : Keeps s (mfEnable t n) :=
  .ite h.fnReq (.ite h (.ite h.setFlag.fnReq h.setFlag.setFld.setFlag.setMf))

protected theorem Keeps.mfStart {l done : List Nat} {code : Nat} (h : Keeps s t) : Keeps s (mfStart t l done code).1 := by
  induction l generalizing t done code with
  | nil => exact h
  | cons l r ih =>
    unfold Machine.mfStart
    split
    · dsimp only
      split
      · exact ih h.startLoop
      · exact ih h
    · exact ih h

protected theorem Keeps.mfStartAll {n : Nat} (h : Keeps s t) : Keeps s (mfStartAll t n) :=
  .ite h.mfStart.setMf (h.mfStart.foldl (fun _ _ h₁ => h₁.disableLoop)).setFlag.setFld.setFlag.fnReq

protected theorem Keeps.mfDisable {n : Nat} (h : Keeps s t) : Keeps s (mfDisable t n) :=
  .ite h.setFlag.setFld.setFlag.setMf h.setFlag

protected theorem Keeps.mfDisableLoop {loop : Nat} (h : Keeps s t) : Keeps s (mfDisableLoop t loop) :=
  .ite (.disableLoop (by split; exacts [h.setCe.cmdResult, h])) (by split; exacts [h.setCe.cmdResult, h])

protected theorem Keeps.mfClear {l : List Nat} (h : Keeps s t) : Keeps s (mfClear t l) :=
  h.foldl (fun _ _ h₁ => h₁.mfDisable)

protected theorem Keeps.mfSafeStop (h : Keeps s t) : Keeps s (mfSafeStop t) :=
  h.forN (fun _ _ h₁ => h₁.mfDisable.setMf)

protected theorem Keeps.arbOne {n : Nat} (h : Keeps s t) : Keeps s (arbOne t n) :=
  .use (.ite h h.logEvent) fun h₁ => .use (.ite h₁.setMfp h₁) fun h₂ => .use (.ite h₂.setMf h₂.setMf.setReg) fun h₃ => .setFld (.setFlag (.setFld
      (.setFlag (.setFld (.setFld (.ite h₃.setFld h₃))))))

protected theorem Keeps.mfCtl {n : Nat} {v : Word} (h : Keeps s t) : Keeps s (mfCtl t n v) :=
  .ite h.fnReq (h.plainWrite.setFld.use fun h₁ => .use (.ite h₁.setFld.fnReq h₁) fun h₂ => .ite h₂.mfEnable h₂.mfDisable)

protected theorem Keeps.mfLim {n a : Nat} {v : Word} (h : Keeps s t) : Keeps s (mfLim t n a v) :=
  .ite h.fnReq h.plainWrite

protected theorem Keeps.mfpApply {a : Nat} {v : Word} (h : Keeps s t) : Keeps s (mfpApply t a v) :=
  .ite h.tabRec.plainWrite
    (by split; exacts [h.tabRec.mfCtl, h.tabRec.mfLim, h.tabRec.mfLim, .ite h.tabRec.plainWrite h.tabRec, h.tabRec.plainWrite])

protected theorem Keeps.mfpWrite {a : Nat} {v : Word} (h : Keeps s t) : Keeps s (mfpWrite t a v) :=
  .ite h h.setMfp

protected theorem Keeps.arbTick (h : Keeps s t) : Keeps s (arbTick t) :=
  (h.setMfp.foldl (fun _ _ h₁ => h₁.mfpApply)).forN (fun _ _ h₁ => h₁.arbOne)

protected theorem Keeps.mfFields {n : Nat} {ws : List Word} (h : Keeps s t) : Keeps s (mfFields t n ws) :=
  .setReg (.setReg (.ite h.setReg.fnReq h.setReg.setReg.setReg))

protected theorem Keeps.calCopy {loop ofs : Nat} {ws : List Word} (h : Keeps s t) : Keeps s (calCopy t loop ofs ws) :=
  .ite h.mfFields (by split; exacts [.setWords (.ite h.setGov h), h])

protected theorem Keeps.calCopies (h : Keeps s t) : Keeps s (calCopies t) :=
  h.setMfp.foldl (fun _ _ h₁ => h₁.tabRec.calCopy)

end

end Sys2Proof.Machine

end

section
/-! SUPPORT. What the operations of Sys2Proof/Machine/Governor.lean keep of the canonical form. -/

namespace Sys2Proof.Machine

section
set_option Elab.async false
variable {s t u : State}

protected theorem Keeps.groupEvent {ms : List Nat} {g : GroupVal} {reason ev : Nat} (h : Keeps s t) : Keeps s (groupEvent t ms g reason ev) := by
  unfold Machine.groupEvent
  split
  · exact h.foldl (fun _ _ h₁ => h₁.logEvent)
  · exact h.foldl (fun _ _ h₁ => h₁.logEvent)
  · split
    · exact h.logEvent
    · exact h
  · exact h.logEvent
  · exact h

protected theorem Keeps.groupSample {rd : Nat → Word} {x : State × SlotVals × List Nat} {j : Nat} (h : Keeps s x.1) :
    Keeps s (groupSample rd x j).1 :=
  .ite_fst h (.ite_fst h.setGov (h.setGov.foldl fun _ _ h => h.groupEvent))

/-- `conv` unfolds the function apart from its argument: no comparison of terms then evaluates the fold. -/
protected theorem Keeps.govValidate {rd : Nat → Word} (h : Keeps s t) : Keeps s (govValidate t rd).1 := by
  have h₁ : Keeps s ((List.range 48).foldl (groupSample rd) (t, ([], []), [])).1 := Keeps.foldl_fst h fun x j hx => hx.groupSample
  conv => arg 2; arg 1; fun; fun; delta Machine.govValidate; zeta
  generalize (List.range 48).foldl (groupSample rd) (t, ([], []), []) = r at h₁ ⊢
  exact h₁

protected theorem Keeps.govTransport (h : Keeps s t) : Keeps s (govTransport t).1 :=
  .foldl_fst h fun _ _ h => by
    dsimp only
    split
    · exact h.setGov
    · exact h

protected theorem Keeps.govBandCount {b : Nat} (h : Keeps s t) : Keeps s (govBandCount t b) :=
  .ite h.setGov (.ite h.setGov h.setGov)

protected theorem Keeps.govBandStep (h : Keeps s t) : Keeps s (govBandStep t) :=
  .ite h.setGov h

protected theorem Keeps.holdNative {loop : Nat} {outs writes : List (Nat × Word)} (h : Keeps s t) : Keeps s (holdNative t loop outs writes) := by
  unfold Machine.holdNative
  split
  · exact h
  · exact h.setCe

protected theorem Keeps.govSample (h : Keeps s t) : Keeps s (govSample t) := by
  have hV : ∀ {u : State} {rd : Nat → Word}, Keeps s u → Keeps s (govValidate u rd).1 := fun h => h.govValidate
  have hT : ∀ {u : State}, Keeps s u → Keeps s (govTransport u).1 := fun h => h.govTransport
  unfold Machine.govSample
  generalize govValidate = V, govTransport = T at hV hT ⊢
  split
  · exact h
  · refine Keeps.holdNative (.setWords (.setWords (.setWords (.setWords (.setWords ?_)))))
    exact Keeps.setGov (Keeps.govBandCount (hT (hV h.setGov.govBandStep)))

protected theorem Answers.execGovholdSet (h : Keeps s t) : Answers s (execGovholdSet t) := by
  unfold Machine.execGovholdSet
  split
  · exact .ite h.setGov.next h.next
  · exact h.next

end

end Sys2Proof.Machine

end

section
/-! SUPPORT. What the operations of Sys2Proof/Machine/GwenPrim.lean keep of the canonical form. -/

namespace Sys2Proof.Machine

section
set_option Elab.async false
variable {s t u : State}

protected theorem Effects.blockAt {c : GwCtx} {rs1 n : Nat} {k : Nat → GwEff} (h : ∀ a, Effects s (k a)) : Effects s (blockAt c rs1 n k) :=
  .ite .trap (.ite .trap (h _))

protected theorem Keeps.relayStore {a : Nat} {r : RelaySt} (h : Keeps s t) : Keeps s (relayStore t a r) :=
  h.setWord.setWord.setWord.setWord.setWord.setWord.setWord.setWord

protected theorem Keeps.plausTrip {u loop a : Nat} (h : Keeps s t) : Keeps s (plausTrip t u loop a) :=
  .logEvent (by split; exacts [h.setFlag, h])

end

end Sys2Proof.Machine

end

section
/-! SUPPORT. What the operations of Sys2Proof/Machine/GwenSys.lean keep of the canonical form. -/

namespace Sys2Proof.Machine

section
set_option Elab.async false
variable {s t u : State}

protected theorem Keeps.gwEnds {u : Nat} (h : Keeps s t) : Keeps s (gwEnds t u) := by
  unfold Machine.gwEnds
  split
  · exact h
  · exact .ite h.prismAuto.takeTrap (.ite h.prismAuto.takeTrap (.ite h.prismAuto.budgetTrap h.prismAuto.prismWait.endSample))

end

end Sys2Proof.Machine

end

section
/-! SUPPORT. What the operations of Sys2Proof/Machine/Lsw.lean keep of the canonical form. -/

namespace Sys2Proof.Machine

section
set_option Elab.async false
variable {s t u : State}

protected theorem Keeps.mapBit {a n : Nat} {b : Bool} (h : Keeps s t) : Keeps s (mapBit t a n b) :=
  h.setReg

protected theorem Keeps.lswShow {n : Nat} (h : Keeps s t) : Keeps s (lswShow t n) :=
  h.setFld.setFlag.setFlag.setFlag.setFlag.mapBit.mapBit.mapBit

protected theorem Keeps.lswOff {n : Nat} (h : Keeps s t) : Keeps s (lswOff t n) :=
  .ite h.setLch h.setLch

protected theorem Keeps.lswOn {n : Nat} (h : Keeps s t) : Keeps s (lswOn t n) :=
  h.setLch

protected theorem Keeps.lswSettle {n : Nat} (h : Keeps s t) : Keeps s (lswSettle t n) :=
  .ite (.ite h.lswOff h) (.ite (.use (.ite h.setLch h) fun h₁ => .ite h₁ (.ite h₁.lswOn h₁)) h.lswOff)

protected theorem Keeps.lswTake {n : Nat} (h : Keeps s t) : Keeps s (lswTake t n) := by
  unfold Machine.lswTake
  dsimp only
  split
  · exact .ite h h.setLch
  · exact .ite h h.setLch

protected theorem Keeps.lswUnlatch {n : Nat} (h : Keeps s t) : Keeps s (lswUnlatch t n) :=
  .ite h.setLch.setFld (.ite h.setLch h.setLch.setFld)

protected theorem Keeps.lswZero {n : Nat} (h : Keeps s t) : Keeps s (lswZero t n) :=
  .use (.ite h h.setFld) fun h₁ => .ite (.ite h₁.setLch.setFld h₁.setLch) (.ite h₁ (.ite h₁.setLch.lswUnlatch h₁.setLch))

protected theorem Keeps.lswGates (h : Keeps s t) : Keeps s (lswGates t) :=
  h.forN (fun _ _ h₁ => .lswShow (.ite h₁ h₁.lswOff))

protected theorem Keeps.lswCmdWrite {n : Nat} {v : Word} (h : Keeps s t) : Keeps s (lswCmdWrite t n v) :=
  .ite h.setFld h.setFld.setFld.tabCmd.setLch

protected theorem Keeps.lswTrip {n fault peak : Nat} (h : Keeps s t) : Keeps s (lswTrip t n fault peak) :=
  h.lswOff.setLch.setFld.count.raise.logEvent.lswShow

protected theorem Keeps.lswWindow {n : Nat} (h : Keeps s t) : Keeps s (lswWindow t n) := by
  unfold Machine.lswWindow
  split
  · exact .ite h.setLch.lswShow h
  · exact h

protected theorem Keeps.lswAgain {n : Nat} (h : Keeps s t) : Keeps s (lswAgain t n) := by
  unfold Machine.lswAgain
  split
  · exact .ite h.setFld.lswUnlatch.lswSettle.lswShow h
  · exact h

protected theorem Keeps.lswClr {n : Nat} {v : Word} (h : Keeps s t) : Keeps s (lswClr t n v) :=
  .ite h.lswUnlatch.lswSettle.lswShow h

protected theorem Keeps.batAWatch {sum : Nat} (h : Keeps s t) : Keeps s (batAWatch t sum) := by
  refine .ite (h.setFld.setFlag.setLsw fun _ e => e ▸ rfl) ?_
  split
  · exact h.setFld.setLsw
  · exact .ite h.setFld.setFlag.raise.logEvent h.setFld

protected theorem Keeps.lswSums (h : Keeps s t) : Keeps s (lswSums t) :=
  (h.forN (fun _ _ h₁ => h₁.setReg)).batAWatch

protected theorem Keeps.lswOv (h : Keeps s t) : Keeps s (lswOv t) :=
  h.forN (fun _ _ h₁ => h₁.setFlag.raise)

protected theorem Keeps.lswOvRelease (h : Keeps s t) : Keeps s (lswOvRelease t) :=
  (h.forN (fun _ _ h₁ => h₁.setFlag)).forN (fun _ _ h₁ => h₁.lswSettle.lswShow)

protected theorem Keeps.lswReverse {rev : Bool} (h : Keeps s t) : Keeps s (lswReverse t rev) :=
  h.setLsw.forN (fun _ _ h₁ => h₁.lswSettle.lswShow)

protected theorem Keeps.lswReset {bridge : Bool} (h : Keeps s t) : Keeps s (lswReset t bridge) :=
  h.forN (fun _ _ h₁ => .ite h₁.setLch h₁.lswOff.setLch)

protected theorem Keeps.keepExpire (h : Keeps s t) : Keeps s (keepExpire t) :=
  h.forN (fun _ _ h₁ => by dsimp only; split; exacts [.ite (.ite h₁.setLch.lswOff.lswShow h₁.setLch) h₁, h₁])

protected theorem Keeps.lswTestCmd {test n : Nat} (h : Keeps s t) : Keeps s (lswTestCmd t test n) :=
  .ite h.setFld (.ite h.setFld (h.setFlag.setFld.setFld.setFlag.setLsw fun _ e => e ▸ rfl))

protected theorem Keeps.lswAccept (h : Keeps s t) : Keeps s (lswAccept t) := by
  unfold Machine.lswAccept
  split
  · exact .ite h.setLsw.setFld.setFlag h.setLsw.setFld.setLsw
  · exact h

protected theorem Keeps.lswTestStart (h : Keeps s t) : Keeps s (lswTestStart t) := by
  unfold Machine.lswTestStart
  split
  · exact .ite (h.setLsw.setFlag.setFlag.setFld.use fun h₁ => .lswShow (.ite h₁.lswOff h₁.lswOff.setLch)) h
  · exact h

protected theorem Keeps.lswTestOff (h : Keeps s t) : Keeps s (lswTestOff t) := by
  unfold Machine.lswTestOff
  split
  · exact .ite h.lswOff.lswShow h
  · exact h

protected theorem Answers.execLswTestEnd {m : LswTestMeas} (h : Keeps s t) : Answers s (execLswTestEnd m t) := by
  unfold Machine.execLswTestEnd
  split
  · exact .ite h.setLsw.lswOff.setFlag.setFlag.raise.lswShow.next h.next
  · exact h.next

protected theorem Keeps.lswTestCancel (h : Keeps s t) : Keeps s (lswTestCancel t) :=
  h.setLsw.setFlag.setFld

protected theorem Keeps.lswTestDrop (h : Keeps s t) : Keeps s (lswTestDrop t) := by
  unfold Machine.lswTestDrop
  split
  · exact .ite h.lswTestCancel h
  · exact h

protected theorem Keeps.lswTick (h : Keeps s t) : Keeps s (lswTick t) := by
  have h₁ : Keeps s ((keepExpire (lswSums t)).forN 24 fun s n => lswShow (lswSettle (lswAgain (lswWindow (lswZero (lswTake s n) n) n) n) n) n) :=
    h.lswSums.keepExpire.forN fun _ _ h => h.lswTake.lswZero.lswWindow.lswAgain.lswSettle.lswShow
  exact h₁.lswTestOff.lswAccept.lswTestDrop.lswTestStart

protected theorem Keeps.lswCfgWrite {n : Nat} {v : Word} (h : Keeps s t) : Keeps s (lswCfgWrite t n v) :=
  .use (.ite h.plainWrite.lswTestCancel h.plainWrite) fun h₁ => .lswShow (.ite h₁ h₁.lswOff)

end

end Sys2Proof.Machine

end

section
/-! SUPPORT. What the operations of Sys2Proof/Machine/Steer.lean keep of the canonical form. -/

namespace Sys2Proof.Machine

section
set_option Elab.async false
variable {s t u : State}

protected theorem Keeps.pathMsg {m : Seg} (h : Keeps s t) : Keeps s (pathMsg t m).1 :=
  .ite_fst h.setSteer.setFld (.ite_fst h (.ite_fst h h.setSteer.setFld))

protected theorem Keeps.steerOuter (h : Keeps s t) : Keeps s (steerOuter t) :=
  .stageAt (.stageAt (.stageAt (.stageAt (.stageAt (.stageAt (.stageAt (.stageAt (.setSteer (.setFld (.ite h.setSteer h))))))))))

protected theorem Keeps.steerOff {reason : Nat} (h : Keeps s t) : Keeps s (steerOff t reason) :=
  h.setSteer.stageAt.stageAt

protected theorem Keeps.steerOn (h : Keeps s t) : Keeps s (steerOn t) :=
  h.setSteer.setFlag.count

protected theorem Keeps.steerModeEnter (h : Keeps s t) : Keeps s (steerModeEnter t) :=
  .setSteer (.ite h h.steerOn)

protected theorem Keeps.steerRequest {x : SteerIn} (h : Keeps s t) : Keeps s (steerRequest t x) := by
  unfold Machine.steerRequest
  dsimp only
  split
  · exact .ite (.ite h.setSteer.setFld (.ite h.setSteer.steerOn.setFld h.setSteer.setFld)) (.ite h.setSteer.setFld
      (.ite h.setSteer.steerOff.setFld h.setSteer.setFld))
  · exact h

protected theorem Keeps.steerReq {v : Word} (h : Keeps s t) : Keeps s (steerReq t v) :=
  .ite h (.ite h.setFld (.ite h.setFld h.setSteer.tabCmd))

protected theorem Keeps.steerCount {x : SteerIn} {k : Nat} (h : Keeps s t) : Keeps s (steerCount t x k) :=
  .ite h.setSteer h.setSteer

protected theorem Keeps.steerAct (h : Keeps s t) : Keeps s (steerAct t) :=
  .ite (by split; exacts [.ite h.steerOff (h.foldl (fun _ _ h₁ => .ite h₁.setSteer h₁)), h]) h

protected theorem Keeps.steerU {x : SteerIn} (h : Keeps s t) : Keeps s (steerU t x).2 :=
  h.setSteer

protected theorem Keeps.testExpire (h : Keeps s t) : Keeps s (testExpire t) := by
  unfold Machine.testExpire
  split
  · exact .ite h.setSteer h
  · exact h

protected theorem Keeps.steerInner {x : SteerIn} (h : Keeps s t) : Keeps s (steerInner t x) :=
  .use (.ite h.testExpire.setFlag.setSteer h.testExpire.setFlag) fun h₁ => .ite ((h₁.steerRequest.foldl
      (fun _ _ h₂ => h₂.steerCount)).steerAct.use fun h₂ => .ite h₂.steerU.stageAt.stageAt h₂) h₁.steerRequest.setSteer.stageAt.stageAt

protected theorem Keeps.steerShowOff (h : Keeps s t) : Keeps s (steerShowOff t) := by
  unfold Machine.steerShowOff
  split
  · exact .ite h.setSteer.setFlag.setFld.count.logEvent h
  · exact h

protected theorem Keeps.steerTest {v : Word} (h : Keeps s t) : Keeps s (steerTest t v) :=
  .ite h (.ite h.setFld (.ite h.setSteer.setFld (.ite h.setSteer.setFld h.setFld)))

end

end Sys2Proof.Machine

end

section
/-! SUPPORT. What the operations of Sys2Proof/Machine/Island.lean keep of the canonical form. -/

namespace Sys2Proof.Machine

section
set_option Elab.async false
variable {s t u : State}

protected theorem Keeps.safShowCfg (h : Keeps s t) : Keeps s (safShowCfg t) :=
  (h.forN (fun _ _ h₁ => h₁.setReg)).setReg.setReg.setReg.setReg.setReg

protected theorem Keeps.setSafPair {i : Nat} {x : PairIn} (h : Keeps s t) : Keeps s (t.setSafPair i x) :=
  h.setSaf

protected theorem Keeps.setSafOut {k : Nat} {x : SoSt} (h : Keeps s t) : Keeps s (t.setSafOut k x) :=
  h.setSaf

protected theorem Keeps.setSensPair {p : Nat} {x : SafPair} (h : Keeps s t) : Keeps s (t.setSensPair p x) :=
  h.setSaf

protected theorem Keeps.safLock {live : Bool} {cause detail : Nat} (h : Keeps s t) : Keeps s (safLock t live cause detail) :=
  .ite h.lockOut h.setSaf

protected theorem Keeps.siLatch {k : Nat} {lvl : Bool} (h : Keeps s t) : Keeps s (siLatch t k lvl) :=
  h.setSaf

protected theorem Keeps.safLatchRec {key v : Nat} (h : Keeps s t) : Keeps s (safLatchRec t key v) :=
  .ite h h.tabRec

protected theorem Keeps.safLatch {si : Nat} (h : Keeps s t) : Keeps s (safLatch t si) :=
  h.forN (fun _ _ h₁ => h₁.siLatch)

protected theorem Keeps.testPulse {live : Bool} {tp low : Nat} (h : Keeps s t) : Keeps s (testPulse t live tp low) :=
  h.forN (fun _ _ h₁ => .ite h₁ (.ite (.ite h₁.setSaf (.ite h₁.setSaf.safLock h₁.setSaf)) (.ite h₁.setSaf.safLock h₁)))

protected theorem Keeps.discFault {live : Bool} {i : Nat} (h : Keeps s t) : Keeps s (discFault t live i) :=
  .ite h.setSafPair.safLock h

protected theorem Keeps.safPairStep {live : Bool} {w i : Nat} (h : Keeps s t) : Keeps s (safPairStep t live w i) :=
  .ite h (.use (.ite h.setSafPair.count h.setSafPair) fun h₁ => .ite h₁.safLock h₁)

protected theorem Keeps.twoHand {w : Nat} (h : Keeps s t) : Keeps s (twoHand t w) :=
  .ite h h.setSaf

protected theorem Keeps.safShowOuts (h : Keeps s t) : Keeps s (safShowOuts t) :=
  h.setFld.setFld

protected theorem Keeps.safOutsOff (h : Keeps s t) : Keeps s (safOutsOff t) :=
  (h.forN (fun _ _ h₁ => h₁.setSafOut)).setSaf.safShowOuts

protected theorem Keeps.safDrive {live : Bool} (h : Keeps s t) : Keeps s (safDrive t live) :=
  h.forN (fun _ _ h₁ => h₁.setSafOut)

protected theorem Keeps.outFault {k : Nat} (h : Keeps s t) : Keeps s (outFault t k) :=
  h.setSafOut.safShowOuts.lockOut

protected theorem Keeps.sensStep {p : Nat} {pub : Nat → PubV} (h : Keeps s t) : Keeps s (sensStep t p pub) :=
  h.setSensPair

protected theorem Keeps.sensContra {live : Bool} {p : Nat} (h : Keeps s t) : Keeps s (sensContra t live p) :=
  .ite (.use (.ite h h.setSensPair) fun h₁ => .ite h₁.safLock h₁) h

protected theorem Keeps.safStill (h : Keeps s t) : Keeps s (safStill t) :=
  h.setSaf

protected theorem Keeps.zeroCause {k : Nat} {cause : Bool} (h : Keeps s t) : Keeps s (zeroCause t k cause) :=
  h.setSaf

protected theorem Keeps.zeroLift {k : Nat} (h : Keeps s t) : Keeps s (zeroLift t k) := by
  unfold Machine.zeroLift
  split
  · exact .ite h.setSaf h
  · exact h

protected theorem Keeps.hbWrite {v : Word} (h : Keeps s t) : Keeps s (hbWrite t v) :=
  h.setSaf.tabCmd

protected theorem Keeps.hbFrame (h : Keeps s t) : Keeps s (hbFrame t) :=
  .ite h.setSaf (by dsimp only; split; exacts [h.setSaf.zeroCause, h.setSaf])

protected theorem Keeps.hbLoss {live : Bool} (h : Keeps s t) : Keeps s (hbLoss t live) :=
  .ite h.zeroCause h

protected theorem Keeps.speedCauses {m : Nat} {pub : Nat → PubV} (h : Keeps s t) : Keeps s (speedCauses t m pub) :=
  h.zeroCause.zeroCause.zeroCause

protected theorem Keeps.stopReq {v : Word} (h : Keeps s t) : Keeps s (stopReq t v) :=
  .ite h.tabCmd.setSaf h

protected theorem Keeps.stopTake (h : Keeps s t) : Keeps s (stopTake t) :=
  .ite h.setSaf.lockOut h

protected theorem Keeps.releaseWaits (h : Keeps s t) : Keeps s (releaseWaits t) :=
  h.forN (fun _ _ h₁ => .ite h₁ h₁.setSafPair)

protected theorem Keeps.buttonFault (h : Keeps s t) : Keeps s (buttonFault t) :=
  h.setFlag.setSaf

protected theorem Keeps.resetPress {ms : Nat} {pass : Bool} {out : Nat} (h : Keeps s t) : Keeps s (resetPress t ms pass out) :=
  .use (.ite h.buttonFault h) fun h₁ => .use (.ite h₁.setSaf h₁) fun h₂ => .ite h₂ (.ite h₂.logLive.setFld
      (.ite h₂.logLive.setSaf h₂.logLive.setFld.releaseWaits))

protected theorem Keeps.imagePress {v : Nat} (h : Keeps s t) : Keeps s (imagePress t v) :=
  .ite h (.ite h.setSaf h.releaseWaits)

protected theorem Keeps.buttonBack (h : Keeps s t) : Keeps s (buttonBack t) := by
  unfold Machine.buttonBack
  split
  · exact .ite h.setFlag.setSaf h
  · exact h

protected theorem Keeps.lockClear (h : Keeps s t) : Keeps s (lockClear t) :=
  (h.forN (fun _ _ h₁ => h₁.setSafOut)).releaseWaits.setSaf.setReg.setReg.setFld.setFld.logLive

protected theorem Keeps.resetTest {live : Bool} (h : Keeps s t) : Keeps s (resetTest t live) := by
  unfold Machine.resetTest
  split
  · exact h.setSaf
  · exact .ite (.ite h.setSaf.safLock (.ite h.lockClear (h.forN (fun _ _ h₁ => h₁.setSafOut)).releaseWaits.setSaf)) h
  · exact h

protected theorem Keeps.safPublish {lim : Word} {pub : Nat → PubV} (h : Keeps s t) : Keeps s (safPublish t lim pub) :=
  h.stageAt.stageAt.stageAt.stageAt.stageAt.stageAt

protected theorem Keeps.safSample {live drives : Bool} {w : Nat} {pub : Nat → PubV} (h : Keeps s t) : Keeps s (safSample t live drives w pub) :=
  ((h.safDrive.forN (fun _ _ h₁ => h₁.safPairStep)).forN (fun _ _ h₁ => h₁.discFault)).twoHand.sensStep.sensStep.sensContra.sensContra.use
      fun h₁ => .use (.safStill (.ite h₁.stopTake h₁)) fun h₂ => .use (.resetTest (.foldl (.hbLoss (.ite h₂.hbFrame h₂))
      (fun _ _ h₃ => h₃.zeroLift))) fun h₃ => .use (.ite (.steerInner (.ite h₃.steerOuter h₃)) h₃) fun h₄ => .use (.ite (h₄.speedCauses.forN
      (fun _ _ h₅ => .ite h₅ h₅.tabRec)) h₄.speedCauses) fun h₅ => .use
      (.ite h₅.setSaf.buttonBack.setFlag.setFlag.setFld.setFld.safShowOuts.setFlag.setFlag.setReg.setReg h₅.setSaf) fun h₆ => .ite h₆.safPublish h₆

protected theorem Keeps.safTick {si : Nat} (h : Keeps s t) : Keeps s (safTick t si) :=
  .use (.ite h.setSaf.safLatch h.setSaf.safLatch.publish) fun h₁ => .ite (.safSample
      (.ite h₁.steerShowOff.setCtx.recKeys h₁.steerShowOff)) h₁.steerShowOff

protected theorem Keeps.safImage (h : Keeps s t) : Keeps s (safImage t) :=
  .setSaf (.setRpl (.ite h.setSaf.steerShowOff.safSample h.setSaf))

end

end Sys2Proof.Machine

end

section
/-! SUPPORT. What the operations of Sys2Proof/Machine/Modes.lean keep of the canonical form. -/

namespace Sys2Proof.Machine

section
set_option Elab.async false
variable {s t u : State}

protected theorem Keeps.modeRequest {v : Word} (h : Keeps s t) : Keeps s (modeRequest t v) :=
  .ite h.setFld h.tabCmd.setFlag.setFld

protected theorem Keeps.modeResult {code : Nat} (h : Keeps s t) : Keeps s (modeResult t code) :=
  h.setPm.setFlag.setFld.setFld

protected theorem Keeps.modeDisplace (h : Keeps s t) : Keeps s (modeDisplace t) :=
  .ite h.modeResult h

protected theorem Keeps.noteStill (h : Keeps s t) : Keeps s (noteStill t) :=
  .ite (.ite h h.setPm) (.ite h h.setPm)

protected theorem Keeps.debugClose {why : Nat} (h : Keeps s t) : Keeps s (debugClose t why) :=
  .ite h.setReg.setUpd.logEvent h

protected theorem Keeps.unloadPhase {old m : Nat} (h : Keeps s t) : Keeps s (unloadPhase t old m) :=
  .ite h.setFld.setFld (.ite (.use (.setPm (.ite h h.setFld)) fun h => h.setFlag.setFlr fun _ e => e ▸ rfl) h)

protected theorem Keeps.safeStopFollows (h : Keeps s t) : Keeps s (safeStopFollows t) :=
  h.setSaf.mfSafeStop

protected theorem Keeps.modeGates (h : Keeps s t) : Keeps s (modeGates t) :=
  h.vlvGates.lswGates

protected theorem Keeps.modeCommit {m : Nat} (h : Keeps s t) : Keeps s (modeCommit t m) :=
  .use (.ite h.setFld.setFld.setPm.unloadPhase.safeStopFollows h.setFld.setFld.setPm.unloadPhase) fun h₁ => .use (.ite h₁.steerModeEnter h₁)
      fun h₂ => .modeGates (.logEvent (.tabRec (.ite h₂.debugClose h₂)))

protected theorem Keeps.modeGranted {m : Nat} (h : Keeps s t) : Keeps s (modeGranted t m) :=
  h.modeResult.modeCommit

protected theorem Keeps.modeOwn {m : Nat} (h : Keeps s t) : Keeps s (modeOwn t m) :=
  h.modeDisplace.modeCommit

end

end Sys2Proof.Machine

end

section
/-! SUPPORT. What the operations of Sys2Proof/Machine/Calib.lean keep of the canonical form. -/

namespace Sys2Proof.Machine

section
set_option Elab.async false
variable {s t u : State}

protected theorem Keeps.calTake {set : Nat} {x : Nat × Nat} (h : Keeps s t) : Keeps s (calTake t set x) :=
  h.setReg

protected theorem Keeps.calNames (h : Keeps s t) : Keeps s (calNames t) :=
  h.forN (fun _ _ h₁ => by split; exacts [h₁.setFld.setFld, h₁])

protected theorem Keeps.calLoad {set : Nat} (h : Keeps s t) : Keeps s (calLoad t set) :=
  .ite h (h.foldl (fun _ _ h₁ => h₁.calTake))

protected theorem Keeps.calDeliver {set : Nat} (h : Keeps s t) : Keeps s (calDeliver t set) :=
  h.setMfp

protected theorem Keeps.calBoot {set : Nat} (h : Keeps s t) : Keeps s (calBoot t set) :=
  .ite h (h.foldl (fun _ _ h₁ => by split; exacts [h₁.setWords, h₁]))

protected theorem Keeps.safChannels (h : Keeps s t) : Keeps s (safChannels t) :=
  (h.calLoad.forN (fun _ _ h₁ => h₁.setFlag)).forN (fun _ _ h₁ => h₁.setFlag)

end

end Sys2Proof.Machine

end

section
/-! SUPPORT. What the operations of Sys2Proof/Machine/Package.lean keep of the canonical form. -/

namespace Sys2Proof.Machine

section
set_option Elab.async false
variable {s t u : State}

protected theorem Keeps.setUpdState {v : Nat} (h : Keeps s t) : Keeps s (t.setUpdState v) :=
  h.setFld

protected theorem Keeps.updCode {code : Nat} (h : Keeps s t) : Keeps s (updCode t code) :=
  h.setReg

protected theorem Keeps.updCount {k : Nat} (h : Keeps s t) : Keeps s (t.updCount k) :=
  h.setUpd

protected theorem Keeps.stagingFree (h : Keeps s t) : Keeps s (stagingFree t) :=
  h.setUpd.setUpdState.setReg.setReg.setFld.setReg.setReg

protected theorem Keeps.putSet {k : Nat} {r : SetRec} (h : Keeps s t) : Keeps s (t.putSet k r) :=
  h.setUpd

protected theorem Keeps.pointer {set : Nat} {trial : Bool} (h : Keeps s t) : Keeps s (pointer t set trial) :=
  h.setFld.setFlag

protected theorem Keeps.fallBack {reason : Nat} (h : Keeps s t) : Keeps s (fallBack t reason) :=
  h.pointer.setUpdState.updCount.logEvent.use fun h₁ => .ite h₁.putSet.setUpd.lockOut h₁

protected theorem Keeps.bootTrial (h : Keeps s t) : Keeps s (bootTrial t) :=
  .ite h.fallBack (.use (.ite h.setFld.setReg h.setFld) fun h₁ => .ite h₁.setUpdState h₁.setUpd.fallBack)

protected theorem Keeps.bootPlain (h : Keeps s t) : Keeps s (bootPlain t) :=
  .ite h (.ite h.setUpd.pointer.updCount.logEvent h.setUpd)

protected theorem Keeps.bootParts (h : Keeps s t) : Keeps s (bootParts t) :=
  .use (.ite h.setUpd.setUpdState h.setUpd) fun h₁ => .ite h₁.bootTrial h₁.bootPlain

end

end Sys2Proof.Machine

end

section
/-! SUPPORT. What the operations of Sys2Proof/Machine/Yield.lean keep of the canonical form. -/

namespace Sys2Proof.Machine

section
set_option Elab.async false
variable {s t u : State}

protected theorem Keeps.plateCheck {rd : Nat → Word} {q : Word} (h : Keeps s t) : Keeps s ((plateCheck t rd q).1) :=
  h.setYld

protected theorem Keeps.yldTau {rd : Nat → Word} {q : Word} (h : Keeps s t) : Keeps s ((yldTau t rd q).1) :=
  h.setYld

protected theorem Keeps.setStep {x : YldStep} (h : Keeps s t) : Keeps s (setStep t x) :=
  h.setYld

protected theorem Keeps.openStep {rd : Nat → Word} {low : Bool} (h : Keeps s t) : Keeps s (openStep t rd low) :=
  h.setYld

protected theorem Keeps.stepSample {rd : Nat → Word} {low : Bool} {x : YldStep} {d : Int} (h : Keeps s t) : Keeps s (stepSample t rd low x d) :=
  .ite h.setStep.openStep h.setStep

protected theorem Keeps.yldTravel {rd : Nat → Word} {low : Bool} (h : Keeps s t) : Keeps s (yldTravel t rd low) :=
  .ite (by split; exacts [h.setYld.stepSample, h.setYld.openStep]) (by split; exacts [h.setYld.setStep, h.setYld])

protected theorem Keeps.creditShare {rd : Nat → Word} {first k flags : Nat} {m : Word} (h : Keeps s t) :
    Keeps s (creditShare t rd first k flags m) :=
  .ite h h.setYld

protected theorem Keeps.yldCredit {rd : Nat → Word} {q : Word} {low : Bool} (h : Keeps s t) : Keeps s (yldCredit t rd q low) :=
  (h.foldl (fun _ _ h₁ => by split; exacts [h₁.creditShare, .ite h₁ h₁.setYld])).setYld

protected theorem Keeps.yldMoist (h : Keeps s t) : Keeps s (yldMoist t) :=
  h.setYld

protected theorem Keeps.stepFinal {x : YldStep} (h : Keeps s t) : Keeps s (stepFinal t x) :=
  h.setYld

protected theorem Keeps.yldFinal {rd : Nat → Word} {sk : List Int} {n : Nat} (h : Keeps s t) : Keeps s (yldFinal rd sk n t) := by
  induction n generalizing t with
  | zero => exact h
  | succ n ih =>
    unfold Machine.yldFinal
    split
    · exact h
    · split
      · exact h
      · exact .ite (ih h.stepFinal) h

protected theorem Keeps.yldSend (h : Keeps s t) : Keeps s ((yldSend t).1) := by
  unfold Machine.yldSend
  dsimp only
  split
  · exact .setYld (by split; exacts [.ite h (.ite h.setYld h.setYld), h])
  · split
    · exact .ite h (.ite h.setYld h.setYld)
    · exact h

protected theorem Keeps.yldCarry (h : Keeps s t) : Keeps s (yldCarry t) :=
  h.setYld

protected theorem Keeps.yldSample (h : Keeps s t) : Keeps s (yldSample t) := by
  have hP : ∀ {u : State} {rd : Nat → Word} {q : Word}, Keeps s u → Keeps s (plateCheck u rd q).1 := fun h => h.plateCheck
  have hT : ∀ {u : State} {rd : Nat → Word} {q : Word}, Keeps s u → Keeps s (yldTau u rd q).1 := fun h => h.yldTau
  have hS : ∀ {u : State}, Keeps s u → Keeps s (yldSend u).1 := fun h => h.yldSend
  unfold Machine.yldSample
  generalize plateCheck = P, yldTau = T, yldSend = S at hP hT hS ⊢
  split
  · exact h
  · exact (hS (hT (hP h)).yldTravel.yldCredit.yldMoist.yldFinal.yldCarry).setYld.holdNative

protected theorem Keeps.lossSample (h : Keeps s t) : Keeps s (lossSample t) := by
  unfold Machine.lossSample
  split
  · exact h
  · exact h.setYld.holdNative

end

end Sys2Proof.Machine

end

section
/-! SUPPORT. What the operations of Sys2Proof/Machine/Boot.lean keep of the canonical form. -/

namespace Sys2Proof.Machine

section
set_option Elab.async false
variable {s t u : State}

protected theorem Keeps.resetBegin {bridge : Bool} (h : Keeps s t) : Keeps s (resetBegin t bridge) :=
  h.tabEnd.debugClose.lswReset.stripInterrupt.stripSave

protected theorem Keeps.bootClocks (h : Keeps s t) : Keeps s (bootClocks t) :=
  h.setFreq.showTick.setFlag.setFld

protected theorem Keeps.bootCounters {cause : Nat} (h : Keeps s t) : Keeps s (bootCounters t cause) :=
  h.setReg.setReg.setReg.setReg.setReg.count

protected theorem Keeps.bootLatch (h : Keeps s t) : Keeps s (bootLatch t) := by
  unfold Machine.bootLatch
  dsimp only
  split
  · exact .setReg (.setFlag (.setFld (.setFld (by split; exacts [h.setSaf.logEvent, h.setSaf, h]))))
  · split
    · exact h.setSaf.logEvent
    · exact h.setSaf
    · exact h

protected theorem Keeps.calMissing {x : Nat × Nat} (h : Keeps s t) : Keeps s (calMissing t x) :=
  h.setUpd.updCount.logEvent.use fun h₁ => .ite h₁.lockOut h₁

protected theorem Keeps.bootCal (h : Keeps s t) : Keeps s (bootCal t) := by
  have h := h.calNames.foldl (f := calLoad) (l := [1, 2, 7, 8, 9, 10, 11, 12, 14] ++ (List.range 224).map (· + 32)) fun _ _ h => h.calLoad
  unfold Machine.bootCal
  dsimp only
  exact .use (.ite (h.forN fun _ _ h => h.setFld) h) fun h => .use (.ite h h.setUpd) fun h => .ite h h.setSteer

protected theorem Keeps.bootMram {cause : Nat} {bad : List (Nat × Nat)} (h : Keeps s t) : Keeps s (bootMram t cause bad) := by
  have h₁ : ∀ code src d0 d1 : Nat, Keeps s (bootCal (bad.foldl calMissing (bootLatch (logEvent (bootCounters t cause) code src d0 d1)))) :=
    fun _ _ _ _ => (h.bootCounters.logEvent.bootLatch.foldl fun _ _ h => h.calMissing).bootCal
  exact (h₁ _ _ _ _).setPm.rolesReset.stripBoot

protected theorem Keeps.bootMirror (h : Keeps s t) : Keeps s (bootMirror t) :=
  .safChannels (by split; exacts [.setSafPair (.forN (.setFld (.safShowCfg (by split; exacts [h.setBytes, h])))
                     (fun _ _ h₁ => .ite h₁.setSafPair h₁)), .forN (.setFld (.safShowCfg
    (by split; exacts [h.setBytes, h]))) (fun _ _ h₁ => .ite h₁.setSafPair h₁)])

protected theorem Keeps.unpackConfig {b : List Byte} (h : Keeps s t) : Keeps s (unpackConfig t b) :=
  h.setCe

protected theorem Keeps.configBack (h : Keeps s t) : Keeps s (configBack t) :=
  .ite h.setCe h

protected theorem Keeps.nativeRegs {e i loop : Nat} (h : Keeps s t) : Keeps s (nativeRegs t e i loop) :=
  .ite (.use (.ite h.setFld.setFld.setFld.setFld h.setFld.setFld.setFld) fun h₁ => .ite h₁.setFld h₁) h

protected theorem Keeps.loadStored {x : StoredLoop} (h : Keeps s t) : Keeps s (loadStored t x) :=
  (h.slotTake.foldl (fun _ _ h₁ => h₁.setReg)).setReg.setFlag.setFld.nativeRegs.setWords

protected theorem Keeps.loadFacet {b : Nat} (h : Keeps s t) : Keeps s (loadFacet t b) := by
  unfold Machine.loadFacet
  split
  · exact h.setActive (smWf_foldl_smPut _ fun _ _ => rfl)
  · exact h

protected theorem Keeps.bootImages (h : Keeps s t) : Keeps s (bootImages t) :=
  .fusStart (.forN (.foldl (by split; exacts [.setBytes (.refreshEngines (.forN (.foldl (.setCe (.foldl (.forN (by split; exacts [h.unpackConfig,
                                                                                                                     h.configBack])
      (fun _ _ h₁ => h₁.setFld)) (fun _ _ h₁ => h₁.loadStored))) (fun _ _ h₁ => h₁.foldl (fun _ _ h₂ => h₂.publish)))
      (fun _ _ h₁ => h₁.loadFacet))), .refreshEngines (.forN (.foldl (.setCe (.foldl (.forN (by split; exacts [h.unpackConfig, h.configBack])
      (fun _ _ h₁ => h₁.setFld)) (fun _ _ h₁ => h₁.loadStored))) (fun _ _ h₁ => h₁.foldl (fun _ _ h₂ => h₂.publish)))
      (fun _ _ h₁ => h₁.loadFacet))]) (fun _ _ h₁ => h₁.calBoot)) (fun _ _ h₁ => h₁.setReg.setReg))

protected theorem Keeps.bootLoops (h : Keeps s t) : Keeps s (bootLoops t) :=
  h.forN (fun _ _ h₁ => by split; exacts [.ite h₁.startLoop h₁, h₁])

protected theorem Keeps.bootApps (h : Keeps s t) : Keeps s (bootApps t) :=
  (h.setFld.forN (fun _ _ h₁ => .ite h₁.canEnable h₁)).setGns.gnsStart.use fun h₁ => .modeGates (.setPm (.ite h₁.panelStart h₁))

protected theorem Keeps.bootFailed {step : Nat} (h : Keeps s t) : Keeps s (bootFailed t step) :=
  h.setFld.setFlag.modeGates

protected theorem Keeps.bootRun {cause : Nat} {bad : List (Nat × Nat)} (h : Keeps s t) : Keeps s (bootRun t cause bad) := by
  unfold Machine.bootRun
  dsimp only
  split
  · exact h.bootClocks.bootParts.bootFailed
  · exact h.bootClocks.bootParts.bootMram.bootMirror.bootImages.bootApps

protected theorem Keeps.warmReset {cause : Nat} {bridge : Bool} (h : Keeps s t) : Keeps s (warmReset t cause bridge) :=
  h.resetBegin.bootBase.bootRun

end

end Sys2Proof.Machine

end

section
/-! SUPPORT. What the operations of Sys2Proof/Machine/Update.lean keep of the canonical form. -/

namespace Sys2Proof.Machine

section
set_option Elab.async false
variable {s t u : State}

protected theorem Keeps.takeManifest {b : List Byte} (h : Keeps s t) : Keeps s (takeManifest t b) :=
  .ite h.updCode (h.logEvent.updCode.use fun h₁ => .ite h₁ (.setReg (.setReg (.setFld (.setReg64 (.ite h₁.setUpd h₁.setUpd.setUpdState))))))

protected theorem Keeps.verifyStart (h : Keeps s t) : Keeps s (verifyStart t) :=
  h.setUpdState.setUpd

protected theorem Keeps.blockTake {b : List Byte} (h : Keeps s t) : Keeps s (blockTake t b) :=
  .ite h.updCode (.ite h.takeManifest (.ite h.updCode (.setReg (.updCode (.ite h (.ite h.setUpd.setReg.verifyStart h.setUpd.setReg))))))

protected theorem Keeps.takeBlock {b : List Byte} (h : Keeps s t) : Keeps s (takeBlock t b) :=
  h.blockTake.updCount

/-- `conv` unfolds the function apart from its argument: no comparison of terms then evaluates what is read from memory. -/
protected theorem Keeps.blockGo (h : Keeps s t) : Keeps s (blockGo t) := by
  have hF : ∀ {u i a n}, Keeps s u → Keeps s (fetchIova u i a n).2 := fun h => h.fetchIova
  conv => arg 2; fun; delta Machine.blockGo
  generalize fetchIova = F at hF ⊢
  split
  · next e => exact ((hF h).of_snd e).takeBlock
  · next e => exact ((hF h).of_snd e).updCode.updCount

protected theorem Keeps.verifyPart {x : Nat × PartEntry} (h : Keeps s t) : Keeps s (verifyPart t x) :=
  .ite h h.setUpd.updCount.logEvent

protected theorem Keeps.verifyEnd (h : Keeps s t) : Keeps s (verifyEnd t) := by
  unfold Machine.verifyEnd
  split
  · exact .ite ((h.setUpd.foldl (fun _ _ h₁ => h₁.verifyPart)).use fun h₁ => .ite h₁.setReg.setUpdState.logEvent h₁.setReg.setUpdState) h
  · exact h

protected theorem Keeps.apertureShow (h : Keeps s t) : Keeps s (apertureShow t) :=
  h.setFld.setFlag

protected theorem Keeps.ownRequest {m : Nat} (h : Keeps s t) : Keeps s (ownRequest t m) :=
  h.modeRequest

protected theorem Keeps.activationStart (h : Keeps s t) : Keeps s (activationStart t) :=
  h.setUpdState.setUpd

protected theorem Keeps.activationCheck (h : Keeps s t) : Keeps s (activationCheck t) :=
  .ite h.setUpdState.setUpd.updCount.logEvent.updCode.ownRequest h

protected theorem Keeps.copyPart {old : SetRec} {m : Manifest} {x : Nat × PartEntry} (h : Keeps s t) : Keeps s (copyPart t old m x) :=
  h.setUpd

protected theorem Keeps.copyEnd (h : Keeps s t) : Keeps s (copyEnd t) := by
  unfold Machine.copyEnd
  split
  · exact .ite ((h.foldl (fun _ _ h₁ => h₁.copyPart)).use fun h₁ => .ite h₁.putSet.setUpd h₁) h
  · exact h

protected theorem Keeps.updTick (h : Keeps s t) : Keeps s (updTick t) := by
  unfold Machine.updTick
  dsimp only
  split
  · exact .ite (.ite (.verifyEnd (.ite h.setUpd h)) (.ite h.setUpd h)) (.ite (.ite (.copyEnd (.ite h.setUpd h)) (.ite h.setUpd h))
      (.ite h.setUpd h))
  · exact .ite h.setUpd h

protected theorem Keeps.activate (h : Keeps s t) : Keeps s (activate t) :=
  .ite h.pointer.setFld.logEvent.warmReset h

protected theorem Keeps.healthShow (h : Keeps s t) : Keeps s (healthShow t) :=
  h.setReg

protected theorem Keeps.confirmed (h : Keeps s t) : Keeps s (confirmed t) :=
  .ownRequest (.setFlag (.logEvent (.setUpd (.setCe (.stagingFree
    (by split; exacts [.ite h.pointer.setFld.setReg h.pointer.setFld, h.pointer.setFld]))))))

protected theorem Keeps.updAbandon (h : Keeps s t) : Keeps s (updAbandon t) :=
  .ite h.updCode h.stagingFree.updCode

protected theorem Keeps.updConfirm (h : Keeps s t) : Keeps s (updConfirm t) :=
  .ite h.healthShow.confirmed.updCode h.healthShow.updCode

protected theorem Keeps.updReject (h : Keeps s t) : Keeps s (updReject t) :=
  .ite h.updCode.fallBack.warmReset h.updCode

protected theorem Keeps.updCmdWrite {v : Word} (h : Keeps s t) : Keeps s (updCmdWrite t v) :=
  .ite h (by split; exacts [h.updAbandon, h.updConfirm, h.updReject, h.updCode])

protected theorem Keeps.trialTick (h : Keeps s t) : Keeps s (trialTick t) :=
  .ite h.fallBack.warmReset h

protected theorem Keeps.safActivate (h : Keeps s t) : Keeps s (safActivate t) :=
  .ite h.putSet.pointer.setFld.setFlag.setUpd.logEvent.warmReset h

protected theorem Keeps.calEffect {set ofs len : Nat} (h : Keeps s t) : Keeps s (calEffect t set ofs len) :=
  .ite h.calDeliver (.ite h.setSteer (.ite h.setSaf (.ite h.setEvr h)))

protected theorem Keeps.calShow {code src set : Nat} (h : Keeps s t) : Keeps s (calShow t code src set) :=
  h.setReg

protected theorem Keeps.calStore {set r ofs : Nat} {data : List Byte} {key : Nat} (h : Keeps s t) : Keeps s ((calStore t set r ofs data key).1) :=
  h.setUpd.logEvent.setReg

protected theorem Keeps.parRecords (h : Keeps s t) : Keeps s (parRecords t) :=
  .ite h (h.forN (fun _ _ h₁ => .ite h₁ h₁.calStore))

protected theorem Keeps.calSubmit {b : List Byte} (h : Keeps s t) : Keeps s (calSubmit t b) :=
  .ite h.logEvent.calShow h.calStore.calShow.calEffect

set_option linter.auxLemma false in
/-- A block read from memory: what follows it, with the block or without. -/
protected theorem Keeps.onBlock {x : Option (List Byte) × State} {f : List Byte → State → State} {g : State → State} (h : Keeps s x.2)
    (hf : ∀ b u, Keeps s u → Keeps s (f b u)) (hg : ∀ u, Keeps s u → Keeps s (g u)) :
    Keeps s (blockGo.match_1 (fun _ => State) x f g) := by
  obtain ⟨_ | b, u⟩ := x
  · exact hg u h
  · exact hf b u h

/-- `conv` unfolds the function apart from its argument: no comparison of terms then evaluates what is read from memory. -/
protected theorem Keeps.calGo (h : Keeps s t) : Keeps s (calGo t) := by
  conv => arg 2; fun; delta Machine.calGo; zeta
  refine .onBlock h.fetchIova (fun b u h => ?_) fun u h => h.calShow
  exact .onBlock h.fetchIova (fun b u h => h.calSubmit) fun u h => h.calShow

protected theorem Keeps.updNonce (h : Keeps s t) : Keeps s (updNonce t) :=
  h.fresh.fresh.setReg.setReg.setUpd

protected theorem Keeps.debugOpen {scope min : Nat} (h : Keeps s t) : Keeps s (debugOpen t scope min) :=
  h.setReg.setUpd.updCount.logEvent

protected theorem Keeps.tokEffect {b : List Byte} (h : Keeps s t) : Keeps s (tokEffect t b) := by
  unfold Machine.tokEffect
  dsimp only
  split
  · exact h.setFlag.setFlag
  · exact .ite h.setKey.keyAnnounce h.setKey
  · exact h.setKey
  · exact h.setKey
  · exact h.debugOpen

protected theorem Keeps.tokShow {c : Nat} (h : Keeps s t) : Keeps s (tokShow t c) :=
  h.setReg

protected theorem Keeps.tokDeny {kind : Nat} (h : Keeps s t) : Keeps s (tokDeny t kind) :=
  h.logEvent.tokShow

protected theorem Keeps.tokSubmit {b : List Byte} (h : Keeps s t) : Keeps s (tokSubmit t b) :=
  .ite h.tokShow (.use (.ite h.setUpd h) fun h₁ => .ite h₁.logEvent.tokEffect.tokShow h₁.tokDeny)

/-- `conv` unfolds the function apart from its argument: no comparison of terms then evaluates what is read from memory. -/
protected theorem Keeps.tokAt (h : Keeps s t) : Keeps s (tokAt t).2 := by
  have h₁ : Keeps s (fetchIova t storeInit (t.reg64 Ra.UPD_TOK_LO Ra.UPD_TOK_HI) 0x20).2 := h.fetchIova
  conv => arg 2; arg 1; fun; delta Machine.tokAt; zeta
  generalize fetchIova t storeInit (t.reg64 Ra.UPD_TOK_LO Ra.UPD_TOK_HI) 0x20 = x at h₁ ⊢
  obtain ⟨_ | b, u⟩ := x
  · exact h₁
  · exact h₁.fetchIova

/-- `conv` unfolds the function apart from its argument: no comparison of terms then evaluates what is read from memory. -/
protected theorem Keeps.tokGo (h : Keeps s t) : Keeps s (tokGo t) := by
  have hT : Keeps s (Machine.tokAt t).2 := h.tokAt
  conv => arg 2; fun; delta Machine.tokGo
  generalize Machine.tokAt t = x at hT ⊢
  split
  · exact hT.tokSubmit
  · exact hT.tokDeny

/-- `conv` unfolds the function apart from its argument: no comparison of terms then evaluates what is read from memory. -/
protected theorem Keeps.tokOfKind {kind : Nat} (h : Keeps s t) : Keeps s (tokOfKind t kind) := by
  conv => arg 2; fun; fun; delta Machine.tokOfKind
  generalize (Machine.tokAt t).1 = x
  split
  · exact .ite h.tokGo h
  · exact h

protected theorem Keeps.debugTick (h : Keeps s t) : Keeps s (debugTick t) := by
  unfold Machine.debugTick
  split
  · exact .ite h.debugClose h.setFld
  · exact h

end

end Sys2Proof.Machine

end

section
/-! SUPPORT. What the operations of Sys2Proof/Machine/Recorder.lean keep of the canonical form. -/

namespace Sys2Proof.Machine

section
set_option Elab.async false
variable {s t u : State}

protected theorem Keeps.recordClose (h : Keeps s t) : Keeps s (recordClose t) :=
  h.setEvr

protected theorem Keeps.appEvent {core : Nat} (h : Keeps s t) : Keeps s (appEvent t core) :=
  .ite h.setFld.logEvent h.setFld

protected theorem Keeps.counterCommit (h : Keeps s t) : Keeps s (counterCommit t) :=
  h.setEvr

protected theorem Keeps.counterDue (h : Keeps s t) : Keeps s (counterDue t) :=
  .ite h.counterCommit h

protected theorem Keeps.histoSample (h : Keeps s t) : Keeps s (histoSample t) :=
  .ite h h.setEvr

protected theorem Keeps.evrNonce (h : Keeps s t) : Keeps s (evrNonce t) :=
  h.fresh.fresh.setReg.setReg.setEvr

protected theorem Keeps.clearScope {scope : Nat} (h : Keeps s t) : Keeps s (clearScope t scope) :=
  .use (.ite h.setEvr.setFld h) fun h₁ => .ite h₁.setEvr h₁

protected theorem Keeps.clearDeny {code key : Nat} (h : Keeps s t) : Keeps s (clearDeny t code key) :=
  h.logEvent.setFld

protected theorem Keeps.clearSubmit {b : List Byte} (h : Keeps s t) : Keeps s (clearSubmit t b) :=
  .ite h.clearDeny (.use (.ite h.setEvr h) fun h₁ => .ite h₁.clearScope.writeRecord.setFld.count h₁.clearDeny)

/-- `conv` unfolds the function apart from its argument: no comparison of terms then evaluates what is read from memory. -/
protected theorem Keeps.clearGo (h : Keeps s t) : Keeps s (clearGo t) := by
  have hF : ∀ {u i a n}, Keeps s u → Keeps s (fetchIova u i a n).2 := fun h => h.fetchIova
  conv => arg 2; fun; delta Machine.clearGo
  generalize fetchIova = F at hF ⊢
  split
  · next e => exact ((hF h).of_snd e).clearSubmit
  · next e => exact ((hF h).of_snd e).clearDeny

protected theorem Keeps.loupeLatch {w : Nat} (h : Keeps s t) : Keeps s (loupeLatch t w) :=
  (h.forN (fun _ _ h₁ => h₁.setReg)).use fun h₁ => .ite h₁.setFld.count.setFld h₁.setFld.count

protected theorem Keeps.loupeNext {w : Nat} (h : Keeps s t) : Keeps s (loupeNext t w) :=
  h.setFld

protected theorem Keeps.takeCkpt {num : Nat} (h : Keeps s t) : Keeps s (takeCkpt t num) :=
  .addCkpt (.tabRec (.setTab (.ite h.setFlag.tabRec h))) fun hc => (h.canon hc).bndOf

protected theorem Keeps.ckptDue (h : Keeps s t) : Keeps s (ckptDue t) :=
  .ite h.takeCkpt h

protected theorem Keeps.segOpen (h : Keeps s t) : Keeps s (segOpen t) :=
  .ite h.setFld.setFlag.setTab.takeCkpt h

protected theorem Keeps.tabBoundary (h : Keeps s t) : Keeps s (tabBoundary t) :=
  h.segOpen.ckptDue

protected theorem Keeps.tabFull (h : Keeps s t) : Keeps s (tabFull t) :=
  .ite h.tabEnd h

protected theorem Keeps.tabCfgWrite {v : Word} (h : Keeps s t) : Keeps s (tabCfgWrite t v) :=
  .ite h.plainWrite h.plainWrite.tabEnd

protected theorem Keeps.ringTrim (h : Keeps s t) : Keeps s (ringTrim t) :=
  h.setTab

protected theorem Keeps.holdGrow {tick : Nat} (h : Keeps s t) : Keeps s (holdGrow t tick) :=
  h.forN (fun _ _ h₁ => by split; exacts [.ite h₁.setTab.setFld h₁, h₁])

protected theorem Keeps.blockWrite (h : Keeps s t) : Keeps s (blockWrite t) :=
  h.holdGrow.setTab.setFld.setReg.count.ringTrim

protected theorem Keeps.tabFlush {n : Nat} (h : Keeps s t) : Keeps s (tabFlush n t) := by
  induction n generalizing t with
  | zero => exact h
  | succ n ih => exact .ite (ih h.blockWrite) h

protected theorem Keeps.tabRate (h : Keeps s t) : Keeps s (tabRate t) :=
  h.setReg.setReg

protected theorem Keeps.holdRelease {h' : Nat} {v : Word} (h : Keeps s t) : Keeps s (holdRelease t h' v) :=
  .ite h.setTab.setReg.setReg h

protected theorem Keeps.winTick (h : Keeps s t) : Keeps s (winTick t) := by
  unfold Machine.winTick
  split
  · exact h.setTab
  · exact h

protected theorem Keeps.winEnd {now : Nat} (h : Keeps s t) : Keeps s (winEnd t now) := by
  unfold Machine.winEnd
  split
  · exact .ite h.setTab.setFld.setReg.logEvent h
  · exact h

protected theorem Keeps.tabTick (h : Keeps s t) : Keeps s (tabTick t) :=
  h.tabFull.winTick.winEnd

protected theorem Keeps.tabFrame (h : Keeps s t) : Keeps s (tabFrame t) :=
  .ite (.ite h.setTab.setFlag.tabRec.count h.setTab) h

end

end Sys2Proof.Machine

end

section
/-! SUPPORT. What the operations of Sys2Proof/Machine/Power.lean keep of the canonical form. -/

namespace Sys2Proof.Machine

section
set_option Elab.async false
variable {s t u : State}

protected theorem Keeps.fullReset {cause : Nat} {bridge : Bool} (h : Keeps s t) : Keeps s (fullReset t cause bridge) :=
  .ite h.warmReset h

protected theorem Answers.execResetReqStuck (h : Keeps s t) : Answers s (execResetReqStuck t) := by
  unfold Machine.execResetReqStuck
  split
  · exact .ite h.setPm.setFlag.bootRun.setFlag.logEvent.next h.next
  · exact h.next

protected theorem Keeps.dropParts {bad : List (Byte × Byte)} (h : Keeps s t) : Keeps s (dropParts t bad) :=
  h.setUpd

protected theorem Keeps.reserveShow {res : Nat} (h : Keeps s t) : Keeps s (reserveShow t res) :=
  h.setFld.setFlag

protected theorem Keeps.reserveMeasured {res cap : Nat} (h : Keeps s t) : Keeps s (reserveMeasured t res cap) :=
  h.reserveShow.setFld.use fun h₁ => .ite h₁.setFlag.logEvent h₁.setFlag

protected theorem Keeps.bootEnd (h : Keeps s t) : Keeps s (bootEnd t) :=
  h.setFld.setPm.modeCommit.use fun h₁ => .ite h₁.fleetEnable h₁

protected theorem Keeps.reserveTick (h : Keeps s t) : Keeps s (reserveTick t) := by
  unfold Machine.reserveTick
  split
  · exact .ite h.setFlag.logEvent h
  · exact h

protected theorem Keeps.wakeUp {src aon : Nat} (h : Keeps s t) : Keeps s (wakeUp t src aon) :=
  h.setPm.resetBegin.bootBase.setFld.bootRun

protected theorem Keeps.pfBegin {mv res : Nat} {stby : Bool} (h : Keeps s t) : Keeps s (pfBegin t mv res stby) := by
  refine Keeps.stripInterrupt ?_
  split
  · exact h.setPm.setFlag.logEvent.safOutsOff.panelStop
  · exact h.setPm.setFlag.logEvent.safOutsOff.panelFast

protected theorem Keeps.pfOutputs (h : Keeps s t) : Keeps s (pfOutputs t) :=
  (h.modeGates.forN (fun _ _ h₁ => h₁.canRetireAll)).use fun h₁ => .ite h₁ h₁.linkOff

protected theorem Keeps.pfStop (h : Keeps s t) : Keeps s (pfStop t) :=
  h.setPm.tabEnd

protected theorem Keeps.pfCommit (h : Keeps s t) : Keeps s (pfCommit t) :=
  .counterCommit (.stripSave (.setGns (.ite h h.setClk)))

protected theorem Keeps.pfOff {p : PfSeq} (h : Keeps s t) : Keeps s (pfOff t p) :=
  .ite (.ite h.modeResult.setFld.setFld.setPm.setFlag.setFld.wakeUp h.modeResult.setFld.setFld.setPm.setFlag.setFld) (.ite
      (.ite h.resetBegin.bootBase.modeGates.setPm h.warmReset) h.setFld.setFld.setPm.setFlag.setFld)

protected theorem Keeps.pfNote {k : Nat} (h : Keeps s t) : Keeps s (pfNote t k) := by
  unfold Machine.pfNote
  split
  · exact h.setPm.setFld
  · exact h

protected theorem Keeps.pfTick (h : Keeps s t) : Keeps s (pfTick t) := by
  unfold Machine.pfTick
  split
  · split
    · exact h.pfOutputs.pfNote
    · exact .ite h.pfStop.pfNote h
    · exact .ite h.pfCommit.pfNote h
    · exact .ite (.pfNote (.ite h h.tabFlush)) h
    · exact .ite h.pfOff h
  · exact h

protected theorem Keeps.thermalOff (h : Keeps s t) : Keeps s (thermalOff t) := by
  unfold Machine.thermalOff
  split
  · exact .ite h.lockOut.safOutsOff.setFus.setPm h
  · exact h

protected theorem Keeps.thermalBack (h : Keeps s t) : Keeps s (thermalBack t) :=
  .ite h.fullReset h

end

end Sys2Proof.Machine

end

section
/-! SUPPORT. What the operations of Sys2Proof/Machine/Unload.lean keep of the canonical form. -/

namespace Sys2Proof.Machine

section
set_option Elab.async false
variable {s t u : State}

protected theorem Keeps.unloadEndReq {sf : Nat} (h : Keeps s t) : Keeps s (unloadEndReq t sf) :=
  .ite (h.setFld.setFlr fun _ e => e ▸ rfl) h

protected theorem Keeps.unlCfgWrite {v : Word} (h : Keeps s t) : Keeps s (unlCfgWrite t v) :=
  .use (.ite (h.plainWrite.setFld.setFld.setFlr fun _ e => e ▸ rfl) (.ite h.plainWrite.setFld h.plainWrite)) fun h₁ => .ite h₁.unloadEndReq h₁

protected theorem Keeps.unloadRefused (h : Keeps s t) : Keeps s (unloadRefused t) :=
  h.setFld.setFld

protected theorem Answers.execUnloadExitRequest (h : Keeps s t) : Answers s (execUnloadExitRequest t) := by
  unfold Machine.execUnloadExitRequest
  split
  · exact .ite h.modeRequest.next h.next
  · exact h.next

protected theorem Keeps.unloadTick (h : Keeps s t) : Keeps s (unloadTick t) :=
  .use (.ite h.unloadEndReq h) fun h₁ => .ite h₁.setFlag.setFld h₁

protected theorem Keeps.unloadExit (h : Keeps s t) : Keeps s (unloadExit t) :=
  .ite (h.modeDisplace.setFld.mfClear.use fun h₁ => .ite h₁.modeOwn h₁.setPm) h

end

end Sys2Proof.Machine

end

section
/-! SUPPORT. What the operations of Sys2Proof/Machine/Supply.lean keep of the canonical form. -/

namespace Sys2Proof.Machine

section
set_option Elab.async false
variable {s t u : State}

protected theorem Keeps.gndShow {g : Nat} {lost : Bool} {v : Nat} (h : Keeps s t) : Keeps s (gndShow t g lost v) :=
  h.setFlag.setFld

protected theorem Keeps.supShow {inp mv : Nat} (h : Keeps s t) : Keeps s (supShow t inp mv) :=
  .ite h.setFld h.setFld

protected theorem Keeps.supBit {f : Fld} {inp : Nat} {on : Bool} (h : Keeps s t) : Keeps s (supBit t f inp on) :=
  h.setFld

protected theorem Keeps.batBChange (h : Keeps s t) : Keeps s (batBChange t) :=
  .ite (h.vlvGates.vlvLive (fun _ h₁ => h₁.forN (fun _ _ h₂ => h₂.readySet))) h.vlvGates

protected theorem Answers.execSupplyLevelCrossing {inp : Fin 3} {lvl : Fin 4} {on : Bool} {mv : Half} (h : Keeps s t) :
    Answers s (execSupplyLevelCrossing inp lvl on mv t) := by
  unfold Machine.execSupplyLevelCrossing
  dsimp only
  split
  · exact .next (.ite h.supShow.supBit.lswOv h.supShow.supBit)
  · exact h.supShow.supBit.next
  · exact .next (.ite h.supShow.setPm (.ite h.supShow.setPm.batBChange h.supShow))
  · exact .ite (.next (.ite h.supShow.setFld h.supShow)) (.next (.ite h.supShow.supBit.lswReverse h.supShow.supBit.batBChange))

protected theorem Keeps.thmShow {k : Nat} (h : Keeps s t) : Keeps s (thmShow t k) :=
  h.setFlag.setFlag.use fun h₁ => .ite h₁.setFld.setFld.setReg h₁.setFld.setFld

protected theorem Keeps.siteRead {k : Nat} {valid : Bool} {n : Nat} (h : Keeps s t) : Keeps s (siteRead t k valid n) :=
  .setPm (.setSite (.thmShow (.forN (.setSite (.setSite (.ite h.setFlag.setFld h.setFlag.count))) fun _ _ h₁ => .ite h₁.logEvent h₁)))

protected theorem Keeps.setStage {st : Nat} (h : Keeps s t) : Keeps s (setStage t st) :=
  .setPm (.setFlag (.setFld (.setFld (.setFld (.setReg (.ite h.count h))))))

protected theorem Keeps.stageStep (h : Keeps s t) : Keeps s (stageStep t) :=
  .ite h.setStage h

protected theorem Keeps.stageSecond (h : Keeps s t) : Keeps s (stageSecond t) :=
  .ite h h.count

protected theorem Keeps.outTick (h : Keeps s t) : Keeps s (outTick t) := by
  refine .ite ?_ h.setPm
  split
  · exact h.setPm
  · exact .ite (h.setFlag.setPm fun _ e => e ▸ rfl) h

end

end Sys2Proof.Machine

end

section
/-! SUPPORT. What the operations of Sys2Proof/Machine/Vhp.lean keep of the canonical form. -/

namespace Sys2Proof.Machine

section
set_option Elab.async false
variable {s t u : State}

protected theorem Keeps.vhpSend {r : VhpRsp} (h : Keeps s t) : Keeps s (vhpSend t r) :=
  h.setVhp

protected theorem Keeps.vhpCount {k : Nat} (h : Keeps s t) : Keeps s (vhpCount t k) :=
  h.count

protected theorem Keeps.vhpShow {i : Nat} (h : Keeps s t) : Keeps s (vhpShow t i) :=
  h.setFld

protected theorem Keeps.vhpEnd {i : Nat} (h : Keeps s t) : Keeps s (vhpEnd t i) :=
  .setReg (.setVs (.ite h.setGns h))

protected theorem Keeps.vhpUnknown {h' : VhpHdr} (h : Keeps s t) : Keeps s (vhpUnknown t h') :=
  .ite h h.setVhp.vhpSend

protected theorem Keeps.vhpReply {i tag kind code : Nat} {data : List Nat} (h : Keeps s t) : Keeps s (vhpReply t i tag kind code data) :=
  h.setVs.vhpSend.vhpShow

protected theorem Keeps.vhpTake {x : VhpHdr} {kind : Nat} {priv : Option Nat} {arg : Nat} (h : Keeps s t) :
    Keeps s (vhpTake t x kind priv arg).1 := by
  refine .ite_fst h ?_
  split
  · exact h.vhpCount.vhpUnknown
  · next i _ =>
    have h₁ : ∀ x : VhpSess, Keeps s ((t.setVs i x).setFld (Fd.VHP_SESS_STAT_IDLE i) 0) := fun _ => h.setVs.setFld
    refine .ite_fst h.vhpCount.vhpUnknown (.ite_fst h.setVhp.vhpCount ?_)
    dsimp only
    split
    · exact (h₁ _).vhpSend
    · refine .ite_fst (h₁ _) (.ite_fst (h₁ _).vhpCount.vhpSend ?_)
      split
      · exact (h₁ _).vhpReply
      · exact .ite_fst (h₁ _).vhpReply (h₁ _).vhpCount.setVs.vhpShow

protected theorem Keeps.vhpServe {x : VhpHdr} {kind : Nat} {priv : Option Nat} {f : State → State × Nat × List Nat} (h : Keeps s t)
    (hf : ∀ t, Keeps s t → Keeps s (f t).1) : Keeps s (vhpServe t x kind priv f) := by
  unfold Machine.vhpServe
  split
  · next e => exact (hf _ (h.vhpTake.of_fst e)).vhpReply
  · next e => exact h.vhpTake.of_fst e

protected theorem Answers.execVhpHello {src : Word} {tag : Half} (h : Keeps s t) : Answers s (execVhpHello src tag t) := by
  refine .ite h.next ?_
  split
  · exact h.vhpSend.next
  · exact (Keeps.foldl_fst h fun _ _ h => h.fresh).setReg.setFld.setVs.vhpSend.next

protected theorem Keeps.vhpOpenExpire {i : Nat} (h : Keeps s t) : Keeps s (vhpOpenExpire t i) :=
  .ite h.vhpEnd.vhpSend h

protected theorem Answers.execVhpClose {x : VhpHdr} (h : Keeps s t) : Answers s (execVhpClose x t) := by
  unfold Machine.execVhpClose
  split
  · next e => exact (h.vhpTake.of_fst e).vhpReply.vhpEnd.next
  · next e => exact (h.vhpTake.of_fst e).next

protected theorem Keeps.vhpIdle {i : Nat} (h : Keeps s t) : Keeps s (vhpIdle t i) :=
  .ite h.vhpEnd h

protected theorem Keeps.vhpTxnExpire {i : Nat} (h : Keeps s t) : Keeps s (vhpTxnExpire t i) :=
  h.foldl (fun _ _ h₁ => h₁.vhpReply)

protected theorem Keeps.fleetAppReset (h : Keeps s t) : Keeps s (fleetAppReset t) :=
  (h.foldl (fun _ _ h₁ => h₁.fleetReply)).setFlr

protected theorem Keeps.appReset {cause : Fld} (h : Keeps s t) : Keeps s (appReset t cause) :=
  .ite (h.setFlag.setPm.mbxAppReset.forN (fun _ _ h₁ => h₁.vhpEnd)).fleetAppReset h

protected theorem Keeps.wdogWrite {v : Word} (h : Keeps s t) : Keeps s (wdogWrite t v) :=
  .ite h.plainWrite.setPm h.plainWrite

protected theorem Keeps.rstCtrlWrite {v : Word} (h : Keeps s t) : Keeps s (rstCtrlWrite t v) :=
  .ite h.fullReset (.ite h.appReset h)

protected theorem Keeps.vhpPost {e : Nat} {words : List Word} (h : Keeps s t) : Keeps s (vhpPost t e words) :=
  (h.foldl (fun _ _ h₁ => h₁.mbxPayload)).mbxPost

protected theorem Answers.execVhpMsg {x : VhpHdr} {e : Fin 64} {words : List Word} (h : Keeps s t) : Answers s (execVhpMsg x e words t) := by
  unfold Machine.execVhpMsg
  split
  · next e => exact (h.vhpTake.of_fst e).use fun h => .ite h.vhpReply.next (.ite h.vhpReply.next h.vhpPost.next)
  · next e => exact (h.vhpTake.of_fst e).next

protected theorem Answers.execVhpModeReq {x : VhpHdr} {mode : BitVec 4} (h : Keeps s t) : Answers s (execVhpModeReq x mode t) := by
  unfold Machine.execVhpModeReq
  split
  · next e => exact (h.vhpTake.of_fst e).modeRequest.use fun h => .ite h.vhpReply.next h.next
  · next e => exact (h.vhpTake.of_fst e).next

protected theorem Answers.execVhpReset {x : VhpHdr} {full : Bool} (h : Keeps s t) : Answers s (execVhpReset x full t) := by
  unfold Machine.execVhpReset
  split
  · next e => exact (h.vhpTake.of_fst e).vhpReply.use fun h => .next (.ite h.fullReset h.appReset)
  · next e => exact (h.vhpTake.of_fst e).next

protected theorem Answers.execVhpRtcmOut {h' : VhpHdr} {hz : Byte} {msm7 : Bool} (h : Keeps s t) : Answers s (execVhpRtcmOut h' hz msm7 t) := by
  unfold Machine.execVhpRtcmOut
  dsimp only
  split
  · exact .ite h.vhpTake.setVs.setGns.vhpReply.next (.ite h.vhpTake.setVs.setGns.vhpReply.next h.vhpTake.vhpReply.next)
  · exact h.vhpTake.next

protected theorem Keeps.updAnswer {b : List Byte} (h : Keeps s t) : Keeps s ((updAnswer t b).1) :=
  h.takeBlock

protected theorem Answers.execVhpFwd {x : VhpHdr} {dest : Fin 64} {kind : Half} {payload : List Byte} (h : Keeps s t) :
    Answers s (execVhpFwd x dest kind payload t) := by
  unfold Machine.execVhpFwd
  split
  · next e =>
    have h := h.vhpTake.of_fst e
    refine .ite h.vhpReply.next (.ite h.vhpReply.next ?_)
    split
    · exact h.vhpReply.next
    · exact h.vhpReply.next
    · exact h.txnIssue.next
  · next e => exact (h.vhpTake.of_fst e).next

protected theorem Keeps.fwdResult {d : FwdEnd} (h : Keeps s t) : Keeps s (fwdResult t d) :=
  .ite (.ite h.vhpReply h.vhpReply) h

protected theorem Keeps.vhpWaits {i : Nat} {t' : VhpTxn} (h : Keeps s t) : Keeps s (vhpWaits t i t') :=
  .ite (.ite h.vhpReply (.ite h h.vhpReply)) (.ite (.ite h h.vhpReply) h)

protected theorem Keeps.rtcmStream (h : Keeps s t) : Keeps s (rtcmStream t) := by
  unfold Machine.rtcmStream
  split
  · exact .ite h.vhpSend h
  · exact h

protected theorem Keeps.vhpTick (h : Keeps s t) : Keeps s (vhpTick t) :=
  .ite h (((h.setFlr.foldl (fun _ _ h₁ => h₁.fwdResult)).forN (fun _ _ h₁ => .ite (h₁.foldl (fun _ _ h₂ => h₂.vhpWaits)).setFld h₁)).forN
      (fun _ _ h₁ => h₁.vhpOpenExpire.vhpIdle.vhpTxnExpire)).rtcmStream

end

end Sys2Proof.Machine

end

section
/-! SUPPORT. What the operations of Sys2Proof/Machine/RegWrite.lean keep of the canonical form. -/

namespace Sys2Proof.Machine

section
set_option Elab.async false
variable {s t u : State}

protected theorem Keeps.waitFrame {a : Nat} {v : Word} (h : Keeps s t) : Keeps s (waitFrame t a v) :=
  .plainWrite (.ite h h.setClk)

/-- A hook's actions keep what `Keeps` says. -/
def Hook.Keep (h : Hook) : Prop := ∀ (s : State) {t} (n : Nat), Keeps s t → Keeps s (h.2.2.2 n t)

theorem hooksSys_keep (init : Nat) (v : Word) : (hooksSys init v).Forall Hook.Keep := by
  simp only [hooksSys, List.Forall, Hook.Keep]
  exact ⟨fun _ _ _ h => h.modeRequest, fun _ _ _ h => h.dtSet, fun _ _ _ h => h.steerWrite, fun _ _ _ h => h.waitFrame, fun _ _ _ h => h.waitFrame,
    fun _ _ _ h => h.waitFrame, fun _ _ _ h => h.waitFrame, fun _ _ _ h => h.strmCfgWrite, fun _ _ _ h => h.rstCtrlWrite,
    fun _ _ _ h => h.wdogWrite⟩

theorem hooksMem_keep (init : Nat) (v : Word) : (hooksMem init v).Forall Hook.Keep :=
  ⟨fun _ _ _ h => h.unlessPanel fun _ h => h.dmaCfgWrite, fun _ _ _ h => h.unlessPanel fun _ h => h.dmaTail,
    fun _ _ _ h => h.unlessPanel fun _ h => .ite h.dmaResume (.ite h.dmaSkip h), fun _ _ _ h => .ite h.iommuInv h, fun _ _ _ h => h.mbxCfg2,
    fun _ _ _ h => .ite h.mbxPost h, fun _ _ _ h => h.mbxAckWrite, fun _ _ _ h => .ite h.mbxFree h, fun _ _ _ h => h.dbTarget,
    fun _ _ _ h => h.setReg, fun _ _ _ h => h.mbxPayload⟩

theorem hooksRec_keep (init : Nat) (v : Word) : (hooksRec init v).Forall Hook.Keep :=
  ⟨fun _ _ _ h => .ite h.appEvent h, fun _ _ _ h => .ite h.clearGo h, fun _ _ _ h => .ite h.loupeNext h, fun _ _ _ h => h.tabCfgWrite,
    fun _ _ _ h => h.holdRelease, fun _ _ _ h => .ite h.plainWrite.setRpl h.plainWrite, fun _ _ _ h => h.updCmdWrite,
        fun _ _ _ h => .ite h.blockGo h,
    fun _ _ _ h => .ite h.calGo h, fun _ _ _ h => .ite h.tokGo h, fun _ _ _ h => .ite h.debugClose h⟩

theorem hooksCe_keep (v : Word) : (hooksCe v).Forall Hook.Keep :=
  ⟨fun _ _ _ h => h.loopCmdWrite, fun _ _ _ h => h.migCmdWrite, fun _ _ _ h => h.engCmdWrite, fun _ _ _ h => h.rtCmdWrite,
    fun _ _ _ h => h.spareWrite, fun _ _ _ h => h.hbWrite, fun _ _ _ h => h.steerReq, fun _ _ _ h => h.steerTest, fun _ _ _ h => h.stopReq,
    fun _ _ _ h => h.mfpWrite⟩

theorem hooksSens_keep (init : Nat) (v : Word) : (hooksSens init v).Forall Hook.Keep :=
  ⟨fun _ _ _ h => h.snRegWrite, fun _ _ _ h => h.snRegWrite, fun _ _ _ h => h.snRegWrite, fun _ _ _ h => h.snRegWrite, fun _ _ _ h => h.snRegWrite,
    fun _ _ _ h => h.snRegWrite, fun _ _ _ h => h.snRegWrite, fun _ _ _ h => h.snRegWrite, fun _ _ _ h => h.senseCfgWrite,
    fun _ _ _ h => h.senseCfgWrite, fun _ _ _ h => h.senseCfgWrite, fun _ _ _ h => h.snTestCmd, fun _ _ _ h => h.camCfgWrite,
    fun _ _ _ h => h.pairCfgWrite, fun _ _ _ h => h.mpCfgWrite, fun _ _ _ h => .ite h.expCommit h, fun _ _ _ h => h.fusWrite,
    fun _ _ _ h => .ite h.plainWrite.gnsStart h.plainWrite, fun _ _ _ h => h.allocWrite, fun _ _ _ h => h.baseWrite, fun _ _ _ h => h.nbWrite,
    fun _ _ _ h => h.aidWrite⟩

theorem hooksLink_keep (v : Word) : (hooksLink v).Forall Hook.Keep :=
  ⟨fun _ _ _ h => h.flrCfgWrite, fun _ _ _ h => h.flrDomWrite, fun _ _ _ h => h.roleWrite, fun _ _ _ h => h.unlCfgWrite,
      fun _ _ _ h => h.canCtlWrite,
    fun _ _ _ h => .ite (.canSigRead (.ite h.canSigWrite h)) (.ite h.canSigWrite h), fun _ _ _ h => h.canStrmCfg, fun _ _ _ h => h.txqTail,
    fun _ _ _ h => h.gclDataWrite, fun _ _ _ h => .ite h h.gclCommit, fun _ _ _ h => h.plainWrite.ptpShow⟩

theorem hooksOut_keep (init : Nat) (v : Word) : (hooksOut init v).Forall Hook.Keep :=
  ⟨fun _ _ _ h => h.vlvCfgWrite, fun _ _ _ h => h.bankSwap, fun _ _ _ h => h.bankClr, fun _ _ _ h => h.vlvTestCmd, fun _ _ _ h => h.codeWrite,
    fun _ _ _ h => h.lswCmdWrite, fun _ _ _ h => h.lswCfgWrite, fun _ _ _ h => h.lswClr, fun _ _ _ h => h.lswTestCmd, fun _ _ _ h => h.pnlCtlWrite,
    fun _ _ _ h => h.fbFlip, fun _ _ _ h => .ite h.stripGo h⟩

/-- Every register with an action keeps what `Keeps` says. -/
theorem hooks_keep {init : Nat} {v : Word} {x : Hook} (hx : x ∈ hooks init v) : x.Keep := by
  simp only [hooks, List.mem_append] at hx
  obtain (((((hx | hx) | hx) | hx) | hx) | hx) | hx := hx
  · exact List.forall_iff_forall_mem.mp (hooksSys_keep init v) x hx
  · exact List.forall_iff_forall_mem.mp (hooksMem_keep init v) x hx
  · exact List.forall_iff_forall_mem.mp (hooksRec_keep init v) x hx
  · exact List.forall_iff_forall_mem.mp (hooksCe_keep v) x hx
  · exact List.forall_iff_forall_mem.mp (hooksSens_keep init v) x hx
  · exact List.forall_iff_forall_mem.mp (hooksLink_keep v) x hx
  · exact List.forall_iff_forall_mem.mp (hooksOut_keep init v) x hx

protected theorem Keeps.regAct {init a : Nat} {v : Word} (h : Keeps s t) : Keeps s (regAct t init a v) := by
  unfold Machine.regAct
  split
  · next e => exact hooks_keep (List.mem_of_find?_eq_some e) s _ h
  · exact .ite h h.plainWrite

protected theorem Keeps.regWrite {init addr : Nat} {v : Word} (h : Keeps s t) : Keeps s (regWrite t init addr v) :=
  .ite h.fabErr (.ite (.ite h h.tabCmd.regAct) h.regAct)

protected theorem Keeps.busError {init addr kind : Nat} (h : Keeps s t) : Keeps s (busError t init addr kind) :=
  h.fabErr.coreAbort.use fun h₁ => .ite h₁.lockOut h₁

protected theorem Keeps.busWrite {init addr size : Nat} {v : Word} (h : Keeps s t) : Keeps s (busWrite t init addr size v) :=
  .ite (.ite h.busError (.ite h.fabErr h.regWrite)) (.ite h.setBytes.tabEnd (.ite h.setBytes (.ite h.busError (.ite h.writeIova h.busError))))

protected theorem Keeps.coreAwake {init : Nat} (h : Keeps s t) : Keeps s (coreAwake t init) :=
  .ite h.setPm h

protected theorem Keeps.fabWrite {init addr size : Nat} {v : Word} (h : Keeps s t) : Keeps s (fabWrite t init addr size v) :=
  .ite h.fabPass.busWrite h.fabStall

protected theorem Keeps.fabWrites {n : Nat} (h : Keeps s t) : Keeps s (fabWrites n t) := by
  induction n generalizing t with
  | zero => exact h
  | succ n ih =>
    unfold Machine.fabWrites
    split
    · exact h
    · exact ih h.setFab.busWrite.fabGrant

protected theorem Keeps.fabDrain (h : Keeps s t) : Keeps s (fabDrain t) :=
  h.fabWrites

protected theorem Keeps.busRead {init a : Nat} (h : Keeps s t) : Keeps s ((busRead t init a).2) :=
  .ite_snd h (.readReg (.forN (.ite h.evrNonce (.ite h.updNonce h)) (fun _ _ h₁ => .ite h₁.loupeLatch h₁)))

protected theorem Keeps.busReads {init a n : Nat} (h : Keeps s t) : Keeps s (busReads t init a n).2 := by
  induction n generalizing a t with
  | zero => exact h
  | succ n ih => exact ih h.busRead

protected theorem Keeps.busWrites {init a : Nat} {l : List Word} (h : Keeps s t) : Keeps s (busWrites t init a l) := by
  induction l generalizing a t with
  | nil => exact h
  | cons _ _ ih => exact ih h.busWrite

protected theorem Keeps.readSized {init addr size : Nat} (h : Keeps s t) : Keeps s ((readSized t init addr size).2) :=
  .ite_snd h.fabErr h.busRead

protected theorem Keeps.fabRead {init addr size : Nat} (h : Keeps s t) : Keeps s (fabRead t init addr size) :=
  .ite h.fabStall (.ite h.fabPass.readSized.noteRead h.fabPass.busError)

protected theorem Answers.execRcFieldRead {init : Fin 58} {addr : Word} (h : Keeps s t) : Answers s (execRcFieldRead init addr t) := by
  unfold Machine.execRcFieldRead
  split
  · exact .ite h.next h.coreAwake.fabRead.next
  · exact h.next

protected theorem Keeps.timeoutAct {init addr : Nat} (h : Keeps s t) : Keeps s (timeoutAct t init addr) := by
  refine .ite ?_ (.ite ?_ h.busError)
  · dsimp only
    split
    · exact .ite h.fabErr h.fabErr.dmaFaultAt
    · exact h.fabErr
  · dsimp only
    split
    · exact h.fabErr.setGw
    · exact h.fabErr

end

end Sys2Proof.Machine

end

section
/-! SUPPORT. What the operations of Sys2Proof/Machine/Replay.lean keep of the canonical form. -/

namespace Sys2Proof.Machine

section
set_option Elab.async false
variable {s t u : State}

protected theorem Keeps.divClear (h : Keeps s t) : Keeps s (divClear t) :=
  h.foldl (fun _ _ h₁ => h₁.setReg)

/-- The selected checkpoint is one of those held. -/
theorem selCkpt_mem {c : Ckpt} {l : List TabRec} (h : selCkpt t = some (c, l)) : c ∈ t.rpl.ckpts := by
  unfold selCkpt at h
  dsimp only at h
  split at h
  · next hc =>
    obtain ⟨y, -, h⟩ := Option.map_eq_some_iff.mp h
    cases h
    exact List.mem_of_find?_eq_some hc
  · exact absurd h (by simp)

protected theorem Keeps.replayStart (h : Keeps s t) : Keeps s (replayStart t) := by
  unfold Machine.replayStart
  split
  · next c l e =>
    have hc : c ∈ t.rpl.ckpts := selCkpt_mem e
    have hw : s.Canon → c.bnd.wf := fun h' => (h.canon h').ckpts c hc
    have h : Keeps s (logEvent (tabEnd t 5) Ev.replayStart Src.tabroth c.seg c.num) := h.tabEnd.logEvent
    dsimp only
    generalize logEvent (tabEnd t 5) Ev.replayStart Src.tabroth c.seg c.num = u at h ⊢
    have h := h.divClear
    generalize divClear u = u at h ⊢
    refine (h.putBnd hw).setFld.setLive (fun b hb h' => ?_) fun _ e => e ▸ rfl
    cases hb
    exact (h.canon h').bndOf
  · exact h

protected theorem Keeps.showReplayTick (h : Keeps s t) : Keeps s (showReplayTick t) :=
  h.setReg64

protected theorem Keeps.asLive {f : State → State} (h : Keeps s t) (hf : ∀ t, Keeps s t → Keeps s (f t)) : Keeps s (asLive f t) :=
  (hf _ (h.setLive fun _ hb => absurd hb (by simp))).setLive fun b hb hc => (h.canon hc).live b hb

protected theorem Keeps.deliverMsg {e : Nat} {ws : List Word} (h : Keeps s t) : Keeps s (deliverMsg t e ws) :=
  .ite (h.asLive (fun _ h₁ => (h₁.foldl (fun _ _ h₂ => h₂.setReg)).mbxPost)) h.pathMsg

protected theorem Keeps.cmdTurned {a w code : Nat} (h : Keeps s t) : Keeps s (cmdTurned t a w code) := by
  unfold Machine.cmdTurned
  dsimp only
  split
  · exact h.cmdRefuse
  · exact h.cmdRefuse
  · exact h.migRefuse
  · exact h.setFld

protected theorem Keeps.deliverCmd {a : Nat} {data : List Nat} (h : Keeps s t) : Keeps s (deliverCmd t a data) :=
  .ite h.calCopy (.ite h (.ite h.setRpl (.ite h.setRpl (.ite h.setSteer (.ite h.setMfp (.ite (h.asLive (fun _ h₁ => h₁.parCommit)) (.ite h.setFus
      (.ite h.deliverMsg (.ite (h.asLive (fun _ h₁ => h₁.mbxAck)) (.ite h.cmdTurned (h.asLive (fun _ h₁ => h₁.regAct))))))))))))

protected theorem Keeps.deliverBuf {unit : Nat} {data : List Nat} (h : Keeps s t) : Keeps s (deliverBuf t unit data) :=
  .ite h.fusTake h.setWords

protected theorem Keeps.asImage {f : State → State} (h : Keeps s t) (hf : ∀ t, Keeps s t → Keeps s (f t)) : Keeps s (asImage f t) :=
  .setSaf (.setRpl (hf _ h.setSaf))

protected theorem Keeps.deliverFault {r : TabRec} (h : Keeps s t) : Keeps s (deliverFault t r) :=
  .ite h (by split; exacts [by split; exacts [h.ueAt, h], h.hangAt, h.fusHalt, h])

protected theorem Keeps.deliverRec {r : TabRec} (h : Keeps s t) : Keeps s (deliverRec t r) :=
  .ite (h.asImage (fun _ h₁ => h₁.testPulse)) (.ite (h.asImage (fun _ h₁ => h₁.imagePress)) (.ite h.setPub (.ite h.setRpl (.ite h.deliverCmd
      (.ite h.deliverBuf (.ite h.evacRemove h))))))

protected theorem Keeps.replayDeliver (h : Keeps s t) : Keeps s (replayDeliver t) :=
  h.foldl (fun _ _ h₁ => h₁.deliverRec)

protected theorem Answers.execReplayLoaded (h : Keeps s t) : Answers s (execReplayLoaded t) := by
  unfold Machine.execReplayLoaded
  split
  · exact .ite h.setClk.setRpl.setFld.setReg.showReplayTick.replayDeliver.next h.next
  · exact h.next

protected theorem Keeps.replayMode (h : Keeps s t) : Keeps s (replayMode t) :=
  h.foldl (fun _ _ h₁ => .ite h₁.setRpl h₁)

protected theorem Keeps.replayDigest (h : Keeps s t) : Keeps s (replayDigest t) :=
  h.foldl (fun _ _ h₁ => .ite h₁.setRpl h₁)

protected theorem Keeps.diverge {tick unit : Nat} {rec_ rep : List Nat} (h : Keeps s t) : Keeps s (diverge t tick unit rec_ rep) :=
  .use (.ite h.count h.setFlag.setFld.setFld.setReg64.setReg.setReg.setReg.count.raise) fun h₁ => .ite h₁.setRpl h₁

protected theorem Keeps.compareOuts {a b : List TabRec} (h : Keeps s t) : Keeps s (compareOuts t a b) :=
  h.forN (fun _ _ h₁ => by split; exacts [.ite h₁ h₁.diverge, h₁.diverge, h₁.diverge, h₁])

protected theorem Keeps.replayTickEnd (h : Keeps s t) : Keeps s (replayTickEnd t) :=
  (h.facetDue.foldl (fun _ _ h₁ => h₁.deliverFault)).use fun h₁ => .ite h₁.compareOuts.setRpl.setRpl
      (.ite h₁.compareOuts.setRpl.setRpl h₁.compareOuts.setRpl)

protected theorem Keeps.resumeLost (h : Keeps s t) : Keeps s (resumeLost t) :=
  h.setCe

protected theorem Keeps.replayFinish {b : Bnd} {why : Nat} (h : Keeps s t) (hb : s.Canon → b.wf) : Keeps s (replayFinish t b why) :=
  ((h.putBnd hb).setClk.setLive fun _ hb => absurd hb (by simp)).setFld.resumeLost.modeDisplace.modeCommit.raise.logEvent

protected theorem Keeps.replayEndDue (h : Keeps s t) : Keeps s (replayEndDue t) := by
  unfold Machine.replayEndDue
  split
  · next b e =>
    have hb : s.Canon → b.wf := fun hc => (h.canon hc).live b e
    refine .ite (h.replayFinish hb) ?_
    split
    · exact h.replayFinish hb
    · exact h
  · exact h

protected theorem Keeps.replayReadErr (h : Keeps s t) : Keeps s (replayReadErr t) :=
  .ite h.setRpl h

end

end Sys2Proof.Machine

end

section
/-! SUPPORT. What the operations of Sys2Proof/Machine/Supervise.lean keep of the canonical form. -/

namespace Sys2Proof.Machine

section
set_option Elab.async false
variable {s t u : State}

protected theorem Keeps.standbyStart (h : Keeps s t) : Keeps s (standbyStart t) :=
  h.pfBegin

protected theorem Keeps.modeEnter {m : Nat} (h : Keeps s t) : Keeps s (modeEnter t m) :=
  .ite h.modeGranted.activationStart (.ite h.modeGranted.replayStart h.modeGranted)

protected theorem Keeps.modeRamp {old new : Nat} (h : Keeps s t) : Keeps s (modeRamp t old new) :=
  .ite h.mfClear.modeEnter h.mfClear.setPm

protected theorem Keeps.modeCheck {ack : Bool} (h : Keeps s t) : Keeps s (modeCheck t ack) :=
  .ite h.modeResult (.ite (.ite h.modeResult.unloadRefused h.modeResult) (.ite
    (.ite h.standbyStart (h.setFld.setPm fun _ e => e ▸ rfl)) h.modeRamp))

protected theorem Keeps.stbyRequest {m : Nat} (h : Keeps s t) : Keeps s (stbyRequest t m) :=
  h.ownRequest.setPm

protected theorem Keeps.stbyAdvance (h : Keeps s t) : Keeps s (stbyAdvance t) :=
  .ite (.ite h.stbyRequest (.ite (.ite h h.setPm.unloadEndReq) (.ite (.ite h.stbyRequest h) (.ite h.setRpl h)))) h

protected theorem Answers.execStandbyDelayExpiry (h : Keeps s t) : Answers s (execStandbyDelayExpiry t) := by
  unfold Machine.execStandbyDelayExpiry
  split
  · exact .ite h.setPm.stbyAdvance.next h.next
  · exact h.next

protected theorem Keeps.stbyDrop (h : Keeps s t) : Keeps s (stbyDrop t) := by
  have h₁ : Keeps s (if t.pm.ownReq && t.flag Fd.SYS_MODE_STAT_PENDING then modeResult t Code.refused else t) := .ite h.modeResult h
  unfold Machine.stbyDrop
  dsimp only
  generalize (if t.pm.ownReq && t.flag Fd.SYS_MODE_STAT_PENDING then modeResult t Code.refused else t) = u at h₁ ⊢
  refine Keeps.setPm (.ite ?_ h₁)
  split
  · exact h₁.setFld.setFlr fun _ e => e ▸ rfl
  · exact h₁.setFlr

protected theorem Answers.execStandbyCancel (h : Keeps s t) : Answers s (execStandbyCancel t) := by
  unfold Machine.execStandbyCancel
  split
  · exact .ite h.setPm.next h.next
  · exact h.stbyDrop.next

end

end Sys2Proof.Machine

end

section
/-! SUPPORT. What the operations of Sys2Proof/Machine/Serve.lean keep of the canonical form. -/

namespace Sys2Proof.Machine

section
set_option Elab.async false
variable {s t u : State}

protected theorem Keeps.fleetServe {src tag kind : Nat} {f : State → List Byte → State × Nat × List Byte} (h : Keeps s t)
    (hf : ∀ t l, Keeps s t → Keeps s (f t l).1) : Keeps s (fleetServe t src tag kind f) := by
  unfold Machine.fleetServe
  split
  · exact (hf _ _ h).fleetReply
  · exact h

protected theorem Keeps.vhpWrite {a : Nat} {ws : List Word} (h : Keeps s t) : Keeps s ((vhpWrite t a ws).1) :=
  .ite_fst h (.ite_fst h h.busWrites)

protected theorem Keeps.innerServe {kind : Nat} {p part : List Byte} (h : Keeps s t) : Keeps s (innerServe t kind p part).1 := by
  unfold Machine.innerServe
  dsimp only
  split
  · split
    · exact h
    · exact h.busReads
  · exact h.vhpWrite
  · exact h
  · exact h
  · exact h
  · split
    · exact h.updAnswer
    · exact h
  · exact h
  · exact h
  · split
    · exact h
    · exact h
  · exact h

protected theorem Keeps.innerSubmit {kind : Nat} {p : List Byte} (h : Keeps s t) : Keeps s ((innerSubmit t kind p).1) :=
  .ite_fst h.modeRequest (.ite_fst h (.ite_fst h h.vhpPost))

protected theorem Answers.execVhpFwdInner {src : Fin 64} {tag : Byte} {part : List Byte} (h : Keeps s t) :
    Answers s (execVhpFwdInner src tag part t) := by
  unfold Machine.execVhpFwdInner
  split
  · exact .ite (.ite (by split; exacts [h.fleetReply.next, h.next]) (by dsimp only; split; exacts [h.innerSubmit.fleetReply.next,
                                                                          h.innerSubmit.keepReq.next])) (.ite (.next
      (.ite h.fleetReply.appReset h.fleetReply.fullReset)) h.innerServe.fleetReply.next)
  · exact h.next

end

end Sys2Proof.Machine

end

section
/-! SUPPORT. What the operations of Sys2Proof/Machine/Tick.lean keep of the canonical form. -/

namespace Sys2Proof.Machine

section
set_option Elab.async false
variable {s t u : State}

protected theorem Keeps.publishDue (h : Keeps s t) : Keeps s (publishDue t) :=
  .publishStaged (.ite (h.foldl (fun _ _ h₁ => h₁.tabDigest)) (h.foldl (fun _ _ h₁ => .ite h₁ h₁.tabRec)))

protected theorem Keeps.publishTick (h : Keeps s t) : Keeps s (publishTick t) :=
  h.publishDue.publishHeld.publishLost.portMotion.stopActions.disableTick

protected theorem Keeps.nativeTick (h : Keeps s t) : Keeps s (nativeTick t) :=
  .use (.ite h.govSample h) fun h₁ => .use (.ite h₁.yldSample h₁) fun h₂ => .ite h₂.lossSample h₂

protected theorem Keeps.runTick (h : Keeps s t) : Keeps s (runTick t) :=
  h.arbTick.migTick.dispatchTick.nativeTick

protected theorem Keeps.showMeas {x : Word × Word} (h : Keeps s t) : Keeps s (showMeas t x) :=
  .use (.ite h.chanShow h) fun h₁ => .use (.foldl (.foldl (.ite h₁.setReg h₁) (fun _ _ h₂ => h₂.setFld)) (fun _ _ h₂ => h₂.setFld)) fun h₂ => .use
      (.ite h₂.replayReadErr h₂) fun h₃ => .ite h₃.reserveShow h₃

protected theorem Keeps.secondTick {before : Nat} (h : Keeps s t) : Keeps s (secondTick t before) :=
  .ite h (.use (.stageSecond (.tabRate (.counterDue (.stormRoll (.recordClose (.ite h.count.count h.count)))))) fun h₁ => .ite h₁.setReg h₁)

protected theorem Keeps.sfcNext (h : Keeps s t) : Keeps s (sfcNext t) :=
  .setReg (.ite h.setClk.setRpl h.setClk)

protected theorem Keeps.frameBnd (h : Keeps s t) : Keeps s (frameBnd t) :=
  .calCopies (.acceptMigs (.acceptLoopCmds (.acceptEngCmds (.migsDone (by split; exacts [.setSteer (.fusCfgApply (.parRecords (.canTabApply
                                                                            (.rtApply (.ite (.bootLoops (.setPm
      (.ite h.replayMode.replayDigest h))) (.ite h.replayMode.replayDigest h)))))), .fusCfgApply (.parRecords (.canTabApply (.rtApply (.ite
      (.bootLoops (.setPm (.ite h.replayMode.replayDigest h))) (.ite h.replayMode.replayDigest h)))))])))))

protected theorem Keeps.frameCfg {refs : Nat} (h : Keeps s t) : Keeps s (frameCfg t refs) :=
  h.refFrame.testFrame.pairsCheck.gclApply

protected theorem Keeps.resetStep6 (h : Keeps s t) : Keeps s (resetStep6 t) :=
  .ite h.setSaf (.safActivate (.modeOwn (by split; exacts [h.setSaf.setSaf.safShowCfg.safChannels, h.setSaf])))

protected theorem Keeps.frameModes (h : Keeps s t) : Keeps s (frameModes t) :=
  .use (.ite h.resetStep6 h) fun h₁ => .ite h₁.modeOwn h₁.unloadExit

protected theorem Keeps.battNote {mv : Nat} (h : Keeps s t) : Keeps s (battNote t mv) :=
  h.setUpd

protected theorem Keeps.frameShow (h : Keeps s t) : Keeps s (frameShow t) :=
  h.healthShow.tabFrame.histoSample

protected theorem Keeps.frameRun {refs mv : Nat} (h : Keeps s t) : Keeps s (frameRun t refs mv) :=
  h.tabBoundary.replayEndDue.sfcNext.use fun h₁ => .use (.activate (.activationCheck (.apertureShow (.battNote (.stageStep (.frameModes (.frameCfg
      (.ite h₁.frameBnd h₁)))))))) fun h₂ => .ite h₂ (.ite h₂.frameShow.runTick h₂.frameShow)

protected theorem Keeps.tickTime (h : Keeps s t) : Keeps s (tickTime t) :=
  h.advanceTick.secondTick.use fun h₁ => .use (.ite h₁.setClk.showReplayTick h₁) fun h₂ => .ite h₂.setClk h₂

protected theorem Keeps.tickIdle (h : Keeps s t) : Keeps s (tickIdle t) :=
  .tickTime (.ite h.sfcNext h)

protected theorem Keeps.latchTick {lat : List (Fin 62 × Word × List Word)} {gnss : List Word} (h : Keeps s t) : Keeps s (latchTick t lat gnss) :=
  h.noteStill.snTick.canLatch.canExpiries.use fun h₁ => .infTick (.pairsCheck (.camTriggers (.camTick (.gnsTick (.gnsLatch
      (.ite h₁.gnsEpoch h₁))))))

protected theorem Keeps.bndTick (h : Keeps s t) : Keeps s (bndTick t) :=
  .publishTick (.ite h.replayDeliver h)

protected theorem Keeps.bndUnits (h : Keeps s t) : Keeps s (bndUnits t) :=
  .canTick (.ite h.fusTick.safImage h.fusTick)

protected theorem Keeps.liveUnits (h : Keeps s t) : Keeps s (liveUnits t) :=
  h.reasmExpire.mbxTick.flrTick.unloadTick.vlvGates.vlvTick.lswTick.panelTick.stripTick.vhpTick.ptpShow.stbyAdvance.tabTick

protected theorem Keeps.tickRun {si : Nat} {lat : List (Fin 62 × Word × List Word)} {gnss : List Word} {meas : List (Word × Word)} (h : Keeps s t) :
    Keeps s (tickRun t si lat gnss meas) :=
  .use (.facetDigest (.ite h.fabDrain.frameRun h.fabDrain)) fun h₁ => .use (.foldl (.tickTime (.ite h₁.replayTickEnd h₁))
      (fun _ _ h₂ => h₂.showMeas)) fun h₂ => .use (.ite h₂.bndTick h₂) fun h₃ => .use (.safTick (.ite h₃.latchTick.bndUnits h₃.latchTick))
      fun h₄ => .pfTick (.trialTick (.reserveTick (.outTick (.debugTick (.updTick (.ite h₄.liveUnits.runTick h₄.liveUnits))))))

end

end Sys2Proof.Machine

end

section
/-! SUPPORT. Every command keeps the canonical form, and with it every step. -/

namespace Sys2Proof.Machine

section
set_option Elab.async false

/-- Every command answers a state, and keeps the canonical form and the queue. -/
theorem exec_answers (c : Instr) (s : State) : Answers s (exec c s) := by
  have h := Keeps.refl s
  cases c with
  | tick => exact .ite h.next (.ite h.tickIdle.pfTick.next h.tickRun.next)
  | majorFrameBoundary => exact .ite h.frameRun.next h.next
  | carrierPeriodStart => exact .execCarrierPeriodStart h
  | targetNotReached => exact .ite (h.vlvLive (fun _ h₁ => h₁.vlvFault)).next h.next
  | registerWrite => exact .ite h.coreAwake.fabWrite.next h.next
  | lowWordReadLatch => exact .ite h.coreAwake.fabRead.next h.next
  | rcFieldRead => exact .execRcFieldRead h
  | w1cClear => exact .execW1cClear h
  | fabricEntryFreed => exact h.fabArrive.fabFree.fabDrain.next
  | bulkAgePromotion => exact h.setFab.next
  | responseTimeout => exact h.count.timeoutAct.fabFree.fabDrain.next
  | pllLossOfLock => exact .ite h.count.fullReset.next h.next
  | timeSolution => exact .ite h.next (.ite h.setGns.timeSolution.next h.timeLost.next)
  | dtStep => exact .execDtStep h
  | holdoverEntry => exact .ite h.setClk.setTimeState.next h.next
  | holdLimExceeded => exact .ite h.setFlag.next h.next
  | dtSet => exact h.dtSet.next
  | steerCfgApply => exact .execSteerCfgApply h
  | streamSample => exact h.streamSample.next
  | streamEnable => exact h.strmCfgWrite.next
  | streamReanchor => exact h.strmCfgWrite.next
  | modeRequest => exact h.modeRequest.next
  | modeCheck => exact .ite h.modeCheck.next h.next
  | modeCommitAfterRamp => exact .ite h.modeOwn.next (.ite h.modeEnter.next h.next)
  | heartbeatLoss => exact h.hbLoss.next
  | speedContributionLift => exact h.zeroLift.next
  | safHbWrite => exact h.hbWrite.next
  | resetReqAssert => exact .ite (.ite h.next h.setPm.bootRun.next) (.ite h.next (.ite h.resetBegin.bootBase.modeGates.setPm.next h.warmReset.next))
  | resetReqStuck => exact .execResetReqStuck h
  | resetReqRearm => exact h.setFlag.next
  | powerApplied => exact .ite h.dropParts.resetBegin.bootBase.bootRun.next h.next
  | bootComplete => exact .ite (.next (.bootEnd (by split; exacts [h.reserveMeasured.lockOut, h.reserveMeasured]))) h.next
  | reserveTimeout => exact h.reserveTick.next
  | keepChannelTimeout => exact h.keepExpire.next
  | appWatchdogExpiry => exact .ite h.appReset.next h.next
  | watchdogRefresh => exact h.wdogWrite.next
  | hostFullReset => exact h.fullReset.next
  | appReset => exact h.appReset.next
  | wakeInFall => exact .ite h.setPm.next h.next
  | standbyDelayExpiry => exact .execStandbyDelayExpiry h
  | stationaryStandby => exact .ite h.standbyStart.next h.next
  | standbyCancel => exact .execStandbyCancel h
  | wakeInWake => exact .ite h.wakeUp.next h.next
  | canSelectiveWake => exact .ite (.next (.ite h.wakeUp.setFlag h.wakeUp)) h.next
  | aonTimerWake => exact .ite h.wakeUp.next h.next
  | powerFail =>
    exact .ite h.setFld.next (.ite h.next (by dsimp only; split; exacts [h.reserveShow.setFld.setPm.next, h.reserveShow.setFld.pfBegin.next]))
  | thermalShutdown => exact h.thermalOff.next
  | thermalRecoveryReset => exact h.thermalBack.next
  | debugReset => exact .ite h.fullReset.next h.next
  | add => exact h.gwAlu.next
  | sub => exact h.gwAlu.next
  | and => exact h.gwAlu.next
  | or => exact h.gwAlu.next
  | xor => exact h.gwAlu.next
  | shl => exact h.gwAlu.next
  | shr => exact h.gwAlu.next
  | sra => exact h.gwAlu.next
  | mul => exact h.gwAlu.next
  | min => exact h.gwAlu.next
  | max => exact h.gwAlu.next
  | cmp => exact h.gwSimple.next
  | addi => exact h.gwImm.next
  | andi => exact h.gwImm.next
  | ori => exact h.gwImm.next
  | xori => exact h.gwImm.next
  | shli => exact h.gwImm.next
  | shri => exact h.gwImm.next
  | srai => exact h.gwImm.next
  | lui => exact h.gwSimple.next
  | fadd => exact h.gwFp.next
  | fsub => exact h.gwFp.next
  | fmul => exact h.gwFp.next
  | fdiv => exact h.gwFp.next
  | fmin => exact h.gwFp.next
  | fmax => exact h.gwFp.next
  | fabs => exact h.gwFp1.next
  | fneg => exact h.gwFp1.next
  | fsqrt => exact h.gwFp1.next
  | fcmp => exact h.gwSimple.next
  | fcvtsw => exact h.gwFp1.next
  | fcvtws => exact h.gwFp1.next
  | fma => exact h.gwFp3.next
  | fclamp => exact h.gwFp3.next
  | lw => exact (h.gwRun (fun _ _ h₁ => .ite .trap (by split; exacts [h₁.go, h₁.go, h₁.go, .trap]))).next
  | sw => exact (h.gwRun (fun _ _ h₁ => .ite .trap (by split; exacts [h₁.setWord.go, .trap, h₁.go]))).next
  | lv => exact (h.gwRun (fun _ _ h₁ => .ite .trap (.ite .trap h₁.go))).next
  | sv => exact (h.gwRun (fun _ _ h₁ => .ite .trap (.ite .trap h₁.setWords.go))).next
  | pmv => exact (h.gwRun (fun _ _ h₁ => .ite .trap (.ite .trap (.ite .trap (by split; exacts [.trap, by split; exacts [.trap, h₁.go]]))))).next
  | prismComplete => exact .next (by split; exacts [h.prismAuto.setCtx, h])
  | beq => exact h.gwBranch.next
  | bne => exact h.gwBranch.next
  | blt => exact h.gwBranch.next
  | bge => exact h.gwBranch.next
  | bltu => exact h.gwBranch.next
  | bgeu => exact h.gwBranch.next
  | bfs => exact h.gwBranch.next
  | bfc => exact h.gwBranch.next
  | j => exact (h.gwRun (fun _ _ h₁ => h₁.go)).next
  | jal => exact (h.gwRun (fun _ _ h₁ => h₁.go)).next
  | jr => exact (h.gwRun (fun _ _ h₁ => h₁.go)).next
  | inPort => exact (h.gwRun (fun _ _ h₁ => .ite .trap h₁.go)).next
  | inq => exact (h.gwRun (fun _ _ h₁ => .ite .trap h₁.go)).next
  | out => exact (h.gwRun (fun _ _ h₁ => .ite .trap h₁.go)).next
  | vin => exact (h.gwRun (fun _ _ h₁ => .ite .trap h₁.go)).next
  | vadd => exact h.gwVec.next
  | vsub => exact h.gwVec.next
  | vmul => exact h.gwVec.next
  | vfma => exact h.gwVec.next
  | vmin => exact h.gwVec.next
  | vmax => exact h.gwVec.next
  | vclamp => exact h.gwVec.next
  | vbcast => exact (h.gwRun (fun _ _ h₁ => h₁.go)).next
  | vext => exact (h.gwRun (fun _ _ h₁ => h₁.go)).next
  | vins => exact (h.gwRun (fun _ _ h₁ => h₁.go)).next
  | vred => exact (h.gwRun (fun _ _ h₁ => h₁.go)).next
  | vdot => exact (h.gwRun (fun _ _ h₁ => h₁.go)).next
  | nop => exact h.gwSimple.next
  | ends => exact h.gwEnds.next
  | trap => exact (h.gwRun (fun _ _ _ => .trap)).next
  | csrr => exact (h.gwRun (fun _ _ h₁ => by split; exacts [h₁.go, .trap])).next
  | csrw => exact (h.gwRun (fun _ _ h₁ => .ite h₁.go .trap)).next
  | pwait => exact (h.gwRun (fun _ _ h₁ => h₁.go)).next
  | integ => exact (h.gwRun fun _ _ h => .blockAt fun _ => .ite .trap (Keeps.go (.ite h.setWord.setWord h.setWord))).next
  | relay => exact (h.gwRun fun _ _ h => .blockAt fun _ => .ite (.ite h.setWord.go h.go) h.relayStore.go).next
  | plaus =>
    exact (h.gwRun fun _ _ h => .blockAt fun _ => Keeps.use (.ite h.setWord.setWord.plausTrip h.setWord) fun h => Keeps.go (.ite h.setWord h)).next
  | budgetTrap => exact .next (by split; exacts [h.prismAuto.budgetTrap, h])
  | deliveredWriteFault => exact .execDeliveredWriteFault h
  | loopLoad => exact h.loopCmdWrite.next
  | loadCopyComplete => exact .execLoadCopyComplete h
  | loopStart => exact h.loopCmdWrite.next
  | loopStop => exact h.loopCmdWrite.next
  | loopDisable => exact h.loopCmdWrite.next
  | loopDisableDone => exact .execLoopDisableDone h
  | loopUnload => exact h.loopCmdWrite.next
  | engineRemove => exact h.engCmdWrite.next
  | removeComplete =>
    exact .ite (.ite h.setFld.setFld.setCe.setCe.refreshEngines.next h.setFld.setFld.setCe.refreshEngines.commitPlacement.next) h.next
  | engineReturn => exact h.engCmdWrite.next
  | marchTestEnd => exact .ite (.next (.commitPlacement (.refreshEngines (.cmdResult (.setCe (.ite h.setFld.setFld h.setFld)))))) h.next
  | migrateMove => exact h.migCmdWrite.next
  | migrateReplace => exact h.migCmdWrite.next
  | replaceFetchComplete => exact .execReplaceFetchComplete h
  | migrationCut => exact .execMigrationCut h
  | migrationCopyComplete => exact .execMigrationCopyComplete h
  | routeRead => exact h.rtCmdWrite.next
  | routeWrite => exact h.rtCmdWrite.next
  | spareDesignate => exact h.spareWrite.next
  | tileUe => exact .execTileUe h
  | engineHang => exact .ite h.hangAt.next h.next
  | engEvac => exact .ite h.evacRemove.next h.next
  | inputEdge => exact .execInputEdge h
  | inputFault => exact .ite h.snFaultSet.next h.next
  | inputOk => exact .ite h.snFaultClear.next h.next
  | i25Overcurrent => exact .ite h.setSnU.snFaultSet.next h.next
  | freqEdgeTimeout => exact .ite h.setSnU.next h.next
  | losImpact => exact .ite h.losEnv.next h.next
  | losRearm => exact .ite h.losEnv.next h.next
  | referenceFault => exact h.refFault.next
  | supplyCurrentTrip => exact .ite h.supTrip.next h.next
  | supplyBatteryShort => exact .ite h.supTrip.next h.next
  | supplyRestart => exact h.senseCfgWrite.senseCfgWrite.next
  | openTest => exact h.snTestCmd.next
  | supplyTest => exact h.snTestCmd.next
  | bridgeTest => exact h.snTestCmd.next
  | piezoTest => exact h.snTestCmd.next
  | imuTest => exact h.snTestCmd.next
  | senseTestStart => exact .ite h.testFrame.next h.next
  | senseTestEnd => exact .execSenseTestEnd h
  | bandChange => exact h.govBandStep.next
  | govholdSet => exact .execGovholdSet h
  | referenceMessage => exact .ite h.setGov.next h.next
  | mfEnable => exact h.mfEnable.next
  | mfEnableStart => exact .ite h.mfStartAll.next h.next
  | mfDisable => exact h.mfDisable.next
  | mfDisableIssue => exact .ite (h.foldl (fun _ _ h₁ => h₁.mfDisableLoop)).setMf.next h.next
  | mfDisableDone => exact .ite h.setFld.setFlag.next h.next
  | mf01HoldZero => exact .ite h.setMfp.next h.next
  | yieldRecordStore => exact .ite (.next (.mbxAck (.ite h h.setYld))) h.next
  | antennaFault => exact .next (.ite h.setFld.setFld.logEvent h.setFld.setFld)
  | chAllocApply => exact .execChAllocApply h
  | rtcmFrame => exact .ite (.ite h.setGns.next (.ite h.setGns.next h.setGns.next)) h.setGns.next
  | baseMoved => exact h.baseCheck.next
  | basePositionWrite => exact h.baseWrite.baseWrite.baseWrite.baseWrite.baseWrite.baseWrite.next
  | neighbourEpoch => exact .ite h.next (.ite h.aidTake.count.next (.next (.setGns (.ite h.aidTake.setFld h.aidTake))))
  | neighbourConfig => exact h.nbWrite.next
  | gnssRestart => exact h.gnsRestart.next
  | aidWrite => exact h.aidWrite.next
  | ppsEdge => exact .ite h.ppsEmit.next h.next
  | pathSegment => exact .ite (.ite h.mbxAck.next h.pathMsg.tabCmd.mbxAck.next) h.next
  | steerEngage => exact h.steerReq.next
  | steerDisengageReq => exact h.steerReq.next
  | steerCheckAct => exact h.steerAct.next
  | steerTest => exact h.steerTest.next
  | steerTestEnd => exact h.testExpire.next
  | camLinkEnable => exact h.camEnable.next
  | camLinkDisable => exact h.camDisable.next
  | linkTrained => exact .ite h.setFlag.setFlag.raise.pairsCheck.next h.next
  | linkLost => exact h.linkLost.next
  | linkRetrain => exact h.linkRetrain.next
  | cameraSupplyFault => exact .next (.setFld (.ite h.setFld h.setFld.count))
  | csiFrameStart => exact .ite (.ite (.next (.beginFrame (by split; exacts [h.endFrame, h]))) h.camDrop.next) h.next
  | csiLine => exact .execCsiLine h
  | csiFrameEnd => exact .ite h.next (.ite (by split; exacts [h.endFrame.next, h.next]) h.camDrop.next)
  | exposureCommit => exact h.expCommit.next
  | exposureAck => exact .execExposureAck h
  | exposureTimeout => exact h.expTimeout.next
  | mpJobStart => exact h.mpStart.next
  | mpJobComplete => exact h.mpComplete.next
  | frameSkipped => exact h.mpExpire.next
  | mpDisable => exact h.setFlag.mpCancel.next
  | fusHang => exact .ite h.fusHalt.next h.next
  | wheelSlip => exact h.wheelSlip.next
  | wheelRestored => exact h.wheelBack.next
  | imuLost => exact .next (.ite h h.imuCheck)
  | inferenceJobStart => exact h.infStart.next
  | inferenceResult => exact .execInferenceResult h
  | inferenceDeadlineAbort => exact h.infAborts.next
  | lidarDatagram => exact h.lidarDatagram.next
  | scanTimeout => exact h.scanExpire.next
  | parallaxCommit => exact h.parCommit.next
  | superframeStart =>
    exact .ite (h.setFld.sfBegin.takeOver.beaconLost.foundDomain.use fun h₁ => .next (.ite h₁.coordStart (.ite h₁.setFlag h₁))) h.next
  | beaconReceive => exact .ite (by split; exacts [h.frameDrop.next, .next (.ite h.beaconYield h.beaconTake)]) h.next
  | memberSlotTransmit =>
    exact .ite (.use (.ite h.txnPromote.flrCount h.txnPromote) fun h₁ => .ite h₁.flrCount.next (.next
        (.ite h₁.setFlr.sendFrame.linkOff h₁.setFlr.sendFrame))) h.next
  | memberFrameReceive =>
    exact .ite (by split; exacts [h.frameDrop.next, .use (.ite h.setReg.heard.setMbr h.setReg.heard) fun h₁ => .next (.foldl (.ite h₁.setFlr h₁)
                     (fun _ _ h₂ => h₂.recTake))]) h.next
  | contentionTransmit =>
    exact .ite h.next (by split; exacts [.ite h.setFlr.contStart.next h.next, .ite h.next (.ite h.flrCount.next
                            (.ite h.setFlr.next h.flrCount.setFlr.sendFrame.next))])
  | fleetLinkEnable => exact h.fleetEnable.next
  | fleetLinkDisable => exact .next (.ite h.fleetDisable h)
  | joinRequest =>
    exact .ite (by dsimp only; split; exacts [.next (.setFlr (.grantSlot
      (by split; exacts [h.setFlr.depart, h.setFlr]))), .next (.setFlr (by split; exacts [h.setFlr.depart, h.setFlr]))]) h.next
  | domainFound => exact h.foundDomain.next
  | memberDepart => exact h.departSilent.next
  | beaconLoss => exact h.beaconLost.next
  | successorTakeover => exact h.takeOver.next
  | channelChange => exact h.chanSwitch.next
  | keyChange => exact h.keySwitch.next
  | roleWrite => exact h.roleWrite.next
  | fleetRequest => exact .ite h.fleetRequest.next h.next
  | segmentReceive => exact h.segReceive.next
  | segmentRepeat => exact .ite (by split; exacts [h.repeatRsp.next, h.next]) (by split; exacts [h.repeatReq.next, h.next])
  | fleetTransactionTimeout => exact h.txnTimeouts.next
  | fleetPing => exact (h.fleetServe (fun _ _ h₁ => .ite_fst h₁ h₁)).next
  | roleQuery => exact (h.fleetServe (fun _ _ h₁ => .ite_fst h₁ h₁)).next
  | fleetRegRead => exact (h.fleetServe (fun _ _ h₁ => .ite_fst h₁ (.ite_fst h₁ h₁.busReads))).next
  | fleetRegWrite => exact (h.fleetServe (fun _ _ h₁ => .ite_fst h₁ (.ite_fst h₁ (.ite_fst h₁ h₁.busWrites)))).next
  | fleetLogRead => exact (h.fleetServe (fun _ _ h₁ => h₁)).next
  | fleetMsg => exact (h.fleetServe (fun _ _ h₁ => h₁)).next
  | fleetUnload => exact (h.fleetServe (fun _ _ h₁ => h₁)).next
  | fleetUpdBlock => exact (h.fleetServe (fun _ _ h₁ => .ite_fst h₁.updAnswer h₁)).next
  | vhpFwdInner => exact .execVhpFwdInner h
  | unloadArm => exact h.setReg.setReg.unlCfgWrite.next
  | unloadSyncCheck => exact .ite (.ite h.modeRequest.next h.unloadRefused.next) h.next
  | unloadEndRequest => exact h.unloadEndReq.next
  | unloadExitRequest => exact .execUnloadExitRequest h
  | partnerLoss => exact .ite h.setFlr.next h.next
  | dmaDoorbell => exact h.fabWrite.next
  | descriptorRetire => exact h.dmaComplete.next
  | dmaFault => exact .execDmaFault h
  | dmaResume => exact (h.unlessPanel (fun _ h₁ => h₁.dmaResume)).next
  | dmaSkip => exact (h.unlessPanel (fun _ h₁ => h₁.dmaSkip)).next
  | dmaDisable => exact (h.unlessPanel (fun _ h₁ => h₁.dmaDisable)).next
  | iommuInvalidate => exact h.setReg.setReg.iommuInv.next
  | invalidateDone => exact .execInvalidateDone h
  | mbxPost => exact h.mbxPost.next
  | mbxAck => exact h.mbxAckWrite.next
  | mbxTimeout => exact .ite h.crossing.mbxTimeout.next h.mbxTimeout.next
  | mbxCrossing => exact .ite h.crossing.next h.next
  | mbxEpFree => exact .ite h.mbxFree.next h.next
  | mbxPairConfig => exact h.mbxCfg2.next
  | doorbellSet => exact h.fabWrite.next
  | canEnable => exact .ite h.next h.canEnable.next
  | canFrameReceive =>
    exact .ite h.next (.ite h.canRxGood.setCanC.next ((h.canRxGood.setCanC.foldl (fun _ _ h₁ => .ite (.foldl (.ite h₁ h₁.sigFrame)
        (fun _ _ h₂ => h₂.strmFrame)) h₁)).use fun h₁ => .next (.rxqWrite (.ite h₁.noteTimeAid h₁))))
  | canSignalTimeout => exact h.canSigExpire.next
  | canFrameSent => exact .ite (by split; exacts [.next (.canRetire (.canErrState (.setFld (.ite h.setCanC.setFld h.setCanC)))), h.next]) h.next
  | canLifetimeExpiry => exact h.canExpire.next
  | busOff => exact .ite h.canGoOff.next h.next
  | busOn => exact .execBusOn h
  | canSigRead => exact h.canSigRead.next
  | canSigWrite => exact h.canSigWrite.next
  | canStreamEnable => exact h.canStrmCfg.next
  | canTxqDoorbell => exact h.txqTail.next
  | addressClaim => exact .ite h.setCanC.next h.next
  | addressLost => exact .ite h.setCanC.next h.next
  | ethDatagram => exact .ite h.next (.ite h.udpDeliver.next h.udpFragment.next)
  | reassemblyTimeout => exact h.reasmExpire.next
  | gclCommit => exact h.gclCommit.next
  | vhpHello => exact .execVhpHello h
  | vhpOpen => exact .ite h.next (.ite h.setFld.setFld.setVs.vhpSend.next h.vhpEnd.vhpSend.next)
  | vhpOpenTimeout => exact h.vhpOpenExpire.next
  | vhpClose => exact .execVhpClose h
  | vhpKeepalive => exact (h.vhpServe (fun _ h₁ => h₁)).next
  | vhpRegRead => exact (h.vhpServe (fun _ h₁ => .ite_fst h₁ h₁.busReads)).next
  | vhpRegWrite => exact (h.vhpServe (fun _ h₁ => h₁.vhpWrite)).next
  | vhpLogRead => exact (h.vhpServe (fun _ h₁ => h₁)).next
  | vhpMsg => exact .execVhpMsg h
  | vhpModeReq => exact .execVhpModeReq h
  | vhpReset => exact .execVhpReset h
  | vhpRtcmIn => exact (h.vhpServe (fun _ h₁ => h₁)).next
  | vhpRtcmOut => exact .execVhpRtcmOut h
  | vhpUpdBlock => exact (h.vhpServe (fun _ h₁ => .ite_fst h₁.updAnswer h₁)).next
  | vhpUpdState => exact (h.vhpServe (fun _ h₁ => h₁)).next
  | vhpTaskExport => exact (h.vhpServe (fun _ h₁ => h₁)).next
  | vhpFwd => exact .execVhpFwd h
  | vhpTabRead => exact (h.vhpServe (fun _ h₁ => by split; exacts [h₁, h₁])).next
  | vhpSessionIdle => exact h.vhpIdle.next
  | vhpTransactionTimeout => exact h.vhpTxnExpire.next
  | facetNop => exact h.facetReg.next
  | facetLdi => exact h.facetReg.next
  | facetMov => exact h.facetReg.next
  | facetAdd => exact h.facetReg.next
  | facetSub => exact h.facetReg.next
  | facetCmp => exact h.facetReg.next
  | facetTake => exact h.facetReg.next
  | facetBr => exact (h.facetRun (fun _ _ _ h₁ => .ite h₁.setFctx.setFld h₁.facetNext)).next
  | facetHold => exact (h.facetRun (fun _ _ _ h₁ => h₁.keepEnd.setVch.setFld.facetNext.facetRec.vlvShow)).next
  | facetOff => exact (h.facetRun (fun _ _ _ h₁ => h₁.keepEnd.chanOff.setVch.facetNext.facetRec.vlvShow)).next
  | facetBoost => exact (h.facetRun (fun _ _ _ h₁ => h₁.setFctx.boostRequest)).next
  | facetPull => exact (h.facetRun (fun _ _ _ h₁ => h₁.setFctx.phaseStart)).next
  | facetWait => exact (h.facetRun (fun _ _ _ h₁ => h₁.facetNext.setFctx)).next
  | facetSync => exact (h.facetRun (fun _ _ _ h₁ => h₁.facetNext.setFctx)).next
  | facetKget => exact h.facetReg.next
  | facetDith => exact (h.facetRun (fun _ _ _ h₁ => h₁.setVch.facetNext.facetRec)).next
  | boostGrant => exact h.grantNext.next
  | boostWaitTimeout => exact h.waitExpire.next
  | boostPhaseEnd => exact .execBoostPhaseEnd h
  | boostReadyChange => exact (h.vlvLive (fun _ h₁ => h₁.setFld.readySet)).next
  | valveShort => exact (h.vlvLive (fun _ h₁ => h₁.chanFault)).next
  | valveGroundShort => exact (h.vlvLive (fun _ h₁ => .ite h₁.vlvFault.bankFault.bankOff h₁.causeGone)).next
  | valveOvertemp => exact (h.vlvLive (fun _ h₁ => .ite h₁.chanFault h₁.chanCool)).next
  | valveOpenCoil => exact (h.vlvLive (fun _ h₁ => h₁.coilOpen)).next
  | railFault => exact (h.vlvLive (fun _ h₁ => .ite h₁.railFault h₁.causeGone)).next
  | valveChannelEnable => exact h.vlvCfgWrite.next
  | vlvBankSwap => exact h.bankSwap.next
  | swapApply => exact .ite h.bankSwapDue.next h.next
  | vlvBankClr => exact h.bankClr.next
  | valveOpenTest => exact h.vlvTestCmd.next
  | coilTest => exact h.vlvTestCmd.next
  | boostTest => exact h.vlvTestCmd.next
  | valveTestStart => exact .execValveTestStart h
  | valveTestEnd => exact .execValveTestEnd h
  | lswCmdWrite => exact h.lswCmdWrite.next
  | lswHardTrip => exact .ite h.lswTrip.next h.next
  | lswInrushTrip => exact .ite h.lswTrip.next h.next
  | lswLatchTrip => exact .ite h.lswTrip.next h.next
  | inrushWindowEnd => exact h.lswWindow.next
  | lswRetry => exact h.lswAgain.next
  | lswClr => exact h.lswClr.next
  | lswOvertemp => exact .next (.lswShow (.ite h.lswOff.setLch.raise h.lswOff.setLch.raise.setFld))
  | lswCooldown => exact .ite (.next (.lswShow (.lswSettle (.ite h.setLch.setFld h.setLch)))) h.next
  | clamp =>
    exact .ite h.next (.ite (.ite h.count.lswTrip.next h.next) (.ite (h.count.logEvent.use fun h₁ => .next
        (.ite h₁.setLch.lswTrip h₁.setLch)) h.next))
  | openLoad => exact .ite (.next (.lswShow (.ite h.setFld.setLch h.setFld.setLch.raise))) h.next
  | batAOver => exact h.batAWatch.next
  | batAOvRelease => exact .ite h.lswOvRelease.next h.next
  | pulseTest => exact h.lswTestCmd.next
  | freewheelTest => exact h.lswTestCmd.next
  | lswTestStart => exact h.lswTestStart.next
  | lswTestEnd => exact .execLswTestEnd h
  | lockstepMismatch => exact .ite h.safOutsOff.setSaf.fullReset.next h.next
  | testPulse => exact .ite h.next h.safLatchRec.testPulse.next
  | tpOverload => exact h.setFld.next
  | discrepancyTimeout => exact h.discFault.next
  | soElementTest => exact .ite h.next (.ite (.ite h.setSafOut.next (.ite h.outFault.next h.setSafOut.next)) (.ite h.next h.outFault.next))
  | soOvercurrent => exact .ite h.outFault.next h.next
  | sensorPairContradiction => exact h.sensContra.next
  | resetPress => exact h.safLatchRec.resetPress.next
  | buttonFault => exact h.buttonFault.next
  | safStopReq => exact h.stopReq.next
  | panelEnable => exact h.pnlCtlWrite.next
  | panelDisable => exact h.pnlCtlWrite.next
  | panelFault => exact .ite h.panelTrip.next h.next
  | videoFrameStart => exact .ite h.frameStart.next h.next
  | fbFlip => exact h.fbFlip.next
  | ageingSample => exact h.ageSample.next
  | ageingGainUpdate => exact h.ageGains.next
  | stripUpdateGo => exact h.stripGo.next
  | stripUpdateStart => exact h.stripStart.next
  | stripUpdateEnd => exact h.stripEnd.next
  | recordClose => exact h.recordClose.next
  | storm => exact h.stormRoll.next
  | evrAppGo => exact h.appEvent.next
  | counterCommit => exact h.counterDue.next
  | evrNonceRead => exact h.evrNonce.readInto.next
  | logClear => exact h.clearGo.next
  | loupeLatch => exact h.loupeLatch.readInto.next
  | loupeNext => exact h.loupeNext.next
  | checkpoint => exact h.ckptDue.next
  | tabBlockWrite => exact .ite h.next (.ite h.tabEnd.count.next h.blockWrite.next)
  | tabGap => exact .ite h.tabEnd.count.next (.ite h.tabFull.next h.next)
  | tabSegmentOpen => exact h.segOpen.next
  | holdRelease => exact h.holdRelease.next
  | frameWindow => exact h.winEnd.next
  | replayLoaded => exact .execReplayLoaded h
  | replayStop => exact .ite h.setRpl.next h.next
  | replayEnd => exact .ite h.replayEndDue.next h.next
  | updateBlock => exact h.blockGo.next
  | updVerifyEnd => exact h.verifyEnd.next
  | updAbandonCmd => exact h.updCmdWrite.next
  | updConfirm => exact h.updCmdWrite.next
  | updReject => exact h.updCmdWrite.next
  | activationCopyDone => exact h.copyEnd.next
  | updActivate => exact .ite h.activate.next h.next
  | trialExpiry => exact h.trialTick.next
  | calibrationWrite => exact h.calGo.next
  | updNonceRead => exact h.updNonce.readInto.next
  | ownerFlags => exact h.tokOfKind.next
  | setKey => exact h.tokOfKind.next
  | removeKey => exact h.tokOfKind.next
  | newOwnerKey => exact h.tokOfKind.next
  | debugUnlock => exact h.tokOfKind.next
  | debugClose => exact h.debugClose.next
  | debugExpiry => exact h.debugTick.next
  | groundStudLoss => exact .ite (h.gndShow.logEvent.use fun h₁ => .ite h₁.pfBegin.next h₁.next) h.next
  | groundStudReturn => exact .ite h.gndShow.logEvent.next h.next
  | thermalSiteRead => exact .ite h.siteRead.thermalOff.thermalBack.next h.next
  | throttleStageChange => exact .ite h.stageStep.next h.next
  | outHighChange => exact .ite h.setFld.setFlag.next (.ite h.setFld.setFlag.next h.setFld.next)
  | illegalInstruction => exact .next (.ite h (h.gwRun (fun _ _ _ => .trap)))
  | facetUndefinedOpcode => exact .ite h.facetDue.vlvFault.chanOff.ctxStop.next h.facetDue.next
  | i25BurdenRestore => exact h.burdenClose.next
  | inlineFrameComplete => exact h.inlineComplete.next
  | canBusError => exact .ite (.next (.ite h.setFld.canNoRetry.canTxError h.setFld.count.canErrState)) h.next
  | ethFrameIngress =>
    exact .ite h.setEth.next (.ite h.setEth.ethDrop.next (.ite h.setEth.ethLearn.ptpMessage.next ((h.setEth.ethLearn.foldl
        (fun _ _ h₁ => h₁.ethDrop)).use fun h₁ => .next (.setEth (.ite h₁ h₁.count)))))
  | ethLinkChange => exact .next (.setFld (.setFlag (.ite h.setEth h)))
  | supplyLevelCrossing => exact .execSupplyLevelCrossing h
  | groupUndervoltage =>
    exact .ite (.ite h.setFlag.setFld.raise.setLsw.next h.next) (.ite (h.setFlag.setFld.setFld.setLsw.forN
        (fun _ _ h₁ => by dsimp only; split; exacts [.ite h₁.setLch h₁, h₁])).next h.next)

/-- A step takes its command from the queue, which is no part of the canonical form. -/
theorem canon_of_step {s t : State} (h : s.Canon) (e : step s = .next t) : t.Canon := by
  unfold step at e
  split at e
  · cases e
    exact h
  · next c r _ =>
    obtain ⟨u, he, hu⟩ := exec_answers c { s with pending := r }
    cases he.symm.trans e
    exact hu.canon { h with }

/-- Settles O5: each command keeps every part of the canonical form (`exec_answers`), and so does taking it from the queue. -/
theorem canonicalKept : Obligations.CanonicalKept := fun _ _ h e =>
  (canonical_iff_canon _).mpr (canon_of_step ((canonical_iff_canon _).mp h) e)

end

end Sys2Proof.Machine

end

section
/-! SUPPORT. The entries of the fabric (R20–R23): requests that arrive, responses, grants. -/

namespace Sys2Proof.Machine

/-! ### Entries of the fabric (R21) -/

/-- The registers in which the fabric counts its transactions (R21). -/
abbrev fabRegs : List Nat := Ra.SYS_FAB_CNT :: passRegs

@[simp] theorem fabShow_fab (s : State) : (fabShow s).fab = s.fab := rfl

theorem fabShow_onlyParts (s : State) : OnlyParts [.regs] s (fabShow s) := onlyParts_regs rfl

theorem fabShow_onlyRegs (s : State) : OnlyRegs [Ra.SYS_FAB_CNT] s (fabShow s) := by
  have h : ∀ (u : State) (f : Fld) (v : Nat), f.addr = Ra.SYS_FAB_CNT → OnlyRegs [Ra.SYS_FAB_CNT] u (u.setFld f v) :=
    fun u f v hf => setFld_onlyRegs_of_mem u f v (by simp [hf])
  exact (((h s Fd.SYS_FAB_CNT_SAFETY _ rfl).trans (h _ Fd.SYS_FAB_CNT_CONTROL _ rfl)).trans (h _ Fd.SYS_FAB_CNT_STREAM _ rfl)).trans
    (h _ Fd.SYS_FAB_CNT_BULK _ rfl)

/-- A transaction accepted: it is the last outstanding. -/
theorem fabIssue_fab (s : State) (x : FabTxn) :
    (fabIssue s x).fab = { s.fab with outst := s.fab.outst ++ [x], lastRR := smPut 0 s.fab.lastRR x.cls (x.init + 1) } := rfl

/-- The transaction is entered, the counters are brought up to date, and the access counts. -/
theorem fabIssue_eq (s : State) (x : FabTxn) :
    ∃ n total, fabIssue s x = fabNote (fabShow (s.setFab { s.fab with
      outst := s.fab.outst ++ [x], lastRR := smPut 0 s.fab.lastRR x.cls (x.init + 1) })) x.cls n total := ⟨_, _, rfl⟩

theorem fabNote_onlyParts (s : State) (c n total : Nat) : OnlyParts [.regs] s (fabNote s c n total) := onlyParts_regs rfl

theorem setFab_onlyRegs (l : List Nat) (s : State) (x : FabState) : OnlyRegs l s (s.setFab x) := onlyRegs_of_regs_eq l rfl

theorem fabIssue_onlyParts (s : State) (x : FabTxn) : OnlyParts [.regs, .fab] s (fabIssue s x) := by
  obtain ⟨n, total, h⟩ := fabIssue_eq s x
  rw [h]
  exact (((setFab_onlyParts s _).mono (by simp)).trans ((fabShow_onlyParts _).mono (by simp))).trans ((fabNote_onlyParts _ _ _ _).mono (by simp))

theorem fabIssue_onlyRegs (s : State) {x : FabTxn} (hx : x.cls < 4) : OnlyRegs fabRegs s (fabIssue s x) := by
  obtain ⟨n, total, h⟩ := fabIssue_eq s x
  rw [h]
  exact ((setFab_onlyRegs _ s _).trans ((fabShow_onlyRegs _).mono (List.cons_subset_cons _ (List.nil_subset _)))).trans
    ((fabNote_onlyRegs _ _ _ _ hx).mono (List.subset_cons_self _ _))

/-- An access answered at once only counts. -/
theorem fabPass_onlyParts (s : State) (x : FabTxn) : OnlyParts [.regs] s (fabPass s x) := onlyParts_regs rfl

/-! ### Requests that arrive (R22) -/

theorem fabTxn_cls (s : State) (init addr : Nat) (write : Bool) : (fabTxn s init addr write).cls < 4 := initClass_lt s init

theorem fabRequest_open {s : State} {init addr : Nat} {write : Bool} (h : fabOpen s (fabTxn s init addr write) = true) :
    fabRequest s init addr write = fabIssue s (fabTxn s init addr write) := if_pos h

theorem fabRequest_stalls {s : State} {init addr : Nat} {write : Bool} (h : fabOpen s (fabTxn s init addr write) = false) :
    fabRequest s init addr write = fabStall s (fabTxn s init addr write) := if_neg (by simp [h])

/-- A request changes the fabric, and the registers that count its transactions. -/
theorem fabRequest_frame (s : State) (init addr : Nat) (write : Bool) :
    OnlyRegs fabRegs s (fabRequest s init addr write) ∧ OnlyParts [.regs, .fab] s (fabRequest s init addr write) := by
  cases h : fabOpen s (fabTxn s init addr write) with
  | true =>
    rw [fabRequest_open h]
    exact ⟨fabIssue_onlyRegs s (fabTxn_cls s init addr write), fabIssue_onlyParts s _⟩
  | false =>
    rw [fabRequest_stalls h]
    exact ⟨setFab_onlyRegs _ s _, (setFab_onlyParts s _).mono (by simp)⟩

theorem fabArrive_frame (l : List (Fin 58 × BitVec 40 × Bool)) (s : State) :
    OnlyRegs fabRegs s (fabArrive s l) ∧ OnlyParts [.regs, .fab] s (fabArrive s l) := by
  induction l generalizing s with
  | nil => exact ⟨.refl _ s, .refl _ s⟩
  | cons x l ih =>
    obtain ⟨hr, hp⟩ := fabRequest_frame s x.1 x.2.1.toNat x.2.2
    exact ⟨hr.trans (ih _).1, hp.trans (ih _).2⟩

theorem fabArrive_append (s : State) (l : List (Fin 58 × BitVec 40 × Bool)) (i : Fin 58) (a : BitVec 40) (w : Bool) :
    fabArrive s (l ++ [(i, a, w)]) = fabRequest (fabArrive s l) i a.toNat w := List.foldl_append ..

/-! ### Grants, responses and writes that are due (R22, R23) -/

theorem rrPick_of_stalled_nil {s : State} (h : s.fab.stalled = []) (c : Nat) : rrPick s c = none := by
  simp [rrPick, h]

theorem fabGrant_of_stalled_nil {s : State} (h : s.fab.stalled = []) : fabGrant s = s := by
  simp only [fabGrant, nextGrant, rrPick_of_stalled_nil h]

theorem fabDrain_of_ready_nil {s : State} (h : s.fab.ready = []) : fabDrain s = s := by
  unfold fabDrain
  generalize s.fab.ready.length + s.fab.stalled.length = n
  cases n with
  | zero => rfl
  | succ n => simp only [fabWrites, h]

theorem fabFree_of_none {s : State} {init : Nat} (h : s.fab.outst.any (fun t => t.init == init) = false) : fabFree s init = s :=
  if_neg (by simp [h])

theorem dropFirst_of_none {α : Type} {p : α → Bool} {l : List α} (h : l.any p = false) : dropFirst p l = l := by
  induction l with
  | nil => rfl
  | cons x l ih =>
    obtain ⟨hx, hl⟩ := Bool.or_eq_false_iff.mp h
    simp [dropFirst, hx, ih hl]

/-- A response frees an entry of its initiator; where no request stalls, nothing else happens. -/
theorem fabFree_of_stalled_nil {s : State} (h : s.fab.stalled = []) (init : Nat) :
    (fabFree s init).fab = { s.fab with outst := dropFirst (fun t => t.init == init) s.fab.outst } ∧
      OnlyRegs [Ra.SYS_FAB_CNT] s (fabFree s init) ∧ OnlyParts [.regs, .fab] s (fabFree s init) := by
  cases ho : s.fab.outst.any (fun t => t.init == init) with
  | true =>
    rw [fabFree, if_pos ho, fabGrant_of_stalled_nil (by exact h)]
    exact ⟨rfl, (setFab_onlyRegs _ s _).trans (fabShow_onlyRegs _),
      ((setFab_onlyParts s _).mono (by simp)).trans ((fabShow_onlyParts _).mono (by simp))⟩
  | false =>
    rw [fabFree_of_none ho, dropFirst_of_none ho]
    exact ⟨rfl, .refl _ s, .refl _ s⟩

/-! ### One request that stalls -/

/-- With no transaction outstanding there is room for any request. -/
theorem fabRoom_of_outst_nil {s : State} (h : s.fab.outst = []) (y : FabTxn) : fabRoom s y = true := by
  have hi : 0 < initLimit y.init := by unfold initLimit; split <;> [skip; split] <;> omega
  simp [fabRoom, classFree, h, fabCount, poolUsed, initCount, hi, fabPool]

/-- The one request that stalls is served in its class. -/
theorem rrPick_single {s : State} {y : FabTxn} (ho : s.fab.outst = []) (hs : s.fab.stalled = [y]) (c : Nat) :
    rrPick s c = if y.cls = c then some y else none := by
  have hroom := fabRoom_of_outst_nil ho y
  by_cases hc : y.cls = c
  · by_cases hl : smGet 0 s.fab.lastRR c ≤ y.init <;> simp [rrPick, hs, hroom, hc, hl]
  · simp [rrPick, hs, hc]

theorem nextGrant_single {s : State} {y : FabTxn} (ho : s.fab.outst = []) (hs : s.fab.stalled = [y]) (hc : y.cls < 4) :
    nextGrant s = some y := by
  have hfind : s.fab.stalled.find? (fun x => x.promoted && fabRoom s x) = if y.promoted then some y else none := by
    cases hp : y.promoted <;> simp [hs, hp, fabRoom_of_outst_nil ho]
  simp only [nextGrant, rrPick_single ho hs, hfind]
  obtain h | h | h | h : y.cls = 0 ∨ y.cls = 1 ∨ y.cls = 2 ∨ y.cls = 3 := by omega
  · simp [h]
  · simp [h]
  · cases hp : y.promoted <;> simp [h]
  · simp [h]

/-- The one request that stalls becomes outstanding. -/
theorem fabGrant_single {s : State} {y : FabTxn} (ho : s.fab.outst = []) (hs : s.fab.stalled = [y]) (hc : y.cls < 4) (hw : y.wr = none) :
    fabGrant s = fabIssue (s.setFab { s.fab with stalled := [] }) { y with promoted := false } := by
  simp only [fabGrant, nextGrant_single ho hs hc, hs, hw, Option.isSome_none, List.erase_cons_head, Bool.false_eq_true, if_false]

/-- The one write that stalls counts and is due. -/
theorem fabGrant_single_write {s : State} {y : FabTxn} (ho : s.fab.outst = []) (hs : s.fab.stalled = [y]) (hc : y.cls < 4)
    (hw : y.wr.isSome = true) :
    fabGrant s = (fabPass (s.setFab { s.fab with stalled := [] }) y).setFab { s.fab with
      stalled := [], ready := s.fab.ready ++ [y], lastRR := smPut 0 s.fab.lastRR y.cls (y.init + 1) } := by
  simp only [fabGrant, nextGrant_single ho hs hc, hs, hw, List.erase_cons_head, if_true]
  rfl

/-- The response of the last outstanding transaction frees its entry. -/
theorem fabFree_single {s : State} {init : Nat} {x : FabTxn} (ho : s.fab.outst = [x]) (hx : x.init = init) :
    fabFree s init = fabGrant (fabShow (s.setFab { s.fab with outst := [] })) := by
  have hany : s.fab.outst.any (fun t => t.init == init) = true := by simp [ho, hx]
  have hdrop : dropFirst (fun t => t.init == init) s.fab.outst = [] := by simp [ho, hx, dropFirst]
  rw [fabFree, if_pos hany, hdrop]

end Sys2Proof.Machine
end

section
/-! SUPPORT. What records of the event log and a lock-out leave of the registers (R462–R464, R493). -/

namespace Sys2Proof.Machine

/-! ### Records of the event log (R493, R510): the registers outside its windows -/

/-- From `s` to `t` no register changes below the windows of the event log and the recorder, and SAF_LOCK stays. -/
def Logged (s t : State) : Prop := ∀ a, a < 0x40060000 ∨ a = Ra.SAF_LOCK → t.reg a = s.reg a

section
variable {s t u : State}

theorem Logged.refl (s : State) : Logged s s := fun _ _ => rfl

/-- An update of other parts. -/
theorem Logged.of_regs (h : Logged s t) (e : u.regs = t.regs) : Logged s u := fun a ha => (congrArg (smGet _ · a) e).trans (h a ha)

protected theorem Logged.ite {c : Prop} {inst : Decidable c} (ht : Logged s t) (hu : Logged s u) : Logged s (if c then t else u) := by
  split
  · exact ht
  · exact hu

protected theorem Logged.foldl {α : Type} {f : State → α → State} {l : List α} (h : Logged s t) (hf : ∀ t x, Logged s t → Logged s (f t x)) :
    Logged s (l.foldl f t) := by
  induction l generalizing t with
  | nil => exact h
  | cons x l ih => exact ih (hf t x h)

protected theorem Logged.setReg {x : Nat} {w : Word} (h : Logged s t) (hx : 0x40060000 ≤ x ∧ x ≠ Ra.SAF_LOCK := by decide) :
    Logged s (t.setReg x w) :=
  fun a ha => (reg_setReg_other t x a w (by omega)).trans (h a ha)

protected theorem Logged.setFld {f : Fld} {v : Nat} (h : Logged s t) (hf : 0x40060000 ≤ f.addr ∧ f.addr ≠ Ra.SAF_LOCK := by decide) :
    Logged s (t.setFld f v) := h.setReg hf

protected theorem Logged.setFlag {f : Fld} {b : Bool} (h : Logged s t) (hf : 0x40060000 ≤ f.addr ∧ f.addr ≠ Ra.SAF_LOCK := by decide) :
    Logged s (t.setFlag f b) := h.setReg hf

protected theorem Logged.count {f : Fld} {n : Nat} (h : Logged s t) (hf : 0x40060000 ≤ f.addr ∧ f.addr ≠ Ra.SAF_LOCK := by decide) :
    Logged s (t.count f n) := h.setReg hf

theorem Logged.fld_eq (h : Logged s t) {f : Fld} (hf : f.addr < 0x40060000 ∨ f.addr = Ra.SAF_LOCK) : t.fld f = s.fld f := by
  simp only [State.fld, h f.addr hf]

/-- The recorder and the event log, beyond their registers. -/
protected theorem Logged.setTab {x : TabState} (h : Logged s t) : Logged s (t.setTab x) := h.of_regs rfl
protected theorem Logged.setEvr {x : EvrState} (h : Logged s t) : Logged s (t.setEvr x) := h.of_regs rfl

protected theorem Logged.tabMark {unit : Nat} {data : List Nat} (h : Logged s t) : Logged s (tabRec t TabT.mark unit data) :=
  .ite (.ite (h.of_regs rfl) h) (.ite h.count.setTab.setFld h)

/-- There are four holds (R510). -/
theorem freeHold_lt {m : SMap TabHold} {n : Nat} (h : freeHold m = some n) : n < 4 :=
  List.mem_range.mp (List.mem_of_find?_eq_some h)

protected theorem Logged.tabHold {k : Nat} (h : Logged s t) : Logged s (tabHold t k) := by
  unfold Machine.tabHold
  dsimp only
  split
  · next n e =>
    have hn := freeHold_lt e
    have hfirst : 0x40060000 ≤ 0x40070090 + 0x8 * n ∧ 0x40070090 + 0x8 * n ≠ 0x40200004 := by omega
    have hlast : 0x40060000 ≤ 0x40070094 + 0x8 * n ∧ 0x40070094 + 0x8 * n ≠ 0x40200004 := by omega
    exact .ite (.tabMark (.setReg ((h.setTab.setFld hfirst).setFld hlast))) (.tabMark h.setFlag)
  · exact .tabMark h.setFlag

protected theorem Logged.tabWindow (h : Logged s t) : Logged s (tabWindow t) := by
  unfold Machine.tabWindow
  split
  · exact h.count.setFld
  · exact h.setTab.setFld

protected theorem Logged.tabTrigger {code : Nat} (h : Logged s t) : Logged s (tabTrigger t code) := by
  refine h.foldl fun u k hu => .ite ?_ hu
  extract_lets v w
  have hv : Logged s v := .tabMark hu.setReg
  have hw : Logged s w := .ite hv.tabHold hv
  exact .ite hw.tabWindow hw

protected theorem Logged.writeRecord {code src d0 d1 : Nat} (h : Logged s t) : Logged s (writeRecord t code src d0 d1) :=
  .tabTrigger (.ite h.setEvr.setFld.setFlag.count.setFld h.setEvr.setFld)

protected theorem Logged.stormRoll (h : Logged s t) : Logged s (stormRoll t) := .ite h (h.setEvr.foldl fun _ _ hu => hu.writeRecord)

protected theorem Logged.logLive {code src d0 d1 : Nat} (h : Logged s t) : Logged s (logLive t code src d0 d1) := by
  unfold Machine.logLive
  split
  · exact h.setEvr
  · exact .ite h.stormRoll.setEvr h.stormRoll.setEvr.writeRecord

theorem logLive_logged (s : State) (code src d0 d1 : Nat) : Logged s (logLive s code src d0 d1) := (Logged.refl s).logLive

protected theorem OnlyParts.logLive {code src d0 d1 : Nat} (h : OnlyParts logParts s t) : OnlyParts logParts s (logLive t code src d0 d1) := by
  unfold Machine.logLive
  split
  · exact h.setEvr
  · exact .ite h.stormRoll.setEvr h.stormRoll.setEvr.writeRecord

end

/-! ### A lock-out (R462–R464) -/

/-- The registers that show a lock-out. -/
abbrev lockRegs : List Nat := [Ra.SAF_LOCK, Ra.SAF_LOCK_MASK, Ra.SAF_STAT]

/-- A lock-out as the first: SAF_LOCK shows its cause. -/
def lockShown (s : State) (cause detail : Nat) : State :=
  ((((s.setFld Fd.SAF_LOCK_CAUSE cause).setFld Fd.SAF_LOCK_DETAIL detail).setFlag Fd.SAF_LOCK_LATCHED true).setFlag
    Fd.SAF_LOCK_READY false).setFld Fd.SAF_STAT_STATE 2

theorem lockShown_onlyRegs (s : State) (cause detail : Nat) : OnlyRegs lockRegs s (lockShown s cause detail) := by
  have h : ∀ (u : State) (f : Fld) (v : Nat), f.addr ∈ lockRegs → OnlyRegs lockRegs u (u.setFld f v) := setFld_onlyRegs_of_mem
  exact ((((h s Fd.SAF_LOCK_CAUSE _ (by decide)).trans (h _ Fd.SAF_LOCK_DETAIL _ (by decide))).trans
    (h _ Fd.SAF_LOCK_LATCHED _ (by decide))).trans (h _ Fd.SAF_LOCK_READY _ (by decide))).trans (h _ Fd.SAF_STAT_STATE _ (by decide))

theorem lockShown_cause {s : State} {cause : Nat} (detail : Nat) (hw : RegStore.wf s.regs = true) :
    (lockShown s cause detail).fld Fd.SAF_LOCK_CAUSE = cause % 2 ^ Fd.SAF_LOCK_CAUSE.width := by
  have hkeep : ∀ (u : State) (f : Fld) (v : Nat), RegStore.wf u.regs = true → f.lo + f.width ≤ 32 →
      f.addr ≠ Ra.SAF_LOCK ∨ f.lo + f.width ≤ Fd.SAF_LOCK_CAUSE.lo ∨ Fd.SAF_LOCK_CAUSE.lo + Fd.SAF_LOCK_CAUSE.width ≤ f.lo →
      (u.setFld f v).fld Fd.SAF_LOCK_CAUSE = u.fld Fd.SAF_LOCK_CAUSE := fun u f v hu hf h =>
    fld_setFld_other u f _ v hu hf (h.imp Ne.symm Or.symm)
  have h₁ := setFld_wf s Fd.SAF_LOCK_CAUSE cause hw
  have h₂ := setFld_wf _ Fd.SAF_LOCK_DETAIL detail h₁
  have h₃ := setFld_wf _ Fd.SAF_LOCK_LATCHED (b2n true) h₂
  have h₄ := setFld_wf _ Fd.SAF_LOCK_READY (b2n false) h₃
  calc _ = _ := hkeep _ Fd.SAF_STAT_STATE _ h₄ (by decide) (by decide)
    _ = _ := hkeep _ Fd.SAF_LOCK_READY _ h₃ (by decide) (by decide)
    _ = _ := hkeep _ Fd.SAF_LOCK_LATCHED _ h₂ (by decide) (by decide)
    _ = _ := hkeep _ Fd.SAF_LOCK_DETAIL _ h₁ (by decide) (by decide)
    _ = _ := fld_setFld_same s _ _ hw (by decide)

/-- A lock-out shows: it is the first, or comes before the one shown in the order of R462. -/
def lockShows (s : State) (cause : Nat) : Bool :=
  s.saf.mram.isNone || (s.saf.lockTick == some s.saf.t && decide (cause < s.fld Fd.SAF_LOCK_CAUSE))

/-- The cause joins SAF_LOCK.MASK, and the outputs go off at t + 20. -/
def lockNoted (s : State) (cause detail : Nat) : State :=
  let u := s.setReg Ra.SAF_LOCK_MASK (s.reg Ra.SAF_LOCK_MASK ||| BitVec.ofNat 32 (2 ^ cause))
  u.setSaf { u.saf with
    offs := u.saf.offs ++ [{ cause := cause, detail := detail, off := s.saf.t + 20 }], hist := (cause, detail, u.dtNs) :: u.saf.hist.take 7 }

/-- The latch and its secure-element copy are written. -/
def lockLatched (s : State) (cause detail : Nat) : State :=
  s.setSaf { s.saf with mram := some (cause, detail), seCopy := some (s.saf.seCopy.getD cause), lockTick := some s.saf.t }

/-- A lock-out is noted, latched and shown where it shows, and recorded. -/
theorem lockOut_eq (s : State) (cause detail : Nat) : lockOut s cause detail =
    logLive (if lockShows s cause then lockShown (lockLatched (lockNoted s cause detail) cause detail) cause detail else lockNoted s cause detail)
      Ev.lockout Src.mirror cause detail := rfl

theorem lockNoted_onlyRegs (s : State) (cause detail : Nat) : OnlyRegs lockRegs s (lockNoted s cause detail) :=
  ((setReg_onlyRegs s Ra.SAF_LOCK_MASK _).mono (by simp)).trans (onlyRegs_of_regs_eq _ rfl)

/-- What a lock-out changes of the registers lies in the windows of the island, the event log and the recorder. -/
theorem lockOut_onlyRegs (s : State) (cause detail : Nat) {a : Nat} (ha : a < 0x40060000) : (lockOut s cause detail).reg a = s.reg a := by
  have hlock : a ∉ lockRegs := fun h => absurd ((show ∀ x ∈ lockRegs, 0x40060000 ≤ x by decide) a h) (by omega)
  have hnoted := lockNoted_onlyRegs s cause detail a hlock
  rw [lockOut_eq, logLive_logged _ _ _ _ _ a (.inl ha)]
  split
  · exact ((lockShown_onlyRegs _ cause detail a hlock).trans rfl).trans hnoted
  · exact hnoted

theorem lockOut_fab (s : State) (cause detail : Nat) : (lockOut s cause detail).fab = s.fab := by
  have hlog := fun u : State => ((OnlyParts.refl logParts u).logLive (code := Ev.lockout) (src := Src.mirror) (d0 := cause) (d1 := detail)) .fab
    (by simp)
  rw [lockOut_eq]
  refine (hlog _).trans ?_
  split
  · rfl
  · rfl

/-- The first lock-out shows its cause. -/
theorem lockOut_cause {s : State} {cause : Nat} (detail : Nat) (hw : RegStore.wf s.regs = true) (hs : s.saf.mram = none) :
    (lockOut s cause detail).fld Fd.SAF_LOCK_CAUSE = cause % 2 ^ Fd.SAF_LOCK_CAUSE.width := by
  have hnoted : RegStore.wf (lockLatched (lockNoted s cause detail) cause detail).regs = true := setReg_wf s Ra.SAF_LOCK_MASK _ hw
  rw [lockOut_eq, if_pos (by simp [lockShows, hs]), (logLive_logged _ _ _ _ _).fld_eq (.inr rfl)]
  exact lockShown_cause detail hnoted

end Sys2Proof.Machine
end

section
/-! SUPPORT. What a DMA channel that stops leaves of the fabric (R363–R369). -/

namespace Sys2Proof.Machine

/-! ### A DMA channel that stops (R363–R369): what stays of the fabric's registers -/

/-- No granted write is due, and what stalls is no write and has a class. -/
def ReadsStall (f : FabState) : Prop := f.ready = [] ∧ ∀ x ∈ f.stalled, x.cls < 4 ∧ x.wr = none

/-- From `s` to `t` the fabric's registers stay, but for the counts of its transactions, and no write stalls. -/
structure Quiet (s t : State) : Prop where
  reg : ∀ a, a < 0x40010000 → a ∉ fabRegs → t.reg a = s.reg a
  fab : ReadsStall t.fab

section
variable {s t u : State}

theorem Quiet.refl (h : ReadsStall s.fab) : Quiet s s := ⟨fun _ _ _ => rfl, h⟩

/-- Names the state reached for the rest of a proof, where it is read more than once. -/
theorem Quiet.use {p : Prop} (h : Quiet s t) (f : Quiet s t → p) : p := f h

/-- An update of other parts. -/
theorem Quiet.of_parts (h : Quiet s t) (hr : u.regs = t.regs) (hf : u.fab = t.fab) : Quiet s u :=
  ⟨fun a ha hn => (congrArg (smGet _ · a) hr).trans (h.reg a ha hn), hf ▸ h.fab⟩

protected theorem Quiet.ite {c : Prop} {inst : Decidable c} (ht : Quiet s t) (hu : Quiet s u) : Quiet s (if c then t else u) := by
  split
  · exact ht
  · exact hu

protected theorem Quiet.foldl {α : Type} {f : State → α → State} {l : List α} (h : Quiet s t) (hf : ∀ t x, Quiet s t → Quiet s (f t x)) :
    Quiet s (l.foldl f t) := by
  induction l generalizing t with
  | nil => exact h
  | cons x l ih => exact ih (hf t x h)

/-- Every register of the DMA window lies above the fabric's. -/
theorem dmaReg_le {b k : Nat} (h : 0x40010000 ≤ b := by decide) : 0x40010000 ≤ b + k := Nat.le_add_right_of_le h

protected theorem Quiet.setReg {x : Nat} {w : Word} (h : Quiet s t) (hx : 0x40010000 ≤ x := by exact dmaReg_le) : Quiet s (t.setReg x w) :=
  ⟨fun a ha hn => (reg_setReg_other t x a w (by omega)).trans (h.reg a ha hn), h.fab⟩

protected theorem Quiet.setFld {f : Fld} {v : Nat} (h : Quiet s t) (hf : 0x40010000 ≤ f.addr := by exact dmaReg_le) : Quiet s (t.setFld f v) :=
  h.setReg hf

protected theorem Quiet.setFlag {f : Fld} {b : Bool} (h : Quiet s t) (hf : 0x40010000 ≤ f.addr := by exact dmaReg_le) : Quiet s (t.setFlag f b) :=
  h.setReg hf

protected theorem Quiet.count {f : Fld} {n : Nat} (h : Quiet s t) (hf : 0x40010000 ≤ f.addr := by exact dmaReg_le) : Quiet s (t.count f n) :=
  h.setReg hf

protected theorem Quiet.setReg64 {x y v : Nat} (h : Quiet s t) (hx : 0x40010000 ≤ x := by exact dmaReg_le)
    (hy : 0x40010000 ≤ y := by exact dmaReg_le) : Quiet s (t.setReg64 x y v) := (h.setReg hx).setReg hy

/-- The fabric's part: registers stay. -/
theorem Quiet.setFab {x : FabState} (h : Quiet s t) (hx : ReadsStall t.fab → ReadsStall x) : Quiet s (t.setFab x) := ⟨h.reg, hx h.fab⟩

/-- Counting transactions. -/
theorem Quiet.of_fabRegs (h : Quiet s t) (hr : OnlyRegs fabRegs t u) (hf : ReadsStall u.fab) : Quiet s u :=
  ⟨fun a ha hn => (hr a hn).trans (h.reg a ha hn), hf⟩

protected theorem Quiet.setByte {a : Nat} {b : Byte} (h : Quiet s t) : Quiet s (t.setByte a b) := h.of_parts rfl rfl

protected theorem Quiet.setBytes {a : Nat} {l : List Byte} (h : Quiet s t) : Quiet s (t.setBytes a l) := by
  induction l generalizing a t with
  | nil => exact h
  | cons _ _ ih => exact ih h.setByte

protected theorem Quiet.setDma {x : DmaState} (h : Quiet s t) : Quiet s (t.setDma x) := h.of_parts rfl rfl

protected theorem Quiet.setDch {n : Nat} {c : DmaCh} (h : Quiet s t) : Quiet s (t.setDch n c) := h.setDma.setFld

/-! #### Requests and grants -/

protected theorem Quiet.fabIssue {x : FabTxn} (h : Quiet s t) (hx : x.cls < 4) : Quiet s (fabIssue t x) :=
  h.of_fabRegs (fabIssue_onlyRegs t hx) h.fab

protected theorem Quiet.fabRequest {init a : Nat} {write : Bool} (h : Quiet s t) : Quiet s (fabRequest t init a write) := by
  refine .ite (h.fabIssue (fabTxn_cls t init a write)) (h.setFab fun ⟨hr, hs⟩ => ⟨hr, fun x hx => ?_⟩)
  obtain hx | hx := List.mem_append.mp hx
  · exact hs x hx
  · rw [List.mem_singleton.mp hx]
    exact ⟨fabTxn_cls t init a write, rfl⟩

/-- A fold that keeps its value or takes the element yields one of the list. -/
theorem mem_of_foldl_choice {α : Type} {f : Option α → α → Option α} (hf : ∀ a x, f a x = a ∨ f a x = some x) {l : List α} {a : Option α} {y : α}
    (h : l.foldl f a = some y) : a = some y ∨ y ∈ l := by
  induction l generalizing a with
  | nil => exact .inl h
  | cons x l ih =>
    obtain h | h := ih h
    · obtain e | e := hf a x
      · exact .inl (e ▸ h)
      · exact .inr (by simp [Option.some.inj (e.symm.trans h)])
    · exact .inr (List.mem_cons_of_mem _ h)

/-- The request that round robin serves next is one of those that stall. -/
theorem rrPick_mem {c : Nat} {x : FabTxn} (h : rrPick s c = some x) : x ∈ s.fab.stalled := by
  unfold rrPick at h
  extract_lets l above low at h
  have hlow : ∀ l y, low l = some y → y ∈ l := fun l y hy => by
    refine (mem_of_foldl_choice (fun a x => ?_) hy).resolve_left (by simp)
    split
    · exact .inr rfl
    · split
      · exact .inr rfl
      · exact .inl rfl
  split at h
  · next e => exact (List.mem_filter.mp (List.mem_filter.mp (hlow _ _ (e.trans h))).1).1
  · exact (List.mem_filter.mp (hlow _ _ h)).1

/-- The next grant is one of the requests that stall. -/
theorem nextGrant_mem {x : FabTxn} (h : nextGrant s = some x) : x ∈ s.fab.stalled := by
  unfold nextGrant at h
  split at h
  · next e => exact rrPick_mem (e.trans h)
  · next e => exact rrPick_mem (e.trans h)
  · next e =>
    split at h
    · next e' => exact List.mem_of_find?_eq_some (e'.trans h)
    · exact rrPick_mem (e.trans h)
  · exact rrPick_mem h

protected theorem Quiet.fabGrant (h : Quiet s t) : Quiet s (fabGrant t) := by
  unfold Machine.fabGrant
  split
  · next x e =>
    obtain ⟨hc, hw⟩ := h.fab.2 x (nextGrant_mem e)
    have hg : Quiet s (t.setFab { t.fab with stalled := t.fab.stalled.erase x }) :=
      h.setFab fun ⟨hr, hs⟩ => ⟨hr, fun y hy => hs y (List.mem_of_mem_erase hy)⟩
    dsimp only
    rw [hw]
    exact hg.fabIssue (x := { x with promoted := false, wr := none }) hc
  · exact h

protected theorem Quiet.fabFree {init : Nat} (h : Quiet s t) : Quiet s (fabFree t init) := by
  have hdrop : Quiet s (t.setFab { t.fab with outst := dropFirst (fun t => t.init == init) t.fab.outst }) := h.setFab fun hf => hf
  have hshow := hdrop.of_fabRegs ((fabShow_onlyRegs _).mono (List.cons_subset_cons _ (List.nil_subset _))) hdrop.fab
  exact .ite hshow.fabGrant h

theorem Quiet.fabDrain (h : Quiet s t) : Quiet s (fabDrain t) := by
  rw [fabDrain_of_ready_nil h.fab.1]
  exact h

/-! #### Translations and write-backs -/

protected theorem Quiet.coreAbort {init : Nat} (h : Quiet s t) : Quiet s (coreAbort t init) := .ite (h.setFab fun hf => hf) h

protected theorem Quiet.iommuFault {init iova kind : Nat} {write : Bool} (h : Quiet s t) : Quiet s (iommuFault t init iova kind write) := by
  refine .ite ?_ ?_
  · exact (h.count.coreAbort.setReg (by decide)).count (by decide)
  · exact (h.count.coreAbort.setReg64 (by decide) (by decide)).setReg (by decide)

protected theorem Quiet.noteXfer {init a n : Nat} {write : Bool} (h : Quiet s t) : Quiet s (noteXfer t init a n write) := by
  refine .ite h (h.foldl fun u p hu => ?_)
  have hwalk : Quiet s (walkCount u init) := hu.count
  split
  · exact hwalk
  · exact hwalk.iommuFault

protected theorem Quiet.storeIova {init a : Nat} {l : List Byte} (h : Quiet s t) : Quiet s (storeIova t init a l) := by
  induction l generalizing a t with
  | nil => exact h
  | cons b r ih =>
    unfold Machine.storeIova
    split
    · exact ih h.setByte
    · exact ih h

protected theorem Quiet.dmaCount {n : Nat} (h : Quiet s t) : Quiet s (dmaCount t n) := by
  have hcnt : ∀ w, Quiet s (t.setReg (Ra.DMA_CH_CNT n) w) := fun _ => h.setReg
  exact .ite (hcnt _) ((hcnt _).of_parts rfl rfl)

protected theorem Quiet.retireLoop {n : Nat} {d : DmaDesc} {code done : Nat} (h : Quiet s t) : Quiet s (retireLoop t n d code done) :=
  .dmaCount (.ite h h.setBytes)

protected theorem Quiet.retireRing {n code done : Nat} (h : Quiet s t) : Quiet s (retireRing t n code done) :=
  .dmaCount (.setFld h.noteXfer.storeIova)

/-! #### Work taken up, cancelled and retired -/

protected theorem Quiet.dmaCancelRing {n fuel : Nat} (h : Quiet s t) : Quiet s (dmaCancelRing t n fuel) := by
  induction fuel generalizing t with
  | zero => exact h
  | succ k ih => exact .ite h (ih h.retireRing)

protected theorem Quiet.dmaCancelQueue {n : Nat} (h : Quiet s t) : Quiet s (dmaCancelQueue t n) := h.setDch.foldl fun _ _ hu => hu.retireLoop

protected theorem Quiet.dmaDisabled {n : Nat} (h : Quiet s t) : Quiet s (dmaDisabled t n) :=
  .setFlag (.setFld (.setDch (.ite h.dmaCancelQueue (.ite h.dmaCancelRing h))))

protected theorem Quiet.dmaEnterFault {n iova kind extra done : Nat} {write restart : Bool} (h : Quiet s t) :
    Quiet s (dmaEnterFault t n iova kind write restart extra done) := by
  have hinfo : ∀ w, Quiet s ((t.setReg64 (Ra.DMA_CH_FAULT_LO n) (Ra.DMA_CH_FAULT_HI n) iova).setReg (Ra.DMA_CH_FAULT_INFO n) w) :=
    fun _ => h.setReg64.setReg
  exact .fabFree (.setFld (.setFld (.ite (hinfo _) (hinfo _).iommuFault)))

protected theorem Quiet.dmaBegin {n : Nat} {d : DmaDesc} (h : Quiet s t) : Quiet s (dmaBegin t n d) := .fabRequest (.setFld (.setFld h.setDch))

protected theorem Quiet.dmaNext {n fuel : Nat} (h : Quiet s t) : Quiet s (dmaNext t n fuel) := by
  induction fuel generalizing t with
  | zero => exact h
  | succ k ih =>
    refine .ite h (.ite ?_ (.ite h.setFld ?_))
    · split
      · exact h.setFld
      · exact h.setDch.dmaBegin
    · split
      · exact h.setDch.dmaEnterFault
      · exact .ite h.dmaBegin (ih h.retireRing)

protected theorem Quiet.dmaRetire {n code done : Nat} (h : Quiet s t) : Quiet s (dmaRetire t n code done) := by
  unfold Machine.dmaRetire
  split
  · exact .use (.ite h.setDch.setFld.setFld.retireLoop h.setDch.setFld.setFld.retireRing) fun hu => .ite hu.dmaDisabled hu.dmaNext
  · exact h

protected theorem Quiet.dmaAfterFault {n done : Nat} (h : Quiet s t) : Quiet s (dmaAfterFault t n done) := by
  unfold Machine.dmaAfterFault
  split
  · exact .ite h.setDch.dmaRetire h.setDch
  · exact h

theorem Quiet.dmaFaultAt {n o kind extra : Nat} {d : DmaDesc} {write : Bool} (h : Quiet s t) :
    Quiet s (dmaFaultAt t n d o kind write extra) := h.dmaEnterFault.dmaAfterFault

end

end Sys2Proof.Machine
end

section
/-! SUPPORT. Writes that were granted (R22), and what a missing response does to its initiator (R28). -/

namespace Sys2Proof.Machine

/-! ### Writes that were granted (R22) -/

/-- The one granted write is performed. -/
theorem fabDrain_single {s : State} {y : FabTxn} {size : Nat} {v : Word} (hr : s.fab.ready = [y]) (hs : s.fab.stalled = [])
    (hw : y.wr = some (size, v)) :
    fabDrain s = fabGrant (busWrite (s.setFab { s.fab with ready := [] }) y.init y.addr size v) := by
  simp only [fabDrain, hr, hs, List.length_singleton, List.length_nil, fabWrites, hw, Option.getD_some]

/-- A word whose bit 31 is set, stored in SYS_FAB_ERR_INFO, shows VALID. -/
theorem valid_setReg (s : State) {w : Word} (h : bits w.toNat 31 1 = 1) :
    (s.setReg Ra.SYS_FAB_ERR_INFO w).flag Fd.SYS_FAB_ERR_INFO_VALID = true := by
  have hne : w ≠ resetVal Ra.SYS_FAB_ERR_INFO := by
    rintro rfl
    exact absurd h (by decide)
  have hreg : (s.setReg Ra.SYS_FAB_ERR_INFO w).reg Ra.SYS_FAB_ERR_INFO = w := smGet_smPut_of_ne _ _ _ hne
  rw [State.flag, State.fld, Fd.SYS_FAB_ERR_INFO_VALID, hreg, h]
  rfl

/-- After any error VALID is set, whatever the register store. -/
theorem fabErr_shows_valid (s : State) (init addr kind : Nat) : (fabErr s init addr kind).flag Fd.SYS_FAB_ERR_INFO_VALID = true := by
  cases h : s.flag Fd.SYS_FAB_ERR_INFO_VALID with
  | true =>
    rw [fabErr_held _ _ _ h]
    have hlt : setBits (s.reg Ra.SYS_FAB_ERR_INFO).toNat 30 1 1 < 2 ^ 32 := setBits_lt _ _ _ _ (by decide) (s.reg _).isLt
    refine valid_setReg s (w := BitVec.ofNat 32 (setBits (s.reg Ra.SYS_FAB_ERR_INFO).toNat 30 1 1)) ?_
    rw [BitVec.toNat_ofNat, Nat.mod_eq_of_lt hlt, bits_setBits_other _ _ _ _ _ _ (by decide)]
    exact beq_iff_eq.mp h
  | false =>
    rw [fabErr_first _ _ _ h]
    obtain ⟨hlt, hbit, -⟩ := errInfo_fields init (txnClass s init) kind (addr / 2 ^ 32)
    exact valid_setReg _ (by rw [BitVec.toNat_ofNat, Nat.mod_eq_of_lt hlt, hbit])

/-! ### A response, where no request stalls -/

/-- The entry of the response frees, and no other request proceeds. -/
theorem fabFreed_of_stalled_nil {s : State} (hs : s.fab.stalled = []) (hr : s.fab.ready = []) (init : Nat) :
    (fabDrain (fabFree s init)).fab = { s.fab with outst := dropFirst (fun t => t.init == init) s.fab.outst } ∧
      OnlyRegs [Ra.SYS_FAB_CNT] s (fabDrain (fabFree s init)) ∧ OnlyParts [.regs, .fab] s (fabDrain (fabFree s init)) := by
  obtain ⟨hfab, hregs, hparts⟩ := fabFree_of_stalled_nil hs init
  rw [fabDrain_of_ready_nil (by rw [hfab]; exact hr)]
  exact ⟨hfab, hregs, hparts⟩

/-! ### The error of a missing response (R28) -/

theorem fabErr_fab (s : State) (init addr kind : Nat) : (fabErr s init addr kind).fab = s.fab := fabErr_onlyParts s init addr kind .fab (by simp)

/-- Beyond the error, a missing response leaves the fabric's registers but for the counts of its transactions. -/
theorem timeoutAct_quiet {s : State} (init addr : Nat) (h : ReadsStall s.fab) : Quiet (fabErr s init addr 3) (timeoutAct s init addr) := by
  have herr : Quiet (fabErr s init addr 3) (fabErr s init addr 3) := .refl (by rwa [fabErr_fab])
  refine .ite ?_ (.ite ?_ ?_)
  · dsimp only
    split
    · exact .ite herr herr.dmaFaultAt
    · exact herr
  · dsimp only
    split
    · exact herr.of_parts rfl rfl
    · exact herr
  · have habort : Quiet (fabErr s init addr 3) (coreAbort (fabErr s init addr 3) init) := herr.coreAbort
    exact .ite ⟨fun a ha hn => (lockOut_onlyRegs _ 8 0 (by omega)).trans (habort.reg a ha hn), by rw [lockOut_fab]; exact habort.fab⟩ habort

/-- A missing response of a core aborts it. -/
theorem timeoutAct_core {s : State} {init addr : Nat} (h : init < 4) : timeoutAct s init addr = busError s init addr 3 := by
  rw [timeoutAct, if_neg (by omega), if_neg (by omega)]

/-- A missing response of the Mirror pair locks out. -/
theorem timeoutAct_mirror (s : State) (addr : Nat) : timeoutAct s 0x0C addr = lockOut (fabErr s 0x0C addr 3) 8 0 := rfl

/-- A missing response of an engine is kept for the loop whose access it was. -/
theorem timeoutAct_engine {s : State} {e l addr : Nat} (he : e < 8) (h : accessLoop (fabErr s (4 + e) addr 3) e = some l) :
    timeoutAct s (4 + e) addr = (fabErr s (4 + e) addr 3).setGw { (fabErr s (4 + e) addr 3).gw with
      dwf := smPut none (fabErr s (4 + e) addr 3).gw.dwf l (some (addr % 2 ^ 32)) } := by
  rw [timeoutAct, if_neg (by omega), if_pos (by omega)]
  simp only [Nat.add_sub_cancel_left, h]

/-- The loop of an engine's access is read from the running samples and the engines' registers. -/
theorem accessLoop_congr {s t : State} (hgw : t.gw = s.gw) (hr : ∀ a, 0x40100000 ≤ a → t.reg a = s.reg a) (e : Nat) :
    accessLoop t e = accessLoop s e := by
  have hf : ∀ f : Fld, 0x40100000 ≤ f.addr → t.fld f = s.fld f := fun f h => by simp only [State.fld, hr _ h]
  have hcfg : ∀ i, 0x40100000 ≤ Ra.CE_SLOT_CFG e i := fun i => Nat.le_add_right_of_le (Nat.le_add_right_of_le (by decide))
  have hstat : ∀ i, 0x40100000 ≤ Ra.CE_SLOT_STATUS e i := fun i => Nat.le_add_right_of_le (Nat.le_add_right_of_le (by decide))
  have hvalid : ∀ i, t.slotValid e i = s.slotValid e i := fun i => congrArg (· == 1) (hf _ (hcfg i))
  have hstate : ∀ i, t.slotState e i = s.slotState e i := fun i => hf _ (hstat i)
  have hloop : t.slotLoop e = s.slotLoop e := funext fun i => hf _ (hcfg i)
  simp only [accessLoop, State.ctx, hgw, State.engSlots, hvalid, hstate, hloop]

/-- A DMA channel in FAULT only takes the error. -/
theorem timeoutAct_faulted {s : State} {n addr : Nat} {d : DmaDesc} (hn : n < 32) (hrun : (s.dch n).run = some d)
    (hf : s.fld (Fd.DMA_CH_STAT_STATE n) = dmaFault) : timeoutAct s (0x10 + n) addr = fabErr s (0x10 + n) addr 3 := by
  rw [timeoutAct, if_pos (by omega)]
  simp only [Nat.add_sub_cancel_left, hrun, hf, if_true]

/-- A DMA channel at work stops with FAULT. -/
theorem timeoutAct_dma {s : State} {n addr : Nat} {d : DmaDesc} (hn : n < 32) (hrun : (s.dch n).run = some d)
    (hf : s.fld (Fd.DMA_CH_STAT_STATE n) ≠ dmaFault) :
    ∃ write, timeoutAct s (0x10 + n) addr = dmaFaultAt (fabErr s (0x10 + n) addr 3) n d d.done ftError write 0 := by
  rw [timeoutAct, if_pos (by omega)]
  simp only [Nat.add_sub_cancel_left, hrun, hf, if_false]
  exact ⟨_, rfl⟩

/-- A channel that enters FAULT on an error records it, shows FAULT, and frees its entry. -/
theorem dmaEnterFault_error (s : State) (n iova extra done : Nat) (write restart : Bool) :
    ∃ p, dmaEnterFault s n iova ftError write restart extra done =
        fabFree ((p.setFld (Fd.DMA_CH_STAT_STATE n) dmaFault).setFld (Fd.DMA_CH_STAT_OUT n) 0) (0x10 + n) ∧
      Keeps s p ∧ p.fab = s.fab ∧ p.dma = s.dma :=
  ⟨_, rfl, (Keeps.refl s).setReg64.setReg, rfl, rfl⟩

/-- An address above every one listed. -/
theorem notMem_of_lt {l : List Nat} {b a : Nat} (hl : ∀ x ∈ l, x < b) (ha : b ≤ a) : a ∉ l := fun h => absurd (hl a h) (by omega)

theorem dmaStat_le (n : Nat) : 0x40050000 ≤ (Fd.DMA_CH_STAT_STATE n).addr := Nat.le_add_right_of_le (by decide)

/-- STATE is the highest field of its register. -/
theorem dmaState_setFld {s : State} {n : Nat} {f : Fld} (v : Nat) (hw : RegStore.wf s.regs = true) (hf : f.lo + f.width ≤ 29) :
    (s.setFld f v).fld (Fd.DMA_CH_STAT_STATE n) = s.fld (Fd.DMA_CH_STAT_STATE n) :=
  fld_setFld_other s f _ v hw (by omega) (.inr (.inr hf))

/-- Where no request stalls, nothing else happens. -/
theorem dmaEnterFault_shows {s : State} {n iova extra done : Nat} {write restart : Bool} (hc : s.Canon) (hs : s.fab.stalled = []) :
    let v := dmaEnterFault s n iova ftError write restart extra done
    v.fld (Fd.DMA_CH_STAT_STATE n) = dmaFault ∧ v.fab.stalled = [] ∧ v.fab.ready = s.fab.ready ∧ v.dma = s.dma ∧ RegStore.wf v.regs = true := by
  obtain ⟨p, he, hk, hfab, hdma⟩ := dmaEnterFault_error s n iova extra done write restart
  have hw := (hk.canon hc).regs
  rw [he]
  obtain ⟨u, hu⟩ : ∃ u, u = (p.setFld (Fd.DMA_CH_STAT_STATE n) dmaFault).setFld (Fd.DMA_CH_STAT_OUT n) 0 := ⟨_, rfl⟩
  have hk : Keeps s u := hu ▸ hk.setFld.setFld
  have hufab : u.fab = s.fab := by rw [hu]; exact hfab
  have hudma : u.dma = s.dma := by rw [hu]; exact hdma
  have hstate : u.fld (Fd.DMA_CH_STAT_STATE n) = dmaFault := by
    rw [hu, dmaState_setFld _ (setFld_wf p _ _ hw) (show 23 + 5 ≤ 29 by decide), fld_setFld_same p _ _ hw (show 29 + 3 ≤ 32 by decide)]
    rfl
  have hne : (Fd.DMA_CH_STAT_STATE n).addr ∉ [Ra.SYS_FAB_CNT] := notMem_of_lt (by decide) (dmaStat_le n)
  rw [← hu]
  obtain ⟨hvfab, hvregs, hvparts⟩ := fabFree_of_stalled_nil (hufab ▸ hs) (0x10 + n)
  refine ⟨(hvregs.fld_eq hne).trans hstate, ?_, ?_, (hvparts .dma (by simp)).trans hudma, (hk.fabFree.canon hc).regs⟩
  · rw [hvfab, hufab]
    exact hs
  · rw [hvfab, hufab]

/-- A descriptor that is no loop's stays, in a channel that is not being disabled. -/
theorem dmaAfterFault_stays {s : State} {n done : Nat} {d : DmaDesc} (hrun : (s.dch n).run = some d) (hloop : d.loop = false)
    (hstop : (s.dch n).stopping = false) :
    dmaAfterFault s n done = s.setDch n { s.dch n with run := some { d with done := done } } := by
  simp only [dmaAfterFault, hrun, hloop, hstop, Bool.false_eq_true, or_self, if_false]

/-- The fault of such a descriptor shows in STATE. -/
theorem dmaFaultAt_state {s : State} {n o extra : Nat} {d d' : DmaDesc} {write : Bool} (hc : s.Canon) (hs : s.fab.stalled = [])
    (hrun : (s.dch n).run = some d) (hloop : d.loop = false) (hstop : (s.dch n).stopping = false) :
    let u := dmaFaultAt s n d' o ftError write extra
    u.fld (Fd.DMA_CH_STAT_STATE n) = dmaFault ∧ u.fab.stalled = [] ∧ u.fab.ready = s.fab.ready := by
  obtain ⟨hstate, hstalled, hready, hdma, hw⟩ := dmaEnterFault_shows (n := n) (iova := if write then dmaDstAddr d' o else dmaSrcAddr d' o)
    (extra := extra) (done := o) (write := write) (restart := !(write && dmaSrcFix d')) hc hs
  rw [dmaFaultAt]
  generalize dmaEnterFault s n _ ftError write _ extra o = v at *
  have hdch : v.dch n = s.dch n := by rw [State.dch, State.dch, hdma]
  rw [dmaAfterFault_stays (d := d) (by rw [hdch]; exact hrun) hloop (by rw [hdch]; exact hstop)]
  exact ⟨(dmaState_setFld (s := v.setDma _) _ hw (show 16 + 7 ≤ 29 by decide)).trans hstate, hstalled, hready⟩

end Sys2Proof.Machine
end

section
/-! SUPPORT. The commands FABRIC_ENTRY_FREED and RESPONSE_TIMEOUT (R20–R22, R28). -/

namespace Sys2Proof.Machine

/-! ### The command FABRIC_ENTRY_FREED (R20–R22) -/

/-- Where an initiator has no transaction outstanding, another one's request leaves it none to free. -/
theorem fabFree_fabIssue_of_ne {s : State} {x : FabTxn} {init : Nat} (hx : x.init ≠ init)
    (h : s.fab.outst.any (fun t => t.init == init) = false) : fabFree (fabIssue s x) init = fabIssue s x := by
  have hb : (x.init == init) = false := beq_eq_false_iff_ne.mpr hx
  exact fabFree_of_none (by rw [fabIssue_fab, List.any_append, h]; simp [hb])

/-- A request that arrives becomes outstanding or stalls. -/
theorem fabArrive_last (arrive : List (Fin 58 × BitVec 40 × Bool)) (i : Fin 58) (a : BitVec 40) (w : Bool) (s : State) :
    let m := fabArrive s arrive
    let x := fabTxn m i a.toNat w
    let t := fabArrive s (arrive ++ [(i, a, w)])
    (fabOpen m x = true → t.fab.outst = m.fab.outst ++ [x] ∧ t.fab.stalled = m.fab.stalled) ∧
      (fabOpen m x = false → t.fab.outst = m.fab.outst ∧ t.fab.stalled = m.fab.stalled ++ [x]) := by
  intro m x t
  have ht : t = fabRequest m i a.toNat w := fabArrive_append s arrive i a w
  constructor
  · intro h
    rw [ht, fabRequest_open h, fabIssue_fab]
    exact ⟨rfl, rfl⟩
  · intro h
    rw [ht, fabRequest_stalls h]
    exact ⟨rfl, rfl⟩

/-- A request with an entry arrives, and no entry frees. -/
theorem entryFreed_arrives {i freed : Fin 58} {a : BitVec 40} {w : Bool} {s : State} (hne : i ≠ freed)
    (hnone : s.fab.outst.any (fun t => t.init == freed.val) = false) (hready : s.fab.ready = []) (hopen : fabOpen s (fabTxn s i a.toNat w) = true) :
    exec (.fabricEntryFreed [(i, a, w)] freed) s = .next (fabIssue s (fabTxn s i a.toNat w)) := by
  have harrive : fabArrive s [(i, a, w)] = fabIssue s (fabTxn s i a.toNat w) := fabRequest_open hopen
  have hfree := fabFree_fabIssue_of_ne (x := fabTxn s i a.toNat w) (fun e => hne (Fin.ext e)) hnone
  calc _ = Host.Outcome.next (fabDrain (fabFree (fabArrive s [(i, a, w)]) freed)) := rfl
    _ = _ := by rw [harrive, hfree, fabDrain_of_ready_nil (by rw [fabIssue_fab]; exact hready)]

section
variable {s : State} {x y : FabTxn} {freed : Fin 58}

/-- The state in which the entry of the last outstanding transaction is free. -/
abbrev emptied (s : State) : State := fabShow (s.setFab { s.fab with outst := [] })

theorem emptied_onlyRegs (s : State) : OnlyRegs [Ra.SYS_FAB_CNT] s (emptied s) := (setFab_onlyRegs _ s _).trans (fabShow_onlyRegs _)

theorem emptied_onlyParts (s : State) : OnlyParts [.regs, .fab] s (emptied s) :=
  ((setFab_onlyParts s _).mono (by simp)).trans ((fabShow_onlyParts _).mono (by simp))

/-- The entry that frees is taken by the one request that stalls. -/
theorem entryFreed_passes_on (ho : s.fab.outst = [x]) (hx : x.init = freed.val) (hs : s.fab.stalled = [y]) (hr : s.fab.ready = []) (hc : y.cls < 4)
    (hw : y.wr = none) :
    Gives (.fabricEntryFreed [] freed) s (fun t => t.fab.outst = [{ y with promoted := false }] ∧ t.fab.stalled = [] ∧
      OnlyRegs (Ra.SYS_FAB_CNT :: passRegs) s t ∧ OnlyParts [.regs, .fab] s t) := by
  have hfree := (fabFree_single ho hx).trans (fabGrant_single (s := emptied s) rfl hs hc hw)
  refine ⟨fabFree s freed.val, ?_, ?_⟩
  · refine congrArg Host.Outcome.next (fabDrain_of_ready_nil ?_)
    change (fabFree s freed.val).fab.ready = []
    rw [hfree, fabIssue_fab]
    exact hr
  · rw [hfree]
    refine ⟨rfl, rfl, ?_, ?_⟩
    · exact (((emptied_onlyRegs s).mono (List.cons_subset_cons _ (List.nil_subset _))).trans (setFab_onlyRegs _ _ _)).trans
        (fabIssue_onlyRegs _ hc)
    · exact ((emptied_onlyParts s).trans ((setFab_onlyParts _ _).mono (by simp))).trans (fabIssue_onlyParts _ _)

/-- The one write that stalls is granted, and due. -/
theorem fabFree_write (ho : s.fab.outst = [x]) (hx : x.init = freed.val) (hs : s.fab.stalled = [y]) (hr : s.fab.ready = []) (hc : y.cls < 4)
    (hw : y.wr.isSome = true) :
    let u := fabFree s freed
    u.fab.outst = [] ∧ u.fab.stalled = [] ∧ u.fab.ready = [y] ∧ OnlyRegs fabRegs s u ∧ OnlyParts [.regs, .fab] s u := by
  have hfree := (fabFree_single ho hx).trans (fabGrant_single_write (s := emptied s) rfl hs hc hw)
  have hready : (emptied s).fab.ready ++ [y] = [y] := congrArg (· ++ [y]) hr
  rw [hfree]
  refine ⟨rfl, rfl, hready, ?_, ?_⟩
  · exact ((((emptied_onlyRegs s).mono (List.cons_subset_cons _ (List.nil_subset _))).trans (setFab_onlyRegs _ _ _)).trans
      ((fabNote_onlyRegs _ _ _ _ hc).mono (List.subset_cons_self _ _))).trans (setFab_onlyRegs _ _ _)
  · exact (((emptied_onlyParts s).trans ((setFab_onlyParts _ _).mono (by simp))).trans ((fabPass_onlyParts _ _).mono (by simp))).trans
      ((setFab_onlyParts _ _).mono (by simp))

/-- The one write that stalls is performed: one that no register takes is an error of KIND 2. -/
theorem entryFreed_writes {size : Nat} {v : Word} (ho : s.fab.outst = [x]) (hx : x.init = freed.val) (hs : s.fab.stalled = [y])
    (hr : s.fab.ready = []) (hc : y.cls < 4) (hw : y.wr = some (size, v)) (hlo : 0x40000000 ≤ y.addr) (hhi : y.addr < 0x41000000)
    (hwin : inWindow y.addr = true) (hsize : size < 2) :
    Gives (.fabricEntryFreed [] freed) s (fun t => t.fab.outst = [] ∧ t.fab.stalled = [] ∧ t.fab.ready = [] ∧
      t.flag Fd.SYS_FAB_ERR_INFO_VALID = true ∧ OnlyRegs (Ra.SYS_FAB_CNT :: passRegs ++ errRegs) s t ∧ OnlyParts [.regs, .fab] s t) := by
  obtain ⟨houtst, hstalled, hready, hregs, hparts⟩ := fabFree_write ho hx hs hr hc (by simp [hw])
  refine ⟨fabDrain (fabFree s freed), rfl, ?_⟩
  generalize fabFree s freed = u at *
  have herr := fabErr_fab (u.setFab { u.fab with ready := [] }) y.init y.addr 2
  rw [fabDrain_single hready hstalled hw, busWrite_misfit hlo hhi hwin (.inl hsize), fabGrant_of_stalled_nil (by rw [herr]; exact hstalled), herr]
  refine ⟨houtst, hstalled, rfl, fabErr_shows_valid _ _ _ _, ?_, ?_⟩
  · exact ((hregs.mono (List.subset_append_left _ _)).trans (setFab_onlyRegs _ _ _)).trans
      ((fabErr_onlyRegs _ _ _ _).mono (List.subset_append_right _ _))
  · exact (hparts.trans ((setFab_onlyParts _ _).mono (by simp))).trans ((fabErr_onlyParts _ _ _ _).mono (by simp))

end

/-! ### The command RESPONSE_TIMEOUT (R28) -/

section
variable {s : State} {init : Fin 58} {addr : BitVec 40}

/-- The missing response counts. -/
abbrev missed (s : State) : State := s.count (Fd.SYS_FAB_AUX_V 9)

/-- The error of the missing response is captured. -/
abbrev missErr (s : State) (init addr : Nat) : State := fabErr (missed s) init addr 3

/-- The state that the command leaves. -/
abbrev timedOut (s : State) (init addr : Nat) : State := fabDrain (fabFree (timeoutAct (missed s) init addr) init)

theorem missErr_canon (hc : s.Canon) (init addr : Nat) : (missErr s init addr).Canon := (Keeps.refl s).count.fabErr.canon hc

/-- The count is no field of the capture. -/
theorem missed_valid (s : State) : (missed s).flag Fd.SYS_FAB_ERR_INFO_VALID = s.flag Fd.SYS_FAB_ERR_INFO_VALID :=
  (setFld_onlyRegs s (Fd.SYS_FAB_AUX_V 9) _).flag_eq (by decide)

theorem missErr_count (hw : RegStore.wf s.regs = true) (init addr : Nat) :
    (missErr s init addr).fld (Fd.SYS_FAB_AUX_V 9) = satU 32 (s.fld (Fd.SYS_FAB_AUX_V 9) + 1) := by
  have hlt : satU 32 (s.fld (Fd.SYS_FAB_AUX_V 9) + 1) < 2 ^ 32 := by unfold satU; omega
  rw [missErr, (fabErr_onlyRegs _ _ _ _).fld_eq (by decide), missed, State.count, fld_setFld_same s _ _ hw (by decide)]
  exact Nat.mod_eq_of_lt hlt

/-- What of the fabric's registers no response and no grant changes. -/
theorem timedOut_quiet (h : ReadsStall s.fab) (init addr : Nat) : Quiet (missErr s init addr) (timedOut s init addr) :=
  (timeoutAct_quiet (s := missed s) init addr h).fabFree.fabDrain

/-- The missing response counts, and is the error captured unless one is held. -/
theorem timedOut_captures (hw : RegStore.wf s.regs = true) (h : ReadsStall s.fab) :
    let t := timedOut s init addr.toNat
    t.fld (Fd.SYS_FAB_AUX_V 9) = satU 32 (s.fld (Fd.SYS_FAB_AUX_V 9) + 1) ∧ t.flag Fd.SYS_FAB_ERR_INFO_VALID = true ∧
      (s.flag Fd.SYS_FAB_ERR_INFO_VALID = false → t.fld Fd.SYS_FAB_ERR_INFO_KIND = 3 ∧ t.fld Fd.SYS_FAB_ERR_INFO_INITIATOR = init.val ∧
        (t.reg Ra.SYS_FAB_ERR_ADDR).toNat = addr.toNat % 2 ^ 32) := by
  intro t
  have hq := timedOut_quiet h init addr.toNat
  have hreg := hq.reg
  have hf : ∀ f : Fld, f.addr < 0x40010000 → f.addr ∉ fabRegs → t.fld f = (missErr s init addr.toNat).fld f := fun f ha hn => by
    simp only [State.fld, t, hreg f.addr ha hn]
  refine ⟨?_, ?_, fun hv => ?_⟩
  · rw [hf _ (by decide) (by decide)]
    exact missErr_count hw _ _
  · rw [State.flag, hf _ (by decide) (by decide)]
    exact fabErr_shows_valid _ _ _ _
  · obtain ⟨-, -, haddr, hinit, -, hkind⟩ := fabErr_captures (s := missed s) init addr.toNat 3 (setFld_wf s _ _ hw) (by omega) (by decide)
      ((missed_valid s).trans hv)
    exact ⟨(hf _ (by decide) (by decide)).trans hkind, (hf _ (by decide) (by decide)).trans hinit,
      (congrArg BitVec.toNat (hreg _ (by decide) (by decide))).trans haddr⟩

/-- Where no request stalls, the entry of the missing response frees, and of its effect only SYS_FAB_CNT changes. -/
theorem timedOut_frees {i a : Nat} (hs : (timeoutAct (missed s) i a).fab.stalled = []) (hr : (timeoutAct (missed s) i a).fab.ready = []) :
    (timedOut s i a).fab = { (timeoutAct (missed s) i a).fab with outst := dropFirst (fun t => t.init == i) (timeoutAct (missed s) i a).fab.outst } ∧
      OnlyRegs [Ra.SYS_FAB_CNT] (timeoutAct (missed s) i a) (timedOut s i a) ∧
      OnlyParts [.regs, .fab] (timeoutAct (missed s) i a) (timedOut s i a) :=
  fabFreed_of_stalled_nil hs hr i

/-- An application core is aborted, and its entry is free. -/
theorem timedOut_core (hs : s.fab.stalled = []) (hr : s.fab.ready = []) {i a : Nat} (hi : i < 4) :
    smGet 0 (timedOut s i a).fab.aborts i = smGet 0 s.fab.aborts i + 1 ∧
      (timedOut s i a).fab.outst = dropFirst (fun t => t.init == i) s.fab.outst := by
  have haborts := busError_aborts (s := missed s) a 3 hi
  have hfab : (busError (missed s) i a 3).fab = { (missErr s i a).fab with
      aborts := smPut 0 (missErr s i a).fab.aborts i (smGet 0 (missErr s i a).fab.aborts i + 1) } := by
    rw [busError_of_ne a 3 (by omega), coreAbort, if_pos hi]
    rfl
  have herr : (missErr s i a).fab = s.fab := fabErr_fab _ _ _ _
  rw [herr] at hfab
  rw [← timeoutAct_core hi] at haborts hfab
  obtain ⟨hfree, -, -⟩ := timedOut_frees (s := s) (i := i) (a := a) (by rw [hfab]; exact hs) (by rw [hfab]; exact hr)
  rw [hfree]
  exact ⟨haborts, by rw [hfab]⟩

/-- A control engine takes its memory-fault trap at the next sample of the loop whose access it was. -/
theorem timedOut_engine (hs : s.fab.stalled = []) (hr : s.fab.ready = []) {e l a : Nat} (he : e < 8) (hl : accessLoop s e = some l) :
    smGet none (timedOut s (4 + e) a).gw.dwf l = some (a % 2 ^ 32) := by
  have hparts := fabErr_onlyParts (missed s) (4 + e) a 3
  have hregs : ∀ x, 0x40100000 ≤ x → (missErr s (4 + e) a).reg x = s.reg x := fun x hx =>
    (fabErr_onlyRegs (missed s) (4 + e) a 3 x (notMem_of_lt (by decide) hx)).trans
      (setFld_onlyRegs s (Fd.SYS_FAB_AUX_V 9) _ x (notMem_of_lt (by decide) hx))
  have hact := timeoutAct_engine (s := missed s) (addr := a) he ((accessLoop_congr (t := missErr s (4 + e) a) (s := s) (hparts .gw (by simp)) hregs e).trans hl)
  have hfab : (timeoutAct (missed s) (4 + e) a).fab = s.fab := by
    rw [hact]
    exact fabErr_fab _ _ _ _
  obtain ⟨-, -, hkept⟩ := timedOut_frees (s := s) (i := 4 + e) (a := a) (by rw [hfab]; exact hs) (by rw [hfab]; exact hr)
  have hgw : (timedOut s (4 + e) a).gw = (timeoutAct (missed s) (4 + e) a).gw := hkept .gw (by simp)
  rw [hgw, hact]
  exact smGet_smPut_of_ne _ _ _ (by simp)

/-- A DMA channel stops with FAULT. -/
theorem timedOut_dma (hc : s.Canon) (hs : s.fab.stalled = []) (hr : s.fab.ready = []) {n a : Nat} {d : DmaDesc} (hn : n < 32)
    (hrun : (s.dch n).run = some d) (hloop : d.loop = false) (hstop : (s.dch n).stopping = false) :
    (timedOut s (0x10 + n) a).fld (Fd.DMA_CH_STAT_STATE n) = dmaFault := by
  have hact : (timeoutAct (missed s) (0x10 + n) a).fld (Fd.DMA_CH_STAT_STATE n) = dmaFault ∧
      (timeoutAct (missed s) (0x10 + n) a).fab.stalled = [] ∧ (timeoutAct (missed s) (0x10 + n) a).fab.ready = [] := by
    have herr : (missErr s (0x10 + n) a).fab = s.fab := fabErr_fab _ _ _ _
    by_cases hf : (missed s).fld (Fd.DMA_CH_STAT_STATE n) = dmaFault
    · rw [timeoutAct_faulted (s := missed s) hn hrun hf, fabErr_fab]
      refine ⟨?_, hs, hr⟩
      rw [(fabErr_onlyRegs _ _ _ _).fld_eq (notMem_of_lt (by decide) (dmaStat_le n))]
      exact hf
    · obtain ⟨write, he⟩ := timeoutAct_dma (s := missed s) (addr := a) hn hrun hf
      have hdch : (missErr s (0x10 + n) a).dch n = s.dch n := by
        rw [State.dch, State.dch, fabErr_onlyParts (missed s) (0x10 + n) a 3 .dma (by simp)]
        rfl
      rw [he]
      obtain ⟨hstate, hstalled, hready⟩ := dmaFaultAt_state (o := d.done) (extra := 0) (d' := d) (write := write) (missErr_canon hc (0x10 + n) a)
        (by rw [herr]; exact hs) (by rw [hdch]; exact hrun) hloop (by rw [hdch]; exact hstop)
      exact ⟨hstate, hstalled, hready.trans (by rw [herr]; exact hr)⟩
  obtain ⟨hstate, hstalled, hready⟩ := hact
  obtain ⟨-, hkept, -⟩ := timedOut_frees hstalled hready
  rw [hkept.fld_eq (notMem_of_lt (by decide) (dmaStat_le n))]
  exact hstate

/-- The Mirror pair locks out. -/
theorem timedOut_mirror (hw : RegStore.wf s.regs = true) (hs : s.fab.stalled = []) (hr : s.fab.ready = []) {a : Nat} (hl : s.locked = false) :
    (timedOut s 0x0C a).fld Fd.SAF_LOCK_CAUSE = 8 := by
  have hmram : (missErr s 0x0C a).saf.mram = none := by
    have hsaf : (missErr s 0x0C a).saf = s.saf := fabErr_onlyParts (missed s) 0x0C a 3 .saf (by simp)
    rw [hsaf]
    exact Option.isNone_iff_eq_none.mp (by simpa using (Bool.or_eq_false_iff.mp hl).1)
  have hact := timeoutAct_mirror (missed s) a
  have hfab : (timeoutAct (missed s) 0x0C a).fab = s.fab := by
    rw [hact, lockOut_fab]
    exact fabErr_fab _ _ _ _
  obtain ⟨-, hkept, -⟩ := timedOut_frees (s := s) (i := 0x0C) (a := a) (by rw [hfab]; exact hs) (by rw [hfab]; exact hr)
  rw [hkept.fld_eq (by decide), hact]
  exact lockOut_cause 0 (fabErr_wf _ _ _ _ (setFld_wf s _ _ hw)) hmram

end

/-- Settles O28: an entry that frees goes to the one request that stalls, and a missing response acts on its initiator. -/
theorem fabricEntries : Obligations.FabricEntries := by
  refine ⟨fun _ _ _ => rfl, ?_, ?_, ?_, ?_, ?_⟩
  · intro arrive i a w s
    obtain ⟨hopen, hstalls⟩ := fabArrive_last arrive i a w s
    exact ⟨hopen, hstalls, fabArrive_frame _ s⟩
  · intro i freed a w s x hne hnone hready hopen
    exact ⟨_, entryFreed_arrives hne hnone hready hopen, rfl, rfl, fabIssue_onlyRegs s (fabTxn_cls _ _ _ _), fabIssue_onlyParts s _⟩
  · intro freed s hs hr
    obtain ⟨hfab, hregs, hparts⟩ := fabFreed_of_stalled_nil hs hr freed.val
    exact ⟨_, rfl, congrArg FabState.outst hfab, (congrArg FabState.stalled hfab).trans hs, hregs, hparts⟩
  · intro freed s x y ho hx hs hr hc
    exact ⟨entryFreed_passes_on ho hx hs hr hc, fun size v hw _ hlo hhi hwin hsize => entryFreed_writes ho hx hs hr hc hw hlo hhi hwin hsize⟩
  · refine fun init addr s => ⟨rfl, fun hcan hs hr => ?_⟩
    have hstall : ReadsStall s.fab := ⟨hr, by simp [hs]⟩
    obtain ⟨hcount, hvalid, hfirst⟩ := timedOut_captures (init := init) (addr := addr) hcan.regs_wf hstall
    refine ⟨timedOut s init addr.toNat, rfl, hcount, hvalid, hfirst, fun hi => timedOut_core hs hr hi, fun e l hi he hl => ?_,
      fun n d hi hn hrun hloop hstop => ?_, fun hi hl => ?_⟩
    · rw [hi]
      exact timedOut_engine hs hr he hl
    · rw [hi]
      exact timedOut_dma ((canonical_iff_canon s).mp hcan) hs hr hn hrun hloop hstop
    · rw [hi]
      exact timedOut_mirror hcan.regs_wf hs hr hl

end Sys2Proof.Machine
end

section
/-! SUPPORT. Frames of registers along a chain of updates, and the fields that a chain leaves. -/

namespace Sys2Proof.Machine

section
variable {l : List Nat} {s t : State}

/-- An update of other parts. -/
theorem OnlyRegs.of_regs {u : State} (h : OnlyRegs l s t) (e : u.regs = t.regs) : OnlyRegs l s u := h.trans (onlyRegs_of_regs_eq l e)

protected theorem OnlyRegs.ite {u : State} {c : Prop} {inst : Decidable c} (ht : OnlyRegs l s t) (hu : OnlyRegs l s u) :
    OnlyRegs l s (if c then t else u) := by
  split
  · exact ht
  · exact hu

protected theorem OnlyRegs.setReg {a : Nat} {w : Word} (h : OnlyRegs l s t) (ha : a ∈ l := by decide) : OnlyRegs l s (t.setReg a w) :=
  h.trans ((setReg_onlyRegs t a w).mono (by simpa using ha))

protected theorem OnlyRegs.setFld {f : Fld} {v : Nat} (h : OnlyRegs l s t) (hf : f.addr ∈ l := by decide) : OnlyRegs l s (t.setFld f v) :=
  h.setReg hf

protected theorem OnlyRegs.setFlag {f : Fld} {b : Bool} (h : OnlyRegs l s t) (hf : f.addr ∈ l := by decide) : OnlyRegs l s (t.setFlag f b) :=
  h.setReg hf

protected theorem OnlyRegs.count {f : Fld} {n : Nat} (h : OnlyRegs l s t) (hf : f.addr ∈ l := by decide) : OnlyRegs l s (t.count f n) :=
  h.setReg hf

protected theorem OnlyRegs.setClk {x : ClkState} (h : OnlyRegs l s t) : OnlyRegs l s (t.setClk x) := h.of_regs rfl

end

protected theorem OnlyParts.setGns {l : List Part} {s t : State} {x : GnsState} (h : OnlyParts l s t) (hl : Part.gns ∈ l := by simp) :
    OnlyParts l s (t.setGns x) := by
  refine h.trans fun p hp => ?_
  cases p
  case gns => exact absurd hl hp
  all_goals rfl

/-! ### A MARK of the recorder (R504) -/

/-- A MARK changes nothing (no segment is open, or the boundary replays), or is counted and shown in the buffer's fill. -/
theorem tabMark_cases (s : State) (unit : Nat) (data : List Nat) : tabRec s TabT.mark unit data = s ∨
    ∃ x fill, tabRec s TabT.mark unit data = ((s.count (Fd.TAB_REC_TYPE_V 7)).setTab x).setFld Fd.TAB_STAT_FILL fill := by
  have hout : ¬ (TabT.mark = TabT.out ∧ s.rpl.loaded = true) := fun e => absurd e.1 (by decide)
  simp only [tabRec, tabRecAt, if_neg hout]
  split
  · exact .inl rfl
  · split
    · exact .inr ⟨_, _, rfl⟩
    · exact .inl rfl

theorem tabMark_frame (s : State) (unit : Nat) (data : List Nat) :
    OnlyRegs captureRegs s (tabRec s TabT.mark unit data) ∧ OnlyParts [.regs, .tab] s (tabRec s TabT.mark unit data) := by
  have hregs : OnlyRegs captureRegs s s := .refl _ s
  have hparts : OnlyParts [.regs, .tab] s s := .refl _ s
  obtain e | ⟨x, fill, e⟩ := tabMark_cases s unit data
  · rw [e]; exact ⟨hregs, hparts⟩
  · rw [e]; exact ⟨(hregs.count.of_regs rfl).setFld, hparts.count.setTab.setFld⟩

protected theorem OnlyRegs.tabMark {l : List Nat} {s t : State} {unit : Nat} {data : List Nat} (h : OnlyRegs l s t)
    (hl : captureRegs ⊆ l := by simp) : OnlyRegs l s (tabRec t TabT.mark unit data) := h.trans ((tabMark_frame t unit data).1.mono hl)

theorem OnlyParts.tabMarkOf {l : List Part} {s t : State} {unit : Nat} {data : List Nat} (h : OnlyParts l s t)
    (hl : [.regs, .tab] ⊆ l := by simp) : OnlyParts l s (tabRec t TabT.mark unit data) := h.trans ((tabMark_frame t unit data).2.mono hl)

@[simp] theorem tabMark_clk (s : State) (unit : Nat) (data : List Nat) : (tabRec s TabT.mark unit data).clk = s.clk :=
  (tabMark_frame s unit data).2 .clk (by simp)

@[simp] theorem tabMark_rpl (s : State) (unit : Nat) (data : List Nat) : (tabRec s TabT.mark unit data).rpl = s.rpl :=
  (tabMark_frame s unit data).2 .rpl (by simp)

theorem tabMark_wf (s : State) (unit : Nat) (data : List Nat) (h : RegStore.wf s.regs = true) :
    RegStore.wf (tabRec s TabT.mark unit data).regs = true := by
  obtain e | ⟨x, fill, e⟩ := tabMark_cases s unit data
  · rw [e]; exact h
  · rw [e]; exact setFld_wf _ _ _ (setFld_wf s _ _ h)

/-! ### Flags and counters -/

theorem flag_setFlag_same (s : State) {f : Fld} (b : Bool) (hw : RegStore.wf s.regs = true) (hf : f.lo + f.width ≤ 32 ∧ f.width = 1) :
    (s.setFlag f b).flag f = b := by
  obtain ⟨hlo, hone⟩ := hf
  rw [State.flag, State.setFlag, fld_setFld_same s f _ hw hlo, hone]
  cases b <;> rfl

theorem setFlag_wf (s : State) (f : Fld) (b : Bool) (h : RegStore.wf s.regs = true) : RegStore.wf (s.setFlag f b).regs = true := setFld_wf s f _ h

theorem flag_setFld_other (s : State) {f g : Fld} (v : Nat) (hw : RegStore.wf s.regs = true) (hf : f.lo + f.width ≤ 32)
    (hg : g.addr ≠ f.addr ∨ g.lo + g.width ≤ f.lo ∨ f.lo + f.width ≤ g.lo) : (s.setFld f v).flag g = s.flag g :=
  congrArg (· == 1) (fld_setFld_other s f g v hw hf hg)

theorem flag_setFlag_other (s : State) {f g : Fld} (b : Bool) (hw : RegStore.wf s.regs = true) (hf : f.lo + f.width ≤ 32)
    (hg : g.addr ≠ f.addr ∨ g.lo + g.width ≤ f.lo ∨ f.lo + f.width ≤ g.lo) : (s.setFlag f b).flag g = s.flag g :=
  flag_setFld_other s (b2n b) hw hf hg

/-- A counter counts up to its highest value (R574). -/
theorem fld_count_same (s : State) {f : Fld} (n : Nat) (hw : RegStore.wf s.regs = true) (hf : f.lo + f.width ≤ 32) :
    (s.count f n).fld f = min (s.fld f + n) (2 ^ f.width - 1) := by
  have hpos : 0 < 2 ^ f.width := by positivity
  rw [State.count, fld_setFld_same s f _ hw hf, satU, Nat.mod_eq_of_lt (by omega)]

end Sys2Proof.Machine
end

section
/-! SUPPORT. Stream units (R50): what a sample and a write of CLK_STRM[n]_CFG do. -/

namespace Sys2Proof.Machine

/-! ### Events that a unit outside the boundary raises -/

/-- An event from outside the replay boundary is written to MRAM, in REPLAY too (R514). -/
theorem logEvent_outside {s : State} {code src : Nat} (d0 d1 : Nat) (h : insideBoundary code src = false) :
    logEvent s code src d0 d1 = logLive s code src d0 d1 := by
  simp [logEvent, h]

/-- The registers of the stream units lie below the windows of the event log and the recorder. -/
theorem strm_lt {n : Nat} (hn : n < 24) : Ra.CLK_STRM_CFG n < 0x40060000 ∧ Ra.CLK_STRM_STAT n < 0x40060000 := by
  constructor
  · show 0x40010100 + 0x8 * n < _
    omega
  · show 0x40010104 + 0x8 * n < _
    omega

section
variable {s : State} {n : Nat}

/-! ### SLIPPED (R50) -/

theorem setSlipped_same {b : Bool} (h : s.flag (Fd.CLK_STRM_STAT_SLIPPED n) = b) : setSlipped s n b = s := if_pos h

theorem setSlipped_change {b : Bool} (h : s.flag (Fd.CLK_STRM_STAT_SLIPPED n) ≠ b) :
    setSlipped s n b = logLive (s.setFlag (Fd.CLK_STRM_STAT_SLIPPED n) b) Ev.streamSlip Src.unit n (b2n b) :=
  (if_neg h).trans (logEvent_outside n (b2n b) (by decide))

theorem setSlipped_flag (hw : RegStore.wf s.regs = true) (hn : n < 24) (b : Bool) :
    (setSlipped s n b).flag (Fd.CLK_STRM_STAT_SLIPPED n) = b := by
  by_cases h : s.flag (Fd.CLK_STRM_STAT_SLIPPED n) = b
  · rw [setSlipped_same h, h]
  · rw [setSlipped_change h]
    exact (congrArg (· == 1) ((logLive_logged _ _ _ _ _).fld_eq (.inl (strm_lt hn).2))).trans
      (flag_setFlag_same s b hw ⟨by simp [Fd.CLK_STRM_STAT_SLIPPED], rfl⟩)

theorem setSlipped_dev (hw : RegStore.wf s.regs = true) (hn : n < 24) (b : Bool) :
    (setSlipped s n b).fld (Fd.CLK_STRM_STAT_DEV n) = s.fld (Fd.CLK_STRM_STAT_DEV n) := by
  by_cases h : s.flag (Fd.CLK_STRM_STAT_SLIPPED n) = b
  · rw [setSlipped_same h]
  · rw [setSlipped_change h]
    exact ((logLive_logged _ _ _ _ _).fld_eq (.inl (strm_lt hn).2)).trans
      (fld_setFld_other s (Fd.CLK_STRM_STAT_SLIPPED n) (Fd.CLK_STRM_STAT_DEV n) _ hw (by simp [Fd.CLK_STRM_STAT_SLIPPED])
        (.inr (.inl (by simp [Fd.CLK_STRM_STAT_SLIPPED, Fd.CLK_STRM_STAT_DEV]))))

theorem setSlipped_onlyParts (s : State) (n : Nat) (b : Bool) : OnlyParts logParts s (setSlipped s n b) := by
  have h : OnlyParts logParts s s := .refl _ s
  by_cases hb : s.flag (Fd.CLK_STRM_STAT_SLIPPED n) = b
  · rw [setSlipped_same hb]; exact h
  · rw [setSlipped_change hb]; exact h.setFlag.logLive

/-! ### Samples (R50) -/

theorem streamSample_disabled {arr sens : Nat} (h : s.flag (Fd.CLK_STRM_CFG_EN n) = false) : streamSample s n arr sens = s := by
  simp [streamSample, h]

/-- The anchor after one sample more of the first eight: the smallest difference so far. -/
def strmMin (x : Strm) (d : Int) : Int := if x.cnt = 0 then d else min x.minD d

/-- One sample more of the first eight. -/
def strmAnchor (s : State) (n : Nat) (x : Strm) (d : Int) : State :=
  s.setClk { s.clk with strm := smPut {} s.clk.strm n { cnt := x.cnt + 1, minD := strmMin x d, a := strmMin x d, okRun := 0 } }

/-- The eighth sample anchors the stream. -/
theorem streamSample_anchoring {arr sens : Nat} (h : s.flag (Fd.CLK_STRM_CFG_EN n) = true) (hx : (smGet {} s.clk.strm n).cnt < 8) :
    let u := strmAnchor s n (smGet {} s.clk.strm n) ((arr : Int) - sens)
    streamSample s n arr sens = if (smGet {} s.clk.strm n).cnt = 7 then u.setFlag (Fd.CLK_STRM_STAT_ANCHORED n) true else u := by
  simp only [streamSample, h, if_true, if_pos hx]
  rfl

theorem streamSample_anchored {arr sens : Nat} (h : s.flag (Fd.CLK_STRM_CFG_EN n) = true) (hx : 8 ≤ (smGet {} s.clk.strm n).cnt) :
    streamSample s n arr sens = slipCheck s n ((arr : Int) - sens - (smGet {} s.clk.strm n).a) := by
  simp only [streamSample, h, if_true, if_neg (Nat.not_lt.mpr hx)]

/-- A deviation of more than a period: DEV shows it, the run of near samples ends, and SLIPPED is set. -/
theorem slipCheck_far {d : Int} (hp : s.fld (Fd.CLK_STRM_CFG_PERIOD n) ≠ 0)
    (hd : ((s.fld (Fd.CLK_STRM_CFG_PERIOD n) * 10000 : Nat) : Int) < (d.natAbs : Int)) :
    ∃ x, slipCheck s n d = setSlipped ((s.setFld (Fd.CLK_STRM_STAT_DEV n) (devField d)).setClk x) n true := by
  have hp' : ¬ ((s.fld (Fd.CLK_STRM_CFG_PERIOD n) * 10000 : Nat) : Int) = 0 := by omega
  simp only [slipCheck, if_neg hp', if_pos hd]
  exact ⟨_, rfl⟩

theorem slipCheck_slips {d : Int} (hw : RegStore.wf s.regs = true) (hn : n < 24) (hp : s.fld (Fd.CLK_STRM_CFG_PERIOD n) ≠ 0)
    (hd : ((s.fld (Fd.CLK_STRM_CFG_PERIOD n) * 10000 : Nat) : Int) < (d.natAbs : Int)) :
    (slipCheck s n d).flag (Fd.CLK_STRM_STAT_SLIPPED n) = true ∧
    (slipCheck s n d).fld (Fd.CLK_STRM_STAT_DEV n) = devField d % 2 ^ (Fd.CLK_STRM_STAT_DEV n).width ∧ OnlyParts timeParts s (slipCheck s n d) := by
  obtain ⟨x, hslip⟩ := slipCheck_far hp hd
  have hset : RegStore.wf ((s.setFld (Fd.CLK_STRM_STAT_DEV n) (devField d)).setClk x).regs = true := setFld_wf s _ _ hw
  have hdev := fld_setFld_same s (Fd.CLK_STRM_STAT_DEV n) (devField d) hw (by simp [Fd.CLK_STRM_STAT_DEV])
  have hparts : OnlyParts timeParts s ((s.setFld (Fd.CLK_STRM_STAT_DEV n) (devField d)).setClk x) := (OnlyParts.refl _ s).setFld.setClk
  rw [hslip]
  exact ⟨setSlipped_flag hset hn true, (setSlipped_dev hset hn true).trans hdev, hparts.trans ((setSlipped_onlyParts _ n true).mono (by simp))⟩

/-! ### A write of CLK_STRM[n]_CFG (R50) -/

/-- The written configuration stands, and REANCHOR reads 0. -/
def strmCfgSet (s : State) (n : Nat) (v : Word) : State := (plainWrite s (Ra.CLK_STRM_CFG n) v).setFld (Fd.CLK_STRM_CFG_REANCHOR n) 0

theorem strmCfgWrite_eq (s : State) (n : Nat) (v : Word) : strmCfgWrite s n v =
    if (bit v.toNat 31 && !s.flag (Fd.CLK_STRM_CFG_EN n)) || bit v.toNat 30 then reanchor (strmCfgSet s n v) n else strmCfgSet s n v := rfl

theorem strmCfgSet_onlyRegs (s : State) (n : Nat) (v : Word) : OnlyRegs [Ra.CLK_STRM_CFG n] s (strmCfgSet s n v) :=
  (plainWrite_onlyRegs s _ v).setFld (by simp [Fd.CLK_STRM_CFG_REANCHOR])

theorem strmCfgSet_onlyParts (s : State) (n : Nat) (v : Word) : OnlyParts [.regs] s (strmCfgSet s n v) := (plainWrite_onlyParts s _ v).setFld

/-- EN and PERIOD are read and written (R4). -/
theorem regRow_strmCfg : ∀ n < 24, ∃ r, regRow (Ra.CLK_STRM_CFG n) = some r ∧ r.w1c = 0 ∧ r.rw = 0x8000FFFF := by decide +kernel

theorem strmCfg_ne_errInfo (n : Nat) : Ra.CLK_STRM_CFG n ≠ Ra.SYS_FAB_ERR_INFO := fun e => by
  have h : 0x40010100 + 0x8 * n = 0x40000104 := e
  omega

/-- The configuration of a stream unit is written as its row says. -/
theorem plainWrite_strmCfg {v : Word} {r : RegRow} (hr : regRow (Ra.CLK_STRM_CFG n) = some r) : plainWrite s (Ra.CLK_STRM_CFG n) v =
    s.setReg (Ra.CLK_STRM_CFG n) (maskedWrite r (rwlOpen s (Ra.CLK_STRM_CFG n)) (s.reg (Ra.CLK_STRM_CFG n)) v) :=
  plainWrite_of_row hr (strmCfg_ne_errInfo n)

theorem strmCfgSet_wf (v : Word) (hw : RegStore.wf s.regs = true) (hn : n < 24) : RegStore.wf (strmCfgSet s n v).regs = true := by
  obtain ⟨r, hr, -⟩ := regRow_strmCfg n hn
  rw [strmCfgSet, plainWrite_strmCfg hr]
  exact setFld_wf _ _ _ (setReg_wf s _ _ hw)

/-- A bit of EN or PERIOD takes the value written. -/
theorem strmCfgSet_bit (v : Word) (hw : RegStore.wf s.regs = true) (hn : n < 24) {i : Nat} (hi : i < 16 ∨ i = 31) :
    bit ((strmCfgSet s n v).reg (Ra.CLK_STRM_CFG n)).toNat i = bit v.toNat i := by
  obtain ⟨r, hr, hw1c, hrw⟩ := regRow_strmCfg n hn
  have hacc : bit r.w1c i = false ∧ bit r.rw i = true := by
    rw [hw1c, hrw]
    exact (show ∀ i < 32, i < 16 ∨ i = 31 → bit 0 i = false ∧ bit 0x8000FFFF i = true by decide) i (by omega) hi
  have hplain : RegStore.wf (plainWrite s (Ra.CLK_STRM_CFG n) v).regs = true := by
    rw [plainWrite_strmCfg hr]
    exact setReg_wf s _ _ hw
  have hset : ((strmCfgSet s n v).reg (Ra.CLK_STRM_CFG n)).toNat = setBits ((plainWrite s (Ra.CLK_STRM_CFG n) v).reg (Ra.CLK_STRM_CFG n)).toNat 30 1 0 :=
    toNat_reg_setFld_same _ (Fd.CLK_STRM_CFG_REANCHOR n) 0 hplain (by simp [Fd.CLK_STRM_CFG_REANCHOR])
  rw [hset, bit_eq_testBit, testBit_setBits, if_neg (by omega), ← bit_eq_testBit,
    bit_plainWrite hr hw (by omega) (fun h => strmCfg_ne_errInfo n h.1)]
  simp [hacc]

theorem strmCfgSet_en (v : Word) (hw : RegStore.wf s.regs = true) (hn : n < 24) :
    (strmCfgSet s n v).flag (Fd.CLK_STRM_CFG_EN n) = bit v.toNat 31 := strmCfgSet_bit v hw hn (.inr rfl)

theorem strmCfgSet_period (v : Word) (hw : RegStore.wf s.regs = true) (hn : n < 24) :
    (strmCfgSet s n v).fld (Fd.CLK_STRM_CFG_PERIOD n) = bits v.toNat 0 16 := by
  refine Nat.eq_of_testBit_eq fun i => ?_
  simp only [State.fld, Fd.CLK_STRM_CFG_PERIOD, testBit_bits, Nat.zero_add]
  by_cases hi : i < 16
  · simpa only [bit_eq_testBit, hi, decide_true, Bool.true_and] using strmCfgSet_bit v hw hn (.inl hi)
  · simp [hi]

/-! ### Anchoring starts anew -/

/-- The samples of a stream go. -/
def strmDropped (s : State) (n : Nat) : State := s.setClk { s.clk with strm := smPut {} s.clk.strm n {} }

/-- Anchoring starts anew before its event: the stream's samples go, SLIPPED and ANCHORED clear. -/
def reanchored (s : State) (n : Nat) : State :=
  ((strmDropped s n).setFlag (Fd.CLK_STRM_STAT_SLIPPED n) false).setFlag (Fd.CLK_STRM_STAT_ANCHORED n) false

/-- The change of SLIPPED is recorded. -/
theorem reanchor_eq (s : State) (n : Nat) : reanchor s n =
    if s.flag (Fd.CLK_STRM_STAT_SLIPPED n) then logLive (reanchored s n) Ev.streamSlip Src.unit n 0 else reanchored s n := by
  rw [← logEvent_outside n 0 (show insideBoundary Ev.streamSlip Src.unit = false by decide)]
  rfl

/-- What starting anew leaves, below the windows of the log, is what `reanchored` says. -/
theorem reanchor_logged (s : State) (n : Nat) : Logged (reanchored s n) (reanchor s n) := by
  rw [reanchor_eq]
  exact .ite (Logged.refl _).logLive (.refl _)

theorem reanchor_logParts (s : State) (n : Nat) : OnlyParts logParts (reanchored s n) (reanchor s n) := by
  rw [reanchor_eq]
  exact .ite (OnlyParts.refl _ _).logLive (.refl _ _)

theorem reanchored_onlyRegs (s : State) (n : Nat) : OnlyRegs [Ra.CLK_STRM_STAT n] s (reanchored s n) :=
  ((OnlyRegs.refl _ s).setClk.setFlag (by simp [Fd.CLK_STRM_STAT_SLIPPED])).setFlag (by simp [Fd.CLK_STRM_STAT_ANCHORED])

theorem reanchor_onlyParts (s : State) (n : Nat) : OnlyParts timeParts s (reanchor s n) :=
  (OnlyParts.refl timeParts s).setClk.setFlag.setFlag.trans ((reanchor_logParts s n).mono (by simp))

theorem reanchor_strm (s : State) (n : Nat) : (reanchor s n).clk.strm = smPut {} s.clk.strm n {} :=
  congrArg ClkState.strm (reanchor_logParts s n .clk (by simp))

/-- The configuration stays. -/
theorem reanchor_cfg (s : State) (hn : n < 24) : (reanchor s n).reg (Ra.CLK_STRM_CFG n) = s.reg (Ra.CLK_STRM_CFG n) :=
  (reanchor_logged s n _ (.inl (strm_lt hn).1)).trans (reanchored_onlyRegs s n _ (by simp))

theorem reanchor_flags (hw : RegStore.wf s.regs = true) (hn : n < 24) :
    (reanchor s n).flag (Fd.CLK_STRM_STAT_SLIPPED n) = false ∧ (reanchor s n).flag (Fd.CLK_STRM_STAT_ANCHORED n) = false := by
  have hlog : ∀ {f : Fld}, f.addr = Ra.CLK_STRM_STAT n → (reanchor s n).flag f = (reanchored s n).flag f := fun hf =>
    congrArg (· == 1) ((reanchor_logged s n).fld_eq (.inl (hf ▸ (strm_lt hn).2)))
  have hdrop : RegStore.wf (strmDropped s n).regs = true := hw
  have hslip := setFlag_wf (strmDropped s n) (Fd.CLK_STRM_STAT_SLIPPED n) false hdrop
  rw [hlog rfl, hlog rfl]
  refine ⟨?_, flag_setFlag_same _ false hslip (by simp [Fd.CLK_STRM_STAT_ANCHORED])⟩
  rw [reanchored, flag_setFlag_other _ false hslip (by simp [Fd.CLK_STRM_STAT_ANCHORED])
    (.inr (.inr (by simp [Fd.CLK_STRM_STAT_SLIPPED, Fd.CLK_STRM_STAT_ANCHORED])))]
  exact flag_setFlag_same _ false hdrop (by simp [Fd.CLK_STRM_STAT_SLIPPED])

/-! ### What a write of CLK_STRM[n]_CFG leaves -/

/-- EN as it was or cleared, without REANCHOR: only the configuration changes. -/
theorem strmCfgWrite_stands {v : Word} (h31 : s.flag (Fd.CLK_STRM_CFG_EN n) = true ∨ bit v.toNat 31 = false) (h30 : bit v.toNat 30 = false) :
    strmCfgWrite s n v = strmCfgSet s n v := by
  have hno : ¬ ((bit v.toNat 31 && !s.flag (Fd.CLK_STRM_CFG_EN n)) || bit v.toNat 30) = true := by
    obtain h | h := h31
    · simp only [h, h30, Bool.not_true, Bool.and_false, Bool.or_false, Bool.false_eq_true, not_false_eq_true]
    · simp only [h, h30, Bool.false_and, Bool.or_false, Bool.false_eq_true, not_false_eq_true]
  rw [strmCfgWrite_eq, if_neg hno]

/-- REANCHOR, or EN that becomes set: the configuration is written and anchoring starts anew. -/
theorem strmCfgWrite_anew {v : Word} (hw : RegStore.wf s.regs = true) (hn : n < 24)
    (h : bit v.toNat 30 = true ∨ (bit v.toNat 31 = true ∧ s.flag (Fd.CLK_STRM_CFG_EN n) = false)) :
    let t := strmCfgWrite s n v
    t.flag (Fd.CLK_STRM_CFG_EN n) = bit v.toNat 31 ∧ t.fld (Fd.CLK_STRM_CFG_PERIOD n) = bits v.toNat 0 16 ∧
      t.clk.strm = smPut {} s.clk.strm n {} ∧ t.flag (Fd.CLK_STRM_STAT_ANCHORED n) = false ∧ t.flag (Fd.CLK_STRM_STAT_SLIPPED n) = false ∧
      OnlyParts timeParts s t := by
  have hyes : ((bit v.toNat 31 && !s.flag (Fd.CLK_STRM_CFG_EN n)) || bit v.toNat 30) = true := by
    obtain h | ⟨h, h'⟩ := h
    · rw [h, Bool.or_true]
    · rw [h, h', Bool.not_false, Bool.and_self, Bool.true_or]
  have hset : RegStore.wf (strmCfgSet s n v).regs = true := strmCfgSet_wf v hw hn
  have hcfg : ∀ {f : Fld}, f.addr = Ra.CLK_STRM_CFG n → (reanchor (strmCfgSet s n v) n).fld f = (strmCfgSet s n v).fld f := fun hf => by
    rw [State.fld, State.fld, hf, reanchor_cfg _ hn]
  obtain ⟨hslip, hanch⟩ := reanchor_flags hset hn
  rw [strmCfgWrite_eq, if_pos hyes]
  refine ⟨?_, (hcfg rfl).trans (strmCfgSet_period v hw hn), ?_, hanch, hslip, ?_⟩
  · exact (congrArg (· == 1) (hcfg rfl)).trans (strmCfgSet_en v hw hn)
  · rw [reanchor_strm, strmCfgSet_onlyParts s n v .clk (by simp)]
  · exact ((strmCfgSet_onlyParts s n v).mono (by simp)).trans (reanchor_onlyParts _ n)

end

/-! ### The words of STREAM_ENABLE and STREAM_REANCHOR -/

/-- EN set, REANCHOR clear, and the period. -/
theorem enableWord_bits (period : Half) : bit (BitVec.ofNat 32 (2 ^ 31 + period.toNat)).toNat 31 = true ∧
    bit (BitVec.ofNat 32 (2 ^ 31 + period.toNat)).toNat 30 = false ∧ bits (BitVec.ofNat 32 (2 ^ 31 + period.toNat)).toNat 0 16 = period.toNat % 2 ^ 16 := by
  have h := period.isLt
  rw [BitVec.toNat_ofNat, Nat.mod_eq_of_lt (by omega)]
  simp only [bit, bits, beq_iff_eq, beq_eq_false_iff_ne]
  omega

/-- REANCHOR set, and the rest as it stands. -/
theorem reanchorWord_bits (w : Word) : bit (w ||| 0x40000000#32).toNat 30 = true ∧ bit (w ||| 0x40000000#32).toNat 31 = bit w.toNat 31 ∧
    bits (w ||| 0x40000000#32).toNat 0 16 = bits w.toNat 0 16 := by
  have hor : (w ||| 0x40000000#32).toNat = w.toNat ||| 2 ^ 30 := BitVec.toNat_or ..
  have hbit : ∀ i, (w.toNat ||| 2 ^ 30).testBit i = (w.toNat.testBit i || decide (30 = i)) := fun i => by
    rw [Nat.testBit_or, Nat.testBit_two_pow]
  rw [hor]
  refine ⟨by rw [bit_eq_testBit, hbit]; simp, by rw [bit_eq_testBit, hbit]; simp [bit_eq_testBit], Nat.eq_of_testBit_eq fun i => ?_⟩
  simp only [testBit_bits, hbit, Nat.zero_add]
  by_cases hi : i < 16
  · simp [show 30 ≠ i by omega]
  · simp [hi]

theorem exec_streamSample (n : Fin 24) (arr sens : Long) (s : State) :
    exec (.streamSample n arr sens) s = .next (streamSample s n arr.toNat sens.toNat) := rfl

theorem exec_streamEnable (n : Fin 24) (period : Half) (s : State) :
    exec (.streamEnable n period) s = .next (strmCfgWrite s n (BitVec.ofNat 32 (2 ^ 31 + period.toNat))) := rfl

theorem exec_streamReanchor (n : Fin 24) (s : State) :
    exec (.streamReanchor n) s = .next (strmCfgWrite s n (s.reg (Ra.CLK_STRM_CFG n) ||| 0x40000000#32)) := rfl

/-- Settles O43, by the branches of a sample and of a write of CLK_STRM[n]_CFG. -/
theorem streams : Obligations.Streams := by
  unfold Obligations.Streams
  refine ⟨fun n arr sens s => ⟨fun hen => ?_, fun hen => ⟨fun hx => ?_, fun hx => ?_, fun hx hc hp hd => ?_⟩⟩, fun n period s hc hen => ?_,
    fun n period s hc hen => ?_, fun n s hc => ?_⟩
  · rw [Idle, exec_streamSample, streamSample_disabled hen]
  · rw [exec_streamSample, streamSample_anchoring hen (by omega), if_neg (by omega)]
    rfl
  · rw [exec_streamSample, streamSample_anchoring hen (by omega), if_pos hx]
    rfl
  · refine ⟨_, exec_streamSample n arr sens s, ?_⟩
    rw [streamSample_anchored hen hx]
    exact slipCheck_slips hc.regs_wf n.isLt hp hd
  · obtain ⟨h31, h30, hper⟩ := enableWord_bits period
    refine ⟨_, exec_streamEnable n period s, ?_⟩
    rw [strmCfgWrite_stands (.inl hen) h30]
    exact ⟨(strmCfgSet_en _ hc.regs_wf n.isLt).trans h31, (strmCfgSet_period _ hc.regs_wf n.isLt).trans hper, strmCfgSet_onlyRegs s n _,
      strmCfgSet_onlyParts s n _⟩
  · obtain ⟨h31, -, hper⟩ := enableWord_bits period
    obtain ⟨hen', hper', hstrm, hanch, hslip, hparts⟩ := strmCfgWrite_anew hc.regs_wf n.isLt (.inr ⟨h31, hen⟩)
    exact ⟨_, exec_streamEnable n period s, hen'.trans h31, hper'.trans hper, hstrm, hanch, hslip, hparts⟩
  · obtain ⟨h30, h31, hper⟩ := reanchorWord_bits (s.reg (Ra.CLK_STRM_CFG n))
    obtain ⟨hen', hper', hstrm, hanch, -, hparts⟩ := strmCfgWrite_anew hc.regs_wf n.isLt (.inl h30)
    exact ⟨_, exec_streamReanchor n s, hen'.trans h31, hper'.trans hper, hstrm, hanch, hparts⟩

end Sys2Proof.Machine
end

section
/-! SUPPORT. Time solutions (R38–R42, R575): what the correction does in each of its cases, and what a solution leaves beside it. -/

namespace Sys2Proof.Machine

/-! ### The time state and its MARK (R39, R504) -/

/-- The MARK of a change of the time state. -/
def timeMark (s : State) (st : Nat) : State := if s.timeState = st then s else tabRec s TabT.mark TabM.timeState [st]

/-- The registers in which a correction shows. -/
abbrev timeRegs : List Nat := Ra.CLK_TIME_STAT :: captureRegs

section
variable {s : State}

@[simp] theorem timeMark_clk (s : State) (st : Nat) : (timeMark s st).clk = s.clk := by
  unfold timeMark
  split
  · rfl
  · exact tabMark_clk s _ _

theorem timeMark_wf (st : Nat) (hw : RegStore.wf s.regs = true) : RegStore.wf (timeMark s st).regs = true := by
  unfold timeMark
  split
  · exact hw
  · exact tabMark_wf s _ _ hw

theorem setTimeState_eq (s : State) (st : Nat) (dir : Int) : setTimeState s st dir =
    (((timeMark s st).setClk { (timeMark s st).clk with slewDir := dir }).setFld Fd.CLK_TIME_STAT_STATE st).setFlag Fd.CLK_TIME_STAT_SLEWING (dir != 0) := rfl

@[simp] theorem setTimeState_clk (s : State) (st : Nat) (dir : Int) : (setTimeState s st dir).clk = { s.clk with slewDir := dir } := by
  simp [setTimeState_eq]

theorem setTimeState_wf (st : Nat) (dir : Int) (hw : RegStore.wf s.regs = true) : RegStore.wf (setTimeState s st dir).regs = true :=
  setFlag_wf _ _ _ (setFld_wf _ _ _ (timeMark_wf st hw))

theorem setTimeState_frame (s : State) (st : Nat) (dir : Int) :
    OnlyRegs timeRegs s (setTimeState s st dir) ∧ OnlyParts [.regs, .clk, .tab] s (setTimeState s st dir) := by
  have hregs : OnlyRegs timeRegs s s := .refl _ s
  have hparts : OnlyParts [.regs, .clk, .tab] s s := .refl _ s
  exact ⟨(OnlyRegs.ite hregs hregs.tabMark).setClk.setFld.setFlag, (OnlyParts.ite hparts hparts.tabMarkOf).setClk.setFld.setFlag⟩

/-- The state shows, and SLEWING while a slew runs. -/
theorem setTimeState_shows {st : Nat} (dir : Int) (hw : RegStore.wf s.regs = true) (hst : st < 8) :
    (setTimeState s st dir).timeState = st ∧ (setTimeState s st dir).flag Fd.CLK_TIME_STAT_SLEWING = (dir != 0) := by
  have hmark : RegStore.wf ((timeMark s st).setClk { (timeMark s st).clk with slewDir := dir }).regs = true := timeMark_wf st hw
  have hfld := setFld_wf _ Fd.CLK_TIME_STAT_STATE st hmark
  refine ⟨?_, flag_setFlag_same _ _ hfld (by decide)⟩
  calc (setTimeState s st dir).timeState
      = (((timeMark s st).setClk { (timeMark s st).clk with slewDir := dir }).setFld Fd.CLK_TIME_STAT_STATE st).timeState :=
        fld_setFld_other _ Fd.CLK_TIME_STAT_SLEWING Fd.CLK_TIME_STAT_STATE _ hfld (by decide) (by decide)
    _ = st % 2 ^ 3 := fld_setFld_same _ Fd.CLK_TIME_STAT_STATE st hmark (by decide)
    _ = st := Nat.mod_eq_of_lt hst

/-! ### The correction, case by case (R40, R41, R575) -/

/-- 1 µs is positive and less than 1 ms. -/
theorem fpUs_lt : 0 < fpUs ∧ fpUs < fpMs := by decide

theorem correct_waits {e : Int} (h : s.clk.stepPend.isSome = true) : correct s e = setTimeState s tConverging 0 := if_pos h

theorem correct_locks {e : Int} (h : s.clk.stepPend = none) (he : -fpUs ≤ e ∧ e ≤ fpUs) : correct s e = steerLoop (timeLocked s) e := by
  rw [correct, if_neg (by simp [h]), if_pos he]

theorem correct_slews_back {e : Int} (h : s.clk.stepPend = none) (he : e < -fpUs) : correct s e = slewTerm (setTimeState s tConverging (-1)) (-1) := by
  rw [correct, if_neg (by simp [h]), if_neg (by omega), if_pos he]

theorem correct_slews_on {e : Int} (h : s.clk.stepPend = none) (he : fpUs < e) (hx : e < fpMs ∨ s.clk.stepUsed = true) :
    correct s e = slewTerm (setTimeState s tConverging 1) 1 := by
  have hus := fpUs_lt
  rw [correct, if_neg (by simp [h]), if_neg (by omega), if_neg (by omega), if_pos hx]

/-- A step is prepared for the next second. -/
def stepPrepared (s : State) (e : Int) : State :=
  (setTimeState s tConverging 0).setClk { (setTimeState s tConverging 0).clk with
    stepPend := some e, stepAt := nextSecond s, k := (setTimeState s tConverging 0).clk.f }

theorem correct_steps {e : Int} (h : s.clk.stepPend = none) (he : fpMs ≤ e) (hused : s.clk.stepUsed = false) : correct s e = stepPrepared s e := by
  have hnext : nextSecond (setTimeState s tConverging 0) = nextSecond s := by simp [nextSecond, State.dtNs]
  have hus := fpUs_lt
  rw [correct, if_neg (by simp [h]), if_neg (by omega), if_neg (by omega), if_neg (by simp only [hused, Bool.false_eq_true, or_false]; omega),
    stepPrepared, ← hnext]

/-! ### What each case leaves -/

@[simp] theorem slewTerm_setTimeState_clk (st : Nat) (dir : Int) : (slewTerm (setTimeState s st dir) dir).clk =
    { s.clk with slewDir := dir, k := clampK (s.clk.f + dir * slewRate s) } := by
  simp [slewTerm, slewRate, steerCfg]

theorem stepPrepared_clk (e : Int) : (stepPrepared s e).clk =
    { s.clk with slewDir := 0, stepPend := some e, stepAt := nextSecond s, k := s.clk.f } := by
  simp [stepPrepared]

/-- The integral term of the steering loop (R575). -/
def loopF (s : State) (e : Int) : Int := clampK (s.clk.f + e * 256 / 10 ^ 14)

theorem steerLoop_timeLocked_clk (e : Int) : (steerLoop (timeLocked s) e).clk =
    { s.clk with
      stepUsed := false, seek := false, slewDir := 0, f := loopF s e, k := clampK (loopF s e + e * 256 / (20 * 10 ^ 9)) } := by
  simp [steerLoop, timeLocked, setFreq, loopF]

/-- LOCKED shows, without SLEWING and HOLD_LIM, and the estimate in CLK_FREQ_EST. -/
theorem steerLoop_timeLocked_shows (e : Int) (hw : RegStore.wf s.regs = true) :
    let t := steerLoop (timeLocked s) e
    t.timeState = tLocked ∧ t.flag Fd.CLK_TIME_STAT_SLEWING = false ∧ t.flag Fd.CLK_TIME_STAT_HOLD_LIM = false ∧
      t.reg Ra.CLK_FREQ_EST = wordOfInt (loopF s e) := by
  have hset : RegStore.wf (setTimeState (s.setClk { s.clk with stepUsed := false, seek := false }) tLocked 0).regs = true := setTimeState_wf tLocked 0 hw
  have hlock : RegStore.wf (timeLocked s).regs = true := setFlag_wf _ _ _ hset
  have hest : ((timeLocked s).setClk { (timeLocked s).clk with f := clampK ((timeLocked s).clk.f + e * 256 / 10 ^ 14) }).reg = (timeLocked s).reg := rfl
  have hkept : ∀ {f : Fld}, f.addr = Ra.CLK_TIME_STAT → (steerLoop (timeLocked s) e).fld f = (timeLocked s).fld f := fun hf =>
    ((OnlyRegs.refl [Ra.CLK_FREQ_EST] (timeLocked s)).setClk.setReg.setClk : OnlyRegs [Ra.CLK_FREQ_EST] _ (steerLoop (timeLocked s) e)).fld_eq
      (by rw [hf]; decide)
  obtain ⟨hstate, hslew⟩ := setTimeState_shows 0 (s := s.setClk { s.clk with stepUsed := false, seek := false }) hw (show tLocked < 8 by decide)
  have hf : clampK ((timeLocked s).clk.f + e * 256 / 10 ^ 14) = loopF s e := by simp [timeLocked, loopF]
  refine ⟨(hkept rfl).trans ?_, (congrArg (· == 1) (hkept rfl)).trans ?_, (congrArg (· == 1) (hkept rfl)).trans ?_, ?_⟩
  · exact (fld_setFld_other _ Fd.CLK_TIME_STAT_HOLD_LIM Fd.CLK_TIME_STAT_STATE _ hset (by decide) (by decide)).trans hstate
  · exact (flag_setFlag_other _ false hset (by decide) (by decide)).trans hslew
  · exact flag_setFlag_same _ false hset (by decide)
  · rw [← hf]
    exact reg_setReg_same _ _ _ hlock

/-! ### What every case keeps -/

theorem stepPrepared_eq (s : State) (e : Int) : stepPrepared s e = (setTimeState s tConverging 0).setClk
    { (setTimeState s tConverging 0).clk with
      stepPend := some e, stepAt := nextSecond (setTimeState s tConverging 0), k := (setTimeState s tConverging 0).clk.f } := by
  simp [stepPrepared, nextSecond, State.dtNs]

/-- The correction waits, locks, slews or prepares a step. -/
theorem correct_cases (s : State) (e : Int) : correct s e = setTimeState s tConverging 0 ∨ correct s e = steerLoop (timeLocked s) e ∨
    (∃ dir, correct s e = slewTerm (setTimeState s tConverging dir) dir) ∨ correct s e = stepPrepared s e := by
  rw [stepPrepared_eq]
  unfold correct
  split_ifs
  · exact .inl rfl
  · exact .inr (.inl rfl)
  · exact .inr (.inr (.inl ⟨-1, rfl⟩))
  · exact .inr (.inr (.inl ⟨1, rfl⟩))
  · exact .inr (.inr (.inr rfl))

/-- The time of the last solution, the cycles and DT stay. -/
theorem correct_keeps (s : State) (e : Int) : (correct s e).clk.dtFp = s.clk.dtFp ∧ (correct s e).clk.cyc = s.clk.cyc ∧
    (correct s e).clk.solCyc = s.clk.solCyc ∧ (correct s e).clk.fHist = s.clk.fHist := by
  obtain h | h | ⟨dir, h⟩ | h := correct_cases s e <;> rw [h]
  · simp
  · simp [steerLoop_timeLocked_clk]
  · simp
  · simp [stepPrepared_clk]

/-- The registers in which a solution shows. -/
abbrev solRegs : List Nat := [Ra.CLK_TIME_STAT, Ra.CLK_TIME_UNC, Ra.CLK_FREQ_EST] ++ captureRegs

theorem correct_frame (s : State) (e : Int) : OnlyRegs solRegs s (correct s e) ∧ OnlyParts [.regs, .clk, .tab] s (correct s e) := by
  have hset : ∀ (u : State) st dir, OnlyRegs solRegs u (setTimeState u st dir) ∧ OnlyParts [.regs, .clk, .tab] u (setTimeState u st dir) :=
    fun u st dir => ⟨(setTimeState_frame u st dir).1.mono (by decide), (setTimeState_frame u st dir).2⟩
  obtain h | h | ⟨dir, h⟩ | h := correct_cases s e <;> rw [h]
  · exact hset s tConverging 0
  · obtain ⟨hregs, hparts⟩ := hset (s.setClk { s.clk with stepUsed := false, seek := false }) tLocked 0
    exact ⟨((OnlyRegs.refl _ s).setClk.trans hregs).setFlag.setClk.setReg.setClk, ((OnlyParts.refl _ s).setClk.trans hparts).setFlag.setClk.setReg.setClk⟩
  · obtain ⟨hregs, hparts⟩ := hset s tConverging dir
    exact ⟨hregs.setClk, hparts.setClk⟩
  · obtain ⟨hregs, hparts⟩ := hset s tConverging 0
    exact ⟨hregs.setClk, hparts.setClk⟩

end

/-! ### A valid solution (R38–R42) -/

/-- The time state is FREE or HOLDOVER: a step may be made again. -/
abbrev solFresh (s : State) : Prop := s.timeState = tFree ∨ s.timeState = tHoldover

/-- The frequency estimate with which a solution begins: from FREE, the one saved (R575). -/
def solF (s : State) : Int := if s.timeState = tFree then s.clk.fSaved.getD 0 else s.clk.f

/-- A step has been used since the lock was lost. -/
def solUsed (s : State) : Bool := if solFresh s then false else s.clk.stepUsed

/-- What a solution sets before its correction. -/
def solBegun (s : State) (sigma : Nat) : State :=
  let u := s.setClk { s.clk with solCyc := s.clk.cyc, sigma := sigma }
  let v := if s.timeState = tFree then setFreq u (u.clk.fSaved.getD 0) else u
  if solFresh s then (v.setClk { v.clk with stepUsed := false, seek := true }).setFlag Fd.CLK_TIME_STAT_HOLD_LIM false else v

/-- What a solution sets after its correction: f joins the last 600 values, and U shows. -/
def solEnded (s : State) (e : Int) (sigma : Nat) : State :=
  setUnc (noteFreq s) (if s.timeState = tLocked then sigma + 10 else e.natAbs / 2 ^ 32 + sigma)

section
variable {s : State}

theorem solBegun_clk (s : State) (sigma : Nat) : (solBegun s sigma).clk =
    { s.clk with
      solCyc := s.clk.cyc, sigma := sigma, f := solF s, stepUsed := solUsed s, seek := if solFresh s then true else s.clk.seek } := by
  by_cases hfree : s.timeState = tFree
  · simp [solBegun, solF, solUsed, solFresh, hfree, setFreq]
  · by_cases hhold : s.timeState = tHoldover
    · simp [solBegun, solF, solUsed, solFresh, hhold]
    · simp [solBegun, solF, solUsed, solFresh, hfree, hhold]

theorem solBegun_frame (s : State) (sigma : Nat) : OnlyRegs solRegs s (solBegun s sigma) ∧ OnlyParts [.regs, .clk, .tab] s (solBegun s sigma) := by
  have hregs : OnlyRegs solRegs s (s.setClk { s.clk with solCyc := s.clk.cyc, sigma := sigma }) := (OnlyRegs.refl _ s).setClk
  have hparts : OnlyParts [.regs, .clk, .tab] s (s.setClk { s.clk with solCyc := s.clk.cyc, sigma := sigma }) := (OnlyParts.refl _ s).setClk
  have hregs' : ∀ {u}, OnlyRegs solRegs s u → OnlyRegs solRegs s (if s.timeState = tFree then setFreq u (u.clk.fSaved.getD 0) else u) :=
    fun h => .ite h.setClk.setReg h
  have hparts' : ∀ {u}, OnlyParts [.regs, .clk, .tab] s u →
      OnlyParts [.regs, .clk, .tab] s (if s.timeState = tFree then setFreq u (u.clk.fSaved.getD 0) else u) := fun h => .ite h.setClk.setReg h
  exact ⟨.ite (hregs' hregs).setClk.setFlag (hregs' hregs), .ite (hparts' hparts).setClk.setFlag (hparts' hparts)⟩

theorem solBegun_wf (sigma : Nat) (hw : RegStore.wf s.regs = true) : RegStore.wf (solBegun s sigma).regs = true := by
  have hfree : ∀ {u : State}, RegStore.wf u.regs = true →
      RegStore.wf (if s.timeState = tFree then setFreq u (u.clk.fSaved.getD 0) else u).regs = true := fun h => by
    split
    · exact setReg_wf _ _ _ h
    · exact h
  unfold solBegun
  dsimp only
  split
  · exact setFlag_wf _ _ _ (hfree hw)
  · exact hfree hw

@[simp] theorem solEnded_clk (s : State) (e : Int) (sigma : Nat) : (solEnded s e sigma).clk = { s.clk with fHist := (s.clk.f :: s.clk.fHist).take 600 } := rfl

theorem solEnded_onlyRegs (s : State) (e : Int) (sigma : Nat) : OnlyRegs [Ra.CLK_TIME_UNC] s (solEnded s e sigma) :=
  (OnlyRegs.refl _ s).setClk.setReg

theorem solEnded_onlyParts (s : State) (e : Int) (sigma : Nat) : OnlyParts [.regs, .clk, .tab] s (solEnded s e sigma) :=
  (OnlyParts.refl _ s).setClk.setReg

theorem solEnded_unc (e : Int) (sigma : Nat) (hw : RegStore.wf s.regs = true) : ((solEnded s e sigma).reg Ra.CLK_TIME_UNC).toNat =
    min (if s.timeState = tLocked then sigma + 10 else e.natAbs / 2 ^ 32 + sigma) (2 ^ 32 - 1) := by
  have hnote : RegStore.wf (noteFreq s).regs = true := hw
  rw [solEnded, setUnc, reg_setReg_same _ _ _ hnote, BitVec.toNat_ofNat, satU, Nat.mod_eq_of_lt (by omega)]

end

/-! ### The answer to a solution (R40, R41, R575) -/

/-- What every valid solution of error `e` leaves (O41). -/
def SolFrame (s : State) (e : Int) (t : State) : Prop :=
  t.clk.dtFp = s.clk.dtFp ∧ t.cyc = s.cyc ∧ t.clk.solCyc = s.cyc ∧ t.clk.fHist = (t.clk.f :: s.clk.fHist).take 600 ∧
    t.gns = { s.gns with timeE := e / 2 ^ 32 } ∧ OnlyRegs solRegs s t ∧ OnlyParts [.regs, .clk, .gns, .tab, .rpl] s t

/-- A valid solution begins: the error in ns shows to the pulse outputs. -/
def solStart (s : State) (e : Int) (sigma : Nat) : State := solBegun (s.setGns { s.gns with timeE := e / 2 ^ 32 }) sigma

/-- The state after a valid solution of error `e` and uncertainty `sigma`. -/
def solved (s : State) (e : Int) (sigma : Nat) : State := solEnded (correct (solStart s e sigma) e) e sigma

/-- A solution that leaves time CONVERGING (O41). -/
def SolMoving (s : State) (e : Int) (sigma : Nat) (t : State) : Prop :=
  t.timeState = tConverging ∧ (t.reg Ra.CLK_TIME_UNC).toNat = min (e.natAbs / 2 ^ 32 + sigma) (2 ^ 32 - 1) ∧ t.clk.f = solF s ∧
    t.clk.stepUsed = solUsed s ∧ SolFrame s e t

section
variable {s : State}

theorem solStart_clk (s : State) (e : Int) (sigma : Nat) : (solStart s e sigma).clk =
    { s.clk with
      solCyc := s.clk.cyc, sigma := sigma, f := solF s, stepUsed := solUsed s, seek := if solFresh s then true else s.clk.seek } :=
  solBegun_clk (s.setGns { s.gns with timeE := e / 2 ^ 32 }) sigma

theorem solStart_wf (e : Int) (sigma : Nat) (hw : RegStore.wf s.regs = true) : RegStore.wf (solStart s e sigma).regs = true := solBegun_wf sigma hw

theorem correct_wf (e : Int) (hw : RegStore.wf s.regs = true) : RegStore.wf (correct s e).regs = true := by
  obtain h | h | ⟨dir, h⟩ | h := correct_cases s e <;> rw [h]
  · exact setTimeState_wf _ _ hw
  · exact setReg_wf _ _ _ (setFlag_wf _ _ _ (setTimeState_wf tLocked 0 (s := s.setClk { s.clk with stepUsed := false, seek := false }) hw))
  · exact setTimeState_wf _ _ hw
  · exact setTimeState_wf _ _ hw

theorem solved_frame (s : State) (e : Int) (sigma : Nat) : SolFrame s e (solved s e sigma) := by
  obtain ⟨hdt, hcyc, hsol, hhist⟩ := correct_keeps (solStart s e sigma) e
  obtain ⟨hregs, hparts⟩ := correct_frame (solStart s e sigma) e
  obtain ⟨hregs', hparts'⟩ := solBegun_frame (s.setGns { s.gns with timeE := e / 2 ^ 32 }) sigma
  have hclk := solStart_clk s e sigma
  have hall : OnlyParts [.regs, .clk, .tab] (s.setGns { s.gns with timeE := e / 2 ^ 32 }) (solved s e sigma) :=
    (hparts'.trans hparts).trans (solEnded_onlyParts _ e sigma)
  refine ⟨?_, ?_, ?_, ?_, hall .gns (by simp), ?_, ?_⟩
  · exact hdt.trans (by rw [hclk])
  · exact hcyc.trans (by rw [hclk]; rfl)
  · exact hsol.trans (by rw [hclk]; rfl)
  · show ((correct (solStart s e sigma) e).clk.f :: (correct (solStart s e sigma) e).clk.fHist).take 600 = _
    rw [hhist, hclk]
    rfl
  · exact ((onlyRegs_of_regs_eq _ rfl).trans (hregs'.trans hregs)).trans ((solEnded_onlyRegs _ e sigma).mono (by decide))
  · exact ((OnlyParts.refl _ s).setGns).trans (hall.mono (by simp))

/-- CLK_TIME_STAT is as the correction leaves it. -/
theorem solved_timeStat {e : Int} {sigma : Nat} {c : State} (h : correct (solStart s e sigma) e = c) {f : Fld} (hf : f.addr = Ra.CLK_TIME_STAT) :
    (solved s e sigma).fld f = c.fld f := by
  rw [← h]
  exact (solEnded_onlyRegs _ e sigma).fld_eq (by rw [hf]; decide)

theorem solved_timeState {e : Int} {sigma : Nat} {c : State} (h : correct (solStart s e sigma) e = c) : (solved s e sigma).timeState = c.timeState :=
  solved_timeStat h rfl

theorem solved_flag {e : Int} {sigma : Nat} {c : State} (h : correct (solStart s e sigma) e = c) {f : Fld} (hf : f.addr = Ra.CLK_TIME_STAT) :
    (solved s e sigma).flag f = c.flag f := congrArg (· == 1) (solved_timeStat h hf)

theorem solved_clk {e : Int} {sigma : Nat} {c : State} (h : correct (solStart s e sigma) e = c) :
    (solved s e sigma).clk = { c.clk with fHist := (c.clk.f :: c.clk.fHist).take 600 } := by
  rw [← h]
  rfl

theorem solved_unc {e : Int} {sigma : Nat} {c : State} (hw : RegStore.wf s.regs = true) (h : correct (solStart s e sigma) e = c) :
    ((solved s e sigma).reg Ra.CLK_TIME_UNC).toNat = min (if c.timeState = tLocked then sigma + 10 else e.natAbs / 2 ^ 32 + sigma) (2 ^ 32 - 1) := by
  rw [← h]
  exact solEnded_unc e sigma (correct_wf e (solStart_wf e sigma hw))

/-- Within 1 µs. -/
theorem solved_locks {e : Int} (sigma : Nat) (hw : RegStore.wf s.regs = true) (hp : s.clk.stepPend = none) (he : -fpUs ≤ e ∧ e ≤ fpUs) :
    let t := solved s e sigma
    t.timeState = tLocked ∧ t.flag Fd.CLK_TIME_STAT_SLEWING = false ∧ t.flag Fd.CLK_TIME_STAT_HOLD_LIM = false ∧
      (t.reg Ra.CLK_TIME_UNC).toNat = min (sigma + 10) (2 ^ 32 - 1) ∧ t.clk.f = clampK (solF s + e * 256 / 10 ^ 14) ∧
      t.clk.k = clampK (t.clk.f + e * 256 / (20 * 10 ^ 9)) ∧ t.reg Ra.CLK_FREQ_EST = wordOfInt t.clk.f ∧ t.clk.stepUsed = false := by
  have hwb := solStart_wf e sigma hw
  have hclk := solStart_clk s e sigma
  have hc : correct (solStart s e sigma) e = steerLoop (timeLocked (solStart s e sigma)) e := correct_locks (by rw [hclk]; exact hp) he
  have hf : loopF (solStart s e sigma) e = clampK (solF s + e * 256 / 10 ^ 14) := by rw [loopF, hclk]
  obtain ⟨hstate, hslew, hlim, hest⟩ := steerLoop_timeLocked_shows e hwb
  have hunc := solved_unc hw hc
  rw [if_pos hstate] at hunc
  have hest' : (solved s e sigma).reg Ra.CLK_FREQ_EST = wordOfInt (loopF (solStart s e sigma) e) := by
    rw [← hest, ← hc]
    exact solEnded_onlyRegs _ e sigma _ (by decide)
  refine ⟨(solved_timeState hc).trans hstate, (solved_flag hc rfl).trans hslew, (solved_flag hc rfl).trans hlim, hunc, ?_⟩
  rw [solved_clk hc, steerLoop_timeLocked_clk, hf]
  exact ⟨rfl, rfl, hest'.trans (congrArg wordOfInt hf), rfl⟩

/-- A case that leaves time CONVERGING, with `f` and the step as they were. -/
theorem solved_moves {e : Int} {sigma : Nat} {c : State} (hw : RegStore.wf s.regs = true) (hc : correct (solStart s e sigma) e = c)
    (hstate : c.timeState = tConverging) (hf : c.clk.f = solF s) (hused : c.clk.stepUsed = solUsed s) : SolMoving s e sigma (solved s e sigma) := by
  have hunc := solved_unc hw hc
  rw [if_neg (by rw [hstate]; decide)] at hunc
  refine ⟨(solved_timeState hc).trans hstate, hunc, ?_, ?_, solved_frame s e sigma⟩
  · rw [solved_clk hc]
    exact hf
  · rw [solved_clk hc]
    exact hused

/-- A slew, back or on. -/
theorem solved_slews {e : Int} {sigma : Nat} {dir : Int} (hw : RegStore.wf s.regs = true) (hp : s.clk.stepPend = none) (hdir : dir ≠ 0)
    (hc : correct (solStart s e sigma) e = slewTerm (setTimeState (solStart s e sigma) tConverging dir) dir) :
    let t := solved s e sigma
    t.flag Fd.CLK_TIME_STAT_SLEWING = true ∧ t.clk.k = clampK (solF s + dir * slewRate s) ∧ t.clk.stepPend = none ∧ SolMoving s e sigma t := by
  have hclk := solStart_clk s e sigma
  have hrate : slewRate (solStart s e sigma) = slewRate s := by rw [slewRate, slewRate, steerCfg, steerCfg, hclk]
  obtain ⟨hstate, hflag⟩ := setTimeState_shows dir (solStart_wf e sigma hw) (show tConverging < 8 by decide)
  have hmove := solved_moves hw hc hstate (by rw [slewTerm_setTimeState_clk, hclk]) (by rw [slewTerm_setTimeState_clk, hclk])
  refine ⟨(solved_flag hc rfl).trans (hflag.trans (by simpa using hdir)), ?_, ?_, hmove⟩
  · rw [solved_clk hc, slewTerm_setTimeState_clk, hrate, hclk]
  · rw [solved_clk hc, slewTerm_setTimeState_clk, hclk]
    exact hp

/-- From 1 ms on, while the step has not been used. -/
theorem solved_steps {e : Int} (sigma : Nat) (hw : RegStore.wf s.regs = true) (hp : s.clk.stepPend = none) (he : fpMs ≤ e) (hused : solUsed s = false) :
    let t := solved s e sigma
    t.flag Fd.CLK_TIME_STAT_SLEWING = false ∧ t.clk.stepPend = some e ∧ t.clk.stepAt = (s.dtNs / 10 ^ 9 + 1) * 10 ^ 9 ∧ t.clk.k = solF s ∧
      SolMoving s e sigma t := by
  have hclk := solStart_clk s e sigma
  have hc : correct (solStart s e sigma) e = stepPrepared (solStart s e sigma) e :=
    correct_steps (by rw [hclk]; exact hp) he (by rw [hclk]; exact hused)
  have hnext : nextSecond (solStart s e sigma) = (s.dtNs / 10 ^ 9 + 1) * 10 ^ 9 := by rw [nextSecond, State.dtNs, hclk]; rfl
  obtain ⟨hstate, hflag⟩ := setTimeState_shows 0 (solStart_wf e sigma hw) (show tConverging < 8 by decide)
  have hmove := solved_moves hw hc hstate (by rw [stepPrepared_clk, hclk]) (by rw [stepPrepared_clk, hclk])
  refine ⟨(solved_flag hc rfl).trans hflag, ?_⟩
  rw [solved_clk hc, stepPrepared_clk, hnext, hclk]
  exact ⟨rfl, rfl, rfl, hmove⟩

/-- A step that waits stays as it is. -/
theorem solved_waits {e p : Int} (sigma : Nat) (hw : RegStore.wf s.regs = true) (hp : s.clk.stepPend = some p) :
    let t := solved s e sigma
    t.flag Fd.CLK_TIME_STAT_SLEWING = false ∧ t.clk.stepPend = some p ∧ t.clk.stepAt = s.clk.stepAt ∧ t.clk.k = s.clk.k ∧ SolMoving s e sigma t := by
  have hclk := solStart_clk s e sigma
  have hc : correct (solStart s e sigma) e = setTimeState (solStart s e sigma) tConverging 0 := correct_waits (by rw [hclk, hp]; rfl)
  obtain ⟨hstate, hflag⟩ := setTimeState_shows 0 (solStart_wf e sigma hw) (show tConverging < 8 by decide)
  have hmove := solved_moves hw hc hstate (by rw [setTimeState_clk, hclk]) (by rw [setTimeState_clk, hclk])
  refine ⟨(solved_flag hc rfl).trans hflag, ?_⟩
  rw [solved_clk hc, setTimeState_clk, hclk]
  exact ⟨hp, rfl, rfl, hmove⟩

end

/-! ### The command -/

/-- The error of a solution in 2^-32 ns, with DELAY of ANT0 removed (log 45). -/
def solError (s : State) (gps : Long) : Int := ((gps.toNat + s.fld (Fd.GNS_ANT_CFG_DELAY 0)) * 2 ^ 32 : Nat) - (s.clk.dtFp : Int)

theorem exec_timeSolution (gps : Long) (sigma : Word) (b : TimeBasis) (s : State) : exec (.timeSolution gps sigma b) s =
    if !gnsRuns s || s.liveTick % 2000 != 0 then .next s
    else if solutionOk b.sats.toNat b.cons.toNat b.raim b.eph && decide (sigma.toNat ≤ 100) then .next (solved s (solError s gps) sigma.toNat)
    else .next (timeLost s) := rfl

/-- Settles O41, by the cases of `correct`. -/
theorem timeSolutions : Obligations.TimeSolutions := by
  unfold Obligations.TimeSolutions
  intro gps sigma sats cons raim eph s hc
  have hw := hc.regs_wf
  have hexec := exec_timeSolution gps sigma ⟨sats, cons, raim, eph⟩ s
  refine ⟨fun h => ?_, fun hruns htick => ?_⟩
  · refine hexec.trans (if_pos ?_)
    simpa using h
  · rw [if_neg (by simp [hruns, htick])] at hexec
    refine ⟨fun hv => ?_, fun hv hp => ?_, fun hv p hp => ?_⟩
    · refine hexec.trans (if_neg ?_)
      simpa using hv
    · rw [if_pos (by simpa using hv)] at hexec
      have hclk := solStart_clk s (solError s gps) sigma.toNat
      have hpend : (solStart s (solError s gps) sigma.toNat).clk.stepPend = none := by rw [hclk]; exact hp
      refine ⟨fun h₁ h₂ => ?_, fun h₁ => ?_, fun h₁ h₂ => ?_, fun h₁ h₂ => ?_⟩
      · obtain ⟨hstate, hslew, hlim, hunc, hf, hk, hest, hused⟩ := solved_locks sigma.toNat hw hp ⟨h₁, h₂⟩
        exact ⟨_, hexec, hstate, hslew, hlim, hunc, hf, hk, hest, hused, solved_frame s _ _⟩
      · obtain ⟨hslew, hk, hpend', hmove⟩ := solved_slews hw hp (by decide) (correct_slews_back hpend h₁)
        exact ⟨_, hexec, hslew, hk.trans (by rw [neg_one_mul]; rfl), hpend', hmove⟩
      · obtain ⟨hslew, hk, hpend', hmove⟩ := solved_slews hw hp (by decide) (correct_slews_on hpend h₁ (by rw [hclk]; exact h₂))
        exact ⟨_, hexec, hslew, hk.trans (by rw [one_mul]; rfl), hpend', hmove⟩
      · exact ⟨_, hexec, solved_steps sigma.toNat hw hp h₁ h₂⟩
    · rw [if_pos (by simpa using hv)] at hexec
      exact ⟨_, hexec, solved_waits sigma.toNat hw hp⟩

end Sys2Proof.Machine
end

section
/-! SUPPORT. Steps and sets of device time (R43, R45, R51), HOLDOVER and CLK_STEER_CFG (R39, R42). -/

namespace Sys2Proof.Machine

/-! ### The ticks that are kept move with the index (R45) -/

theorem shiftBnd_onlyParts (s : State) (n : Nat) : OnlyParts [.pub, .stage, .ce, .gw, .mfp, .steer, .fus] s (shiftBnd s n) := by
  intro p hp
  cases p
  case pub | stage | ce | gw | mfp | steer | fus => simp at hp
  all_goals rfl

protected theorem OnlyParts.setFus {l : List Part} {s t : State} {x : FusState} (h : OnlyParts l s t) (hl : Part.fus ∈ l := by simp) :
    OnlyParts l s (t.setFus x) := by
  refine h.trans fun p hp => ?_
  cases p
  case fus => exact absurd hl hp
  all_goals rfl

protected theorem OnlyParts.setUin {l : List Part} {s t : State} {x : UinState} (h : OnlyParts l s t) (hl : Part.uin ∈ l := by simp) :
    OnlyParts l s (t.setUin x) := by
  refine h.trans fun p hp => ?_
  cases p
  case uin => exact absurd hl hp
  all_goals rfl

theorem shiftLive_onlyParts (s : State) (n : Nat) : OnlyParts [.gns, .tab, .fus, .uin] s (shiftLive s n) := by
  have hstart : OnlyParts [.gns, .tab, .fus, .uin] s s := .refl _ s
  exact hstart.setGns.setTab.setFus.setUin

/-- The parts that a step of DT changes. -/
abbrev stepParts : List Part := [.regs, .pub, .stage, .clk, .gw, .ce, .uin, .mfp, .gns, .steer, .fus, .tab, .rpl]

theorem shiftTicks_onlyParts (s : State) (n : Nat) :
    OnlyParts [.pub, .stage, .clk, .gw, .ce, .uin, .mfp, .gns, .steer, .fus, .tab] s (shiftTicks s n) := by
  have hlive := (shiftLive_onlyParts s n).mono (l' := [.pub, .stage, .clk, .gw, .ce, .uin, .mfp, .gns, .steer, .fus, .tab]) (by simp)
  exact .ite hlive (hlive.setClk.trans ((shiftBnd_onlyParts _ n).mono (by simp)))

/-- The frame boundary still to be run moves, outside REPLAY. -/
theorem shiftTicks_clk (s : State) (n : Nat) : ∃ x, (shiftTicks s n).clk = { s.clk with frameAt := x } := by
  unfold shiftTicks
  dsimp only
  split
  · exact ⟨s.clk.frameAt, shiftLive_onlyParts s n .clk (by simp)⟩
  · exact ⟨_, rfl⟩

theorem addTick_clk (s : State) (n : Nat) : ∃ x, (addTick s n).clk = { s.clk with tick := x } := by
  unfold addTick
  dsimp only
  split
  · exact ⟨s.clk.tick, rfl⟩
  · exact ⟨_, rfl⟩

theorem addTick_liveTick (s : State) (n : Nat) : (addTick s n).liveTick = s.liveTick + n := by
  unfold addTick State.liveTick showTick
  cases h : s.rpl.live <;> simp [h]

theorem addTick_frame (s : State) (n : Nat) : OnlyRegs [Ra.CLK_TICK_STAT] s (addTick s n) ∧ OnlyParts [.regs, .clk, .rpl] s (addTick s n) := by
  have hregs : OnlyRegs [Ra.CLK_TICK_STAT] s s := .refl _ s
  have hparts : OnlyParts [.regs, .clk, .rpl] s s := .refl _ s
  exact ⟨.ite (OnlyRegs.setReg (hregs.of_regs rfl)) hregs.setClk.setReg, .ite hparts.setRpl.setReg hparts.setClk.setReg⟩

theorem addTick_wf {s : State} (n : Nat) (hw : RegStore.wf s.regs = true) : RegStore.wf (addTick s n).regs = true := by
  unfold addTick
  dsimp only
  split <;> exact setReg_wf _ _ _ hw

/-! ### A step of DT (R43, R45, R51) -/

/-- S: new DT − old DT, in ns. -/
def stepNs (s : State) (fp : Nat) : Nat := (s.clk.dtFp + fp) / 2 ^ 32 - s.dtNs

/-- The phase that whole frames leave of `ns`, in DTB cycles. -/
def stepPhase (ns : Nat) : Int := ((ns : Int) - ((ns + 5000000) / 10000000 * 10000000 : Nat)) * 4 / 25

/-- DT steps, and the ticks that are kept move. -/
def stepShifted (s : State) (fp : Nat) : State :=
  let u := shiftTicks s (200 * ((stepNs s fp + 5000000) / 10000000))
  u.setClk { u.clk with dtFp := u.clk.dtFp + fp, phase := u.clk.phase + stepPhase (stepNs s fp), stepSeq := u.clk.stepSeq + 1 }

/-- The tick index jumps, and the anchors of streams move. -/
def stepCounted (s : State) (fp : Nat) : State :=
  stepAnchors (addTick (stepShifted s fp) (200 * ((stepNs s fp + 5000000) / 10000000))) (stepNs s fp)

/-- The alignment shows, and the next pulse counts from the new DT. -/
def stepAligned (s : State) (fp : Nat) : State :=
  let u := (stepCounted s fp).setFlag Fd.CLK_TIME_STAT_TICK_ALIGN ((stepCounted s fp).clk.phase != 0)
  u.setGns { u.gns with ppsFrom := u.dtNs }

/-- The step is marked (R504). -/
def stepMarked (s : State) (fp : Nat) : State := tabRec (stepAligned s fp) TabT.mark TabM.step [stepNs s fp]

theorem timeStep_eq (s : State) (fp : Nat) :
    timeStep s fp = ((stepMarked s fp).setFlag Fd.CLK_TIME_STAT_STEP true).count Fd.CLK_TIME_STAT_STEPS := rfl

/-- Streams in use move by S, and one that anchors starts anew (R51). -/
def strmStepped (m : SMap Strm) (ns : Nat) : SMap Strm := smMapVals {} (fun _ x => if x.cnt < 8 then ({} : Strm) else { x with a := x.a + ns }) m

section
variable {s : State}

theorem stepCounted_clk (s : State) (fp : Nat) : ∃ at_ tick, (stepCounted s fp).clk =
    { s.clk with
      dtFp := s.clk.dtFp + fp, phase := s.clk.phase + stepPhase (stepNs s fp), stepSeq := s.clk.stepSeq + 1,
      strm := strmStepped s.clk.strm (stepNs s fp), frameAt := at_, tick := tick } := by
  obtain ⟨x, hshift⟩ := shiftTicks_clk s (200 * ((stepNs s fp + 5000000) / 10000000))
  obtain ⟨y, hadd⟩ := addTick_clk (stepShifted s fp) (200 * ((stepNs s fp + 5000000) / 10000000))
  refine ⟨x, y, ?_⟩
  rw [stepCounted, stepAnchors, State.setClk_clk, hadd, stepShifted, State.setClk_clk, hshift]
  rfl

theorem stepCounted_frame (s : State) (fp : Nat) : OnlyRegs [Ra.CLK_TICK_STAT] s (stepCounted s fp) ∧ OnlyParts stepParts s (stepCounted s fp) := by
  have hshift := shiftTicks_onlyParts s (200 * ((stepNs s fp + 5000000) / 10000000))
  obtain ⟨hregs, hparts⟩ := addTick_frame (stepShifted s fp) (200 * ((stepNs s fp + 5000000) / 10000000))
  have hstart : OnlyRegs [Ra.CLK_TICK_STAT] s (stepShifted s fp) := onlyRegs_of_regs_eq _ (hshift .regs (by simp))
  exact ⟨(hstart.trans hregs).setClk, (((hshift.mono (by simp)).setClk).trans (hparts.mono (by simp))).setClk⟩

theorem stepCounted_wf (fp : Nat) (hw : RegStore.wf s.regs = true) : RegStore.wf (stepCounted s fp).regs = true := by
  have hregs : (stepShifted s fp).regs = s.regs := shiftTicks_onlyParts s _ .regs (by simp)
  exact addTick_wf _ (by rw [hregs]; exact hw)

theorem stepCounted_liveTick (s : State) (fp : Nat) :
    (stepCounted s fp).liveTick = s.liveTick + 200 * ((stepNs s fp + 5000000) / 10000000) := by
  obtain ⟨x, hshift⟩ := shiftTicks_clk s (200 * ((stepNs s fp + 5000000) / 10000000))
  have hrpl : (stepShifted s fp).rpl = s.rpl := shiftTicks_onlyParts s _ .rpl (by simp)
  have htick : (stepShifted s fp).clk.tick = s.clk.tick := by rw [stepShifted, State.setClk_clk, hshift]
  have hstart : (stepShifted s fp).liveTick = s.liveTick := by rw [State.liveTick, State.liveTick, hrpl, htick]
  exact (addTick_liveTick _ _).trans (by rw [hstart])

/-! #### What shows in CLK_TIME_STAT -/

theorem stepMarked_wf (fp : Nat) (hw : RegStore.wf s.regs = true) : RegStore.wf (stepMarked s fp).regs = true :=
  tabMark_wf _ _ _ (setFlag_wf _ _ _ (stepCounted_wf fp hw))

theorem stepMarked_shows (fp : Nat) (hw : RegStore.wf s.regs = true) :
    (stepMarked s fp).flag Fd.CLK_TIME_STAT_TICK_ALIGN = ((stepCounted s fp).clk.phase != 0) ∧
      (stepMarked s fp).fld Fd.CLK_TIME_STAT_STEPS = s.fld Fd.CLK_TIME_STAT_STEPS := by
  have hcount := stepCounted_wf fp hw
  have hregs : (stepAligned s fp).regs = ((stepCounted s fp).setFlag Fd.CLK_TIME_STAT_TICK_ALIGN ((stepCounted s fp).clk.phase != 0)).regs := rfl
  have hmark : OnlyRegs captureRegs ((stepCounted s fp).setFlag Fd.CLK_TIME_STAT_TICK_ALIGN ((stepCounted s fp).clk.phase != 0)) (stepMarked s fp) :=
    (onlyRegs_of_regs_eq _ hregs).trans (tabMark_frame (stepAligned s fp) TabM.step [stepNs s fp]).1
  constructor
  · rw [hmark.flag_eq (by decide)]
    exact flag_setFlag_same (stepCounted s fp) _ hcount (by decide)
  · rw [hmark.fld_eq (by decide), ← (stepCounted_frame s fp).1.fld_eq (show Fd.CLK_TIME_STAT_STEPS.addr ∉ [Ra.CLK_TICK_STAT] by decide)]
    exact fld_setFld_other (stepCounted s fp) Fd.CLK_TIME_STAT_TICK_ALIGN _ _ hcount (by decide) (by decide)

theorem timeStep_shows (fp : Nat) (hw : RegStore.wf s.regs = true) :
    let t := timeStep s fp
    t.flag Fd.CLK_TIME_STAT_STEP = true ∧ t.flag Fd.CLK_TIME_STAT_TICK_ALIGN = ((stepCounted s fp).clk.phase != 0) ∧
      t.fld Fd.CLK_TIME_STAT_STEPS = min (s.fld Fd.CLK_TIME_STAT_STEPS + 1) (2 ^ Fd.CLK_TIME_STAT_STEPS.width - 1) := by
  have hmark := stepMarked_wf fp hw
  have hstep := setFlag_wf _ Fd.CLK_TIME_STAT_STEP true hmark
  obtain ⟨halign, hsteps⟩ := stepMarked_shows fp hw
  rw [timeStep_eq]
  refine ⟨?_, ?_, ?_⟩
  · exact (flag_setFld_other _ _ hstep (by decide) (by decide)).trans (flag_setFlag_same _ true hmark (by decide))
  · exact ((flag_setFld_other _ _ hstep (by decide) (by decide)).trans (flag_setFlag_other _ true hmark (by decide) (by decide))).trans halign
  · rw [fld_count_same _ 1 hstep (by decide)]
    congr 2
    exact (fld_setFld_other _ Fd.CLK_TIME_STAT_STEP _ _ hmark (by decide) (by decide)).trans hsteps

/-! #### What a step leaves -/

theorem timeStep_clk (s : State) (fp : Nat) : (timeStep s fp).clk = (stepCounted s fp).clk := by
  rw [timeStep_eq]
  exact tabMark_clk _ _ _

theorem timeStep_liveTick (s : State) (fp : Nat) :
    (timeStep s fp).liveTick = s.liveTick + 200 * ((stepNs s fp + 5000000) / 10000000) := by
  have hrpl : (timeStep s fp).rpl = (stepCounted s fp).rpl := by
    rw [timeStep_eq]
    exact tabMark_rpl _ _ _
  rw [← stepCounted_liveTick, State.liveTick, State.liveTick, hrpl, timeStep_clk]

/-- The registers that a step of DT writes. -/
abbrev stepRegs : List Nat := Ra.CLK_TIME_STAT :: Ra.CLK_TICK_STAT :: captureRegs

theorem stepAligned_frame (s : State) (fp : Nat) : OnlyRegs stepRegs s (stepAligned s fp) ∧ OnlyParts stepParts s (stepAligned s fp) := by
  obtain ⟨hregs, hparts⟩ := stepCounted_frame s fp
  have halign : OnlyRegs stepRegs s ((stepCounted s fp).setFlag Fd.CLK_TIME_STAT_TICK_ALIGN ((stepCounted s fp).clk.phase != 0)) :=
    (hregs.mono (by simp)).setFlag
  exact ⟨halign.of_regs rfl, hparts.setFlag.setGns⟩

theorem stepMarked_frame (s : State) (fp : Nat) : OnlyRegs stepRegs s (stepMarked s fp) ∧ OnlyParts stepParts s (stepMarked s fp) := by
  obtain ⟨hregs, hparts⟩ := stepAligned_frame s fp
  exact ⟨hregs.tabMark (by decide), hparts.tabMarkOf⟩

theorem timeStep_frame (s : State) (fp : Nat) : OnlyRegs stepRegs s (timeStep s fp) ∧ OnlyParts stepParts s (timeStep s fp) := by
  obtain ⟨hregs, hparts⟩ := stepMarked_frame s fp
  rw [timeStep_eq]
  exact ⟨hregs.setFlag.count, hparts.setFlag.count⟩

/-- DT jumps by `ns`: what O42 says of the tick index, the phase, the streams and the counts. -/
def Jumps (s t : State) (ns : Nat) : Prop :=
  let n := (ns + 5000000) / 10000000
  t.liveTick = s.liveTick + 200 * n ∧ t.clk.phase = s.clk.phase + ((ns : Int) - (n * 10000000 : Nat)) * 4 / 25 ∧ t.clk.stepSeq = s.clk.stepSeq + 1 ∧
  t.clk.strm = strmStepped s.clk.strm ns ∧ t.flag Fd.CLK_TIME_STAT_STEP = true ∧ t.flag Fd.CLK_TIME_STAT_TICK_ALIGN = (t.clk.phase != 0) ∧
  t.fld Fd.CLK_TIME_STAT_STEPS = min (s.fld Fd.CLK_TIME_STAT_STEPS + 1) (2 ^ Fd.CLK_TIME_STAT_STEPS.width - 1) ∧ t.cyc = s.cyc ∧ OnlyParts stepParts s t

/-- A jump from a state that differs in neither of these from the one before it. -/
theorem Jumps.of_start {s u t : State} {ns : Nat} (h : Jumps u t ns) (hlive : u.liveTick = s.liveTick) (hphase : u.clk.phase = s.clk.phase)
    (hseq : u.clk.stepSeq = s.clk.stepSeq) (hstrm : u.clk.strm = s.clk.strm) (hsteps : u.fld Fd.CLK_TIME_STAT_STEPS = s.fld Fd.CLK_TIME_STAT_STEPS)
    (hcyc : u.cyc = s.cyc) (hparts : OnlyParts stepParts s u) : Jumps s t ns := by
  obtain ⟨h₁, h₂, h₃, h₄, h₅, h₆, h₇, h₈, h₉⟩ := h
  exact ⟨hlive ▸ h₁, hphase ▸ h₂, hseq ▸ h₃, hstrm ▸ h₄, h₅, h₆, hsteps ▸ h₇, hcyc ▸ h₈, hparts.trans h₉⟩

theorem timeStep_jumps (fp : Nat) (hw : RegStore.wf s.regs = true) : Jumps s (timeStep s fp) (stepNs s fp) := by
  obtain ⟨at_, tick, hclk⟩ := stepCounted_clk s fp
  obtain ⟨hstep, halign, hsteps⟩ := timeStep_shows fp hw
  obtain ⟨-, hparts⟩ := timeStep_frame s fp
  have hclk' := (timeStep_clk s fp).trans hclk
  refine ⟨timeStep_liveTick s fp, ?_, ?_, ?_, hstep, ?_, hsteps, ?_, hparts⟩
  · rw [hclk']
    rfl
  · rw [hclk']
  · rw [hclk']
  · rw [halign, timeStep_clk]
  · rw [State.cyc, hclk']
    rfl

theorem timeStep_dtFp (s : State) (fp : Nat) : (timeStep s fp).clk.dtFp = s.clk.dtFp + fp := by
  obtain ⟨at_, tick, hclk⟩ := stepCounted_clk s fp
  rw [timeStep_clk, hclk]

theorem timeStep_pend (s : State) (fp : Nat) :
    (timeStep s fp).clk.stepPend = s.clk.stepPend ∧ (timeStep s fp).clk.stepUsed = s.clk.stepUsed := by
  obtain ⟨at_, tick, hclk⟩ := stepCounted_clk s fp
  rw [timeStep_clk, hclk]
  exact ⟨rfl, rfl⟩

/-- S is the change of DT. -/
theorem timeStep_dtNs (s : State) (fp : Nat) : (timeStep s fp).dtNs - s.dtNs = stepNs s fp := by
  rw [State.dtNs, timeStep_dtFp, stepNs]

/-- A whole number of ns is S as it is. -/
theorem stepNs_whole (s : State) (ns : Nat) : stepNs s (ns * 2 ^ 32) = ns := by
  rw [stepNs, Nat.add_mul_div_right _ _ (by positivity), State.dtNs, Nat.add_sub_cancel_left]

end

/-! ### DT_STEP and DT_SET (R40, R43) -/

/-- The step that waits is taken up. -/
def stepTaken (s : State) : State := s.setClk { s.clk with stepPend := none, stepUsed := s.clk.seek }

theorem exec_dtStep {s : State} {e : Int} (h : s.clk.stepPend = some e) :
    exec .dtStep s = .next (if s.clk.stepAt ≤ s.dtNs then timeStep (stepTaken s) e.toNat else s) := by
  show execDtStep s = _
  simp only [execDtStep, h]
  split <;> rfl

theorem exec_dtStep_of_none {s : State} (h : s.clk.stepPend = none) : exec .dtStep s = .next s := by
  show execDtStep s = _
  simp only [execDtStep, h]

theorem stepTaken_jumps {s : State} (fp : Nat) (hw : RegStore.wf s.regs = true) :
    Jumps s (timeStep (stepTaken s) fp) (stepNs (stepTaken s) fp) :=
  (timeStep_jumps (s := stepTaken s) fp hw).of_start rfl rfl rfl rfl rfl rfl (OnlyParts.refl _ s).setClk

/-- The high word is written. -/
def dtWritten (s : State) (hi : Word) : State := s.setReg Ra.CLK_DT_SET_HI hi

theorem exec_dtSet (init : Fin 58) (hi : Word) (s : State) : exec (.dtSet init hi) s = .next (
    let new := ((dtWritten s hi).reg Ra.CLK_DT_SET_LO).toNat + hi.toNat * 2 ^ 32
    if (dtWritten s hi).timeState = tFree ∧ s.dtNs < new then timeStep (dtWritten s hi) ((new - s.dtNs) * 2 ^ 32)
    else logEvent (dtWritten s hi) Ev.timeSetRefused init (dtWritten s hi).timeState 0) := rfl

theorem dtWritten_onlyRegs (s : State) (hi : Word) : OnlyRegs [Ra.CLK_DT_SET_HI] s (dtWritten s hi) := setReg_onlyRegs s _ _

theorem dtWritten_jumps {s : State} (hi : Word) (fp : Nat) (hw : RegStore.wf s.regs = true) :
    Jumps s (timeStep (dtWritten s hi) fp) (stepNs (dtWritten s hi) fp) :=
  (timeStep_jumps (s := dtWritten s hi) fp (setReg_wf s _ _ hw)).of_start rfl rfl rfl rfl ((dtWritten_onlyRegs s hi).fld_eq (by decide)) rfl
    (OnlyParts.refl _ s).setReg

/-! ### HOLDOVER (R39, R42) -/

/-- HOLDOVER begins: a step that waits goes, and the estimate and U stand as they are. -/
def heldOver (s : State) : State := s.setClk { s.clk with
  stepPend := none, k := s.clk.f, holdCyc := s.clk.cyc, u0 := (s.reg Ra.CLK_TIME_UNC).toNat, rsig := freqSigma s.clk.fHist }

theorem exec_holdoverEntry (s : State) : exec .holdoverEntry s =
    if (s.timeState = tLocked ∨ s.timeState = tConverging) ∧ s.since s.clk.solCyc (2 * cycS) then .next (setTimeState (heldOver s) tHoldover 0)
    else .next s := rfl

theorem exec_holdLimExceeded (s : State) : exec .holdLimExceeded s =
    if s.timeState = tHoldover ∧ holdLimNs s < holdUnc s then .next (s.setFlag Fd.CLK_TIME_STAT_HOLD_LIM true) else .next s := rfl

theorem exec_steerCfgApply {s : State} {c : Nat} (h : s.clk.steerAt = some c) : exec .steerCfgApply s = .next (
    let u := s.setClk { s.clk with steerAt := none, steerRun := some (s.reg Ra.CLK_STEER_CFG) }
    if c ≤ s.dtNs then if s.clk.slewDir = 0 then u else slewTerm u s.clk.slewDir else s) := by
  show execSteerCfgApply s = _
  simp only [execSteerCfgApply, h]
  split <;> rfl

theorem exec_steerCfgApply_of_none {s : State} (h : s.clk.steerAt = none) : exec .steerCfgApply s = .next s := by
  show execSteerCfgApply s = _
  simp only [execSteerCfgApply, h]

/-- What a step that waits does at its second boundary (R40). -/
theorem dtStep_jumps {s : State} {e : Int} (hc : s.canonical) (hp : s.clk.stepPend = some e) (hdue : s.clk.stepAt ≤ s.dtNs) :
    Gives .dtStep s (fun t =>
      t.clk.dtFp = s.clk.dtFp + e.toNat ∧ t.clk.stepPend = none ∧ t.clk.stepUsed = s.clk.seek ∧ Jumps s t (t.dtNs - s.dtNs)) := by
  have hjump := stepTaken_jumps e.toNat hc.regs_wf
  rw [← timeStep_dtNs] at hjump
  obtain ⟨hpend, hused⟩ := timeStep_pend (stepTaken s) e.toNat
  exact ⟨timeStep (stepTaken s) e.toNat, (exec_dtStep hp).trans (by rw [if_pos hdue]), timeStep_dtFp _ _, hpend, hused, hjump⟩

/-- What DT_SET shows of the state before it. -/
theorem dtWritten_keeps (s : State) (hi : Word) : (dtWritten s hi).reg Ra.CLK_DT_SET_LO = s.reg Ra.CLK_DT_SET_LO ∧ (dtWritten s hi).timeState = s.timeState :=
  ⟨dtWritten_onlyRegs s hi _ (by decide), (dtWritten_onlyRegs s hi).fld_eq (by decide)⟩

/-- DT set forward in FREE (R43). -/
theorem dtSet_jumps {s : State} (init : Fin 58) (hi : Word) (hc : s.canonical) (hfree : s.timeState = tFree)
    (hlt : s.dtNs < (s.reg Ra.CLK_DT_SET_LO).toNat + hi.toNat * 2 ^ 32) :
    Gives (.dtSet init hi) s (fun t =>
      t.dtNs = (s.reg Ra.CLK_DT_SET_LO).toNat + hi.toNat * 2 ^ 32 ∧ t.reg Ra.CLK_DT_SET_HI = hi ∧
      Jumps s t ((s.reg Ra.CLK_DT_SET_LO).toNat + hi.toNat * 2 ^ 32 - s.dtNs)) := by
  obtain ⟨hlo, hst⟩ := dtWritten_keeps s hi
  obtain ⟨hregs, -⟩ := timeStep_frame (dtWritten s hi) (((s.reg Ra.CLK_DT_SET_LO).toNat + hi.toNat * 2 ^ 32 - s.dtNs) * 2 ^ 32)
  have hjump := dtWritten_jumps hi (((s.reg Ra.CLK_DT_SET_LO).toNat + hi.toNat * 2 ^ 32 - s.dtNs) * 2 ^ 32) hc.regs_wf
  rw [stepNs_whole] at hjump
  refine ⟨_, (exec_dtSet init hi s).trans ?_, ?_, ?_, hjump⟩
  · rw [hlo, hst]
    exact congrArg Host.Outcome.next (if_pos ⟨hfree, hlt⟩)
  · have hns := timeStep_dtNs (dtWritten s hi) (((s.reg Ra.CLK_DT_SET_LO).toNat + hi.toNat * 2 ^ 32 - s.dtNs) * 2 ^ 32)
    rw [stepNs_whole] at hns
    have hold : (dtWritten s hi).dtNs = s.dtNs := rfl
    omega
  · exact (hregs _ (by decide)).trans (reg_setReg_same s _ _ hc.regs_wf)

/-- Any other try is recorded (R43). -/
theorem dtSet_refused {s : State} (init : Fin 58) (hi : Word)
    (h : s.timeState ≠ tFree ∨ (s.reg Ra.CLK_DT_SET_LO).toNat + hi.toNat * 2 ^ 32 ≤ s.dtNs) :
    exec (.dtSet init hi) s = .next (logEvent (dtWritten s hi) Ev.timeSetRefused init s.timeState 0) := by
  obtain ⟨hlo, hst⟩ := dtWritten_keeps s hi
  rw [exec_dtSet, hlo, hst]
  exact congrArg Host.Outcome.next (if_neg fun ⟨hfree, hlt⟩ => h.elim (· hfree) (Nat.not_le_of_lt hlt))

/-- 2 s without a solution (R39, R42). -/
theorem holdoverEntry_holds {s : State} (hc : s.canonical) (hst : s.timeState = tLocked ∨ s.timeState = tConverging)
    (hlate : s.clk.solCyc + 2 * cycS ≤ s.cyc) : Gives .holdoverEntry s (fun t =>
      t.timeState = tHoldover ∧ t.clk.k = s.clk.f ∧ t.clk.f = s.clk.f ∧ t.clk.stepPend = none ∧
      t.clk.u0 = (s.reg Ra.CLK_TIME_UNC).toNat ∧ t.clk.rsig = freqSigma s.clk.fHist ∧ t.clk.holdCyc = s.cyc ∧ t.flag Fd.CLK_TIME_STAT_SLEWING = false ∧
      OnlyRegs (Ra.CLK_TIME_STAT :: captureRegs) s t ∧ OnlyParts [.regs, .clk, .tab, .rpl] s t) := by
  obtain ⟨hregs, hparts⟩ := setTimeState_frame (heldOver s) tHoldover 0
  obtain ⟨hshow, hslew⟩ := setTimeState_shows (s := heldOver s) (st := tHoldover) 0 hc.regs_wf (by decide)
  have hclk := setTimeState_clk (heldOver s) tHoldover 0
  have hstart : OnlyParts [.regs, .clk, .tab, .rpl] s (heldOver s) := (OnlyParts.refl _ s).setClk
  refine ⟨setTimeState (heldOver s) tHoldover 0, (exec_holdoverEntry s).trans (if_pos ⟨hst, decide_eq_true hlate⟩), hshow, ?_, ?_, ?_, ?_, ?_, ?_,
    hslew, (onlyRegs_of_regs_eq _ rfl).trans hregs, hstart.trans (hparts.mono (by simp))⟩ <;> rw [hclk] <;> rfl

/-- Settles O42, by what one step of DT leaves (`Jumps`) and the branches of each command. -/
theorem timeSteps : Obligations.TimeSteps := by
  unfold Obligations.TimeSteps
  refine ⟨⟨fun s e hc hp => ⟨dtStep_jumps hc hp, fun hearly => ?_⟩, fun s hp => exec_dtStep_of_none hp,
      fun init hi s hc => ⟨dtSet_jumps init hi hc, dtSet_refused init hi⟩⟩,
    fun s hc => ⟨holdoverEntry_holds hc, fun h => ?_⟩, fun s => ⟨fun hst hlim => if_pos ⟨hst, hlim⟩, fun h => ?_⟩,
    fun s => ⟨fun h => exec_steerCfgApply_of_none h, fun c hc => ⟨fun hdue hslew => ?_, fun hdue hslew => ?_, fun hearly => ?_⟩⟩⟩
  · rw [Idle, exec_dtStep hp, if_neg (by omega)]
  · refine (exec_holdoverEntry s).trans (if_neg fun ⟨hst, hlate⟩ => ?_)
    have hdue : s.clk.solCyc + 2 * cycS ≤ s.cyc := of_decide_eq_true hlate
    rcases h with h | h | h
    · rw [h] at hst
      exact absurd hst (by decide)
    · rw [h] at hst
      exact absurd hst (by decide)
    · omega
  · exact (exec_holdLimExceeded s).trans (if_neg (by omega))
  · rw [exec_steerCfgApply hc]
    simp only [if_pos hdue, if_pos hslew]
  · rw [exec_steerCfgApply hc]
    simp only [if_pos hdue, if_neg hslew]
    rfl
  · rw [Idle, exec_steerCfgApply hc, if_neg (by omega)]

end Sys2Proof.Machine
end

section
/-! SUPPORT. What a mode commit and the beginning of a reset leave: the registers below the windows of the event log, the clock, and where the boot
goes (R53, R56, R63, R70). -/

namespace Sys2Proof.Machine

/-- From `s` to `t` no register below the windows of the event log changes, and the clock and where the boot goes stay. -/
structure LowKept (s t : State) : Prop where
  reg : ∀ a, a < 0x40060000 → t.reg a = s.reg a
  cyc : t.clk.cyc = s.clk.cyc
  tgt : t.pm.bootTgt = s.pm.bootTgt
  boot : t.pm.bootCyc = s.pm.bootCyc

section
variable {s t u : State}

theorem LowKept.refl (s : State) : LowKept s s := ⟨fun _ _ => rfl, rfl, rfl, rfl⟩

theorem LowKept.fld_eq (h : LowKept s t) {f : Fld} (hf : f.addr < 0x40060000) : t.fld f = s.fld f := by simp only [State.fld, h.reg f.addr hf]

theorem LowKept.mode_eq (h : LowKept s t) : t.mode = s.mode := h.fld_eq (by decide)

/-! ### Parts that none of this depends on -/

protected theorem LowKept.setBst {x : BstState} (h : LowKept s t) : LowKept s (t.setBst x) := ⟨h.reg, h.cyc, h.tgt, h.boot⟩
protected theorem LowKept.setFlr {x : FlrState} (h : LowKept s t) : LowKept s (t.setFlr x) := ⟨h.reg, h.cyc, h.tgt, h.boot⟩
protected theorem LowKept.setLsw {x : LswState} (h : LowKept s t) : LowKept s (t.setLsw x) := ⟨h.reg, h.cyc, h.tgt, h.boot⟩
protected theorem LowKept.setMfp {x : MfpState} (h : LowKept s t) : LowKept s (t.setMfp x) := ⟨h.reg, h.cyc, h.tgt, h.boot⟩
protected theorem LowKept.setRpl {x : RplState} (h : LowKept s t) : LowKept s (t.setRpl x) := ⟨h.reg, h.cyc, h.tgt, h.boot⟩
protected theorem LowKept.setSaf {x : SafState} (h : LowKept s t) : LowKept s (t.setSaf x) := ⟨h.reg, h.cyc, h.tgt, h.boot⟩
protected theorem LowKept.setSteer {x : SteerState} (h : LowKept s t) : LowKept s (t.setSteer x) := ⟨h.reg, h.cyc, h.tgt, h.boot⟩
protected theorem LowKept.setTab {x : TabState} (h : LowKept s t) : LowKept s (t.setTab x) := ⟨h.reg, h.cyc, h.tgt, h.boot⟩
protected theorem LowKept.setUpd {x : UpdState} (h : LowKept s t) : LowKept s (t.setUpd x) := ⟨h.reg, h.cyc, h.tgt, h.boot⟩
protected theorem LowKept.setVlv {x : VlvState} (h : LowKept s t) : LowKept s (t.setVlv x) := ⟨h.reg, h.cyc, h.tgt, h.boot⟩
protected theorem LowKept.setByte {a : Nat} {b : Byte} (h : LowKept s t) : LowKept s (t.setByte a b) := ⟨h.reg, h.cyc, h.tgt, h.boot⟩

/-- A part of the mode controller's state other than where the boot goes. -/
protected theorem LowKept.setPm {x : PmState} (h : LowKept s t) (htgt : x.bootTgt = t.pm.bootTgt := by rfl) (hboot : x.bootCyc = t.pm.bootCyc := by rfl) :
    LowKept s (t.setPm x) := ⟨h.reg, h.cyc, htgt.trans h.tgt, hboot.trans h.boot⟩

protected theorem LowKept.ite {c : Prop} {inst : Decidable c} (ht : LowKept s t) (hu : LowKept s u) : LowKept s (if c then t else u) := by
  split
  · exact ht
  · exact hu

protected theorem LowKept.foldl {α : Type} {f : State → α → State} {l : List α} (h : LowKept s t) (hf : ∀ t x, LowKept s t → LowKept s (f t x)) :
    LowKept s (l.foldl f t) := by
  induction l generalizing t with
  | nil => exact h
  | cons x l ih => exact ih (hf t x h)

protected theorem LowKept.forN {f : State → Nat → State} {n : Nat} (h : LowKept s t) (hf : ∀ t k, LowKept s t → LowKept s (f t k)) :
    LowKept s (t.forN n f) := h.foldl hf

/-! ### Registers -/

protected theorem LowKept.setReg {a : Nat} {w : Word} (h : LowKept s t) (ha : 0x40060000 ≤ a := by decide) : LowKept s (t.setReg a w) :=
  ⟨fun b hb => (reg_setReg_other t a b w (by omega)).trans (h.reg b hb), h.cyc, h.tgt, h.boot⟩

protected theorem LowKept.setFld {f : Fld} {v : Nat} (h : LowKept s t) (hf : 0x40060000 ≤ f.addr := by decide) : LowKept s (t.setFld f v) := h.setReg hf

protected theorem LowKept.setFlag {f : Fld} {b : Bool} (h : LowKept s t) (hf : 0x40060000 ≤ f.addr := by decide) : LowKept s (t.setFlag f b) :=
  h.setReg hf

protected theorem LowKept.count {f : Fld} {n : Nat} (h : LowKept s t) (hf : 0x40060000 ≤ f.addr := by decide) : LowKept s (t.count f n) := h.setReg hf

/-- A register of a series lies above where the series begins. -/
theorem le_series {base x : Nat} (h : 0x40060000 ≤ base := by decide) : 0x40060000 ≤ base + x := Nat.le_add_right_of_le h

protected theorem LowKept.setBytes {a : Nat} {l : List Byte} (h : LowKept s t) : LowKept s (t.setBytes a l) := by
  induction l generalizing a t with
  | nil => exact h
  | cons b l ih => exact ih h.setByte

protected theorem LowKept.setWords {a : Nat} {l : List Word} (h : LowKept s t) : LowKept s (t.setWords a l) := by
  induction l generalizing a t with
  | nil => exact h
  | cons w l ih => exact ih h.setBytes

/-! ### Records (R493, R504, R514) -/

protected theorem LowKept.logLive {code src d0 d1 : Nat} (h : LowKept s t) : LowKept s (logLive t code src d0 d1) := by
  have hparts := (OnlyParts.refl logParts t).logLive (code := code) (src := src) (d0 := d0) (d1 := d1)
  have hclk : (Machine.logLive t code src d0 d1).clk = t.clk := hparts .clk (by simp)
  have hpm : (Machine.logLive t code src d0 d1).pm = t.pm := hparts .pm (by simp)
  exact ⟨fun a ha => (logLive_logged t code src d0 d1 a (.inl ha)).trans (h.reg a ha), (congrArg ClkState.cyc hclk).trans h.cyc,
    (congrArg PmState.bootTgt hpm).trans h.tgt, (congrArg PmState.bootCyc hpm).trans h.boot⟩

protected theorem LowKept.replayEvent {code src d0 d1 : Nat} (h : LowKept s t) : LowKept s (replayEvent t code src d0 d1) :=
  h.setWords.setRpl.count

protected theorem LowKept.logEvent {code src d0 d1 : Nat} (h : LowKept s t) : LowKept s (logEvent t code src d0 d1) := .ite h.replayEvent h.logLive

protected theorem LowKept.tabRec {type unit : Nat} {data : List Nat} (h : LowKept s t) : LowKept s (tabRec t type unit data) :=
  .ite (.ite h.setRpl h) (.ite (h.count le_series).setTab.setFld h)

protected theorem LowKept.tabEnd {reason : Nat} (h : LowKept s t) : LowKept s (tabEnd t reason) :=
  .ite h.tabRec.setTab.setFlag.setFld.logEvent h

protected theorem LowKept.debugClose {why : Nat} (h : LowKept s t) : LowKept s (debugClose t why) := .ite h.setReg.setUpd.logEvent h

/-! ### Load switches and the status strip (R430–R441) -/

protected theorem LowKept.lswOff {n : Nat} (h : LowKept s t) : LowKept s (lswOff t n) := .ite h.setLsw h.setLsw

protected theorem LowKept.lswShow {n : Nat} (h : LowKept s t) : LowKept s (lswShow t n) :=
  (((((h.setFld le_series).setFlag le_series).setFlag le_series).setFlag le_series).setFlag le_series).setReg.setReg.setReg

protected theorem LowKept.lswGates (h : LowKept s t) : LowKept s (lswGates t) := h.forN fun _ _ h => .lswShow (.ite h h.lswOff)

protected theorem LowKept.lswReset {bridge : Bool} (h : LowKept s t) : LowKept s (lswReset t bridge) :=
  h.forN fun _ _ h => .ite h.setLsw h.lswOff.setLsw

protected theorem LowKept.stripInterrupt (h : LowKept s t) : LowKept s (stripInterrupt t) := by
  unfold Machine.stripInterrupt
  dsimp only
  split
  · exact h.setBst.setFlag.count
  · exact h.setBst.setFlag.setFlag.count
  · exact h

protected theorem LowKept.stripSave (h : LowKept s t) : LowKept s (stripSave t) := .ite h.setBst.setBst h

/-! ### Valve channels (R400–R416) -/

protected theorem LowKept.vlvShow {n : Nat} (h : LowKept s t) : LowKept s (vlvShow t n) := by
  have hphase : LowKept s (if isGated t n then t else t.setFld (Fd.VLV_CH_STAT_PHASE n) (phaseOf t n)) := .ite h (h.setFld le_series)
  unfold Machine.vlvShow
  dsimp only
  refine LowKept.setFld ?_ le_series
  split
  · exact ((hphase.setFlag le_series).setFlag le_series).setFld le_series
  · exact (hphase.setFlag le_series).setFlag le_series

protected theorem LowKept.phaseDrop {n now : Nat} (h : LowKept s t) : LowKept s (phaseDrop t n now) := by
  unfold Machine.phaseDrop
  dsimp only
  split
  · exact h
  · exact h.setVlv.setVlv

protected theorem LowKept.chanOff {n now : Nat} (h : LowKept s t) : LowKept s (chanOff t n now) :=
  (h.phaseDrop.setVlv.setFld le_series).vlvShow

protected theorem LowKept.ctxStop {n : Nat} (h : LowKept s t) : LowKept s (ctxStop t n) := h.setVlv.vlvShow

protected theorem LowKept.ctxStart {n sub : Nat} (h : LowKept s t) : LowKept s (ctxStart t n sub) :=
  .ite (.vlvShow (.setVlv (.ite h h.setVlv))) h

protected theorem LowKept.chanCancel {n sub : Nat} (h : LowKept s t) : LowKept s (chanCancel t n sub) :=
  .ctxStop (.chanOff (.ite (h.setFld le_series) h))

protected theorem LowKept.vlvGate {n : Nat} (h : LowKept s t) : LowKept s (vlvGate t n) :=
  .ite h (.ite (.ctxStart (.vlvShow (h.setFld le_series))) (h.chanCancel.setFld le_series))

protected theorem LowKept.vlvGates (h : LowKept s t) : LowKept s (vlvGates t) :=
  LowKept.forN (h.forN fun _ _ h => h.vlvGate) fun _ _ h => .ite h h.setVlv

protected theorem LowKept.modeGates (h : LowKept s t) : LowKept s (modeGates t) := h.vlvGates.lswGates

/-! ### Functions, steering, the fleet radio (R201, R327, R348) -/

protected theorem LowKept.mfDisable {n : Nat} (h : LowKept s t) : LowKept s (mfDisable t n) :=
  .ite ((((h.setFlag le_series).setFld le_series).setFlag le_series).setMfp) (h.setFlag le_series)

protected theorem LowKept.safeStopFollows (h : LowKept s t) : LowKept s (safeStopFollows t) :=
  h.setSaf.forN fun _ _ h => h.mfDisable.setMfp

protected theorem LowKept.steerOn (h : LowKept s t) : LowKept s (steerOn t) := h.setSteer.setFlag.count

protected theorem LowKept.steerModeEnter (h : LowKept s t) : LowKept s (steerModeEnter t) := .setSteer (.ite h h.steerOn)

protected theorem LowKept.unloadPhase {old m : Nat} (h : LowKept s t) : LowKept s (unloadPhase t old m) := by
  unfold Machine.unloadPhase
  split
  · exact h.setFld.setFld
  · split
    · have hphase : LowKept s (if t.fld Fd.FLR_UNL_STAT_PHASE = 4 then t else t.setFld Fd.FLR_UNL_STAT_PHASE 0) := .ite h h.setFld
      exact hphase.setPm.setFlag.setFlr
    · exact h

protected theorem LowKept.fleetEnable (h : LowKept s t) : LowKept s (fleetEnable t) := by
  have hon : LowKept s (t.setFlag Fd.FLR_CFG_EN true) := h.setFlag
  have hok : LowKept s ((t.setFlag Fd.FLR_CFG_EN true).setFld Fd.FLR_STAT_CODE Code.ok) := hon.setFld
  exact .ite hon (.ite hon.setFld (.ite (.ite hok.setFlr.setFld.setFld hok.setFlr.setFld.setFld) hok))

/-! ### The beginning of a reset, and a mode commit -/

protected theorem LowKept.resetBegin {bridge : Bool} (h : LowKept s t) : LowKept s (resetBegin t bridge) :=
  h.tabEnd.debugClose.lswReset.stripInterrupt.stripSave

end

end Sys2Proof.Machine
end

section
/-! SUPPORT. Full module resets by source, start-up and wake (R35, R62, R65, R68, R70–R72, R75, R381, R446). -/

namespace Sys2Proof.Machine

/-! ### Where a reset may start -/

/-- Whether a reset may start is read from the mode, the power-fail sequence and RESET_REQ_N. -/
theorem mayReset_congr {s t : State} (hmode : t.mode = s.mode) (hpm : t.pm = s.pm) : mayReset t = mayReset s := by
  simp only [mayReset, State.powered, State.noPf, State.held, hmode, hpm]

theorem powered_of_mayReset {s : State} (h : mayReset s = true) : s.powered = true := by
  simp only [mayReset, Bool.and_eq_true] at h
  exact h.1.1

theorem fullReset_of_mayReset {s : State} (h : mayReset s = true) (cause : Nat) (bridge : Bool) :
    fullReset s cause bridge = warmReset s cause bridge := if_pos h

theorem fullReset_of_not {s : State} (h : mayReset s = false) (cause : Nat) (bridge : Bool) : fullReset s cause bridge = s :=
  if_neg (by simp [h])

/-! ### Reset sources (R35, R62, R75, R446) -/

/-- The loss of lock is counted. -/
def lossCounted (s : State) : State := s.count Fd.CLK_PLL_STAT_LOSSES

theorem mayReset_lossCounted (s : State) : mayReset (lossCounted s) = mayReset s :=
  mayReset_congr ((OnlyRegs.refl [Ra.CLK_PLL_STAT] s).count.fld_eq (by decide)) rfl

theorem exec_pllLossOfLock (s : State) :
    exec .pllLossOfLock s = if s.powered then .next (fullReset (lossCounted s) 4 true) else .next s := rfl

theorem exec_debugReset (s : State) : exec .debugReset s =
    if s.flag Fd.UPD_DBG_STAT_OPEN && s.flag Fd.UPD_DBG_STAT_SCOPE then .next (fullReset s 7 true) else .next s := rfl

theorem exec_thermalRecoveryReset (s : State) : exec .thermalRecoveryReset s =
    .next (if s.pm.hot && (hotSite s).isNone then fullReset s 9 false else s) := rfl

theorem debugReset_idle {s : State} (h : mayReset s = false) : Idle .debugReset s := by
  rw [Idle, exec_debugReset, fullReset_of_not h, ite_self]

theorem thermalRecoveryReset_idle {s : State} (h : mayReset s = false) : Idle .thermalRecoveryReset s := by
  rw [Idle, exec_thermalRecoveryReset, fullReset_of_not h, ite_self]

/-! #### LOCKSTEP_MISMATCH -/

protected theorem OnlyParts.setSaf {l : List Part} {s t : State} {x : SafState} (h : OnlyParts l s t) (hl : Part.saf ∈ l := by simp) :
    OnlyParts l s (t.setSaf x) := by
  refine h.trans fun p hp => ?_
  cases p
  case saf => exact absurd hl hp
  all_goals rfl

/-- The safety outputs go off, and the secure element's copy is set with cause 6. -/
def lockstepStopped (s : State) : State := (safOutsOff s).setSaf { (safOutsOff s).saf with seCopy := some (s.saf.seCopy.getD 6) }

theorem exec_lockstepMismatch (s : State) :
    exec .lockstepMismatch s = if s.powered then .next (fullReset (lockstepStopped s) 8 false) else .next s := rfl

/-- Every output is off, and none is wanted. -/
def safOutsLow (s : State) : State :=
  let u := s.forN 4 fun s k => s.setSafOut k { s.safOut k with on := false }
  u.setSaf { u.saf with soWant := 0 }

theorem safOutsLow_parts (s : State) : OnlyParts [.saf] s (safOutsLow s) :=
  ((OnlyParts.refl [.saf] s).foldl (fun _ _ h => h.setSaf) (List.range 4)).setSaf

theorem safOutsOff_frame (s : State) : OnlyRegs [Ra.SAF_STAT] s (safOutsOff s) ∧ OnlyParts [.regs, .saf] s (safOutsOff s) := by
  have hregs : OnlyRegs [Ra.SAF_STAT] s (safOutsLow s) := onlyRegs_of_regs_eq _ (safOutsLow_parts s .regs (by simp))
  have hparts := (safOutsLow_parts s).mono (l' := [.regs, .saf]) (by simp)
  rw [show safOutsOff s = safShowOuts (safOutsLow s) from rfl, safShowOuts]
  exact ⟨hregs.setFld.setFld, hparts.setFld.setFld⟩

theorem lockstepStopped_parts (s : State) : OnlyParts [.regs, .saf] s (lockstepStopped s) := (safOutsOff_frame s).2.setSaf

theorem mayReset_lockstepStopped (s : State) : mayReset (lockstepStopped s) = mayReset s := by
  have hregs : OnlyRegs [Ra.SAF_STAT] s (lockstepStopped s) := (safOutsOff_frame s).1.of_regs (State.setSaf_regs _ _)
  exact mayReset_congr (hregs.fld_eq (by decide)) (lockstepStopped_parts s .pm (by simp))

/-- The latch stays. -/
theorem safOutsLow_mram (s : State) : (safOutsLow s).saf.mram = s.saf.mram := by
  simp [safOutsLow, State.forN, List.range_succ, State.setSafOut]

theorem lockstepStopped_mram (s : State) : (lockstepStopped s).saf.mram = s.saf.mram := safOutsLow_mram s

theorem lockstepMismatch_resets {s : State} (h : mayReset s = true) : Gives .lockstepMismatch s (fun t => ∃ s', t = warmReset s' 8 false ∧
    s'.saf.seCopy = some (s.saf.seCopy.getD 6) ∧ s'.saf.mram = s.saf.mram ∧ OnlyParts [.regs, .saf] s s') := by
  refine ⟨warmReset (lockstepStopped s) 8 false, ?_, lockstepStopped s, rfl, rfl, lockstepStopped_mram s, lockstepStopped_parts s⟩
  rw [exec_lockstepMismatch, if_pos (powered_of_mayReset h), fullReset_of_mayReset ((mayReset_lockstepStopped s).trans h)]

/-! ### RESET_REQ_N (R65) -/

/-- RESET_REQ_N is low since `c`. -/
def lowSince (s : State) (c : Nat) : State := s.setPm { s.pm with rstLow := some c }

theorem lowSince_holds (s : State) (c : Nat) : (lowSince s c).held = true ∧ (lowSince s c).pm.rstLow = some c ∧ (lowSince s c).pending = s.pending :=
  ⟨rfl, rfl, rfl⟩

/-- The module begins a reset and stays in it. -/
def resetHeld (s : State) : State := modeGates (bootBase (resetBegin s true) 2 true none)

theorem exec_resetReqAssert (us : Word) (low : Bool) (s : State) : exec (.resetReqAssert us low) s =
    if s.held then (if low then .next s else .next (bootRun (s.setPm { s.pm with rstLow := none }) 2 []))
    else if us.toNat < 20 ∨ s.flag Fd.PWR_STAT_RST_STUCK = true ∨ mayReset s = false then .next s
    else if low then .next (lowSince (resetHeld s) ((resetHeld s).cyc - us.toNat * cycUs))
    else .next (warmReset s 2 true) := rfl

theorem resetHeld_cyc (s : State) : (resetHeld s).cyc = s.cyc := by
  have hboot : (bootBase (resetBegin s true) 2 true none).clk.cyc = (resetBegin s true).clk.cyc := rfl
  exact ((LowKept.refl _).modeGates.cyc.trans hboot).trans (LowKept.refl s).resetBegin.cyc

theorem resetHeld_pending (s : State) : (resetHeld s).pending = s.pending := (Keeps.refl s).resetBegin.bootBase.modeGates.pending

section
variable {s : State} {us : Word}

theorem resetReqAssert_ignored (low : Bool) (hheld : s.held = false) (h : us.toNat < 20 ∨ s.flag Fd.PWR_STAT_RST_STUCK = true ∨ mayReset s = false) :
    Idle (.resetReqAssert us low) s := by
  rw [Idle, exec_resetReqAssert, if_neg (by simp [hheld]), if_pos h]

theorem resetReqAssert_taken (low : Bool) (hheld : s.held = false) (hus : 20 ≤ us.toNat) (hstuck : s.flag Fd.PWR_STAT_RST_STUCK = false)
    (hmay : mayReset s = true) : exec (.resetReqAssert us low) s =
    if low then .next (lowSince (resetHeld s) ((resetHeld s).cyc - us.toNat * cycUs))
    else .next (warmReset s 2 true) := by
  rw [exec_resetReqAssert, if_neg (by simp [hheld]), if_neg (by simp [hstuck, hmay, hus])]

theorem resetReqAssert_holds (hheld : s.held = false) (hus : 20 ≤ us.toNat) (hstuck : s.flag Fd.PWR_STAT_RST_STUCK = false) (hmay : mayReset s = true) :
    Gives (.resetReqAssert us true) s (fun t => t.held = true ∧ t.pm.rstLow = some (s.cyc - us.toNat * cycUs) ∧ t.pending = s.pending) := by
  obtain ⟨hlow, hsince, hpend⟩ := lowSince_holds (resetHeld s) ((resetHeld s).cyc - us.toNat * cycUs)
  exact ⟨_, resetReqAssert_taken true hheld hus hstuck hmay, hlow, hsince.trans (by rw [resetHeld_cyc]), hpend.trans (resetHeld_pending s)⟩

end

theorem exec_resetReqStuck_of_none {s : State} (h : s.pm.rstLow = none) : exec .resetReqStuck s = .next s := by
  show execResetReqStuck s = _
  simp only [execResetReqStuck, h]

theorem exec_resetReqStuck {s : State} {c : Nat} (h : s.pm.rstLow = some c) : exec .resetReqStuck s =
    if s.since c (10 * cycS) then .next (logEvent ((bootRun ((s.setPm { s.pm with rstLow := none }).setFlag Fd.PWR_RST_CAUSE_STUCK true) 3 []).setFlag
      Fd.PWR_STAT_RST_STUCK true) Ev.resetStuck Src.unit 0 0) else .next s := by
  show execResetReqStuck s = _
  simp only [execResetReqStuck, h]

theorem since_iff (s : State) (t n : Nat) : s.since t n = true ↔ t + n ≤ s.cyc := decide_eq_true_iff

/-! ### Power and wake (R68, R71, R381) -/

theorem exec_powerApplied (bad : List (Byte × Half)) (parts : List (Byte × Byte)) (s : State) : exec (.powerApplied bad parts) s =
    if s.mode = Mode.off ∨ (s.mode = Mode.boot ∧ s.bootStep = 1 ∧ s.held = false) then
      .next (bootRun (bootBase (resetBegin (dropParts s parts) false) 0 false none) 0 (bad.map (fun x => (x.1.toNat, x.2.toNat))))
    else .next s := rfl

theorem exec_wakeInWake (aon : Long) (s : State) : exec (.wakeInWake aon) s =
    if s.mode = Mode.standby ∧ s.flag Fd.PWR_WAKE_CFG_WAKE_IN = true then .next (wakeUp s 1 aon.toNat) else .next s := rfl

theorem exec_aonTimerWake (aon : Long) (s : State) : exec (.aonTimerWake aon) s =
    if s.mode = Mode.standby ∧ s.flag Fd.PWR_WAKE_CFG_TIMER = true ∧ s.fld Fd.PWR_WAKE_TIMER_SECONDS ≠ 0 ∧
      s.fld Fd.PWR_WAKE_TIMER_SECONDS * 10 ^ 9 ≤ aon.toNat then .next (wakeUp s 3 aon.toNat) else .next s := rfl

theorem exec_canSelectiveWake (c : Fin 6) (id : Word) (dlc : Fin 16) (data : List Byte) (err : Bool) (aon : Long) (s : State) :
    exec (.canSelectiveWake c id dlc data err aon) s =
    if s.mode = Mode.standby ∧ bit (s.fld Fd.PWR_WAKE_CFG_CAN) c = true ∧ (err || wakeFrame s c id dlc data) = true then
      .next (if err then (wakeUp s 2 aon.toNat).setFlag (Fd.CAN_STAT_WAKE_ERR c) true else wakeUp s 2 aon.toNat)
    else .next s := rfl

/-! ### A mode commit and the end of the boot (R53, R70, R560) -/

/-- SYS_MODE_STAT shows mode `m`, after the one before it. -/
def modeShown (s : State) (m : Nat) : State := (s.setFld Fd.SYS_MODE_STAT_PREV s.mode).setFld Fd.SYS_MODE_STAT_MODE m

/-- Functions, steering and the debug port follow a mode change. -/
def modeFollowed (s : State) (old m : Nat) : State :=
  let u := if m = Mode.safeStop then safeStopFollows s else s
  let u := if driverless m then steerModeEnter u else u
  if old = Mode.service then debugClose u 3 else u

/-- SYS_MODE_STAT shows the mode, and UNLOAD_SYNC begins or ends. -/
def modeEntered (s : State) (m : Nat) : State :=
  unloadPhase ((modeShown s m).setPm { s.pm with exit := false, orig := if m = Mode.unloadSync then s.mode else s.pm.orig }) s.mode m

theorem modeCommit_eq (s : State) (m : Nat) : modeCommit s m =
    modeGates (logEvent (tabRec (modeFollowed (modeEntered s m) s.mode m) TabT.out modeKey [m]) Ev.modeChange Src.mirror (m * 16 + s.mode) 0) := rfl

protected theorem LowKept.modeFollowed {s t : State} {old m : Nat} (h : LowKept s t) : LowKept s (modeFollowed t old m) := by
  have hsafe : LowKept s (if m = Mode.safeStop then safeStopFollows t else t) := .ite h.safeStopFollows h
  have hsteer : LowKept s (if driverless m then steerModeEnter (if m = Mode.safeStop then safeStopFollows t else t)
    else if m = Mode.safeStop then safeStopFollows t else t) := .ite hsafe.steerModeEnter hsafe
  exact .ite hsteer.debugClose hsteer

/-- What follows a mode change leaves what SYS_MODE_STAT shows. -/
theorem modeCommit_lowKept (s : State) (m : Nat) : LowKept (modeShown s m) (modeCommit s m) := by
  have hentered : LowKept (modeShown s m) (modeEntered s m) := LowKept.unloadPhase (LowKept.setPm (.refl (modeShown s m)))
  rw [modeCommit_eq]
  exact hentered.modeFollowed.tabRec.logEvent.modeGates

theorem modeShown_mode {s : State} (m : Nat) (hw : RegStore.wf s.regs = true) : (modeShown s m).mode = m % 16 :=
  fld_setFld_same _ Fd.SYS_MODE_STAT_MODE m (setFld_wf s _ _ hw) (by decide)

theorem modeShown_onlyRegs (s : State) (m : Nat) : OnlyRegs [Ra.SYS_MODE_STAT] s (modeShown s m) := (OnlyRegs.refl _ s).setFld.setFld

/-- The last boot step shows, and no boot runs. -/
def bootShown (s : State) : State := (s.setFld Fd.PWR_STAT_STEP 0xF).setPm { s.pm with bootCyc := none }

theorem bootEnd_lowKept (s : State) :
    LowKept (modeShown (bootShown s) (if s.locked then Mode.safeStop else s.pm.bootTgt)) (bootEnd s) := by
  have hcommit := modeCommit_lowKept (bootShown s) (if s.locked then Mode.safeStop else s.pm.bootTgt)
  exact .ite hcommit.fleetEnable hcommit

theorem bootEnd_shows {s : State} (hw : RegStore.wf s.regs = true) :
    (bootEnd s).mode = (if s.locked then Mode.safeStop else s.pm.bootTgt) % 16 ∧ (bootEnd s).fld Fd.PWR_STAT_STEP = 0xF ∧
      (bootEnd s).pm.bootCyc = none := by
  have hend := bootEnd_lowKept s
  have hboot : RegStore.wf (bootShown s).regs = true := setFld_wf s _ _ hw
  have hstep : (bootShown s).fld Fd.PWR_STAT_STEP = 0xF := fld_setFld_same s Fd.PWR_STAT_STEP 0xF hw (by decide)
  refine ⟨hend.mode_eq.trans (modeShown_mode _ hboot), ?_, hend.boot⟩
  exact ((hend.fld_eq (by decide)).trans ((modeShown_onlyRegs _ _).fld_eq (by decide))).trans hstep

/-- The measurement at boot step 9 changes neither the safety state nor where the boot goes. -/
theorem reserveMeasured_parts (s : State) (res cap : Nat) : OnlyParts logParts s (reserveMeasured s res cap) := by
  have hshow : OnlyParts logParts s ((((s.setFld Fd.PWR_STAT_RESERVE_J res).setFlag Fd.PWR_STAT_RESERVE_OK (decide (3000 ≤ res))).setFld
      Fd.PWR_RSV_STAT_CAP_UF cap).setFlag Fd.PWR_RSV_STAT_LOW (decide (res < 3300))) := (OnlyParts.refl _ s).setFld.setFlag.setFld.setFlag
  refine .ite ?_ hshow
  rw [logEvent_outside res 0 (by decide)]
  exact hshow.logLive

theorem bootComplete_shows {s : State} (res cap : Nat) (hc : s.canonical) :
    (bootEnd (reserveMeasured s res cap)).mode = (if s.locked then Mode.safeStop else s.pm.bootTgt % 16) ∧
      (bootEnd (reserveMeasured s res cap)).fld Fd.PWR_STAT_STEP = 0xF ∧ (bootEnd (reserveMeasured s res cap)).pm.bootCyc = none := by
  have hkept : (reserveMeasured s res cap).Canon := (Keeps.refl s).reserveMeasured.canon ((canonical_iff_canon s).mp hc)
  have hpm : (reserveMeasured s res cap).pm = s.pm := reserveMeasured_parts s res cap .pm (by simp)
  have hsaf : (reserveMeasured s res cap).saf = s.saf := reserveMeasured_parts s res cap .saf (by simp)
  have hlock : (reserveMeasured s res cap).locked = s.locked := by rw [State.locked, State.locked, hsaf]
  obtain ⟨hmode, hrest⟩ := bootEnd_shows hkept.regs
  refine ⟨hmode.trans ?_, hrest⟩
  rw [hlock, hpm]
  exact apply_ite (· % 16) _ Mode.safeStop _

theorem exec_bootComplete {s : State} {res : Half} (cap : Half) (failed : Option (Fin 16)) (h : s.mode = Mode.boot ∧ s.bootStep = 8 ∧ s.atFrame = true ∧
    s.noPf = true ∧ 3000 ≤ res.toNat ∧ s.flag Fd.PWR_STAT_RESERVE_FAIL = false) : exec (.bootComplete res cap failed) s =
    .next (bootEnd (match failed with
      | some x => lockOut (reserveMeasured s res.toNat cap.toNat) 11 x
      | none => reserveMeasured s res.toNat cap.toNat)) := if_pos h

theorem exec_reserveTimeout_of_none {s : State} (h : s.pm.bootCyc = none) : exec .reserveTimeout s = .next s := by
  show Host.Outcome.next (reserveTick s) = _
  simp only [reserveTick, h]

theorem exec_reserveTimeout {s : State} {c : Nat} (h : s.pm.bootCyc = some c) : exec .reserveTimeout s = .next (
    if s.mode = Mode.boot ∧ s.since c (5 * cycS) = true ∧ s.flag Fd.PWR_STAT_RESERVE_FAIL = false ∧ s.flag Fd.PWR_STAT_RESERVE_OK = false then
      logEvent (s.setFlag Fd.PWR_STAT_RESERVE_FAIL true) Ev.reserveFail Src.unit (s.fld Fd.PWR_STAT_RESERVE_J) 0
    else s) := by
  show Host.Outcome.next (reserveTick s) = _
  simp only [reserveTick, h]

end Sys2Proof.Machine
end

section
/-! PROOF. Full resets, start-up and wake (R35, R62, R65, R68, R70–R72, R75, R381, R446). -/

namespace Sys2Proof.Machine

/-! ### A wake -/

section
variable (aon : Long) (s : State)

theorem wakeInWake_wakes : (s.mode = Mode.standby → s.flag Fd.PWR_WAKE_CFG_WAKE_IN = true → exec (.wakeInWake aon) s = .next (wakeUp s 1 aon.toNat)) ∧
    (s.mode ≠ Mode.standby ∨ s.flag Fd.PWR_WAKE_CFG_WAKE_IN = false → Idle (.wakeInWake aon) s) := by
  constructor
  · intro hmode hcfg
    exact (exec_wakeInWake aon s).trans (if_pos ⟨hmode, hcfg⟩)
  · intro h
    refine (exec_wakeInWake aon s).trans (if_neg fun ⟨hmode, hcfg⟩ => ?_)
    simp [hmode, hcfg] at h

theorem aonTimerWake_wakes :
    (s.mode = Mode.standby → s.flag Fd.PWR_WAKE_CFG_TIMER = true → s.fld Fd.PWR_WAKE_TIMER_SECONDS ≠ 0 →
      s.fld Fd.PWR_WAKE_TIMER_SECONDS * 10 ^ 9 ≤ aon.toNat → exec (.aonTimerWake aon) s = .next (wakeUp s 3 aon.toNat)) ∧
    (s.mode ≠ Mode.standby ∨ s.flag Fd.PWR_WAKE_CFG_TIMER = false ∨ aon.toNat < s.fld Fd.PWR_WAKE_TIMER_SECONDS * 10 ^ 9 →
      Idle (.aonTimerWake aon) s) := by
  constructor
  · intro hmode hcfg hset hdue
    exact (exec_aonTimerWake aon s).trans (if_pos ⟨hmode, hcfg, hset, hdue⟩)
  · intro h
    refine (exec_aonTimerWake aon s).trans (if_neg fun ⟨hmode, hcfg, _, hdue⟩ => ?_)
    rcases h with h | h | h
    · exact h hmode
    · simp [hcfg] at h
    · exact Nat.not_lt_of_le hdue h

theorem canSelectiveWake_wakes (c : Fin 6) (id : Word) (dlc : Fin 16) (data : List Byte) :
    (s.mode = Mode.standby → bit (s.fld Fd.PWR_WAKE_CFG_CAN) c = true →
      (wakeFrame s c id dlc data = true → exec (.canSelectiveWake c id dlc data false aon) s = .next (wakeUp s 2 aon.toNat)) ∧
      (wakeFrame s c id dlc data = false → Idle (.canSelectiveWake c id dlc data false aon) s) ∧
      exec (.canSelectiveWake c id dlc data true aon) s = .next ((wakeUp s 2 aon.toNat).setFlag (Fd.CAN_STAT_WAKE_ERR c) true)) ∧
    (∀ err, s.mode ≠ Mode.standby ∨ bit (s.fld Fd.PWR_WAKE_CFG_CAN) c = false → Idle (.canSelectiveWake c id dlc data err aon) s) := by
  have hexec := fun err => exec_canSelectiveWake c id dlc data err aon s
  refine ⟨fun hmode hcfg => ⟨fun hframe => ?_, fun hframe => ?_, ?_⟩, fun err h => ?_⟩
  · exact (hexec false).trans (if_pos ⟨hmode, hcfg, hframe⟩)
  · exact (hexec false).trans (if_neg fun ⟨_, _, hwake⟩ => by simp [hframe] at hwake)
  · exact (hexec true).trans (if_pos ⟨hmode, hcfg, rfl⟩)
  · refine (hexec err).trans (if_neg fun ⟨hmode, hcfg, _⟩ => ?_)
    simp [hmode, hcfg] at h

end

/-! ### Sources of a reset, and the reserve -/

section
variable {s : State}

theorem pllLossOfLock_resets (h : mayReset s = true) : exec .pllLossOfLock s = .next (warmReset (lossCounted s) 4 true) := by
  rw [exec_pllLossOfLock, if_pos (powered_of_mayReset h), fullReset_of_mayReset ((mayReset_lossCounted s).trans h)]

theorem pllLossOfLock_counts (h : mayReset s = false) (hp : s.powered = true) : exec .pllLossOfLock s = .next (lossCounted s) := by
  rw [exec_pllLossOfLock, if_pos hp, fullReset_of_not ((mayReset_lossCounted s).trans h)]

theorem debugReset_resets (h : mayReset s = true) (hopen : s.flag Fd.UPD_DBG_STAT_OPEN = true) (hscope : s.flag Fd.UPD_DBG_STAT_SCOPE = true) :
    exec .debugReset s = .next (warmReset s 7 true) := by
  rw [exec_debugReset, if_pos (by simp [hopen, hscope]), fullReset_of_mayReset h]

theorem debugReset_closed (h : s.flag Fd.UPD_DBG_STAT_OPEN = false ∨ s.flag Fd.UPD_DBG_STAT_SCOPE = false) : Idle .debugReset s :=
  (exec_debugReset s).trans (if_neg (by rcases h with h | h <;> simp [h]))

theorem thermalRecoveryReset_resets (h : mayReset s = true) (hhot : s.pm.hot = true) (hsite : hotSite s = none) :
    exec .thermalRecoveryReset s = .next (warmReset s 9 false) := by
  rw [exec_thermalRecoveryReset, if_pos (by simp [hhot, hsite]), fullReset_of_mayReset h]

theorem reserveTimeout_idle {c : Nat} (hc : s.pm.bootCyc = some c) (h : s.mode ≠ Mode.boot ∨ s.cyc < c + 5 * cycS ∨
    s.flag Fd.PWR_STAT_RESERVE_FAIL = true ∨ s.flag Fd.PWR_STAT_RESERVE_OK = true) : Idle .reserveTimeout s := by
  rw [Idle, exec_reserveTimeout hc, if_neg]
  rintro ⟨hmode, hlate, hfail, hok⟩
  have hdue := (since_iff s c _).mp hlate
  rcases h with h | h | h | h
  · exact h hmode
  · omega
  · simp [hfail] at h
  · simp [hok] at h

end

/-- Settles O31, source by source: what each command's branches say, and what a mode commit leaves at the end of the boot (`modeCommit_lowKept`). -/
theorem resetsAndStart : Obligations.ResetsAndStart := by
  unfold Obligations.ResetsAndStart
  refine ⟨⟨fun s h => ?_, fun s h => ?_, fun s h => ?_, fun s h => debugReset_closed h, fun us s hheld => ?_, fun us s hheld => ?_,
      fun s h => exec_resetReqStuck_of_none h, fun s c hc => ?_, fun s => rfl⟩,
    fun bad parts s => ?_, fun aon s => ?_, fun res cap s hc hmode hstep hframe hpf hres hfail => ?_, fun s h => exec_reserveTimeout_of_none h,
    fun s c hc => ?_⟩
  · exact ⟨pllLossOfLock_resets h, congrArg Host.Outcome.next (fullReset_of_mayReset h 5 true), debugReset_resets h, thermalRecoveryReset_resets h,
      lockstepMismatch_resets h⟩
  · exact ⟨congrArg Host.Outcome.next (fullReset_of_not h 5 true), debugReset_idle h, thermalRecoveryReset_idle h, pllLossOfLock_counts h⟩
  · exact ⟨(exec_pllLossOfLock s).trans (if_neg (by simp [h])), (exec_lockstepMismatch s).trans (if_neg (by simp [h]))⟩
  · exact ⟨fun h => ⟨resetReqAssert_ignored true hheld h, resetReqAssert_ignored false hheld h⟩,
      fun hus hstuck hmay => ⟨resetReqAssert_taken false hheld hus hstuck hmay, resetReqAssert_holds hheld hus hstuck hmay⟩⟩
  · exact ⟨(exec_resetReqAssert us false s).trans (if_pos hheld), (exec_resetReqAssert us true s).trans (if_pos hheld)⟩
  · refine ⟨fun hlate => ⟨_, (exec_resetReqStuck hc).trans (if_pos ((since_iff s c _).mpr hlate)), _, rfl, rfl⟩, fun hearly => ?_⟩
    exact (exec_resetReqStuck hc).trans (if_neg fun h => Nat.not_lt_of_le ((since_iff s c _).mp h) hearly)
  · refine ⟨fun h => (exec_powerApplied bad parts s).trans (if_pos h), fun hoff hboot => (exec_powerApplied bad parts s).trans (if_neg ?_)⟩
    simp [hoff, hboot]
  · obtain ⟨hin, hinIdle⟩ := wakeInWake_wakes aon s
    obtain ⟨htimer, htimerIdle⟩ := aonTimerWake_wakes aon s
    exact ⟨hin, hinIdle, htimer, htimerIdle, canSelectiveWake_wakes aon s⟩
  · have hboot := fun failed => exec_bootComplete cap failed ⟨hmode, hstep, hframe, hpf, hres, hfail⟩
    exact ⟨hboot none, ⟨_, hboot none, bootComplete_shows _ _ hc⟩, fun x => hboot (some x)⟩
  · refine ⟨fun hmode hlate hfail hok => ?_, reserveTimeout_idle hc⟩
    rw [exec_reserveTimeout hc, if_pos ⟨hmode, (since_iff s c _).mpr hlate, hfail, hok⟩]

end Sys2Proof.Machine
end

section
/-! SUPPORT. What a field shows along a chain of updates. -/

namespace Sys2Proof.Machine

/-- The register store is in canonical form, and a field shows a number. -/
structure Shows (f : Fld) (v : Nat) (s : State) : Prop where
  wf : RegStore.wf s.regs = true
  fld : s.fld f = v

/-- Field `f` lies within its register, and shares no bit with `g`. -/
def Fld.apart (f g : Fld) : Bool := Nat.ble (f.lo + f.width) 32 && (Nat.ble (g.lo + g.width) f.lo || Nat.ble (f.lo + f.width) g.lo)

section
variable {s : State} {f g : Fld} {v w : Nat}

theorem Shows.flag {b : Bool} (h : Shows f (b2n b) s) : s.flag f = b := by
  rw [State.flag, h.fld]
  cases b <;> rfl

/-- Before a chain of updates. -/
theorem Shows.start (hw : RegStore.wf s.regs = true) : Shows f (s.fld f) s := ⟨hw, rfl⟩

theorem Shows.of_regs {t : State} (h : Shows f v s) (e : t.regs = s.regs) : Shows f v t :=
  ⟨e ▸ h.wf, ((onlyRegs_of_regs_eq [] e).fld_eq (by simp)).trans h.fld⟩

/-- The field that is set shows its number. -/
theorem Shows.set (hw : RegStore.wf s.regs = true) (hv : v % 2 ^ f.width = w := by rfl) (hf : Nat.ble (f.lo + f.width) 32 = true := by rfl) :
    Shows f w (s.setFld f v) :=
  ⟨setFld_wf s f v hw, (fld_setFld_same s f v hw (Nat.le_of_ble_eq_true hf)).trans hv⟩

theorem Shows.setB {b : Bool} (hw : RegStore.wf s.regs = true) (hf : Nat.ble (f.lo + f.width) 32 = true := by rfl) (hone : f.width = 1 := by rfl) :
    Shows f (b2n b) (s.setFlag f b) := by
  refine ⟨setFld_wf s f _ hw, (fld_setFld_same s f _ hw (Nat.le_of_ble_eq_true hf)).trans ?_⟩
  rw [hone]
  cases b <;> rfl

/-- A field apart from it is set. -/
protected theorem Shows.setFld (h : Shows f v s) (hg : g.apart f = true := by rfl) : Shows f v (s.setFld g w) := by
  simp only [Fld.apart, Bool.and_eq_true, Bool.or_eq_true, Nat.ble_eq] at hg
  obtain ⟨hg, hd⟩ := hg
  exact ⟨setFld_wf s g w h.wf, (fld_setFld_other s g f w h.wf hg (.inr hd)).trans h.fld⟩

protected theorem Shows.setFlag {b : Bool} (h : Shows f v s) (hg : g.apart f = true := by rfl) : Shows f v (s.setFlag g b) := h.setFld hg

/-- Another register is set. -/
theorem Shows.otherFld (h : Shows f v s) (ha : f.addr ≠ g.addr := by decide) : Shows f v (s.setFld g w) :=
  ⟨setFld_wf s g w h.wf, ((setFld_onlyRegs s g w).fld_eq (by simpa using ha)).trans h.fld⟩

theorem Shows.elsewhere {a : Nat} {x : Word} (h : Shows f v s) (ha : f.addr ≠ a := by decide) : Shows f v (s.setReg a x) :=
  ⟨setReg_wf s a x h.wf, ((setReg_onlyRegs s a x).fld_eq (by simpa using ha)).trans h.fld⟩

end

end Sys2Proof.Machine
end

section
/-! PROOF. Mode requests and their ends (R30, R55–R57). -/

namespace Sys2Proof.Machine

/-! ### Mode requests and their ends (R30, R55, R57) -/

section
variable (s : State) (code : Nat)

/-- A request ends in SYS_MODE_STAT. -/
theorem modeResult_onlyRegs : OnlyRegs [Ra.SYS_MODE_STAT] s (modeResult s code) :=
  OnlyRegs.setFld (.setFld (.setFlag (.of_regs (.refl _ s) rfl)))

theorem modeResult_onlyParts : OnlyParts [.regs, .pm] s (modeResult s code) :=
  OnlyParts.setFld (.setFld (.setFlag ((setPm_onlyParts s _).mono (by simp))))

theorem modeResult_shows (hw : RegStore.wf s.regs = true) :
    Shows Fd.SYS_MODE_STAT_PENDING (b2n false) (modeResult s code) ∧ Shows Fd.SYS_MODE_STAT_TARGET 0 (modeResult s code) ∧
      Shows Fd.SYS_MODE_STAT_RESULT (code % 2 ^ 16) (modeResult s code) ∧ Shows Fd.SYS_MODE_STAT_MODE s.mode (modeResult s code) := by
  have hpm : ∀ x, RegStore.wf (s.setPm x).regs = true := fun _ => hw
  have htgt : ∀ x, RegStore.wf ((s.setPm x).setFlag Fd.SYS_MODE_STAT_PENDING false).regs = true := fun _ => setFlag_wf _ _ _ hw
  refine ⟨?_, ?_, ?_, ?_⟩
  · exact .setFld (.setFld (.setB (hpm _)))
  · exact .setFld (.set (htgt _))
  · exact .set (setFld_wf _ _ _ (htgt _))
  · exact .setFld (.setFld (.setFlag (.of_regs (.start hw) rfl)))

/-- A request that finds another one pending is turned away. -/
def modeRefused : State := s.setFld Fd.SYS_MODE_STAT_RESULT Code.refused

/-- A request waits for its check. -/
def modeAsked (target : Nat) : State := (s.setFlag Fd.SYS_MODE_STAT_PENDING true).setFld Fd.SYS_MODE_STAT_TARGET target

theorem modeRequest_pending (v : Word) (h : s.flag Fd.SYS_MODE_STAT_PENDING = true) : modeRequest s v = modeRefused s := if_pos h

theorem modeRequest_idle (v : Word) (h : s.flag Fd.SYS_MODE_STAT_PENDING = false) :
    modeRequest s v = modeAsked (tabCmd s Ra.SYS_MODE_REQ [v.toNat]) (bits v.toNat 0 4) := if_neg (by simp [h])

variable {s}

theorem modeAsked_shows (hw : RegStore.wf s.regs = true) {target : Nat} (ht : target < 16) :
    Shows Fd.SYS_MODE_STAT_PENDING (b2n true) (modeAsked s target) ∧ Shows Fd.SYS_MODE_STAT_TARGET target (modeAsked s target) ∧
      Shows Fd.SYS_MODE_STAT_RESULT (s.fld Fd.SYS_MODE_STAT_RESULT) (modeAsked s target) ∧ Shows Fd.SYS_MODE_STAT_MODE s.mode (modeAsked s target) :=
  ⟨.setFld (.setB hw), .set (setFlag_wf _ _ _ hw) (Nat.mod_eq_of_lt ht), .setFld (.setFlag (.start hw)), .setFld (.setFlag (.start hw))⟩

theorem modeRefused_shows (hw : RegStore.wf s.regs = true) :
    Shows Fd.SYS_MODE_STAT_RESULT Code.refused (modeRefused s) ∧ Shows Fd.SYS_MODE_STAT_PENDING (s.fld Fd.SYS_MODE_STAT_PENDING) (modeRefused s) ∧
      Shows Fd.SYS_MODE_STAT_TARGET (s.fld Fd.SYS_MODE_STAT_TARGET) (modeRefused s) ∧ Shows Fd.SYS_MODE_STAT_MODE s.mode (modeRefused s) :=
  ⟨.set hw, .setFld (.start hw), .setFld (.start hw), .setFld (.start hw)⟩

/-- The recorder's capture of a command leaves SYS_MODE_STAT. -/
theorem tabCmd_modeStat (s : State) (unit : Nat) (data : List Nat) {f : Fld} (hf : f.addr = Ra.SYS_MODE_STAT) :
    (tabCmd s unit data).fld f = s.fld f := (tabCmd_onlyRegs s unit data).fld_eq (by rw [hf]; decide)

/-- What a request leaves that finds none pending (R55). -/
theorem modeRequest_asks (v : Word) (hw : RegStore.wf s.regs = true) (h : s.flag Fd.SYS_MODE_STAT_PENDING = false) :
    let t := modeRequest s v
    t.flag Fd.SYS_MODE_STAT_PENDING = true ∧ t.fld Fd.SYS_MODE_STAT_TARGET = bits v.toNat 0 4 ∧ t.mode = s.mode ∧
      t.fld Fd.SYS_MODE_STAT_RESULT = s.fld Fd.SYS_MODE_STAT_RESULT ∧ OnlyRegs (Ra.SYS_MODE_STAT :: captureRegs) s t ∧ OnlyParts [.regs, .tab] s t := by
  have hrec := (tabCmd_onlyRegs s Ra.SYS_MODE_REQ [v.toNat]).mono (List.subset_cons_self Ra.SYS_MODE_STAT _)
  obtain ⟨hpend, htgt, hres, hmode⟩ := modeAsked_shows (tabCmd_wf s Ra.SYS_MODE_REQ [v.toNat] hw) (bits_lt v.toNat 0 4)
  rw [modeRequest_idle s v h]
  exact ⟨hpend.flag, htgt.fld, hmode.fld.trans (tabCmd_modeStat s _ _ rfl), hres.fld.trans (tabCmd_modeStat s _ _ rfl),
    hrec.setFlag.setFld, (tabCmd_onlyParts s _ _).setFlag.setFld⟩

/-- What a request leaves that finds another one pending (R55). -/
theorem modeRequest_refuses (v : Word) (hw : RegStore.wf s.regs = true) (h : s.flag Fd.SYS_MODE_STAT_PENDING = true) :
    let t := modeRequest s v
    t.fld Fd.SYS_MODE_STAT_RESULT = Code.refused ∧ t.flag Fd.SYS_MODE_STAT_PENDING = true ∧
      t.fld Fd.SYS_MODE_STAT_TARGET = s.fld Fd.SYS_MODE_STAT_TARGET ∧ t.mode = s.mode ∧ OnlyRegs [Ra.SYS_MODE_STAT] s t ∧ OnlyParts [.regs] s t := by
  obtain ⟨hres, hpend, htgt, hmode⟩ := modeRefused_shows hw
  rw [modeRequest_pending s v h]
  exact ⟨hres.fld, (congrArg (· == 1) hpend.fld).trans h, htgt.fld, hmode.fld, (OnlyRegs.refl _ s).setFld, setFld_onlyParts s _ _⟩

/-! ### A mode that is committed (R53, R56, R57) -/

/-- SYS_MODE_STAT shows the mode and the one before it, and keeps how a request ended. -/
theorem modeCommit_shows (hw : RegStore.wf s.regs = true) {m : Nat} (hm : m < 16) :
    (modeCommit s m).mode = m ∧ (modeCommit s m).fld Fd.SYS_MODE_STAT_PREV = s.mode ∧
      (modeCommit s m).flag Fd.SYS_MODE_STAT_PENDING = s.flag Fd.SYS_MODE_STAT_PENDING ∧
      (modeCommit s m).fld Fd.SYS_MODE_STAT_RESULT = s.fld Fd.SYS_MODE_STAT_RESULT := by
  have hlow := modeCommit_lowKept s m
  have hprev : Shows Fd.SYS_MODE_STAT_PREV s.mode (modeShown s m) := .setFld (.set hw (Nat.mod_eq_of_lt (bits_lt _ _ 4)))
  have hpend : Shows Fd.SYS_MODE_STAT_PENDING (s.fld Fd.SYS_MODE_STAT_PENDING) (modeShown s m) := .setFld (.setFld (.start hw))
  have hres : Shows Fd.SYS_MODE_STAT_RESULT (s.fld Fd.SYS_MODE_STAT_RESULT) (modeShown s m) := .setFld (.setFld (.start hw))
  refine ⟨(hlow.mode_eq.trans (modeShown_mode m hw)).trans (Nat.mod_eq_of_lt hm), (hlow.fld_eq (by decide)).trans hprev.fld, ?_,
    (hlow.fld_eq (by decide)).trans hres.fld⟩
  exact congrArg (· == 1) ((hlow.fld_eq (by decide)).trans hpend.fld)

theorem modeDisplace_idle (h : s.flag Fd.SYS_MODE_STAT_PENDING = false) : modeDisplace s = s := if_neg (by simp [h])

theorem modeDisplace_pending (h : s.flag Fd.SYS_MODE_STAT_PENDING = true) : modeDisplace s = modeResult s Code.refused := if_pos h

end

/-- Settles O33, by what `modeAsked`, `modeRefused` and `modeResult` show in SYS_MODE_STAT. -/
theorem modeRequests : Obligations.ModeRequests := by
  unfold Obligations.ModeRequests
  refine ⟨fun v s hc => ⟨fun h => ⟨_, rfl, modeRequest_asks v hc.regs_wf h⟩, fun h => ⟨_, rfl, modeRequest_refuses v hc.regs_wf h⟩⟩,
    fun s code hc hcode => ?_⟩
  obtain ⟨hpend, htgt, hres, hmode⟩ := modeResult_shows s code hc.regs_wf
  exact ⟨hpend.flag, htgt.fld, hres.fld.trans (Nat.mod_eq_of_lt hcode), hmode.fld, modeResult_onlyRegs s code, modeResult_onlyParts s code⟩

/-- Settles O34: the commit keeps what `modeDisplace` has shown of the pending request. -/
theorem islandPrecedence : Obligations.IslandPrecedence := by
  unfold Obligations.IslandPrecedence
  intro s m hc hm
  by_cases h : s.flag Fd.SYS_MODE_STAT_PENDING = true
  · obtain ⟨hpend, -, hres, hmode⟩ := modeResult_shows s Code.refused hc.regs_wf
    obtain ⟨htop, hprev, hpend', hres'⟩ := modeCommit_shows hpend.wf hm
    rw [modeOwn, modeDisplace_pending h]
    exact ⟨htop, hprev.trans hmode.fld, fun _ => ⟨hpend'.trans hpend.flag, hres'.trans hres.fld⟩⟩
  · obtain ⟨htop, hprev, -⟩ := modeCommit_shows hc.regs_wf hm
    rw [modeOwn, modeDisplace_idle (by simpa using h)]
    exact ⟨htop, hprev, fun hp => absurd hp h⟩

end Sys2Proof.Machine
end

section
/-! PROOF. The Mirror pair's check of a mode request, and the module's own STANDBY (R56, R58, R66–R68). -/

namespace Sys2Proof.Machine

/-! ### The functions that a transition ramps (R201) -/

section
variable {s t : State}

protected theorem OnlyParts.setPm {l : List Part} {x : PmState} (h : OnlyParts l s t) (hl : Part.pm ∈ l := by simp) : OnlyParts l s (t.setPm x) :=
  h.trans ((setPm_onlyParts t x).mono (by simpa using hl))

protected theorem OnlyParts.setMfp {l : List Part} {x : MfpState} (h : OnlyParts l s t) (hl : Part.mfp ∈ l := by simp) :
    OnlyParts l s (t.setMfp x) := by
  refine h.trans fun p hp => ?_
  cases p
  case mfp => exact absurd hl hp
  all_goals rfl

protected theorem OnlyParts.setFlr {l : List Part} {x : FlrState} (h : OnlyParts l s t) (hl : Part.flr ∈ l := by simp) :
    OnlyParts l s (t.setFlr x) := by
  refine h.trans fun p hp => ?_
  cases p
  case flr => exact absurd hl hp
  all_goals rfl

protected theorem OnlyParts.mfClear (h : OnlyParts [.regs, .mfp, .pm] s t) (l : List Nat) : OnlyParts [.regs, .mfp, .pm] s (mfClear t l) :=
  h.foldl (fun _ _ hu => .ite hu.setFlag.setFld.setFlag.setMfp hu.setFlag) l

protected theorem LowKept.mfClear (h : LowKept s t) (l : List Nat) : LowKept s (mfClear t l) := h.foldl fun _ _ hu => hu.mfDisable

end

/-! ### The check (R56, R58) -/

/-- What the check does with a request whose transition is in the table and whose conditions hold. -/
def modeAccept (s : State) (new : Nat) : State :=
  if new = Mode.standby then
    if stationary s then standbyStart s
    else (s.setFld Fd.SYS_MODE_STAT_RESULT Code.deferred).setPm { s.pm with deferred := true }
  else modeRamp s s.mode new

section
variable {s : State} {new : Nat} {ack : Bool}

theorem modeCheck_outside (h : inTable s s.mode (s.fld Fd.SYS_MODE_STAT_TARGET) = false) : modeCheck s ack = modeResult s Code.badArgument :=
  if_pos (by simp [h])

theorem modeCheck_refuses (hin : inTable s s.mode (s.fld Fd.SYS_MODE_STAT_TARGET) = true)
    (hno : modeConds s s.mode (s.fld Fd.SYS_MODE_STAT_TARGET) ack = false) : modeCheck s ack =
    if s.fld Fd.SYS_MODE_STAT_TARGET = Mode.unloadSync then unloadRefused (modeResult s Code.refused) else modeResult s Code.refused :=
  (if_neg (by simp [hin])).trans (if_pos (by simp [hno]))

theorem modeCheck_accepts (hin : inTable s s.mode (s.fld Fd.SYS_MODE_STAT_TARGET) = true)
    (hyes : modeConds s s.mode (s.fld Fd.SYS_MODE_STAT_TARGET) ack = true) : modeCheck s ack = modeAccept s (s.fld Fd.SYS_MODE_STAT_TARGET) :=
  (if_neg (by simp [hin])).trans (if_neg (by simp [hyes]))

theorem exec_modeCheck (ack : Bool) (h : checkDue s = true) : exec (.modeCheck ack) s = .next (modeCheck s ack) := if_pos h

theorem modeRamp_done (h : mfAllDone (mfClear s (rampOf s.mode new)) (rampOf s.mode new) = true) :
    modeRamp s s.mode new = modeEnter (mfClear s (rampOf s.mode new)) new := if_pos h

theorem modeRamp_runs (h : mfAllDone (mfClear s (rampOf s.mode new)) (rampOf s.mode new) = false) : modeRamp s s.mode new =
    (mfClear s (rampOf s.mode new)).setPm { (mfClear s (rampOf s.mode new)).pm with ramping := true } := if_neg (by simp [h])

/-- A mode that begins nothing of its own is committed alone, and its request ends with OK. -/
theorem modeEnter_shows (hw : RegStore.wf s.regs = true) (hn : new < 16) (ha : new ≠ Mode.activate) (hr : new ≠ Mode.replay) :
    (modeEnter s new).mode = new ∧ (modeEnter s new).fld Fd.SYS_MODE_STAT_PREV = s.mode ∧
      (modeEnter s new).flag Fd.SYS_MODE_STAT_PENDING = false ∧ (modeEnter s new).fld Fd.SYS_MODE_STAT_RESULT = Code.ok := by
  obtain ⟨hpend, -, hres, hmode⟩ := modeResult_shows s Code.ok hw
  obtain ⟨htop, hprev, hpend', hres'⟩ := modeCommit_shows hpend.wf hn
  rw [modeEnter, modeGranted, if_neg ha, if_neg hr]
  exact ⟨htop, hprev.trans hmode.fld, hpend'.trans hpend.flag, hres'.trans hres.fld⟩

/-- The ramp's functions are asked to stop; the mode stays until they have. -/
theorem modeRamp_keeps (h : mfAllDone (mfClear s (rampOf s.mode new)) (rampOf s.mode new) = false) :
    (modeRamp s s.mode new).pm.ramping = true ∧ (modeRamp s s.mode new).mode = s.mode ∧ OnlyParts [.regs, .mfp, .pm] s (modeRamp s s.mode new) := by
  rw [modeRamp_runs h]
  exact ⟨rfl, ((LowKept.refl s).mfClear _).mode_eq, ((OnlyParts.refl _ s).mfClear _).setPm⟩

end

/-! ### The module's own STANDBY (R66, R67) -/

section
variable {s : State}

theorem exec_modeCommitAfterRamp (s : State) : exec .modeCommitAfterRamp s =
    if exitDone s then .next (modeOwn s s.pm.orig)
    else if rampDone s then .next (modeEnter s (s.fld Fd.SYS_MODE_STAT_TARGET)) else .next s := rfl

theorem exec_wakeInFall (s : State) : exec .wakeInFall s =
    if s.powered && s.pm.wakeLow.isNone then .next (s.setPm { s.pm with wakeLow := some s.cyc }) else .next s := rfl

theorem exec_standbyDelayExpiry_of_none (h : s.pm.wakeLow = none) : exec .standbyDelayExpiry s = .next s := by
  show execStandbyDelayExpiry s = _
  simp only [execStandbyDelayExpiry, h]

theorem exec_standbyDelayExpiry {c : Nat} (h : s.pm.wakeLow = some c) : exec .standbyDelayExpiry s =
    if s.powered && !s.pm.stbyReq && s.since c (s.fld Fd.PWR_WAKE_CFG_DELAY * cycS) then
      .next (stbyAdvance (s.setPm { s.pm with stbyReq := true })) else .next s := by
  show execStandbyDelayExpiry s = _
  simp only [execStandbyDelayExpiry, h]

theorem exec_stationaryStandby (s : State) : exec .stationaryStandby s =
    if s.flag Fd.SYS_MODE_STAT_PENDING && s.pm.deferred && stationary s && s.noPf && [Mode.road, Mode.service, Mode.safeStop].contains s.mode then
      .next (standbyStart s) else .next s := rfl

/-- In a mode from which STANDBY may be asked for, the module asks for it. -/
theorem stbyAdvance_asks (hreq : s.pm.stbyReq = true) (hpend : s.flag Fd.SYS_MODE_STAT_PENDING = false) (hpf : s.noPf = true)
    (hmode : s.mode ∈ [Mode.road, Mode.service, Mode.safeStop]) : stbyAdvance s = stbyRequest s Mode.standby := by
  have hm : [Mode.road, Mode.service, Mode.safeStop].contains s.mode = true := List.contains_iff_mem.mpr hmode
  simp only [stbyAdvance, hreq, hpend, hpf, hm, Bool.not_false, Bool.and_self, if_true]

theorem stbyRequest_shows (hw : RegStore.wf s.regs = true) (hpend : s.flag Fd.SYS_MODE_STAT_PENDING = false) :
    let t := stbyRequest s Mode.standby
    t.flag Fd.SYS_MODE_STAT_PENDING = true ∧ t.fld Fd.SYS_MODE_STAT_TARGET = Mode.standby ∧ t.mode = s.mode ∧ t.pm = { s.pm with ownReq := true } := by
  obtain ⟨hpend, htgt, hmode, -, -, hparts⟩ := modeRequest_asks (BitVec.ofNat 32 Mode.standby) hw hpend
  have hpm : (ownRequest s Mode.standby).pm = s.pm := hparts .pm (by simp)
  exact ⟨hpend, htgt, hmode, by simp [stbyRequest, hpm]⟩

/-! ### What WAKE_IN cancels (R67, R68) -/

/-- The module's own request that is pending or ramping ends. -/
def stbyEnded (s : State) : State := if s.pm.ownReq && s.flag Fd.SYS_MODE_STAT_PENDING then modeResult s Code.refused else s

/-- The module's own end of an unload is taken back. -/
def unloadKept (s : State) : State :=
  if s.pm.ownEnd && s.mode == Mode.unloadSync then
    (if s.fld Fd.FLR_UNL_STAT_PHASE = 3 then s.setFld Fd.FLR_UNL_STAT_PHASE 2 else s).setFlr { s.flr with unlEnd := none }
  else s

/-- Nothing of the module's own STANDBY remains. -/
def stbyClear (s : State) : State := s.setPm { s.pm with wakeLow := none, stbyReq := false, ownReq := false, ownEnd := false }

theorem stbyDrop_eq (s : State) : stbyDrop s = stbyClear (unloadKept (stbyEnded s)) := rfl

theorem exec_standbyCancel_of_none (h : s.pm.pf = none) : exec .standbyCancel s = .next (stbyDrop s) := by
  show execStandbyCancel s = _
  simp only [execStandbyCancel, h]

theorem exec_standbyCancel {p : PfSeq} (h : s.pm.pf = some p) : exec .standbyCancel s =
    if p.stby then .next (s.setPm { s.pm with pf := some { p with back := true } }) else .next s := by
  show execStandbyCancel s = _
  simp only [execStandbyCancel, h]

theorem unloadKept_frame (s : State) : OnlyRegs [Ra.FLR_UNL_STAT] s (unloadKept s) ∧ OnlyParts [.regs, .flr] s (unloadKept s) := by
  have hregs : OnlyRegs [Ra.FLR_UNL_STAT] s s := .refl _ s
  have hparts : OnlyParts [.regs, .flr] s s := .refl _ s
  exact ⟨.ite (.of_regs (.ite hregs.setFld hregs) rfl) hregs, .ite (.setFlr (.ite hparts.setFld hparts)) hparts⟩

/-- An end of the unload that was the module's own is taken back in UNLOAD_SYNC. -/
theorem unloadKept_unlEnd (hown : s.pm.ownEnd = true) (hmode : s.mode = Mode.unloadSync) : (unloadKept s).flr.unlEnd = none := by
  rw [unloadKept, if_pos (by simp [hown, hmode])]
  rfl

/-- A stored field of a register that does not read as after a reset is read back, whatever the register store. -/
theorem fld_setFld_apart_of_ne {f g : Fld} {v : Nat} (s : State) (ha : g.addr = f.addr) (hf : f.apart g = true)
    (hne : bits (resetVal f.addr).toNat g.lo g.width ≠ s.fld g) : (s.setFld f v).fld g = s.fld g := by
  simp only [Fld.apart, Bool.and_eq_true, Bool.or_eq_true, Nat.ble_eq] at hf
  obtain ⟨hlt, hd⟩ := hf
  have hbits : bits (setBits (s.reg f.addr).toNat f.lo f.width v) g.lo g.width = s.fld g := by
    rw [bits_setBits_other _ _ _ _ _ _ hd, State.fld, ha]
  have hword : (BitVec.ofNat 32 (setBits (s.reg f.addr).toNat f.lo f.width v)).toNat = setBits (s.reg f.addr).toNat f.lo f.width v := by
    rw [BitVec.toNat_ofNat, Nat.mod_eq_of_lt (setBits_lt _ _ _ _ hlt (s.reg f.addr).isLt)]
  have hreg : (s.setFld f v).reg f.addr = BitVec.ofNat 32 (setBits (s.reg f.addr).toNat f.lo f.width v) := by
    refine smGet_smPut_of_ne _ s.regs _ fun h => hne ?_
    rw [← h, hword, hbits]
  rw [State.fld, ha, hreg, hword, hbits]

/-- UNLOAD_SYNC stays the mode where a request ends. -/
theorem modeResult_unloadSync (code : Nat) (h : s.mode = Mode.unloadSync) : (modeResult s code).mode = Mode.unloadSync := by
  have hkeep : ∀ (u : State) (f : Fld) (v : Nat), f.addr = Ra.SYS_MODE_STAT → f.apart Fd.SYS_MODE_STAT_MODE = true → u.mode = Mode.unloadSync →
      (u.setFld f v).mode = Mode.unloadSync := fun u f v ha hf hu =>
    (fld_setFld_apart_of_ne u ha.symm hf (by rw [ha, show u.fld Fd.SYS_MODE_STAT_MODE = Mode.unloadSync from hu]; decide)).trans hu
  exact hkeep _ _ _ rfl rfl (hkeep _ _ _ rfl rfl (hkeep _ _ _ rfl rfl h))

theorem stbyEnded_unloadSync (h : s.mode = Mode.unloadSync) : (stbyEnded s).mode = Mode.unloadSync := by
  unfold stbyEnded
  split
  · exact modeResult_unloadSync _ h
  · exact h

theorem stbyEnded_ownEnd (s : State) : (stbyEnded s).pm.ownEnd = s.pm.ownEnd := by
  unfold stbyEnded
  split <;> rfl

end

/-- What WAKE_IN leaves of a request of the module's own. -/
theorem stbyDrop_ends {s : State} (hw : RegStore.wf s.regs = true) (hown : s.pm.ownReq = true) (hpend : s.flag Fd.SYS_MODE_STAT_PENDING = true) :
    let t := stbyDrop s
    t.flag Fd.SYS_MODE_STAT_PENDING = false ∧ t.fld Fd.SYS_MODE_STAT_RESULT = Code.refused ∧ t.mode = s.mode ∧
      t.pm = { s.pm with wakeLow := none, stbyReq := false, ownReq := false, ownEnd := false, deferred := false, ramping := false } ∧
      OnlyParts [.regs, .flr, .pm] s t := by
  obtain ⟨hdone, -, hres, hmode⟩ := modeResult_shows s Code.refused hw
  obtain ⟨hregs, hparts⟩ := unloadKept_frame (stbyEnded s)
  have hended : stbyEnded s = modeResult s Code.refused := if_pos (by simp [hown, hpend])
  have hclear : OnlyRegs [Ra.FLR_UNL_STAT] (stbyEnded s) (stbyDrop s) := hregs.of_regs rfl
  have hpm : (unloadKept (stbyEnded s)).pm = (stbyEnded s).pm := hparts .pm (by simp)
  rw [hended] at hclear hpm hparts
  refine ⟨(hclear.flag_eq (by decide)).trans hdone.flag, (hclear.fld_eq (by decide)).trans hres.fld, (hclear.fld_eq (by decide)).trans hmode.fld, ?_, ?_⟩
  · simp only [stbyDrop_eq, stbyClear, State.setPm_pm, hended, hpm]
    rfl
  · rw [stbyDrop_eq, hended]
    exact (((modeResult_onlyParts s _).mono (by simp)).trans (hparts.mono (by simp))).setPm

/-- What WAKE_IN leaves of an end of the unload that was the module's own. -/
theorem stbyDrop_unload {s : State} (hown : s.pm.ownEnd = true) (hmode : s.mode = Mode.unloadSync) :
    (stbyDrop s).flr.unlEnd = none ∧ (stbyDrop s).pm.ownEnd = false ∧ (stbyDrop s).mode = s.mode := by
  obtain ⟨hregs, -⟩ := unloadKept_frame (stbyEnded s)
  have hclear : OnlyRegs [Ra.FLR_UNL_STAT] (stbyEnded s) (stbyDrop s) := hregs.of_regs rfl
  have hended := stbyEnded_unloadSync hmode
  exact ⟨unloadKept_unlEnd ((stbyEnded_ownEnd s).trans hown) hended, rfl, ((hclear.fld_eq (by decide)).trans hended).trans hmode.symm⟩

theorem stbyDrop_idle {s : State} (hreq : s.pm.ownReq = false) (hend : s.pm.ownEnd = false) : stbyDrop s = stbyClear s := by
  have hended : stbyEnded s = s := if_neg (by simp [hreq])
  have hkept : unloadKept s = s := if_neg (by simp [hend])
  rw [stbyDrop_eq, hended, hkept]

/-- Settles O35, branch by branch of `modeCheck` and of the module's own way to STANDBY. -/
theorem modeChecks : Obligations.ModeChecks := by
  unfold Obligations.ModeChecks
  refine ⟨fun ack s hdue => ?_, fun ack s hdue => if_neg (by simp [hdue]), fun s => ?_, fun s => ?_, fun s h => exec_standbyDelayExpiry_of_none h,
    fun s c hlow => ⟨fun hp hreq hlate => ?_, fun h => ?_⟩, fun s => ⟨fun hpend hdef hstat hpf hmode => ?_, fun h => ?_⟩, fun s => ?_⟩
  · have hexec := exec_modeCheck ack hdue
    intro old new ramp done
    have hnew : new < 16 := bits_lt _ _ 4
    refine ⟨fun hout => ?_, fun hin hno => ⟨fun hne => ?_, fun heq => ?_⟩, fun hin hyes => ?_⟩
    · rw [hexec, modeCheck_outside hout]
    · rw [hexec, modeCheck_refuses hin hno, if_neg hne]
    · rw [hexec, modeCheck_refuses hin hno, if_pos heq]
    have haccept : exec (.modeCheck ack) s = .next (modeAccept s new) := hexec.trans (congrArg _ (modeCheck_accepts hin hyes))
    rw [haccept]
    have hramp : new ≠ Mode.standby → modeAccept s new = modeRamp s s.mode new := fun h => if_neg h
    refine ⟨fun heq hstat => ?_, fun heq hstat => ?_, fun hne hdone => ?_, fun hne hact hrpl hdone hc => ⟨_, haccept, ?_⟩, fun _ hnil => ?_,
      fun hne hdone => ⟨_, haccept, ?_⟩⟩
    · simp only [modeAccept, heq, hstat, if_true]
    · simp only [modeAccept, heq, hstat, if_true, Bool.false_eq_true, if_false]
    · rw [hramp hne, modeRamp_done hdone]
    · have hlow := (LowKept.refl s).mfClear (rampOf s.mode new)
      have hcanon := ((Keeps.refl s).mfClear (l := rampOf s.mode new)).canon ((canonical_iff_canon s).mp hc)
      obtain ⟨htop, hprev, hpend, hres⟩ := modeEnter_shows hcanon.regs hnew hact hrpl
      rw [hramp hne, modeRamp_done hdone]
      exact ⟨htop, hprev.trans hlow.mode_eq, hpend, hres⟩
    · simp only [ramp, done, hnil]
      exact ⟨rfl, rfl⟩
    · rw [hramp hne]
      exact modeRamp_keeps hdone
  · rw [Idle, exec_modeCommitAfterRamp]
    refine ⟨fun h => if_pos h, fun hno h => ?_, fun hno h => ?_⟩
    · rw [if_neg (by simp [hno]), if_pos h]
    · rw [if_neg (by simp [hno]), if_neg (by simp [h])]
  · rw [Idle, exec_wakeInFall]
    refine ⟨fun hp hlow => if_pos (by simp [hp, hlow]), fun h => if_neg ?_⟩
    rcases h with h | h
    · simp [h]
    · simp [Option.isSome_iff_ne_none.mp h]
  · have hexec : exec .standbyDelayExpiry s = .next (stbyAdvance (s.setPm { s.pm with stbyReq := true })) :=
      (exec_standbyDelayExpiry hlow).trans (if_pos (by simp [hp, hreq, (since_iff s c _).mpr hlate]))
    refine ⟨hexec, fun hpend hpf hmode hc => ⟨_, hexec, ?_⟩⟩
    rw [stbyAdvance_asks (s := s.setPm { s.pm with stbyReq := true }) rfl hpend hpf hmode]
    obtain ⟨hpend', htgt, hmode', hpm⟩ := stbyRequest_shows (s := s.setPm { s.pm with stbyReq := true }) hc.regs_wf hpend
    exact ⟨hpend', htgt, by rw [hpm]; rfl, by rw [hpm], hmode'⟩
  · refine (exec_standbyDelayExpiry hlow).trans (if_neg ?_)
    simp only [Bool.and_eq_true, Bool.not_eq_true', since_iff, not_and]
    rintro ⟨hp, hreq⟩ hlate
    rcases h with h | h | h
    · simp [hp] at h
    · simp [hreq] at h
    · omega
  · refine (exec_stationaryStandby s).trans (if_pos ?_)
    have hm : [Mode.road, Mode.service, Mode.safeStop].contains s.mode = true := List.contains_iff_mem.mpr hmode
    simp only [hpend, hdef, hstat, hpf, hm, Bool.and_self]
  · refine (exec_stationaryStandby s).trans (if_neg ?_)
    rcases h with h | h | h <;> simp [h]
  · intro pm
    refine ⟨fun hpf hreq hend => ?_, fun hpf hreq hpend hc => ⟨_, exec_standbyCancel_of_none hpf, stbyDrop_ends hc.regs_wf hreq hpend⟩,
      fun hpf hend hmode => ⟨_, exec_standbyCancel_of_none hpf, stbyDrop_unload hend hmode⟩, fun p hpf hstby => (exec_standbyCancel hpf).trans (if_pos hstby),
      fun p hpf hstby => (exec_standbyCancel hpf).trans (if_neg (by simp [hstby]))⟩
    rw [exec_standbyCancel_of_none hpf, stbyDrop_idle hreq hend]
    rfl

end Sys2Proof.Machine
end

section
/-! PROOF. What a reset leaves, and what a full module reset keeps (R37, R53, R62, R71, R573). -/

namespace Sys2Proof.Machine

/-! ### Registers with kept bits -/

/-- Some entry keeps bit `i` of the register at `a`. -/
def keepsBit (l : List (Nat × Nat)) (a i : Nat) : Bool := l.any fun x => x.1 == a && x.2.testBit i

/-- One register takes its kept bits from `s`. -/
def keepBits (s r : State) (x : Nat × Nat) : State := r.setReg x.1 ((r.reg x.1 &&& ~~~(BitVec.ofNat 32 x.2)) ||| (s.reg x.1 &&& BitVec.ofNat 32 x.2))

theorem testBit_keepBits {s r : State} (x : Nat × Nat) (hw : RegStore.wf r.regs = true) (a : Nat) {i : Nat} (hi : i < 32) :
    ((keepBits s r x).reg a).toNat.testBit i = if x.1 == a && x.2.testBit i then (s.reg a).toNat.testBit i else (r.reg a).toNat.testBit i := by
  by_cases ha : x.1 = a
  · subst ha
    rw [keepBits, reg_setReg_same r _ _ hw]
    simp only [BitVec.testBit_toNat, BitVec.getLsbD_or, BitVec.getLsbD_and, BitVec.getLsbD_not, BitVec.getLsbD_ofNat, hi, decide_true,
      Bool.true_and, beq_self_eq_true]
    cases x.2.testBit i <;> simp
  · rw [keepBits, reg_setReg_other r _ _ _ (Ne.symm ha)]
    simp [ha]

theorem keepBits_wf {s r : State} (x : Nat × Nat) (hw : RegStore.wf r.regs = true) : RegStore.wf (keepBits s r x).regs = true := setReg_wf r _ _ hw

/-- After a list of them, each bit that an entry keeps is that of `s`, every other one is as before. -/
theorem testBit_foldl_keepBits {s r : State} (l : List (Nat × Nat)) (hw : RegStore.wf r.regs = true) (a : Nat) {i : Nat} (hi : i < 32) :
    ((l.foldl (keepBits s) r).reg a).toNat.testBit i = if keepsBit l a i then (s.reg a).toNat.testBit i else (r.reg a).toNat.testBit i := by
  induction l generalizing r with
  | nil => rfl
  | cons x l ih =>
    have hany : keepsBit (x :: l) a i = (x.1 == a && x.2.testBit i || keepsBit l a i) := rfl
    rw [List.foldl_cons, ih (keepBits_wf x hw), testBit_keepBits x hw a hi, hany]
    cases x.1 == a && x.2.testBit i
    · rw [Bool.false_or, if_neg Bool.false_ne_true]
    · simp only [Bool.true_or, if_true, ite_self]

theorem foldl_keepBits_wf {s r : State} (l : List (Nat × Nat)) (hw : RegStore.wf r.regs = true) : RegStore.wf (l.foldl (keepBits s) r).regs = true := by
  induction l generalizing r with
  | nil => exact hw
  | cons x l ih => exact ih (keepBits_wf x hw)

/-! ### The registers a boot begins with (R62) -/

/-- What a reset keeps, by its kind. -/
def keptRows (warm : Bool) : List (Nat × Nat) := keepAlways ++ (if warm then keepWarm else [])

/-- Registers with their kept bits, the lost locks cleared with the power. -/
def keptBase (s : State) (cause : Nat) (warm : Bool) : State :=
  if cause = 0 then ((keptRows warm).foldl (keepBits s) {}).setReg Ra.CLK_PLL_STAT 0 else (keptRows warm).foldl (keepBits s) {}

theorem keptRegs_eq (s : State) (cause : Nat) (warm : Bool) : keptRegs s cause warm =
    ((keptBase s cause warm).setReg Ra.PWR_RST_CAUSE ((if cause = 0 then 0 else s.reg Ra.PWR_RST_CAUSE) ||| BitVec.ofNat 32 (2 ^ cause))).regs := rfl

section
variable (s : State) (cause : Nat) (warm : Bool) (wake : Option Nat)

theorem keptBase_wf : RegStore.wf (keptBase s cause warm).regs = true := by
  have hrows := foldl_keepBits_wf (s := s) (r := {}) (keptRows warm) rfl
  unfold keptBase
  split
  · exact setReg_wf _ _ _ hrows
  · exact hrows

theorem bootBase_cause : (bootBase s cause warm wake).reg Ra.PWR_RST_CAUSE =
    (if cause = 0 then 0 else s.reg Ra.PWR_RST_CAUSE) ||| BitVec.ofNat 32 (2 ^ cause) := reg_setReg_same _ _ _ (keptBase_wf s cause warm)

/-- Another register holds its kept bits, and is reset but for them. -/
theorem testBit_bootBase {a i : Nat} (hi : i < 32) (hcause : a ≠ Ra.PWR_RST_CAUSE) (hpll : a ≠ Ra.CLK_PLL_STAT) :
    ((bootBase s cause warm wake).reg a).toNat.testBit i =
      if keepsBit (keptRows warm) a i then (s.reg a).toNat.testBit i else (resetVal a).toNat.testBit i := by
  have hother : (bootBase s cause warm wake).reg a = (keptBase s cause warm).reg a := reg_setReg_other _ _ _ _ hcause
  have hbase : (keptBase s cause warm).reg a = ((keptRows warm).foldl (keepBits s) {}).reg a := by
    unfold keptBase
    split
    · exact reg_setReg_other _ _ _ _ hpll
    · rfl
  rw [hother, hbase, testBit_foldl_keepBits _ rfl a hi]
  rfl

/-- A field of which nothing is kept shows its reset value. -/
theorem bootBase_fld_reset (f : Fld) (hf : f.lo + f.width ≤ 32) (hcause : f.addr ≠ Ra.PWR_RST_CAUSE) (hpll : f.addr ≠ Ra.CLK_PLL_STAT)
    (hkept : ∀ i < f.width, keepsBit (keptRows warm) f.addr (f.lo + i) = false) :
    (bootBase s cause warm wake).fld f = bits (resetVal f.addr).toNat f.lo f.width := by
  refine Nat.eq_of_testBit_eq fun i => ?_
  rw [State.fld, testBit_bits, testBit_bits]
  by_cases hi : i < f.width
  · rw [testBit_bootBase s cause warm wake (by omega) hcause hpll, hkept i hi]
    simp
  · simp [hi]

/-- A field that is kept shows its value from before. -/
theorem bootBase_fld_kept (f : Fld) (hf : f.lo + f.width ≤ 32) (hcause : f.addr ≠ Ra.PWR_RST_CAUSE) (hpll : f.addr ≠ Ra.CLK_PLL_STAT)
    (hkept : ∀ i < f.width, keepsBit (keptRows warm) f.addr (f.lo + i) = true) : (bootBase s cause warm wake).fld f = s.fld f := by
  refine Nat.eq_of_testBit_eq fun i => ?_
  rw [State.fld, State.fld, testBit_bits, testBit_bits]
  by_cases hi : i < f.width
  · rw [testBit_bootBase s cause warm wake (by omega) hcause hpll, hkept i hi, if_pos rfl]
  · simp [hi]

theorem keptRows_mode : ∀ i < 4, keepsBit (keptRows warm) Ra.SYS_MODE_STAT (0 + i) = false := by
  cases warm <;> decide

theorem keptRows_step : ∀ i < 4, keepsBit (keptRows warm) Ra.PWR_STAT (0 + i) = false := by
  cases warm <;> decide

theorem keptRows_time (warm : Bool) : ∀ i < 3, keepsBit (keptRows warm) Ra.CLK_TIME_STAT (0 + i) = warm := by
  cases warm <;> decide

end

/-! ### What else a boot begins with -/

/-- Bit `i` of PWR_RST_CAUSE: the cause, and unless power was applied those before it. -/
theorem bit_bootBase_cause (s : State) {cause : Nat} (warm : Bool) (wake : Option Nat) {i : Nat} (hi : i < 32) :
    bit ((bootBase s cause warm wake).reg Ra.PWR_RST_CAUSE).toNat i =
      (decide (i = cause) || (decide (cause ≠ 0) && bit (s.reg Ra.PWR_RST_CAUSE).toNat i)) := by
  have hcause : (BitVec.ofNat 32 (2 ^ cause)).getLsbD i = decide (i = cause) := by
    rw [BitVec.getLsbD_ofNat, Nat.testBit_two_pow]
    simp [hi, eq_comm]
  rw [bootBase_cause, bit_eq_testBit, bit_eq_testBit, BitVec.testBit_toNat, BitVec.testBit_toNat, BitVec.getLsbD_or, hcause, Bool.or_comm]
  by_cases h : cause = 0
  · simp [h]
  · simp [h]

/-- A read by address of what a filter by address keeps. -/
theorem smGet_filter_of_pos {α : Type} (d : α) (m : SMap α) (p : Nat → Bool) (k : Nat) (hk : p k = true) :
    smGet d (m.filter fun x => p x.1) k = smGet d m k := by
  induction m with
  | nil => rfl
  | cons e m ih =>
    obtain ⟨k', v⟩ := e
    by_cases he : k' = k
    · subst he
      simp [hk, smGet]
    · by_cases hp : p k' = true
      · simp only [List.filter_cons, hp, if_true, smGet, if_neg he, ih]
      · simp only [List.filter_cons, hp, Bool.false_eq_true, if_false, smGet, if_neg he, ih]

theorem bootBase_byteAt (s : State) (cause : Nat) (wake : Option Nat) {a : Nat} (hlo : 0x840000000 ≤ a) (hhi : a < 0xFF0000000) :
    (bootBase s cause true wake).byteAt a = s.byteAt a :=
  smGet_filter_of_pos 0 s.mem (fun x => decide (0x840000000 ≤ x ∧ x < 0xFF0000000)) a (decide_eq_true ⟨hlo, hhi⟩)

/-- Settles O3. -/
theorem resetState : Obligations.ResetState := by
  unfold Obligations.ResetState
  decide

/-- Settles O30, by the bits that `keptRows` lists for each register. -/
theorem resetKeeps : Obligations.ResetKeeps := by
  unfold Obligations.ResetKeeps
  intro s cause warm wake hcause
  have hcauses := fun {i : Nat} (hi : i < 32) => bit_bootBase_cause s (cause := cause) warm wake hi
  have hmode := bootBase_fld_reset s cause warm wake Fd.SYS_MODE_STAT_MODE (by decide) (by decide) (by decide) (keptRows_mode warm)
  have hstep := bootBase_fld_reset s cause warm wake Fd.PWR_STAT_STEP (by decide) (by decide) (by decide) (keptRows_step warm)
  refine ⟨hmode.trans (by decide), hstep.trans (by decide), ?_, fun h i hi hne => ?_, fun h i hi hne => ?_, fun hw => ⟨?_, ?_, fun a hlo hhi => ?_⟩,
    fun hw => ⟨?_, fun hwake => ?_, ?_⟩, rfl, rfl, rfl, ?_⟩
  · simp [hcauses (i := cause) (by omega)]
  · simp [hcauses hi, hne, h]
  · rw [hcauses hi, decide_eq_false hne, decide_eq_false (not_not.mpr h)]
    rfl
  · subst hw; rfl
  · subst hw
    exact bootBase_fld_kept s cause true wake Fd.CLK_TIME_STAT_STATE (by decide) (by decide) (by decide) (keptRows_time true)
  · subst hw
    exact bootBase_byteAt s cause wake hlo hhi
  · subst hw
    exact (bootBase_fld_reset s cause false wake Fd.CLK_TIME_STAT_STATE (by decide) (by decide) (by decide) (keptRows_time false)).trans (by decide)
  · subst hw hwake
    exact Nat.zero_div _
  · subst hw; rfl
  · cases warm <;> rfl

end Sys2Proof.Machine
end

section
/-! SUPPORT. The registers that records of the event log and captures of the recorder change (R493, R504, R510), and what a lock-out leaves. -/

namespace Sys2Proof.Machine

/-! ### Records of the event log -/

/-- The registers that a record of the event log changes: EVR's, and those of the recorder that show triggers, holds and captured records. -/
abbrev logRegs : List Nat := captureRegs ++ [Ra.EVR_NEXT, Ra.EVR_STAT, Ra.EVR_OVERWR, Ra.EVR_OLDEST, Ra.TAB_INT_PEND 0, Ra.TAB_TRIG_IGNORED, Ra.TAB_WIN_STAT] ++
  (List.range 4).map Ra.TAB_HOLD_FIRST ++ (List.range 4).map Ra.TAB_HOLD_LAST

/-- They lie in the windows of the event log and the recorder. -/
theorem logRegs_window : ∀ a ∈ logRegs, a / 0x10000 = 0x4006 ∨ a / 0x10000 = 0x4007 := by decide

section
variable {s t : State}

protected theorem OnlyRegs.raise {l : List Nat} {a k : Nat} (h : OnlyRegs l s t) (ha : a ∈ l := by decide) : OnlyRegs l s (t.raise a k) := h.setReg ha

protected theorem OnlyRegs.tabHold {k : Nat} (h : OnlyRegs logRegs s t) : OnlyRegs logRegs s (tabHold t k) := by
  unfold Machine.tabHold
  dsimp only
  split
  · next n e =>
    have hfirst : Ra.TAB_HOLD_FIRST n ∈ logRegs := (show ∀ n < 4, Ra.TAB_HOLD_FIRST n ∈ logRegs by decide) n (freeHold_lt e)
    have hlast : Ra.TAB_HOLD_LAST n ∈ logRegs := (show ∀ n < 4, Ra.TAB_HOLD_LAST n ∈ logRegs by decide) n (freeHold_lt e)
    exact .ite (.tabMark (.raise (((h.of_regs rfl).setFld hfirst).setFld hlast))) (.tabMark h.setFlag)
  · exact .tabMark h.setFlag

protected theorem OnlyRegs.tabWindow (h : OnlyRegs logRegs s t) : OnlyRegs logRegs s (tabWindow t) := by
  unfold Machine.tabWindow
  split
  · exact h.count.setFld
  · exact (h.of_regs rfl).setFld

protected theorem OnlyRegs.foldl {l : List Nat} {α : Type} {f : State → α → State} {xs : List α} (h : OnlyRegs l s t)
    (hf : ∀ t x, OnlyRegs l s t → OnlyRegs l s (f t x)) : OnlyRegs l s (xs.foldl f t) := by
  induction xs generalizing t with
  | nil => exact h
  | cons x xs ih => exact ih (hf t x h)

protected theorem OnlyRegs.tabTrigger {code : Nat} (h : OnlyRegs logRegs s t) : OnlyRegs logRegs s (tabTrigger t code) := by
  refine h.foldl fun u k hu => .ite ?_ hu
  extract_lets v w
  have hv : OnlyRegs logRegs s v := .tabMark hu.raise
  have hw : OnlyRegs logRegs s w := .ite hv.tabHold hv
  exact .ite hw.tabWindow hw

protected theorem OnlyRegs.writeRecord {code src d0 d1 : Nat} (h : OnlyRegs logRegs s t) : OnlyRegs logRegs s (writeRecord t code src d0 d1) := by
  have hnext : ∀ x, OnlyRegs logRegs s ((t.setEvr x).setFld Fd.EVR_NEXT_SEQ (t.fld Fd.EVR_NEXT_SEQ + 1)) := fun _ => (h.of_regs rfl).setFld
  exact .tabTrigger (.ite (hnext _).setFlag.count.setFld (hnext _))

protected theorem OnlyRegs.stormRoll (h : OnlyRegs logRegs s t) : OnlyRegs logRegs s (stormRoll t) :=
  .ite h (.foldl (h.of_regs rfl) fun _ _ hu => hu.writeRecord)

protected theorem OnlyRegs.logLive {code src d0 d1 : Nat} (h : OnlyRegs logRegs s t) : OnlyRegs logRegs s (logLive t code src d0 d1) := by
  unfold Machine.logLive
  split
  · exact h.of_regs rfl
  · exact .ite (h.stormRoll.of_regs rfl) (.writeRecord (h.stormRoll.of_regs rfl))

end

/-- A field of another window reads as before. -/
theorem OnlyRegs.fld_of_log {s t : State} (h : OnlyRegs logRegs s t) {f : Fld} (hf : f.addr / 0x10000 ≠ 0x4006 ∧ f.addr / 0x10000 ≠ 0x4007) :
    t.fld f = s.fld f := h.fld_eq fun hm => (logRegs_window _ hm).elim hf.1 hf.2

/-- A record leaves the registers of the other windows, and the parts outside the log and the recorder. -/
theorem logLive_frame (s : State) (code src d0 d1 : Nat) :
    OnlyRegs logRegs s (logLive s code src d0 d1) ∧ OnlyParts logParts s (logLive s code src d0 d1) :=
  ⟨(OnlyRegs.refl _ s).logLive, (OnlyParts.refl _ s).logLive⟩

end Sys2Proof.Machine
end

section
/-! SUPPORT. Protected load switches: one channel along a chain of updates, what a channel's registers show, and what every channel does in its turn
(R428–R443). -/

namespace Sys2Proof.Machine

/-! ### One channel along a chain of updates -/

/-- From `s` to `t` only the listed parts change, channel `n` has become `x`, and every other channel is as before. -/
structure ChanAt (l : List Part) (n : Nat) (x : LswCh) (s t : State) : Prop where
  ch : t.lch n = x
  other : ∀ m, m ≠ n → t.lch m = s.lch m
  parts : OnlyParts l s t
  wf : smWf (fun _ => {}) t.lsw.ch = true

section
variable {l : List Part} {s t u : State} {n : Nat} {x y : LswCh}

protected theorem OnlyParts.setLsw {x : LswState} (h : OnlyParts l s t) (hl : Part.lsw ∈ l := by simp) : OnlyParts l s (t.setLsw x) := by
  refine h.trans fun p hp => ?_
  cases p
  case lsw => exact absurd hl hp
  all_goals rfl

theorem State.canonical.lswCh {s : State} (hc : s.canonical) : smWf (fun _ => {}) s.lsw.ch = true := ((canonical_iff_canon s).mp hc).lswCh

theorem ChanAt.start (l : List Part) (n : Nat) (hw : smWf (fun _ => {}) s.lsw.ch = true) : ChanAt l n (s.lch n) s s := ⟨rfl, fun _ _ => rfl, .refl l s, hw⟩

/-- An update of other parts. -/
theorem ChanAt.of_lsw (h : ChanAt l n x s t) (hu : OnlyParts l t u) (e : u.lsw = t.lsw) : ChanAt l n x s u := by
  have he : ∀ m, u.lch m = t.lch m := fun m => congrArg (fun z : LswState => smGet ({} : LswCh) z.ch m) e
  exact ⟨(he n).trans h.ch, fun m hm => (he m).trans (h.other m hm), h.parts.trans hu, e ▸ h.wf⟩

/-- The channel is replaced. -/
protected theorem ChanAt.setLch (h : ChanAt l n x s t) (hl : Part.lsw ∈ l := by simp) : ChanAt l n y s (t.setLch n y) :=
  ⟨smGet_smPut_same (fun _ => ({} : LswCh)) _ n y none h.wf, fun m hm => (smGet_smPut_other _ _ _ n m y hm).trans (h.other m hm), h.parts.setLsw hl,
    smWf_smPut (fun _ => ({} : LswCh)) _ n y h.wf⟩

protected theorem ChanAt.ite {c : Prop} {inst : Decidable c} (ht : ChanAt l n x s t) (hu : ChanAt l n x s u) : ChanAt l n x s (if c then t else u) := by
  split
  · exact ht
  · exact hu

protected theorem ChanAt.setReg {a : Nat} {w : Word} (h : ChanAt l n x s t) (hl : Part.regs ∈ l := by simp) : ChanAt l n x s (t.setReg a w) :=
  h.of_lsw (.setReg (.refl l t) hl) rfl

protected theorem ChanAt.setFld {f : Fld} {v : Nat} (h : ChanAt l n x s t) (hl : Part.regs ∈ l := by simp) : ChanAt l n x s (t.setFld f v) := h.setReg hl

protected theorem ChanAt.setFlag {f : Fld} {b : Bool} (h : ChanAt l n x s t) (hl : Part.regs ∈ l := by simp) : ChanAt l n x s (t.setFlag f b) := h.setReg hl

protected theorem ChanAt.count {f : Fld} {k : Nat} (h : ChanAt l n x s t) (hl : Part.regs ∈ l := by simp) : ChanAt l n x s (t.count f k) := h.setReg hl

protected theorem ChanAt.raise {a k : Nat} (h : ChanAt l n x s t) (hl : Part.regs ∈ l := by simp) : ChanAt l n x s (t.raise a k) := h.setReg hl

protected theorem ChanAt.logLive {code src d0 d1 : Nat} (h : ChanAt l n x s t) (hl : logParts ⊆ l := by simp) :
    ChanAt l n x s (logLive t code src d0 d1) :=
  h.of_lsw ((logLive_frame t code src d0 d1).2.mono hl) ((logLive_frame t code src d0 d1).2 .lsw (by simp))

protected theorem ChanAt.lswShow {m : Nat} (h : ChanAt l n x s t) (hl : Part.regs ∈ l := by simp) : ChanAt l n x s (lswShow t m) :=
  (((((((h.setFld hl).setFlag hl).setFlag hl).setFlag hl).setFlag hl).setReg hl).setReg hl).setReg hl

/-- The channel's output stage is off. -/
def LswCh.stopped (x : LswCh) (cyc : Nat) : LswCh := { x with on := false, offAt := if x.on then cyc else x.offAt, winAt := none }

theorem LswCh.stopped_of_on (c : Nat) (h : x.on = true) : x.stopped c = { x with on := false, offAt := c, winAt := none } := by
  simp only [LswCh.stopped, h, if_true]

theorem LswCh.stopped_of_off (c : Nat) (h : x.on = false) : x.stopped c = { x with winAt := none } := by
  simp only [LswCh.stopped, h, Bool.false_eq_true, if_false]

theorem lswOff_eq (s : State) (n : Nat) : lswOff s n = s.setLch n ((s.lch n).stopped s.cyc) := by
  cases h : (s.lch n).on
  · exact (if_neg (by simp [h])).trans (congrArg _ (LswCh.stopped_of_off _ h).symm)
  · exact (if_pos h).trans (congrArg _ (LswCh.stopped_of_on _ h).symm)

protected theorem ChanAt.lswOff (h : ChanAt l n x s t) (hl : Part.lsw ∈ l := by simp) : ChanAt l n (x.stopped t.cyc) s (lswOff t n) := by
  rw [lswOff_eq, h.ch]
  exact h.setLch hl

end

/-! ### What a channel's registers show -/

/-- The registers that show a channel. -/
abbrev lswShowRegs (n : Nat) : List Nat := [Ra.LSW_CH_STAT n, Ra.LSW_FAULT_MAP, Ra.LSW_LATCH_MAP, Ra.LSW_OWN_MAP]

section
variable {s t : State} {n v : Nat}

theorem lswShow_onlyRegs (s : State) (n : Nat) : OnlyRegs (lswShowRegs n) s (lswShow s n) :=
  OnlyRegs.setReg (.setReg (.setReg (.setFlag (.setFlag (.setFlag (.setFlag (.setFld (.refl _ s) (by simp [Fd.LSW_CH_STAT_STATE]))
    (by simp [Fd.LSW_CH_STAT_INRUSH])) (by simp [Fd.LSW_CH_STAT_HOLD])) (by simp [Fd.LSW_CH_STAT_BUSY]))
    (by simp [Fd.LSW_CH_STAT_LOOP])) (by simp)) (by simp)) (by simp)

/-- The channels' rows lie below the groups' and the maps. -/
theorem lswStat_range (hn : n < 24) : 0x40A00000 ≤ Ra.LSW_CH_STAT n ∧ Ra.LSW_CH_STAT n < 0x40A00400 := by
  show 0x40A00000 ≤ 0x40A00008 + 0x20 * n ∧ 0x40A00008 + 0x20 * n < 0x40A00400
  omega

/-- FAULT stays where a channel's registers are brought up to date. -/
protected theorem Shows.lswShow (h : Shows (Fd.LSW_CH_STAT_FAULT n) v s) (hn : n < 24) : Shows (Fd.LSW_CH_STAT_FAULT n) v (lswShow s n) := by
  have hlow : (Fd.LSW_CH_STAT_FAULT n).addr < 0x40A00400 := (lswStat_range hn).2
  have hmap : ∀ a, 0x40A0C000 ≤ a → (Fd.LSW_CH_STAT_FAULT n).addr ≠ a := fun a ha => by omega
  exact .elsewhere (.elsewhere (.elsewhere (.setFlag (.setFlag (.setFlag (.setFlag (.setFld h))))) (hmap _ (by decide))) (hmap _ (by decide)))
    (hmap _ (by decide))

end

/-! ### Every channel in its turn -/

theorem forN_succ (s : State) (n : Nat) (f : State → Nat → State) : s.forN (n + 1) f = f (s.forN n f) n := by
  simp only [State.forN, List.range_succ, List.foldl_append, List.foldl_cons, List.foldl_nil]

/-- Where each turn makes its own channel `G` of what it was, the channels below `n` become that, and the others stay. -/
theorem forN_lch {l : List Part} {s : State} {f : State → Nat → State} {G : Nat → LswCh → LswCh} (hw : smWf (fun _ => {}) s.lsw.ch = true)
    (hf : ∀ t k, OnlyParts l s t → smWf (fun _ => {}) t.lsw.ch = true → ChanAt l k (G k (t.lch k)) t (f t k)) (n : Nat) :
    OnlyParts l s (s.forN n f) ∧ smWf (fun _ => {}) (s.forN n f).lsw.ch = true ∧
      ∀ m, (s.forN n f).lch m = if m < n then G m (s.lch m) else s.lch m := by
  induction n with
  | zero => exact ⟨.refl l s, hw, fun m => rfl⟩
  | succ n ih =>
    obtain ⟨hparts, hwf, hch⟩ := ih
    have hturn := hf _ n hparts hwf
    rw [forN_succ]
    refine ⟨hparts.trans hturn.parts, hturn.wf, fun m => ?_⟩
    by_cases hm : m = n
    · subst hm
      rw [hturn.ch, hch m, if_neg (Nat.lt_irrefl m), if_pos (Nat.lt_succ_self m)]
    · have hlt : m < n + 1 ↔ m < n := by omega
      rw [hturn.other m hm, hch m]
      simp only [hlt]

/-- The registers that no turn changes stay. -/
theorem OnlyRegs.forN_of {f : State → Nat → State} {s : State} {a n : Nat} (hf : ∀ t k, k < n → (f t k).reg a = t.reg a) : (s.forN n f).reg a = s.reg a := by
  induction n with
  | zero => rfl
  | succ n ih => rw [forN_succ, hf _ n (Nat.lt_succ_self n), ih fun t k hk => hf t k (by omega)]

end Sys2Proof.Machine
end

section
/-! PROOF. Clamps, open loads, supply and keep channels of the load switches (R63, R429, R435, R438–R443). -/

namespace Sys2Proof.Machine

/-- The parts that a latch-off and other recorded faults of a channel change. -/
abbrev lswParts : List Part := [.regs, .lsw, .evr, .tab, .rpl]

/-! ### A latch-off (R433, R436) -/

section
variable {s t : State} {n : Nat}

/-- An event of the load switches is recorded in REPLAY too. -/
theorem lswEvent_eq (s : State) {code : Nat} (d0 d1 : Nat) (h : code < 0x0F00) : logEvent s code Src.unit d0 d1 = logLive s code Src.unit d0 d1 :=
  logEvent_outside d0 d1 (by simp [insideBoundary, Src.unit, Src.ce0, Src.fusion]; omega)

/-- The fault is shown and counted, and the interrupt raised. -/
def lswFaulted (s : State) (n fault : Nat) : State :=
  ((s.setFld (Fd.LSW_CH_STAT_FAULT n) fault).count (Fd.LSW_CH_CNT_LATCHES n)).raise (Ra.LSW_INT_PEND 0) n

/-- A channel that is off is latched, without a hold. -/
def lswLatched (s : State) (n : Nat) : State := s.setLch n { s.lch n with latchAt := some s.cyc, hold := false, cause := false }

/-- The two words of a latch-off's record. -/
def lswTripData (s : State) (n fault peak : Nat) : Nat × Nat :=
  (n * 256 + fault, peak * 2 ^ 16 + s.fld (Fd.LSW_GRP_STAT_MV (lswGroup n)) / 10)

theorem lswTrip_eq (s : State) (n fault peak : Nat) : lswTrip s n fault peak =
    let u := lswFaulted (lswLatched (lswOff s n) n) n fault
    lswShow (logLive u Ev.lswLatch Src.unit (lswTripData u n fault peak).1 (lswTripData u n fault peak).2) n := by
  dsimp only
  rw [← lswEvent_eq _ _ _ (by decide)]
  rfl

/-- A latch-off turns the channel off and latches it. -/
theorem lswTrip_chan (hw : smWf (fun _ => {}) s.lsw.ch = true) (fault peak : Nat) : ChanAt lswParts n
    { (s.lch n).stopped s.cyc with latchAt := some s.cyc, hold := false, cause := false } s (lswTrip s n fault peak) := by
  have hoff : ChanAt lswParts n ((s.lch n).stopped s.cyc) s (lswOff s n) := (ChanAt.start _ _ hw).lswOff
  have hcyc : (lswOff s n).cyc = s.cyc := by rw [lswOff_eq]; rfl
  rw [lswTrip_eq, lswLatched, hoff.ch, hcyc]
  exact hoff.setLch.setFld.count.raise.logLive.lswShow

/-- FAULT of a channel stays where a register of the channel's row above LSW_CH[n]_STAT, or one of the load switches' maps, is set. -/
theorem Shows.lswFault {v a : Nat} {w : Word} (h : Shows (Fd.LSW_CH_STAT_FAULT n) v s) (ha : a = Ra.LSW_CH_CNT n ∨ 0x40A0C000 ≤ a) (hn : n < 24) :
    Shows (Fd.LSW_CH_STAT_FAULT n) v (s.setReg a w) := by
  refine h.elsewhere ?_
  show 0x40A00008 + 0x20 * n ≠ a
  obtain rfl | ha := ha
  · exact Nat.ne_of_lt (Nat.add_lt_add_right (by decide) _)
  · omega

/-- A latch-off shows its fault. -/
theorem lswTrip_fault (hc : s.canonical) (hn : n < 24) {fault : Nat} (hf : fault < 16) (peak : Nat) :
    (lswTrip s n fault peak).fld (Fd.LSW_CH_STAT_FAULT n) = fault := by
  have hcanon := (canonical_iff_canon s).mp hc
  have hlatched : RegStore.wf (lswLatched (lswOff s n) n).regs = true := ((Keeps.refl s).lswOff.setLch.canon hcanon).regs
  have hset : Shows (Fd.LSW_CH_STAT_FAULT n) fault ((lswLatched (lswOff s n) n).setFld (Fd.LSW_CH_STAT_FAULT n) fault) :=
    .set hlatched (Nat.mod_eq_of_lt hf)
  have hfault : Shows (Fd.LSW_CH_STAT_FAULT n) fault (lswFaulted (lswLatched (lswOff s n) n) n fault) :=
    (hset.lswFault (.inl rfl) hn).lswFault (.inr (by decide)) hn
  rw [lswTrip_eq]
  refine (Shows.lswShow ⟨?_, ?_⟩ hn).fld
  · rw [← lswEvent_eq _ _ _ (by decide)]
    exact ((Keeps.refl s).lswOff.setLch.setFld.count.raise.logEvent.canon hcanon).regs
  · obtain ⟨hlo, hhi⟩ := lswStat_range hn
    have hwin : (Fd.LSW_CH_STAT_FAULT n).addr / 0x10000 = 0x40A0 := by
      show Ra.LSW_CH_STAT n / 0x10000 = 0x40A0
      omega
    exact ((logLive_frame _ _ _ _ _).1.fld_of_log (by omega)).trans hfault.fld

end

/-! ### Clamps (R438, R439) -/

/-- The clamp conducted too long less than 100 ms ago as well. -/
def clampAgain (s : State) (n : Nat) : Bool := match (s.lch n).clampAt with
  | some t => decide (s.cyc ≤ t + 100 * cycMs)
  | none => false

theorem clampAgain_iff (s : State) (n : Nat) : clampAgain s n = true ↔ ∃ x, (s.lch n).clampAt = some x ∧ s.cyc ≤ x + 100 * cycMs := by
  unfold clampAgain
  cases (s.lch n).clampAt <;> simp

/-- The clamp of a channel that is no load has conducted too long: counted, recorded and noted. -/
def clampNoted (s : State) (n : Nat) : State :=
  let u := logEvent (s.count (Fd.LSW_CH_CNT_CLAMPS n)) Ev.clamp Src.unit n 0
  u.setLch n { u.lch n with clampAt := some u.cyc }

section
variable {s : State} {n : Nat}

theorem exec_clamp (n : Fin 24) (us peak : Half) (s : State) : exec (.clamp n ⟨peak, us⟩) s =
    if lswOffEdge s n us.toNat = false then .next s
    else if s.flag (Fd.LSW_CH_CFG_LOAD n) then
      if 20 < us.toNat then .next (lswTrip (s.count (Fd.LSW_CH_CNT_CLAMPS n)) n 5 peak.toNat) else .next s
    else if 200 < us.toNat then .next (if clampAgain s n then lswTrip (clampNoted s n) n 5 peak.toNat else clampNoted s n)
    else .next s := rfl

theorem clampNoted_chan (hw : smWf (fun _ => {}) s.lsw.ch = true) : ChanAt lswParts n { s.lch n with clampAt := some s.cyc } s (clampNoted s n) := by
  have hlog : ChanAt lswParts n (s.lch n) s (logEvent (s.count (Fd.LSW_CH_CNT_CLAMPS n)) Ev.clamp Src.unit n 0) := by
    rw [lswEvent_eq _ _ _ (by decide)]
    exact (ChanAt.start _ _ hw).count.logLive
  have hcyc : (logEvent (s.count (Fd.LSW_CH_CNT_CLAMPS n)) Ev.clamp Src.unit n 0).cyc = s.cyc := congrArg ClkState.cyc (hlog.parts .clk (by simp))
  rw [clampNoted, hlog.ch, hcyc]
  exact hlog.setLch

theorem clampNoted_canonical (hc : s.canonical) : (clampNoted s n).canonical :=
  (canonical_iff_canon _).mpr ((Keeps.refl s).count.logEvent.setLch.canon ((canonical_iff_canon s).mp hc))

/-- A second time within 100 ms latches the channel off with FAULT 5. -/
theorem clampTrip_chan (hc : s.canonical) (hn : n < 24) (peak : Nat) :
    let t := lswTrip (clampNoted s n) n 5 peak
    (t.lch n).latchAt = some s.cyc ∧ (t.lch n).on = false ∧ t.fld (Fd.LSW_CH_STAT_FAULT n) = 5 ∧ (∀ m, m ≠ n → t.lch m = s.lch m) ∧
      OnlyParts lswParts s t := by
  have hnoted : ChanAt lswParts n _ s (clampNoted s n) := clampNoted_chan hc.lswCh
  have htrip := lswTrip_chan (n := n) hnoted.wf 5 peak
  have hcyc : (clampNoted s n).cyc = s.cyc := congrArg ClkState.cyc (hnoted.parts .clk (by simp))
  rw [hcyc] at htrip
  exact ⟨by rw [htrip.ch], by rw [htrip.ch]; rfl, lswTrip_fault (clampNoted_canonical hc) hn (by decide) peak,
    fun m hm => (htrip.other m hm).trans (hnoted.other m hm), hnoted.parts.trans htrip.parts⟩

end

/-! ### Open loads (R443) -/

/-- The check's fault shows, and its cause is noted. -/
def openNoted (s : State) (n c : Nat) : State :=
  let u := s.setFld (Fd.LSW_CH_STAT_FAULT n) c
  u.setLch n { u.lch n with cause := c != 0 }

theorem exec_openLoad (n : Fin 24) (cur mv : Half) (s : State) : exec (.openLoad n cur mv) s =
    let c := lswCheck s n cur.toNat mv.toNat
    if [0, 1, 2, 7].contains (s.fld (Fd.LSW_CH_STAT_FAULT n)) && s.fld (Fd.LSW_CH_STAT_FAULT n) != c then
      .next (lswShow (if c = 0 then openNoted s n c else (openNoted s n c).raise (Ra.LSW_INT_PEND 0) n) n)
    else .next s := rfl

theorem lswCheck_lt (s : State) (n cur mv : Nat) : lswCheck s n cur mv < 16 := by
  unfold lswCheck
  repeat' split
  all_goals decide

section
variable {s : State} {n c : Nat}

theorem openShown_chan (hw : smWf (fun _ => {}) s.lsw.ch = true) : ChanAt [.regs, .lsw] n { s.lch n with cause := c != 0 } s
    (lswShow (if c = 0 then openNoted s n c else (openNoted s n c).raise (Ra.LSW_INT_PEND 0) n) n) := by
  have hnoted : ChanAt [.regs, .lsw] n { s.lch n with cause := c != 0 } s (openNoted s n c) := (ChanAt.start _ _ hw).setFld.setLch
  exact (ChanAt.ite hnoted hnoted.raise).lswShow

theorem openShown_fault (hw : RegStore.wf s.regs = true) (hn : n < 24) (hlt : c < 16) :
    (lswShow (if c = 0 then openNoted s n c else (openNoted s n c).raise (Ra.LSW_INT_PEND 0) n) n).fld (Fd.LSW_CH_STAT_FAULT n) = c := by
  have hnoted : Shows (Fd.LSW_CH_STAT_FAULT n) c (openNoted s n c) := .of_regs (.set hw (Nat.mod_eq_of_lt hlt)) rfl
  refine (Shows.lswShow ?_ hn).fld
  split
  · exact hnoted
  · exact hnoted.lswFault (.inr (by decide)) hn

end

/-! ### The supply (R429, R435, R440) -/

section
variable {s : State}

/-- The summed current is shown. -/
def sumShown (s : State) (sum : Nat) : State := s.setFld Fd.LSW_SUM_CUR (satU 16 sum)

theorem batAWatch_low {sum : Nat} (h : sum ≤ 10000) :
    batAWatch s sum = ((sumShown s sum).setFlag Fd.LSW_SUM_OVER false).setLsw { s.lsw with overAt := none } := if_pos h

theorem batAWatch_first {sum : Nat} (h : 10000 < sum) (hat : s.lsw.overAt = none) :
    batAWatch s sum = (sumShown s sum).setLsw { s.lsw with overAt := some s.cyc } := by
  refine (if_neg (by omega)).trans ?_
  rw [show (s.setFld Fd.LSW_SUM_CUR (satU 16 sum)).lsw.overAt = none from hat]
  rfl

theorem batAWatch_runs {sum c : Nat} (hw : RegStore.wf s.regs = true) (h : 10000 < sum) (hat : s.lsw.overAt = some c) :
    batAWatch s sum = if s.since c cycS && !s.flag Fd.LSW_SUM_OVER then
      logEvent (((sumShown s sum).setFlag Fd.LSW_SUM_OVER true).raise (Ra.LSW_INT_PEND 2) 0) Ev.batAOver Src.unit (satU 16 sum) 0
    else sumShown s sum := by
  have hover : (sumShown s sum).flag Fd.LSW_SUM_OVER = s.flag Fd.LSW_SUM_OVER := flag_setFld_other s _ hw (by decide) (by decide)
  refine (if_neg (by omega)).trans ?_
  rw [show (s.setFld Fd.LSW_SUM_CUR (satU 16 sum)).lsw.overAt = some c from hat, ← hover]
  rfl

theorem exec_batAOvRelease (mv : Half) (s : State) : exec (.batAOvRelease mv) s =
    if mv.toNat < 38000 ∧ s.flag (Fd.LSW_GRP_STAT_OV 0) = true then .next (lswOvRelease s) else .next s := rfl

theorem lswOff_onlyParts (s : State) (n : Nat) : OnlyParts [.lsw] s (lswOff s n) := by
  rw [lswOff_eq]
  exact (OnlyParts.refl _ s).setLsw

/-- Settling an output stage changes the channels alone. -/
theorem lswSettle_onlyParts (s : State) (n : Nat) : OnlyParts [.lsw] s (lswSettle s n) := by
  have hs : OnlyParts [.lsw] s s := .refl _ s
  have hduty : OnlyParts [.lsw] s (if (s.lch n).cmd == 1000 || s.liveTick % lswPeriod s n == 0 then s.setLch n { s.lch n with duty := (s.lch n).cmd } else s) :=
    .ite hs.setLsw hs
  exact .ite (.ite (lswOff_onlyParts s n) hs) (.ite (.ite hduty (.ite hduty.setLsw hduty)) (lswOff_onlyParts s n))

theorem lswShow_onlyParts (s : State) (n : Nat) : OnlyParts [.regs] s (lswShow s n) :=
  (OnlyParts.refl _ s).setFld.setFlag.setFlag.setFlag.setFlag.setReg.setReg.setReg

/-- OV of the groups below `n` is clear. -/
def ovCleared (s : State) (n : Nat) : State := s.forN n fun s g => s.setFlag (Fd.LSW_GRP_STAT_OV g) false

theorem ovCleared_flags (hw : RegStore.wf s.regs = true) (n : Nat) :
    RegStore.wf (ovCleared s n).regs = true ∧ ∀ g, g < n → (ovCleared s n).flag (Fd.LSW_GRP_STAT_OV g) = false := by
  induction n with
  | zero => exact ⟨hw, fun g hg => absurd hg (Nat.not_lt_zero g)⟩
  | succ n ih =>
    obtain ⟨hwf, hclear⟩ := ih
    rw [ovCleared, forN_succ]
    refine ⟨setFlag_wf _ _ _ hwf, fun g hg => ?_⟩
    by_cases hgn : g = n
    · subst hgn
      exact (Shows.setB hwf).flag
    · have ha : (Fd.LSW_GRP_STAT_OV g).addr ≠ (Fd.LSW_GRP_STAT_OV n).addr := by
        show 0x40A00404 + 0x10 * g ≠ 0x40A00404 + 0x10 * n
        omega
      exact ((OnlyRegs.refl [(Fd.LSW_GRP_STAT_OV n).addr] _).setFlag (by simp)).flag_eq (by simpa using ha) |>.trans (hclear g (by omega))

theorem ovCleared_onlyParts (s : State) (n : Nat) : OnlyParts [.regs] s (ovCleared s n) := (OnlyParts.refl _ s).foldl (fun _ _ h => h.setFlag) _

/-- The registers of groups stay where the channels settle. -/
theorem settled_grpStat {g a : Nat} (hg : a = Ra.LSW_GRP_STAT g) (h4 : g < 4) (t : State) {k : Nat} (hk : k < 24) :
    (lswShow (lswSettle t k) k).reg a = t.reg a := by
  have hrow : a = 0x40A00404 + 0x10 * g := hg
  have hlow : a < 0x40A0C000 := by omega
  have hmaps : ∀ b, 0x40A0C000 ≤ b → a ≠ b := fun b hb => by omega
  have hmem : a ∉ lswShowRegs k := by
    obtain ⟨-, hstat⟩ := lswStat_range hk
    simp only [List.mem_cons, List.not_mem_nil, or_false, not_or]
    exact ⟨by omega, hmaps _ (by decide), hmaps _ (by decide), hmaps _ (by decide)⟩
  exact (lswShow_onlyRegs _ k a hmem).trans (congrArg (smGet _ · a) (lswSettle_onlyParts t k .regs (by simp)))

theorem lswOvRelease_clears (hw : RegStore.wf s.regs = true) :
    (∀ g, g < 4 → (lswOvRelease s).flag (Fd.LSW_GRP_STAT_OV g) = false) ∧ OnlyParts [.regs, .lsw] s (lswOvRelease s) := by
  obtain ⟨-, hclear⟩ := ovCleared_flags hw 4
  have hrelease : lswOvRelease s = (ovCleared s 4).forN 24 fun s n => lswShow (lswSettle s n) n := rfl
  rw [hrelease]
  refine ⟨fun g hg => ?_, ?_⟩
  · have hstat : OnlyRegs [] (ovCleared s 4) (ovCleared s 4) := .refl _ _
    have hreg : ((ovCleared s 4).forN 24 fun s n => lswShow (lswSettle s n) n).reg (Fd.LSW_GRP_STAT_OV g).addr =
        (ovCleared s 4).reg (Fd.LSW_GRP_STAT_OV g).addr := OnlyRegs.forN_of fun t k hk => settled_grpStat rfl hg t hk
    have hfld := hclear g hg
    simp only [State.flag, State.fld, hreg] at hfld ⊢
    exact hfld
  · refine ((ovCleared_onlyParts s 4).mono (by simp)).trans ((OnlyParts.refl _ _).foldl (fun t n h => ?_) _)
    exact (h.trans ((lswSettle_onlyParts t n).mono (by simp))).trans ((lswShow_onlyParts _ n).mono (by simp))

end

/-! ### A group below UV (R435) -/

section
variable {s : State}

/-- The group's voltage has fallen below UV. -/
def sagBegun (s : State) (g mv : Nat) : State :=
  let u := ((s.setFlag (Fd.LSW_GRP_STAT_UV g) true).setFld (Fd.LSW_GRP_STAT_MV g) mv).raise (Ra.LSW_INT_PEND 1) g
  u.setLsw { u.lsw with uvAt := smPut none u.lsw.uvAt g (some u.cyc) }

/-- The group's voltage is back: the interval shows. -/
def sagEnded (s : State) (g mv sag : Nat) : State :=
  let u := ((s.setFlag (Fd.LSW_GRP_STAT_UV g) false).setFld (Fd.LSW_GRP_STAT_MV g) mv).setFld (Fd.LSW_GRP_SAG_US g) sag
  u.setLsw { u.lsw with uvAt := smPut none u.lsw.uvAt g none }

/-- A window of the group has been paused for the interval, as far as it has been open. -/
def LswCh.paused (x : LswCh) (mine : Bool) (sag cyc : Nat) : LswCh := match x.winAt with
  | some c => if mine then { x with winPause := x.winPause + min sag (cyc - c) } else x
  | none => x

/-- A channel's window is paused where the channel is the group's. -/
def windowPaused (g sag : Nat) (s : State) (n : Nat) : State :=
  let x := s.lch n
  match x.winAt with
  | some t => if lswGroup n = g then s.setLch n { x with winPause := x.winPause + min (sag * cycUs) (s.cyc - t) } else s
  | none => s

/-- The windows of a group's channels are paused. -/
def windowsPaused (s : State) (g sag : Nat) : State := s.forN 24 (windowPaused g sag)

theorem windowPaused_chan {t : State} {k cyc : Nat} (g sag : Nat) (hcyc : t.cyc = cyc) (hw : smWf (fun _ => {}) t.lsw.ch = true) :
    ChanAt [.lsw] k ((t.lch k).paused (lswGroup k == g) (sag * cycUs) cyc) t (windowPaused g sag t k) := by
  have hstart : ChanAt [.lsw] k (t.lch k) t t := .start _ _ hw
  subst hcyc
  unfold windowPaused LswCh.paused
  dsimp only
  cases hwin : (t.lch k).winAt with
  | none => exact hstart
  | some c =>
    by_cases hg : lswGroup k = g
    · simp only [hg, if_true, beq_self_eq_true]
      exact hstart.setLch
    · simp only [hg, if_false, beq_false_of_ne hg, Bool.false_eq_true]
      exact hstart

theorem exec_groupBelow (g : Fin 4) (mv : Half) (sag : Word) (s : State) : exec (.groupUndervoltage g true mv sag) s =
    if mv.toNat < lswUv s g ∧ (smGet none s.lsw.uvAt g).isNone = true then .next (sagBegun s g mv.toNat) else .next s := rfl

theorem exec_groupBack (g : Fin 4) (mv : Half) (sag : Word) (s : State) : exec (.groupUndervoltage g false mv sag) s =
    if lswUv s g ≤ mv.toNat ∧ (smGet none s.lsw.uvAt g).isSome = true then .next (windowsPaused (sagEnded s g mv.toNat sag.toNat) g sag.toNat)
    else .next s := rfl

/-- The groups' registers lie below the interrupt registers. -/
theorem grpStat_ne_pend {g : Nat} (hg : g < 4) : Ra.LSW_GRP_STAT g ≠ Ra.LSW_INT_PEND 1 := by
  show 0x40A00404 + 0x10 * g ≠ 0x40A0C01C
  omega

theorem grpStat_ne_sag (g : Nat) : Ra.LSW_GRP_STAT g ≠ Ra.LSW_GRP_SAG g := Nat.ne_of_lt (Nat.add_lt_add_right (by decide) _)

/-- What the beginning of a sag leaves. -/
theorem sagBegun_shows (hw : RegStore.wf s.regs = true) {g : Nat} (hg : g < 4) {mv : Nat} (hmv : mv < 2 ^ 16) :
    let t := sagBegun s g mv
    t.flag (Fd.LSW_GRP_STAT_UV g) = true ∧ t.fld (Fd.LSW_GRP_STAT_MV g) = mv ∧ smGet none t.lsw.uvAt g = some s.cyc ∧ t.lsw.ch = s.lsw.ch ∧
      OnlyRegs [Ra.LSW_GRP_STAT g, Ra.LSW_INT_PEND 1] s t ∧ OnlyParts [.regs, .lsw] s t := by
  have huv : Shows (Fd.LSW_GRP_STAT_UV g) (b2n true) (s.setFlag (Fd.LSW_GRP_STAT_UV g) true) := .setB hw
  have hset : Shows (Fd.LSW_GRP_STAT_MV g) mv ((s.setFlag (Fd.LSW_GRP_STAT_UV g) true).setFld (Fd.LSW_GRP_STAT_MV g) mv) :=
    .set huv.wf (Nat.mod_eq_of_lt hmv)
  have hshown : ∀ {f : Fld} {v : Nat}, f.addr = Ra.LSW_GRP_STAT g →
      Shows f v ((s.setFlag (Fd.LSW_GRP_STAT_UV g) true).setFld (Fd.LSW_GRP_STAT_MV g) mv) → Shows f v (sagBegun s g mv) := fun hf h =>
    .of_regs (h.elsewhere (a := Ra.LSW_INT_PEND 1) (by rw [hf]; exact grpStat_ne_pend hg)) rfl
  refine ⟨(hshown rfl huv.setFld).flag, (hshown rfl hset).fld, smGet_smPut_of_ne none _ g (by simp), rfl, ?_, ?_⟩
  · exact .of_regs (.raise (.setFld (.setFlag (.refl _ s) (by simp [Fd.LSW_GRP_STAT_UV])) (by simp [Fd.LSW_GRP_STAT_MV])) (by simp)) rfl
  · exact (OnlyParts.refl _ s).setFlag.setFld.raise.setLsw

/-- What the end of a sag leaves before the windows are paused. -/
theorem sagEnded_shows (hw : RegStore.wf s.regs = true) (g mv sag : Nat) :
    let t := sagEnded s g mv sag
    t.flag (Fd.LSW_GRP_STAT_UV g) = false ∧ t.fld (Fd.LSW_GRP_SAG_US g) = sag % 2 ^ (Fd.LSW_GRP_SAG_US g).width ∧ t.lsw.ch = s.lsw.ch ∧
      OnlyRegs [Ra.LSW_GRP_STAT g, Ra.LSW_GRP_SAG g] s t ∧ OnlyParts [.regs, .lsw] s t := by
  have hregs : (sagEnded s g mv sag).regs =
      (((s.setFlag (Fd.LSW_GRP_STAT_UV g) false).setFld (Fd.LSW_GRP_STAT_MV g) mv).setFld (Fd.LSW_GRP_SAG_US g) sag).regs := rfl
  have hset : Shows (Fd.LSW_GRP_STAT_UV g) (b2n false) (s.setFlag (Fd.LSW_GRP_STAT_UV g) false) := .setB hw
  have huv : Shows (Fd.LSW_GRP_STAT_UV g) (b2n false) ((s.setFlag (Fd.LSW_GRP_STAT_UV g) false).setFld (Fd.LSW_GRP_STAT_MV g) mv) := hset.setFld
  refine ⟨?_, ?_, rfl, ?_, (OnlyParts.refl _ s).setFlag.setFld.setFld.setLsw⟩
  · exact ((huv.otherFld (g := Fd.LSW_GRP_SAG_US g) (grpStat_ne_sag g)).of_regs hregs).flag
  · have hfld := fld_setFld_same _ (Fd.LSW_GRP_SAG_US g) sag huv.wf (Nat.le_refl 32)
    rw [State.fld, State.reg, hregs]
    exact hfld
  · have hstat : OnlyRegs [Ra.LSW_GRP_STAT g, Ra.LSW_GRP_SAG g] s ((s.setFlag (Fd.LSW_GRP_STAT_UV g) false).setFld (Fd.LSW_GRP_STAT_MV g) mv) :=
      .setFld (.setFlag (.refl _ s) (by simp [Fd.LSW_GRP_STAT_UV])) (by simp [Fd.LSW_GRP_STAT_MV])
    exact .of_regs (hstat.setFld (by simp [Fd.LSW_GRP_SAG_US])) hregs

theorem windowsPaused_lch (hw : smWf (fun _ => {}) s.lsw.ch = true) (g sag : Nat) :
    OnlyParts [.lsw] s (windowsPaused s g sag) ∧
      ∀ m, (windowsPaused s g sag).lch m = if m < 24 then (s.lch m).paused (lswGroup m == g) (sag * cycUs) s.cyc else s.lch m := by
  obtain ⟨hparts, -, hch⟩ := forN_lch (l := [.lsw]) (G := fun m x => x.paused (lswGroup m == g) (sag * cycUs) s.cyc) hw
    (fun t k ht hwt => windowPaused_chan g sag (congrArg ClkState.cyc (ht .clk (by simp))) hwt) 24
  exact ⟨hparts, hch⟩

end

/-! ### Keep channels (R63, R442) -/

section
variable {s : State}

/-- What the end of a keep hold makes of a channel. -/
def LswCh.released (x : LswCh) (cyc : Nat) : LswCh := match x.keepEnd with
  | some c =>
    if c ≤ cyc then
      if x.hold then ({ x with keepEnd := none, hold := false, cmd := 0 } : LswCh).stopped cyc else { x with keepEnd := none }
    else x
  | none => x

/-- A channel's turn at the end of the keep holds. -/
def keepTurn (s : State) (n : Nat) : State :=
  let x := s.lch n
  match x.keepEnd with
  | some t =>
    if t ≤ s.cyc then
      let s := s.setLch n { x with keepEnd := none, hold := false, cmd := if x.hold then 0 else x.cmd }
      if x.hold then lswShow (lswOff s n) n else s
    else s
  | none => s

theorem keepExpire_eq (s : State) : keepExpire s = s.forN 24 keepTurn := rfl

theorem keepTurn_chan {t : State} {k cyc : Nat} (hcyc : t.cyc = cyc) (hw : smWf (fun _ => {}) t.lsw.ch = true) :
    ChanAt [.regs, .lsw] k ((t.lch k).released cyc) t (keepTurn t k) := by
  have hstart : ChanAt [.regs, .lsw] k (t.lch k) t t := .start _ _ hw
  subst hcyc
  unfold keepTurn LswCh.released
  dsimp only
  cases hend : (t.lch k).keepEnd with
  | none => exact hstart
  | some c =>
    by_cases hdue : c ≤ t.cyc
    · simp only [hdue, if_true]
      cases hhold : (t.lch k).hold
      · simp only [Bool.false_eq_true, if_false]
        rw [← hhold]
        exact hstart.setLch
      · simp only [if_true]
        exact hstart.setLch.lswOff.lswShow
    · simp only [hdue, if_false]
      exact hstart

theorem keepExpire_lch (hw : smWf (fun _ => {}) s.lsw.ch = true) :
    OnlyParts [.regs, .lsw] s (keepExpire s) ∧ ∀ m, (keepExpire s).lch m = if m < 24 then (s.lch m).released s.cyc else s.lch m := by
  rw [keepExpire_eq]
  obtain ⟨hparts, -, hch⟩ := forN_lch (l := [.regs, .lsw]) (f := keepTurn) (G := fun _ x => x.released s.cyc) hw
    (fun t k ht hwt => keepTurn_chan (congrArg ClkState.cyc (ht .clk (by simp))) hwt) 24
  exact ⟨hparts, hch⟩

end

end Sys2Proof.Machine
end

section
/-! PROOF. Clamps, open loads, supply and keep channels of the load switches, clause by clause (R63, R429, R435, R438–R443). -/

namespace Sys2Proof.Machine

section
variable {s : State}

theorem clamp_settled (n : Fin 24) (us peak : Half) (s : State) (hc : s.canonical) :
    let c := Instr.clamp n ⟨peak, us⟩
    let load := s.flag (Fd.LSW_CH_CFG_LOAD n)
    let edge := lswOffEdge s n us.toNat = true
    let soon := ∃ x, (s.lch n).clampAt = some x ∧ s.cyc ≤ x + 100 * cycMs
    (¬ edge ∨ (load = true ∧ us.toNat ≤ 20) ∨ (load = false ∧ us.toNat ≤ 200) → Idle c s) ∧
    (edge → load = true → 20 < us.toNat → exec c s = .next (lswTrip (s.count (Fd.LSW_CH_CNT_CLAMPS n)) n 5 peak.toNat)) ∧
    (edge → load = false → 200 < us.toNat → ¬ soon → Gives c s (fun t =>
      t.lch n = { s.lch n with clampAt := some s.cyc } ∧ (∀ m, m ≠ n.val → t.lch m = s.lch m) ∧ OnlyParts lswParts s t)) ∧
    (edge → load = false → 200 < us.toNat → soon → Gives c s (fun t => (t.lch n).latchAt = some s.cyc ∧ (t.lch n).on = false ∧
      t.fld (Fd.LSW_CH_STAT_FAULT n) = 5 ∧ (∀ m, m ≠ n.val → t.lch m = s.lch m) ∧ OnlyParts lswParts s t)) := by
  dsimp only
  refine ⟨?_, fun he hl hus => ?_, fun he hl hus hsoon => ?_, fun he hl hus hsoon => ?_⟩
  · rintro (he | ⟨hl, hus⟩ | ⟨hl, hus⟩) <;> rw [Idle, exec_clamp]
    · exact if_pos (by simpa using he)
    · simp [hl, Nat.not_lt.mpr hus]
    · simp [hl, Nat.not_lt.mpr hus]
  · simp only [exec_clamp, he, hl, hus, if_true, Bool.true_eq_false, if_false]
  · have hchan : ChanAt lswParts n _ s (clampNoted s n) := clampNoted_chan hc.lswCh
    refine ⟨clampNoted s n, ?_, hchan.ch, hchan.other, hchan.parts⟩
    have hagain : clampAgain s n = false := by rwa [← Bool.not_eq_true, clampAgain_iff]
    simp only [exec_clamp, he, hl, hus, hagain, if_true, Bool.true_eq_false, Bool.false_eq_true, if_false]
  · refine ⟨lswTrip (clampNoted s n) n 5 peak.toNat, ?_, clampTrip_chan hc n.isLt peak.toNat⟩
    simp only [exec_clamp, he, hl, hus, (clampAgain_iff s n).mpr hsoon, if_true, Bool.true_eq_false, Bool.false_eq_true, if_false]

/-- The fault that the open-load check finds. -/
theorem lswCheck_eq (s : State) (n cur mv : Nat) : lswCheck s n cur mv =
    if (s.lch n).on then (if cur < s.fld (Fd.LSW_CH_THR_OL_ON n) then 1 else 0)
    else if s.flag (Fd.LSW_CH_CFG_OL_OFF n) = false then 0 else if 6000 < mv then 7 else if 2000 ≤ mv then 2 else 0 := by
  unfold lswCheck
  cases s.flag (Fd.LSW_CH_CFG_OL_OFF n) <;> rfl

theorem openLoad_settled (n : Fin 24) (cur mv : Half) (s : State) (hc : s.canonical) :
    let found := lswCheck s n cur.toNat mv.toNat
    let f := s.fld (Fd.LSW_CH_STAT_FAULT n)
    (f ∈ [0, 1, 2, 7] → f ≠ found → Gives (.openLoad n cur mv) s (fun t =>
      t.fld (Fd.LSW_CH_STAT_FAULT n) = found ∧ t.lch n = { s.lch n with cause := found != 0 } ∧ (∀ m, m ≠ n.val → t.lch m = s.lch m) ∧
      OnlyParts [.regs, .lsw] s t)) ∧
    (f ∉ [0, 1, 2, 7] ∨ f = found → Idle (.openLoad n cur mv) s) := by
  dsimp only
  refine ⟨fun hf hne => ?_, fun h => ?_⟩
  · have hchan := openShown_chan (n := n) (c := lswCheck s n cur.toNat mv.toNat) hc.lswCh
    refine ⟨_, (exec_openLoad n cur mv s).trans (if_pos ?_), openShown_fault hc.regs_wf n.isLt (lswCheck_lt ..), hchan.ch, hchan.other, hchan.parts⟩
    simpa only [Bool.and_eq_true, List.contains_iff_mem, bne_iff_ne] using And.intro hf hne
  · refine (exec_openLoad n cur mv s).trans (if_neg ?_)
    simp only [Bool.and_eq_true, List.contains_iff_mem, bne_iff_ne]
    exact fun ⟨hf, hne⟩ => h.elim (· hf) hne

theorem exec_batAOver (sum : Half) (s : State) : exec (.batAOver sum) s = .next (batAWatch s sum.toNat) := rfl

theorem batAOver_settled (sum : Half) (s : State) (hc : s.canonical) :
    let shown := s.setFld Fd.LSW_SUM_CUR (satU 16 sum.toNat)
    (sum.toNat ≤ 10000 → exec (.batAOver sum) s = .next ((shown.setFlag Fd.LSW_SUM_OVER false).setLsw { s.lsw with overAt := none })) ∧
    (10000 < sum.toNat → s.lsw.overAt = none → exec (.batAOver sum) s = .next (shown.setLsw { s.lsw with overAt := some s.cyc })) ∧
    (∀ c, 10000 < sum.toNat → s.lsw.overAt = some c →
      (s.cyc < c + cycS ∨ s.flag Fd.LSW_SUM_OVER = true → exec (.batAOver sum) s = .next shown) ∧
      (c + cycS ≤ s.cyc → s.flag Fd.LSW_SUM_OVER = false → exec (.batAOver sum) s =
        .next (logEvent ((shown.setFlag Fd.LSW_SUM_OVER true).raise (Ra.LSW_INT_PEND 2) 0) Ev.batAOver Src.unit (satU 16 sum.toNat) 0))) := by
  refine ⟨fun h => congrArg _ (batAWatch_low h), fun h hat => congrArg _ (batAWatch_first h hat), fun c h hat => ?_⟩
  rw [exec_batAOver, batAWatch_runs hc.regs_wf h hat]
  refine ⟨fun hw => congrArg _ (if_neg ?_), fun hdue hov => congrArg _ (if_pos ?_)⟩
  · simp only [Bool.and_eq_true, since_iff, Bool.not_eq_true']
    rintro ⟨hdue, hov⟩
    exact hw.elim (fun hlt => by omega) (fun hset => by simp [hset] at hov)
  · simp only [hov, (since_iff s c cycS).mpr hdue, Bool.not_false, Bool.and_self]

theorem batAOvRelease_settled (mv : Half) (s : State) (hc : s.canonical) :
    (mv.toNat < 38000 → s.flag (Fd.LSW_GRP_STAT_OV 0) = true → Gives (.batAOvRelease mv) s (fun t =>
      (∀ g, g < 4 → t.flag (Fd.LSW_GRP_STAT_OV g) = false) ∧ OnlyParts [.regs, .lsw] s t)) ∧
    (38000 ≤ mv.toNat ∨ s.flag (Fd.LSW_GRP_STAT_OV 0) = false → Idle (.batAOvRelease mv) s) := by
  refine ⟨fun hmv hov => ⟨_, (exec_batAOvRelease mv s).trans (if_pos ⟨hmv, hov⟩), lswOvRelease_clears hc.regs_wf⟩, fun h => ?_⟩
  refine (exec_batAOvRelease mv s).trans (if_neg ?_)
  rintro ⟨hmv, hov⟩
  exact h.elim (by omega) (fun hclear => by simp [hov] at hclear)

/-- What a window's pause makes of a channel of the group whose window is open. -/
theorem LswCh.paused_open {x : LswCh} {c : Nat} (h : x.winAt = some c) (sag cyc : Nat) :
    x.paused true sag cyc = { x with winPause := x.winPause + min sag (cyc - c) } := by
  simp only [LswCh.paused, h, if_true]

theorem LswCh.paused_other {x : LswCh} {mine : Bool} (h : mine = false ∨ x.winAt = none) (sag cyc : Nat) : x.paused mine sag cyc = x := by
  unfold LswCh.paused
  obtain rfl | hnone := h
  · cases x.winAt <;> rfl
  · rw [hnone]

/-- What the end of a sag leaves once the windows are paused. -/
theorem sagOver_settled (hc : s.canonical) (g : Nat) (mv sag : Nat) :
    let t := windowsPaused (sagEnded s g mv sag) g sag
    t.flag (Fd.LSW_GRP_STAT_UV g) = false ∧ t.fld (Fd.LSW_GRP_SAG_US g) = sag % 2 ^ (Fd.LSW_GRP_SAG_US g).width ∧
      (∀ n c, n < 24 → lswGroup n = g → (s.lch n).winAt = some c →
        t.lch n = { s.lch n with winPause := (s.lch n).winPause + min (sag * cycUs) (s.cyc - c) }) ∧
      (∀ n, lswGroup n ≠ g ∨ (s.lch n).winAt = none → t.lch n = s.lch n) ∧
      OnlyRegs [Ra.LSW_GRP_STAT g, Ra.LSW_GRP_SAG g] s t ∧ OnlyParts [.regs, .lsw] s t := by
  obtain ⟨huv, hsag, hch, hregs, hparts⟩ := sagEnded_shows hc.regs_wf g mv sag
  obtain ⟨hpaused, hlch⟩ := windowsPaused_lch (s := sagEnded s g mv sag) (hch ▸ hc.lswCh) g sag
  have hreg : (windowsPaused (sagEnded s g mv sag) g sag).regs = (sagEnded s g mv sag).regs := hpaused .regs (by simp)
  have hstay : OnlyRegs [] (sagEnded s g mv sag) (windowsPaused (sagEnded s g mv sag) g sag) := .of_regs (.refl _ _) hreg
  have hcyc : (sagEnded s g mv sag).cyc = s.cyc := congrArg ClkState.cyc (hparts .clk (by simp))
  have hold : ∀ n, (sagEnded s g mv sag).lch n = s.lch n := fun n => congrArg (smGet ({} : LswCh) · n) hch
  simp only [hold, hcyc] at hlch
  refine ⟨(hstay.flag_eq (by simp)).trans huv, (hstay.fld_eq (by simp)).trans hsag, fun n c hn hg hwin => ?_, fun n h => ?_, hregs.of_regs hreg,
    hparts.trans (hpaused.mono (by simp))⟩
  · rw [hlch n, if_pos hn, beq_iff_eq.mpr hg, LswCh.paused_open hwin]
  · rw [hlch n, LswCh.paused_other (h.imp beq_false_of_ne id), ite_self]

theorem groupUndervoltage_settled (g : Fin 4) (mv : Half) (sag : Word) (s : State) (hc : s.canonical) :
    let low := smGet none s.lsw.uvAt g
    (mv.toNat < lswUv s g → low = none → Gives (.groupUndervoltage g true mv sag) s (fun t =>
      t.flag (Fd.LSW_GRP_STAT_UV g) = true ∧ t.fld (Fd.LSW_GRP_STAT_MV g) = mv.toNat ∧ smGet none t.lsw.uvAt g = some s.cyc ∧ t.lsw.ch = s.lsw.ch ∧
      OnlyRegs [Ra.LSW_GRP_STAT g, Ra.LSW_INT_PEND 1] s t ∧ OnlyParts [.regs, .lsw] s t)) ∧
    (lswUv s g ≤ mv.toNat ∨ low.isSome = true → Idle (.groupUndervoltage g true mv sag) s) ∧
    (mv.toNat < lswUv s g ∨ low = none → Idle (.groupUndervoltage g false mv sag) s) ∧
    (lswUv s g ≤ mv.toNat → low.isSome = true → Gives (.groupUndervoltage g false mv sag) s (fun t =>
      t.flag (Fd.LSW_GRP_STAT_UV g) = false ∧ t.fld (Fd.LSW_GRP_SAG_US g) = sag.toNat % 2 ^ (Fd.LSW_GRP_SAG_US g).width ∧
      (∀ n c, n < 24 → lswGroup n = g.val → (s.lch n).winAt = some c →
        t.lch n = { s.lch n with winPause := (s.lch n).winPause + min (sag.toNat * cycUs) (s.cyc - c) }) ∧
      (∀ n, lswGroup n ≠ g.val ∨ (s.lch n).winAt = none → t.lch n = s.lch n) ∧
      OnlyRegs [Ra.LSW_GRP_STAT g, Ra.LSW_GRP_SAG g] s t ∧ OnlyParts [.regs, .lsw] s t)) := by
  refine ⟨fun hmv hlow => ?_, fun h => ?_, fun h => ?_, fun hmv hlow => ?_⟩
  · exact ⟨_, (exec_groupBelow g mv sag s).trans (if_pos ⟨hmv, by rw [hlow]; rfl⟩), sagBegun_shows hc.regs_wf g.isLt mv.isLt⟩
  · refine (exec_groupBelow g mv sag s).trans (if_neg ?_)
    rintro ⟨hmv, hnone⟩
    exact h.elim (by omega) (fun hsome => by simp [Option.isNone_iff_eq_none.mp hnone] at hsome)
  · refine (exec_groupBack g mv sag s).trans (if_neg ?_)
    rintro ⟨hmv, hsome⟩
    exact h.elim (by omega) (fun hnone => by simp [hnone] at hsome)
  · exact ⟨_, (exec_groupBack g mv sag s).trans (if_pos ⟨hmv, hlow⟩), sagOver_settled hc g mv.toNat sag.toNat⟩

/-- What the end of a hold makes of a held channel, of one without a hold, and of one whose end has not come. -/
theorem LswCh.released_held {x : LswCh} {c cyc : Nat} (h : x.keepEnd = some c) (hdue : c ≤ cyc) (hhold : x.hold = true) :
    x.released cyc = ({ x with keepEnd := none, hold := false, cmd := 0 } : LswCh).stopped cyc := by
  simp only [LswCh.released, h, hdue, hhold, if_true]

theorem LswCh.released_free {x : LswCh} {c cyc : Nat} (h : x.keepEnd = some c) (hdue : c ≤ cyc) (hhold : x.hold = false) :
    x.released cyc = { x with keepEnd := none } := by
  simp only [LswCh.released, h, hdue, hhold, if_true, Bool.false_eq_true, if_false]

theorem LswCh.released_waits {x : LswCh} {cyc : Nat} (h : x.keepEnd = none ∨ ∃ c, x.keepEnd = some c ∧ cyc < c) : x.released cyc = x := by
  unfold LswCh.released
  obtain hnone | ⟨c, hc, hlt⟩ := h
  · rw [hnone]
  · rw [hc]
    exact if_neg (Nat.not_le.mpr hlt)

theorem keepChannelTimeout_settled (s : State) (hc : s.canonical) : Gives .keepChannelTimeout s (fun t =>
    (∀ n c, n < 24 → (s.lch n).keepEnd = some c → c ≤ s.cyc → (s.lch n).hold = true →
      (t.lch n).on = false ∧ (t.lch n).hold = false ∧ (t.lch n).cmd = 0 ∧ (t.lch n).keepEnd = none) ∧
    (∀ n c, n < 24 → (s.lch n).keepEnd = some c → c ≤ s.cyc → (s.lch n).hold = false → t.lch n = { s.lch n with keepEnd := none }) ∧
    (∀ n, (s.lch n).keepEnd = none ∨ (∃ c, (s.lch n).keepEnd = some c ∧ s.cyc < c) → t.lch n = s.lch n) ∧ OnlyParts [.regs, .lsw] s t) := by
  obtain ⟨hparts, hlch⟩ := keepExpire_lch hc.lswCh
  refine ⟨keepExpire s, rfl, fun n c hn hend hdue hhold => ?_, fun n c hn hend hdue hhold => ?_, fun n h => ?_, hparts⟩
  · rw [hlch n, if_pos hn, LswCh.released_held hend hdue hhold]
    exact ⟨rfl, rfl, rfl, rfl⟩
  · rw [hlch n, if_pos hn, LswCh.released_free hend hdue hhold]
  · rw [hlch n, LswCh.released_waits h, ite_self]

end

/-- Settles O46, clause by clause: clamps, open loads, the summed current, the release of the overvoltage, a group's undervoltage and the keep holds. -/
theorem loadSwitchChecks : Obligations.LoadSwitchChecks := by
  unfold Obligations.LoadSwitchChecks
  refine ⟨fun n us peak s hc => clamp_settled n us peak s hc, fun n cur mv s hc => ?_, fun sum s hc => batAOver_settled sum s hc,
    fun mv s hc => batAOvRelease_settled mv s hc, fun g mv sag s hc => groupUndervoltage_settled g mv sag s hc,
    fun s hc => keepChannelTimeout_settled s hc⟩
  rw [← lswCheck_eq]
  exact openLoad_settled n cur mv s hc

end Sys2Proof.Machine
end

section
/-! SUPPORT. What a lock-out leaves, captures of live inputs, and the parts of the safety island along a chain of turns (R450, R462–R464, R504). -/

namespace Sys2Proof.Machine

/-- What holds before the first turn and after each turn holds after the last. -/
theorem forN_induct {P : Nat → State → Prop} {f : State → Nat → State} {s : State} {n : Nat} (h0 : P 0 s)
    (hf : ∀ k t, k < n → P k t → P (k + 1) (f t k)) : P n (s.forN n f) := by
  induction n with
  | zero => exact h0
  | succ n ih =>
    rw [forN_succ]
    exact hf n _ (Nat.lt_succ_self n) (ih fun k t hk => hf k t (Nat.lt_succ_of_lt hk))

/-! ### A capture that is no output (R504) -/

section
variable {s : State} {type unit : Nat} {data : List Nat}

/-- A capture changes nothing (no segment is open, or the boundary replays), or is counted and shown in the buffer's fill. -/
theorem tabRec_cases (hout : type ≠ TabT.out) : tabRec s type unit data = s ∨
    ∃ x fill, tabRec s type unit data = ((s.count (Fd.TAB_REC_TYPE_V (type - 1))).setTab x).setFld Fd.TAB_STAT_FILL fill := by
  simp only [tabRec, tabRecAt, hout, false_and, if_false]
  split
  · exact .inl rfl
  · split
    · exact .inr ⟨_, _, rfl⟩
    · exact .inl rfl

theorem tabRec_frame (hout : type ≠ TabT.out) (htype : type - 1 < 8) :
    OnlyRegs captureRegs s (tabRec s type unit data) ∧ OnlyParts [.regs, .tab] s (tabRec s type unit data) := by
  have hregs : OnlyRegs captureRegs s s := .refl _ s
  have hparts : OnlyParts [.regs, .tab] s s := .refl _ s
  obtain e | ⟨x, fill, e⟩ := tabRec_cases (s := s) (unit := unit) (data := data) hout
  · rw [e]; exact ⟨hregs, hparts⟩
  · rw [e]; exact ⟨((hregs.count (tabRecMem_captureRegs htype)).of_regs rfl).setFld, hparts.count.setTab.setFld⟩

end

/-- A live input's capture changes the recorder and its counts alone. -/
theorem safLatchRec_frame (s : State) (key v : Nat) :
    OnlyRegs captureRegs s (safLatchRec s key v) ∧ OnlyParts [.regs, .tab] s (safLatchRec s key v) := by
  obtain ⟨hregs, hparts⟩ := tabRec_frame (s := s) (type := TabT.latch) (unit := key) (data := [v, 1, 0, s.clk.tick]) (by decide) (by decide)
  exact ⟨.ite (.refl _ s) hregs, .ite (.refl _ s) hparts⟩

/-! ### A lock-out (R462–R464) -/

/-- The parts that a lock-out changes. -/
abbrev lockParts : List Part := [.regs, .saf, .evr, .tab, .rpl]

section
variable {s : State} {cause detail : Nat}

theorem lockNoted_onlyParts (s : State) (cause detail : Nat) : OnlyParts [.regs, .saf] s (lockNoted s cause detail) := (OnlyParts.refl _ s).setReg.setSaf

theorem lockShown_onlyParts (s : State) (cause detail : Nat) : OnlyParts [.regs] s (lockShown s cause detail) :=
  (OnlyParts.refl _ s).setFld.setFld.setFlag.setFlag.setFld

theorem lockOut_onlyParts (s : State) (cause detail : Nat) : OnlyParts lockParts s (lockOut s cause detail) := by
  have hnoted : OnlyParts lockParts s (lockNoted s cause detail) := (lockNoted_onlyParts s cause detail).mono (by simp)
  have hlatched : OnlyParts lockParts s (lockLatched (lockNoted s cause detail) cause detail) := hnoted.setSaf
  rw [lockOut_eq]
  exact OnlyParts.trans (.ite (hlatched.trans ((lockShown_onlyParts _ _ _).mono (by simp))) hnoted) ((logLive_frame _ _ _ _ _).2.mono (by simp))

/-- The safety island's state after a lock-out: noted, and latched where it shows. -/
theorem lockOut_saf (s : State) (cause detail : Nat) : (lockOut s cause detail).saf =
    if lockShows s cause then (lockLatched (lockNoted s cause detail) cause detail).saf else (lockNoted s cause detail).saf := by
  rw [lockOut_eq]
  refine ((logLive_frame _ _ _ _ _).2 .saf (by simp)).trans ?_
  split
  · rfl
  · rfl

theorem lockOut_mram_isSome (s : State) (cause detail : Nat) : (lockOut s cause detail).saf.mram.isSome = true := by
  rw [lockOut_saf]
  split
  · rfl
  · next h =>
    have hsome : s.saf.mram.isNone = false := by
      by_contra hnone
      exact h (by simp only [lockShows, Bool.eq_true_of_not_eq_false hnone, Bool.true_or])
    exact Option.isNone_eq_false_iff.mp hsome

/-- A later tick's lock-out leaves the latch. -/
theorem lockOut_mram_kept {x : Nat × Nat} (hx : s.saf.mram = some x) (ht : s.saf.lockTick ≠ some s.saf.t) : (lockOut s cause detail).saf.mram = some x := by
  have hshow : lockShows s cause = false := by simp [lockShows, hx, ht]
  rw [lockOut_saf, hshow]
  exact hx

/-- The first lock-out is latched. -/
theorem lockShows_first (hs : s.saf.mram = none) : lockShows s cause = true := by simp [lockShows, hs]

theorem lockOut_saf_first (hs : s.saf.mram = none) : (lockOut s cause detail).saf = (lockLatched (lockNoted s cause detail) cause detail).saf := by
  rw [lockOut_saf, if_pos (lockShows_first hs)]

theorem lockOut_mram_first (hs : s.saf.mram = none) : (lockOut s cause detail).saf.mram = some (cause, detail) := by
  rw [lockOut_saf_first hs]
  rfl

theorem lockOut_offs (s : State) (cause detail : Nat) :
    (lockOut s cause detail).saf.offs = s.saf.offs ++ [{ cause := cause, detail := detail, off := s.saf.t + 20 }] := by
  rw [lockOut_saf]
  split
  · rfl
  · rfl

/-- Inputs, pairs, outputs and the configuration stay. -/
theorem lockOut_inputs (s : State) (cause detail : Nat) : (lockOut s cause detail).saf.si = s.saf.si ∧ (lockOut s cause detail).saf.ip = s.saf.ip ∧
    (lockOut s cause detail).saf.so = s.saf.so ∧ (lockOut s cause detail).saf.pair = s.saf.pair ∧ (lockOut s cause detail).saf.cfg = s.saf.cfg := by
  rw [lockOut_saf]
  split
  · exact ⟨rfl, rfl, rfl, rfl, rfl⟩
  · exact ⟨rfl, rfl, rfl, rfl, rfl⟩

@[simp] theorem lockOut_safIn (s : State) (cause detail k : Nat) : (lockOut s cause detail).safIn k = s.safIn k :=
  congrArg (smGet ({} : SiSt) · k) (lockOut_inputs s cause detail).1

@[simp] theorem lockOut_safPair (s : State) (cause detail k : Nat) : (lockOut s cause detail).safPair k = s.safPair k :=
  congrArg (smGet ({} : PairIn) · k) (lockOut_inputs s cause detail).2.1

@[simp] theorem lockOut_safOut (s : State) (cause detail k : Nat) : (lockOut s cause detail).safOut k = s.safOut k :=
  congrArg (smGet ({} : SoSt) · k) (lockOut_inputs s cause detail).2.2.1

@[simp] theorem lockOut_sensPair (s : State) (cause detail k : Nat) : (lockOut s cause detail).sensPair k = s.sensPair k :=
  congrArg (smGet ({} : SafPair) · k) (lockOut_inputs s cause detail).2.2.2.1

@[simp] theorem lockOut_cfg (s : State) (cause detail : Nat) : (lockOut s cause detail).saf.cfg = s.saf.cfg := (lockOut_inputs s cause detail).2.2.2.2

/-- The island's registers read after a lock-out as before its record. -/
theorem lockOut_reg (s : State) (cause detail : Nat) {a : Nat} (ha : a / 0x10000 ≠ 0x4006 ∧ a / 0x10000 ≠ 0x4007) : (lockOut s cause detail).reg a =
    (if lockShows s cause then lockShown (lockLatched (lockNoted s cause detail) cause detail) cause detail else lockNoted s cause detail).reg a := by
  rw [lockOut_eq]
  exact (logLive_frame _ _ _ _ _).1 a fun hm => (logRegs_window a hm).elim ha.1 ha.2

/-- Every cause is marked in SAF_LOCK.MASK. -/
theorem lockOut_mask (hw : RegStore.wf s.regs = true) (hcause : cause < 16) : bit ((lockOut s cause detail).reg Ra.SAF_LOCK_MASK).toNat cause = true := by
  have hset : (lockNoted s cause detail).reg Ra.SAF_LOCK_MASK = s.reg Ra.SAF_LOCK_MASK ||| BitVec.ofNat 32 (2 ^ cause) :=
    reg_setReg_same s _ _ hw
  have hshown : (lockShown (lockLatched (lockNoted s cause detail) cause detail) cause detail).reg Ra.SAF_LOCK_MASK =
      (lockNoted s cause detail).reg Ra.SAF_LOCK_MASK := by
    have h : OnlyRegs [Ra.SAF_LOCK, Ra.SAF_STAT] (lockNoted s cause detail) (lockShown (lockLatched (lockNoted s cause detail) cause detail) cause detail) :=
      .setFld (.setFlag (.setFlag (.setFld (.setFld (.of_regs (.refl _ _) rfl)))))
    exact h _ (by decide)
  have hreg : (lockOut s cause detail).reg Ra.SAF_LOCK_MASK = s.reg Ra.SAF_LOCK_MASK ||| BitVec.ofNat 32 (2 ^ cause) := by
    rw [lockOut_reg s cause detail (by decide)]
    split
    · exact hshown.trans hset
    · exact hset
  have hbit : 2 ^ cause < 2 ^ 32 := Nat.pow_lt_pow_right (by decide) (by omega)
  rw [hreg, bit_eq_testBit, BitVec.toNat_or, Nat.testBit_or, BitVec.toNat_ofNat, Nat.mod_eq_of_lt hbit, Nat.testBit_two_pow_self, Bool.or_true]

/-- The first lock-out shows in SAF_LOCK. -/
theorem lockOut_shown (hw : RegStore.wf s.regs = true) (hs : s.saf.mram = none) (hcause : cause < 16) (hdetail : detail < 16) :
    let t := lockOut s cause detail
    t.flag Fd.SAF_LOCK_LATCHED = true ∧ t.fld Fd.SAF_LOCK_CAUSE = cause ∧ t.fld Fd.SAF_LOCK_DETAIL = detail ∧ t.flag Fd.SAF_LOCK_READY = false := by
  have hreg : ∀ f : Fld, f.addr = Ra.SAF_LOCK → (lockOut s cause detail).fld f =
      (lockShown (lockLatched (lockNoted s cause detail) cause detail) cause detail).fld f := fun f hf => by
    rw [State.fld, State.fld, hf, lockOut_reg s cause detail (by decide), if_pos (lockShows_first hs)]
  have hnoted : RegStore.wf (lockLatched (lockNoted s cause detail) cause detail).regs = true := setReg_wf s Ra.SAF_LOCK_MASK _ hw
  have h₁ : Shows Fd.SAF_LOCK_CAUSE cause ((lockLatched (lockNoted s cause detail) cause detail).setFld Fd.SAF_LOCK_CAUSE cause) :=
    .set hnoted (Nat.mod_eq_of_lt (Nat.lt_trans hcause (by decide)))
  have h₂ : Shows Fd.SAF_LOCK_DETAIL detail (((lockLatched (lockNoted s cause detail) cause detail).setFld Fd.SAF_LOCK_CAUSE cause).setFld
    Fd.SAF_LOCK_DETAIL detail) := .set h₁.wf (Nat.mod_eq_of_lt hdetail)
  have h₃ := Shows.setB (f := Fd.SAF_LOCK_LATCHED) (b := true) h₂.wf
  have h₄ := Shows.setB (f := Fd.SAF_LOCK_READY) (b := false) h₃.wf
  refine ⟨?_, ?_, ?_, ?_⟩
  · rw [State.flag, hreg _ rfl]
    exact h₃.setFlag.otherFld.flag
  · exact (hreg _ rfl).trans h₁.setFld.setFlag.setFlag.otherFld.fld
  · exact (hreg _ rfl).trans h₂.setFlag.setFlag.otherFld.fld
  · rw [State.flag, hreg _ rfl]
    exact h₄.otherFld.flag

end

end Sys2Proof.Machine
end

section
/-! PROOF. The safety island's events (R61, R450, R452, R457, R459, R461–R466). -/

namespace Sys2Proof.Machine

/-! ### The speed limit (R61, R461) -/

section
variable {s : State}

theorem heartbeatLoss_settled (s : State) :
    (5 ≤ s.saf.hbMiss → driverless s.outMode = true → exec .heartbeatLoss s =
      .next (s.setSaf { s.saf with zero := smPut none s.saf.zero 2 (some none) })) ∧
    (s.saf.hbMiss < 5 ∨ driverless s.outMode = false → Idle .heartbeatLoss s) := by
  refine ⟨fun hmiss hmode => congrArg _ (if_pos ⟨hmiss, hmode⟩), fun h => congrArg _ (if_neg ?_)⟩
  rintro ⟨hmiss, hmode⟩
  exact h.elim (fun hlt => by omega) (fun hno => by rw [safMode, if_pos rfl, hno] at hmode; exact Bool.noConfusion hmode)

theorem exec_speedContributionLift (k : Fin 8) (s : State) : exec (.speedContributionLift k) s = .next (zeroLift s k) := rfl

theorem zeroLift_ended {k x : Nat} (h : smGet none s.saf.zero k = some (some x)) :
    zeroLift s k = if x + 20000 ≤ s.saf.t then s.setSaf { s.saf with zero := smPut none s.saf.zero k none } else s := by
  rw [zeroLift, h]

theorem zeroLift_waits {k : Nat} (h : smGet none s.saf.zero k = some none ∨ smGet none s.saf.zero k = none) : zeroLift s k = s := by
  obtain h | h := h
  · rw [zeroLift, h]
  · rw [zeroLift, h]

theorem speedContributionLift_settled (k : Fin 8) (s : State) :
    (∀ x, smGet none s.saf.zero k = some (some x) →
      (x + 20000 ≤ s.saf.t → exec (.speedContributionLift k) s = .next (s.setSaf { s.saf with zero := smPut none s.saf.zero k none })) ∧
      (s.saf.t < x + 20000 → Idle (.speedContributionLift k) s)) ∧
    (smGet none s.saf.zero k = some none ∨ smGet none s.saf.zero k = none → Idle (.speedContributionLift k) s) := by
  refine ⟨fun x hx => ?_, fun h => congrArg _ (zeroLift_waits h)⟩
  rw [Idle, exec_speedContributionLift, zeroLift_ended hx]
  exact ⟨fun h => congrArg _ (if_pos h), fun h => congrArg _ (if_neg (Nat.not_le.mpr h))⟩

theorem safHbWrite_settled (v : Word) (s : State) :
    Gives (.safHbWrite v) s (fun t => t.saf = { s.saf with hb := v } ∧ OnlyRegs captureRegs s t ∧ OnlyParts [.regs, .saf, .tab, .rpl] s t) := by
  have hparts := tabCmd_onlyParts (s.setSaf { s.saf with hb := v }) Ra.SAF_HB [v.toNat]
  refine ⟨hbWrite s v, rfl, hparts .saf (by simp), ?_, ?_⟩
  · exact OnlyRegs.trans (.of_regs (.refl _ s) rfl) (tabCmd_onlyRegs _ _ _)
  · exact OnlyParts.trans (.setSaf (.refl _ s)) (hparts.mono (by simp))

/-- The word of SAF_STOP_REQ carries its key and GO. -/
theorem exec_safStopReq (s : State) : exec .safStopReq s =
    .next ((tabCmd s Ra.SAF_STOP_REQ [0x5AFE0001]).setSaf { (tabCmd s Ra.SAF_STOP_REQ [0x5AFE0001]).saf with stopGo := true }) :=
  congrArg Host.Outcome.next (if_pos (by decide))

theorem safStopReq_settled (s : State) : Gives .safStopReq s (fun t => t.saf = { s.saf with stopGo := true } ∧ OnlyRegs captureRegs s t ∧
    OnlyParts [.regs, .saf, .tab, .rpl] s t) := by
  have hparts := tabCmd_onlyParts s Ra.SAF_STOP_REQ [0x5AFE0001]
  refine ⟨_, exec_safStopReq s, ?_, (tabCmd_onlyRegs _ _ _).of_regs rfl, (hparts.mono (by simp)).setSaf⟩
  exact congrArg (fun x : SafState => { x with stopGo := true }) (hparts .saf (by simp))

end

/-! ### Test pulses (R450) -/

section
variable {s t : State} {tp low k : Nat}

/-- An input's new state. -/
def State.setSafIn (s : State) (k : Nat) (x : SiSt) : State := s.setSaf { s.saf with si := smPut {} s.saf.si k x }

theorem safIn_setSafIn_other {m : Nat} (x : SiSt) (h : m ≠ k) : (s.setSafIn k x).safIn m = s.safIn m := smGet_smPut_other _ _ _ k m x h

theorem safIn_setSafIn_fault {x : SiSt} (h : x.fault = true) : (s.setSafIn k x).safIn k = x :=
  smGet_smPut_of_ne _ _ k fun e => by rw [e] at h; exact Bool.noConfusion h

/-- The input is one of the tested ones: used, of a contact type, and its contact closed. -/
def pulseSeen (s : State) (k : Nat) : Prop := s.saf.cfg.used (k / 2) = true ∧ s.saf.cfg.type (k / 2) ≠ 2 ∧ (s.safIn k).filt = true

/-- One input's turn in TEST_PULSE. -/
def pulseTurn (tp low : Nat) (s : State) (k : Nat) : State :=
  let i := k / 2
  let x := s.safIn k
  if !s.saf.cfg.used i || s.saf.cfg.type i == 2 || !x.filt then s
  else if k % 2 = tp then
    if bit low k then s.setSafIn k { x with miss := 0, fault := false }
    else if 3 ≤ x.miss + 1 ∧ x.fault = false then lockOut (s.setSafIn k { x with miss := x.miss + 1, fault := true }) 3 i
    else s.setSafIn k { x with miss := x.miss + 1 }
  else if bit low k && !x.fault then lockOut (s.setSafIn k { x with fault := true }) 3 i
  else s

theorem testPulse_eq (s : State) (tp low : Nat) : testPulse s true tp low = s.forN 8 (pulseTurn tp low) := rfl

theorem pulseTurn_unseen (h : ¬ pulseSeen s k) : pulseTurn tp low s k = s := by
  refine if_pos ?_
  by_contra hc
  simp only [Bool.or_eq_true, Bool.not_eq_true', beq_iff_eq, not_or, Bool.not_eq_false] at hc
  exact h ⟨hc.1.1, hc.1.2, hc.2⟩

theorem pulseTurn_seen (h : pulseSeen s k) : pulseTurn tp low s k =
    if k % 2 = tp then
      if bit low k then s.setSafIn k { s.safIn k with miss := 0, fault := false }
      else if 3 ≤ (s.safIn k).miss + 1 ∧ (s.safIn k).fault = false then
        lockOut (s.setSafIn k { s.safIn k with miss := (s.safIn k).miss + 1, fault := true }) 3 (k / 2)
      else s.setSafIn k { s.safIn k with miss := (s.safIn k).miss + 1 }
    else if bit low k && !(s.safIn k).fault then lockOut (s.setSafIn k { s.safIn k with fault := true }) 3 (k / 2)
    else s := by
  obtain ⟨hused, htype, hfilt⟩ := h
  exact if_neg (by simp [hused, htype, hfilt])

/-- A readback that is as it must be locks nothing out. -/
theorem pulseTurn_good (h : pulseSeen s k) (hlow : bit low k = decide (k % 2 = tp)) :
    pulseTurn tp low s k = s ∨ ∃ x, pulseTurn tp low s k = s.setSafIn k x := by
  rw [pulseTurn_seen h, hlow]
  by_cases hown : k % 2 = tp
  · exact .inr ⟨_, by rw [if_pos hown, if_pos (decide_eq_true hown)]⟩
  · exact .inl (by rw [if_neg hown, decide_eq_false hown, Bool.false_and, if_neg Bool.false_ne_true])

/-- A third missing low, and a low of the other source, lock out. -/
theorem pulseTurn_bad (h : pulseSeen s k) (hfault : (s.safIn k).fault = false)
    (hbad : (k % 2 = tp ∧ bit low k = false ∧ (s.safIn k).miss = 2) ∨ (k % 2 ≠ tp ∧ bit low k = true)) :
    ∃ x, x.fault = true ∧ pulseTurn tp low s k = lockOut (s.setSafIn k x) 3 (k / 2) := by
  rw [pulseTurn_seen h]
  obtain ⟨hown, hlow, hmiss⟩ | ⟨hown, hlow⟩ := hbad
  · exact ⟨_, rfl, by rw [if_pos hown, hlow, if_neg Bool.false_ne_true, if_pos ⟨by omega, hfault⟩]⟩
  · exact ⟨_, rfl, by rw [if_neg hown, hlow, hfault, Bool.not_false, Bool.and_self, if_pos rfl]⟩

/-- What an input's turn keeps: the configuration, the other inputs, a latch that is set, and the parts outside a lock-out. -/
structure PulseKeeps (k : Nat) (s t : State) : Prop where
  cfg : t.saf.cfg = s.saf.cfg
  other : ∀ m, m ≠ k → t.safIn m = s.safIn m
  latched : s.saf.mram.isSome = true → t.saf.mram.isSome = true
  parts : OnlyParts lockParts s t

theorem PulseKeeps.refl (s : State) (k : Nat) : PulseKeeps k s s := ⟨rfl, fun _ _ => rfl, id, .refl _ s⟩

theorem PulseKeeps.set (s : State) (k : Nat) (x : SiSt) : PulseKeeps k s (s.setSafIn k x) :=
  ⟨rfl, fun _ hm => safIn_setSafIn_other x hm, id, (OnlyParts.refl _ s).setSaf⟩

theorem PulseKeeps.lock (s : State) (k : Nat) (x : SiSt) (cause detail : Nat) : PulseKeeps k s (lockOut (s.setSafIn k x) cause detail) :=
  ⟨lockOut_cfg _ _ _, fun m hm => (lockOut_safIn _ _ _ m).trans (safIn_setSafIn_other x hm), fun _ => lockOut_mram_isSome _ _ _,
    (OnlyParts.setSaf (.refl _ s)).trans (lockOut_onlyParts _ _ _)⟩

theorem pulseTurn_keeps (tp low : Nat) (s : State) (k : Nat) : PulseKeeps k s (pulseTurn tp low s k) := by
  by_cases h : pulseSeen s k
  · rw [pulseTurn_seen h]
    split
    · split
      · exact .set s k _
      · split
        · exact .lock s k _ _ _
        · exact .set s k _
    · split
      · exact .lock s k _ _ _
      · exact .refl s k
  · rw [pulseTurn_unseen h]
    exact .refl s k

/-- An input is tested alike where the configuration and the input itself are as before. -/
theorem pulseSeen_congr (hcfg : t.saf.cfg = s.saf.cfg) (hin : t.safIn k = s.safIn k) : pulseSeen t k ↔ pulseSeen s k := by
  rw [pulseSeen, pulseSeen, hcfg, hin]

/-- Readbacks that are all as they must be. -/
structure PulseGood (j : Nat) (s t : State) : Prop where
  cfg : t.saf.cfg = s.saf.cfg
  later : ∀ m, j ≤ m → t.safIn m = s.safIn m
  mram : t.saf.mram = s.saf.mram
  offs : t.saf.offs = s.saf.offs
  regs : t.regs = s.regs
  parts : OnlyParts [.saf] s t

theorem testPulse_good (hgood : ∀ k, k < 8 → pulseSeen s k → bit low k = decide (k % 2 = tp)) : PulseGood 8 s (testPulse s true tp low) := by
  rw [testPulse_eq]
  refine forN_induct (P := fun j t => PulseGood j s t) ⟨rfl, fun _ _ => rfl, rfl, rfl, rfl, .refl _ s⟩ fun k t hk ht => ?_
  have hstay : PulseGood (k + 1) s t := ⟨ht.cfg, fun m hm => ht.later m (by omega), ht.mram, ht.offs, ht.regs, ht.parts⟩
  by_cases hseen : pulseSeen t k
  · have hseen' := (pulseSeen_congr ht.cfg (ht.later k (Nat.le_refl k))).mp hseen
    obtain e | ⟨x, e⟩ := pulseTurn_good hseen (hgood k hk hseen')
    · rw [e]
      exact hstay
    · rw [e]
      exact ⟨ht.cfg, fun m hm => (safIn_setSafIn_other x (by omega)).trans (ht.later m (by omega)), ht.mram, ht.offs, ht.regs, ht.parts.setSaf⟩
  · rw [pulseTurn_unseen hseen]
    exact hstay

/-- Inputs from `j` on are as before; below it, input `k` has been found faulty. -/
structure PulseBad (k j : Nat) (s t : State) : Prop where
  cfg : t.saf.cfg = s.saf.cfg
  later : ∀ m, j ≤ m → t.safIn m = s.safIn m
  found : k < j → t.saf.mram.isSome = true ∧ (t.safIn k).fault = true
  parts : OnlyParts lockParts s t

theorem testPulse_bad (hseen : pulseSeen s k) (hfault : (s.safIn k).fault = false)
    (hbad : (k % 2 = tp ∧ bit low k = false ∧ (s.safIn k).miss = 2) ∨ (k % 2 ≠ tp ∧ bit low k = true)) :
    PulseBad k 8 s (testPulse s true tp low) := by
  rw [testPulse_eq]
  refine forN_induct (P := fun j t => PulseBad k j s t) ⟨rfl, fun _ _ => rfl, fun h => absurd h (Nat.not_lt_zero k), .refl _ s⟩ fun j t hj ht => ?_
  have hkeeps := pulseTurn_keeps tp low t j
  refine ⟨hkeeps.cfg.trans ht.cfg, fun m hm => (hkeeps.other m (by omega)).trans (ht.later m (by omega)), fun hkj => ?_, ht.parts.trans hkeeps.parts⟩
  by_cases hjk : k = j
  · subst hjk
    have hin := ht.later k (Nat.le_refl k)
    obtain ⟨x, hx, e⟩ := pulseTurn_bad ((pulseSeen_congr ht.cfg hin).mpr hseen) (hin ▸ hfault) (hin ▸ hbad)
    rw [e]
    exact ⟨lockOut_mram_isSome _ _ _, by rw [lockOut_safIn, safIn_setSafIn_fault hx]; exact hx⟩
  · obtain ⟨hmram, hfound⟩ := ht.found (by omega)
    exact ⟨hkeeps.latched hmram, by rw [hkeeps.other k hjk]; exact hfound⟩

theorem exec_testPulse (tp : Fin 2) (low : BitVec 8) (s : State) : exec (.testPulse tp low) s =
    if bit (s.fld Fd.SAF_STAT_TP) tp || !safRuns s then .next s
    else .next (testPulse (safLatchRec s safTpKey (tp * 256 + low.toNat)) true tp low.toNat) := rfl

theorem testPulse_settled (tp : Fin 2) (low : BitVec 8) (s : State) :
    let works := bit (s.fld Fd.SAF_STAT_TP) tp = false ∧ safRuns s = true
    let seen := fun (k : Nat) => k < 8 ∧ s.saf.cfg.used (k / 2) = true ∧ s.saf.cfg.type (k / 2) ≠ 2 ∧ (s.safIn k).filt = true
    (¬ works → Idle (.testPulse tp low) s) ∧
    (works → (∀ k, seen k → bit low.toNat k = decide (k % 2 = tp.val)) →
      Gives (.testPulse tp low) s (fun t => t.saf.mram = s.saf.mram ∧ t.saf.offs = s.saf.offs ∧ OnlyRegs captureRegs s t ∧
        OnlyParts [.regs, .saf, .tab] s t)) ∧
    (works → ∀ k, seen k → (s.safIn k).fault = false →
      (k % 2 = tp.val ∧ bit low.toNat k = false ∧ (s.safIn k).miss = 2) ∨ (k % 2 ≠ tp.val ∧ bit low.toNat k = true) →
      Gives (.testPulse tp low) s (fun t => t.saf.mram.isSome = true ∧ (t.safIn k).fault = true ∧ OnlyParts lockParts s t)) := by
  dsimp only
  obtain ⟨hregs, hparts⟩ := safLatchRec_frame s safTpKey (tp * 256 + low.toNat)
  generalize hu : safLatchRec s safTpKey (tp * 256 + low.toNat) = u at hregs hparts
  have hsaf : u.saf = s.saf := hparts .saf (by simp)
  have hin : ∀ k, u.safIn k = s.safIn k := fun k => by rw [State.safIn, hsaf]; rfl
  have hseen : ∀ k, pulseSeen u k ↔ pulseSeen s k := fun k => pulseSeen_congr (congrArg SafState.cfg hsaf) (hin k)
  have hruns : bit (s.fld Fd.SAF_STAT_TP) tp = false ∧ safRuns s = true → exec (.testPulse tp low) s = .next (testPulse u true tp low.toNat) := by
    rintro ⟨htp, hrun⟩
    rw [exec_testPulse, htp, hrun, hu]
    rfl
  refine ⟨fun h => ?_, fun hw hgood => ?_, fun hw k ⟨hk, hused⟩ hfault hbad => ?_⟩
  · refine (exec_testPulse tp low s).trans (if_pos ?_)
    by_contra hc
    exact h (by simpa using hc)
  · obtain ⟨-, -, hmram, hoffs, hsame, hleft⟩ := testPulse_good (tp := tp.val) (low := low.toNat) fun k hk h => hgood k ⟨hk, (hseen k).mp h⟩
    exact ⟨_, hruns hw, by rw [hmram, hsaf], by rw [hoffs, hsaf], hregs.of_regs hsame, (hparts.mono (by simp)).trans (hleft.mono (by simp))⟩
  · obtain ⟨-, -, hfound, hleft⟩ := testPulse_bad ((hseen k).mpr hused) (by rw [hin k]; exact hfault) (by rw [hin k]; exact hbad)
    obtain ⟨hmram, hfault'⟩ := hfound hk
    exact ⟨_, hruns hw, hmram, hfault', (hparts.mono (by simp)).trans hleft⟩

end

end Sys2Proof.Machine
end

section
/-! PROOF. Sources, discrepancies, outputs, sensor pairs and the reset button of the safety island (R450, R452, R454, R457, R459, R465). -/

namespace Sys2Proof.Machine

/-! ### An overloaded source (R450) -/

section
variable {s : State}

theorem exec_tpOverload (tp : Fin 2) (s : State) :
    exec (.tpOverload tp) s = .next (s.setFld Fd.SAF_STAT_TP (setBits (s.fld Fd.SAF_STAT_TP) tp 1 1)) := rfl

theorem tpOverload_settled (tp : Fin 2) (s : State) (hc : s.canonical) : Gives (.tpOverload tp) s (fun t => bit (t.fld Fd.SAF_STAT_TP) tp = true ∧
    bit (t.fld Fd.SAF_STAT_TP) (1 - tp) = bit (s.fld Fd.SAF_STAT_TP) (1 - tp) ∧ OnlyRegs [Ra.SAF_STAT] s t ∧ OnlyParts [.regs] s t) := by
  have hfld := fld_setFld_same s Fd.SAF_STAT_TP (setBits (s.fld Fd.SAF_STAT_TP) tp 1 1) hc.regs_wf (by decide)
  have hbit : ∀ i < 2, bit ((s.setFld Fd.SAF_STAT_TP (setBits (s.fld Fd.SAF_STAT_TP) tp 1 1)).fld Fd.SAF_STAT_TP) i =
      if i = tp then true else bit (s.fld Fd.SAF_STAT_TP) i := fun i hi => by
    have hlt : i < Fd.SAF_STAT_TP.width := Nat.lt_trans hi (by decide)
    rw [hfld, bit_eq_testBit, bit_eq_testBit, Nat.testBit_mod_two_pow, testBit_setBits, decide_eq_true hlt, Bool.true_and]
    by_cases h : i = tp
    · rw [if_pos ⟨by omega, by omega⟩, if_pos h, h, Nat.sub_self]
      rfl
    · rw [if_neg (by omega), if_neg h]
  have htp := tp.isLt
  refine ⟨_, exec_tpOverload tp s, ?_, ?_, setFld_onlyRegs s Fd.SAF_STAT_TP _, (OnlyParts.refl _ s).setFld⟩
  · rw [hbit tp htp, if_pos rfl]
  · exact (hbit (1 - tp) (by omega)).trans (if_neg (by omega))

/-! ### Discrepancies (R452) -/

theorem exec_discrepancyTimeout (i : Fin 4) (s : State) : exec (.discrepancyTimeout i) s =
    .next (if discDue s i then lockOut (s.setSafPair i { s.safPair i with disc := true, cycled := false, trip := true }) 2 i else s) := rfl

theorem discrepancyTimeout_settled (i : Fin 4) (s : State) :
    (discDue s i = true → Gives (.discrepancyTimeout i) s (fun t => (t.safPair i).disc = true ∧ (t.safPair i).trip = true ∧
      (t.safPair i).cycled = false ∧ t.saf.mram.isSome = true ∧ OnlyParts lockParts s t)) ∧
    (discDue s i = false → Idle (.discrepancyTimeout i) s) := by
  refine ⟨fun h => ?_, fun h => ?_⟩
  · have hpair : (s.setSafPair i { s.safPair i with disc := true, cycled := false, trip := true }).safPair i =
        { s.safPair i with disc := true, cycled := false, trip := true } :=
      smGet_smPut_of_ne _ _ _ fun e => Bool.noConfusion (congrArg PairIn.disc e)
    refine ⟨_, (exec_discrepancyTimeout i s).trans (congrArg _ (if_pos h)), ?_, ?_, ?_, lockOut_mram_isSome _ _ _,
      (OnlyParts.setSaf (.refl _ s)).trans (lockOut_onlyParts _ _ _)⟩
    · rw [lockOut_safPair, hpair]
    · rw [lockOut_safPair, hpair]
    · rw [lockOut_safPair, hpair]
  · exact (exec_discrepancyTimeout i s).trans (congrArg _ (if_neg (by rw [h]; exact Bool.false_ne_true)))

/-! ### Outputs (R457) -/

theorem safShowOuts_onlyParts (s : State) : OnlyParts [.regs] s (safShowOuts s) := (OnlyParts.refl _ s).setFld.setFld

/-- An output that fails is off, in fault, and locks out. -/
theorem outFault_fails (s : State) (k : Nat) : ((outFault s k).safOut k).fault = true ∧ ((outFault s k).safOut k).on = false ∧
    (outFault s k).saf.mram.isSome = true ∧ (s.saf.mram = none → (outFault s k).saf.mram = some (4, k)) ∧ OnlyParts lockParts s (outFault s k) := by
  have hout : (safShowOuts (s.setSafOut k { s.safOut k with on := false, fault := true })).safOut k = { s.safOut k with on := false, fault := true } :=
    smGet_smPut_of_ne _ _ _ fun e => Bool.noConfusion (congrArg SoSt.fault e)
  have hparts : OnlyParts lockParts s (safShowOuts (s.setSafOut k { s.safOut k with on := false, fault := true })) :=
    OnlyParts.trans (.setSaf (.refl _ s)) ((safShowOuts_onlyParts _).mono (by simp))
  refine ⟨?_, ?_, lockOut_mram_isSome _ _ _, fun h => lockOut_mram_first h, hparts.trans (lockOut_onlyParts _ _ _)⟩
  · rw [outFault, lockOut_safOut, hout]
  · rw [outFault, lockOut_safOut, hout]

theorem exec_soElementTest (k : Fin 4) (elem : Fin 2) (pass : Bool) (s : State) : exec (.soElementTest k elem pass) s =
    if !soPowered s || (s.safOut k).fault then .next s
    else if (s.safOut k).on then
      if pass then .next (s.setSafOut k { s.safOut k with fail := 0 })
      else if 2 ≤ (s.safOut k).fail + 1 then .next (outFault s k)
      else .next (s.setSafOut k { s.safOut k with fail := (s.safOut k).fail + 1 })
    else if pass ∨ elem = 1 then .next s
    else .next (outFault s k) := rfl

theorem exec_soOvercurrent (k : Fin 4) (s : State) : exec (.soOvercurrent k) s = if (s.safOut k).on then .next (outFault s k) else .next s := rfl

/-- The test of an on output, and of one that is off. -/
theorem exec_soElementTest_on {k : Fin 4} {elem : Fin 2} {pass : Bool} (hpow : soPowered s = true) (hfault : (s.safOut k).fault = false)
    (hon : (s.safOut k).on = true) : exec (.soElementTest k elem pass) s =
    if pass then .next (s.setSafOut k { s.safOut k with fail := 0 })
    else if 2 ≤ (s.safOut k).fail + 1 then .next (outFault s k)
    else .next (s.setSafOut k { s.safOut k with fail := (s.safOut k).fail + 1 }) := by
  rw [exec_soElementTest, hpow, hfault, hon]
  rfl

theorem exec_soElementTest_off {k : Fin 4} {elem : Fin 2} {pass : Bool} (hpow : soPowered s = true) (hfault : (s.safOut k).fault = false)
    (hon : (s.safOut k).on = false) : exec (.soElementTest k elem pass) s = if pass ∨ elem = 1 then .next s else .next (outFault s k) := by
  rw [exec_soElementTest, hpow, hfault, hon]
  rfl

theorem safOut_settled (k : Fin 4) (elem : Fin 2) (s : State) :
    let fails := fun (c : Instr) => Gives c s (fun t => (t.safOut k).fault = true ∧ (t.safOut k).on = false ∧ t.saf.mram.isSome = true ∧
      (s.saf.mram = none → t.saf.mram = some (4, k.val)) ∧ OnlyParts lockParts s t)
    (soPowered s = true → (s.safOut k).fault = false →
      ((s.safOut k).on = true →
        exec (.soElementTest k elem true) s = .next (s.setSafOut k { s.safOut k with fail := 0 }) ∧
        ((s.safOut k).fail = 0 → exec (.soElementTest k elem false) s = .next (s.setSafOut k { s.safOut k with fail := 1 })) ∧
        (1 ≤ (s.safOut k).fail → fails (.soElementTest k elem false))) ∧
      ((s.safOut k).on = false → Idle (.soElementTest k elem true) s ∧ fails (.soElementTest k 0 false))) ∧
    (soPowered s = false → Idle (.soElementTest k elem false) s) ∧
    ((s.safOut k).on = true → fails (.soOvercurrent k)) ∧ ((s.safOut k).on = false → Idle (.soOvercurrent k) s) := by
  dsimp only
  refine ⟨fun hpow hfault => ⟨fun hon => ⟨?_, fun hfail => ?_, fun hfail => ?_⟩, fun hon => ⟨?_, ?_⟩⟩, fun hpow => ?_, fun hon => ?_, fun hon => ?_⟩
  · exact (exec_soElementTest_on hpow hfault hon).trans (if_pos rfl)
  · rw [exec_soElementTest_on hpow hfault hon, hfail]
    rfl
  · refine ⟨_, (exec_soElementTest_on hpow hfault hon).trans ?_, outFault_fails s k⟩
    rw [if_neg Bool.false_ne_true, if_pos (by omega)]
  · exact (exec_soElementTest_off hpow hfault hon).trans (if_pos (.inl rfl))
  · exact ⟨_, (exec_soElementTest_off hpow hfault hon).trans (if_neg (by decide)), outFault_fails s k⟩
  · exact (exec_soElementTest k elem false s).trans (if_pos (by rw [hpow]; rfl))
  · exact ⟨_, (exec_soOvercurrent k s).trans (if_pos hon), outFault_fails s k⟩
  · exact (exec_soOvercurrent k s).trans (if_neg (by rw [hon]; exact Bool.false_ne_true))

/-! ### Sensor pairs (R459) -/

/-- The pair is found to contradict now. -/
def pairFound (s : State) (p : Nat) : Bool := decide (0 < (s.sensPair p).bad) && decide (sensConf s p ≤ (s.sensPair p).bad)

/-- The pair contradicts. -/
def conSet (s : State) (p : Nat) : State := s.setSensPair p { s.sensPair p with con := true, ok := false }

theorem sensPair_conSet (s : State) (p : Nat) : (conSet s p).sensPair p = { s.sensPair p with con := true, ok := false } :=
  smGet_smPut_of_ne _ _ _ fun e => Bool.noConfusion (congrArg SafPair.con e)

theorem exec_sensorPairContradiction (p : Fin 2) (s : State) : exec (.sensorPairContradiction p) s = .next (sensContra s true p) := rfl

/-- A pair that has not been found contradicting yet. -/
theorem sensContra_agreeing {p : Nat} (h : (s.sensPair p).con = false) : sensContra s true p =
    if pairFound s p then if driverless s.outMode then lockOut (conSet s p) 5 p else conSet s p else s := by
  simp only [sensContra, h, Bool.false_or, Bool.false_and, Bool.not_false, Bool.and_true, Bool.false_eq_true, if_false]
  rfl

/-- A pair that contradicts already. -/
theorem sensContra_contradicting {p : Nat} (h : (s.sensPair p).con = true) : sensContra s true p =
    if driverless s.outMode && !s.locked then lockOut s 5 p else s := by
  simp only [sensContra, h, Bool.true_or, Bool.true_and, if_true]
  rfl

theorem sensorPairContradiction_settled (p : Fin 2) (s : State) :
    let x := s.sensPair p
    let locks := Gives (.sensorPairContradiction p) s (fun t => (t.sensPair p).con = true ∧ t.saf.mram.isSome = true ∧
      (s.saf.mram = none → t.saf.mram = some (5, p.val)) ∧ OnlyParts lockParts s t)
    (x.con = false → x.bad < max 1 (sensConf s p) → Idle (.sensorPairContradiction p) s) ∧
    (x.con = false → 0 < x.bad → sensConf s p ≤ x.bad →
      (driverless s.outMode = false → exec (.sensorPairContradiction p) s = .next (s.setSensPair p { x with con := true, ok := false })) ∧
      (driverless s.outMode = true → locks)) ∧
    (x.con = true → (driverless s.outMode = false ∨ s.locked = true → Idle (.sensorPairContradiction p) s) ∧
      (driverless s.outMode = true → s.locked = false → locks)) := by
  dsimp only
  simp only [Gives, Idle, exec_sensorPairContradiction]
  refine ⟨fun hcon hbad => ?_, fun hcon hpos hbad => ?_, fun hcon => ⟨fun h => ?_, fun hmode hlock => ?_⟩⟩
  · rw [sensContra_agreeing hcon, if_neg]
    simp only [pairFound, Bool.and_eq_true, decide_eq_true_eq]
    omega
  · have hfound : pairFound s p = true := by
      simp only [pairFound, Bool.and_eq_true, decide_eq_true_eq]
      exact ⟨hpos, hbad⟩
    rw [sensContra_agreeing hcon, if_pos hfound]
    refine ⟨fun hmode => by rw [hmode]; rfl, fun hmode => ⟨lockOut (conSet s p) 5 p, by rw [if_pos hmode], ?_, lockOut_mram_isSome _ _ _,
      fun h => lockOut_mram_first h,
      (OnlyParts.setSaf (.refl _ s)).trans (lockOut_onlyParts _ _ _)⟩⟩
    rw [lockOut_sensPair, sensPair_conSet]
  · rw [sensContra_contradicting hcon, if_neg]
    simp only [Bool.and_eq_true, Bool.not_eq_true']
    rintro ⟨hmode, hlock⟩
    exact h.elim (by rw [hmode]; exact Bool.noConfusion) (by rw [hlock]; exact Bool.noConfusion)
  · rw [sensContra_contradicting hcon, hmode, hlock]
    exact ⟨_, rfl, (congrArg SafPair.con (lockOut_sensPair s 5 p p)).trans hcon, lockOut_mram_isSome _ _ _, fun h => lockOut_mram_first h,
      lockOut_onlyParts _ _ _⟩

end

end Sys2Proof.Machine
end

section
/-! PROOF. A press of the safety reset button, and the safety island's events together (R464, R465). -/

namespace Sys2Proof.Machine

section
variable {s : State} {ms out : Nat} {pass : Bool}

/-! ### A press by its length (R465) -/

theorem resetPress_long (h : 10000 < ms) :
    resetPress s ms pass out = (buttonFault s).setSaf { (buttonFault s).saf with btnRel := some s.saf.t } := by
  simp only [resetPress, h, if_true]
  rfl

theorem resetPress_ignored (h : ms ≤ 10000) (hign : s.saf.btnIgn = true) :
    resetPress s ms pass out = s.setSaf { s.saf with btnRel := some s.saf.t } := by
  simp only [resetPress, Nat.not_lt.mpr h, if_false, hign, if_true]
  exact if_pos (by simp [State.setSaf])

theorem resetPress_short (hign : s.saf.btnIgn = false) (h : ms < 500 ∨ (3000 < ms ∧ ms ≤ 10000)) : resetPress s ms pass out = s := by
  have hms : ms ≤ 10000 := by omega
  simp only [resetPress, Nat.not_lt.mpr hms, if_false, hign, Bool.false_eq_true, Bool.false_or]
  refine if_pos ?_
  simp only [Bool.or_eq_true, decide_eq_true_eq]
  omega

/-- The press is recorded with its code. -/
def pressNoted (s : State) (ms code : Nat) : State := logLive s Ev.resetPress Src.mirror code ms

theorem resetPress_counts (hign : s.saf.btnIgn = false) (hlo : 500 ≤ ms) (hhi : ms ≤ 3000) : resetPress s ms pass out =
    let code := if s.locked && !s.flag Fd.SAF_LOCK_READY then Code.refused else Code.ok
    if code = Code.refused then (pressNoted s ms code).setFld Fd.SAF_LOCK_RST_CODE code
    else if (pressNoted s ms code).locked then (pressNoted s ms code).setSaf { (pressNoted s ms code).saf with rst := some (none, pass, out) }
    else releaseWaits ((pressNoted s ms code).setFld Fd.SAF_LOCK_RST_CODE code) := by
  have hms : ¬ 10000 < ms := by omega
  simp only [resetPress, hms, if_false, hign, Bool.false_eq_true, Bool.false_or]
  refine if_neg ?_
  simp only [Bool.or_eq_true, decide_eq_true_eq]
  omega

theorem pressNoted_frame (s : State) (ms code : Nat) : OnlyRegs logRegs s (pressNoted s ms code) ∧ OnlyParts logParts s (pressNoted s ms code) :=
  logLive_frame s _ _ code ms

theorem pressNoted_saf (s : State) (ms code : Nat) : (pressNoted s ms code).saf = s.saf := (pressNoted_frame s ms code).2 .saf (by simp)

theorem pressNoted_locked (s : State) (ms code : Nat) : (pressNoted s ms code).locked = s.locked := by
  rw [State.locked, State.locked, pressNoted_saf]

theorem resetPress_refused (hign : s.saf.btnIgn = false) (hlo : 500 ≤ ms) (hhi : ms ≤ 3000) (hlock : s.locked = true)
    (hready : s.flag Fd.SAF_LOCK_READY = false) :
    resetPress s ms pass out = (pressNoted s ms Code.refused).setFld Fd.SAF_LOCK_RST_CODE Code.refused := by
  rw [resetPress_counts hign hlo hhi, hlock, hready]
  rfl

theorem resetPress_tests (hign : s.saf.btnIgn = false) (hlo : 500 ≤ ms) (hhi : ms ≤ 3000) (hlock : s.locked = true)
    (hready : s.flag Fd.SAF_LOCK_READY = true) :
    resetPress s ms pass out = (pressNoted s ms Code.ok).setSaf { s.saf with rst := some (none, pass, out) } := by
  rw [resetPress_counts hign hlo hhi, hlock, hready]
  refine (if_neg (by decide)).trans ((if_pos ?_).trans (by rw [← pressNoted_saf s ms Code.ok]; rfl))
  exact (pressNoted_locked s ms _).trans hlock

theorem resetPress_releases (hign : s.saf.btnIgn = false) (hlo : 500 ≤ ms) (hhi : ms ≤ 3000) (hlock : s.locked = false) :
    resetPress s ms pass out = releaseWaits ((pressNoted s ms Code.ok).setFld Fd.SAF_LOCK_RST_CODE Code.ok) := by
  rw [resetPress_counts hign hlo hhi, hlock, Bool.false_and]
  refine (if_neg (by decide)).trans (if_neg ?_)
  exact fun h => Bool.noConfusion (hlock.symm.trans ((pressNoted_locked s ms _).symm.trans h))

/-! ### The waits that a press releases (R454) -/

/-- A pair's turn: the wait of a clear pair ends. -/
def waitTurn (s : State) (i : Nat) : State := if (s.safPair i).trip then s else s.setSafPair i { s.safPair i with wait := false }

theorem releaseWaits_eq (s : State) : releaseWaits s = s.forN 4 waitTurn := rfl

theorem safPair_setSafPair_other {i m : Nat} (x : PairIn) (h : m ≠ i) : (s.setSafPair i x).safPair m = s.safPair m := smGet_smPut_other _ _ _ i m x h

/-- A pair after the waits of clear pairs have ended. -/
def PairIn.released (x : PairIn) : PairIn := if x.trip then x else { x with wait := false }

/-- The pairs from `j` on are as before, tripped pairs too; clear pairs below `j` no longer wait. -/
structure WaitsEnded (j : Nat) (s t : State) : Prop where
  later : ∀ m, j ≤ m → t.safPair m = s.safPair m
  tripped : ∀ m, (s.safPair m).trip = true → t.safPair m = s.safPair m
  ended : smWf (fun _ => {}) s.saf.ip = true → smWf (fun _ => {}) t.saf.ip = true ∧
    ∀ m, m < j → (s.safPair m).trip = false → t.safPair m = { s.safPair m with wait := false }
  parts : OnlyParts [.saf] s t

theorem releaseWaits_ends (s : State) : WaitsEnded 4 s (releaseWaits s) := by
  rw [releaseWaits_eq]
  refine forN_induct (P := fun j t => WaitsEnded j s t) ⟨fun _ _ => rfl, fun _ _ => rfl, fun h => ⟨h, fun m hm => absurd hm (Nat.not_lt_zero m)⟩, .refl _ s⟩
    fun j t hj ht => ?_
  have hj := ht.later j (Nat.le_refl j)
  unfold waitTurn
  rw [hj]
  split
  · next htrip =>
    refine ⟨fun m hm => ht.later m (by omega), ht.tripped, fun hw => ?_, ht.parts⟩
    obtain ⟨hwf, hended⟩ := ht.ended hw
    refine ⟨hwf, fun m hm hclear => hended m (Nat.lt_of_le_of_ne (Nat.le_of_lt_succ hm) fun e => ?_) hclear⟩
    rw [e, htrip] at hclear
    exact Bool.noConfusion hclear
  · next htrip =>
    refine ⟨fun m hm => (safPair_setSafPair_other _ (by omega)).trans (ht.later m (by omega)), fun m hm => ?_, fun hw => ?_, ht.parts.setSaf⟩
    · exact (safPair_setSafPair_other _ fun e => htrip (by rw [← e]; exact hm)).trans (ht.tripped m hm)
    · obtain ⟨hwf, hended⟩ := ht.ended hw
      refine ⟨smWf_smPut (fun _ => ({} : PairIn)) _ j _ hwf, fun m hm hclear => ?_⟩
      by_cases hmj : m = j
      · subst hmj
        exact smGet_smPut_same (fun _ => ({} : PairIn)) _ m _ none hwf
      · exact (safPair_setSafPair_other _ hmj).trans (hended m (by omega) hclear)

theorem exec_resetPress (ms : Word) (pass : Bool) (out : Fin 4) (s : State) : exec (.resetPress ms pass out) s =
    .next (resetPress (safLatchRec s safBtnKey (min ms.toNat (2 ^ 28 - 1) + out * 2 ^ 28 + b2n pass * 2 ^ 31)) ms.toNat pass out) := rfl

end

theorem resetPress_settled (ms : Word) (pass : Bool) (out : Fin 4) (s : State) (hc : s.canonical) :
    let c := Instr.resetPress ms pass out
    (10000 < ms.toNat → Gives c s (fun t => t.flag Fd.SAF_LOCK_BTN_FAULT = true ∧ t.saf = { s.saf with btnIgn := true, btnRel := some s.saf.t } ∧
      OnlyRegs (Ra.SAF_LOCK :: captureRegs) s t ∧ OnlyParts [.regs, .saf, .tab] s t)) ∧
    (ms.toNat ≤ 10000 → s.saf.btnIgn = true → Gives c s (fun t => t.saf = { s.saf with btnRel := some s.saf.t } ∧
      OnlyRegs captureRegs s t ∧ OnlyParts [.regs, .saf, .tab] s t)) ∧
    (s.saf.btnIgn = false →
      (ms.toNat < 500 ∨ (3000 < ms.toNat ∧ ms.toNat ≤ 10000) → Gives c s (fun t => OnlyRegs captureRegs s t ∧ OnlyParts [.regs, .tab] s t)) ∧
      (500 ≤ ms.toNat → ms.toNat ≤ 3000 →
        (s.locked = true → s.flag Fd.SAF_LOCK_READY = false → Gives c s (fun t =>
          t.fld Fd.SAF_LOCK_RST_CODE = Code.refused ∧ t.saf = s.saf ∧ OnlyParts [.regs, .evr, .tab, .rpl] s t)) ∧
        (s.locked = true → s.flag Fd.SAF_LOCK_READY = true → Gives c s (fun t =>
          t.saf = { s.saf with rst := some (none, pass, out.val) } ∧ OnlyParts lockParts s t)) ∧
        (s.locked = false → Gives c s (fun t => t.fld Fd.SAF_LOCK_RST_CODE = Code.ok ∧
          (∀ i, i < 4 → (s.safPair i).trip = true → t.safPair i = s.safPair i) ∧
          (smWf (fun _ => {}) s.saf.ip = true → ∀ i, i < 4 → (s.safPair i).trip = false → t.safPair i = { s.safPair i with wait := false }) ∧
          OnlyParts lockParts s t)))) := by
  dsimp only
  simp only [Gives, exec_resetPress]
  have hcanon := (canonical_iff_canon s).mp hc
  obtain ⟨hregs, hparts⟩ := safLatchRec_frame s safBtnKey (min ms.toNat (2 ^ 28 - 1) + out * 2 ^ 28 + b2n pass * 2 ^ 31)
  have hkeeps : Keeps s (safLatchRec s safBtnKey (min ms.toNat (2 ^ 28 - 1) + out * 2 ^ 28 + b2n pass * 2 ^ 31)) := (Keeps.refl s).safLatchRec
  generalize safLatchRec s safBtnKey (min ms.toNat (2 ^ 28 - 1) + out * 2 ^ 28 + b2n pass * 2 ^ 31) = u at hregs hparts hkeeps
  have hw : RegStore.wf u.regs = true := (hkeeps.canon hcanon).regs
  have hsaf : u.saf = s.saf := hparts .saf (by simp)
  have hlocked : u.locked = s.locked := by rw [State.locked, State.locked, hsaf]
  have hready : u.flag Fd.SAF_LOCK_READY = s.flag Fd.SAF_LOCK_READY := hregs.flag_eq (by decide)
  rw [← hsaf, ← hlocked, ← hready]
  refine ⟨fun hms => ?_, fun hms hign => ?_, fun hign => ⟨fun hms => ?_, fun hlo hhi => ⟨fun hl hr => ?_, fun hl hr => ?_, fun hl => ?_⟩⟩⟩
  · refine ⟨_, congrArg _ (resetPress_long hms), ?_, rfl, ?_, (hparts.mono (by simp)).setFlag.setSaf.setSaf⟩
    · have hset : Shows Fd.SAF_LOCK_BTN_FAULT (b2n true) (u.setFlag Fd.SAF_LOCK_BTN_FAULT true) := .setB hw
      exact (hset.of_regs rfl).flag
    · have hlist : OnlyRegs (Ra.SAF_LOCK :: captureRegs) s u := hregs.mono (List.subset_cons_self _ _)
      exact (hlist.setFlag (f := Fd.SAF_LOCK_BTN_FAULT) List.mem_cons_self).of_regs rfl
  · exact ⟨_, congrArg _ (resetPress_ignored hms hign), rfl, hregs.of_regs rfl, (hparts.mono (by simp)).setSaf⟩
  · exact ⟨u, congrArg _ (resetPress_short hign hms), hregs, hparts⟩
  · obtain ⟨-, hnoted⟩ := pressNoted_frame u ms.toNat Code.refused
    have hwf : RegStore.wf (pressNoted u ms.toNat Code.refused).regs = true := (hkeeps.logLive.canon hcanon).regs
    refine ⟨_, congrArg _ (resetPress_refused hign hlo hhi hl hr), (Shows.set hwf).fld, pressNoted_saf u _ _, ?_⟩
    exact ((hparts.mono (by simp)).trans (hnoted.mono (by simp))).setFld
  · obtain ⟨-, hnoted⟩ := pressNoted_frame u ms.toNat Code.ok
    exact ⟨_, congrArg _ (resetPress_tests hign hlo hhi hl hr), rfl, ((hparts.mono (by simp)).trans (hnoted.mono (by simp))).setSaf⟩
  · obtain ⟨-, hnoted⟩ := pressNoted_frame u ms.toNat Code.ok
    have hwf : RegStore.wf (pressNoted u ms.toNat Code.ok).regs = true := (hkeeps.logLive.canon hcanon).regs
    have hshown : Shows Fd.SAF_LOCK_RST_CODE Code.ok ((pressNoted u ms.toNat Code.ok).setFld Fd.SAF_LOCK_RST_CODE Code.ok) := .set hwf
    have hends := releaseWaits_ends ((pressNoted u ms.toNat Code.ok).setFld Fd.SAF_LOCK_RST_CODE Code.ok)
    have hsame : ((pressNoted u ms.toNat Code.ok).setFld Fd.SAF_LOCK_RST_CODE Code.ok).saf = s.saf := (pressNoted_saf u _ _).trans hsaf
    have hpair : ∀ i, ((pressNoted u ms.toNat Code.ok).setFld Fd.SAF_LOCK_RST_CODE Code.ok).safPair i = s.safPair i :=
      fun i => congrArg (fun x : SafState => smGet ({} : PairIn) x.ip i) hsame
    refine ⟨_, congrArg _ (resetPress_releases hign hlo hhi hl), (hshown.of_regs (hends.parts .regs (by simp))).fld,
      fun i _ hi => ?_, fun hip i hi hclear => ?_, ?_⟩
    · rw [← hpair i] at hi ⊢
      exact hends.tripped i hi
    · rw [← hpair i] at hclear ⊢
      exact (hends.ended (by rw [hsame, ← hsaf]; exact hip)).2 i hi hclear
    · exact (((hparts.mono (by simp)).trans (hnoted.mono (by simp))).setFld).trans (hends.parts.mono (by simp))

/-- What a lock-out leaves (R463, R464). -/
theorem lockOut_settled (s : State) (cause detail : Nat) (hc : s.canonical) (hcause : cause < 16) (hdetail : detail < 16) :
    let t := lockOut s cause detail
    t.saf.mram.isSome = true ∧ (∀ x, s.saf.mram = some x → s.saf.lockTick ≠ some s.saf.t → t.saf.mram = some x) ∧
    bit (t.reg Ra.SAF_LOCK_MASK).toNat cause = true ∧
    (s.saf.mram = none → t.saf.mram = some (cause, detail) ∧ t.saf.seCopy = some (s.saf.seCopy.getD cause) ∧ t.flag Fd.SAF_LOCK_LATCHED = true ∧
      t.fld Fd.SAF_LOCK_CAUSE = cause ∧ t.fld Fd.SAF_LOCK_DETAIL = detail ∧ t.flag Fd.SAF_LOCK_READY = false) ∧
    t.saf.offs = s.saf.offs ++ [{ cause := cause, detail := detail, off := s.saf.t + 20 }] ∧ OnlyParts lockParts s t := by
  refine ⟨lockOut_mram_isSome _ _ _, fun x hx ht => lockOut_mram_kept hx ht, lockOut_mask hc.regs_wf hcause, fun hs => ?_, lockOut_offs _ _ _,
    lockOut_onlyParts _ _ _⟩
  refine ⟨lockOut_mram_first hs, ?_, lockOut_shown hc.regs_wf hs hcause hdetail⟩
  rw [lockOut_saf_first hs]
  rfl

/-- Settles O49, event by event. -/
theorem safetyIsland : Obligations.SafetyIsland := by
  unfold Obligations.SafetyIsland
  exact ⟨fun s cause detail hc hcause hdetail => lockOut_settled s cause detail hc hcause hdetail, heartbeatLoss_settled, speedContributionLift_settled,
    safHbWrite_settled, safStopReq_settled, testPulse_settled, fun tp s hc => tpOverload_settled tp s hc, discrepancyTimeout_settled, safOut_settled,
    sensorPairContradiction_settled, fun ms pass out s hc => resetPress_settled ms pass out s hc, fun s => rfl⟩

end Sys2Proof.Machine
end

section
/-! SUPPORT. Sessions of the host protocol along a chain of updates, and the requests that a session takes (R398–R402). -/

namespace Sys2Proof.Machine

section
variable {l : List Part} {s t u : State}

protected theorem OnlyParts.setVhp {x : VhpState} (h : OnlyParts l s t) (hl : Part.vhp ∈ l := by simp) : OnlyParts l s (t.setVhp x) := by
  refine h.trans fun p hp => ?_
  cases p
  case vhp => exact absurd hl hp
  all_goals rfl

theorem State.canonical.sess (hc : s.canonical) : smWf (fun _ => {}) s.vhp.sess = true := ((canonical_iff_canon s).mp hc).sess

end

/-! ### One session along a chain of updates -/

/-- From `s` to `t` only the listed registers and parts change, session `i` has become `x`, the responses sent are `r`, and every other session is as
before. -/
structure SessAt (a : List Nat) (l : List Part) (i : Nat) (x : VhpSess) (r : List VhpRsp) (s t : State) : Prop where
  vs : t.vs i = x
  sent : t.vhp.sent = r
  other : ∀ j, j ≠ i → t.vs j = s.vs j
  regs : OnlyRegs a s t
  parts : OnlyParts l s t
  regsWf : RegStore.wf t.regs = true
  sessWf : smWf (fun _ => {}) t.vhp.sess = true

section
variable {a : List Nat} {l : List Part} {s t u : State} {i : Nat} {x y : VhpSess} {r : List VhpRsp}

theorem SessAt.start (a : List Nat) (l : List Part) (i : Nat) (hc : s.canonical) : SessAt a l i (s.vs i) s.vhp.sent s s :=
  ⟨rfl, rfl, fun _ _ => rfl, .refl a s, .refl l s, hc.regs_wf, hc.sess⟩

/-- An update of other parts. -/
theorem SessAt.of_parts (h : SessAt a l i x r s t) (hu : OnlyParts l t u) (hv : u.vhp = t.vhp) (hr : u.regs = t.regs) : SessAt a l i x r s u := by
  have he : ∀ j, u.vs j = t.vs j := fun j => congrArg (fun z : VhpState => smGet ({} : VhpSess) z.sess j) hv
  exact ⟨(he i).trans h.vs, (congrArg VhpState.sent hv).trans h.sent, fun j hj => (he j).trans (h.other j hj), h.regs.of_regs hr, h.parts.trans hu,
    hr ▸ h.regsWf, hv ▸ h.sessWf⟩

/-- The session is replaced. -/
protected theorem SessAt.setVs (h : SessAt a l i x r s t) (hl : Part.vhp ∈ l := by simp) : SessAt a l i y r s (t.setVs i y) :=
  ⟨smGet_smPut_same (fun _ => ({} : VhpSess)) _ i y none h.sessWf, h.sent, fun j hj => (smGet_smPut_other _ _ _ i j y hj).trans (h.other j hj),
    h.regs.of_regs rfl, h.parts.setVhp hl, h.regsWf, smWf_smPut (fun _ => ({} : VhpSess)) _ i y h.sessWf⟩

/-- A response is sent. -/
protected theorem SessAt.vhpSend {p : VhpRsp} (h : SessAt a l i x r s t) (hl : Part.vhp ∈ l := by simp) :
    SessAt a l i x ((p :: r).take 256) s (vhpSend t p) :=
  ⟨h.vs, congrArg (fun z => (p :: z).take 256) h.sent, h.other, h.regs.of_regs rfl, h.parts.setVhp hl, h.regsWf, h.sessWf⟩

protected theorem SessAt.setReg {b : Nat} {w : Word} (h : SessAt a l i x r s t) (hb : b ∈ a := by simp) (hl : Part.regs ∈ l := by simp) :
    SessAt a l i x r s (t.setReg b w) :=
  ⟨h.vs, h.sent, h.other, h.regs.setReg hb, h.parts.setReg hl, setReg_wf t b w h.regsWf, h.sessWf⟩

protected theorem SessAt.setFld {f : Fld} {v : Nat} (h : SessAt a l i x r s t) (hf : f.addr ∈ a) (hl : Part.regs ∈ l := by simp) :
    SessAt a l i x r s (t.setFld f v) := h.setReg hf hl

/-- The correction stream is set. -/
protected theorem SessAt.setGns {g : GnsState} (h : SessAt a l i x r s t) (hl : Part.gns ∈ l := by simp) : SessAt a l i x r s (t.setGns g) :=
  h.of_parts (.setGns (.refl l t) hl) rfl rfl

theorem SessAt.cyc (h : SessAt a l i x r s t) (hl : Part.clk ∉ l := by simp) : t.cyc = s.cyc := congrArg ClkState.cyc (h.parts .clk hl)

end

/-! ### Answers and ends (R401, R402) -/

/-- A transaction has been answered: it is no longer outstanding, and the response is kept. -/
def VhpSess.answered (x : VhpSess) (r : VhpRsp) : VhpSess := { x with outst := x.outst.filter (fun y => y.tag != r.tag), kept := (r :: x.kept).take 256 }

/-- The response to a transaction of session `i`. -/
def sessRsp (i tag kind code : Nat) (data : List Nat) (cyc : Nat) : VhpRsp :=
  { sess := i + 1, tag := tag, kind := kind, code := code, data := data, at_ := cyc }

theorem vhpReply_eq (s : State) (i tag kind code : Nat) (data : List Nat) : vhpReply s i tag kind code data =
    let r := sessRsp i tag kind code data s.cyc
    vhpShow (vhpSend (s.setVs i ((s.vs i).answered r)) r) i := rfl

section
variable {a : List Nat} {l : List Part} {s t u : State} {i : Nat} {x y : VhpSess} {r : List VhpRsp}

protected theorem SessAt.vhpShow (h : SessAt a l i x r s t) (ha : Ra.VHP_SESS_STAT i ∈ a := by simp) (hl : Part.regs ∈ l := by simp) :
    SessAt a l i x r s (vhpShow t i) := h.setFld ha hl

protected theorem SessAt.vhpReply {tag kind code : Nat} {data : List Nat} (h : SessAt a l i x r s t) (ha : Ra.VHP_SESS_STAT i ∈ a := by simp)
    (hl : [Part.regs, Part.vhp] ⊆ l := by simp) (hclk : Part.clk ∉ l := by simp) :
    SessAt a l i (x.answered (sessRsp i tag kind code data s.cyc)) ((sessRsp i tag kind code data s.cyc :: r).take 256) s
      (vhpReply t i tag kind code data) := by
  rw [vhpReply_eq, h.vs, h.cyc hclk]
  exact ((h.setVs (hl (by simp))).vhpSend (hl (by simp))).vhpShow ha (hl (by simp))

/-- OUTST shows how many transactions are outstanding. -/
theorem vhpShow_shows (hw : RegStore.wf t.regs = true) (hlen : (t.vs i).outst.length ≤ 256) :
    Shows (Fd.VHP_SESS_STAT_OUTST i) (t.vs i).outst.length (vhpShow t i) :=
  .set hw (Nat.mod_eq_of_lt (Nat.lt_of_le_of_lt hlen (show 256 < 2 ^ 9 by decide)))

theorem vhpEnd_eq (s : State) (i : Nat) :
    vhpEnd s i = ((if (s.vs i).rtcm then s.setGns { s.gns with rtcmOut := none } else s).setVs i {}).setReg (Ra.VHP_SESS_STAT i) 0 := rfl

/-- The session is free. -/
theorem vhpEnd_at (hc : s.canonical) (i : Nat) : SessAt [Ra.VHP_SESS_STAT i] [.regs, .gns, .vhp] i {} s.vhp.sent s (vhpEnd s i) := by
  have hstart : SessAt [Ra.VHP_SESS_STAT i] [.regs, .gns, .vhp] i (s.vs i) s.vhp.sent s s := .start _ _ i hc
  have hrtcm : SessAt [Ra.VHP_SESS_STAT i] [.regs, .gns, .vhp] i (s.vs i) s.vhp.sent s
      (if (s.vs i).rtcm then s.setGns { s.gns with rtcmOut := none } else s) := by
    split
    · exact hstart.setGns
    · exact hstart
  rw [vhpEnd_eq]
  exact hrtcm.setVs.setReg

theorem vhpEnd_clears (hc : s.canonical) (i : Nat) : (vhpEnd s i).reg (Ra.VHP_SESS_STAT i) = 0 := by
  refine reg_setReg_same _ _ _ ?_
  show RegStore.wf (if (s.vs i).rtcm then s.setGns { s.gns with rtcmOut := none } else s).regs = true
  split
  · exact hc.regs_wf
  · exact hc.regs_wf

end

/-! ### Requests that are taken (R399–R401) -/

section
variable {s t : State} {h : VhpHdr} {i kind p arg : Nat}

/-- The session once its request's counter is noted. -/
def VhpSess.noted (x : VhpSess) (ctr cyc : Nat) : VhpSess := { ctrNote x ctr with last := cyc }

/-- The request's counter is noted, and IDLE shows 0. -/
def vhpNoted (s : State) (h : VhpHdr) (i : Nat) : State := (s.setVs i ((s.vs i).noted h.ctr.toNat s.cyc)).setFld (Fd.VHP_SESS_STAT_IDLE i) 0

/-- The session with one transaction more. -/
def VhpSess.joined (x : VhpSess) (y : VhpTxn) : VhpSess := { x with outst := x.outst ++ [y] }

/-- The request is counted and outstanding. -/
def vhpJoined (u : State) (h : VhpHdr) (i kind arg : Nat) : State :=
  let u := vhpCount u (vhpKinds.idxOf kind)
  vhpShow (u.setVs i ((u.vs i).joined { tag := h.tag.toNat, kind := kind, at_ := u.cyc, arg := arg })) i

/-- The state once a request has been taken. -/
def vhpTaken (s : State) (h : VhpHdr) (i kind arg : Nat) : State := vhpJoined (vhpNoted s h i) h i kind arg

/-- What becomes of an authentic request of an open session once it is noted: a kept response is repeated, a running request is not taken twice, one beyond
256 or above the privilege is refused, any other is taken. -/
def vhpAdmit (u : State) (h : VhpHdr) (i kind p arg : Nat) : State × Option Nat :=
  match (u.vs i).kept.find? (fun r => r.tag == h.tag.toNat && !u.since r.at_ (10 * cycS)) with
  | some r => (vhpSend u r, none)
  | none =>
    if (u.vs i).outst.any (fun y => y.tag == h.tag.toNat) then (u, none)
    else if 256 ≤ (u.vs i).outst.length then
      (vhpSend (vhpCount u 22) { sess := i + 1, tag := h.tag.toNat, kind := kind, code := Code.refused, at_ := u.cyc }, none)
    else if u.fld (Fd.VHP_SESS_STAT_PRIV i) < p then (vhpReply u i h.tag.toNat kind Code.refused [], none)
    else (vhpJoined u h i kind arg, some i)

/-- The registers that a taken request changes. -/
abbrev takenRegs (i kind : Nat) : List Nat := [Ra.VHP_SESS_STAT i, Ra.ETH_VHP_AUX (vhpKinds.idxOf kind)]

theorem VhpSess.noted_outst (x : VhpSess) (ctr cyc : Nat) : (x.noted ctr cyc).outst = x.outst ∧ (x.noted ctr cyc).kept = x.kept ∧
    (x.noted ctr cyc).last = cyc ∧ ctr ∈ (x.noted ctr cyc).seen := ⟨rfl, rfl, rfl, List.mem_cons_self⟩

theorem vhpNoted_at {a : List Nat} (hc : s.canonical) (h : VhpHdr) (i : Nat) (ha : Ra.VHP_SESS_STAT i ∈ a := by simp) :
    SessAt a [.regs, .vhp] i ((s.vs i).noted h.ctr.toNat s.cyc) s.vhp.sent s (vhpNoted s h i) :=
  ((SessAt.start a [.regs, .vhp] i hc).setVs).setFld ha

/-- The transaction that a taken request becomes. -/
def takenTxn (s : State) (h : VhpHdr) (kind arg : Nat) : VhpTxn := { tag := h.tag.toNat, kind := kind, at_ := s.cyc, arg := arg }

theorem vhpTaken_at (hc : s.canonical) (h : VhpHdr) (i kind arg : Nat) :
    SessAt (takenRegs i kind) [.regs, .vhp] i (((s.vs i).noted h.ctr.toNat s.cyc).joined (takenTxn s h kind arg)) s.vhp.sent s
      (vhpTaken s h i kind arg) := by
  have hcount : SessAt (takenRegs i kind) [.regs, .vhp] i ((s.vs i).noted h.ctr.toNat s.cyc) s.vhp.sent s
      (vhpCount (vhpNoted s h i) (vhpKinds.idxOf kind)) := (vhpNoted_at hc h i).setFld (by simp [Fd.ETH_VHP_AUX_V])
  rw [vhpTaken, vhpJoined, hcount.vs, hcount.cyc]
  exact hcount.setVs.vhpShow

/-- PRIV of a session stays where its request is noted. -/
theorem vhpNoted_priv (hc : s.canonical) : (vhpNoted s h i).fld (Fd.VHP_SESS_STAT_PRIV i) = s.fld (Fd.VHP_SESS_STAT_PRIV i) := by
  have hstart : Shows (Fd.VHP_SESS_STAT_PRIV i) (s.fld (Fd.VHP_SESS_STAT_PRIV i)) (s.setVs i ((s.vs i).noted h.ctr.toNat s.cyc)) :=
    .of_regs (.start hc.regs_wf) rfl
  exact hstart.setFld.fld

/-- An authentic request of an open session is noted first. -/
theorem vhpTake_noted (hon : vhpOn s = true) (hof : sessOf h.sess.toNat = some i) (hopen : sessOpen s i = true) (hmic : h.mic = true)
    (hctr : ctrBad (s.vs i) h.ctr.toNat = false) : vhpTake s h kind (some p) arg = vhpAdmit (vhpNoted s h i) h i kind p arg := by
  simp only [vhpTake, hon, hof, hopen, hmic, hctr, Bool.not_true, Bool.or_self, Bool.false_eq_true, if_false]
  rfl

/-- A new request is admitted by its privilege. -/
theorem vhpAdmit_new {u : State} (hold : (u.vs i).kept.find? (fun r => r.tag == h.tag.toNat && !u.since r.at_ (10 * cycS)) = none)
    (hruns : (u.vs i).outst.any (fun y => y.tag == h.tag.toNat) = false) (hroom : (u.vs i).outst.length < 256) :
    vhpAdmit u h i kind p arg = if u.fld (Fd.VHP_SESS_STAT_PRIV i) < p then (vhpReply u i h.tag.toNat kind Code.refused [], none)
    else (vhpJoined u h i kind arg, some i) := by
  simp only [vhpAdmit, hold, hruns, Nat.not_le.mpr hroom, Bool.false_eq_true, if_false]

/-- A request that a session may take is refused below its privilege, and taken otherwise. -/
theorem vhpTake_eq (hc : s.canonical) (ht : VhpTakes s h i) (kind p arg : Nat) : vhpTake s h kind (some p) arg =
    if s.fld (Fd.VHP_SESS_STAT_PRIV i) < p then (vhpReply (vhpNoted s h i) i h.tag.toNat kind Code.refused [], none)
    else (vhpTaken s h i kind arg, some i) := by
  obtain ⟨hon, hi, hsess, hopen, hmic, hctr, hkept, hnew, hfree⟩ := ht
  have hof : sessOf h.sess.toNat = some i := by rw [hsess, sessOf, if_pos (by omega), Nat.add_sub_cancel]
  have hvs : (vhpNoted s h i).vs i = (s.vs i).noted h.ctr.toNat s.cyc := (vhpNoted_at (a := [Ra.VHP_SESS_STAT i]) hc h i).vs
  have hcyc : (vhpNoted s h i).cyc = s.cyc := (vhpNoted_at (a := [Ra.VHP_SESS_STAT i]) hc h i).cyc
  have hold : ((vhpNoted s h i).vs i).kept.find? (fun r => r.tag == h.tag.toNat && !(vhpNoted s h i).since r.at_ (10 * cycS)) = none := by
    rw [hvs, List.find?_eq_none]
    intro r hr hmatch
    simp only [Bool.and_eq_true, beq_iff_eq, Bool.not_eq_true'] at hmatch
    obtain ⟨htag, hwaits⟩ := hmatch
    have hsame : (vhpNoted s h i).since r.at_ (10 * cycS) = s.since r.at_ (10 * cycS) := congrArg (fun c => decide (r.at_ + 10 * cycS ≤ c)) hcyc
    exact Bool.noConfusion ((hsame.trans (hkept r hr htag)).symm.trans hwaits)
  have hruns : ((vhpNoted s h i).vs i).outst.any (fun y => y.tag == h.tag.toNat) = false := by
    rw [hvs, List.any_eq_false]
    exact fun y hy e => hnew y hy (beq_iff_eq.mp e)
  rw [vhpTake_noted hon hof hopen hmic hctr, vhpAdmit_new hold hruns (by rw [hvs]; exact hfree), vhpNoted_priv hc]
  rfl

end

end Sys2Proof.Machine
end

section
/-! PROOF. Sessions of the host protocol: opening, ends, answers and timeouts (R398–R402). -/

namespace Sys2Proof.Machine

/-! ### HELLO (R398) -/

section
variable {s : State} {i : Nat}

/-- Fresh words drawn one after the other. -/
def freshWords (l : List Nat) (a : State × List Nat) : State × List Nat := l.foldl (fun a _ => (a.1.fresh.2, a.2 ++ [a.1.fresh.1.toNat])) a

theorem freshWords_frame (l : List Nat) (a : State × List Nat) :
    OnlyParts [.freeCtr] a.1 (freshWords l a).1 ∧ (freshWords l a).2.length = a.2.length + l.length := by
  induction l generalizing a with
  | nil => exact ⟨.refl _ _, rfl⟩
  | cons k l ih =>
    obtain ⟨hparts, hlen⟩ := ih (a.1.fresh.2, a.2 ++ [a.1.fresh.1.toNat])
    have hfresh : OnlyParts [.freeCtr] a.1 a.1.fresh.2 := fun p hp => by
      cases p
      case freeCtr => exact absurd List.mem_cons_self hp
      all_goals rfl
    refine ⟨hfresh.trans hparts, hlen.trans ?_⟩
    simp only [List.length_append, List.length_cons, List.length_nil]
    omega

/-- The module's nonce for a HELLO. -/
def helloNonce (s : State) : State × List Nat := freshWords (List.range 8) (s, [])

/-- The session opens, and the reply carries its number, the host's word and the nonce. -/
def helloOpened (s : State) (src : Word) (tag : Half) (i : Nat) : State :=
  let u := ((helloNonce s).1.setReg (Ra.VHP_SESS_STAT i) 0).setFld (Fd.VHP_SESS_STAT_STATE i) 1
  let u := u.setVs i { began := u.cyc, last := u.cyc }
  vhpSend u { sess := i + 1, tag := tag.toNat, kind := 1, code := Code.ok, data := (i + 1) :: src.toNat :: (helloNonce s).2, at_ := u.cyc }

theorem exec_vhpHello (src : Word) (tag : Half) (s : State) : exec (.vhpHello src tag) s =
    if !vhpOn s then .next s
    else match (List.range 4).find? (fun i => s.fld (Fd.VHP_SESS_STAT_STATE i) == 0) with
      | none => .next (vhpSend s { sess := 0, tag := tag.toNat, kind := 1, code := Code.refused, at_ := s.cyc })
      | some i => .next (helloOpened s src tag i) := rfl

/-- The lowest free session is found. -/
theorem freeSession_some (hi : i < 4) (hbusy : ∀ j, j < i → s.fld (Fd.VHP_SESS_STAT_STATE j) ≠ 0) (hfree : s.fld (Fd.VHP_SESS_STAT_STATE i) = 0) :
    (List.range 4).find? (fun i => s.fld (Fd.VHP_SESS_STAT_STATE i) == 0) = some i :=
  List.find?_range_eq_some.mpr ⟨beq_iff_eq.mpr hfree, List.mem_range.mpr hi, fun j hj => by simpa using hbusy j hj⟩

theorem helloOpened_at (hc : s.canonical) (src : Word) (tag : Half) (i : Nat) :
    SessAt [Ra.VHP_SESS_STAT i] [.regs, .vhp, .freeCtr] i { began := s.cyc, last := s.cyc }
      ((sessRsp i tag.toNat 1 Code.ok ((i + 1) :: src.toNat :: (helloNonce s).2) s.cyc :: s.vhp.sent).take 256) s (helloOpened s src tag i) := by
  obtain ⟨hfresh, -⟩ := freshWords_frame (List.range 8) (s, [])
  have hdrawn : SessAt [Ra.VHP_SESS_STAT i] [.regs, .vhp, .freeCtr] i (s.vs i) s.vhp.sent s (helloNonce s).1 :=
    (SessAt.start _ _ i hc).of_parts (hfresh.mono (by simp)) (hfresh .vhp (by simp)) (hfresh .regs (by simp))
  have hset : SessAt [Ra.VHP_SESS_STAT i] [.regs, .vhp, .freeCtr] i (s.vs i) s.vhp.sent s
      (((helloNonce s).1.setReg (Ra.VHP_SESS_STAT i) 0).setFld (Fd.VHP_SESS_STAT_STATE i) 1) :=
    hdrawn.setReg.setFld (by simp [Fd.VHP_SESS_STAT_STATE])
  have hopened := hset.setVs (y := { began := s.cyc, last := s.cyc })
  rw [helloOpened, hset.cyc, hopened.cyc]
  exact hopened.vhpSend

/-- The session's register shows that it opens. -/
theorem helloOpened_stat (hc : s.canonical) (src : Word) (tag : Half) (i : Nat) :
    ((helloOpened s src tag i).reg (Ra.VHP_SESS_STAT i)).toNat = 2 ^ 30 := by
  obtain ⟨hfresh, -⟩ := freshWords_frame (List.range 8) (s, [])
  have hw : RegStore.wf (helloNonce s).1.regs = true := by
    rw [show (helloNonce s).1.regs = s.regs from hfresh .regs (by simp)]
    exact hc.regs_wf
  have hzero : ((helloNonce s).1.setReg (Ra.VHP_SESS_STAT i) 0).reg (Ra.VHP_SESS_STAT i) = 0 := reg_setReg_same _ _ _ hw
  have hset : (helloOpened s src tag i).reg (Ra.VHP_SESS_STAT i) =
      BitVec.ofNat 32 (setBits (((helloNonce s).1.setReg (Ra.VHP_SESS_STAT i) 0).reg (Ra.VHP_SESS_STAT i)).toNat 30 2 1) :=
    reg_setReg_same _ _ _ (setReg_wf _ _ _ hw)
  rw [hset, hzero]
  rfl

theorem vhpHello_opens (src : Word) (tag : Half) (i : Nat) (s : State) (hc : s.canonical) (hon : vhpOn s = true) (hi : i < 4)
    (hbusy : ∀ j, j < i → s.fld (Fd.VHP_SESS_STAT_STATE j) ≠ 0) (hfree : s.fld (Fd.VHP_SESS_STAT_STATE i) = 0) :
    Gives (.vhpHello src tag) s (fun t => (t.reg (Ra.VHP_SESS_STAT i)).toNat = 2 ^ 30 ∧
      t.vs i = { began := s.cyc, last := s.cyc } ∧ (∃ nonce : List Nat, nonce.length = 8 ∧
        t.vhp.sent.head? = some { sess := i + 1, tag := tag.toNat, kind := 1, code := Code.ok, data := (i + 1) :: src.toNat :: nonce, at_ := s.cyc }) ∧
      OnlyRegs [Ra.VHP_SESS_STAT i] s t ∧ OnlyParts [.regs, .vhp, .freeCtr] s t) := by
  obtain ⟨hvs, hsent, -, hregs, hparts, -, -⟩ := helloOpened_at hc src tag i
  obtain ⟨-, hlen⟩ := freshWords_frame (List.range 8) (s, [])
  refine ⟨helloOpened s src tag i, ?_, helloOpened_stat hc src tag i, hvs, ⟨(helloNonce s).2, hlen, by rw [hsent]; rfl⟩, hregs, hparts⟩
  rw [exec_vhpHello, hon, freeSession_some hi hbusy hfree]
  rfl

theorem vhpHello_full (src : Word) (tag : Half) (s : State) (hon : vhpOn s = true) (hbusy : ∀ j, j < 4 → s.fld (Fd.VHP_SESS_STAT_STATE j) ≠ 0) :
    exec (.vhpHello src tag) s = .next (vhpSend s { sess := 0, tag := tag.toNat, kind := 1, code := Code.refused, at_ := s.cyc }) := by
  have hnone : (List.range 4).find? (fun i => s.fld (Fd.VHP_SESS_STAT_STATE i) == 0) = none :=
    List.find?_eq_none.mpr fun j hj => by simpa using hbusy j (List.mem_range.mp hj)
  rw [exec_vhpHello, hon, hnone]
  rfl

/-! ### OPEN and the ends of a session (R398, R402) -/

/-- The session is open with its key's privilege. -/
def openedAs (s : State) (i : Nat) (key p : Nat) : State :=
  let u := (s.setFld (Fd.VHP_SESS_STAT_STATE i) 2).setFld (Fd.VHP_SESS_STAT_PRIV i) p
  u.setVs i { u.vs i with key := key, last := u.cyc }

theorem exec_vhpOpen (i : Fin 4) (tag : Half) (key : Byte) (ok : Bool) (s : State) : exec (.vhpOpen i tag key ok) s =
    if !vhpOn s || s.fld (Fd.VHP_SESS_STAT_STATE i) != 1 then .next s
    else if ok && s.hasKey Key.host key.toNat then
      let p := min 2 (s.keyPriv Key.host key.toNat)
      let u := openedAs s i key.toNat p
      .next (vhpSend u { sess := i.val + 1, tag := tag.toNat, kind := 2, code := Code.ok, data := [p], at_ := u.cyc })
    else .next (vhpSend (vhpEnd s i) { sess := i.val + 1, tag := tag.toNat, kind := 2, code := Code.refused, at_ := s.cyc }) := rfl

theorem exec_vhpOpenTimeout (i : Fin 4) (s : State) : exec (.vhpOpenTimeout i) s =
    .next (if s.fld (Fd.VHP_SESS_STAT_STATE i) = 1 ∧ s.since (s.vs i).began (2 * cycS) = true then
      vhpSend (vhpEnd s i) { sess := i.val + 1, tag := 0, kind := 2, code := Code.refused, at_ := s.cyc } else s) := rfl

theorem openedAs_at {a : List Nat} (hc : s.canonical) (i key p : Nat) (ha : Ra.VHP_SESS_STAT i ∈ a := by simp) :
    SessAt a [.regs, .vhp] i { s.vs i with key := key, last := s.cyc } s.vhp.sent s (openedAs s i key p) :=
  (((SessAt.start a [.regs, .vhp] i hc).setFld ha).setFld ha).setVs

/-- STATE and PRIV show that the session is open. -/
theorem openedAs_shows (hc : s.canonical) (i key : Nat) {p : Nat} (hp : p < 4) :
    sessOpen (openedAs s i key p) i = true ∧ (openedAs s i key p).fld (Fd.VHP_SESS_STAT_PRIV i) = p := by
  have hstate : Shows (Fd.VHP_SESS_STAT_STATE i) 2 (s.setFld (Fd.VHP_SESS_STAT_STATE i) 2) := .set hc.regs_wf
  have hkept : Shows (Fd.VHP_SESS_STAT_STATE i) 2 ((s.setFld (Fd.VHP_SESS_STAT_STATE i) 2).setFld (Fd.VHP_SESS_STAT_PRIV i) p) := hstate.setFld
  have hpriv : Shows (Fd.VHP_SESS_STAT_PRIV i) p ((s.setFld (Fd.VHP_SESS_STAT_STATE i) 2).setFld (Fd.VHP_SESS_STAT_PRIV i) p) :=
    .set hstate.wf (Nat.mod_eq_of_lt hp)
  have hregs : (openedAs s i key p).regs = ((s.setFld (Fd.VHP_SESS_STAT_STATE i) 2).setFld (Fd.VHP_SESS_STAT_PRIV i) p).regs := rfl
  have hopen : (openedAs s i key p).fld (Fd.VHP_SESS_STAT_STATE i) = 2 := (hkept.of_regs hregs).fld
  exact ⟨beq_iff_eq.mpr hopen, (hpriv.of_regs hregs).fld⟩

theorem sessions_idle (src : Word) (tag : Half) (i : Fin 4) (key : Byte) (ok : Bool) (s : State) :
    (vhpOn s = false → Idle (.vhpHello src tag) s ∧ Idle (.vhpOpen i tag key ok) s) ∧
    (s.fld (Fd.VHP_SESS_STAT_STATE i) ≠ 1 → Idle (.vhpOpen i tag key ok) s ∧ Idle (.vhpOpenTimeout i) s) := by
  refine ⟨fun hoff => ⟨?_, ?_⟩, fun hstate => ⟨?_, ?_⟩⟩
  · exact (exec_vhpHello src tag s).trans (if_pos (by rw [hoff]; rfl))
  · exact (exec_vhpOpen i tag key ok s).trans (if_pos (by rw [hoff]; rfl))
  · exact (exec_vhpOpen i tag key ok s).trans (if_pos (by simp [hstate]))
  · exact (exec_vhpOpenTimeout i s).trans (congrArg _ (if_neg fun h => hstate h.1))

theorem vhpSend_fld (s : State) (r : VhpRsp) (f : Fld) : (vhpSend s r).fld f = s.fld f := rfl

/-- The session opens with the key's privilege. -/
theorem vhpOpen_opens {i : Fin 4} {tag : Half} {key : Byte} (hc : s.canonical) (hopening : (!vhpOn s || s.fld (Fd.VHP_SESS_STAT_STATE i) != 1) = false)
    (hkey : s.hasKey Key.host key.toNat = true) :
    Gives (.vhpOpen i tag key true) s (fun t => sessOpen t i = true ∧
      t.fld (Fd.VHP_SESS_STAT_PRIV i) = min 2 (s.keyPriv Key.host key.toNat) ∧ (t.vs i).key = key.toNat ∧ (t.vs i).outst = (s.vs i).outst ∧
      t.vhp.sent.head? = some { sess := i.val + 1, tag := tag.toNat, kind := 2, code := Code.ok, data := [min 2 (s.keyPriv Key.host key.toNat)],
                                at_ := s.cyc } ∧
      OnlyRegs [Ra.VHP_SESS_STAT i] s t ∧ OnlyParts [.regs, .vhp] s t) := by
  have hopened := openedAs_at (a := [Ra.VHP_SESS_STAT i]) hc i key.toNat (min 2 (s.keyPriv Key.host key.toNat))
  obtain ⟨hopen, hpriv⟩ := openedAs_shows hc i key.toNat (p := min 2 (s.keyPriv Key.host key.toNat)) (by omega)
  have hexec := exec_vhpOpen i tag key true s
  simp only [hopening, hkey, Bool.false_eq_true, if_false, Bool.and_self, if_true, hopened.cyc] at hexec
  have hat := hopened.vhpSend (p := sessRsp i tag.toNat 2 Code.ok [min 2 (s.keyPriv Key.host key.toNat)] s.cyc)
  refine ⟨_, hexec, ?_, (vhpSend_fld _ _ _).trans hpriv, congrArg VhpSess.key hat.vs, (congrArg VhpSess.outst hat.vs).trans rfl,
    (congrArg List.head? hat.sent).trans rfl, hat.regs, hat.parts⟩
  rw [sessOpen, vhpSend_fld]
  exact hopen

theorem vhpOpen_settled (i : Fin 4) (tag : Half) (key : Byte) (s : State) (hc : s.canonical) (hon : vhpOn s = true)
    (hstate : s.fld (Fd.VHP_SESS_STAT_STATE i) = 1) :
    let no := vhpSend (vhpEnd s i) { sess := i.val + 1, tag := tag.toNat, kind := 2, code := Code.refused, at_ := s.cyc }
    (s.hasKey Key.host key.toNat = true → Gives (.vhpOpen i tag key true) s (fun t => sessOpen t i = true ∧
      t.fld (Fd.VHP_SESS_STAT_PRIV i) = min 2 (s.keyPriv Key.host key.toNat) ∧ (t.vs i).key = key.toNat ∧ (t.vs i).outst = (s.vs i).outst ∧
      t.vhp.sent.head? = some { sess := i.val + 1, tag := tag.toNat, kind := 2, code := Code.ok, data := [min 2 (s.keyPriv Key.host key.toNat)],
                                at_ := s.cyc } ∧
      OnlyRegs [Ra.VHP_SESS_STAT i] s t ∧ OnlyParts [.regs, .vhp] s t)) ∧
    (s.hasKey Key.host key.toNat = false → exec (.vhpOpen i tag key true) s = .next no) ∧ exec (.vhpOpen i tag key false) s = .next no ∧
    (s.since (s.vs i).began (2 * cycS) = true → exec (.vhpOpenTimeout i) s =
      .next (vhpSend (vhpEnd s i) { sess := i.val + 1, tag := 0, kind := 2, code := Code.refused, at_ := s.cyc })) ∧
    (s.since (s.vs i).began (2 * cycS) = false → Idle (.vhpOpenTimeout i) s) := by
  dsimp only
  have hopening : (!vhpOn s || s.fld (Fd.VHP_SESS_STAT_STATE i) != 1) = false := by rw [hon, hstate]; rfl
  refine ⟨fun hkey => vhpOpen_opens hc hopening hkey, fun hkey => ?_, ?_, fun hdue => ?_, fun hdue => ?_⟩
  · rw [exec_vhpOpen, hopening, hkey]
    rfl
  · rw [exec_vhpOpen, hopening, Bool.false_and]
    rfl
  · exact (exec_vhpOpenTimeout i s).trans (congrArg _ (if_pos ⟨hstate, hdue⟩))
  · exact (exec_vhpOpenTimeout i s).trans (congrArg _ (if_neg fun h => Bool.noConfusion (hdue.symm.trans h.2)))

theorem vhpSessionIdle_settled (i : Fin 4) (s : State) :
    (sessOpen s i = true → s.since (s.vs i).last (30 * cycS) = true → exec (.vhpSessionIdle i) s = .next (vhpEnd s i)) ∧
    (sessOpen s i = false ∨ s.since (s.vs i).last (30 * cycS) = false → Idle (.vhpSessionIdle i) s) := by
  refine ⟨fun hopen hdue => congrArg _ (if_pos (by rw [hopen, hdue]; rfl)), fun h => congrArg _ (if_neg ?_)⟩
  rw [Bool.and_eq_true, not_and_or, Bool.not_eq_true, Bool.not_eq_true]
  exact h

theorem vhpEnd_settled (i : Nat) (s : State) (hc : s.canonical) : (vhpEnd s i).vs i = {} ∧ (vhpEnd s i).reg (Ra.VHP_SESS_STAT i) = 0 ∧
    (∀ j, j ≠ i → (vhpEnd s i).vs j = s.vs j) ∧ OnlyRegs [Ra.VHP_SESS_STAT i] s (vhpEnd s i) ∧ OnlyParts [.regs, .gns, .vhp] s (vhpEnd s i) := by
  obtain ⟨hvs, -, hother, hregs, hparts, -, -⟩ := vhpEnd_at hc i
  exact ⟨hvs, vhpEnd_clears hc i, hother, hregs, hparts⟩

/-! ### Answers and timeouts (R400, R401) -/

theorem vhpReply_settled (s : State) (i tag kind code : Nat) (data : List Nat) (hc : s.canonical) (hlen : (s.vs i).outst.length ≤ 256) :
    let t := vhpReply s i tag kind code data
    t.vhp.sent.head? = some { sess := i + 1, tag := tag, kind := kind, code := code, data := data, at_ := s.cyc } ∧
    (t.vs i).outst = (s.vs i).outst.filter (fun x => x.tag != tag) ∧
    (t.vs i).kept.head? = some { sess := i + 1, tag := tag, kind := kind, code := code, data := data, at_ := s.cyc } ∧
    t.fld (Fd.VHP_SESS_STAT_OUTST i) = (t.vs i).outst.length ∧ (∀ j, j ≠ i → t.vs j = s.vs j) ∧ OnlyRegs [Ra.VHP_SESS_STAT i] s t ∧
    OnlyParts [.regs, .vhp] s t := by
  have hsent : SessAt [Ra.VHP_SESS_STAT i] [.regs, .vhp] i _ _ s
      (vhpSend (s.setVs i ((s.vs i).answered (sessRsp i tag kind code data s.cyc))) (sessRsp i tag kind code data s.cyc)) :=
    ((SessAt.start _ _ i hc).setVs).vhpSend
  have hat := (SessAt.start [Ra.VHP_SESS_STAT i] [.regs, .vhp] i hc).vhpReply (tag := tag) (kind := kind) (code := code) (data := data)
  have hshort : ((s.vs i).answered (sessRsp i tag kind code data s.cyc)).outst.length ≤ 256 := (List.length_filter_le _ _).trans hlen
  have hshows := vhpShow_shows (i := i) hsent.regsWf (by rw [hsent.vs]; exact hshort)
  refine ⟨(congrArg List.head? hat.sent).trans rfl, congrArg VhpSess.outst hat.vs, (congrArg (fun x : VhpSess => x.kept.head?) hat.vs).trans rfl, ?_,
    hat.other, hat.regs, hat.parts⟩
  rw [hat.vs, ← hsent.vs]
  exact hshows.fld

/-- What answers one after the other leave of a session: the transactions whose tags are not among those answered. -/
theorem vhpReplies_outst {l : List VhpTxn} {s t : State} {x : VhpSess} {r : List VhpRsp} (code : Nat)
    (h : SessAt [Ra.VHP_SESS_STAT i] [.regs, .vhp] i x r s t) :
    ∃ y r', SessAt [Ra.VHP_SESS_STAT i] [.regs, .vhp] i y r' s (l.foldl (fun s z => vhpReply s i z.tag z.kind code []) t) ∧
      ∀ z, z ∈ y.outst ↔ z ∈ x.outst ∧ ∀ w ∈ l, z.tag ≠ w.tag := by
  induction l generalizing t x r with
  | nil => exact ⟨x, r, h, fun z => by simp⟩
  | cons w l ih =>
    obtain ⟨y, r', hy, hout⟩ := ih (h.vhpReply (tag := w.tag) (kind := w.kind) (code := code) (data := []))
    refine ⟨y, r', hy, fun z => (hout z).trans ?_⟩
    simp only [VhpSess.answered, sessRsp, List.mem_filter, bne_iff_ne, List.forall_mem_cons, and_assoc]

theorem vhpTransactionTimeout_settled (i : Fin 4) (s : State) (hc : s.canonical) :
    Gives (.vhpTransactionTimeout i) s (fun t =>
      (∀ x ∈ (t.vs i).outst, x ∈ (s.vs i).outst ∧ s.since x.at_ (60 * cycS) = false) ∧
      (∀ x ∈ (s.vs i).outst, (∀ y ∈ (s.vs i).outst, y.tag = x.tag → s.since y.at_ (60 * cycS) = false) → x ∈ (t.vs i).outst) ∧
      (∀ j, j ≠ i.val → t.vs j = s.vs j) ∧ OnlyRegs [Ra.VHP_SESS_STAT i] s t ∧ OnlyParts [.regs, .vhp] s t) := by
  obtain ⟨y, r, hat, hout⟩ := vhpReplies_outst (l := (s.vs i).outst.filter (fun t => s.since t.at_ (60 * cycS))) Code.timeout
    (SessAt.start [Ra.VHP_SESS_STAT i] [.regs, .vhp] i hc)
  refine ⟨_, rfl, fun x hx => ?_, fun x hx hyoung => ?_, hat.other, hat.regs, hat.parts⟩
  · obtain ⟨hold, hleft⟩ := (hout x).mp (hat.vs ▸ hx)
    refine ⟨hold, Bool.eq_false_iff.mpr fun hdue => hleft x (List.mem_filter.mpr ⟨hold, hdue⟩) rfl⟩
  · refine hat.vs ▸ (hout x).mpr ⟨hx, fun w hw e => ?_⟩
    obtain ⟨hold, hdue⟩ := List.mem_filter.mp hw
    exact Bool.noConfusion ((hyoung w hold e.symm).symm.trans hdue)

/-! ### Requests below and at the session's privilege (R400) -/

/-- OUTST of a taken request's session, and the count of its kind. -/
theorem vhpTaken_shows {h : VhpHdr} {kind arg : Nat} (hc : s.canonical) (hi : i < 4) (hfree : (s.vs i).outst.length < 256) :
    (vhpTaken s h i kind arg).fld (Fd.VHP_SESS_STAT_OUTST i) = (s.vs i).outst.length + 1 ∧
      (vhpTaken s h i kind arg).fld (Fd.ETH_VHP_AUX_V (vhpKinds.idxOf kind)) = satU 32 (s.fld (Fd.ETH_VHP_AUX_V (vhpKinds.idxOf kind)) + 1) := by
  have hnoted := vhpNoted_at (a := takenRegs i kind) hc h i
  have hcount : SessAt (takenRegs i kind) [.regs, .vhp] i ((s.vs i).noted h.ctr.toNat s.cyc) s.vhp.sent s
      (vhpCount (vhpNoted s h i) (vhpKinds.idxOf kind)) := hnoted.setFld (by simp [Fd.ETH_VHP_AUX_V])
  have hjoined := hcount.setVs (y := ((s.vs i).noted h.ctr.toNat s.cyc).joined (takenTxn s h kind arg))
  have hlen : ((vhpCount (vhpNoted s h i) (vhpKinds.idxOf kind)).setVs i
      (((s.vs i).noted h.ctr.toNat s.cyc).joined (takenTxn s h kind arg))).vs i = _ := hjoined.vs
  have haddr : (Fd.ETH_VHP_AUX_V (vhpKinds.idxOf kind)).addr ≠ Ra.VHP_SESS_STAT i := by
    show 0x4090C290 + 0x4 * vhpKinds.idxOf kind ≠ 0x40900400 + 0x4 * i
    omega
  have hidle : (vhpNoted s h i).fld (Fd.ETH_VHP_AUX_V (vhpKinds.idxOf kind)) = s.fld (Fd.ETH_VHP_AUX_V (vhpKinds.idxOf kind)) :=
    ((vhpNoted_at (a := [Ra.VHP_SESS_STAT i]) hc h i).regs).fld_eq (by simpa using haddr)
  have hcounted : Shows (Fd.ETH_VHP_AUX_V (vhpKinds.idxOf kind)) (satU 32 (s.fld (Fd.ETH_VHP_AUX_V (vhpKinds.idxOf kind)) + 1))
      (vhpCount (vhpNoted s h i) (vhpKinds.idxOf kind)) := ⟨hcount.regsWf, by rw [← hidle]; exact fld_count_same _ _ hnoted.regsWf (Nat.le_refl 32)⟩
  have hshown := (vhpShow_shows hjoined.regsWf (by rw [hlen]; simpa [VhpSess.joined, VhpSess.noted_outst] using hfree)).fld
  rw [vhpTaken, vhpJoined, hcount.vs, hcount.cyc]
  refine ⟨hshown.trans ?_, ?_⟩
  · rw [hlen]
    simp [VhpSess.joined, VhpSess.noted_outst]
  · have hkept : Shows (Fd.ETH_VHP_AUX_V (vhpKinds.idxOf kind)) _ ((vhpCount (vhpNoted s h i) (vhpKinds.idxOf kind)).setVs i
        (((s.vs i).noted h.ctr.toNat s.cyc).joined (takenTxn s h kind arg))) := hcounted.of_regs rfl
    exact (hkept.otherFld (g := Fd.VHP_SESS_STAT_OUTST i) haddr).fld

theorem vhpTake_settled (h : VhpHdr) (i kind p arg : Nat) (s : State) (hc : s.canonical) (ht : VhpTakes s h i) :
    (s.fld (Fd.VHP_SESS_STAT_PRIV i) < p → ∃ t, vhpTake s h kind (some p) arg = (t, none) ∧ (t.vs i).outst = (s.vs i).outst ∧
      t.vhp.sent.head? = some { sess := i + 1, tag := h.tag.toNat, kind := kind, code := Code.refused, at_ := s.cyc } ∧
      OnlyRegs [Ra.VHP_SESS_STAT i] s t ∧ OnlyParts [.regs, .vhp] s t) ∧
    (p ≤ s.fld (Fd.VHP_SESS_STAT_PRIV i) → ∃ t, vhpTake s h kind (some p) arg = (t, some i) ∧
      (t.vs i).outst = (s.vs i).outst ++ [{ tag := h.tag.toNat, kind := kind, at_ := s.cyc, arg := arg }] ∧ (t.vs i).last = s.cyc ∧
      h.ctr.toNat ∈ (t.vs i).seen ∧ t.fld (Fd.VHP_SESS_STAT_OUTST i) = (s.vs i).outst.length + 1 ∧ t.vhp.sent = s.vhp.sent ∧
      (∀ j, j ≠ i → t.vs j = s.vs j) ∧ t.fld (Fd.ETH_VHP_AUX_V (vhpKinds.idxOf kind)) = satU 32 (s.fld (Fd.ETH_VHP_AUX_V (vhpKinds.idxOf kind)) + 1) ∧
      OnlyRegs (takenRegs i kind) s t ∧ OnlyParts [.regs, .vhp] s t) := by
  rw [vhpTake_eq hc ht]
  obtain ⟨-, hi, -, -, -, -, -, hnew, hfree⟩ := ht
  refine ⟨fun hp => ?_, fun hp => ?_⟩
  · have hat := (vhpNoted_at (a := [Ra.VHP_SESS_STAT i]) hc h i).vhpReply (tag := h.tag.toNat) (kind := kind) (code := Code.refused) (data := [])
    refine ⟨_, if_pos hp, ?_, (congrArg List.head? hat.sent).trans rfl, hat.regs, hat.parts⟩
    rw [hat.vs]
    exact List.filter_eq_self.mpr fun x hx => by simpa [sessRsp] using hnew x hx
  · have hat := vhpTaken_at hc h i kind arg
    refine ⟨_, if_neg (Nat.not_lt.mpr hp), congrArg VhpSess.outst hat.vs, congrArg VhpSess.last hat.vs, ?_, ?_, hat.sent, hat.other, ?_, hat.regs,
      hat.parts⟩
    · rw [hat.vs]
      exact List.mem_cons_self
    · exact (vhpTaken_shows hc hi hfree).1
    · exact (vhpTaken_shows hc hi hfree).2

end

end Sys2Proof.Machine
end

section
/-! PROOF. What each kind of host request does once it is taken (R400). -/

namespace Sys2Proof.Machine

/-! ### What a taken request leaves -/

/-- From `s` to `t` a request has been taken: only registers of the protocol's window and its sessions have changed. -/
structure TakenKept (s t : State) : Prop where
  reg : ∀ a, a / 0x10000 ≠ 0x4090 → t.reg a = s.reg a
  parts : OnlyParts [.regs, .vhp] s t

section
variable {s t : State} {h : VhpHdr} {i kind p arg : Nat}

theorem takenRegs_window (hi : i < 4) : ∀ a ∈ takenRegs i kind, a / 0x10000 = 0x4090 := by
  have hk : vhpKinds.idxOf kind ≤ 17 := List.idxOf_le_length
  intro a ha
  simp only [List.mem_cons, List.not_mem_nil, or_false] at ha
  obtain rfl | rfl := ha
  · show (0x40900400 + 0x4 * i) / 0x10000 = 0x4090
    omega
  · show (0x4090C290 + 0x4 * vhpKinds.idxOf kind) / 0x10000 = 0x4090
    omega

theorem vhpTaken_kept (hc : s.canonical) (hi : i < 4) : TakenKept s (vhpTaken s h i kind arg) := by
  have hat := vhpTaken_at hc h i kind arg
  exact ⟨fun a ha => hat.regs a fun hm => ha (takenRegs_window hi a hm), hat.parts⟩

theorem TakenKept.fld_eq (hk : TakenKept s t) {f : Fld} (hf : f.addr / 0x10000 ≠ 0x4090) : t.fld f = s.fld f := by
  simp only [State.fld, hk.reg f.addr hf]

theorem TakenKept.flag_eq (hk : TakenKept s t) {f : Fld} (hf : f.addr / 0x10000 ≠ 0x4090) : t.flag f = s.flag f := by
  simp only [State.flag, hk.fld_eq hf]

theorem TakenKept.mode (hk : TakenKept s t) : t.mode = s.mode := hk.fld_eq (by decide)
theorem TakenKept.gns (hk : TakenKept s t) : t.gns = s.gns := hk.parts .gns (by simp)
theorem TakenKept.tab (hk : TakenKept s t) : t.tab = s.tab := hk.parts .tab (by simp)
theorem TakenKept.upd (hk : TakenKept s t) : t.upd = s.upd := hk.parts .upd (by simp)
theorem TakenKept.flr (hk : TakenKept s t) : t.flr = s.flr := hk.parts .flr (by simp)
theorem TakenKept.clk (hk : TakenKept s t) : t.clk = s.clk := hk.parts .clk (by simp)

/-- The endpoints' rows lie in the mailboxes' window. -/
theorem mbxRow_window {e o : Nat} (he : e < 64) (ho : o < 0x20) : (0x40040000 + o + 0x20 * e) / 0x10000 = 0x4004 := by omega

theorem mbxEp_window (e : Fin 64) {o : Nat} (ho : o < 0x20) : (0x40040000 + o + 0x20 * e.val) / 0x10000 ≠ 0x4090 := by
  rw [mbxRow_window e.isLt ho]
  decide

theorem TakenKept.linkSt (hk : TakenKept s t) : t.linkSt = s.linkSt := hk.fld_eq (by decide)

theorem mbrStat_window (m : Fin 64) : Ra.FLR_MBR_STAT m / 0x10000 ≠ 0x4090 := by
  show (0x40700100 + 0x4 * m.val) / 0x10000 ≠ 0x4090
  have := m.isLt
  omega

theorem TakenKept.present (hk : TakenKept s t) (m : Fin 64) : t.present m = s.present m := hk.flag_eq (mbrStat_window m)

theorem TakenKept.txnBad (hk : TakenKept s t) (kind len : Nat) (m : Fin 64) : txnBad t kind m len = txnBad s kind m len := by
  have hquota : t.fld Fd.FLR_TXN_STAT_QUOTA = s.fld Fd.FLR_TXN_STAT_QUOTA := hk.fld_eq (by decide)
  rw [Machine.txnBad, Machine.txnBad, isMember, isMember, hk.mode, hk.linkSt, hk.present m, hquota, hk.flr]

theorem TakenKept.freeTag (hk : TakenKept s t) : freeTag t = freeTag s := by simp only [Machine.freeTag, hk.flr, hk.clk]

theorem TakenKept.cyc (hk : TakenKept s t) : t.cyc = s.cyc := congrArg ClkState.cyc hk.clk

theorem TakenKept.firstMissing (hk : TakenKept s t) : firstMissing t = firstMissing s := by simp only [Machine.firstMissing, staged, hk.upd]

theorem TakenKept.bitmapWord (hk : TakenKept s t) (part w : Nat) : bitmapWord t part w = bitmapWord s part w := by
  simp only [Machine.bitmapWord, staged, hk.upd]

end

/-! ### Requests that run -/

/-- Once it is taken with privilege `p`, the request does `op`. -/
def VhpRuns (s : State) (h : VhpHdr) (i : Nat) (c : Instr) (kind p arg : Nat) (op : State → State) : Prop :=
  p ≤ s.fld (Fd.VHP_SESS_STAT_PRIV i) → exec c s = .next (op (vhpTake s h kind (some p) arg).1)

section
variable {s : State} {h : VhpHdr} {i kind p arg : Nat} {c : Instr} {op : State → State}

theorem vhpTake_taken (hc : s.canonical) (ht : VhpTakes s h i) (hp : p ≤ s.fld (Fd.VHP_SESS_STAT_PRIV i)) :
    vhpTake s h kind (some p) arg = (vhpTaken s h i kind arg, some i) := (vhpTake_eq hc ht kind p arg).trans (if_neg (Nat.not_lt.mpr hp))

theorem VhpTakes.lt (ht : VhpTakes s h i) : i < 4 := ht.2.1

/-- A request runs where its command does `op` on whatever state the request leaves once taken. -/
theorem VhpRuns.of_taken (hc : s.canonical) (ht : VhpTakes s h i)
    (hx : ∀ t, vhpTake s h kind (some p) arg = (t, some i) → TakenKept s t → exec c s = .next (op t)) : VhpRuns s h i c kind p arg op := fun hp => by
  have e := vhpTake_taken (kind := kind) (arg := arg) hc ht hp
  rw [e]
  exact hx _ e (vhpTaken_kept hc ht.lt)

/-- A request answered at once by a service. -/
theorem VhpRuns.of_serve {f : State → State × Nat × List Nat} (hc : s.canonical) (ht : VhpTakes s h i)
    (hexec : exec c s = .next (vhpServe s h kind (some p) f))
    (hf : ∀ t, TakenKept s t → vhpReply (f t).1 i h.tag.toNat kind (f t).2.1 (f t).2.2 = op t) : VhpRuns s h i c kind p 0 op :=
  .of_taken hc ht fun t e hk => by rw [hexec, vhpServe, e, ← hf t hk]

/-- A request that is answered as it is taken. -/
theorem VhpRuns.of_answer {code : Nat} {data : List Nat} {f : State → State × Nat × List Nat} (hc : s.canonical) (ht : VhpTakes s h i)
    (hexec : exec c s = .next (vhpServe s h kind (some p) f)) (hf : ∀ t, TakenKept s t → f t = (t, code, data)) :
    VhpRuns s h i c kind p 0 (fun t => vhpReply t i h.tag.toNat kind code data) :=
  .of_serve hc ht hexec fun t hk => by rw [hf t hk]

end

/-! ### Each kind (R400) -/

section
variable {s : State} {h : VhpHdr} {i : Nat} (hc : s.canonical) (ht : VhpTakes s h i)
include hc ht

theorem vhpClose_runs : VhpRuns s h i (.vhpClose h) 3 0 0 (fun t => vhpEnd (vhpReply t i h.tag.toNat 3 Code.ok []) i) :=
  .of_taken hc ht fun t e _ => by
    show execVhpClose h s = _
    rw [execVhpClose, e]

theorem vhpKeepalive_runs : VhpRuns s h i (.vhpKeepalive h) 4 0 0 (fun t => vhpReply t i h.tag.toNat 4 Code.ok []) :=
  .of_answer hc ht rfl fun _ _ => rfl

theorem vhpRegRead_runs (a : Word) (n : Half) :
    (rangeCode a.toNat n.toNat 256 = Code.ok → VhpRuns s h i (.vhpRegRead h a n) 0x10 0 0
      (fun t => vhpReply (busReads t 0 a.toNat n.toNat).2 i h.tag.toNat 0x10 Code.ok ((busReads t 0 a.toNat n.toNat).1.map (·.toNat)))) ∧
    (rangeCode a.toNat n.toNat 256 ≠ Code.ok → VhpRuns s h i (.vhpRegRead h a n) 0x10 0 0
      (fun t => vhpReply t i h.tag.toNat 0x10 (rangeCode a.toNat n.toNat 256) [])) := by
  refine ⟨fun hrange => .of_serve hc ht rfl fun t _ => ?_, fun hrange => .of_answer hc ht rfl fun t _ => ?_⟩
  · simp only [hrange, ne_eq, not_true, if_false]
  · simp only [hrange, ne_eq, not_false_eq_true, if_true]

theorem vhpRegWrite_runs (a : Word) (ws : List Word) : let p := if hostWords a.toNat ws.length then 1 else 2
    (rangeCode a.toNat ws.length 256 = Code.ok → driverless s.mode = false →
      VhpRuns s h i (.vhpRegWrite h a ws) 0x11 p 0 (fun t => vhpReply (busWrites t 0 a.toNat ws) i h.tag.toNat 0x11 Code.ok [])) ∧
    (rangeCode a.toNat ws.length 256 = Code.ok → driverless s.mode = true →
      VhpRuns s h i (.vhpRegWrite h a ws) 0x11 p 0 (fun t => vhpReply t i h.tag.toNat 0x11 Code.refused [])) ∧
    (rangeCode a.toNat ws.length 256 ≠ Code.ok →
      VhpRuns s h i (.vhpRegWrite h a ws) 0x11 p 0 (fun t => vhpReply t i h.tag.toNat 0x11 (rangeCode a.toNat ws.length 256) [])) := by
  refine ⟨fun hrange hmode => .of_serve hc ht rfl fun t hk => ?_, fun hrange hmode => .of_answer hc ht rfl fun t hk => ?_,
    fun hrange => .of_answer hc ht rfl fun t _ => ?_⟩
  · simp only [vhpWrite, hrange, ne_eq, not_true, if_false, hk.mode, hmode, Bool.false_eq_true]
  · simp only [vhpWrite, hrange, ne_eq, not_true, if_false, hk.mode, hmode, if_true]
  · simp only [vhpWrite, hrange, ne_eq, not_false_eq_true, if_true]

theorem vhpLogRead_runs (payload : List Byte) : VhpRuns s h i (.vhpLogRead h payload) 0x12 0 0
    (fun t => vhpReply t i h.tag.toNat 0x12 (logRead t payload).1 ((logRead t payload).2.map (·.toNat))) :=
  .of_serve hc ht rfl fun _ _ => rfl

theorem vhpMsg_runs (e : Fin 64) (words : List Word) :
    (s.flag (Fd.MBX_EP_CFG_TXL e) = false → s.fld (Fd.MBX_EP_CFG_TX e) = 0x3F → s.fld (Fd.MBX_EP_STAT_STATE e) ≠ epFull → words.length ≤ 16 →
      VhpRuns s h i (.vhpMsg h e words) 0x20 1 e (fun t => vhpPost t e words)) ∧
    (s.flag (Fd.MBX_EP_CFG_TXL e) = false → s.fld (Fd.MBX_EP_CFG_TX e) = 0x3F → s.fld (Fd.MBX_EP_STAT_STATE e) ≠ epFull → 16 < words.length →
      VhpRuns s h i (.vhpMsg h e words) 0x20 1 e (fun t => vhpReply t i h.tag.toNat 0x20 Code.badArgument [])) ∧
    (s.flag (Fd.MBX_EP_CFG_TXL e) = true ∨ s.fld (Fd.MBX_EP_CFG_TX e) ≠ 0x3F ∨ s.fld (Fd.MBX_EP_STAT_STATE e) = epFull →
      VhpRuns s h i (.vhpMsg h e words) 0x20 1 e (fun t => vhpReply t i h.tag.toNat 0x20 Code.refused [])) := by
  have hexec : ∀ t, vhpTake s h 0x20 (some 1) e.val = (t, some i) → TakenKept s t → exec (.vhpMsg h e words) s =
      if s.flag (Fd.MBX_EP_CFG_TXL e) || s.fld (Fd.MBX_EP_CFG_TX e) != 0x3F || s.fld (Fd.MBX_EP_STAT_STATE e) == epFull then
        .next (vhpReply t i h.tag.toNat 0x20 Code.refused [])
      else if 16 < words.length then .next (vhpReply t i h.tag.toNat 0x20 Code.badArgument [])
      else .next (vhpPost t e words) := fun t htake hk => by
    rw [← hk.flag_eq (f := Fd.MBX_EP_CFG_TXL e) (mbxEp_window e (o := 0) (by decide)),
      ← hk.fld_eq (f := Fd.MBX_EP_CFG_TX e) (mbxEp_window e (o := 0) (by decide)),
      ← hk.fld_eq (f := Fd.MBX_EP_STAT_STATE e) (mbxEp_window e (o := 8) (by decide))]
    show execVhpMsg h e words s = _
    rw [execVhpMsg, htake]
  refine ⟨fun hl htx hfull hlen => .of_taken hc ht fun t htake hk => ?_, fun hl htx hfull hlen => .of_taken hc ht fun t htake hk => ?_,
    fun hbad => .of_taken hc ht fun t htake hk => ?_⟩
  · rw [hexec t htake hk, if_neg (by simp [hl, htx, hfull]), if_neg (Nat.not_lt.mpr hlen)]
  · rw [hexec t htake hk, if_neg (by simp [hl, htx, hfull]), if_pos hlen]
  · rw [hexec t htake hk, if_pos (by simpa [or_assoc] using hbad)]

theorem vhpModeReq_runs (mode : BitVec 4) :
    (s.flag Fd.SYS_MODE_STAT_PENDING = false →
      VhpRuns s h i (.vhpModeReq h mode) 0x21 1 0 (fun t => modeRequest t (0x40#32 ||| mode.zeroExtend 32))) ∧
    (s.flag Fd.SYS_MODE_STAT_PENDING = true → VhpRuns s h i (.vhpModeReq h mode) 0x21 1 0
      (fun t => vhpReply (modeRequest t (0x40#32 ||| mode.zeroExtend 32)) i h.tag.toNat 0x21 Code.refused [])) := by
  have hexec : ∀ t, vhpTake s h 0x21 (some 1) = (t, some i) → TakenKept s t → exec (.vhpModeReq h mode) s =
      if s.flag Fd.SYS_MODE_STAT_PENDING then
        .next (vhpReply (modeRequest t (0x40#32 ||| mode.zeroExtend 32)) i h.tag.toNat 0x21 Code.refused [])
      else .next (modeRequest t (0x40#32 ||| mode.zeroExtend 32)) := fun t htake hk => by
    rw [← hk.flag_eq (f := Fd.SYS_MODE_STAT_PENDING) (by decide)]
    show execVhpModeReq h mode s = _
    rw [execVhpModeReq, htake]
  refine ⟨fun hpend => .of_taken hc ht fun t htake hk => ?_, fun hpend => .of_taken hc ht fun t htake hk => ?_⟩
  · rw [hexec t htake hk, hpend, if_neg Bool.false_ne_true]
  · rw [hexec t htake hk, hpend, if_pos rfl]

theorem vhpReset_runs : VhpRuns s h i (.vhpReset h true) 0x22 2 0 (fun t => fullReset (vhpReply t i h.tag.toNat 0x22 Code.ok []) 5 true) ∧
    VhpRuns s h i (.vhpReset h false) 0x22 2 0 (fun t => appReset (vhpReply t i h.tag.toNat 0x22 Code.ok []) Fd.PWR_RST_CAUSE_APP_REQ) := by
  refine ⟨.of_taken hc ht fun t htake _ => ?_, .of_taken hc ht fun t htake _ => ?_⟩
  · show execVhpReset h true s = _
    rw [execVhpReset, htake]
    rfl
  · show execVhpReset h false s = _
    rw [execVhpReset, htake]
    rfl

theorem vhpRtcmIn_runs : VhpRuns s h i (.vhpRtcmIn h) 0x30 1 0 (fun t => vhpReply t i h.tag.toNat 0x30 Code.ok []) := .of_answer hc ht rfl fun _ _ => rfl

theorem vhpUpdBlock_runs (msg : List Byte) :
    (msg.length = 4116 → VhpRuns s h i (.vhpUpdBlock h msg) 0x40 2 0
      (fun t => vhpReply (updAnswer t msg).1 i h.tag.toNat 0x40 (updAnswer t msg).2.1 (updAnswer t msg).2.2)) ∧
    (msg.length ≠ 4116 → VhpRuns s h i (.vhpUpdBlock h msg) 0x40 2 0 (fun t => vhpReply t i h.tag.toNat 0x40 Code.badArgument [])) := by
  refine ⟨fun hlen => .of_serve hc ht rfl fun t _ => ?_, fun hlen => .of_answer hc ht rfl fun t _ => if_neg hlen⟩
  rw [if_pos hlen]

theorem vhpUpdState_runs (part : Fin 32) (w : Half) : VhpRuns s h i (.vhpUpdState h part w) 0x41 0 0
    (fun t => vhpReply t i h.tag.toNat 0x41 Code.ok
      ([s.updState, (s.reg Ra.UPD_PKG_LO).toNat, (s.reg Ra.UPD_PKG_HI).toNat, bitmapWord s part w.toNat] ++ firstMissing s)) :=
  .of_answer hc ht rfl fun t hk => by
    have hstate : t.updState = s.updState := hk.fld_eq (by decide)
    rw [hstate, hk.reg Ra.UPD_PKG_LO (by decide), hk.reg Ra.UPD_PKG_HI (by decide), hk.bitmapWord, hk.firstMissing]

theorem vhpTaskExport_runs (part : List Byte) : VhpRuns s h i (.vhpTaskExport h part) 0x50 0 0
    (fun t => vhpReply t i h.tag.toNat 0x50 Code.ok (part.map (·.toNat))) := .of_answer hc ht rfl fun _ _ => rfl

theorem vhpTabRead_runs (blk : Word) (ofs : Half) (n : Byte) :
    (∀ b, s.tab.ring.find? (fun x => x.1 == blk.toNat) = some (blk.toNat, b) → VhpRuns s h i (.vhpTabRead h blk ofs n) 0x70 2 0
      (fun t => vhpReply t i h.tag.toNat 0x70 Code.ok (((tabWords b).drop ofs.toNat).take n.toNat))) ∧
    (s.tab.ring.find? (fun x => x.1 == blk.toNat) = none → VhpRuns s h i (.vhpTabRead h blk ofs n) 0x70 2 0
      (fun t => vhpReply t i h.tag.toNat 0x70 Code.fault [])) := by
  refine ⟨fun b hb => .of_answer hc ht rfl fun t hk => ?_, fun hnone => .of_answer hc ht rfl fun t hk => ?_⟩
  · rw [hk.tab, hb]
  · rw [hk.tab, hnone]

theorem vhpFwd_runs (dest : Fin 64) (kind : Half) (payload : List Byte) (p : Nat) (hinner : innerPriv kind.toNat = some p) :
    (s.linkSt ≠ flCoord → VhpRuns s h i (.vhpFwd h dest kind payload) 0x60 p 0 (fun t => vhpReply t i h.tag.toNat 0x60 Code.refused [])) ∧
    (s.linkSt = flCoord → s.present dest = false →
      VhpRuns s h i (.vhpFwd h dest kind payload) 0x60 p 0 (fun t => vhpReply t i h.tag.toNat 0x60 Code.departed [])) ∧
    (∀ c, s.linkSt = flCoord → s.present dest = true → txnBad s 0x50 dest (4 + payload.length) = some c →
      VhpRuns s h i (.vhpFwd h dest kind payload) 0x60 p 0 (fun t => vhpReply t i h.tag.toNat 0x60 c [])) ∧
    (∀ ft, s.linkSt = flCoord → s.present dest = true → txnBad s 0x50 dest (4 + payload.length) = none → freeTag s = some ft →
      VhpRuns s h i (.vhpFwd h dest kind payload) 0x60 p 0 (fun t => txnIssue t
        { tag := ft, kind := 0x50, dest := dest, role := 0xFF, epoch := s.fld (Fd.FLR_MBR_STAT_MEPOCH dest), dead := s.cyc + 60 * cycS,
          req := leBytes 2 kind.toNat ++ leBytes 2 0 ++ payload, vhp := some (i, h.tag.toNat) })) := by
  have hexec : ∀ t, vhpTake s h 0x60 (some p) = (t, some i) → TakenKept s t → exec (.vhpFwd h dest kind payload) s =
      if s.linkSt ≠ flCoord then .next (vhpReply t i h.tag.toNat 0x60 Code.refused [])
      else if !s.present dest then .next (vhpReply t i h.tag.toNat 0x60 Code.departed [])
      else match txnBad s 0x50 dest.val (4 + payload.length), freeTag s with
        | some c, _ => .next (vhpReply t i h.tag.toNat 0x60 c [])
        | none, none => .next (vhpReply t i h.tag.toNat 0x60 Code.refused [])
        | none, some tag =>
          .next (txnIssue t { tag := tag, kind := 0x50, dest := dest.val, role := 0xFF, epoch := s.fld (Fd.FLR_MBR_STAT_MEPOCH dest),
                              dead := s.cyc + 60 * cycS, req := leBytes 2 kind.toNat ++ leBytes 2 0 ++ payload, vhp := some (i, h.tag.toNat) }) :=
      fun t htake hk => by
    rw [← hk.linkSt, ← hk.present dest, ← hk.txnBad, ← hk.freeTag, ← hk.fld_eq (f := Fd.FLR_MBR_STAT_MEPOCH dest) (mbrStat_window dest), ← hk.cyc]
    show execVhpFwd h dest kind payload s = _
    rw [execVhpFwd, hinner, htake] <;> rfl
  refine ⟨fun hlink => .of_taken hc ht fun t htake hk => ?_, fun hlink hgone => .of_taken hc ht fun t htake hk => ?_,
    fun c hlink hhere hbad => .of_taken hc ht fun t htake hk => ?_, fun ft hlink hhere hbad hfree => .of_taken hc ht fun t htake hk => ?_⟩
  · rw [hexec t htake hk, if_pos hlink]
  · rw [hexec t htake hk, if_neg (not_not.mpr hlink), hgone]
    rfl
  · rw [hexec t htake hk, if_neg (not_not.mpr hlink), hhere, hbad]
    rfl
  · rw [hexec t htake hk, if_neg (not_not.mpr hlink), hhere, hbad, hfree]
    rfl

end

end Sys2Proof.Machine
end

section
/-! PROOF. The correction stream, application resets, and the host protocol together (R62, R64, R243, R398–R402). -/

namespace Sys2Proof.Machine

/-! ### The correction stream (R243) -/

section
variable {s : State} {h : VhpHdr} {i : Nat}

theorem SessAt.mono {a : List Nat} {l l' : List Part} {x : VhpSess} {r : List VhpRsp} {t : State} (h : SessAt a l i x r s t) (hl : l ⊆ l') :
    SessAt a l' i x r s t := ⟨h.vs, h.sent, h.other, h.regs, h.parts.mono hl, h.regsWf, h.sessWf⟩

theorem vhpReply_onlyParts (s : State) (i tag kind code : Nat) (data : List Nat) : OnlyParts [.regs, .vhp] s (vhpReply s i tag kind code data) := by
  rw [vhpReply_eq]
  exact OnlyParts.setFld (.setVhp (.setVhp (.refl _ s)))

/-- The session's stream and its rate are set. -/
def rtcmSet (t : State) (i : Nat) (on : Bool) (out : Option (Nat × Nat × Nat)) : State :=
  (t.setVs i { t.vs i with rtcm := on }).setGns { t.gns with rtcmOut := out }

/-- What a request for the stream leaves once it is answered. -/
theorem rtcmSet_answered (hc : s.canonical) (hnew : ∀ x ∈ (s.vs i).outst, x.tag ≠ h.tag.toNat) (on : Bool) (out : Option (Nat × Nat × Nat)) :
    let t := vhpReply (rtcmSet (vhpTaken s h i 0x31 0) i on out) i h.tag.toNat 0x31 Code.ok []
    t.gns = { s.gns with rtcmOut := out } ∧ (t.vs i).rtcm = on ∧ (t.vs i).outst = (s.vs i).outst ∧
      (∃ r, t.vhp.sent.head? = some r ∧ r.code = Code.ok) ∧ OnlyParts [.regs, .gns, .vhp] s t := by
  have htaken := (vhpTaken_at hc h i 0x31 0).mono (l' := [.regs, .gns, .vhp]) (by simp)
  have hgns : (vhpTaken s h i 0x31 0).gns = s.gns := (vhpTaken_at hc h i 0x31 0).parts .gns (by simp)
  have hset := (htaken.setVs (y := { (vhpTaken s h i 0x31 0).vs i with rtcm := on })).setGns
    (g := { (vhpTaken s h i 0x31 0).gns with rtcmOut := out })
  have hat := hset.vhpReply (tag := h.tag.toNat) (kind := 0x31) (code := Code.ok) (data := [])
  rw [htaken.vs, hgns] at hat
  dsimp only
  rw [rtcmSet, htaken.vs, hgns]
  refine ⟨(vhpReply_onlyParts _ _ _ _ _ _) .gns (by simp), (congrArg VhpSess.rtcm hat.vs).trans rfl, ?_, ⟨_, (congrArg List.head? hat.sent).trans rfl, rfl⟩,
    hat.parts⟩
  have hold : (s.vs i).outst.filter (fun y => y.tag != h.tag.toNat) = (s.vs i).outst := List.filter_eq_self.mpr fun x hx => by simpa using hnew x hx
  rw [hat.vs]
  show ((s.vs i).outst ++ [takenTxn s h 0x31 0]).filter (fun y => y.tag != h.tag.toNat) = (s.vs i).outst
  rw [List.filter_append, hold]
  simp [takenTxn]

theorem vhpRtcmOut_settled (hc : s.canonical) (ht : VhpTakes s h i) (hz : Byte) (msm7 : Bool) :
    (hz.toNat ∈ [1, 5, 10, 20] → Gives (.vhpRtcmOut h hz msm7) s (fun t => t.gns = { s.gns with rtcmOut := some (i, hz.toNat, b2n msm7) } ∧
      (t.vs i).rtcm = true ∧ (t.vs i).outst = (s.vs i).outst ∧ (∃ r, t.vhp.sent.head? = some r ∧ r.code = Code.ok) ∧
      OnlyParts [.regs, .gns, .vhp] s t)) ∧
    (hz.toNat = 0 → Gives (.vhpRtcmOut h hz msm7) s (fun t => t.gns = { s.gns with rtcmOut := none } ∧ (t.vs i).rtcm = false ∧
      (t.vs i).outst = (s.vs i).outst ∧ OnlyParts [.regs, .gns, .vhp] s t)) ∧
    (hz.toNat ∉ [0, 1, 5, 10, 20] → VhpRuns s h i (.vhpRtcmOut h hz msm7) 0x31 0 0 (fun t => vhpReply t i h.tag.toNat 0x31 Code.badArgument [])) := by
  have hexec : ∀ t, vhpTake s h 0x31 (some 0) = (t, some i) → exec (.vhpRtcmOut h hz msm7) s =
      if hz.toNat = 0 then .next (vhpReply (rtcmSet t i false none) i h.tag.toNat 0x31 Code.ok [])
      else if [1, 5, 10, 20].contains hz.toNat then
        .next (vhpReply (rtcmSet t i true (some (i, hz.toNat, b2n msm7))) i h.tag.toNat 0x31 Code.ok [])
      else .next (vhpReply t i h.tag.toNat 0x31 Code.badArgument []) := fun t htake => by
    show execVhpRtcmOut h hz msm7 s = _
    rw [execVhpRtcmOut]
    simp only [htake]
    rfl
  have htake : vhpTake s h 0x31 (some 0) = (vhpTaken s h i 0x31 0, some i) := vhpTake_taken hc ht (Nat.zero_le _)
  obtain ⟨-, -, -, -, -, -, -, hnew, -⟩ := id ht
  refine ⟨fun hin => ?_, fun hzero => ?_, fun hout => .of_taken hc ht fun t e _ => ?_⟩
  · have hne : hz.toNat ≠ 0 := fun e => by simp [e] at hin
    exact ⟨_, by rw [hexec _ htake, if_neg hne, if_pos (List.contains_iff_mem.mpr hin)], rtcmSet_answered hc hnew true _⟩
  · obtain ⟨hgns, hoff, houtst, -, hparts⟩ := rtcmSet_answered (h := h) hc hnew false none
    exact ⟨_, by rw [hexec _ htake, if_pos hzero], hgns, hoff, houtst, hparts⟩
  · obtain ⟨hne, hnone⟩ : hz.toNat ≠ 0 ∧ hz.toNat ∉ [1, 5, 10, 20] := by simpa only [List.mem_cons, not_or] using hout
    rw [hexec t e, if_neg hne, if_neg fun hin => hnone (List.contains_iff_mem.mp hin)]

end

end Sys2Proof.Machine
end

section
/-! PROOF. Application resets, the watchdog, and the host protocol together (R62, R64, R398–R402). -/

namespace Sys2Proof.Machine

/-! ### The mailboxes under an application reset (R375) -/

/-- From `s` to `t` only registers of the mailboxes' window and the timeouts of messages change. -/
structure MbxKept (s t : State) : Prop where
  reg : ∀ a, a / 0x10000 ≠ 0x4004 → t.reg a = s.reg a
  parts : OnlyParts [.regs, .dma] s t

section
variable {s t u : State} {e : Nat}

theorem MbxKept.refl (s : State) : MbxKept s s := ⟨fun _ _ => rfl, .refl _ s⟩

protected theorem OnlyParts.setDma {l : List Part} {x : DmaState} (h : OnlyParts l s t) (hl : Part.dma ∈ l := by simp) : OnlyParts l s (t.setDma x) := by
  refine h.trans fun p hp => ?_
  cases p
  case dma => exact absurd hl hp
  all_goals rfl

protected theorem MbxKept.setReg {b : Nat} {w : Word} (h : MbxKept s t) (hb : b / 0x10000 = 0x4004) : MbxKept s (t.setReg b w) :=
  ⟨fun a ha => (reg_setReg_other t b a w fun e => ha (e ▸ hb)).trans (h.reg a ha), h.parts.setReg⟩

protected theorem MbxKept.setFld {f : Fld} {v : Nat} (h : MbxKept s t) (hf : f.addr / 0x10000 = 0x4004) : MbxKept s (t.setFld f v) := h.setReg hf

protected theorem MbxKept.setFlag {f : Fld} {b : Bool} (h : MbxKept s t) (hf : f.addr / 0x10000 = 0x4004) : MbxKept s (t.setFlag f b) := h.setReg hf

protected theorem MbxKept.setDma {x : DmaState} (h : MbxKept s t) : MbxKept s (t.setDma x) := ⟨h.reg, h.parts.setDma⟩

protected theorem MbxKept.ite {c : Prop} {inst : Decidable c} (ht : MbxKept s t) (hu : MbxKept s u) : MbxKept s (if c then t else u) := by
  split
  · exact ht
  · exact hu

protected theorem MbxKept.epSet {v : Nat} (h : MbxKept s t) (he : e < 64) : MbxKept s (epSet t e v) := by
  have hmap : (0x4004C000 + 0x4 * (e / 32)) / 0x10000 = 0x4004 := by omega
  exact (h.setFld (f := Fd.MBX_EP_STAT_STATE e) (mbxRow_window he (o := 8) (by decide))).setReg hmap

protected theorem MbxKept.endSend {code : Nat} (h : MbxKept s t) (he : e < 64) : MbxKept s (endSend t e code) := by
  have hcode : codeTable.idxOf code ≤ codeTable.length := List.idxOf_le_length
  have hcnt : (0x4004C010 + 0x4 * codeTable.idxOf code) / 0x10000 = 0x4004 := by
    have hlen : codeTable.length < 100 := by decide
    omega
  have hstat : (0x40040000 + 0x10 + 0x20 * e) / 0x10000 = 0x4004 := mbxRow_window he (by decide)
  exact ((h.setFld (f := Fd.MBX_EP_SEND_STAT_CODE e) hstat).setFlag (f := Fd.MBX_EP_SEND_STAT_PENDING e) hstat).setDma.setReg hcnt

protected theorem MbxKept.rxReset (h : MbxKept s t) (he : e < 64) : MbxKept s (rxReset t e) := by
  have hstat : (0x40040000 + 0x8 + 0x20 * e) / 0x10000 = 0x4004 := mbxRow_window he (by decide)
  have hack : (0x40040000 + 0x18 + 0x20 * e) / 0x10000 = 0x4004 := mbxRow_window he (by decide)
  have hfree : MbxKept s (if t.fld (Fd.MBX_EP_STAT_STATE e) = epFree then t else epSet (mbxAbort t e) e epEmpty) :=
    .ite h (.epSet (.ite (h.endSend he) h) he)
  have hwords : MbxKept s ((if t.fld (Fd.MBX_EP_STAT_STATE e) = epFree then t else epSet (mbxAbort t e) e epEmpty).forN 16
      (fun s k => s.setReg (Ra.MBX_PAYLOAD e k) 0)) := by
    refine forN_induct (P := fun _ u => MbxKept s u) hfree fun k u hk hu => hu.setReg ?_
    show (0x40048000 + 0x40 * e + 0x4 * k) / 0x10000 = 0x4004
    omega
  exact ((hwords.setFlag (f := Fd.MBX_EP_STAT_TOUT e) hstat).setFlag (f := Fd.MBX_EP_STAT_GONE e) hstat).setFld (f := Fd.MBX_EP_ACK_RES_CODE e) hack

protected theorem MbxKept.txReset (h : MbxKept s t) (he : e < 64) : MbxKept s (txReset t e) := by
  have hstat : (0x40040000 + 0x8 + 0x20 * e) / 0x10000 = 0x4004 := mbxRow_window he (by decide)
  have hsend : (0x40040000 + 0x10 + 0x20 * e) / 0x10000 = 0x4004 := mbxRow_window he (by decide)
  have hgone : MbxKept s (if t.fld (Fd.MBX_EP_STAT_STATE e) = epFull then t.setFlag (Fd.MBX_EP_STAT_GONE e) true else t) :=
    .ite (h.setFlag (f := Fd.MBX_EP_STAT_GONE e) hstat) h
  exact hgone.setDma.setReg hsend

theorem mbxAppReset_kept (s : State) : MbxKept s (mbxAppReset s) :=
  forN_induct (P := fun _ t => MbxKept s t) (.refl s) fun _ _ he ht => .ite (ht.rxReset he) (.ite (ht.txReset he) ht)

/-! ### The sessions under an application reset (R64) -/

/-- The sessions below `j` have ended. -/
structure SessEnded (j : Nat) (s t : State) : Prop where
  ended : ∀ m, m < j → t.vs m = {} ∧ t.reg (Ra.VHP_SESS_STAT m) = 0
  reg : ∀ a, a / 0x10000 ≠ 0x4090 → t.reg a = s.reg a
  parts : OnlyParts [.regs, .gns, .vhp] s t
  canonical : t.canonical

theorem sessEnded_all (hc : s.canonical) : SessEnded 4 s (s.forN 4 vhpEnd) := by
  refine forN_induct (P := fun j t => SessEnded j s t) ⟨fun m hm => absurd hm (Nat.not_lt_zero m), fun _ _ => rfl, .refl _ s, hc⟩ fun j t hj ht => ?_
  have hend := vhpEnd_at ht.canonical j
  refine ⟨fun m hm => ?_, fun a ha => ?_, ht.parts.trans hend.parts, ?_⟩
  · by_cases hmj : m = j
    · subst hmj
      exact ⟨hend.vs, vhpEnd_clears ht.canonical m⟩
    · obtain ⟨hvs, hreg⟩ := ht.ended m (by omega)
      have hne : Ra.VHP_SESS_STAT m ∉ [Ra.VHP_SESS_STAT j] := by
        rw [List.mem_singleton]
        show 0x40900400 + 0x4 * m ≠ 0x40900400 + 0x4 * j
        omega
      exact ⟨(hend.other m hmj).trans hvs, (hend.regs _ hne).trans hreg⟩
  · have hne : a ∉ [Ra.VHP_SESS_STAT j] := by
      rw [List.mem_singleton]
      rintro rfl
      exact ha (show (0x40900400 + 0x4 * j) / 0x10000 = 0x4090 by omega)
    exact (hend.regs a hne).trans (ht.reg a ha)
  · exact (canonical_iff_canon _).mpr ((Keeps.refl t).vhpEnd.canon ((canonical_iff_canon t).mp ht.canonical))

/-! ### Application resets (R62, R64) -/

protected theorem OnlyParts.fleetReply {k : FKept} {code : Nat} {rsp : List Byte} {l : List Part} (h : OnlyParts l s t) (hl : Part.flr ∈ l := by simp) :
    OnlyParts l s (fleetReply t k code rsp) := (h.setFlr hl).setFlr hl

theorem fleetAppReset_onlyParts (s : State) : OnlyParts [.flr] s (fleetAppReset s) :=
  OnlyParts.setFlr (.foldl (.refl _ s) (fun _ _ h => h.fleetReply) _)

/-- The complex is in reset, and its cause shows. -/
def appHeld (s : State) (cause : Fld) : State :=
  let u := s.setFlag cause true
  u.setPm { u.pm with appReset := true, wdogCyc := u.cyc }

theorem appReset_taken {cause : Fld} (hpow : s.powered = true) (hstep : 8 ≤ s.bootStep) (hpf : s.noPf = true) :
    appReset s cause = fleetAppReset ((mbxAppReset (appHeld s cause)).forN 4 vhpEnd) := if_pos (by simp [hpow, hstep, hpf])

theorem appReset_idle {cause : Fld} (h : s.powered = false ∨ s.bootStep < 8 ∨ s.noPf = false) : appReset s cause = s := by
  refine if_neg ?_
  simp only [Bool.and_eq_true, decide_eq_true_eq]
  rintro ⟨⟨hpow, hstep⟩, hpf⟩
  obtain h | h | h := h
  · exact Bool.noConfusion (h.symm.trans hpow)
  · omega
  · exact Bool.noConfusion (h.symm.trans hpf)

/-- A cause's bit of PWR_RST_CAUSE. -/
abbrev Fld.isCause (f : Fld) : Prop := f.addr = Ra.PWR_RST_CAUSE ∧ f.lo + f.width ≤ 32 ∧ f.width = 1

theorem appReset_resets (hc : s.canonical) {cause : Fld} (hcause : cause.isCause) :
    let t := fleetAppReset ((mbxAppReset (appHeld s cause)).forN 4 vhpEnd)
    t.flag cause = true ∧ t.pm = { s.pm with appReset := true, wdogCyc := s.cyc } ∧
      (∀ j, j < 4 → t.vs j = {} ∧ t.fld (Fd.VHP_SESS_STAT_STATE j) = 0) ∧ t.mode = s.mode ∧ OnlyParts [.regs, .gns, .flr, .dma, .vhp, .pm] s t := by
  obtain ⟨haddr, hlo, hone⟩ := hcause
  have hheld : OnlyParts [.regs, .pm] s (appHeld s cause) := (OnlyParts.refl _ s).setFlag.setPm
  have hmbx := mbxAppReset_kept (appHeld s cause)
  have hcanon : (mbxAppReset (appHeld s cause)).canonical :=
    (canonical_iff_canon _).mpr ((Keeps.refl s).setFlag.setPm.mbxAppReset.canon ((canonical_iff_canon s).mp hc))
  have hsess := sessEnded_all hcanon
  generalize mbxAppReset (appHeld s cause) = u at hmbx hsess
  generalize u.forN 4 vhpEnd = v at hsess
  have hfleet := fleetAppReset_onlyParts v
  generalize fleetAppReset v = t at hfleet
  have hregs : ∀ a, t.reg a = v.reg a := fun a => congrArg (smGet (resetVal a) · a) (hfleet .regs (by simp))
  have hkept : ∀ a, a / 0x10000 ≠ 0x4090 → a / 0x10000 ≠ 0x4004 → t.reg a = (appHeld s cause).reg a := fun a hv hm =>
    (hregs a).trans ((hsess.reg a hv).trans (hmbx.reg a hm))
  have hparts : OnlyParts [.regs, .gns, .flr, .dma, .vhp, .pm] s t :=
    OnlyParts.trans (hheld.mono (by simp)) (OnlyParts.trans (hmbx.parts.mono (by simp)) (OnlyParts.trans (hsess.parts.mono (by simp)) (hfleet.mono (by simp))))
  refine ⟨?_, ?_, fun j hj => ?_, ?_, hparts⟩
  · have hset : (appHeld s cause).flag cause = true := flag_setFlag_same s true hc.regs_wf ⟨hlo, hone⟩
    rw [State.flag, State.fld, hkept cause.addr (by rw [haddr]; decide) (by rw [haddr]; decide)]
    exact hset
  · exact ((hfleet .pm (by simp)).trans (hsess.parts .pm (by simp))).trans (hmbx.parts .pm (by simp))
  · obtain ⟨hvs, hreg⟩ := hsess.ended j hj
    refine ⟨?_, ?_⟩
    · exact (congrArg (fun x : VhpState => smGet ({} : VhpSess) x.sess j) (hfleet .vhp (by simp))).trans hvs
    · rw [State.fld, hregs]
      show bits (v.reg (Ra.VHP_SESS_STAT j)).toNat 30 2 = 0
      rw [hreg]
      rfl
  · have hmode : (appHeld s cause).reg Ra.SYS_MODE_STAT = s.reg Ra.SYS_MODE_STAT := reg_setReg_other s _ _ _ (by rw [haddr]; decide)
    exact congrArg (fun w : Word => bits w.toNat Fd.SYS_MODE_STAT_MODE.lo Fd.SYS_MODE_STAT_MODE.width)
      ((hkept Ra.SYS_MODE_STAT (by decide) (by decide)).trans hmode)

theorem exec_appReset (s : State) : exec .appReset s = .next (appReset s Fd.PWR_RST_CAUSE_APP_REQ) := rfl

theorem exec_appWatchdogExpiry (s : State) : exec .appWatchdogExpiry s =
    if !s.pm.appReset && s.since s.pm.wdogCyc (wdogCycles s) then .next (appReset s Fd.PWR_RST_CAUSE_APP_WDOG) else .next s := rfl

/-! ### The watchdog (R64) -/

theorem regRow_appWdog : ∃ r, regRow Ra.PWR_APP_WDOG = some r ∧ bits r.w1c 0 14 = 0 := by decide +kernel

/-- A write of REFRESH leaves TIMEOUT. -/
theorem wdogRefresh_timeout (hw : RegStore.wf s.regs = true) :
    (plainWrite s Ra.PWR_APP_WDOG (s.reg Ra.PWR_APP_WDOG ||| 0x80000000#32)).fld Fd.PWR_APP_WDOG_TIMEOUT = s.fld Fd.PWR_APP_WDOG_TIMEOUT := by
  obtain ⟨r, hr, hclear⟩ := regRow_appWdog
  refine Nat.eq_of_testBit_eq fun k => ?_
  show (bits _ 0 14).testBit k = (bits _ 0 14).testBit k
  rw [testBit_bits, testBit_bits]
  by_cases hk : k < 14
  · have hset : bit (s.reg Ra.PWR_APP_WDOG ||| 0x80000000#32).toNat k = bit (s.reg Ra.PWR_APP_WDOG).toNat k := by
      have hhigh : Nat.testBit 0x80000000 k = false := Nat.testBit_two_pow_of_ne (n := 31) (by omega)
      rw [bit_eq_testBit, bit_eq_testBit, BitVec.toNat_or, Nat.testBit_or]
      exact (congrArg (_ || ·) hhigh).trans (Bool.or_false _)
    have hkeep : bit r.w1c k = false := by
      have hbit : (bits r.w1c 0 14).testBit k = false := by rw [hclear, Nat.zero_testBit]
      rw [testBit_bits, decide_eq_true hk, Bool.true_and, Nat.zero_add] at hbit
      rw [bit_eq_testBit]
      exact hbit
    have hbit := bit_plainWrite (v := s.reg Ra.PWR_APP_WDOG ||| 0x80000000#32) hr hw (i := k) (by omega) fun h => absurd h.1 (by decide)
    rw [hset, hkeep, Bool.false_and, if_neg Bool.false_ne_true, ite_self, bit_eq_testBit, bit_eq_testBit] at hbit
    simp only [Nat.zero_add, hk, decide_true, Bool.true_and]
    exact hbit
  · simp only [hk, decide_false, Bool.false_and]

theorem watchdogRefresh_settled (hc : s.canonical) : Gives .watchdogRefresh s (fun t => t.pm = { s.pm with wdogCyc := s.cyc, appReset := false } ∧
    t.fld Fd.PWR_APP_WDOG_TIMEOUT = s.fld Fd.PWR_APP_WDOG_TIMEOUT ∧ OnlyRegs [Ra.PWR_APP_WDOG] s t ∧ OnlyParts [.regs, .pm] s t) := by
  have hbit : bit (s.reg Ra.PWR_APP_WDOG ||| 0x80000000#32).toNat 31 = true := by
    rw [bit_eq_testBit, BitVec.toNat_or, Nat.testBit_or]
    exact Bool.or_true _
  have hwrite := plainWrite_onlyParts s Ra.PWR_APP_WDOG (s.reg Ra.PWR_APP_WDOG ||| 0x80000000#32)
  have hpm : (plainWrite s Ra.PWR_APP_WDOG (s.reg Ra.PWR_APP_WDOG ||| 0x80000000#32)).pm = s.pm := hwrite .pm (by simp)
  have hcyc : (plainWrite s Ra.PWR_APP_WDOG (s.reg Ra.PWR_APP_WDOG ||| 0x80000000#32)).cyc = s.cyc := congrArg ClkState.cyc (hwrite .clk (by simp))
  refine ⟨_, congrArg Host.Outcome.next (if_pos hbit), ?_, wdogRefresh_timeout hc.regs_wf, (plainWrite_onlyRegs _ _ _).of_regs rfl,
    (hwrite.mono (by simp)).setPm⟩
  rw [hpm, hcyc]
  rfl

theorem appReset_settled (s : State) (hc : s.canonical) :
    let resets := fun (c : Instr) (cause : Fld) => Gives c s (fun t => t.flag cause = true ∧ t.pm = { s.pm with appReset := true, wdogCyc := s.cyc } ∧
      (∀ j, j < 4 → t.vs j = {} ∧ t.fld (Fd.VHP_SESS_STAT_STATE j) = 0) ∧ t.mode = s.mode ∧
      OnlyParts [.regs, .gns, .flr, .dma, .vhp, .pm] s t)
    (s.powered = true → 8 ≤ s.bootStep → s.noPf = true → resets .appReset Fd.PWR_RST_CAUSE_APP_REQ ∧
      (s.pm.appReset = false → s.since s.pm.wdogCyc (wdogCycles s) = true → resets .appWatchdogExpiry Fd.PWR_RST_CAUSE_APP_WDOG)) ∧
    (s.powered = false ∨ s.bootStep < 8 ∨ s.noPf = false → Idle .appReset s ∧ Idle .appWatchdogExpiry s) ∧
    (s.pm.appReset = true ∨ s.since s.pm.wdogCyc (wdogCycles s) = false → Idle .appWatchdogExpiry s) ∧
    Gives .watchdogRefresh s (fun t => t.pm = { s.pm with wdogCyc := s.cyc, appReset := false } ∧
      t.fld Fd.PWR_APP_WDOG_TIMEOUT = s.fld Fd.PWR_APP_WDOG_TIMEOUT ∧ OnlyRegs [Ra.PWR_APP_WDOG] s t ∧ OnlyParts [.regs, .pm] s t) := by
  refine ⟨fun hpow hstep hpf => ⟨?_, fun hrun hdue => ?_⟩, fun h => ⟨?_, ?_⟩, fun h => ?_, watchdogRefresh_settled hc⟩
  · exact ⟨_, (exec_appReset s).trans (congrArg _ (appReset_taken hpow hstep hpf)), appReset_resets hc (by decide)⟩
  · refine ⟨_, ?_, appReset_resets hc (cause := Fd.PWR_RST_CAUSE_APP_WDOG) (by decide)⟩
    rw [exec_appWatchdogExpiry, hrun, hdue, appReset_taken hpow hstep hpf]
    rfl
  · exact (exec_appReset s).trans (congrArg _ (appReset_idle h))
  · rw [Idle, exec_appWatchdogExpiry, appReset_idle h, ite_self]
  · refine (exec_appWatchdogExpiry s).trans (if_neg ?_)
    obtain h | h := h
    · simp [h]
    · simp [h]

end

/-- Settles O54: sessions, requests by kind, timeouts and application resets. -/
theorem hostProtocol : Obligations.HostProtocol := by
  unfold Obligations.HostProtocol
  refine ⟨vhpHello_opens, vhpHello_full, sessions_idle, vhpOpen_settled, vhpSessionIdle_settled, vhpEnd_settled, vhpTake_settled, vhpReply_settled,
    fun h i s hc ht => ?_, fun i s hc _ => vhpTransactionTimeout_settled i s hc, appReset_settled⟩
  obtain ⟨hfull, happ⟩ := vhpReset_runs hc ht
  exact ⟨vhpClose_runs hc ht, vhpKeepalive_runs hc ht, vhpRegRead_runs hc ht, vhpRegWrite_runs hc ht, vhpLogRead_runs hc ht, vhpMsg_runs hc ht,
    vhpModeReq_runs hc ht, hfull, happ, vhpRtcmIn_runs hc ht, vhpRtcmOut_settled hc ht, vhpUpdBlock_runs hc ht, vhpUpdState_runs hc ht,
    vhpTaskExport_runs hc ht, vhpTabRead_runs hc ht, vhpFwd_runs hc ht⟩

end Sys2Proof.Machine
end
